-- ==== Sys2Proof/Word.lean ====
section
/-! DEFINITION. The word types of the ZN9216 (R8, R9, R27, R130, R216): plain bit vectors, bit 0 the least
significant. -/

namespace Sys2Proof

/-- A register (R9). -/
abbrev Word := BitVec 32

/-- A byte of a structure in memory (R8). -/
abbrev Byte := BitVec 8

/-- A NoC address (R27). -/
abbrev Addr := BitVec 56

/-- Timing Hub time in units of 1/65,536 ns (R130). -/
abbrev Time := BitVec 80

/-- A 512-byte configuration frame: data bits [3839:0], check word k at [3840 + 32k + 31 : 3840 + 32k] (R216). -/
abbrev Frame := BitVec 4096

/-- One 64-byte line (R288, R294, R326). -/
abbrev Line := BitVec 512

end Sys2Proof
end

