-- ==== Sys2Proof/Syntax.lean ====
section
/-! DEFINITION. The commands of the ZN9216: one constructor of Instr per row of the table of operations and events,
with the operands the rules give the row. A register write that has a row of its own carries the 32-bit value
written; an event that the card, the fabric design, the host or the DRAM causes carries what they present. -/

namespace Sys2Proof

/-! ### Who and what a command names -/

/-- Who sends a register write (R343, R523). -/
inductive Sender where
  | host | firmware (core : Fin 8) | towpath | quay (q : Fin 120) | image
deriving DecidableEq, Repr

/-- The block instances that implement blk_reset (R559). -/
inductive ResetBlock where
  | scb | th | dmc (n : Fin 8) | mpe (n : Fin 8) | se | xcv (q : Fin 12) | pair
deriving DecidableEq, Repr

/-- A block or deep memory of a region, by its instance number (R74). -/
structure MemRef where
  deep   : Bool
  region : Fin 240
  inst   : Fin 72
deriving DecidableEq, Repr

/-- The read-during-write modes of a memory port (R78). -/
inductive RdwMode where
  | showNew | showOld | keep
deriving DecidableEq, Repr

/-- The width of a memory port (R76). -/
inductive PortWidth where
  | w1 | w2 | w4 | w8 | w16 | w32 | w64 | w9 | w18 | w36 | w72
deriving DecidableEq, Repr

/-- What the image sets for a memory port (R75, R76, R78). -/
structure PortCfg where
  ecc    : Bool
  width  : PortWidth
  rdw    : RdwMode
  outReg : Bool
deriving DecidableEq, Repr

/-- What the other port does to the same 64-bit word at the same edge or within the window (R79). -/
inductive Collision where
  | none | commonRead | commonWrite | indepRead | indepWrite
deriving DecidableEq, Repr

/-- The pins of a memory port at one active edge with EN at 1 (R77). -/
structure PortPins where
  addr  : BitVec 15
  we    : BitVec 8
  din   : BitVec 72
  oren  : Bool
  orclr : Bool
  other : Collision
deriving DecidableEq, Repr

/-- A leaky bucket (R89): of a region's block or deep memories, or of one of the ten system SRAMs
(0 context memory, 1 to 8 the counter caches, 9 the L2). -/
inductive Bucket where
  | bm (region : Fin 240) | dm (region : Fin 240) | sram (i : Fin 10)
deriving DecidableEq, Repr

/-- A remap entry (R91, R99). -/
inductive RemapRef where
  | bm (region : Fin 240) (e : Fin 24) | dm (region : Fin 240) (e : Fin 24) | sram (i : Fin 10) (e : Fin 16)
deriving DecidableEq, Repr

/-- An arithmetic slice by its instance number within its region (R101). -/
structure SliceRef where
  region : Fin 240
  inst   : Fin 192
deriving DecidableEq, Repr

/-- The functions of a slice (R104, R112, R116). -/
inductive SliceMode where
  | one27 | two18 | four9 (unsigned : Bool) | complexRe | complexIm
  | fp32 | fp16 | bf16 | dotFp16 | dotBf16
deriving DecidableEq, Repr

/-- The rounding modes of the output stage (R110). -/
inductive RoundMode where
  | trunc | halfUp | halfEven
deriving DecidableEq, Repr

/-- The block-floating-point parameters of a chain (R118). -/
structure BfpCfg where
  m     : Fin 28
  g     : Fin 4
  f     : Fin 27
  norm  : Bool
  first : Bool
  last  : Bool
deriving DecidableEq, Repr

/-- What the image sets for a slice (R128): the spec gives no bit layout, so the command carries it. -/
structure SliceCfg where
  mode      : SliceMode
  preSat    : Bool
  s1        : Bool
  s2        : Bool
  s3        : Bool
  s4        : Bool
  s5        : Bool
  shift     : Fin 49
  round     : RoundMode
  satw      : Fin 65
  matchK    : Bool
  matchV    : BitVec 64
  ignore    : BitVec 64
  autoClear : Bool
  ftz       : Bool
  satOvf    : Bool
  bfp       : Option BfpCfg
  hard      : Bool
deriving DecidableEq, Repr

/-- One operand set of a slice (R102, R123). -/
structure SliceOps where
  u   : BitVec 27
  v   : BitVec 27
  w   : BitVec 27
  k   : BitVec 64
  op  : BitVec 4
  pre : BitVec 2
deriving DecidableEq, Repr

/-- The pins of a slice at an edge (R102): even and odd sets (R123), the partner's operands of a complex pair beside
each (R116), and the block markers and values (R119). fclk says that an FCLK edge falls on this HCLK edge (R124). -/
structure SlicePins where
  even   : SliceOps
  odd    : SliceOps
  pu     : BitVec 27
  pv     : BitVec 27
  puOdd  : BitVec 27
  pvOdd  : BitVec 27
  eni    : Bool
  enp    : Bool
  ena    : Bool
  cli    : Bool
  clp    : Bool
  cla    : Bool
  csi    : BitVec 64
  expIn  : BitVec 8
  hrIn   : BitVec 5
  bstart : Bool
  blast  : Bool
  fclk   : Bool
deriving DecidableEq, Repr

/-- The use of a LUT (R37, R38, R54, R59, R60). `deepRam` gives the number of address bits above the LUT's six: 1 for
128 words, 2 for 256, 3 for 512. -/
inductive LutMode where
  | whole | fractured | ram64 | ram32x2 | deepRam (above : Fin 4) | shift (cascade : Bool)
deriving DecidableEq, Repr

/-- The D input of flip-flop A (R41). -/
inductive FaSrc where
  | lf | sum | wide | xa
deriving DecidableEq, Repr

/-- The D input of flip-flop B (R41). -/
inductive FbSrc where
  | lh | co | xb
deriving DecidableEq, Repr

/-- The options of one flip-flop (R42). -/
structure FfOpt where
  fval    : Bool
  obeysFs : Bool
  obeysEn : Bool
deriving DecidableEq, Repr

/-- What the image sets for one position of a logic block (R37 to R47). -/
structure PosCfg where
  lut    : LutMode
  genXa  : Bool
  faSrc  : FaSrc
  fbSrc  : FbSrc
  fa     : FfOpt
  fb     : FfOpt
deriving DecidableEq, Repr

/-- What the image sets for one half of a logic block (R43, R44, R46). -/
structure HalfCfg where
  ck1     : Bool
  falling : Bool
  latch   : Bool
  async   : Bool
deriving DecidableEq, Repr

/-- A carry-in source (R48, R49). -/
inductive CarrySrc where
  | chain | zero | one | xa
deriving DecidableEq, Repr

/-- What the image sets for a logic block (R46 to R49, R53). `split` is the carry-in of position 4 in split mode. -/
structure LbCfg where
  pos        : Vector PosCfg 8
  low        : HalfCfg
  high       : HalfCfg
  cin        : CarrySrc
  split      : Option CarrySrc
  ramFalling : Bool
deriving DecidableEq, Repr

/-- The routed pins of a logic block at an edge (R36): the clock line and edge, and every input. -/
structure LbPins where
  ck1    : Bool
  rising : Bool
  i      : Vector (BitVec 6) 8
  xa     : BitVec 8
  xb     : BitVec 8
  en     : BitVec 4
  fs     : BitVec 2
  cyi    : Bool
deriving DecidableEq, Repr

/-- What an active edge in the fabric reaches (R53, R69): a logic block, or the lateral registers of one column, one
direction and one end. -/
inductive LogicTarget where
  | block (col : Fin 1164) (row : Fin 1200) (cfg : LbCfg) (pins : LbPins)
  | laterals (col : Fin 1164) (north : Bool) (capture : Bool) (en : Bool) (used : BitVec 18) (d : BitVec 18)
deriving DecidableEq, Repr

/-- The clock sources that a monitor watches (R179). -/
inductive ClkSrc where
  | osc | xtal | ref | root | thpll
deriving DecidableEq, Repr

/-- What a 1 ms monitor gate saw (R179, R180): whether each pair of sources agreed within the window, and which
sources showed an edge throughout. -/
structure GateSeen where
  oscXtal  : Bool
  oscRef   : Bool
  xtalRef  : Bool
  present  : BitVec 5
deriving DecidableEq, Repr

/-- The result of an idle check (R163). -/
inductive IdleResult where
  | normal | reversed | inconclusive
deriving DecidableEq, Repr

/-- The initiator ports of the NoC (R283, R310). -/
inductive IniPort where
  | quay (q : Fin 120) | cfg | scb | ccA | ccB | pciA | pciB | seA | seB | ts | pair | twp
deriving DecidableEq, Repr

/-- The request opcodes of an initiator (R289, R294). -/
inductive ReqOp where
  | rd | wrn | wrp | mrd | mwr
deriving DecidableEq, Repr

/-- A request as an initiator presents it (R288, R290, R294). `be` and `data` cover the 256-byte block. -/
structure NocReq where
  op   : ReqOp
  addr : Addr
  len  : BitVec 8
  cls  : BitVec 2
  key  : BitVec 6
  tag  : BitVec 12
  be   : BitVec 256
  data : List Line
deriving DecidableEq, Repr

/-- What a core was doing when the L2 word that it needs reads uncorrectable (R94). -/
inductive CoreAccess where
  | fetch | load | store
deriving DecidableEq, Repr

/-- A packet on the network (R288). `data` holds the data flits with their sideband check words (R289). -/
structure Packet where
  opcode : BitVec 4
  vc     : BitVec 2
  cls    : BitVec 2
  dest   : BitVec 10
  src    : BitVec 10
  tag    : BitVec 12
  key    : BitVec 6
  len    : BitVec 8
  seq    : BitVec 8
  hops   : BitVec 5
  status : BitVec 4
  synth  : Bool
  addr   : Addr
  be     : BitVec 256
  info   : Word
  hcrc   : BitVec 16
  data   : List (Line × Word)
deriving DecidableEq, Repr

/-- A PCI Express function (R369): PF0, PF1 or VF 1 to 64 of a PF (vf 0 is the PF itself). -/
structure Fn where
  pf : Bool
  vf : Fin 65
deriving DecidableEq, Repr

/-- A host configuration write that changes reachability (R374), and the width of what it writes. -/
inductive CfgWrite where
  | dState (d3hot : Bool) | bme (on : Bool) | msixEnable (on : Bool) | functionMask (on : Bool)
  | pmeEnable (on : Bool) | vfEnable (on : Bool) | vectorMask (vector : BitVec 11) (on : Bool)
deriving DecidableEq, Repr

/-- A stream descriptor as fetched (R380). -/
structure Desc where
  src    : BitVec 64
  dst    : BitVec 64
  len    : Word
  flags  : Word
  cookie : BitVec 64
deriving DecidableEq, Repr

/-- A fault-log entry as a block hands it over (R474): the class, block, instance, code and information words. -/
structure FaultRec where
  cls   : BitVec 2
  block : BitVec 8
  inst  : BitVec 16
  code  : BitVec 16
  info0 : BitVec 64
  info1 : BitVec 64
deriving DecidableEq, Repr

/-- A completion record as the primary mirrors it (R382, R458): its ring position, status, detail, byte count, cookie and
phase, and whether its descriptor asked for no interrupt. -/
structure MirrorRec where
  pos    : BitVec 16
  status : BitVec 4
  detail : BitVec 4
  bytes  : Word
  cookie : BitVec 64
  phase  : Bool
  noIrq  : Bool
deriving DecidableEq, Repr

/-- A change that the primary mirrors (R458). -/
inductive Change where
  | contextWord (n : BitVec 16) (word : Fin 16) (v : Word)
  | record (n : BitVec 16) (r : MirrorRec)
  | sluice (j : Fin 4096) (count : BitVec 16) (timing : Bool)
  | memory (m : MemRef) (word : BitVec 12) (v : BitVec 72)
  | clrv (m : MemRef)
  | task (t : Fin 4096) (word : Fin 8) (v : Word)
  | hubReg (off : BitVec 26) (v : Word)
  | seqTimer (n : Fin 16) (t : Option Time)
  | outQueue (o : Fin 28) (acts : List (Time × BitVec 3 × BitVec 16))
deriving DecidableEq, Repr

/-- A heartbeat (R464). -/
structure Heartbeat where
  primary : Bool
  state   : BitVec 4
  crc     : Word
  ack     : Nat
  check   : Bool
deriving DecidableEq, Repr

/-- What the requirements of R455 read at the two devices. -/
structure PairFacts where
  linkRunning  : Bool
  partnerCode  : Word
  partnerCrc   : Word
  partnerHigh  : Bool
  fenceWired   : Bool
  fenceBackLow : Bool
deriving DecidableEq, Repr

/-- The standby's reading of the rings at takeover (R462): per mirrored context, how many records it found present. -/
structure TakeoverCtx where
  ctx     : BitVec 16
  present : Nat
deriving DecidableEq, Repr

/-- One PMBus transaction (R510): the command, whether it succeeded, and the word it read. -/
structure PmbusTx where
  cmd  : BitVec 8
  ok   : Bool
  data : BitVec 16
deriving DecidableEq, Repr

/-- The Towpath's transports (R515). -/
inductive Transport where
  | smbus | spi
deriving DecidableEq, Repr

/-- What an LTS block shows (R442): the type field as received with its sync header, and the 56 payload bits. -/
structure Lts where
  type    : BitVec 8
  swapped : Bool
  payload : BitVec 56
deriving DecidableEq, Repr

/-- A fuse field (R223). -/
inductive FuseField where
  | aesKey (n : Fin 2) | aesRevoke | pkHash (n : Fin 4) | pkRevoke | reqSig | reqEnc | svnFloor
deriving DecidableEq, Repr

/-- A power domain that PWR_DOM names (R496). -/
abbrev DomId := BitVec 12

/-! ### The commands -/

/-- One constructor per row of the table of operations and events. -/
inductive Instr where
  -- resets (R12, R29 to R32)
  | vaonInRange (pairRole : Bool) (twpAddr : BitVec 3)
  | pciePerstNAssert
  | pciePerstNRelease
  | porNAssert
  | porNRelease
  | blkReset (b : ResetBlock) (v : Word)
  | blockResetApply (b : ResetBlock)
  -- register accesses (R9 to R11, R556)
  | registerWrite (sender : Sender) (off : BitVec 26) (bytes : Fin 5) (v : Word)
  | rcRead (off : BitVec 26) (bytes : Fin 5)
  | evtClear (page : BitVec 14) (v : Word) (hwSet : Word)
  | evtForce (page : BitVec 14) (v : Word)
  | pageLockSet (page : BitVec 14) (v : Word)
  -- memories (R75 to R100)
  | memoryPortWrite (m : MemRef) (portB : Bool) (cfg : PortCfg) (pins : PortPins)
  | memoryPortRead (m : MemRef) (portB : Bool) (cfg : PortCfg) (pins : PortPins)
  | narrowWrite (m : MemRef) (portB : Bool) (cfg : PortCfg) (pins : PortPins)
  | clrv (region : Fin 240) (inst : Fin 6)
  | leakPeriod (b : Bucket)
  | rolEntryFree (b : Bucket) (e : Fin 8) (v : Word)
  | remapEntrySet (r : RemapRef) (v : Word)
  | remapEntryClear (r : RemapRef) (v : Word)
  | eccInjectArm (region : Fin 240) (v : Word)
  | bistStart (region : Fin 240) (v : Word)
  | bistComplete (region : Fin 240) (failing : List (BitVec 12))
  -- arithmetic slices (R101 to R129)
  | gbrst (sl : SliceRef) (edges : Nat)
  -- Timing Hub (R130 to R172)
  | thEnable (v : Word)
  | timeLoadGo (v : Word)
  | syncInEdge
  | acceptStep (v : Word)
  | timeRead
  | tlRoleWrite (lane : Fin 4) (v : Word)
  | layoutWrite (r : Fin 40) (v : Word)
  | tlBlockLock (lane : Fin 4)
  | tlLockLost (lane : Fin 4)
  | xtlFrameReceived (lane : Fin 4) (blocks : List (BitVec 64)) (arrival : Time)
  | tlRejectRetry (lane : Fin 4)
  | xtlFrameSend (lane : Fin 4)
  | trigMessageReceived (lane : Fin 4) (payload : BitVec 64) (swapClk : Bool)
  | xtlSend (v : Word) (swapClk : Bool)
  | calibrationAverageComplete
  | rejoinMeasureComplete
  | holdoverLimitReached
  | inputEdge (ch : Fin 24) (rising : Bool) (t : Time) (lasts : Nat)
  | stampDelivery (ch : Fin 24)
  | tdcCalTableReplace (ch : Fin 24)
  | tdcCalRestart (v : Word)
  | fabricEvent (line : Fin 16) (t : Time)
  | outputRequest (v : Word)
  | outputActionDue (o : Fin 28)
  | pulseEnd (o : Fin 28)
  | seqTableWrite (s : Fin 16) (word : Fin 4096) (v : Word)
  | sequencerEventRelease (s : Fin 16) (swapClk : Bool)
  | sequencerTimerExpiry (s : Fin 16)
  | seqRun (s : Fin 16) (v : Word) (swapClk : Bool)
  | seqHalt (s : Fin 16) (v : Word)
  | seqArm (s : Fin 16) (v : Word)
  | lineContention (line : Fin 24)
  | contentionRetry (line : Fin 24)
  | lineShort (line : Fin 16)
  | shortClear (line : Fin 16)
  | lineOpen (line : Fin 24)
  | openClear (line : Fin 24)
  | idleCheck (line : Fin 24) (v : Word)
  | idleCheckComplete (line : Fin 24) (r : IdleResult)
  | lineFaultClear (line : Fin 24) (v : Word)
  | sysrefGo (n : Fin 4) (v : Word)
  | sysrefEdge (n : Fin 4)
  | ptmDialog (dev : Time) (host : BitVec 64)
  | ptmStale
  -- clocks (R173 to R201)
  | oscReady
  | crystalReady
  | refclkReady (at100 : Bool)
  | rootPllLock
  | thPllLock
  | missingClock (src : ClkSrc)
  | monitorGate (g : GateSeen)
  | trimConverged (code : BitVec 12) (err : BitVec 16)
  | trimTrackStep (up : Bool) (move : Bool) (err : BitVec 16)
  | clkSelWrite (v : Word)
  | clkSwitchComplete (cfg : Bool)
  | rootRelockComplete (th : Bool)
  | rootLockLost
  | aonTimeRead
  | cmtApply (tile : Fin 40) (fpll : Bool) (inputKhz : Nat) (grade : Fin 3) (v : Word)
  | cmtReset (tile : Fin 40) (fpll : Bool) (v : Word)
  | cmtLock (tile : Fin 40) (fpll : Bool)
  | cmtLockLost (tile : Fin 40) (fpll : Bool) (inputMissing : Bool)
  | phaseRequest (tile : Fin 40) (fpll : Bool) (count : BitVec 7)
  | phaseMoveComplete (tile : Fin 40) (fpll : Bool)
  | trackSelect (region : Fin 240) (track : Fin 24) (second : Bool) (running : Bool)
  | trackInactive (region : Fin 240) (track : Fin 24)
  -- configuration (R202 to R238)
  | progNAssert
  | progNRelease (bootMode : BitVec 3)
  | prog (v : Word)
  | bootStart (bootMode : BitVec 3)
  | loadGo (v : Word)
  | abort (v : Word)
  | selftest (v : Word)
  | selftestComplete (pass : Bool)
  | imageHeader
  | signatureVerified (trailer : Bool)
  | bulkClearComplete
  | systemRecord
  | gcmSegment
  | setfar
  | write
  | repeatFrame
  | wreg
  | dynlist
  | nop
  | sync
  | endStream
  | trailerCheck
  | startupPllRelocked
  | cfgDataWrite (bytes : List Byte)
  | loadDataTimeout
  | sourceReadResponse (status : BitVec 4) (bytes : List Byte)
  | flashRead (v : Word)
  | flashProgram (v : Word)
  | flashErase4k (v : Word)
  | flashErase64k (v : Word)
  | flashCmdComplete (ok : Bool) (bytes : List Byte)
  -- stalls and scrubbing (R239 to R280)
  | define (s : Fin 64) (v : Word)
  | undefine (s : Fin 64) (v : Word)
  | swapNow (s : Fin 64) (v : Word) (swapClk : Bool)
  | swapAt (s : Fin 64) (v : Word) (swapClk : Bool)
  | cancel (s : Fin 64) (v : Word)
  | resetHold (s : Fin 64) (v : Word)
  | resetRelease (s : Fin 64) (v : Word)
  | clear (s : Fin 64) (v : Word)
  | clearComplete (s : Fin 64)
  | refill (s : Fin 64) (v : Word)
  | drainStart (s : Fin 64)
  | drainComplete (s : Fin 64)
  | drainTimeout (s : Fin 64)
  | swapFreeze (s : Fin 64)
  | swapFlip (s : Fin 64) (edge : Time)
  | swapRelease (s : Fin 64)
  | swapClockLost (s : Fin 64)
  | contentFrame (s : Fin 64) (addr : Word) (frame : Frame) (readOk : Bool) (tagOk : Bool)
  | contentPhaseEnd (s : Fin 64)
  | scrubSlot
  | repairReadResponse (ok : Bool) (frame : Frame)
  | refillFrame (s : Fin 64)
  -- network on chip (R281 to R312)
  | nocRequestIssue (ini : IniPort) (r : NocReq) (l2Bad : Option CoreAccess)
  | routerPacket (x : Fin 12) (y : Fin 6) (p : Packet)
  | destinationPacket (port : BitVec 10) (p : Packet)
  | sequenceGapTimeout (port : BitVec 10) (src : BitVec 10) (vc : BitVec 2)
  | nocResponse (ini : IniPort) (p : Packet)
  | initiatorTimeout (ini : IniPort) (tag : BitVec 12)
  | tagRelease (ini : IniPort) (tag : BitVec 12)
  | noticeReceived (ini : IniPort) (p : Packet)
  | fence (ini : IniPort) (tag : BitVec 12)
  | holdApply (x : Fin 12) (y : Fin 6) (v : Word)
  | holdApplied (x : Fin 12) (y : Fin 6)
  | holdTimeout (x : Fin 12) (y : Fin 6)
  | portClosed (port : BitVec 10)
  | portForceClose (port : BitVec 10)
  | fiArm (x : Fin 12) (y : Fin 6) (out : Fin 8) (v : Word)
  | fiReorderTimeout (x : Fin 12) (y : Fin 6) (out : Fin 8)
  | quayInitiatorRequest (q : Fin 120) (isFence : Bool) (r : NocReq)
  | quayTargetResponse (q : Fin 120) (tag : BitVec 8) (err : Bool) (data : List Line)
  -- DRAM controllers (R313 to R340)
  | dmcEnable (n : Fin 8) (v : Word)
  | dmcDisable (n : Fin 8) (v : Word)
  | trainingRecordRead (n : Fin 8) (ids : List Byte) (eyeOk : Bool)
  | trainingStepEnd (n : Fin 8) (pass : Bool) (density : BitVec 2) (width : BitVec 1) (answered : BitVec 2)
      (ids settings : List Byte)
  | dramRequest (n : Fin 8) (p : Packet)
  | dramCommandSlot (n : Fin 8)
  | dramReadData (n : Fin 8) (entry : Nat) (upset : List (BitVec 80))
  | agePromotion (n : Fin 8) (entry : Nat)
  | refreshInterval (n : Fin 8) (rank : Fin 2)
  | mr4Poll (n : Fin 8) (rank : Fin 2) (doubled : Bool)
  | patrolRead (n : Fin 8) (upset : List (BitVec 80))
  | ceWindowEnd (n : Fin 8)
  | ceRateWrite (n : Fin 8) (v : Word)
  | dqsTrack (n : Fin 8) (rank : Fin 2) (change : Int)
  | zqCal (n : Fin 8) (rank : Fin 2)
  | trackNow (n : Fin 8) (v : Word)
  | retrain (n : Fin 8) (v : Word)
  | retrainCancel (n : Fin 8) (v : Word)
  | patrolRestart (n : Fin 8) (v : Word)
  | retrainStart (n : Fin 8)
  | retrainComplete (n : Fin 8)
  | retrainTimeout (n : Fin 8)
  -- memory protection (R341 to R365)
  | keyLoad (n : Fin 8) (sender : Sender) (v : Word)
  | keyErase (n : Fin 8) (sender : Sender) (v : Word)
  | regionEnable (n : Fin 8) (r : Fin 8) (v : Word)
  | regionDisable (n : Fin 8) (r : Fin 8) (v : Word)
  | initGo (n : Fin 8) (r : Fin 8) (v : Word)
  | initComplete (n : Fin 8) (r : Fin 8)
  | nodeFetch (n : Fin 8) (r : Fin 8) (level : Fin 9) (index : BitVec 26) (good : Bool) (fromCache : Bool)
  | reencryptionComplete (n : Fin 8) (r : Fin 8) (group : Nat) (failed : List (Fin 64))
  -- PCI Express and streams (R366 to R398)
  | linkUp (rate : BitVec 3) (width : BitVec 5) (flit : Bool)
  | linkDown
  | inBandReset
  | flr (f : Fn)
  | flrComplete (f : Fn)
  | hostConfigWrite (f : Fn) (w : CfgWrite)
  | msixUnmask (f : Fn) (vector : BitVec 11)
  | l1Exit
  | ltrSend
  | hostRequest (f : Fn) (bar : Fin 5) (isWrite : Bool) (off : BitVec 38) (len : Fin 4097) (data : List Byte)
  | hostCompletion (id : Nat)
  | contextEnable (n : BitVec 16) (v : Word)
  | stop (n : BitVec 16) (v : Word)
  | restart (n : BitVec 16) (v : Word)
  | contextDisable (n : BitVec 16) (v : Word)
  | doorbell (n : BitVec 16) (v : Word)
  | apertureAccess (f : Fn) (off : BitVec 16) (isWrite : Bool) (bytes : Fin 9) (v : BitVec 64)
  | engineIssueSlot (portB : Bool) (upset : Option Bool)
  | descriptorFetched (n : BitVec 16) (status : BitVec 4) (d : Desc)
  | streamReadResponse (n : BitVec 16) (pos : BitVec 16) (status : BitVec 4) (bytes : List Byte)
  | streamFenceComplete (n : BitVec 16) (status : BitVec 4)
  | recordConfirmed (n : BitVec 16) (status : BitVec 4)
  | contextDrained (n : BitVec 16)
  | tollPeriod
  | sluiceTimer (j : Fin 4096)
  | sluCfgWrite (j : Fin 4096) (v : Word)
  | sluTgtWrite (j : Fin 4096) (v : Word)
  | functionReachable (f : Fn)
  -- control complex (R399 to R406)
  | coreRun (c : Fin 8) (v : Word)
  | coreStop (c : Fin 8) (v : Word)
  | fenceInstruction (c : Fin 8) (deviceOut : Bool) (status : BitVec 4)
  | fastTrap (c : Fin 8)
  | mret (c : Fin 8)
  | wfi (c : Fin 8)
  | coreWake (c : Fin 8)
  | machineTimer (c : Fin 8)
  | l2PartitionWrite (v : Word)
  | l2Maint (v : Word)
  | l2MaintComplete
  -- interrupt controller (R407 to R412)
  | sourceEdge (src : Fin 1024)
  | sourceLevel (src : Fin 1024) (asserted : Bool)
  | swi (v : Word)
  | claimNormal (c : Fin 8)
  | claimFast (c : Fin 8)
  | icComplete (c : Fin 8) (v : Word)
  | pendWrite (r : Fin 32) (v : Word) (hwSet : Word)
  -- task scheduler (R417 to R425)
  | taskStart (v : Word)
  | taskSuspend (v : Word)
  | taskDelete (v : Word)
  | taskWait (v : Word)
  | taskDelay (v : Word)
  | taskYield (v : Word)
  | taskExit (v : Word)
  | taskTableWrite (t : Fin 4096) (word : Fin 8) (v : Word)
  | taskPostWrite (t : Fin 4096) (v : Word)
  | taskPostApply
  | schedulerTick
  | tsNext (c : Fin 8)
  | slotDispatch (s : Fin 64) (dropped : Bool)
  | loadWindowEnd
  | statClear (v : Word)
  -- serial lanes (R429 to R454)
  | qpllApply (q : Fin 12) (b : Bool) (refKhz : Nat) (v : Word)
  | qpllLock (q : Fin 12) (b : Bool)
  | laneCfgWrite (lane : Fin 48) (v : Word)
  | pstateRequest (lane : Fin 48) (v : Word)
  | pstateTransitionComplete (lane : Fin 48)
  | blockLock (lane : Fin 48) (position : Fin 66)
  | lockLoss (lane : Fin 48)
  | commaAlign (lane : Fin 48) (position : Fin 10)
  | fecCodeword (lane : Fin 48) (symbolErrors : Nat)
  | elasticBufferError (lane : Fin 48)
  | gridStrobe (lane : Fin 48) (tx : Bool) (fill : Fin 65)
  | groupDefine (lane : Fin 48) (v : Word)
  | ltsBlock (lane : Fin 48) (b : Lts)
  | rateSwitch (lane : Fin 48)
  | stepRetrainTimeout (lane : Fin 48)
  | groupTrainTimeout (lane : Fin 48)
  | groupRetry (lane : Fin 48)
  | groupLockLossTimeout (lane : Fin 48)
  | txFault (lane : Fin 48)
  | txFaultRetry (lane : Fin 48)
  | receiverDetect (lane : Fin 48) (found : Bool)
  | lossOfSignal (lane : Fin 48)
  | laneFaultClear (lane : Fin 48) (v : Word)
  | laneCal (lane : Fin 48) (v : Word)
  | laneCalComplete (lane : Fin 48)
  | eyeScan (lane : Fin 48) (v : Word)
  | eyeScanComplete (lane : Fin 48) (count : BitVec 48)
  | laneFiArm (lane : Fin 48) (v : Word)
  -- redundant pairs (R455 to R471)
  | pairEnable (v : Word) (f : PairFacts)
  | pairSyncComplete
  | mirrorChange (position : Nat) (ch : Change)
  | mirrorAck (position : Nat)
  | heartbeatSend
  | heartbeatReceived (h : Heartbeat)
  | heartbeatMiss
  | takeover (v : Word)
  | fenceReadback (high : Bool)
  | takeoverSettle (ctxs : List TakeoverCtx)
  | primaryAlone
  | fenceIn (both : Bool)
  | release (v : Word) (fenceIn : Bool)
  | rejoin (v : Word)
  | resync (v : Word)
  -- fault log (R472 to R492)
  | faultEntry (e : FaultRec)
  | ringIntake
  | flushTimer
  | flushNow (v : Word)
  | flushComplete (ok : Bool)
  | pageEraseComplete (ok : Bool)
  | logEnable (v : Word)
  | logScanComplete
  | fltEntRead
  | powerFailWarning
  | powerFailClear
  -- power, thermal limits and ageing (R493 to R513)
  | supplyInRange (supply : Fin 11)
  | supplyFault (supply : Fin 11)
  | supplyRecovered
  | domainClose (d : DomId) (v : Word)
  | domainOpen (d : DomId) (v : Word)
  | domainPowerOff (d : DomId)
  | domainOpened (d : DomId)
  | sensorReading (s : Fin 24) (eighths : Int)
  | throttleUpdate
  | thermalTrip (s : Fin 24)
  | tripShutdown
  | sensorsFaultyTrip
  | ageingSweep (shifts : List (Fin 512 × Int))
  | sweep (v : Word)
  | summarySave (ok : Bool)
  | pmbusTransaction (tx : PmbusTx)
  | pmbAlert (word : BitVec 16)
  | pmbusRetry (ok : Bool)
  -- Towpath (R514 to R531)
  | winAddr (v : Word) (pec : Option Bool)
  | winWdata (v : Word) (pec : Option Bool)
  | winRdata
  | twpStat
  | id
  | spiWrite (word : BitVec 24) (data : List Word)
  | spiRead (word : BitVec 24)
  | spiStatus
  | spiId
  | windowAccessComplete (t : Transport) (status : BitVec 4) (data : Word)
  | reset (t : Transport) (v : Word)
  | reconfigure (t : Transport) (v : Word)
  | wake (t : Transport) (v : Word)
  | alertClear (t : Transport) (v : Word)
  | alertResponse
  | smbusTimeout
  | fwAlert (v : Word)
  -- JTAG (R551, R223)
  | bypass
  | idcode
  | samplePreload (boundary : List Bool)
  | extest
  | extestPulse
  | extestTrain
  | highz
  | clamp
  | cfgIn (bytes : List Byte)
  | fuseProg (f : FuseField) (data : BitVec 512)
  -- rows added at the end of the table
  | logicClockEdge (t : LogicTarget)
  | sliceClockEdge (sl : SliceRef) (cfg : SliceCfg) (pins : SlicePins)
  | tapClockEdge (region : Fin 240) (t : Time)
  | trackGateEnable (region : Fin 240) (track : Fin 24) (en : Bool)
  | thPllLockLost
  | qpllLockLost (q : Fin 12) (b : Bool)
  | signalReturn (lane : Fin 48)
  | prbsCheckerLock (lane : Fin 48) (inverted : Bool) (relock : Bool)
  | aspmL1Entry (sub : Fin 3)
  | pcieCompletionTimeout (n : BitVec 16) (pos : BitVec 16)
  | powerLoss
deriving DecidableEq, Repr

end Sys2Proof
end

