-- ==== Sys2Proof/Config.lean ====
section
/-! DEFINITION. The values that the spec leaves open, as constants without a body: nothing can be proved of them, so a
statement holds whatever they are. -/

namespace Sys2Proof.Config

/-- A value that the spec leaves undefined. The argument is a counter of State that each use advances, so each use is a
value of its own. -/
opaque free : Nat → Nat

/-- The content of an L2 byte whose way memory has just taken from the cache, which no rule states: by the number of the
change and the byte's offset (R405). -/
opaque l2Lost : Nat → Nat → Byte

/-- The INIT value of a flip-flop, whose bit in the logic frames no rule places: by the number of its restart and its
place (R42, R45). -/
opaque ffInit : Nat → Nat → Bool

/-- Whether the clock-column frames of a full image bridge a spine over the die boundary, which no rule's layout shows:
by the number of the image and the spine (R195, R242). -/
opaque spineBridged : Nat → Nat → Bool

/-- How many bytes of the mirror link a change takes, by its kind, which no rule states (R460). -/
opaque mirrorBytes : Nat → Nat

/-- The registers of a clock management tile that the frames of its edge block load (R218): no rule places their bits. By
the block's frames and the register's number: CTRL, DIV, FRAC and OUT0 to OUT6 of PLL 0, then of PLL 1. -/
opaque tileSetting : List (BitVec 4096) → Nat → BitVec 32

end Sys2Proof.Config
end

