-- ==== Sys2Proof/Machine/KMap.lean ====
section
/-! DEFINITION. Sparse storage in one canonical form: a list of numbered entries, numbers strictly rising, none equal
to what an unlisted number reads as. It holds the register space, the memories and every per-instance state. -/

namespace Sys2Proof.Machine

/-- A sparse map from numbers (addresses, instances) to values. `d` gives what an unlisted number reads as. -/
abbrev KMap (α : Type) := List (Nat × α)

/-- The value at `k`. -/
def KMap.get {α : Type} (d : Nat → α) : KMap α → Nat → α
  | [], k => d k
  | (a, v) :: m, k => if k = a then v else KMap.get d m k

/-- The map without what is listed at `k`. -/
def KMap.without {α : Type} (m : KMap α) (k : Nat) : KMap α := m.filter fun e => decide (e.1 ≠ k)

/-- Writing `v` at `k`: the entry disappears where `v` is what an unlisted `k` reads as. -/
def KMap.set {α : Type} [DecidableEq α] (d : Nat → α) : KMap α → Nat → α → KMap α
  | [], k, v => if v = d k then [] else [(k, v)]
  | (a, w) :: m, k, v =>
    if k < a then (if v = d k then KMap.without ((a, w) :: m) k else (k, v) :: (a, w) :: m)
    else if k = a then (if v = d k then KMap.without m k else (k, v) :: m)
    else (a, w) :: KMap.set d m k v

/-- Changing the value at `k`. -/
def KMap.upd {α : Type} [DecidableEq α] (d : Nat → α) (m : KMap α) (k : Nat) (f : α → α) : KMap α :=
  m.set d k (f (m.get d k))

/-- Keeping of each entry what `f` leaves, in canonical form. -/
def KMap.mapEntries {α : Type} [DecidableEq α] (d : Nat → α) (f : Nat → α → α) : KMap α → KMap α
  | [] => []
  | (a, v) :: m =>
    let w := f a v
    if w = d a then KMap.mapEntries d f m else (a, w) :: KMap.mapEntries d f m

/-- Writing consecutive values from `k` on. -/
def KMap.setMany {α : Type} [DecidableEq α] (d : Nat → α) : KMap α → Nat → List α → KMap α
  | m, _, [] => m
  | m, k, v :: vs => KMap.setMany d (m.set d k v) (k + 1) vs

/-- Reading `n` consecutive values from `k` on. -/
def KMap.getMany {α : Type} (d : Nat → α) (m : KMap α) (k : Nat) : Nat → List α
  | 0 => []
  | n + 1 => m.get d k :: KMap.getMany d m (k + 1) n

/-- Removing every entry from `a` up to but not including `b`. -/
def KMap.eraseRange {α : Type} (m : KMap α) (a b : Nat) : KMap α :=
  m.filter fun e => !(decide (a ≤ e.1) && decide (e.1 < b))

/-- The canonical form holds: numbers strictly rising from `lo`, no entry equal to the unlisted value. -/
def KMap.wfFrom {α : Type} [DecidableEq α] (d : Nat → α) : Nat → KMap α → Bool
  | _, [] => true
  | lo, (a, v) :: m => decide (lo ≤ a) && !(decide (v = d a)) && KMap.wfFrom d (a + 1) m

/-- The canonical form. -/
def KMap.wf {α : Type} [DecidableEq α] (d : Nat → α) (m : KMap α) : Bool := KMap.wfFrom d 0 m

end Sys2Proof.Machine
end

