-- ==== Sys2Proof/Machine/RegSpec.lean ====
section
/-! DEFINITION. How a register table of the spec is written down (R9, R10, R12, R555, R556), and the access rules that
a field obeys. -/

namespace Sys2Proof.Machine

/-- The access codes of R10. RSV bits are the bits of no field; `wos` is a WO field whose value the block keeps. -/
inductive Acc where
  | rw | ro | wo | wos | w1c | w1s | rc | rwl
deriving DecidableEq, Repr

/-- The narrowest reset kind that sets a field (R12). `image` is the reset of the PLL registers of R199: set at each
full configuration load and kept by a warm reset. -/
inductive RKind where
  | cold | warm | image
deriving DecidableEq, Repr

/-- What a write outside a field's range stores: below `lo` the value `loV`, above `hi` the value `hiV`. -/
structure Clamp where
  lo  : Nat
  loV : Nat
  hi  : Nat
  hiV : Nat
deriving DecidableEq, Repr

/-- The value that a clamped field stores. -/
def Clamp.apply (c : Option Clamp) (v : Nat) : Nat :=
  match c with
  | none => v
  | some c => if v < c.lo then c.loV else if c.hi < v then c.hiV else v

/-- A field of a register table. -/
structure FieldSpec where
  hi    : Nat
  lo    : Nat
  acc   : Acc
  kind  : RKind
  reset : Nat
  clamp : Option Clamp
deriving DecidableEq, Repr

/-- A register of a page, or an array of them: `outer` groups at distance `outerStep`, each of `count` registers at
distance `step`, the first at `off`. -/
structure RegSpec where
  off       : Nat
  outer     : Nat
  outerStep : Nat
  count     : Nat
  step      : Nat
  fields    : List FieldSpec
deriving DecidableEq, Repr

/-- A page of the directory of R559, or a table window of R561 (`header` false): `ini` is the number of initiator
blocks of R310, `sram` says that the registers of a system SRAM of R99 lie in the page, `blk` that it implements
blk_reset. -/
structure PageSpec where
  base   : Nat
  step   : Nat
  count  : Nat
  header : Bool
  code   : Nat
  inst0  : Nat
  kind   : RKind
  blk    : Bool
  ini    : Nat
  sram   : Bool
  regs   : List RegSpec
deriving DecidableEq, Repr

/-- A field by the place of its bits: the register's byte offset in the register space and the bits [hi:lo]. -/
structure Field where
  off : Nat
  hi  : Nat
  lo  : Nat
deriving DecidableEq, Repr

/-- Whether the register array holds the page offset `o`. -/
def RegSpec.holds (r : RegSpec) (o : Nat) : Bool :=
  if o < r.off then false else
  let rel := o - r.off
  let outerNo := if r.outer ≤ 1 then 0 else rel / r.outerStep
  let inner := if r.outer ≤ 1 then rel else rel % r.outerStep
  decide (outerNo < r.outer) && decide (inner % r.step = 0) && decide (inner / r.step < r.count)

/-- Bits [hi:lo] of a word as a number. -/
def bitsOf (w : Word) (hi lo : Nat) : Nat := (w.toNat >>> lo) % 2 ^ (hi + 1 - lo)

/-- A word with bits [hi:lo] replaced by `v`. -/
def setBits (w : Word) (hi lo v : Nat) : Word :=
  let mask : Word := BitVec.ofNat 32 ((2 ^ (hi + 1 - lo) - 1) <<< lo)
  (w &&& ~~~mask) ||| (BitVec.ofNat 32 ((v % 2 ^ (hi + 1 - lo)) <<< lo))

/-- The word that the reset values of some fields make. -/
def resetOf (fs : List FieldSpec) : Word := fs.foldl (fun w f => setBits w f.hi f.lo f.reset) 0

/-- A word whose fields of the kinds that `keep` names stand and whose others take their reset values. -/
def keepFields (fs : List FieldSpec) (keep : FieldSpec → Bool) (dflt w : Word) : Word :=
  fs.foldl (fun a f => if keep f then setBits a f.hi f.lo (bitsOf w f.hi f.lo) else a) dflt

/-- What a write of `v` over `old` stores (R10): `locked` says that RWL fields are read only, `may` which fields the
owning chapter lets software change now. W1S fields are actions with commands of their own, so a write here leaves
them. -/
def writeFields (fs : List FieldSpec) (locked : Bool) (may : FieldSpec → Bool) (old v : Word) : Word :=
  fs.foldl (fun a f =>
    if !may f then a else
    let n := Clamp.apply f.clamp (bitsOf v f.hi f.lo)
    match f.acc with
    | .rw | .wos => setBits a f.hi f.lo n
    | .rwl => if locked then a else setBits a f.hi f.lo n
    | .w1c => setBits a f.hi f.lo (bitsOf (old &&& ~~~v) f.hi f.lo)
    | .ro | .wo | .w1s | .rc => a) old

/-- What a read of a stored word returns (R10): WO fields read 0. -/
def readFields (fs : List FieldSpec) (w : Word) : Word :=
  fs.foldl (fun a f => match f.acc with
    | .wo | .wos => a
    | .rw | .ro | .w1c | .w1s | .rc | .rwl => setBits a f.hi f.lo (bitsOf w f.hi f.lo)) 0

/-- Whether the field has a bit in the `n` bytes from byte `b` of its register (R9). -/
def FieldSpec.inBytes (f : FieldSpec) (b n : Nat) : Bool := decide (f.lo < 8 * (b + n)) && decide (8 * b ≤ f.hi)

/-- What a read of bytes leaves (R9): every RC field with a bit in the bytes read clears in full. -/
def clearRead (fs : List FieldSpec) (b n : Nat) (w : Word) : Word :=
  fs.foldl (fun a f => if f.acc = .rc && f.inBytes b n then setBits a f.hi f.lo 0 else a) w

end Sys2Proof.Machine
end

