-- ==== Sys2Proof/Machine/RegNames.lean ====
section
/-! DEFINITION. Every register field of the spec under its own name, as the place of its bits in the register space
(R9, R559, R561 and the register tables of each chapter). -/

namespace Sys2Proof.Machine.Reg

/-- `DEV_IDCODE`, R560 of file 20. -/
def DEV_IDCODE.off : Nat := 0x40
def DEV_IDCODE.v : Field := ⟨DEV_IDCODE.off, 31, 0⟩

/-- `DEV_CODE`, R560 of file 20. -/
def DEV_CODE.off : Nat := 0x44
def DEV_CODE.v : Field := ⟨DEV_CODE.off, 31, 0⟩

/-- `DEV_SERIAL`, R560 of file 20. -/
def DEV_SERIAL.off (j : Nat) : Nat := 0x48 + 0x4 * j
def DEV_SERIAL.v (j : Nat) : Field := ⟨DEV_SERIAL.off j, 31, 0⟩

/-- `CLK_SRC_STAT`, R199 of file 06. -/
def CLK_SRC_STAT.off : Nat := 0x1040
def CLK_SRC_STAT.osc_ready : Field := ⟨CLK_SRC_STAT.off, 31, 31⟩
def CLK_SRC_STAT.xtal_ready : Field := ⟨CLK_SRC_STAT.off, 30, 30⟩
def CLK_SRC_STAT.ref_ready : Field := ⟨CLK_SRC_STAT.off, 29, 29⟩
def CLK_SRC_STAT.xtl_ready : Field := ⟨CLK_SRC_STAT.off, 28, 28⟩
def CLK_SRC_STAT.root_ready : Field := ⟨CLK_SRC_STAT.off, 27, 27⟩
def CLK_SRC_STAT.thpll_ready : Field := ⟨CLK_SRC_STAT.off, 26, 26⟩
def CLK_SRC_STAT.root_holdover : Field := ⟨CLK_SRC_STAT.off, 25, 25⟩
def CLK_SRC_STAT.root_faults : Field := ⟨CLK_SRC_STAT.off, 23, 22⟩
def CLK_SRC_STAT.ref_freq : Field := ⟨CLK_SRC_STAT.off, 17, 16⟩

/-- `CLK_SEL`, R199 of file 06. -/
def CLK_SEL.off : Nat := 0x1044
def CLK_SEL.auto_fallback : Field := ⟨CLK_SEL.off, 31, 31⟩
def CLK_SEL.th_ref : Field := ⟨CLK_SEL.off, 19, 18⟩
def CLK_SEL.root_ref : Field := ⟨CLK_SEL.off, 17, 16⟩
def CLK_SEL.cfg_clk : Field := ⟨CLK_SEL.off, 9, 8⟩
def CLK_SEL.aon_clk : Field := ⟨CLK_SEL.off, 1, 0⟩

/-- `CLK_SW_STAT`, R199 of file 06. -/
def CLK_SW_STAT.off : Nat := 0x1048
def CLK_SW_STAT.th : Field := ⟨CLK_SW_STAT.off, 15, 12⟩
def CLK_SW_STAT.root : Field := ⟨CLK_SW_STAT.off, 11, 8⟩
def CLK_SW_STAT.cfg : Field := ⟨CLK_SW_STAT.off, 7, 4⟩
def CLK_SW_STAT.aon : Field := ⟨CLK_SW_STAT.off, 3, 0⟩

/-- `CLK_TRIM_CFG`, R199 of file 06. -/
def CLK_TRIM_CFG.off : Nat := 0x104C
def CLK_TRIM_CFG.src : Field := ⟨CLK_TRIM_CFG.off, 3, 0⟩

/-- `CLK_TRIM_STAT`, R199 of file 06. -/
def CLK_TRIM_STAT.off : Nat := 0x1050
def CLK_TRIM_STAT.converged : Field := ⟨CLK_TRIM_STAT.off, 31, 31⟩
def CLK_TRIM_STAT.source : Field := ⟨CLK_TRIM_STAT.off, 30, 28⟩
def CLK_TRIM_STAT.code : Field := ⟨CLK_TRIM_STAT.off, 27, 16⟩
def CLK_TRIM_STAT.err : Field := ⟨CLK_TRIM_STAT.off, 15, 0⟩

/-- `CLK_MON_CFG`, R199 of file 06. -/
def CLK_MON_CFG.off : Nat := 0x1054
def CLK_MON_CFG.window_ppm : Field := ⟨CLK_MON_CFG.off, 15, 0⟩

/-- `CLK_MON_STAT`, R199 of file 06. -/
def CLK_MON_STAT.off : Nat := 0x1058
def CLK_MON_STAT.missing : Field := ⟨CLK_MON_STAT.off, 4, 0⟩
def CLK_MON_STAT.out_of_window : Field := ⟨CLK_MON_STAT.off, 12, 8⟩
def CLK_MON_STAT.disagree : Field := ⟨CLK_MON_STAT.off, 16, 16⟩

/-- `CLK_AON_TIME`, R199 of file 06. -/
def CLK_AON_TIME.off (j : Nat) : Nat := 0x1060 + 0x4 * j
def CLK_AON_TIME.v (j : Nat) : Field := ⟨CLK_AON_TIME.off j, 31, 0⟩

/-- `PWR_SUP_STAT`, R511 of file 17. -/
def PWR_SUP_STAT.off : Nat := 0x2040
def PWR_SUP_STAT.ok : Field := ⟨PWR_SUP_STAT.off, 10, 1⟩

/-- `PWR_PMB`, R511 of file 17. -/
def PWR_PMB.off : Nat := 0x2044
def PWR_PMB.addr : Field := ⟨PWR_PMB.off, 6, 0⟩

/-- `PWR_CAP`, R511 of file 17. -/
def PWR_CAP.off : Nat := 0x2048
def PWR_CAP.watts : Field := ⟨PWR_CAP.off, 9, 0⟩

/-- `PWR_VCCINT`, R511 of file 17. -/
def PWR_VCCINT.off : Nat := 0x204C
def PWR_VCCINT.mv : Field := ⟨PWR_VCCINT.off, 31, 16⟩
def PWR_VCCINT.amps : Field := ⟨PWR_VCCINT.off, 15, 0⟩

/-- `PWR_DOM`, R511 of file 17. -/
def PWR_DOM.off (j : Nat) : Nat := 0x2400 + 0x4 * j
def PWR_DOM.close (j : Nat) : Field := ⟨PWR_DOM.off j, 31, 31⟩
def PWR_DOM.openReq (j : Nat) : Field := ⟨PWR_DOM.off j, 30, 30⟩
def PWR_DOM.state (j : Nat) : Field := ⟨PWR_DOM.off j, 29, 28⟩
def PWR_DOM.answer (j : Nat) : Field := ⟨PWR_DOM.off j, 27, 26⟩
def PWR_DOM.reason (j : Nat) : Field := ⟨PWR_DOM.off j, 25, 23⟩
def PWR_DOM.closes (j : Nat) : Field := ⟨PWR_DOM.off j, 15, 0⟩

/-- `CFG_CTRL`, R237 of file 07. -/
def CFG_CTRL.off : Nat := 0x10040
def CFG_CTRL.prog : Field := ⟨CFG_CTRL.off, 31, 31⟩
def CFG_CTRL.load_go : Field := ⟨CFG_CTRL.off, 30, 30⟩
def CFG_CTRL.abort : Field := ⟨CFG_CTRL.off, 29, 29⟩
def CFG_CTRL.selftest : Field := ⟨CFG_CTRL.off, 28, 28⟩
def CFG_CTRL.src : Field := ⟨CFG_CTRL.off, 27, 26⟩

/-- `CFG_STATUS`, R237 of file 07. -/
def CFG_STATUS.off : Nat := 0x10044
def CFG_STATUS.state : Field := ⟨CFG_STATUS.off, 31, 28⟩
def CFG_STATUS.done : Field := ⟨CFG_STATUS.off, 27, 27⟩
def CFG_STATUS.golden : Field := ⟨CFG_STATUS.off, 26, 26⟩
def CFG_STATUS.boot_err : Field := ⟨CFG_STATUS.off, 25, 25⟩
def CFG_STATUS.req_result : Field := ⟨CFG_STATUS.off, 24, 23⟩
def CFG_STATUS.selftest : Field := ⟨CFG_STATUS.off, 22, 21⟩

/-- `CFG_BOOT_STAT`, R237 of file 07. -/
def CFG_BOOT_STAT.off : Nat := 0x10048
def CFG_BOOT_STAT.boot_mode : Field := ⟨CFG_BOOT_STAT.off, 31, 29⟩
def CFG_BOOT_STAT.mode_err : Field := ⟨CFG_BOOT_STAT.off, 28, 28⟩
def CFG_BOOT_STAT.slot : Field := ⟨CFG_BOOT_STAT.off, 27, 24⟩
def CFG_BOOT_STAT.boots : Field := ⟨CFG_BOOT_STAT.off, 23, 16⟩
def CFG_BOOT_STAT.first_error : Field := ⟨CFG_BOOT_STAT.off, 15, 0⟩

/-- `CFG_PROGRESS`, R237 of file 07. -/
def CFG_PROGRESS.off : Nat := 0x1004C
def CFG_PROGRESS.v : Field := ⟨CFG_PROGRESS.off, 31, 0⟩

/-- `CFG_SRC_ADDR`, R237 of file 07. -/
def CFG_SRC_ADDR.off (j : Nat) : Nat := 0x10050 + 0x4 * j
def CFG_SRC_ADDR.v (j : Nat) : Field := ⟨CFG_SRC_ADDR.off j, 31, 0⟩

/-- `CFG_SRC_LEN`, R237 of file 07. -/
def CFG_SRC_LEN.off (j : Nat) : Nat := 0x10058 + 0x4 * j
def CFG_SRC_LEN.v (j : Nat) : Field := ⟨CFG_SRC_LEN.off j, 31, 0⟩

/-- `CFG_ERR_OFF`, R237 of file 07. -/
def CFG_ERR_OFF.off (j : Nat) : Nat := 0x10060 + 0x4 * j
def CFG_ERR_OFF.v (j : Nat) : Field := ⟨CFG_ERR_OFF.off j, 31, 0⟩

/-- `CFG_FLASH_CTRL`, R237 of file 07. -/
def CFG_FLASH_CTRL.off : Nat := 0x10068
def CFG_FLASH_CTRL.golden_unlock : Field := ⟨CFG_FLASH_CTRL.off, 31, 31⟩
def CFG_FLASH_CTRL.mode : Field := ⟨CFG_FLASH_CTRL.off, 1, 0⟩

/-- `CFG_FLASH_CMD`, R237 of file 07. -/
def CFG_FLASH_CMD.off : Nat := 0x1006C
def CFG_FLASH_CMD.go : Field := ⟨CFG_FLASH_CMD.off, 31, 31⟩
def CFG_FLASH_CMD.op : Field := ⟨CFG_FLASH_CMD.off, 30, 28⟩
def CFG_FLASH_CMD.result : Field := ⟨CFG_FLASH_CMD.off, 27, 25⟩
def CFG_FLASH_CMD.length : Field := ⟨CFG_FLASH_CMD.off, 11, 0⟩

/-- `CFG_FLASH_ADDR`, R237 of file 07. -/
def CFG_FLASH_ADDR.off : Nat := 0x10070
def CFG_FLASH_ADDR.v : Field := ⟨CFG_FLASH_ADDR.off, 31, 0⟩

/-- `CFG_FLASH_BUF`, R237 of file 07. -/
def CFG_FLASH_BUF.off (j : Nat) : Nat := 0x10078 + 0x4 * j
def CFG_FLASH_BUF.v (j : Nat) : Field := ⟨CFG_FLASH_BUF.off j, 31, 0⟩

/-- `CFG_FUSE_STAT`, R237 of file 07. -/
def CFG_FUSE_STAT.off : Nat := 0x10080
def CFG_FUSE_STAT.svn_floor : Field := ⟨CFG_FUSE_STAT.off, 31, 24⟩
def CFG_FUSE_STAT.pk_prog : Field := ⟨CFG_FUSE_STAT.off, 23, 20⟩
def CFG_FUSE_STAT.pk_revoked : Field := ⟨CFG_FUSE_STAT.off, 19, 16⟩
def CFG_FUSE_STAT.aes_prog : Field := ⟨CFG_FUSE_STAT.off, 15, 14⟩
def CFG_FUSE_STAT.aes_revoked : Field := ⟨CFG_FUSE_STAT.off, 13, 12⟩
def CFG_FUSE_STAT.req_enc : Field := ⟨CFG_FUSE_STAT.off, 1, 1⟩
def CFG_FUSE_STAT.req_sig : Field := ⟨CFG_FUSE_STAT.off, 0, 0⟩

/-- `CFG_DATA_DROP`, R237 of file 07. -/
def CFG_DATA_DROP.off : Nat := 0x10084
def CFG_DATA_DROP.v : Field := ⟨CFG_DATA_DROP.off, 31, 0⟩

/-- `SCB_CFG`, R278 of file 08. -/
def SCB_CFG.off : Nat := 0x11040
def SCB_CFG.mode : Field := ⟨SCB_CFG.off, 31, 30⟩
def SCB_CFG.src_shadow : Field := ⟨SCB_CFG.off, 29, 29⟩
def SCB_CFG.src_dram : Field := ⟨SCB_CFG.off, 28, 28⟩
def SCB_CFG.src_flash : Field := ⟨SCB_CFG.off, 27, 27⟩
def SCB_CFG.pass_evt : Field := ⟨SCB_CFG.off, 26, 26⟩
def SCB_CFG.period : Field := ⟨SCB_CFG.off, 15, 0⟩

/-- `SCB_STAT`, R278 of file 08. -/
def SCB_STAT.off : Nat := 0x11044
def SCB_STAT.running : Field := ⟨SCB_STAT.off, 31, 31⟩
def SCB_STAT.yielding : Field := ⟨SCB_STAT.off, 30, 30⟩
def SCB_STAT.refill_active : Field := ⟨SCB_STAT.off, 29, 29⟩
def SCB_STAT.queue : Field := ⟨SCB_STAT.off, 28, 24⟩
def SCB_STAT.ordinal : Field := ⟨SCB_STAT.off, 19, 0⟩

/-- `SCB_PASSES`, R278 of file 08. -/
def SCB_PASSES.off : Nat := 0x11048
def SCB_PASSES.v : Field := ⟨SCB_PASSES.off, 31, 0⟩

/-- `SCB_PASS_T`, R278 of file 08. -/
def SCB_PASS_T.off : Nat := 0x1104C
def SCB_PASS_T.v : Field := ⟨SCB_PASS_T.off, 31, 0⟩

/-- `SCB_CE1`, R278 of file 08. -/
def SCB_CE1.off : Nat := 0x11050
def SCB_CE1.v : Field := ⟨SCB_CE1.off, 31, 0⟩

/-- `SCB_CE2`, R278 of file 08. -/
def SCB_CE2.off : Nat := 0x11054
def SCB_CE2.v : Field := ⟨SCB_CE2.off, 31, 0⟩

/-- `SCB_UE`, R278 of file 08. -/
def SCB_UE.off : Nat := 0x11058
def SCB_UE.v : Field := ⟨SCB_UE.off, 31, 0⟩

/-- `SCB_FIX_SH`, R278 of file 08. -/
def SCB_FIX_SH.off : Nat := 0x1105C
def SCB_FIX_SH.v : Field := ⟨SCB_FIX_SH.off, 31, 0⟩

/-- `SCB_FIX_DR`, R278 of file 08. -/
def SCB_FIX_DR.off : Nat := 0x11060
def SCB_FIX_DR.v : Field := ⟨SCB_FIX_DR.off, 31, 0⟩

/-- `SCB_FIX_FL`, R278 of file 08. -/
def SCB_FIX_FL.off : Nat := 0x11064
def SCB_FIX_FL.v : Field := ⟨SCB_FIX_FL.off, 31, 0⟩

/-- `SCB_UNREP`, R278 of file 08. -/
def SCB_UNREP.off : Nat := 0x11068
def SCB_UNREP.v : Field := ⟨SCB_UNREP.off, 31, 0⟩

/-- `SCB_SKIP`, R278 of file 08. -/
def SCB_SKIP.off : Nat := 0x1106C
def SCB_SKIP.v : Field := ⟨SCB_SKIP.off, 31, 0⟩

/-- `SCB_SH_CE`, R278 of file 08. -/
def SCB_SH_CE.off : Nat := 0x11070
def SCB_SH_CE.v : Field := ⟨SCB_SH_CE.off, 31, 0⟩

/-- `SCB_RPR_LO`, R278 of file 08. -/
def SCB_RPR_LO.off : Nat := 0x11080
def SCB_RPR_LO.v : Field := ⟨SCB_RPR_LO.off, 31, 0⟩

/-- `SCB_RPR_HI`, R278 of file 08. -/
def SCB_RPR_HI.off : Nat := 0x11084
def SCB_RPR_HI.src : Field := ⟨SCB_RPR_HI.off, 31, 30⟩
def SCB_RPR_HI.addr_hi : Field := ⟨SCB_RPR_HI.off, 23, 0⟩

/-- `STL_RECT`, R278 of file 08. -/
def STL_RECT.off (s j : Nat) : Nat := 0x12000 + 0x1000 * (s / 16) + 0x100 + 0x80 * (s % 16) + 0x4 * j
def STL_RECT.c1 (s j : Nat) : Field := ⟨STL_RECT.off s j, 31, 21⟩
def STL_RECT.c0 (s j : Nat) : Field := ⟨STL_RECT.off s j, 20, 10⟩
def STL_RECT.y1 (s j : Nat) : Field := ⟨STL_RECT.off s j, 9, 5⟩
def STL_RECT.y0 (s j : Nat) : Field := ⟨STL_RECT.off s j, 4, 0⟩

/-- `STL_CFG`, R278 of file 08. -/
def STL_CFG.off (s : Nat) : Nat := 0x12000 + 0x1000 * (s / 16) + 0x110 + 0x80 * (s % 16)
def STL_CFG.sclk (s : Nat) : Field := ⟨STL_CFG.off s, 31, 27⟩
def STL_CFG.shadow_mode (s : Nat) : Field := ⟨STL_CFG.off s, 26, 26⟩
def STL_CFG.ue_reset (s : Nat) : Field := ⟨STL_CFG.off s, 25, 25⟩
def STL_CFG.late_policy (s : Nat) : Field := ⟨STL_CFG.off s, 24, 24⟩
def STL_CFG.force_drain (s : Nat) : Field := ⟨STL_CFG.off s, 23, 23⟩

/-- `STL_CMD`, R278 of file 08. -/
def STL_CMD.off (s : Nat) : Nat := 0x12000 + 0x1000 * (s / 16) + 0x114 + 0x80 * (s % 16)
def STL_CMD.cmd (s : Nat) : Field := ⟨STL_CMD.off s, 31, 23⟩

/-- `STL_STAT`, R278 of file 08. -/
def STL_STAT.off (s : Nat) : Nat := 0x12000 + 0x1000 * (s / 16) + 0x118 + 0x80 * (s % 16)
def STL_STAT.state (s : Nat) : Field := ⟨STL_STAT.off s, 31, 28⟩
def STL_STAT.shadow (s : Nat) : Field := ⟨STL_STAT.off s, 27, 25⟩
def STL_STAT.plane (s : Nat) : Field := ⟨STL_STAT.off s, 24, 24⟩
def STL_STAT.active_valid (s : Nat) : Field := ⟨STL_STAT.off s, 23, 23⟩
def STL_STAT.ue_held (s : Nat) : Field := ⟨STL_STAT.off s, 22, 22⟩
def STL_STAT.content_pending (s : Nat) : Field := ⟨STL_STAT.off s, 21, 21⟩

/-- `STL_RES`, R278 of file 08. -/
def STL_RES.off (s : Nat) : Nat := 0x12000 + 0x1000 * (s / 16) + 0x11C + 0x80 * (s % 16)
def STL_RES.swap (s : Nat) : Field := ⟨STL_RES.off s, 31, 28⟩
def STL_RES.cmd (s : Nat) : Field := ⟨STL_RES.off s, 27, 26⟩
def STL_RES.reason (s : Nat) : Field := ⟨STL_RES.off s, 25, 23⟩

/-- `STL_SWAP_T`, R278 of file 08. -/
def STL_SWAP_T.off (s j : Nat) : Nat := 0x12000 + 0x1000 * (s / 16) + 0x120 + 0x80 * (s % 16) + 0x4 * j
def STL_SWAP_T.v (s j : Nat) : Field := ⟨STL_SWAP_T.off s j, 31, 0⟩

/-- `STL_FLIP_T`, R278 of file 08. -/
def STL_FLIP_T.off (s j : Nat) : Nat := 0x12000 + 0x1000 * (s / 16) + 0x130 + 0x80 * (s % 16) + 0x4 * j
def STL_FLIP_T.v (s j : Nat) : Field := ⟨STL_FLIP_T.off s j, 31, 0⟩

/-- `STL_RPR0_LO`, R278 of file 08. -/
def STL_RPR0_LO.off (s : Nat) : Nat := 0x12000 + 0x1000 * (s / 16) + 0x140 + 0x80 * (s % 16)
def STL_RPR0_LO.v (s : Nat) : Field := ⟨STL_RPR0_LO.off s, 31, 0⟩

/-- `STL_RPR0_HI`, R278 of file 08. -/
def STL_RPR0_HI.off (s : Nat) : Nat := 0x12000 + 0x1000 * (s / 16) + 0x144 + 0x80 * (s % 16)
def STL_RPR0_HI.src (s : Nat) : Field := ⟨STL_RPR0_HI.off s, 31, 30⟩
def STL_RPR0_HI.addr_hi (s : Nat) : Field := ⟨STL_RPR0_HI.off s, 23, 0⟩

/-- `STL_RPR1_LO`, R278 of file 08. -/
def STL_RPR1_LO.off (s : Nat) : Nat := 0x12000 + 0x1000 * (s / 16) + 0x148 + 0x80 * (s % 16)
def STL_RPR1_LO.v (s : Nat) : Field := ⟨STL_RPR1_LO.off s, 31, 0⟩

/-- `STL_RPR1_HI`, R278 of file 08. -/
def STL_RPR1_HI.off (s : Nat) : Nat := 0x12000 + 0x1000 * (s / 16) + 0x14C + 0x80 * (s % 16)
def STL_RPR1_HI.src (s : Nat) : Field := ⟨STL_RPR1_HI.off s, 31, 30⟩
def STL_RPR1_HI.addr_hi (s : Nat) : Field := ⟨STL_RPR1_HI.off s, 23, 0⟩

/-- `STL_DRAIN`, R278 of file 08. -/
def STL_DRAIN.off (s : Nat) : Nat := 0x12000 + 0x1000 * (s / 16) + 0x150 + 0x80 * (s % 16)
def STL_DRAIN.drain_us (s : Nat) : Field := ⟨STL_DRAIN.off s, 31, 16⟩
def STL_DRAIN.lead_us (s : Nat) : Field := ⟨STL_DRAIN.off s, 15, 0⟩

/-- `STL_SWAPS`, R278 of file 08. -/
def STL_SWAPS.off (s : Nat) : Nat := 0x12000 + 0x1000 * (s / 16) + 0x154 + 0x80 * (s % 16)
def STL_SWAPS.v (s : Nat) : Field := ⟨STL_SWAPS.off s, 31, 0⟩

/-- `STL_UE`, R278 of file 08. -/
def STL_UE.off (s : Nat) : Nat := 0x12000 + 0x1000 * (s / 16) + 0x158 + 0x80 * (s % 16)
def STL_UE.v (s : Nat) : Field := ⟨STL_UE.off s, 31, 0⟩

/-- `STL_CONT`, R278 of file 08. -/
def STL_CONT.off (s j : Nat) : Nat := 0x12000 + 0x1000 * (s / 16) + 0x160 + 0x80 * (s % 16) + 0x4 * j
def STL_CONT.v (s j : Nat) : Field := ⟨STL_CONT.off s j, 31, 0⟩

/-- `TH_CTRL`, R170 of file 05. -/
def TH_CTRL.off : Nat := 0x20040
def TH_CTRL.domain : Field := ⟨TH_CTRL.off, 31, 24⟩
def TH_CTRL.accept_step : Field := ⟨TH_CTRL.off, 20, 20⟩
def TH_CTRL.load_mode : Field := ⟨TH_CTRL.off, 19, 18⟩
def TH_CTRL.load_go : Field := ⟨TH_CTRL.off, 17, 17⟩
def TH_CTRL.ptm_steer : Field := ⟨TH_CTRL.off, 16, 16⟩
def TH_CTRL.role : Field := ⟨TH_CTRL.off, 1, 1⟩
def TH_CTRL.enable : Field := ⟨TH_CTRL.off, 0, 0⟩

/-- `TH_STATUS`, R170 of file 05. -/
def TH_STATUS.off : Nat := 0x20044
def TH_STATUS.state : Field := ⟨TH_STATUS.off, 31, 29⟩
def TH_STATUS.tdc_cal : Field := ⟨TH_STATUS.off, 28, 28⟩
def TH_STATUS.step_pending : Field := ⟨TH_STATUS.off, 27, 27⟩
def TH_STATUS.ptm_valid : Field := ⟨TH_STATUS.off, 26, 26⟩
def TH_STATUS.up_lane : Field := ⟨TH_STATUS.off, 25, 24⟩
def TH_STATUS.hop : Field := ⟨TH_STATUS.off, 23, 19⟩
def TH_STATUS.node_id : Field := ⟨TH_STATUS.off, 15, 0⟩

/-- `TH_NODE`, R170 of file 05. -/
def TH_NODE.off : Nat := 0x20048
def TH_NODE.auto : Field := ⟨TH_NODE.off, 31, 31⟩
def TH_NODE.id : Field := ⟨TH_NODE.off, 15, 0⟩

/-- `TH_HOLD_CFG`, R170 of file 05. -/
def TH_HOLD_CFG.off : Nat := 0x2004C
def TH_HOLD_CFG.drift_ppb : Field := ⟨TH_HOLD_CFG.off, 31, 22⟩
def TH_HOLD_CFG.limit_ms : Field := ⟨TH_HOLD_CFG.off, 21, 0⟩

/-- `TH_UNCERT`, R170 of file 05. -/
def TH_UNCERT.off : Nat := 0x20050
def TH_UNCERT.v : Field := ⟨TH_UNCERT.off, 31, 0⟩

/-- `TH_PACLK_CFG`, R170 of file 05. -/
def TH_PACLK_CFG.off : Nat := 0x20054
def TH_PACLK_CFG.v : Field := ⟨TH_PACLK_CFG.off, 1, 0⟩

/-- `TH_TIME`, R170 of file 05. -/
def TH_TIME.off (j : Nat) : Nat := 0x20060 + 0x4 * j
def TH_TIME.v (j : Nat) : Field := ⟨TH_TIME.off j, 31, 0⟩

/-- `TH_TIME_LOAD`, R170 of file 05. -/
def TH_TIME_LOAD.off (j : Nat) : Nat := 0x20070 + 0x4 * j
def TH_TIME_LOAD.v (j : Nat) : Field := ⟨TH_TIME_LOAD.off j, 31, 0⟩

/-- `TH_FEV_SEL`, R170 of file 05. -/
def TH_FEV_SEL.off (j : Nat) : Nat := 0x20080 + 0x4 * j
def TH_FEV_SEL.region (j : Nat) : Field := ⟨TH_FEV_SEL.off j, 7, 0⟩

/-- `TH_TL_CFG`, R170 of file 05. -/
def TH_TL_CFG.off (n : Nat) : Nat := 0x21040 + 0x20 * n
def TH_TL_CFG.repeatMsgs (n : Nat) : Field := ⟨TH_TL_CFG.off n, 3, 3⟩
def TH_TL_CFG.role (n : Nat) : Field := ⟨TH_TL_CFG.off n, 1, 0⟩

/-- `TH_TL_STAT`, R170 of file 05. -/
def TH_TL_STAT.off (n : Nat) : Nat := 0x21044 + 0x20 * n
def TH_TL_STAT.link (n : Nat) : Field := ⟨TH_TL_STAT.off n, 31, 28⟩
def TH_TL_STAT.reason (n : Nat) : Field := ⟨TH_TL_STAT.off n, 27, 24⟩
def TH_TL_STAT.cal_done (n : Nat) : Field := ⟨TH_TL_STAT.off n, 23, 23⟩
def TH_TL_STAT.peer_id (n : Nat) : Field := ⟨TH_TL_STAT.off n, 15, 0⟩

/-- `TH_TL_ASYM`, R170 of file 05. -/
def TH_TL_ASYM.off (n : Nat) : Nat := 0x21048 + 0x20 * n
def TH_TL_ASYM.v (n : Nat) : Field := ⟨TH_TL_ASYM.off n, 31, 0⟩

/-- `TH_TL_DELAY`, R170 of file 05. -/
def TH_TL_DELAY.off (n : Nat) : Nat := 0x2104C + 0x20 * n
def TH_TL_DELAY.v (n : Nat) : Field := ⟨TH_TL_DELAY.off n, 31, 0⟩

/-- `TH_TL_OFFSET`, R170 of file 05. -/
def TH_TL_OFFSET.off (n : Nat) : Nat := 0x21050 + 0x20 * n
def TH_TL_OFFSET.v (n : Nat) : Field := ⟨TH_TL_OFFSET.off n, 31, 0⟩

/-- `TH_TL_CRCERR`, R170 of file 05. -/
def TH_TL_CRCERR.off (n : Nat) : Nat := 0x21054 + 0x20 * n
def TH_TL_CRCERR.v (n : Nat) : Field := ⟨TH_TL_CRCERR.off n, 31, 0⟩

/-- `TH_TL_MSGERR`, R170 of file 05. -/
def TH_TL_MSGERR.off (n : Nat) : Nat := 0x21058 + 0x20 * n
def TH_TL_MSGERR.v (n : Nat) : Field := ⟨TH_TL_MSGERR.off n, 31, 0⟩

/-- `TH_TL_QOVF`, R170 of file 05. -/
def TH_TL_QOVF.off (n : Nat) : Nat := 0x2105C + 0x20 * n
def TH_TL_QOVF.v (n : Nat) : Field := ⟨TH_TL_QOVF.off n, 31, 0⟩

/-- `TH_XTL_SEND0`, R170 of file 05. -/
def TH_XTL_SEND0.off : Nat := 0x21100
def TH_XTL_SEND0.t : Field := ⟨TH_XTL_SEND0.off, 31, 0⟩

/-- `TH_XTL_SEND1`, R170 of file 05. -/
def TH_XTL_SEND1.off : Nat := 0x21104
def TH_XTL_SEND1.go : Field := ⟨TH_XTL_SEND1.off, 31, 31⟩
def TH_XTL_SEND1.channel : Field := ⟨TH_XTL_SEND1.off, 27, 16⟩
def TH_XTL_SEND1.t : Field := ⟨TH_XTL_SEND1.off, 11, 0⟩

/-- `TH_XTL_LAYOUT`, R170 of file 05. -/
def TH_XTL_LAYOUT.off (j : Nat) : Nat := 0x21200 + 0x4 * j
def TH_XTL_LAYOUT.k3 (j : Nat) : Field := ⟨TH_XTL_LAYOUT.off j, 25, 24⟩
def TH_XTL_LAYOUT.k2 (j : Nat) : Field := ⟨TH_XTL_LAYOUT.off j, 17, 16⟩
def TH_XTL_LAYOUT.k1 (j : Nat) : Field := ⟨TH_XTL_LAYOUT.off j, 9, 8⟩
def TH_XTL_LAYOUT.k0 (j : Nat) : Field := ⟨TH_XTL_LAYOUT.off j, 1, 0⟩

/-- `TH_XTL_LAYOUT_ID`, R170 of file 05. -/
def TH_XTL_LAYOUT_ID.off : Nat := 0x212A0
def TH_XTL_LAYOUT_ID.v : Field := ⟨TH_XTL_LAYOUT_ID.off, 7, 0⟩

/-- `TH_IN_CFG`, R170 of file 05. -/
def TH_IN_CFG.off (c : Nat) : Nat := 0x22040 + 0x20 * c
def TH_IN_CFG.clear (c : Nat) : Field := ⟨TH_IN_CFG.off c, 31, 31⟩
def TH_IN_CFG.check (c : Nat) : Field := ⟨TH_IN_CFG.off c, 30, 30⟩
def TH_IN_CFG.rx_type (c : Nat) : Field := ⟨TH_IN_CFG.off c, 29, 29⟩
def TH_IN_CFG.inv (c : Nat) : Field := ⟨TH_IN_CFG.off c, 28, 28⟩
def TH_IN_CFG.edge (c : Nat) : Field := ⟨TH_IN_CFG.off c, 27, 26⟩
def TH_IN_CFG.filter_ns (c : Nat) : Field := ⟨TH_IN_CFG.off c, 22, 16⟩
def TH_IN_CFG.max_retry (c : Nat) : Field := ⟨TH_IN_CFG.off c, 15, 8⟩
def TH_IN_CFG.backoff_ms (c : Nat) : Field := ⟨TH_IN_CFG.off c, 7, 0⟩

/-- `TH_IN_STAT`, R170 of file 05. -/
def TH_IN_STAT.off (c : Nat) : Nat := 0x22044 + 0x20 * c
def TH_IN_STAT.fault (c : Nat) : Field := ⟨TH_IN_STAT.off c, 31, 29⟩
def TH_IN_STAT.inverted (c : Nat) : Field := ⟨TH_IN_STAT.off c, 28, 28⟩
def TH_IN_STAT.check (c : Nat) : Field := ⟨TH_IN_STAT.off c, 27, 26⟩
def TH_IN_STAT.drv_off (c : Nat) : Field := ⟨TH_IN_STAT.off c, 25, 25⟩
def TH_IN_STAT.retries (c : Nat) : Field := ⟨TH_IN_STAT.off c, 24, 17⟩

/-- `TH_IN_DLY`, R170 of file 05. -/
def TH_IN_DLY.off (c : Nat) : Nat := 0x22048 + 0x20 * c
def TH_IN_DLY.v (c : Nat) : Field := ⟨TH_IN_DLY.off c, 31, 0⟩

/-- `TH_IN_CNT`, R170 of file 05. -/
def TH_IN_CNT.off (c : Nat) : Nat := 0x2204C + 0x20 * c
def TH_IN_CNT.v (c : Nat) : Field := ⟨TH_IN_CNT.off c, 31, 0⟩

/-- `TH_IN_OVF`, R170 of file 05. -/
def TH_IN_OVF.off (c : Nat) : Nat := 0x22050 + 0x20 * c
def TH_IN_OVF.v (c : Nat) : Field := ⟨TH_IN_OVF.off c, 31, 0⟩

/-- `TH_IN_LAST`, R170 of file 05. -/
def TH_IN_LAST.off (c j : Nat) : Nat := 0x22054 + 0x20 * c + 0x4 * j
def TH_IN_LAST.v (c j : Nat) : Field := ⟨TH_IN_LAST.off c j, 31, 0⟩

/-- `TH_TDC_CAL`, R170 of file 05. -/
def TH_TDC_CAL.off : Nat := 0x22400
def TH_TDC_CAL.restart : Field := ⟨TH_TDC_CAL.off, 31, 31⟩

/-- `TH_SEQ_CTRL`, R170 of file 05. -/
def TH_SEQ_CTRL.off (s : Nat) : Nat := 0x23040 + 0x20 * s
def TH_SEQ_CTRL.arm (s : Nat) : Field := ⟨TH_SEQ_CTRL.off s, 31, 31⟩
def TH_SEQ_CTRL.halt (s : Nat) : Field := ⟨TH_SEQ_CTRL.off s, 30, 30⟩
def TH_SEQ_CTRL.run (s : Nat) : Field := ⟨TH_SEQ_CTRL.off s, 29, 29⟩
def TH_SEQ_CTRL.start_state (s : Nat) : Field := ⟨TH_SEQ_CTRL.off s, 7, 0⟩

/-- `TH_SEQ_STAT`, R170 of file 05. -/
def TH_SEQ_STAT.off (s : Nat) : Nat := 0x23044 + 0x20 * s
def TH_SEQ_STAT.run (s : Nat) : Field := ⟨TH_SEQ_STAT.off s, 31, 30⟩
def TH_SEQ_STAT.wr_refused (s : Nat) : Field := ⟨TH_SEQ_STAT.off s, 29, 29⟩
def TH_SEQ_STAT.late (s : Nat) : Field := ⟨TH_SEQ_STAT.off s, 23, 8⟩
def TH_SEQ_STAT.state (s : Nat) : Field := ⟨TH_SEQ_STAT.off s, 7, 0⟩

/-- `TH_SEQ_CNT`, R170 of file 05. -/
def TH_SEQ_CNT.off (s : Nat) : Nat := 0x23048 + 0x20 * s
def TH_SEQ_CNT.v (s : Nat) : Field := ⟨TH_SEQ_CNT.off s, 31, 0⟩

/-- `TH_SEQ_MARK`, R170 of file 05. -/
def TH_SEQ_MARK.off (s j : Nat) : Nat := 0x2304C + 0x20 * s + 0x4 * j
def TH_SEQ_MARK.v (s j : Nat) : Field := ⟨TH_SEQ_MARK.off s j, 31, 0⟩

/-- `TH_SEQ_HOLD`, R170 of file 05. -/
def TH_SEQ_HOLD.off : Nat := 0x23300
def TH_SEQ_HOLD.ns : Field := ⟨TH_SEQ_HOLD.off, 8, 0⟩

/-- `TH_OUT_CFG`, R170 of file 05. -/
def TH_OUT_CFG.off (o : Nat) : Nat := 0x24040 + 0x10 * o
def TH_OUT_CFG.invert (o : Nat) : Field := ⟨TH_OUT_CFG.off o, 1, 1⟩
def TH_OUT_CFG.enable (o : Nat) : Field := ⟨TH_OUT_CFG.off o, 0, 0⟩

/-- `TH_OUT_DLY`, R170 of file 05. -/
def TH_OUT_DLY.off (o : Nat) : Nat := 0x24044 + 0x10 * o
def TH_OUT_DLY.v (o : Nat) : Field := ⟨TH_OUT_DLY.off o, 31, 0⟩

/-- `TH_OUT_STAT`, R170 of file 05. -/
def TH_OUT_STAT.off (o : Nat) : Nat := 0x24048 + 0x10 * o
def TH_OUT_STAT.depth (o : Nat) : Field := ⟨TH_OUT_STAT.off o, 20, 16⟩
def TH_OUT_STAT.late (o : Nat) : Field := ⟨TH_OUT_STAT.off o, 15, 0⟩

/-- `TH_OUT_REQ`, R170 of file 05. -/
def TH_OUT_REQ.off (j : Nat) : Nat := 0x24300 + 0x4 * j
def TH_OUT_REQ.v (j : Nat) : Field := ⟨TH_OUT_REQ.off j, 31, 0⟩

/-- `TH_OUT_REQ3`, R170 of file 05. -/
def TH_OUT_REQ3.off : Nat := 0x2430C
def TH_OUT_REQ3.go : Field := ⟨TH_OUT_REQ3.off, 31, 31⟩
def TH_OUT_REQ3.output : Field := ⟨TH_OUT_REQ3.off, 28, 24⟩
def TH_OUT_REQ3.action : Field := ⟨TH_OUT_REQ3.off, 23, 21⟩
def TH_OUT_REQ3.width : Field := ⟨TH_OUT_REQ3.off, 15, 0⟩

/-- `TH_SR_CTRL`, R170 of file 05. -/
def TH_SR_CTRL.off (n : Nat) : Nat := 0x24400 + 0x20 * n
def TH_SR_CTRL.go (n : Nat) : Field := ⟨TH_SR_CTRL.off n, 31, 31⟩
def TH_SR_CTRL.refused (n : Nat) : Field := ⟨TH_SR_CTRL.off n, 30, 30⟩
def TH_SR_CTRL.mode (n : Nat) : Field := ⟨TH_SR_CTRL.off n, 1, 0⟩

/-- `TH_SR_PERIOD`, R170 of file 05. -/
def TH_SR_PERIOD.off (n j : Nat) : Nat := 0x24404 + 0x20 * n + 0x4 * j
def TH_SR_PERIOD.v (n j : Nat) : Field := ⟨TH_SR_PERIOD.off n j, 31, 0⟩

/-- `TH_SR_HIGH`, R170 of file 05. -/
def TH_SR_HIGH.off (n : Nat) : Nat := 0x2440C + 0x20 * n
def TH_SR_HIGH.v (n : Nat) : Field := ⟨TH_SR_HIGH.off n, 31, 0⟩

/-- `TH_SR_START`, R170 of file 05. -/
def TH_SR_START.off (n j : Nat) : Nat := 0x24410 + 0x20 * n + 0x4 * j
def TH_SR_START.v (n j : Nat) : Field := ⟨TH_SR_START.off n j, 31, 0⟩

/-- `TH_SR_COUNT`, R170 of file 05. -/
def TH_SR_COUNT.off (n : Nat) : Nat := 0x2441C + 0x20 * n
def TH_SR_COUNT.v (n : Nat) : Field := ⟨TH_SR_COUNT.off n, 31, 0⟩

/-- `TH_PTM_CFG`, R170 of file 05. -/
def TH_PTM_CFG.off : Nat := 0x25040
def TH_PTM_CFG.k : Field := ⟨TH_PTM_CFG.off, 3, 0⟩

/-- `TH_PTM_STAT`, R170 of file 05. -/
def TH_PTM_STAT.off : Nat := 0x25044
def TH_PTM_STAT.valid : Field := ⟨TH_PTM_STAT.off, 0, 0⟩

/-- `TH_PTM_DEV`, R170 of file 05. -/
def TH_PTM_DEV.off (j : Nat) : Nat := 0x25048 + 0x4 * j
def TH_PTM_DEV.v (j : Nat) : Field := ⟨TH_PTM_DEV.off j, 31, 0⟩

/-- `TH_PTM_HOST`, R170 of file 05. -/
def TH_PTM_HOST.off (j : Nat) : Nat := 0x25054 + 0x4 * j
def TH_PTM_HOST.v (j : Nat) : Field := ⟨TH_PTM_HOST.off j, 31, 0⟩

/-- `NOC_RTR_CTRL`, R310 of file 09. -/
def NOC_RTR_CTRL.off (i : Nat) : Nat := 0x40000 + 0x1000 * i + 0x40
def NOC_RTR_CTRL.hold_apply (i : Nat) : Field := ⟨NOC_RTR_CTRL.off i, 31, 31⟩
def NOC_RTR_CTRL.fi_enable (i : Nat) : Field := ⟨NOC_RTR_CTRL.off i, 30, 30⟩

/-- `NOC_RTR_STAT`, R310 of file 09. -/
def NOC_RTR_STAT.off (i : Nat) : Nat := 0x40000 + 0x1000 * i + 0x44
def NOC_RTR_STAT.hold (i : Nat) : Field := ⟨NOC_RTR_STAT.off i, 31, 31⟩
def NOC_RTR_STAT.result (i : Nat) : Field := ⟨NOC_RTR_STAT.off i, 30, 29⟩
def NOC_RTR_STAT.hold_time (i : Nat) : Field := ⟨NOC_RTR_STAT.off i, 15, 0⟩

/-- `NOC_RTR_LINK`, R310 of file 09. -/
def NOC_RTR_LINK.off (i : Nat) : Nat := 0x40000 + 0x1000 * i + 0x48
def NOC_RTR_LINK.ports (i : Nat) : Field := ⟨NOC_RTR_LINK.off i, 7, 4⟩
def NOC_RTR_LINK.outs (i : Nat) : Field := ⟨NOC_RTR_LINK.off i, 3, 0⟩

/-- `NOC_RTR_XDIR`, R310 of file 09. -/
def NOC_RTR_XDIR.off (i : Nat) : Nat := 0x40000 + 0x1000 * i + 0x4C
def NOC_RTR_XDIR.v (i : Nat) : Field := ⟨NOC_RTR_XDIR.off i, 23, 0⟩

/-- `NOC_RTR_YDIR`, R310 of file 09. -/
def NOC_RTR_YDIR.off (i : Nat) : Nat := 0x40000 + 0x1000 * i + 0x50
def NOC_RTR_YDIR.v (i : Nat) : Field := ⟨NOC_RTR_YDIR.off i, 11, 0⟩

/-- `NOC_RTR_ARB`, R310 of file 09. -/
def NOC_RTR_ARB.off (i : Nat) : Nat := 0x40000 + 0x1000 * i + 0x54
def NOC_RTR_ARB.hi (i : Nat) : Field := ⟨NOC_RTR_ARB.off i, 11, 8⟩
def NOC_RTR_ARB.norm (i : Nat) : Field := ⟨NOC_RTR_ARB.off i, 7, 4⟩
def NOC_RTR_ARB.bulk (i : Nat) : Field := ⟨NOC_RTR_ARB.off i, 3, 0⟩

/-- `NOC_RTR_NEXT_LINK`, R310 of file 09. -/
def NOC_RTR_NEXT_LINK.off (i : Nat) : Nat := 0x40000 + 0x1000 * i + 0x60
def NOC_RTR_NEXT_LINK.ports (i : Nat) : Field := ⟨NOC_RTR_NEXT_LINK.off i, 7, 4⟩
def NOC_RTR_NEXT_LINK.outs (i : Nat) : Field := ⟨NOC_RTR_NEXT_LINK.off i, 3, 0⟩

/-- `NOC_RTR_NEXT_XDIR`, R310 of file 09. -/
def NOC_RTR_NEXT_XDIR.off (i : Nat) : Nat := 0x40000 + 0x1000 * i + 0x64
def NOC_RTR_NEXT_XDIR.v (i : Nat) : Field := ⟨NOC_RTR_NEXT_XDIR.off i, 23, 0⟩

/-- `NOC_RTR_NEXT_YDIR`, R310 of file 09. -/
def NOC_RTR_NEXT_YDIR.off (i : Nat) : Nat := 0x40000 + 0x1000 * i + 0x68
def NOC_RTR_NEXT_YDIR.v (i : Nat) : Field := ⟨NOC_RTR_NEXT_YDIR.off i, 11, 0⟩

/-- `NOC_RTR_NEXT_ARB`, R310 of file 09. -/
def NOC_RTR_NEXT_ARB.off (i : Nat) : Nat := 0x40000 + 0x1000 * i + 0x6C
def NOC_RTR_NEXT_ARB.hi (i : Nat) : Field := ⟨NOC_RTR_NEXT_ARB.off i, 11, 8⟩
def NOC_RTR_NEXT_ARB.norm (i : Nat) : Field := ⟨NOC_RTR_NEXT_ARB.off i, 7, 4⟩
def NOC_RTR_NEXT_ARB.bulk (i : Nat) : Field := ⟨NOC_RTR_NEXT_ARB.off i, 3, 0⟩

/-- `NOC_RTR_PORT`, R310 of file 09. -/
def NOC_RTR_PORT.off (i j : Nat) : Nat := 0x40000 + 0x1000 * i + 0x80 + 0x4 * j
def NOC_RTR_PORT.state (i j : Nat) : Field := ⟨NOC_RTR_PORT.off i j, 31, 30⟩
def NOC_RTR_PORT.close_us (i j : Nat) : Field := ⟨NOC_RTR_PORT.off i j, 15, 0⟩

/-- `NOC_RTR_UNRT`, R310 of file 09. -/
def NOC_RTR_UNRT.off (i : Nat) : Nat := 0x40000 + 0x1000 * i + 0xA0
def NOC_RTR_UNRT.v (i : Nat) : Field := ⟨NOC_RTR_UNRT.off i, 31, 0⟩

/-- `NOC_RTR_DCLOSE`, R310 of file 09. -/
def NOC_RTR_DCLOSE.off (i : Nat) : Nat := 0x40000 + 0x1000 * i + 0xA4
def NOC_RTR_DCLOSE.v (i : Nat) : Field := ⟨NOC_RTR_DCLOSE.off i, 31, 0⟩

/-- `NOC_RTR_RDROP`, R310 of file 09. -/
def NOC_RTR_RDROP.off (i : Nat) : Nat := 0x40000 + 0x1000 * i + 0xA8
def NOC_RTR_RDROP.v (i : Nat) : Field := ⟨NOC_RTR_RDROP.off i, 31, 0⟩

/-- `NOC_RTR_PDROP`, R310 of file 09. -/
def NOC_RTR_PDROP.off (i : Nat) : Nat := 0x40000 + 0x1000 * i + 0xAC
def NOC_RTR_PDROP.v (i : Nat) : Field := ⟨NOC_RTR_PDROP.off i, 31, 0⟩

/-- `NOC_RTR_HDRERR`, R310 of file 09. -/
def NOC_RTR_HDRERR.off (i : Nat) : Nat := 0x40000 + 0x1000 * i + 0xB0
def NOC_RTR_HDRERR.v (i : Nat) : Field := ⟨NOC_RTR_HDRERR.off i, 31, 0⟩

/-- `NOC_RTR_CRCERR`, R310 of file 09. -/
def NOC_RTR_CRCERR.off (i : Nat) : Nat := 0x40000 + 0x1000 * i + 0xB4
def NOC_RTR_CRCERR.v (i : Nat) : Field := ⟨NOC_RTR_CRCERR.off i, 31, 0⟩

/-- `NOC_RTR_SEQLOST`, R310 of file 09. -/
def NOC_RTR_SEQLOST.off (i : Nat) : Nat := 0x40000 + 0x1000 * i + 0xB8
def NOC_RTR_SEQLOST.v (i : Nat) : Field := ⟨NOC_RTR_SEQLOST.off i, 31, 0⟩

/-- `NOC_RTR_REORD`, R310 of file 09. -/
def NOC_RTR_REORD.off (i : Nat) : Nat := 0x40000 + 0x1000 * i + 0xBC
def NOC_RTR_REORD.v (i : Nat) : Field := ⟨NOC_RTR_REORD.off i, 31, 0⟩

/-- `NOC_RTR_FORCED`, R310 of file 09. -/
def NOC_RTR_FORCED.off (i : Nat) : Nat := 0x40000 + 0x1000 * i + 0xC0
def NOC_RTR_FORCED.v (i : Nat) : Field := ⟨NOC_RTR_FORCED.off i, 31, 0⟩

/-- `NOC_FI_CTRL`, R310 of file 09. -/
def NOC_FI_CTRL.off (i p : Nat) : Nat := 0x40000 + 0x1000 * i + 0x100 + 0x10 * p
def NOC_FI_CTRL.arm (i p : Nat) : Field := ⟨NOC_FI_CTRL.off i p, 31, 31⟩
def NOC_FI_CTRL.armed (i p : Nat) : Field := ⟨NOC_FI_CTRL.off i p, 30, 30⟩
def NOC_FI_CTRL.mode (i p : Nat) : Field := ⟨NOC_FI_CTRL.off i p, 29, 28⟩
def NOC_FI_CTRL.vc (i p : Nat) : Field := ⟨NOC_FI_CTRL.off i p, 27, 26⟩
def NOC_FI_CTRL.src (i p : Nat) : Field := ⟨NOC_FI_CTRL.off i p, 25, 16⟩
def NOC_FI_CTRL.skip (i p : Nat) : Field := ⟨NOC_FI_CTRL.off i p, 15, 8⟩
def NOC_FI_CTRL.times (i p : Nat) : Field := ⟨NOC_FI_CTRL.off i p, 7, 0⟩

/-- `NOC_FI_CORR`, R310 of file 09. -/
def NOC_FI_CORR.off (i p : Nat) : Nat := 0x40000 + 0x1000 * i + 0x104 + 0x10 * p
def NOC_FI_CORR.flit (i p : Nat) : Field := ⟨NOC_FI_CORR.off i p, 10, 9⟩
def NOC_FI_CORR.bit (i p : Nat) : Field := ⟨NOC_FI_CORR.off i p, 8, 0⟩

/-- `NOC_FI_CNT`, R310 of file 09. -/
def NOC_FI_CNT.off (i p : Nat) : Nat := 0x40000 + 0x1000 * i + 0x108 + 0x10 * p
def NOC_FI_CNT.v (i p : Nat) : Field := ⟨NOC_FI_CNT.off i p, 31, 0⟩

/-- `QUAY_CFG`, R310 of file 09. -/
def QUAY_CFG.off (i : Nat) : Nat := 0x88000 + 0x1000 * i + 0x40
def QUAY_CFG.tgt_en (i : Nat) : Field := ⟨QUAY_CFG.off i, 31, 31⟩

/-- `QUAY_STAT`, R310 of file 09. -/
def QUAY_STAT.off (i : Nat) : Nat := 0x88000 + 0x1000 * i + 0x44
def QUAY_STAT.state (i : Nat) : Field := ⟨QUAY_STAT.off i, 31, 30⟩
def QUAY_STAT.ini_out (i : Nat) : Field := ⟨QUAY_STAT.off i, 24, 16⟩
def QUAY_STAT.tgt_out (i : Nat) : Field := ⟨QUAY_STAT.off i, 8, 0⟩

/-- `QUAY_DISC`, R310 of file 09. -/
def QUAY_DISC.off (i : Nat) : Nat := 0x88000 + 0x1000 * i + 0x48
def QUAY_DISC.v (i : Nat) : Field := ⟨QUAY_DISC.off i, 31, 0⟩

/-- `QUAY_DCLOSE`, R310 of file 09. -/
def QUAY_DCLOSE.off (i : Nat) : Nat := 0x88000 + 0x1000 * i + 0x4C
def QUAY_DCLOSE.v (i : Nat) : Field := ⟨QUAY_DCLOSE.off i, 31, 0⟩

/-- `DMC_CTRL`, R338 of file 10. -/
def DMC_CTRL.off (i : Nat) : Nat := 0x100000 + 0x10000 * i + 0x40
def DMC_CTRL.enable (i : Nat) : Field := ⟨DMC_CTRL.off i, 31, 31⟩
def DMC_CTRL.pred (i : Nat) : Field := ⟨DMC_CTRL.off i, 3, 2⟩
def DMC_CTRL.reuse (i : Nat) : Field := ⟨DMC_CTRL.off i, 1, 1⟩

/-- `DMC_STAT`, R338 of file 10. -/
def DMC_STAT.off (i : Nat) : Nat := 0x100000 + 0x10000 * i + 0x44
def DMC_STAT.state (i : Nat) : Field := ⟨DMC_STAT.off i, 31, 28⟩
def DMC_STAT.trained (i : Nat) : Field := ⟨DMC_STAT.off i, 27, 26⟩
def DMC_STAT.reason (i : Nat) : Field := ⟨DMC_STAT.off i, 23, 16⟩
def DMC_STAT.rd_used (i : Nat) : Field := ⟨DMC_STAT.off i, 14, 8⟩
def DMC_STAT.wr_used (i : Nat) : Field := ⟨DMC_STAT.off i, 6, 0⟩

/-- `DMC_GEOM`, R338 of file 10. -/
def DMC_GEOM.off (i : Nat) : Nat := 0x100000 + 0x10000 * i + 0x48
def DMC_GEOM.rate (i : Nat) : Field := ⟨DMC_GEOM.off i, 31, 28⟩
def DMC_GEOM.density (i : Nat) : Field := ⟨DMC_GEOM.off i, 9, 8⟩
def DMC_GEOM.width (i : Nat) : Field := ⟨DMC_GEOM.off i, 4, 4⟩
def DMC_GEOM.ranks (i : Nat) : Field := ⟨DMC_GEOM.off i, 0, 0⟩

/-- `DMC_MAP`, R338 of file 10. -/
def DMC_MAP.off (i : Nat) : Nat := 0x100000 + 0x10000 * i + 0x4C
def DMC_MAP.mode (i : Nat) : Field := ⟨DMC_MAP.off i, 31, 31⟩
def DMC_MAP.bank_hash (i : Nat) : Field := ⟨DMC_MAP.off i, 30, 30⟩

/-- `DMC_AGE`, R338 of file 10. -/
def DMC_AGE.off (i : Nat) : Nat := 0x100000 + 0x10000 * i + 0x50
def DMC_AGE.bulk (i : Nat) : Field := ⟨DMC_AGE.off i, 23, 16⟩
def DMC_AGE.norm (i : Nat) : Field := ⟨DMC_AGE.off i, 15, 8⟩
def DMC_AGE.hi (i : Nat) : Field := ⟨DMC_AGE.off i, 7, 0⟩

/-- `DMC_WMARK`, R338 of file 10. -/
def DMC_WMARK.off (i : Nat) : Nat := 0x100000 + 0x10000 * i + 0x54
def DMC_WMARK.high (i : Nat) : Field := ⟨DMC_WMARK.off i, 15, 8⟩
def DMC_WMARK.low (i : Nat) : Field := ⟨DMC_WMARK.off i, 7, 0⟩

/-- `DMC_REF`, R338 of file 10. -/
def DMC_REF.off (i : Nat) : Nat := 0x100000 + 0x10000 * i + 0x58
def DMC_REF.postpone (i : Nat) : Field := ⟨DMC_REF.off i, 2, 0⟩

/-- `DMC_TRK`, R338 of file 10. -/
def DMC_TRK.off (i : Nat) : Nat := 0x100000 + 0x10000 * i + 0x5C
def DMC_TRK.dqs_ms (i : Nat) : Field := ⟨DMC_TRK.off i, 7, 0⟩

/-- `DMC_MAINT`, R338 of file 10. -/
def DMC_MAINT.off (i : Nat) : Nat := 0x100000 + 0x10000 * i + 0x60
def DMC_MAINT.retrain (i : Nat) : Field := ⟨DMC_MAINT.off i, 31, 31⟩
def DMC_MAINT.force (i : Nat) : Field := ⟨DMC_MAINT.off i, 30, 30⟩
def DMC_MAINT.track_now (i : Nat) : Field := ⟨DMC_MAINT.off i, 29, 29⟩
def DMC_MAINT.patrol_restart (i : Nat) : Field := ⟨DMC_MAINT.off i, 28, 28⟩
def DMC_MAINT.cancel (i : Nat) : Field := ⟨DMC_MAINT.off i, 27, 27⟩
def DMC_MAINT.answer (i : Nat) : Field := ⟨DMC_MAINT.off i, 26, 25⟩
def DMC_MAINT.result (i : Nat) : Field := ⟨DMC_MAINT.off i, 24, 23⟩

/-- `DMC_TRN_SRC`, R338 of file 10. -/
def DMC_TRN_SRC.off (i : Nat) : Nat := 0x100000 + 0x10000 * i + 0x64
def DMC_TRN_SRC.v (i : Nat) : Field := ⟨DMC_TRN_SRC.off i, 31, 0⟩

/-- `DMC_PATROL`, R338 of file 10. -/
def DMC_PATROL.off (i : Nat) : Nat := 0x100000 + 0x10000 * i + 0x68
def DMC_PATROL.running (i : Nat) : Field := ⟨DMC_PATROL.off i, 31, 31⟩
def DMC_PATROL.hours (i : Nat) : Field := ⟨DMC_PATROL.off i, 7, 0⟩

/-- `DMC_CE_RATE`, R338 of file 10. -/
def DMC_CE_RATE.off (i : Nat) : Nat := 0x100000 + 0x10000 * i + 0x6C
def DMC_CE_RATE.threshold (i : Nat) : Field := ⟨DMC_CE_RATE.off i, 31, 16⟩
def DMC_CE_RATE.window_ms (i : Nat) : Field := ⟨DMC_CE_RATE.off i, 15, 0⟩

/-- `DMC_CE_TOT`, R338 of file 10. -/
def DMC_CE_TOT.off (i : Nat) : Nat := 0x100000 + 0x10000 * i + 0x70
def DMC_CE_TOT.v (i : Nat) : Field := ⟨DMC_CE_TOT.off i, 31, 0⟩

/-- `DMC_UE_TOT`, R338 of file 10. -/
def DMC_UE_TOT.off (i : Nat) : Nat := 0x100000 + 0x10000 * i + 0x74
def DMC_UE_TOT.v (i : Nat) : Field := ⟨DMC_UE_TOT.off i, 31, 0⟩

/-- `DMC_AE_TOT`, R338 of file 10. -/
def DMC_AE_TOT.off (i : Nat) : Nat := 0x100000 + 0x10000 * i + 0x78
def DMC_AE_TOT.v (i : Nat) : Field := ⟨DMC_AE_TOT.off i, 31, 0⟩

/-- `DMC_RMW_FAIL`, R338 of file 10. -/
def DMC_RMW_FAIL.off (i : Nat) : Nat := 0x100000 + 0x10000 * i + 0x7C
def DMC_RMW_FAIL.v (i : Nat) : Field := ⟨DMC_RMW_FAIL.off i, 31, 0⟩

/-- `DMC_REFAB`, R338 of file 10. -/
def DMC_REFAB.off (i : Nat) : Nat := 0x100000 + 0x10000 * i + 0x80
def DMC_REFAB.v (i : Nat) : Field := ⟨DMC_REFAB.off i, 31, 0⟩

/-- `DMC_ERR_ADDR0`, R338 of file 10. -/
def DMC_ERR_ADDR0.off (i : Nat) : Nat := 0x100000 + 0x10000 * i + 0x88
def DMC_ERR_ADDR0.v (i : Nat) : Field := ⟨DMC_ERR_ADDR0.off i, 31, 0⟩

/-- `DMC_ERR_ADDR1`, R338 of file 10. -/
def DMC_ERR_ADDR1.off (i : Nat) : Nat := 0x100000 + 0x10000 * i + 0x8C
def DMC_ERR_ADDR1.rank (i : Nat) : Field := ⟨DMC_ERR_ADDR1.off i, 31, 31⟩
def DMC_ERR_ADDR1.l (i : Nat) : Field := ⟨DMC_ERR_ADDR1.off i, 2, 0⟩

/-- `DMC_RD_LINES`, R338 of file 10. -/
def DMC_RD_LINES.off (i : Nat) : Nat := 0x100000 + 0x10000 * i + 0x90
def DMC_RD_LINES.v (i : Nat) : Field := ⟨DMC_RD_LINES.off i, 31, 0⟩

/-- `DMC_WR_LINES`, R338 of file 10. -/
def DMC_WR_LINES.off (i : Nat) : Nat := 0x100000 + 0x10000 * i + 0x94
def DMC_WR_LINES.v (i : Nat) : Field := ⟨DMC_WR_LINES.off i, 31, 0⟩

/-- `DMC_HITS`, R338 of file 10. -/
def DMC_HITS.off (i : Nat) : Nat := 0x100000 + 0x10000 * i + 0x98
def DMC_HITS.v (i : Nat) : Field := ⟨DMC_HITS.off i, 31, 0⟩

/-- `DMC_MISSES`, R338 of file 10. -/
def DMC_MISSES.off (i : Nat) : Nat := 0x100000 + 0x10000 * i + 0x9C
def DMC_MISSES.v (i : Nat) : Field := ⟨DMC_MISSES.off i, 31, 0⟩

/-- `DMC_TRN_REC`, R338 of file 10. -/
def DMC_TRN_REC.off (i j : Nat) : Nat := 0x100000 + 0x10000 * i + 0x800 + 0x4 * j
def DMC_TRN_REC.v (i j : Nat) : Field := ⟨DMC_TRN_REC.off i j, 31, 0⟩

/-- `MPE_CTRL`, R363 of file 11. -/
def MPE_CTRL.off (i : Nat) : Nat := 0x101000 + 0x10000 * i + 0x40
def MPE_CTRL.host_block (i : Nat) : Field := ⟨MPE_CTRL.off i, 31, 31⟩

/-- `MPE_CARVE`, R363 of file 11. -/
def MPE_CARVE.off (i : Nat) : Nat := 0x101000 + 0x10000 * i + 0x44
def MPE_CARVE.mib (i : Nat) : Field := ⟨MPE_CARVE.off i, 15, 0⟩

/-- `MPE_DCAP`, R363 of file 11. -/
def MPE_DCAP.off (i : Nat) : Nat := 0x101000 + 0x10000 * i + 0x48
def MPE_DCAP.mib (i : Nat) : Field := ⟨MPE_DCAP.off i, 15, 0⟩

/-- `MPE_KEY_MODE`, R363 of file 11. -/
def MPE_KEY_MODE.off (i j : Nat) : Nat := 0x101000 + 0x10000 * i + 0x50 + 0x4 * j
def MPE_KEY_MODE.v (i j : Nat) : Field := ⟨MPE_KEY_MODE.off i j, 31, 0⟩

/-- `MPE_KEY_CMD`, R363 of file 11. -/
def MPE_KEY_CMD.off (i : Nat) : Nat := 0x101000 + 0x10000 * i + 0x60
def MPE_KEY_CMD.load (i : Nat) : Field := ⟨MPE_KEY_CMD.off i, 31, 31⟩
def MPE_KEY_CMD.erase (i : Nat) : Field := ⟨MPE_KEY_CMD.off i, 30, 30⟩
def MPE_KEY_CMD.result (i : Nat) : Field := ⟨MPE_KEY_CMD.off i, 29, 28⟩
def MPE_KEY_CMD.key_id (i : Nat) : Field := ⟨MPE_KEY_CMD.off i, 5, 0⟩

/-- `MPE_KEY_VALID`, R363 of file 11. -/
def MPE_KEY_VALID.off (i j : Nat) : Nat := 0x101000 + 0x10000 * i + 0x68 + 0x4 * j
def MPE_KEY_VALID.v (i j : Nat) : Field := ⟨MPE_KEY_VALID.off i j, 31, 0⟩

/-- `MPE_KEY`, R363 of file 11. -/
def MPE_KEY.off (i j : Nat) : Nat := 0x101000 + 0x10000 * i + 0x70 + 0x4 * j
def MPE_KEY.v (i j : Nat) : Field := ⟨MPE_KEY.off i j, 31, 0⟩

/-- `MPE_PSN_IDX`, R363 of file 11. -/
def MPE_PSN_IDX.off (i : Nat) : Nat := 0x101000 + 0x10000 * i + 0x90
def MPE_PSN_IDX.v (i : Nat) : Field := ⟨MPE_PSN_IDX.off i, 9, 0⟩

/-- `MPE_PSN_ENT0`, R363 of file 11. -/
def MPE_PSN_ENT0.off (i : Nat) : Nat := 0x101000 + 0x10000 * i + 0x94
def MPE_PSN_ENT0.valid (i : Nat) : Field := ⟨MPE_PSN_ENT0.off i, 31, 31⟩
def MPE_PSN_ENT0.region (i : Nat) : Field := ⟨MPE_PSN_ENT0.off i, 30, 28⟩
def MPE_PSN_ENT0.level (i : Nat) : Field := ⟨MPE_PSN_ENT0.off i, 27, 24⟩

/-- `MPE_PSN_ENT1`, R363 of file 11. -/
def MPE_PSN_ENT1.off (i : Nat) : Nat := 0x101000 + 0x10000 * i + 0x98
def MPE_PSN_ENT1.index (i : Nat) : Field := ⟨MPE_PSN_ENT1.off i, 25, 0⟩

/-- `MPE_PSN_USED`, R363 of file 11. -/
def MPE_PSN_USED.off (i : Nat) : Nat := 0x101000 + 0x10000 * i + 0x9C
def MPE_PSN_USED.v (i : Nat) : Field := ⟨MPE_PSN_USED.off i, 10, 0⟩

/-- `MPE_TAG_ERR`, R363 of file 11. -/
def MPE_TAG_ERR.off (i : Nat) : Nat := 0x101000 + 0x10000 * i + 0xA0
def MPE_TAG_ERR.v (i : Nat) : Field := ⟨MPE_TAG_ERR.off i, 31, 0⟩

/-- `MPE_REENC`, R363 of file 11. -/
def MPE_REENC.off (i : Nat) : Nat := 0x101000 + 0x10000 * i + 0xA4
def MPE_REENC.v (i : Nat) : Field := ⟨MPE_REENC.off i, 31, 0⟩

/-- `MPE_CC_HIT`, R363 of file 11. -/
def MPE_CC_HIT.off (i : Nat) : Nat := 0x101000 + 0x10000 * i + 0xA8
def MPE_CC_HIT.v (i : Nat) : Field := ⟨MPE_CC_HIT.off i, 31, 0⟩

/-- `MPE_CC_MISS`, R363 of file 11. -/
def MPE_CC_MISS.off (i : Nat) : Nat := 0x101000 + 0x10000 * i + 0xAC
def MPE_CC_MISS.v (i : Nat) : Field := ⟨MPE_CC_MISS.off i, 31, 0⟩

/-- `MPE_WR_REFUSED`, R363 of file 11. -/
def MPE_WR_REFUSED.off (i : Nat) : Nat := 0x101000 + 0x10000 * i + 0xB0
def MPE_WR_REFUSED.v (i : Nat) : Field := ⟨MPE_WR_REFUSED.off i, 31, 0⟩

/-- `MPE_ACC_REFUSED`, R363 of file 11. -/
def MPE_ACC_REFUSED.off (i : Nat) : Nat := 0x101000 + 0x10000 * i + 0xB4
def MPE_ACC_REFUSED.v (i : Nat) : Field := ⟨MPE_ACC_REFUSED.off i, 31, 0⟩

/-- `MPE_RGN_CFG`, R363 of file 11. -/
def MPE_RGN_CFG.off (i r : Nat) : Nat := 0x101000 + 0x10000 * i + 0x100 + 0x40 * r
def MPE_RGN_CFG.enable (i r : Nat) : Field := ⟨MPE_RGN_CFG.off i r, 31, 31⟩
def MPE_RGN_CFG.init_go (i r : Nat) : Field := ⟨MPE_RGN_CFG.off i r, 30, 30⟩
def MPE_RGN_CFG.key (i r : Nat) : Field := ⟨MPE_RGN_CFG.off i r, 5, 0⟩

/-- `MPE_RGN_STAT`, R363 of file 11. -/
def MPE_RGN_STAT.off (i r : Nat) : Nat := 0x101000 + 0x10000 * i + 0x104 + 0x40 * r
def MPE_RGN_STAT.state (i r : Nat) : Field := ⟨MPE_RGN_STAT.off i r, 31, 28⟩
def MPE_RGN_STAT.levels (i r : Nat) : Field := ⟨MPE_RGN_STAT.off i r, 27, 24⟩
def MPE_RGN_STAT.reason (i r : Nat) : Field := ⟨MPE_RGN_STAT.off i r, 23, 20⟩
def MPE_RGN_STAT.result (i r : Nat) : Field := ⟨MPE_RGN_STAT.off i r, 19, 18⟩

/-- `MPE_RGN_BASE`, R363 of file 11. -/
def MPE_RGN_BASE.off (i r : Nat) : Nat := 0x101000 + 0x10000 * i + 0x108 + 0x40 * r
def MPE_RGN_BASE.mib (i r : Nat) : Field := ⟨MPE_RGN_BASE.off i r, 15, 0⟩

/-- `MPE_RGN_SIZE`, R363 of file 11. -/
def MPE_RGN_SIZE.off (i r : Nat) : Nat := 0x101000 + 0x10000 * i + 0x10C + 0x40 * r
def MPE_RGN_SIZE.mib (i r : Nat) : Field := ⟨MPE_RGN_SIZE.off i r, 15, 0⟩

/-- `MPE_RGN_META`, R363 of file 11. -/
def MPE_RGN_META.off (i r : Nat) : Nat := 0x101000 + 0x10000 * i + 0x110 + 0x40 * r
def MPE_RGN_META.v (i r : Nat) : Field := ⟨MPE_RGN_META.off i r, 22, 0⟩

/-- `MPE_RGN_MLEN`, R363 of file 11. -/
def MPE_RGN_MLEN.off (i r : Nat) : Nat := 0x101000 + 0x10000 * i + 0x114 + 0x40 * r
def MPE_RGN_MLEN.v (i r : Nat) : Field := ⟨MPE_RGN_MLEN.off i r, 22, 0⟩

/-- `MPE_RGN_HWM`, R363 of file 11. -/
def MPE_RGN_HWM.off (i r j : Nat) : Nat := 0x101000 + 0x10000 * i + 0x118 + 0x40 * r + 0x4 * j
def MPE_RGN_HWM.v (i r j : Nat) : Field := ⟨MPE_RGN_HWM.off i r j, 31, 0⟩

/-- `MPE_RGN_EPOCH`, R363 of file 11. -/
def MPE_RGN_EPOCH.off (i r : Nat) : Nat := 0x101000 + 0x10000 * i + 0x120 + 0x40 * r
def MPE_RGN_EPOCH.v (i r : Nat) : Field := ⟨MPE_RGN_EPOCH.off i r, 23, 0⟩

/-- `MPE_RGN_INIT_BASE`, R363 of file 11. -/
def MPE_RGN_INIT_BASE.off (i r : Nat) : Nat := 0x101000 + 0x10000 * i + 0x124 + 0x40 * r
def MPE_RGN_INIT_BASE.v (i r : Nat) : Field := ⟨MPE_RGN_INIT_BASE.off i r, 22, 0⟩

/-- `MPE_RGN_INIT_LEN`, R363 of file 11. -/
def MPE_RGN_INIT_LEN.off (i r : Nat) : Nat := 0x101000 + 0x10000 * i + 0x128 + 0x40 * r
def MPE_RGN_INIT_LEN.v (i r : Nat) : Field := ⟨MPE_RGN_INIT_LEN.off i r, 22, 0⟩

/-- `PCI_CFG`, R396 of file 12. -/
def PCI_CFG.off : Nat := 0x200040
def PCI_CFG.enable : Field := ⟨PCI_CFG.off, 31, 31⟩
def PCI_CFG.flit_allow : Field := ⟨PCI_CFG.off, 30, 30⟩
def PCI_CFG.max_rate : Field := ⟨PCI_CFG.off, 29, 27⟩
def PCI_CFG.max_width : Field := ⟨PCI_CFG.off, 26, 24⟩
def PCI_CFG.pf1_en : Field := ⟨PCI_CFG.off, 23, 23⟩
def PCI_CFG.vfs0 : Field := ⟨PCI_CFG.off, 22, 16⟩
def PCI_CFG.vfs1 : Field := ⟨PCI_CFG.off, 14, 8⟩

/-- `PCI_SUBSYS`, R396 of file 12. -/
def PCI_SUBSYS.off : Nat := 0x200044
def PCI_SUBSYS.ssid : Field := ⟨PCI_SUBSYS.off, 31, 16⟩
def PCI_SUBSYS.ssvid : Field := ⟨PCI_SUBSYS.off, 15, 0⟩

/-- `PCI_LINK`, R396 of file 12. -/
def PCI_LINK.off : Nat := 0x200048
def PCI_LINK.ltssm : Field := ⟨PCI_LINK.off, 31, 28⟩
def PCI_LINK.rate : Field := ⟨PCI_LINK.off, 27, 25⟩
def PCI_LINK.width : Field := ⟨PCI_LINK.off, 24, 20⟩
def PCI_LINK.flit : Field := ⟨PCI_LINK.off, 19, 19⟩
def PCI_LINK.l1_sub : Field := ⟨PCI_LINK.off, 18, 17⟩
def PCI_LINK.downs : Field := ⟨PCI_LINK.off, 7, 0⟩

/-- `PCI_PM`, R396 of file 12. -/
def PCI_PM.off : Nat := 0x20004C
def PCI_PM.pme_en : Field := ⟨PCI_PM.off, 5, 4⟩
def PCI_PM.d_pf1 : Field := ⟨PCI_PM.off, 3, 2⟩
def PCI_PM.d_pf0 : Field := ⟨PCI_PM.off, 1, 0⟩

/-- `PCI_FN_CFG`, R396 of file 12. -/
def PCI_FN_CFG.off : Nat := 0x200050
def PCI_FN_CFG.cls : Field := ⟨PCI_FN_CFG.off, 9, 8⟩
def PCI_FN_CFG.key : Field := ⟨PCI_FN_CFG.off, 5, 0⟩

/-- `PCI_LTR`, R396 of file 12. -/
def PCI_LTR.off : Nat := 0x200054
def PCI_LTR.nosnoop : Field := ⟨PCI_LTR.off, 31, 16⟩
def PCI_LTR.snoop : Field := ⟨PCI_LTR.off, 15, 0⟩

/-- `PCI_RX_ERR`, R396 of file 12. -/
def PCI_RX_ERR.off : Nat := 0x200058
def PCI_RX_ERR.v : Field := ⟨PCI_RX_ERR.off, 31, 0⟩

/-- `PCI_FN_CFG1`, R396 of file 12. -/
def PCI_FN_CFG1.off : Nat := 0x201050
def PCI_FN_CFG1.cls : Field := ⟨PCI_FN_CFG1.off, 9, 8⟩
def PCI_FN_CFG1.key : Field := ⟨PCI_FN_CFG1.off, 5, 0⟩

/-- `SE_CTRL`, R396 of file 12. -/
def SE_CTRL.off : Nat := 0x210040
def SE_CTRL.enable : Field := ⟨SE_CTRL.off, 31, 31⟩

/-- `SE_ARB`, R396 of file 12. -/
def SE_ARB.off : Nat := 0x210044
def SE_ARB.hi : Field := ⟨SE_ARB.off, 11, 8⟩
def SE_ARB.norm : Field := ⟨SE_ARB.off, 7, 4⟩
def SE_ARB.bulk : Field := ⟨SE_ARB.off, 3, 0⟩

/-- `SE_OUT`, R396 of file 12. -/
def SE_OUT.off : Nat := 0x210048
def SE_OUT.port_a : Field := ⟨SE_OUT.off, 28, 16⟩
def SE_OUT.port_b : Field := ⟨SE_OUT.off, 12, 0⟩

/-- `SE_DESC_DONE`, R396 of file 12. -/
def SE_DESC_DONE.off : Nat := 0x210050
def SE_DESC_DONE.v : Field := ⟨SE_DESC_DONE.off, 31, 0⟩

/-- `SE_DESC_ERR`, R396 of file 12. -/
def SE_DESC_ERR.off : Nat := 0x210054
def SE_DESC_ERR.v : Field := ⟨SE_DESC_ERR.off, 31, 0⟩

/-- `SE_DB_REFUSED`, R396 of file 12. -/
def SE_DB_REFUSED.off : Nat := 0x210058
def SE_DB_REFUSED.v : Field := ⟨SE_DB_REFUSED.off, 31, 0⟩

/-- `SE_VF_MAP`, R396 of file 12. -/
def SE_VF_MAP.off (j : Nat) : Nat := 0x211100 + 0x4 * j
def SE_VF_MAP.base (j : Nat) : Field := ⟨SE_VF_MAP.off j, 31, 16⟩
def SE_VF_MAP.count (j : Nat) : Field := ⟨SE_VF_MAP.off j, 10, 0⟩

/-- `SLU_CFG`, R396 of file 12. -/
def SLU_CFG.off (j : Nat) : Nat := 0x220000 + 0x1000 * (j / 128) + 0x800 + 0x10 * (j % 128)
def SLU_CFG.count_max (j : Nat) : Field := ⟨SLU_CFG.off j, 31, 16⟩
def SLU_CFG.time_us (j : Nat) : Field := ⟨SLU_CFG.off j, 15, 0⟩

/-- `SLU_TGT`, R396 of file 12. -/
def SLU_TGT.off (j : Nat) : Nat := 0x220000 + 0x1000 * (j / 128) + 0x804 + 0x10 * (j % 128)
def SLU_TGT.enable (j : Nat) : Field := ⟨SLU_TGT.off j, 31, 31⟩
def SLU_TGT.pf (j : Nat) : Field := ⟨SLU_TGT.off j, 24, 24⟩
def SLU_TGT.vf (j : Nat) : Field := ⟨SLU_TGT.off j, 22, 16⟩
def SLU_TGT.vector (j : Nat) : Field := ⟨SLU_TGT.off j, 10, 0⟩

/-- `SLU_STAT`, R396 of file 12. -/
def SLU_STAT.off (j : Nat) : Nat := 0x220000 + 0x1000 * (j / 128) + 0x808 + 0x10 * (j % 128)
def SLU_STAT.count (j : Nat) : Field := ⟨SLU_STAT.off j, 31, 16⟩
def SLU_STAT.timing (j : Nat) : Field := ⟨SLU_STAT.off j, 15, 15⟩
def SLU_STAT.held (j : Nat) : Field := ⟨SLU_STAT.off j, 14, 14⟩
def SLU_STAT.pme_sent (j : Nat) : Field := ⟨SLU_STAT.off j, 13, 13⟩

/-- `SLU_REL`, R396 of file 12. -/
def SLU_REL.off (j : Nat) : Nat := 0x220000 + 0x1000 * (j / 128) + 0x80C + 0x10 * (j % 128)
def SLU_REL.v (j : Nat) : Field := ⟨SLU_REL.off j, 31, 0⟩

/-- `CC_CTRL`, R426 of file 13. -/
def CC_CTRL.off : Nat := 0x300040
def CC_CTRL.zn3200 : Field := ⟨CC_CTRL.off, 0, 0⟩

/-- `CC_L2_PART`, R426 of file 13. -/
def CC_L2_PART.off : Nat := 0x300044
def CC_L2_PART.mem_ways : Field := ⟨CC_L2_PART.off, 4, 0⟩

/-- `CC_L2_MAINT`, R426 of file 13. -/
def CC_L2_MAINT.off (j : Nat) : Nat := 0x300048 + 0x4 * j
def CC_L2_MAINT.v (j : Nat) : Field := ⟨CC_L2_MAINT.off j, 31, 0⟩

/-- `CC_L2_MAINT2`, R426 of file 13. -/
def CC_L2_MAINT2.off : Nat := 0x300050
def CC_L2_MAINT2.go : Field := ⟨CC_L2_MAINT2.off, 31, 31⟩
def CC_L2_MAINT2.busy : Field := ⟨CC_L2_MAINT2.off, 30, 30⟩
def CC_L2_MAINT2.op : Field := ⟨CC_L2_MAINT2.off, 29, 28⟩
def CC_L2_MAINT2.length : Field := ⟨CC_L2_MAINT2.off, 27, 0⟩

/-- `CC_UNC`, R426 of file 13. -/
def CC_UNC.off (j : Nat) : Nat := 0x300060 + 0x8 * j
def CC_UNC.base (j : Nat) : Field := ⟨CC_UNC.off j, 31, 12⟩
def CC_UNC.size (j : Nat) : Field := ⟨CC_UNC.off j, 11, 0⟩

/-- `CC_IC_PERR`, R426 of file 13. -/
def CC_IC_PERR.off : Nat := 0x3000A0
def CC_IC_PERR.v : Field := ⟨CC_IC_PERR.off, 31, 0⟩

/-- `CC_CORE_CTRL`, R426 of file 13. -/
def CC_CORE_CTRL.off (i : Nat) : Nat := 0x301000 + 0x1000 * i + 0x40
def CC_CORE_CTRL.run (i : Nat) : Field := ⟨CC_CORE_CTRL.off i, 0, 0⟩

/-- `CC_RESET_VEC`, R426 of file 13. -/
def CC_RESET_VEC.off (i j : Nat) : Nat := 0x301000 + 0x1000 * i + 0x48 + 0x4 * j
def CC_RESET_VEC.v (i j : Nat) : Field := ⟨CC_RESET_VEC.off i j, 31, 0⟩

/-- `CC_WAKE_VEC`, R426 of file 13. -/
def CC_WAKE_VEC.off (i j : Nat) : Nat := 0x301000 + 0x1000 * i + 0x50 + 0x4 * j
def CC_WAKE_VEC.v (i j : Nat) : Field := ⟨CC_WAKE_VEC.off i j, 31, 0⟩

/-- `CC_MTIMECMP`, R426 of file 13. -/
def CC_MTIMECMP.off (i j : Nat) : Nat := 0x301000 + 0x1000 * i + 0x58 + 0x4 * j
def CC_MTIMECMP.v (i j : Nat) : Field := ⟨CC_MTIMECMP.off i j, 31, 0⟩

/-- `CC_MSIP`, R426 of file 13. -/
def CC_MSIP.off (i : Nat) : Nat := 0x301000 + 0x1000 * i + 0x60
def CC_MSIP.v (i : Nat) : Field := ⟨CC_MSIP.off i, 0, 0⟩

/-- `IC_SWI`, R426 of file 13. -/
def IC_SWI.off : Nat := 0x310040
def IC_SWI.v : Field := ⟨IC_SWI.off, 15, 0⟩

/-- `IC_PEND`, R426 of file 13. -/
def IC_PEND.off (j : Nat) : Nat := 0x310100 + 0x4 * j
def IC_PEND.v (j : Nat) : Field := ⟨IC_PEND.off j, 31, 0⟩

/-- `IC_EN`, R426 of file 13. -/
def IC_EN.off (j : Nat) : Nat := 0x310200 + 0x4 * j
def IC_EN.v (j : Nat) : Field := ⟨IC_EN.off j, 31, 0⟩

/-- `IC_INSV`, R426 of file 13. -/
def IC_INSV.off (j : Nat) : Nat := 0x310300 + 0x4 * j
def IC_INSV.v (j : Nat) : Field := ⟨IC_INSV.off j, 31, 0⟩

/-- `IC_FIRQ_SEL`, R426 of file 13. -/
def IC_FIRQ_SEL.off (j : Nat) : Nat := 0x310400 + 0x4 * j
def IC_FIRQ_SEL.v (j : Nat) : Field := ⟨IC_FIRQ_SEL.off j, 31, 0⟩

/-- `IC_SRC_CFG`, R426 of file 13. -/
def IC_SRC_CFG.off (s : Nat) : Nat := 0x311000 + 0x1000 * (s / 512) + 0x40 + 4 * (s % 512)
def IC_SRC_CFG.count (s : Nat) : Field := ⟨IC_SRC_CFG.off s, 31, 24⟩
def IC_SRC_CFG.target (s : Nat) : Field := ⟨IC_SRC_CFG.off s, 23, 16⟩
def IC_SRC_CFG.cls (s : Nat) : Field := ⟨IC_SRC_CFG.off s, 1, 1⟩
def IC_SRC_CFG.mode (s : Nat) : Field := ⟨IC_SRC_CFG.off s, 0, 0⟩

/-- `IC_CLAIM_N`, R426 of file 13. -/
def IC_CLAIM_N.off (i : Nat) : Nat := 0x313000 + 0x1000 * i + 0x40
def IC_CLAIM_N.count (i : Nat) : Field := ⟨IC_CLAIM_N.off i, 31, 24⟩
def IC_CLAIM_N.source (i : Nat) : Field := ⟨IC_CLAIM_N.off i, 9, 0⟩

/-- `IC_CLAIM_F`, R426 of file 13. -/
def IC_CLAIM_F.off (i : Nat) : Nat := 0x313000 + 0x1000 * i + 0x44
def IC_CLAIM_F.count (i : Nat) : Field := ⟨IC_CLAIM_F.off i, 31, 24⟩
def IC_CLAIM_F.source (i : Nat) : Field := ⟨IC_CLAIM_F.off i, 9, 0⟩

/-- `IC_COMPLETE`, R426 of file 13. -/
def IC_COMPLETE.off (i : Nat) : Nat := 0x313000 + 0x1000 * i + 0x48
def IC_COMPLETE.source (i : Nat) : Field := ⟨IC_COMPLETE.off i, 9, 0⟩

/-- `IC_CORE_CFG`, R426 of file 13. -/
def IC_CORE_CFG.off (i : Nat) : Nat := 0x313000 + 0x1000 * i + 0x4C
def IC_CORE_CFG.smode (i : Nat) : Field := ⟨IC_CORE_CFG.off i, 0, 0⟩

/-- `IC_CMPL_BAD`, R426 of file 13. -/
def IC_CMPL_BAD.off (i : Nat) : Nat := 0x313000 + 0x1000 * i + 0x50
def IC_CMPL_BAD.v (i : Nat) : Field := ⟨IC_CMPL_BAD.off i, 31, 0⟩

/-- `TS_CTRL`, R426 of file 13. -/
def TS_CTRL.off : Nat := 0x320040
def TS_CTRL.stat_clear : Field := ⟨TS_CTRL.off, 31, 31⟩
def TS_CTRL.enable : Field := ⟨TS_CTRL.off, 0, 0⟩

/-- `TS_TICK`, R426 of file 13. -/
def TS_TICK.off : Nat := 0x320044
def TS_TICK.v : Field := ⟨TS_TICK.off, 13, 0⟩

/-- `TS_WIN`, R426 of file 13. -/
def TS_WIN.off : Nat := 0x320048
def TS_WIN.v : Field := ⟨TS_WIN.off, 9, 0⟩

/-- `TS_CMD`, R426 of file 13. -/
def TS_CMD.off : Nat := 0x32004C
def TS_CMD.op : Field := ⟨TS_CMD.off, 31, 28⟩
def TS_CMD.task : Field := ⟨TS_CMD.off, 11, 0⟩

/-- `TS_CMD_RES`, R426 of file 13. -/
def TS_CMD_RES.off : Nat := 0x320050
def TS_CMD_RES.v : Field := ⟨TS_CMD_RES.off, 1, 0⟩

/-- `TS_DONE`, R426 of file 13. -/
def TS_DONE.off : Nat := 0x320054
def TS_DONE.action : Field := ⟨TS_DONE.off, 31, 28⟩
def TS_DONE.task : Field := ⟨TS_DONE.off, 11, 0⟩

/-- `TS_TIME`, R426 of file 13. -/
def TS_TIME.off (j : Nat) : Nat := 0x320058 + 0x4 * j
def TS_TIME.v (j : Nat) : Field := ⟨TS_TIME.off j, 31, 0⟩

/-- `TS_POST_DROP`, R426 of file 13. -/
def TS_POST_DROP.off : Nat := 0x320060
def TS_POST_DROP.v : Field := ⟨TS_POST_DROP.off, 31, 0⟩

/-- `TS_BAD_DONE`, R426 of file 13. -/
def TS_BAD_DONE.off : Nat := 0x320064
def TS_BAD_DONE.v : Field := ⟨TS_BAD_DONE.off, 31, 0⟩

/-- `TS_WR_REFUSED`, R426 of file 13. -/
def TS_WR_REFUSED.off : Nat := 0x320068
def TS_WR_REFUSED.v : Field := ⟨TS_WR_REFUSED.off, 31, 0⟩

/-- `TS_LATE`, R426 of file 13. -/
def TS_LATE.off : Nat := 0x32006C
def TS_LATE.v : Field := ⟨TS_LATE.off, 31, 0⟩

/-- `TS_ABANDON`, R426 of file 13. -/
def TS_ABANDON.off : Nat := 0x320070
def TS_ABANDON.v : Field := ⟨TS_ABANDON.off, 31, 0⟩

/-- `TS_QUEUE`, R426 of file 13. -/
def TS_QUEUE.off : Nat := 0x320074
def TS_QUEUE.v : Field := ⟨TS_QUEUE.off, 9, 0⟩

/-- `TS_NEXT`, R426 of file 13. -/
def TS_NEXT.off (j : Nat) : Nat := 0x320100 + 0x10 * j
def TS_NEXT.v (j : Nat) : Field := ⟨TS_NEXT.off j, 31, 0⟩

/-- `TS_SLOT_CFG`, R426 of file 13. -/
def TS_SLOT_CFG.off (s : Nat) : Nat := 0x320200 + 0x10 * s
def TS_SLOT_CFG.en (s : Nat) : Field := ⟨TS_SLOT_CFG.off s, 31, 31⟩
def TS_SLOT_CFG.depth (s : Nat) : Field := ⟨TS_SLOT_CFG.off s, 4, 0⟩

/-- `TS_SLOT_ADDR`, R426 of file 13. -/
def TS_SLOT_ADDR.off (s j : Nat) : Nat := 0x320204 + 0x10 * s + 0x4 * j
def TS_SLOT_ADDR.v (s j : Nat) : Field := ⟨TS_SLOT_ADDR.off s j, 31, 0⟩

/-- `TS_DEPTH`, R426 of file 13. -/
def TS_DEPTH.off (g : Nat) : Nat := 0x321100 + 0x8 * g
def TS_DEPTH.v (g : Nat) : Field := ⟨TS_DEPTH.off g, 12, 0⟩

/-- `TS_LOAD`, R426 of file 13. -/
def TS_LOAD.off (g : Nat) : Nat := 0x321104 + 0x8 * g
def TS_LOAD.insuff (g : Nat) : Field := ⟨TS_LOAD.off g, 31, 31⟩
def TS_LOAD.load (g : Nat) : Field := ⟨TS_LOAD.off g, 15, 0⟩

/-- `TS_HIST`, R426 of file 13. -/
def TS_HIST.off (g j : Nat) : Nat := 0x322100 + 0x20 * g + 0x4 * j
def TS_HIST.v (g j : Nat) : Field := ⟨TS_HIST.off g j, 31, 0⟩

/-- `XCV_Q_CFG`, R452 of file 14. -/
def XCV_Q_CFG.off (i : Nat) : Nat := 0x400000 + 0x1000 * i + 0x40
def XCV_Q_CFG.mirror (i : Nat) : Field := ⟨XCV_Q_CFG.off i, 31, 31⟩
def XCV_Q_CFG.fi_enable (i : Nat) : Field := ⟨XCV_Q_CFG.off i, 30, 30⟩

/-- `XCV_Q_STAT`, R452 of file 14. -/
def XCV_Q_STAT.off (i : Nat) : Nat := 0x400000 + 0x1000 * i + 0x44
def XCV_Q_STAT.qpa_locked (i : Nat) : Field := ⟨XCV_Q_STAT.off i, 31, 31⟩
def XCV_Q_STAT.qpb_locked (i : Nat) : Field := ⟨XCV_Q_STAT.off i, 30, 30⟩
def XCV_Q_STAT.range_err (i : Nat) : Field := ⟨XCV_Q_STAT.off i, 29, 29⟩
def XCV_Q_STAT.losses (i : Nat) : Field := ⟨XCV_Q_STAT.off i, 7, 0⟩

/-- `XCV_QP_CFG`, R452 of file 14. -/
def XCV_QP_CFG.off (i b : Nat) : Nat := 0x400000 + 0x1000 * i + 0x48 + 0x8 * b
def XCV_QP_CFG.en (i b : Nat) : Field := ⟨XCV_QP_CFG.off i b, 31, 31⟩
def XCV_QP_CFG.apply (i b : Nat) : Field := ⟨XCV_QP_CFG.off i b, 30, 30⟩
def XCV_QP_CFG.ref (i b : Nat) : Field := ⟨XCV_QP_CFG.off i b, 29, 28⟩
def XCV_QP_CFG.m (i b : Nat) : Field := ⟨XCV_QP_CFG.off i b, 25, 24⟩
def XCV_QP_CFG.n (i b : Nat) : Field := ⟨XCV_QP_CFG.off i b, 23, 16⟩

/-- `XCV_QP_FRAC`, R452 of file 14. -/
def XCV_QP_FRAC.off (i b : Nat) : Nat := 0x400000 + 0x1000 * i + 0x4C + 0x8 * b
def XCV_QP_FRAC.v (i b : Nat) : Field := ⟨XCV_QP_FRAC.off i b, 23, 0⟩

/-- `XCV_DL_CFG`, R452 of file 14. -/
def XCV_DL_CFG.off (i : Nat) : Nat := 0x400000 + 0x1000 * i + 0x58
def XCV_DL_CFG.sr (i : Nat) : Field := ⟨XCV_DL_CFG.off i, 9, 8⟩
def XCV_DL_CFG.fill (i : Nat) : Field := ⟨XCV_DL_CFG.off i, 5, 0⟩

/-- `XCV_RATE`, R452 of file 14. -/
def XCV_RATE.off (i j : Nat) : Nat := 0x400000 + 0x1000 * i + 0x60 + 0x4 * j
def XCV_RATE.pam4 (i j : Nat) : Field := ⟨XCV_RATE.off i j, 31, 31⟩
def XCV_RATE.pll (i j : Nat) : Field := ⟨XCV_RATE.off i j, 30, 30⟩
def XCV_RATE.d (i j : Nat) : Field := ⟨XCV_RATE.off i j, 29, 27⟩

/-- `XCV_LN_CFG`, R452 of file 14. -/
def XCV_LN_CFG.off (n : Nat) : Nat := 0x400000 + 0x1000 * (n / 4) + 0x100 + 0x40 * (n % 4)
def XCV_LN_CFG.pstate (n : Nat) : Field := ⟨XCV_LN_CFG.off n, 31, 30⟩
def XCV_LN_CFG.tx_en (n : Nat) : Field := ⟨XCV_LN_CFG.off n, 29, 29⟩
def XCV_LN_CFG.rx_en (n : Nat) : Field := ⟨XCV_LN_CFG.off n, 28, 28⟩
def XCV_LN_CFG.coding (n : Nat) : Field := ⟨XCV_LN_CFG.off n, 27, 26⟩
def XCV_LN_CFG.width (n : Nat) : Field := ⟨XCV_LN_CFG.off n, 25, 24⟩
def XCV_LN_CFG.tx_pll (n : Nat) : Field := ⟨XCV_LN_CFG.off n, 23, 23⟩
def XCV_LN_CFG.rx_pll (n : Nat) : Field := ⟨XCV_LN_CFG.off n, 22, 22⟩
def XCV_LN_CFG.tx_d (n : Nat) : Field := ⟨XCV_LN_CFG.off n, 21, 19⟩
def XCV_LN_CFG.rx_d (n : Nat) : Field := ⟨XCV_LN_CFG.off n, 18, 16⟩
def XCV_LN_CFG.pam4 (n : Nat) : Field := ⟨XCV_LN_CFG.off n, 15, 15⟩
def XCV_LN_CFG.tx_precode (n : Nat) : Field := ⟨XCV_LN_CFG.off n, 14, 14⟩
def XCV_LN_CFG.rx_precode (n : Nat) : Field := ⟨XCV_LN_CFG.off n, 13, 13⟩
def XCV_LN_CFG.tx_inv (n : Nat) : Field := ⟨XCV_LN_CFG.off n, 12, 12⟩
def XCV_LN_CFG.rx_inv (n : Nat) : Field := ⟨XCV_LN_CFG.off n, 11, 11⟩
def XCV_LN_CFG.dl (n : Nat) : Field := ⟨XCV_LN_CFG.off n, 10, 10⟩
def XCV_LN_CFG.scr (n : Nat) : Field := ⟨XCV_LN_CFG.off n, 9, 9⟩
def XCV_LN_CFG.comma_cont (n : Nat) : Field := ⟨XCV_LN_CFG.off n, 8, 8⟩
def XCV_LN_CFG.fec_bypass (n : Nat) : Field := ⟨XCV_LN_CFG.off n, 7, 7⟩

/-- `XCV_LN_GRP`, R452 of file 14. -/
def XCV_LN_GRP.off (n : Nat) : Nat := 0x400000 + 0x1000 * (n / 4) + 0x104 + 0x40 * (n % 4)
def XCV_LN_GRP.lead (n : Nat) : Field := ⟨XCV_LN_GRP.off n, 31, 31⟩
def XCV_LN_GRP.train (n : Nat) : Field := ⟨XCV_LN_GRP.off n, 30, 29⟩
def XCV_LN_GRP.count (n : Nat) : Field := ⟨XCV_LN_GRP.off n, 28, 23⟩
def XCV_LN_GRP.rate_max (n : Nat) : Field := ⟨XCV_LN_GRP.off n, 22, 21⟩
def XCV_LN_GRP.rate_min (n : Nat) : Field := ⟨XCV_LN_GRP.off n, 20, 19⟩
def XCV_LN_GRP.tag (n : Nat) : Field := ⟨XCV_LN_GRP.off n, 15, 0⟩

/-- `XCV_LN_STAT`, R452 of file 14. -/
def XCV_LN_STAT.off (n : Nat) : Nat := 0x400000 + 0x1000 * (n / 4) + 0x108 + 0x40 * (n % 4)
def XCV_LN_STAT.pstate (n : Nat) : Field := ⟨XCV_LN_STAT.off n, 31, 30⟩
def XCV_LN_STAT.locked (n : Nat) : Field := ⟨XCV_LN_STAT.off n, 29, 29⟩
def XCV_LN_STAT.fec_locked (n : Nat) : Field := ⟨XCV_LN_STAT.off n, 28, 28⟩
def XCV_LN_STAT.los (n : Nat) : Field := ⟨XCV_LN_STAT.off n, 27, 27⟩
def XCV_LN_STAT.pol_inv (n : Nat) : Field := ⟨XCV_LN_STAT.off n, 26, 26⟩
def XCV_LN_STAT.grp_state (n : Nat) : Field := ⟨XCV_LN_STAT.off n, 25, 23⟩
def XCV_LN_STAT.rate_idx (n : Nat) : Field := ⟨XCV_LN_STAT.off n, 22, 21⟩
def XCV_LN_STAT.step_fail (n : Nat) : Field := ⟨XCV_LN_STAT.off n, 20, 20⟩
def XCV_LN_STAT.reason (n : Nat) : Field := ⟨XCV_LN_STAT.off n, 19, 17⟩
def XCV_LN_STAT.cfg_err (n : Nat) : Field := ⟨XCV_LN_STAT.off n, 16, 16⟩
def XCV_LN_STAT.ebuf_err (n : Nat) : Field := ⟨XCV_LN_STAT.off n, 15, 15⟩
def XCV_LN_STAT.slip (n : Nat) : Field := ⟨XCV_LN_STAT.off n, 14, 8⟩
def XCV_LN_STAT.dl_fill (n : Nat) : Field := ⟨XCV_LN_STAT.off n, 5, 0⟩

/-- `XCV_LN_MAINT`, R452 of file 14. -/
def XCV_LN_MAINT.off (n : Nat) : Nat := 0x400000 + 0x1000 * (n / 4) + 0x10C + 0x40 * (n % 4)
def XCV_LN_MAINT.cal (n : Nat) : Field := ⟨XCV_LN_MAINT.off n, 31, 31⟩
def XCV_LN_MAINT.force (n : Nat) : Field := ⟨XCV_LN_MAINT.off n, 30, 30⟩
def XCV_LN_MAINT.answer (n : Nat) : Field := ⟨XCV_LN_MAINT.off n, 29, 28⟩
def XCV_LN_MAINT.done (n : Nat) : Field := ⟨XCV_LN_MAINT.off n, 27, 27⟩

/-- `XCV_LN_PRBS`, R452 of file 14. -/
def XCV_LN_PRBS.off (n : Nat) : Nat := 0x400000 + 0x1000 * (n / 4) + 0x110 + 0x40 * (n % 4)
def XCV_LN_PRBS.tx_en (n : Nat) : Field := ⟨XCV_LN_PRBS.off n, 31, 31⟩
def XCV_LN_PRBS.rx_en (n : Nat) : Field := ⟨XCV_LN_PRBS.off n, 30, 30⟩
def XCV_LN_PRBS.pattern (n : Nat) : Field := ⟨XCV_LN_PRBS.off n, 29, 27⟩
def XCV_LN_PRBS.locked (n : Nat) : Field := ⟨XCV_LN_PRBS.off n, 26, 26⟩
def XCV_LN_PRBS.inverted (n : Nat) : Field := ⟨XCV_LN_PRBS.off n, 25, 25⟩

/-- `XCV_LN_PRBS_ERR0`, R452 of file 14. -/
def XCV_LN_PRBS_ERR0.off (n : Nat) : Nat := 0x400000 + 0x1000 * (n / 4) + 0x114 + 0x40 * (n % 4)
def XCV_LN_PRBS_ERR0.v (n : Nat) : Field := ⟨XCV_LN_PRBS_ERR0.off n, 31, 0⟩

/-- `XCV_LN_PRBS_ERR1`, R452 of file 14. -/
def XCV_LN_PRBS_ERR1.off (n : Nat) : Nat := 0x400000 + 0x1000 * (n / 4) + 0x118 + 0x40 * (n % 4)
def XCV_LN_PRBS_ERR1.v (n : Nat) : Field := ⟨XCV_LN_PRBS_ERR1.off n, 15, 0⟩

/-- `XCV_LN_ES_CFG`, R452 of file 14. -/
def XCV_LN_ES_CFG.off (n : Nat) : Nat := 0x400000 + 0x1000 * (n / 4) + 0x11C + 0x40 * (n % 4)
def XCV_LN_ES_CFG.go (n : Nat) : Field := ⟨XCV_LN_ES_CFG.off n, 31, 31⟩
def XCV_LN_ES_CFG.busy (n : Nat) : Field := ⟨XCV_LN_ES_CFG.off n, 30, 30⟩
def XCV_LN_ES_CFG.answer (n : Nat) : Field := ⟨XCV_LN_ES_CFG.off n, 29, 28⟩
def XCV_LN_ES_CFG.horizontal (n : Nat) : Field := ⟨XCV_LN_ES_CFG.off n, 27, 22⟩
def XCV_LN_ES_CFG.vertical (n : Nat) : Field := ⟨XCV_LN_ES_CFG.off n, 21, 14⟩
def XCV_LN_ES_CFG.eye (n : Nat) : Field := ⟨XCV_LN_ES_CFG.off n, 13, 12⟩
def XCV_LN_ES_CFG.n (n : Nat) : Field := ⟨XCV_LN_ES_CFG.off n, 5, 0⟩

/-- `XCV_LN_ES_ERR0`, R452 of file 14. -/
def XCV_LN_ES_ERR0.off (n : Nat) : Nat := 0x400000 + 0x1000 * (n / 4) + 0x120 + 0x40 * (n % 4)
def XCV_LN_ES_ERR0.v (n : Nat) : Field := ⟨XCV_LN_ES_ERR0.off n, 31, 0⟩

/-- `XCV_LN_ES_ERR1`, R452 of file 14. -/
def XCV_LN_ES_ERR1.off (n : Nat) : Nat := 0x400000 + 0x1000 * (n / 4) + 0x124 + 0x40 * (n % 4)
def XCV_LN_ES_ERR1.v (n : Nat) : Field := ⟨XCV_LN_ES_ERR1.off n, 15, 0⟩

/-- `XCV_LN_FI`, R452 of file 14. -/
def XCV_LN_FI.off (n : Nat) : Nat := 0x400000 + 0x1000 * (n / 4) + 0x128 + 0x40 * (n % 4)
def XCV_LN_FI.arm (n : Nat) : Field := ⟨XCV_LN_FI.off n, 31, 31⟩
def XCV_LN_FI.armed (n : Nat) : Field := ⟨XCV_LN_FI.off n, 30, 30⟩
def XCV_LN_FI.mode (n : Nat) : Field := ⟨XCV_LN_FI.off n, 29, 28⟩
def XCV_LN_FI.skip (n : Nat) : Field := ⟨XCV_LN_FI.off n, 27, 20⟩
def XCV_LN_FI.times (n : Nat) : Field := ⟨XCV_LN_FI.off n, 19, 12⟩
def XCV_LN_FI.bit (n : Nat) : Field := ⟨XCV_LN_FI.off n, 11, 4⟩
def XCV_LN_FI.nbits (n : Nat) : Field := ⟨XCV_LN_FI.off n, 3, 0⟩

/-- `XCV_LN_FEC_CORR`, R452 of file 14. -/
def XCV_LN_FEC_CORR.off (n : Nat) : Nat := 0x400000 + 0x1000 * (n / 4) + 0x12C + 0x40 * (n % 4)
def XCV_LN_FEC_CORR.v (n : Nat) : Field := ⟨XCV_LN_FEC_CORR.off n, 31, 0⟩

/-- `XCV_LN_FEC_UNC`, R452 of file 14. -/
def XCV_LN_FEC_UNC.off (n : Nat) : Nat := 0x400000 + 0x1000 * (n / 4) + 0x130 + 0x40 * (n % 4)
def XCV_LN_FEC_UNC.v (n : Nat) : Field := ⟨XCV_LN_FEC_UNC.off n, 31, 0⟩

/-- `XCV_LN_HDRERR`, R452 of file 14. -/
def XCV_LN_HDRERR.off (n : Nat) : Nat := 0x400000 + 0x1000 * (n / 4) + 0x134 + 0x40 * (n % 4)
def XCV_LN_HDRERR.v (n : Nat) : Field := ⟨XCV_LN_HDRERR.off n, 31, 0⟩

/-- `XCV_LN_EBUF`, R452 of file 14. -/
def XCV_LN_EBUF.off (n : Nat) : Nat := 0x400000 + 0x1000 * (n / 4) + 0x138 + 0x40 * (n % 4)
def XCV_LN_EBUF.v (n : Nat) : Field := ⟨XCV_LN_EBUF.off n, 31, 0⟩

/-- `XCV_LN_FAULT`, R452 of file 14. -/
def XCV_LN_FAULT.off (n : Nat) : Nat := 0x400000 + 0x1000 * (n / 4) + 0x13C + 0x40 * (n % 4)
def XCV_LN_FAULT.clear (n : Nat) : Field := ⟨XCV_LN_FAULT.off n, 31, 31⟩
def XCV_LN_FAULT.fault (n : Nat) : Field := ⟨XCV_LN_FAULT.off n, 30, 28⟩
def XCV_LN_FAULT.retries (n : Nat) : Field := ⟨XCV_LN_FAULT.off n, 27, 24⟩

/-- `GPIO_STAT`, R560 of file 20. -/
def GPIO_STAT.off (i : Nat) : Nat := 0x410000 + 0x1000 * i + 0x40
def GPIO_STAT.vcco_ok (i : Nat) : Field := ⟨GPIO_STAT.off i, 31, 31⟩
def GPIO_STAT.vref_ext (i : Nat) : Field := ⟨GPIO_STAT.off i, 30, 30⟩
def GPIO_STAT.vref (i : Nat) : Field := ⟨GPIO_STAT.off i, 6, 0⟩

/-- `PAIR_CTRL`, R470 of file 15. -/
def PAIR_CTRL.off : Nat := 0x500040
def PAIR_CTRL.enable : Field := ⟨PAIR_CTRL.off, 31, 31⟩
def PAIR_CTRL.mode : Field := ⟨PAIR_CTRL.off, 30, 30⟩
def PAIR_CTRL.takeover : Field := ⟨PAIR_CTRL.off, 29, 29⟩
def PAIR_CTRL.resync : Field := ⟨PAIR_CTRL.off, 28, 28⟩
def PAIR_CTRL.rejoin : Field := ⟨PAIR_CTRL.off, 27, 27⟩
def PAIR_CTRL.release : Field := ⟨PAIR_CTRL.off, 26, 26⟩

/-- `PAIR_STAT`, R470 of file 15. -/
def PAIR_STAT.off : Nat := 0x500044
def PAIR_STAT.state : Field := ⟨PAIR_STAT.off, 31, 28⟩
def PAIR_STAT.role : Field := ⟨PAIR_STAT.off, 27, 27⟩
def PAIR_STAT.pin_role : Field := ⟨PAIR_STAT.off, 26, 26⟩
def PAIR_STAT.fence_in : Field := ⟨PAIR_STAT.off, 25, 25⟩
def PAIR_STAT.fence_out : Field := ⟨PAIR_STAT.off, 24, 24⟩
def PAIR_STAT.reason : Field := ⟨PAIR_STAT.off, 23, 20⟩

/-- `PAIR_CFG`, R470 of file 15. -/
def PAIR_CFG.off : Nat := 0x500048
def PAIR_CFG.quad : Field := ⟨PAIR_CFG.off, 31, 28⟩
def PAIR_CFG.miss : Field := ⟨PAIR_CFG.off, 15, 8⟩
def PAIR_CFG.settle_us : Field := ⟨PAIR_CFG.off, 7, 0⟩

/-- `PAIR_HB_MISS`, R470 of file 15. -/
def PAIR_HB_MISS.off : Nat := 0x50004C
def PAIR_HB_MISS.v : Field := ⟨PAIR_HB_MISS.off, 31, 0⟩

/-- `PAIR_TAKEOVERS`, R470 of file 15. -/
def PAIR_TAKEOVERS.off : Nat := 0x500050
def PAIR_TAKEOVERS.v : Field := ⟨PAIR_TAKEOVERS.off, 31, 0⟩

/-- `PAIR_OVF`, R470 of file 15. -/
def PAIR_OVF.off : Nat := 0x500054
def PAIR_OVF.v : Field := ⟨PAIR_OVF.off, 31, 0⟩

/-- `PAIR_REFUSED`, R470 of file 15. -/
def PAIR_REFUSED.off : Nat := 0x500058
def PAIR_REFUSED.v : Field := ⟨PAIR_REFUSED.off, 31, 0⟩

/-- `PAIR_LAG`, R470 of file 15. -/
def PAIR_LAG.off : Nat := 0x50005C
def PAIR_LAG.v : Field := ⟨PAIR_LAG.off, 15, 0⟩

/-- `PAIR_IMAGE`, R470 of file 15. -/
def PAIR_IMAGE.off : Nat := 0x500060
def PAIR_IMAGE.v : Field := ⟨PAIR_IMAGE.off, 31, 0⟩

/-- `PAIR_SC_RANGE`, R470 of file 15. -/
def PAIR_SC_RANGE.off (j : Nat) : Nat := 0x500100 + 0x4 * j
def PAIR_SC_RANGE.first (j : Nat) : Field := ⟨PAIR_SC_RANGE.off j, 31, 16⟩
def PAIR_SC_RANGE.count (j : Nat) : Field := ⟨PAIR_SC_RANGE.off j, 15, 0⟩

/-- `PAIR_MEM_MAP`, R470 of file 15. -/
def PAIR_MEM_MAP.off (j : Nat) : Nat := 0x500400 + 0x4 * j
def PAIR_MEM_MAP.bm (j : Nat) : Field := ⟨PAIR_MEM_MAP.off j, 13, 8⟩
def PAIR_MEM_MAP.dm (j : Nat) : Field := ⟨PAIR_MEM_MAP.off j, 5, 0⟩

/-- `FLT_CTRL`, R490 of file 16. -/
def FLT_CTRL.off : Nat := 0x501040
def FLT_CTRL.flush_now : Field := ⟨FLT_CTRL.off, 31, 31⟩
def FLT_CTRL.log_en : Field := ⟨FLT_CTRL.off, 30, 30⟩

/-- `FLT_STAT`, R490 of file 16. -/
def FLT_STAT.off : Nat := 0x501044
def FLT_STAT.state : Field := ⟨FLT_STAT.off, 31, 30⟩
def FLT_STAT.pfw : Field := ⟨FLT_STAT.off, 29, 29⟩
def FLT_STAT.flushing : Field := ⟨FLT_STAT.off, 28, 28⟩
def FLT_STAT.usable : Field := ⟨FLT_STAT.off, 27, 15⟩
def FLT_STAT.backlog : Field := ⟨FLT_STAT.off, 7, 0⟩

/-- `FLT_CFG`, R490 of file 16. -/
def FLT_CFG.off : Nat := 0x501048
def FLT_CFG.backlog_max : Field := ⟨FLT_CFG.off, 31, 24⟩

/-- `FLT_AREA_BASE`, R490 of file 16. -/
def FLT_AREA_BASE.off : Nat := 0x501050
def FLT_AREA_BASE.v : Field := ⟨FLT_AREA_BASE.off, 31, 12⟩

/-- `FLT_AREA_PAGES`, R490 of file 16. -/
def FLT_AREA_PAGES.off : Nat := 0x501054
def FLT_AREA_PAGES.v : Field := ⟨FLT_AREA_PAGES.off, 12, 0⟩

/-- `FLT_COUNT`, R490 of file 16. -/
def FLT_COUNT.off : Nat := 0x501058
def FLT_COUNT.v : Field := ⟨FLT_COUNT.off, 31, 0⟩

/-- `FLT_FLUSHED`, R490 of file 16. -/
def FLT_FLUSHED.off : Nat := 0x50105C
def FLT_FLUSHED.v : Field := ⟨FLT_FLUSHED.off, 31, 0⟩

/-- `FLT_SEL`, R490 of file 16. -/
def FLT_SEL.off : Nat := 0x501060
def FLT_SEL.v : Field := ⟨FLT_SEL.off, 9, 0⟩

/-- `FLT_ENT`, R490 of file 16. -/
def FLT_ENT.off (j : Nat) : Nat := 0x501070 + 0x4 * j
def FLT_ENT.v (j : Nat) : Field := ⟨FLT_ENT.off j, 31, 0⟩

/-- `FLT_DROP`, R490 of file 16. -/
def FLT_DROP.off : Nat := 0x501090
def FLT_DROP.v : Field := ⟨FLT_DROP.off, 31, 0⟩

/-- `FLT_OVW`, R490 of file 16. -/
def FLT_OVW.off : Nat := 0x501094
def FLT_OVW.v : Field := ⟨FLT_OVW.off, 31, 0⟩

/-- `FLT_GAP`, R490 of file 16. -/
def FLT_GAP.off : Nat := 0x501098
def FLT_GAP.v : Field := ⟨FLT_GAP.off, 31, 0⟩

/-- `FLT_RETIRED`, R490 of file 16. -/
def FLT_RETIRED.off : Nat := 0x50109C
def FLT_RETIRED.v : Field := ⟨FLT_RETIRED.off, 31, 0⟩

/-- `FLT_SEQ`, R490 of file 16. -/
def FLT_SEQ.off : Nat := 0x5010A0
def FLT_SEQ.v : Field := ⟨FLT_SEQ.off, 31, 0⟩

/-- `AGE_CFG`, R511 of file 17. -/
def AGE_CFG.off : Nat := 0x502040
def AGE_CFG.mode : Field := ⟨AGE_CFG.off, 31, 30⟩
def AGE_CFG.derate_thr : Field := ⟨AGE_CFG.off, 29, 29⟩
def AGE_CFG.period_s : Field := ⟨AGE_CFG.off, 21, 16⟩
def AGE_CFG.derate_mv : Field := ⟨AGE_CFG.off, 7, 0⟩

/-- `AGE_STAT`, R511 of file 17. -/
def AGE_STAT.off : Nat := 0x502044
def AGE_STAT.derate : Field := ⟨AGE_STAT.off, 31, 28⟩
def AGE_STAT.settled : Field := ⟨AGE_STAT.off, 27, 27⟩
def AGE_STAT.pmb_fault : Field := ⟨AGE_STAT.off, 26, 26⟩
def AGE_STAT.request_mv : Field := ⟨AGE_STAT.off, 25, 16⟩
def AGE_STAT.margin_mv : Field := ⟨AGE_STAT.off, 15, 8⟩

/-- `AGE_GUARD`, R511 of file 17. -/
def AGE_GUARD.off : Nat := 0x502048
def AGE_GUARD.full : Field := ⟨AGE_GUARD.off, 15, 8⟩
def AGE_GUARD.settled : Field := ⟨AGE_GUARD.off, 7, 0⟩

/-- `AGE_MAINT`, R511 of file 17. -/
def AGE_MAINT.off : Nat := 0x50204C
def AGE_MAINT.sweep : Field := ⟨AGE_MAINT.off, 31, 31⟩
def AGE_MAINT.answer : Field := ⟨AGE_MAINT.off, 29, 28⟩

/-- `AGE_SUM_BASE`, R511 of file 17. -/
def AGE_SUM_BASE.off : Nat := 0x502050
def AGE_SUM_BASE.v : Field := ⟨AGE_SUM_BASE.off, 31, 12⟩

/-- `AGE_SUM_PAGES`, R511 of file 17. -/
def AGE_SUM_PAGES.off : Nat := 0x502054
def AGE_SUM_PAGES.v : Field := ⟨AGE_SUM_PAGES.off, 5, 0⟩

/-- `AGE_SWEEPS`, R511 of file 17. -/
def AGE_SWEEPS.off : Nat := 0x502058
def AGE_SWEEPS.v : Field := ⟨AGE_SWEEPS.off, 31, 0⟩

/-- `AGE_CURVE`, R511 of file 17. -/
def AGE_CURVE.off (j : Nat) : Nat := 0x502100 + 0x4 * j
def AGE_CURVE.limit (j : Nat) : Field := ⟨AGE_CURVE.off j, 31, 16⟩
def AGE_CURVE.mv (j : Nat) : Field := ⟨AGE_CURVE.off j, 15, 0⟩

/-- `AGE_TCORR`, R511 of file 17. -/
def AGE_TCORR.off (j : Nat) : Nat := 0x502180 + 0x4 * j
def AGE_TCORR.bound (j : Nat) : Field := ⟨AGE_TCORR.off j, 31, 24⟩
def AGE_TCORR.mv (j : Nat) : Field := ⟨AGE_TCORR.off j, 15, 0⟩

/-- `AGE_MON`, R511 of file 17. -/
def AGE_MON.off (j : Nat) : Nat := 0x502400 + 0x4 * j
def AGE_MON.stale (j : Nat) : Field := ⟨AGE_MON.off j, 31, 31⟩
def AGE_MON.shift (j : Nat) : Field := ⟨AGE_MON.off j, 15, 0⟩

/-- `THM_CFG`, R511 of file 17. -/
def THM_CFG.off : Nat := 0x503040
def THM_CFG.cores : Field := ⟨THM_CFG.off, 0, 0⟩

/-- `THM_LIMIT`, R511 of file 17. -/
def THM_LIMIT.off : Nat := 0x503044
def THM_LIMIT.crit : Field := ⟨THM_LIMIT.off, 15, 8⟩
def THM_LIMIT.warn : Field := ⟨THM_LIMIT.off, 7, 0⟩

/-- `THM_STAT`, R511 of file 17. -/
def THM_STAT.off : Nat := 0x503048
def THM_STAT.L : Field := ⟨THM_STAT.off, 31, 28⟩
def THM_STAT.thermal : Field := ⟨THM_STAT.off, 27, 24⟩
def THM_STAT.cap : Field := ⟨THM_STAT.off, 23, 20⟩
def THM_STAT.derating : Field := ⟨THM_STAT.off, 19, 16⟩
def THM_STAT.hottest : Field := ⟨THM_STAT.off, 11, 0⟩

/-- `THM_SENS`, R511 of file 17. -/
def THM_SENS.off (j : Nat) : Nat := 0x503080 + 0x4 * j
def THM_SENS.stale (j : Nat) : Field := ⟨THM_SENS.off j, 31, 31⟩
def THM_SENS.fault (j : Nat) : Field := ⟨THM_SENS.off j, 30, 30⟩
def THM_SENS.temp (j : Nat) : Field := ⟨THM_SENS.off j, 11, 0⟩

/-- `THM_CURVE`, R511 of file 17. -/
def THM_CURVE.off (j : Nat) : Nat := 0x503100 + 0x4 * j
def THM_CURVE.threshold (j : Nat) : Field := ⟨THM_CURVE.off j, 15, 8⟩
def THM_CURVE.level (j : Nat) : Field := ⟨THM_CURVE.off j, 3, 0⟩

/-- `TWP_CFG`, R528 of file 18. -/
def TWP_CFG.off : Nat := 0x600040
def TWP_CFG.smb_en : Field := ⟨TWP_CFG.off, 31, 31⟩
def TWP_CFG.spi_en : Field := ⟨TWP_CFG.off, 30, 30⟩
def TWP_CFG.pec_req : Field := ⟨TWP_CFG.off, 29, 29⟩
def TWP_CFG.addr : Field := ⟨TWP_CFG.off, 6, 0⟩

/-- `TWP_STAT`, R528 of file 18. -/
def TWP_STAT.off : Nat := 0x600044
def TWP_STAT.smb_status : Field := ⟨TWP_STAT.off, 31, 28⟩
def TWP_STAT.spi_status : Field := ⟨TWP_STAT.off, 27, 24⟩
def TWP_STAT.req_result : Field := ⟨TWP_STAT.off, 23, 22⟩
def TWP_STAT.vccint_ok : Field := ⟨TWP_STAT.off, 19, 19⟩
def TWP_STAT.core_up : Field := ⟨TWP_STAT.off, 18, 18⟩
def TWP_STAT.wake : Field := ⟨TWP_STAT.off, 17, 17⟩

/-- `TWP_ALERT_SRC`, R528 of file 18. -/
def TWP_ALERT_SRC.off : Nat := 0x600048
def TWP_ALERT_SRC.v : Field := ⟨TWP_ALERT_SRC.off, 7, 0⟩

/-- `TWP_ALERT_EN`, R528 of file 18. -/
def TWP_ALERT_EN.off : Nat := 0x60004C
def TWP_ALERT_EN.v : Field := ⟨TWP_ALERT_EN.off, 7, 0⟩

/-- `TWP_FW_ALERT`, R528 of file 18. -/
def TWP_FW_ALERT.off : Nat := 0x600050
def TWP_FW_ALERT.v : Field := ⟨TWP_FW_ALERT.off, 0, 0⟩

/-- `TWP_PEC_ERR`, R528 of file 18. -/
def TWP_PEC_ERR.off : Nat := 0x600054
def TWP_PEC_ERR.v : Field := ⟨TWP_PEC_ERR.off, 31, 0⟩

/-- `TWP_WIN_ERR`, R528 of file 18. -/
def TWP_WIN_ERR.off : Nat := 0x600058
def TWP_WIN_ERR.v : Field := ⟨TWP_WIN_ERR.off, 31, 0⟩

/-- `TWP_REQ`, R528 of file 18. -/
def TWP_REQ.off : Nat := 0x60005C
def TWP_REQ.v : Field := ⟨TWP_REQ.off, 31, 0⟩

/-- `RGN_CLK_GATE`, R99 of file 03. -/
def RGN_CLK_GATE.off (i : Nat) : Nat := 0x800000 + 0x1000 * i + 0x40
def RGN_CLK_GATE.v (i : Nat) : Field := ⟨RGN_CLK_GATE.off i, 23, 0⟩

/-- `RGN_CLK_ACT`, R99 of file 03. -/
def RGN_CLK_ACT.off (i : Nat) : Nat := 0x800000 + 0x1000 * i + 0x44
def RGN_CLK_ACT.v (i : Nat) : Field := ⟨RGN_CLK_ACT.off i, 23, 0⟩

/-- `RGN_CLK_THR`, R99 of file 03. -/
def RGN_CLK_THR.off (i : Nat) : Nat := 0x800000 + 0x1000 * i + 0x48
def RGN_CLK_THR.v (i : Nat) : Field := ⟨RGN_CLK_THR.off i, 23, 0⟩

/-- `RGN_CB_CFG`, R99 of file 03. -/
def CB_CFG.off (b : Nat) : Nat := b + 0x0
def CB_CFG.threshold (b : Nat) : Field := ⟨CB_CFG.off b, 23, 16⟩
def CB_CFG.leak_ms (b : Nat) : Field := ⟨CB_CFG.off b, 13, 0⟩

/-- `RGN_CB_LVL`, R99 of file 03. -/
def CB_LVL.off (b : Nat) : Nat := b + 0x4
def CB_LVL.level (b : Nat) : Field := ⟨CB_LVL.off b, 7, 0⟩

/-- `RGN_CE_TOT`, R99 of file 03. -/
def CE_TOT.off (b : Nat) : Nat := b + 0x8
def CE_TOT.v (b : Nat) : Field := ⟨CE_TOT.off b, 31, 0⟩

/-- `RGN_UE_TOT`, R99 of file 03. -/
def UE_TOT.off (b : Nat) : Nat := b + 0xC
def UE_TOT.v (b : Nat) : Field := ⟨UE_TOT.off b, 31, 0⟩

/-- `RGN_ROL`, R99 of file 03. -/
def ROL.off (b j : Nat) : Nat := b + 0x10 + 0x4 * j
def ROL.valid (b j : Nat) : Field := ⟨ROL.off b j, 31, 31⟩
def ROL.hits (b j : Nat) : Field := ⟨ROL.off b j, 30, 27⟩
def ROL.inst (b j : Nat) : Field := ⟨ROL.off b j, 26, 20⟩
def ROL.word (b j : Nat) : Field := ⟨ROL.off b j, 19, 8⟩
def ROL.bit (b j : Nat) : Field := ⟨ROL.off b j, 6, 0⟩

/-- `RGN_ROL_OVF`, R99 of file 03. -/
def ROL_OVF.off (b : Nat) : Nat := b + 0x30
def ROL_OVF.v (b : Nat) : Field := ⟨ROL_OVF.off b, 15, 0⟩

/-- `RGN_MEM_UE_INFO0`, R99 of file 03. -/
def RGN_MEM_UE_INFO0.off (i : Nat) : Nat := 0x800000 + 0x1000 * i + 0x180
def RGN_MEM_UE_INFO0.kind (i : Nat) : Field := ⟨RGN_MEM_UE_INFO0.off i, 31, 30⟩
def RGN_MEM_UE_INFO0.port (i : Nat) : Field := ⟨RGN_MEM_UE_INFO0.off i, 29, 29⟩
def RGN_MEM_UE_INFO0.inst (i : Nat) : Field := ⟨RGN_MEM_UE_INFO0.off i, 28, 22⟩
def RGN_MEM_UE_INFO0.word (i : Nat) : Field := ⟨RGN_MEM_UE_INFO0.off i, 11, 0⟩

/-- `RGN_MEM_UE_INFO1`, R99 of file 03. -/
def RGN_MEM_UE_INFO1.off (i : Nat) : Nat := 0x800000 + 0x1000 * i + 0x184
def RGN_MEM_UE_INFO1.code (i : Nat) : Field := ⟨RGN_MEM_UE_INFO1.off i, 31, 16⟩
def RGN_MEM_UE_INFO1.syndrome (i : Nat) : Field := ⟨RGN_MEM_UE_INFO1.off i, 15, 8⟩

/-- `RGN_MEM_ECC_INJ`, R99 of file 03. -/
def RGN_MEM_ECC_INJ.off (i : Nat) : Nat := 0x800000 + 0x1000 * i + 0x188
def RGN_MEM_ECC_INJ.arm (i : Nat) : Field := ⟨RGN_MEM_ECC_INJ.off i, 31, 31⟩
def RGN_MEM_ECC_INJ.kind (i : Nat) : Field := ⟨RGN_MEM_ECC_INJ.off i, 30, 30⟩
def RGN_MEM_ECC_INJ.inst (i : Nat) : Field := ⟨RGN_MEM_ECC_INJ.off i, 22, 16⟩
def RGN_MEM_ECC_INJ.mask (i : Nat) : Field := ⟨RGN_MEM_ECC_INJ.off i, 7, 0⟩

/-- `RGN_MEM_BIST`, R99 of file 03. -/
def RGN_MEM_BIST.off (i : Nat) : Nat := 0x800000 + 0x1000 * i + 0x18C
def RGN_MEM_BIST.start (i : Nat) : Field := ⟨RGN_MEM_BIST.off i, 31, 31⟩
def RGN_MEM_BIST.kind (i : Nat) : Field := ⟨RGN_MEM_BIST.off i, 30, 30⟩
def RGN_MEM_BIST.answer (i : Nat) : Field := ⟨RGN_MEM_BIST.off i, 29, 28⟩
def RGN_MEM_BIST.done (i : Nat) : Field := ⟨RGN_MEM_BIST.off i, 27, 27⟩
def RGN_MEM_BIST.fail (i : Nat) : Field := ⟨RGN_MEM_BIST.off i, 26, 26⟩
def RGN_MEM_BIST.inst (i : Nat) : Field := ⟨RGN_MEM_BIST.off i, 22, 16⟩

/-- `RGN_BM_RMP`, R99 of file 03. -/
def RMP.off (b j : Nat) : Nat := b + 0x4 * j
def RMP.valid (b j : Nat) : Field := ⟨RMP.off b j, 31, 31⟩
def RMP.fused (b j : Nat) : Field := ⟨RMP.off b j, 30, 30⟩
def RMP.poison (b j : Nat) : Field := ⟨RMP.off b j, 29, 29⟩
def RMP.block (b j : Nat) : Field := ⟨RMP.off b j, 15, 12⟩
def RMP.word (b j : Nat) : Field := ⟨RMP.off b j, 11, 0⟩

/-- `CMT_CTRL`, R99 of file 03. -/
def CMT_CTRL.off (t f : Nat) : Nat := 0x800000 + 0x1000 * (12 * (t / 2) + 11 * (t % 2)) + 0x300 + 0x40 * f
def CMT_CTRL.apply (t f : Nat) : Field := ⟨CMT_CTRL.off t f, 31, 31⟩
def CMT_CTRL.reset (t f : Nat) : Field := ⟨CMT_CTRL.off t f, 30, 30⟩
def CMT_CTRL.quad (t f : Nat) : Field := ⟨CMT_CTRL.off t f, 19, 16⟩
def CMT_CTRL.ps_out (t f : Nat) : Field := ⟨CMT_CTRL.off t f, 15, 13⟩
def CMT_CTRL.stop_on_unlock (t f : Nat) : Field := ⟨CMT_CTRL.off t f, 12, 12⟩
def CMT_CTRL.zero_delay (t f : Nat) : Field := ⟨CMT_CTRL.off t f, 11, 11⟩
def CMT_CTRL.fb_out (t f : Nat) : Field := ⟨CMT_CTRL.off t f, 10, 8⟩
def CMT_CTRL.in_sel (t f : Nat) : Field := ⟨CMT_CTRL.off t f, 3, 0⟩

/-- `CMT_DIV`, R99 of file 03. -/
def CMT_DIV.off (t f : Nat) : Nat := 0x800000 + 0x1000 * (12 * (t / 2) + 11 * (t % 2)) + 0x304 + 0x40 * f
def CMT_DIV.m (t f : Nat) : Field := ⟨CMT_DIV.off t f, 23, 16⟩
def CMT_DIV.d (t f : Nat) : Field := ⟨CMT_DIV.off t f, 5, 0⟩

/-- `CMT_FRAC`, R99 of file 03. -/
def CMT_FRAC.off (t f : Nat) : Nat := 0x800000 + 0x1000 * (12 * (t / 2) + 11 * (t % 2)) + 0x308 + 0x40 * f
def CMT_FRAC.v (t f : Nat) : Field := ⟨CMT_FRAC.off t f, 23, 0⟩

/-- `CMT_STAT`, R99 of file 03. -/
def CMT_STAT.off (t f : Nat) : Nat := 0x800000 + 0x1000 * (12 * (t / 2) + 11 * (t % 2)) + 0x30C + 0x40 * f
def CMT_STAT.locked (t f : Nat) : Field := ⟨CMT_STAT.off t f, 31, 31⟩
def CMT_STAT.input (t f : Nat) : Field := ⟨CMT_STAT.off t f, 30, 30⟩
def CMT_STAT.range_err (t f : Nat) : Field := ⟨CMT_STAT.off t f, 29, 29⟩
def CMT_STAT.losses (t f : Nat) : Field := ⟨CMT_STAT.off t f, 7, 0⟩

/-- `CMT_OUT`, R99 of file 03. -/
def CMT_OUT.off (t f j : Nat) : Nat := 0x800000 + 0x1000 * (12 * (t / 2) + 11 * (t % 2)) + 0x310 + 0x40 * f + 0x4 * j
def CMT_OUT.enable (t f j : Nat) : Field := ⟨CMT_OUT.off t f j, 31, 31⟩
def CMT_OUT.cascade (t f j : Nat) : Field := ⟨CMT_OUT.off t f j, 30, 30⟩
def CMT_OUT.phase (t f j : Nat) : Field := ⟨CMT_OUT.off t f j, 28, 16⟩
def CMT_OUT.divider (t f j : Nat) : Field := ⟨CMT_OUT.off t f j, 7, 0⟩

/-- `SE_SC_CTRL`, R376,R397 of file 12. -/
def SE_SC_CTRL.off (i : Nat) : Nat := 0x1000000 + 0x40 * i
def SE_SC_CTRL.enable (i : Nat) : Field := ⟨SE_SC_CTRL.off i, 31, 31⟩
def SE_SC_CTRL.restart (i : Nat) : Field := ⟨SE_SC_CTRL.off i, 30, 30⟩
def SE_SC_CTRL.stop (i : Nat) : Field := ⟨SE_SC_CTRL.off i, 29, 29⟩
def SE_SC_CTRL.src_kind (i : Nat) : Field := ⟨SE_SC_CTRL.off i, 28, 27⟩
def SE_SC_CTRL.dst_kind (i : Nat) : Field := ⟨SE_SC_CTRL.off i, 26, 25⟩
def SE_SC_CTRL.cls (i : Nat) : Field := ⟨SE_SC_CTRL.off i, 24, 23⟩
def SE_SC_CTRL.key (i : Nat) : Field := ⟨SE_SC_CTRL.off i, 22, 17⟩
def SE_SC_CTRL.irq_mode (i : Nat) : Field := ⟨SE_SC_CTRL.off i, 16, 15⟩
def SE_SC_CTRL.sluice (i : Nat) : Field := ⟨SE_SC_CTRL.off i, 11, 0⟩

/-- `SE_SC_FUNC`, R376,R397 of file 12. -/
def SE_SC_FUNC.off (i : Nat) : Nat := 0x1000000 + 0x40 * i + 0x4
def SE_SC_FUNC.vector (i : Nat) : Field := ⟨SE_SC_FUNC.off i, 26, 16⟩
def SE_SC_FUNC.vf (i : Nat) : Field := ⟨SE_SC_FUNC.off i, 14, 8⟩
def SE_SC_FUNC.pf (i : Nat) : Field := ⟨SE_SC_FUNC.off i, 0, 0⟩

/-- `SE_SC_DRING_LO`, R376,R397 of file 12. -/
def SE_SC_DRING_LO.off (i : Nat) : Nat := 0x1000000 + 0x40 * i + 0x8
def SE_SC_DRING_LO.addr_lo (i : Nat) : Field := ⟨SE_SC_DRING_LO.off i, 31, 6⟩

/-- `SE_SC_DRING_HI`, R376,R397 of file 12. -/
def SE_SC_DRING_HI.off (i : Nat) : Nat := 0x1000000 + 0x40 * i + 0xC
def SE_SC_DRING_HI.size (i : Nat) : Field := ⟨SE_SC_DRING_HI.off i, 31, 27⟩
def SE_SC_DRING_HI.addr_hi (i : Nat) : Field := ⟨SE_SC_DRING_HI.off i, 23, 0⟩

/-- `SE_SC_CRING_LO`, R376,R397 of file 12. -/
def SE_SC_CRING_LO.off (i : Nat) : Nat := 0x1000000 + 0x40 * i + 0x10
def SE_SC_CRING_LO.addr_lo (i : Nat) : Field := ⟨SE_SC_CRING_LO.off i, 31, 6⟩

/-- `SE_SC_CRING_HI`, R376,R397 of file 12. -/
def SE_SC_CRING_HI.off (i : Nat) : Nat := 0x1000000 + 0x40 * i + 0x14
def SE_SC_CRING_HI.addr_hi (i : Nat) : Field := ⟨SE_SC_CRING_HI.off i, 23, 0⟩

/-- `SE_SC_TOLL`, R376,R397 of file 12. -/
def SE_SC_TOLL.off (i : Nat) : Nat := 0x1000000 + 0x40 * i + 0x18
def SE_SC_TOLL.toll (i : Nat) : Field := ⟨SE_SC_TOLL.off i, 15, 0⟩

/-- `SE_SC_QUOTA`, R376,R397 of file 12. -/
def SE_SC_QUOTA.off (i : Nat) : Nat := 0x1000000 + 0x40 * i + 0x1C
def SE_SC_QUOTA.outstanding (i : Nat) : Field := ⟨SE_SC_QUOTA.off i, 26, 16⟩
def SE_SC_QUOTA.quota (i : Nat) : Field := ⟨SE_SC_QUOTA.off i, 10, 0⟩

/-- `SE_SC_DB`, R376,R397 of file 12. -/
def SE_SC_DB.off (i : Nat) : Nat := 0x1000000 + 0x40 * i + 0x20
def SE_SC_DB.tail (i : Nat) : Field := ⟨SE_SC_DB.off i, 15, 0⟩

/-- `SE_SC_IDX`, R376,R397 of file 12. -/
def SE_SC_IDX.off (i : Nat) : Nat := 0x1000000 + 0x40 * i + 0x24
def SE_SC_IDX.head (i : Nat) : Field := ⟨SE_SC_IDX.off i, 31, 16⟩
def SE_SC_IDX.done (i : Nat) : Field := ⟨SE_SC_IDX.off i, 15, 0⟩

/-- `SE_SC_STAT`, R376,R397 of file 12. -/
def SE_SC_STAT.off (i : Nat) : Nat := 0x1000000 + 0x40 * i + 0x28
def SE_SC_STAT.state (i : Nat) : Field := ⟨SE_SC_STAT.off i, 31, 28⟩
def SE_SC_STAT.phase (i : Nat) : Field := ⟨SE_SC_STAT.off i, 27, 27⟩
def SE_SC_STAT.held (i : Nat) : Field := ⟨SE_SC_STAT.off i, 26, 20⟩

/-- `SE_SC_ERR`, R376,R397 of file 12. -/
def SE_SC_ERR.off (i : Nat) : Nat := 0x1000000 + 0x40 * i + 0x2C
def SE_SC_ERR.index (i : Nat) : Field := ⟨SE_SC_ERR.off i, 31, 16⟩
def SE_SC_ERR.detail (i : Nat) : Field := ⟨SE_SC_ERR.off i, 15, 12⟩
def SE_SC_ERR.status (i : Nat) : Field := ⟨SE_SC_ERR.off i, 7, 0⟩

/-- `SE_SC_BAL`, R376,R397 of file 12. -/
def SE_SC_BAL.off (i : Nat) : Nat := 0x1000000 + 0x40 * i + 0x30
def SE_SC_BAL.v (i : Nat) : Field := ⟨SE_SC_BAL.off i, 31, 0⟩

/-- `SE_SC_BYTES`, R376,R397 of file 12. -/
def SE_SC_BYTES.off (i j : Nat) : Nat := 0x1000000 + 0x40 * i + 0x34 + 0x4 * j
def SE_SC_BYTES.v (i j : Nat) : Field := ⟨SE_SC_BYTES.off i j, 31, 0⟩

/-- `TH_SEQ_TABLE`, R159 of file 05. -/
def TH_SEQ_TABLE.off (i : Nat) : Nat := 0x1400000 + 0x4 * i
def TH_SEQ_TABLE.v (i : Nat) : Field := ⟨TH_SEQ_TABLE.off i, 31, 0⟩

/-- `TS_TASK`, R417 of file 13. -/
def TS_TASK.off (i j : Nat) : Nat := 0x1440000 + 0x20 * i + 0x4 * j
def TS_TASK.v (i j : Nat) : Field := ⟨TS_TASK.off i j, 31, 0⟩

/-- `MSIX_ENT`, R396 of file 12. -/
def MSIX_ENT.off (i j : Nat) : Nat := 0x208000 + 0x10 * i + 0x4 * j
def MSIX_ENT.v (i j : Nat) : Field := ⟨MSIX_ENT.off i j, 31, 0⟩

/-- `MSIX_PBA`, R396 of file 12. -/
def MSIX_PBA.off (i : Nat) : Nat := 0x207000 + 0x4 * i
def MSIX_PBA.v (i : Nat) : Field := ⟨MSIX_PBA.off i, 31, 0⟩

/-- `NOC_INI_CFG` of the initiator block at b, R310 of file 09. -/
def NOC_INI_CFG.off (b : Nat) : Nat := b + 0x0
def NOC_INI_CFG.tmo_n (b : Nat) : Field := ⟨NOC_INI_CFG.off b, 4, 0⟩

/-- `NOC_INI_OUT` of the initiator block at b, R310 of file 09. -/
def NOC_INI_OUT.off (b : Nat) : Nat := b + 0x4
def NOC_INI_OUT.v (b : Nat) : Field := ⟨NOC_INI_OUT.off b, 12, 0⟩

/-- `NOC_INI_TMOCNT` of the initiator block at b, R310 of file 09. -/
def NOC_INI_TMOCNT.off (b : Nat) : Nat := b + 0x8
def NOC_INI_TMOCNT.v (b : Nat) : Field := ⟨NOC_INI_TMOCNT.off b, 31, 0⟩

/-- `NOC_INI_SYN` of the initiator block at b, R310 of file 09. -/
def NOC_INI_SYN.off (b : Nat) : Nat := b + 0xC
def NOC_INI_SYN.v (b : Nat) : Field := ⟨NOC_INI_SYN.off b, 31, 0⟩

/-- `NOC_INI_PDROP` of the initiator block at b, R310 of file 09. -/
def NOC_INI_PDROP.off (b : Nat) : Nat := b + 0x10
def NOC_INI_PDROP.v (b : Nat) : Field := ⟨NOC_INI_PDROP.off b, 31, 0⟩

/-- `NOC_INI_LATE` of the initiator block at b, R310 of file 09. -/
def NOC_INI_LATE.off (b : Nat) : Nat := b + 0x14
def NOC_INI_LATE.v (b : Nat) : Field := ⟨NOC_INI_LATE.off b, 31, 0⟩

/-- `NOC_INI_LAST` of the initiator block at b, R310 of file 09. -/
def NOC_INI_LAST.off (b : Nat) : Nat := b + 0x18
def NOC_INI_LAST.status (b : Nat) : Field := ⟨NOC_INI_LAST.off b, 31, 28⟩
def NOC_INI_LAST.tag (b : Nat) : Field := ⟨NOC_INI_LAST.off b, 27, 16⟩
def NOC_INI_LAST.dest (b : Nat) : Field := ⟨NOC_INI_LAST.off b, 9, 0⟩

/-- `NOC_INI_ADDR0` of the initiator block at b, R310 of file 09. -/
def NOC_INI_ADDR0.off (b : Nat) : Nat := b + 0x1C
def NOC_INI_ADDR0.v (b : Nat) : Field := ⟨NOC_INI_ADDR0.off b, 31, 0⟩

/-- `NOC_INI_ADDR1` of the initiator block at b, R310 of file 09. -/
def NOC_INI_ADDR1.off (b : Nat) : Nat := b + 0x20
def NOC_INI_ADDR1.v (b : Nat) : Field := ⟨NOC_INI_ADDR1.off b, 31, 0⟩

/-- `CTRL` of the page at pg, R556 of file 20. -/
def CTRL.off (pg : Nat) : Nat := pg + 0x8
def CTRL.blk_reset (pg : Nat) : Field := ⟨CTRL.off pg, 31, 31⟩

/-- `STATUS` of the page at pg, R556 of file 20. -/
def STATUS.off (pg : Nat) : Nat := pg + 0xC
def STATUS.in_reset (pg : Nat) : Field := ⟨STATUS.off pg, 31, 31⟩
def STATUS.dom_open (pg : Nat) : Field := ⟨STATUS.off pg, 28, 28⟩

/-- `EVT` of the page at pg, R556 of file 20. -/
def EVT.off (pg : Nat) : Nat := pg + 0x10
def EVT.v (pg : Nat) : Field := ⟨EVT.off pg, 31, 0⟩

/-- `EVT_EN` of the page at pg, R556 of file 20. -/
def EVT_EN.off (pg : Nat) : Nat := pg + 0x14
def EVT_EN.v (pg : Nat) : Field := ⟨EVT_EN.off pg, 31, 0⟩

/-- `EVT_CNT` of the page at pg, R556 of file 20. -/
def EVT_CNT.off (pg : Nat) : Nat := pg + 0x1C
def EVT_CNT.v (pg : Nat) : Field := ⟨EVT_CNT.off pg, 31, 0⟩

/-- `ERR_INFO0` of the page at pg, R556 of file 20. -/
def ERR_INFO0.off (pg : Nat) : Nat := pg + 0x20
def ERR_INFO0.v (pg : Nat) : Field := ⟨ERR_INFO0.off pg, 31, 0⟩

/-- `ERR_INFO1` of the page at pg, R556 of file 20. -/
def ERR_INFO1.off (pg : Nat) : Nat := pg + 0x24
def ERR_INFO1.v (pg : Nat) : Field := ⟨ERR_INFO1.off pg, 31, 0⟩

/-- `PAGE_LOCK` of the page at pg, R556 of file 20. -/
def PAGE_LOCK.off (pg : Nat) : Nat := pg + 0x28
def PAGE_LOCK.lock (pg : Nat) : Field := ⟨PAGE_LOCK.off pg, 0, 0⟩

def pageDEV : Nat := 0x0
def pageCLK : Nat := 0x1000
def pagePWR : Nat := 0x2000
def pageCFG : Nat := 0x10000
def pageSCB : Nat := 0x11000
def pageSTL (i : Nat) : Nat := 0x12000 + 0x1000 * i
def pageTH0 : Nat := 0x20000
def pageTH1 : Nat := 0x21000
def pageTH2 : Nat := 0x22000
def pageTH3 : Nat := 0x23000
def pageTH4 : Nat := 0x24000
def pageTH5 : Nat := 0x25000
def pageNOC (i : Nat) : Nat := 0x40000 + 0x1000 * i
def pageQUAY (i : Nat) : Nat := 0x88000 + 0x1000 * i
def pageDMC (i : Nat) : Nat := 0x100000 + 0x10000 * i
def pageMPE (i : Nat) : Nat := 0x101000 + 0x10000 * i
def pagePCI0 : Nat := 0x200000
def pagePCI1 : Nat := 0x201000
def pageSE0 : Nat := 0x210000
def pageSE1 : Nat := 0x211000
def pageSLU (i : Nat) : Nat := 0x220000 + 0x1000 * i
def pageCC0 : Nat := 0x300000
def pageCCC (i : Nat) : Nat := 0x301000 + 0x1000 * i
def pageIC0 : Nat := 0x310000
def pageICS (i : Nat) : Nat := 0x311000 + 0x1000 * i
def pageICC (i : Nat) : Nat := 0x313000 + 0x1000 * i
def pageTS0 : Nat := 0x320000
def pageTS1 : Nat := 0x321000
def pageTS2 : Nat := 0x322000
def pageXCV (i : Nat) : Nat := 0x400000 + 0x1000 * i
def pageGPIO (i : Nat) : Nat := 0x410000 + 0x1000 * i
def pagePAIR : Nat := 0x500000
def pageFLT : Nat := 0x501000
def pageAGE : Nat := 0x502000
def pageTHM : Nat := 0x503000
def pageTWP : Nat := 0x600000
def pageRGN (i : Nat) : Nat := 0x800000 + 0x1000 * i

end Sys2Proof.Machine.Reg
end

