-- ==== Sys2Proof/Machine/RegTables.lean ====
section
/-! DEFINITION. The register tables of the spec as data: offset, access, reset value and reset kind of every field
(R99, R170, R171, R199, R200, R237, R278, R279, R310, R311, R338, R339, R363, R364, R396, R397, R426, R427, R452, R453,
R470, R490, R491, R511, R512, R528, R529, R560, R561). A reset value that is a fuse value, a loaded image's value or a
PAIR_ROLE sample stands as 0 here and is set by the command that knows it. -/

namespace Sys2Proof.Machine

/-- Page DEV (R560/20). -/
def regsDEV : List RegSpec := [
  ⟨0x040, 1, 0x0, 1, 0x4, [⟨31, 0, .ro, .cold, 0x92165af, none⟩]⟩,
  ⟨0x044, 1, 0x0, 1, 0x4, [⟨31, 0, .ro, .cold, 0x9216a700, none⟩]⟩,
  ⟨0x048, 1, 0x0, 2, 0x4, [⟨31, 0, .ro, .cold, 0, none⟩]⟩]

/-- Page CLK (R199/06). -/
def regsCLK : List RegSpec := [
  ⟨0x040, 1, 0x0, 1, 0x4, [⟨31, 31, .ro, .cold, 0, none⟩, ⟨30, 30, .ro, .cold, 0, none⟩, ⟨29, 29, .ro, .cold, 0, none⟩, ⟨28, 28, .ro, .cold, 0, none⟩, ⟨27, 27, .ro, .cold, 0, none⟩, ⟨26, 26, .ro, .cold, 0, none⟩, ⟨25, 25, .ro, .cold, 0, none⟩, ⟨23, 22, .ro, .cold, 0, none⟩, ⟨17, 16, .ro, .cold, 0, none⟩]⟩,
  ⟨0x044, 1, 0x0, 1, 0x4, [⟨31, 31, .rwl, .cold, 1, none⟩, ⟨19, 18, .rwl, .cold, 0, none⟩, ⟨17, 16, .rwl, .cold, 0, none⟩, ⟨9, 8, .rwl, .cold, 2, none⟩, ⟨1, 0, .rwl, .cold, 2, none⟩]⟩,
  ⟨0x048, 1, 0x0, 1, 0x4, [⟨15, 12, .ro, .cold, 0, none⟩, ⟨11, 8, .ro, .cold, 0, none⟩, ⟨7, 4, .ro, .cold, 0, none⟩, ⟨3, 0, .ro, .cold, 0, none⟩]⟩,
  ⟨0x04C, 1, 0x0, 1, 0x4, [⟨3, 0, .rw, .cold, 0, none⟩]⟩,
  ⟨0x050, 1, 0x0, 1, 0x4, [⟨31, 31, .ro, .cold, 0, none⟩, ⟨30, 28, .ro, .cold, 0, none⟩, ⟨27, 16, .ro, .cold, 0, none⟩, ⟨15, 0, .ro, .cold, 0, none⟩]⟩,
  ⟨0x054, 1, 0x0, 1, 0x4, [⟨15, 0, .rw, .cold, 0x3e8, some ⟨100, 100, 50000, 50000⟩⟩]⟩,
  ⟨0x058, 1, 0x0, 1, 0x4, [⟨4, 0, .ro, .cold, 0, none⟩, ⟨12, 8, .ro, .cold, 0, none⟩, ⟨16, 16, .ro, .cold, 0, none⟩]⟩,
  ⟨0x060, 1, 0x0, 2, 0x4, [⟨31, 0, .ro, .cold, 0, none⟩]⟩]

/-- Page PWR (R511/17). -/
def regsPWR : List RegSpec := [
  ⟨0x040, 1, 0x0, 1, 0x4, [⟨10, 1, .ro, .cold, 0, none⟩]⟩,
  ⟨0x044, 1, 0x0, 1, 0x4, [⟨6, 0, .rwl, .cold, 0x40, none⟩]⟩,
  ⟨0x048, 1, 0x0, 1, 0x4, [⟨9, 0, .rw, .cold, 0xc8, none⟩]⟩,
  ⟨0x04C, 1, 0x0, 1, 0x4, [⟨31, 16, .ro, .cold, 0, none⟩, ⟨15, 0, .ro, .cold, 0, none⟩]⟩,
  ⟨0x400, 1, 0x0, 768, 0x4, [⟨31, 31, .w1s, .cold, 0, none⟩, ⟨30, 30, .w1s, .cold, 0, none⟩, ⟨29, 28, .ro, .cold, 0, none⟩, ⟨27, 26, .ro, .cold, 0, none⟩, ⟨25, 23, .ro, .cold, 0, none⟩, ⟨15, 0, .ro, .cold, 0, none⟩]⟩]

/-- Page CFG (R237/07). -/
def regsCFG : List RegSpec := [
  ⟨0x040, 1, 0x0, 1, 0x4, [⟨31, 31, .w1s, .warm, 0, none⟩, ⟨30, 30, .w1s, .warm, 0, none⟩, ⟨29, 29, .w1s, .warm, 0, none⟩, ⟨28, 28, .w1s, .warm, 0, none⟩, ⟨27, 26, .rw, .warm, 0, none⟩]⟩,
  ⟨0x044, 1, 0x0, 1, 0x4, [⟨31, 28, .ro, .warm, 0, none⟩, ⟨27, 27, .ro, .warm, 0, none⟩, ⟨26, 26, .ro, .warm, 0, none⟩, ⟨25, 25, .ro, .warm, 0, none⟩, ⟨24, 23, .ro, .warm, 0, none⟩, ⟨22, 21, .ro, .warm, 0, none⟩]⟩,
  ⟨0x048, 1, 0x0, 1, 0x4, [⟨31, 29, .ro, .cold, 0, none⟩, ⟨28, 28, .ro, .cold, 0, none⟩, ⟨27, 24, .ro, .cold, 0, none⟩, ⟨23, 16, .ro, .cold, 0, none⟩, ⟨15, 0, .ro, .cold, 0, none⟩]⟩,
  ⟨0x04C, 1, 0x0, 1, 0x4, [⟨31, 0, .ro, .warm, 0, none⟩]⟩,
  ⟨0x050, 1, 0x0, 2, 0x4, [⟨31, 0, .rw, .warm, 0, none⟩]⟩,
  ⟨0x058, 1, 0x0, 2, 0x4, [⟨31, 0, .rw, .warm, 0, none⟩]⟩,
  ⟨0x060, 1, 0x0, 2, 0x4, [⟨31, 0, .ro, .warm, 0, none⟩]⟩,
  ⟨0x068, 1, 0x0, 1, 0x4, [⟨31, 31, .rwl, .warm, 0, none⟩, ⟨1, 0, .ro, .warm, 0, none⟩]⟩,
  ⟨0x06C, 1, 0x0, 1, 0x4, [⟨31, 31, .w1s, .warm, 0, none⟩, ⟨30, 28, .rw, .warm, 0, none⟩, ⟨27, 25, .ro, .warm, 0, none⟩, ⟨11, 0, .rw, .warm, 0, none⟩]⟩,
  ⟨0x070, 1, 0x0, 1, 0x4, [⟨31, 0, .rw, .warm, 0, none⟩]⟩,
  ⟨0x078, 1, 0x0, 2, 0x4, [⟨31, 0, .rw, .warm, 0, none⟩]⟩,
  ⟨0x080, 1, 0x0, 1, 0x4, [⟨31, 24, .ro, .warm, 0, none⟩, ⟨23, 20, .ro, .warm, 0, none⟩, ⟨19, 16, .ro, .warm, 0, none⟩, ⟨15, 14, .ro, .warm, 0, none⟩, ⟨13, 12, .ro, .warm, 0, none⟩, ⟨1, 1, .ro, .warm, 0, none⟩, ⟨0, 0, .ro, .warm, 0, none⟩]⟩,
  ⟨0x084, 1, 0x0, 1, 0x4, [⟨31, 0, .rc, .warm, 0, none⟩]⟩]

/-- Page SCB (R278/08). -/
def regsSCB : List RegSpec := [
  ⟨0x040, 1, 0x0, 1, 0x4, [⟨31, 30, .rw, .warm, 2, some ⟨0, 0, 2, 2⟩⟩, ⟨29, 29, .rw, .warm, 1, none⟩, ⟨28, 28, .rw, .warm, 1, none⟩, ⟨27, 27, .rw, .warm, 1, none⟩, ⟨26, 26, .rw, .warm, 0, none⟩, ⟨15, 0, .rw, .warm, 0x118, some ⟨64, 64, 65535, 65535⟩⟩]⟩,
  ⟨0x044, 1, 0x0, 1, 0x4, [⟨31, 31, .ro, .warm, 0, none⟩, ⟨30, 30, .ro, .warm, 0, none⟩, ⟨29, 29, .ro, .warm, 0, none⟩, ⟨28, 24, .ro, .warm, 0, none⟩, ⟨19, 0, .ro, .warm, 0, none⟩]⟩,
  ⟨0x048, 1, 0x0, 1, 0x4, [⟨31, 0, .ro, .warm, 0, none⟩]⟩,
  ⟨0x04C, 1, 0x0, 1, 0x4, [⟨31, 0, .ro, .warm, 0, none⟩]⟩,
  ⟨0x050, 1, 0x0, 1, 0x4, [⟨31, 0, .rc, .warm, 0, none⟩]⟩,
  ⟨0x054, 1, 0x0, 1, 0x4, [⟨31, 0, .rc, .warm, 0, none⟩]⟩,
  ⟨0x058, 1, 0x0, 1, 0x4, [⟨31, 0, .rc, .warm, 0, none⟩]⟩,
  ⟨0x05C, 1, 0x0, 1, 0x4, [⟨31, 0, .rc, .warm, 0, none⟩]⟩,
  ⟨0x060, 1, 0x0, 1, 0x4, [⟨31, 0, .rc, .warm, 0, none⟩]⟩,
  ⟨0x064, 1, 0x0, 1, 0x4, [⟨31, 0, .rc, .warm, 0, none⟩]⟩,
  ⟨0x068, 1, 0x0, 1, 0x4, [⟨31, 0, .rc, .warm, 0, none⟩]⟩,
  ⟨0x06C, 1, 0x0, 1, 0x4, [⟨31, 0, .rc, .warm, 0, none⟩]⟩,
  ⟨0x070, 1, 0x0, 1, 0x4, [⟨31, 0, .rc, .warm, 0, none⟩]⟩,
  ⟨0x080, 1, 0x0, 1, 0x4, [⟨31, 0, .rw, .warm, 0, none⟩]⟩,
  ⟨0x084, 1, 0x0, 1, 0x4, [⟨31, 30, .rw, .warm, 0, some ⟨0, 0, 2, 0⟩⟩, ⟨23, 0, .rw, .warm, 0, none⟩]⟩]

/-- Page STL (R278/08). -/
def regsSTL : List RegSpec := [
  ⟨0x100, 16, 0x80, 4, 0x4, [⟨31, 21, .rw, .warm, 0x7ff, none⟩, ⟨20, 10, .rw, .warm, 0x7ff, none⟩, ⟨9, 5, .rw, .warm, 0x1f, none⟩, ⟨4, 0, .rw, .warm, 0x1f, none⟩]⟩,
  ⟨0x110, 16, 0x80, 1, 0x4, [⟨31, 27, .rw, .warm, 0, none⟩, ⟨26, 26, .rw, .warm, 1, none⟩, ⟨25, 25, .rw, .warm, 0, none⟩, ⟨24, 24, .rw, .warm, 0, none⟩, ⟨23, 23, .rw, .warm, 0, none⟩]⟩,
  ⟨0x114, 16, 0x80, 1, 0x4, [⟨31, 23, .w1s, .warm, 0, none⟩]⟩,
  ⟨0x118, 16, 0x80, 1, 0x4, [⟨31, 28, .ro, .warm, 0, none⟩, ⟨27, 25, .ro, .warm, 0, none⟩, ⟨24, 24, .ro, .warm, 0, none⟩, ⟨23, 23, .ro, .warm, 0, none⟩, ⟨22, 22, .ro, .warm, 0, none⟩, ⟨21, 21, .ro, .warm, 0, none⟩]⟩,
  ⟨0x11C, 16, 0x80, 1, 0x4, [⟨31, 28, .ro, .warm, 0, none⟩, ⟨27, 26, .ro, .warm, 0, none⟩, ⟨25, 23, .ro, .warm, 0, none⟩]⟩,
  ⟨0x120, 16, 0x80, 3, 0x4, [⟨31, 0, .rw, .warm, 0, none⟩]⟩,
  ⟨0x130, 16, 0x80, 3, 0x4, [⟨31, 0, .ro, .warm, 0, none⟩]⟩,
  ⟨0x140, 16, 0x80, 1, 0x4, [⟨31, 0, .rw, .warm, 0, none⟩]⟩,
  ⟨0x144, 16, 0x80, 1, 0x4, [⟨31, 30, .rw, .warm, 0, some ⟨0, 0, 2, 0⟩⟩, ⟨23, 0, .rw, .warm, 0, none⟩]⟩,
  ⟨0x148, 16, 0x80, 1, 0x4, [⟨31, 0, .rw, .warm, 0, none⟩]⟩,
  ⟨0x14C, 16, 0x80, 1, 0x4, [⟨31, 30, .rw, .warm, 0, some ⟨0, 0, 2, 0⟩⟩, ⟨23, 0, .rw, .warm, 0, none⟩]⟩,
  ⟨0x150, 16, 0x80, 1, 0x4, [⟨31, 16, .rw, .warm, 0x3e8, some ⟨1, 1, 65535, 65535⟩⟩, ⟨15, 0, .rw, .warm, 0xa, some ⟨1, 1, 65535, 65535⟩⟩]⟩,
  ⟨0x154, 16, 0x80, 1, 0x4, [⟨31, 0, .ro, .warm, 0, none⟩]⟩,
  ⟨0x158, 16, 0x80, 1, 0x4, [⟨31, 0, .rc, .warm, 0, none⟩]⟩,
  ⟨0x160, 16, 0x80, 4, 0x4, [⟨31, 0, .ro, .warm, 0, none⟩]⟩]

/-- Page TH0 (R170/05). -/
def regsTH0 : List RegSpec := [
  ⟨0x040, 1, 0x0, 1, 0x4, [⟨31, 24, .rw, .warm, 0, none⟩, ⟨20, 20, .w1s, .warm, 0, none⟩, ⟨19, 18, .rw, .warm, 0, none⟩, ⟨17, 17, .w1s, .warm, 0, none⟩, ⟨16, 16, .rw, .warm, 0, none⟩, ⟨1, 1, .rw, .warm, 0, none⟩, ⟨0, 0, .rw, .warm, 0, none⟩]⟩,
  ⟨0x044, 1, 0x0, 1, 0x4, [⟨31, 29, .ro, .warm, 0, none⟩, ⟨28, 28, .ro, .warm, 0, none⟩, ⟨27, 27, .ro, .warm, 0, none⟩, ⟨26, 26, .ro, .warm, 0, none⟩, ⟨25, 24, .ro, .warm, 0, none⟩, ⟨23, 19, .ro, .warm, 0, none⟩, ⟨15, 0, .ro, .warm, 0, none⟩]⟩,
  ⟨0x048, 1, 0x0, 1, 0x4, [⟨31, 31, .rw, .warm, 1, none⟩, ⟨15, 0, .rw, .warm, 1, none⟩]⟩,
  ⟨0x04C, 1, 0x0, 1, 0x4, [⟨31, 22, .rw, .warm, 0x64, none⟩, ⟨21, 0, .rw, .warm, 0xea60, some ⟨1, 1, 4194303, 4194303⟩⟩]⟩,
  ⟨0x050, 1, 0x0, 1, 0x4, [⟨31, 0, .ro, .warm, 0, none⟩]⟩,
  ⟨0x054, 1, 0x0, 1, 0x4, [⟨1, 0, .rw, .warm, 1, none⟩]⟩,
  ⟨0x060, 1, 0x0, 3, 0x4, [⟨31, 0, .ro, .warm, 0, none⟩]⟩,
  ⟨0x070, 1, 0x0, 3, 0x4, [⟨31, 0, .rw, .warm, 0, none⟩]⟩,
  ⟨0x080, 1, 0x0, 16, 0x4, [⟨7, 0, .rw, .warm, 0, none⟩]⟩]

/-- Page TH1 (R170/05). -/
def regsTH1 : List RegSpec := [
  ⟨0x040, 4, 0x20, 1, 0x4, [⟨3, 3, .rw, .warm, 0, none⟩, ⟨1, 0, .rw, .warm, 0, some ⟨0, 0, 2, 0⟩⟩]⟩,
  ⟨0x044, 4, 0x20, 1, 0x4, [⟨31, 28, .ro, .warm, 0, none⟩, ⟨27, 24, .ro, .warm, 0, none⟩, ⟨23, 23, .ro, .warm, 0, none⟩, ⟨15, 0, .ro, .warm, 0, none⟩]⟩,
  ⟨0x048, 4, 0x20, 1, 0x4, [⟨31, 0, .rw, .warm, 0, none⟩]⟩,
  ⟨0x04C, 4, 0x20, 1, 0x4, [⟨31, 0, .ro, .warm, 0, none⟩]⟩,
  ⟨0x050, 4, 0x20, 1, 0x4, [⟨31, 0, .ro, .warm, 0, none⟩]⟩,
  ⟨0x054, 4, 0x20, 1, 0x4, [⟨31, 0, .rc, .warm, 0, none⟩]⟩,
  ⟨0x058, 4, 0x20, 1, 0x4, [⟨31, 0, .rc, .warm, 0, none⟩]⟩,
  ⟨0x05C, 4, 0x20, 1, 0x4, [⟨31, 0, .rc, .warm, 0, none⟩]⟩,
  ⟨0x100, 1, 0x0, 1, 0x4, [⟨31, 0, .rw, .warm, 0, none⟩]⟩,
  ⟨0x104, 1, 0x0, 1, 0x4, [⟨31, 31, .w1s, .warm, 0, none⟩, ⟨27, 16, .rw, .warm, 0, none⟩, ⟨11, 0, .rw, .warm, 0, none⟩]⟩,
  ⟨0x200, 1, 0x0, 40, 0x4, [⟨25, 24, .rw, .warm, 0, none⟩, ⟨17, 16, .rw, .warm, 0, none⟩, ⟨9, 8, .rw, .warm, 0, none⟩, ⟨1, 0, .rw, .warm, 0, none⟩]⟩,
  ⟨0x2A0, 1, 0x0, 1, 0x4, [⟨7, 0, .rw, .warm, 1, none⟩]⟩]

/-- Page TH2 (R170/05). -/
def regsTH2 : List RegSpec := [
  ⟨0x040, 24, 0x20, 1, 0x4, [⟨31, 31, .w1s, .warm, 0, none⟩, ⟨30, 30, .w1s, .warm, 0, none⟩, ⟨29, 29, .rw, .warm, 0, none⟩, ⟨28, 28, .rw, .warm, 0, none⟩, ⟨27, 26, .rw, .warm, 0, none⟩, ⟨22, 16, .rw, .warm, 0, some ⟨0, 0, 100, 100⟩⟩, ⟨15, 8, .rw, .warm, 8, none⟩, ⟨7, 0, .rw, .warm, 1, some ⟨1, 1, 255, 255⟩⟩]⟩,
  ⟨0x044, 24, 0x20, 1, 0x4, [⟨31, 29, .ro, .warm, 0, none⟩, ⟨28, 28, .ro, .warm, 0, none⟩, ⟨27, 26, .ro, .warm, 0, none⟩, ⟨25, 25, .ro, .warm, 0, none⟩, ⟨24, 17, .ro, .warm, 0, none⟩]⟩,
  ⟨0x048, 24, 0x20, 1, 0x4, [⟨31, 0, .rw, .warm, 0, none⟩]⟩,
  ⟨0x04C, 24, 0x20, 1, 0x4, [⟨31, 0, .rc, .warm, 0, none⟩]⟩,
  ⟨0x050, 24, 0x20, 1, 0x4, [⟨31, 0, .rc, .warm, 0, none⟩]⟩,
  ⟨0x054, 24, 0x20, 3, 0x4, [⟨31, 0, .ro, .warm, 0, none⟩]⟩,
  ⟨0x400, 1, 0x0, 1, 0x4, [⟨31, 31, .w1s, .warm, 0, none⟩]⟩]

/-- Page TH3 (R170/05). -/
def regsTH3 : List RegSpec := [
  ⟨0x040, 16, 0x20, 1, 0x4, [⟨31, 31, .w1s, .warm, 0, none⟩, ⟨30, 30, .w1s, .warm, 0, none⟩, ⟨29, 29, .w1s, .warm, 0, none⟩, ⟨7, 0, .rw, .warm, 0, none⟩]⟩,
  ⟨0x044, 16, 0x20, 1, 0x4, [⟨31, 30, .ro, .warm, 0, none⟩, ⟨29, 29, .w1c, .warm, 0, none⟩, ⟨23, 8, .rc, .warm, 0, none⟩, ⟨7, 0, .ro, .warm, 0, none⟩]⟩,
  ⟨0x048, 16, 0x20, 1, 0x4, [⟨31, 0, .ro, .warm, 0, none⟩]⟩,
  ⟨0x04C, 16, 0x20, 3, 0x4, [⟨31, 0, .ro, .warm, 0, none⟩]⟩,
  ⟨0x300, 1, 0x0, 1, 0x4, [⟨8, 0, .rw, .warm, 0x10, some ⟨16, 16, 256, 256⟩⟩]⟩]

/-- Page TH4 (R170/05). -/
def regsTH4 : List RegSpec := [
  ⟨0x040, 28, 0x10, 1, 0x4, [⟨1, 1, .rw, .warm, 0, none⟩, ⟨0, 0, .rw, .warm, 0, none⟩]⟩,
  ⟨0x044, 28, 0x10, 1, 0x4, [⟨31, 0, .rw, .warm, 0, none⟩]⟩,
  ⟨0x048, 28, 0x10, 1, 0x4, [⟨20, 16, .ro, .warm, 0, none⟩, ⟨15, 0, .rc, .warm, 0, none⟩]⟩,
  ⟨0x300, 1, 0x0, 3, 0x4, [⟨31, 0, .rw, .warm, 0, none⟩]⟩,
  ⟨0x30C, 1, 0x0, 1, 0x4, [⟨31, 31, .w1s, .warm, 0, none⟩, ⟨28, 24, .rw, .warm, 0, none⟩, ⟨23, 21, .rw, .warm, 0, none⟩, ⟨15, 0, .rw, .warm, 0, none⟩]⟩,
  ⟨0x400, 4, 0x20, 1, 0x4, [⟨31, 31, .w1s, .warm, 0, none⟩, ⟨30, 30, .ro, .warm, 0, none⟩, ⟨1, 0, .rw, .warm, 0, some ⟨0, 0, 2, 0⟩⟩]⟩,
  ⟨0x404, 4, 0x20, 2, 0x4, [⟨31, 0, .rw, .warm, 0, none⟩]⟩,
  ⟨0x40C, 4, 0x20, 1, 0x4, [⟨31, 0, .rw, .warm, 0, none⟩]⟩,
  ⟨0x410, 4, 0x20, 3, 0x4, [⟨31, 0, .rw, .warm, 0, none⟩]⟩,
  ⟨0x41C, 4, 0x20, 1, 0x4, [⟨31, 0, .rw, .warm, 0, none⟩]⟩]

/-- Page TH5 (R170/05). -/
def regsTH5 : List RegSpec := [
  ⟨0x040, 1, 0x0, 1, 0x4, [⟨3, 0, .rw, .warm, 0, none⟩]⟩,
  ⟨0x044, 1, 0x0, 1, 0x4, [⟨0, 0, .ro, .warm, 0, none⟩]⟩,
  ⟨0x048, 1, 0x0, 3, 0x4, [⟨31, 0, .ro, .warm, 0, none⟩]⟩,
  ⟨0x054, 1, 0x0, 2, 0x4, [⟨31, 0, .ro, .warm, 0, none⟩]⟩]

/-- Page NOC (R310/09). -/
def regsNOC : List RegSpec := [
  ⟨0x040, 1, 0x0, 1, 0x4, [⟨31, 31, .w1s, .warm, 0, none⟩, ⟨30, 30, .rwl, .warm, 0, none⟩]⟩,
  ⟨0x044, 1, 0x0, 1, 0x4, [⟨31, 31, .ro, .warm, 0, none⟩, ⟨30, 29, .ro, .warm, 0, none⟩, ⟨15, 0, .ro, .warm, 0, none⟩]⟩,
  ⟨0x048, 1, 0x0, 1, 0x4, [⟨7, 4, .ro, .warm, 0, none⟩, ⟨3, 0, .ro, .warm, 0, none⟩]⟩,
  ⟨0x04C, 1, 0x0, 1, 0x4, [⟨23, 0, .ro, .warm, 0, none⟩]⟩,
  ⟨0x050, 1, 0x0, 1, 0x4, [⟨11, 0, .ro, .warm, 0, none⟩]⟩,
  ⟨0x054, 1, 0x0, 1, 0x4, [⟨11, 8, .ro, .warm, 8, none⟩, ⟨7, 4, .ro, .warm, 4, none⟩, ⟨3, 0, .ro, .warm, 1, none⟩]⟩,
  ⟨0x060, 1, 0x0, 1, 0x4, [⟨7, 4, .rw, .warm, 0, none⟩, ⟨3, 0, .rw, .warm, 0, none⟩]⟩,
  ⟨0x064, 1, 0x0, 1, 0x4, [⟨23, 0, .rw, .warm, 0, none⟩]⟩,
  ⟨0x068, 1, 0x0, 1, 0x4, [⟨11, 0, .rw, .warm, 0, none⟩]⟩,
  ⟨0x06C, 1, 0x0, 1, 0x4, [⟨11, 8, .rw, .warm, 8, some ⟨1, 1, 15, 15⟩⟩, ⟨7, 4, .rw, .warm, 4, some ⟨1, 1, 15, 15⟩⟩, ⟨3, 0, .rw, .warm, 1, some ⟨1, 1, 15, 15⟩⟩]⟩,
  ⟨0x080, 1, 0x0, 4, 0x4, [⟨31, 30, .ro, .warm, 0, none⟩, ⟨15, 0, .rw, .warm, 0x3e8, some ⟨1, 1, 65535, 65535⟩⟩]⟩,
  ⟨0x0A0, 1, 0x0, 1, 0x4, [⟨31, 0, .rc, .warm, 0, none⟩]⟩,
  ⟨0x0A4, 1, 0x0, 1, 0x4, [⟨31, 0, .rc, .warm, 0, none⟩]⟩,
  ⟨0x0A8, 1, 0x0, 1, 0x4, [⟨31, 0, .rc, .warm, 0, none⟩]⟩,
  ⟨0x0AC, 1, 0x0, 1, 0x4, [⟨31, 0, .rc, .warm, 0, none⟩]⟩,
  ⟨0x0B0, 1, 0x0, 1, 0x4, [⟨31, 0, .rc, .warm, 0, none⟩]⟩,
  ⟨0x0B4, 1, 0x0, 1, 0x4, [⟨31, 0, .rc, .warm, 0, none⟩]⟩,
  ⟨0x0B8, 1, 0x0, 1, 0x4, [⟨31, 0, .rc, .warm, 0, none⟩]⟩,
  ⟨0x0BC, 1, 0x0, 1, 0x4, [⟨31, 0, .rc, .warm, 0, none⟩]⟩,
  ⟨0x0C0, 1, 0x0, 1, 0x4, [⟨31, 0, .rc, .warm, 0, none⟩]⟩,
  ⟨0x100, 8, 0x10, 1, 0x4, [⟨31, 31, .w1s, .warm, 0, none⟩, ⟨30, 30, .ro, .warm, 0, none⟩, ⟨29, 28, .rw, .warm, 0, none⟩, ⟨27, 26, .rw, .warm, 0, none⟩, ⟨25, 16, .rw, .warm, 0x3ff, none⟩, ⟨15, 8, .rw, .warm, 0, none⟩, ⟨7, 0, .rw, .warm, 1, some ⟨1, 1, 255, 255⟩⟩]⟩,
  ⟨0x104, 8, 0x10, 1, 0x4, [⟨10, 9, .rw, .warm, 0, none⟩, ⟨8, 0, .rw, .warm, 0, none⟩]⟩,
  ⟨0x108, 8, 0x10, 1, 0x4, [⟨31, 0, .rc, .warm, 0, none⟩]⟩]

/-- Page QUAY (R310/09). -/
def regsQUAY : List RegSpec := [
  ⟨0x040, 1, 0x0, 1, 0x4, [⟨31, 31, .rw, .warm, 1, none⟩]⟩,
  ⟨0x044, 1, 0x0, 1, 0x4, [⟨31, 30, .ro, .warm, 0, none⟩, ⟨24, 16, .ro, .warm, 0, none⟩, ⟨8, 0, .ro, .warm, 0, none⟩]⟩,
  ⟨0x048, 1, 0x0, 1, 0x4, [⟨31, 0, .rc, .warm, 0, none⟩]⟩,
  ⟨0x04C, 1, 0x0, 1, 0x4, [⟨31, 0, .rc, .warm, 0, none⟩]⟩]

/-- Page DMC (R338/10). -/
def regsDMC : List RegSpec := [
  ⟨0x040, 1, 0x0, 1, 0x4, [⟨31, 31, .rw, .warm, 0, none⟩, ⟨3, 2, .rw, .warm, 0, some ⟨0, 0, 2, 0⟩⟩, ⟨1, 1, .rw, .warm, 1, none⟩]⟩,
  ⟨0x044, 1, 0x0, 1, 0x4, [⟨31, 28, .ro, .warm, 0, none⟩, ⟨27, 26, .ro, .warm, 0, none⟩, ⟨23, 16, .ro, .warm, 0, none⟩, ⟨14, 8, .ro, .warm, 0, none⟩, ⟨6, 0, .ro, .warm, 0, none⟩]⟩,
  ⟨0x048, 1, 0x0, 1, 0x4, [⟨31, 28, .rwl, .warm, 0, some ⟨0, 0, 4, 0⟩⟩, ⟨9, 8, .rwl, .warm, 0, some ⟨0, 0, 2, 0⟩⟩, ⟨4, 4, .rwl, .warm, 0, none⟩, ⟨0, 0, .rwl, .warm, 0, none⟩]⟩,
  ⟨0x04C, 1, 0x0, 1, 0x4, [⟨31, 31, .rw, .warm, 0, none⟩, ⟨30, 30, .rw, .warm, 1, none⟩]⟩,
  ⟨0x050, 1, 0x0, 1, 0x4, [⟨23, 16, .rw, .warm, 0x40, none⟩, ⟨15, 8, .rw, .warm, 0x10, none⟩, ⟨7, 0, .rw, .warm, 4, none⟩]⟩,
  ⟨0x054, 1, 0x0, 1, 0x4, [⟨15, 8, .rw, .warm, 0x30, some ⟨1, 1, 64, 64⟩⟩, ⟨7, 0, .rw, .warm, 0x10, some ⟨0, 0, 63, 63⟩⟩]⟩,
  ⟨0x058, 1, 0x0, 1, 0x4, [⟨2, 0, .rw, .warm, 4, some ⟨1, 4, 4, 4⟩⟩]⟩,
  ⟨0x05C, 1, 0x0, 1, 0x4, [⟨7, 0, .rw, .warm, 1, some ⟨1, 1, 255, 255⟩⟩]⟩,
  ⟨0x060, 1, 0x0, 1, 0x4, [⟨31, 31, .w1s, .warm, 0, none⟩, ⟨30, 30, .rw, .warm, 0, none⟩, ⟨29, 29, .w1s, .warm, 0, none⟩, ⟨28, 28, .w1s, .warm, 0, none⟩, ⟨27, 27, .w1s, .warm, 0, none⟩, ⟨26, 25, .ro, .warm, 0, none⟩, ⟨24, 23, .ro, .warm, 0, none⟩]⟩,
  ⟨0x064, 1, 0x0, 1, 0x4, [⟨31, 0, .rw, .warm, 0, none⟩]⟩,
  ⟨0x068, 1, 0x0, 1, 0x4, [⟨31, 31, .ro, .warm, 0, none⟩, ⟨7, 0, .rw, .warm, 0x18, some ⟨1, 1, 255, 255⟩⟩]⟩,
  ⟨0x06C, 1, 0x0, 1, 0x4, [⟨31, 16, .rw, .warm, 0x3e8, none⟩, ⟨15, 0, .rw, .warm, 0x3e8, some ⟨1, 1, 65535, 65535⟩⟩]⟩,
  ⟨0x070, 1, 0x0, 1, 0x4, [⟨31, 0, .rc, .warm, 0, none⟩]⟩,
  ⟨0x074, 1, 0x0, 1, 0x4, [⟨31, 0, .rc, .warm, 0, none⟩]⟩,
  ⟨0x078, 1, 0x0, 1, 0x4, [⟨31, 0, .rc, .warm, 0, none⟩]⟩,
  ⟨0x07C, 1, 0x0, 1, 0x4, [⟨31, 0, .rc, .warm, 0, none⟩]⟩,
  ⟨0x080, 1, 0x0, 1, 0x4, [⟨31, 0, .rc, .warm, 0, none⟩]⟩,
  ⟨0x088, 1, 0x0, 1, 0x4, [⟨31, 0, .ro, .warm, 0, none⟩]⟩,
  ⟨0x08C, 1, 0x0, 1, 0x4, [⟨31, 31, .ro, .warm, 0, none⟩, ⟨2, 0, .ro, .warm, 0, none⟩]⟩,
  ⟨0x090, 1, 0x0, 1, 0x4, [⟨31, 0, .rc, .warm, 0, none⟩]⟩,
  ⟨0x094, 1, 0x0, 1, 0x4, [⟨31, 0, .rc, .warm, 0, none⟩]⟩,
  ⟨0x098, 1, 0x0, 1, 0x4, [⟨31, 0, .rc, .warm, 0, none⟩]⟩,
  ⟨0x09C, 1, 0x0, 1, 0x4, [⟨31, 0, .rc, .warm, 0, none⟩]⟩,
  ⟨0x800, 1, 0x0, 512, 0x4, [⟨31, 0, .ro, .warm, 0, none⟩]⟩]

/-- Page MPE (R363/11). -/
def regsMPE : List RegSpec := [
  ⟨0x040, 1, 0x0, 1, 0x4, [⟨31, 31, .rwl, .warm, 0, none⟩]⟩,
  ⟨0x044, 1, 0x0, 1, 0x4, [⟨15, 0, .rw, .warm, 0, some ⟨0, 0, 32768, 32768⟩⟩]⟩,
  ⟨0x048, 1, 0x0, 1, 0x4, [⟨15, 0, .ro, .warm, 0, none⟩]⟩,
  ⟨0x050, 1, 0x0, 4, 0x4, [⟨31, 0, .rw, .warm, 0, none⟩]⟩,
  ⟨0x060, 1, 0x0, 1, 0x4, [⟨31, 31, .w1s, .warm, 0, none⟩, ⟨30, 30, .w1s, .warm, 0, none⟩, ⟨29, 28, .ro, .warm, 0, none⟩, ⟨5, 0, .rw, .warm, 0, none⟩]⟩,
  ⟨0x068, 1, 0x0, 2, 0x4, [⟨31, 0, .ro, .warm, 0, none⟩]⟩,
  ⟨0x070, 1, 0x0, 8, 0x4, [⟨31, 0, .wos, .warm, 0, none⟩]⟩,
  ⟨0x090, 1, 0x0, 1, 0x4, [⟨9, 0, .rw, .warm, 0, none⟩]⟩,
  ⟨0x094, 1, 0x0, 1, 0x4, [⟨31, 31, .ro, .warm, 0, none⟩, ⟨30, 28, .ro, .warm, 0, none⟩, ⟨27, 24, .ro, .warm, 0, none⟩]⟩,
  ⟨0x098, 1, 0x0, 1, 0x4, [⟨25, 0, .ro, .warm, 0, none⟩]⟩,
  ⟨0x09C, 1, 0x0, 1, 0x4, [⟨10, 0, .ro, .warm, 0, none⟩]⟩,
  ⟨0x0A0, 1, 0x0, 1, 0x4, [⟨31, 0, .rc, .warm, 0, none⟩]⟩,
  ⟨0x0A4, 1, 0x0, 1, 0x4, [⟨31, 0, .rc, .warm, 0, none⟩]⟩,
  ⟨0x0A8, 1, 0x0, 1, 0x4, [⟨31, 0, .rc, .warm, 0, none⟩]⟩,
  ⟨0x0AC, 1, 0x0, 1, 0x4, [⟨31, 0, .rc, .warm, 0, none⟩]⟩,
  ⟨0x0B0, 1, 0x0, 1, 0x4, [⟨31, 0, .rc, .warm, 0, none⟩]⟩,
  ⟨0x0B4, 1, 0x0, 1, 0x4, [⟨31, 0, .rc, .warm, 0, none⟩]⟩,
  ⟨0x100, 8, 0x40, 1, 0x4, [⟨31, 31, .rw, .warm, 0, none⟩, ⟨30, 30, .w1s, .warm, 0, none⟩, ⟨5, 0, .rw, .warm, 0, none⟩]⟩,
  ⟨0x104, 8, 0x40, 1, 0x4, [⟨31, 28, .ro, .warm, 0, none⟩, ⟨27, 24, .ro, .warm, 0, none⟩, ⟨23, 20, .ro, .warm, 0, none⟩, ⟨19, 18, .ro, .warm, 0, none⟩]⟩,
  ⟨0x108, 8, 0x40, 1, 0x4, [⟨15, 0, .rw, .warm, 0, none⟩]⟩,
  ⟨0x10C, 8, 0x40, 1, 0x4, [⟨15, 0, .rw, .warm, 0, none⟩]⟩,
  ⟨0x110, 8, 0x40, 1, 0x4, [⟨22, 0, .rw, .warm, 0, none⟩]⟩,
  ⟨0x114, 8, 0x40, 1, 0x4, [⟨22, 0, .ro, .warm, 0, none⟩]⟩,
  ⟨0x118, 8, 0x40, 2, 0x4, [⟨31, 0, .ro, .warm, 0, none⟩]⟩,
  ⟨0x120, 8, 0x40, 1, 0x4, [⟨23, 0, .ro, .warm, 0, none⟩]⟩,
  ⟨0x124, 8, 0x40, 1, 0x4, [⟨22, 0, .rw, .warm, 0, none⟩]⟩,
  ⟨0x128, 8, 0x40, 1, 0x4, [⟨22, 0, .rw, .warm, 0, none⟩]⟩]

/-- Page PCI0 (R396/12). -/
def regsPCI0 : List RegSpec := [
  ⟨0x040, 1, 0x0, 1, 0x4, [⟨31, 31, .rw, .warm, 0, none⟩, ⟨30, 30, .rw, .warm, 1, none⟩, ⟨29, 27, .rw, .warm, 5, some ⟨0, 0, 5, 5⟩⟩, ⟨26, 24, .rw, .warm, 4, none⟩, ⟨23, 23, .rw, .warm, 0, none⟩, ⟨22, 16, .rw, .warm, 0x40, none⟩, ⟨14, 8, .rw, .warm, 0, none⟩]⟩,
  ⟨0x044, 1, 0x0, 1, 0x4, [⟨31, 16, .rw, .warm, 0, none⟩, ⟨15, 0, .rw, .warm, 0, none⟩]⟩,
  ⟨0x048, 1, 0x0, 1, 0x4, [⟨31, 28, .ro, .warm, 0, none⟩, ⟨27, 25, .ro, .warm, 0, none⟩, ⟨24, 20, .ro, .warm, 0, none⟩, ⟨19, 19, .ro, .warm, 0, none⟩, ⟨18, 17, .ro, .warm, 0, none⟩, ⟨7, 0, .ro, .warm, 0, none⟩]⟩,
  ⟨0x04C, 1, 0x0, 1, 0x4, [⟨5, 4, .ro, .warm, 0, none⟩, ⟨3, 2, .ro, .warm, 0, none⟩, ⟨1, 0, .ro, .warm, 0, none⟩]⟩,
  ⟨0x050, 1, 0x0, 1, 0x4, [⟨9, 8, .rw, .warm, 2, none⟩, ⟨5, 0, .rw, .warm, 0, none⟩]⟩,
  ⟨0x054, 1, 0x0, 1, 0x4, [⟨31, 16, .rw, .warm, 0, none⟩, ⟨15, 0, .rw, .warm, 0, none⟩]⟩,
  ⟨0x058, 1, 0x0, 1, 0x4, [⟨31, 0, .rc, .warm, 0, none⟩]⟩]

/-- Page PCI1 (R396/12). -/
def regsPCI1 : List RegSpec := [
  ⟨0x050, 1, 0x0, 1, 0x4, [⟨9, 8, .rw, .warm, 2, none⟩, ⟨5, 0, .rw, .warm, 0, none⟩]⟩]

/-- Page SE0 (R396/12). -/
def regsSE0 : List RegSpec := [
  ⟨0x040, 1, 0x0, 1, 0x4, [⟨31, 31, .rw, .warm, 0, none⟩]⟩,
  ⟨0x044, 1, 0x0, 1, 0x4, [⟨11, 8, .rw, .warm, 8, some ⟨1, 1, 15, 15⟩⟩, ⟨7, 4, .rw, .warm, 4, some ⟨1, 1, 15, 15⟩⟩, ⟨3, 0, .rw, .warm, 1, some ⟨1, 1, 15, 15⟩⟩]⟩,
  ⟨0x048, 1, 0x0, 1, 0x4, [⟨28, 16, .ro, .warm, 0, none⟩, ⟨12, 0, .ro, .warm, 0, none⟩]⟩,
  ⟨0x050, 1, 0x0, 1, 0x4, [⟨31, 0, .rc, .warm, 0, none⟩]⟩,
  ⟨0x054, 1, 0x0, 1, 0x4, [⟨31, 0, .rc, .warm, 0, none⟩]⟩,
  ⟨0x058, 1, 0x0, 1, 0x4, [⟨31, 0, .rc, .warm, 0, none⟩]⟩]

/-- Page SE1 (R396/12). -/
def regsSE1 : List RegSpec := [
  ⟨0x100, 1, 0x0, 128, 0x4, [⟨31, 16, .rw, .warm, 0, none⟩, ⟨10, 0, .rw, .warm, 0, some ⟨0, 0, 1024, 1024⟩⟩]⟩]

/-- Page SLU (R396/12). -/
def regsSLU : List RegSpec := [
  ⟨0x800, 128, 0x10, 1, 0x4, [⟨31, 16, .rw, .warm, 1, some ⟨1, 1, 65535, 65535⟩⟩, ⟨15, 0, .rw, .warm, 1, some ⟨1, 1, 65535, 65535⟩⟩]⟩,
  ⟨0x804, 128, 0x10, 1, 0x4, [⟨31, 31, .rw, .warm, 0, none⟩, ⟨24, 24, .rw, .warm, 0, none⟩, ⟨22, 16, .rw, .warm, 0, none⟩, ⟨10, 0, .rw, .warm, 0, none⟩]⟩,
  ⟨0x808, 128, 0x10, 1, 0x4, [⟨31, 16, .ro, .warm, 0, none⟩, ⟨15, 15, .ro, .warm, 0, none⟩, ⟨14, 14, .ro, .warm, 0, none⟩, ⟨13, 13, .ro, .warm, 0, none⟩]⟩,
  ⟨0x80C, 128, 0x10, 1, 0x4, [⟨31, 0, .rc, .warm, 0, none⟩]⟩]

/-- Page CC0 (R426/13). -/
def regsCC0 : List RegSpec := [
  ⟨0x040, 1, 0x0, 1, 0x4, [⟨0, 0, .rw, .warm, 0, none⟩]⟩,
  ⟨0x044, 1, 0x0, 1, 0x4, [⟨4, 0, .rw, .warm, 8, some ⟨0, 0, 16, 16⟩⟩]⟩,
  ⟨0x048, 1, 0x0, 2, 0x4, [⟨31, 0, .rw, .warm, 0, none⟩]⟩,
  ⟨0x050, 1, 0x0, 1, 0x4, [⟨31, 31, .w1s, .warm, 0, none⟩, ⟨30, 30, .ro, .warm, 0, none⟩, ⟨29, 28, .rw, .warm, 0, none⟩, ⟨27, 0, .rw, .warm, 0, none⟩]⟩,
  ⟨0x060, 1, 0x0, 8, 0x8, [⟨31, 12, .rw, .warm, 0, none⟩, ⟨11, 0, .rw, .warm, 0, none⟩]⟩,
  ⟨0x0A0, 1, 0x0, 1, 0x4, [⟨31, 0, .rc, .warm, 0, none⟩]⟩]

/-- Page CCC (R426/13). -/
def regsCCC : List RegSpec := [
  ⟨0x040, 1, 0x0, 1, 0x4, [⟨0, 0, .rw, .warm, 0, none⟩]⟩,
  ⟨0x048, 1, 0x0, 2, 0x4, [⟨31, 0, .rw, .warm, 0, none⟩]⟩,
  ⟨0x050, 1, 0x0, 2, 0x4, [⟨31, 0, .rw, .warm, 0, none⟩]⟩,
  ⟨0x058, 1, 0x0, 2, 0x4, [⟨31, 0, .rw, .warm, 0xffffffff, none⟩]⟩,
  ⟨0x060, 1, 0x0, 1, 0x4, [⟨0, 0, .rw, .warm, 0, none⟩]⟩]

/-- Page IC0 (R426/13). -/
def regsIC0 : List RegSpec := [
  ⟨0x040, 1, 0x0, 1, 0x4, [⟨15, 0, .w1s, .warm, 0, none⟩]⟩,
  ⟨0x100, 1, 0x0, 32, 0x4, [⟨31, 0, .rw, .warm, 0, none⟩]⟩,
  ⟨0x200, 1, 0x0, 32, 0x4, [⟨31, 0, .rw, .warm, 0, none⟩]⟩,
  ⟨0x300, 1, 0x0, 32, 0x4, [⟨31, 0, .ro, .warm, 0, none⟩]⟩,
  ⟨0x400, 1, 0x0, 256, 0x4, [⟨31, 0, .rw, .warm, 0, none⟩]⟩]

/-- Page ICS (R426/13). -/
def regsICS : List RegSpec := [
  ⟨0x040, 1, 0x0, 512, 0x4, [⟨31, 24, .ro, .warm, 0, none⟩, ⟨23, 16, .rw, .warm, 0, none⟩, ⟨1, 1, .rw, .warm, 0, none⟩, ⟨0, 0, .rw, .warm, 1, none⟩]⟩]

/-- Page ICC (R426/13). -/
def regsICC : List RegSpec := [
  ⟨0x040, 1, 0x0, 1, 0x4, [⟨31, 24, .ro, .warm, 0, none⟩, ⟨9, 0, .ro, .warm, 0x3ff, none⟩]⟩,
  ⟨0x044, 1, 0x0, 1, 0x4, [⟨31, 24, .ro, .warm, 0, none⟩, ⟨9, 0, .ro, .warm, 0x3ff, none⟩]⟩,
  ⟨0x048, 1, 0x0, 1, 0x4, [⟨9, 0, .wo, .warm, 0, none⟩]⟩,
  ⟨0x04C, 1, 0x0, 1, 0x4, [⟨0, 0, .rw, .warm, 0, none⟩]⟩,
  ⟨0x050, 1, 0x0, 1, 0x4, [⟨31, 0, .rc, .warm, 0, none⟩]⟩]

/-- Page TS0 (R426/13). -/
def regsTS0 : List RegSpec := [
  ⟨0x040, 1, 0x0, 1, 0x4, [⟨31, 31, .w1s, .warm, 0, none⟩, ⟨0, 0, .rw, .warm, 0, none⟩]⟩,
  ⟨0x044, 1, 0x0, 1, 0x4, [⟨13, 0, .rw, .warm, 0xa, some ⟨1, 1, 10000, 10000⟩⟩]⟩,
  ⟨0x048, 1, 0x0, 1, 0x4, [⟨9, 0, .rw, .warm, 0x64, some ⟨1, 1, 1000, 1000⟩⟩]⟩,
  ⟨0x04C, 1, 0x0, 1, 0x4, [⟨31, 28, .wo, .warm, 0, none⟩, ⟨11, 0, .wo, .warm, 0, none⟩]⟩,
  ⟨0x050, 1, 0x0, 1, 0x4, [⟨1, 0, .ro, .warm, 0, none⟩]⟩,
  ⟨0x054, 1, 0x0, 1, 0x4, [⟨31, 28, .wo, .warm, 0, none⟩, ⟨11, 0, .wo, .warm, 0, none⟩]⟩,
  ⟨0x058, 1, 0x0, 2, 0x4, [⟨31, 0, .ro, .warm, 0, none⟩]⟩,
  ⟨0x060, 1, 0x0, 1, 0x4, [⟨31, 0, .rc, .warm, 0, none⟩]⟩,
  ⟨0x064, 1, 0x0, 1, 0x4, [⟨31, 0, .rc, .warm, 0, none⟩]⟩,
  ⟨0x068, 1, 0x0, 1, 0x4, [⟨31, 0, .rc, .warm, 0, none⟩]⟩,
  ⟨0x06C, 1, 0x0, 1, 0x4, [⟨31, 0, .rc, .warm, 0, none⟩]⟩,
  ⟨0x070, 1, 0x0, 1, 0x4, [⟨31, 0, .rc, .warm, 0, none⟩]⟩,
  ⟨0x074, 1, 0x0, 1, 0x4, [⟨9, 0, .ro, .warm, 0, none⟩]⟩,
  ⟨0x100, 1, 0x0, 8, 0x10, [⟨31, 0, .ro, .warm, 0, none⟩]⟩,
  ⟨0x200, 64, 0x10, 1, 0x4, [⟨31, 31, .rw, .warm, 0, none⟩, ⟨4, 0, .rw, .warm, 1, some ⟨1, 1, 16, 16⟩⟩]⟩,
  ⟨0x204, 64, 0x10, 2, 0x4, [⟨31, 0, .rw, .warm, 0, none⟩]⟩]

/-- Page TS1 (R426/13). -/
def regsTS1 : List RegSpec := [
  ⟨0x100, 72, 0x8, 1, 0x4, [⟨12, 0, .ro, .warm, 0, none⟩]⟩,
  ⟨0x104, 72, 0x8, 1, 0x4, [⟨31, 31, .ro, .warm, 1, none⟩, ⟨15, 0, .ro, .warm, 0, none⟩]⟩]

/-- Page TS2 (R426/13). -/
def regsTS2 : List RegSpec := [
  ⟨0x100, 72, 0x20, 8, 0x4, [⟨31, 0, .rc, .warm, 0, none⟩]⟩]

/-- Page XCV (R452/14). -/
def regsXCV : List RegSpec := [
  ⟨0x040, 1, 0x0, 1, 0x4, [⟨31, 31, .rwl, .warm, 0, none⟩, ⟨30, 30, .rwl, .warm, 0, none⟩]⟩,
  ⟨0x044, 1, 0x0, 1, 0x4, [⟨31, 31, .ro, .warm, 0, none⟩, ⟨30, 30, .ro, .warm, 0, none⟩, ⟨29, 29, .w1c, .warm, 0, none⟩, ⟨7, 0, .rc, .warm, 0, none⟩]⟩,
  ⟨0x048, 2, 0x8, 1, 0x4, [⟨31, 31, .rw, .warm, 0, none⟩, ⟨30, 30, .w1s, .warm, 0, none⟩, ⟨29, 28, .rw, .warm, 0, none⟩, ⟨25, 24, .rw, .warm, 0, none⟩, ⟨23, 16, .rw, .warm, 0, none⟩]⟩,
  ⟨0x04C, 2, 0x8, 1, 0x4, [⟨23, 0, .rw, .warm, 0, none⟩]⟩,
  ⟨0x058, 1, 0x0, 1, 0x4, [⟨9, 8, .rw, .warm, 0, none⟩, ⟨5, 0, .rw, .warm, 0x10, some ⟨1, 1, 48, 48⟩⟩]⟩,
  ⟨0x060, 1, 0x0, 4, 0x4, [⟨31, 31, .rw, .warm, 0, none⟩, ⟨30, 30, .rw, .warm, 0, none⟩, ⟨29, 27, .rw, .warm, 0, none⟩]⟩,
  ⟨0x100, 4, 0x40, 1, 0x4, [⟨31, 30, .rw, .warm, 2, some ⟨0, 0, 2, 2⟩⟩, ⟨29, 29, .rw, .warm, 0, none⟩, ⟨28, 28, .rw, .warm, 0, none⟩, ⟨27, 26, .rw, .warm, 0, none⟩, ⟨25, 24, .rw, .warm, 0, none⟩, ⟨23, 23, .rw, .warm, 0, none⟩, ⟨22, 22, .rw, .warm, 0, none⟩, ⟨21, 19, .rw, .warm, 0, none⟩, ⟨18, 16, .rw, .warm, 0, none⟩, ⟨15, 15, .rw, .warm, 0, none⟩, ⟨14, 14, .rw, .warm, 0, none⟩, ⟨13, 13, .rw, .warm, 0, none⟩, ⟨12, 12, .rw, .warm, 0, none⟩, ⟨11, 11, .rw, .warm, 0, none⟩, ⟨10, 10, .rw, .warm, 0, none⟩, ⟨9, 9, .rw, .warm, 1, none⟩, ⟨8, 8, .rw, .warm, 1, none⟩, ⟨7, 7, .rw, .warm, 0, none⟩]⟩,
  ⟨0x104, 4, 0x40, 1, 0x4, [⟨31, 31, .rw, .warm, 0, none⟩, ⟨30, 29, .rw, .warm, 0, some ⟨0, 0, 2, 0⟩⟩, ⟨28, 23, .rw, .warm, 1, none⟩, ⟨22, 21, .rw, .warm, 0, none⟩, ⟨20, 19, .rw, .warm, 0, none⟩, ⟨15, 0, .rw, .warm, 0, none⟩]⟩,
  ⟨0x108, 4, 0x40, 1, 0x4, [⟨31, 30, .ro, .warm, 2, none⟩, ⟨29, 29, .ro, .warm, 0, none⟩, ⟨28, 28, .ro, .warm, 0, none⟩, ⟨27, 27, .ro, .warm, 0, none⟩, ⟨26, 26, .ro, .warm, 0, none⟩, ⟨25, 23, .ro, .warm, 0, none⟩, ⟨22, 21, .ro, .warm, 0, none⟩, ⟨20, 20, .ro, .warm, 0, none⟩, ⟨19, 17, .ro, .warm, 0, none⟩, ⟨16, 16, .ro, .warm, 0, none⟩, ⟨15, 15, .ro, .warm, 0, none⟩, ⟨14, 8, .ro, .warm, 0, none⟩, ⟨5, 0, .ro, .warm, 0, none⟩]⟩,
  ⟨0x10C, 4, 0x40, 1, 0x4, [⟨31, 31, .w1s, .warm, 0, none⟩, ⟨30, 30, .rw, .warm, 0, none⟩, ⟨29, 28, .ro, .warm, 0, none⟩, ⟨27, 27, .ro, .warm, 0, none⟩]⟩,
  ⟨0x110, 4, 0x40, 1, 0x4, [⟨31, 31, .rw, .warm, 0, none⟩, ⟨30, 30, .rw, .warm, 0, none⟩, ⟨29, 27, .rw, .warm, 0, none⟩, ⟨26, 26, .ro, .warm, 0, none⟩, ⟨25, 25, .ro, .warm, 0, none⟩]⟩,
  ⟨0x114, 4, 0x40, 1, 0x4, [⟨31, 0, .rc, .warm, 0, none⟩]⟩,
  ⟨0x118, 4, 0x40, 1, 0x4, [⟨15, 0, .rc, .warm, 0, none⟩]⟩,
  ⟨0x11C, 4, 0x40, 1, 0x4, [⟨31, 31, .w1s, .warm, 0, none⟩, ⟨30, 30, .ro, .warm, 0, none⟩, ⟨29, 28, .ro, .warm, 0, none⟩, ⟨27, 22, .rw, .warm, 0, none⟩, ⟨21, 14, .rw, .warm, 0, none⟩, ⟨13, 12, .rw, .warm, 0, none⟩, ⟨5, 0, .rw, .warm, 0, none⟩]⟩,
  ⟨0x120, 4, 0x40, 1, 0x4, [⟨31, 0, .ro, .warm, 0, none⟩]⟩,
  ⟨0x124, 4, 0x40, 1, 0x4, [⟨15, 0, .ro, .warm, 0, none⟩]⟩,
  ⟨0x128, 4, 0x40, 1, 0x4, [⟨31, 31, .w1s, .warm, 0, none⟩, ⟨30, 30, .ro, .warm, 0, none⟩, ⟨29, 28, .rw, .warm, 0, none⟩, ⟨27, 20, .rw, .warm, 0, none⟩, ⟨19, 12, .rw, .warm, 0, some ⟨1, 1, 255, 255⟩⟩, ⟨11, 4, .rw, .warm, 0, none⟩, ⟨3, 0, .rw, .warm, 0, none⟩]⟩,
  ⟨0x12C, 4, 0x40, 1, 0x4, [⟨31, 0, .rc, .warm, 0, none⟩]⟩,
  ⟨0x130, 4, 0x40, 1, 0x4, [⟨31, 0, .rc, .warm, 0, none⟩]⟩,
  ⟨0x134, 4, 0x40, 1, 0x4, [⟨31, 0, .rc, .warm, 0, none⟩]⟩,
  ⟨0x138, 4, 0x40, 1, 0x4, [⟨31, 0, .rc, .warm, 0, none⟩]⟩,
  ⟨0x13C, 4, 0x40, 1, 0x4, [⟨31, 31, .w1s, .warm, 0, none⟩, ⟨30, 28, .ro, .warm, 0, none⟩, ⟨27, 24, .ro, .warm, 0, none⟩]⟩]

/-- Page GPIO (R560/20). -/
def regsGPIO : List RegSpec := [
  ⟨0x040, 1, 0x0, 1, 0x4, [⟨31, 31, .ro, .warm, 0, none⟩, ⟨30, 30, .ro, .warm, 0, none⟩, ⟨6, 0, .ro, .warm, 0, none⟩]⟩]

/-- Page PAIR (R470/15). -/
def regsPAIR : List RegSpec := [
  ⟨0x040, 1, 0x0, 1, 0x4, [⟨31, 31, .rwl, .warm, 0, none⟩, ⟨30, 30, .rw, .warm, 0, none⟩, ⟨29, 29, .w1s, .warm, 0, none⟩, ⟨28, 28, .w1s, .warm, 0, none⟩, ⟨27, 27, .w1s, .warm, 0, none⟩, ⟨26, 26, .w1s, .warm, 0, none⟩]⟩,
  ⟨0x044, 1, 0x0, 1, 0x4, [⟨31, 28, .ro, .warm, 0, none⟩, ⟨27, 27, .ro, .cold, 0, none⟩, ⟨26, 26, .ro, .cold, 0, none⟩, ⟨25, 25, .ro, .warm, 0, none⟩, ⟨24, 24, .ro, .cold, 0, none⟩, ⟨23, 20, .ro, .warm, 0, none⟩]⟩,
  ⟨0x048, 1, 0x0, 1, 0x4, [⟨31, 28, .rwl, .warm, 0xb, some ⟨0, 0, 11, 11⟩⟩, ⟨15, 8, .rw, .warm, 8, some ⟨1, 1, 255, 255⟩⟩, ⟨7, 0, .rw, .warm, 0x14, some ⟨1, 1, 255, 255⟩⟩]⟩,
  ⟨0x04C, 1, 0x0, 1, 0x4, [⟨31, 0, .rc, .warm, 0, none⟩]⟩,
  ⟨0x050, 1, 0x0, 1, 0x4, [⟨31, 0, .rc, .warm, 0, none⟩]⟩,
  ⟨0x054, 1, 0x0, 1, 0x4, [⟨31, 0, .rc, .warm, 0, none⟩]⟩,
  ⟨0x058, 1, 0x0, 1, 0x4, [⟨31, 0, .rc, .warm, 0, none⟩]⟩,
  ⟨0x05C, 1, 0x0, 1, 0x4, [⟨15, 0, .ro, .warm, 0, none⟩]⟩,
  ⟨0x060, 1, 0x0, 1, 0x4, [⟨31, 0, .ro, .warm, 0, none⟩]⟩,
  ⟨0x100, 1, 0x0, 4, 0x4, [⟨31, 16, .rwl, .warm, 0, none⟩, ⟨15, 0, .rwl, .warm, 0, none⟩]⟩,
  ⟨0x400, 1, 0x0, 240, 0x4, [⟨13, 8, .rwl, .warm, 0, none⟩, ⟨5, 0, .rwl, .warm, 0, none⟩]⟩]

/-- Page FLT (R490/16). -/
def regsFLT : List RegSpec := [
  ⟨0x040, 1, 0x0, 1, 0x4, [⟨31, 31, .w1s, .cold, 0, none⟩, ⟨30, 30, .rwl, .cold, 0, none⟩]⟩,
  ⟨0x044, 1, 0x0, 1, 0x4, [⟨31, 30, .ro, .cold, 0, none⟩, ⟨29, 29, .ro, .cold, 0, none⟩, ⟨28, 28, .ro, .cold, 0, none⟩, ⟨27, 15, .ro, .cold, 0, none⟩, ⟨7, 0, .ro, .cold, 0, none⟩]⟩,
  ⟨0x048, 1, 0x0, 1, 0x4, [⟨31, 24, .rw, .cold, 0x80, some ⟨8, 8, 128, 128⟩⟩]⟩,
  ⟨0x050, 1, 0x0, 1, 0x4, [⟨31, 12, .rwl, .cold, 0, none⟩]⟩,
  ⟨0x054, 1, 0x0, 1, 0x4, [⟨12, 0, .rwl, .cold, 0, none⟩]⟩,
  ⟨0x058, 1, 0x0, 1, 0x4, [⟨31, 0, .ro, .cold, 0, none⟩]⟩,
  ⟨0x05C, 1, 0x0, 1, 0x4, [⟨31, 0, .ro, .cold, 0, none⟩]⟩,
  ⟨0x060, 1, 0x0, 1, 0x4, [⟨9, 0, .rw, .cold, 0, none⟩]⟩,
  ⟨0x070, 1, 0x0, 8, 0x4, [⟨31, 0, .ro, .cold, 0, none⟩]⟩,
  ⟨0x090, 1, 0x0, 1, 0x4, [⟨31, 0, .rc, .cold, 0, none⟩]⟩,
  ⟨0x094, 1, 0x0, 1, 0x4, [⟨31, 0, .rc, .cold, 0, none⟩]⟩,
  ⟨0x098, 1, 0x0, 1, 0x4, [⟨31, 0, .rc, .cold, 0, none⟩]⟩,
  ⟨0x09C, 1, 0x0, 1, 0x4, [⟨31, 0, .rc, .cold, 0, none⟩]⟩,
  ⟨0x0A0, 1, 0x0, 1, 0x4, [⟨31, 0, .ro, .cold, 0, none⟩]⟩]

/-- Page AGE (R511/17). -/
def regsAGE : List RegSpec := [
  ⟨0x040, 1, 0x0, 1, 0x4, [⟨31, 30, .rw, .warm, 1, some ⟨0, 0, 2, 1⟩⟩, ⟨29, 29, .rw, .warm, 0, none⟩, ⟨21, 16, .rw, .warm, 1, some ⟨1, 1, 60, 60⟩⟩, ⟨7, 0, .rw, .warm, 6, some ⟨1, 1, 255, 255⟩⟩]⟩,
  ⟨0x044, 1, 0x0, 1, 0x4, [⟨31, 28, .ro, .warm, 0, none⟩, ⟨27, 27, .ro, .warm, 0, none⟩, ⟨26, 26, .ro, .warm, 0, none⟩, ⟨25, 16, .ro, .warm, 0, none⟩, ⟨15, 8, .ro, .warm, 0, none⟩]⟩,
  ⟨0x048, 1, 0x0, 1, 0x4, [⟨15, 8, .rw, .warm, 0x19, none⟩, ⟨7, 0, .rw, .warm, 8, none⟩]⟩,
  ⟨0x04C, 1, 0x0, 1, 0x4, [⟨31, 31, .w1s, .warm, 0, none⟩, ⟨29, 28, .ro, .warm, 0, none⟩]⟩,
  ⟨0x050, 1, 0x0, 1, 0x4, [⟨31, 12, .rwl, .cold, 0, none⟩]⟩,
  ⟨0x054, 1, 0x0, 1, 0x4, [⟨5, 0, .rwl, .cold, 0, none⟩]⟩,
  ⟨0x058, 1, 0x0, 1, 0x4, [⟨31, 0, .ro, .warm, 0, none⟩]⟩,
  ⟨0x100, 1, 0x0, 32, 0x4, [⟨31, 16, .rwl, .cold, 0, none⟩, ⟨15, 0, .rwl, .cold, 0, none⟩]⟩,
  ⟨0x180, 1, 0x0, 16, 0x4, [⟨31, 24, .rwl, .cold, 0, none⟩, ⟨15, 0, .rwl, .cold, 0, none⟩]⟩,
  ⟨0x400, 1, 0x0, 512, 0x4, [⟨31, 31, .ro, .warm, 0, none⟩, ⟨15, 0, .ro, .warm, 0, none⟩]⟩]

/-- Page THM (R511/17). -/
def regsTHM : List RegSpec := [
  ⟨0x040, 1, 0x0, 1, 0x4, [⟨0, 0, .rw, .cold, 0, none⟩]⟩,
  ⟨0x044, 1, 0x0, 1, 0x4, [⟨15, 8, .rw, .cold, 0x73, none⟩, ⟨7, 0, .rw, .cold, 0x69, none⟩]⟩,
  ⟨0x048, 1, 0x0, 1, 0x4, [⟨31, 28, .ro, .cold, 0, none⟩, ⟨27, 24, .ro, .cold, 0, none⟩, ⟨23, 20, .ro, .cold, 0, none⟩, ⟨19, 16, .ro, .cold, 0, none⟩, ⟨11, 0, .ro, .cold, 0, none⟩]⟩,
  ⟨0x080, 1, 0x0, 24, 0x4, [⟨31, 31, .ro, .cold, 0, none⟩, ⟨30, 30, .ro, .cold, 0, none⟩, ⟨11, 0, .ro, .cold, 0, none⟩]⟩,
  ⟨0x100, 1, 0x0, 16, 0x4, [⟨15, 8, .rw, .cold, 0, none⟩, ⟨3, 0, .rw, .cold, 0, none⟩]⟩]

/-- Page TWP (R528/18). -/
def regsTWP : List RegSpec := [
  ⟨0x040, 1, 0x0, 1, 0x4, [⟨31, 31, .rwl, .cold, 1, none⟩, ⟨30, 30, .rwl, .cold, 1, none⟩, ⟨29, 29, .rwl, .cold, 1, none⟩, ⟨6, 0, .ro, .cold, 0x58, none⟩]⟩,
  ⟨0x044, 1, 0x0, 1, 0x4, [⟨31, 28, .ro, .cold, 0, none⟩, ⟨27, 24, .ro, .cold, 0, none⟩, ⟨23, 22, .ro, .cold, 0, none⟩, ⟨19, 19, .ro, .cold, 0, none⟩, ⟨18, 18, .ro, .cold, 0, none⟩, ⟨17, 17, .ro, .cold, 0, none⟩]⟩,
  ⟨0x048, 1, 0x0, 1, 0x4, [⟨7, 0, .w1c, .cold, 0, none⟩]⟩,
  ⟨0x04C, 1, 0x0, 1, 0x4, [⟨7, 0, .rw, .cold, 0x1d, none⟩]⟩,
  ⟨0x050, 1, 0x0, 1, 0x4, [⟨0, 0, .w1s, .cold, 0, none⟩]⟩,
  ⟨0x054, 1, 0x0, 1, 0x4, [⟨31, 0, .rc, .cold, 0, none⟩]⟩,
  ⟨0x058, 1, 0x0, 1, 0x4, [⟨31, 0, .rc, .cold, 0, none⟩]⟩,
  ⟨0x05C, 1, 0x0, 1, 0x4, [⟨31, 0, .wo, .cold, 0, none⟩]⟩]

/-- Page RGN (R99/03). -/
def regsRGN : List RegSpec := [
  ⟨0x040, 1, 0x0, 1, 0x4, [⟨23, 0, .rw, .warm, 0, none⟩]⟩,
  ⟨0x044, 1, 0x0, 1, 0x4, [⟨23, 0, .ro, .warm, 0, none⟩]⟩,
  ⟨0x048, 1, 0x0, 1, 0x4, [⟨23, 0, .rw, .warm, 0, none⟩]⟩,
  ⟨0x100, 2, 0x40, 1, 0x4, [⟨23, 16, .rw, .warm, 0x10, some ⟨1, 1, 255, 255⟩⟩, ⟨13, 0, .rw, .warm, 0x3e8, some ⟨1, 1, 16000, 16000⟩⟩]⟩,
  ⟨0x104, 2, 0x40, 1, 0x4, [⟨7, 0, .ro, .warm, 0, none⟩]⟩,
  ⟨0x108, 2, 0x40, 1, 0x4, [⟨31, 0, .rc, .warm, 0, none⟩]⟩,
  ⟨0x10C, 2, 0x40, 1, 0x4, [⟨31, 0, .rc, .warm, 0, none⟩]⟩,
  ⟨0x110, 2, 0x40, 8, 0x4, [⟨31, 31, .w1c, .warm, 0, none⟩, ⟨30, 27, .ro, .warm, 0, none⟩, ⟨26, 20, .ro, .warm, 0, none⟩, ⟨19, 8, .ro, .warm, 0, none⟩, ⟨6, 0, .ro, .warm, 0, none⟩]⟩,
  ⟨0x130, 2, 0x40, 1, 0x4, [⟨15, 0, .rc, .warm, 0, none⟩]⟩,
  ⟨0x180, 1, 0x0, 1, 0x4, [⟨31, 30, .ro, .warm, 0, none⟩, ⟨29, 29, .ro, .warm, 0, none⟩, ⟨28, 22, .ro, .warm, 0, none⟩, ⟨11, 0, .ro, .warm, 0, none⟩]⟩,
  ⟨0x184, 1, 0x0, 1, 0x4, [⟨31, 16, .ro, .warm, 0, none⟩, ⟨15, 8, .ro, .warm, 0, none⟩]⟩,
  ⟨0x188, 1, 0x0, 1, 0x4, [⟨31, 31, .w1s, .warm, 0, none⟩, ⟨30, 30, .rw, .warm, 0, none⟩, ⟨22, 16, .rw, .warm, 0, none⟩, ⟨7, 0, .rw, .warm, 0, none⟩]⟩,
  ⟨0x18C, 1, 0x0, 1, 0x4, [⟨31, 31, .w1s, .warm, 0, none⟩, ⟨30, 30, .rw, .warm, 0, none⟩, ⟨29, 28, .ro, .warm, 0, none⟩, ⟨27, 27, .ro, .warm, 0, none⟩, ⟨26, 26, .ro, .warm, 0, none⟩, ⟨22, 16, .rw, .warm, 0, none⟩]⟩,
  ⟨0x200, 1, 0x0, 24, 0x4, [⟨31, 31, .rwl, .warm, 0, none⟩, ⟨30, 30, .ro, .warm, 0, none⟩, ⟨29, 29, .ro, .warm, 0, none⟩, ⟨15, 12, .rwl, .warm, 0, none⟩, ⟨11, 0, .rwl, .warm, 0, none⟩]⟩,
  ⟨0x260, 1, 0x0, 24, 0x4, [⟨31, 31, .rwl, .warm, 0, none⟩, ⟨30, 30, .ro, .warm, 0, none⟩, ⟨29, 29, .ro, .warm, 0, none⟩, ⟨11, 0, .rwl, .warm, 0, none⟩]⟩,
  ⟨0x300, 2, 0x40, 1, 0x4, [⟨31, 31, .w1s, .image, 0, none⟩, ⟨30, 30, .w1s, .image, 0, none⟩, ⟨19, 16, .rw, .image, 0, none⟩, ⟨15, 13, .rw, .image, 0, none⟩, ⟨12, 12, .rw, .image, 0, none⟩, ⟨11, 11, .rw, .image, 0, none⟩, ⟨10, 8, .rw, .image, 0, none⟩, ⟨3, 0, .rw, .image, 0, none⟩]⟩,
  ⟨0x304, 2, 0x40, 1, 0x4, [⟨23, 16, .rw, .image, 0, none⟩, ⟨5, 0, .rw, .image, 0, none⟩]⟩,
  ⟨0x308, 2, 0x40, 1, 0x4, [⟨23, 0, .rw, .image, 0, none⟩]⟩,
  ⟨0x30C, 2, 0x40, 1, 0x4, [⟨31, 31, .ro, .warm, 0, none⟩, ⟨30, 30, .ro, .warm, 0, none⟩, ⟨29, 29, .w1c, .warm, 0, none⟩, ⟨7, 0, .rc, .warm, 0, none⟩]⟩,
  ⟨0x310, 2, 0x40, 7, 0x4, [⟨31, 31, .rw, .image, 0, none⟩, ⟨30, 30, .rw, .image, 0, none⟩, ⟨28, 16, .rw, .image, 0, none⟩, ⟨7, 0, .rw, .image, 0, none⟩]⟩]

/-- Table window SC (R376,R397/12). -/
def regsSC : List RegSpec := [
  ⟨0x000, 1, 0x0, 1, 0x4, [⟨31, 31, .rw, .warm, 0, none⟩, ⟨30, 30, .w1s, .warm, 0, none⟩, ⟨29, 29, .w1s, .warm, 0, none⟩, ⟨28, 27, .rw, .warm, 0, none⟩, ⟨26, 25, .rw, .warm, 0, none⟩, ⟨24, 23, .rw, .warm, 0, none⟩, ⟨22, 17, .rw, .warm, 0, none⟩, ⟨16, 15, .rw, .warm, 0, some ⟨0, 0, 2, 0⟩⟩, ⟨11, 0, .rw, .warm, 0, none⟩]⟩,
  ⟨0x004, 1, 0x0, 1, 0x4, [⟨26, 16, .rw, .warm, 0, none⟩, ⟨14, 8, .rw, .warm, 0, some ⟨0, 0, 64, 0⟩⟩, ⟨0, 0, .rw, .warm, 0, none⟩]⟩,
  ⟨0x008, 1, 0x0, 1, 0x4, [⟨31, 6, .rw, .warm, 0, none⟩]⟩,
  ⟨0x00C, 1, 0x0, 1, 0x4, [⟨31, 27, .rw, .warm, 0, none⟩, ⟨23, 0, .rw, .warm, 0, none⟩]⟩,
  ⟨0x010, 1, 0x0, 1, 0x4, [⟨31, 6, .rw, .warm, 0, none⟩]⟩,
  ⟨0x014, 1, 0x0, 1, 0x4, [⟨23, 0, .rw, .warm, 0, none⟩]⟩,
  ⟨0x018, 1, 0x0, 1, 0x4, [⟨15, 0, .rw, .warm, 0, none⟩]⟩,
  ⟨0x01C, 1, 0x0, 1, 0x4, [⟨26, 16, .ro, .warm, 0, none⟩, ⟨10, 0, .rw, .warm, 0, some ⟨1, 1, 1024, 1024⟩⟩]⟩,
  ⟨0x020, 1, 0x0, 1, 0x4, [⟨15, 0, .rw, .warm, 0, none⟩]⟩,
  ⟨0x024, 1, 0x0, 1, 0x4, [⟨31, 16, .ro, .warm, 0, none⟩, ⟨15, 0, .ro, .warm, 0, none⟩]⟩,
  ⟨0x028, 1, 0x0, 1, 0x4, [⟨31, 28, .ro, .warm, 0, none⟩, ⟨27, 27, .ro, .warm, 0, none⟩, ⟨26, 20, .ro, .warm, 0, none⟩]⟩,
  ⟨0x02C, 1, 0x0, 1, 0x4, [⟨31, 16, .ro, .warm, 0, none⟩, ⟨15, 12, .ro, .warm, 0, none⟩, ⟨7, 0, .ro, .warm, 0, none⟩]⟩,
  ⟨0x030, 1, 0x0, 1, 0x4, [⟨31, 0, .ro, .warm, 0, none⟩]⟩,
  ⟨0x034, 1, 0x0, 2, 0x4, [⟨31, 0, .ro, .warm, 0, none⟩]⟩]

/-- Table window SEQT (R159/05). -/
def regsSEQT : List RegSpec := [
  ⟨0x000, 1, 0x0, 1, 0x4, [⟨31, 0, .rw, .warm, 0, none⟩]⟩]

/-- Table window TASK (R417/13). -/
def regsTASK : List RegSpec := [
  ⟨0x000, 1, 0x0, 8, 0x4, [⟨31, 0, .rw, .warm, 0, none⟩]⟩]

/-- Table window MSIX (R396/12). -/
def regsMSIX : List RegSpec := [
  ⟨0x000, 1, 0x0, 4, 0x4, [⟨31, 0, .rw, .warm, 0, none⟩]⟩]

/-- Table window PBA (R396/12). -/
def regsPBA : List RegSpec := [
  ⟨0x000, 1, 0x0, 1, 0x4, [⟨31, 0, .ro, .warm, 0, none⟩]⟩]

/-- The pages and table windows of the register space (R559, R561). -/
def pageDirectory : List PageSpec := [
  ⟨0x0, 0x1000, 1, true, 0x0001, 0, .cold, false, 0, false, regsDEV⟩,
  ⟨0x1000, 0x1000, 1, true, 0x0002, 0, .cold, false, 0, false, regsCLK⟩,
  ⟨0x2000, 0x1000, 1, true, 0x0003, 0, .cold, false, 0, false, regsPWR⟩,
  ⟨0x10000, 0x1000, 1, true, 0x0010, 0, .warm, false, 1, false, regsCFG⟩,
  ⟨0x11000, 0x1000, 1, true, 0x0011, 0, .warm, true, 1, false, regsSCB⟩,
  ⟨0x12000, 0x1000, 4, true, 0x0012, 0, .warm, false, 0, false, regsSTL⟩,
  ⟨0x20000, 0x1000, 1, true, 0x0020, 0, .warm, true, 0, false, regsTH0⟩,
  ⟨0x21000, 0x1000, 1, true, 0x0020, 1, .warm, false, 0, false, regsTH1⟩,
  ⟨0x22000, 0x1000, 1, true, 0x0020, 2, .warm, false, 0, false, regsTH2⟩,
  ⟨0x23000, 0x1000, 1, true, 0x0020, 3, .warm, false, 0, false, regsTH3⟩,
  ⟨0x24000, 0x1000, 1, true, 0x0020, 4, .warm, false, 0, false, regsTH4⟩,
  ⟨0x25000, 0x1000, 1, true, 0x0020, 5, .warm, false, 0, false, regsTH5⟩,
  ⟨0x40000, 0x1000, 72, true, 0x0030, 0, .warm, false, 0, false, regsNOC⟩,
  ⟨0x88000, 0x1000, 120, true, 0x0031, 0, .warm, false, 1, false, regsQUAY⟩,
  ⟨0x100000, 0x10000, 8, true, 0x0040, 0, .warm, true, 0, false, regsDMC⟩,
  ⟨0x101000, 0x10000, 8, true, 0x0041, 0, .warm, true, 0, true, regsMPE⟩,
  ⟨0x200000, 0x1000, 1, true, 0x0050, 0, .warm, false, 2, false, regsPCI0⟩,
  ⟨0x201000, 0x1000, 1, true, 0x0050, 1, .warm, false, 0, false, regsPCI1⟩,
  ⟨0x210000, 0x1000, 1, true, 0x0051, 0, .warm, true, 2, true, regsSE0⟩,
  ⟨0x211000, 0x1000, 1, true, 0x0051, 1, .warm, false, 0, false, regsSE1⟩,
  ⟨0x220000, 0x1000, 32, true, 0x0052, 0, .warm, false, 0, false, regsSLU⟩,
  ⟨0x300000, 0x1000, 1, true, 0x0060, 0, .warm, false, 2, true, regsCC0⟩,
  ⟨0x301000, 0x1000, 8, true, 0x0060, 1, .warm, false, 0, false, regsCCC⟩,
  ⟨0x310000, 0x1000, 1, true, 0x0061, 0, .warm, false, 0, false, regsIC0⟩,
  ⟨0x311000, 0x1000, 2, true, 0x0061, 1, .warm, false, 0, false, regsICS⟩,
  ⟨0x313000, 0x1000, 8, true, 0x0061, 3, .warm, false, 0, false, regsICC⟩,
  ⟨0x320000, 0x1000, 1, true, 0x0062, 0, .warm, false, 1, false, regsTS0⟩,
  ⟨0x321000, 0x1000, 1, true, 0x0062, 1, .warm, false, 0, false, regsTS1⟩,
  ⟨0x322000, 0x1000, 1, true, 0x0062, 2, .warm, false, 0, false, regsTS2⟩,
  ⟨0x400000, 0x1000, 12, true, 0x0070, 0, .warm, true, 0, false, regsXCV⟩,
  ⟨0x410000, 0x1000, 12, true, 0x00B0, 0, .warm, false, 0, false, regsGPIO⟩,
  ⟨0x500000, 0x1000, 1, true, 0x0080, 0, .warm, true, 1, false, regsPAIR⟩,
  ⟨0x501000, 0x1000, 1, true, 0x0081, 0, .cold, false, 0, false, regsFLT⟩,
  ⟨0x502000, 0x1000, 1, true, 0x0082, 0, .warm, false, 0, false, regsAGE⟩,
  ⟨0x503000, 0x1000, 1, true, 0x0083, 0, .cold, false, 0, false, regsTHM⟩,
  ⟨0x600000, 0x1000, 1, true, 0x0090, 0, .cold, false, 1, false, regsTWP⟩,
  ⟨0x800000, 0x1000, 240, true, 0x00A0, 0, .warm, false, 0, false, regsRGN⟩,
  ⟨0x1000000, 0x40, 65536, false, 0x0000, 0, .warm, false, 0, false, regsSC⟩,
  ⟨0x1400000, 0x4, 65536, false, 0x0000, 0, .warm, false, 0, false, regsSEQT⟩,
  ⟨0x1440000, 0x20, 4096, false, 0x0000, 0, .warm, false, 0, false, regsTASK⟩,
  ⟨0x208000, 0x10, 2048, false, 0x0000, 0, .warm, false, 0, false, regsMSIX⟩,
  ⟨0x207000, 0x4, 64, false, 0x0000, 0, .warm, false, 0, false, regsPBA⟩]

end Sys2Proof.Machine
end

