-- ==== Sys2Proof/Machine/State.lean ====
section
/-! DEFINITION. The state of one ZN9216 as plain data: the register space, the state of each block that no register
shows, the memories, the fuses and the flash, and the queue of waiting commands. Every sparse map is a KMap whose
unlisted entries read as the entry's reset value. -/

namespace Sys2Proof.Machine

/-- Why a command stops the machine. -/
inductive Fault where
  /-- Raised by the meanings whose operands can be ill-formed (WellFormed.lean): the words name no command of the
  block, so the spec gives them no effect. Safe: nothing is claimed of them. -/
  | illFormed
deriving DecidableEq, Repr

/-- Why a command has no meaning here. -/
inductive Refusal where
  /-- Raised by the arms of exec whose row has no meaning yet. Safe: nothing is claimed of them. -/
  | notModelled (mnemonic : String)
deriving DecidableEq, Repr

/-! ### Errors and the fault log (R472 to R482) -/

/-- A log entry in the backlog: its number in the ring, or the GAP entry (R478). -/
structure BackEntry where
  number : Option Nat
  entry  : BitVec 256
deriving DecidableEq, Repr

/-- What the FLT knows of one page of the log area (R477, R479). -/
structure LogPage where
  seq     : Nat := 0
  erases  : Nat := 0
  retired : Bool := false
  erased  : Bool := false
deriving DecidableEq, Repr

/-- The fault-log block beyond its registers. -/
structure FltState where
  intake    : List (BitVec 256) := []
  dropped   : Nat := 0
  dropStamp : BitVec 80 := 0
  dropAon   : Bool := false
  ring      : KMap (BitVec 256) := []
  committed : KMap Bool := []
  backlog   : List BackEntry := []
  gapOut    : Nat := 0
  ringOnly  : Bool := false
  keptOut   : Nat := 0
  flushing  : Nat := 0
  pages     : KMap LogPage := []
  cur       : Option Nat := none
  slot      : Nat := 0
deriving DecidableEq, Repr

/-! ### Timing Hub (R130 to R168) -/

/-- A timing lane beyond its registers (R136, R138, R142 to R145). -/
structure ThLane where
  locked   : Bool := false
  good     : Nat := 0
  badCrc   : Nat := 0
  raised   : Nat := 0
  stalled  : Bool := false
  firstId  : BitVec 16 := 0
  partLen  : BitVec 16 := 0
  peerCal  : Bool := false
  seqTx    : BitVec 16 := 0
  frameNo  : BitVec 2 := 0
  marks    : List (BitVec 16 × Time) := []
  arrival  : Option (BitVec 16 × Time) := none
  heard    : Option (Time × Time) := none
  queue    : List (BitVec 64) := []
  repeats  : List (Nat × BitVec 64) := []
  recent   : List (Time × BitVec 64) := []
  sent     : List (BitVec 64) := []
  epochOut : Nat := 0
  epochIn  : Bool := false
deriving DecidableEq, Repr

/-- A recorded stamp on its way to the sequencers (R150). -/
structure Stamp where
  t      : Time
  rising : Bool
  loss   : Bool
deriving DecidableEq, Repr

/-- A TDC input channel and its line beyond their registers (R150, R152, R163, R164). `inShort` says that the channel is
within a pulse that is too short; `table` that it has a background table. -/
structure ThChan where
  lastEdge  : Option Time := none
  inShort   : Bool := false
  loss      : Bool := false
  table     : Bool := false
  queue     : List Stamp := []
  checked   : Bool := false
  checking  : Bool := false
  backoff   : Bool := false
  masked    : Bool := false
  reversed  : Bool := false
deriving DecidableEq, Repr

/-- A pending output action (R156): SET 1, CLEAR 2, PULSE 3, TOGGLE 4. -/
structure OutAct where
  t     : Time
  act   : BitVec 3
  width : BitVec 16
deriving DecidableEq, Repr

/-- An output beyond its registers (R157): its level, the time of its last edge and the pending end of a pulse. -/
structure ThOut where
  queue    : List OutAct := []
  level    : Bool := false
  lastEdge : Option Time := none
  pulseEnd : Option Time := none
deriving DecidableEq, Repr

/-- A SYSREF grid (R165): mode 0 OFF, 1 CONTINUOUS, 2 GAPPED; `next` is the index of the next rising edge. -/
structure SrRun where
  mode   : Nat := 0
  period : Nat := 0
  high   : Nat := 0
  start  : Nat := 0
  count  : Nat := 0
  next   : Int := 0
deriving DecidableEq, Repr

/-- A SYSREF generator (R165): the grid it runs, the grid that replaces it at that one's first edge, and the time of the
falling edge still due. -/
structure SrGrid where
  run    : SrRun := {}
  coming : Option SrRun := none
  fallAt : Option Nat := none
deriving DecidableEq, Repr

/-- An event held for a sequencer (R160): `src` is an input channel 0 to 23, FEV 24 to 39, TIMER 40, ARM 43, and
an own XTL message of channel c is 64 + c. -/
structure SeqEvent where
  t      : Time
  src    : Nat
  rising : Bool
deriving DecidableEq, Repr

/-- A sequencer beyond its registers (R160 to R162). -/
structure ThSeq where
  timer : Option Time := none
  held  : List SeqEvent := []
  last  : Option Time := none
deriving DecidableEq, Repr

/-- A time tap (R153): its queue of action words and what its outputs show. -/
structure ThTap where
  queue  : List (BitVec 100) := []
  time   : Time := 0
  actv   : Bool := false
  act    : BitVec 100 := 0
  ovf    : Bool := false
  lost   : Bool := false
deriving DecidableEq, Repr

/-- The Timing Hub beyond its registers. `slew` is what the rate correction
has still to add, in units, and `slewAcc` the thousandths of a unit it may add beside; `avgN` and `avgSum`
are the averaging of R145, `rejoin` that of R148, and `firstDue` says that the next exchange steps the time (R145, R148). -/
structure ThState where
  time      : Time := 0
  running   : Bool := false
  slew      : Int := 0
  slewAcc   : Nat := 0
  avgN      : Nat := 0
  avgSum    : Int := 0
  delaySum  : Int := 0
  avgDone   : Bool := false
  firstDue  : Bool := false
  rejoin    : Option (Nat × Int) := none
  step      : Int := 0
  loadWait  : Bool := false
  holdStart : Nat := 0
  lanes     : KMap ThLane := []
  chans     : KMap ThChan := []
  taps      : KMap ThTap := []
  outs      : KMap ThOut := []
  sysref    : KMap SrGrid := []
  seqs      : KMap ThSeq := []
deriving DecidableEq, Repr
/-! ### Fabric logic and on-chip memories (R35 to R100) -/

/-- The registers of the fabric that a restart sets to 0 or INIT (R45, R69, R109). `ffs` holds the flip-flops and
latches that have been loaded since their restart; an unlisted one holds its INIT value, which the number of the restart
in `epochs` and its place give. -/
structure FabricState where
  ffs      : KMap (Option Bool) := []
  epochs   : KMap Nat := []
  laterals : KMap (BitVec 18) := []
deriving DecidableEq, Repr

/-- A word of a block or deep memory: 64 data bits below 8 check bits, and the three cells of a valid bit (R75, R81,
R82). -/
structure MemWord where
  cells : BitVec 72 := 0
  valid : BitVec 3 := 0
deriving DecidableEq, Repr

/-- What a memory port shows: DOUT with ECOR and EUNC, and the output register with its own (R77). -/
structure MemPort where
  dout    : BitVec 72 := 0
  ecor    : Bool := false
  eunc    : Bool := false
  outReg  : BitVec 72 := 0
  outEcor : Bool := false
  outEunc : Bool := false
deriving DecidableEq, Repr

/-- The memories beyond their registers: words, spare words (R91), ports, the blocks whose latest port setting was ECC
mode OFF, the BISTs that run in each region, and the bytes that a remapped L2 word held at its copy (R93). -/
structure MemState where
  words  : KMap MemWord := []
  spares : KMap (BitVec 72) := []
  ports  : KMap MemPort := []
  eccOff : KMap Bool := []
  bists  : KMap (List (Bool × Nat)) := []
  stale  : KMap (Option (List Byte)) := []
deriving DecidableEq, Repr

/-! ### Arithmetic slices (R101 to R126) -/

/-- A sample on its way through a slice: its operands, what the stages have made of them, and the block values that
travel with it (R106, R119, R122). -/
structure Sample where
  u      : BitVec 27 := 0
  v      : BitVec 27 := 0
  w      : BitVec 27 := 0
  k      : BitVec 64 := 0
  op     : BitVec 4 := 0
  pre    : BitVec 2 := 0
  pu     : BitVec 27 := 0
  pv     : BitVec 27 := 0
  ps     : BitVec 27 := 0
  prd    : BitVec 64 := 0
  bstart : Bool := false
  blast  : Bool := false
  blk    : Bool := false
  shift  : Int := 0
  exp    : BitVec 8 := 0
deriving DecidableEq, Repr

/-- A result as it stands after the accumulator or the rounding stage: its value, its flags and the sample's markers. -/
structure Result where
  val  : BitVec 64 := 0
  flag : BitVec 8 := 0
  of_  : Sample := {}
deriving DecidableEq, Repr

/-- A slice (R102 to R126): its stages, the output pins, the block of its chain, and the gearbox. `acc` is S4, `res`
S5. `shift`, `exp` and `inBlock` are the block values of R119 and R122, `least` the measure of R121. In hard-pipeline
mode `line` is the internal pipeline, `pair` the input gearbox, `held` what the output gearbox holds, `phase` whether
the next HCLK edge should be an FCLK edge. -/
structure SliceState where
  s1      : Sample := {}
  s2      : Sample := {}
  s3      : Sample := {}
  extra   : List Sample := []
  acc     : Result := {}
  res     : Result := {}
  clearIt : Bool := false
  outRes  : BitVec 64 := 0
  outFlag : BitVec 8 := 0
  cso     : BitVec 64 := 0
  expOut  : BitVec 8 := 0
  hrOut   : BitVec 5 := 0
  bstOut  : Bool := false
  blsOut  : Bool := false
  hrValid : Bool := false
  shift   : Int := 0
  exp     : BitVec 8 := 0
  shiftWas : Int := 0
  expWas  : BitVec 8 := 0
  inBlock : Bool := false
  least   : Option Nat := none
  line    : List Sample := []
  pair    : List Sample := []
  held    : List Result := []
  outOdd  : BitVec 64 := 0
  flagOdd : BitVec 8 := 0
  enable  : Bool := false
  clears  : Bool × Bool × Bool := (false, false, false)
  phase   : Option Bool := none
  gberr   : Bool := true
deriving DecidableEq, Repr


/-! ### Clocks (R173 to R198) -/

/-- What a monitored source has shown (R179): the run of gates out of window, the run of good gates since it left
READY, and whether it must pass the qualification of R173 again. -/
structure ClkMon where
  out    : Nat := 0
  regain : Nat := 0
  lost   : Bool := false
  requal : Bool := false
deriving DecidableEq, Repr

/-- A tile PLL (R190 to R194): the setting it runs (CTRL, DIV, FRAC, OUT0 to OUT6 as loaded), whether it is relocking,
the phase steps still to make, and the phase that each output has been moved by. -/
structure CmtPll where
  loaded    : List Word := []
  relocking : Bool := false
  busy      : Option Int := none
  moved     : List Int := [0, 0, 0, 0, 0, 0, 0]
deriving DecidableEq, Repr

/-- A regional track (R197): the fabric gate enable, the side a selector track has taken, whether its clock runs. -/
structure Track where
  gate    : Bool := true
  second  : Bool := false
  running : Bool := true
deriving DecidableEq, Repr

/-- The clock blocks beyond their registers. `aonStart` is the cycle at which the always-on counter started; the three
`…FromRoot` bits are what the domains of R176 run from; `…To` is a switch in progress. -/
structure ClkState where
  aonStart    : Option Nat := none
  aonFromRoot : Bool := false
  cfgFromRoot : Bool := false
  aonTo       : Option Bool := none
  cfgTo       : Option Bool := none
  rootTo      : Option Nat := none
  thTo        : Option Nat := none
  thRef       : Nat := 0
  fallback    : Bool := false
  searching   : Bool := false
  trimCode    : BitVec 12 := 0
  coreHeld    : Bool := false
  mons        : KMap ClkMon := []
  plls        : KMap CmtPll := []
  tracks      : KMap Track := []
deriving DecidableEq, Repr

/-! ### Fuses, flash and configuration (R202 to R236) -/

/-- The fuses that FUSE_PROG programs (R223): bits once set stay set. A programmed key is one whose field holds a bit. -/
structure Fuses where
  aesKey    : BitVec 512 := 0
  aesProg   : BitVec 2 := 0
  aesRevoke : BitVec 2 := 0
  pkHash    : KMap (BitVec 384) := []
  pkProg    : BitVec 4 := 0
  pkRevoke  : BitVec 4 := 0
  reqSig    : Bool := false
  reqEnc    : Bool := false
  svnFloor  : BitVec 64 := 0
deriving DecidableEq, Repr

/-- Where a load reads from (R202): the boot pointer table's slot, the golden slot, a flash address, the host aperture,
DRAM, or JTAG. -/
inductive LoadSource where
  | slot (n : Nat) | golden | flash | host | dram | jtag
deriving DecidableEq, Repr

/-- How far a load has come (R213, R228, R229). -/
inductive LoadPhase where
  | header | signature | clearing | system | stream | trailer | trailerSig | startup
deriving DecidableEq, Repr

/-- The header of an image (R212), as read from its first 4,096 bytes. `zeros` says that every byte not listed is zero. -/
structure ImageHeader where
  magic         : Word
  deviceCode    : Word
  version       : BitVec 16
  type          : BitVec 8
  flags         : BitVec 8
  stall         : BitVec 8
  flashMhz      : BitVec 8
  keySlots      : BitVec 8
  totalLen      : BitVec 64
  sysLen        : Word
  svn           : Word
  streamLen     : BitVec 64
  logicFrames   : Word
  contentFrames : Word
  nonce         : BitVec 96
  sysHash       : BitVec 384
  pubkey        : BitVec 776
  hdrSig        : BitVec 768
  zeros         : Bool
deriving DecidableEq, Repr

/-- A load under way (R211 to R235). `base` is the image's first byte at its source, `fallback` says that a failure goes
to the golden slot, `fell` that this is the golden load of such a failure. `bytes` are the stored bytes that the source
has delivered, `limit` how many it holds. `segs` counts the GCM segments whose tags have passed; `sysPos` and `pos` are
the system and stream bytes used. `start` is where the stream command under way began, `op` it, with `left` items to go and REPEAT's frame; `far`
is FAR, 2^32 past the last address of its type. `content` is the stored offset of the content section once it has begun,
`contentN` the content frames so far; `crc` the trailer's. -/
structure CfgLoad where
  source    : LoadSource
  base      : Nat := 0
  fallback  : Bool := false
  fell      : Bool := false
  phase     : LoadPhase := .header
  header    : Option ImageHeader := none
  bytes     : List Byte := []
  limit     : Option Nat := none
  segs      : Nat := 0
  sysPos    : Nat := 0
  pos       : Nat := 0
  start     : Nat := 0
  op        : Option Nat := none
  left      : Nat := 0
  frame     : Option Frame := none
  far       : Option Nat := none
  content   : Option Nat := none
  contentN  : Nat := 0
  crc       : Word := 0
deriving DecidableEq, Repr

/-- A flash command under way (R210): its operation, flash address and length. -/
structure FlashCmd where
  op   : Nat
  addr : Nat
  len  : Nat
deriving DecidableEq, Repr

/-- The configuration engine beyond its registers. `progWait` is a full reconfiguration that waits for PROG_N to be
high; `testWait` a deferred self-test; `next` a load requested during a self-test; `imageCrc` the trailer CRC of the
full image that runs and `imageNo` how many have started; `endpoint` that the endpoint has been enabled since the reset, so
that its settings stand (R214). -/
structure CfgState where
  load      : Option CfgLoad := none
  next      : Option CfgLoad := none
  goldenEnd : Option Nat := none
  flashMode : Nat := 0
  bootFrom  : Nat := 3
  testWait  : Bool := false
  testRuns  : Bool := false
  testBad   : Bool := false
  progWait  : Bool := false
  flash     : Option FlashCmd := none
  noImage   : Bool := false
  bootDue   : Bool := true
  imageCrc  : Word := 0
  imageNo   : Nat := 0
  endpoint  : Bool := false
  dynlist   : List (Word × Option Nat × Bool) := []
deriving DecidableEq, Repr

/-! ### Stalls and the scrubber (R239 to R277) -/

/-- A pending or running swap (R253 to R261). `drain` says that the drain has begun, `drained` that it is complete,
`frozen` that S − 2 has passed, `flipped` that S has. -/
structure Swap where
  timed     : Bool
  fromReset : Bool
  drain     : Bool := false
  drained   : Bool := false
  forced    : Bool := false
  late      : Bool := false
  frozen    : Bool := false
  flipped   : Bool := false
  lost      : Bool := false
  content   : Bool := false
deriving DecidableEq, Repr

/-- A stall beyond its registers. `kept` is the memory-kept flag of the shadow's image (R252); `done` counts the
content frames written; `refill` is the address of the next frame to copy; `releaseWait` a reset release that waits for
BIST (R97). -/
structure StallState where
  swap        : Option Swap := none
  kept        : Bool := false
  done        : Nat := 0
  refill      : Option Nat := none
  releaseWait : Bool := false
deriving DecidableEq, Repr

/-- A frame that waits for its repair copy (R273, R276): its address, plane, the stall if any, and the sources that
have failed. -/
structure Repair where
  addr   : Word
  plane  : Bool
  stall  : Option Nat
  source : Nat
  refill : Bool := false
deriving DecidableEq, Repr

/-- The scrubber beyond its registers: the slot's address, the corrections of the pass, the repair under way and the
flash repairs that wait. -/
structure ScrubState where
  addr    : Word := 0
  fixes   : Nat := 0
  started : Nat := 0
  repair  : Option Repair := none
  waiting : List Repair := []
deriving DecidableEq, Repr

/-! ### Network on chip (R281 to R312) -/

/-- What a destination port keeps for one source and VC (R293, R299): the expected seq (none: the next packet sets it),
the reorder buffer, and whether a posted write was dropped or lost since the last FLUSH. -/
structure Flow where
  expected : Option (BitVec 8) := none
  held     : List Packet := []
  lost     : Bool := false
deriving DecidableEq, Repr

/-- A router port's target side (R304, R305): accepted requests not yet answered, accepted posted writes not yet taken,
FLUSHes that wait for a gap, and whether a stall drain drives the close. -/
structure PortState where
  accepted : List Packet := []
  posted   : List Packet := []
  flushes  : List Packet := []
  drain    : Bool := false
  flows    : KMap Flow := []
deriving DecidableEq, Repr

/-- A request or fence that an initiator has outstanding (R297). `done` is false while the fence waits. -/
structure Outstanding where
  tag    : BitVec 12
  dest   : BitVec 10
  op     : BitVec 4
  addr   : Addr
  issued : Nat
deriving DecidableEq, Repr

/-- A fence under way (R293): the FLUSHes still unanswered and the first non-OK status. -/
structure FenceRun where
  tag    : BitVec 12
  left   : List (BitVec 10 × BitVec 2)
  status : BitVec 4 := 0
deriving DecidableEq, Repr

/-- An initiator port (R287, R293, R297, R298): requests outstanding, timed-out tags, the next seq per destination and
VC, the destinations and VCs written since the last fence, the fences under way, and the latest answers handed to what
the port serves. -/
structure IniState where
  out     : List Outstanding := []
  dead    : List (BitVec 12) := []
  seqs    : KMap (BitVec 8) := []
  written : List (BitVec 10 × BitVec 2) := []
  fences  : List FenceRun := []
  got     : Option Packet := none
  fenced  : Option (BitVec 12 × BitVec 4) := none
deriving DecidableEq, Repr

/-- An armed injector (R307, R308). -/
structure Injector where
  skip  : Nat := 0
  times : Nat := 0
  acted : Bool := false
  held  : Option Packet := none
deriving DecidableEq, Repr

/-- Where a packet is: at the input of a router, 12 × y + x, or at a port. -/
inductive Place where
  | router (i : Nat) | port (p : BitVec 10)
deriving DecidableEq, Repr

/-- A quay's target requests that the fabric has not answered, each under its QT_TAG (R294, R295), and the tags whose
late answers it discards, and the tags of its own requests whose responses it discards (R255, R266). -/
structure QuayState where
  given   : List (BitVec 8 × Packet) := []
  owed    : List (BitVec 12) := []
  discard : List (BitVec 8) := []
deriving DecidableEq, Repr

/-- The network beyond its registers: the packets in flight, the ports, initiators, injectors and quays, and the cycle
at which each router entered HOLD. -/
structure NocState where
  flight : List (Place × Packet) := []
  ports  : KMap PortState := []
  inis   : KMap IniState := []
  injs   : KMap Injector := []
  quays  : KMap QuayState := []
  holds  : KMap Nat := []
deriving DecidableEq, Repr

/-! ### DRAM controllers and protection engines (R313 to R362) -/

/-- A line in the DRAM (R326): its data and the check bytes C and A of its eight words. -/
structure DramLine where
  data : Line
  c    : BitVec 64
  a    : BitVec 64
deriving DecidableEq, Repr

/-- What a queue entry does (R319 to R329): a read that answers, a write of whole line data, the read that a partial
write merges into, and the write-back of a correction. -/
inductive EntryKind where
  | read | write | merge | writeBack
deriving DecidableEq, Repr

/-- The counters that make a line's AES input blocks (R350): major and minor counter and region epoch. -/
structure LineCtr where
  major : BitVec 64 := 0
  minor : BitVec 7 := 0
  epoch : BitVec 24 := 0
deriving DecidableEq, Repr

/-- A queue entry of one line (R319): `line` is L ÷ 64; `cls` the class that it came with, `eff` its effective class,
`since` the cycle of its acceptance; `be` and `data` the plain bytes written; `req` the read that it answers and `pos` its line's position there; `writers`
the partial writes that it merges, each with its byte enables; `rgn` the protected region, `ctr` the counters of its
data and `ctrIn` those of the line that a merge reads; `keep` the stored words that it leaves as they are (R328) or
writes back; `issued` says that its read has gone out. -/
structure DmcEntry where
  id      : Nat
  kind    : EntryKind
  line    : Nat
  cls     : Nat
  eff     : Nat
  since   : Nat
  be      : BitVec 64 := 0
  data    : Line := 0
  req     : Option Packet := none
  pos     : Nat := 0
  writers : List (Packet × BitVec 64) := []
  rgn     : Option Nat := none
  ctr     : LineCtr := {}
  ctrIn   : LineCtr := {}
  keep    : List (Nat × BitVec 80) := []
  issued  : Bool := false
deriving DecidableEq, Repr

/-- A bank (R325): its open row, the row last opened, and its history. -/
structure DmcBank where
  row  : Option Nat := none
  last : Option Nat := none
  hist : BitVec 4 := 0b1100
deriving DecidableEq, Repr

/-- A read that the controller answers (R319, R327): its lines collected so far, by position, and whether one of them is
poisoned. -/
structure DmcRead where
  req   : Packet
  count : Nat
  lines : List (Nat × Line) := []
  bad   : Bool := false
deriving DecidableEq, Repr

/-- A controller beyond its registers (R316 to R336). `step` is the training step under way by its reason code of R339,
0 the check of saved or kept settings; `kept` that settings are kept over a closed domain; `wrns` the non-posted writes
that wait for their merges, each with whether one failed; `emptyAt` the cycle since when the queues have been empty;
`deferred` a deferred retrain; `offWait` and `parkWait` a close of the port that ends in OFF or in SELF_REFRESH. -/
structure DmcState where
  step     : Nat := 0
  kept     : Bool := false
  reads    : List DmcEntry := []
  writes   : List DmcEntry := []
  runs     : List DmcRead := []
  wrns     : List (Packet × Bool) := []
  nextId   : Nat := 0
  writing  : Bool := false
  rtBursts : Nat := 0
  lastBank : Nat := 63
  banks    : KMap DmcBank := []
  owed     : KMap Nat := []
  doubled  : KMap Bool := []
  ceCount  : Nat := 0
  ceRaised : Bool := false
  patrolAt : Nat := 0
  deferred : Bool := false
  emptyAt  : Nat := 0
  offWait  : Bool := false
  parkWait : Bool := false
  trackDue : KMap Bool := []
  shift    : KMap Int := []
deriving DecidableEq, Repr

/-- A leaf of the counter tree (R349): the major counter of a group and its 64 minor counters. -/
structure Leaf where
  major  : BitVec 64 := 0
  minors : BitVec 448 := 0
deriving DecidableEq, Repr

/-- One copy of a region's root (R360). -/
structure Root where
  counters : KMap (BitVec 56) := []
  hwm      : BitVec 64 := 0
  epoch    : BitVec 24 := 0
  key      : BitVec 6 := 0
deriving DecidableEq, Repr

/-- A protected region beyond its registers: the two root copies, the leaves by group, the upper counters by
level × 2^26 + index of the child, the tags and the epochs of the lines written since INIT by line; `fresh` that the
key was loaded since it entered EXHAUSTED or DISABLED; `init` the groups under INIT as first and count; `groups` those
under re-encryption, each with the write that started it; `closing` an enable that has been cleared. -/
structure MpeRegion where
  rootA   : Root := {}
  rootB   : Root := {}
  leaves  : KMap Leaf := []
  uppers  : KMap (BitVec 56) := []
  tags    : KMap (Option (BitVec 64)) := []
  epochs  : KMap (Option (BitVec 24)) := []
  fresh   : Bool := false
  init    : Option (Nat × Nat) := none
  groups  : List (Nat × Packet) := []
  closing : Bool := false
deriving DecidableEq, Repr

/-- Lines that INIT has written as zero plaintext (R361): controller lines from `lo` up to `hi` under the region's key
and epoch and counters of 0; with no key, lines that training has made undefined (R330). -/
structure ZeroRun where
  lo    : Nat
  hi    : Nat
  epoch : BitVec 24
  key   : Option (BitVec 256)
deriving DecidableEq, Repr

/-- A protection engine beyond its registers (R343, R353, R359): the keys, the nodes in the counter cache as (region,
level, index, dirty), the poison map as (region, level, index), the regions, and the lines that an INIT zeroed, latest
first. -/
structure MpeState where
  keys    : KMap (Option (BitVec 256)) := []
  cache   : List (Nat × Nat × Nat × Bool) := []
  poison  : List (Nat × Nat × Nat) := []
  regions : KMap MpeRegion := []
  zeros   : List ZeroRun := []
deriving DecidableEq, Repr

/-! ### PCI Express and streams (R366 to R398) -/

/-- A PCI Express function beyond the registers (R369, R374, R390, R393): D3hot, Bus Master Enable, MSI-X Enable, the
function mask, PME_En and PME_Status, whether its PME has been sent for the present hold, and whether it is in FLR. -/
structure PciFn where
  d3        : Bool := false
  bme       : Bool := false
  msix      : Bool := false
  masked    : Bool := false
  pmeEn     : Bool := false
  pmeStatus : Bool := false
  pmeSent   : Bool := false
  inFlr     : Bool := false
deriving DecidableEq, Repr

/-- What the endpoint sends to the host (R372, R375, R393): an MSI-X message with the address and data of its table
entry, a PM_PME message, an LTR message, a write of a NoC request, and a completion (0 with data, 1 Unsupported Request,
2 Completer Abort). -/
inductive HostTlp where
  | msix (fn vector : Nat) (addr : BitVec 64) (data : Word)
  | pme (fn : Nat)
  | ltr (value : Word)
  | write (addr : Addr) (be : BitVec 256) (data : List Line)
  | completion (id status : Nat) (data : List Byte)
deriving DecidableEq, Repr

/-- One NoC request of a host request (R372): its tag once it has been sent, and its answer. -/
structure HostPiece where
  addr   : Nat
  len    : Nat
  tag    : Option (BitVec 12) := none
  answer : Option (BitVec 4) := none
  data   : List Byte := []
deriving DecidableEq, Repr

/-- A host non-posted request under way (R372, R373): its pieces, which wait while a FLUSH in `fences` is unanswered. -/
structure HostReq where
  id     : Nat
  fn     : Nat
  bar    : Nat
  off    : Nat
  pieces : List HostPiece
  fences : List (BitVec 12) := []
deriving DecidableEq, Repr

/-- The endpoint beyond its registers. A function is numbered 65 × pf + vf. `table` and `pba` are the MSI-X tables and
PBAs of every function but PF0, whose are registers; `holds` the held releases (R393) in order, each with its function,
vector and sluice; `out` what the endpoint has sent; `waiting` what waits for the exit from L1; `pmL1` says that the L1
is the PCI-PM one of D3hot. -/
structure PciState where
  fns     : KMap PciFn := []
  vfEn    : Bool × Bool := (false, false)
  table   : KMap Word := []
  pba     : KMap Word := []
  holds   : List (Nat × Nat × Option Nat) := []
  reqs    : List HostReq := []
  nextId  : Nat := 0
  out     : List HostTlp := []
  waiting : List HostTlp := []
  pmL1    : Bool := false
deriving DecidableEq, Repr

/-- A descriptor in progress (R381): its ring position, the descriptor once fetched, the source bytes asked for, the
reads unanswered as (offset, length), the bytes received, whether all its writes have gone out and a fence over them is
awaited, whether its data is visible, and its error as (status, detail). -/
structure StreamDesc where
  pos     : Nat
  desc    : Option Desc := none
  asked   : Nat := 0
  reads   : List (Nat × Nat) := []
  got     : Nat := 0
  fencing : Bool := false
  visible : Bool := false
  fail    : Option (Nat × Nat) := none
deriving DecidableEq, Repr

/-- A completion record that is not yet confirmed (R382, R387, R394): `written` says that it has gone out, `ack` the
mirror position whose acknowledgement it waits for (R461). -/
structure StreamRec where
  pos     : Nat
  status  : Nat
  detail  : Nat := 0
  bytes   : Nat
  cookie  : BitVec 64
  noIrq   : Bool
  phase   : Bool
  written : Bool := false
  ack     : Option Nat := none
deriving DecidableEq, Repr

/-- A stream context beyond its registers (R376 to R394): its descriptors in progress and unconfirmed records in ring
order; `stopped` by a command, `disabling` where it is to end DISABLED, `ringErr` the failed record's position and
status, `limit` that the held-limit event of the present wait has been raised. `on` lists the enabled contexts. -/
structure StreamCtx where
  on        : Bool := false
  stopped   : Bool := false
  disabling : Bool := false
  limit     : Bool := false
  ringErr   : Option (Nat × Nat) := none
  work      : List StreamDesc := []
  recs      : List StreamRec := []
deriving DecidableEq, Repr

/-- The stream engine beyond its registers: the contexts, the context that each port served last in each class and the
credits of its round robin (R386), and the cycle at which each sluice's timer started (R391). -/
structure SeState where
  ctxs   : KMap StreamCtx := []
  last   : KMap Nat := []
  credit : KMap Nat := []
  timers : KMap (Option Nat) := []
deriving DecidableEq, Repr

/-! ### Task scheduler (R417 to R425) -/

/-- The scheduler beyond its registers and the task table: the ready list and the running tasks of each target, the
tasks to suspend at their next TS_DONE, the time each task became READY, the post queue, the scheduler time where the
node's time is INVALID, the load of the present window, the scheduler times before and after a forward step that no
tick has followed, and the time of the last tick. -/
structure TsState where
  ready    : KMap (List Nat) := []
  running  : KMap (List Nat) := []
  suspend  : List Nat := []
  readyAt  : KMap Nat := []
  posts    : List (Nat × Word) := []
  held     : Nat := 0
  heldAon  : Nat := 0
  winStart : Nat := 0
  busy     : KMap Nat := []
  busyFrom : KMap Nat := []
  stepped  : Option (Nat × Nat) := none
  lastTick : Nat := 0
deriving DecidableEq, Repr
/-! ### Control complex and interrupt controller (R399 to R416) -/

/-- A cached line: its data, its way, and whether it has still to be written back (R404, R406). -/
structure CacheLine where
  data  : Line := 0
  way   : Nat := 0
  dirty : Bool := false
deriving DecidableEq, Repr

/-- A core (R399 to R403, R413 to R415): whether it is out of reset, its sleep (0 awake, 1 WFI, 2 deep), the machine
registers that traps and returns use, the custom registers of R402, the two banks of x1 to x31 and its L1 caches.
`fenced` is the fence status that the last fence instruction saw. -/
structure CoreState where
  running  : Bool := false
  sleep    : BitVec 2 := 0
  pc       : BitVec 64 := 0
  priv     : BitVec 2 := 3
  mstatus  : BitVec 64 := 0
  mie      : BitVec 64 := 0
  busErr17 : Bool := false
  mtvec    : BitVec 64 := 0
  mepc     : BitVec 64 := 0
  mcause   : BitVec 64 := 0
  mtval    : BitVec 64 := 0
  fastEn   : Bool := false
  active   : Bool := false
  nested   : Bool := false
  fastPrv  : BitVec 2 := 0
  ftvec    : BitVec 64 := 0
  fepc     : BitVec 64 := 0
  deep     : Bool := false
  busErr   : BitVec 60 := 0
  wake     : BitVec 2 := 0
  stopped  : Bool := false
  regs     : KMap (BitVec 64) := []
  fastRegs : KMap (BitVec 64) := []
  icache   : KMap CacheLine := []
  dcache   : KMap CacheLine := []
deriving DecidableEq, Repr

/-- What the retention registers keep of a core in ZN3200 deep sleep (R416): its sources in service, its IC_CORE_CFG
and its mie. -/
structure Retained where
  insv : List Nat := []
  cfg  : Word := 0
  mie  : BitVec 64 := 0
deriving DecidableEq, Repr

/-- The control complex and interrupt controller beyond their registers: the cores, the L2 array by bytes (R405), for each way that
memory took from the cache the number of its open content, the lines it caches for the cores, the level of each interrupt line, the core (plus 1) that claimed each source, and
the retained states. -/
structure CcState where
  cores    : KMap CoreState := []
  l2       : KMap Byte := []
  l2epoch  : KMap Nat := []
  l2cache  : KMap CacheLine := []
  lines    : KMap Bool := []
  owner    : KMap Nat := []
  retained : KMap (Option Retained) := []
deriving DecidableEq, Repr


/-! ### Serial lanes (R429 to R454) -/

/-- A lane beyond its registers. `dest` is the power state that a transition under way ends in and `want` the latest
request that waits for it (R446); `fecGood` and `fecBad` the runs of R438; `commaAt` the comma alignment (R437);
`ltsGood` the run of good LTS blocks, `index` the index that it received, `badTag` and `badCount` what it saw
mismatching, `farState`, `farMax` and `runs` what the far end says (R442 to R444); `driverOff` a TX fault (R445); `cal` a
calibration and its group's leader; `rxWait` and `txWait` a buffer that waits for a grid strobe (R440); `skip`, `times`
and `acted` its injector (R451). -/
structure LaneState where
  dest      : Option Nat := none
  want      : Option Nat := none
  fecGood   : Nat := 0
  fecBad    : Nat := 0
  commaAt   : Option Nat := none
  ltsGood   : Nat := 0
  ready     : Bool := false
  index     : Option Nat := none
  badTag    : Bool := false
  badCount  : Bool := false
  farState  : Nat := 0
  farMax    : Nat := 0
  runs      : Nat := 0
  driverOff : Bool := false
  frozen    : Bool := false
  cal       : Bool := false
  rxWait    : Bool := false
  txWait    : Bool := false
  prbsGood  : Bool := false
  skip      : Nat := 0
  times     : Nat := 0
  acted     : Bool := false
deriving DecidableEq, Repr

/-- A group at its leader (R443, R444): the step of R444, the index before a switch, whether a switch is due, whether a
step has failed, so that the group ends at its present index, and whether the order is remapped. -/
structure LaneGroup where
  step   : Nat := 0
  prev   : Nat := 0
  switch : Bool := false
  final  : Bool := false
  remap  : Bool := false
deriving DecidableEq, Repr

/-- The lanes beyond their registers. `plls` holds the setting that each quad PLL runs (its reference in kHz and
its CFG and FRAC words), by 2 × quad + PLL. -/
structure XcvState where
  lanes  : KMap LaneState := []
  groups : KMap LaneGroup := []
  plls   : KMap (Option (Nat × Word × Word)) := []
deriving DecidableEq, Repr

/-! ### Redundant pairs (R455 to R471) -/

/-- The pair block beyond its registers: the changes that the partner has not acknowledged, each with its position and
its bytes on the link (R460), the next position, the latest acknowledged and the latest applied; the run of misses; the state
before a takeover that may yet be given up; the
level that the device drives on PAIR_FENCE_OUT; whether a copy runs, and whether the survivor of a takeover still holds
its partner fenced (R469); the latest heartbeat sent;
the TH_CTRL and TH_NODE that the partner mirrors (R458, R465). -/
structure PairState where
  queue    : List (Nat × Change × Nat) := []
  nextPos  : Nat := 1
  acked    : Nat := 0
  applied  : Nat := 0
  misses   : Nat := 0
  before   : Nat := 0
  driven   : Bool := false
  copying  : Bool := false
  survivor : Bool := false
  rejoined : Bool := false
  sent     : Option Heartbeat := none
  hub      : KMap Word := []
deriving DecidableEq, Repr

/-! ### Power, thermal limits and ageing (R493 to R513) -/

/-- Power and thermal state beyond the registers: whether tV has passed, whether a supply fault, a trip's end or a
thermal trip holds the device; whether no sensor is valid; the runs of cap reads above and below (R502); when each
region's domain was last OPENed (R500); whether the warning and the critical limit act; the curve entry whose level
acts. -/
structure PwrState where
  vaon     : Bool := false
  tv       : Bool := false
  supply   : Bool := false
  trip     : Bool := false
  tripHeld : Bool := false
  noValid  : Bool := false
  capOver  : Nat := 0
  capUnder : Nat := 0
  openAt   : KMap (Option Nat) := []
  warn     : Bool := false
  crit     : Bool := false
  entry    : Option Nat := none
deriving DecidableEq, Repr

/-- The ageing monitors and the planner beyond their registers (R505 to R510): the worst shifts of the last 16 sweeps,
newest first; the highest shift seeded, the highest worst shift and the highest of each monitor, none where nothing has
been measured; whether a descent has started, whether a requested sweep waits; the request last written over PMBus and its VOUT_COMMAND word;
whether the target needs a step above 15; the regulator's exponent, the failures of the present transaction and whether
the planner has stopped; hours of operation, the summary ring's sequence and the page that the next summary takes. -/
structure AgeState where
  worst   : List Int := []
  seed    : Option Int := none
  most    : Option Int := none
  highs   : KMap (Option Int) := []
  descend : Bool := false
  asked   : Bool := false
  sent    : Option Nat := none
  vout    : BitVec 16 := 0
  beyond  : Bool := false
  expo    : Option Int := none
  fails   : Nat := 0
  stopped : Bool := false
  hours   : Nat := 0
  seq     : Nat := 0
  page    : Nat := 0
deriving DecidableEq, Repr

/-! ### Towpath (R514 to R531) and JTAG (R551) -/

/-- A window access: a read or a write of a word at a register-space offset (R515, R520). -/
inductive WinAccess where
  | read (off : Nat) | write (off : Nat) (v : Word)
deriving DecidableEq, Repr

/-- A transport's window (R515, R520, R521): the window word, the access under way and those that wait for it, its
status and the data of the last read. -/
structure Window where
  word    : Word := 0
  pending : Option WinAccess := none
  later   : List WinAccess := []
  status  : Nat := 0
  data    : Word := 0
deriving DecidableEq, Repr

/-- The Towpath beyond its registers: the two windows, the accesses' transports in arrival order, and whether the
present alert has been answered (R526). -/
structure TwpState where
  smb      : Window := {}
  spi      : Window := {}
  order    : List Transport := []
  answered : Bool := false
deriving DecidableEq, Repr

/-- The JTAG port (R551): the current instruction's code, the boundary cells as captured or shifted in, those that drive
the pins, and whether an instruction holds a warm reset. -/
structure JtagState where
  code     : Nat := 9
  boundary : List Bool := []
  driven   : List Bool := []
  held     : Bool := false
deriving DecidableEq, Repr

/-! ### The whole device -/

/-- The levels of input pins (R12, R32, R203, R204, R456, R515, R516): the reset pins asserted, PROG_N
asserted, and the straps BOOT_MODE, PAIR_ROLE and the Towpath's address. -/
structure PinState where
  perst      : Bool := false
  por        : Bool := false
  prog       : Bool := false
  bootMode   : BitVec 3 := 0
  pairRole   : Bool := false
  twpAddr    : BitVec 3 := 0
deriving DecidableEq, Repr

/-- The state of the machine. `now` counts cycles of 0.625 ns; `answer` holds the bytes that the last read command
returned; `freeCount` numbers the free values; `fuse` holds the fuse values of registers whose reset value is one. -/
structure State where
  regs      : KMap Word := []
  fuse      : KMap Word := []
  now       : Nat := 0
  answer    : List Byte := []
  freeCount : Nat := 0
  pins      : PinState := {}
  flt       : FltState := {}
  th        : ThState := {}
  clk       : ClkState := {}
  fabric    : FabricState := {}
  mem       : MemState := {}
  slices    : KMap SliceState := []
  fuses     : Fuses := {}
  flash     : KMap Byte := []
  planes    : KMap Frame := []
  cfg       : CfgState := {}
  stalls    : KMap StallState := []
  scrub     : ScrubState := {}
  noc       : NocState := {}
  dmcs      : KMap DmcState := []
  dram      : KMap (Option DramLine) := []
  mpes      : KMap MpeState := []
  pci       : PciState := {}
  se        : SeState := {}
  ts        : TsState := {}
  cc        : CcState := {}
  xcv       : XcvState := {}
  pair      : PairState := {}
  pwr       : PwrState := {}
  age       : AgeState := {}
  twp       : TwpState := {}
  jtag      : JtagState := {}
  pending   : List Instr := []
deriving DecidableEq, Repr

/-- The machine right after reset (R12, R29): every register at its reset value, every memory unlisted, nothing
waiting. -/
def State.reset : State := {}

end Sys2Proof.Machine
end

