-- ==== Sys2Proof/Machine/Ops.lean ====
section
/-! DEFINITION. The named operations over the register space, the clocks and the fault log that every command shares:
reading and writing a field, counting, raising an event and handing an entry to the log (R8 to R11, R130, R177, R474,
R475, R555 to R561). -/

namespace Sys2Proof.Machine

open Reg

/-- What a command answers. -/
abbrev Out := Host.Outcome State Fault Refusal

/-! ### The register space -/

/-- The common header of a page (R556); its fields reset with the page's kind. EVT_EN and EVT have a field per bit of
one width, and the reset values of PAGE_ID and PAGE_VER are the page's own. -/
def headerRegs (k : RKind) : List RegSpec := [
  ⟨0x00, 1, 0, 1, 4, [⟨31, 0, .ro, .cold, 0, none⟩]⟩,
  ⟨0x04, 1, 0, 1, 4, [⟨15, 0, .ro, .cold, 0x0100, none⟩]⟩,
  ⟨0x08, 1, 0, 1, 4, [⟨31, 31, .w1s, k, 0, none⟩]⟩,
  ⟨0x0C, 1, 0, 1, 4, [⟨31, 29, .ro, k, 0, none⟩, ⟨28, 28, .ro, k, 1, none⟩]⟩,
  ⟨0x10, 1, 0, 1, 4, [⟨31, 0, .w1c, k, 0, none⟩]⟩,
  ⟨0x14, 1, 0, 1, 4, [⟨31, 0, .rw, k, 0, none⟩]⟩,
  ⟨0x18, 1, 0, 1, 4, [⟨31, 0, .wo, k, 0, none⟩]⟩,
  ⟨0x1C, 1, 0, 1, 4, [⟨31, 0, .rc, k, 0, none⟩]⟩,
  ⟨0x20, 1, 0, 2, 4, [⟨31, 0, .ro, k, 0, none⟩]⟩,
  ⟨0x28, 1, 0, 1, 4, [⟨0, 0, .w1s, k, 0, none⟩]⟩]

/-- An initiator block (R310). -/
def initiatorRegs (b : Nat) : List RegSpec := [
  ⟨b + 0x00, 1, 0, 1, 4, [⟨4, 0, .rw, .warm, 20, some ⟨10, 10, 24, 24⟩⟩]⟩,
  ⟨b + 0x04, 1, 0, 1, 4, [⟨12, 0, .ro, .warm, 0, none⟩]⟩,
  ⟨b + 0x08, 1, 0, 4, 4, [⟨31, 0, .rc, .warm, 0, none⟩]⟩,
  ⟨b + 0x18, 1, 0, 1, 4, [⟨31, 16, .ro, .warm, 0, none⟩, ⟨9, 0, .ro, .warm, 0, none⟩]⟩,
  ⟨b + 0x1C, 1, 0, 1, 4, [⟨31, 0, .ro, .warm, 0, none⟩]⟩,
  ⟨b + 0x20, 1, 0, 1, 4, [⟨23, 0, .ro, .warm, 0, none⟩]⟩]

/-- The bucket, list and remap registers of a system SRAM (R99, R100). -/
def sramRegs : List RegSpec := [
  ⟨0xF00, 1, 0, 1, 4, [⟨23, 16, .rw, .warm, 0x10, some ⟨1, 1, 255, 255⟩⟩,
    ⟨13, 0, .rw, .warm, 1000, some ⟨1, 1, 16000, 16000⟩⟩]⟩,
  ⟨0xF04, 1, 0, 1, 4, [⟨7, 0, .ro, .warm, 0, none⟩]⟩,
  ⟨0xF08, 1, 0, 2, 4, [⟨31, 0, .rc, .warm, 0, none⟩]⟩,
  ⟨0xF10, 1, 0, 8, 4, [⟨31, 31, .w1c, .warm, 0, none⟩, ⟨30, 8, .ro, .warm, 0, none⟩, ⟨6, 0, .ro, .warm, 0, none⟩]⟩,
  ⟨0xF30, 1, 0, 1, 4, [⟨15, 0, .rc, .warm, 0, none⟩]⟩,
  ⟨0xF40, 1, 0, 16, 4, [⟨31, 31, .rwl, .warm, 0, none⟩, ⟨30, 29, .ro, .warm, 0, none⟩, ⟨18, 0, .rwl, .warm, 0, none⟩]⟩]

/-- The page or table window that holds a register-space offset, its index in its array and the offset within it. -/
def locate (off : Nat) : Option (PageSpec × Nat × Nat) :=
  let rec go : List PageSpec → Option (PageSpec × Nat × Nat)
    | [] => none
    | p :: ps =>
      if off < p.base then go ps else
      let rel := off - p.base
      let size := if p.header then 0x1000 else p.step
      if rel / p.step < p.count && rel % p.step < size then some (p, rel / p.step, rel % p.step) else go ps
  go pageDirectory

/-- The registers of a page: the header, its own, its initiator blocks and its system SRAM's. -/
def PageSpec.allRegs (p : PageSpec) : List RegSpec :=
  (if p.header then headerRegs p.kind else []) ++ p.regs
    ++ (if p.ini = 0 then [] else initiatorRegs 0xE00) ++ (if p.ini = 2 then initiatorRegs 0xE40 else [])
    ++ (if p.sram then sramRegs else [])

/-- The register at an offset of page `i`: a region page holds the registers of a tile only at the west and east edge
(R199). -/
def PageSpec.regAt (p : PageSpec) (i o : Nat) : Option RegSpec :=
  if p.code = 0x00A0 && 0x300 ≤ o && o < 0x380 && i % 12 ≠ 0 && i % 12 ≠ 11 then none
  else p.allRegs.find? fun r => r.holds o

/-- The fields of the register at a register-space offset, none where the offset holds no register. -/
def fieldsAt (off : Nat) : List FieldSpec :=
  match locate off with
  | none => []
  | some (p, i, o) =>
    match p.regAt i o with
    | none => []
    | some r => r.fields

/-- The default route of router (x,y) in its X table: the shorter way round, a tie going E (R284). -/
def defaultXdir (x : Nat) : Nat :=
  (List.range 12).foldl (fun a c =>
    let d := (c + 12 - x) % 12
    a + (if d = 0 then 3 else if d ≤ 6 then 0 else 1) * 4 ^ c) 0

/-- The default route of router (x,y) in its Y table, a tie going N (R284). -/
def defaultYdir (y : Nat) : Nat :=
  (List.range 6).foldl (fun a r =>
    let d := (r + 6 - y) % 6
    a + (if d = 0 then 3 else if d ≤ 3 then 0 else 1) * 4 ^ r) 0

/-- The local ports that router (x,y) has (R283), as a mask. -/
def existingPorts (x y : Nat) : Nat :=
  if y = 0 then
    if x = 0 || x = 1 then 3 else 1
  else 3 + (if (x = 0 || x = 11) && (y = 1 || y = 2 || y = 4 || y = 5) then 4 else 0) + (if y = 5 then 8 else 0)

/-- The default kind of a block of the XTL layout table (R139). -/
def defaultLayout (b : Nat) : Nat :=
  if b = 3 then 1 else if b = 4 then 2 else if 5 ≤ b && b ≤ 131 && b % 2 = 1 then 3 else 0

/-- The default throttle curve (R502). -/
def defaultCurve (k : Nat) : Nat :=
  match k with
  | 0 => 100 * 256 + 2
  | 1 => 103 * 256 + 4
  | 2 => 106 * 256 + 8
  | 3 => 109 * 256 + 12
  | _ => 127 * 256 + 15

/-- The reset value that a page's place gives a register, where it is no constant of the table: PAGE_ID (R556), the
router tables of R284, the layout table of R139, the curve of R502 and the vector masks of PF0's MSI-X table. -/
def placedReset (p : PageSpec) (i o : Nat) : Option Nat :=
  if !p.header then (if p.base = 0x208000 && o = 12 then some 1 else none)
  else if o = 0 then some (p.code * 65536 + p.inst0 + i)
  else if p.code = 0x0030 then
    if o = 0x048 || o = 0x060 then some (existingPorts (i % 12) (i / 12) * 16 + 15)
    else if o = 0x04C || o = 0x064 then some (defaultXdir (i % 12))
    else if o = 0x050 || o = 0x068 then some (defaultYdir (i / 12))
    else none
  else if p.code = 0x0020 && p.inst0 = 1 && 0x200 ≤ o && o < 0x2A0 && o % 4 = 0 then
    let b := o - 0x200
    some (defaultLayout b + defaultLayout (b + 1) * 256 + defaultLayout (b + 2) * 65536
      + defaultLayout (b + 3) * 16777216)
  else if p.code = 0x0083 && 0x100 ≤ o && o < 0x140 && o % 4 = 0 then some (defaultCurve ((o - 0x100) / 4))
  else none

/-- The value that a register takes at reset, and that an unlisted entry of the register map reads as. A fuse value
stands as 0 here (State.fuse holds it). -/
def resetWord (off : Nat) : Word :=
  match locate off with
  | none => 0
  | some (p, i, o) =>
    match placedReset p i o with
    | some v => BitVec.ofNat 32 v
    | none =>
      match p.regAt i o with
      | none => 0
      | some r => resetOf r.fields

/-- The stored word of the register at an offset. -/
def State.word (s : State) (off : Nat) : Word := s.regs.get resetWord off

/-- Storing a register word. -/
def State.setWord (s : State) (off : Nat) (w : Word) : State := { s with regs := s.regs.set resetWord off w }

/-- The value of a field. -/
def State.get (s : State) (f : Field) : Nat := bitsOf (s.word f.off) f.hi f.lo

/-- Whether a field is non-zero. -/
def State.is (s : State) (f : Field) : Bool := decide (s.get f ≠ 0)

/-- Storing a field. -/
def State.put (s : State) (f : Field) (v : Nat) : State :=
  s.setWord f.off (setBits (s.word f.off) f.hi f.lo v)

/-- Storing a Boolean field. -/
def State.putB (s : State) (f : Field) (b : Bool) : State := s.put f b.toNat

/-- A field read as a signed number. -/
def State.getS (s : State) (f : Field) : Int :=
  let w := f.hi + 1 - f.lo
  let v := s.get f
  if v < 2 ^ (w - 1) then (v : Int) else (v : Int) - (2 ^ w : Nat)

/-- Storing a signed number in a field. -/
def State.putS (s : State) (f : Field) (v : Int) : State :=
  s.put f (v % (2 ^ (f.hi + 1 - f.lo) : Nat)).toNat

/-- Counting in a field, saturating at the field's greatest value. -/
def State.add (s : State) (f : Field) (n : Nat) : State :=
  s.put f (min (s.get f + n) (2 ^ (f.hi + 1 - f.lo) - 1))

/-- Counting one. -/
def State.count (s : State) (f : Field) : State := s.add f 1

/-- A quantity held across consecutive registers, lower offset less significant (R9). -/
def State.getWide (s : State) (off n : Nat) : Nat :=
  (List.range n).foldl (fun a i => a + (s.word (off + 4 * i)).toNat * 2 ^ (32 * i)) 0

/-- Storing a quantity across consecutive registers. -/
def State.putWide (s : State) (off n v : Nat) : State :=
  (List.range n).foldl (fun t i => t.setWord (off + 4 * i) (BitVec.ofNat 32 (v / 2 ^ (32 * i)))) s

/-- Whether the page at `pg` is locked (R556). -/
def State.locked (s : State) (pg : Nat) : Bool := s.is (PAGE_LOCK.lock pg)

/-- The base of the page that an offset lies in. -/
def pageBase (off : Nat) : Nat := off - off % 4096

/-- A 32-bit write under the access codes (R10), of the fields that `may` names. -/
def State.writeWhere (s : State) (off : Nat) (may : FieldSpec → Bool) (v : Word) : State :=
  s.setWord off (writeFields (fieldsAt off) (s.locked (pageBase off)) may (s.word off) v)

/-- A 32-bit write under the access codes (R10). -/
def State.write (s : State) (off : Nat) (v : Word) : State := s.writeWhere off (fun _ => true) v

/-- A fresh free value, and the state that has used it. -/
def State.fresh (s : State) (w : Nat) : BitVec w × State :=
  (BitVec.ofNat w (Config.free s.freeCount), { s with freeCount := s.freeCount + 1 })

/-! ### Words and bytes -/

/-- Bit `n` of a word. -/
def bit (w : Word) (n : Nat) : Bool := w.getLsbD n

/-- The `n` bytes of a number, least significant first (R8). -/
def toBytes (v : Nat) : Nat → List Byte
  | 0 => []
  | n + 1 => BitVec.ofNat 8 v :: toBytes (v / 256) n

/-- The number that bytes make, least significant first (R8). -/
def ofBytes : List Byte → Nat
  | [] => 0
  | b :: bs => b.toNat + 256 * ofBytes bs

/-- One byte of CRC-32 with the IEEE 802.3 polynomial, least significant bit first. -/
def crc32Bits (c : Nat) : Nat → Nat
  | 0 => c
  | n + 1 => crc32Bits (if c % 2 = 1 then (c / 2) ^^^ 0xEDB88320 else c / 2) n

/-- Continuing a CRC-32 over bytes. -/
def crc32From (c : Nat) : List Byte → Nat
  | [] => c
  | b :: bs => crc32From (crc32Bits (c ^^^ b.toNat) 8) bs

/-- CRC-32 with the IEEE 802.3 polynomial (R140, R207, R215, R477). -/
def crc32 (bs : List Byte) : Nat := crc32From 0xFFFFFFFF bs ^^^ 0xFFFFFFFF

/-- Continuing a CRC over the bits of `v` below `n`, highest first, with no reflection. -/
def crcPolyFrom (w poly v c : Nat) : Nat → Nat
  | 0 => c
  | n + 1 =>
    let fb := (c / 2 ^ (w - 1) + v / 2 ^ n) % 2
    let c' := c * 2 % 2 ^ w
    crcPolyFrom w poly v (if fb = 1 then c' ^^^ poly else c') n

/-- The remainder of v(x) × x^w by the polynomial, initial value 0, no reflection and no inversion (R268). -/
def crcPoly (w poly n v : Nat) : Nat := crcPolyFrom w poly v 0 n

/-- A number read as signed at width `w`. -/
def signed (w v : Nat) : Int := if v % 2 ^ w < 2 ^ (w - 1) then ((v % 2 ^ w : Nat) : Int) else ((v % 2 ^ w : Nat) : Int) - (2 ^ w : Nat)

/-! ### Time -/

/-- The always-on time count (R177): 10 at each AONCLK cycle of 16 cycles of 0.625 ns. -/
def State.aonTime (s : State) : Nat :=
  match s.clk.aonStart with
  | none => 0
  | some t => (10 * ((s.now - t) / 16)) % 2 ^ 64

/-- Whether the Timing Hub's time is valid (R133). -/
def State.timeValid (s : State) : Bool := s.is TH_STATUS.state

/-- The time of an entry and its source (R474). -/
def State.stamp (s : State) : BitVec 80 × Bool :=
  if s.timeValid then (s.th.time, false) else (BitVec.ofNat 80 (s.aonTime * 65536), true)

/-- The time advances by `n` cycles of the 1.6 GHz time clock, with what remains of a correction slewed in at no more
than 4.096 units a cycle (R131, R132). -/
def State.elapse (s : State) (n : Nat) : State :=
  { s with
    now := s.now + n
    th := if s.th.running then
      let room := s.th.slewAcc + 4096 * n
      let most : Int := ((room / 1000 : Nat) : Int)
      let d := max (-most) (min s.th.slew most)
      { s.th with time := s.th.time + BitVec.ofNat 80 (40960 * n) + BitVec.ofInt 80 d,
                  slew := s.th.slew - d,
                  slewAcc := if s.th.slew = 0 then 0 else room % 1000 }
      else s.th }

/-- The Timing Hub's time reaches `t`: a command that comes at a time brings the time there, never back. -/
def State.reachTime (s : State) (t : Time) : State :=
  if s.th.running && decide (s.th.time < t) then
    { s with now := s.now + ((t.toNat - s.th.time.toNat) + 40959) / 40960, th := { s.th with time := t } }
  else s

/-! ### Events and the fault log -/

/-- An alert source is set (R525); one that is enabled and becomes set ends the answer to the alert (R526). -/
def State.alert (s : State) (n : Nat) : State :=
  let f : Field := ⟨TWP_ALERT_SRC.off, n, n⟩
  let new := !s.is f && s.is ⟨TWP_ALERT_EN.off, n, n⟩
  let s := s.put f 1
  if new then { s with twp := { s.twp with answered := false } } else s

/-- The classes of R472. -/
def INFO : BitVec 2 := 0
def CORRECTED : BitVec 2 := 1
def CONTAINED : BitVec 2 := 2
def FATAL : BitVec 2 := 3

/-- An event occurs: its EVT bit is set and EVT_CNT counts one (R556). -/
def State.event (s : State) (pg n : Nat) : State :=
  (s.put (EVT.v pg) (s.get (EVT.v pg) ||| 2 ^ n)).count (EVT_CNT.v pg)

/-- The 32 bytes of an entry (R474). -/
def encodeEntry (t : BitVec 80) (aon lost : Bool) (e : FaultRec) : BitVec 256 :=
  BitVec.ofNat 256 (t.toNat + e.block.toNat * 2 ^ 80 +
    (e.cls.toNat * 64 + aon.toNat * 32 + lost.toNat * 16) * 2 ^ 88 + e.inst.toNat * 2 ^ 96
    + e.code.toNat * 2 ^ 112 + e.info0.toNat * 2 ^ 128 + e.info1.toNat * 2 ^ 192)

/-- A block hands an entry to the intake queue, or the entry is dropped and counted; the first drop of a run sets
EVT[3] and counts (R475). -/
def State.handEntry (s : State) (e : FaultRec) : State :=
  let st := s.stamp
  if s.flt.intake.length < 64 then
    { s with flt := { s.flt with intake := s.flt.intake ++ [encodeEntry st.1 st.2 false e] } }
  else
    let s := s.count FLT_DROP.v
    let s := if s.flt.dropped = 0 then
        let s := s.event pageFLT 3
        { s with flt := { s.flt with dropStamp := st.1, dropAon := st.2 } }
      else s
    { s with flt := { s.flt with dropped := s.flt.dropped + 1 } }

/-- The entry of a page's block: its type code's low byte and its instance (R474). -/
def pageEntry (pg : Nat) (cls : BitVec 2) (code i0 i1 : Nat) : FaultRec :=
  let pid := resetWord pg
  { cls := cls, block := BitVec.ofNat 8 (pid.toNat / 65536), inst := BitVec.ofNat 16 pid.toNat,
    code := BitVec.ofNat 16 code, info0 := BitVec.ofNat 64 i0, info1 := BitVec.ofNat 64 i1 }

/-- A page logs an entry. ERR_INFO0 and ERR_INFO1 hold the low words of the latest entry's information words, but in
the CFG and SCB pages, whose chapters give them another layout (R556, R237, R278). -/
def State.log (s : State) (pg : Nat) (cls : BitVec 2) (code i0 i1 : Nat) : State :=
  let s := s.handEntry (pageEntry pg cls code i0 i1)
  if pg = pageCFG || pg = pageSCB then s
  else (s.put (ERR_INFO0.v pg) i0).put (ERR_INFO1.v pg) i1

/-- An event with its entry. -/
def State.raise (s : State) (pg n : Nat) (cls : BitVec 2) (code i0 i1 : Nat) : State :=
  (s.event pg n).log pg cls code i0 i1

/-- What a read command returned. -/
def State.answering (s : State) (bs : List Byte) : State := { s with answer := bs }

/-- A read command returns one register word. -/
def State.answerWord (s : State) (w : Word) : State := s.answering (toBytes w.toNat 4)

/-- What an unlisted number reads as. -/
def natDefault : Nat → Nat := fun _ => 0

/-- What an unlisted L2 byte reads as: the array is zeroed at reset; of a way that memory took from the cache since, its
content is open (R405). -/
def State.l2Default (s : State) : Nat → Byte := fun a =>
  match s.cc.l2epoch.get natDefault (a / 2 ^ 18) with
  | 0 => 0
  | e => Config.l2Lost e a

/-- Whether the power domain `d` is OPEN, and the domain of region `r` = 12 × CY + CX (R496). -/
def State.domOpen (s : State) (d : Nat) : Bool := s.get (PWR_DOM.state d) = 0
def regionDom (r : Nat) : Nat := 0x010 + r

/-- Doing `f` where `c` holds. -/
def State.when (s : State) (c : Bool) (f : State → State) : State := if c then f s else s

/-- Doing `f` for every element in turn. -/
def State.each {α : Type} (s : State) (l : List α) (f : State → α → State) : State := l.foldl f s

end Sys2Proof.Machine
end

