-- ==== Sys2Proof/Machine/RegOps.lean ====
section
/-! DEFINITION. What a read of the register space returns: the stored words, and the registers whose value is a
function of other state (R9, R10, R146, R421, R556). -/

namespace Sys2Proof.Machine

open Reg

/-- Scheduler time in ns (R421): the ns field of the Timing Hub's time while it is valid, else it advances with the
always-on time from where it was. -/
def State.schedTime (s : State) : Nat :=
  if s.timeValid then s.th.time.toNat / 65536 % 2 ^ 64
  else (s.ts.held + s.aonTime - s.ts.heldAon) % 2 ^ 64

/-- The holdover uncertainty in ps (R146): the elapsed holdover time in ns × ppb ÷ 10^6, saturating. -/
def State.uncert (s : State) : Nat :=
  if s.get TH_STATUS.state = 3 then
    min ((s.now - s.th.holdStart) * 5 / 8 * s.get TH_HOLD_CFG.drift_ppb / 1000000) (2 ^ 32 - 1)
  else 0

/-- Whether a page's interrupt source is asserted (R557). -/
def State.evtPending (s : State) (pg : Nat) : Bool := decide (s.get (EVT.v pg) &&& s.get (EVT_EN.v pg) ≠ 0)

/-- The rank capacity of controller `n` in bytes (R314). -/
def State.rankBytes (s : State) (n : Nat) : Nat :=
  let gib := match s.get (DMC_GEOM.density n) with | 0 => 8 | 1 => 12 | _ => 16
  (if s.is (DMC_GEOM.width n) then gib / 2 else gib) * 2 ^ 30

/-- The capacity of controller `n` in bytes (R314). -/
def State.dmcBytes (s : State) (n : Nat) : Nat := s.rankBytes n * (s.get (DMC_GEOM.ranks n) + 1)

/-- The data capacity of controller `n` in bytes: its capacity without the carve-out (R346). -/
def State.dcapBytes (s : State) (n : Nat) : Nat := s.dmcBytes n - s.get (MPE_CARVE.mib n) * 2 ^ 20

/-- What an unlisted protection engine and timing channel read as. -/
def mpeDefault : Nat → MpeState := fun _ => {}
def inChanDefault : Nat → ThChan := fun _ => {}

/-- The word that the poison map shows of its selected entry: valid, region and level, or the index (R363, R364). -/
def State.poisonWord (s : State) (n : Nat) (second : Bool) : Word :=
  match (s.mpes.get mpeDefault n).poison[s.get (MPE_PSN_IDX.v n)]? with
  | none => 0
  | some (r, l, i) => BitVec.ofNat 32 (if second then i else 2 ^ 31 + r * 2 ^ 28 + l * 2 ^ 24)

/-- The word that a register of a protection engine shows (R346, R363). -/
def State.shownMpe (s : State) (off : Nat) (w : Word) : Word :=
  let n := (off - 0x100000) / 0x10000
  if off = MPE_DCAP.off n then BitVec.ofNat 32 (s.dcapBytes n / 2 ^ 20)
  else if off = MPE_PSN_ENT0.off n then s.poisonWord n false
  else if off = MPE_PSN_ENT1.off n then s.poisonWord n true
  else if off = MPE_PSN_USED.off n then BitVec.ofNat 32 (s.mpes.get mpeDefault n).poison.length
  else w

/-- The word that an input channel's status shows: inverted follows the channel's polarity and its check (R163). -/
def State.shownInput (s : State) (off : Nat) (w : Word) : Word :=
  let c := (off - TH_IN_STAT.off 0) / 0x20
  if off = TH_IN_STAT.off c && decide (c < 24) then
    setBits w 28 28 (s.is (TH_IN_CFG.inv c) || (s.th.chans.get inChanDefault c).reversed).toNat
  else w

/-- Whether everything outside the always-on domain is held in reset (R12, R32, R188, R494, R495, R503, R551). -/
def State.held (s : State) : Bool :=
  !s.pwr.tv || s.pwr.supply || s.pwr.tripHeld || s.pins.perst || s.pins.por || s.clk.coreHeld || s.jtag.held

/-- The word that TWP_STAT shows: VCCINT in range and the system core out of reset (R529). -/
def State.shownTwp (s : State) (w : Word) : Word :=
  setBits (setBits w 19 19 (s.get PWR_SUP_STAT.ok % 2)) 18 18 (!s.held).toNat

/-- The word that GPIO_STAT shows: whether the banks' supply is in range (R511, R560). -/
def State.shownGpio (s : State) (off : Nat) (w : Word) : Word :=
  let b := (off - GPIO_STAT.off 0) / 0x1000
  if off = GPIO_STAT.off b then setBits w 31 31 (bit (s.word PWR_SUP_STAT.off) (if b < 10 then 8 else 9)).toNat else w

/-- The word that a register shows: STATUS shows the lock and the pending events, TS_TIME the scheduler time and
TH_UNCERT the uncertainty of this moment; every DMC_MAP is DMC0's (R317), TWP_STAT the supply and the reset, and TH_STATUS names the node that TH_NODE sets. -/
def State.shown (s : State) (off : Nat) : Word :=
  let w := s.word off
  if off = TH_UNCERT.off then BitVec.ofNat 32 s.uncert
  else if off = TWP_STAT.off then s.shownTwp w
  else if off = TS_TIME.off 0 then BitVec.ofNat 32 s.schedTime
  else if off = TS_TIME.off 1 then BitVec.ofNat 32 (s.schedTime / 2 ^ 32)
  else if off < 0x180000 && off = DMC_MAP.off ((off - DMC_MAP.off 0) / 0x10000) then s.word (DMC_MAP.off 0)
  else if 0x101000 ≤ off && off < 0x180000 && decide (off % 0x10000 / 0x1000 = 1) && decide (off % 4096 ≠ 0x0C) then
    s.shownMpe off w
  else if off = TH_STATUS.off then
    if s.is TH_NODE.auto then w else setBits w 15 0 (s.get TH_NODE.id)
  else if GPIO_STAT.off 0 ≤ off && off < GPIO_STAT.off 12 && decide (off % 4096 = 0x40) then s.shownGpio off w
  else if TH_IN_STAT.off 0 ≤ off && off < TH_IN_STAT.off 24 then s.shownInput off w
  else if off % 4096 = 0x0C then
    match locate off with
    | some (p, _, _) =>
      if p.header then
        let pg := pageBase off
        setBits (setBits w 30 30 (s.locked pg).toNat) 29 29 (s.evtPending pg).toNat
      else w
    | none => w
  else w

/-- What an unlisted slot of the fault log's ring reads as. -/
def ringDefault : Nat → BitVec 256 := fun _ => 0

/-- A read of CLK_AON_TIME0 latches CLK_AON_TIME1 (R177). -/
def State.latchAon (s : State) : State := s.putWide (CLK_AON_TIME.off 0) 2 s.aonTime

/-- A read of TH_TIME0 latches TH_TIME1 and TH_TIME2 (R134). -/
def State.latchTime (s : State) : State := s.putWide (TH_TIME.off 0) 3 s.th.time.toNat

/-- A read of FLT_ENT0 latches the entry of the slot of FLT_SEL (R476). -/
def State.latchEntry (s : State) : State :=
  s.putWide (FLT_ENT.off 0) 8 (s.flt.ring.get ringDefault (s.get FLT_SEL.v)).toNat

/-- What a read of the register at `off` latches before it returns. -/
def State.latchFor (s : State) (off : Nat) : State :=
  if off = CLK_AON_TIME.off 0 then s.latchAon
  else if off = TH_TIME.off 0 then s.latchTime
  else if off = FLT_ENT.off 0 then s.latchEntry
  else s

/-- A 32-bit read: what it returns, and the state that its RC fields leave. -/
def State.readReg (s : State) (off : Nat) : Word × State :=
  let fs := fieldsAt off
  let s := s.latchFor off
  (readFields fs (s.shown off), s.setWord off (clearRead fs 0 4 (s.word off)))

/-- Reading `n` consecutive registers. -/
def State.readRegs (s : State) (off : Nat) : Nat → List Byte × State
  | 0 => ([], s)
  | n + 1 =>
    let got := s.readReg off
    let w := got.1
    let s := got.2
    let got := s.readRegs (off + 4) n
    let bs := got.1
    let s := got.2
    (toBytes w.toNat 4 ++ bs, s)

end Sys2Proof.Machine
end

