-- ==== Sys2Proof/Machine/PortOps.lean ====
section
/-! DEFINITION. Ports, packets and initiators of the network on chip as every block uses them (R27, R283 to R306):
port IDs, the address decoder, sending, answering, closing and opening. -/

namespace Sys2Proof.Machine

open Reg

/-! ### Ports and initiators -/

/-- The port ID of local port `p` of router (x,y) (R283). -/
def portId (x y p : Nat) : Nat := 64 * x + 8 * y + p

/-- The router of a port ID, as 12 × y + x. -/
def portRouter (p : Nat) : Nat := 12 * (p / 8 % 8) + p / 64

/-- The local port number of a port ID. -/
def portLocal (p : Nat) : Nat := p % 8

/-- Whether a port ID names a port that exists (R283). -/
def portExists (p : Nat) : Bool :=
  decide (p / 64 < 12) && decide (p / 8 % 8 < 6) && decide (p % 8 < 4)
    && decide (existingPorts (p / 64) (p / 8 % 8) / 2 ^ (p % 8) % 2 = 1)

/-- The ID by which a router names itself (R283). -/
def routerId (i : Nat) : Nat := portId (i % 12) (i / 12) 7

/-- The port of quay `q` (R13, R283). -/
def quayPort (q : Nat) : Nat := portId (q % 24 / 2) (q / 24 + 1) (q % 2)

/-- The quay at a port, if any. -/
def portQuay (p : Nat) : Option Nat :=
  if 1 ≤ p / 8 % 8 && p / 8 % 8 ≤ 5 && p % 8 < 2 && p / 64 < 12 then
    some (2 * (12 * (p / 8 % 8 - 1) + p / 64) + p % 8) else none

/-- The edge port of controller `n` (R24). -/
def dmcPort (n : Nat) : Nat :=
  portId (if n % 2 = 0 then 0 else 11) (match n / 2 with | 0 => 1 | 1 => 2 | 2 => 4 | _ => 5) 2

/-- The controller at a port, if any. -/
def portDmc (p : Nat) : Option Nat := (List.range 8).find? fun n => dmcPort n = p

/-- The number under which State keeps an initiator. -/
def iniNo : IniPort → Nat
  | .quay q => q | .cfg => 120 | .scb => 121 | .ccA => 122 | .ccB => 123 | .pciA => 124 | .pciB => 125
  | .seA => 126 | .seB => 127 | .ts => 128 | .pair => 129 | .twp => 130

/-- The port of an initiator (R283). -/
def iniPort : IniPort → Nat
  | .quay q => quayPort q | .cfg => portId 1 0 0 | .scb => portId 1 0 1 | .ccA => portId 2 0 0
  | .ccB => portId 3 0 0 | .pciA => portId 5 0 0 | .pciB => portId 6 0 0 | .seA => portId 7 0 0
  | .seB => portId 8 0 0 | .ts => portId 4 0 0 | .pair => portId 10 0 0 | .twp => portId 0 0 1

/-- The page that holds an initiator's block (R310). -/
def iniPage : IniPort → Nat
  | .quay q => pageQUAY q | .cfg => pageCFG | .scb => pageSCB | .ccA => pageCC0 | .ccB => pageCC0
  | .pciA => pagePCI0 | .pciB => pagePCI0 | .seA => pageSE0 | .seB => pageSE0 | .ts => pageTS0
  | .pair => pagePAIR | .twp => pageTWP

/-- Whether the initiator is the second port of its block (R310). -/
def iniSecond : IniPort → Bool
  | .ccB => true | .pciB => true | .seB => true
  | .quay _ => false | .cfg => false | .scb => false | .ccA => false | .pciA => false | .seA => false
  | .ts => false | .pair => false | .twp => false

/-- The base of an initiator's block. -/
def iniBlock (i : IniPort) : Nat := iniPage i + (if iniSecond i then 0xE40 else 0xE00)

/-- The EVT bit of an initiator's event: 0 time-out, 1 refused, 2 late (R312). -/
def iniEvt (i : IniPort) (e : Nat) : Nat := (if iniSecond i then 24 else 27) - e

/-- The initiator at a port, if any. -/
def portIni (p : Nat) : Option IniPort :=
  match portQuay p with
  | some q => if h : q < 120 then some (.quay ⟨q, h⟩) else none
  | none => [IniPort.cfg, .scb, .ccA, .ccB, .pciA, .pciB, .seA, .seB, .ts, .pair, .twp].find? fun i => iniPort i = p

/-- What an unlisted port, initiator, quay and flow read as. -/
def portDefault : Nat → PortState := fun _ => {}
def iniDefault : Nat → IniState := fun _ => {}
def quayDefault : Nat → QuayState := fun _ => {}
def flowDefault : Nat → Flow := fun _ => {}

/-- What a port keeps. -/
def State.port (s : State) (p : Nat) : PortState := s.noc.ports.get portDefault p

/-- Storing what a port keeps. -/
def State.setPort (s : State) (p : Nat) (v : PortState) : State :=
  { s with noc := { s.noc with ports := s.noc.ports.set portDefault p v } }

/-- What an initiator keeps. -/
def State.ini (s : State) (i : IniPort) : IniState := s.noc.inis.get iniDefault (iniNo i)

/-- Storing what an initiator keeps; NOC_INI_OUT and the quay's count show what is outstanding (R295, R310). -/
def State.setIni (s : State) (i : IniPort) (v : IniState) : State :=
  let n := v.out.length + v.fences.length
  let s := ({ s with noc := { s.noc with inis := s.noc.inis.set iniDefault (iniNo i) v } }).put
    (NOC_INI_OUT.v (iniBlock i)) n
  match i with
  | .quay q => s.put (QUAY_STAT.ini_out q) n
  | _ => s

/-- What a quay keeps. -/
def State.quay (s : State) (q : Nat) : QuayState := s.noc.quays.get quayDefault q

/-- Storing what a quay keeps. -/
def State.setQuay (s : State) (q : Nat) (v : QuayState) : State :=
  ({ s with noc := { s.noc with quays := s.noc.quays.set quayDefault q v } }).put (QUAY_STAT.tgt_out q)
    v.given.length

/-- The state of a port: 0 OPEN, 1 CLOSING, 2 CLOSED (R304). -/
def State.portState (s : State) (p : Nat) : Nat := s.get (NOC_RTR_PORT.state (portRouter p) (portLocal p))

/-- Setting the state of a port, which a quay shows too. -/
def State.setPortState (s : State) (p v : Nat) : State :=
  let s := s.put (NOC_RTR_PORT.state (portRouter p) (portLocal p)) v
  match portQuay p with
  | some q => s.put (QUAY_STAT.state q) v
  | none => s

/-! ### Packets -/

/-- The header flit of a packet as a number (R288). -/
def headerOf (p : Packet) : Nat :=
  p.opcode.toNat + p.vc.toNat * 2 ^ 4 + p.cls.toNat * 2 ^ 6 + p.dest.toNat * 2 ^ 8 + p.src.toNat * 2 ^ 18
  + p.tag.toNat * 2 ^ 28 + p.key.toNat * 2 ^ 40 + p.len.toNat * 2 ^ 46 + p.seq.toNat * 2 ^ 54
  + p.hops.toNat * 2 ^ 62 + p.status.toNat * 2 ^ 67 + p.synth.toNat * 2 ^ 71 + p.addr.toNat * 2 ^ 72
  + p.be.toNat * 2 ^ 128 + p.info.toNat * 2 ^ 384

/-- The header check of a packet (R288). -/
def hcrcOf (p : Packet) : BitVec 16 := BitVec.ofNat 16 (crcPoly 16 0x1021 496 (headerOf p))

/-- A packet with its header check made. -/
def sealed (p : Packet) : Packet := { p with hcrc := hcrcOf p }

/-- The check word of a data flit (R289). -/
def flitCheck (l : Line) : Word := BitVec.ofNat 32 (crcPoly 32 0x1EDC6F41 512 l.toNat)

/-- Data flits with their check words. -/
def flits (ls : List Line) : List (Line × Word) := ls.map fun l => (l, flitCheck l)

/-- Whether every data flit of a packet passes its check. -/
def dataGood (p : Packet) : Bool := p.data.all fun d => flitCheck d.1 = d.2

/-- The data of a packet as bytes, from the first line that it touches. -/
def dataBytes (p : Packet) : List Byte := p.data.flatMap fun d => toBytes d.1.toNat 64

/-- Bytes as whole lines, the last filled with zeros. -/
def linesOf (bs : List Byte) : List Line :=
  (List.range ((bs.length + 63) / 64)).map fun i => BitVec.ofNat 512 (ofBytes ((bs.drop (64 * i)).take 64))

/-- A posted or non-posted write of bytes at an address, as a request (R290). -/
def writeReq (op : ReqOp) (addr : Nat) (bs : List Byte) (cls : BitVec 2) (tag : BitVec 12) : NocReq :=
  { op := op, addr := BitVec.ofNat 56 addr, len := BitVec.ofNat 8 (bs.length - 1), cls := cls, key := 0, tag := tag,
    be := BitVec.ofNat 256 ((2 ^ bs.length - 1) * 2 ^ (addr % 256)), data := linesOf (List.replicate (addr % 64) 0 ++ bs) }

/-- A packet enters the network at a place. -/
def State.send (s : State) (at_ : Place) (p : Packet) : State :=
  { s with noc := { s.noc with flight := s.noc.flight ++ [(at_, sealed p)] } }

/-- A packet that a command handles leaves the place where it waited. -/
def State.unsend (s : State) (at_ : Place) (p : Packet) : State :=
  { s with noc := { s.noc with flight := s.noc.flight.erase (at_, p) } }

/-- The answer to a request, which enters the network at the answering port's router (R289, R296). -/
def State.answerFrom (s : State) (src : Nat) (req : Packet) (status : Nat) (data : List Line) (synth : Bool)
    (info : Nat) : State :=
  s.send (.router (portRouter src))
    { opcode := if status ≠ 0 then 8 else if data.isEmpty then 7 else 6, vc := 2, cls := req.cls, dest := req.src,
      src := BitVec.ofNat 10 src, tag := req.tag, key := 0, len := req.len, seq := 0, hops := 0,
      status := BitVec.ofNat 4 status, synth := synth, addr := 0, be := 0, info := BitVec.ofNat 32 info, hcrc := 0,
      data := flits data }

/-- A NOTICE of a dropped posted write to its source (R300). -/
def State.notice (s : State) (src : Nat) (req : Packet) (status : Nat) : State :=
  s.send (.router (portRouter src))
    { opcode := 9, vc := 3, cls := req.cls, dest := req.src, src := BitVec.ofNat 10 src, tag := req.tag, key := 0,
      len := req.len, seq := 0, hops := 0, status := BitVec.ofNat 4 status, synth := false, addr := req.addr, be := 0,
      info := 0, hcrc := 0, data := [] }

/-- Whether a packet is a posted write or MWR (R289). -/
def isPosted (p : Packet) : Bool := decide (p.opcode = 2) || decide (p.opcode = 5)

/-- Whether a packet is a request that is answered, FLUSH apart. -/
def isNonPosted (p : Packet) : Bool := decide (p.opcode = 0) || decide (p.opcode = 1) || decide (p.opcode = 4)

/-- Whether the opcode stands in a VC that R289 gives it. -/
def opcodeFits (p : Packet) : Bool :=
  match p.opcode.toNat with
  | 0 => p.vc = 1 | 1 => p.vc = 1 | 2 => p.vc = 0 | 3 => p.vc = 0 || p.vc = 3 | 4 => p.vc = 3 | 5 => p.vc = 3
  | 6 => p.vc = 2 | 7 => p.vc = 2 | 8 => p.vc = 2 | 9 => p.vc = 3
  | _ => false

/-- The second information word of a router's entry: the source ID above the destination ID (R312). -/
def idsOf (p : Packet) : Nat := p.dest.toNat + p.src.toNat * 2 ^ 16

/-- A router's event about a packet (R312). -/
def State.routerEvent (s : State) (i n : Nat) (cls : BitVec 2) (code : Nat) (p : Packet) : State :=
  s.raise (pageNOC i) n cls code p.addr.toNat (idsOf p)

/-! ### The address decoder -/

/-- The controller and the local address that a DRAM offset names, if it lies below the installed capacity (R317, R346). -/
def State.dramPlace (s : State) (o : Nat) : Option (Nat × Nat) :=
  if s.is (DMC_MAP.mode 0) then
    let n := o / 2 ^ 35 % 8
    let l := o % 2 ^ 35
    if o < 2 ^ 38 && l < s.dcapBytes n then some (n, l) else none
  else if o < 8 * s.dcapBytes 0 then some (o / 256 % 8, o / 2048 * 256 + o % 256) else none

/-- The port that serves a register-space offset (R287), none for quays 120 to 127. -/
def regPort (o : Nat) : Option Nat :=
  if 0x2000000 ≤ o then (if o / 2 ^ 18 % 128 < 120 then some (quayPort (o / 2 ^ 18 % 128)) else none)
  else if o < 0x10000 then some (portId 0 0 0)
  else if o / 0x1000 = 0x11 then some (portId 1 0 1)
  else if o < 0x20000 || o / 0x10000 = 0x180 then some (portId 1 0 0)
  else if o < 0x40000 then some (portId 9 0 0)
  else if 0x100000 ≤ o && o < 0x180000 then some (dmcPort (o / 0x10000 % 8))
  else if o / 0x10000 = 0x20 then some (portId 5 0 0)
  else if o / 0x10000 = 0x21 || o / 0x10000 = 0x22 then some (portId 7 0 0)
  else if o / 0x10000 = 0x30 then some (portId 2 0 0)
  else if o / 0x10000 = 0x31 || o / 0x10000 = 0x32 then some (portId 4 0 0)
  else if o / 0x1000 = 0x500 then some (portId 10 0 0)
  else if o / 0x1000 = 0x600 then some (portId 0 0 1)
  else if o / 0x10000 = 0x50 || o / 0x10000 = 0x60 then some (portId 0 0 0)
  else if 0x1000000 ≤ o && o < 0x1400000 then some (portId 8 0 0)
  else some (portId 11 0 0)

/-- The destination port of an address that an initiator in router column `x` names, none where R28 refuses it
(R27, R28, R287). -/
def State.destPort (s : State) (x a : Nat) : Option Nat :=
  let o := a % 2 ^ 52
  match a / 2 ^ 52 with
  | 0 => if o / 2 ^ 48 ≠ 0 || o / 2 ^ 38 % 16 ≠ 0 then none else (s.dramPlace (o % 2 ^ 42)).map fun d => dmcPort d.1
  | 1 => some (if x ≤ 5 then portId 5 0 0 else portId 6 0 0)
  | 2 => if o / 2 ^ 36 ≠ 0 || 120 ≤ o / 2 ^ 29 then none else some (quayPort (o / 2 ^ 29))
  | 3 => if o / 2 ^ 26 ≠ 0 then none else regPort o
  | 4 => if o / 2 ^ 22 ≠ 0 then none else some (portId 3 0 0)
  | _ => none

/-! ### Sending posted traffic from an initiator -/

/-- The number under which a flow of one destination or source and one VC is kept. -/
def flowNo (port vc : Nat) : Nat := 4 * port + vc

/-- What an unlisted next seq reads as. -/
def seqDefault : Nat → BitVec 8 := fun _ => 0

/-- The next seq of an initiator towards a destination and VC. -/
def State.nextSeq (s : State) (i : IniPort) (dest vc : Nat) : BitVec 8 :=
  (s.ini i).seqs.get seqDefault (flowNo dest vc)

/-- An initiator sends a posted write or MWR: it carries the next seq, and the destination joins those that the next
fence flushes (R292, R293). -/
def State.sendPosted (s : State) (i : IniPort) (p : Packet) : State :=
  let q := s.nextSeq i p.dest.toNat p.vc.toNat
  let v := s.ini i
  let d := (p.dest, p.vc)
  let s := s.setIni i { v with
    seqs := v.seqs.set seqDefault (flowNo p.dest.toNat p.vc.toNat) (q + 1),
    written := if v.written.contains d then v.written else v.written ++ [d] }
  s.send (.router (portRouter (iniPort i))) { p with seq := q }

/-- An initiator sends FLUSHes to some of the destinations and VCs that it has written (R293, R373). -/
def State.flushTo (s : State) (i : IniPort) (tag : BitVec 12) (ds : List (BitVec 10 × BitVec 2)) : State :=
  let v := s.ini i
  let s := s.setIni i { v with
    written := v.written.filter fun d => !ds.contains d, fences := v.fences ++ [{ tag := tag, left := ds }] }
  s.each ds fun s d =>
    s.send (.router (portRouter (iniPort i)))
      { opcode := 3, vc := d.2, cls := 2, dest := d.1, src := BitVec.ofNat 10 (iniPort i), tag := tag, key := 0, len := 0,
        seq := s.nextSeq i d.1.toNat d.2.toNat, hops := 0, status := 0, synth := false, addr := 0, be := 0, info := 0,
        hcrc := 0, data := [] }

/-- A fence (R293): FLUSHes to every destination and VC written since the last fence; none written, it completes at once
with OK. -/
def State.startFence (s : State) (i : IniPort) (tag : BitVec 12) : State :=
  let v := s.ini i
  if v.written.isEmpty then s.setIni i { v with fenced := some (tag, 0) } else s.flushTo i tag v.written

/-- The lowest tag that an initiator does not use (R298). -/
def State.freeTag (s : State) (i : IniPort) : Option (BitVec 12) :=
  let v := s.ini i
  ((List.range 4096).map fun n => BitVec.ofNat 12 n).find? fun t =>
    !(v.out.any (fun o => o.tag = t) || v.dead.contains t || v.fences.any fun f => f.tag = t)

/-! ### Power domains -/

/-- The region row of a quay's attach region (R21). -/
def quayRow (q : Nat) : Nat := 4 * (q / 24) + 1 + q % 2

/-- The quays of region `r`. -/
def regionQuays (r : Nat) : List Nat := (List.range 120).filter fun q => 12 * quayRow q + q % 24 / 2 = r

/-- The pages of the blocks of a domain (R496, R556). -/
def domPages (d : Nat) : List Nat :=
  if d < 0x010 then []
  else if d < 0x100 then pageRGN (d - 0x010) :: (regionQuays (d - 0x010)).map pageQUAY
  else if d < 0x110 then [pageXCV (d - 0x100)]
  else if d < 0x120 then [pageDMC (d - 0x110), pageMPE (d - 0x110)]
  else if d < 0x130 then [pageCCC (d - 0x120), pageICC (d - 0x120)]
  else if d = 0x130 then [pagePCI0, pagePCI1]
  else [pageTH0, pageTH1, pageTH2, pageTH3, pageTH4, pageTH5]

/-- A domain takes a state: 0 OPEN, 1 CLOSING, 2 CLOSED, 3 OPENING (R497); its pages show whether it is OPEN. -/
def State.setDom (s : State) (d v : Nat) : State :=
  (s.put (PWR_DOM.state d) v).each (domPages d) fun s pg => s.putB (STATUS.dom_open pg) (decide (v = 0))

/-! ### Closing and opening -/

/-- A port enters CLOSING (R304); `drain` says that a stall drain sets its time limit. -/
def State.closePort (s : State) (drain : Bool) (p : Nat) : State :=
  if s.portState p = 0 then (s.setPortState p 1).setPort p { s.port p with drain := drain } else s

/-- A port returns to OPEN: the expected seqs restart (R306); what it has lost a source's next FLUSH still learns
(R293). -/
def State.openPort (s : State) (p : Nat) : State :=
  (s.setPortState p 0).setPort p { flows := (s.port p).flows.mapEntries flowDefault fun _ f => { lost := f.lost } }

/-- The posted writes that a port has accepted and its target has not taken, those that wait for an earlier one among
them. -/
def State.untaken (s : State) (p : Nat) : List Packet :=
  (s.port p).posted ++ (s.port p).flows.flatMap fun e => e.2.held

/-- Whether a CLOSING port's accepted work is finished (R305). -/
def State.targetIdle (s : State) (p : Nat) : Bool :=
  let v := s.port p
  let fabric := match portQuay p with
    | some q => (s.quay q).given.isEmpty
    | none => true
  v.accepted.isEmpty && (s.untaken p).isEmpty && v.flushes.isEmpty && fabric

/-- Whether the port's own outstanding requests have all been answered (R305). -/
def State.ownIdle (s : State) (p : Nat) : Bool :=
  match portIni p with
  | some i => (s.ini i).out.isEmpty && (s.ini i).fences.isEmpty
  | none => true

/-- A request is answered DOMAIN_CLOSED by its destination's router port, and counted (R300, R304). -/
def State.answerClosed (s : State) (port : Nat) (p : Packet) : State :=
  let s := (s.answerFrom port p 4 [] true port).count (NOC_RTR_DCLOSE.v (portRouter port))
  match portQuay port with
  | some q => s.count (QUAY_DCLOSE.v q)
  | none => s

/-- A port drops a posted write: notice and entry (R300). -/
def State.dropPosted (s : State) (port : Nat) (p : Packet) (status : Nat) : State :=
  ((s.notice port p status).count (NOC_RTR_PDROP.v (portRouter port))).routerEvent (portRouter port) 3 CONTAINED 0x0904 p

/-- What a forced close of a port does to its target side: open requests are answered DOMAIN_CLOSED, posted writes not
yet taken are dropped with a notice and count as lost (R293), and what the fabric still answers is discarded (R255, R266,
R305). -/
def State.forceTarget (s : State) (port : Nat) : State :=
  let v := s.port port
  let gone := s.untaken port
  let s := s.each (v.accepted ++ v.flushes) fun s p => s.answerClosed port p
  let s := s.each gone fun s p => (s.notice port p 4).count (NOC_RTR_PDROP.v (portRouter port))
  let s := match portQuay port with
    | some q =>
      let u := s.quay q
      let s := s.each u.given fun s g => s.answerClosed port g.2
      (s.setQuay q { given := [], discard := u.discard ++ u.given.map Prod.fst }).add (QUAY_DISC.v q) gone.length
    | none => s
  let flows := v.flows.mapEntries flowDefault fun k f =>
    { f with held := [], lost := f.lost || gone.any fun p => flowNo p.src.toNat p.vc.toNat = k }
  s.setPort port { v with accepted := [], posted := [], flushes := [], flows := flows }

/-! ### Flows and FLUSHes at a destination port -/

/-- The flow of a source and VC at a port. -/
def State.flow (s : State) (port : Nat) (src : BitVec 10) (vc : BitVec 2) : Flow :=
  (s.port port).flows.get flowDefault (flowNo src.toNat vc.toNat)

/-- Storing a flow. -/
def State.setFlow (s : State) (port : Nat) (src : BitVec 10) (vc : BitVec 2) (f : Flow) : State :=
  let v := s.port port
  s.setPort port { v with flows := v.flows.set flowDefault (flowNo src.toNat vc.toNat) f }

/-- A posted write of the packet's source was dropped or lost at the port (R293). -/
def State.markLost (s : State) (port : Nat) (p : Packet) : State :=
  s.setFlow port p.src p.vc { s.flow port p.src p.vc with lost := true }

/-- The distance of a seq from the one that a flow expects (R299). -/
def seqAhead (f : Flow) (q : BitVec 8) : Nat :=
  match f.expected with
  | none => 0
  | some e => (q - e).toNat

/-- A FLUSH is answered: POSTED_LOST if the port dropped or lost a posted write of its source since the source's
previous FLUSH, OK otherwise (R293). -/
def State.answerFlush (s : State) (port : Nat) (p : Packet) : State :=
  let lost := (s.flow port p.src 0).lost || (s.flow port p.src 3).lost
  let s := s.each [(0 : BitVec 2), 3] fun s vc =>
    s.when (s.flow port p.src vc).lost fun s => s.setFlow port p.src vc { s.flow port p.src vc with lost := false }
  s.answerFrom port p (if lost then 7 else 0) [] false 0

/-- Whether a FLUSH can be answered: every earlier posted write of its source in its VC has arrived and has been
taken (R293). -/
def State.flushReady (s : State) (port : Nat) (p : Packet) : Bool :=
  let d := seqAhead (s.flow port p.src p.vc) p.seq
  (decide (d = 0) || decide (128 ≤ d)) && !((s.port port).posted.any fun q => q.src = p.src && q.vc = p.vc)

/-- The FLUSHes that can now be answered are answered. -/
def State.settleFlushes (s : State) (port : Nat) : State :=
  let ready := (s.port port).flushes.filter fun p => s.flushReady port p
  let rest := (s.port port).flushes.filter fun p => !s.flushReady port p
  let s := s.setPort port { s.port port with flushes := rest }
  s.each ready fun s p => s.answerFlush port p

end Sys2Proof.Machine
end

