-- ==== Sys2Proof/Machine/CoreOps.lean ====
section
/-! DEFINITION. What the cores, the interrupt controller and the task scheduler share with other blocks: a core's
state and bus error (R401), the levels and the delivery of interrupt sources (R407 to R409), and the lists of the
scheduler (R417 to R424). -/

namespace Sys2Proof.Machine

open Reg

/-! ### Cores -/

/-- What an unlisted core reads as: held in reset. -/
def coreDefault : Nat → CoreState := fun _ => {}

/-- Core `c`. -/
def State.core (s : State) (c : Nat) : CoreState := s.cc.cores.get coreDefault c

/-- Storing core `c`. -/
def State.setCore (s : State) (c : Nat) (v : CoreState) : State :=
  { s with cc := { s.cc with cores := s.cc.cores.set coreDefault c v } }

/-- A bus error of core `c` (R401): local cause 17, with the address and the status in xccbuserr. -/
def State.busError (s : State) (c addr status : Nat) : State :=
  let s := s.setCore c { s.core c with busErr17 := true, busErr := BitVec.ofNat 60 (addr % 2 ^ 56 + status * 2 ^ 56) }
  s.raise (pageCCC c) 0 CONTAINED 0x0D01 c addr

/-- The core of a request at port A or B: the tag's bits [1:0] name it within its port (R400). -/
def coreOfTag (second : Bool) (tag : BitVec 12) : Nat := tag.toNat % 4 + (if second then 4 else 0)

/-- The initiator port of a core (R400). -/
def corePort (c : Nat) : IniPort := if c < 4 then .ccA else .ccB

/-- An exception in the ordinary way of the privileged architecture: mepc, mcause, mtval and mstatus are written, and
the core goes on in M mode at mtvec's base. In a fast handler it sets nested (R414). -/
def CoreState.exception (k : CoreState) (cause tval : Nat) : CoreState :=
  let mie := k.mstatus.getLsbD 3
  let m := k.mstatus &&& ~~~(BitVec.ofNat 64 (2 ^ 3 + 2 ^ 7 + 3 * 2 ^ 11))
  let m := m ||| BitVec.ofNat 64 ((if mie then 2 ^ 7 else 0) + k.priv.toNat * 2 ^ 11)
  { k with mepc := k.pc, mcause := BitVec.ofNat 64 cause, mtval := BitVec.ofNat 64 tval, mstatus := m, priv := 3,
           pc := k.mtvec &&& ~~~3, nested := k.nested || k.active }

/-- A core's memory access fails: a precise exception with the address in mtval (R94, R401). -/
def State.coreFault (s : State) (c cause addr : Nat) : State := s.setCore c ((s.core c).exception cause addr)

/-! ### Interrupt sources -/

/-- The page whose events a source carries (R407). -/
def sourcePage (n : Nat) : Option Nat :=
  if n < 16 then none
  else if n < 42 then
    [pageDEV, pageCLK, pagePWR, pageCFG, pageSCB, pageSTL 0, pageSTL 1, pageSTL 2, pageSTL 3, pageTH0, pageTH1, pageTH2,
      pageTH3, pageTH4, pageTH5, pagePCI0, pagePCI1, pageSE0, pageSE1, pagePAIR, pageFLT, pageAGE, pageTHM, pageTWP,
      pageCC0, pageTS0][n - 16]?
  else if n < 64 then none
  else if n < 136 then some (pageNOC (n - 64))
  else if n < 256 then some (pageQUAY (n - 136))
  else if n < 264 then some (pageDMC (n - 256))
  else if n < 272 then some (pageMPE (n - 264))
  else if n < 284 then some (pageXCV (n - 272))
  else if n < 296 then some (pageGPIO (n - 284))
  else if n < 536 then some (pageRGN (n - 296))
  else none

/-- Whether a source number is reserved: it never pends (R407). -/
def sourceReserved (n : Nat) : Bool := (42 ≤ n && n ≤ 63) || 800 ≤ n

/-- The bit of source `n` in a register array of 32. -/
def sourceBit (f : Nat → Field) (n : Nat) : Field := ⟨(f (n / 32)).off, n % 32, n % 32⟩

/-- The region whose time-tap site drives fabric interrupt line `k` (R407). -/
def State.firqRegion (s : State) (k : Nat) : Nat := s.get (IC_FIRQ_SEL.v k) % 256

/-! ### Tasks -/

/-- The fields of a task entry (R417). -/
def taskState (t : Nat) : Field := ⟨TS_TASK.off t 0, 31, 28⟩
def taskPrio (t : Nat) : Field := ⟨TS_TASK.off t 0, 27, 23⟩
def taskTarget (t : Nat) : Field := ⟨TS_TASK.off t 0, 22, 16⟩
def taskAll (t : Nat) : Field := ⟨TS_TASK.off t 0, 15, 15⟩
def taskAuto (t : Nat) : Field := ⟨TS_TASK.off t 0, 14, 14⟩
def taskTimed (t : Nat) : Field := ⟨TS_TASK.off t 0, 13, 13⟩
def taskMask (t : Nat) : Field := ⟨TS_TASK.off t 1, 31, 0⟩
def taskFlags (t : Nat) : Field := ⟨TS_TASK.off t 2, 31, 0⟩
def taskReason (t : Nat) : Field := ⟨TS_TASK.off t 3, 31, 30⟩
def taskDispatches (t : Nat) : Field := ⟨TS_TASK.off t 3, 15, 0⟩

/-- The wake of a task and its arg. -/
def State.taskWake (s : State) (t : Nat) : Nat := s.getWide (TS_TASK.off t 4) 2
def State.taskArg (s : State) (t : Nat) : Nat := s.getWide (TS_TASK.off t 6) 2

/-- What an unlisted list of a target reads as. -/
def listDefault : Nat → List Nat := fun _ => []

/-- The ready list of a target, and its running tasks. -/
def State.readyList (s : State) (g : Nat) : List Nat := s.ts.ready.get listDefault g
def State.runningOn (s : State) (g : Nat) : List Nat := s.ts.running.get listDefault g

/-- Storing the ready list of a target; TS_DEPTH shows its length (R425). -/
def State.setReady (s : State) (g : Nat) (l : List Nat) : State :=
  ({ s with ts := { s.ts with ready := s.ts.ready.set listDefault g l } }).put (TS_DEPTH.v g) l.length

/-- Storing the running tasks of a target; the load counts the time with one running (R425). -/
def State.setRunning (s : State) (g : Nat) (l : List Nat) : State :=
  let was := s.runningOn g
  let t := s.schedTime
  let ts := { s.ts with running := s.ts.running.set listDefault g l }
  let ts := if was.isEmpty && !l.isEmpty then { ts with busyFrom := ts.busyFrom.set natDefault g t }
    else if !was.isEmpty && l.isEmpty then
      { ts with busy := ts.busy.upd natDefault g fun b => b + (t - max (ts.busyFrom.get natDefault g) ts.winStart) }
    else ts
  { s with ts := ts }

/-- A list with `t` at the tail of its priority (R422). -/
def State.listTail (s : State) (t : Nat) (l : List Nat) : List Nat :=
  let p := s.get (taskPrio t)
  l.takeWhile (fun u => s.get (taskPrio u) ≤ p) ++ t :: l.dropWhile (fun u => s.get (taskPrio u) ≤ p)

/-- A list with `t` at the head of its priority (R422, R424). -/
def State.listHead (s : State) (t : Nat) (l : List Nat) : List Nat :=
  let p := s.get (taskPrio t)
  l.takeWhile (fun u => s.get (taskPrio u) < p) ++ t :: l.dropWhile (fun u => s.get (taskPrio u) < p)

/-- A task becomes READY, at the tail of its priority (R422). Reasons: 0 START, 1 flags, 2 time, 3 YIELD. -/
def State.makeReady (s : State) (t reason : Nat) : State :=
  let s := (s.put (taskState t) 3).put (taskReason t) reason
  let s := { s with ts := { s.ts with readyAt := s.ts.readyAt.set natDefault t s.schedTime } }
  let g := s.get (taskTarget t)
  s.setReady g (s.listTail t (s.readyList g))

/-- A task leaves the ready list of its target. -/
def State.unready (s : State) (t : Nat) : State :=
  let g := s.get (taskTarget t)
  s.setReady g ((s.readyList g).erase t)

/-- A task stops running on its target. -/
def State.stopRunning (s : State) (t : Nat) : State :=
  let g := s.get (taskTarget t)
  s.setRunning g ((s.runningOn g).erase t)

/-- A RUNNING task returns to READY at the head of its list (R424). -/
def State.returnOne (s : State) (t : Nat) : State :=
  if s.get (taskState t) ≠ 4 then s else
  let g := s.get (taskTarget t)
  let s := (s.stopRunning t).put (taskState t) 3
  let s := { s with ts := { s.ts with readyAt := s.ts.readyAt.set natDefault t s.schedTime } }
  let s := (s.setReady g (s.listHead t (s.readyList g))).count TS_ABANDON.v
  s.raise pageTS0 4 INFO 0x0D07 t 0

/-- The tasks still RUNNING on a target return to READY at the head of their list (R424). -/
def State.returnTasks (s : State) (g : Nat) : State :=
  s.each (s.runningOn g).reverse fun s t => s.returnOne t

/-- A slot dispatch write was dropped (R423): its task, which the write's tag names, returns. -/
def State.dispatchDropped (s : State) (t addr : Nat) : State :=
  (s.raise pageTS0 1 CONTAINED 0x0D04 t addr).returnOne t

/-- The kernel slot of stall `n` as a target, and whether its dispatch is held: in every stall state but RUNNING and
ARMED (R262, R424). -/
def slotTarget (n : Nat) : Nat := 8 + n
def State.slotHeld (s : State) (n : Nat) : Bool := !(s.get (STL_STAT.state n) = 1 || s.get (STL_STAT.state n) = 2)

/-- Whether the dispatch source of core `c` is asserted (R422, R424). -/
def State.dispatchLevel (s : State) (c : Nat) : Bool :=
  s.domOpen (0x120 + c) &&
  (match s.readyList c, s.runningOn c with
  | [], _ => false
  | _ :: _, [] => true
  | h :: _, r :: _ => decide (s.get (taskPrio h) < s.get (taskPrio r)))

/-! ### Delivery -/

/-- What an unlisted interrupt line reads as. -/
def lineDefault : Nat → Bool := fun _ => false

/-- The level of a source (R407): of a page source its pending events, of a dispatch source the scheduler's, of a
fabric line its pin while its region is OPEN. -/
def State.sourceLevel (s : State) (n : Nat) : Bool :=
  if sourceReserved n then false else
  match sourcePage n with
  | some pg => s.evtPending pg
  | none =>
    if 792 ≤ n then s.dispatchLevel (n - 792)
    else if 536 ≤ n then s.cc.lines.get lineDefault n && s.domOpen (regionDom (s.firqRegion (n - 536)))
    else false

/-- Whether source `n` is deliverable to core `c` (R409). -/
def State.deliverable (s : State) (c n : Nat) : Bool :=
  s.is (sourceBit IC_PEND.v n) && s.is (sourceBit IC_EN.v n) && !s.is (sourceBit IC_INSV.v n)
    && decide (s.get (IC_SRC_CFG.target n) / 2 ^ c % 2 = 1)

/-- The lowest-numbered source of a class that is deliverable to core `c` (R410). -/
def State.lowestFor (s : State) (c : Nat) (fast : Bool) : Option Nat :=
  (List.range 1023).find? fun n => s.deliverable c n && (s.is (IC_SRC_CFG.cls n) == fast)

/-- Whether an interrupt cause is pending in core `c` (R402, R409). -/
def State.causePending (s : State) (c cause : Nat) : Bool :=
  match cause with
  | 3 => s.is (CC_MSIP.v c)
  | 7 => decide (s.getWide (CC_MTIMECMP.off c 0) 2 ≤ s.schedTime)
  | 9 => (s.lowestFor c false).isSome && s.is (IC_CORE_CFG.smode c)
  | 11 => (s.lowestFor c false).isSome && !s.is (IC_CORE_CFG.smode c)
  | 16 => (s.lowestFor c true).isSome
  | 17 => (s.core c).busErr17
  | _ => false

/-- The number under which an unclaimed source's owner reads (R411). -/
def ownerDefault : Nat → Nat := fun _ => 0

/-- A claimed source is completed: its in-service bit clears, and a level source pends again if its level is asserted
(R411). -/
def State.completeSource (s : State) (n : Nat) : State :=
  let s := s.put (sourceBit IC_INSV.v n) 0
  let s := { s with cc := { s.cc with owner := s.cc.owner.set ownerDefault n 0 } }
  s.when (s.is (IC_SRC_CFG.mode n) && s.sourceLevel n) fun s => s.put (sourceBit IC_PEND.v n) 1

/-- The sources that core `c` holds in service (R410). -/
def State.heldBy (s : State) (c : Nat) : List Nat :=
  (List.range 1023).filter fun n => s.is (sourceBit IC_INSV.v n) && decide (s.cc.owner.get ownerDefault n = c + 1)

end Sys2Proof.Machine
end

