-- ==== Sys2Proof/Machine/FrameOps.lean ====
section
/-! DEFINITION. Configuration frames: their addresses, the two planes, the check code, and the stall that a frame
belongs to (R18, R19, R216 to R220, R239, R243, R251, R268, R269). -/

namespace Sys2Proof.Machine

open Reg

/-! ### Columns and addresses -/

/-- The kinds of column (R18, R218). -/
inductive ColKind where
  | logic | bm | slice | deep | clock | edge
deriving DecidableEq, Repr

/-- The kind of a device-wide column (R18, R19, R217). -/
def colKind (col : Nat) : Option ColKind :=
  if col = 1164 || col = 1165 then some .edge
  else if 1166 ≤ col then none
  else
    let l := col % 97
    if l = 48 then some .deep
    else if l = 47 || l = 49 then some .clock
    else if [11, 23, 35, 61, 73, 85].contains l then some .bm
    else if [5, 17, 29, 41, 55, 67, 79, 91].contains l then some .slice
    else some .logic

/-- The index of a block-memory column or an arithmetic column within its region (R74, R101). -/
def bmColumn (col : Nat) : Nat := ([11, 23, 35, 61, 73, 85].findIdx? (· = col % 97)).getD 0
def sliceColumn (col : Nat) : Nat := ([5, 17, 29, 41, 55, 67, 79, 91].findIdx? (· = col % 97)).getD 0

/-- The columns of local numbers that hold memories and slices, by index. -/
def bmLocal (c : Nat) : Nat := ([11, 23, 35, 61, 73, 85][c]?).getD 0
def sliceLocal (c : Nat) : Nat := ([5, 17, 29, 41, 55, 67, 79, 91][c]?).getD 0

/-- The blocks that a column has under an address type (R218). -/
def frameBlocks (type col : Nat) : Nat :=
  match type, colKind col with
  | 0, some .edge => 2
  | 0, some _ => 1
  | 1, some .bm => 12
  | 2, some .deep => 6
  | _, _ => 0

/-- The minor frames of a block of a column under an address type (R218). -/
def frameMinors (type col block : Nat) : Nat :=
  match type, colKind col with
  | 0, some .logic => 32
  | 0, some .bm => 24
  | 0, some .slice => 20
  | 0, some .deep => 16
  | 0, some .clock => 32
  | 0, some .edge => if block = 0 then 128 else 64
  | 1, some .bm => 9
  | 2, some .deep => 72
  | _, _ => 0

/-- The fields of a frame address (R217). -/
def faType (a : Nat) : Nat := a / 2 ^ 30 % 4
def faRow (a : Nat) : Nat := a / 2 ^ 25 % 32
def faCol (a : Nat) : Nat := a / 2 ^ 14 % 2048
def faBlock (a : Nat) : Nat := a / 2 ^ 10 % 16
def faMinor (a : Nat) : Nat := a / 2 ^ 3 % 128

/-- The frame address of its fields (R217). -/
def frameAddr (type cy col block minor : Nat) : Nat :=
  type * 2 ^ 30 + cy * 2 ^ 25 + col * 2 ^ 14 + block * 2 ^ 10 + minor * 2 ^ 3

/-- Whether an address exists (R218). -/
def frameExists (a : Nat) : Bool :=
  decide (a % 8 = 0) && decide (a < 2 ^ 32) && decide (faRow a < 20)
    && decide (faBlock a < frameBlocks (faType a) (faCol a))
    && decide (faMinor a < frameMinors (faType a) (faCol a) (faBlock a))

/-- The first column at or after `col` that has frames of a type, looking at `n` columns. -/
def columnFrom (type col : Nat) : Nat → Option Nat
  | 0 => none
  | n + 1 => if frameBlocks type col > 0 then some col else columnFrom type (col + 1) n

/-- The next existing address of the same type, in ascending order (R220). -/
def nextFrame (a : Nat) : Option Nat :=
  let type := faType a
  let cy := faRow a
  let col := faCol a
  let block := faBlock a
  if faMinor a + 1 < frameMinors type col block then some (a + 8)
  else if block + 1 < frameBlocks type col then some (frameAddr type cy col (block + 1) 0)
  else match columnFrom type (col + 1) (1166 - (col + 1)) with
    | some c => some (frameAddr type cy c 0 0)
    | none =>
      if cy + 1 < 20 then (columnFrom type 0 1166).map fun c => frameAddr type (cy + 1) c 0 0 else none

/-- The region of a frame address of a fabric column, 12 × CY + CX (R496). -/
def faRegion (a : Nat) : Nat := 12 * faRow a + faCol a / 97

/-! ### Planes and the check code -/

/-- What a frame that nothing has written reads as: cleared (R29). -/
def frameDefault : Nat → Frame := fun _ => 0

/-- The number under which State keeps a frame of a plane. -/
def planeKey (plane : Bool) (a : Nat) : Nat := plane.toNat * 2 ^ 32 + a

/-- A frame of a plane. -/
def State.frame (s : State) (plane : Bool) (a : Nat) : Frame := s.planes.get frameDefault (planeKey plane a)

/-- Storing a frame in a plane. -/
def State.setFrame (s : State) (plane : Bool) (a : Nat) (f : Frame) : State :=
  { s with planes := s.planes.set frameDefault (planeKey plane a) f }

/-- The data bits of segment `k` of a frame (R216). -/
def segData (f : Frame) (k : Nat) : Nat := f.toNat / 2 ^ (480 * k) % 2 ^ 480

/-- The stored check word of segment `k`. -/
def segCheck (f : Frame) (k : Nat) : Nat := f.toNat / 2 ^ (3840 + 32 * k) % 2 ^ 32

/-- The check word computed from segment `k`'s data (R268). -/
def segCrc (f : Frame) (k : Nat) : Nat := crcPoly 32 0x1EDC6F41 480 (segData f k)

/-- The syndrome of a segment (R269). -/
def syndrome (f : Frame) (k : Nat) : Nat := segCheck f k ^^^ segCrc f k

/-- Whether all eight check words of a frame fit (R216). -/
def frameGood (f : Frame) : Bool := (List.range 8).all fun k => syndrome f k = 0

/-- A frame of data bits with its check words made (R268). -/
def frameOf (data : Nat) : Frame :=
  let f : Frame := BitVec.ofNat 4096 (data % 2 ^ 3840)
  (List.range 8).foldl (fun g k => g ||| (BitVec.ofNat 4096 (segCrc f k) <<< (3840 + 32 * k))) f

/-- x^(p+1) mod g(x) from x^p mod g(x). -/
def timesX (v : Nat) : Nat := if v / 2 ^ 31 % 2 = 1 then (v * 2 % 2 ^ 32) ^^^ 0x1EDC6F41 else v * 2

/-- The decoding of a non-zero syndrome (R269): the position in error and whether the next one is too. `v` is
x^p mod g(x), and `n` positions are still to try. -/
def locateError (syn p v : Nat) : Nat → Option (Nat × Bool)
  | 0 => none
  | n + 1 =>
    if syn = v then some (p, false)
    else if n ≠ 0 && syn = v ^^^ timesX v then some (p, true)
    else locateError syn (p + 1) (timesX v) n

/-- What a segment decodes as (R269). -/
inductive SegResult where
  | clean | fixed (p : Nat) (two : Bool) | bad
deriving DecidableEq, Repr

/-- Decoding segment `k` of a frame. -/
def decodeSeg (f : Frame) (k : Nat) : SegResult :=
  let syn := syndrome f k
  if syn = 0 then .clean
  else match locateError syn 0 1 512 with
    | some (p, two) => .fixed p two
    | none => .bad

/-- The frame bit of codeword position `p` of segment `k` (R268). -/
def codewordBit (k p : Nat) : Nat := if p < 32 then 3840 + 32 * k + p else 480 * k + (p - 32)

/-- Inverting a bit of a frame. -/
def flipBit (f : Frame) (b : Nat) : Frame := f ^^^ (1#4096 <<< b)

/-- A frame with segment `k` corrected where it can be. -/
def fixSeg (f : Frame) (k : Nat) : Frame :=
  match decodeSeg f k with
  | .fixed p two =>
    let g := flipBit f (codewordBit k p)
    if two then flipBit g (codewordBit k (p + 1)) else g
  | .clean => f
  | .bad => f

/-- A frame with every segment corrected that can be. -/
def fixFrame (f : Frame) : Frame := (List.range 8).foldl fixSeg f

/-- The segments of a frame that decode as bad, as a mask. -/
def badMask (f : Frame) : Nat :=
  (List.range 8).foldl (fun m k => if decodeSeg f k = .bad then m + 2 ^ k else m) 0

/-- How many segments of a frame are corrected as single and as adjacent double errors. -/
def fixCounts (f : Frame) : Nat × Nat :=
  (List.range 8).foldl (fun c k => match decodeSeg f k with
    | .fixed _ false => (c.1 + 1, c.2)
    | .fixed _ true => (c.1, c.2 + 1)
    | .clean => c
    | .bad => c) (0, 0)

/-- Segment `k` of a frame replaced by that of another. -/
def copySeg (f g : Frame) (k : Nat) : Frame :=
  let mask : Frame := (BitVec.ofNat 4096 (2 ^ 480 - 1) <<< (480 * k)) ||| (BitVec.ofNat 4096 (2 ^ 32 - 1) <<< (3840 + 32 * k))
  (f &&& ~~~mask) ||| (g &&& mask)

/-! ### Stalls that hold a column of a row -/

/-- Whether rectangle `j` of stall `n` is used (R241). -/
def State.rectUsed (s : State) (n j : Nat) : Bool := decide (s.get (STL_RECT.c0 n j) ≤ 1163)

/-- Whether rectangle `j` of stall `n` covers a column of a region row. -/
def State.rectCovers (s : State) (n j col cy : Nat) : Bool :=
  s.rectUsed n j && decide (s.get (STL_RECT.c0 n j) ≤ col) && decide (col ≤ s.get (STL_RECT.c1 n j))
    && decide (s.get (STL_RECT.y0 n j) ≤ cy) && decide (cy ≤ s.get (STL_RECT.y1 n j))

/-- Whether the rectangles of stall `n` cover a column of a region row. -/
def State.stallCovers (s : State) (n col cy : Nat) : Bool := (List.range 4).any fun j => s.rectCovers n j col cy

/-- The state of a stall (R247): 0 UNDEFINED to 8 CLOSED. -/
def State.stallState (s : State) (n : Nat) : Nat := s.get (STL_STAT.state n)

/-- The defined stall that holds a column of a region row. -/
def State.stallAt (s : State) (col cy : Nat) : Option Nat :=
  (List.range 64).find? fun n => s.stallState n ≠ 0 && s.stallCovers n col cy

/-- Whether an address belongs to stall `n` by its rectangles (R243, R251). -/
def State.inStall (s : State) (n a : Nat) : Bool :=
  let col := faCol a
  decide (col ≤ 1163) && decide (colKind col ≠ some .clock) && s.stallCovers n col (faRow a)
    && (match faType a with
      | 0 => true
      | 1 => decide (colKind col = some .bm)
      | 2 => decide (colKind col = some .deep)
      | _ => false)

/-- The stall of a frame (R243): none for a static frame. -/
def State.frameStall (s : State) (a : Nat) : Option Nat :=
  (List.range 64).find? fun n => s.stallState n ≠ 0 && s.inStall n a

/-- The active plane of a stall, or plane 0 of a static frame (R239). -/
def State.activePlane (s : State) (n : Option Nat) : Bool :=
  match n with
  | none => false
  | some k => s.is (STL_STAT.plane k)

/-- What an unlisted stall reads as. -/
def stallDefault : Nat → StallState := fun _ => {}

/-- What a stall keeps beyond its registers, and storing it. -/
def State.stall (s : State) (n : Nat) : StallState := s.stalls.get stallDefault n
def State.setStall (s : State) (n : Nat) (v : StallState) : State :=
  { s with stalls := s.stalls.set stallDefault n v }

/-- Whether a swap of the stall began in RESET, so that the stall stays held (R259). -/
def State.swapFromReset (s : State) (n : Nat) : Bool :=
  match (s.stall n).swap with
  | some w => w.fromReset
  | none => false

/-- Whether a stall's logic is held in stall reset (R247, R259): in CONTENT, RESET and CLEARING, through a swap from
RESET, and in CLOSED, which RESET follows. -/
def State.stallHeld (s : State) (n : Option Nat) : Bool :=
  match n with
  | none => false
  | some k => decide (5 ≤ s.stallState k) || s.swapFromReset k

/-- The next frame of stall `n` from address `a` on, looking at the columns of its rectangles: the first address at or
after `a` that belongs to it (R274). -/
def State.stallFrameFrom (s : State) (n : Nat) (a : Nat) : Option Nat :=
  if frameExists a && s.inStall n a then some a else
  let here := (List.range (1164 - (faCol a + 1))).map (fun i => (faRow a, faCol a + 1 + i))
  let later := (List.range (20 - (faRow a + 1))).flatMap fun r =>
    (List.range 1164).map fun c => (faRow a + 1 + r, c)
  ((here ++ later).find? fun p => s.inStall n (frameAddr 0 p.1 p.2 0 0)).map fun p => frameAddr 0 p.1 p.2 0 0

end Sys2Proof.Machine
end

