-- ==== Sys2Proof/Machine/MemOps.lean ====
section
/-! DEFINITION. Block memories, deep memories and system SRAMs: their words, the SEC-DED code, the remap tables, the
leaky buckets, the repeat-offender lists and the capture of uncorrectable reads (R74 to R100), and the restart of the
fabric's registers (R45, R69, R109). -/

namespace Sys2Proof.Machine

open Reg

/-! ### The code of R83 -/

/-- The number of ones of an 8-bit number. -/
def weight8 (v : Nat) : Nat := (List.range 8).foldl (fun a i => a + v / 2 ^ i % 2) 0

/-- The columns h(0) to h(63) (R83). -/
def secDedColumns : List Nat :=
  (List.range 256).filter (fun v => weight8 v = 3) ++ [0x1F, 0x2F, 0x37, 0x3B, 0x3D, 0x3E, 0x4F, 0x57]

/-- The XOR of the columns of the ones of `d`, lowest bit first. -/
def xorColumns (d : Nat) : List Nat → Nat
  | [] => 0
  | h :: hs => (if d % 2 = 1 then h else 0) ^^^ xorColumns (d / 2) hs

/-- The check byte of 64 data bits (R83). -/
def checkByte (d : Nat) : Nat := xorColumns d secDedColumns

/-- A word of 64 data bits with its check byte. -/
def coded (d : Nat) : BitVec 72 := BitVec.ofNat 72 (d % 2 ^ 64 + checkByte (d % 2 ^ 64) * 2 ^ 64)

/-- What a stored word reads as: no error, corrected at a bit with the data returned, or uncorrectable (R84). -/
inductive WordRead where
  | good | corrected (bitNo : Nat) (data : Nat) | bad (syn : Nat)
deriving DecidableEq, Repr

/-- The data and check bits of a stored word. -/
def wordData (w : BitVec 72) : Nat := w.toNat % 2 ^ 64
def wordCheck (w : BitVec 72) : Nat := w.toNat / 2 ^ 64

/-- Decoding a stored word (R84). -/
def decodeWord (w : BitVec 72) : WordRead :=
  let d := wordData w
  let s := wordCheck w ^^^ checkByte d
  if s = 0 then .good
  else if weight8 s = 1 then .corrected (64 + Nat.log2 s) d
  else match secDedColumns.findIdx? (· = s) with
    | some j => .corrected j (d ^^^ 2 ^ j)
    | none => .bad s

/-- The data that a read of a stored word returns. -/
def readData (w : BitVec 72) : Nat :=
  match decodeWord w with
  | .corrected _ d => d
  | .good => wordData w
  | .bad _ => wordData w

/-! ### Words, spares and remap entries -/

/-- What unlisted words, spares, ports and the rest read as. -/
def wordDefault : Nat → MemWord := fun _ => {}
def spareDefault : Nat → BitVec 72 := fun _ => 0
def memPortDefault : Nat → MemPort := fun _ => {}
def offDefault : Nat → Bool := fun _ => false
def bistDefault : Nat → List (Bool × Nat) := fun _ => []
def staleDefault : Nat → Option (List Byte) := fun _ => none

/-- The number under which State keeps a memory: block memories, then deep memories. -/
def memKey (m : MemRef) : Nat := if m.deep then 17280 + 8 * m.region + m.inst else 72 * m.region + m.inst

/-- How many 64-bit words a memory has (R75, R81). -/
def memDepth (m : MemRef) : Nat := if m.deep then 4096 else 512

/-- A stored word by its place, and storing one. -/
def State.cell (s : State) (k w : Nat) : MemWord := s.mem.words.get wordDefault (k * 4096 + w)
def State.setCell (s : State) (k w : Nat) (v : MemWord) : State :=
  { s with mem := { s.mem with words := s.mem.words.set wordDefault (k * 4096 + w) v } }

/-- A spare word and storing one. -/
def State.spare (s : State) (k : Nat) : BitVec 72 := s.mem.spares.get spareDefault k
def State.setSpare (s : State) (k : Nat) (v : BitVec 72) : State :=
  { s with mem := { s.mem with spares := s.mem.spares.set spareDefault k v } }

/-- The register base of the remap entries of a region's block or deep memories (R99). -/
def rmpBase (deep : Bool) (region : Nat) : Nat := pageRGN region + (if deep then 0x260 else 0x200)

/-- The column group of remap entries that a memory uses: its column, or itself (R91). -/
def rmpGroup (m : MemRef) : Nat := if m.deep then m.inst else m.inst / 12

/-- The remap entry that redirects a word of a memory, the lowest if there are two (R92, R93). -/
def State.remapOf (s : State) (m : MemRef) (w : Nat) : Option Nat :=
  (List.range 4).findSome? fun i =>
    let e := 4 * rmpGroup m + i
    let b := rmpBase m.deep m.region
    if s.is (RMP.valid b e) && s.get (RMP.word b e) = w && (m.deep || s.get (RMP.block b e) = m.inst % 12)
    then some e else none

/-- The number under which a spare is kept. -/
def spareKey (deep : Bool) (region e : Nat) : Nat := (if deep then 5760 else 0) + 24 * region + e

/-- What is stored for a word of a memory, through the remap tables: its 72 bits and whether its spare is poisoned. -/
def State.stored (s : State) (m : MemRef) (w : Nat) : BitVec 72 × Bool :=
  match s.remapOf m w with
  | some e => (s.spare (spareKey m.deep m.region e), s.is (RMP.poison (rmpBase m.deep m.region) e))
  | none => ((s.cell (memKey m) w).cells, false)

/-- Storing a word of a memory through the remap tables; `full` says that the write replaces the whole word, which
clears a spare's poison (R92). -/
def State.storeWord (s : State) (m : MemRef) (w : Nat) (v : BitVec 72) (full : Bool) : State :=
  match s.remapOf m w with
  | some e =>
    let s := s.setSpare (spareKey m.deep m.region e) v
    s.when full fun s => s.put (RMP.poison (rmpBase m.deep m.region) e) 0
  | none => s.setCell (memKey m) w { s.cell (memKey m) w with cells := v }

/-- Setting the valid bit of a deep-memory word, in its three cells (R82). -/
def State.setValid (s : State) (m : MemRef) (w : Nat) (on : Bool) : State :=
  if m.deep then s.setCell (memKey m) w { s.cell (memKey m) w with valid := if on then 7 else 0 } else s

/-- The majority of three cells (R82). -/
def majority (v : BitVec 3) : Bool := decide (2 ≤ weight8 v.toNat)

/-- Clearing every valid bit of a deep memory (R82). -/
def State.clearValid (s : State) (m : MemRef) : State :=
  let lo := memKey m * 4096
  let ws := s.mem.words.mapEntries wordDefault fun a v => if lo ≤ a && a < lo + 4096 then { v with valid := 0 } else v
  { s with mem := { s.mem with words := ws } }

/-! ### Buckets, repeat offenders and captures -/

/-- The register base of a bucket (R99). -/
def bucketBase : Bucket → Nat
  | .bm r => pageRGN r + 0x100
  | .dm r => pageRGN r + 0x140
  | .sram i => (if i.val = 0 then pageSE0 else if i.val = 9 then pageCC0 else pageMPE (i.val - 1)) + 0xF00

/-- The page of a bucket, and the EVT bits of its bucket, its list overflow and its uncorrectable reads (R100). -/
def bucketPage (b : Bucket) : Nat := pageBase (bucketBase b)
def bucketEvt : Bucket → Nat
  | .bm _ => 8 | .dm _ => 9 | .sram _ => 31
def overflowEvt : Bucket → Nat
  | .bm _ => 12 | .dm _ => 12 | .sram _ => 29

/-- Whether a bucket is a system SRAM's, whose list entries have one 19-bit word field (R100). -/
def isSram : Bucket → Bool
  | .bm _ => false | .dm _ => false | .sram _ => true

/-- The bits [26:8] of a list entry that name a word (R100). -/
def rolName (b : Bucket) (inst word : Nat) : Nat := if isSram b then word % 2 ^ 19 else inst * 2 ^ 12 + word % 2 ^ 12

/-- Bits [26:8] of list entry `j`. -/
def rolField (base j : Nat) : Field := ⟨ROL.off base j, 26, 8⟩

/-- A word that keeps failing enters the list with `hits` more hits (R90). -/
def State.offend (s : State) (b : Bucket) (inst word bitNo hits : Nat) : State :=
  let base := bucketBase b
  let name := rolName b inst word
  match (List.range 8).find? fun j => s.is (ROL.valid base j) && s.get (rolField base j) = name with
  | some j => (s.add (ROL.hits base j) hits).put (ROL.bit base j) bitNo
  | none =>
    match (List.range 8).find? fun j => !s.is (ROL.valid base j) with
    | some j => s.setWord (ROL.off base j)
        (BitVec.ofNat 32 (2 ^ 31 + min hits 15 * 2 ^ 27 + name * 2 ^ 8 + bitNo % 2 ^ 7))
    | none => (s.count (ROL_OVF.v base)).event (bucketPage b) (overflowEvt b)

/-- A corrected error of a bucket's memories: it counts, fills the bucket, and enters the list (R89, R90). -/
def State.correctedError (s : State) (b : Bucket) (inst word bitNo : Nat) : State :=
  let base := bucketBase b
  let s := (s.count (CE_TOT.v base)).count (CB_LVL.level base)
  let s := if s.get (CB_CFG.threshold base) < s.get (CB_LVL.level base) then
      (s.put (CB_LVL.level base) 0).event (bucketPage b) (bucketEvt b) else s
  s.offend b inst word bitNo 1

/-- The bucket of a memory. -/
def memBucket (m : MemRef) : Bucket := if m.deep then .dm m.region else .bm m.region

/-- An uncorrectable read at a fabric port (R94, R95): counted, captured if it is the region's first, raised and
logged. -/
def State.uncorrectable (s : State) (m : MemRef) (portB : Bool) (w syn : Nat) : State :=
  let r := m.region.val
  let n := if m.deep then 11 else 10
  let code := if m.deep then 0x0311 else 0x0310
  let i0 := m.deep.toNat * 2 ^ 30 + portB.toNat * 2 ^ 29 + m.inst.val * 2 ^ 22 + w
  let i1 := code * 2 ^ 16 + syn % 256 * 2 ^ 8
  let first := s.get (EVT.v (pageRGN r)) / 2 ^ 10 % 4 = 0
  let s := s.count (UE_TOT.v (bucketBase (memBucket m)))
  let s := s.when first fun s =>
    (s.setWord (RGN_MEM_UE_INFO0.off r) (BitVec.ofNat 32 i0)).setWord (RGN_MEM_UE_INFO1.off r) (BitVec.ofNat 32 i1)
  s.raise (pageRGN r) n CONTAINED code i0 i1

/-! ### Content, clearing and restart -/

/-- The stall that holds a memory. -/
def memCol (m : MemRef) : Nat := 97 * (m.region.val % 12) + (if m.deep then 48 else bmLocal (m.inst.val / 12))
def memRow (m : MemRef) : Nat := m.region.val / 12
def State.memStall (s : State) (m : MemRef) : Option Nat := s.stallAt (memCol m) (memRow m)

/-- The memory of a content frame address (R74). -/
def memOfFrame (a : Nat) : MemRef :=
  { deep := decide (faType a = 2), region := Fin.ofNat 240 (faRegion a),
    inst := Fin.ofNat 72 (if faType a = 2 then faBlock a else 12 * bmColumn (faCol a) + faBlock a) }

/-- Whether a content frame holds zeros where R88 demands them. -/
def contentZeros (a : Nat) (f : Frame) : Bool :=
  let d := f.toNat % 2 ^ 3840
  if faType a = 1 then decide (faMinor a ≠ 8) || decide (d < 2 ^ 2048)
  else if faMinor a = 71 then decide (d = 0) else true

/-- Writing a content frame through the remap tables (R88): words with the code of their data, or valid bits. -/
def State.writeContent (s : State) (a : Nat) (f : Frame) : State :=
  let m := memOfFrame a
  let d := f.toNat % 2 ^ 3840
  if m.deep && 69 ≤ faMinor a then
    if faMinor a = 71 then s else
    let n := if faMinor a = 69 then 3840 else 256
    s.each (List.range n) fun s i => s.setValid m ((faMinor a - 69) * 3840 + i) (d / 2 ^ i % 2 = 1)
  else
    s.each (List.range 60) fun s i =>
      let w := 60 * faMinor a + i
      if w < memDepth m then s.storeWord m w (coded (d / 2 ^ (64 * i) % 2 ^ 64)) true else s

/-- Every word of a memory zero through the remap tables, with check byte 0x00 and every valid bit clear (R97). A word
that a spare replaces keeps what its cells held. -/
def State.zeroMemory (s : State) (m : MemRef) : State :=
  let k := memKey m
  let out := (List.range 4).filterMap fun i =>
    let e := 4 * rmpGroup m + i
    let b := rmpBase m.deep m.region
    let w := s.get (RMP.word b e)
    if s.is (RMP.valid b e) && s.remapOf m w = some e then some (e, w, s.cell k w) else none
  let s := { s with mem := { s.mem with words := s.mem.words.eraseRange (k * 4096) (k * 4096 + 4096) } }
  s.each out fun s o =>
    ((s.setCell k o.2.1 { o.2.2 with valid := 0 }).setSpare (spareKey m.deep m.region o.1) 0).put
      (RMP.poison (rmpBase m.deep m.region) o.1) 0

/-- The memories of a region as an opened power domain leaves them (R96): words, spares and poison zero, valid bits
clear. -/
def State.zeroRegionMemories (s : State) (r : Nat) : State :=
  let k := 72 * r * 4096
  let j := (17280 + 8 * r) * 4096
  let ws := (s.mem.words.eraseRange k (k + 72 * 4096)).eraseRange j (j + 8 * 4096)
  let sp := (s.mem.spares.eraseRange (24 * r) (24 * r + 24)).eraseRange (5760 + 24 * r) (5760 + 24 * r + 24)
  let s := { s with mem := { s.mem with words := ws, spares := sp, bists := s.mem.bists.set bistDefault r [] } }
  s.each (List.range 24) fun s e => (s.put (RMP.poison (rmpBase false r) e) 0).put (RMP.poison (rmpBase true r) e) 0

/-- The bulk clear of R228: every word and every spare zero with check byte 0x00, no spare poisoned, and every valid bit
0. -/
def State.clearMemories (s : State) : State :=
  let sp := s.mem.spares.filter fun e => decide (11520 ≤ e.1)
  let rg := s.regs.mapEntries resetWord fun a w =>
    if pageRGN 0 ≤ a && a < pageRGN 240 && 0x200 ≤ a % 4096 && a % 4096 < 0x2C0 then setBits w 29 29 0 else w
  { s with mem := { s.mem with words := [], spares := sp }, regs := rg }

/-! ### Registers of the fabric -/

/-- The number under which the flip-flops of a logic block are kept: 16 of each, FA of position p at 2p, FB at
2p + 1. -/
def ffKey (col row i : Nat) : Nat := (col * 1200 + row) * 16 + i

/-- The number of a column of a region row. -/
def colKey (col cy : Nat) : Nat := col * 20 + cy

/-- What unlisted fabric state reads as. -/
def ffDefault : Nat → Option Bool := fun _ => none
def epochDefault : Nat → Nat := fun _ => 0
def lateralDefault : Nat → BitVec 18 := fun _ => 0
def sliceDefault : Nat → SliceState := fun _ => {}

/-- A flip-flop: what it was last loaded with since its restart, else its INIT value (R45). -/
def State.ff (s : State) (col row i : Nat) : Bool :=
  match s.fabric.ffs.get ffDefault (ffKey col row i) with
  | some b => b
  | none => Config.ffInit (s.fabric.epochs.get epochDefault (colKey col (row / 60))) (ffKey col row i)

/-- Loading a flip-flop. -/
def State.setFf (s : State) (col row i : Nat) (b : Bool) : State :=
  { s with fabric := { s.fabric with ffs := s.fabric.ffs.set ffDefault (ffKey col row i) (some b) } }

/-- The number under which a group of lateral registers is kept (R69). -/
def lateralKey (col : Nat) (north capture : Bool) : Nat := 4 * col + 2 * north.toNat + capture.toNat

/-- The region row in which a lateral's end lies (R66). -/
def lateralRow (north capture : Bool) : Nat := if north == capture then 10 else 9

/-- The number under which a slice is kept. -/
def sliceKey (region inst : Nat) : Nat := 192 * region + inst

/-- Whether an entry numbered as ffKey numbers it lies in a place. -/
def ffPlace (k : Nat) : Nat × Nat := (k / 16 / 1200, k / 16 % 1200 / 60)

/-- The column and region row of a slice and of a memory port by their numbers. -/
def slicePlace (k : Nat) : Nat × Nat := (97 * (k / 192 % 12) + sliceLocal (k % 192 / 24), k / 192 / 12)
def memPlace (k : Nat) : Nat × Nat :=
  if k < 17280 then (97 * (k / 72 % 12) + bmLocal (k % 72 / 12), k / 72 / 12)
  else (97 * ((k - 17280) / 8 % 12) + 48, (k - 17280) / 8 / 12)

/-- The registers of the fabric restart at every place that `at_` names (R29, R45, R69, R109): flip-flops take INIT, and
lateral, slice and memory-port registers 0. `no` numbers the restart. -/
def State.restartFabric (s : State) (at_ : Nat × Nat → Bool) (places : List (Nat × Nat)) : State :=
  let no := s.freeCount + 1
  let f := s.fabric
  { s with
    freeCount := no
    fabric := { ffs := f.ffs.filter (fun e => !at_ (ffPlace e.1))
                epochs := places.foldl (fun m p => m.set epochDefault (colKey p.1 p.2) no) f.epochs
                laterals := f.laterals.filter (fun e =>
                  !at_ (e.1 / 4, lateralRow (e.1 / 2 % 2 = 1) (e.1 % 2 = 1))) }
    slices := s.slices.mapEntries sliceDefault fun k v =>
      if at_ (slicePlace k) then { gberr := v.gberr, phase := v.phase } else v
    mem := { s.mem with ports := s.mem.ports.filter (fun e => !at_ (memPlace (e.1 / 2))) } }

/-- Every place of the fabric. -/
def allPlaces : List (Nat × Nat) := (List.range 1164).flatMap fun c => (List.range 20).map fun y => (c, y)

/-- The places of a stall: the columns and rows of its rectangles. -/
def State.stallPlaces (s : State) (n : Nat) : List (Nat × Nat) :=
  (List.range 4).flatMap fun j =>
    if !s.rectUsed n j then [] else
    let c0 := s.get (STL_RECT.c0 n j)
    let y0 := s.get (STL_RECT.y0 n j)
    (List.range (s.get (STL_RECT.c1 n j) + 1 - c0)).flatMap fun c =>
      (List.range (s.get (STL_RECT.y1 n j) + 1 - y0)).map fun y => (c0 + c, y0 + y)

/-- The registers of a stall restart (R29, R45, R258). -/
def State.restartStall (s : State) (n : Nat) : State :=
  s.restartFabric (fun p => s.stallCovers n p.1 p.2) (s.stallPlaces n)

end Sys2Proof.Machine
end

