-- ==== Sys2Proof/Machine/StallOps.lean ====
section
/-! DEFINITION. What every block shares about stalls: their quays, the end and the drain of a swap, the stall reset, and
what a closing region, a full load and a change of time do to them (R243 to R262, R266, R277). -/

namespace Sys2Proof.Machine

open Reg

/-! ### Quays and regions of a stall -/

/-- The quays of a stall: those whose attach region has its local column 48 inside a rectangle (R243). -/
def State.stallQuays (s : State) (n : Nat) : List Nat :=
  (List.range 120).filter fun q => s.stallCovers n (97 * (q % 24 / 2) + 48) (quayRow q)

/-- The router ports of a stall's quays. -/
def State.stallPorts (s : State) (n : Nat) : List Nat := (s.stallQuays n).map quayPort

/-- Whether a rectangle of the stall reaches into region `r`. -/
def State.stallInRegion (s : State) (n r : Nat) : Bool :=
  (List.range 97).any fun l => s.stallCovers n (97 * (r % 12) + l) (r / 12)

/-- The regions of a stall. -/
def State.stallRegions (s : State) (n : Nat) : List Nat := (List.range 240).filter fun r => s.stallInRegion n r

/-! ### Results, events and the shadow -/

/-- The result of a swap request (R254). -/
def State.swapResult (s : State) (n code : Nat) : State := s.put (STL_RES.swap n) code

/-- An event of a stall: bit n, or 16 + n where `refused` holds, and its entry with the stall and the result code
(R280). -/
def State.stallEvent (s : State) (n : Nat) (refused : Bool) (cls : BitVec 2) (code result : Nat) : State :=
  s.raise (pageSTL (n / 16)) ((if refused then 16 else 0) + n % 16) cls code (n + result * 2 ^ 8) 0

/-- Whether a refill is under way in some stall. -/
def State.refilling (s : State) : Bool := (List.range 64).any fun n => s.get (STL_STAT.shadow n) = 4

/-- Setting the shadow state (R248); a refill that leaves REFILLING ends. -/
def State.setShadow (s : State) (n v : Nat) : State :=
  let s := s.put (STL_STAT.shadow n) v
  let s := if v = 4 then s else s.setStall n { s.stall n with refill := none }
  s.put SCB_STAT.refill_active s.refilling.toNat

/-- A refill starts at the stall's first frame (R277). -/
def State.startRefill (s : State) (n : Nat) : State :=
  let s := s.setShadow n 4
  s.setStall n { s.stall n with refill := s.stallFrameFrom n 0 }

/-- The swap of a stall ends: nothing is pending. -/
def State.dropSwap (s : State) (n : Nat) : State := s.setStall n { s.stall n with swap := none, done := 0 }

/-- The entries of the dynamic-frame list that `f` names are freed. -/
def State.freeDynamic (s : State) (f : Word × Option Nat × Bool → Bool) : State :=
  { s with cfg := { s.cfg with dynlist := s.cfg.dynlist.filter fun e => !f e } }

/-- The time T of a timed swap (R253). -/
def State.swapTime (s : State) (n : Nat) : Nat := s.getWide (STL_SWAP_T.off n 0) 3 % 2 ^ 80

/-- Units of Timing Hub time in 1 µs (R130). -/
def usUnits : Nat := 65536000

/-! ### Closing and reopening quays -/

/-- A quay port that a drain closed returns to OPEN: requests it had accepted stay accepted (R255, R306). -/
def State.reopenPort (s : State) (p : Nat) : State :=
  if s.portState p = 1 then (s.setPortState p 0).setPort p { s.port p with drain := false } else s.openPort p

/-- The quays of a stall return to OPEN. -/
def State.openStallQuays (s : State) (n : Nat) : State := s.each (s.stallPorts n) fun s p => s.reopenPort p

/-- A quay discards the responses still due to its stall's fabric (R255, R266). -/
def State.disown (s : State) (q : Nat) : State :=
  if h : q < 120 then
    let v := s.ini (.quay ⟨q, h⟩)
    let u := s.quay q
    s.setQuay q { u with owed := u.owed ++ v.out.map Outstanding.tag ++ v.fences.map FenceRun.tag }
  else s

/-- The quays of a stall close by force: what the fabric owes is answered DOMAIN_CLOSED, and what it is owed is discarded
(R255, R266). -/
def State.forceStallQuays (s : State) (n : Nat) : State :=
  s.each (s.stallQuays n) fun s q => ((s.forceTarget (quayPort q)).disown q).setPortState (quayPort q) 2

/-- Whether the drain of a stall is complete: every quay CLOSED, every response in (R255). -/
def State.drainDone (s : State) (n : Nat) : Bool :=
  (s.stallPorts n).all fun p => s.portState p = 2 && s.ownIdle p

/-- The drain of a swap begins (R255, R257). -/
def State.beginDrain (s : State) (n : Nat) (w : Swap) : State :=
  let s := (s.put (STL_STAT.state n) 3).setStall n { s.stall n with swap := some { w with drain := true } }
  s.each (s.stallPorts n) fun s p => s.closePort true p

/-- A swap that ends without a flip: the stall returns to RUNNING with its quays OPEN, or to RESET (R255, R259,
R260). -/
def State.abandonSwap (s : State) (n code : Nat) : State :=
  let back := s.swapFromReset n
  let s := (s.dropSwap n).swapResult n code
  if back then s.put (STL_STAT.state n) 6 else (s.put (STL_STAT.state n) 1).openStallQuays n

/-- A time that becomes INVALID before S − 2 cancels every timed swap (R260). -/
def State.cancelTimedSwaps (s : State) : State :=
  s.each (List.range 64) fun s n => match (s.stall n).swap with
    | none => s
    | some w => if w.timed && !w.frozen then (s.abandonSwap n 6).stallEvent n true CONTAINED 0x0807 6 else s

/-- A forward time step that passes over T: the swap drains at once and flips as an immediate swap, late (R260). -/
def State.passTimedSwaps (s : State) : State :=
  s.each (List.range 64) fun s n => match (s.stall n).swap with
    | none => s
    | some w =>
      if w.timed && !w.frozen && decide (s.swapTime n ≤ s.th.time.toNat) && !w.late then
        let w := { w with late := true }
        if w.drain then s.setStall n { s.stall n with swap := some w } else s.beginDrain n w
      else s

/-- After a backward time step a pending timed swap whose T lies ahead again waits for it (R260). -/
def State.awaitTimedSwaps (s : State) : State :=
  s.each (List.range 64) fun s n => match (s.stall n).swap with
    | none => s
    | some w =>
      if w.timed && !w.frozen && w.late && decide (s.th.time.toNat < s.swapTime n) then
        s.setStall n { s.stall n with swap := some { w with late := false } }
      else s

/-! ### Requests -/

/-- Whether a partial load for the stall is under way (R231, R254). -/
def State.loadingStall (s : State) (n : Nat) : Bool :=
  match s.cfg.load with
  | none => false
  | some l => match l.header with
    | none => false
    | some h => decide (h.type = 2) && decide (h.stall.toNat = n) && decide (l.phase ≠ .header)

/-- Why a swap request is refused (R254), checked in order. -/
def State.swapRefusal (s : State) (n : Nat) (timed swapClk : Bool) : Option Nat :=
  let st := s.stallState n
  let sh := s.get (STL_STAT.shadow n)
  if st = 0 || st = 8 then some 8
  else if !(st = 1 || st = 6) || s.loadingStall n then some 4
  else if !(sh = 2 || sh = 3) then some 3
  else if timed && !s.timeValid then some 5
  else if !swapClk then some 9
  else none

/-- A swap request (R253 to R257, R260): refused with its code, or accepted with its drain at once or at T − lead. `t`
is what an accepted request writes into STL_SWAP_T. -/
def State.requestSwap (s : State) (n : Nat) (timed swapClk : Bool) (t : Option Nat) : State × Bool :=
  match s.swapRefusal n timed swapClk with
  | some code => ((s.swapResult n code).stallEvent n true INFO 0x0803 code, false)
  | none =>
    let s := match t with
      | some v => s.putWide (STL_SWAP_T.off n 0) 3 v
      | none => s
    let w : Swap := { timed := timed, fromReset := decide (s.stallState n = 6) }
    let s := s.swapResult n 12
    let now := s.th.time.toNat
    if !timed then (s.beginDrain n w, true)
    else if s.swapTime n ≤ now then (s.beginDrain n { w with late := true }, true)
    else if s.swapTime n ≤ now + s.get (STL_DRAIN.lead_us n) * usUnits then (s.beginDrain n w, true)
    else ((s.put (STL_STAT.state n) 2).setStall n { s.stall n with swap := some w }, true)

/-! ### Stall reset -/

/-- A stall enters RESET with its quays closed by force (R266): registers restart, and running tasks of its kernel slot
return. -/
def State.holdStall (s : State) (n : Nat) : State :=
  let s := (s.forceStallQuays n).put (STL_STAT.state n) 6
  (s.restartStall n).returnTasks (slotTarget n)

/-- Whether a memory BIST runs in a stall (R97). -/
def State.bistIn (s : State) (n : Nat) : Bool :=
  s.mem.bists.any fun e => e.2.any fun b =>
    s.memStall { deep := b.1, region := Fin.ofNat 240 e.1, inst := Fin.ofNat 72 b.2 } = some n

/-- A stall leaves RESET for RUNNING with its quays OPEN (R266). -/
def State.freeStall (s : State) (n : Nat) : State :=
  let s := (s.put (STL_STAT.state n) 1).put (STL_STAT.ue_held n) 0
  (s.setStall n { s.stall n with releaseWait := false }).openStallQuays n

/-- A release of the stall reset, which waits for a BIST (R97, R266). -/
def State.releaseStall (s : State) (n : Nat) : State :=
  if s.bistIn n then s.setStall n { s.stall n with releaseWait := true } else s.freeStall n

/-! ### Closed regions and removal -/

/-- A stall enters CLOSED (R249). -/
def State.closeStall (s : State) (n : Nat) : State :=
  let s := s.when (s.stall n).swap.isSome fun s => s.swapResult n 8
  let s := ((s.dropSwap n).setShadow n 0).put (STL_STAT.active_valid n) 0
  let s := s.setStall n { s.stall n with releaseWait := false }
  let s := (s.put (STL_STAT.state n) 8).put (STL_STAT.content_pending n) 0
  let s := s.each (s.stallPorts n) fun s p => s.closePort false p
  s.returnTasks (slotTarget n)

/-- The defined stalls that reach into region `r`. -/
def State.stallsOf (s : State) (r : Nat) : List Nat :=
  (List.range 64).filter fun n => s.stallState n ≠ 0 && s.stallInRegion n r

/-- A region leaves OPEN: its stalls enter CLOSED (R249). -/
def State.closeStallsOf (s : State) (r : Nat) : State :=
  s.each (s.stallsOf r) fun s n => s.when (s.stallState n ≠ 8) fun s => s.closeStall n

/-- A region is OPEN again: a stall whose regions all are enters RESET (R249). -/
def State.reviveStallsOf (s : State) (r : Nat) : State :=
  s.each (s.stallsOf r) fun s n =>
    s.when (s.stallState n = 8 && (s.stallRegions n).all fun q => s.domOpen (regionDom q)) fun s =>
      (s.put (STL_STAT.state n) 6).restartStall n

/-- The scrubber begins a new pass at ordinal 0 (R270). -/
def State.startScrub (s : State) : State :=
  let s := { s with scrub := { started := s.now } }
  (s.put SCB_STAT.running 1).put SCB_STAT.ordinal 0

/-- Scrubbing stops (R270). -/
def State.stopScrub (s : State) : State :=
  let s := { s with scrub := {} }
  ((s.put SCB_STAT.running 0).put SCB_STAT.ordinal 0).put SCB_STAT.queue 0

/-- Every stall UNDEFINED and every STL register at its reset value (R246). -/
def State.undefineAll (s : State) : State :=
  let s := s.each (List.range 64) fun s n => s.when (s.stallState n ≠ 0) fun s => s.returnTasks (slotTarget n)
  let s := { s with stalls := [], regs := s.regs.eraseRange (pageSTL 0) (pageSTL 4) }
  s.put SCB_STAT.refill_active 0

end Sys2Proof.Machine
end

