-- ==== Sys2Proof/Machine/Bist.lean ====
section
/-! DEFINITION. Memory BIST (R97, R99). -/

namespace Sys2Proof.Machine

open Reg

/-- The memory that BIST registers name. -/
def bistRef (r : Nat) (deep : Bool) (inst : Nat) : MemRef := { deep := deep, region := Fin.ofNat 240 r, inst := Fin.ofNat 72 inst }

/-- Whether a region has a memory of a kind and number (R74). -/
def memExists (deep : Bool) (inst : Nat) : Bool := if deep then decide (inst < 6) else decide (inst < 72)

/-- What the write of BistStart does. -/
def State.bistWrite (s : State) (region : Fin 240) (v : Word) : State :=
  let r := region.val
  let s := s.write (RGN_MEM_BIST.off r) v
  if !bit v 31 then s else
  let deep := s.is (RGN_MEM_BIST.kind r)
  let inst := s.get (RGN_MEM_BIST.inst r)
  let st := s.memStall (bistRef r deep inst)
  let free := match st with
    | some n => s.stallHeld (some n) || !s.is (STL_STAT.active_valid n)
    | none => false
  if !(memExists deep inst && free) then (s.put (RGN_MEM_BIST.answer r) 3) else
  let s := ((s.put (RGN_MEM_BIST.answer r) 1).put (RGN_MEM_BIST.done r) 0).put (RGN_MEM_BIST.fail r) 0
  let runs := (s.mem.bists.get bistDefault r).filter fun e => e ≠ (deep, inst)
  { s with mem := { s.mem with bists := s.mem.bists.set bistDefault r (runs ++ [(deep, inst)]) } }

/-- BIST_START (R97): REFUSED unless the memory lies in a stall that is held in reset or holds no valid active plane. One
BIST of a region runs beside others; done and fail are those of the latest. -/
def execBistStart (region : Fin 240) (v : Word) (s : State) : Out := .next (s.bistWrite region v)

/-- BIST_COMPLETE (R97): the oldest BIST of the region ends. Its failing words enter the list with hit count 15; which bit
the list names is open. A stall reset release that waited takes effect. -/
def execBistComplete (region : Fin 240) (failing : List (BitVec 12)) (s : State) : Out :=
  let r := region.val
  match s.mem.bists.get bistDefault r with
  | [] => .next s
  | (deep, inst) :: rest =>
    let m := bistRef r deep inst
    let s := s.zeroMemory m
    let s := s.each failing fun s w =>
      let f := s.fresh 7
      f.2.offend (memBucket m) inst (w.toNat % memDepth m) f.1.toNat 15
    let s := (s.put (RGN_MEM_BIST.done r) 1).putB (RGN_MEM_BIST.fail r) (!failing.isEmpty)
    let s := { s with mem := { s.mem with bists := s.mem.bists.set bistDefault r rest } }
    match s.memStall m with
    | some n => .next (s.when ((s.stall n).releaseWait && s.stallState n = 6 && !s.bistIn n) fun s => s.freeStall n)
    | none => .next s

end Sys2Proof.Machine
end

