-- ==== Sys2Proof/Machine/ClockOps.lean ====
section
/-! DEFINITION. The auto-trim of the internal oscillator and what its sources' READY flags do to it (R181, R182), and the tile PLLs
and regional tracks (R190 to R197). -/

namespace Sys2Proof.Machine

open Reg

/-- The trim sources of R181 and their READY flags: 1 crystal, 2 REFCLK, 3 timing lane marks. -/
def State.trimReady (s : State) (x : Nat) : Bool :=
  match x with
  | 1 => s.is CLK_SRC_STAT.xtal_ready
  | 2 => s.is CLK_SRC_STAT.ref_ready
  | 3 => s.is CLK_SRC_STAT.xtl_ready
  | _ => false

/-- The trim source that CLK_TRIM_CFG.src selects now (R181); 0 is none. -/
def State.trimPick (s : State) : Nat :=
  match s.get CLK_TRIM_CFG.src with
  | 0 => ([1, 2, 3].find? fun x => s.trimReady x).getD 0
  | x => if x ≤ 3 && s.trimReady x then x else 0

/-- A binary search starts against a source (R182). -/
def State.startSearch (s : State) (x : Nat) : State :=
  let s := { s with clk := { s.clk with searching := true } }
  (s.put CLK_TRIM_STAT.source x).put CLK_TRIM_STAT.converged 0

/-- A source has become READY: a search starts if it is now the trim source (R182). -/
def State.trimGained (s : State) (x : Nat) : State := s.when (s.trimPick = x) fun s => s.startSearch x

/-- The code is frozen and the trim-held event raised (R182). -/
def State.holdTrim (s : State) : State :=
  let s := { s with clk := { s.clk with searching := false } }
  (s.put CLK_TRIM_STAT.source 0).raise pageCLK 6 INFO 0x0607 0 0

/-- A source has left READY (R182): under AUTO the next READY source is tracked without a new search, else the code is
held. -/
def State.trimLost (s : State) (x : Nat) : State :=
  if s.get CLK_TRIM_STAT.source ≠ x then s
  else if s.get CLK_TRIM_CFG.src = 0 && s.trimPick ≠ 0 then s.put CLK_TRIM_STAT.source s.trimPick
  else s.holdTrim

/-- A write of CLK_TRIM_CFG (R181): the source it selects takes over if it is READY; reserved values are HOLD. -/
def State.writeTrimCfg (s : State) (v : Word) : State :=
  let s := s.write CLK_TRIM_CFG.off v
  let s := s.when (4 < s.get CLK_TRIM_CFG.src) fun s => s.put CLK_TRIM_CFG.src 4
  let x := s.trimPick
  if x = s.get CLK_TRIM_STAT.source then s
  else if x ≠ 0 then s.startSearch x
  else s.holdTrim

/-- Whether the timing lane marks are READY: an UP lane is ACTIVE (R173). -/
def State.showMarks (s : State) : State :=
  let on := (List.range 4).any fun n => s.get (TH_TL_CFG.role n) = 1 && s.get (TH_TL_STAT.link n) = 2
  if on == s.is CLK_SRC_STAT.xtl_ready then s
  else if on then (s.put CLK_SRC_STAT.xtl_ready 1).trimGained 3
  else (s.put CLK_SRC_STAT.xtl_ready 0).trimLost 3

/-! ### Tile PLLs and regional tracks (R190 to R197) -/

/-- What an unlisted tile PLL and regional track read as. -/
def pllDefault : Nat → CmtPll := fun _ => {}
def trackDefault : Nat → Track := fun _ => {}

/-- A tile PLL by its number, and storing it. -/
def State.pll (s : State) (t f : Nat) : CmtPll := s.clk.plls.get pllDefault (2 * t + f)
def State.setPll (s : State) (t f : Nat) (v : CmtPll) : State :=
  { s with clk := { s.clk with plls := s.clk.plls.set pllDefault (2 * t + f) v } }

/-- The registers that an apply loads. -/
def State.pllSetting (s : State) (t f : Nat) : List Word :=
  [s.word (CMT_CTRL.off t f), s.word (CMT_DIV.off t f), s.word (CMT_FRAC.off t f)]
    ++ (List.range 7).map fun j => s.word (CMT_OUT.off t f j)

/-- Whether in_sel and quad name no input (R191): 10 to 15; a quad of 12 to 15; the third and fourth clock-capable input of
a wide-range bank, which serves the tiles of rows CY 0 to 3 (R24). -/
def State.pllNone (s : State) (t f : Nat) : Bool :=
  let x := s.get (CMT_CTRL.in_sel t f)
  10 ≤ x || (x = 6 && 12 ≤ s.get (CMT_CTRL.quad t f)) || (4 ≤ x && x ≤ 5 && t < 8)

/-- The PLL stops and relocks at a setting (R194, R200): its outputs stop low and LK is 0. An in_sel of none stops it. -/
def State.relock (s : State) (t f : Nat) (setting : List Word) (runs : Bool) : State :=
  let s := ((s.put (CMT_STAT.locked t f) 0).putB (CMT_STAT.input t f) runs)
  s.setPll t f { s.pll t f with loaded := setting, relocking := runs, busy := none }

/-- A regional track, and storing it. -/
def State.track (s : State) (r t : Nat) : Track := s.clk.tracks.get trackDefault (24 * r + t)
def State.setTrack (s : State) (r t : Nat) (v : Track) : State :=
  { s with clk := { s.clk with tracks := s.clk.tracks.set trackDefault (24 * r + t) v } }

/-- The bit of a track in RGN_CLK_ACT and in RGN_CLK_GATE. -/
def trackAct (r t : Nat) : Field := ⟨RGN_CLK_ACT.off r, t, t⟩
def trackForce (r t : Nat) : Field := ⟨RGN_CLK_GATE.off r, t, t⟩

/-- A track that has edges is shown active (R197, R198). -/
def State.showTrack (s : State) (r t : Nat) : State :=
  let v := s.track r t
  s.when (v.gate && v.running && !s.is (trackForce r t) && s.domOpen (regionDom r)) fun s => s.put (trackAct r t) 1

end Sys2Proof.Machine
end

