-- ==== Sys2Proof/Machine/PairOps.lean ====
section
/-! DEFINITION. What the pair block holds back in a standby or FENCED device, and how a primary mirrors its changes
(R455 to R461, R467): every row whose effect can change the mirrored set is wrapped in `mirrored`. -/

namespace Sys2Proof.Machine

open Reg

/-- Whether the device is FENCED (R467). -/
def State.fenced (s : State) : Bool := s.get PAIR_STAT.state = 6

/-- Whether the device is a standby that mirrors its partner (R459): in SYNCING, SYNC, UNSYNCED or TAKEOVER. -/
def State.standby (s : State) : Bool :=
  !s.is PAIR_STAT.role && decide (1 ≤ s.get PAIR_STAT.state) && decide (s.get PAIR_STAT.state ≤ 4)

/-- Whether the device acts: neither a standby nor FENCED (R459, R467). -/
def State.acts (s : State) : Bool := !s.standby && !s.fenced

/-- Whether the device is a primary that mirrors to its partner (R457, R458): in SYNCING or SYNC. -/
def State.mirrors (s : State) : Bool :=
  s.is PAIR_STAT.role && (decide (s.get PAIR_STAT.state = 1) || decide (s.get PAIR_STAT.state = 2))

/-- Whether a context lies in the mirrored ranges (R458). -/
def State.mirroredCtx (s : State) (n : Nat) : Bool :=
  (List.range 4).any fun j =>
    let a := s.get (PAIR_SC_RANGE.first j)
    decide (a ≤ n) && decide (n < a + s.get (PAIR_SC_RANGE.count j))

/-- Whether the standby's own writes of a context's entry and doorbell are ignored (R459). -/
def State.ctxHeld (s : State) (n : Nat) : Bool := s.standby && s.mirroredCtx n

/-- Whether PAIR_MEM_MAP marks a memory, by its number: block memories by column, then deep memories (R470). -/
def State.marked (s : State) (k : Nat) : Bool :=
  if k < 17280 then s.get (PAIR_MEM_MAP.bm (k / 72)) / 2 ^ (k % 72 / 12) % 2 = 1
  else s.get (PAIR_MEM_MAP.dm ((k - 17280) / 8)) / 2 ^ ((k - 17280) % 8) % 2 = 1

/-- The memory of a number. -/
def memRefOf (k : Nat) : MemRef :=
  if k < 17280 then ⟨false, Fin.ofNat 240 (k / 72), Fin.ofNat 72 (k % 72)⟩
  else ⟨true, Fin.ofNat 240 ((k - 17280) / 8), Fin.ofNat 72 ((k - 17280) % 8)⟩

/-- Whether a sluice is named by a mirrored context (R458). -/
def State.mirroredSluice (s : State) (j : Nat) : Bool :=
  s.regs.any fun e : Nat × Word =>
    let o := e.1 - 0x1000000
    decide (0x1000000 ≤ e.1) && decide (e.1 < 0x1400000) && decide (o % 64 = 0)
      && s.mirroredCtx (o / 64) && decide (s.get (SE_SC_CTRL.irq_mode (o / 64)) = 1)
      && decide (s.get (SE_SC_CTRL.sluice (o / 64)) = j)

/-- Whether a register of the Timing Hub is mirrored (R458): TH_CTRL, TH_NODE, the sequencers' registers and tables and
the SYSREF generators' registers. -/
def hubMirrored (off : Nat) : Bool :=
  off = TH_CTRL.off || off = TH_NODE.off || (0x23040 ≤ off && off < 0x23300) || (0x24400 ≤ off && off < 0x24480)
    || (0x1400000 ≤ off && off < 0x1440000)

/-- The change that a register's new value is to the standby, if the register is mirrored (R458). -/
def State.regChange (s : State) (off : Nat) (v : Word) : Option Change :=
  if 0x1000000 ≤ off && off < 0x1400000 then
    let n := (off - 0x1000000) / 64
    if s.mirroredCtx n then some (.contextWord (BitVec.ofNat 16 n) (Fin.ofNat 16 (off / 4)) v) else none
  else if 0x1440000 ≤ off && off < 0x1460000 then
    some (.task (Fin.ofNat 4096 ((off - 0x1440000) / 32)) (Fin.ofNat 8 (off / 4)) v)
  else if 0x220000 ≤ off && off < 0x240000 && off % 4096 ≥ 0x800 && off % 16 = 8 then
    let j := (off - 0x220000) / 4096 * 128 + (off % 4096 - 0x800) / 16
    if s.mirroredSluice j then some (.sluice (Fin.ofNat 4096 j) (BitVec.ofNat 16 (v.toNat / 65536)) (bit v 15)) else none
  else if hubMirrored off then some (.hubReg (BitVec.ofNat 26 off) v)
  else none

/-- The bytes of the mirror link that a change takes, by its kind. -/
def changeBytes : Change → Nat
  | .contextWord _ _ _ => Config.mirrorBytes 0
  | .record _ _ => Config.mirrorBytes 1
  | .sluice _ _ _ => Config.mirrorBytes 2
  | .memory _ _ _ => Config.mirrorBytes 3
  | .clrv _ => Config.mirrorBytes 4
  | .task _ _ _ => Config.mirrorBytes 5
  | .hubReg _ _ => Config.mirrorBytes 6
  | .seqTimer _ _ => Config.mirrorBytes 7
  | .outQueue _ _ => Config.mirrorBytes 8

/-- The bytes in the mirror queue. -/
def State.mirrorDepth (s : State) : Nat := s.pair.queue.foldl (fun a e => a + e.2.2) 0

/-- PAIR_LAG shows the depth of the queue in units of 10 ns at 25.76 GB/s (R470). -/
def State.showLag (s : State) : State := s.put PAIR_LAG.v (min (s.mirrorDepth * 10 / 2576) 65535)

/-- A pair event (R471): the state before it and the misses counted. -/
def State.pairEvent (s : State) (n : Nat) (cls : BitVec 2) (code : Nat) : State :=
  s.raise pagePAIR n cls code (s.get PAIR_STAT.state) s.pair.misses

/-- The pair's state changes, which is an alert of the Towpath (R525). -/
def State.setPairState (s : State) (v : Nat) : State :=
  (s.put PAIR_STAT.state v).when (decide (s.get PAIR_STAT.state ≠ v)) fun s => s.alert 5

/-- The mirror queue takes a change, or overflows: the pair is UNSYNCED and the primary stops mirroring (R460). -/
def State.mirror (s : State) (c : Change) : State :=
  if !s.mirrors then s else
  let n := changeBytes c
  if s.mirrorDepth + n ≤ 51520 then
    ({ s with pair := { s.pair with
      queue := s.pair.queue ++ [(s.pair.nextPos, c, n)], nextPos := s.pair.nextPos + 1 } }).showLag
  else
    let s := (s.count PAIR_OVF.v).pairEvent 3 CONTAINED 0x0F04
    (({ s with pair := { s.pair with queue := [], copying := false } }).setPairState 3).showLag

/-- The entries of a map that another does not hold alike. -/
def newEntries {α : Type} [DecidableEq α] (d : Nat → α) (old new : KMap α) : List (Nat × α) :=
  (new.filter fun e => !(old.contains e)) ++
    ((old.filter fun e => !(new.any fun f => f.1 = e.1)).map fun e => (e.1, d e.1))

/-- What an unlisted sequencer and output read as. -/
def seqStateDefault : Nat → ThSeq := fun _ => {}
def outStateDefault : Nat → ThOut := fun _ => {}

/-- What an unlisted memory word reads as. -/
def cellDefault : Nat → MemWord := fun _ => {}

/-- The changes between two states that the primary sends (R458). -/
def State.changesFrom (s t : State) : List Change :=
  let regs := (newEntries resetWord s.regs t.regs).filterMap fun e => t.regChange e.1 e.2
  let mems := (newEntries cellDefault s.mem.words t.mem.words).filterMap fun e =>
    let k := e.1 / 4096
    if !t.marked k then none
    else if e.2.cells = (s.mem.words.get cellDefault e.1).cells && e.2.valid = 0 then some (Change.clrv (memRefOf k))
    else some (Change.memory (memRefOf k) (BitVec.ofNat 12 e.1) e.2.cells)
  let seqs := (newEntries seqStateDefault s.th.seqs t.th.seqs).map fun e =>
    Change.seqTimer (Fin.ofNat 16 e.1) e.2.timer
  let outs := (newEntries outStateDefault s.th.outs t.th.outs).map fun e =>
    Change.outQueue (Fin.ofNat 28 e.1) (e.2.queue.map fun a => (a.t, a.act, a.width))
  regs ++ mems ++ seqs ++ outs

/-- What the primary does with the changes of a command (R458, R460): they join the mirror queue in order. -/
def State.mirrorFrom (s t : State) : State :=
  if !t.mirrors then t else t.each (s.changesFrom t) State.mirror

/-- A command whose changes are mirrored. -/
def mirrored (f : State → Out) (s : State) : Out :=
  match f s with
  | .next t => .next (s.mirrorFrom t)
  | o => o

end Sys2Proof.Machine
end

