-- ==== Sys2Proof/Machine/ThOps.lean ====
section
/-! DEFINITION. What the blocks share of the Timing Hub: its states, steps of time, trigger outputs, the sequencers and
trigger messages (R130 to R142, R146, R156 to R162). -/

namespace Sys2Proof.Machine

open Reg

/-! ### Lanes, channels, outputs and sequencers -/

/-- What unlisted parts read as. -/
def laneDefault : Nat → ThLane := fun _ => {}
def chanDefault : Nat → ThChan := fun _ => {}
def outDefault : Nat → ThOut := fun _ => {}
def gridDefault : Nat → SrGrid := fun _ => {}
def seqStDefault : Nat → ThSeq := fun _ => {}
def tapDefault : Nat → ThTap := fun _ => {}

/-- A timing lane, and storing it. -/
def State.tl (s : State) (n : Nat) : ThLane := s.th.lanes.get laneDefault n
def State.setTl (s : State) (n : Nat) (v : ThLane) : State := { s with th := { s.th with lanes := s.th.lanes.set laneDefault n v } }

/-- An input channel, and storing it. -/
def State.chan (s : State) (c : Nat) : ThChan := s.th.chans.get chanDefault c
def State.setChan (s : State) (c : Nat) (v : ThChan) : State :=
  { s with th := { s.th with chans := s.th.chans.set chanDefault c v } }

/-- An output, and storing it: TH_OUT_STAT shows the depth of its queue. -/
def State.out (s : State) (o : Nat) : ThOut := s.th.outs.get outDefault o
def State.setOut (s : State) (o : Nat) (v : ThOut) : State :=
  ({ s with th := { s.th with outs := s.th.outs.set outDefault o v } }).put (TH_OUT_STAT.depth o) v.queue.length

/-- A SYSREF grid, and storing it. -/
def State.grid (s : State) (n : Nat) : SrGrid := s.th.sysref.get gridDefault n
def State.setGrid (s : State) (n : Nat) (v : SrGrid) : State :=
  { s with th := { s.th with sysref := s.th.sysref.set gridDefault n v } }

/-- A sequencer, and storing it. -/
def State.seqSt (s : State) (q : Nat) : ThSeq := s.th.seqs.get seqStDefault q
def State.setSeq (s : State) (q : Nat) (v : ThSeq) : State := { s with th := { s.th with seqs := s.th.seqs.set seqStDefault q v } }

/-- A time tap, and storing it. -/
def State.tap (s : State) (r : Nat) : ThTap := s.th.taps.get tapDefault r
def State.setTap (s : State) (r : Nat) (v : ThTap) : State := { s with th := { s.th with taps := s.th.taps.set tapDefault r v } }

/-- The time of this moment as a number. -/
def State.timeNow (s : State) : Nat := s.th.time.toNat

/-- Units in 1 ns (R130). -/
def nsUnits : Nat := 65536

/-! ### Outputs (R156, R157) -/

/-- Whether an output's driver is enabled: TH_OUT_CFG.enable, and no line fault has switched a TRIG or STAR_OUT driver
off, no idle check runs on the line, and the device is no standby and not FENCED (R157, R163, R164, R459, R467). -/
def State.driverOn (s : State) (o : Nat) : Bool :=
  s.acts && s.is (TH_OUT_CFG.enable o) && !(decide (o < 24) && s.is (TH_IN_STAT.drv_off o))
    && !(decide (o < 16) && (s.chan o).checking)

/-- The time of an edge as placed, in units: the 3.125 ps step nearest its time, ties going up, advanced by TH_OUT_DLY
(R156). A step is 1024 ÷ 5 units. -/
def State.placed (s : State) (o t : Nat) : Nat :=
  let k := (5 * t + 512) / 1024
  (((k * 1024 : Nat) : Int) - 5 * s.getS (TH_OUT_DLY.v o)).toNat / 5

/-- An action counted LATE (R157). -/
def State.lateOut (s : State) (o : Nat) : State := (s.count (TH_OUT_STAT.late o)).raise pageTH4 0 INFO 0x0531 o 0

/-- An edge of an output drives a level. -/
def State.driveOut (s : State) (o : Nat) (level : Bool) (at_ : Nat) : State :=
  let v := s.out o
  if v.level = level then s else s.setOut o { v with level := level, lastEdge := some (BitVec.ofNat 80 at_) }

/-- An action acts at a time, or is consumed with no effect while the driver is disabled (R156, R157). -/
def State.actOut (s : State) (o : Nat) (a : OutAct) (t : Nat) (late : Bool) : State :=
  let s := s.when late fun s => s.lateOut o
  if !s.driverOn o then s else
  let p := s.placed o t
  let v := s.out o
  let soon := match v.lastEdge with
    | some e => decide (p < e.toNat + 81920)
    | none => false
  let level := match a.act.toNat with
    | 1 => true | 2 => false | 3 => true | 4 => !v.level | _ => v.level
  let moves := level != v.level
  let p' := match v.lastEdge with
    | some e => if soon && moves then e.toNat + 81920 else p
    | none => p
  let s := s.when (soon && moves && !late) fun s => s.lateOut o
  let s := s.driveOut o level p'
  if a.act = 3 then s.setOut o { s.out o with pulseEnd := some (BitVec.ofNat 80 (t + a.width.toNat * nsUnits)) } else s

/-- A queue with an action in its place: in time order, equal times in order of arrival (R157). -/
def queueAct (a : OutAct) : List OutAct → List OutAct
  | [] => [a]
  | b :: bs => if a.t < b.t then a :: b :: bs else b :: queueAct a bs

/-- An action arrives at an output (R156, R157): a SYSREF output takes it only while its generator is OFF; less than
40 ns before its time it is carried out at once, late; a full queue refuses it. -/
def State.requestOut (s : State) (o : Nat) (a : OutAct) : State :=
  if 28 ≤ o || a.act = 0 || 4 < a.act.toNat then s
  else if 24 ≤ o && ((s.grid (o - 24)).run.mode ≠ 0 || (s.grid (o - 24)).coming.isSome) then s
  else if a.t.toNat < s.timeNow + 40 * nsUnits then s.actOut o a s.timeNow true
  else if 16 ≤ (s.out o).queue.length then s.raise pageTH4 1 CONTAINED 0x0532 o 0
  else s.setOut o { s.out o with queue := queueAct a (s.out o).queue }

/-! ### Steps of time (R132) -/

/-- What a forward step does to an output: actions whose time it passed over act at once, late, and so does a pending
pulse end. -/
def State.passOut (s : State) (o : Nat) : State :=
  let v := s.out o
  let due := v.queue.filter fun a => a.t ≤ s.th.time
  let s := s.setOut o { v with queue := v.queue.filter fun a => !decide (a.t ≤ s.th.time) }
  let s := s.each due fun s a => s.actOut o a s.timeNow true
  match (s.out o).pulseEnd with
  | some e =>
    if e ≤ s.th.time then
      let s := (s.when (s.driverOn o) fun s => s.driveOut o false s.timeNow).lateOut o
      s.setOut o { s.out o with pulseEnd := none }
    else s
  | none => s

/-- The first index of a grid whose rising edge is at or after a time; a GAPPED grid starts at 0 (R165). -/
def SrRun.firstAt (g : SrRun) (t : Nat) : Int :=
  if g.period = 0 then 0 else
  let back : Int := (g.start : Int) - t
  let k := 0 - back / (g.period : Int)
  if g.mode = 2 then max 0 k else k

/-- Whether a grid has an edge left: it is running, and a GAPPED one has not placed its last (R165). -/
def SrRun.live (g : SrRun) : Bool := g.mode ≠ 0 && !(g.mode = 2 && decide ((g.count : Int) ≤ g.next))

/-- The time of a grid's next rising edge (R165). -/
def SrRun.riseAt (g : SrRun) : Nat := ((g.start : Int) + g.next * (g.period : Int)).toNat

/-- What a forward step does to a SYSREF grid: the edges that it passed over are not placed and count once as late, and
a pulse already high ends. -/
def State.passGrid (s : State) (n : Nat) : State :=
  let g := s.grid n
  let skip (r : SrRun) : SrRun := { r with next := max r.next (r.firstAt s.timeNow) }
  let late (r : SrRun) : Bool := r.live && decide (r.riseAt < s.timeNow)
  let comes := match g.coming with
    | some c => late c
    | none => false
  let s := s.when (late g.run || comes) fun s => s.count (TH_OUT_STAT.late (24 + n))
  let g := match g.coming with
    | some c => if comes then { g with run := skip c, coming := none } else { g with run := skip g.run }
    | none => { g with run := skip g.run }
  match g.fallAt with
  | some f =>
    if f ≤ s.timeNow then (s.driveOut (24 + n) false s.timeNow).setGrid n { g with fallAt := none } else s.setGrid n g
  | none => s.setGrid n g

/-- Where an event stands among events of equal stamp (R160): input channels, FEV, ARM, TIMER. -/
def eventRank (src : Nat) : Nat := if src = 43 then 40 else if src = 40 then 41 else src

/-- An event in its place among those held; an own XTL message comes first (R160). -/
def holdEvent (e : SeqEvent) : List SeqEvent → List SeqEvent
  | [] => [e]
  | b :: bs =>
    if decide (64 ≤ b.src) || decide (b.t < e.t) || (decide (b.t = e.t) && decide (eventRank b.src ≤ eventRank e.src))
    then b :: holdEvent e bs else e :: b :: bs

/-- A sequencer holds an event. -/
def State.giveEvent (s : State) (q : Nat) (e : SeqEvent) : State :=
  let v := s.seqSt q
  if 64 ≤ e.src then s.setSeq q { v with held := v.held.takeWhile (fun b => decide (64 ≤ b.src)) ++ e :: v.held.dropWhile (fun b => decide (64 ≤ b.src)) }
  else s.setSeq q { v with held := holdEvent e v.held }

/-- Every sequencer holds an event. -/
def State.giveAll (s : State) (e : SeqEvent) : State := s.each (List.range 16) fun s q => s.giveEvent q e

/-- What a forward step does to a sequencer's armed timer: it expires at once, late. -/
def State.passTimer (s : State) (q : Nat) : State :=
  let v := s.seqSt q
  match v.timer with
  | some t =>
    if t ≤ s.th.time then
      let s := s.setSeq q { v with timer := none, held := holdEvent ⟨t, 40, true⟩ v.held }
      s.count (TH_SEQ_STAT.late q)
    else s
  | none => s

/-- The time of the start-of-frame mark of frame `f` within its superframe of 4 µs (R138): 998.4 ns apart. -/
def markOffset (f : Nat) : Nat := f * 654311424 / 10

/-- The number of the frame whose mark is the first at or after a time (R138). -/
def markNumber (t : Time) : BitVec 2 :=
  let r := t.toNat % (4000 * nsUnits)
  if r = 0 then 0 else if r ≤ markOffset 1 then 1 else if r ≤ markOffset 2 then 2 else if r ≤ markOffset 3 then 3 else 0

/-- A step of time by `d` units (R132): sequencers compare late events anew, and a forward step lets what it passed over
act at once. -/
def State.stepTime (s : State) (d : Int) : State :=
  let before := s.schedTime
  let time := s.th.time + BitVec.ofInt 80 d
  let s := { s with th := { s.th with
    time := time, slew := 0, slewAcc := 0
    seqs := s.th.seqs.mapEntries seqStDefault fun _ v => { v with last := none }
    lanes := s.th.lanes.mapEntries laneDefault fun _ v => { v with marks := [], frameNo := markNumber time } } }
  if 0 < d then
    let s := { s with ts := { s.ts with stepped := some (before, s.schedTime) } }
    let s := s.each (List.range 28) fun s o => s.passOut o
    let s := s.each (List.range 4) fun s n => s.passGrid n
    (s.each (List.range 16) fun s q => s.passTimer q).passTimedSwaps
  else s.awaitTimedSwaps

/-! ### States (R133, R146) -/

/-- The Timing Hub changes state (R133, R172): an INVALID time cancels timed swaps and stops the scheduler's use of
it. -/
def State.setThState (s : State) (v : Nat) : State :=
  if s.get TH_STATUS.state = v then s else
  let s := s.when (v = 0) fun s => { s with ts := { s.ts with held := s.schedTime, heldAon := s.aonTime } }
  let s := (s.put TH_STATUS.state v).raise pageTH0 0 INFO 0x0501 v 0
  s.when (v = 0) fun s => s.cancelTimedSwaps

/-- The averaging of R145 starts again. -/
def State.restartAverage (s : State) : State :=
  let s := { s with th := { s.th with avgN := 0, avgSum := 0, delaySum := 0, avgDone := false } }
  s.put (TH_TL_STAT.cal_done (s.get TH_STATUS.up_lane)) 0

/-- A node enters HOLDOVER (R146). -/
def State.enterHoldover (s : State) : State :=
  let st := s.get TH_STATUS.state
  if st = 1 || st = 2 then
    let s := (s.setThState 3).raise pageTH0 1 CONTAINED 0x0502 0 0
    let s := { s with th := { s.th with holdStart := s.now, rejoin := some (0, 0) } }
    s.restartAverage
  else s

/-- A pending step is dropped (R148). -/
def State.dropStep (s : State) : State := { s with th := { s.th with step := 0 } }.put TH_STATUS.step_pending 0

/-- Whether the reference that the time PLL runs from is READY (R131, R187). -/
def State.thRefReady (s : State) : Bool :=
  if s.clk.thRef = 1 then s.is CLK_SRC_STAT.ref_ready else s.is CLK_SRC_STAT.xtal_ready

/-- A root takes the state that its reference gives it (R133, R146): CALIBRATED while READY; it enters HOLDOVER when the
reference leaves READY. -/
def State.rootReference (s : State) : State :=
  if !(s.is TH_CTRL.role && s.is TH_CTRL.enable) then s
  else if s.thRefReady && s.is CLK_SRC_STAT.thpll_ready then
    let s := (s.put TH_STATUS.hop 0).put TH_STATUS.node_id (if s.is TH_NODE.auto then 1 else s.get TH_NODE.id)
    s.setThState 2
  else s.enterHoldover

/-! ### Trigger messages (R141, R142) -/

/-- The kind of a block in the layout table (R139); blocks 0 to 2 and 155 on have none. -/
def State.layoutKind (s : State) (b : Nat) : Nat :=
  if b < 3 || 155 ≤ b then 0 else bitsOf (s.word (TH_XTL_LAYOUT.off (b / 4))) (8 * (b % 4) + 1) (8 * (b % 4))

/-- The TRIG blocks that act, at most 64 (R139). -/
def State.trigBlocks (s : State) : List Nat := ((List.range 160).filter fun b => s.layoutKind b = 3).take 64

/-- The CRC-8 of a message over its bits [55:0] (R141). -/
def msgCrc (v : Nat) : Nat := crcPoly 8 0x07 56 (v % 2 ^ 56)

/-- A message of a channel and a time (R141). -/
def trigMessage (chan time : Nat) : BitVec 64 :=
  let low := chan % 4096 * 2 ^ 44 + time / 256 % 2 ^ 44
  BitVec.ofNat 64 (msgCrc low * 2 ^ 56 + low)

/-- The time of a message, rebuilt as the nearest to the receiver's own (R141). -/
def State.messageTime (s : State) (m : BitVec 64) : Time :=
  let f := m.toNat % 2 ^ 44 * 256
  let now := s.timeNow
  let base := now / 2 ^ 52 * 2 ^ 52 + f
  let c := if now + 2 ^ 51 < base then base - 2 ^ 52 else if base + 2 ^ 51 ≤ now then base + 2 ^ 52 else base
  BitVec.ofNat 80 c

/-- A message joins the transmit queue of a lane, or is counted as not sent (R142). -/
def State.queueMessage (s : State) (n : Nat) (m : BitVec 64) : State :=
  let v := s.tl n
  if s.trigBlocks.isEmpty || 512 ≤ v.queue.length then
    (s.count (TH_TL_QOVF.v n)).raise pageTH1 (4 * n + 3) CONTAINED 0x0513 n 0
  else s.setTl n { v with queue := v.queue ++ [m] }

/-- Whether a lane is ACTIVE. -/
def State.laneActive (s : State) (n : Nat) : Bool := s.get (TH_TL_STAT.link n) = 2

/-- A message goes to every ACTIVE lane but one. -/
def State.spreadMessage (s : State) (but : Option Nat) (m : BitVec 64) : State :=
  s.each (List.range 4) fun s n => s.when (s.laneActive n && !decide (but = some n)) fun s => s.queueMessage n m

/-! ### Sequencers (R159 to R162) -/

/-- A 64-bit word of slot `k` of the state `st` of sequencer `q` (R159). -/
def State.slotWord (s : State) (q st k w : Nat) : Nat :=
  s.getWide (TH_SEQ_TABLE.off (0x1000 * q + 0x10 * st + 8 * k + 2 * w)) 2

/-- Bits [hi:lo] of a number. -/
def bitsN (v hi lo : Nat) : Nat := v / 2 ^ lo % 2 ^ (hi + 1 - lo)

/-- Whether a slot matches an event (R159). -/
def State.slotMatches (s : State) (q st k src : Nat) (rising : Bool) : Bool :=
  let w := s.slotWord q st k 0
  let want := bitsN w 62 56
  if bitsN w 63 63 = 0 then false
  else if 64 ≤ src then decide (want = 44) && decide (bitsN (s.slotWord q st k 3) 31 20 = src - 64)
  else if want ≠ src then false
  else if src < 24 then decide (bitsN w 55 54 / (if rising then 1 else 2) % 2 = 1)
  else true

/-- The slot that an event takes in the current state: slot 0 before slot 1 (R160). -/
def State.slotFor (s : State) (q src : Nat) (rising : Bool) : Option Nat :=
  let st := s.get (TH_SEQ_STAT.state q)
  (List.range 2).find? fun k => s.slotMatches q st k src rising

/-- A tap takes an action word, or discards it where its queue is full (R153). -/
def State.tapWord (s : State) (a : BitVec 100) : State :=
  s.each (List.range 240) fun s r =>
    if !s.domOpen (regionDom r) then s else
    let v := s.tap r
    if v.queue.length < 8 then s.setTap r { v with queue := v.queue ++ [a] } else s.setTap r { v with lost := true }

/-- The next state of a transition, and the mark where it says so (R161). -/
def State.slotStart (s : State) (q : Nat) (w0 : Nat) (t : Time) : State :=
  let s := s.put (TH_SEQ_STAT.state q) (bitsN w0 53 46)
  s.when (bitsN w0 45 45 = 1) fun s => s.putWide (TH_SEQ_MARK.off q 0) 3 t.toNat

/-- The sequencer's mark. -/
def State.slotMark (s : State) (q : Nat) : Nat := s.getWide (TH_SEQ_MARK.off q 0) 3 % 2 ^ 80

/-- The timer of a transition: started from its event or from the mark, stopped, or left (R161). -/
def State.slotTimer (s : State) (q w0 td : Nat) (t : Time) : State :=
  let drop (v : ThSeq) : ThSeq := { v with timer := none, held := v.held.filter fun e => decide (e.src ≠ 40) }
  match bitsN w0 44 43 with
  | 1 => s.setSeq q { drop (s.seqSt q) with timer := some (t + BitVec.ofNat 80 td) }
  | 2 => s.setSeq q { drop (s.seqSt q) with timer := some (BitVec.ofNat 80 (s.slotMark q + td)) }
  | 3 => s.setSeq q (drop (s.seqSt q))
  | _ => s

/-- The counter of a transition: loaded, counted down or left (R161). -/
def State.slotCount (s : State) (q w0 w3 : Nat) : State :=
  match bitsN w0 42 41 with
  | 1 => s.put (TH_SEQ_CNT.v q) (bitsN w3 63 32)
  | 2 => s.put (TH_SEQ_CNT.v q) (s.get (TH_SEQ_CNT.v q) - 1)
  | _ => s

/-- The actions of a transition at `at_` (R161, R162): an output, a tap word, a message, an event, a swap. -/
def State.slotActs (s : State) (q w0 w2 w3 at_ : Nat) (t : Time) (swapClk : Bool) : State :=
  let s := s.requestOut (bitsN w0 40 36)
    { t := BitVec.ofNat 80 at_, act := BitVec.ofNat 3 (bitsN w0 35 33), width := BitVec.ofNat 16 (bitsN w2 63 48) }
  let s := s.when (bitsN w0 31 31 = 1) fun s => s.tapWord (BitVec.ofNat 100 (t.toNat * 2 ^ 20 + q * 2 ^ 16 + bitsN w3 15 0))
  let s := s.when (bitsN w0 30 30 = 1) fun s =>
    let c := bitsN w3 31 20
    let msg := trigMessage c at_
    (s.spreadMessage none msg).giveAll ⟨BitVec.ofNat 80 (at_ / 256 * 256), 64 + c, true⟩
  let s := s.when (bitsN w0 29 29 = 1) fun s => s.event pageTH3 q
  s.when (bitsN w0 28 28 = 1) fun s => (s.requestSwap (bitsN w0 27 22) true swapClk (some at_)).1

/-- The actions of a transition in their order (R161), and whether a decrement reached 0. `swapClk` says that the swap
clock of a stall that it asks to swap is present. -/
def State.takeSlot (s : State) (q k : Nat) (t : Time) (swapClk : Bool) : State × Bool :=
  let st := s.get (TH_SEQ_STAT.state q)
  let w0 := s.slotWord q st k 0
  let w1 := s.slotWord q st k 1
  let w2 := s.slotWord q st k 2
  let w3 := s.slotWord q st k 3
  let s := s.slotStart q w0 t
  let m := s.slotMark q
  let s := s.slotTimer q w0 (bitsN w2 47 0) t
  let zero := decide (bitsN w0 42 41 = 2) && decide (s.get (TH_SEQ_CNT.v q) = 1)
  let at_ := ((if bitsN w0 32 32 = 1 then m else t.toNat) + bitsN w1 47 0) % 2 ^ 80
  ((s.slotCount q w0 w3).slotActs q w0 w2 w3 at_ t swapClk, zero)

/-- A sequencer halts on its ninth chained transition (R162). -/
def State.loopHalt (s : State) (q : Nat) : State :=
  (s.put (TH_SEQ_STAT.run q) 2).raise pageTH3 (16 + q) CONTAINED 0x0540 q 0

/-- The slot of a chained transition: one for COUNT_ZERO where the count has reached zero, else one for ALWAYS (R162). -/
def State.chainSlot (s : State) (q : Nat) (zero : Bool) : Option Nat :=
  match (if zero then s.slotFor q 41 true else none) with
  | some k => some k
  | none => s.slotFor q 42 true

/-- The chained transitions after one: COUNT_ZERO before the entry of the state (R162). `left` may still be taken. -/
def State.chainSeq (s : State) (q : Nat) (t : Time) (swapClk zero : Bool) (left : Nat) : State :=
  if !s.acts then s else
  match left, s.chainSlot q zero with
  | _, none => s
  | 0, some _ => s.loopHalt q
  | n + 1, some k =>
    let r := s.takeSlot q k t swapClk
    r.1.chainSeq q t swapClk r.2 n

/-- An event is offered to a sequencer (R160, R162): nothing unless it is RUNNING, and
nothing in a standby or a FENCED device (R459, R467). -/
def State.offerEvent (s : State) (q : Nat) (e : SeqEvent) (swapClk : Bool) : State :=
  if s.get (TH_SEQ_STAT.run q) ≠ 1 || !s.acts then s else
  match s.slotFor q e.src e.rising with
  | none => s
  | some k =>
    let r := s.takeSlot q k e.t swapClk
    r.1.chainSeq q e.t swapClk r.2 8

end Sys2Proof.Machine
end

