-- ==== Sys2Proof/Machine/Clocks.lean ====
section
/-! DEFINITION. Clock sources, monitors, switches, tile PLLs and regional tracks (R173 to R200). The loss of the root
lock, which resets the device, is in Resets.lean. -/

namespace Sys2Proof.Machine

open Reg

/-! ### Sources (R173, R174, R179) -/

/-- A source's number in CLK_MON_STAT (R199). -/
def srcNo : ClkSrc → Nat
  | .osc => 0 | .xtal => 1 | .ref => 2 | .root => 3 | .thpll => 4

/-- A source's READY flag. -/
def srcReady : ClkSrc → Field
  | .osc => CLK_SRC_STAT.osc_ready
  | .xtal => CLK_SRC_STAT.xtal_ready
  | .ref => CLK_SRC_STAT.ref_ready
  | .root => CLK_SRC_STAT.root_ready
  | .thpll => CLK_SRC_STAT.thpll_ready

/-- The bit of a source in CLK_MON_STAT.missing and in its out-of-window field. -/
def missingBit (x : ClkSrc) : Field := ⟨CLK_MON_STAT.off, srcNo x, srcNo x⟩
def windowBit (x : ClkSrc) : Field := ⟨CLK_MON_STAT.off, 8 + srcNo x, 8 + srcNo x⟩

/-- What an unlisted monitor, PLL or track reads as. -/
def monDefault : Nat → ClkMon := fun _ => {}

/-- What a source's monitor holds, and storing it. -/
def State.mon (s : State) (x : ClkSrc) : ClkMon := s.clk.mons.get monDefault (srcNo x)
def State.setMon (s : State) (x : ClkSrc) (v : ClkMon) : State :=
  { s with clk := { s.clk with mons := s.clk.mons.set monDefault (srcNo x) v } }

/-- Whether a reference of the root is READY: 0 the crystal, 1 REFCLK at 100 MHz (R174). -/
def State.rootRefReady (s : State) (r : Nat) : Bool :=
  if r = 0 then s.is CLK_SRC_STAT.xtal_ready else r = 1 && s.is CLK_SRC_STAT.ref_ready && s.get CLK_SRC_STAT.ref_freq = 2

/-- The domains in AUTO move to the root-derived clock while the root is READY, else to the oscillator (R176, R184). -/
def State.autoClocks (s : State) : State :=
  let root := s.is CLK_SRC_STAT.root_ready
  let s := s.when (s.get CLK_SEL.aon_clk = 2 && s.clk.aonTo.getD s.clk.aonFromRoot != root) fun s =>
    { s with clk := { s.clk with aonTo := some root } }
  s.when (s.get CLK_SEL.cfg_clk = 2 && s.clk.cfgTo.getD s.clk.cfgFromRoot != root) fun s =>
    { s with clk := { s.clk with cfgTo := some root } }

/-- A source becomes READY, with what waits for it: the trim (R182), a root in holdover on it (R186), the time PLL
(R187), the domains in AUTO (R176). -/
def State.becomeReady (s : State) (x : ClkSrc) : State :=
  let s := (((s.put (srcReady x) 1).setMon x {}).put (missingBit x) 0).put (windowBit x) 0
  match x with
  | .osc => s.when s.clk.aonStart.isNone fun s => { s with clk := { s.clk with aonStart := some s.now } }
  | .xtal | .ref =>
    let k := if x = .xtal then 0 else 1
    let s := s.trimGained (k + 1)
    let s := s.when (s.is CLK_SRC_STAT.root_ready && s.is CLK_SRC_STAT.root_holdover && s.get CLK_SEL.root_ref = k
      && s.clk.rootTo.isNone && s.rootRefReady k) fun s => { s with clk := { s.clk with rootTo := some k } }
    s.rootReference
  | .root => s.autoClocks
  | .thpll => s.rootReference

/-- A source passes the qualification of R173: READY at once, or after 64 good gates once it has left READY (R179). -/
def State.qualify (s : State) (x : ClkSrc) : State :=
  if s.is (srcReady x) then s
  else if (s.mon x).lost then s.setMon x { s.mon x with requal := false, regain := 0 }
  else s.becomeReady x

/-- The root's reference has left READY (R186): holdover, and the fallback where it is allowed. -/
def State.rootHoldover (s : State) : State :=
  if !s.is CLK_SRC_STAT.root_ready then s else
  let cur := s.get CLK_SEL.root_ref
  let other := 1 - cur
  let s := (s.put CLK_SRC_STAT.root_holdover 1).raise pageCLK 2 CONTAINED 0x0603 (cur + 1) 0
  if s.is CLK_SEL.auto_fallback && s.rootRefReady other then
    let s := { s with clk := { s.clk with rootTo := some other, fallback := true } }
    let s := s.when (s.get CLK_SW_STAT.root = 2) fun s => s.put CLK_SW_STAT.root 4
    (s.put CLK_SEL.root_ref other).raise pageCLK 3 INFO 0x0604 (other + 1) 0
  else s

/-- A source leaves READY (R179, R182, R186, R187). -/
def State.leaveReady (s : State) (x : ClkSrc) (missing : Bool) : State :=
  if !s.is (srcReady x) then s else
  let s := (s.put (srcReady x) 0).setMon x { lost := true, requal := missing }
  match x with
  | .osc => s
  | .xtal | .ref =>
    let k := if x = .xtal then 0 else 1
    let s := s.when (x = .ref && missing) fun s => s.put CLK_SRC_STAT.ref_freq 0
    let s := s.trimLost (k + 1)
    let s := s.when (s.get CLK_SEL.root_ref = k) fun s => s.rootHoldover
    s.when (s.clk.thRef = k) fun s => s.rootReference
  | .root => s.autoClocks
  | .thpll => s.rootReference

/-- OSC_READY (R173, R177): AONCLK starts, and the always-on counter at 0. -/
def execOscReady (s : State) : Out := .next (s.qualify .osc)

/-- CRYSTAL_READY (R173). -/
def execCrystalReady (s : State) : Out := .next (s.qualify .xtal)

/-- REFCLK_READY (R173, R174). -/
def execRefclkReady (at100 : Bool) (s : State) : Out :=
  .next ((s.put CLK_SRC_STAT.ref_freq (if at100 then 2 else 1)).qualify .ref)

/-- ROOT_PLL_LOCK (R173): locked to a READY reference; a selection that waited for it is DONE. -/
def execRootPllLock (s : State) : Out :=
  if s.is CLK_SRC_STAT.root_ready || !s.rootRefReady (s.get CLK_SEL.root_ref) then .next s else
  let s := { s with clk := { s.clk with rootTo := none, fallback := false } }
  let s := s.when (s.get CLK_SW_STAT.root = 2) fun s => s.put CLK_SW_STAT.root 1
  .next ((s.put CLK_SRC_STAT.root_holdover 0).qualify .root)

/-- TH_PLL_LOCK (R173): the hub is enabled and its reference READY. -/
def execThPllLock (s : State) : Out :=
  if s.is CLK_SRC_STAT.thpll_ready || !s.is TH_CTRL.enable then .next s else
  let s := match s.clk.thTo with
    | some r =>
      let s := { s with clk := { s.clk with thRef := r, thTo := none } }
      s.when (s.get CLK_SW_STAT.th = 2) fun s => s.put CLK_SW_STAT.th 1
    | none => s
  if s.thRefReady then .next (s.qualify .thpll) else .next s

/-- TH_PLL_LOCK_LOST (R179, R180): the time PLL leaves READY, and a root node enters HOLDOVER. -/
def execThPllLockLost (s : State) : Out := .next (s.leaveReady .thpll true)

/-- MISSING_CLOCK (R179). -/
def execMissingClock (src : ClkSrc) (s : State) : Out :=
  let s0 := s
  let s := s.put (missingBit src) 1
  if !s0.is (srcReady src) then .next (s.setMon src { s.mon src with requal := true, regain := 0 })
  else .next ((s.raise pageCLK 0 CONTAINED 0x0601 (srcNo src) 0).leaveReady src true)

/-! ### Gates of the monitor (R179, R180) -/

/-- Whether a source votes in a gate (R180): it runs, has passed its qualification, and the oscillator has converged. -/
def State.votes (s : State) (g : GateSeen) (x : ClkSrc) : Bool :=
  g.present.getLsbD (srcNo x) && !(s.mon x).requal && (s.is (srcReady x) || (s.mon x).lost)
    && (x ≠ .osc || s.is CLK_TRIM_STAT.converged)

/-- One source after a gate: out of window for the second time running it leaves READY, but the oscillator, which only
its missing-clock detector takes out of READY; after 64 good gates it is READY again (R173, R179). -/
def State.gateSource (s : State) (g : GateSeen) (x : ClkSrc) (bad : Bool) : State :=
  let m := s.mon x
  let here := g.present.getLsbD (srcNo x)
  let s := s.when here fun s => s.put (missingBit x) 0
  if s.is (srcReady x) then
    if !bad then (s.setMon x { m with out := 0 }).put (windowBit x) 0
    else if m.out = 0 then s.setMon x { m with out := 1 }
    else
      let s := s.setMon x { m with out := 2 }
      let s := s.when (!s.is (windowBit x)) fun s =>
        (s.put (windowBit x) 1).raise pageCLK 1 CONTAINED 0x0602 (srcNo x) 0
      s.when (x ≠ .osc) fun s => s.leaveReady x false
  else if m.lost && !m.requal then
    if bad || !here then s.setMon x { m with regain := 0 }
    else if 63 ≤ m.regain then s.becomeReady x
    else (s.setMon x { m with regain := m.regain + 1 }).put (windowBit x) 0
  else s

/-- MONITOR_GATE (R179, R180). -/
def execMonitorGate (g : GateSeen) (s : State) : Out :=
  let o := s.votes g .osc
  let c := s.votes g .xtal
  let r := s.votes g .ref
  let all := o && c && r
  let badO := all && !g.oscXtal && !g.oscRef && g.xtalRef
  let badC := all && !g.oscXtal && !g.xtalRef && g.oscRef
  let badR := all && !g.oscRef && !g.xtalRef && g.oscXtal
  let differ := (o && c && !g.oscXtal) || (o && r && !g.oscRef) || (c && r && !g.xtalRef)
  let dis := differ && !badO && !badC && !badR
  let was := s.is CLK_MON_STAT.disagree
  let s := s.putB CLK_MON_STAT.disagree dis
  let s := s.when (dis && !was) fun s => s.raise pageCLK 7 INFO 0x0608 0 0
  let s := ((s.gateSource g .osc badO).gateSource g .xtal badC).gateSource g .ref badR
  .next ((s.gateSource g .root false).gateSource g .thpll false)

/-! ### Trim (R182) -/

/-- TRIM_CONVERGED (R182). -/
def execTrimConverged (code : BitVec 12) (err : BitVec 16) (s : State) : Out :=
  if !s.clk.searching then .next s else
  let s := { s with clk := { s.clk with searching := false, trimCode := code } }
  let s := (s.put CLK_TRIM_STAT.code code.toNat).put CLK_TRIM_STAT.err err.toNat
  .next ((s.put CLK_TRIM_STAT.converged 1).raise pageCLK 5 INFO 0x0606 (s.get CLK_TRIM_STAT.source) 0)

/-- TRIM_TRACK_STEP (R182): at most one step, and none while the code is frozen. -/
def execTrimTrackStep (up move : Bool) (err : BitVec 16) (s : State) : Out :=
  if s.clk.searching || s.get CLK_TRIM_STAT.source = 0 || s.is CLK_MON_STAT.disagree then .next s else
  let c := s.clk.trimCode
  let c := if !move then c else if up then (if c = 0xFFF then c else c + 1) else if c = 0 then c else c - 1
  let s := { s with clk := { s.clk with trimCode := c } }
  .next ((s.put CLK_TRIM_STAT.code c.toNat).put CLK_TRIM_STAT.err err.toNat)

/-! ### Switches (R183 to R186) -/

/-- A switch request of one domain and its refusals (R183), judged in the order LOCKED, INVALID_SOURCE, NOT_READY, BUSY.
`source` is what a refused entry names. -/
def State.switchField (s : State) (sel stat : Field) (v source : Nat) (locked invalid ready busy : Bool)
    (go : State → State) : State :=
  if s.get sel = v then s else
  let refuse (code : Nat) : State := (s.put stat code).raise pageCLK 4 INFO 0x0605 source 0
  if locked then refuse 6
  else if invalid then refuse 5
  else if !ready then refuse 3
  else if busy then refuse 4
  else go (s.put sel v)

/-- Whether a domain of R176 in setting `v` runs from the root. -/
def State.wantsRoot (s : State) (v : Nat) : Bool := v = 1 || (v = 2 && s.is CLK_SRC_STAT.root_ready)

/-- What the write of ClkSelWrite does. -/
def State.writeClkSel (s : State) (v : Word) : State :=
  let locked := s.locked pageCLK
  let s := s.when (!locked) fun s => s.putB CLK_SEL.auto_fallback (bit v 31)
  let osc := s.is CLK_SRC_STAT.osc_ready
  let root := s.is CLK_SRC_STAT.root_ready
  let ready (x : Nat) : Bool := match x with
    | 0 => osc
    | 1 => root
    | _ => osc || root
  let a := bitsOf v 1 0
  let s := s.switchField CLK_SEL.aon_clk CLK_SW_STAT.aon a (if a = 0 then 0 else 3) locked (a = 3) (ready a)
    s.clk.aonTo.isSome fun s =>
      if s.wantsRoot a == s.clk.aonFromRoot then s.put CLK_SW_STAT.aon 1
      else ({ s with clk := { s.clk with aonTo := some (s.wantsRoot a) } }).put CLK_SW_STAT.aon 2
  let c := bitsOf v 9 8
  let s := s.switchField CLK_SEL.cfg_clk CLK_SW_STAT.cfg c (if c = 0 then 0 else 3) locked (c = 3) (ready c)
    s.clk.cfgTo.isSome fun s =>
      if s.wantsRoot c == s.clk.cfgFromRoot then s.put CLK_SW_STAT.cfg 1
      else ({ s with clk := { s.clk with cfgTo := some (s.wantsRoot c) } }).put CLK_SW_STAT.cfg 2
  let r := bitsOf v 17 16
  let slowRef := r = 1 && s.is CLK_SRC_STAT.ref_ready && s.get CLK_SRC_STAT.ref_freq = 1
  let s := s.switchField CLK_SEL.root_ref CLK_SW_STAT.root r (r + 1) locked (decide (2 ≤ r) || slowRef) (s.rootRefReady r)
    s.clk.rootTo.isSome fun s => ({ s with clk := { s.clk with rootTo := some r } }).put CLK_SW_STAT.root 2
  let t := bitsOf v 19 18
  let tReady := if t = 0 then s.is CLK_SRC_STAT.xtal_ready else s.is CLK_SRC_STAT.ref_ready
  (s.switchField CLK_SEL.th_ref CLK_SW_STAT.th t (t + 1) locked (decide (2 ≤ t)) tReady s.clk.thTo.isSome
    fun s => ({ s with clk := { s.clk with thTo := some t } }).put CLK_SW_STAT.th 2)

/-- CLK_SEL_WRITE (R183 to R185). -/
def execClkSelWrite (v : Word) (s : State) : Out := .next (s.writeClkSel v)

/-- CLK_SWITCH_COMPLETE (R184): AONCLK, or the configuration engine clock. -/
def execClkSwitchComplete (cfg : Bool) (s : State) : Out :=
  if cfg then
    match s.clk.cfgTo with
    | some b =>
      let s := { s with clk := { s.clk with cfgFromRoot := b, cfgTo := none } }
      .next (s.when (s.get CLK_SW_STAT.cfg = 2) fun s => s.put CLK_SW_STAT.cfg 1)
    | none => .next s
  else
    match s.clk.aonTo with
    | some b =>
      let s := { s with clk := { s.clk with aonFromRoot := b, aonTo := none } }
      .next (s.when (s.get CLK_SW_STAT.aon = 2) fun s => s.put CLK_SW_STAT.aon 1)
    | none => .next s

/-- ROOT_RELOCK_COMPLETE (R185, R186): the root PLL, or the time PLL, runs from its new reference. -/
def execRootRelockComplete (th : Bool) (s : State) : Out :=
  if th then
    match s.clk.thTo with
    | some r =>
      let s := { s with clk := { s.clk with thRef := r, thTo := none } }
      .next (s.when (s.get CLK_SW_STAT.th = 2) fun s => s.put CLK_SW_STAT.th 1).rootReference
    | none => .next s
  else
    match s.clk.rootTo with
    | some _ =>
      let s := { s with clk := { s.clk with rootTo := none, fallback := false } }
      .next ((s.when (s.get CLK_SW_STAT.root = 2) fun s => s.put CLK_SW_STAT.root 1).put CLK_SRC_STAT.root_holdover 0)
    | none => .next s

/-- AON_TIME_READ (R177). -/
def execAonTimeRead (s : State) : Out :=
  let s := s.latchAon
  .next (s.answerWord (s.word (CLK_AON_TIME.off 0)))

/-! ### Tile PLLs (R190 to R194) -/

/-- Whether the settings written lie in the ranges of R190, for an input of `khz` kHz and a speed grade 0 to 2 for S1 to
S3. -/
def State.pllInRange (s : State) (t f khz grade : Nat) : Bool :=
  let d := s.get (CMT_DIV.d t f)
  let m := s.get (CMT_DIV.m t f)
  let num := khz * (m * 2 ^ 24 + (if f = 1 then s.get (CMT_FRAC.v t f) else 0))
  let den := d * 2 ^ 24
  let outs := (List.range 7).filter fun j => s.is (CMT_OUT.enable t f j)
  let div (j : Nat) : Nat :=
    s.get (CMT_OUT.divider t f j) * (if j = 6 && s.is (CMT_OUT.cascade t f j) then s.get (CMT_OUT.divider t f 5) else 1)
  10000 ≤ khz && khz ≤ 800000 && 1 ≤ d && 4 ≤ m && m ≤ 160
    && 10000 * d ≤ khz && khz ≤ (if f = 1 then 250000 else 500000) * d
    && 2000000 * den ≤ num && num ≤ 6400000 * den
    && outs.all fun j =>
      let v := s.get (CMT_OUT.divider t f j)
      2 ≤ v && v ≤ 128 && decide (s.get (CMT_OUT.phase t f j) < 64 * v)
        && decide (num ≤ (1000 + 100 * grade) * 1000 * div j * den)

/-- A write of CMT_CTRL (R190, R194, R200): apply loads the setting or refuses it; reset relocks at the present one. -/
def State.writeCmtCtrl (s : State) (t f khz grade : Nat) (v : Word) : State :=
  let s := s.write (CMT_CTRL.off t f) v
  let none_ := s.pllNone t f
  let s := if !bit v 31 then s
    else if none_ then s.relock t f (s.pllSetting t f) false
    else if s.pllInRange t f khz grade then
      let s := s.relock t f (s.pllSetting t f) true
      s.setPll t f { s.pll t f with moved := [0, 0, 0, 0, 0, 0, 0] }
    else s.put (CMT_STAT.range_err t f) 1
  s.when (bit v 30 && !(s.pll t f).loaded.isEmpty) fun s => s.relock t f (s.pll t f).loaded (!none_)

/-- CMT_APPLY (R190, R194). -/
def execCmtApply (tile : Fin 40) (fpll : Bool) (inputKhz : Nat) (grade : Fin 3) (v : Word) (s : State) : Out :=
  .next (s.writeCmtCtrl tile.val fpll.toNat inputKhz grade.val v)

/-- CMT_RESET (R200). An apply in the same write finds no input to judge. -/
def execCmtReset (tile : Fin 40) (fpll : Bool) (v : Word) (s : State) : Out :=
  .next (s.writeCmtCtrl tile.val fpll.toNat 0 0 v)

/-- CMT_LOCK (R193). -/
def execCmtLock (tile : Fin 40) (fpll : Bool) (s : State) : Out :=
  let t := tile.val
  let f := fpll.toNat
  let p := s.pll t f
  if p.loaded.isEmpty || s.is (CMT_STAT.locked t f) || s.pllNone t f then .next s
  else .next (((s.setPll t f { p with relocking := false }).put (CMT_STAT.locked t f) 1).put (CMT_STAT.input t f) 1)

/-- CMT_LOCK_LOST (R193, R201). -/
def execCmtLockLost (tile : Fin 40) (fpll : Bool) (inputMissing : Bool) (s : State) : Out :=
  let t := tile.val
  let f := fpll.toNat
  if !s.is (CMT_STAT.locked t f) then .next s else
  let pg := pageRGN (12 * (t / 2) + 11 * (t % 2))
  let s := (s.put (CMT_STAT.locked t f) 0).count (CMT_STAT.losses t f)
  let s := s.raise pg (16 + f) CONTAINED 0x0610 t 0
  .next (s.when inputMissing fun s => (s.put (CMT_STAT.input t f) 0).raise pg (18 + f) CONTAINED 0x0611 t 0)

/-- PHASE_REQUEST (R193): ignored while PHBUSY is 1. -/
def execPhaseRequest (tile : Fin 40) (fpll : Bool) (count : BitVec 7) (s : State) : Out :=
  let t := tile.val
  let f := fpll.toNat
  let p := s.pll t f
  if p.busy.isSome then .next s else
  let o := s.get (CMT_CTRL.ps_out t f)
  let n := signed 7 count.toNat
  let moved := p.moved.mapIdx fun i v => if i = o then v + n else v
  .next (s.setPll t f { p with busy := some n, moved := moved })

/-- PHASE_MOVE_COMPLETE (R193): PHBUSY falls. -/
def execPhaseMoveComplete (tile : Fin 40) (fpll : Bool) (s : State) : Out :=
  .next (s.setPll tile.val fpll.toNat { s.pll tile.val fpll.toNat with busy := none })

/-! ### Regional tracks (R197) -/

/-- TRACK_SELECT (R197): a selector track takes the other clock, and stays low while that is not running. -/
def execTrackSelect (region : Fin 240) (track : Fin 24) (second running : Bool) (s : State) : Out :=
  let r := region.val
  let t := track.val
  .next ((s.setTrack r t { s.track r t with second := second, running := running }).showTrack r t)

/-- TRACK_INACTIVE (R197). -/
def execTrackInactive (region : Fin 240) (track : Fin 24) (s : State) : Out := .next (s.put (trackAct region.val track.val) 0)

/-- TRACK_GATE_ENABLE (R197): RGN_CLK_GATE forces the track off whatever the enable. -/
def execTrackGateEnable (region : Fin 240) (track : Fin 24) (en : Bool) (s : State) : Out :=
  let r := region.val
  let t := track.val
  .next ((s.setTrack r t { s.track r t with gate := en }).showTrack r t)

end Sys2Proof.Machine
end

