-- ==== Sys2Proof/Machine/Crypto.lean ====
section
/-! DEFINITION. The published standards that the spec names for its cryptography, on byte strings: AES-256 (FIPS 197),
GHASH (NIST SP 800-38D), SHA-384 (FIPS 180-4) and ECDSA P-384 verification (FIPS 186-5) (R212, R224, R225, R350). The
standards themselves are taken from outside the spec. -/

namespace Sys2Proof.Machine

/-! ### AES-256 -/

/-- The product of two bytes in the field of FIPS 197, over the lowest `n` bits of `b`. -/
def gfMul (a b : Nat) : Nat → Nat
  | 0 => 0
  | n + 1 =>
    let a2 := if a < 128 then 2 * a else (2 * a) ^^^ 0x11B
    (if b % 2 = 1 then a else 0) ^^^ gfMul a2 (b / 2) n

/-- The inverse of a byte in that field, 0 for 0: its 254th power. -/
def gfInv (a : Nat) : Nat :=
  (List.range 7).foldl (fun r _ => let q := gfMul r r 8; gfMul q a 8) 1 |> fun r => gfMul r r 8

/-- A byte rotated left by `k`. -/
def rot8 (b k : Nat) : Nat := (b * 2 ^ k + b / 2 ^ (8 - k)) % 256

/-- The S-box. -/
def sbox (a : Nat) : Nat :=
  let b := gfInv a
  b ^^^ rot8 b 1 ^^^ rot8 b 2 ^^^ rot8 b 3 ^^^ rot8 b 4 ^^^ 0x63

/-- The XOR of two byte strings. -/
def xorBytes (a b : List Nat) : List Nat := List.zipWith (· ^^^ ·) a b

/-- The words of the key schedule from the last eight on, newest first; `i` is the number of the next. -/
def aesExpand (ws : List (List Nat)) (i : Nat) : Nat → List (List Nat)
  | 0 => ws
  | n + 1 =>
    let t := ws.getD 0 []
    let t := if i % 8 = 0 then
        xorBytes ((t.rotateLeft 1).map sbox) [2 ^ (i / 8 - 1), 0, 0, 0]
      else if i % 8 = 4 then t.map sbox else t
    aesExpand (xorBytes (ws.getD 7 []) t :: ws) (i + 1) n

/-- A byte string in pieces of four bytes. -/
def fours (bs : List Nat) (n : Nat) : List (List Nat) := (List.range n).map fun i => (bs.drop (4 * i)).take 4

/-- The fifteen round keys of a 32-byte key. -/
def aesKeys (key : List Nat) : List (List Nat) :=
  let ws := (aesExpand (fours key 8).reverse 8 52).reverse
  (List.range 15).map fun r => ((ws.drop (4 * r)).take 4).flatten

/-- Every row of the state rotated by its number; byte 4c + r is row r of column c. -/
def shiftRows (s : List Nat) : List Nat :=
  (List.range 16).map fun k => s.getD ((k + 4 * (k % 4)) % 16) 0

/-- The mixing of the columns. -/
def mixColumns (s : List Nat) : List Nat :=
  (List.range 16).map fun k =>
    let b (j : Nat) : Nat := s.getD (k / 4 * 4 + (k + j) % 4) 0
    gfMul (b 0) 2 8 ^^^ gfMul (b 1) 3 8 ^^^ b 2 ^^^ b 3

/-- AES-256 of one 16-byte block. -/
def aes256 (key block : List Nat) : List Nat :=
  let ks := aesKeys key
  let s := xorBytes block (ks.getD 0 [])
  let s := (List.range 13).foldl (fun s r =>
    xorBytes (mixColumns (shiftRows (s.map sbox))) (ks.getD (r + 1) [])) s
  xorBytes (shiftRows (s.map sbox)) (ks.getD 14 [])

/-- The number that a byte string makes, first byte the most significant. -/
def beNum (bs : List Nat) : Nat := bs.foldl (fun a b => a * 256 + b) 0

/-- A number as `n` bytes, the most significant first. -/
def beBytes (v n : Nat) : List Nat := (List.range n).map fun i => v / 256 ^ (n - 1 - i) % 256

/-! ### GHASH -/

/-- The product of two blocks in the field of NIST SP 800-38D, a block being the number of its bits, first bit the most
significant: the bits of `x` from `n` − 1 down. -/
def ghashMul (x v : Nat) : Nat → Nat
  | 0 => 0
  | n + 1 =>
    (if x / 2 ^ n % 2 = 1 then v else 0) ^^^ ghashMul x (if v % 2 = 1 then (v / 2) ^^^ (0xE1 * 2 ^ 120) else v / 2) n

/-- GHASH of blocks under `h`, from `y`. -/
def ghashFrom (h y : Nat) : List Nat → Nat
  | [] => y
  | x :: xs => ghashFrom h (ghashMul (y ^^^ x) h 128) xs

/-- A byte string in blocks of 16 bytes, the last filled with zeros. -/
def blocks16 (bs : List Nat) : List Nat :=
  (List.range ((bs.length + 15) / 16)).map fun i =>
    let b := (bs.drop (16 * i)).take 16
    beNum b * 256 ^ (16 - b.length)

/-- GHASH_H of no additional data and a ciphertext, with the block of lengths (NIST SP 800-38D). -/
def ghash (h : Nat) (c : List Nat) : Nat := ghashFrom h 0 (blocks16 c ++ [8 * c.length])

/-- AES-256-GCM decryption of a byte string under a 12-byte IV, counting from block 2 + `at_` (NIST SP 800-38D). -/
def gcmStream (key iv : List Nat) (at_ n : Nat) : List Nat :=
  ((List.range ((n + 15) / 16)).flatMap fun i => aes256 key (iv ++ beBytes (2 + at_ + i) 4)).take n

/-- The tag of AES-256-GCM over a ciphertext without additional data. -/
def gcmTag (key iv c : List Nat) : List Nat :=
  let h := beNum (aes256 key (List.replicate 16 0))
  beBytes (ghash h c ^^^ beNum (aes256 key (iv ++ [0, 0, 0, 1]))) 16

/-- The tag of AES-256-GCM over additional data and a ciphertext (NIST SP 800-38D). -/
def gcmTagOf (key iv aad c : List Nat) : List Nat :=
  let h := beNum (aes256 key (List.replicate 16 0))
  let y := ghashFrom h 0 (blocks16 aad ++ blocks16 c ++ [8 * aad.length * 2 ^ 64 + 8 * c.length])
  beBytes (y ^^^ beNum (aes256 key (iv ++ [0, 0, 0, 1]))) 16

/-! ### SHA-384 -/

/-- Whether `n` is prime, by division up to `k` + 1. -/
def primeTo (n : Nat) : Nat → Bool
  | 0 => true
  | k + 1 => (decide (k + 2 ≥ n) || decide (n % (k + 2) ≠ 0)) && primeTo n k

/-- The integer cube root of `v` below 2^`n`, from `r` up. -/
def cubeRoot (v r : Nat) : Nat → Nat
  | 0 => r
  | n + 1 => cubeRoot v (if (r + 2 ^ n) ^ 3 ≤ v then r + 2 ^ n else r) n

/-- The integer square root of `v` below 2^`n`, from `r` up. -/
def squareRoot (v r : Nat) : Nat → Nat
  | 0 => r
  | n + 1 => squareRoot v (if (r + 2 ^ n) ^ 2 ≤ v then r + 2 ^ n else r) n

/-- The first eighty primes. -/
def primes80 : List Nat := ((List.range 410).drop 2).filter fun n => primeTo n 20

/-- The round constants: the first 64 bits of the fractional parts of the cube roots of the first eighty primes. -/
def shaK : List Nat := primes80.map fun p => cubeRoot (p * 2 ^ 192) 0 68 % 2 ^ 64

/-- The initial value of SHA-384: the same of the square roots of the ninth to the sixteenth prime. -/
def shaInit : List Nat := ((primes80.drop 8).take 8).map fun p => squareRoot (p * 2 ^ 128) 0 68 % 2 ^ 64

/-- A 64-bit rotation to the right. -/
def rotr (x k : Nat) : Nat := (x / 2 ^ k + x * 2 ^ (64 - k)) % 2 ^ 64

/-- The message schedule, newest word first. -/
def shaSchedule (ws : List Nat) : Nat → List Nat
  | 0 => ws
  | n + 1 =>
    let x := ws.getD 14 0
    let y := ws.getD 1 0
    let a := rotr x 1 ^^^ rotr x 8 ^^^ x / 2 ^ 7
    let b := rotr y 19 ^^^ rotr y 61 ^^^ y / 2 ^ 6
    shaSchedule ((ws.getD 15 0 + a + ws.getD 6 0 + b) % 2 ^ 64 :: ws) n

/-- One round: the working variables, the schedule word and the constant. -/
def shaRound (v : List Nat) (wk : Nat × Nat) : List Nat :=
  let x (i : Nat) : Nat := v.getD i 0
  let s1 := rotr (x 4) 14 ^^^ rotr (x 4) 18 ^^^ rotr (x 4) 41
  let ch := (x 4 &&& x 5) ^^^ ((2 ^ 64 - 1 - x 4) &&& x 6)
  let t1 := x 7 + s1 + ch + wk.1 + wk.2
  let s0 := rotr (x 0) 28 ^^^ rotr (x 0) 34 ^^^ rotr (x 0) 39
  let maj := (x 0 &&& x 1) ^^^ (x 0 &&& x 2) ^^^ (x 1 &&& x 2)
  [(t1 + s0 + maj) % 2 ^ 64, x 0, x 1, x 2, (x 3 + t1) % 2 ^ 64, x 4, x 5, x 6]

/-- One block of 128 bytes. -/
def shaBlock (h b : List Nat) : List Nat :=
  let ws := (List.range 16).map fun i => beNum ((b.drop (8 * i)).take 8)
  let sched := (shaSchedule ws.reverse 64).reverse
  let v := (sched.zip shaK).foldl shaRound h
  List.zipWith (fun a b => (a + b) % 2 ^ 64) h v

/-- SHA-384 of a byte string: 48 bytes. -/
def sha384 (bs : List Byte) : List Byte :=
  let m := bs.map BitVec.toNat
  let pad := (128 + 112 - (m.length + 1) % 128 - 1) % 128 + 1
  let m := m ++ [0x80] ++ List.replicate (if (m.length + 1) % 128 = 112 then 0 else pad % 128) 0
    ++ beBytes (8 * bs.length) 16
  let h := (List.range (m.length / 128)).foldl (fun h i => shaBlock h ((m.drop (128 * i)).take 128)) shaInit
  ((h.take 6).flatMap fun w => beBytes w 8).map (BitVec.ofNat 8)

/-! ### ECDSA P-384 -/

/-- The curve P-384: its prime, its order, b and the base point; a is −3. -/
def p384 : Nat := 2 ^ 384 - 2 ^ 128 - 2 ^ 96 + 2 ^ 32 - 1
def n384 : Nat := 0xffffffffffffffffffffffffffffffffffffffffffffffffc7634d81f4372ddf581a0db248b0a77aecec196accc52973
def b384 : Nat := 0xb3312fa7e23ee7e4988e056be3f82d19181d9c6efe8141120314088f5013875ac656398d8a2ed19d2a85c8edd3ec2aef
def g384 : Nat × Nat :=
  (0xaa87ca22be8b05378eb1c71ef320ad746e1d3b628ba79b9859f741e082542a385502f25dbf55296c3a545e3872760ab7,
   0x3617de4a96262c6f5d9e98bf9292dc29f8f41dbd289a147ce9da3113b5f0b8c00a60b1ce1d7e819d7a431d7c90ea0e5f)

/-- A power modulo `m`, over the lowest `n` bits of the exponent. -/
def powMod (b e m : Nat) : Nat → Nat
  | 0 => 1 % m
  | n + 1 => (if e % 2 = 1 then b else 1) * powMod (b * b % m) (e / 2) m n % m

/-- The inverse modulo a 384-bit prime. -/
def invMod (a m : Nat) : Nat := powMod (a % m) (m - 2) m 384

/-- The sum of two points; none is the point at infinity. -/
def ecAdd (a b : Option (Nat × Nat)) : Option (Nat × Nat) :=
  match a, b with
  | none, q => q
  | q, none => q
  | some (x, y), some (u, v) =>
    if x = u && (y + v) % p384 = 0 then none else
    let l := if x = u then (3 * x * x + (p384 - 3)) * invMod (2 * y) p384 % p384
      else (v + p384 - y) * invMod (u + p384 - x) p384 % p384
    let w := (l * l + 2 * p384 - x - u) % p384
    some (w, (l * (x + p384 - w) + p384 - y) % p384)

/-- A multiple of a point, over the lowest `n` bits of the factor. -/
def ecMul (k : Nat) (q : Option (Nat × Nat)) : Nat → Option (Nat × Nat)
  | 0 => none
  | n + 1 => ecAdd (if k % 2 = 1 then q else none) (ecMul (k / 2) (ecAdd q q) n)

/-- Whether a signature r ‖ s over a 48-byte hash verifies under an uncompressed public key (SEC 1). -/
def ecdsaVerify (pubkey hash sig : List Byte) : Bool :=
  let num (l : List Byte) : Nat := beNum (l.map BitVec.toNat)
  let x := num ((pubkey.drop 1).take 48)
  let y := num ((pubkey.drop 49).take 48)
  let r := num (sig.take 48)
  let t := num ((sig.drop 48).take 48)
  let onCurve := decide (y * y % p384 = (x * x * x + (p384 - 3) * x + b384) % p384)
  if pubkey.take 1 ≠ [4] || !onCurve || decide (p384 ≤ x) || decide (p384 ≤ y) || r = 0 || t = 0 || decide (n384 ≤ r)
    || decide (n384 ≤ t) then false
  else
    let w := invMod t n384
    match ecAdd (ecMul (num hash * w % n384) (some g384) 384) (ecMul (r * w % n384) (some (x, y)) 384) with
    | none => false
    | some (v, _) => v % n384 = r

end Sys2Proof.Machine
end

