-- ==== Sys2Proof/Machine/MpeOps.lean ====
section
/-! DEFINITION. The DRAM lines and the protection engines as the controllers use them: ECC and address check, encryption,
tags, counters, regions, the counter cache and the poison map (R326, R327, R341 to R362). -/

namespace Sys2Proof.Machine

open Reg

/-! ### Lines in the DRAM -/

/-- The number under which State keeps line `l` of controller `n`. -/
def dramKey (n l : Nat) : Nat := n * 2 ^ 29 + l

/-- What an unlisted line reads as: nothing has been stored. -/
def dramDefault : Nat → Option DramLine := fun _ => none

/-- The rank of a line of controller `n` (R318). -/
def State.lineRank (s : State) (n l : Nat) : Nat := l * 64 / s.rankBytes n

/-- The 64-bit value whose code is check byte A of word `w` (R326). -/
def addrWord (rank l w : Nat) : Nat := rank * 2 ^ 32 + l % 2 ^ 29 * 8 + w

/-- Word `w` of a line. -/
def wordAt (d : Line) (w : Nat) : Nat := d.toNat / 2 ^ (64 * w) % 2 ^ 64

/-- The line that eight words make. -/
def lineOf (ws : List Nat) : Line := BitVec.ofNat 512 (ws.foldr (fun w a => w + a * 2 ^ 64) 0)

/-- A line with its check bytes (R326). -/
def codedLine (rank l : Nat) (d : Line) : DramLine :=
  { data := d,
    c := BitVec.ofNat 64 (ofBytes ((List.range 8).map fun w => BitVec.ofNat 8 (checkByte (wordAt d w)))),
    a := BitVec.ofNat 64 (ofBytes ((List.range 8).map fun w => BitVec.ofNat 8 (checkByte (addrWord rank l w)))) }

/-- Word `w` of a stored line with its check bytes: data below C below A. -/
def storedWord (d : DramLine) (w : Nat) : BitVec 80 :=
  BitVec.ofNat 80 (wordAt d.data w + d.c.toNat / 256 ^ w % 256 * 2 ^ 64 + d.a.toNat / 256 ^ w % 256 * 2 ^ 72)

/-- A stored line with word `w` replaced, check bytes and all. -/
def setStored (d : DramLine) (w : Nat) (v : BitVec 80) : DramLine :=
  let put (x n : Nat) : Nat := x / 256 ^ (w + 1) * 256 ^ (w + 1) + n * 256 ^ w + x % 256 ^ w
  { data := lineOf ((List.range 8).map fun k => if k = w then v.toNat % 2 ^ 64 else wordAt d.data k),
    c := BitVec.ofNat 64 (put d.c.toNat (v.toNat / 2 ^ 64 % 256)),
    a := BitVec.ofNat 64 (put d.a.toNat (v.toNat / 2 ^ 72)) }

/-- What a read of a line finds (R327): its data as corrected, how many words were corrected, and the words with an
uncorrectable C and with an address error. -/
structure LineRead where
  data  : Line
  fixed : Nat
  badC  : List Nat
  badA  : List Nat

/-- Whether word `w` has an address error (R327). -/
def addrBad (rank l w : Nat) (v : BitVec 80) : Bool :=
  decide (2 ≤ weight8 (v.toNat / 2 ^ 72 ^^^ checkByte (addrWord rank l w)))

/-- Whether word `w` was corrected in C or in A. -/
def wordFixed (rank l w : Nat) (v : BitVec 80) : Bool :=
  (match decodeWord (v.truncate 72) with | .corrected _ _ => true | .good => false | .bad _ => false)
    || decide (weight8 (v.toNat / 2 ^ 72 ^^^ checkByte (addrWord rank l w)) = 1)

/-- Whether the C of a word is uncorrectable (R84). -/
def dataBad (v : BitVec 80) : Bool :=
  match decodeWord (v.truncate 72) with | .bad _ => true | .good => false | .corrected _ _ => false

/-- Decoding a line as it was read (R327). -/
def decodeLine (rank l : Nat) (d : DramLine) : LineRead :=
  let ws := List.range 8
  { data := lineOf (ws.map fun w => readData ((storedWord d w).truncate 72)),
    fixed := (ws.filter fun w => wordFixed rank l w (storedWord d w)).length,
    badC := ws.filter fun w => dataBad (storedWord d w),
    badA := ws.filter fun w => addrBad rank l w (storedWord d w) }

/-- Whether a read is uncorrectable. -/
def LineRead.bad (r : LineRead) : Bool := !r.badC.isEmpty || !r.badA.isEmpty

/-- A line as read, with what the DRAM and its bus changed in each word. -/
def disturb (d : DramLine) (upset : List (BitVec 80)) : DramLine :=
  (List.range 8).foldl (fun d w => setStored d w (storedWord d w ^^^ upset.getD w 0)) d

/-! ### Encryption and tags -/

/-- The data block of R350: the counters, the line, the epoch, keystream or tag mask, and the AES block. -/
def dataBlock (c : LineCtr) (rank l : Nat) (mask : Bool) (j : Nat) : Nat :=
  c.major.toNat * 2 ^ 64 + c.minor.toNat * 2 ^ 57 + (rank * 2 ^ 29 + l % 2 ^ 29) * 2 ^ 27 + c.epoch.toNat * 8
    + mask.toNat * 4 + j

/-- AES_K of a 128-bit block as a byte string: key byte 0 is the lowest, the block's first byte its highest (R343,
R350). -/
def aesOf (key : BitVec 256) (block : Nat) : List Nat :=
  aes256 ((toBytes key.toNat 32).map BitVec.toNat) (beBytes block 16)

/-- A line's plaintext or ciphertext XOR its keystream: AES block j covers bytes 16j to 16j + 15 (R350). -/
def crypt (key : BitVec 256) (c : LineCtr) (rank l : Nat) (d : Line) : Line :=
  let ks := (List.range 4).flatMap fun j => aesOf key (dataBlock c rank l false j)
  d ^^^ BitVec.ofNat 512 (ofBytes (ks.map (BitVec.ofNat 8)))

/-- The tag of a line's ciphertext (R350). -/
def lineTag (key : BitVec 256) (c : LineCtr) (rank l : Nat) (d : Line) : BitVec 64 :=
  let h := beNum (aesOf key 0)
  let g := ghash h ((toBytes d.toNat 64).map BitVec.toNat)
  BitVec.ofNat 64 (g / 2 ^ 64 ^^^ beNum (aesOf key (dataBlock c rank l true 0)) / 2 ^ 64)

/-! ### Engines and regions -/

/-- A protection engine. -/
def State.mpe (s : State) (n : Nat) : MpeState := s.mpes.get mpeDefault n
def State.setMpe (s : State) (n : Nat) (v : MpeState) : State := { s with mpes := s.mpes.set mpeDefault n v }

/-- What unlisted keys, regions, leaves, counters, tags and epochs read as. -/
def keyDefault : Nat → Option (BitVec 256) := fun _ => none
def rgnDefault : Nat → MpeRegion := fun _ => {}
def leafDefault : Nat → Leaf := fun _ => {}
def ctrDefault : Nat → BitVec 56 := fun _ => 0
def tagDefault : Nat → Option (BitVec 64) := fun _ => none
def epochOfDefault : Nat → Option (BitVec 24) := fun _ => none

/-- A protected region. -/
def State.rgn (s : State) (n r : Nat) : MpeRegion := (s.mpe n).regions.get rgnDefault r
def State.setRgn (s : State) (n r : Nat) (v : MpeRegion) : State :=
  s.setMpe n { s.mpe n with regions := (s.mpe n).regions.set rgnDefault r v }

/-- The key of a key ID, if it holds one (R343). -/
def State.mpeKey (s : State) (n id : Nat) : Option (BitVec 256) := (s.mpe n).keys.get keyDefault id

/-- The mode of a key ID: 0 none, 1 encrypt, 2 encrypt with integrity (R342). -/
def State.keyMode (s : State) (n id : Nat) : Nat := s.get (MPE_KEY_MODE.v n (id / 16)) / 4 ^ (id % 16) % 4

/-- The state of a region (R364). -/
def State.rgnState (s : State) (n r : Nat) : Nat := s.get (MPE_RGN_STAT.state n r)

/-- The first line and the number of lines of a region's data (R347). -/
def State.rgnFirst (s : State) (n r : Nat) : Nat := s.get (MPE_RGN_BASE.mib n r) * 2 ^ 14
def State.rgnLines (s : State) (n r : Nat) : Nat := s.get (MPE_RGN_SIZE.mib n r) * 2 ^ 14

/-- The region that is not OFF and holds a line, if any (R342). -/
def State.regionAt (s : State) (n l : Nat) : Option Nat :=
  (List.range 8).find? fun r =>
    decide (s.rgnState n r ≠ 0) && decide (s.rgnFirst n r ≤ l) && decide (l < s.rgnFirst n r + s.rgnLines n r)

/-- Whether a region's bound key is in mode encrypt with integrity. -/
def State.integrity (s : State) (n r : Nat) : Bool := s.keyMode n (s.get (MPE_RGN_CFG.key n r)) = 2

/-- The key of a region; 0 where its key ID holds none, which no access uses. -/
def State.rgnKey (s : State) (n r : Nat) : BitVec 256 := (s.mpeKey n (s.get (MPE_RGN_CFG.key n r))).getD 0

/-- The run that last zeroed a line or made it undefined, if any. -/
def State.zeroRun (s : State) (n l : Nat) : Option ZeroRun :=
  (s.mpe n).zeros.find? fun z : ZeroRun => decide (z.lo ≤ l) && decide (l < z.hi)

/-- The INIT that last zeroed a line, whatever training has done since. -/
def State.initRun (s : State) (n l : Nat) : Option ZeroRun :=
  (s.mpe n).zeros.find? fun z : ZeroRun => z.key.isSome && decide (z.lo ≤ l) && decide (l < z.hi)

/-- The counters of a line of a region now (R349, R350). -/
def State.lineCtr (s : State) (n r l : Nat) : LineCtr :=
  let g := s.rgn n r
  let i := l - s.rgnFirst n r
  let leaf := g.leaves.get leafDefault (i / 64)
  { major := leaf.major, minor := BitVec.ofNat 7 (leaf.minors.toNat / 2 ^ (7 * (i % 64))),
    epoch := (g.epochs.get epochOfDefault i).getD (match s.initRun n l with | some z => z.epoch | none => 0) }

/-- A line as the DRAM holds it: stored, zeroed by an INIT, or undefined, where what it reads as is stored. -/
def State.rawLine (s : State) (n l : Nat) : DramLine × State :=
  match s.dram.get dramDefault (dramKey n l) with
  | some d => (d, s)
  | none =>
    let rank := s.lineRank n l
    match (s.zeroRun n l).bind fun z => z.key.map fun k => (k, z.epoch) with
    | some z => (codedLine rank l (crypt z.1 { epoch := z.2 } rank l 0), s)
    | none =>
      let got := s.fresh 512
      let x := got.1
      let s := got.2
      let got := s.fresh 64
      let c := got.1
      let s := got.2
      let got := s.fresh 64
      let a := got.1
      let s := got.2
      let d : DramLine := { data := x, c := c, a := a }
      (d, { s with dram := s.dram.set dramDefault (dramKey n l) (some d) })

/-- Storing a line. -/
def State.storeLine (s : State) (n l : Nat) (d : DramLine) : State :=
  { s with dram := s.dram.set dramDefault (dramKey n l) (some d) }

/-- Lines of a controller become undefined (R330, R339). -/
def State.loseLines (s : State) (n lo hi : Nat) : State :=
  { s with dram := s.dram.eraseRange (dramKey n lo) (dramKey n hi) }

/-- Whether the tag of a line's ciphertext is the one stored for it; a line not written since its INIT has the tag of its
zero plaintext (R350, R361). -/
def State.tagGood (s : State) (n r l : Nat) (c : LineCtr) (d : Line) : Bool :=
  let key := s.rgnKey n r
  let rank := s.lineRank n l
  let t := lineTag key c rank l d
  match (s.rgn n r).tags.get tagDefault (l - s.rgnFirst n r) with
  | some u => t = u
  | none => t = lineTag key c rank l (crypt key c rank l 0)

/-! ### Nodes, roots and the poison map -/

/-- Whether a node (level, index) covers line `i` of its region: level 0 a tag line, 1 a leaf, above it the upper levels
(R359). -/
def covers (level idx i : Nat) : Bool :=
  if level = 0 then i / 8 = idx else i / 64 / 8 ^ (level - 1) = idx

/-- The first line of its region that a node covers. -/
def firstLine (level idx : Nat) : Nat := if level = 0 then 8 * idx else idx * 8 ^ (level - 1) * 64

/-- Whether the poison map covers line `i` of a region. -/
def State.poisoned (s : State) (n r i : Nat) : Bool :=
  (s.mpe n).poison.any fun e => e.1 = r && covers e.2.1 e.2.2 i

/-- The counts of the levels of a tree of `g` groups from the leaves up (R348). -/
def levelCounts (g : Nat) : Nat → List Nat
  | 0 => [g]
  | n + 1 => g :: (if g ≤ 8 then [] else levelCounts ((g + 7) / 8) n)

/-- The groups of a region. -/
def State.rgnGroups (s : State) (n r : Nat) : Nat := s.get (MPE_RGN_SIZE.mib n r) * 256

/-- The number of nodes of a level, of tag lines at level 0. -/
def State.nodeCount (s : State) (n r level : Nat) : Nat :=
  let g := s.rgnGroups n r
  if level = 0 then 8 * g else (levelCounts g 7).getD (level - 1) 0

/-- The information words of an engine's event: L, and the region with the level (R365). -/
def State.mpeEvent (s : State) (n evt : Nat) (cls : BitVec 2) (code l r level : Nat) : State :=
  s.raise (pageMPE n) evt cls code (l * 64) (r + level * 2 ^ 16)

/-- A region enters a state. -/
def State.setRgnState (s : State) (n r st : Nat) : State := s.put (MPE_RGN_STAT.state n r) st

/-- The root is compared at every use (R360): copies that disagree put the region into DISABLED. -/
def State.checkRoot (s : State) (n r : Nat) : State :=
  let g := s.rgn n r
  if g.rootA = g.rootB then s else
  ((s.setRgn n r { g with fresh := false }).setRgnState n r 5).mpeEvent n 3 CONTAINED 0x0B04 (s.rgnFirst n r) r 9

/-- An update of a root, which writes both copies together (R360). -/
def State.setRoot (s : State) (n r : Nat) (f : Root → Root) : State :=
  let g := s.rgn n r
  s.setRgn n r { g with rootA := f g.rootA, rootB := f g.rootB }

/-- A region enters EXHAUSTED (R356). -/
def State.exhaust (s : State) (n r : Nat) : State :=
  ((s.setRgn n r { s.rgn n r with fresh := false }).setRgnState n r 4).mpeEvent n 4 CONTAINED 0x0B05 (s.rgnFirst n r) r 9

/-- Whether a node is in the counter cache. -/
def State.cached (s : State) (n r level idx : Nat) : Bool :=
  (s.mpe n).cache.any fun e => e.1 = r && e.2.1 = level && e.2.2.1 = idx

/-- Marking a cached node. -/
def State.markNode (s : State) (n r level idx : Nat) (dirty : Bool) : State :=
  s.setMpe n { s.mpe n with cache := (s.mpe n).cache.map fun e : Nat × Nat × Nat × Bool =>
    if e.1 = r && e.2.1 = level && e.2.2.1 = idx then (e.1, e.2.1, e.2.2.1, dirty) else e }

/-- A dirty node is written back: its parent's counter for it rises first, in an upper node or in the root, and where
that is exhausted the node stays (R352, R353, R356). A tag line has no counter. The Boolean says that it was written. -/
def State.writeBackNode (s : State) (n r level idx : Nat) : Bool × State :=
  if level = 0 then (true, s.markNode n r level idx false) else
  let k := level * 2 ^ 26 + idx
  let g := s.rgn n r
  if s.get (MPE_RGN_STAT.levels n r) = level then
    let s := s.checkRoot n r
    let c := g.rootA.counters.get ctrDefault idx
    if s.rgnState n r = 5 then (false, s)
    else if c = BitVec.allOnes 56 then (false, s.exhaust n r)
    else (true, (s.setRoot n r fun x => { x with counters := x.counters.set ctrDefault idx (c + 1) }).markNode n r level
      idx false)
  else
    let c := g.uppers.get ctrDefault k
    if c = BitVec.allOnes 56 then (false, s.exhaust n r)
    else (true, ((s.setRgn n r { g with uppers := g.uppers.set ctrDefault k (c + 1) }).markNode n r (level + 1)
      (idx / 8) true).markNode n r level idx false)

/-- Every dirty node of the regions that `p` names is written back, from the tag lines up (R353, R362). -/
def State.writeBackAll (s : State) (n : Nat) (p : Nat → Bool) : State :=
  s.each (List.range 9) fun s level =>
    s.each ((s.mpe n).cache.filter fun e => p e.1 && e.2.1 = level && e.2.2.2) fun s e =>
      (s.writeBackNode n e.1 e.2.1 e.2.2.1).2

/-- A verified node enters the cache; of a full cache one leaves, whichever (R353). -/
def State.cacheNode (s : State) (n r level idx : Nat) : State :=
  let insert (s : State) : State :=
    s.setMpe n { s.mpe n with cache := (s.mpe n).cache ++ [(r, level, idx, false)] }
  if (s.mpe n).cache.length < 8192 then insert s else
  let got := s.fresh 13
  let v := got.1
  let s := got.2
  match (s.mpe n).cache[v.toNat]? with
  | none => s
  | some e =>
    let got := if e.2.2.2 then s.writeBackNode n e.1 e.2.1 e.2.2.1 else (true, s)
    let s := got.2
    if got.1 then
      insert (s.setMpe n { s.mpe n with cache := (s.mpe n).cache.filter fun f =>
        !(f.1 = e.1 && f.2.1 = e.2.1 && f.2.2.1 = e.2.2.1) })
    else s

/-- A node is poisoned (R357, R359): no entry where one covers it already; the 1,025th puts the region into POISONED and
frees its entries. -/
def State.addPoison (s : State) (n r level idx : Nat) : State :=
  let v := s.mpe n
  let i := firstLine level idx
  let l := s.rgnFirst n r + i
  let s := s.mpeEvent n 1 CONTAINED 0x0B02 l r level
  if v.poison.any fun e => e.1 = r && decide (level ≤ e.2.1) && covers e.2.1 e.2.2 i then s
  else if v.poison.length < 1024 then s.setMpe n { v with poison := v.poison ++ [(r, level, idx)] }
  else ((s.setMpe n { v with poison := v.poison.filter fun e => e.1 ≠ r }).setRgnState n r 3).mpeEvent n 2 CONTAINED
    0x0B03 l r level

/-- A line of a region is written (R352): its minor counter rises, and its leaf, and with integrity its tag line, become
dirty. -/
def State.countLine (s : State) (n r l : Nat) : State :=
  let g := s.rgn n r
  let i := l - s.rgnFirst n r
  let leaf := g.leaves.get leafDefault (i / 64)
  let s := s.setRgn n r { g with
    leaves := g.leaves.set leafDefault (i / 64)
      { leaf with minors := leaf.minors + BitVec.ofNat 448 (2 ^ (7 * (i % 64))) },
    epochs := g.epochs.set epochOfDefault i (some g.rootA.epoch) }
  let s := s.markNode n r 1 (i / 64) true
  s.when (s.integrity n r) fun s => s.markNode n r 0 (i / 8) true

end Sys2Proof.Machine
end

