-- ==== Sys2Proof/Machine/DramOps.lean ====
section
/-! DEFINITION. The DRAM controllers' queues: accepting requests under the key rules, merging, forwarding, the banks and
the column commands, the answers, and leaving and entering service (R317 to R330, R336, R339, R342, R352, R355,
R358). -/

namespace Sys2Proof.Machine

open Reg

/-! ### Controllers and queues -/

/-- What unlisted controllers, banks and counts read as. -/
def dmcDefault : Nat → DmcState := fun _ => {}
def bankDefault : Nat → DmcBank := fun _ => {}
def flagDefault : Nat → Bool := fun _ => false
def shiftDefault : Nat → Int := fun _ => 0

/-- A controller. -/
def State.dmc (s : State) (n : Nat) : DmcState := s.dmcs.get dmcDefault n

/-- Storing a controller: DMC_STAT shows the entries in use, and an emptied queue is empty from now on. -/
def State.setDmc (s : State) (n : Nat) (v : DmcState) : State :=
  let o := s.dmc n
  let was := o.reads.isEmpty && o.writes.isEmpty
  let v := if v.reads.isEmpty && v.writes.isEmpty && !was then { v with emptyAt := s.now } else v
  (({ s with dmcs := s.dmcs.set dmcDefault n v }).put (DMC_STAT.rd_used n) v.reads.length).put (DMC_STAT.wr_used n)
    v.writes.length

/-- The state of a controller (R316). -/
def State.dmcState (s : State) (n : Nat) : Nat := s.get (DMC_STAT.state n)

/-- Where a line lies (R318): its bank as 32 × rank + 4 × bank group + bank, and its row. -/
def State.linePlace (s : State) (n l : Nat) : Nat × Nat :=
  let c := s.rankBytes n
  let a := l * 64 % c
  let hash := s.is (DMC_MAP.bank_hash 0)
  let rank := l * 64 / c
  if s.is (DMC_GEOM.width n) then
    let row := a / 2 ^ 16
    let bg := a / 2 ^ 8 % 4 ^^^ (if hash then row % 4 else 0)
    let ba := a / 2 ^ 14 % 4 ^^^ (if hash then row / 4 % 4 else 0)
    (32 * rank + 4 * bg + ba, row)
  else
    let row := a / 2 ^ 17
    let bg := a / 2 ^ 8 % 8 ^^^ (if hash then row % 8 else 0)
    let ba := a / 2 ^ 15 % 4 ^^^ (if hash then row / 8 % 4 else 0)
    (32 * rank + 4 * bg + ba, row)

/-- A bank. -/
def State.bank (s : State) (n b : Nat) : DmcBank := (s.dmc n).banks.get bankDefault b
def State.setBank (s : State) (n b : Nat) (v : DmcBank) : State :=
  s.setDmc n { s.dmc n with banks := (s.dmc n).banks.set bankDefault b v }

/-- Whether an earlier entry of the line is unfinished: requests to one line take effect in order (R320). -/
def DmcState.blocked (v : DmcState) (e : DmcEntry) : Bool :=
  (v.reads ++ v.writes).any fun f => f.line = e.line && decide (f.id < e.id)

/-- Whether an entry can be given a command. -/
def DmcState.mayGo (v : DmcState) (e : DmcEntry) : Bool := !e.issued && !v.blocked e

/-- An entry takes its place; earlier entries to its line take its effective class where it is higher (R320). -/
def DmcState.enqueue (v : DmcState) (e : DmcEntry) : DmcState :=
  let e := { e with id := v.nextId }
  let lift (f : DmcEntry) : DmcEntry := if f.line = e.line then { f with eff := min f.eff e.eff } else f
  let v := { v with reads := v.reads.map lift, writes := v.writes.map lift, nextId := v.nextId + 1 }
  match e.kind with
  | .read => { v with reads := v.reads ++ [e] }
  | .write => { v with writes := v.writes ++ [e] }
  | .merge => { v with writes := v.writes ++ [e] }
  | .writeBack => { v with writes := v.writes ++ [e] }

/-- Whether `k` more entries of a kind find room for a class: eight are reserved for RT (R319). -/
def roomFor (used k cls : Nat) : Bool := decide (used + k ≤ if cls = 0 then 64 else 56)

/-! ### Answers -/

/-- A line of a read is there; when all are, the request is answered, POISONED where one is (R319, R327). -/
def State.readLine (s : State) (n : Nat) (p : Packet) (pos : Nat) (d : Option Line) : State :=
  let v := s.dmc n
  match v.runs.find? fun r : DmcRead => r.req = p with
  | none => s
  | some r =>
    let r' := { r with lines := r.lines ++ [(pos, d.getD 0)], bad := r.bad || d.isNone }
    if r'.lines.length < r'.count then
      s.setDmc n { v with runs := v.runs.map fun q : DmcRead => if q.req = p then r' else q }
    else
      let s := s.setDmc n { v with runs := v.runs.filter fun q : DmcRead => q.req ≠ p }
      if r'.bad then s.answerFrom (dmcPort n) p 2 [] false 0
      else
        let at_ (k : Nat) : Line := ((r'.lines.find? fun x : Nat × Line => x.1 = k).map Prod.snd).getD 0
        s.answerFrom (dmcPort n) p 0 ((List.range r'.count).map at_) false 0

/-- The non-posted writes that no merge holds back are answered: OK, or POISONED where a merge of theirs failed (R328). -/
def State.settleWrites (s : State) (n : Nat) : State :=
  let v := s.dmc n
  let held (p : Packet) : Bool := v.writes.any fun e =>
    (match e.kind with | .merge => true | .read => false | .write => false | .writeBack => false)
      && e.writers.any fun w => w.1 = p
  let done := v.wrns.filter fun w => !held w.1
  let s := s.setDmc n { v with wrns := v.wrns.filter fun w => held w.1 }
  s.each done fun s w => s.answerFrom (dmcPort n) w.1 (if w.2 then 2 else 0) [] false 0

/-- A region whose enable has been cleared turns OFF when no accepted request of it is left, its dirty lines written
back (R353, R362). -/
def State.settleRegions (s : State) (n : Nat) : State :=
  s.each (List.range 8) fun s r =>
    let v := s.dmc n
    let busy := (v.reads ++ v.writes).any fun e => e.rgn = some r
    if (s.rgn n r).closing && !busy && (s.rgn n r).groups.isEmpty then
      let s := s.writeBackAll n fun q => q = r
      let s := s.setMpe n { s.mpe n with
        cache := (s.mpe n).cache.filter fun e => e.1 ≠ r, poison := (s.mpe n).poison.filter fun e => e.1 ≠ r }
      ((s.setRgn n r { s.rgn n r with closing := false, fresh := false }).setRgnState n r 0).put (MPE_RGN_CFG.enable n r) 0
    else s

/-! ### What the DRAM answers -/

/-- Corrected words are counted; the one that takes a window's count above the threshold raises the event (R329). -/
def State.countFixed (s : State) (n k : Nat) : State :=
  if k = 0 then s else
  let s := s.add (DMC_CE_TOT.v n) k
  let v := s.dmc n
  let c := v.ceCount + k
  let above := decide (s.get (DMC_CE_RATE.threshold n) < c) && !v.ceRaised
  let s := s.setDmc n { v with ceCount := c, ceRaised := v.ceRaised || above }
  s.when above fun s => s.raise (pageDMC n) 2 CORRECTED 0x0A03 c 0

/-- The errors of a line as it was read: the counters, the address and the entries (R327, R338, R340). -/
def State.logLine (s : State) (n l : Nat) (r : LineRead) : State :=
  let s := s.countFixed n r.fixed
  let a := l * 64
  let s := s.when r.bad fun s =>
    ((s.put (DMC_ERR_ADDR0.v n) a).put (DMC_ERR_ADDR1.l n) (a / 2 ^ 32)).put (DMC_ERR_ADDR1.rank n) (s.lineRank n l)
  let s := s.when (!r.badC.isEmpty) fun s => (s.count (DMC_UE_TOT.v n)).raise (pageDMC n) 3 CONTAINED 0x0A04 a 0
  s.when (!r.badA.isEmpty) fun s => (s.count (DMC_AE_TOT.v n)).raise (pageDMC n) 4 CONTAINED 0x0A05 a 0

/-- A corrected line is written back at class BULK, unless a write to it is queued; where no entry is free it is stored
at once (R329). -/
def State.writeBack (s : State) (n l : Nat) (rgn : Option Nat) (r : LineRead) : State :=
  let v := s.dmc n
  if r.fixed = 0 || r.bad || v.writes.any (fun e => e.line = l) then s else
  let d := codedLine (s.lineRank n l) l r.data
  if roomFor v.writes.length 1 3 then
    s.setDmc n (v.enqueue { id := 0, kind := .writeBack, line := l, cls := 3, eff := 3, since := s.now, rgn := rgn,
                            keep := (List.range 8).map fun w => (w, storedWord d w) })
  else s.storeLine n l d

/-- The plaintext of a line that was read, or none where its tag fails, which is logged (R350, R351, R357). -/
def State.plainOf (s : State) (n l : Nat) (rgn : Option Nat) (c : LineCtr) (d : Line) : Option Line × State :=
  match rgn with
  | none => (some d, s)
  | some r =>
    if s.integrity n r && !s.tagGood n r l c d then
      (none, (s.count (MPE_TAG_ERR.v n)).mpeEvent n 0 CONTAINED 0x0B01 l r 0)
    else (some (crypt (s.rgnKey n r) c (s.lineRank n l) l d), s)

/-- The waiting reads of a line between a write of it and the next are answered from the write (R320). -/
def State.forwardTo (s : State) (n : Nat) (e : DmcEntry) : State :=
  let v := s.dmc n
  let next := ((v.writes.filter fun f => f.line = e.line && decide (e.id < f.id)).map DmcEntry.id).foldl min v.nextId
  let mine (f : DmcEntry) : Bool := f.line = e.line && decide (e.id < f.id) && decide (f.id < next) && !f.issued
  let s := s.setDmc n { v with reads := v.reads.filter fun f => !mine f }
  s.each (v.reads.filter mine) fun s f =>
    match f.req with
    | some p => s.readLine n p f.pos (some e.data)
    | none => s

/-! ### Refusing -/

/-- A posted write is dropped at the controller: the next FLUSH of its source is answered POSTED_LOST (R342, R358). -/
def State.dropWrite (s : State) (n : Nat) (p : Packet) : State := s.markLost (dmcPort n) p

/-- A refused access (R342). -/
def State.refuseAccess (s : State) (n l : Nat) (p : Packet) : State :=
  if isPosted p then
    ((s.count (MPE_ACC_REFUSED.v n)).mpeEvent n 6 CONTAINED 0x0B08 l ((s.regionAt n l).getD 0) 0).dropWrite n p
  else s.answerFrom (dmcPort n) p 1 [] false 0

/-- A refused write (R358). -/
def State.refuseWrite (s : State) (n l r : Nat) (p : Packet) : State :=
  if isPosted p then
    ((s.count (MPE_WR_REFUSED.v n)).mpeEvent n 5 CONTAINED 0x0B07 l r 0).dropWrite n p
  else s.answerFrom (dmcPort n) p 2 [] false 0

/-! ### Accepting requests -/

/-- A packet leaves the edge port's lists. -/
def State.takeFromPort (s : State) (n : Nat) (p : Packet) : State :=
  let v := s.port (dmcPort n)
  s.setPort (dmcPort n) { v with accepted := v.accepted.erase p, posted := v.posted.erase p }

/-- The key ID of a request (R341). -/
def keyIdOf (p : Packet) : Nat :=
  let a := p.addr.toNat / 2 ^ 42 % 64
  if a ≠ 0 then a else p.key.toNat

/-- The first line of a request at its controller, and how many lines it touches. -/
def State.linesOfReq (s : State) (p : Packet) : Nat × Nat :=
  let a := p.addr.toNat
  (((s.dramPlace (a % 2 ^ 42)).map fun d => d.2 / 64).getD 0, (a + p.len.toNat) / 64 - a / 64 + 1)

/-- Whether the key rules allow an access (R342): none refused, some none plaintext, some (some r) protected. -/
def State.keyRule (s : State) (n l : Nat) (p : Packet) : Option (Option Nat) :=
  let id := keyIdOf p
  let keyed := decide (id ≠ 0) && decide (s.keyMode n id ≠ 0)
  match s.regionAt n l with
  | none => if keyed then none else some none
  | some r =>
    if keyed && decide (id = s.get (MPE_RGN_CFG.key n r)) && (s.mpeKey n id).isSome then some (some r) else none

/-- A read takes its entries; a line that a queued write holds whole is forwarded (R319, R320). -/
def State.acceptRead (s : State) (n l k : Nat) (rgn : Option Nat) (p : Packet) : State :=
  let s := s.setDmc n { s.dmc n with runs := (s.dmc n).runs ++ [{ req := p, count := k }] }
  s.each (List.range k) fun s i =>
    let v := s.dmc n
    let whole (f : DmcEntry) : Bool := match f.kind with
      | .write => f.keep.isEmpty
      | .read => false | .merge => false | .writeBack => false
    match (v.writes.filter fun f => f.line = l + i).getLast? with
    | some f =>
      if whole f then s.readLine n p i (some f.data)
      else
        let c := match rgn with | some r => s.lineCtr n r (l + i) | none => {}
        s.setDmc n (v.enqueue { id := 0, kind := .read, line := l + i, cls := p.cls.toNat, eff := p.cls.toNat,
                                since := s.now, req := some p, pos := i, rgn := rgn, ctr := c })
    | none =>
      let c := match rgn with | some r => s.lineCtr n r (l + i) | none => {}
      s.setDmc n (v.enqueue { id := 0, kind := .read, line := l + i, cls := p.cls.toNat, eff := p.cls.toNat,
                              since := s.now, req := some p, pos := i, rgn := rgn, ctr := c })

/-- The bytes of a line with those that `be` marks replaced. -/
def overlay (old new : Line) (be : BitVec 64) : Line :=
  BitVec.ofNat 512 (ofBytes ((List.range 64).map fun k =>
    BitVec.ofNat 8 ((if be.getLsbD k then new else old).toNat / 256 ^ k)))

/-- A write of one line takes an entry, or merges into the queued write that no later read follows (R320, R328). -/
def State.acceptLine (s : State) (n l : Nat) (rgn : Option Nat) (p : Packet) (d : Line) (be : BitVec 64) : State :=
  let before := match rgn with | some r => s.lineCtr n r l | none => {}
  let s := match rgn with | some r => s.countLine n r l | none => s
  let after := match rgn with | some r => s.lineCtr n r l | none => {}
  let v := s.dmc n
  let cls := p.cls.toNat
  let open_ (f : DmcEntry) : Bool := f.line = l && !f.issued && f.keep.isEmpty
    && (match f.kind with | .write => true | .merge => true | .read => false | .writeBack => false)
    && !(v.reads.any fun q => q.line = l && decide (f.id < q.id))
    && !(v.writes.any fun q => q.line = l && decide (f.id < q.id))
  match v.writes.find? open_ with
  | some f =>
    let u := f.be ||| be
    let whole := decide (f.be = BitVec.allOnes 64) || decide (u = BitVec.allOnes 64)
    let kind := if whole then EntryKind.write else .merge
    let g := { f with
      be := if whole then BitVec.allOnes 64 else u, data := overlay f.data d be, ctr := after, eff := min f.eff cls,
      kind := kind, writers := if whole then [] else f.writers ++ [(p, be)] }
    s.setDmc n { v with writes := v.writes.map fun q => if q.id = f.id then g else q }
  | none =>
    let whole := decide (be = BitVec.allOnes 64)
    let kind := if whole then EntryKind.write else .merge
    let ws := if whole then [] else [(p, be)]
    s.setDmc n (v.enqueue { id := 0, kind := kind, line := l, cls := cls, eff := cls, since := s.now, be := be, data := d,
                            writers := ws, rgn := rgn, ctr := after, ctrIn := before })

/-- A write takes its entries (R319, R320, R352). -/
def State.acceptWrite (s : State) (n l k : Nat) (rgn : Option Nat) (p : Packet) : State :=
  let off := p.addr.toNat / 64 * 64 % 256
  let s := s.each (List.range k) fun s i =>
    let d := (p.data[i]?.map Prod.fst).getD 0
    s.acceptLine n (l + i) rgn p d (BitVec.ofNat 64 (p.be.toNat / 2 ^ (off + 64 * i)))
  let s := s.when (!isPosted p) fun s => s.setDmc n { s.dmc n with wrns := (s.dmc n).wrns ++ [(p, false)] }
  s.settleWrites n

/-- Whether one of `k` lines from `l` on has its minor counter at 127 (R355). -/
def State.minorFull (s : State) (n r l k : Nat) : Bool :=
  (List.range k).any fun i => (s.lineCtr n r (l + i)).minor = 127

/-- Whether the nodes that an access to `k` lines needs are in the counter cache (R351). -/
def State.nodesThere (s : State) (n r l k : Nat) : Bool :=
  let i := l - s.rgnFirst n r
  s.cached n r 1 (i / 64)
    && (!s.integrity n r || (s.cached n r 0 (i / 8) && s.cached n r 0 ((i + k - 1) / 8)))

/-- A protected access (R351, R352, R355 to R361): refused or POISONED by the region's state and the poison map; it waits
for its group's re-encryption, for its nodes and for its entries; a write that finds a minor counter at 127 starts the
re-encryption of its group. -/
def State.protectedAccess (s : State) (n r l k : Nat) (p : Packet) : State :=
  let s := s.checkRoot n r
  let i := l - s.rgnFirst n r
  let st := s.rgnState n r
  let write := decide (p.opcode = 1) || isPosted p
  let inInit := decide (st = 1) && (match (s.rgn n r).init with
    | some (a, m) => decide (a ≤ i / 64) && decide (i / 64 < a + m)
    | none => false)
  let bad := decide (st = 3) || decide (st = 5) || inInit || (List.range k).any fun j => s.poisoned n r (i + j)
  if bad || (write && decide (st = 4)) then
    let s := s.takeFromPort n p
    if write then (s.refuseWrite n l r p).settleFlushes (dmcPort n) else s.answerFrom (dmcPort n) p 2 [] false 0
  else
    let v := s.dmc n
    let used := if write then v.writes.length else v.reads.length
    let waits := (s.rgn n r).groups.any (fun g => g.1 = i / 64) || (s.rgn n r).closing || !s.nodesThere n r l k
      || !roomFor used k p.cls.toNat
    if waits then s
    else if write && s.minorFull n r l k then
      let g := s.rgn n r
      if (g.leaves.get leafDefault (i / 64)).major = BitVec.allOnes 64 then
        (((s.exhaust n r).takeFromPort n p).refuseWrite n l r p).settleFlushes (dmcPort n)
      else (s.setRgn n r { g with groups := g.groups ++ [(i / 64, p)] })
    else
      let s := (s.count (MPE_CC_HIT.v n)).takeFromPort n p
      if write then (s.acceptWrite n l k (some r) p).settleFlushes (dmcPort n) else s.acceptRead n l k (some r) p

/-- A DRAM-space request at the edge port is accepted, refused, or withheld (R319, R320, R334, R341, R342). -/
def State.dramAccept (s : State) (n : Nat) (p : Packet) : State :=
  let (l, k) := s.linesOfReq p
  let write := decide (p.opcode = 1) || isPosted p
  match s.keyRule n l p with
  | none =>
    let s := (s.takeFromPort n p).refuseAccess n l p
    s.when (isPosted p) fun s => s.settleFlushes (dmcPort n)
  | some (some r) => s.protectedAccess n r l k p
  | some none =>
    let v := s.dmc n
    if !roomFor (if write then v.writes.length else v.reads.length) k p.cls.toNat then s
    else
      let s := s.takeFromPort n p
      if write then (s.acceptWrite n l k none p).settleFlushes (dmcPort n) else s.acceptRead n l k none p

/-! ### Column commands -/

/-- A write reaches the DRAM: encrypted under its counters, coded, but for the words that it keeps; with integrity its
tag is stored (R326, R328, R350). -/
def State.columnWrite (s : State) (n : Nat) (e : DmcEntry) : State :=
  let rank := s.lineRank n e.line
  let d := match e.rgn with
    | some r => crypt (s.rgnKey n r) e.ctr rank e.line e.data
    | none => e.data
  let c := e.keep.foldl (fun c k => setStored c k.1 k.2) (codedLine rank e.line d)
  let s := s.storeLine n e.line c
  let plain := match e.kind with | .write => true | .merge => true | .read => false | .writeBack => false
  match e.rgn with
  | some r =>
    if plain && s.integrity n r then
      let g := s.rgn n r
      let t := some (lineTag (s.rgnKey n r) e.ctr rank e.line c.data)
      s.setRgn n r { g with tags := g.tags.set tagDefault (e.line - s.rgnFirst n r) t }
    else s
  | none => s

/-- An entry is done. -/
def State.dropEntry (s : State) (n : Nat) (e : DmcEntry) : State :=
  let v := s.dmc n
  (s.setDmc n { v with
    reads := v.reads.filter fun f => f.id ≠ e.id, writes := v.writes.filter fun f => f.id ≠ e.id }).settleRegions n

/-- Whether a word is uncorrectable in a read. -/
def LineRead.badWord (r : LineRead) (w : Nat) : Bool := r.badC.contains w || r.badA.contains w

/-- The read of a partial write has come (R328, R352): good words are merged, uncorrectable words are replaced where they
are wholly enabled and kept where not; a partly enabled one fails its writes. Of a line whose tag fails nothing is
written. -/
def State.mergeLine (s : State) (n : Nat) (e : DmcEntry) (raw : DramLine) (r : LineRead) : State :=
  let (plain, s) := if r.bad then
      (some (match e.rgn with
        | some g => crypt (s.rgnKey n g) e.ctrIn (s.lineRank n e.line) e.line r.data
        | none => r.data), s)
    else s.plainOf n e.line e.rgn e.ctrIn r.data
  match plain with
  | none =>
    let s := s.dropEntry n e
    let s := s.each e.writers fun s w =>
      if isPosted w.1 then s.refuseWrite n e.line (e.rgn.getD 0) w.1
      else s.setDmc n { s.dmc n with wrns := (s.dmc n).wrns.map fun q => if q.1 = w.1 then (q.1, true) else q }
    (s.settleWrites n).settleFlushes (dmcPort n)
  | some old =>
    let en (be : BitVec 64) (w : Nat) : Nat := be.toNat / 256 ^ w % 256
    let keep := (List.range 8).filter fun w => r.badWord w && decide (en e.be w ≠ 255)
    let failed := keep.filter fun w => decide (en e.be w ≠ 0)
    let lost := e.writers.filter fun w => failed.any fun k => decide (en w.2 k ≠ 0)
    let f := { e with kind := .write, be := BitVec.allOnes 64, data := overlay old e.data e.be, issued := false,
                      writers := [], keep := keep.map fun w => (w, storedWord raw w) }
    let v := s.dmc n
    let s := s.setDmc n { v with writes := v.writes.map fun q => if q.id = e.id then f else q }
    let s := s.each lost fun s w =>
      let s := s.count (DMC_RMW_FAIL.v n)
      if isPosted w.1 then (s.raise (pageDMC n) 9 CONTAINED 0x0A0A (e.line * 64) 0).dropWrite n w.1
      else s.setDmc n { s.dmc n with wrns := (s.dmc n).wrns.map fun q => if q.1 = w.1 then (q.1, true) else q }
    let s := s.settleWrites n
    s.when keep.isEmpty fun s => s.forwardTo n f

/-- The column write of entry e, if it still waits. -/
def State.writeWaiting (s : State) (n : Nat) (e : DmcEntry) : State :=
  match (s.dmc n).writes.find? fun f => f.id = e.id with
  | some f => (s.columnWrite n f).dropEntry n f
  | none => s

/-- A queued write goes to the DRAM as the controller leaves service (R328, R336, R339): a merge reads its line first. -/
def State.drainWrite (s : State) (n : Nat) (e : DmcEntry) : State :=
  match e.kind with
  | .merge =>
    let got := s.rawLine n e.line
    let raw := got.1
    let s := got.2
    let r := decodeLine (s.lineRank n e.line) e.line raw
    ((s.logLine n e.line r).mergeLine n e raw r).writeWaiting n e
  | .read => (s.columnWrite n e).dropEntry n e
  | .write => (s.columnWrite n e).dropEntry n e
  | .writeBack => (s.columnWrite n e).dropEntry n e

/-- Every queued write is written to the DRAM (R336, R339). -/
def State.drainWrites (s : State) (n : Nat) : State :=
  s.each (s.dmc n).writes fun s e => s.drainWrite n e

/-! ### Service -/

/-- The controller enters READY (R316, R325, R329): the histories restart, the patrol runs, the first window of corrected
words begins, and the port opens to DRAM space. -/
def State.dmcReady (s : State) (n : Nat) : State :=
  let s := s.setDmc n { s.dmc n with
    banks := [], ceCount := 0, ceRaised := false, patrolAt := 0, emptyAt := s.now, deferred := false }
  ((s.put (DMC_STAT.state n) 2).put (DMC_PATROL.running n) 1).openPort (dmcPort n)

/-- The controller leaves service for OFF (R339). -/
def State.dmcOff (s : State) (n : Nat) : State :=
  let s := s.setDmc n { s.dmc n with offWait := false, deferred := false, step := 0, kept := false }
  ((s.put (DMC_STAT.state n) 0).put (DMC_PATROL.running n) 0).put (DMC_STAT.trained n) 0

/-- The number of lines of the training rows of a rank: row 0 of bank 0 of every bank group (R330). -/
def State.trainingLines (s : State) (n : Nat) : Nat := if s.is (DMC_GEOM.width n) then 256 else 512

/-- Training writes its patterns over the training rows (R330). -/
def State.loseTraining (s : State) (n : Nat) : State :=
  s.each (List.range (s.get (DMC_GEOM.ranks n) + 1)) fun s rank =>
    let lo := rank * s.rankBytes n / 64
    let z : ZeroRun := { lo := lo, hi := lo + s.trainingLines n, epoch := 0, key := none }
    (s.loseLines n lo z.hi).setMpe n { s.mpe n with zeros := z :: (s.mpe n).zeros }

/-- The port of a controller has closed (R336, R339): every queued write goes to the DRAM, and the controller turns OFF,
or, with its domain closing, keeps its settings in SELF_REFRESH, the engine's dirty lines written back (R353, R362). -/
def State.dmcClosed (s : State) (n : Nat) : State :=
  let v := s.dmc n
  if v.offWait then ((s.drainWrites n).setDmc n { (s.drainWrites n).dmc n with banks := [] }).dmcOff n
  else if v.parkWait then
    let s := (s.drainWrites n).writeBackAll n fun _ => true
    let s := s.setDmc n { s.dmc n with banks := [], kept := true, parkWait := false }
    (s.put (DMC_STAT.state n) 4).put (DMC_PATROL.running n) 0
  else s

/-- Whether a controller has answered every request that it accepted (R305). -/
def State.dmcIdle (s : State) (n : Nat) : Bool :=
  (s.dmc n).runs.isEmpty && (s.dmc n).wrns.isEmpty && (List.range 8).all fun r => (s.rgn n r).groups.isEmpty

/-- A forced close of the edge port answers what the controller has not answered (R305). -/
def State.dmcForce (s : State) (n : Nat) : State :=
  let v := s.dmc n
  let s := s.each (v.runs.map DmcRead.req ++ v.wrns.map Prod.fst) fun s p => s.answerClosed (dmcPort n) p
  s.setDmc n { v with runs := [], wrns := [], reads := [] }

end Sys2Proof.Machine
end

