-- ==== Sys2Proof/Machine/PciOps.lean ====
section
/-! DEFINITION. The PCI Express endpoint's functions, MSI-X, sluices and host requests as other blocks use them (R369 to
R374, R391 to R393). -/

namespace Sys2Proof.Machine

open Reg

/-! ### Functions -/

/-- A function's number. -/
def fnNo (f : Fn) : Nat := 65 * f.pf.toNat + f.vf.val

/-- The number of the function that a register names: 130 stands for none (R397). -/
def fnOf (pf vf : Nat) : Nat := if vf ≤ 64 then 65 * pf + vf else 130

/-- What an unlisted function reads as. -/
def pciFnDefault : Nat → PciFn := fun _ => {}

/-- A function. -/
def State.fn (s : State) (k : Nat) : PciFn := s.pci.fns.get pciFnDefault k

/-- Storing a function; PCI_PM shows the physical ones (R397). -/
def State.setFn (s : State) (k : Nat) (v : PciFn) : State :=
  let s := { s with pci := { s.pci with fns := s.pci.fns.set pciFnDefault k v } }
  let d := if v.d3 then 3 else 0
  if k = 0 then (s.put PCI_PM.d_pf0 d).put PCI_PM.pme_en (s.get PCI_PM.pme_en / 2 * 2 + v.pmeEn.toNat)
  else if k = 65 then (s.put PCI_PM.d_pf1 d).put PCI_PM.pme_en (s.get PCI_PM.pme_en % 2 + 2 * v.pmeEn.toNat)
  else s

/-- Whether VF Enable of a PF is set. -/
def State.vfEnabled (s : State) (pf : Nat) : Bool := if pf = 0 then s.pci.vfEn.1 else s.pci.vfEn.2

/-- Setting VF Enable of a PF. -/
def State.setVfEn (s : State) (pf : Nat) (on : Bool) : State :=
  { s with pci := { s.pci with vfEn := if pf = 0 then (on, s.pci.vfEn.2) else (s.pci.vfEn.1, on) } }

/-- Whether a function is present (R369). -/
def State.fnPresent (s : State) (k : Nat) : Bool :=
  let pf := k / 65
  let vf := k % 65
  decide (k < 130) && (decide (pf = 0) || s.is PCI_CFG.pf1_en) &&
    (decide (vf = 0) || (s.vfEnabled pf && decide (vf ≤ s.get (if pf = 0 then PCI_CFG.vfs0 else PCI_CFG.vfs1))))

/-- The length of a function's MSI-X table (R366). -/
def vectorsOf (k : Nat) : Nat := if k % 65 = 0 then 2048 else 32

/-- Whether the link can carry a TLP, if only after an exit from ASPM L1 (R374). -/
def State.linkLive (s : State) : Bool :=
  let l := s.get PCI_LINK.ltssm
  decide (l = 3) || decide (l = 4) || (decide (l = 6) && !s.pci.pmL1)

/-- Whether the link is in L0 or L0p. -/
def State.linkOn (s : State) : Bool := decide (s.get PCI_LINK.ltssm = 3) || decide (s.get PCI_LINK.ltssm = 4)

/-- Whether a function is host-reachable (R374). A FENCED device initiates no TLP (R467). -/
def State.reachable (s : State) (k : Nat) : Bool :=
  let ok (f : PciFn) : Bool := !f.d3 && f.bme && !f.inFlr
  s.is PCI_CFG.enable && s.linkLive && !s.fenced && s.fnPresent k && ok (s.fn k) && ok (s.fn (65 * (k / 65)))

/-- Whether every present physical function is in D3hot: the link is then in PCI-PM L1 and carries only PMEs (R374). -/
def State.allD3 (s : State) : Bool := (s.fn 0).d3 && (!s.is PCI_CFG.pf1_en || (s.fn 65).d3)

/-! ### Sending to the host -/

/-- A TLP leaves; a PME is an event, and its function's held sluices show it (R393, R397, R398). -/
def State.leave (s : State) (t : HostTlp) : State :=
  let s := { s with pci := { s.pci with out := s.pci.out ++ [t] } }
  match t with
  | .pme k =>
    let s := s.raise pagePCI0 8 INFO 0x0C18 k 0
    s.each s.pci.holds fun s h =>
      match h.2.2 with
      | some j => if h.1 = k then s.put (SLU_STAT.pme_sent j) 1 else s
      | none => s
  | _ => s

/-- A TLP is sent at once in L0 or L0p, and waits for the exit from L1 (R374, R393). -/
def State.toHost (s : State) (t : HostTlp) : State :=
  if s.linkOn then s.leave t else { s with pci := { s.pci with waiting := s.pci.waiting ++ [t] } }

/-- What an unlisted word of an MSI-X table and of a PBA reads as: every vector masked, nothing pending. -/
def msixDefault : Nat → Word := fun k => if k % 4 = 3 then 1 else 0
def pbaDefault : Nat → Word := fun _ => 0

/-- Word `j` of entry `v` of a function's MSI-X table (R369, R371). -/
def State.msixWord (s : State) (k v j : Nat) : Word :=
  if k = 0 then s.word (MSIX_ENT.off v j) else s.pci.table.get msixDefault (8192 * k + 4 * v + j)

/-- Storing it. -/
def State.setMsixWord (s : State) (k v j : Nat) (w : Word) : State :=
  if k = 0 then s.setWord (MSIX_ENT.off v j) w
  else { s with pci := { s.pci with table := s.pci.table.set msixDefault (8192 * k + 4 * v + j) w } }

/-- A word of a function's PBA. -/
def State.pbaWord (s : State) (k i : Nat) : Word :=
  if k = 0 then s.word (MSIX_PBA.off i) else s.pci.pba.get pbaDefault (64 * k + i)

/-- Setting the PBA bit of a vector. -/
def State.setPba (s : State) (k v : Nat) (b : Bool) : State :=
  let w := setBits (s.pbaWord k (v / 32)) (v % 32) (v % 32) b.toNat
  if k = 0 then s.setWord (MSIX_PBA.off (v / 32)) w
  else { s with pci := { s.pci with pba := s.pci.pba.set pbaDefault (64 * k + v / 32) w } }

/-- Whether a vector or its function is masked. -/
def State.vectorMasked (s : State) (k v : Nat) : Bool := (s.fn k).masked || bit (s.msixWord k v 3) 0

/-- The MSI-X message of a vector. -/
def State.msixTlp (s : State) (k v : Nat) : HostTlp :=
  .msix k v (BitVec.ofNat 64 ((s.msixWord k v 0).toNat + (s.msixWord k v 1).toNat * 2 ^ 32)) (s.msixWord k v 2)

/-- A message goes out, or sets the vector's PBA bit where the vector or the function is masked (R393). -/
def State.emit (s : State) (k v : Nat) : State :=
  if s.vectorMasked k v then s.setPba k v true else s.toHost (s.msixTlp k v)

/-- Whether a function can deliver a message now (R393). -/
def State.canSend (s : State) (k : Nat) : Bool := s.reachable k && (s.fn k).msix

/-- The vectors of a function whose PBA bit is set and which are not masked are sent, as the Base Specification lays
down (R393). -/
def State.sendPending (s : State) (k : Nat) : State :=
  if !s.canSend k then s else
  s.each (List.range (vectorsOf k)) fun s v =>
    if bit (s.pbaWord k (v / 32)) (v % 32) && !s.vectorMasked k v then (s.setPba k v false).toHost (s.msixTlp k v) else s

/-- The held messages of a function are sent in the order of their releases; a sluice's count returns to 0 (R393). -/
def State.sendHeld (s : State) (k : Nat) : State :=
  if !s.canSend k then s else
  let mine := s.pci.holds.filter fun h : Nat × Nat × Option Nat => h.1 = k
  let s := { s with pci := { s.pci with holds := s.pci.holds.filter fun h : Nat × Nat × Option Nat => h.1 ≠ k } }
  let s := s.setFn k { s.fn k with pmeSent := false }
  s.each mine fun s h =>
    let s := match h.2.2 with
      | some j => ((s.put (SLU_STAT.count j) 0).put (SLU_STAT.held j) 0).put (SLU_STAT.pme_sent j) 0
      | none => s
    s.emit k h.2.1

/-- A release is delivered, or held (R393): one PME in D3hot with PME enabled; held direct messages of one vector merge,
and a held sluice keeps its count. -/
def State.deliver (s : State) (k v : Nat) (sl : Option Nat) : State :=
  if s.canSend k then
    let s := s.sendHeld k
    let s := match sl with
      | some j => s.put (SLU_STAT.count j) 0
      | none => s
    s.emit k v
  else
    let h := (k, v, sl)
    let s := if sl.isNone && s.pci.holds.contains h then s
      else { s with pci := { s.pci with holds := s.pci.holds ++ [h] } }
    let s := match sl with
      | some j => s.put (SLU_STAT.held j) 1
      | none => s
    let f := s.fn k
    if f.d3 && f.pmeEn && !f.pmeSent && decide (s.get PCI_LINK.ltssm ≠ 0) && !s.fenced then
      (s.setFn k { f with pmeSent := true, pmeStatus := true }).toHost (.pme k)
    else match sl with
      | some j => s.putB (SLU_STAT.pme_sent j) (f.pmeSent && !s.pci.waiting.contains (.pme k))
      | none => s

/-! ### Sluices -/

/-- What an unlisted sluice timer reads as. -/
def timerDefault : Nat → Option Nat := fun _ => none

/-- Starting or stopping a sluice's timer. -/
def State.setTimer (s : State) (j : Nat) (t : Option Nat) : State :=
  ({ s with se := { s.se with timers := s.se.timers.set timerDefault j t } }).putB (SLU_STAT.timing j) t.isSome

/-- A sluice releases (R391): the timer stops and one message is delivered on its function and vector. -/
def State.releaseSluice (s : State) (j : Nat) : State :=
  let s := (s.setTimer j none).count (SLU_REL.v j)
  s.deliver (fnOf (s.get (SLU_TGT.pf j)) (s.get (SLU_TGT.vf j))) (s.get (SLU_TGT.vector j)) (some j)

/-- An event at a sluice (R391). -/
def State.sluiceEvent (s : State) (j : Nat) : State :=
  if !s.is (SLU_TGT.enable j) then s else
  let was := s.get (SLU_STAT.count j)
  let s := s.count (SLU_STAT.count j)
  if s.is (SLU_STAT.held j) then s
  else if s.get (SLU_CFG.count_max j) ≤ s.get (SLU_STAT.count j) then s.releaseSluice j
  else if was = 0 then s.setTimer j (some s.now)
  else s

/-! ### Host requests -/

/-- A completion of a host request: Unsupported Request and Completer Abort are events (R398). -/
def State.complete (s : State) (id fn bar off status : Nat) (data : List Byte) : State :=
  let s := s.when (decide (status ≠ 0)) fun s => s.raise pagePCI0 4 INFO 0x0C14 off (fn + bar * 2 ^ 16)
  (s.toHost (.completion id status data)).answering data

/-- An answer of the NoC to a piece of a host request (R372): the data of its bytes. -/
def State.hostAnswer (s : State) (p : Packet) : State :=
  let take (c : HostPiece) : HostPiece :=
    if c.tag = some p.tag && c.answer.isNone then
      { c with answer := some p.status, data := ((dataBytes p).drop (c.addr % 64)).take c.len }
    else c
  { s with pci := { s.pci with reqs := s.pci.reqs.map fun r : HostReq => { r with pieces := r.pieces.map take } } }

/-- A posted write to host space leaves to the host, if the link can carry it now; it waits through an L1 and through
D3hot, and is lost where the link is down (R374). -/
def State.hostSends (s : State) : Bool := s.linkOn && !s.allD3

/-- The posted writes that wait at the endpoint's ports go to the host. -/
def State.sendHostWrites (s : State) : State :=
  if !s.hostSends then s else
  s.each [portId 5 0 0, portId 6 0 0] fun s q =>
    let v := s.port q
    let s := s.setPort q { v with posted := [] }
    s.each v.posted fun s p => s.leave (.write p.addr p.be (p.data.map Prod.fst))

end Sys2Proof.Machine
end

