-- ==== Sys2Proof/Machine/NocOps.lean ====
section
/-! DEFINITION. The issuing side of the network on chip, as every block uses it: a request enters, is refused or waits,
and its answer is handed over (R28, R287, R290, R297, R372). -/

namespace Sys2Proof.Machine

open Reg

/-! ### Issuing a request -/

/-- The opcode of a request and its VC (R289). -/
def opCode : ReqOp → BitVec 4
  | .rd => 0 | .wrn => 1 | .wrp => 2 | .mrd => 4 | .mwr => 5

/-- The VC of a request (R289). -/
def opVc : ReqOp → BitVec 2
  | .rd => 1 | .wrn => 1 | .wrp => 0 | .mrd => 3 | .mwr => 3

/-- Whether a request is a posted write. -/
def opPosted : ReqOp → Bool
  | .wrp => true | .mwr => true | .rd => false | .wrn => false | .mrd => false

/-- Whether a request carries data. -/
def opWrites : ReqOp → Bool
  | .wrn => true | .wrp => true | .mwr => true | .rd => false | .mrd => false

/-- The number of lines that a request's bytes touch (R290). -/
def linesTouched (addr len : Nat) : Nat := (addr + len) / 64 - addr / 64 + 1

/-- Whether a request meets R290. -/
def requestFits (r : NocReq) : Bool :=
  let a := r.addr.toNat
  let n := r.len.toNat + 1
  decide (a % 256 + n ≤ 256)
    && decide (r.data.length = if opWrites r.op then linesTouched a r.len.toNat else 0)
    && (decide (a / 2 ^ 52 ≠ 3) || (decide (a % 4 = 0) && decide (n % 4 = 0) && decide (n ≤ 64)))

/-- What the initiator shows of its latest synthesised response or notice (R310). -/
def State.iniLast (s : State) (i : IniPort) (status tag dest addr : Nat) : State :=
  let b := iniBlock i
  ((((s.put (NOC_INI_LAST.status b) status).put (NOC_INI_LAST.tag b) tag).put (NOC_INI_LAST.dest b) dest).put
    (NOC_INI_ADDR0.v b) addr).put (NOC_INI_ADDR1.v b) (addr / 2 ^ 32)

/-- A response is handed to what its initiator serves: a host request collects its answers (R372), and a core's load
with a status other than OK is a load access fault (R401). -/
def State.handOver (s : State) (i : IniPort) (op : BitVec 4) (addr : Nat) (p : Packet) : State :=
  let s := s.setIni i { s.ini i with got := some p }
  let load := decide (p.status ≠ 0) && (decide (op = 0) || decide (op = 4))
  match i with
  | .pciA => s.hostAnswer p
  | .ccA => s.when load fun s => s.coreFault (coreOfTag false p.tag) 5 addr
  | .ccB => s.when load fun s => s.coreFault (coreOfTag true p.tag) 5 addr
  | _ => s

/-- A response that the initiator makes itself, handed to what the port serves (R28, R297). -/
def State.ownResponse (s : State) (i : IniPort) (op : BitVec 4) (tag : BitVec 12) (status code dest addr : Nat) :
    State :=
  let p : Packet :=
    { opcode := 8, vc := 2, cls := 0, dest := BitVec.ofNat 10 (iniPort i), src := BitVec.ofNat 10 (iniPort i),
      tag := tag, key := 0, len := 0, seq := 0, hops := 0, status := BitVec.ofNat 4 status, synth := true, addr := 0,
      be := 0, info := BitVec.ofNat 32 (iniPort i + code * 65536), hcrc := 0, data := [] }
  (s.handOver i op addr p).iniLast i status tag.toNat dest addr

/-- The decoder's refusal (R28): a non-posted request is answered UNROUTABLE at once, a posted write is dropped and
counted; either is logged. The destination that NOC_INI_LAST shows of it is open. -/
def State.refuseRequest (s : State) (i : IniPort) (r : NocReq) : State :=
  let a := r.addr.toNat
  let s := s.raise (iniPage i) (iniEvt i 1) CONTAINED 0x0911 a 0
  if opPosted r.op then
    let s := s.count (NOC_INI_PDROP.v (iniBlock i))
    match i with
    | .ccA => s.busError (coreOfTag false r.tag) a 3
    | .ccB => s.busError (coreOfTag true r.tag) a 3
    | .ts => s.dispatchDropped r.tag.toNat a
    | _ => s
  else
    let got := s.fresh 10
    let d := got.1
    let s := got.2
    s.ownResponse i (opCode r.op) r.tag 3 0x0911 d.toNat a

/-- A request enters the network, or is refused, or waits: nothing is issued while the port is not OPEN, while a tag
is in use or not yet released, and while a quay holds 256 (R28, R287, R290, R295, R298, R304). -/
def State.issue (s : State) (i : IniPort) (r : NocReq) : State :=
  let v := s.ini i
  let full := match i with
    | .quay _ => decide (256 ≤ v.out.length + v.fences.length)
    | _ => false
  let used := v.out.any (fun o => o.tag = r.tag) || v.dead.contains r.tag || v.fences.any fun f => f.tag = r.tag
  if s.portState (iniPort i) ≠ 0 then s
  else if !requestFits r then s.refuseRequest i r
  else match s.destPort (iniPort i / 64) r.addr.toNat with
    | none => s.refuseRequest i r
    | some d =>
      let p : Packet :=
        { opcode := opCode r.op, vc := opVc r.op, cls := r.cls, dest := BitVec.ofNat 10 d,
          src := BitVec.ofNat 10 (iniPort i), tag := r.tag, key := if r.addr.toNat / 2 ^ 52 = 0 then r.key else 0,
          len := r.len, seq := 0, hops := 0, status := 0, synth := false, addr := r.addr,
          be := if opWrites r.op then r.be else 0, info := 0, hcrc := 0, data := flits r.data }
      if opPosted r.op then s.sendPosted i p
      else if full || used then s
      else
        let s := s.setIni i { v with out := v.out ++ [{ tag := r.tag, dest := BitVec.ofNat 10 d, op := opCode r.op,
                                                        addr := r.addr, issued := s.now }] }
        s.send (.router (portRouter (iniPort i))) p

/-- The exception of an uncorrectable L2 word (R94): instruction, load or store access fault. -/
def l2Cause : CoreAccess → Nat
  | .fetch => 1 | .load => 5 | .store => 7

/-- The pieces of the host requests that no FLUSH holds back enter the network, each with a tag of its own (R372,
R373). -/
def State.sendPieces (s : State) : State :=
  let step (r : HostReq) (s : State) (c : HostPiece) : State :=
    if !r.fences.isEmpty || c.tag.isSome then s else
    match s.freeTag .pciA with
    | none => s
    | some t =>
      let f := if r.fn = 0 then (PCI_FN_CFG.cls, PCI_FN_CFG.key) else (PCI_FN_CFG1.cls, PCI_FN_CFG1.key)
      let q : NocReq :=
        { op := if r.bar = 0 then .mrd else .rd, addr := BitVec.ofNat 56 c.addr, len := BitVec.ofNat 8 (c.len - 1),
          cls := BitVec.ofNat 2 (s.get f.1), key := if r.bar = 4 then BitVec.ofNat 6 (s.get f.2) else 0, tag := t,
          be := 0, data := [] }
      let mark (d : HostPiece) : HostPiece := if d = c then { d with tag := some t } else d
      let s := { s with pci := { s.pci with reqs := s.pci.reqs.map fun e : HostReq =>
        if e.id = r.id then { e with pieces := e.pieces.map mark } else e } }
      s.issue .pciA q
  s.each s.pci.reqs fun s r => s.each r.pieces fun s c => step r s c

/-! ### Router registers -/

/-- What an unlisted injector reads as. -/
def injDefault : Nat → Injector := fun _ => {}

/-- The injector of an output. -/
def State.inj (s : State) (i o : Nat) : Injector := s.noc.injs.get injDefault (8 * i + o)

/-- Storing an injector. -/
def State.setInj (s : State) (i o : Nat) (v : Injector) : State :=
  { s with noc := { s.noc with injs := s.noc.injs.set injDefault (8 * i + o) v } }

/-- A write of an injector's control (R307): arm arms it where fi_enable is 1 and the VC is not the reserved one. -/
def State.writeFi (s : State) (i o : Nat) (v : Word) : State :=
  let s := s.write (NOC_FI_CTRL.off i o) v
  if bit v 31 && s.is (NOC_RTR_CTRL.fi_enable i) && decide (s.get (NOC_FI_CTRL.vc i o) ≠ 3) then
    let s := s.put (NOC_FI_CTRL.armed i o) 1
    s.setInj i o { s.inj i o with
      skip := s.get (NOC_FI_CTRL.skip i o), times := s.get (NOC_FI_CTRL.times i o), acted := false }
  else s

/-- A write of NOC_RTR_CTRL (R301): hold_apply is ignored while the router is in HOLD. -/
def State.writeRtr (s : State) (i : Nat) (v : Word) : State :=
  let s := s.write (NOC_RTR_CTRL.off i) v
  if bit v 31 && !s.is (NOC_RTR_STAT.hold i) then
    { s.put (NOC_RTR_STAT.hold i) 1 with noc := { s.noc with holds := s.noc.holds.set natDefault i s.now } }
  else s

end Sys2Proof.Machine
end

