-- ==== Sys2Proof/Machine/ControlComplex.lean ====
section
/-! DEFINITION. The cores' commands and the L2 array (R399 to R406, R413 to R416). -/

namespace Sys2Proof.Machine

open Reg

/-! ### Starting and stopping -/

/-- A core leaves reset at its reset vector; xccwake says reset or core reset (R402, R403). -/
def State.startCore (s : State) (c : Nat) : State :=
  let wake : BitVec 2 := if (s.core c).stopped then 3 else 0
  s.setCore c { running := true, pc := BitVec.ofNat 64 (s.getWide (CC_RESET_VEC.off c 0) 2), wake := wake }

/-- A write of CC_CORE_CTRL (R403): setting run starts the core, clearing it resets the core. -/
def State.coreCtrlWrite (s : State) (c : Nat) (v : Word) : State :=
  let was := s.is (CC_CORE_CTRL.run c)
  let s := s.write (CC_CORE_CTRL.off c) v
  if bit v 0 then (if !was && s.domOpen (0x120 + c) then s.startCore c else s)
  else if was then s.setCore c { stopped := true }
  else s

/-- CORE_RUN (R403). -/
def execCoreRun (c : Fin 8) (v : Word) (s : State) : Out := .next (s.coreCtrlWrite c v)

/-- CORE_STOP (R403). -/
def execCoreStop (c : Fin 8) (v : Word) (s : State) : Out := .next (s.coreCtrlWrite c v)

/-! ### Instructions that the part defines -/

/-- FENCE_INSTRUCTION (R401): with device output in its predecessor set, a fence completes with the status of the NoC
fence, and a non-OK status sets cause 17; a fence has no address, so the one in xccbuserr is open. -/
def execFenceInstruction (c : Fin 8) (deviceOut : Bool) (status : BitVec 4) (s : State) : Out :=
  let k := s.core c
  if !k.running || k.sleep ≠ 0 then .next s else
  let s := s.setCore c { k with pc := k.pc + 4 }
  if deviceOut && decide (status ≠ 0) then
    let got := s.fresh 56
    let a := got.1
    let s := got.2
    .next (s.busError c a.toNat status.toNat)
  else .next s

/-- FAST_TRAP (R413): cause 16 is raised, xccfast.en and mie[16] are 1, and no fast handler is active. -/
def execFastTrap (c : Fin 8) (s : State) : Out :=
  let k := s.core c
  if !k.running || k.sleep ≠ 0 || !s.causePending c 16 || !k.fastEn || !k.mie.getLsbD 16 || k.active then .next s
  else .next (s.setCore c { k with fepc := k.pc, fastPrv := k.priv, active := true, priv := 3, pc := k.ftvec })

/-- mstatus after the privileged architecture's MRET: MIE takes MPIE, MPIE becomes 1, MPP becomes U, and MPRV clears on
a return below M. -/
def mretStatus (m : BitVec 64) : BitVec 64 :=
  let mpie := m.getLsbD 7
  let below := decide (m.toNat / 2 ^ 11 % 4 ≠ 3)
  let m := m &&& ~~~(BitVec.ofNat 64 (2 ^ 3 + 3 * 2 ^ 11 + (if below then 2 ^ 17 else 0)))
  m ||| BitVec.ofNat 64 (2 ^ 7 + (if mpie then 2 ^ 3 else 0))

/-- MRET (R414): from a nested exception to mepc; at the end of a fast handler to xccfepc and the ordinary registers;
else as the privileged architecture lays down. Below M mode it is an illegal instruction. -/
def execMret (c : Fin 8) (s : State) : Out :=
  let k := s.core c
  if !k.running || k.sleep ≠ 0 then .next s
  else if k.priv ≠ 3 then
    let got := s.fresh 64
    let v := got.1
    let s := got.2
    .next (s.setCore c (k.exception 2 v.toNat))
  else if k.active && !k.nested then
    .next (s.setCore c { k with pc := k.fepc, priv := k.fastPrv, active := false })
  else .next (s.setCore c { k with pc := k.mepc, priv := BitVec.ofNat 2 (k.mstatus.toNat / 2 ^ 11),
                                   mstatus := mretStatus k.mstatus, nested := false })

/-! ### Sleep and wake -/

/-- The native wake condition (R415): a source that is pending, enabled and names the core, or cause 3, 7 or 17. -/
def State.wakeNative (s : State) (c : Nat) : Bool :=
  ((List.range 1023).any fun n => s.is (sourceBit IC_PEND.v n) && s.is (sourceBit IC_EN.v n)
    && decide (s.get (IC_SRC_CFG.target n) / 2 ^ c % 2 = 1))
  || s.causePending c 3 || s.causePending c 7 || s.causePending c 17

/-- What an unlisted retained state reads as. -/
def retainedDefault : Nat → Option Retained := fun _ => none

/-- The wake condition in ZN3200 deep sleep (R416): a deliverable source whose class was enabled at sleep. -/
def State.wakeCompat (s : State) (c : Nat) : Bool :=
  match s.cc.retained.get retainedDefault c with
  | none => s.wakeNative c
  | some r =>
    let smode := bit r.cfg 0
    (List.range 1023).any fun n => s.deliverable c n &&
      r.mie.getLsbD (if s.is (IC_SRC_CFG.cls n) then 16 else if smode then 9 else 11)

/-- What the control complex does as core `c`'s domain enters CLOSING (R415, R416, R424): in native mode every source
that the core holds is completed, in ZN3200 mode they and IC_CORE_CFG are retained; its running task returns. -/
def State.coreClosing (s : State) (c : Nat) : State :=
  let held := s.heldBy c
  let s := if s.is CC_CTRL.zn3200 then
      let r : Retained := { insv := held, cfg := s.word (IC_CORE_CFG.off c), mie := (s.core c).mie }
      { s with cc := { s.cc with retained := s.cc.retained.set retainedDefault c (some r) } }
    else s.each held fun s n => s.completeSource n
  s.returnTasks c

/-- WFI (R415): the core's clock stops; with deep set, its power domain enters CLOSING. -/
def execWfi (c : Fin 8) (s : State) : Out :=
  let k := s.core c
  if !k.running || k.sleep ≠ 0 then .next s
  else if k.deep then
    let s := (s.setCore c { k with pc := k.pc + 4, sleep := 2 }).setDom (0x120 + c) 1
    .next (s.coreClosing c)
  else .next (s.setCore c { k with pc := k.pc + 4, sleep := 1 })

/-- `n` free words. -/
def State.freshRegs (s : State) : Nat → KMap (BitVec 64) × State
  | 0 => ([], s)
  | n + 1 =>
    let got := s.freshRegs n
    let m := got.1
    let s := got.2
    let got := s.fresh 64
    let v := got.1
    let s := got.2
    (m.set (fun _ => 0) (n + 1) v, s)

/-- CORE_WAKE (R415, R416): under its wake condition a core in WFI goes on; a core in deep sleep has its domain reopened
and starts at its wake vector with its registers lost, in ZN3200 mode with the interrupt state restored. -/
def execCoreWake (c : Fin 8) (s : State) : Out :=
  let k := s.core c
  if k.sleep = 1 then .next (if s.wakeNative c then s.setCore c { k with sleep := 0 } else s)
  else if k.sleep = 2 then
    let kept := s.cc.retained.get retainedDefault c
    let wakes := if kept.isSome then s.wakeCompat c else s.wakeNative c
    let dom := s.get (PWR_DOM.state (0x120 + c))
    if !wakes || dom = 1 || dom = 3 then .next s else
    let got := s.freshRegs 31
    let a := got.1
    let s := got.2
    let got := s.freshRegs 31
    let b := got.1
    let s := got.2
    let s := s.when (decide (dom = 2)) fun s => (s.setDom (0x120 + c) 0).raise pagePWR 2 INFO 0x1103 (0x120 + c.val) 0
    let s := s.setCore c { running := true, pc := BitVec.ofNat 64 (s.getWide (CC_WAKE_VEC.off c 0) 2),
                           wake := if kept.isSome then 2 else 1, regs := a, fastRegs := b }
    match kept with
    | none => .next s
    | some r =>
      let s := s.setWord (IC_CORE_CFG.off c) r.cfg
      .next { s with cc := { s.cc with retained := s.cc.retained.set retainedDefault c none } }
  else .next s

/-- Scheduler time reaches `t` ns: a command that comes at a scheduler time brings the time there, never back. -/
def State.reachSched (s : State) (t : Nat) : State :=
  if t ≤ s.schedTime then s
  else if s.timeValid then
    s.reachTime (s.th.time + BitVec.ofNat 80 (t * 65536 - s.schedTime * 65536 - s.th.time.toNat % 65536))
  else s.elapse ((t - s.schedTime + 9) / 10 * 16)

/-- MACHINE_TIMER (R402): scheduler time reaches CC_MTIMECMP, and cause 7 is pending from then on. A compare value that
is never reached, all ones as at reset, leaves the time alone. -/
def execMachineTimer (c : Fin 8) (s : State) : Out :=
  let t := s.getWide (CC_MTIMECMP.off c 0) 2
  if t = 2 ^ 64 - 1 then .next s else .next (s.reachSched t)

/-! ### The L2 array -/

/-- A line of the L2 is written back to DRAM through port B (R406). -/
def State.l2WriteBack (s : State) (a : Nat) (l : Line) : State :=
  s.issue .ccB (writeReq .wrp a (toBytes l.toNat 64) 2 0xFFF)

/-- What an unlisted cached line reads as. -/
def cacheDefault : Nat → CacheLine := fun _ => {}

/-- What the write of L2PartitionWrite does. -/
def State.writeL2Part (s : State) (v : Word) : State :=
  let old := s.get CC_L2_PART.mem_ways
  let s := s.write CC_L2_PART.off v
  let new := s.get CC_L2_PART.mem_ways
  if old < new then
    let gone := s.cc.l2cache.filter fun e => old ≤ e.2.way && e.2.way < new
    let s := s.each gone fun s e => s.when e.2.dirty fun s => s.l2WriteBack (64 * e.1) e.2.data
    let got := s.fresh 1
    let s := got.2
    { s with cc := { s.cc with
      l2cache := s.cc.l2cache.filter fun e => !(old ≤ e.2.way && e.2.way < new),
      l2 := s.cc.l2.eraseRange (old * 2 ^ 18) (new * 2 ^ 18),
      l2epoch := (List.range (new - old)).foldl (fun m i => m.set natDefault (old + i) s.freeCount) s.cc.l2epoch } }
  else { s with cc := { s.cc with l2 := s.cc.l2.eraseRange (new * 2 ^ 18) (old * 2 ^ 18) } }

/-- L2_PARTITION_WRITE (R405): raising mem_ways writes back and invalidates the ways that the cache gives up; lowering it
loses the content of the ways that memory gives up. -/
def execL2PartitionWrite (v : Word) (s : State) : Out := .next (s.writeL2Part v)

/-- The lines that a maintenance operation covers, as line numbers (R406). -/
def State.maintRange (s : State) : Nat × Nat :=
  let a := s.getWide (CC_L2_MAINT.off 0) 2 % 2 ^ 56 / 64
  (a, a + s.get CC_L2_MAINT2.length)

/-- What the write of L2Maint does. -/
def State.writeL2Maint (s : State) (v : Word) : State :=
  if s.is CC_L2_MAINT2.busy then s else
  let s := s.write CC_L2_MAINT2.off v
  if !bit v 31 then s else
  let s := s.put CC_L2_MAINT2.busy 1
  if s.get CC_L2_MAINT2.op = 1 then s else
  let r := s.maintRange
  let dirty := s.cc.l2cache.filter fun e => r.1 ≤ e.1 && e.1 < r.2 && e.2.dirty
  (s.each dirty fun s e => s.l2WriteBack (64 * e.1) e.2.data)

/-- L2_MAINT (R406): a write of CC_L2_MAINT2; go starts the operation, and the lines to clean are written back. -/
def execL2Maint (v : Word) (s : State) : Out := .next (s.writeL2Maint v)

/-- L2_MAINT_COMPLETE (R406): cleaned lines are clean, invalidated lines are gone, and busy clears. -/
def execL2MaintComplete (s : State) : Out :=
  if !s.is CC_L2_MAINT2.busy then .next s else
  let r := s.maintRange
  let inside (n : Nat) : Bool := r.1 ≤ n && n < r.2
  let lines := if s.get CC_L2_MAINT2.op = 0 then
      s.cc.l2cache.mapEntries cacheDefault fun n l => if inside n then { l with dirty := false } else l
    else s.cc.l2cache.filter fun e => !inside e.1
  .next { s.put CC_L2_MAINT2.busy 0 with cc := { s.cc with l2cache := lines } }

end Sys2Proof.Machine
end

