-- ==== Sys2Proof/Machine/Interrupts.lean ====
section
/-! DEFINITION. The interrupt controller: edges, levels, claims, completions and the races of IC_PEND (R407 to R412). -/

namespace Sys2Proof.Machine

open Reg

/-- A rising edge of a source (R408): it counts in both modes, and in edge mode it sets pending. -/
def State.sourceRise (s : State) (n : Nat) : State :=
  if sourceReserved n then s else
  let s := s.count (IC_SRC_CFG.count n)
  s.when (!s.is (IC_SRC_CFG.mode n)) fun s => s.put (sourceBit IC_PEND.v n) 1

/-- An asserted level (R408): in level mode it sets pending while the source is not in service. -/
def State.sourceHigh (s : State) (n : Nat) : State :=
  s.when (!sourceReserved n && s.is (IC_SRC_CFG.mode n) && !s.is (sourceBit IC_INSV.v n)) fun s =>
    s.put (sourceBit IC_PEND.v n) 1

/-- The level of a fabric interrupt line changes. -/
def State.setSourceLine (s : State) (n : Nat) (b : Bool) : State :=
  if 536 ≤ n && n < 792 then { s with cc := { s.cc with lines := s.cc.lines.set lineDefault n b } } else s

/-- SOURCE_EDGE (R407, R408): a fabric line of a region that is not OPEN reads 0. -/
def execSourceEdge (src : Fin 1024) (s : State) : Out :=
  let n := src.val
  if 536 ≤ n && n < 792 && !s.domOpen (regionDom (s.firqRegion (n - 536))) then .next s
  else .next ((s.setSourceLine n true).sourceRise n)

/-- SOURCE_LEVEL (R407, R408): a page or dispatch source shows its own level, a fabric line the one given. -/
def execSourceLevel (src : Fin 1024) (asserted : Bool) (s : State) : Out :=
  let n := src.val
  let s := s.setSourceLine n asserted
  .next (s.when (s.sourceLevel n) fun s => s.sourceHigh n)

/-- What the write of Swi does. -/
def State.writeSwi (s : State) (v : Word) : State :=
  (s.each (List.range 16) fun s n => s.when (bit v n) fun s => (s.sourceRise n).sourceHigh n)

/-- SWI (R407): each bit written as 1 pulses its firmware source. -/
def execSwi (v : Word) (s : State) : Out := .next (s.writeSwi v)

/-- A claim by core `c` (R410): pending and counter clear, the source is in service to the core, and the read returns its
number and count; with none, 1023. -/
def State.claim (s : State) (c : Nat) (fast : Bool) (r : Nat) : State :=
  match s.lowestFor c fast with
  | none => (s.setWord r (BitVec.ofNat 32 1023)).answerWord (BitVec.ofNat 32 1023)
  | some n =>
    let w := BitVec.ofNat 32 (n + s.get (IC_SRC_CFG.count n) * 2 ^ 24)
    let s := ((s.put (sourceBit IC_PEND.v n) 0).put (sourceBit IC_INSV.v n) 1).put (IC_SRC_CFG.count n) 0
    let s := { s with cc := { s.cc with owner := s.cc.owner.set ownerDefault n (c + 1) } }
    (s.setWord r w).answerWord w

/-- CLAIM_NORMAL (R410). -/
def execClaimNormal (c : Fin 8) (s : State) : Out := .next (s.claim c false (IC_CLAIM_N.off c))

/-- CLAIM_FAST (R410). -/
def execClaimFast (c : Fin 8) (s : State) : Out := .next (s.claim c true (IC_CLAIM_F.off c))

/-- What the write of IcComplete does. -/
def State.writeComplete (s : State) (c : Fin 8) (v : Word) : State :=
  let n := bitsOf v 9 0
  if n = 1023 then s
  else if s.is (sourceBit IC_INSV.v n) && decide (s.cc.owner.get ownerDefault n = c.val + 1) then
    (s.completeSource n)
  else ((s.count (IC_CMPL_BAD.v c)).raise (pageICC c) 0 INFO 0x0D02 c n)

/-- IC_COMPLETE (R411): a source that the core did not claim, or that is not in service, is ignored and counted; 1023 is
ignored. -/
def execIcComplete (c : Fin 8) (v : Word) (s : State) : Out := .next (s.writeComplete c v)

/-- What the write of PendWrite does. -/
def State.writePend (s : State) (r : Fin 32) (v : Word) (hwSet : Word) : State :=
  let s := s.each (List.range 32) fun s b =>
    let n := 32 * r.val + b
    s.put (sourceBit IC_PEND.v n) (!sourceReserved n && (bit v b || bit hwSet b)).toNat
  (s.each (List.range 32) fun s b => s.when (s.sourceLevel (32 * r.val + b)) fun s => s.sourceHigh (32 * r.val + b))

/-- PEND_WRITE (R407, R412): the write replaces all 32 bits but those that hardware sets in the same cycle; an asserted
level source that is not in service pends again in the next cycle. -/
def execPendWrite (r : Fin 32) (v : Word) (hwSet : Word) (s : State) : Out := .next (s.writePend r v hwSet)

end Sys2Proof.Machine
end

