-- ==== Sys2Proof/Machine/Memories.lean ====
section
/-! DEFINITION. The ports of block and deep memories: reads, writes and narrow writes with collisions, injection and the
error outcomes (R76 to R88, R94, R95, R100), valid-bit clears, leaky buckets and the maintenance of lists and remap
entries (R82, R89 to R93). -/

namespace Sys2Proof.Machine

open Reg

/-! ### Which bits a port reaches -/

/-- How many data bits a width reaches, and whether it carries check bits as user data (R76). -/
def widthBits : PortWidth → Nat
  | .w1 => 1 | .w2 => 2 | .w4 => 4 | .w8 => 8 | .w16 => 16 | .w32 => 32 | .w64 => 64
  | .w9 => 8 | .w18 => 16 | .w36 => 32 | .w72 => 64

/-- Whether a width carries the check bits (R76). -/
def widthCheck : PortWidth → Bool
  | .w9 => true | .w18 => true | .w36 => true | .w72 => true
  | .w1 => false | .w2 => false | .w4 => false | .w8 => false | .w16 => false | .w32 => false | .w64 => false

/-- Whether a width exists only in ECC mode OFF (R76). -/
def widthOffOnly : PortWidth → Bool
  | .w9 => true | .w18 => true | .w36 => true
  | .w1 => false | .w2 => false | .w4 => false | .w8 => false | .w16 => false | .w32 => false | .w64 => false
  | .w72 => false

/-- The word that a port address reaches, and the place of its bits within the word (R76). -/
def portPlace (cfg : PortCfg) (depth a : Nat) : Nat × Nat :=
  let per := 64 / widthBits cfg.width
  (a / per % depth, a % per)

/-- The 72-bit mask of the bits that a port writes at its address under its write enables (R76). -/
def portMask (cfg : PortCfg) (m : Nat) (we : BitVec 8) : BitVec 72 :=
  let n := widthBits cfg.width
  if n = 64 then
    let d := (List.range 8).foldl (fun a b => a + if we.getLsbD b then 255 * 2 ^ (8 * b) else 0) 0
    BitVec.ofNat 72 (d + if cfg.ecc || !widthCheck cfg.width then 0 else we.toNat * 2 ^ 64)
  else
    let d := (2 ^ n - 1) * 2 ^ (n * m)
    BitVec.ofNat 72 (d + if widthCheck cfg.width then (2 ^ (n / 8) - 1) * 2 ^ (64 + n / 8 * m) else 0)

/-- The 72-bit word that the pins' data makes at the port's place (R76). Widths with check bits carry each byte with its
check bit above it. -/
def portData (cfg : PortCfg) (m : Nat) (din : BitVec 72) : BitVec 72 :=
  let n := widthBits cfg.width
  let v := din.toNat
  if n = 64 then din
  else if widthCheck cfg.width then
    BitVec.ofNat 72 ((List.range (n / 8)).foldl (fun a j =>
      a + v / 2 ^ (9 * j) % 256 * 2 ^ (8 * (n / 8 * m + j)) + v / 2 ^ (9 * j + 8) % 2 * 2 ^ (64 + (n / 8 * m + j))) 0)
  else BitVec.ofNat 72 (v % 2 ^ n * 2 ^ (n * m))

/-- What a port shows of a word: the bits that its address reaches (R76, R78). -/
def portView (cfg : PortCfg) (m : Nat) (w : BitVec 72) : BitVec 72 :=
  let n := widthBits cfg.width
  let v := w.toNat
  if n = 64 then (if widthCheck cfg.width then w else BitVec.ofNat 72 (v % 2 ^ 64))
  else if widthCheck cfg.width then
    BitVec.ofNat 72 ((List.range (n / 8)).foldl (fun a j =>
      a + v / 2 ^ (8 * (n / 8 * m + j)) % 256 * 2 ^ (9 * j) + v / 2 ^ (64 + (n / 8 * m + j)) % 2 * 2 ^ (9 * j + 8)) 0)
  else BitVec.ofNat 72 (v / 2 ^ (n * m) % 2 ^ n)

/-- Whether an access writes: a write enable at 1 (R76, R77). -/
def portWrites (cfg : PortCfg) (we : BitVec 8) : Bool :=
  if widthBits cfg.width = 64 then decide (we ≠ 0) else we.getLsbD 0

/-- Whether a write in ECC mode ON is narrow (R85). -/
def portNarrow (cfg : PortCfg) (we : BitVec 8) : Bool :=
  decide (widthBits cfg.width < 64) || decide (we ≠ 0xFF)

/-! ### Reads -/

/-- A word as a port reads it: the 72 bits to show, ECOR and EUNC. -/
structure Seen where
  word : BitVec 72
  data : Nat
  ecor : Bool
  eunc : Bool
deriving DecidableEq, Repr

/-- The number under which a port is kept. -/
def memPortKey (m : MemRef) (portB : Bool) : Nat := 2 * memKey m + portB.toNat

/-- A disagreeing cell of a valid bit is rewritten and counted (R82). -/
def State.healValid (s : State) (m : MemRef) (w : Nat) (masked : Bool) : State :=
  let v := (s.cell (memKey m) w).valid
  if !m.deep || v = 0 || v = 7 then s else
  let s := s.setValid m w (majority v)
  if masked then s else
  let got := s.fresh 7
  let b := got.1
  let s := got.2
  s.correctedError (memBucket m) m.inst w b.toNat

/-- Reading a word at a port with its error outcome (R82 to R84, R92, R94); `masked` says that a collision hides the
outcome (R79). -/
def State.readWord (s : State) (m : MemRef) (portB ecc : Bool) (w : Nat) (masked : Bool) : Seen × State :=
  let s := s.healValid m w masked
  let (v, poison) := s.stored m w
  if m.deep && !majority (s.cell (memKey m) w).valid then (⟨0, 0, false, false⟩, s)
  else if !ecc then (⟨v, wordData v, false, false⟩, s)
  else
    let d := decodeWord v
    if poison then
      let syn := wordCheck v ^^^ checkByte (wordData v)
      (⟨v, wordData v, false, true⟩, if masked then s else s.uncorrectable m portB w syn)
    else match d with
      | .good => (⟨v, wordData v, false, false⟩, s)
      | .corrected b x =>
        (⟨BitVec.ofNat 72 (x + wordCheck v * 2 ^ 64), x, true, false⟩,
          if masked then s else s.correctedError (memBucket m) m.inst w b)
      | .bad syn => (⟨v, wordData v, false, true⟩, if masked then s else s.uncorrectable m portB w syn)

/-! ### Writes -/

/-- An armed injection on a memory: its mask, and the state with it used (R100). -/
def State.injection (s : State) (m : MemRef) : Nat × State :=
  let r := m.region.val
  if s.is (RGN_MEM_ECC_INJ.arm r) && s.is (RGN_MEM_ECC_INJ.kind r) == m.deep && s.get (RGN_MEM_ECC_INJ.inst r) = m.inst.val
  then (s.get (RGN_MEM_ECC_INJ.mask r), s.put (RGN_MEM_ECC_INJ.arm r) 0) else (0, s)

/-- A whole word of data is stored with its code, as an armed injection leaves it; a deep-memory word becomes valid
(R75, R82, R83, R100). -/
def State.writeCoded (s : State) (m : MemRef) (w d : Nat) (full : Bool) : State :=
  let got := s.injection m
  let mask := got.1
  let s := got.2
  (s.storeWord m w (coded d ^^^ BitVec.ofNat 72 (mask * 2 ^ 64)) full).setValid m w true

/-- Whether the other port's access spoils a stored word (R79). -/
def spoilsStore : Collision → Bool
  | .commonWrite => true | .indepWrite => true | .none => false | .commonRead => false | .indepRead => false

/-- Whether the other port's access hides a read's error outcome (R79). -/
def collides : Collision → Bool
  | .none => false | .commonRead => true | .commonWrite => true | .indepRead => true | .indepWrite => true

/-- A word whose stored bits a collision leaves undefined (R79). -/
def State.spoilWord (s : State) (m : MemRef) (w : Nat) : State :=
  let got := s.fresh 72
  let v := got.1
  let s := got.2
  (s.storeWord m w v false).setValid m w true

/-! ### The port at an edge -/

/-- What a port shows after an edge. -/
def State.showPort (s : State) (m : MemRef) (portB : Bool) (v : BitVec 72) (ecor eunc : Bool) : State :=
  let k := memPortKey m portB
  let p := s.mem.ports.get memPortDefault k
  { s with mem := { s.mem with ports := s.mem.ports.set memPortDefault k { p with dout := v, ecor := ecor, eunc := eunc } } }

/-- The output register at an edge: ORCLR clears it, OREN takes what DOUT showed (R77). -/
def State.outputReg (s : State) (m : MemRef) (portB : Bool) (pins : PortPins) : State :=
  let k := memPortKey m portB
  let p := s.mem.ports.get memPortDefault k
  let q := if pins.orclr then { p with outReg := 0, outEcor := false, outEunc := false }
    else if pins.oren then { p with outReg := p.dout, outEcor := p.ecor, outEunc := p.eunc } else p
  { s with mem := { s.mem with ports := s.mem.ports.set memPortDefault k q } }

/-- A read at an edge (R77, R79, R84). -/
def State.portRead (s : State) (m : MemRef) (portB : Bool) (cfg : PortCfg) (pins : PortPins) (w j : Nat) : State :=
  if pins.other = .indepWrite then
    let got := s.fresh 72
    let v := got.1
    let s := got.2
    let got := s.fresh 2
    let f := got.1
    let s := got.2
    s.showPort m portB (portView cfg j v) (f.getLsbD 0) (f.getLsbD 1)
  else
    let got := s.readWord m portB cfg.ecc w (collides pins.other)
    let x := got.1
    let s := got.2
    s.showPort m portB (portView cfg j x.word) x.ecor x.eunc

/-- A write at an edge: full, or a read-modify-write where it is narrow in ECC mode ON (R78, R79, R85, R87). -/
def State.portWrite (s : State) (m : MemRef) (portB : Bool) (cfg : PortCfg) (pins : PortPins) (w j : Nat) : State :=
  let mask := portMask cfg j pins.we
  let din := portData cfg j pins.din
  let hide := collides pins.other
  let poisoned := (s.stored m w).2
  if !cfg.ecc then
    let old := (s.stored m w).1
    let new := (old &&& ~~~mask) ||| (din &&& mask)
    let s := if spoilsStore pins.other then s.spoilWord m w
      else s.storeWord m w new (decide (mask.toNat % 2 ^ 64 = 2 ^ 64 - 1))
    match cfg.rdw with
    | .showNew => s.showPort m portB (portView cfg j new) false false
    | .showOld => s.showPort m portB (portView cfg j old) false false
    | .keep => s
  else if portNarrow cfg pins.we then
    let got := s.readWord m portB true w hide
    let x := got.1
    let s := got.2
    let d := x.data
    let merged := ((BitVec.ofNat 72 d &&& ~~~mask) ||| (din &&& mask)).toNat % 2 ^ 64
    let s := if spoilsStore pins.other then s.spoilWord m w
      else if x.eunc || poisoned then s
      else s.writeCoded m w merged false
    let shown := if x.eunc then x.word else coded merged
    match cfg.rdw with
    | .showNew => s.showPort m portB (portView cfg j shown) x.ecor x.eunc
    | .showOld => s.showPort m portB (portView cfg j x.word) x.ecor x.eunc
    | .keep =>
      let p := s.mem.ports.get memPortDefault (memPortKey m portB)
      s.showPort m portB p.dout x.ecor x.eunc
  else
    let d := wordData din
    let store (s : State) : State := if spoilsStore pins.other then s.spoilWord m w else s.writeCoded m w d true
    match cfg.rdw with
    | .showOld =>
      let got := s.readWord m portB true w hide
      let x := got.1
      let s := got.2
      (store s).showPort m portB (portView cfg j x.word) x.ecor x.eunc
    | .showNew => (store s).showPort m portB (portView cfg j (coded d)) false false
    | .keep => store s

/-- Whether a port can be set and used so (R74 to R76, R81): the instance is there, a deep memory is in ECC mode ON at
72 bits, port B of a deep memory only reads, and the byte-lane widths are used in ECC mode OFF. -/
def portFits (m : MemRef) (portB : Bool) (cfg : PortCfg) (pins : PortPins) : Bool :=
  if m.deep then decide (m.inst.val < 6) && cfg.ecc && decide (cfg.width = .w72) && !(portB && portWrites cfg pins.we)
  else !(cfg.ecc && widthOffOnly cfg.width)

/-- Whether a memory's ports act: its region is OPEN, its stall is not in reset, and no BIST runs in it (R96, R97,
R264). -/
def State.memActs (s : State) (m : MemRef) : Bool :=
  s.domOpen (regionDom m.region) && !s.stallHeld (s.memStall m)
    && !(s.mem.bists.get bistDefault m.region).contains (m.deep, m.inst.val)

/-- A port at an active edge with EN at 1 (R77): the image's ECC mode of the block is the one that its port carries. A
standby discards what its own fabric writes to a marked memory (R459). -/
def State.portEdge (s : State) (m : MemRef) (portB : Bool) (cfg : PortCfg) (pins : PortPins) : Out :=
  if !portFits m portB cfg pins then .fault .illFormed
  else if !s.memActs m then .next s
  else if portWrites cfg pins.we && s.standby && s.marked (memKey m) then .next (s.count PAIR_REFUSED.v)
  else
    let s := { s with mem := { s.mem with eccOff := s.mem.eccOff.set offDefault (memKey m) (!cfg.ecc) } }
    let (w, j) := portPlace cfg (memDepth m) pins.addr.toNat
    let s := s.when cfg.outReg fun s => s.outputReg m portB pins
    if portWrites cfg pins.we then .next (s.portWrite m portB cfg pins w j)
    else .next (s.portRead m portB cfg pins w j)

/-- MEMORY_PORT_WRITE (R76 to R79, R83, R100). -/
def execMemoryPortWrite (m : MemRef) (portB : Bool) (cfg : PortCfg) (pins : PortPins) (s : State) : Out := mirrored (fun s =>
  s.portEdge m portB cfg pins) s

/-- MEMORY_PORT_READ (R77, R79, R82, R84, R92, R94, R95). -/
def execMemoryPortRead (m : MemRef) (portB : Bool) (cfg : PortCfg) (pins : PortPins) (s : State) : Out := mirrored (fun s =>
  s.portEdge m portB cfg pins) s

/-- NARROW_WRITE (R85, R87). -/
def execNarrowWrite (m : MemRef) (portB : Bool) (cfg : PortCfg) (pins : PortPins) (s : State) : Out := mirrored (fun s =>
  s.portEdge m portB cfg pins) s

/-- CLRV (R82): all 4,096 valid bits clear. -/
def execClrv (region : Fin 240) (inst : Fin 6) (s : State) : Out := mirrored (fun s =>
  let m : MemRef := { deep := true, region := region, inst := Fin.ofNat 72 inst.val }
  if !s.memActs m then .next s
  else if s.standby && s.marked (memKey m) then .next (s.count PAIR_REFUSED.v)
  else .next (s.clearValid m)) s

/-- LEAK_PERIOD (R89). -/
def execLeakPeriod (b : Bucket) (s : State) : Out :=
  let f := CB_LVL.level (bucketBase b)
  .next (s.put f (s.get f - 1))

/-- ROL_ENTRY_FREE (R90): writing 1 to the valid bit frees the entry, which then reads all zero. -/
def execRolEntryFree (b : Bucket) (e : Fin 8) (v : Word) (s : State) : Out :=
  if bit v 31 then .next (s.setWord (ROL.off (bucketBase b) e) 0) else .next s

/-! ### Remap entries -/

/-- The register of a remap entry and its page. -/
def remapOff : RemapRef → Nat
  | .bm r e => RMP.off (rmpBase false r) e
  | .dm r e => RMP.off (rmpBase true r) e
  | .sram i e => bucketBase (.sram i) + 0x40 + 4 * e

/-- How many words a system SRAM has (R24, R74, R99): 4 MiB of context memory and L2, 512 KiB of counter cache. -/
def sramWords (i : Nat) : Nat := if i = 0 || i = 9 then 524288 else 65536

/-- The memory that a block or deep-memory entry names: the block index for a column, the deep memory for its entries. -/
def remapMem (deep : Bool) (region : Fin 240) (e : Fin 24) (v : Word) : MemRef :=
  { deep := deep, region := region,
    inst := Fin.ofNat 72 (if deep then e.val / 4 else 12 * (e.val / 4) + bitsOf v 15 12) }

/-- The copy of a word into its spare (R92): corrected, or as read with the poison bit. -/
def State.copyToSpare (s : State) (m : MemRef) (w k off : Nat) : State :=
  let (c, poison) := s.stored m w
  if s.mem.eccOff.get offDefault (memKey m) then s.setSpare k c
  else match poison, decodeWord c with
    | false, .good => s.setSpare k c
    | false, .corrected _ d => s.setSpare k (coded d)
    | false, .bad _ => (s.setSpare k c).put ⟨off, 29, 29⟩ 1
    | true, _ => (s.setSpare k c).put ⟨off, 29, 29⟩ 1

/-- The eight bytes of an L2 word (R405). -/
def State.l2Word (s : State) (w : Nat) : List Byte := s.cc.l2.getMany s.l2Default (8 * w) 8

/-- A write of a remap entry (R91 to R93): ignored while the page is locked, while the entry is fused, or where it sets
valid on a valid entry; a valid entry copies the word and redirects; clearing valid returns accesses to the original
word. -/
def State.remapWrite (s : State) (r : RemapRef) (v : Word) : State :=
  let off := remapOff r
  let old := s.word off
  if s.locked (pageBase off) || bit old 30 || (bit old 31 && bit v 31) then s else
  match r with
  | .bm region e =>
    let w := bitsOf v 11 0
    let fits := decide (bitsOf v 15 12 ≤ 11) && decide (w ≤ 511)
    let m := remapMem false region e v
    let on := bit v 31 && fits
    let k := spareKey false region e
    let s := if on then (s.put ⟨off, 29, 29⟩ 0).copyToSpare m w k off else s
    (s.put ⟨off, 15, 0⟩ (bitsOf v 15 0)).put ⟨off, 31, 31⟩ on.toNat
  | .dm region e =>
    let w := bitsOf v 11 0
    let m := remapMem true region e v
    let s := if bit v 31 then (s.put ⟨off, 29, 29⟩ 0).copyToSpare m w (spareKey true region e) off else s
    (s.put ⟨off, 11, 0⟩ w).put ⟨off, 31, 31⟩ (bit v 31).toNat
  | .sram i e =>
    let w := bitsOf v 18 0
    let on := bit v 31 && decide (w < sramWords i)
    let k := 16 * i.val + e.val
    let s := if i.val = 9 then
        if on then { s with mem := { s.mem with stale := s.mem.stale.set staleDefault k (some (s.l2Word w)) } }
        else if bit old 31 then
          let cc := match s.mem.stale.get staleDefault k with
            | some bs => { s.cc with l2 := s.cc.l2.setMany s.l2Default (8 * bitsOf old 18 0) bs }
            | none => s.cc
          { s with cc := cc, mem := { s.mem with stale := s.mem.stale.set staleDefault k none } }
        else s
      else s
    (s.put ⟨off, 18, 0⟩ w).put ⟨off, 31, 31⟩ on.toNat

/-- REMAP_ENTRY_SET (R92). -/
def execRemapEntrySet (r : RemapRef) (v : Word) (s : State) : Out := .next (s.remapWrite r v)

/-- REMAP_ENTRY_CLEAR (R93). -/
def execRemapEntryClear (r : RemapRef) (v : Word) (s : State) : Out := .next (s.remapWrite r v)

/-! ### Injection -/

/-- What the write of EccInjectArm does. -/
def State.writeEccInj (s : State) (region : Fin 240) (v : Word) : State :=
  let s := s.write (RGN_MEM_ECC_INJ.off region) v
  if bit v 31 then (s.put (RGN_MEM_ECC_INJ.arm region) 1) else s

/-- ECC_INJECT_ARM (R100): the write stores the mask and its target, and arm arms it. -/
def execEccInjectArm (region : Fin 240) (v : Word) (s : State) : Out := .next (s.writeEccInj region v)

end Sys2Proof.Machine
end

