-- ==== Sys2Proof/Machine/StreamOps.lean ====
section
/-! DEFINITION. Stream contexts as several commands use them: their registers, what they may issue, their records and
their ends (R376 to R394). -/

namespace Sys2Proof.Machine

open Reg

/-! ### A context -/

/-- What an unlisted context reads as. -/
def ctxDefault : Nat → StreamCtx := fun _ => {}

/-- A context. -/
def State.ctx (s : State) (n : Nat) : StreamCtx := s.se.ctxs.get ctxDefault n

/-- Storing a context. -/
def State.setCtx (s : State) (n : Nat) (c : StreamCtx) : State :=
  { s with se := { s.se with ctxs := s.se.ctxs.set ctxDefault n c } }

/-- The enabled contexts. -/
def State.ctxsOn (s : State) : List Nat := (s.se.ctxs.filter fun e : Nat × StreamCtx => e.2.on).map Prod.fst

/-- The entries of a context's rings (R379). -/
def State.ringLen (s : State) (n : Nat) : Nat := 2 ^ s.get (SE_SC_DRING_HI.size n)

/-- The NoC addresses of its rings. -/
def State.dring (s : State) (n : Nat) : Nat :=
  s.get (SE_SC_DRING_HI.addr_hi n) * 2 ^ 32 + s.get (SE_SC_DRING_LO.addr_lo n) * 64
def State.cring (s : State) (n : Nat) : Nat :=
  s.get (SE_SC_CRING_HI.addr_hi n) * 2 ^ 32 + s.get (SE_SC_CRING_LO.addr_lo n) * 64

/-- Whether an address lies in host space. -/
def isHost (a : Nat) : Bool := a / 2 ^ 52 = 1

/-- The function that owns a context. -/
def State.ctxFn (s : State) (n : Nat) : Nat := fnOf (s.get (SE_SC_FUNC.pf n)) (s.get (SE_SC_FUNC.vf n))

/-- Whether that function is host-reachable (R374). -/
def State.ctxReach (s : State) (n : Nat) : Bool := s.reachable (s.ctxFn n)

/-- The engine port of a context (R381). -/
def seIni (n : Nat) : IniPort := if n % 2 = 0 then .seA else .seB

/-- The ring positions that the context's registers name: the next to start, the next to record, and the tail. -/
def State.head (s : State) (n : Nat) : Nat := s.get (SE_SC_IDX.head n)
def State.done (s : State) (n : Nat) : Nat := s.get (SE_SC_IDX.done n)
def State.tail (s : State) (n : Nat) : Nat := s.get (SE_SC_DB.tail n) % s.ringLen n

/-- The state of a context (R377). -/
def State.ctxState (s : State) (n : Nat) : Nat := s.get (SE_SC_STAT.state n)
def State.setCtxState (s : State) (n v : Nat) : State := s.put (SE_SC_STAT.state n) v

/-- SE_SC_ERR of a context as a number, the second information word of its events (R397, R398). -/
def errWord (index detail status : Nat) : Nat := index * 65536 + detail * 4096 + status

/-- Whether a context holds a source or a destination in host space (R376). -/
def State.srcHost (s : State) (n : Nat) : Bool := s.get (SE_SC_CTRL.src_kind n) = 0
def State.dstHost (s : State) (n : Nat) : Bool := s.get (SE_SC_CTRL.dst_kind n) = 0

/-- The reads that a context has outstanding change by a number, at the context and at its port (R385, R397). -/
def State.outBy (s : State) (n : Nat) (d : Int) : State :=
  let p := if n % 2 = 0 then SE_OUT.port_a else SE_OUT.port_b
  let f := SE_SC_QUOTA.outstanding n
  (s.put f ((s.get f : Int) + d).toNat).put p ((s.get p : Int) + d).toNat

/-- The data reads that a context has outstanding. -/
def StreamCtx.reads (c : StreamCtx) : Nat :=
  c.work.foldl (fun a d => if d.desc.isSome then a + d.reads.length else a) 0

/-! ### Records -/

/-- The bytes of a record (R382). -/
def recordBytes (r : StreamRec) : List Byte :=
  toBytes r.cookie.toNat 8 ++ toBytes r.bytes 4 ++ toBytes r.pos 2 ++ toBytes r.status 1
    ++ toBytes (r.phase.toNat * 128 + r.detail) 1

/-- A request of a context: its class, and its key for DRAM (R381). -/
def State.ctxWrite (s : State) (n addr : Nat) (bs : List Byte) : State :=
  let r := writeReq .wrp addr bs (BitVec.ofNat 2 (s.get (SE_SC_CTRL.cls n))) 0
  s.issue (seIni n) { r with key := BitVec.ofNat 6 (s.get (SE_SC_CTRL.key n)) }

/-- Whether a record may be written now: a host ring needs its function reachable (R394), and the synchronous mode of a
pair its acknowledgement (R461). -/
def State.recordReady (s : State) (n : Nat) (r : StreamRec) : Bool :=
  let acked := match r.ack with
    | none => true
    | some p => decide (p ≤ s.pair.acked) || !s.mirrors || s.is PAIR_CTRL.mode
  acked && !s.fenced && (!isHost (s.cring n) || s.ctxReach n)

/-- Records go out in ring order as far as they are ready (R387, R394). -/
def State.sendRecords (s : State) (n : Nat) : List StreamRec → State × List StreamRec
  | [] => (s, [])
  | r :: rs =>
    if r.written then
      let (t, out) := s.sendRecords n rs
      (t, r :: out)
    else if s.recordReady n r then
      let (t, out) := (s.ctxWrite n (s.cring n + 16 * r.pos) (recordBytes r)).sendRecords n rs
      (t, { r with written := true } :: out)
    else (s, r :: rs)

/-- The records that wait for the host (R394). -/
def State.heldRecords (s : State) (n : Nat) : Nat :=
  if isHost (s.cring n) && !s.ctxReach n then ((s.ctx n).recs.filter fun r => !r.written).length else 0

/-- The context's records go out as far as they may. -/
def State.pushRecords (s : State) (n : Nat) : State :=
  let (t, rs) := s.sendRecords n (s.ctx n).recs
  t.setCtx n { t.ctx n with recs := rs }

/-- A record joins those to be written (R382); in a pair it is mirrored, and in synchronous mode it waits for its
acknowledgement (R461), though not during a copy by the survivor of a takeover (R469). -/
def State.addRecord (s : State) (n pos status detail bytes : Nat) (cookie : BitVec 64) (noIrq : Bool) : State :=
  let ph := s.is (SE_SC_STAT.phase n)
  let m := s.mirroredCtx n && s.mirrors
  let ack := if m && !s.is PAIR_CTRL.mode && !(s.pair.survivor && s.pair.copying) then some s.pair.nextPos else none
  let ph := if s.done n ≤ pos then ph else !ph
  let r : MirrorRec := { pos := BitVec.ofNat 16 pos, status := BitVec.ofNat 4 status, detail := BitVec.ofNat 4 detail,
                         bytes := BitVec.ofNat 32 bytes, cookie := cookie, phase := ph, noIrq := noIrq }
  let s := s.when m fun s => s.mirror (.record (BitVec.ofNat 16 n) r)
  let c := s.ctx n
  s.setCtx n { c with recs := c.recs ++ [{ pos := pos, status := status, detail := detail, bytes := bytes,
                                           cookie := cookie, noIrq := noIrq, ack := ack, phase := ph }] }

/-- The descriptors at the front of the ring whose data is visible get their OK records, up to 64 held (R387, R394). -/
def State.finish (s : State) (n : Nat) : Nat → State
  | 0 => s
  | k + 1 =>
    match (s.ctx n).work with
    | w :: ws =>
      match w.desc with
      | some d =>
        if w.visible && w.fail.isNone && decide (s.heldRecords n < 64) then
          let c := s.ctx n
          let s := (s.setCtx n { c with work := ws }).count SE_DESC_DONE.v
          let s := s.addRecord n w.pos 0 0 d.len.toNat d.cookie (bit d.flags 0)
          s.finish n k
        else s
      | none => s
    | [] => s

/-! ### The state that a context shows -/

/-- Whether a context waits for its function (R374, R377). -/
def State.waitsHost (s : State) (n : Nat) : Bool :=
  let c := s.ctx n
  !s.ctxReach n && ((isHost (s.dring n) && (decide (s.head n ≠ s.tail n) || c.work.any fun d => d.desc.isNone))
    || ((s.srcHost n || s.dstHost n) && c.work.any fun d => d.desc.isSome && !d.visible)
    || decide (0 < s.heldRecords n))

/-- The context shows its held records, the held-limit event at 64 of them (R394), and whether it is IDLE, RUNNING or in
WAIT_HOST (R377). -/
def State.showCtx (s : State) (n : Nat) : State :=
  let c := s.ctx n
  let held := s.heldRecords n
  let s := s.put (SE_SC_STAT.held n) (min held 64)
  let s := if 64 ≤ held && !c.limit then
      (s.setCtx n { c with limit := true }).raise pageSE0 3 INFO 0x0C04 n (errWord (s.done n) 0 0)
    else s.when (decide (held < 64) && c.limit) fun s => s.setCtx n { c with limit := false }
  let st := s.ctxState n
  if st = 1 || st = 2 || st = 3 then
    if 64 ≤ held then s.setCtxState n 3
    else if s.head n = s.tail n && c.work.isEmpty && c.recs.isEmpty then s.setCtxState n 1
    else if s.waitsHost n then s.setCtxState n 3
    else s.setCtxState n 2
  else s

/-- What follows any change of a context: finished descriptors get records, and records go out. -/
def State.progress (s : State) (n : Nat) : State :=
  ((s.finish n (s.ctx n).work.length).pushRecords n).showCtx n

/-! ### Ends -/

/-- A context is taken to DISABLED: nothing of it is outstanding any more; `keep` says that its records still go
out. -/
def State.ctxOff (s : State) (n : Nat) (keep : Bool) : State :=
  let c := s.ctx n
  let s := s.outBy n (-(c.reads : Int))
  let s := s.setCtx n { recs := if keep then c.recs else [] }
  ((s.put (SE_SC_CTRL.enable n) 0).setCtxState n 0).put (SE_SC_STAT.held n) (min (s.heldRecords n) 64)

/-- A descriptor fails: the context enters STOPPING (R388). -/
def State.failDesc (s : State) (n pos status detail : Nat) : State :=
  let c := s.ctx n
  let mark (d : StreamDesc) : StreamDesc :=
    if d.pos = pos && d.fail.isNone then { d with fail := some (status, detail) } else d
  let s := s.setCtx n { c with work := c.work.map mark }
  s.when (decide (1 ≤ s.ctxState n) && decide (s.ctxState n ≤ 3)) fun s => s.setCtxState n 4

/-- stop (R378): from RUNNING or WAIT_HOST the context enters STOPPING. -/
def State.stopCtx (s : State) (n : Nat) : State :=
  if s.ctxState n = 2 || s.ctxState n = 3 then
    (s.setCtx n { s.ctx n with stopped := true }).setCtxState n 4
  else s

/-- restart (R378): a HALTED context goes on after the descriptor that SE_SC_ERR names. -/
def State.restartCtx (s : State) (n : Nat) : State :=
  if s.ctxState n ≠ 5 then s else
  let i := s.get (SE_SC_ERR.index n)
  let next := (i + 1) % s.ringLen n
  let ph := s.is (SE_SC_STAT.phase n)
  let phI := if s.done n ≤ i then ph else !ph
  let s := (s.put (SE_SC_IDX.head n) next).put (SE_SC_IDX.done n) next
  let s := (s.putB (SE_SC_STAT.phase n) (if next = 0 then !phI else phI)).setWord (SE_SC_ERR.off n) 0
  let c := s.ctx n
  ((s.setCtx n { on := true, recs := c.recs }).setCtxState n 1).progress n

/-- Setting enable (R378): the positions below the tail are posted, unless the setting is refused. -/
def State.enableCtx (s : State) (n : Nat) : State :=
  let sk := s.get (SE_SC_CTRL.src_kind n)
  let dk := s.get (SE_SC_CTRL.dst_kind n)
  let size := s.get (SE_SC_DRING_HI.size n)
  if sk = 3 || dk = 3 || (sk = 0 && dk = 0) || size < 4 || 16 < size then s else
  let s := ((s.put (SE_SC_CTRL.enable n) 1).put (SE_SC_IDX.head n) 0).put (SE_SC_IDX.done n) 0
  let s := ((s.put (SE_SC_STAT.phase n) 1).setCtx n { on := true }).setCtxState n 1
  s.showCtx n

/-- Clearing enable (R378): DISABLED at once from IDLE or HALTED, else as stop. -/
def State.disableCtx (s : State) (n : Nat) : State :=
  if s.ctxState n = 1 || s.ctxState n = 5 then s.ctxOff n true
  else (s.setCtx n { s.ctx n with disabling := true }).stopCtx n

/-- A write of SE_SC_CTRL (R376, R378): enable stands until the context is DISABLED. -/
def State.writeScCtrl (s : State) (n : Nat) (v : Word) : State :=
  if s.ctxHeld n then s.count PAIR_REFUSED.v else
  let on := s.is (SE_SC_CTRL.enable n)
  let s := s.writeWhere (SE_SC_CTRL.off n)
    (fun f => f.lo ≠ 31 && !(on && (f.lo = 27 || f.lo = 25 || f.lo = 17))) v
  let s := if bit v 31 && !on then s.enableCtx n else if !bit v 31 && on then s.disableCtx n else s
  let s := s.when (bit v 29) fun s => s.stopCtx n
  s.when (bit v 30) fun s => s.restartCtx n

/-- A write of SE_SC_DB.tail (R379). -/
def State.writeTail (s : State) (n : Nat) (v : Word) : State :=
  if s.ctxHeld n then s.count PAIR_REFUSED.v else
  let s := s.write (SE_SC_DB.off n) v
  s.when (s.is (SE_SC_CTRL.enable n)) fun s => s.showCtx n

/-- A write of SE_SC_TOLL (R384): the balance changes by the difference at once. -/
def State.writeToll (s : State) (n : Nat) (v : Word) : State :=
  if s.ctxHeld n then s.count PAIR_REFUSED.v else
  let was := s.get (SE_SC_TOLL.toll n)
  let s := s.write (SE_SC_TOLL.off n) v
  s.putS (SE_SC_BAL.v n) (s.getS (SE_SC_BAL.v n) + ((s.get (SE_SC_TOLL.toll n) : Int) - (was : Int)))

/-- A write of another word of a context's entry (R376). -/
def State.writeCtxWord (s : State) (n off : Nat) (v : Word) : State :=
  if s.ctxHeld n then s.count PAIR_REFUSED.v else
  let on := s.is (SE_SC_CTRL.enable n)
  if off = SE_SC_FUNC.off n then
    s.writeWhere off (fun f => !on || f.lo = 16) v
  else if on && (off = SE_SC_DRING_LO.off n || off = SE_SC_DRING_HI.off n || off = SE_SC_CRING_LO.off n
      || off = SE_SC_CRING_HI.off n) then s
  else s.write off v

end Sys2Proof.Machine
end

