-- ==== Sys2Proof/Machine/Streams.lean ====
section
/-! DEFINITION. The stream engine: context commands, issue slots, descriptors, fences, records, tolls and sluices (R376
to R394). -/

namespace Sys2Proof.Machine

open Reg

/-! ### Context commands -/

/-- CONTEXT_ENABLE (R378): a write of SE_SC_CTRL. -/
def execContextEnable (n : BitVec 16) (v : Word) (s : State) : Out :=
  mirrored (fun s => .next (s.writeScCtrl n.toNat v)) s

/-- STOP (R378): a write of SE_SC_CTRL. -/
def execStop (n : BitVec 16) (v : Word) (s : State) : Out := mirrored (fun s => .next (s.writeScCtrl n.toNat v)) s

/-- RESTART (R378): a write of SE_SC_CTRL. -/
def execRestart (n : BitVec 16) (v : Word) (s : State) : Out := mirrored (fun s => .next (s.writeScCtrl n.toNat v)) s

/-- CONTEXT_DISABLE (R378): a write of SE_SC_CTRL. -/
def execContextDisable (n : BitVec 16) (v : Word) (s : State) : Out :=
  mirrored (fun s => .next (s.writeScCtrl n.toNat v)) s

/-- DOORBELL (R379, R459, R460): a write of SE_SC_DB. -/
def execDoorbell (n : BitVec 16) (v : Word) (s : State) : Out := mirrored (fun s => .next (s.writeTail n.toNat v)) s

/-! ### Issue slots -/

/-- The first descriptor of a list that may issue a read: fetched, with bytes left, behind no failed one, and behind
only visible ones where it has wait set (R380, R381, R388). -/
def firstReader (allSeen : Bool) : List StreamDesc → Option StreamDesc
  | [] => none
  | w :: ws =>
    if w.fail.isSome then none else
    match w.desc with
    | some d =>
      if decide (w.asked < d.len.toNat) && (!bit d.flags 1 || allSeen) then some w
      else firstReader (allSeen && w.visible) ws
    | none => firstReader false ws

/-- The descriptor whose next read a context may issue now (R374, R384, R385, R388). -/
def State.reader (s : State) (n : Nat) : Option StreamDesc :=
  let c := s.ctx n
  let port := if n % 2 = 0 then SE_OUT.port_a else SE_OUT.port_b
  if c.stopped || c.ringErr.isSome
      || decide (max 1 (s.get (SE_SC_QUOTA.quota n)) ≤ s.get (SE_SC_QUOTA.outstanding n))
      || decide (4096 ≤ s.get port) || (s.is (SE_SC_TOLL.toll n) && decide (s.getS (SE_SC_BAL.v n) ≤ 0))
      || ((s.srcHost n || s.dstHost n) && !s.ctxReach n) then none
  else firstReader true c.work

/-- Whether a context may fetch a descriptor now: one that a host ring did not give, or the next posted one. -/
def State.fetches (s : State) (n : Nat) : Bool :=
  let c := s.ctx n
  let st := s.ctxState n
  (decide (st = 2) || decide (st = 3)) && (!isHost (s.dring n) || s.ctxReach n)
    && (decide (s.head n ≠ s.tail n) || c.work.any fun w => w.desc.isNone && w.reads.isEmpty)

/-- Whether a context has a request that it may issue now: never while it holds 64 records (R394), and never in a
standby or a FENCED device (R459, R467). -/
def State.serves (s : State) (n : Nat) : Bool :=
  let st := s.ctxState n
  (decide (st = 2) || decide (st = 3) || decide (st = 4)) && !s.fenced && !s.ctxHeld n
    && decide (s.heldRecords n < 64) && ((s.reader n).isSome || s.fetches n)

/-- The class that a port serves (R386): RT first, then HI, NORM and BULK by their credits, which the weights renew. -/
def State.pickClass (s : State) (port : Nat) (cs : List Nat) : Nat × State :=
  if cs.contains 0 then (0, s) else
  let order := [1, 2, 3].filter fun c => cs.contains c
  let credit (s : State) (c : Nat) : Nat := s.se.credit.get natDefault (4 * port + c)
  let weight (c : Nat) : Nat := match c with
    | 1 => s.get SE_ARB.hi | 2 => s.get SE_ARB.norm | _ => s.get SE_ARB.bulk
  let set (s : State) (c v : Nat) : State :=
    { s with se := { s.se with credit := s.se.credit.set natDefault (4 * port + c) v } }
  let s := if order.any fun c => 0 < credit s c then s else s.each [1, 2, 3] fun s c => set s c (max 1 (weight c))
  match order.find? fun c => 0 < credit s c with
  | some c => (c, set s c (credit s c - 1))
  | none => (order.headD 3, s)

/-- The context that a port serves within a class: the next in rotation (R386). -/
def State.pickCtx (s : State) (port cls : Nat) (ns : List Nat) : Option Nat × State :=
  let last := s.se.last.get natDefault (4 * port + cls)
  match (ns.find? fun n : Nat => last ≤ n).or ns.head? with
  | none => (none, s)
  | some n => (some n, { s with se := { s.se with last := s.se.last.set natDefault (4 * port + cls) (n + 1) } })

/-- A context issues its next read, of up to 256 bytes within a 256-byte block of the source (R381, R384, R385). -/
def State.issueRead (s : State) (n : Nat) (w : StreamDesc) (d : Desc) : State :=
  let a := d.src.toNat + w.asked
  let size := min (256 - a % 256) (d.len.toNat - w.asked)
  let c := s.ctx n
  let mark (e : StreamDesc) : StreamDesc :=
    if e = w then { e with asked := e.asked + size, reads := e.reads ++ [(e.asked, size)] } else e
  let s := (s.setCtx n { c with work := c.work.map mark }).outBy n 1
  s.when (s.is (SE_SC_TOLL.toll n)) fun s => s.putS (SE_SC_BAL.v n) (s.getS (SE_SC_BAL.v n) - (size : Int))

/-- A context fetches a descriptor: again one that its host ring did not give, or the next posted one (R381, R383). -/
def State.issueFetch (s : State) (n : Nat) : State :=
  let c := s.ctx n
  match c.work.find? fun w : StreamDesc => w.desc.isNone && w.reads.isEmpty with
  | some w =>
    let mark (e : StreamDesc) : StreamDesc := if e = w then { e with reads := [(0, 32)] } else e
    s.setCtx n { c with work := c.work.map mark }
  | none =>
    let h := s.head n
    let s := s.setCtx n { c with work := c.work ++ [{ pos := h, reads := [(0, 32)] }] }
    s.put (SE_SC_IDX.head n) ((h + 1) % s.ringLen n)

/-- Uncorrectable data in a context's entry (R94, R389): the context is disabled without a record. -/
def State.entryLost (s : State) (n : Nat) : State :=
  ((s.ctxOff n false).count ⟨pageSE0 + 0xF0C, 31, 0⟩).log pageSE0 CONTAINED 0x0312 n 0

/-- Uncorrectable data in the engine's buffer (R94, R383): the descriptor ends CTX_MEM. -/
def State.bufferLost (s : State) (n : Nat) : State :=
  match (s.ctx n).work.find? fun w : StreamDesc => w.desc.isSome && w.fail.isNone && !w.visible with
  | none => s
  | some w =>
    let s := (s.count ⟨pageSE0 + 0xF0C, 31, 0⟩).log pageSE0 CONTAINED 0x0312 n (errWord w.pos 0 6)
    s.failDesc n w.pos 6 0

/-- ENGINE_ISSUE_SLOT (R94, R374, R381, R384 to R386, R389): one issue slot of a port. `upset` says that the memory
that holds the chosen context's entry (true) or its buffered data (false) reads uncorrectable. -/
def execEngineIssueSlot (portB : Bool) (upset : Option Bool) (s : State) : Out :=
  mirrored (fun s =>
    if !s.is SE_CTRL.enable then .next s else
    let port := portB.toNat
    let ns := s.ctxsOn.filter fun n => n % 2 = port && s.serves n
    let cls (n : Nat) : Nat := s.get (SE_SC_CTRL.cls n)
    let got := s.pickClass port (ns.map cls)
    let c := got.1
    let t := got.2
    match t.pickCtx port c (ns.filter fun n => cls n = c) with
    | (none, _) => .next s
    | (some n, t) =>
      match upset with
      | some true => .next (t.entryLost n)
      | some false => .next (t.bufferLost n)
      | none =>
        match t.reader n with
        | some w => (match w.desc with
          | some d => .next ((t.issueRead n w d).showCtx n)
          | none => .next t)
        | none => .next ((t.issueFetch n).showCtx n)) s

/-! ### Descriptors -/

/-- Whether a range of bytes lies wholly within the addresses that R27 accepts, in the space of a kind, and within one
quay's window (R381). -/
def State.rangeFits (s : State) (kind a len : Nat) : Bool :=
  let z := a + len - 1
  let space := match kind with
    | 0 => 1 | 1 => 0 | _ => 2
  decide (a / 2 ^ 56 = 0) && decide (a / 2 ^ 52 = space) && decide (z / 2 ^ 52 = space)
    && (match kind with
    | 0 => true
    | 1 => decide (a / 2 ^ 42 = z / 2 ^ 42) && (s.destPort 7 a).isSome && (s.destPort 7 z).isSome
    | _ => decide (a / 2 ^ 29 = z / 2 ^ 29) && (s.destPort 7 a).isSome)

/-- Whether a descriptor passes the address check (R380, R381). -/
def State.descFits (s : State) (n : Nat) (d : Desc) : Bool :=
  let len := d.len.toNat
  decide (1 ≤ len) && decide (len ≤ 2 ^ 24) && decide (d.flags.toNat < 8)
    && s.rangeFits (s.get (SE_SC_CTRL.src_kind n)) d.src.toNat len
    && s.rangeFits (s.get (SE_SC_CTRL.dst_kind n)) d.dst.toNat len

/-- DESCRIPTOR_FETCHED (R381, R383): the answer to the context's oldest descriptor fetch. A host ring that gives none
makes it wait. -/
def execDescriptorFetched (n : BitVec 16) (status : BitVec 4) (d : Desc) (s : State) : Out :=
  mirrored (fun s =>
    let n := n.toNat
    let c := s.ctx n
    match c.work.find? fun w : StreamDesc => w.desc.isNone && !w.reads.isEmpty with
    | none => .next s
    | some w =>
      let set (u : StreamDesc) : State :=
        s.setCtx n { c with work := c.work.map fun e : StreamDesc => if e = w then u else e }
      if status ≠ 0 then
        let s := set { w with reads := [] }
        if isHost (s.dring n) then .next (s.showCtx n) else .next (s.failDesc n w.pos 5 status.toNat)
      else
        let s := set { w with desc := some d, reads := [] }
        if s.descFits n d then .next (s.showCtx n) else .next (s.failDesc n w.pos 4 0)) s

/-- The destination writes of some bytes, each within a 256-byte block of the destination (R381). -/
def State.writeOut (s : State) (n a : Nat) (bs : List Byte) : State :=
  let first := min bs.length (256 - a % 256)
  let s := s.ctxWrite n a (bs.take first)
  s.when (decide (first < bs.length)) fun s => s.ctxWrite n (a + first) (bs.drop first)

/-- Whether the answers of a descriptor are discarded: its context was stopped, or it stands behind a failed one (R378,
R388). -/
def StreamCtx.discards (c : StreamCtx) (w : StreamDesc) : Bool :=
  c.stopped || c.ringErr.isSome || (c.work.takeWhile fun e => e ≠ w).any (fun e => e.fail.isSome) || w.fail.isSome

/-- The answer to the oldest read of a descriptor (R381, R383, R388). -/
def State.readAnswer (s : State) (n : Nat) (w : StreamDesc) (d : Desc) (at_ : Nat × Nat) (status : Nat)
    (bs : List Byte) : State :=
  let c := s.ctx n
  let set (s : State) (u : StreamDesc) : State :=
    s.setCtx n { c with work := c.work.map fun e : StreamDesc => if e = w then u else e }
  let s := s.outBy n (-1)
  let rest := w.reads.tail
  if c.discards w then set s { w with reads := rest }
  else if status ≠ 0 then
    (set s { w with reads := rest }).failDesc n w.pos (if s.srcHost n then 3 else 1) status
  else
    let got := w.got + at_.2
    let s := set s { w with reads := rest, got := got, fencing := decide (got = d.len.toNat) }
    s.writeOut n (d.dst.toNat + at_.1) bs

/-- STREAM_READ_RESPONSE (R381, R388): the answer to the oldest read of the descriptor at a ring position. -/
def execStreamReadResponse (n : BitVec 16) (pos : BitVec 16) (status : BitVec 4) (bytes : List Byte) (s : State) : Out :=
  mirrored (fun s =>
    let n := n.toNat
    match (s.ctx n).work.find? fun w : StreamDesc => w.pos = pos.toNat && w.desc.isSome && !w.reads.isEmpty with
    | none => .next s
    | some w =>
      match w.desc, w.reads with
      | some d, r :: _ =>
        if status = 0 && bytes.length ≠ r.2 then .next s
        else .next ((s.readAnswer n w d r status.toNat bytes).showCtx n)
      | _, _ => .next s) s

/-- PCIE_COMPLETION_TIMEOUT (R383, R394): the endpoint's completion timeout ends the oldest host read of a descriptor
with HOST_ERR, and the endpoint reports the error; a descriptor fetch waits and is made again. -/
def execPcieCompletionTimeout (n : BitVec 16) (pos : BitVec 16) (s : State) : Out :=
  mirrored (fun s =>
    let n := n.toNat
    match (s.ctx n).work.find? fun w : StreamDesc => w.pos = pos.toNat && !w.reads.isEmpty with
    | none => .next s
    | some w =>
      match w.desc, w.reads with
      | some d, r :: _ =>
        if !s.srcHost n then .next s
        else .next (((s.raise pagePCI0 7 CONTAINED 0x0C17 n w.pos).readAnswer n w d r 1 []).showCtx n)
      | none, _ =>
        if !isHost (s.dring n) then .next s else
        let c := s.ctx n
        let mark (e : StreamDesc) : StreamDesc := if e = w then { e with reads := [] } else e
        .next (((s.raise pagePCI0 7 CONTAINED 0x0C17 n w.pos).setCtx n { c with work := c.work.map mark }).showCtx n)
      | _, _ => .next s) s

/-- STREAM_FENCE_COMPLETE (R383, R387): a fence over the writes of every descriptor that waits for one. -/
def execStreamFenceComplete (n : BitVec 16) (status : BitVec 4) (s : State) : Out :=
  mirrored (fun s =>
    let n := n.toNat
    let c := s.ctx n
    let waiting := c.work.filter fun w => w.fencing && !w.visible
    if waiting.isEmpty then .next s
    else if status = 0 then
      let see (w : StreamDesc) : StreamDesc := if w.fencing then { w with fencing := false, visible := true } else w
      .next ((s.setCtx n { c with work := c.work.map see }).progress n)
    else
      let lose (w : StreamDesc) : StreamDesc := if w.fencing then { w with fencing := false } else w
      let s := s.setCtx n { c with work := c.work.map lose }
      let code := if s.dstHost n then 3 else 2
      .next ((s.each waiting fun s w => s.failDesc n w.pos code status.toNat).progress n)) s

/-! ### Records -/

/-- A confirmed record is counted towards its interrupt (R387, R391). -/
def State.countRecord (s : State) (n : Nat) (r : StreamRec) : State :=
  if r.noIrq then s else
  match s.get (SE_SC_CTRL.irq_mode n) with
  | 1 => s.sluiceEvent (s.get (SE_SC_CTRL.sluice n))
  | 2 => s.deliver (s.ctxFn n) (s.get (SE_SC_FUNC.vector n)) none
  | _ => s

/-- The record at the done position is confirmed: the next position, and the phase at a wrap (R382, R387). -/
def State.stepDone (s : State) (n : Nat) (r : StreamRec) : State :=
  if r.pos ≠ s.done n then s else
  let next := (r.pos + 1) % s.ringLen n
  let s := s.put (SE_SC_IDX.done n) next
  let s := s.putWide (SE_SC_BYTES.off n 0) 2 (s.getWide (SE_SC_BYTES.off n 0) 2 + r.bytes)
  s.when (decide (next = 0)) fun s => s.putB (SE_SC_STAT.phase n) (!s.is (SE_SC_STAT.phase n))

/-- RECORD_CONFIRMED (R387, R388, R391): the fence after the context's oldest written record has completed. -/
def execRecordConfirmed (n : BitVec 16) (status : BitVec 4) (s : State) : Out :=
  mirrored (fun s =>
    let n := n.toNat
    let c := s.ctx n
    match c.recs with
    | [] => .next s
    | r :: rs =>
      if !r.written then .next s
      else if status = 0 then
        .next ((((s.setCtx n { c with recs := rs }).stepDone n r).countRecord n r).progress n)
      else if isHost (s.cring n) then
        let again (e : StreamRec) : StreamRec := { e with written := false }
        .next ((s.setCtx n { c with recs := c.recs.map again }).progress n)
      else
        let s := s.setCtx n { c with recs := [], ringErr := some (r.pos, status.toNat) }
        let s := s.raise pageSE0 1 CONTAINED 0x0C02 n (errWord r.pos status.toNat 8)
        .next (s.setCtxState n 4)) s

/-- The context ends: HALTED with SE_SC_ERR, or DISABLED where enable was cleared (R378, R388). -/
def State.haltCtx (s : State) (n index status detail : Nat) : State :=
  let c := s.ctx n
  let s := s.setWord (SE_SC_ERR.off n) (BitVec.ofNat 32 (errWord index detail status))
  if c.disabling then s.ctxOff n true
  else
    let s := s.outBy n (-(c.reads : Int))
    ((s.setCtx n { on := true, recs := c.recs }).setCtxState n 5).pushRecords n

/-- A context ends at a descriptor, whose record is written first (R378). One that was never fetched has a cookie that the
model leaves free. -/
def State.endAt (s : State) (n : Nat) (w : StreamDesc) (status detail : Nat) : State :=
  match w.desc with
  | some d => (s.addRecord n w.pos status detail 0 d.cookie (bit d.flags 0)).haltCtx n w.pos status detail
  | none =>
    let got := s.fresh 64
    let k := got.1
    let s := got.2
    (s.addRecord n w.pos status detail 0 k false).haltCtx n w.pos status detail

/-- The end of a stopped context (R378): the first unfinished descriptor gets a STOPPED record. -/
def State.endStopped (s : State) (n : Nat) : State :=
  let c := s.ctx n
  match c.work with
  | w :: _ =>
    let e := w.fail.getD (7, 0)
    s.endAt n w e.1 e.2
  | [] =>
    let h := s.head n
    if h = s.tail n then s.haltCtx n ((h + s.ringLen n - 1) % s.ringLen n) 0 0
    else
      let got := s.fresh 64
      let k := got.1
      let s := got.2
      (s.addRecord n h 7 0 0 k false).haltCtx n h 7 0

/-- A FENCED device's context whose requests have all been answered halts without a record (R467). -/
def State.haltFenced (s : State) (n : Nat) : State :=
  let c := s.ctx n
  let busy := c.work.any fun w => !w.reads.isEmpty || w.fencing
  let st := s.ctxState n
  if busy || c.work.isEmpty || st < 2 || 4 < st then s
  else (s.setCtx n { c with work := [], stopped := false }).setCtxState n 5

/-- What a STOPPING context does once nothing of it is outstanding (R378, R388): it ends at a ring error, at a stop, or at
its failed descriptor, in that order. -/
def State.drained (s : State) (n : Nat) : State :=
  let c := s.ctx n
  if c.work.any fun w => !w.reads.isEmpty || w.fencing then s
  else match c.ringErr with
  | some (pos, detail) => s.haltCtx n pos 8 detail
  | none =>
    if c.stopped || c.disabling then s.endStopped n
    else match c.work with
    | [] => s
    | w :: _ =>
      match w.fail with
      | none => s
      | some (status, detail) =>
        ((s.count SE_DESC_ERR.v).raise pageSE0 0 CONTAINED 0x0C01 n (errWord w.pos detail status)).endAt n w status detail

/-- CONTEXT_DRAINED (R378, R388): the outstanding requests of a STOPPING context have been answered. After an error
every earlier descriptor must have its record first. In a FENCED device a context halts without a record (R467). -/
def execContextDrained (n : BitVec 16) (s : State) : Out :=
  mirrored (fun s =>
    let n := n.toNat
    .next (if s.fenced then s.haltFenced n else if s.ctxState n ≠ 4 then s else (s.progress n).drained n)) s

/-! ### Tolls and sluices -/

/-- The contexts whose entries hold a toll. -/
def State.tolled (s : State) : List Nat :=
  (s.regs.filter fun e : Nat × Word => 0x1000000 ≤ e.1 && e.1 < 0x1400000 && (e.1 - 0x1000000) % 64 = 0x18).map
    fun e : Nat × Word => (e.1 - 0x1000000) / 64

/-- The time comes to the next multiple of `p` cycles. -/
def State.reachTick (s : State) (p : Nat) : State := s.elapse (p - s.now % p)

/-- TOLL_PERIOD (R384): the balance of every context becomes min(B + T, T). -/
def execTollPeriod (s : State) : Out :=
  mirrored (fun s =>
    let s := s.reachTick 1600
    .next (s.each s.tolled fun s n =>
      let t : Int := s.get (SE_SC_TOLL.toll n)
      if t = 0 then s else s.putS (SE_SC_BAL.v n) (min (s.getS (SE_SC_BAL.v n) + t) t))) s

/-- SLUICE_TIMER (R391): a sluice's timer has run time_us. -/
def execSluiceTimer (j : Fin 4096) (s : State) : Out :=
  mirrored (fun s =>
    match s.se.timers.get timerDefault j with
    | none => .next s
    | some t =>
      let due := t + 1600 * s.get (SLU_CFG.time_us j)
      .next ((s.elapse (due - s.now)).releaseSluice j)) s

/-- SLU_CFG_WRITE (R392): the new limits act at once. -/
def State.writeSluCfg (s : State) (j : Nat) (v : Word) : State :=
  let s := s.write (SLU_CFG.off j) v
  let n := s.get (SLU_STAT.count j)
  let ran := match s.se.timers.get timerDefault j with
    | none => false
    | some t => decide (1600 * s.get (SLU_CFG.time_us j) ≤ s.now - t)
  if n ≠ 0 && !s.is (SLU_STAT.held j) && (ran || decide (s.get (SLU_CFG.count_max j) ≤ n)) then s.releaseSluice j else s

/-- SLU_CFG_WRITE (R392). -/
def execSluCfgWrite (j : Fin 4096) (v : Word) (s : State) : Out := mirrored (fun s => .next (s.writeSluCfg j v)) s

/-- A write of SLU_TGT (R392): a vector beyond the function's table stores enable 0. -/
def State.writeSluTgt (s : State) (j : Nat) (v : Word) : State :=
  let s := s.write (SLU_TGT.off j) v
  let k := fnOf (s.get (SLU_TGT.pf j)) (s.get (SLU_TGT.vf j))
  s.when (decide (vectorsOf k ≤ s.get (SLU_TGT.vector j))) fun s => s.put (SLU_TGT.enable j) 0

/-- SLU_TGT_WRITE (R392). -/
def execSluTgtWrite (j : Fin 4096) (v : Word) (s : State) : Out := mirrored (fun s => .next (s.writeSluTgt j v)) s

end Sys2Proof.Machine
end

