-- ==== Sys2Proof/Machine/Tasks.lean ====
section
/-! DEFINITION. The task scheduler: commands, TS_DONE, posts, ticks, dispatch and statistics (R417 to R425). -/

namespace Sys2Proof.Machine

open Reg

/-- Task states (R417). -/
def tFREE : Nat := 0
def tBLOCKED : Nat := 1
def tDELAYED : Nat := 2
def tREADY : Nat := 3
def tRUNNING : Nat := 4
def tSUSPENDED : Nat := 5

/-- Whether the condition of a task holds (R420). -/
def State.taskHolds (s : State) (t : Nat) : Bool :=
  let m := s.get (taskMask t)
  let f := s.get (taskFlags t) &&& m
  if s.is (taskAll t) then f = m else f ≠ 0

/-- Readiness by flags (R420): autoclear clears the flags awaited. -/
def State.readyByFlags (s : State) (t : Nat) : State :=
  let s := s.when (s.is (taskAuto t)) fun s =>
    let w := s.word (taskFlags t).off
    s.setWord (taskFlags t).off (w &&& ~~~(s.word (taskMask t).off))
  s.makeReady t 1

/-- A refused command or TS_DONE raises its event (R428). -/
def State.taskRefused (s : State) (t : Nat) : State := s.raise pageTS0 2 INFO 0x0D05 t 0

/-- A write of TS_CMD (R418): what the operation does, or REFUSED. -/
def State.tsCmd (s : State) (v : Word) : State :=
  let t := bitsOf v 11 0
  let st := s.get (taskState t)
  let ok (s : State) : State := s.put TS_CMD_RES.v 1
  let bad : State := (s.put TS_CMD_RES.v 3).taskRefused t
  match bitsOf v 31 28 with
  | 1 =>
    if (st = tFREE || st = tSUSPENDED) && s.get (taskTarget t) ≤ 71 then
      ok (if s.get (taskMask t) ≠ 0 then s.put (taskState t) tBLOCKED
        else if s.is (taskTimed t) then s.put (taskState t) tDELAYED
        else s.makeReady t 0)
    else bad
  | 2 =>
    if st = tREADY then ok ((s.unready t).put (taskState t) tSUSPENDED)
    else if st = tBLOCKED || st = tDELAYED then ok (s.put (taskState t) tSUSPENDED)
    else if st = tRUNNING then
      ok (if s.ts.suspend.contains t then s else { s with ts := { s.ts with suspend := t :: s.ts.suspend } })
    else bad
  | 3 => if st = tSUSPENDED then ok (s.put (taskState t) tFREE) else bad
  | _ => bad

/-- TASK_START (R418). -/
def execTaskStart (v : Word) (s : State) : Out := mirrored (fun s =>
  .next (s.tsCmd v)) s

/-- TASK_SUSPEND (R418). -/
def execTaskSuspend (v : Word) (s : State) : Out := mirrored (fun s =>
  .next (s.tsCmd v)) s

/-- TASK_DELETE (R418). -/
def execTaskDelete (v : Word) (s : State) : Out := mirrored (fun s =>
  .next (s.tsCmd v)) s

/-- A write of TS_DONE (R418): a task that SUSPEND named while it ran is SUSPENDED whatever the action. -/
def State.tsDone (s : State) (v : Word) : State :=
  let t := bitsOf v 11 0
  let act := bitsOf v 31 28
  if s.get (taskState t) ≠ tRUNNING then (s.count TS_BAD_DONE.v).taskRefused t
  else if s.ts.suspend.contains t then
    let s := (s.stopRunning t).put (taskState t) tSUSPENDED
    { s with ts := { s.ts with suspend := s.ts.suspend.erase t } }
  else match act with
    | 0 =>
      let s := s.stopRunning t
      if s.taskHolds t then s.readyByFlags t else s.put (taskState t) tBLOCKED
    | 1 => (s.stopRunning t).put (taskState t) tDELAYED
    | 2 => (s.stopRunning t).makeReady t 3
    | 3 => (s.stopRunning t).put (taskState t) tFREE
    | _ => s.taskRefused t

/-- TASK_WAIT (R418). -/
def execTaskWait (v : Word) (s : State) : Out := mirrored (fun s =>
  .next (s.tsDone v)) s

/-- TASK_DELAY (R418). -/
def execTaskDelay (v : Word) (s : State) : Out := mirrored (fun s =>
  .next (s.tsDone v)) s

/-- TASK_YIELD (R418). -/
def execTaskYield (v : Word) (s : State) : Out := mirrored (fun s =>
  .next (s.tsDone v)) s

/-- TASK_EXIT (R418). -/
def execTaskExit (v : Word) (s : State) : Out := mirrored (fun s =>
  .next (s.tsDone v)) s

/-- What the write of TaskTableWrite does. -/
def State.writeTask (s : State) (t : Fin 4096) (word : Fin 8) (v : Word) : State :=
  if s.standby then (s.count PAIR_REFUSED.v) else
  let st := s.get (taskState t)
  let w := word.val
  let idle := st = tFREE || st = tSUSPENDED
  let may := if w = 3 then false else if idle then true else st = tRUNNING && (w = 1 || 4 ≤ w)
  if !may then (s.count TS_WR_REFUSED.v)
  else if w = 0 then (s.setWord (TS_TASK.off t 0) (setBits (setBits v 31 28 st) 12 0 0))
  else (s.setWord (TS_TASK.off t w) v)

/-- TASK_TABLE_WRITE (R417): a write takes effect only in the states that allow its bytes; the state itself is read
only. A standby ignores and counts it (R459). -/
def execTaskTableWrite (t : Fin 4096) (word : Fin 8) (v : Word) (s : State) : Out := mirrored (fun s => .next (s.writeTask t word v)) s

/-! ### Posts -/

/-- What the write of TaskPostWrite does. -/
def State.writePost (s : State) (t : Fin 4096) (v : Word) : State :=
  if 512 ≤ s.ts.posts.length then (s.raise pageTS0 0 INFO 0x0D03 t 0)
  else (({ s with ts := { s.ts with posts := s.ts.posts ++ [(t.val, v)] } }).put TS_QUEUE.v (s.ts.posts.length + 1))

/-- TASK_POST_WRITE (R419): the post enters the queue; a full queue stalls its writer. -/
def execTaskPostWrite (t : Fin 4096) (v : Word) (s : State) : Out := .next (s.writePost t v)

/-- TASK_POST_APPLY (R419, R420): the oldest post is ORed into its task's flags. -/
def execTaskPostApply (s : State) : Out := mirrored (fun s =>
  match s.ts.posts with
  | [] => .next s
  | (t, v) :: rest =>
    let s := ({ s with ts := { s.ts with posts := rest } }).put TS_QUEUE.v rest.length
    if s.get (taskState t) = tFREE then .next (s.count TS_POST_DROP.v)
    else
      let s := s.setWord (taskFlags t).off (s.word (taskFlags t).off ||| v)
      if s.get (taskState t) = tBLOCKED && s.taskHolds t then .next (s.readyByFlags t) else .next s) s

/-! ### Ticks -/

/-- The tasks whose entry is not all zero, by number. -/
def State.tasksListed (s : State) : List Nat :=
  s.regs.filterMap fun e =>
    if TS_TASK.off 0 0 ≤ e.1 && e.1 < TS_TASK.off 4096 0 && (e.1 - TS_TASK.off 0 0) % 0x20 = 0 then
      some ((e.1 - TS_TASK.off 0 0) / 0x20) else none

/-- Placing a task before the first that wakes later; equal wakes keep ascending task number (R421). -/
def State.byWake (s : State) (t : Nat) : List Nat → List Nat
  | [] => [t]
  | u :: us => if s.taskWake t < s.taskWake u then t :: u :: us else u :: s.byWake t us

/-- The time of the next tick: the multiple of TS_TICK × 100 ns that has been reached since the last tick, or else the
one that comes next (R421). -/
def State.tickTime (s : State) : Nat :=
  let p := s.get TS_TICK.v * 100
  let f := s.schedTime / p * p
  if s.ts.lastTick < f then f else f + p

/-- SCHEDULER_TICK (R421): every DELAYED task and every timed BLOCKED task whose wake has come is READY, in ascending
wake order; those that a forward step passed over are counted late. -/
def execSchedulerTick (s : State) : Out := mirrored (fun s =>
  let t := s.tickTime
  let s := s.reachSched t
  let due := s.tasksListed.filter fun n =>
    (s.get (taskState n) = tDELAYED || (s.get (taskState n) = tBLOCKED && s.is (taskTimed n)))
      && decide (s.taskWake n ≤ t)
  let late := match s.ts.stepped with
    | none => []
    | some (a, b) => due.filter fun n => a < s.taskWake n && s.taskWake n ≤ b
  let order := due.foldl (fun l n => s.byWake n l) []
  let s := s.each order fun s n => s.makeReady n 2
  let s := match late with
    | [] => s
    | n :: _ => (s.add TS_LATE.v late.length).raise pageTS0 3 INFO 0x0D06 n 0
  .next { s with ts := { s.ts with stepped := none, lastTick := t } }) s

/-! ### Dispatch -/

/-- The bin of a waiting time in ns (R425). -/
def waitBin (w : Nat) : Nat :=
  if w < 100 then 0 else if w < 1000 then 1 else if w < 10000 then 2 else if w < 100000 then 3
  else if w < 1000000 then 4 else if w < 10000000 then 5 else if w < 100000000 then 6 else 7

/-- The head of a target's list becomes RUNNING (R422, R425). -/
def State.dispatch (s : State) (g t : Nat) : State :=
  let wait := s.schedTime - s.ts.readyAt.get natDefault t
  let s := ((s.unready t).put (taskState t) tRUNNING).count (taskDispatches t)
  (s.setRunning g (s.runningOn g ++ [t])).count (TS_HIST.v g (waitBin wait))

/-- TS_NEXT (R422): a read dispatches the head of the core's list, unless the core already runs a task. -/
def execTsNext (c : Fin 8) (s : State) : Out := mirrored (fun s =>
  match (if s.standby then [] else s.readyList c), s.runningOn c with
  | t :: _, [] =>
    let w := BitVec.ofNat 32 (2 ^ 31 + s.get (taskPrio t) * 2 ^ 23 + s.get (taskReason t) * 2 ^ 12 + t)
    .next (((s.dispatch c t).setWord (TS_NEXT.off c) w).answerWord w)
  | _, _ => .next ((s.setWord (TS_NEXT.off c) 0).answerWord 0)) s

/-- The record of a slot dispatch (R423). -/
def State.slotRecord (s : State) (t : Nat) : List Byte :=
  toBytes t 2 ++ toBytes (s.get (taskPrio t)) 1 ++ toBytes (s.get (taskReason t)) 1 ++ [0, 0, 0, 0] ++ toBytes (s.taskArg t) 8

/-- SLOT_DISPATCH (R423, R424): a posted write of the record to the slot's quay window; one that the NoC notices as
dropped returns its task. -/
def execSlotDispatch (k : Fin 64) (dropped : Bool) (s : State) : Out := mirrored (fun s =>
  let n := k.val
  let g := slotTarget n
  let a := s.getWide (TS_SLOT_ADDR.off n 0) 2 % 2 ^ 56
  match s.readyList g with
  | [] => .next s
  | t :: _ =>
    if s.standby || !s.is (TS_SLOT_CFG.en n) || a / 2 ^ 52 ≠ 2 || s.slotHeld n || s.get (TS_SLOT_CFG.depth n) ≤ (s.runningOn g).length
    then .next s
    else
      let rec' := s.slotRecord t
      let s := s.dispatch g t
      if dropped then
        let got := s.fresh 4
        let st := got.1
        let s := got.2
        let s := (s.count (NOC_INI_PDROP.v (iniBlock .ts))).iniLast .ts st.toNat t
          ((s.destPort 4 a).getD (iniPort .ts)) a
        .next (s.dispatchDropped t a)
      else .next (s.issue .ts (writeReq .wrp a rec' 1 (BitVec.ofNat 12 t)))) s

/-! ### Statistics -/

/-- LOAD_WINDOW_END (R425): the load of each target over the window, in units of 1/65,536. -/
def execLoadWindowEnd (s : State) : Out :=
  let w := s.get TS_WIN.v * 1000000
  let s := s.reachSched (s.ts.winStart + w)
  let t := s.schedTime
  let s := s.each (List.range 72) fun s g =>
    let now := if (s.runningOn g).isEmpty then 0 else t - max (s.ts.busyFrom.get natDefault g) s.ts.winStart
    let b := s.ts.busy.get natDefault g + now
    (s.put (TS_LOAD.load g) (min (b * 65536 / w) 65535)).put (TS_LOAD.insuff g) 0
  .next { s with ts := { s.ts with winStart := t, busy := [] } }

/-- What the write of StatClear does. -/
def State.writeTsCtrl (s : State) (v : Word) : State :=
  let s := s.write TS_CTRL.off v
  if !bit v 31 then s else
  let s := s.each (List.range 72) fun s g => (s.put (TS_LOAD.load g) 0).put (TS_LOAD.insuff g) 1
  { s with regs := s.regs.eraseRange (TS_HIST.off 0 0) (TS_HIST.off 72 0)
           ts := { s.ts with winStart := s.schedTime, busy := [] } }

/-- STAT_CLEAR (R425): a write of TS_CTRL; stat_clear restarts the statistics. -/
def execStatClear (v : Word) (s : State) : Out := .next (s.writeTsCtrl v)

end Sys2Proof.Machine
end

