-- ==== Sys2Proof/Machine/TimingHub.lean ====
section
/-! DEFINITION. The Timing Hub's time, timing lanes, calibration and trigger messages (R130 to R149, R167, R168). -/

namespace Sys2Proof.Machine

open Reg

/-! ### Roles and the lanes' links (R135, R136, R139) -/

/-- The lanes of a role. -/
def State.lanesOf (s : State) (role : Nat) : List Nat := (List.range 4).filter fun n => s.get (TH_TL_CFG.role n) = role

/-- The node's UP lane, or lane 0 (R135). -/
def State.upLane (s : State) : Nat := match s.lanesOf 1 with
  | n :: _ => n
  | [] => 0

/-- What a member loses when its UP lane leaves ACTIVE (R146, R148): it enters HOLDOVER, a pending step is dropped, and
it measures anew when the lane returns. -/
def State.upLost (s : State) : State :=
  let s := s.enterHoldover.dropStep
  { s with th := { s.th with rejoin := some (0, 0) } }.restartAverage

/-- A lane leaves ACTIVE for a link state and reason. -/
def State.setLink (s : State) (n link reason : Nat) : State :=
  let wasUp := s.laneActive n && decide (s.get (TH_TL_CFG.role n) = 1) && decide (link ≠ 2)
  let s := (s.put (TH_TL_STAT.link n) link).put (TH_TL_STAT.reason n) reason
  let s := s.when (link ≠ 2) fun s =>
    (s.put (TH_TL_STAT.cal_done n) 0).setTl n { s.tl n with good := 0, badCrc := 0, epochIn := false, arrival := none }
  (s.when wasUp fun s => s.upLost).showMarks

/-- A lane is REJECTED with a reason; the event is raised when the reason is not the one raised last since the lane was
ACTIVE (R136). -/
def State.rejectLane (s : State) (n reason : Nat) : State :=
  let before := (s.tl n).raised
  let s := s.setLink n 3 reason
  let s := s.setTl n { s.tl n with raised := reason }
  s.when (before ≠ reason) fun s => s.raise pageTH1 (4 * n) CONTAINED 0x0512 n reason

/-- A root with an UP lane and a member with more than one show reason 5 on every UP lane; a lane whose conflict has
gone qualifies again (R135). -/
def State.checkRoles (s : State) : State :=
  let ups := s.lanesOf 1
  let conflict := if s.is TH_CTRL.role then !ups.isEmpty else decide (2 ≤ ups.length)
  let s := s.put TH_STATUS.up_lane s.upLane
  s.each (List.range 4) fun s n =>
    let role := s.get (TH_TL_CFG.role n)
    if (s.tl n).stalled then s
    else if role = 1 && conflict then
      s.when (!(s.get (TH_TL_STAT.link n) = 3 && s.get (TH_TL_STAT.reason n) = 5)) fun s => s.rejectLane n 5
    else s.when (s.get (TH_TL_STAT.link n) = 3 && s.get (TH_TL_STAT.reason n) = 5) fun s =>
      s.setLink n (if (s.tl n).locked then 1 else 0) 0

/-- Whether the layout table is valid (R139): one CAL_A, and one CAL_B directly after it. -/
def State.layoutValid (s : State) : Bool :=
  match (List.range 160).filter (fun b => s.layoutKind b = 1) with
  | [a] => decide ((List.range 160).filter (fun b => s.layoutKind b = 2) = [a + 1])
  | _ => false

/-- A lane's role is written (R135, R139): a lane that leaves OFF is checked against the layout table. -/
def State.writeRole (s : State) (n : Nat) (v : Word) : State :=
  let old := s.get (TH_TL_CFG.role n)
  let s0 := s
  let s := s.write (TH_TL_CFG.off n) v
  let new := s.get (TH_TL_CFG.role n)
  if old = new then s
  else if (s0.tl n).stalled && new ≠ 0 then s.checkRoles
  else
    let s := s.when (old = 1 && s0.laneActive n) fun s => s.upLost
    let s := (s.put (TH_TL_STAT.link n) 0).put (TH_TL_STAT.reason n) 0
    let s := ((s.put (TH_TL_STAT.cal_done n) 0).setTl n { frameNo := markNumber s.th.time }).showMarks
    let s := s.when (new ≠ 0 && old = 0 && !s.layoutValid) fun s =>
      (s.setTl n { s.tl n with stalled := true }).rejectLane n 6
    s.checkRoles

/-- TL_ROLE_WRITE (R135, R139). -/
def execTlRoleWrite (lane : Fin 4) (v : Word) (s : State) : Out := .next (s.writeRole lane.val v)

/-- The bits of layout register `r` that hold kinds of blocks 3 to 154 (R170). -/
def layoutMask (r : Nat) : Word :=
  BitVec.ofNat 32 ((List.range 4).foldl (fun a j => a + if 3 ≤ 4 * r + j && 4 * r + j ≤ 154 then 3 * 2 ^ (8 * j) else 0) 0)

/-- A write to the layout table takes effect only while all four lanes are OFF (R139, R170). -/
def State.writeLayout (s : State) (r : Nat) (v : Word) : State :=
  if (s.lanesOf 0).length = 4 then s.write (TH_XTL_LAYOUT.off r) (v &&& layoutMask r) else s

/-- LAYOUT_WRITE (R139). -/
def execLayoutWrite (r : Fin 40) (v : Word) (s : State) : Out := .next (s.writeLayout r.val v)

/-- TL_BLOCK_LOCK (R136): the lane holds block lock and begins to qualify frames. -/
def execTlBlockLock (lane : Fin 4) (s : State) : Out :=
  let n := lane.val
  if !(s.is TH_CTRL.enable) || s.get (TH_TL_CFG.role n) = 0 || (s.tl n).stalled || (s.tl n).locked then .next s else
  let s := s.setTl n { s.tl n with locked := true, good := 0 }
  .next ((s.when (s.get (TH_TL_STAT.link n) = 0) fun s => s.put (TH_TL_STAT.link n) 1).checkRoles)

/-- TL_LOCK_LOST (R146): reasons 5 and 6 need no lock to stand. -/
def execTlLockLost (lane : Fin 4) (s : State) : Out :=
  let n := lane.val
  if !(s.tl n).locked then .next s else
  let s := s.setTl n { s.tl n with locked := false }
  if 5 ≤ s.get (TH_TL_STAT.reason n) && s.get (TH_TL_STAT.reason n) ≤ 6 then .next s else .next (s.setLink n 0 0)

/-- TL_REJECT_RETRY (R136): a REJECTED lane qualifies frames anew; reasons 5 and 6 stand until a write ends them. -/
def execTlRejectRetry (lane : Fin 4) (s : State) : Out :=
  let n := lane.val
  let r := s.get (TH_TL_STAT.reason n)
  if s.get (TH_TL_STAT.link n) = 3 && (s.tl n).locked && r ≠ 5 && r ≠ 6 then .next (s.setLink n 1 0) else .next s

/-! ### Root time (R149) -/

/-- The epoch flag stands in the node's next 16 frames (R149). -/
def State.sendEpoch (s : State) : State :=
  s.each (List.range 4) fun s n => s.setTl n { s.tl n with epochOut := 16 }

/-- The root's time becomes what TH_TIME_LOAD holds (R149). -/
def State.loadTime (s : State) : State :=
  let t : Nat := s.getWide (TH_TIME_LOAD.off 0) 3 % 2 ^ 80
  let s := s.stepTime ((t : Int) - (s.timeNow : Int))
  { s with th := { s.th with loadWait := false } }.sendEpoch

/-- A write of load_go (R149): ignored in a member and while one waits for SYNC_IN. -/
def State.requestLoad (s : State) : State :=
  if !(s.is TH_CTRL.role) || s.th.loadWait then s else
  match s.get TH_CTRL.load_mode with
  | 1 => s.loadTime
  | 2 => { s with th := { s.th with loadWait := true } }
  | _ => s

/-- A pending step is accepted (R148): the time steps and the averaging starts again. -/
def State.acceptStep (s : State) : State :=
  if !(s.is TH_STATUS.step_pending) then s else
  let s := (s.stepTime s.th.step).dropStep
  s.when (!(s.is TH_CTRL.role)) fun s => { s with th := { s.th with rejoin := none } }.restartAverage

/-- The hub starts: a root's time is 0 (R149). -/
def State.startHub (s : State) : State :=
  let s := { s with th := { s.th with running := true } }
  let s := s.when (s.is TH_CTRL.role) fun s => { s with th := { s.th with time := 0, slew := 0, slewAcc := 0 } }
  s.rootReference.checkRoles

/-- The hub stops: its time is INVALID and no lane is locked (DESIGN CHOICE: R171 says only that enable is "Timing Hub
running"). -/
def State.stopHub (s : State) : State :=
  let s := s.setThState 0
  let s := { s with th := { s.th with running := false, loadWait := false, rejoin := none } }.dropStep
  s.each (List.range 4) fun s n =>
    s.when (!(s.tl n).stalled) fun s => (s.setTl n { s.tl n with locked := false }).setLink n 0 0

/-- A change of role while the hub runs: a root takes the state of its reference and keeps counting; a member has no
parent yet (R133, R146). -/
def State.changeRole (s : State) : State :=
  let s := s.dropStep
  let s := { s with th := { s.th with loadWait := false } }
  (if s.is TH_CTRL.role then s.rootReference else s.enterHoldover).checkRoles

/-- A write of TH_CTRL: its fields, then accept_step, then load_go (R135, R148, R149). -/
def State.writeThCtrl (s : State) (v : Word) : State :=
  let on := s.is TH_CTRL.enable
  let root := s.is TH_CTRL.role
  let s := s.write TH_CTRL.off v
  let s := if !on && s.is TH_CTRL.enable then s.startHub
    else if on && !(s.is TH_CTRL.enable) then s.stopHub
    else if on && s.is TH_CTRL.role ≠ root then s.changeRole
    else s
  let s := s.when (bit v 20) fun s => s.acceptStep
  s.when (bit v 17) fun s => s.requestLoad

/-- TH_ENABLE (R149). -/
def execThEnable (v : Word) (s : State) : Out := mirrored (fun s =>
  .next (s.writeThCtrl v)) s

/-- TIME_LOAD_GO (R149). -/
def execTimeLoadGo (v : Word) (s : State) : Out := mirrored (fun s =>
  .next (s.writeThCtrl v)) s

/-- ACCEPT_STEP (R148). -/
def execAcceptStep (v : Word) (s : State) : Out := mirrored (fun s =>
  .next (s.writeThCtrl v)) s

/-- SYNC_IN_EDGE (R149): the loaded value is the time of the edge. -/
def execSyncInEdge (s : State) : Out := mirrored (fun s =>
  .next (s.when s.th.loadWait fun s => s.loadTime)) s

/-- TIME_READ (R134). -/
def execTimeRead (s : State) : Out :=
  let s := s.latchTime
  .next (s.answerWord (s.word (TH_TIME.off 0)))

/-! ### Node IDs (R137) -/

/-- The node's own range of IDs: the first and the length of what is left after its own ID (R137). -/
def State.idRange (s : State) : Nat × Nat :=
  if s.is TH_CTRL.role then (2, 65534)
  else
    let v := s.tl s.upLane
    (v.firstId.toNat + 1, v.partLen.toNat - 1)

/-- The part of DOWN lane `n`: its first ID and its length; 0 where it is empty (R137). -/
def State.idPart (s : State) (n : Nat) : Nat × Nat :=
  let downs := s.lanesOf 2
  let (first, len) := s.idRange
  let q := if downs.isEmpty then 0 else len / downs.length
  if q = 0 then (0, 0) else (first + (downs.takeWhile fun m => m ≠ n).length * q, q)

/-- The node's ID (R137). -/
def State.nodeId (s : State) : Nat :=
  if !(s.is TH_NODE.auto) then s.get TH_NODE.id
  else if s.is TH_CTRL.role then 1
  else
    let v := s.tl s.upLane
    if v.partLen = 0 then 0 else v.firstId.toNat

/-- TH_STATUS shows the node's ID and hop count. -/
def State.showNode (s : State) : State := s.put TH_STATUS.node_id s.nodeId

/-- The parent's part reaches a member (R137): an empty one raises the ID-unassigned event once. -/
def State.takePart (s : State) (n first len : Nat) : State :=
  let v := s.tl n
  let empty := decide (len = 0) && (v.heard.isNone || decide (v.partLen ≠ 0)) && s.is TH_NODE.auto
  let s := (s.setTl n { v with firstId := BitVec.ofNat 16 first, partLen := BitVec.ofNat 16 len }).showNode
  s.when empty fun s => s.raise pageTH0 4 INFO 0x0505 0 0

/-! ### Frames (R138 to R140) -/

/-- What TIME_A, TIME_B and SOF of a frame say (R140). -/
structure XtlHead where
  seq    : BitVec 16
  t      : Nat
  node   : Nat
  domain : Nat
  hop    : Nat
  state  : Nat
  parent : Bool
  epoch  : Bool
  layout : Nat
deriving DecidableEq, Repr

/-- Payload block `i` of a frame as a number. -/
def blockOf (bs : List (BitVec 64)) (i : Nat) : Nat := (bs.getD i 0).toNat

/-- The head of a frame (R140). -/
def xtlHead (bs : List (BitVec 64)) : XtlHead :=
  let b := blockOf bs 2
  { seq := BitVec.ofNat 16 (bitsN (blockOf bs 0) 53 38), t := blockOf bs 1 * 65536 + bitsN b 63 48
    node := bitsN b 47 32, domain := bitsN b 31 24, hop := bitsN b 23 19, state := bitsN b 18 17
    parent := decide (bitsN b 16 16 = 1), epoch := decide (bitsN b 15 15 = 1), layout := bitsN b 14 7 }

/-- CRC-32 over the payloads of blocks 1 to 154 (R140). -/
def xtlCrc (bs : List (BitVec 64)) : Nat := crc32 (((bs.drop 1).take 154).flatMap fun b => toBytes b.toNat 8)

/-- The block that holds CAL_A (R139). -/
def State.calBlock (s : State) : Option Nat := (List.range 160).find? fun b => s.layoutKind b = 1

/-- Why a frame does not qualify its lane (R136); 0 where it does. -/
def State.xtlReason (s : State) (n : Nat) (h : XtlHead) : Nat :=
  if h.domain ≠ s.get TH_CTRL.domain then 1
  else if h.layout ≠ s.get TH_XTL_LAYOUT_ID.v then 2
  else if s.get (TH_TL_CFG.role n) = 1 then (if !h.parent then 7 else if 15 < h.hop then 3 else 0)
  else if h.parent then 4 else 0

/-! ### Calibration (R144, R145, R148) -/

/-- θ and d of one exchange (R144). -/
def exchangeOf (t1 t2 t3 t4 : Nat) (a : Int) : Int × Int :=
  let down : Int := (t2 : Int) - t1
  let up : Int := (t4 : Int) - t3
  ((down - up - a) / 2, (down + up) / 2)

/-- The correction of θ by slewing joins what is still to be slewed (R132). -/
def State.slewBy (s : State) (d : Int) : State := { s with th := { s.th with slew := s.th.slew + d } }

/-- A member with a complete average whose parent reports CALIBRATED is CALIBRATED (R145, R148). -/
def State.calibrated (s : State) : State :=
  let n := s.upLane
  let st := s.get TH_STATUS.state
  if s.th.avgDone && s.laneActive n && (s.tl n).peerCal && (st = 1 || st = 3) && s.th.rejoin.isNone
    && !(s.is TH_STATUS.step_pending) then s.setThState 2 else s

/-- One exchange counts in the measure that is under way: R148's over 256, R145's over 16,384, or the standing average of
R145's step 4, which slews 1 part in 16,384 of each θ. -/
def State.averageIn (s : State) (theta d : Int) : State :=
  let v := s.th
  match v.rejoin with
  | some (k, sum) => if k < 256 then { s with th := { v with rejoin := some (k + 1, sum + theta) } } else s
  | none =>
    if s.is TH_STATUS.step_pending then s
    else if !v.avgDone then
      if v.avgN < 16384 then
        { s with th := { v with avgN := v.avgN + 1, avgSum := v.avgSum + theta, delaySum := v.delaySum + d } }
      else s
    else
      let acc := v.avgSum + theta
      let dl := v.delaySum - v.delaySum / 16384 + d
      let s := { s with th := { v with avgSum := acc % 16384, delaySum := dl } }
      (s.slewBy (-(acc / 16384))).putS (TH_TL_DELAY.v s.upLane) (dl / 16384)

/-- A member takes an exchange of its UP lane (R144, R145, R148): in INVALID, and after an epoch step that found no
average, it steps by −θ at once. -/
def State.takeExchange (s : State) (n : Nat) (theta d : Int) : State :=
  let s := s.putS (TH_TL_OFFSET.v n) theta
  if s.get TH_STATUS.state = 0 || s.th.firstDue then
    let s := (s.stepTime (-theta)).putS (TH_TL_DELAY.v n) d
    let s := { s with th := { s.th with firstDue := false, rejoin := none } }.restartAverage
    s.when (s.get TH_STATUS.state = 0) fun s => s.setThState 1
  else
    let s := s.when (!s.th.avgDone) fun s => s.putS (TH_TL_DELAY.v n) d
    s.averageIn theta d

/-- A frame with the epoch flag makes a member step without consent to t1 + d + a ÷ 2, and forward the flag (R148, R149).
A member without an average takes the next exchange's step. -/
def State.epochStep (s : State) (n t1 : Nat) (t2 : Time) : State :=
  let s := s.dropStep
  let s := if s.get TH_STATUS.state = 0 then s
    else if s.th.avgDone then
      let twice := 2 * (t1 : Int) + 2 * s.getS (TH_TL_DELAY.v n) + s.getS (TH_TL_ASYM.v n)
      s.stepTime (twice / 2 - t2.toNat)
    else
      let s := s.setTl n { s.tl n with marks := [] }
      { s with th := { s.th with firstDue := true } }
  s.sendEpoch

/-- A qualified frame of an ACTIVE UP lane gives the member its parent's state, ID part, hop count and times (R137, R144
to R148). -/
def State.useUpFrame (s : State) (n : Nat) (h : XtlHead) (bs : List (BitVec 64)) (t2 : Time) : State :=
  let s := s.put TH_STATUS.hop (h.hop + 1)
  let cal := match s.calBlock with
    | some b => (blockOf bs b, blockOf bs (b + 1))
    | none => (0, 0)
  let s := s.takePart n (bitsN cal.2 47 32) (bitsN cal.2 31 16)
  let v := s.tl n
  let flagged := h.epoch && !v.epochIn
  let s := s.setTl n { v with heard := some (BitVec.ofNat 80 h.t, t2), peerCal := decide (h.state = 2), epochIn := h.epoch }
  let s := if h.state = 0 || h.state = 3 then
      let s := s.enterHoldover
      s.when (s.get TH_STATUS.state = 3) fun s => { s with th := { s.th with rejoin := some (0, 0) } }
    else s
  let s := s.when flagged fun s => s.epochStep n h.t t2
  let v := s.tl n
  let seq : BitVec 16 := BitVec.ofNat 16 (bitsN cal.2 15 0)
  let t4 := cal.1 * 65536 + bitsN cal.2 63 48
  let mark := v.marks.find? fun m => m.1 = seq
  let s := match mark with
    | some (_, t3) =>
      if flagged || h.state = 0 || (t4 = 0 && seq = 0) || (h.state = 3 && s.get TH_STATUS.state ≠ 0) then s else
      let r := exchangeOf h.t t2.toNat t3.toNat t4 (s.getS (TH_TL_ASYM.v n))
      let s := s.setTl n { v with marks := (v.marks.dropWhile fun (m : BitVec 16 × Time) => m.1 ≠ seq).drop 1 }
      s.takeExchange n r.1 r.2
    | none => s
  s.calibrated

/-- A frame that passed CRC-32 qualifies or rejects its lane (R136), and an ACTIVE lane uses it. -/
def State.goodFrame (s : State) (n : Nat) (bs : List (BitVec 64)) (t : Time) : State :=
  let h := xtlHead bs
  let s := s.put (TH_TL_STAT.peer_id n) h.node
  let reason := s.xtlReason n h
  if reason ≠ 0 then s.rejectLane n reason else
  let v := s.tl n
  let s := s.setTl n { v with good := v.good + 1, badCrc := 0 }
  let s := if s.laneActive n || v.good + 1 < 4 then s
    else ((s.setLink n 2 0).setTl n { s.tl n with raised := 0 })
  if !s.laneActive n then s
  else if s.get (TH_TL_CFG.role n) = 1 then s.useUpFrame n h bs t
  else s.setTl n { s.tl n with arrival := some (h.seq, t) }

/-- A frame that failed CRC-32 counts; four in a row on the ACTIVE UP lane are HOLDOVER (R143, R146). -/
def State.badFrame (s : State) (n : Nat) : State :=
  let s := (s.count (TH_TL_CRCERR.v n)).raise pageTH1 (4 * n + 1) INFO 0x0510 n 0
  let v := s.tl n
  let s := s.setTl n { v with good := 0, badCrc := v.badCrc + 1 }
  s.when (4 ≤ v.badCrc + 1 && s.laneActive n && s.get (TH_TL_CFG.role n) = 1) fun s => s.enterHoldover

/-- XTL_FRAME_RECEIVED (R136, R143): a lane that is OFF, without lock or REJECTED takes no frame. -/
def execXtlFrameReceived (lane : Fin 4) (blocks : List (BitVec 64)) (arrival : Time) (s : State) : Out := mirrored (fun s =>
  let n := lane.val
  if blocks.length < 156 || 157 < blocks.length then .fault .illFormed
  else if !(s.is TH_CTRL.enable) || s.get (TH_TL_CFG.role n) = 0 || !(s.tl n).locked || s.get (TH_TL_STAT.link n) = 3
  then .next s
  else
    let s := s.reachTime arrival
    if xtlCrc blocks = blockOf blocks 155 % 2 ^ 32 then .next (s.goodFrame n blocks arrival) else .next (s.badFrame n)) s

/-- The messages of one frame: each TRIG slot takes a repeat that is due, else the next of the queue (R142, R143). -/
def fillSlots (again : Bool) : Nat → List (Nat × BitVec 64) → List (BitVec 64) →
    List (BitVec 64) × List (Nat × BitVec 64) × List (BitVec 64)
  | 0, reps, q => ([], reps, q)
  | k + 1, reps, q =>
    let reps := reps.map fun r => (r.1 - 1, r.2)
    let (m, reps, q) : BitVec 64 × List (Nat × BitVec 64) × List (BitVec 64) := match reps, q with
      | (0, m) :: rs, q => (m, rs, q)
      | rs, m :: q => (m, if again then rs ++ [(32, m)] else rs, q)
      | rs, [] => (0, rs, [])
    let r := fillSlots again k reps q
    (m :: r.1, r.2)

/-- The payload of a clause 49 idle block. -/
def idleBlock : BitVec 64 := BitVec.ofNat 64 (0x1E * 2 ^ 56)

/-- The time of the next mark of frame `f` at or after a time (R138). -/
def nextMark (now f : Nat) : Nat :=
  let sf := 4000 * nsUnits
  let t := now / sf * sf + markOffset f
  if now ≤ t then t else t + sf

/-- XTL_FRAME_SEND (R138 to R143): the frame at the lane's next start-of-frame mark. A lane with reason 6 sends
nothing, and a FENCED device IDLE blocks only (R467). -/
def State.sendFrame (s : State) (n : Nat) : State :=
  let v := s.tl n
  let f := v.frameNo.toNat
  let t := nextMark s.timeNow f
  let s := s.reachTime (BitVec.ofNat 80 t)
  let down := decide (s.get (TH_TL_CFG.role n) = 2)
  let act := s.laneActive n
  let trigs := s.trigBlocks
  let (ms, reps, q) := if act then fillSlots (s.is (TH_TL_CFG.repeatMsgs n)) trigs.length v.repeats v.queue
    else (trigs.map fun _ => 0, v.repeats, v.queue)
  let part := s.idPart n
  let sof := 0xB4 * 2 ^ 56 + f * 2 ^ 54 + v.seqTx.toNat * 2 ^ 38
  let timeB := t % 65536 * 2 ^ 48 + s.nodeId * 2 ^ 32 + s.get TH_CTRL.domain * 2 ^ 24 + s.get TH_STATUS.hop * 2 ^ 19
    + s.get TH_STATUS.state % 4 * 2 ^ 17 + down.toNat * 2 ^ 16 + (decide (0 < v.epochOut)).toNat * 2 ^ 15
    + s.get TH_XTL_LAYOUT_ID.v * 2 ^ 7
  let (calA, calB) := match down, v.arrival with
    | true, some (seq, t4) => (t4.toNat / 65536, t4.toNat % 65536 * 2 ^ 48 + seq.toNat)
    | _, _ => (0, 0)
  let calB := if down then calB + part.1 * 2 ^ 32 + part.2 * 2 ^ 16 else 0
  let body : List (BitVec 64) := (List.range 152).map fun i =>
    let b := i + 3
    match s.layoutKind b with
    | 1 => BitVec.ofNat 64 calA
    | 2 => BitVec.ofNat 64 calB
    | 3 => match (trigs.zip ms).find? (fun (e : Nat × BitVec 64) => e.1 = b) with
      | some e => e.2
      | none => idleBlock
    | _ => idleBlock
  let head : List (BitVec 64) := [BitVec.ofNat 64 sof, BitVec.ofNat 64 (t / 65536), BitVec.ofNat 64 timeB] ++ body
  let frame := if s.fenced then List.replicate (if f = 3 then 157 else 156) idleBlock
    else head ++ [BitVec.ofNat 64 (xtlCrc head)] ++ (if f = 3 then [idleBlock] else [])
  let marks := (v.marks.filter fun m => m.1 ≠ v.seqTx) ++ [(v.seqTx, BitVec.ofNat 80 t)]
  s.setTl n { v with
    sent := frame, frameNo := v.frameNo + 1, seqTx := v.seqTx + 1, queue := q, repeats := reps
    epochOut := v.epochOut - 1, marks := if down || s.fenced then [] else marks }

/-- XTL_FRAME_SEND (R138). -/
def execXtlFrameSend (lane : Fin 4) (s : State) : Out :=
  let n := lane.val
  if !(s.is TH_CTRL.enable) || s.get (TH_TL_CFG.role n) = 0 || (s.tl n).stalled then .next s else .next (s.sendFrame n)

/-! ### Trigger messages (R141 to R143) -/

/-- A message reaches the node's own sequencers with its time rebuilt, unless the time is INVALID (R141, R142). -/
def State.deliverMessage (s : State) (m : BitVec 64) (swapClk : Bool) : State :=
  if !s.timeValid then s else
  let e : SeqEvent := ⟨s.messageTime m, 64 + bitsN m.toNat 55 44, true⟩
  s.each (List.range 16) fun s q => s.offerEvent q e swapClk

/-- TRIG_MESSAGE_RECEIVED (R141 to R143). -/
def execTrigMessageReceived (lane : Fin 4) (payload : BitVec 64) (swapClk : Bool) (s : State) : Out := mirrored (fun s =>
  let n := lane.val
  if !s.laneActive n || payload = 0 then .next s
  else if msgCrc payload.toNat ≠ bitsN payload.toNat 63 56 then
    .next ((s.count (TH_TL_MSGERR.v n)).raise pageTH1 (4 * n + 2) CONTAINED 0x0511 n 0)
  else
    let v := s.tl n
    let recent := v.recent.filter fun e => s.timeNow ≤ e.1.toNat + 2 * usUnits
    let again := s.is (TH_TL_CFG.repeatMsgs n) && recent.any fun e => e.2 = payload
    if again then .next s else
    let s := s.setTl n { v with recent := recent ++ [(s.th.time, payload)] }
    .next ((s.spreadMessage (some n) payload).deliverMessage payload swapClk)) s

/-- What the write of XtlSend does. -/
def State.writeXtlSend (s : State) (v : Word) (swapClk : Bool) : State :=
  let s := s.write TH_XTL_SEND1.off v
  if !bit v 31 then s else
  let field := s.get TH_XTL_SEND0.t + s.get TH_XTL_SEND1.t * 2 ^ 32
  let m := trigMessage (s.get TH_XTL_SEND1.channel) (field * 256)
  ((s.spreadMessage none m).deliverMessage m swapClk)

/-- XTL_SEND (R142). -/
def execXtlSend (v : Word) (swapClk : Bool) (s : State) : Out := mirrored (fun s => .next (s.writeXtlSend v swapClk)) s

/-! ### Averages and holdover (R145 to R148) -/

/-- CALIBRATION_AVERAGE_COMPLETE (R145). -/
def execCalibrationAverageComplete (s : State) : Out :=
  let n := s.upLane
  if s.th.avgDone || s.th.avgN < 16384 || !s.laneActive n then .next s else
  let theta := s.th.avgSum / 16384
  let s := (s.slewBy (-theta)).putS (TH_TL_DELAY.v n) (s.th.delaySum / 16384)
  let s := { s with th := { s.th with avgDone := true, avgSum := 0 } }
  .next ((s.put (TH_TL_STAT.cal_done n) 1).calibrated)

/-- REJOIN_MEASURE_COMPLETE (R148). -/
def execRejoinMeasureComplete (s : State) : Out :=
  match s.th.rejoin with
  | none => .next s
  | some (k, sum) =>
    if k < 256 || !s.laneActive s.upLane || s.get TH_STATUS.state ≠ 3 then .next s else
    let theta := sum / 256
    let s := { s with th := { s.th with rejoin := none } }
    if theta.natAbs ≤ usUnits then .next ((s.slewBy (-theta)).restartAverage)
    else
      let s := { s with th := { s.th with step := -theta } }
      .next ((s.put TH_STATUS.step_pending 1).raise pageTH0 3 INFO 0x0504 s.upLane 0)

/-- HOLDOVER_LIMIT_REACHED (R147). -/
def execHoldoverLimitReached (s : State) : Out :=
  if s.get TH_STATUS.state ≠ 3 then .next s else
  let s := s.elapse (s.th.holdStart + s.get TH_HOLD_CFG.limit_ms * 1600000 - s.now)
  let s := { s with th := { s.th with rejoin := none } }.dropStep
  .next ((s.setThState 0).raise pageTH0 2 CONTAINED 0x0503 0 0)

/-! ### Correlation with host time (R167, R168) -/

/-- PTM_DIALOG (R167, R168). -/
def execPtmDialog (dev : Time) (host : BitVec 64) (s : State) : Out :=
  let s := (s.putWide (TH_PTM_DEV.off 0) 3 dev.toNat).putWide (TH_PTM_HOST.off 0) 2 host.toNat
  let s := (s.put TH_PTM_STAT.valid 1).put TH_STATUS.ptm_valid 1
  if !(s.is TH_CTRL.enable && s.is TH_CTRL.role && s.is TH_CTRL.ptm_steer) then .next s else
  let d : Int := ((host.toNat * 65536 : Nat) : Int) - dev.toNat
  if d.natAbs ≤ usUnits then .next { s with th := { s.th with slew := d } }
  else
    let first := !(s.is TH_STATUS.step_pending)
    let s := { s with th := { s.th with step := d } }.put TH_STATUS.step_pending 1
    .next (s.when first fun s => s.raise pageTH0 3 INFO 0x0504 0 0)

/-- PTM_STALE (R167). -/
def execPtmStale (s : State) : Out :=
  if !(s.is TH_STATUS.ptm_valid) then .next s else
  .next (((s.put TH_STATUS.ptm_valid 0).put TH_PTM_STAT.valid 0).raise pageTH5 0 INFO 0x0550 0 0)

end Sys2Proof.Machine
end

