-- ==== Sys2Proof/Machine/Triggers.lean ====
section
/-! DEFINITION. The Timing Hub's inputs, outputs, sequencers, line faults, SYSREF grids and time taps (R150 to R165). -/

namespace Sys2Proof.Machine

open Reg

/-! ### Inputs (R150 to R152) -/

/-- 1.25 ns, 1.25 ns of dead time and 40 ns of lead, in units. -/
def deadTime : Nat := 81920

/-- Whether a channel's polarity is inverted: by TH_IN_CFG.inv, or by an idle check that found the pair reversed, which
undo each other (R163, R171). -/
def State.flipped (s : State) (c : Nat) : Bool := s.is (TH_IN_CFG.inv c) != (s.chan c).reversed

/-- A stamp is recorded (R150, R151): into the queue of 64, or lost. -/
def State.recordEdge (s : State) (c : Nat) (rising : Bool) (t : Time) : State :=
  let s := s.count (TH_IN_CNT.v c)
  let s := s.setChan c { s.chan c with lastEdge := some t }
  if !s.timeValid then s else
  let v := s.chan c
  if 64 ≤ v.queue.length then
    ((s.setChan c { v with loss := true }).count (TH_IN_OVF.v c)).raise pageTH2 24 CONTAINED 0x0530 c 0
  else
    let stamp := t - BitVec.ofInt 80 (s.getS (TH_IN_DLY.v c))
    (s.setChan c { v with queue := v.queue ++ [⟨stamp, rising, v.loss⟩], loss := false }).putWide
      (TH_IN_LAST.off c 0) 3 stamp.toNat

/-- INPUT_EDGE (R150, R151): an edge at the ball at time `t`, whose level lasts `lasts` units. -/
def execInputEdge (ch : Fin 24) (rising : Bool) (t : Time) (lasts : Nat) (s : State) : Out :=
  let c := ch.val
  let s := s.reachTime t
  let v := s.chan c
  let short := decide (5 * lasts < 4 * nsUnits)
  let s := s.setChan c { v with inShort := short }
  let up := rising != s.flipped c
  let edge := s.get (TH_IN_CFG.edge c)
  let chosen := if up then edge % 2 = 1 else edge / 2 = 1
  let dead := match v.lastEdge with
    | some e => decide (t.toNat < e.toNat + deadTime)
    | none => false
  if short || v.inShort || v.masked || !chosen || dead || lasts < s.get (TH_IN_CFG.filter_ns c) * nsUnits then .next s
  else .next (s.recordEdge c up t)

/-- STAMP_DELIVERY (R150, R151, R160): the oldest stamp of the channel goes to all 16 sequencers, 0.8 ns or f after its
edge. -/
def execStampDelivery (ch : Fin 24) (s : State) : Out := mirrored (fun s =>
  let c := ch.val
  match (s.chan c).queue with
  | [] => .next s
  | e :: rest =>
    let f := s.get (TH_IN_CFG.filter_ns c) * nsUnits
    let wait := if f = 0 then 52429 else f
    let s := s.reachTime (e.t + BitVec.ofInt 80 (s.getS (TH_IN_DLY.v c)) + BitVec.ofNat 80 wait)
    let s := s.setChan c { s.chan c with queue := rest }
    .next (s.giveAll ⟨e.t, c, e.rising⟩)) s

/-- Whether every enabled channel has a background table (R152). -/
def State.allTables (s : State) : Bool :=
  (List.range 24).all fun c => s.get (TH_IN_CFG.edge c) = 0 || (s.chan c).table

/-- TDC_CAL_TABLE_REPLACE (R152). -/
def execTdcCalTableReplace (ch : Fin 24) (s : State) : Out :=
  let c := ch.val
  let s := s.setChan c { s.chan c with table := true }
  .next ((s.putB TH_STATUS.tdc_cal s.allTables).raise pageTH2 25 INFO 0x0506 c 0)

/-- TDC_CAL_RESTART (R152): ACCEPTED, and the calibration, which repeats without end, runs in the background with the
tables it has. -/
def execTdcCalRestart (v : Word) (s : State) : Out := .next (s.write TH_TDC_CAL.off v)

/-- FABRIC_EVENT (R154): the line's tap is the one of the region that TH_FEV_SEL names. -/
def execFabricEvent (line : Fin 16) (t : Time) (s : State) : Out := mirrored (fun s =>
  let r := s.get (TH_FEV_SEL.region line.val)
  if 240 ≤ r || !s.domOpen (regionDom r) then .next s else
  .next ((s.reachTime t).giveAll ⟨t, 24 + line.val, true⟩)) s

/-- TAP_CLOCK_EDGE (R153): TIME is the time of the edge; the next action word, if any, stands on ACT. -/
def execTapClockEdge (region : Fin 240) (t : Time) (s : State) : Out :=
  let r := region.val
  if !s.domOpen (regionDom r) then .next s else
  let s := s.reachTime t
  let v := s.tap r
  let (actv, act, q) := match v.queue with
    | w :: rest => (true, w, rest)
    | [] => (false, v.act, [])
  .next (s.setTap r { queue := q, time := t, actv := actv, act := act, ovf := v.lost, lost := false })

/-! ### Outputs (R156, R157) -/

/-- What the write of OutputRequest does. -/
def State.writeOutReq (s : State) (v : Word) : State :=
  let s := s.write TH_OUT_REQ3.off v
  if !bit v 31 then s else
  let t := s.getWide (TH_OUT_REQ.off 0) 3 % 2 ^ 80
  (s.requestOut (s.get TH_OUT_REQ3.output)
    { t := BitVec.ofNat 80 t, act := BitVec.ofNat 3 (s.get TH_OUT_REQ3.action)
      width := BitVec.ofNat 16 (s.get TH_OUT_REQ3.width) })

/-- OUTPUT_REQUEST (R156, R157). -/
def execOutputRequest (v : Word) (s : State) : Out := mirrored (fun s => .next (s.writeOutReq v)) s

/-- OUTPUT_ACTION_DUE (R157): the first pending action of the output; a standby keeps those that it mirrors (R465). -/
def execOutputActionDue (o : Fin 28) (s : State) : Out := mirrored (fun s =>
  let v := s.out o.val
  match v.queue with
  | [] => .next s
  | a :: rest =>
    if s.standby then .next s else
    let s := (s.reachTime a.t).setOut o.val { v with queue := rest }
    .next (s.actOut o.val a a.t.toNat false)) s

/-- PULSE_END (R156, R157): the CLEAR half of a pulse. -/
def execPulseEnd (o : Fin 28) (s : State) : Out :=
  let v := s.out o.val
  match v.pulseEnd with
  | none => .next s
  | some e =>
    let s := (s.reachTime e).setOut o.val { v with pulseEnd := none }
    .next (s.actOut o.val { t := e, act := 2, width := 0 } e.toNat false)

/-- An output whose driver goes off or comes back is released, or low (R157, R538). -/
def State.releaseOut (s : State) (o : Nat) : State := s.setOut o { s.out o with level := false }

/-! ### Sequencers (R159 to R162) -/

/-- What the write of SeqTableWrite does. -/
def State.writeSeqTable (s : State) (q : Fin 16) (word : Fin 4096) (v : Word) : State :=
  if s.get (TH_SEQ_STAT.run q.val) = 0 then (s.write (TH_SEQ_TABLE.off (4096 * q.val + word.val)) v)
  else (s.put (TH_SEQ_STAT.wr_refused q.val) 1)

/-- SEQ_TABLE_WRITE (R159). -/
def execSeqTableWrite (q : Fin 16) (word : Fin 4096) (v : Word) (s : State) : Out := mirrored (fun s => .next (s.writeSeqTable q word v)) s

/-- SEQUENCER_EVENT_RELEASE (R160 to R162): the first held event of the sequencer, at its stamp + H. -/
def execSequencerEventRelease (q : Fin 16) (swapClk : Bool) (s : State) : Out := mirrored (fun s =>
  let n := q.val
  let v := s.seqSt n
  match v.held with
  | [] => .next s
  | e :: rest =>
    if 64 ≤ e.src then .next ((s.setSeq n { v with held := rest }).offerEvent n e swapClk)
    else
      let s := s.reachTime (e.t + BitVec.ofNat 80 (s.get TH_SEQ_HOLD.ns * nsUnits))
      if s.get (TH_SEQ_STAT.run n) ≠ 1 then .next (s.setSeq n { v with held := rest }) else
      let late := match v.last with
        | some l => decide (e.t < l)
        | none => false
      let s := s.setSeq n { v with held := rest, last := if late then v.last else some e.t }
      .next ((s.when late fun s => s.count (TH_SEQ_STAT.late n)).offerEvent n e swapClk)) s

/-- SEQUENCER_TIMER_EXPIRY (R161): an event stamped with the armed time, held for H. -/
def execSequencerTimerExpiry (q : Fin 16) (s : State) : Out := mirrored (fun s =>
  let v := s.seqSt q.val
  match v.timer with
  | none => .next s
  | some t =>
    if !s.acts then .next s else
    let s := (s.reachTime t).setSeq q.val { v with timer := none }
    .next (s.giveEvent q.val ⟨t, 40, true⟩)) s

/-- Stopping a sequencer disarms its timer (R161, R162). -/
def State.haltSeq (s : State) (q : Nat) : State :=
  let v := s.seqSt q
  (s.put (TH_SEQ_STAT.run q) 0).setSeq q { v with timer := none, held := v.held.filter fun e => e.src ≠ 40 }

/-- A write of TH_SEQ_CTRL (R162): halt, then run, then arm. A run starts a sequencer that is not RUNNING. -/
def State.writeSeqCtrl (s : State) (q : Nat) (v : Word) (swapClk : Bool) : State :=
  let s := s.write (TH_SEQ_CTRL.off q) v
  let s := s.when (bit v 30) fun s => s.haltSeq q
  let s := s.when (bit v 29 && decide (s.get (TH_SEQ_STAT.run q) ≠ 1)) fun s =>
    let s := (s.put (TH_SEQ_STAT.run q) 1).put (TH_SEQ_STAT.state q) (s.get (TH_SEQ_CTRL.start_state q))
    s.chainSeq q s.th.time swapClk false 8
  s.when (bit v 31) fun s => s.giveEvent q ⟨s.th.time, 43, true⟩

/-- SEQ_RUN (R162). -/
def execSeqRun (q : Fin 16) (v : Word) (swapClk : Bool) (s : State) : Out := mirrored (fun s =>
  .next (s.writeSeqCtrl q.val v swapClk)) s

/-- SEQ_HALT (R162). A swap that the start of the same write asks for finds its clock present. -/
def execSeqHalt (q : Fin 16) (v : Word) (s : State) : Out := mirrored (fun s =>
  .next (s.writeSeqCtrl q.val v true)) s

/-- SEQ_ARM (R162). A swap that the start of the same write asks for finds its clock present. -/
def execSeqArm (q : Fin 16) (v : Word) (s : State) : Out := mirrored (fun s =>
  .next (s.writeSeqCtrl q.val v true)) s

/-! ### Line faults (R163, R164) -/

/-- A line's fault state and its driver: one that goes off releases its output. -/
def State.setLine (s : State) (c fault : Nat) (off masked : Bool) : State :=
  let s := (s.put (TH_IN_STAT.fault c) fault).putB (TH_IN_STAT.drv_off c) off
  (s.setChan c { s.chan c with masked := masked }).when off fun s => s.releaseOut c

/-- LINE_CONTENTION (R163): the driver of TRIG or STAR_OUT line `line` goes off and waits to be retried. -/
def execLineContention (line : Fin 24) (s : State) : Out :=
  let c := line.val
  if !s.driverOn c then .next s else
  let s := s.setLine c 1 true (s.chan c).masked
  let s := s.setChan c { s.chan c with backoff := true }
  .next (s.raise pageTH2 c CONTAINED 0x0520 c 0)

/-- CONTENTION_RETRY (R163): the driver is on again, or stays off after max_retry retries. -/
def execContentionRetry (line : Fin 24) (s : State) : Out :=
  let c := line.val
  if !((s.chan c).backoff && s.get (TH_IN_STAT.fault c) = 1) then .next s else
  let s := s.setChan c { s.chan c with backoff := false }
  if s.get (TH_IN_CFG.max_retry c) ≤ s.get (TH_IN_STAT.retries c) then .next s
  else .next ((s.count (TH_IN_STAT.retries c)).setLine c 0 false (s.chan c).masked)

/-- LINE_SHORT (R163). -/
def execLineShort (line : Fin 16) (s : State) : Out :=
  let c := line.val
  let s := s.setChan c { s.chan c with backoff := false }
  .next ((s.setLine c 2 true true).raise pageTH2 c CONTAINED 0x0521 c 0)

/-- SHORT_CLEAR (R163). -/
def execShortClear (line : Fin 16) (s : State) : Out :=
  .next (s.when (s.get (TH_IN_STAT.fault line.val) = 2) fun s => s.setLine line.val 0 false false)

/-- LINE_OPEN (R163): TRIG and STAR_IN lines; a STAR_IN line has no driver of its own to inhibit. -/
def execLineOpen (line : Fin 24) (s : State) : Out :=
  let c := line.val
  let s := s.setChan c { s.chan c with backoff := false, masked := true }
  let s := if c < 16 then s.setLine c 3 true true else s.put (TH_IN_STAT.fault c) 3
  .next (s.raise pageTH2 c CONTAINED 0x0522 c 0)

/-- OPEN_CLEAR (R163). -/
def execOpenClear (line : Fin 24) (s : State) : Out :=
  let c := line.val
  if s.get (TH_IN_STAT.fault c) ≠ 3 then .next s
  else if c < 16 then .next (s.setLine c 0 false false)
  else .next ((s.put (TH_IN_STAT.fault c) 0).setChan c { s.chan c with masked := false })

/-- Clearing a fault that stays (R164): the retry count is reset and the driver enabled. -/
def State.clearLine (s : State) (c : Nat) : State :=
  let s := s.setChan c { s.chan c with backoff := false }
  (s.setLine c 0 false false).put (TH_IN_STAT.retries c) 0

/-- A write of TH_IN_CFG (R164): an idle check starts at the check bit, and when the edge field first leaves 0. -/
def State.writeInCfg (s : State) (c : Nat) (v : Word) : State :=
  let old := s.get (TH_IN_CFG.edge c)
  let s := s.write (TH_IN_CFG.off c) v
  let first := decide (old = 0) && decide (s.get (TH_IN_CFG.edge c) ≠ 0) && !(s.chan c).checked
  let s := s.when (s.is TH_STATUS.tdc_cal) fun s => s.putB TH_STATUS.tdc_cal s.allTables
  let s := s.when (bit v 31) fun s => s.clearLine c
  s.when (bit v 30 || first) fun s =>
    (s.setChan c { s.chan c with checking := true, checked := true }).when (decide (c < 16)) fun s => s.releaseOut c

/-- IDLE_CHECK (R164). -/
def execIdleCheck (line : Fin 24) (v : Word) (s : State) : Out := .next (s.writeInCfg line.val v)

/-- LINE_FAULT_CLEAR (R164). -/
def execLineFaultClear (line : Fin 24) (v : Word) (s : State) : Out := .next (s.writeInCfg line.val v)

/-- IDLE_CHECK_COMPLETE (R163, R164). -/
def execIdleCheckComplete (line : Fin 24) (r : IdleResult) (s : State) : Out :=
  let c := line.val
  if !(s.chan c).checking then .next s else
  let s := s.setChan c { s.chan c with checking := false }
  match r with
  | .normal => .next (s.put (TH_IN_STAT.check c) 1)
  | .reversed =>
    .next (((s.setChan c { s.chan c with reversed := true }).put (TH_IN_STAT.check c) 2).raise pageTH2 c CORRECTED
      0x0523 c 0)
  | .inconclusive => .next ((s.put (TH_IN_STAT.check c) 3).raise pageTH2 c INFO 0x0524 c 0)

/-! ### SYSREF (R165) -/

/-- The grid that a generator's parameters describe, from its first edge at or after a time. -/
def State.newGrid (s : State) (n from_ : Nat) : SrRun :=
  let g : SrRun := { mode := s.get (TH_SR_CTRL.mode n), period := s.getWide (TH_SR_PERIOD.off n 0) 2
                     high := s.get (TH_SR_HIGH.v n), start := s.getWide (TH_SR_START.off n 0) 3 % 2 ^ 80
                     count := s.get (TH_SR_COUNT.v n) }
  { g with next := g.firstAt from_ }

/-- Whether a grid's parameters are refused (R165). -/
def SrRun.bad (g : SrRun) : Bool :=
  decide (g.period < 10 * nsUnits) || decide (g.high < deadTime) || decide (g.period < g.high + deadTime)
    || (decide (g.mode = 2) && decide (g.count = 0))

/-- What the write of SysrefGo does. -/
def State.writeSysref (s : State) (n : Fin 4) (v : Word) : State :=
  let k := n.val
  let s := s.write (TH_SR_CTRL.off k) v
  if !bit v 31 then s else
  let g := s.newGrid k (s.timeNow + 40 * nsUnits)
  if g.bad then (s.put (TH_SR_CTRL.refused k) 1) else
  let s := s.put (TH_SR_CTRL.refused k) 0
  let old := s.grid k
  if g.live then (s.setGrid k { old with coming := some g })
  else (s.setGrid k { old with run := g, coming := none })

/-- SYSREF_GO (R165): the running grid keeps its edges before the new one's first. -/
def execSysrefGo (n : Fin 4) (v : Word) (s : State) : Out := mirrored (fun s => .next (s.writeSysref n v)) s

/-- The next rising edge of a generator, the grid it belongs to, and whether that grid is a new one. -/
def SrGrid.nextRise (g : SrGrid) : Option (Nat × SrRun) :=
  match g.coming with
  | some c => if g.run.live && decide (g.run.riseAt < c.riseAt) then some (g.run.riseAt, g.run) else some (c.riseAt, c)
  | none => if g.run.live then some (g.run.riseAt, g.run) else none

/-- A SYSREF edge is driven at its placed time while the driver is enabled. -/
def State.driveSysref (s : State) (n : Nat) (level : Bool) (t : Nat) : State :=
  s.when (s.driverOn (24 + n)) fun s => s.driveOut (24 + n) level (s.placed (24 + n) t)

/-- SYSREF_EDGE (R165): the falling edge of a pulse, or the next rising edge of the grid. -/
def execSysrefEdge (n : Fin 4) (s : State) : Out := mirrored (fun s =>
  let k := n.val
  let g := s.grid k
  let rise := g.nextRise
  let fall := match g.fallAt, rise with
    | some f, some r => decide (f ≤ r.1)
    | some _, none => true
    | none, _ => false
  if fall then
    let f := g.fallAt.getD 0
    let s := (s.reachTime (BitVec.ofNat 80 f)).driveSysref k false f
    .next (s.setGrid k { g with fallAt := none })
  else match rise with
    | none => .next s
    | some (t, r) =>
      let s := (s.reachTime (BitVec.ofNat 80 t)).driveSysref k true t
      let isNew := decide (g.coming = some r)
      .next (s.setGrid k { run := { r with next := r.next + 1 }, coming := if isNew then none else g.coming
                           fallAt := some (t + r.high) })) s

end Sys2Proof.Machine
end

