-- ==== Sys2Proof/Machine/Pair.lean ====
section
/-! DEFINITION. The redundant pair: forming it, mirroring, heartbeats, takeover, fencing and rejoin (R455 to R471). -/

namespace Sys2Proof.Machine

open Reg

/-! ### Forming a pair (R455 to R457) -/

/-- Whether the mirror quad of this device is ready: in mirror mode, its four lanes one RUNNING group with train 1
(R455). -/
def State.mirrorQuadReady (s : State) : Bool :=
  let q := s.get PAIR_CFG.quad
  let l := 4 * q
  s.is (XCV_Q_CFG.mirror q) && decide (s.get (XCV_LN_STAT.grp_state l) = 4) && decide (s.get (XCV_LN_GRP.count l) = 4)
    && decide (s.get (XCV_LN_GRP.train l) = 1)

/-- The first requirement of R455 that is missing, 0 for none. The survivor of a takeover keeps its PAIR_FENCE_OUT high
(R469), so that its ball is not asked to read low. -/
def State.missingNeed (s : State) (f : PairFacts) : Nat :=
  if !s.mirrorQuadReady || !f.linkRunning then 1
  else if f.partnerCode ≠ s.word DEV_CODE.off || f.partnerCrc ≠ s.word PAIR_IMAGE.off then 2
  else if s.is PAIR_STAT.pin_role = f.partnerHigh then 3
  else if !f.fenceWired || (!f.fenceBackLow && !s.pair.survivor) then 4
  else 0

/-- A copy begins (R457): SYNCING, with an empty queue. -/
def State.startCopy (s : State) : State :=
  ({ s with pair := { s.pair with queue := [], copying := true, misses := 0 } }.setPairState 1).showLag

/-- Every context goes on as far as it may. -/
def State.progressAll (s : State) : State := s.each s.ctxsOn fun s n => s.progress n

/-- Pairing is off, or the primary stands alone: nothing is mirrored and no record waits for an acknowledgement. -/
def State.stopMirroring (s : State) (state : Nat) : State :=
  (({ s with pair := { s.pair with queue := [], copying := false } }.setPairState state).showLag).progressAll

/-- Enabled: the requirements of R455 are checked in a device that is SINGLE or ALONE, and in a FENCED one that is to
come back as standby (R457, R469). -/
def State.enablePair (s : State) (f : PairFacts) : State :=
  let st := s.get PAIR_STAT.state
  if st = 6 then s.when (!s.is PAIR_STAT.role) fun s => { s with pair := { s.pair with copying := true, applied := 0 } }
  else if st ≠ 0 && st ≠ 5 then s
  else
    let r := s.missingNeed f
    let s := s.put PAIR_STAT.reason r
    if r = 0 then s.startCopy else s.pairEvent 6 INFO 0x0F07

/-- What the partner and the card present to a write that carries none of it: free values. -/
def State.freeFacts (s : State) : PairFacts × State :=
  let got := s.fresh 32
  let a := got.1
  let s := got.2
  let got := s.fresh 32
  let b := got.1
  let s := got.2
  let got := s.fresh 4
  let c := got.1
  let s := got.2
  ({ linkRunning := c.getLsbD 0, partnerCode := a, partnerCrc := b, partnerHigh := c.getLsbD 1,
     fenceWired := c.getLsbD 2, fenceBackLow := c.getLsbD 3 }, s)

/-! ### Takeover, release, rejoin and resync -/

/-- A standby asserts PAIR_FENCE_OUT and is in TAKEOVER (R465). -/
def State.startTakeover (s : State) : State :=
  let st := s.get PAIR_STAT.state
  if !s.is PAIR_STAT.role && (st = 2 || st = 3) then
    { s with pair := { s.pair with before := st, driven := true } }.setPairState 4
  else s

/-- A new copy from UNSYNCED, which the primary starts (R460). -/
def State.resyncPair (s : State) : State :=
  if s.is PAIR_STAT.role && s.get PAIR_STAT.state = 3 then s.startCopy else s

/-- A FENCED device returns as standby, to be copied to (R469). -/
def State.rejoinPair (s : State) : State :=
  if s.fenced then
    { s with pair := { s.pair with copying := true, applied := 0, misses := 0 } }.put PAIR_STAT.role 0
  else s

/-- A FENCED device leaves FENCED while PAIR_FENCE_IN is low (R467): into SYNC where its rejoin is complete (R469), else
into SINGLE. -/
def State.releasePair (s : State) : State :=
  if !s.fenced || s.is PAIR_STAT.fence_in then s
  else if s.pair.rejoined then
    { s.pairEvent 4 INFO 0x0F05 with pair := { s.pair with rejoined := false, copying := false } }.setPairState 2
  else s.setPairState 0

/-- A write of PAIR_CTRL: its fields, then takeover, resync, rejoin and release. -/
def State.writePairCtrl (s : State) (v : Word) (f : Option PairFacts) : State :=
  let on := s.is PAIR_CTRL.enable
  let s := s.write PAIR_CTRL.off v
  let now := s.is PAIR_CTRL.enable
  let s := if now then
      (match f with
      | some f => s.enablePair f
      | none => if on then s else
        let got := s.freeFacts
        let f := got.1
        let s := got.2
        s.enablePair f)
    else if on && !s.fenced && s.get PAIR_STAT.state ≠ 4 then s.stopMirroring 0
    else s
  let s := s.when (bit v 29) State.startTakeover
  let s := s.when (bit v 28) State.resyncPair
  let s := s.when (bit v 27) State.rejoinPair
  s.when (bit v 26) State.releasePair

/-- PAIR_ENABLE (R455 to R457): a write of PAIR_CTRL. -/
def execPairEnable (v : Word) (f : PairFacts) (s : State) : Out := .next (s.writePairCtrl v (some f))

/-- TAKEOVER (R465): a write of PAIR_CTRL. -/
def execTakeover (v : Word) (s : State) : Out := .next (s.writePairCtrl v none)

/-- RELEASE (R467): a write of PAIR_CTRL with PAIR_FENCE_IN at a level. -/
def execRelease (v : Word) (fenceIn : Bool) (s : State) : Out :=
  .next ((s.putB PAIR_STAT.fence_in fenceIn).writePairCtrl v none)

/-- REJOIN (R469): a write of PAIR_CTRL. -/
def execRejoin (v : Word) (s : State) : Out := .next (s.writePairCtrl v none)

/-- RESYNC (R460): a write of PAIR_CTRL. -/
def execResync (v : Word) (s : State) : Out := .next (s.writePairCtrl v none)

/-- PAIR_SYNC_COMPLETE (R457, R469): the copy is complete. The survivor of a takeover releases PAIR_FENCE_OUT; a FENCED
partner may then be released. -/
def execPairSyncComplete (s : State) : Out :=
  if !s.pair.copying then .next s
  else if s.fenced then .next { s with pair := { s.pair with rejoined := true } }
  else if s.get PAIR_STAT.state = 1 then
    let s := { s.pairEvent 4 INFO 0x0F05 with pair := { s.pair with copying := false } }.setPairState 2
    .next (s.when s.pair.survivor fun s =>
      { s with pair := { s.pair with survivor := false, driven := false } }.put PAIR_STAT.fence_out 0)
  else .next s

/-! ### The standby's copy (R458, R459) -/

/-- The primary's record of a context. -/
def recordOf (r : MirrorRec) : StreamRec :=
  { pos := r.pos.toNat, status := r.status.toNat, detail := r.detail.toNat, bytes := r.bytes.toNat, cookie := r.cookie,
    noIrq := r.noIrq, phase := r.phase }

/-- The standby applies one change. TH_CTRL and TH_NODE are kept aside until a takeover (R465). -/
def State.applyChange (s : State) (ch : Change) : State :=
  match ch with
  | .contextWord n w v =>
    let s := s.setWord (SE_SC_CTRL.off n.toNat + 4 * w.val) v
    s.setCtx n.toNat { s.ctx n.toNat with on := s.is (SE_SC_CTRL.enable n.toNat) }
  | .record n r => s.setCtx n.toNat { s.ctx n.toNat with recs := (s.ctx n.toNat).recs ++ [recordOf r] }
  | .sluice j count timing =>
    ((s.put (SLU_STAT.count j) count.toNat).putB (SLU_STAT.timing j) timing).setTimer j (if timing then some s.now else none)
  | .memory m w v => (s.storeWord m w.toNat v true).setValid m w.toNat true
  | .clrv m => s.clearValid m
  | .task t w v => s.setWord (TS_TASK.off t w) v
  | .hubReg off v =>
    if off.toNat = TH_CTRL.off || off.toNat = TH_NODE.off then
      { s with pair := { s.pair with hub := s.pair.hub.set resetWord off.toNat v } }
    else s.setWord off.toNat v
  | .seqTimer n t => s.setSeq n { s.seqSt n with timer := t }
  | .outQueue o acts =>
    s.setOut o { s.out o with queue := acts.map fun a => ({ t := a.1, act := a.2.1, width := a.2.2 } : OutAct) }

/-- Whether the device receives the changes of a primary: a standby, or a FENCED device that rejoins. -/
def State.takesChanges (s : State) : Bool :=
  (s.standby && decide (s.get PAIR_STAT.state ≠ 4)) || (s.fenced && s.pair.copying)

/-- MIRROR_CHANGE (R459): the standby applies a change, each once, and its position is the one that it acknowledges. -/
def execMirrorChange (position : Nat) (ch : Change) (s : State) : Out :=
  if !s.takesChanges || position ≤ s.pair.applied then .next s
  else .next { s.applyChange ch with pair := { (s.applyChange ch).pair with applied := position } }

/-- An acknowledgement up to a position (R460, R461): the changes leave the queue and the records that waited go out. -/
def State.takeAck (s : State) (position : Nat) : State :=
  if !s.mirrors || position ≤ s.pair.acked then s else
  let s := { s with pair := { s.pair with
    acked := position, queue := s.pair.queue.filter fun e => !decide (e.1 ≤ position) } }
  s.showLag.progressAll

/-- MIRROR_ACK (R461). -/
def execMirrorAck (position : Nat) (s : State) : Out := .next (s.takeAck position)

/-! ### Heartbeats (R464 to R466) -/

/-- HEARTBEAT_SEND (R464). -/
def execHeartbeatSend (s : State) : Out :=
  if !s.is PAIR_CTRL.enable || s.get PAIR_STAT.state = 0 then .next s else
  .next { s with pair := { s.pair with sent := some {
    primary := s.is PAIR_STAT.role, state := BitVec.ofNat 4 (s.get PAIR_STAT.state), crc := s.word PAIR_IMAGE.off
    ack := s.pair.applied, check := true } } }

/-- HEARTBEAT_RECEIVED (R464): a heartbeat that passes its check resets the run of misses. The primary takes its
acknowledgement; a standby follows the primary into SYNCING and UNSYNCED (R457, R460). -/
def execHeartbeatReceived (h : Heartbeat) (s : State) : Out :=
  if !h.check || !s.is PAIR_CTRL.enable then .next s else
  let s := { s with pair := { s.pair with misses := 0 } }
  let s := s.takeAck h.ack
  let st := s.get PAIR_STAT.state
  let follows := !s.is PAIR_STAT.role && h.primary && decide (1 ≤ st) && decide (st ≤ 3)
  if follows && decide (h.state = 1) && decide (st ≠ 1) then .next s.startCopy
  else if follows && decide (h.state = 3) && decide (st ≠ 3) then
    .next ({ s with pair := { s.pair with copying := false } }.setPairState 3)
  else .next s

/-- HEARTBEAT_MISS (R464, R465): a window with no heartbeat; at the limit a standby in SYNC or UNSYNCED takes over. -/
def execHeartbeatMiss (s : State) : Out :=
  let st := s.get PAIR_STAT.state
  if !s.is PAIR_CTRL.enable || st = 0 || 4 ≤ st then .next s else
  let s := { s.count PAIR_HB_MISS.v with pair := { s.pair with misses := s.pair.misses + 1 } }
  .next (s.when (decide (s.get PAIR_CFG.miss ≤ s.pair.misses)) State.startTakeover)

/-- PRIMARY_ALONE (R466): a primary that has missed heartbeats and is not fenced goes on alone, and its records wait no
longer. -/
def execPrimaryAlone (s : State) : Out :=
  let st := s.get PAIR_STAT.state
  if s.is PAIR_STAT.role && decide (0 < s.pair.misses) && decide (1 ≤ st) && decide (st ≤ 3) then
    .next ((s.pairEvent 1 CONTAINED 0x0F02).stopMirroring 5)
  else .next s

/-! ### Fencing (R465, R467, R468) -/

/-- FENCE_READBACK (R465): the ball of PAIR_FENCE_OUT 1 µs after it was asserted; a low ball ends the takeover. -/
def execFenceReadback (high : Bool) (s : State) : Out :=
  if s.get PAIR_STAT.state ≠ 4 then .next s
  else if high then .next (s.put PAIR_STAT.fence_out 1)
  else
    let s := (s.put PAIR_STAT.fence_out 0).pairEvent 5 FATAL 0x0F06
    .next ({ s with pair := { s.pair with driven := false } }.setPairState s.pair.before)

/-- The device is FENCED (R467): its outputs are released; what it may not do, each block holds back. -/
def State.becomeFenced (s : State) : State :=
  if s.fenced then s else
  let s := (s.pairEvent 2 CONTAINED 0x0F03).setPairState 6
  let s := { s with pair := { s.pair with queue := [], copying := false, rejoined := false, survivor := false } }.showLag
  s.each (List.range 28) fun s o => s.releaseOut o

/-- FENCE_IN (R467, R468): PAIR_FENCE_IN has been high for 1 µs; `both` says that the two devices asserted their fences
within 10 µs of each other, which PAIR_ROLE resolves. -/
def execFenceIn (both : Bool) (s : State) : Out :=
  let s := s.put PAIR_STAT.fence_in 1
  if both && s.pair.driven then
    if s.is PAIR_STAT.pin_role then .next s
    else .next ({ s with pair := { s.pair with driven := false } }.put PAIR_STAT.fence_out 0).becomeFenced
  else .next s.becomeFenced

/-! ### Takeover (R462, R463, R465) -/

/-- The record at the done position, if the standby has it. -/
def State.nextRecord (s : State) (n : Nat) : Option StreamRec :=
  (s.ctx n).recs.find? fun r : StreamRec => r.pos = s.done n

/-- The record of a position that the host ring holds and the standby has not heard of: what it says is free. -/
def State.strangeRecord (s : State) (n : Nat) : StreamRec × State :=
  let got := s.fresh 32
  let b := got.1
  let s := got.2
  let got := s.fresh 64
  let k := got.1
  let s := got.2
  let got := s.fresh 1
  let q := got.1
  let s := got.2
  ({ pos := s.done n, status := 0, bytes := b.toNat, cookie := k, noIrq := q = 1, phase := s.is (SE_SC_STAT.phase n) }, s)

/-- Records found present are adopted in order, and counted (R462 step 2, R463). -/
def State.adopt (s : State) (n : Nat) : Nat → State
  | 0 => s
  | k + 1 =>
    let (r, s) := match s.nextRecord n with
      | some r => (r, s)
      | none => s.strangeRecord n
    let c := s.ctx n
    let s := s.setCtx n { c with recs := c.recs.filter fun e : StreamRec => e ≠ r }
    ((s.stepDone n r).countRecord n r).adopt n k

/-- The records from a position on that the standby holds, in ring order: `left` positions may be looked at. -/
def runFrom (rs : List StreamRec) (len pos : Nat) : Nat → List StreamRec
  | 0 => []
  | left + 1 =>
    match rs.find? fun r : StreamRec => r.pos = pos with
    | some r => r :: runFrom rs len ((pos + 1) % len) left
    | none => []

/-- A mirrored context is taken over (R462): present records of a host ring are adopted, acknowledged ones written
again, and the first descriptor without a record is the next to start. -/
def State.takeContext (s : State) (n present : Nat) : State :=
  let s := if isHost (s.cring n) then s.adopt n (min present (s.ringLen n)) else s
  let c := s.ctx n
  let rs := runFrom c.recs (s.ringLen n) (s.done n) c.recs.length
  let again (r : StreamRec) : StreamRec := { r with written := false, ack := none }
  let s := s.put (SE_SC_IDX.head n) ((s.done n + rs.length) % s.ringLen n)
  s.setCtx n { on := c.on, stopped := decide (s.ctxState n = 4), recs := rs.map again }

/-- The tasks whose entries hold a state. -/
def State.statedTasks (s : State) : List Nat :=
  let rows := s.regs.filter fun e : Nat × Word =>
    decide (TS_TASK.off 0 0 ≤ e.1) && decide (e.1 < TS_TASK.off 4096 0) && decide ((e.1 - TS_TASK.off 0 0) % 32 = 0)
  rows.map fun e : Nat × Word => (e.1 - TS_TASK.off 0 0) / 32

/-- The scheduler takes up the mirrored task table (R424, R465): READY tasks are listed, RUNNING ones return to READY. -/
def State.takeTasks (s : State) : State :=
  let s := { s with ts := { s.ts with ready := [], running := [], suspend := [] } }
  let ts := s.statedTasks
  let s := s.each ts fun s t =>
    if s.get (taskState t) = 3 then
      let g := s.get (taskTarget t)
      s.setReady g (s.listTail t (s.readyList g))
    else if s.get (taskState t) = 4 then
      let g := s.get (taskTarget t)
      s.setRunning g (s.runningOn g ++ [t])
    else s
  s.each ts.reverse fun s t => s.returnOne t

/-- A root's standby is root (R465 step 5): its UP lane is OFF and its time goes on without a step. -/
def State.takeRoot (s : State) : State :=
  if !(s.pair.hub.get resetWord TH_CTRL.off).getLsbD TH_CTRL.role.lo then s else
  let ups := s.lanesOf 1
  let was := s.is TH_CTRL.role
  let s := s.put TH_CTRL.role 1
  let s := s.each ups fun s n =>
    let s := ((s.put (TH_TL_CFG.role n) 0).put (TH_TL_STAT.link n) 0).put (TH_TL_STAT.reason n) 0
    ((s.put (TH_TL_STAT.cal_done n) 0).setTl n { frameNo := markNumber s.th.time }).showMarks
  if s.is TH_CTRL.enable && !was then s.changeRole else s

/-- TAKEOVER_SETTLE (R462, R463, R465): the standby becomes primary and resumes the mirrored work. -/
def execTakeoverSettle (ctxs : List TakeoverCtx) (s : State) : Out :=
  if s.get PAIR_STAT.state ≠ 4 || !s.is PAIR_STAT.fence_out then .next s else
  let s := (s.pairEvent 0 CONTAINED 0x0F01).put PAIR_STAT.role 1
  let s := { s.count PAIR_TAKEOVERS.v with pair := { s.pair with
    survivor := true, copying := false, queue := [], acked := s.pair.applied, nextPos := s.pair.applied + 1 } }
  let s := s.setPairState 5
  let s := s.each (s.ctxsOn.filter fun n => s.mirroredCtx n) fun s n =>
    let present := match ctxs.find? fun c : TakeoverCtx => c.ctx.toNat = n with
      | some c => c.present
      | none => 0
    s.takeContext n present
  let s := s.takeTasks.takeRoot
  let s := s.each (List.range 28) fun s o => s.passOut o
  .next s.progressAll

end Sys2Proof.Machine
end

