-- ==== Sys2Proof/Machine/Protection.lean ====
section
/-! DEFINITION. The protection engines' commands: keys, regions, INIT, node fetches and re-encryption (R343 to R365). -/

namespace Sys2Proof.Machine

open Reg

/-! ### Keys -/

/-- Whether an engine discards the key writes of a sender (R343): with host_block set, all but the control complex's and
the Towpath's. (The system section never names a key register itself, R214.) -/
def State.keyBlocked (s : State) (n : Nat) (sender : Sender) : Bool :=
  match sender with
  | .firmware _ => false
  | .towpath => false
  | .host => s.is (MPE_CTRL.host_block n)
  | .quay _ => s.is (MPE_CTRL.host_block n)
  | .image => s.is (MPE_CTRL.host_block n)

/-- Whether a region bound to a key ID is in one of some states. -/
def State.boundIn (s : State) (n id : Nat) (p : Nat → Bool) : Bool :=
  (List.range 8).any fun r => decide (s.get (MPE_RGN_CFG.key n r) = id) && p (s.rgnState n r)

/-- A key ID takes a key, or none: MPE_KEY_VALID shows which hold one, and the regions that wait for a fresh key have
it (R343, R344). -/
def State.setKey (s : State) (n id : Nat) (k : Option (BitVec 256)) : State :=
  let v := s.mpe n
  let s := s.setMpe n { v with keys := v.keys.set keyDefault id k }
  let s := s.put ⟨MPE_KEY_VALID.off n (id / 32), id % 32, id % 32⟩ k.isSome.toNat
  if k.isNone then s else
  s.each (List.range 8) fun s r =>
    if s.get (MPE_RGN_CFG.key n r) = id && (s.rgnState n r = 4 || s.rgnState n r = 5) then
      s.setRgn n r { s.rgn n r with fresh := true }
    else s

/-- A write of MPE_KEY_CMD (R343, R344): a load takes MPE_KEY0 to MPE_KEY7 and clears them; a load or an erase of key
ID 0, or of one bound to a region in INIT or ACTIVE, is refused. -/
def State.writeKeyCmd (s : State) (n : Nat) (sender : Sender) (v : Word) : State :=
  if s.keyBlocked n sender then s else
  let s := s.write (MPE_KEY_CMD.off n) v
  let id := s.get (MPE_KEY_CMD.key_id n)
  if !(bit v 31 || bit v 30) then s
  else if id = 0 || s.boundIn n id fun st => st = 1 || st = 2 then
    (s.put (MPE_KEY_CMD.result n) 3).raise (pageMPE n) 8 INFO 0x0B0A 0 0
  else
    let s := s.when (bit v 31) fun s =>
      let k := BitVec.ofNat 256 (s.getWide (MPE_KEY.off n 0) 8)
      (s.setKey n id (some k)).putWide (MPE_KEY.off n 0) 8 0
    let s := s.when (bit v 30) fun s => s.setKey n id none
    s.put (MPE_KEY_CMD.result n) 1

/-- KEY_LOAD (R343, R344). -/
def execKeyLoad (n : Fin 8) (sender : Sender) (v : Word) (s : State) : Out := .next (s.writeKeyCmd n sender v)

/-- KEY_ERASE (R343, R344). -/
def execKeyErase (n : Fin 8) (sender : Sender) (v : Word) (s : State) : Out := .next (s.writeKeyCmd n sender v)

/-- A write of a key mode register (R343, R344, R363): the mode of a key ID whose regions are not all OFF stands, the
code 3 is stored as 0, and key ID 0 has none. -/
def State.writeKeyMode (s : State) (n j : Nat) (sender : Sender) (v : Word) : State :=
  if s.keyBlocked n sender then s else
  s.each (List.range 16) fun s k =>
    let id := 16 * j + k
    let m := bitsOf v (2 * k + 1) (2 * k)
    if id = 0 || s.boundIn n id fun st => st ≠ 0 then s
    else s.put ⟨MPE_KEY_MODE.off n j, 2 * k + 1, 2 * k⟩ (if m = 3 then 0 else m)

/-! ### Regions -/

/-- The metadata length of `mib` MiB of data in units of 4 KiB (R348): data tags, leaf tags, leaves and upper nodes. -/
def metaUnits (mib : Nat) : Nat :=
  let d := mib * 2 ^ 20
  let ups := ((levelCounts (d / 4096) 7).drop 1).foldl (fun a c => a + 64 * c) 0
  (d / 8 + d / 512 + d / 64 + ups + 4095) / 4096

/-- Whether two byte ranges share a byte. -/
def overlaps (a b : Nat × Nat) : Bool := decide (a.1 < b.2) && decide (b.1 < a.2)

/-- The data and the metadata of a region as byte ranges. -/
def State.rgnData (s : State) (n r : Nat) : Nat × Nat :=
  (s.get (MPE_RGN_BASE.mib n r) * 2 ^ 20, (s.get (MPE_RGN_BASE.mib n r) + s.get (MPE_RGN_SIZE.mib n r)) * 2 ^ 20)
def State.rgnMeta (s : State) (n r : Nat) : Nat × Nat :=
  let b := s.get (MPE_RGN_META.v n r) * 4096
  (b, b + metaUnits (s.get (MPE_RGN_SIZE.mib n r)) * 4096)

/-- Why an enable is refused, in the order of R347; none where it is accepted. -/
def State.enableReason (s : State) (n r : Nat) : Option Nat :=
  let (d, m) := (s.rgnData n r, s.rgnMeta n r)
  let id := s.get (MPE_RGN_CFG.key n r)
  if s.rgnState n r ≠ 0 || s.dmcState n ≠ 2 then some 5
  else if s.get (MPE_RGN_SIZE.mib n r) = 0 || s.dcapBytes n < d.2 then some 1
  else if (List.range 8).any fun q => decide (q ≠ r) && decide (s.rgnState n q ≠ 0)
      && (overlaps d (s.rgnData n q) || overlaps d (s.rgnMeta n q) || overlaps m (s.rgnData n q)
        || overlaps m (s.rgnMeta n q)) then some 2
  else if m.1 < s.dcapBytes n || s.dmcBytes n < m.2 then some 3
  else if id = 0 || s.keyMode n id = 0 || (s.mpeKey n id).isNone then some 4
  else none

/-- A request for an enable or an INIT is answered in MPE_RGN_STAT (R347, R361). -/
def State.rgnAnswer (s : State) (n r result reason : Nat) : State :=
  (s.put (MPE_RGN_STAT.result n r) result).put (MPE_RGN_STAT.reason n r) reason

/-- An INIT starts over `m` groups from group `a` (R345, R361): the epoch advances, or, of a region that restarts, its
epoch and every counter are 0. -/
def State.startInit (s : State) (n r a m : Nat) (restart : Bool) : State :=
  let s := (s.rgnAnswer n r 1 0).setRgnState n r 1
  let key := BitVec.ofNat 6 (s.get (MPE_RGN_CFG.key n r))
  let s := if restart then
      let root : Root := { key := key }
      let s := s.setRgn n r { rootA := root, rootB := root }
      s.putWide (MPE_RGN_HWM.off n r 0) 2 0
    else s.setRoot n r fun x => { x with epoch := x.epoch + 1 }
  let s := s.put (MPE_RGN_EPOCH.v n r) (s.rgn n r).rootA.epoch.toNat
  s.setRgn n r { s.rgn n r with init := some (a, m), fresh := false }

/-- A write of MPE_RGN_CFG (R347, R361, R362, R364): key is writable in OFF, EXHAUSTED and DISABLED; setting enable in OFF
starts an INIT or is refused, and clearing it in ACTIVE or POISONED lets the region turn OFF; init_go requests an INIT. -/
def State.writeRgnCfg (s : State) (n r : Nat) (v : Word) : State :=
  let st := s.rgnState n r
  let s := s.when (decide (st = 0) || decide (st = 4) || decide (st = 5)) fun s =>
    s.put (MPE_RGN_CFG.key n r) (bitsOf v 5 0)
  let was := s.is (MPE_RGN_CFG.enable n r)
  let s :=
    if bit v 31 && (!was || decide (st = 0)) then
      match s.enableReason n r with
      | some why => (s.rgnAnswer n r 3 why).raise (pageMPE n) 8 INFO 0x0B0A (s.rgnFirst n r * 64) r
      | none =>
        let size := s.get (MPE_RGN_SIZE.mib n r)
        let s := (s.put (MPE_RGN_CFG.enable n r) 1).put (MPE_RGN_MLEN.v n r) (metaUnits size)
        let s := s.put (MPE_RGN_STAT.levels n r) (levelCounts (s.rgnGroups n r) 7).length
        s.startInit n r 0 (s.rgnGroups n r) true
    else if !bit v 31 && was && (decide (st = 2) || decide (st = 3)) then
      (s.setRgn n r { s.rgn n r with closing := true }).settleRegions n
    else s
  if bit v 30 && !(bit v 31 && !was) then
    let st := s.rgnState n r
    let a := s.get (MPE_RGN_INIT_BASE.v n r)
    let m := s.get (MPE_RGN_INIT_LEN.v n r)
    let g := s.rgnGroups n r
    let whole := decide (m = 0) || (decide (a = 0) && decide (m = g))
    let (a, m) := if m = 0 then (0, g) else (a, m)
    let spent := decide ((s.rgn n r).rootA.epoch = BitVec.allOnes 24)
    let partly := (s.mpe n).poison.any fun e =>
      let lo := firstLine e.2.1 e.2.2 / 64
      let hi := if e.2.1 = 0 then lo + 1 else (e.2.2 + 1) * 8 ^ (e.2.1 - 1)
      decide (e.1 = r) && decide (lo < a + m) && decide (a < hi)
        && !(decide (a ≤ lo) && decide (min hi g ≤ a + m))
    let refuse (why : Nat) : State := s.rgnAnswer n r 3 why
    if st = 0 || st = 1 then refuse 5
    else if st = 4 || st = 5 then
      (if !whole then refuse 5
      else if !(s.rgn n r).fresh then refuse 4 else s.startInit n r 0 g true)
    else if st = 3 && !whole then refuse 5
    else if g < a + m then refuse 1
    else if partly then refuse 6
    else if spent then refuse 7
    else s.startInit n r a m false
  else s

/-- REGION_ENABLE (R345, R347, R348, R361). -/
def execRegionEnable (n : Fin 8) (r : Fin 8) (v : Word) (s : State) : Out := .next (s.writeRgnCfg n r v)

/-- REGION_DISABLE (R353, R362). -/
def execRegionDisable (n : Fin 8) (r : Fin 8) (v : Word) (s : State) : Out := .next (s.writeRgnCfg n r v)

/-- INIT_GO (R345, R361). -/
def execInitGo (n : Fin 8) (r : Fin 8) (v : Word) (s : State) : Out := .next (s.writeRgnCfg n r v)

/-- INIT_COMPLETE (R361): once what was queued for the range is done, every line of it is zero plaintext under fresh
counters, its poison entries are free, and the region is ACTIVE. -/
def execInitComplete (n : Fin 8) (r : Fin 8) (s : State) : Out :=
  match (s.rgn n r).init with
  | none => .next s
  | some (a, m) =>
    let first := s.rgnFirst n r
    let lo := first + 64 * a
    let hi := first + 64 * (a + m)
    let v := s.dmc n
    if (v.reads ++ v.writes).any fun e => decide (lo ≤ e.line) && decide (e.line < hi) then .next s else
    let g := s.rgn n r
    let z : ZeroRun := { lo := lo, hi := hi, epoch := g.rootA.epoch, key := some (s.rgnKey n r) }
    let s := s.loseLines n lo hi
    let inside (e : Nat × Nat × Nat) : Bool :=
      e.1 = r.val && decide (64 * a ≤ firstLine e.2.1 e.2.2) && decide (firstLine e.2.1 e.2.2 < 64 * (a + m))
    let s := s.setMpe n { s.mpe n with zeros := z :: (s.mpe n).zeros, poison := (s.mpe n).poison.filter fun e => !inside e }
    let s := s.setRgn n r { g with
      init := none, leaves := g.leaves.eraseRange a (a + m), tags := g.tags.eraseRange (64 * a) (64 * (a + m)),
      epochs := g.epochs.eraseRange (64 * a) (64 * (a + m)) }
    .next ((s.setRgnState n r 2).mpeEvent n 7 INFO 0x0B09 lo r 0)

/-! ### Nodes and groups -/

/-- NODE_FETCH (R351, R353, R357, R359, R360): a node or tag line that is not in the counter cache comes from the DRAM
and enters it verified, or fails its check and is poisoned; one that fails in the cache leaves it and is logged for the
cache too (R94). -/
def execNodeFetch (n : Fin 8) (r : Fin 8) (level : Fin 9) (index : BitVec 26) (good fromCache : Bool) (s : State) :
    Out :=
  let st := s.rgnState n r
  let i := index.toNat
  if st = 0 || s.get (MPE_RGN_STAT.levels n r) < level.val || s.nodeCount n r level ≤ i
    || s.cached n r level i ≠ fromCache then .next s
  else
    let s := s.checkRoot n r
    if s.rgnState n r = 5 then .next s
    else if fromCache then
      (if good then .next s else
      let s := s.setMpe n { s.mpe n with cache := (s.mpe n).cache.filter fun e =>
        !(e.1 = r.val && e.2.1 = level.val && e.2.2.1 = i) }
      let s := (s.count ⟨pageMPE n + 0xF0C, 31, 0⟩).log (pageMPE n) CONTAINED 0x0312 i (r.val + level.val * 2 ^ 16)
      .next (s.addPoison n r level i))
    else
      let s := s.count (MPE_CC_MISS.v n)
      .next (if good then s.cacheNode n r level i else s.addPoison n r level i)

/-- Line `l` of a group is read and verified under its old counters and written back under the new (R355); one that fails
its check gets a tag that fails again. -/
def State.reencryptLine (s : State) (n r l : Nat) (old new : LineCtr) (fails : Bool) : State :=
  let rank := s.lineRank n l
  let got := s.rawLine n l
  let raw := got.1
  let s := got.2
  let d := decodeLine rank l raw
  let key := s.rgnKey n r
  let c := crypt key new rank l (crypt key old rank l d.data)
  let bad := fails || (s.integrity n r && !s.tagGood n r l old d.data)
  let s := s.storeLine n l (codedLine rank l c)
  if s.integrity n r then
    let g := s.rgn n r
    let t := some (lineTag key new rank l c ^^^ (if bad then 1 else 0))
    s.setRgn n r { g with tags := g.tags.set tagDefault (l - s.rgnFirst n r) t }
  else s

/-- REENCRYPTION_COMPLETE (R355): once what was queued for the group is done, its major counter has risen, its minor
counters are 0 and its lines stand under them; the high-water mark follows, and the write that started it and the
requests to the group proceed. -/
def execReencryptionComplete (n : Fin 8) (r : Fin 8) (group : Nat) (failed : List (Fin 64)) (s : State) : Out :=
  match (s.rgn n r).groups.find? fun g => g.1 = group with
  | none => .next s
  | some (_, p) =>
    let first := s.rgnFirst n r + 64 * group
    let v := s.dmc n
    if (v.reads ++ v.writes).any fun e => decide (first ≤ e.line) && decide (e.line < first + 64) then .next s else
    let olds := (List.range 64).map fun i => (i, s.lineCtr n r (first + i))
    let g := s.rgn n r
    let major := (g.leaves.get leafDefault group).major + 1
    let new : LineCtr := { major := major, epoch := g.rootA.epoch }
    let s := s.each olds fun s o => s.reencryptLine n r (first + o.1) o.2 new (failed.any fun f => f.val = o.1)
    let g := s.rgn n r
    let epochs := (List.range 64).foldl (fun m i => m.set epochOfDefault (64 * group + i) (some g.rootA.epoch)) g.epochs
    let s := s.setRgn n r { g with
      leaves := g.leaves.set leafDefault group { major := major }, epochs := epochs,
      groups := g.groups.filter fun x => x.1 ≠ group }
    let s := s.setRoot n r fun x => { x with hwm := if x.hwm < major then major else x.hwm }
    let s := s.putWide (MPE_RGN_HWM.off n r 0) 2 (s.rgn n r).rootA.hwm.toNat
    let s := (s.markNode n r 1 group true).count (MPE_REENC.v n)
    let w := s.port (dmcPort n)
    .next (s.when ((w.posted ++ w.accepted).contains p) fun s => s.dramAccept n p)

end Sys2Proof.Machine
end

