-- ==== Sys2Proof/Machine/Stalls.lean ====
section
/-! DEFINITION. Stalls: their commands, swaps and content phases (R241 to R267, R280). -/

namespace Sys2Proof.Machine

open Reg

/-! ### Commands (R242, R246, R253, R260, R266, R267, R277, R279) -/

/-- STL_RES shows a command ACCEPTED, or REFUSED with a reason (R242, R279). -/
def State.cmdAccepted (s : State) (n : Nat) : State := (s.put (STL_RES.cmd n) 1).put (STL_RES.reason n) 0
def State.cmdRefused (s : State) (n reason : Nat) : State := (s.put (STL_RES.cmd n) 3).put (STL_RES.reason n) reason

/-- Whether rectangle `j` of stall `n` is malformed (R242, BAD_RECT). -/
def State.rectBad (s : State) (n j : Nat) : Bool :=
  decide (s.get (STL_RECT.c1 n j) < s.get (STL_RECT.c0 n j)) || decide (1163 < s.get (STL_RECT.c1 n j))
    || decide (s.get (STL_RECT.y1 n j) < s.get (STL_RECT.y0 n j)) || decide (19 < s.get (STL_RECT.y1 n j))

/-- Whether two used rectangles share a column and a row (R242, OVERLAP). -/
def State.rectsMeet (s : State) (n j m k : Nat) : Bool :=
  s.rectUsed n j && s.rectUsed m k
    && decide (s.get (STL_RECT.c0 n j) ≤ s.get (STL_RECT.c1 m k)) && decide (s.get (STL_RECT.c0 m k) ≤ s.get (STL_RECT.c1 n j))
    && decide (s.get (STL_RECT.y0 n j) ≤ s.get (STL_RECT.y1 m k)) && decide (s.get (STL_RECT.y0 m k) ≤ s.get (STL_RECT.y1 n j))

/-- Whether a rectangle splits local columns 47 to 49 of some region column (R242, SPLIT). -/
def State.rectSplits (s : State) (n j : Nat) : Bool :=
  (List.range 12).any fun x =>
    let k := ([47, 48, 49].filter fun l =>
      decide (s.get (STL_RECT.c0 n j) ≤ 97 * x + l) && decide (97 * x + l ≤ s.get (STL_RECT.c1 n j))).length
    decide (k ≠ 0) && decide (k ≠ 3)

/-- Why a define is refused (R242), in the order of its table. -/
def State.defineRefusal (s : State) (n : Nat) : Option Nat :=
  let used := (List.range 4).filter fun j => s.rectUsed n j
  let rows (lo hi : Nat) : Bool :=
    used.any fun j => decide (s.get (STL_RECT.y0 n j) ≤ hi) && decide (lo ≤ s.get (STL_RECT.y1 n j))
  let overlap : Bool := used.any fun j =>
    (used.any fun k => decide (j ≠ k) && s.rectsMeet n j n k)
      || (List.range 64).any fun m => decide (m ≠ n) && decide (s.stallState m ≠ 0)
        && (List.range 4).any fun k => s.rectsMeet n j m k
  if s.stallState n ≠ 0 then some 6
  else if used.isEmpty || used.any fun j => s.rectBad n j then some 1
  else if overlap then some 2
  else if used.any fun j => s.rectSplits n j then some 3
  else if rows 0 9 && rows 10 19 && !Config.spineBridged s.cfg.imageNo (s.get (STL_CFG.sclk n)) then some 4
  else if (s.stallRegions n).any fun r => !s.domOpen (regionDom r) then some 5
  else none

/-- A define (R246). -/
def State.defineStall (s : State) (n : Nat) : State :=
  match s.defineRefusal n with
  | some r => s.cmdRefused n r
  | none =>
    let s := (((s.put (STL_STAT.state n) 1).put (STL_STAT.plane n) 0).put (STL_STAT.active_valid n) 1).put
      (STL_STAT.ue_held n) 0
    let s := ((s.setShadow n 5).put (STL_STAT.content_pending n) 0).setStall n {}
    ((s.swapResult n 0).put (STL_SWAPS.v n) 0).cmdAccepted n

/-- An undefine (R246): the active plane's dynamic frames become static ones, the shadow plane's are freed. -/
def State.undefineStall (s : State) (n : Nat) : State :=
  let st := s.stallState n
  if !((st = 1 || st = 6) && s.get (STL_STAT.shadow n) = 5) then s.cmdRefused n 6 else
  let pl := s.activePlane (some n)
  let s := s.freeDynamic fun e => decide (e.2.1 = some n) && decide (e.2.2 ≠ pl)
  let list := s.cfg.dynlist.map fun (e : Word × Option Nat × Bool) =>
    if e.2.1 = some n then (e.1, none, false) else e
  let s := { s with cfg := { s.cfg with dynlist := list } }
  let s := s.when (st = 6) fun s => s.openStallQuays n
  let s := (s.returnTasks (slotTarget n)).setStall n {}
  (((s.put (STL_STAT.state n) 0).put (STL_STAT.plane n) 0).put (STL_STAT.ue_held n) 0).cmdAccepted n

/-- A swap request by register (R253, R254). -/
def State.commandSwap (s : State) (n : Nat) (timed swapClk : Bool) : State :=
  let r := s.requestSwap n timed swapClk none
  if r.2 then r.1.cmdAccepted n else r.1.cmdRefused n 0

/-- A cancel (R260): accepted before edge S − 2. -/
def State.cancelSwap (s : State) (n : Nat) : State :=
  match (s.stall n).swap with
  | some w =>
    if w.frozen || w.flipped then s.cmdRefused n 6
    else ((s.abandonSwap n 6).stallEvent n true INFO 0x0803 6).cmdAccepted n
  | none => s.cmdRefused n 6

/-- The refill command (R277). -/
def State.commandRefill (s : State) (n : Nat) : State :=
  let st := s.stallState n
  let sh := s.get (STL_STAT.shadow n)
  if (st = 1 || st = 6) && (sh = 3 || sh = 0) then (s.startRefill n).cmdAccepted n else s.cmdRefused n 6

/-- A write of STL_CMD (R279): one command, or none with reason STATE where more than one bit is set. -/
def State.writeStlCmd (s : State) (n : Nat) (v : Word) (swapClk : Bool) : State :=
  let b := v.toNat / 2 ^ 23
  match b with
  | 0 => s
  | 256 => s.defineStall n
  | 128 => s.undefineStall n
  | 64 => s.commandSwap n false swapClk
  | 32 => s.commandSwap n true swapClk
  | 16 => s.cancelSwap n
  | 8 => if s.stallState n = 1 then (s.holdStall n).cmdAccepted n else s.cmdRefused n 6
  | 4 => if s.stallState n = 6 then (s.releaseStall n).cmdAccepted n else s.cmdRefused n 6
  | 2 => if s.stallState n = 6 then (s.put (STL_STAT.state n) 7).cmdAccepted n else s.cmdRefused n 6
  | 1 => s.commandRefill n
  | _ => s.cmdRefused n 6

/-- DEFINE (R242, R246). -/
def execDefine (n : Fin 64) (v : Word) (s : State) : Out := .next (s.writeStlCmd n.val v true)

/-- UNDEFINE (R246). -/
def execUndefine (n : Fin 64) (v : Word) (s : State) : Out := .next (s.writeStlCmd n.val v true)

/-- SWAP_NOW (R253, R254). -/
def execSwapNow (n : Fin 64) (v : Word) (swapClk : Bool) (s : State) : Out := .next (s.writeStlCmd n.val v swapClk)

/-- SWAP_AT (R253, R254). -/
def execSwapAt (n : Fin 64) (v : Word) (swapClk : Bool) (s : State) : Out := .next (s.writeStlCmd n.val v swapClk)

/-- CANCEL (R260). -/
def execCancel (n : Fin 64) (v : Word) (s : State) : Out := .next (s.writeStlCmd n.val v true)

/-- RESET_HOLD (R266). -/
def execResetHold (n : Fin 64) (v : Word) (s : State) : Out := .next (s.writeStlCmd n.val v true)

/-- RESET_RELEASE (R266). -/
def execResetRelease (n : Fin 64) (v : Word) (s : State) : Out := .next (s.writeStlCmd n.val v true)

/-- CLEAR (R267). -/
def execClear (n : Fin 64) (v : Word) (s : State) : Out := .next (s.writeStlCmd n.val v true)

/-- REFILL (R277). -/
def execRefill (n : Fin 64) (v : Word) (s : State) : Out := .next (s.writeStlCmd n.val v true)

/-- CLEAR_COMPLETE (R267): both planes of every stall frame zero. -/
def execClearComplete (n : Fin 64) (s : State) : Out :=
  let k := n.val
  if s.stallState k ≠ 7 then .next s else
  let s := { s with planes := s.planes.filter fun e => !s.inStall k (e.1 % 2 ^ 32) }
  let s := ((s.put (STL_RPR0_HI.src k) 0).put (STL_RPR1_HI.src k) 0).freeDynamic fun e => decide (e.2.1 = some k)
  let s := ((s.put (STL_STAT.active_valid k) 0).setShadow k 5).put (STL_STAT.content_pending k) 0
  .next (s.put (STL_STAT.state k) 6)

/-! ### Swaps (R255 to R261) -/

/-- DRAIN_START (R255): at T − lead_us. -/
def execDrainStart (n : Fin 64) (s : State) : Out :=
  let k := n.val
  match (s.stall k).swap with
  | some w =>
    if s.stallState k ≠ 2 then .next s else
    let s := s.reachTime (BitVec.ofNat 80 (s.swapTime k - s.get (STL_DRAIN.lead_us k) * usUnits))
    .next (s.beginDrain k w)
  | none => .next s

/-- The plane selector flips (R258): the stall's registers restart from the new plane, tasks return, and a content phase
follows where one is due. -/
def State.flipStall (s : State) (n : Nat) (w : Swap) : State :=
  let s := s.when w.forced fun s => s.forceStallQuays n
  let content := decide (s.get (STL_STAT.shadow n) = 2) && s.is (STL_STAT.content_pending n)
  let s := s.putWide (STL_FLIP_T.off n 0) 3 s.th.time.toNat
  let s := ((s.putB (STL_STAT.plane n) (!s.is (STL_STAT.plane n))).count (STL_SWAPS.v n)).put (STL_STAT.active_valid n) 1
  let s := (s.restartStall n).returnTasks (slotTarget n)
  let s := (s.put (STL_STAT.state n) (if content then 5 else 4)).put (STL_STAT.content_pending n) 0
  s.setStall n { s.stall n with swap := some { w with frozen := true, flipped := true, content := content }, done := 0 }

/-- DRAIN_COMPLETE (R255): a swap whose clock is lost flips at once (R261). -/
def execDrainComplete (n : Fin 64) (s : State) : Out :=
  let k := n.val
  match (s.stall k).swap with
  | some w =>
    if !w.drain || w.drained || !s.drainDone k then .next s else
    let w := { w with drained := true }
    if w.lost then .next (s.flipStall k w) else .next (s.setStall k { s.stall k with swap := some w })
  | none => .next s

/-- DRAIN_TIMEOUT (R255): the swap ends, or proceeds as a forced drain. -/
def execDrainTimeout (n : Fin 64) (s : State) : Out :=
  let k := n.val
  match (s.stall k).swap with
  | some w =>
    if !w.drain || w.drained then .next s
    else if !s.is (STL_CFG.force_drain k) then
      .next ((s.abandonSwap k 7).stallEvent k true CONTAINED 0x0804 7)
    else
      let w := { w with drained := true, forced := true }
      if w.lost then .next (s.flipStall k w) else .next (s.setStall k { s.stall k with swap := some w })
  | none => .next s

/-- SWAP_FREEZE (R257, R260): edge S − 2. A timed swap whose drain is not complete turns late, or ends CANCELLED. -/
def execSwapFreeze (n : Fin 64) (s : State) : Out :=
  let k := n.val
  match (s.stall k).swap with
  | some w =>
    if w.frozen then .next s
    else if w.drained then
      .next ((s.put (STL_STAT.state k) 4).setStall k { s.stall k with swap := some { w with frozen := true } })
    else if !w.timed || w.late then .next s
    else if s.is (STL_CFG.late_policy k) then .next ((s.abandonSwap k 6).stallEvent k true INFO 0x0803 6)
    else .next (s.setStall k { s.stall k with swap := some { w with late := true } })
  | none => .next s

/-- SWAP_FLIP (R257, R258): edge S at its time. -/
def execSwapFlip (n : Fin 64) (edge : Time) (s : State) : Out :=
  let k := n.val
  match (s.stall k).swap with
  | some w => if w.frozen && !w.flipped then .next ((s.reachTime edge).flipStall k w) else .next s
  | none => .next s

/-- A flipped swap ends (R257, R259, R261): RUNNING with its quays OPEN, or RESET; the shadow is OLD or refills. -/
def State.finishSwap (s : State) (n : Nat) (w : Swap) : State :=
  let s := s.dropSwap n
  let s := if w.fromReset then s.put (STL_STAT.state n) 6 else (s.put (STL_STAT.state n) 1).openStallQuays n
  let s := if s.is (STL_CFG.shadow_mode n) then s.startRefill n else s.setShadow n 3
  if w.lost then (s.swapResult n 10).stallEvent n false CONTAINED 0x0805 10
  else if w.late then (s.swapResult n 2).stallEvent n false INFO 0x0802 2
  else (s.swapResult n 1).stallEvent n false INFO 0x0801 1

/-- SWAP_RELEASE (R257): edge S + 2. -/
def execSwapRelease (n : Fin 64) (s : State) : Out :=
  match (s.stall n.val).swap with
  | some w => if w.flipped && !w.content then .next (s.finishSwap n.val w) else .next s
  | none => .next s

/-- SWAP_CLOCK_LOST (R261): from the start of the drain to edge S + 2. -/
def execSwapClockLost (n : Fin 64) (s : State) : Out :=
  let k := n.val
  match (s.stall k).swap with
  | some w =>
    if !w.drain then .next s else
    let w := { w with lost := true }
    if w.drained && !w.flipped then .next (s.flipStall k w) else .next (s.setStall k { s.stall k with swap := some w })
  | none => .next s

/-! ### The content phase (R264, R265) -/

/-- Why a content frame stops the phase, as a code of R235; none where it is written. -/
def State.contentError (s : State) (n : Nat) (addr : Word) (f : Frame) (readOk tagOk : Bool) : Option Nat :=
  let a := addr.toNat
  if !readOk then some 0x0712
  else if !frameExists a || faType a = 0 then some 0x070B
  else if !s.inStall n a then some 0x0711
  else if !frameGood f || !contentZeros a f then some 0x070C
  else if !tagOk then some 0x070D
  else none

/-- CONTENT_FRAME (R264, R265). -/
def execContentFrame (n : Fin 64) (addr : Word) (f : Frame) (readOk tagOk : Bool) (s : State) : Out :=
  let k := n.val
  match (s.stall k).swap with
  | some w =>
    if !(w.flipped && w.content) || s.get (STL_CONT.v k 3) ≤ (s.stall k).done then .next s else
    match s.contentError k addr f readOk tagOk with
    | none =>
      let s := s.writeContent addr.toNat f
      .next (s.setStall k { s.stall k with done := (s.stall k).done + 1 })
    | some code =>
      let s := ((s.dropSwap k).put (STL_STAT.state k) 6).put (STL_STAT.active_valid k) 1
      let s := (s.setShadow k 3).swapResult k 11
      .next (s.raise (pageSTL (k / 16)) (k % 16) CONTAINED 0x0806 code addr.toNat)
  | none => .next s

/-- CONTENT_PHASE_END (R264): after the last content frame; a BIST in the stall holds its release back (R97). -/
def execContentPhaseEnd (n : Fin 64) (s : State) : Out :=
  let k := n.val
  match (s.stall k).swap with
  | some w =>
    if w.flipped && w.content && decide (s.get (STL_CONT.v k 3) ≤ (s.stall k).done) && !s.bistIn k then
      .next (s.finishSwap k w)
    else .next s
  | none => .next s

end Sys2Proof.Machine
end

