-- ==== Sys2Proof/Machine/FlashOps.lean ====
section
/-! DEFINITION. The configuration flash as bytes (R205 to R210): an erased byte reads 0xFF. -/

namespace Sys2Proof.Machine

/-- What a flash byte that nothing has programmed reads as: erased. -/
def flashDefault : Nat → Byte := fun _ => 0xFF

/-- A flash byte. -/
def State.flashAt (s : State) (a : Nat) : Byte := s.flash.get flashDefault a

/-- `n` flash bytes from `a` on. -/
def State.flashBytes (s : State) (a n : Nat) : List Byte := s.flash.getMany flashDefault a n

/-- An `n`-byte little-endian number in the flash. -/
def State.flashNum (s : State) (a n : Nat) : Nat := ofBytes (s.flashBytes a n)

/-- Storing bytes in the flash. -/
def State.flashStore (s : State) (a : Nat) (bs : List Byte) : State :=
  { s with flash := s.flash.setMany flashDefault a bs }

/-- A page program: a programmed bit cannot return to 1 without an erase. -/
def State.flashProgramBytes (s : State) (a : Nat) (bs : List Byte) : State :=
  s.flashStore a (List.zipWith (fun o n => o &&& n) (s.flashBytes a bs.length) bs)

/-- An erase of `n` bytes from `a` on. -/
def State.flashErase (s : State) (a n : Nat) : State := { s with flash := s.flash.eraseRange a (a + n) }

/-- An erase that was cut short leaves its bytes undefined (R482, R488). -/
def State.flashSpoil (s : State) (a n : Nat) : State :=
  (List.range n).foldl (fun t i =>
    let got := t.fresh 8
    let b := got.1
    let t := got.2
    t.flashStore (a + i) [b]) s

end Sys2Proof.Machine
end

