-- ==== Sys2Proof/Machine/ConfigOps.lean ====
section
/-! DEFINITION. The configuration engine as other blocks use it: image headers, the start and the failure of a load, the
boot sequence, the requests of CFG_CTRL and the flash commands (R202 to R236). -/

namespace Sys2Proof.Machine

open Reg

/-! ### Image headers (R211 to R213) -/

/-- The `n`-byte number at an offset of a byte string. -/
def numAt (b : List Byte) (o n : Nat) : Nat := ofBytes ((b.drop o).take n)

/-- Whether the bytes from `lo` up to `hi` are zero. -/
def zeroAt (b : List Byte) (lo hi : Nat) : Bool := ((b.drop lo).take (hi - lo)).all fun x => x = 0

/-- The header that the first 4,096 bytes of an image make (R212). -/
def readHeader (b : List Byte) : ImageHeader :=
  { magic := BitVec.ofNat 32 (numAt b 0 4), deviceCode := BitVec.ofNat 32 (numAt b 4 4)
    version := BitVec.ofNat 16 (numAt b 8 2), type := BitVec.ofNat 8 (numAt b 0xA 1), flags := BitVec.ofNat 8 (numAt b 0xB 1)
    stall := BitVec.ofNat 8 (numAt b 0xC 1), flashMhz := BitVec.ofNat 8 (numAt b 0xD 1)
    keySlots := BitVec.ofNat 8 (numAt b 0xE 1), totalLen := BitVec.ofNat 64 (numAt b 0x10 8)
    sysLen := BitVec.ofNat 32 (numAt b 0x18 4), svn := BitVec.ofNat 32 (numAt b 0x1C 4)
    streamLen := BitVec.ofNat 64 (numAt b 0x20 8), logicFrames := BitVec.ofNat 32 (numAt b 0x28 4)
    contentFrames := BitVec.ofNat 32 (numAt b 0x2C 4), nonce := BitVec.ofNat 96 (numAt b 0x30 12)
    sysHash := BitVec.ofNat 384 (numAt b 0x40 48), pubkey := BitVec.ofNat 776 (numAt b 0x70 97)
    hdrSig := BitVec.ofNat 768 (numAt b 0x100 96)
    zeros := zeroAt b 0xF 0x10 && zeroAt b 0x3C 0x40 && zeroAt b 0xD1 0x100 && zeroAt b 0x160 0x1000 }

/-- The flags and the key slots of a header (R212). -/
def ImageHeader.encrypted (h : ImageHeader) : Bool := h.flags.getLsbD 0
def ImageHeader.signed (h : ImageHeader) : Bool := h.flags.getLsbD 1
def ImageHeader.kept (h : ImageHeader) : Bool := h.flags.getLsbD 2
def ImageHeader.partial_ (h : ImageHeader) : Bool := decide (h.type = 2)
def ImageHeader.signSlot (h : ImageHeader) : Nat := h.keySlots.toNat % 4
def ImageHeader.aesSlot (h : ImageHeader) : Nat := h.keySlots.toNat / 16 % 2

/-- Whether a header fails check 3 of R213. -/
def ImageHeader.misformed (h : ImageHeader) : Bool :=
  let mhz := h.flashMhz.toNat
  let sys := h.sysLen.toNat
  decide (h.version ≠ 1) || !h.zeros || decide (3 < h.type.toNat)
    || decide (h.totalLen.toNat ≠ 4096 + sys + h.streamLen.toNat + 512)
    || decide (h.totalLen.toNat % 4 ≠ 0) || decide (h.streamLen.toNat % 4 ≠ 0)
    || decide (sys % 8 ≠ 0) || decide (262144 < sys)
    || (decide (mhz ≠ 0) && (decide (mhz < 25) || decide (200 < mhz)))
    || decide (64 < h.svn.toNat)
    || (if h.partial_ then decide (63 < h.stall.toNat) else decide (h.stall ≠ 0xFF))
    || (h.kept && !h.partial_) || decide (7 < h.flags.toNat) || decide (h.keySlots.toNat &&& 0xEC ≠ 0)
    || (!h.signed && (decide (h.pubkey ≠ 0) || decide (h.hdrSig ≠ 0)))

/-- Whether a source accepts an image (R202, R231). -/
def LoadSource.accepts (src : LoadSource) (h : ImageHeader) : Bool :=
  let t := h.type.toNat
  let live := decide (h.contentFrames = 0)
  match src with
  | .slot _ => decide (t < 2)
  | .golden => decide (t < 2)
  | .flash => decide (t = 0) || decide (t = 2)
  | .dram => decide (t = 0) || decide (t = 2)
  | .host => decide (t = 0) || (decide (t = 2) && live)
  | .jtag => decide (t = 0) || decide (t = 3) || (decide (t = 2) && live)

/-- Whether a header fails the key-slot check of R224. -/
def State.keySlotBad (s : State) (h : ImageHeader) : Bool :=
  let f := s.fuses
  let k := h.signSlot
  let a := h.aesSlot
  let pkDefault : Nat → BitVec 384 := fun _ => 0
  (h.signed && (!f.pkProg.getLsbD k || f.pkRevoke.getLsbD k
      || decide (BitVec.ofNat 384 (ofBytes (sha384 (toBytes h.pubkey.toNat 97))) ≠ f.pkHash.get pkDefault k)))
    || (h.encrypted && (!f.aesProg.getLsbD a || f.aesRevoke.getLsbD a))

/-- The number of bits set among the lowest `n`. -/
def popCount (v : Nat) : Nat → Nat
  | 0 => 0
  | n + 1 => v / 2 ^ n % 2 + popCount v n

/-- The first of checks 1 to 7 of R213 that a header fails: its code, the image offset of the field, and what R213 names
for the second information word. -/
def State.headerError (s : State) (src : LoadSource) (h : ImageHeader) : Option (Nat × Nat × Nat) :=
  if h.magic ≠ 0x5A4E3949 then some (0x0701, 0, 0)
  else if h.deviceCode ≠ s.word DEV_CODE.off then some (0x0702, 4, h.deviceCode.toNat)
  else if h.misformed then some (0x0703, 8, 0)
  else if !src.accepts h then some (0x0713, 0xA, 0)
  else if s.keySlotBad h then some (0x0704, 0xE, 0)
  else if (s.fuses.reqSig && !h.signed) || (s.fuses.reqEnc && !h.encrypted) then some (0x0705, 0xB, 0)
  else if h.svn.toNat < popCount s.fuses.svnFloor.toNat 64 then some (0x0706, 0x1C, 0)
  else none

/-! ### Where a load is -/

/-- The length of a stream segment's ciphertext, how many segments a stream has, and its plain length (R225). -/
def segLen : Nat := 2 ^ 24
def ImageHeader.segments (h : ImageHeader) : Nat :=
  if h.encrypted then (h.streamLen.toNat + segLen + 15) / (segLen + 16) else 0
def ImageHeader.plainLen (h : ImageHeader) : Nat := h.streamLen.toNat - 16 * h.segments

/-- The stored offset of a stream byte (R211, R225). -/
def ImageHeader.streamAt (h : ImageHeader) (p : Nat) : Nat :=
  4096 + h.sysLen.toNat + p + (if h.encrypted then 16 * (p / segLen) else 0)

/-- The stored offset of the trailer (R211). -/
def ImageHeader.trailerAt (h : ImageHeader) : Nat := 4096 + h.sysLen.toNat + h.streamLen.toNat

/-- The image byte offset that a load has reached. -/
def CfgLoad.at_ (l : CfgLoad) : Nat :=
  match l.header with
  | none => 0
  | some h => match l.phase with
    | .header => 0
    | .signature => 0x100
    | .clearing => 4096
    | .system => 4096 + l.sysPos
    | .stream => h.streamAt l.pos
    | .trailer => h.trailerAt
    | .trailerSig => h.trailerAt + 16
    | .startup => h.trailerAt + 512

/-- Whether a load is a partial one, judged by its type byte, and whether its start checks have passed (R231). -/
def CfgLoad.isPartial (l : CfgLoad) : Bool :=
  match l.header with
  | none => false
  | some h => h.partial_
def CfgLoad.begun (l : CfgLoad) : Bool := decide (l.phase ≠ .header) && decide (l.phase ≠ .signature)

/-- The stall that a load names, or 0xFF. -/
def CfgLoad.stallNo (l : CfgLoad) : Nat :=
  match l.header with
  | none => 0xFF
  | some h => if h.partial_ && decide (h.stall.toNat < 64) then h.stall.toNat else 0xFF

/-- The load under way, and none. -/
def State.setLoad (s : State) (l : CfgLoad) : State := { s with cfg := { s.cfg with load := some l } }
def State.dropLoad (s : State) : State := { s with cfg := { s.cfg with load := none } }

/-- Whether a full load is under way (R496). -/
def State.fullLoading (s : State) : Bool :=
  match s.cfg.load with
  | none => false
  | some l => match l.header with
    | some h => !h.partial_
    | none => (match l.source with
      | .slot _ => true
      | .golden => true
      | .flash => false
      | .host => false
      | .dram => false
      | .jtag => false)

/-- A load starts: it waits for its header. -/
def State.beginLoad (s : State) (l : CfgLoad) : State := (s.setLoad l).put CFG_PROGRESS.v 0

/-- The self-test starts (R236). -/
def State.startTest (s : State) : State :=
  let s := { s with cfg := { s.cfg with testWait := false, testRuns := true } }
  (s.put CFG_STATUS.selftest 3).put CFG_STATUS.state 6

/-- A load has ended: a deferred self-test runs (R236). -/
def State.loadEnded (s : State) : State := if s.cfg.testWait && s.cfg.load.isNone then s.startTest else s

/-! ### The fabric of a full load (R228, R230) -/

/-- Every domain that can be closed (R496). -/
def allDoms : List Nat :=
  (List.range 240).map regionDom ++ (List.range 12).map (0x100 + ·) ++ (List.range 8).map (0x110 + ·)
    ++ (List.range 8).map (0x120 + ·) ++ [0x130, 0x131]

/-- Whether every domain is OPEN. -/
def State.allOpen (s : State) : Bool := allDoms.all fun d => s.domOpen d

/-- Every regional clock track stops. -/
def State.stopTracks (s : State) : State :=
  let s := s.each (List.range 240) fun s r => s.put (RGN_CLK_ACT.v r) 0
  { s with clk := { s.clk with tracks := [] } }

/-- The clock tracks are enabled (R229): which of them carry a running clock the image's clock frames say, whose layout no
rule gives. -/
def State.startTracks (s : State) : State :=
  s.each (List.range 240) fun s r =>
    let got := s.fresh 24
    let v := got.1
    let s := got.2
    s.each (List.range 24) fun s t => (s.setTrack r t { gate := true, running := v.getLsbD t }).showTrack r t

/-- Once every domain is OPEN, every quay port goes to CLOSED and the clock tracks stop (R228 step 2). -/
def State.closeForLoad (s : State) : State :=
  if !s.allOpen then s
  else (s.each (List.range 120) fun s q => s.closePort false (quayPort q)).stopTracks

/-- The start of a full load (R222, R229, R246, R270): CFG_DONE low, every stall UNDEFINED, scrubbing stopped, the list
of dynamic frames empty. -/
def State.fullStart (s : State) : State :=
  let s := ((s.put CFG_STATUS.done 0).undefineAll).stopScrub
  { s with cfg := { s.cfg with dynlist := [], imageNo := s.cfg.imageNo + 1 } }

/-- The bulk clear (R228 step 3, R498): both planes of every logic frame and every memory, of the regions that are
OPEN. -/
def State.bulkClear (s : State) : State :=
  let stays (e : Nat × Frame) : Bool :=
    let a := e.1 % 2 ^ 32
    decide (faCol a < 1164) && !s.domOpen (regionDom (faRegion a))
  ({ s with planes := s.planes.filter stays }).clearMemories

/-- The fabric is cleared outside a load (R204, R230). -/
def State.clearFabric (s : State) : State :=
  ((s.fullStart.bulkClear).each (List.range 120) fun s q => s.closePort false (quayPort q)).stopTracks

/-! ### A load fails (R230, R231, R235) -/

/-- The entry and the registers of a load error (R235, R237). -/
def State.logLoad (s : State) (l : CfgLoad) (code off info1 : Nat) : State :=
  let s := (s.raise pageCFG 1 CONTAINED code off info1).alert 4
  let s := s.put (ERR_INFO0.v pageCFG) (code * 65536 + l.stallNo)
  let frame := (code = 0x070A && info1 ≠ 0) || code = 0x070B || code = 0x070C || code = 0x0711 || code = 0x0715
  let s := s.when frame fun s => s.put (ERR_INFO1.v pageCFG) info1
  let s := s.putWide (CFG_ERR_OFF.off 0) 2 off
  s.when (s.get CFG_BOOT_STAT.first_error = 0) fun s => s.put CFG_BOOT_STAT.first_error code

/-- The first byte of the golden slot (R207). -/
def goldenBase : Nat := 0x10000

/-- A failed full load falls back to the golden slot (R230). -/
def State.fallBack (s : State) : State :=
  let s := ((s.put CFG_STATUS.golden 1).put CFG_STATUS.boot_err 1).raise pageCFG 2 CONTAINED 0x0721 0 0
  let s := s.alert 4
  (s.beginLoad { source := .golden, base := goldenBase, fell := true }).put CFG_STATUS.state 1

/-- No image can be loaded (R230): the endpoint is disabled, which takes the link down. -/
def State.noImage (s : State) (off : Nat) : State :=
  let s := s.log pageCFG FATAL 0x0718 off 0
  let s := ({ s with cfg := { s.cfg with noImage := true, endpoint := false } }).put PCI_CFG.enable 0
  ((s.put CFG_STATUS.golden 0).put CFG_STATUS.boot_err 1).put CFG_STATUS.state 5

/-- The load under way fails with a code of R235: a partial load leaves its shadow plane invalid; a full one leaves the
fabric clear, and goes on as it began. -/
def State.failLoad (s : State) (code off info1 : Nat) : State :=
  match s.cfg.load with
  | none => s
  | some l =>
    let s := (s.logLoad l code off info1).dropLoad
    if l.isPartial then
      let s := s.when (l.begun && decide (l.stallNo < 64)) fun s => s.setShadow l.stallNo 0
      (s.put CFG_STATUS.state 5).loadEnded
    else
      let test := match l.header with
        | none => false
        | some h => decide (h.type = 3)
      let s := (s.when test fun s => s.put CFG_BOOT_STAT.slot 14).clearFabric
      let s := s.put CFG_STATUS.golden 0
      if l.source = .golden then (s.noImage off).loadEnded
      else if l.fallback && !test then s.fallBack
      else (s.put CFG_STATUS.state 5).loadEnded

/-- The load fails where it stands. -/
def State.failHere (s : State) (code : Nat) : State :=
  match s.cfg.load with
  | none => s
  | some l => s.failLoad code l.at_ 0

/-- A partial load for a stall that leaves OPEN ends (R249). -/
def State.failStallLoad (s : State) (n : Nat) : State := if s.loadingStall n then s.failHere 0x0716 else s

/-! ### Boot (R203 to R209) -/

/-- The copy of the boot pointer table in use (R207, R209): magic and crc correct, slot_count 1 to 8. -/
def State.bootTable (s : State) : Option Nat :=
  [0, 0x1000].find? fun b =>
    let c := s.flashNum (b + 0xC) 4
    s.flashNum b 4 = 0x5A425054 && decide (s.flashNum (b + 0x90) 4 = crc32 (s.flashBytes b 0x90))
      && decide (1 ≤ c) && decide (c ≤ 8)

/-- Whether the marker of slot `n` matches its image (R208). -/
def State.slotValid (s : State) (table n : Nat) : Bool :=
  let base := s.flashNum (table + 0x10 + 16 * n) 8
  let m := base + s.flashNum (table + 0x18 + 16 * n) 8 - 4096
  let total := s.flashNum (base + 0x10) 8
  s.flashNum m 4 = 0x5A564C44 && decide (s.flashNum (m + 4) 8 = total) && decide (512 ≤ total)
    && decide (s.flashNum (m + 12) 4 = s.flashNum (base + total - 512 + 4) 4)

/-- The slots that the boot tries in turn (R207, R209): the entries of order up to the first unused one, those at or above
slot_count left out. -/
def State.bootOrder (s : State) (table : Nat) : List Nat :=
  let order := s.flashNum (table + 8) 4
  let used := ((List.range 8).map fun k => order / 16 ^ k % 16).takeWhile fun e => e < 8
  used.filter fun n => n < s.flashNum (table + 0xC) 4

/-- The load that the boot sequence chooses (R209). -/
def State.chooseSlot (s : State) : State :=
  match s.bootTable with
  | none =>
    let s := s.log pageCFG INFO 0x0717 0 0
    s.beginLoad { source := .golden, base := goldenBase }
  | some t =>
    let s := { s with cfg := { s.cfg with goldenEnd := some (s.flashNum (t + 4) 4) } }
    match (s.bootOrder t).find? fun n => s.slotValid t n with
    | some n => s.beginLoad { source := .slot n, base := s.flashNum (t + 0x10 + 16 * n) 8, fallback := true }
    | none => s.beginLoad { source := .golden, base := goldenBase }

/-- The boot from the sampled source (R203): flash, host or JTAG. -/
def State.startBoot (s : State) : State :=
  if s.cfg.testBad && decide (s.cfg.bootFrom < 2) then s.put CFG_STATUS.state 5
  else match s.cfg.bootFrom with
    | 2 => ({ s with cfg := { s.cfg with endpoint := true } }).put CFG_STATUS.state 0
    | 3 => s.put CFG_STATUS.state 0
    | _ => s.chooseSlot.put CFG_STATUS.state 1

/-- A new boot in CFG_BOOT_STAT (R237). -/
def State.countBoot (s : State) : State :=
  ((s.put CFG_BOOT_STAT.slot 14).count CFG_BOOT_STAT.boots).put CFG_BOOT_STAT.first_error 0

/-- The engine samples BOOT_MODE (R203). -/
def State.sampleMode (s : State) (m : Nat) : State :=
  let src := if m < 4 then m else 3
  let fm := match src with | 0 => 2 | 1 => 1 | _ => 0
  let s := { s with cfg := { s.cfg with bootFrom := src, flashMode := fm }, pins := { s.pins with bootMode := BitVec.ofNat 3 m } }
  (((s.put CFG_BOOT_STAT.boot_mode m).putB CFG_BOOT_STAT.mode_err (decide (4 ≤ m))).put CFG_FLASH_CTRL.mode fm)

/-- A load under way meets a full reconfiguration (R236): a partial one ends ABORTED, a full one is dropped without a
fallback. -/
def State.endForProg (s : State) : State :=
  match s.cfg.load with
  | none => s
  | some l => if l.isPartial then s.failHere 0x0714 else s.dropLoad

/-- A full reconfiguration is requested (R204): the fabric clears, and the boot waits while PROG_N is low or the
self-test runs. -/
def State.reconfigure (s : State) : State :=
  let s := s.endForProg.clearFabric
  let s := s.when s.cfg.noImage fun s =>
    ({ s with cfg := { s.cfg with noImage := false } }).setWord PCI_CFG.off
      (s.word PCI_CFG.off ||| (s.fuse.get (fun _ => 0) PCI_CFG.off &&& 0x80000000))
  let s := (s.put CFG_STATUS.golden 0).countBoot
  if s.pins.prog || s.cfg.testRuns then { s with cfg := { s.cfg with progWait := true } }
  else s.startBoot

/-! ### CFG_CTRL (R204, R233, R236) -/

/-- The answer to a request. -/
def State.cfgAnswer (s : State) (v : Nat) : State := s.put CFG_STATUS.req_result v

/-- The load that load_go asks for, none where it is refused (R202, R233, R237). -/
def State.askedLoad (s : State) : Option CfgLoad :=
  let addr := s.getWide (CFG_SRC_ADDR.off 0) 2 % 2 ^ 56
  let len := s.getWide (CFG_SRC_LEN.off 0) 2
  let back := decide (s.cfg.bootFrom < 2)
  match s.get CFG_CTRL.src with
  | 0 => some { source := .host, fallback := back }
  | 1 => if addr + len ≤ 2 ^ 52 then some { source := .dram, base := addr, limit := some len, fallback := back } else none
  | 2 => some { source := .flash, base := addr % 2 ^ 32, limit := some (min len (2 ^ 32 - addr % 2 ^ 32)), fallback := back }
  | _ => none

/-- A load_go (R233, R236, R238): refused while a load is under way and while a failed self-test stands; during a
self-test it waits. -/
def State.requestLoadGo (s : State) : State :=
  if s.cfg.load.isSome || s.cfg.next.isSome || s.cfg.progWait || s.cfg.testBad then s.cfgAnswer 3
  else match s.askedLoad with
    | none => s.cfgAnswer 3
    | some l =>
      if s.cfg.testRuns then ({ s with cfg := { s.cfg with next := some l } }).cfgAnswer 1
      else (s.beginLoad l).cfgAnswer 1

/-- A self-test request (R236). -/
def State.requestTest (s : State) : State :=
  if s.cfg.testRuns then s.cfgAnswer 1
  else if s.cfg.load.isSome || s.cfg.progWait then ({ s with cfg := { s.cfg with testWait := true } }).cfgAnswer 2
  else (s.startTest).cfgAnswer 1

/-- A write of CFG_CTRL: abort, prog, load_go and selftest in this order. -/
def State.writeCfgCtrl (s : State) (v : Word) : State :=
  let s := s.write CFG_CTRL.off v
  let s := s.when (bit v 29) fun s => s.failHere 0x0714
  let s := s.when (bit v 31) fun s => s.reconfigure
  let s := s.when (bit v 30) fun s => s.requestLoadGo
  s.when (bit v 28) fun s => s.requestTest

/-! ### The host aperture (R232) -/

/-- Bytes that a source delivers to the load under way. -/
def State.feedLoad (s : State) (bs : List Byte) : State :=
  match s.cfg.load with
  | none => s
  | some l => s.setLoad { l with bytes := l.bytes ++ bs }

/-- Bytes written to CFG_DATA (R232): a host load takes them; without one they are dropped. -/
def State.pushCfgData (s : State) (bs : List Byte) : State :=
  match s.cfg.load with
  | some l => (match l.source with
    | .host => s.feedLoad bs
    | _ => (s.add CFG_DATA_DROP.v bs.length).raise pageCFG 5 INFO 0x0724 0 0)
  | none => (s.add CFG_DATA_DROP.v bs.length).raise pageCFG 5 INFO 0x0724 0 0

/-! ### Flash commands (R210, R482) -/

/-- The first flash byte above the protected area (R207, R210): where no table is valid, the golden slot's first. -/
def State.protectedEnd (s : State) : Nat :=
  match s.cfg.goldenEnd with
  | some g => g
  | none => match s.bootTable with
    | some t => s.flashNum (t + 4) 4
    | none => goldenBase

/-- Whether a load or a content phase reads the flash (R210). -/
def State.flashLoading (s : State) : Bool :=
  (match s.cfg.load with
    | some l => match l.source with
      | .slot _ => true
      | .golden => true
      | .flash => true
      | .host => false
      | .dram => false
      | .jtag => false
    | none => false)
  || (List.range 64).any fun n => (match (s.stall n).swap with
    | some w => w.flipped && w.content && decide (s.get (STL_CONT.v n 1) / 2 ^ 30 = 2)
    | none => false)

/-- A flash command ends with a result, and its event (R237, R238). -/
def State.flashEnds (s : State) (result : Nat) : State :=
  (({ s with cfg := { s.cfg with flash := none } }).put CFG_FLASH_CMD.result result).raise pageCFG 4 INFO 0x0723 result 0

/-- A write of CFG_FLASH_CMD (R210): go starts the command, or it is refused busy or protected; the power-fail warning
holds programs and erases back (R482). An op that no rule names ends with a device error. -/
def State.writeFlashCmd (s : State) (v : Word) : State :=
  let s := s.write CFG_FLASH_CMD.off v
  if !bit v 31 then s else
  let op := s.get CFG_FLASH_CMD.op
  let size := match op with | 2 => 4096 | 3 => 65536 | _ => s.get CFG_FLASH_CMD.length + 1
  let a := s.get CFG_FLASH_ADDR.v
  let lo := if op = 2 || op = 3 then a - a % size else a
  if s.cfg.flash.isSome || s.flashLoading || (op ≠ 0 && s.is FLT_STAT.pfw) then s.put CFG_FLASH_CMD.result 2
  else if 3 < op then s.flashEnds 4
  else if op ≠ 0 && decide (lo < s.protectedEnd) && !s.is CFG_FLASH_CTRL.golden_unlock then s.put CFG_FLASH_CMD.result 3
  else { s with cfg := { s.cfg with flash := some { op := op, addr := lo, len := size } } }

/-! ### Fuses (R223, R237) -/

/-- CFG_FUSE_STAT shows the fuses. -/
def State.showFuses (s : State) : State :=
  let f := s.fuses
  let w := popCount f.svnFloor.toNat 64 * 2 ^ 24 + f.pkProg.toNat * 2 ^ 20 + f.pkRevoke.toNat * 2 ^ 16
    + f.aesProg.toNat * 2 ^ 14 + f.aesRevoke.toNat * 2 ^ 12 + f.reqEnc.toNat * 2 + f.reqSig.toNat
  s.setWord CFG_FUSE_STAT.off (BitVec.ofNat 32 w)

end Sys2Proof.Machine
end

