-- ==== Sys2Proof/Machine/Dram.lean ====
section
/-! DEFINITION. The DRAM controllers: enable and training, requests and commands, read data, refresh, patrol, tracking and
the maintenance requests (R313 to R340). -/

namespace Sys2Proof.Machine

open Reg

/-! ### Enable and training -/

/-- Whether the geometry checks of an enable pass: in INTERLEAVE every controller is as DMC0 (R317, R346). -/
def State.geometryFits (s : State) (n : Nat) : Bool :=
  s.is (DMC_MAP.mode 0) || (s.word (DMC_GEOM.off n) = s.word (DMC_GEOM.off 0)
    && s.get (MPE_CARVE.mib n) = s.get (MPE_CARVE.mib 0))

/-- Training starts (R330, R336): with settings that were kept or a record that may be used it checks those first. -/
def State.startTraining (s : State) (n : Nat) : State :=
  let record := s.is (DMC_CTRL.reuse n) && decide (s.get (DMC_TRN_SRC.v n) ≠ 0)
  let s := s.setDmc n { s.dmc n with step := if (s.dmc n).kept || record then 0 else 2 }
  ((s.put (DMC_STAT.state n) 1).put (DMC_STAT.reason n) 0).put (DMC_STAT.trained n) 0

/-- Training is abandoned: the DRAM contents are undefined (R339). -/
def State.abandonTraining (s : State) (n : Nat) : State :=
  let z : ZeroRun := { lo := 0, hi := 2 ^ 29, epoch := 0, key := none }
  ((s.loseLines n 0 (2 ^ 29)).setMpe n { s.mpe n with zeros := z :: (s.mpe n).zeros }).dmcOff n

/-- Clearing enable acts by state (R339); in RETRAIN the retrain's end looks at the field. -/
def State.disableDmc (s : State) (n : Nat) : State :=
  match s.dmcState n with
  | 1 => s.abandonTraining n
  | 2 => (s.setDmc n { s.dmc n with offWait := true }).closePort false (dmcPort n)
  | 5 => s.put (DMC_STAT.state n) 0
  | _ => s

/-- A write of DMC_CTRL (R317, R330, R339). -/
def State.writeDmcCtrl (s : State) (n : Nat) (v : Word) : State :=
  let was := s.is (DMC_CTRL.enable n)
  let s := s.write (DMC_CTRL.off n) v
  let s := s.when (decide (s.get (DMC_CTRL.pred n) = 3)) fun s => s.put (DMC_CTRL.pred n) 0
  let on := s.is (DMC_CTRL.enable n)
  if on && !was && decide (s.dmcState n = 0) then
    if s.geometryFits n then s.startTraining n else s.put (DMC_STAT.reason n) 1
  else if was && !on then s.disableDmc n
  else s

/-- DMC_ENABLE (R317, R330, R346). -/
def execDmcEnable (n : Fin 8) (v : Word) (s : State) : Out := .next (s.writeDmcCtrl n v)

/-- DMC_DISABLE (R339). -/
def execDmcDisable (n : Fin 8) (v : Word) (s : State) : Out := .next (s.writeDmcCtrl n v)

/-- The data rate of a code of DMC_GEOM.rate in MT/s (R339). -/
def rateOf (c : Nat) : Nat := match c with | 0 => 3200 | 1 => 4000 | 2 => 4800 | 3 => 5600 | 4 => 6400 | _ => 3200

/-- The device's fused serial number as bytes (R331). -/
def State.serialBytes (s : State) : List Byte := toBytes (s.getWide (DEV_SERIAL.off 0) 2) 8

/-- The fields of a record that must match, from its start to the trained settings (R331). -/
def State.recordHead (s : State) (n : Nat) (ids : List Byte) : List Byte :=
  toBytes 0x5A445452 4 ++ [1, BitVec.ofNat 8 n] ++ toBytes (rateOf (s.get (DMC_GEOM.rate n))) 2 ++ s.serialBytes
    ++ toBytes (s.word (DMC_GEOM.off n)).toNat 4 ++ (ids ++ List.replicate 40 0).take 40

/-- Whether a record is valid for a controller and its devices (R331). -/
def State.recordValid (s : State) (n : Nat) (r ids : List Byte) : Bool :=
  decide (r.take 0x3C = s.recordHead n ids) && decide (ofBytes ((r.drop 0x7FC).take 4) = crc32 (r.take 0x7FC))

/-- TRAINING_RECORD_READ (R330, R331, R336): the record that DMC_TRN_SRC names, or the settings kept over a closed
domain; with a good eye at those settings the controller is READY, else it trains in full. -/
def execTrainingRecordRead (n : Fin 8) (ids : List Byte) (eyeOk : Bool) (s : State) : Out :=
  if s.dmcState n ≠ 1 || (s.dmc n).step ≠ 0 then .next s else
  let kept := (s.dmc n).kept
  let good := eyeOk && (kept || s.recordValid n (s.flashBytes (s.get (DMC_TRN_SRC.v n)) 2048) ids)
  if good then
    let s := (s.put (DMC_STAT.trained n) (if kept then 3 else 2)).setDmc n { s.dmc n with kept := false }
    .next ((s.dmcReady n).raise (pageDMC n) 0 INFO 0x0A01 0 0)
  else .next (s.setDmc n { s.dmc n with step := 2 })

/-- A step fails (R330); the training rows keep nothing unless the controller saved them. -/
def State.trainingFails (s : State) (n reason : Nat) : State :=
  let s := s.when (!(s.dmc n).kept) fun s => s.loseTraining n
  let s := s.setDmc n { s.dmc n with kept := false }
  ((s.put (DMC_STAT.state n) 5).put (DMC_STAT.reason n) reason).raise (pageDMC n) 1 CONTAINED 0x0A02 reason 0

/-- Full training is done (R330, R331, R336): the training rows hold patterns unless the controller saved them, the new
record is presented, and the controller is READY. -/
def State.trainingDone (s : State) (n : Nat) (ids settings : List Byte) : State :=
  let s := s.when (!(s.dmc n).kept) fun s => s.loseTraining n
  let body := s.recordHead n ids ++ List.replicate 4 0 ++ (settings ++ List.replicate 1980 0).take 1980
  let record := body ++ toBytes (crc32 body) 4
  let s := (s.putWide (DMC_TRN_REC.off n 0) 512 (ofBytes record)).put (DMC_STAT.trained n) 1
  let s := s.setDmc n { s.dmc n with kept := false }
  ((s.dmcReady n).raise (pageDMC n) 10 INFO 0x0A0B 0 0).raise (pageDMC n) 0 INFO 0x0A01 0 0

/-- TRAINING_STEP_END (R315, R330, R331): the steps by their reason codes 2 to 7; the command and address step reads the
density, the width and which ranks answer. -/
def execTrainingStepEnd (n : Fin 8) (pass : Bool) (density : BitVec 2) (width : BitVec 1) (answered : BitVec 2)
    (ids settings : List Byte) (s : State) : Out :=
  let step := (s.dmc n).step
  let ranks := if s.is (DMC_GEOM.ranks n) then (3 : BitVec 2) else 1
  if s.dmcState n ≠ 1 || step = 0 then .next s
  else if !pass then .next (s.trainingFails n step)
  else if step = 3 && (density.toNat ≠ s.get (DMC_GEOM.density n) || width.toNat ≠ s.get (DMC_GEOM.width n)
      || answered &&& ranks ≠ ranks) then .next (s.trainingFails n 1)
  else if step < 7 then .next (s.setDmc n { s.dmc n with step := step + 1 })
  else .next (s.trainingDone n ids settings)

/-! ### Requests and commands -/

/-- DRAM_REQUEST (R318 to R320, R341, R342): a request that waits at the edge port; in READY it is accepted or withheld,
and none passes an earlier one to its lines. -/
def execDramRequest (n : Fin 8) (p : Packet) (s : State) : Out :=
  let v := s.port (dmcPort n)
  let before := if isPosted p then v.posted.takeWhile (· ≠ p) else v.accepted.takeWhile (· ≠ p)
  let same := before.any fun q => q.addr.toNat % 2 ^ 42 / 256 = p.addr.toNat % 2 ^ 42 / 256
  if s.dmcState n ≠ 2 || !((v.posted ++ v.accepted).contains p) || same then .next s
  else .next (s.dramAccept n p)

/-- The first due same-bank refresh that no queued request targets, as 4 × rank + index (R323). -/
def State.dueRefresh (s : State) (n : Nat) : Option Nat :=
  let v := s.dmc n
  (List.range 8).find? fun i =>
    decide (0 < v.owed.get natDefault i)
      && !((v.reads ++ v.writes).any fun e => let b := (s.linePlace n e.line).1
          b / 32 = i / 4 && b % 4 = i % 4)

/-- A same-bank refresh closes the rows of its index in every bank group, and a postponed tracking of the rank runs in
its shadow (R323, R325, R333). -/
def State.refreshSame (s : State) (n i : Nat) : State :=
  let v := s.dmc n
  s.setDmc n { v with
    owed := v.owed.set natDefault i (v.owed.get natDefault i - 1),
    trackDue := v.trackDue.set flagDefault (i / 4) false,
    banks := KMap.mapEntries bankDefault (fun b e => if b / 32 = i / 4 && b % 4 = i % 4 then { e with row := none } else e)
      v.banks }

/-- The direction of the next slot (R321): the marks, and an RT request of the other direction after 16 bursts. A
direction that has an RT request while the other has none is kept. -/
def State.direction (s : State) (n : Nat) (rs ws : List DmcEntry) : Bool :=
  let v := s.dmc n
  let rt (l : List DmcEntry) : Bool := l.any fun e => e.eff = 0
  let mine := if v.writing then ws else rs
  let other := if v.writing then rs else ws
  if mine.isEmpty then !v.writing
  else if other.isEmpty then v.writing
  else if rt other && decide (16 ≤ v.rtBursts) then !v.writing
  else if rt mine && !rt other then v.writing
  else if v.writing then decide (s.get (DMC_WMARK.low n) < v.writes.length)
  else decide (s.get (DMC_WMARK.high n) ≤ v.writes.length)

/-- The request to serve among the eligible ones of a direction (R321): the highest effective class, the next bank in
rotation, a hit on its open row, else the oldest. -/
def State.choose (s : State) (n : Nat) (es : List DmcEntry) : Option DmcEntry :=
  let v := s.dmc n
  let cls := es.foldl (fun m e => min m e.eff) 3
  let es := es.filter fun e => e.eff = cls
  let turn (e : DmcEntry) : Nat := ((s.linePlace n e.line).1 + 63 - v.lastBank) % 64
  let first := es.foldl (fun m e => min m (turn e)) 64
  let es := es.filter fun e => turn e = first
  let hits := es.filter fun e => (s.bank n (s.linePlace n e.line).1).row = some (s.linePlace n e.line).2
  let pool := if hits.isEmpty then es else hits
  let oldest := pool.foldl (fun m e => min m e.id) v.nextId
  pool.find? fun e => e.id = oldest

/-- The column command of an entry (R321, R325): the outcome shifts into the bank's history, the predictor decides on
auto-precharge, a read goes out and a write reaches the DRAM. -/
def State.column (s : State) (n : Nat) (e : DmcEntry) (otherRt : Bool) : State :=
  let (b, row) := s.linePlace n e.line
  let bk := s.bank n b
  let hit := decide (bk.last = some row)
  let h : BitVec 4 := (bk.hist <<< 1) ||| (if hit then 1 else 0)
  let v := s.dmc n
  let queued := (v.reads ++ v.writes).any fun f => f.id ≠ e.id && !f.issued && s.linePlace n f.line = (b, row)
  let close := !queued && (match s.get (DMC_CTRL.pred n) with
    | 0 => decide (weight8 h.toNat ≤ 1)
    | 1 => false
    | _ => true)
  let s := s.setBank n b { row := if close then none else some row, last := some row, hist := h }
  let s := s.count (if hit then DMC_HITS.v n else DMC_MISSES.v n)
  let s := s.setDmc n { s.dmc n with lastBank := b, rtBursts := if otherRt then (s.dmc n).rtBursts + 1 else 0 }
  let send (s : State) : State :=
    let v := s.dmc n
    let mark (f : DmcEntry) : DmcEntry := if f.id = e.id then { f with issued := true } else f
    (s.setDmc n { v with reads := v.reads.map mark, writes := v.writes.map mark }).count (DMC_RD_LINES.v n)
  let store (s : State) : State := (((s.columnWrite n e).dropEntry n e).count (DMC_WR_LINES.v n))
  match e.kind with
  | .read => send s
  | .merge => send s
  | .write => store s
  | .writeBack => store s

/-- DRAM_COMMAND_SLOT (R321, R323, R325, R326): a due refresh, or the next command of the request chosen: close the row
that is open, open its row, or the column access. -/
def execDramCommandSlot (n : Fin 8) (s : State) : Out :=
  let st := s.dmcState n
  if st ≠ 2 && st ≠ 3 then .next s else
  match s.dueRefresh n with
  | some i => .next (s.refreshSame n i)
  | none =>
    let v := s.dmc n
    let rs := v.reads.filter v.mayGo
    let ws := v.writes.filter v.mayGo
    let w := s.direction n rs ws
    let s := s.setDmc n { v with writing := w, rtBursts := if w = v.writing then v.rtBursts else 0 }
    match s.choose n (if w then ws else rs) with
    | none => .next s
    | some e =>
      let (b, row) := s.linePlace n e.line
      let bk := s.bank n b
      match bk.row with
      | some r =>
        if r = row then .next (s.column n e ((if w then rs else ws).any fun f => f.eff = 0))
        else .next (s.setBank n b { bk with row := none })
      | none => .next (s.setBank n b { bk with row := some row })

/-- DRAM_READ_DATA (R326 to R329, R351, R352, R357): the line that an entry has read comes back, decoded and, where it is
protected, decrypted and checked; it answers a read or completes the merge of a partial write. -/
def execDramReadData (n : Fin 8) (entry : Nat) (upset : List (BitVec 80)) (s : State) : Out :=
  let v := s.dmc n
  match (v.reads ++ v.writes).find? fun e => e.id = entry && e.issued with
  | none => .next s
  | some e =>
    let got := s.rawLine n e.line
    let raw := got.1
    let s := got.2
    let r := decodeLine (s.lineRank n e.line) e.line (disturb raw upset)
    let s := s.logLine n e.line r
    match e.kind with
    | .merge => .next (s.mergeLine n e raw r)
    | _ =>
      let s := (s.writeBack n e.line e.rgn r).dropEntry n e
      let got := if r.bad then (none, s) else s.plainOf n e.line e.rgn e.ctr r.data
      let d := got.1
      let s := got.2
      match e.req with
      | some p => .next (s.readLine n p e.pos d)
      | none => .next s

/-- The age limit of a class in cycles of 0.625 ns, 0 for none (R322, R338). -/
def State.ageLimit (s : State) (n cls : Nat) : Nat :=
  800 * (match cls with | 1 => s.get (DMC_AGE.hi n) | 2 => s.get (DMC_AGE.norm n) | 3 => s.get (DMC_AGE.bulk n) | _ => 0)

/-- AGE_PROMOTION (R320, R322): a request that has waited one more multiple of the limit of its own class is raised one
class, and earlier entries to its line with it. -/
def execAgePromotion (n : Fin 8) (entry : Nat) (s : State) : Out :=
  let v := s.dmc n
  match (v.reads ++ v.writes).find? fun e => e.id = entry with
  | none => .next s
  | some e =>
    let lim := s.ageLimit n e.cls
    if lim = 0 || e.eff = 0 then .next s else
    let due := e.since + (e.cls - e.eff + 1) * lim
    let s := s.elapse (due - s.now)
    let v := s.dmc n
    let lift (f : DmcEntry) : DmcEntry :=
      if f.line = e.line && decide (f.id ≤ e.id) then { f with eff := min f.eff (e.eff - 1) } else f
    .next (s.setDmc n { v with reads := v.reads.map lift, writes := v.writes.map lift })

/-! ### Refresh, patrol and tracking -/

/-- What a rank owes in refreshes (R324). -/
def State.owedOf (s : State) (n rank : Nat) : Nat :=
  (List.range 4).foldl (fun a b => a + (s.dmc n).owed.get natDefault (4 * rank + b)) 0

/-- One refresh less owed, of the index that owes most. -/
def State.repay (s : State) (n rank : Nat) : State :=
  let o (b : Nat) : Nat := (s.dmc n).owed.get natDefault (4 * rank + b)
  let most := (List.range 4).foldl (fun m b => max m (o b)) 0
  match (List.range 4).find? fun b => o b = most with
  | some b => s.setDmc n { s.dmc n with owed := (s.dmc n).owed.set natDefault (4 * rank + b) (most - 1) }
  | none => s

/-- All-bank refreshes until the debt is below the limit: each closes every bank of the rank and repays one unit
(R324, R325). -/
def State.refreshAll (s : State) (n rank : Nat) : Nat → State
  | 0 => s
  | k + 1 =>
    if s.owedOf n rank / 4 < s.get (DMC_REF.postpone n) then s else
    let v := s.dmc n
    let s := s.setDmc n { v with
      trackDue := v.trackDue.set flagDefault rank false,
      banks := KMap.mapEntries bankDefault (fun b e => if b / 32 = rank then { e with row := none } else e) v.banks }
    let s := (s.each (List.range 4) fun s _ => s.repay n rank).count (DMC_REFAB.v n)
    s.refreshAll n rank k

/-- REFRESH_INTERVAL (R323, R324): four refreshes more are owed, and debt at the limit is repaid. -/
def execRefreshInterval (n : Fin 8) (rank : Fin 2) (s : State) : Out :=
  let st := s.dmcState n
  if (st ≠ 2 && st ≠ 3) || s.get (DMC_GEOM.ranks n) < rank.val then .next s else
  let s := s.each (List.range 4) fun s b =>
    let k := 4 * rank.val + b
    s.setDmc n { s.dmc n with owed := (s.dmc n).owed.set natDefault k ((s.dmc n).owed.get natDefault k + 1) }
  .next (s.refreshAll n rank (s.owedOf n rank))

/-- MR4_POLL (R323): whether the rank refreshes at the doubled rate. -/
def execMr4Poll (n : Fin 8) (rank : Fin 2) (doubled : Bool) (s : State) : Out :=
  .next (s.setDmc n { s.dmc n with doubled := (s.dmc n).doubled.set flagDefault rank doubled })

/-- PATROL_READ (R329): the next line of the installed capacity is read, corrected and written back, or logged; the pass
ends after the last. -/
def execPatrolRead (n : Fin 8) (upset : List (BitVec 80)) (s : State) : Out :=
  if s.dmcState n ≠ 2 then .next s else
  let l := (s.dmc n).patrolAt
  let got := s.rawLine n l
  let raw := got.1
  let s := got.2
  let r := decodeLine (s.lineRank n l) l (disturb raw upset)
  let s := ((s.logLine n l r).writeBack n l (s.regionAt n l) r).count (DMC_RD_LINES.v n)
  if l + 1 < s.dcapBytes n / 64 then .next (s.setDmc n { s.dmc n with patrolAt := l + 1 })
  else .next ((s.setDmc n { s.dmc n with patrolAt := 0 }).raise (pageDMC n) 8 INFO 0x0A09 0 0)

/-- A new window of corrected words begins (R329). -/
def State.newWindow (s : State) (n : Nat) : State := s.setDmc n { s.dmc n with ceCount := 0, ceRaised := false }

/-- CE_WINDOW_END (R329). -/
def execCeWindowEnd (n : Fin 8) (s : State) : Out :=
  .next (s.when (decide (s.dmcState n = 2) || decide (s.dmcState n = 3)) fun s => s.newWindow n)

/-- CE_RATE_WRITE (R329). -/
def execCeRateWrite (n : Fin 8) (v : Word) (s : State) : Out := .next ((s.write (DMC_CE_RATE.off n) v).newWindow n)

/-- DQS_TRACK (R332): write DQS is shifted by the change measured, in 1/64 of a unit interval; a shift of more than a
quarter from the trained value is reported. -/
def execDqsTrack (n : Fin 8) (rank : Fin 2) (change : Int) (s : State) : Out :=
  if s.dmcState n ≠ 2 || s.get (DMC_GEOM.ranks n) < rank.val then .next s else
  let v := s.dmc n
  let d := v.shift.get shiftDefault rank + change
  let s := s.setDmc n { v with shift := v.shift.set shiftDefault rank d, trackDue := v.trackDue.set flagDefault rank false }
  .next (s.when (decide (16 < d.natAbs)) fun s => s.raise (pageDMC n) 7 INFO 0x0A08 rank d.natAbs)

/-- ZQ_CAL (R332): a calibration in a refresh shadow changes nothing that a request or a register shows. -/
def execZqCal (_n : Fin 8) (_rank : Fin 2) (s : State) : Out := .next s

/-! ### Maintenance requests -/

/-- A retrain starts (R334). -/
def State.startRetrain (s : State) (n : Nat) : State :=
  (s.setDmc n { s.dmc n with deferred := false }).put (DMC_STAT.state n) 3

/-- Whether the queues have been empty for 10 µs (R333). -/
def State.emptyLong (s : State) (n : Nat) : Bool :=
  (s.dmc n).reads.isEmpty && (s.dmc n).writes.isEmpty && decide ((s.dmc n).emptyAt + 16000 ≤ s.now)

/-- A write of DMC_MAINT (R333): each request is answered in the order cancel, tracking, patrol, retrain. -/
def State.writeMaint (s : State) (n : Nat) (v : Word) : State :=
  let s := s.write (DMC_MAINT.off n) v
  let asked := bit v 31 || bit v 29 || bit v 28 || bit v 27
  let answer (s : State) (a : Nat) : State := s.put (DMC_MAINT.answer n) a
  if !asked then s
  else if s.dmcState n ≠ 2 then answer s 3
  else
    let s := s.when (bit v 27) fun s =>
      answer (s.when (s.dmc n).deferred fun s =>
        (s.setDmc n { s.dmc n with deferred := false }).put (DMC_MAINT.result n) 3) 1
    let s := s.when (bit v 29) fun s =>
      answer (s.setDmc n { s.dmc n with
        trackDue := (((s.dmc n).trackDue.set flagDefault 0 true).set flagDefault 1 true) }) 1
    let s := s.when (bit v 28) fun s => answer (s.setDmc n { s.dmc n with patrolAt := 0 }) 1
    s.when (bit v 31) fun s =>
      if s.is (DMC_MAINT.force n) || s.emptyLong n then answer (s.startRetrain n) 1
      else answer (s.setDmc n { s.dmc n with deferred := true }) 2

/-- TRACK_NOW (R333). -/
def execTrackNow (n : Fin 8) (v : Word) (s : State) : Out := .next (s.writeMaint n v)

/-- RETRAIN (R333, R334). -/
def execRetrain (n : Fin 8) (v : Word) (s : State) : Out := .next (s.writeMaint n v)

/-- RETRAIN_CANCEL (R333). -/
def execRetrainCancel (n : Fin 8) (v : Word) (s : State) : Out := .next (s.writeMaint n v)

/-- PATROL_RESTART (R333). -/
def execPatrolRestart (n : Fin 8) (v : Word) (s : State) : Out := .next (s.writeMaint n v)

/-- RETRAIN_START (R333): a deferred retrain starts at the first moment at which the queues have been empty for
10 µs. -/
def execRetrainStart (n : Fin 8) (s : State) : Out :=
  let v := s.dmc n
  if !v.deferred || s.dmcState n ≠ 2 || !v.reads.isEmpty || !v.writes.isEmpty then .next s
  else .next ((s.elapse (v.emptyAt + 16000 - s.now)).startRetrain n)

/-- A retrain ends (R334, R339): the controller is READY again; an enable cleared meanwhile now acts. -/
def State.endRetrain (s : State) (n result : Nat) : State :=
  let s := (s.put (DMC_STAT.state n) 2).put (DMC_MAINT.result n) result
  s.when (!s.is (DMC_CTRL.enable n)) fun s => s.disableDmc n

/-- RETRAIN_COMPLETE (R334): the queued entries are done, and the training rows are as they were. -/
def execRetrainComplete (n : Fin 8) (s : State) : Out :=
  let v := s.dmc n
  if s.dmcState n ≠ 3 || !v.reads.isEmpty || !v.writes.isEmpty then .next s
  else .next ((s.endRetrain n 1).raise (pageDMC n) 5 INFO 0x0A06 0 0)

/-- RETRAIN_TIMEOUT (R334): 2 ms after its start, or at a step that failed, the previous settings stand. -/
def execRetrainTimeout (n : Fin 8) (s : State) : Out :=
  if s.dmcState n ≠ 3 then .next s
  else .next ((s.endRetrain n 2).raise (pageDMC n) 6 CONTAINED 0x0A07 0 0)

/-! ### Power domains and resets -/

/-- The power domain of a controller begins to close (R336): from READY its port closes. -/
def State.dmcClosing (s : State) (n : Nat) : State :=
  if s.dmcState n = 2 then (s.setDmc n { s.dmc n with parkWait := true }).closePort false (dmcPort n) else s

/-- The power domain of a controller is OPEN again (R336, R362): from SELF_REFRESH it trains with what it kept, the
counter cache empty; else it is OFF with enable cleared. -/
def State.dmcOpened (s : State) (n : Nat) : State :=
  let s := s.setMpe n { s.mpe n with cache := [] }
  if s.dmcState n = 4 then s.startTraining n
  else (s.put (DMC_CTRL.enable n) 0).put (DMC_STAT.state n) 0

/-- A reset of a controller beyond its registers (R29, R335): the contents of the DRAM are undefined. -/
def State.dmcReset (s : State) (n : Nat) : State :=
  let s := (s.loseLines n 0 (2 ^ 29)).setMpe n { s.mpe n with zeros := [] }
  { s with dmcs := s.dmcs.set dmcDefault n {} }

/-- A reset of a protection engine beyond its registers (R29, R362): the keys are erased, every region is OFF, the
poison map and the counter cache are empty; the DRAM holds what it held. -/
def State.mpeReset (s : State) (n : Nat) : State := s.setMpe n { zeros := (s.mpe n).zeros }

end Sys2Proof.Machine
end

