-- ==== Sys2Proof/Machine/Lanes.lean ====
section
/-! DEFINITION. The user serial lanes: quad PLLs, lane configurations and power states, lock, groups and their training,
faults, calibration, eye scans and injectors (R429 to R454). -/

namespace Sys2Proof.Machine

open Reg

/-! ### Lanes, groups and quad PLLs -/

/-- What unlisted lanes, groups and PLLs read as. -/
def serialDefault : Nat → LaneState := fun _ => {}
def groupDefault : Nat → LaneGroup := fun _ => {}
def qpllDefault : Nat → Option (Nat × Word × Word) := fun _ => none

/-- A lane, a group by its leader, and the setting that a quad PLL runs. -/
def State.lane (s : State) (l : Nat) : LaneState := s.xcv.lanes.get serialDefault l
def State.setLane (s : State) (l : Nat) (v : LaneState) : State :=
  { s with xcv := { s.xcv with lanes := s.xcv.lanes.set serialDefault l v } }
def State.group (s : State) (g : Nat) : LaneGroup := s.xcv.groups.get groupDefault g
def State.setGroup (s : State) (g : Nat) (v : LaneGroup) : State :=
  { s with xcv := { s.xcv with groups := s.xcv.groups.set groupDefault g v } }
def State.qpll (s : State) (q b : Nat) : Option (Nat × Word × Word) := s.xcv.plls.get qpllDefault (2 * q + b)
def State.setQpll (s : State) (q b : Nat) (v : Option (Nat × Word × Word)) : State :=
  { s with xcv := { s.xcv with plls := s.xcv.plls.set qpllDefault (2 * q + b) v } }

/-- The field that shows a quad PLL's lock. -/
def qpllLocked (q b : Nat) : Field := if b = 0 then XCV_Q_STAT.qpa_locked q else XCV_Q_STAT.qpb_locked q

/-- A lane's event (R454): the first information word of a fault holds the lane. -/
def State.laneEvent (s : State) (l n : Nat) (cls : BitVec 2) (code : Nat) : State :=
  s.raise (pageXCV (l / 4)) (7 * (l % 4) + n) cls code l 0

/-- The leader of the group that holds a lane, if any (R441). -/
def State.leaderOf (s : State) (l : Nat) : Option Nat :=
  ((List.range (l + 1)).reverse).find? fun g =>
    decide (s.get (XCV_LN_GRP.count g) ≠ 0) && decide (l < g + s.get (XCV_LN_GRP.count g))

/-- The lanes of a group. -/
def State.members (s : State) (g : Nat) : List Nat := (List.range (s.get (XCV_LN_GRP.count g))).map fun i => g + i

/-- Whether a quad PLL runs: a lane of the quad in ACTIVE or STANDBY, or on its way there, uses it, or the quad is in
mirror mode (R446). -/
def State.qpllUsed (s : State) (q b : Nat) : Bool :=
  s.is (XCV_Q_CFG.mirror q) || (List.range 4).any fun p =>
    let l := 4 * q + p
    (decide (s.get (XCV_LN_STAT.pstate l) ≠ 2) || (match (s.lane l).dest with | some d => decide (d ≠ 2) | none => false))
      && (decide (s.get (XCV_LN_CFG.tx_pll l) = b) || decide (s.get (XCV_LN_CFG.rx_pll l) = b))

/-- PLLs that nothing uses stop (R446). -/
def State.stopQplls (s : State) (q : Nat) : State :=
  s.each [0, 1] fun s b => s.when (!s.qpllUsed q b) fun s => s.put (qpllLocked q b) 0

/-- Whether a PLL setting lies within R431. -/
def qpllFits (q refKhz : Nat) (v f : Word) : Bool :=
  let m := bitsOf v 25 24 + 1
  let n := bitsOf v 23 16
  let mul := n * 2 ^ 24 + bitsOf f 23 0
  let vco := refKhz * mul
  let unit := m * 2 ^ 24
  let ref := bitsOf v 29 28
  decide (100000 ≤ refKhz) && decide (refKhz ≤ 800000) && decide (50000 * m ≤ refKhz) && decide (refKhz ≤ 400000 * m)
    && decide (16 ≤ n) && decide (mul ≤ 200 * 2 ^ 24) && decide (8000000 * unit ≤ vco) && decide (vco ≤ 16375000 * unit)
    && !(decide (ref = 2) && decide (q = 0)) && !(decide (ref = 3) && decide (q = 11))

/-- A write of a quad PLL's configuration (R431, R452): with apply the setting is loaded, or refused. -/
def State.writeQpll (s : State) (q b refKhz : Nat) (v : Word) : State :=
  let s := s.write (XCV_QP_CFG.off q b) v
  if !bit v 30 then s
  else if !bit v 31 then (s.setQpll q b none).put (qpllLocked q b) 0
  else
    let f := s.word (XCV_QP_FRAC.off q b)
    if qpllFits q refKhz v f then (s.setQpll q b (some (refKhz, v, f))).put (qpllLocked q b) 0
    else s.put (XCV_Q_STAT.range_err q) 1

/-- QPLL_APPLY (R431). -/
def execQpllApply (q : Fin 12) (b : Bool) (refKhz : Nat) (v : Word) (s : State) : Out :=
  .next (s.writeQpll q b.toNat refKhz v)

/-- QPLL_LOCK (R431). -/
def execQpllLock (q : Fin 12) (b : Bool) (s : State) : Out :=
  .next (s.when ((s.qpll q b.toNat).isSome && s.qpllUsed q b.toNat) fun s => s.put (qpllLocked q b.toNat) 1)

/-- QPLL_LOCK_LOST (R452, R454). -/
def execQpllLockLost (q : Fin 12) (b : Bool) (s : State) : Out :=
  if !s.is (qpllLocked q b.toNat) then .next s
  else
    let s := (s.put (qpllLocked q b.toNat) 0).count (XCV_Q_STAT.losses q)
    .next (s.raise (pageXCV q) (28 + b.toNat) CONTAINED 0x0E0D q b.toNat)

/-! ### Lock -/

/-- The receiver starts its hunt again, with no event. -/
def State.dropLock (s : State) (l : Nat) : State :=
  let s := s.setLane l { s.lane l with commaAt := none, fecGood := 0, fecBad := 0, rxWait := false, txWait := false }
  (s.put (XCV_LN_STAT.locked l) 0).put (XCV_LN_STAT.fec_locked l) 0

/-- A locked lane loses lock (R436, R437, R454). -/
def State.loseLock (s : State) (l : Nat) : State :=
  if !s.is (XCV_LN_STAT.locked l) then s else
  let fec := s.get (XCV_LN_STAT.fec_locked l)
  ((s.dropLock l).put (XCV_LN_STAT.fec_locked l) fec).laneEvent l 0 CONTAINED 0x0E07

/-- A lane locks: the buffer error clears, and with dl its buffers wait for a grid strobe (R434, R440, R453, R454). -/
def State.gainLock (s : State) (l : Nat) : State :=
  let dl := s.is (XCV_LN_CFG.dl l)
  let s := s.setLane l { s.lane l with rxWait := dl, txWait := dl }
  ((s.put (XCV_LN_STAT.locked l) 1).put (XCV_LN_STAT.ebuf_err l) 0).laneEvent l 1 INFO 0x0E08

/-- Whether a lane receives: enabled, in ACTIVE, with a signal, and not under calibration. -/
def State.receives (s : State) (l : Nat) : Bool :=
  s.is (XCV_LN_CFG.rx_en l) && decide (s.get (XCV_LN_STAT.pstate l) = 0) && !s.is (XCV_LN_STAT.los l) && !(s.lane l).cal

/-- BLOCK_LOCK (R436, R438): 64 valid headers at one position, on decoded blocks in mode 3. -/
def execBlockLock (lane : Fin 48) (position : Fin 66) (s : State) : Out :=
  let l := lane.val
  let c := s.get (XCV_LN_CFG.coding l)
  if !s.receives l || c < 2 || (c = 3 && !s.is (XCV_LN_STAT.fec_locked l)) || s.is (XCV_LN_STAT.locked l) then .next s
  else .next ((s.put (XCV_LN_STAT.slip l) position).gainLock l)

/-- LOCK_LOSS (R436, R437): the sixteenth error of a window, each counted. -/
def execLockLoss (lane : Fin 48) (s : State) : Out :=
  let l := lane.val
  if !s.is (XCV_LN_STAT.locked l) || s.get (XCV_LN_CFG.coding l) = 0 then .next s
  else .next ((s.add (XCV_LN_HDRERR.v l) 16).loseLock l)

/-- COMMA_ALIGN (R437): a lane that is not locked aligns and locks, a locked one realigns with comma_cont. -/
def execCommaAlign (lane : Fin 48) (position : Fin 10) (s : State) : Out :=
  let l := lane.val
  if !s.receives l || s.get (XCV_LN_CFG.coding l) ≠ 1 then .next s
  else if !s.is (XCV_LN_STAT.locked l) then
    .next ((s.setLane l { s.lane l with commaAt := some position.val }).gainLock l)
  else if s.is (XCV_LN_CFG.comma_cont l) then .next (s.setLane l { s.lane l with commaAt := some position.val })
  else .next s

/-- FEC_CODEWORD (R438): a codeword with up to 15 symbols in error decodes; the third in a row locks, the eighth
uncorrectable one in a row unlocks, and each of those delivers 80 invalid headers. -/
def execFecCodeword (lane : Fin 48) (symbolErrors : Nat) (s : State) : Out :=
  let l := lane.val
  if !s.receives l || s.get (XCV_LN_CFG.coding l) ≠ 3 then .next s
  else
    let v := s.lane l
    let locked := s.is (XCV_LN_STAT.fec_locked l)
    if symbolErrors ≤ 15 then
      let s := s.setLane l { v with fecGood := min 3 (v.fecGood + 1), fecBad := 0 }
      let s := s.when (locked && !s.is (XCV_LN_CFG.fec_bypass l)) fun s => s.add (XCV_LN_FEC_CORR.v l) symbolErrors
      .next (s.when (decide (2 ≤ v.fecGood)) fun s => s.put (XCV_LN_STAT.fec_locked l) 1)
    else if !locked then .next (s.setLane l { v with fecGood := 0, fecBad := 0 })
    else
      let s := s.setLane l { v with fecGood := 0, fecBad := v.fecBad + 1 }
      let s := (s.count (XCV_LN_FEC_UNC.v l)).laneEvent l 5 CONTAINED 0x0E0B
      let bad := v.fecBad + 1
      let s := if s.is (XCV_LN_STAT.locked l) then (s.add (XCV_LN_HDRERR.v l) 80).loseLock l else s
      let s := s.setLane l { s.lane l with fecBad := bad }
      .next (s.when (decide (8 ≤ bad)) fun s =>
        (s.put (XCV_LN_STAT.fec_locked l) 0).setLane l { s.lane l with fecBad := 0 })

/-- ELASTIC_BUFFER_ERROR (R434, R440): the buffer is recentred, and with dl waits for the grid again. -/
def execElasticBufferError (lane : Fin 48) (s : State) : Out :=
  let l := lane.val
  let dl := s.is (XCV_LN_CFG.dl l)
  let s := (s.put (XCV_LN_STAT.ebuf_err l) 1).count (XCV_LN_EBUF.v l)
  .next ((s.setLane l { s.lane l with rxWait := dl, txWait := dl }).laneEvent l 6 CONTAINED 0x0E0C)

/-- GRID_STROBE (R439, R440): a waiting buffer that holds the set fill is released; while the time is INVALID the grid
stops. -/
def execGridStrobe (lane : Fin 48) (tx : Bool) (fill : Fin 65) (s : State) : Out :=
  let l := lane.val
  let v := s.lane l
  if !s.timeValid || fill.val < s.get (XCV_DL_CFG.fill (l / 4)) then .next s
  else if tx then .next (s.setLane l { v with txWait := false })
  else if v.rxWait then .next ((s.setLane l { v with rxWait := false }).put (XCV_LN_STAT.dl_fill l) fill)
  else .next s

/-! ### Groups -/

/-- Whether a group's definition obeys R441 and R444. -/
def State.groupFits (s : State) (g : Nat) : Bool :=
  let n := s.get (XCV_LN_GRP.count g)
  let ms := s.members g
  let same (l : Nat) : Bool := (s.word (XCV_LN_CFG.off l) ^^^ s.word (XCV_LN_CFG.off g)) &&& 0xFFFFE7FF = 0
  let rates (q : Nat) : Bool := (List.range 4).all fun j => s.word (XCV_RATE.off q j) = s.word (XCV_RATE.off (g / 4) j)
  decide (g + n ≤ 48) && (if n ≤ 4 then decide (g % 4 + n ≤ 4) else decide (g % 4 = 0) && decide (s.get (XCV_LN_GRP.train g) = 1))
    && ms.all (fun l => l = g || s.get (XCV_LN_GRP.count l) = 0)
    && ms.all same && (decide (n ≤ 4) || ms.all fun l => rates (l / 4))

/-- What a lane knows of the far end is forgotten (R442, R444). -/
def State.untrain (s : State) (g : Nat) : State :=
  s.each (s.members g) fun s l => s.setLane l { s.lane l with
    ltsGood := 0, ready := false, index := none, badTag := false, badCount := false, farState := 0, farMax := 0,
    runs := 0, prbsGood := false }

/-- Step 1 of R444, or the start of the training of R443. -/
def State.toStep1 (s : State) (g : Nat) : State :=
  let s := (s.untrain g).setGroup g { step := 1 }
  let s := (s.put (XCV_LN_STAT.grp_state g) 1).put (XCV_LN_STAT.reason g) 0
  let s := s.put (XCV_LN_STAT.step_fail g) 0
  s.when (decide (5 ≤ s.get (XCV_LN_GRP.count g))) fun s =>
    (s.each (s.members g) fun s l => s.dropLock l).put (XCV_LN_STAT.rate_idx g) (s.get (XCV_LN_GRP.rate_min g))

/-- A group is OFF. -/
def State.groupOff (s : State) (g : Nat) : State := ((s.untrain g).setGroup g {}).put (XCV_LN_STAT.grp_state g) 0

/-- A group is RUNNING (R443, R444, R454). -/
def State.groupRuns (s : State) (g : Nat) : State :=
  ((s.setGroup g { s.group g with step := 0 }).put (XCV_LN_STAT.grp_state g) 4).laneEvent g 1 INFO 0x0E08

/-- A group fails (R444, R453, R454). -/
def State.groupFails (s : State) (g reason : Nat) : State :=
  let s := (s.put (XCV_LN_STAT.grp_state g) 5).put (XCV_LN_STAT.reason g) reason
  s.laneEvent g 4 CONTAINED (if reason = 3 then 0x0E06 else 0x0E0A)

/-- A group whose lanes are all enabled and ACTIVE starts; one that is not is OFF (R441, R443, R444). -/
def State.groupCheck (s : State) (g : Nat) : State :=
  let on := !s.is (XCV_LN_STAT.cfg_err g) && (s.members g).all fun l =>
    s.is (XCV_LN_CFG.tx_en l) && s.is (XCV_LN_CFG.rx_en l) && decide (s.get (XCV_LN_STAT.pstate l) = 0)
  let off := decide (s.get (XCV_LN_STAT.grp_state g) = 0)
  if on && off then (if s.get (XCV_LN_GRP.train g) = 0 then s.groupRuns g else s.toStep1 g)
  else if !on && !off then s.groupOff g
  else s

/-- A write of XCV_LN_GRP (R441, R453): the group that the lane leads or belongs to is judged anew. -/
def State.writeGroup (s : State) (l : Nat) (v : Word) : State :=
  let old := s.leaderOf l
  let s := s.write (XCV_LN_GRP.off l) v
  let s := s.when (decide (s.get (XCV_LN_GRP.train l) = 3)) fun s => s.put (XCV_LN_GRP.train l) 0
  let s := s.when (decide (48 < s.get (XCV_LN_GRP.count l))) fun s => s.put (XCV_LN_GRP.count l) 48
  let s := s.when (decide (s.get (XCV_LN_GRP.rate_max l) < s.get (XCV_LN_GRP.rate_min l))) fun s =>
    s.put (XCV_LN_GRP.rate_min l) (s.get (XCV_LN_GRP.rate_max l))
  s.each ((old.toList ++ (s.leaderOf l).toList).dedup) fun s g =>
    ((s.groupOff g).putB (XCV_LN_STAT.cfg_err g) (!s.groupFits g)).groupCheck g

/-- GROUP_DEFINE (R441). -/
def execGroupDefine (lane : Fin 48) (v : Word) (s : State) : Out := .next (s.writeGroup lane v)

/-- Whether every lane of a group satisfies `p`. -/
def State.allLanes (s : State) (g : Nat) (p : LaneState → Bool) : Bool := (s.members g).all fun l => p (s.lane l)

/-- A group of up to 4 lanes after an LTS block (R443): all lanes READY in order or reversed, then RUN for 256 blocks. -/
def State.smallGroup (s : State) (g : Nat) : State :=
  let n := s.get (XCV_LN_GRP.count g)
  if !s.allLanes g fun v => v.ready then s else
  let straight := (s.members g).all fun l => (s.lane l).index = some (l - g)
  let turned := (s.members g).all fun l => (s.lane l).index = some (n - 1 - (l - g))
  let s := if s.get (XCV_LN_STAT.grp_state g) ≠ 1 then s
    else if straight then s.put (XCV_LN_STAT.grp_state g) 2
    else if turned then
      ((s.setGroup g { s.group g with remap := true }).put (XCV_LN_STAT.grp_state g) 2).laneEvent g 3 CORRECTED 0x0E05
    else s.groupFails g 3
  s.when (decide (s.get (XCV_LN_STAT.grp_state g) = 2) && s.allLanes g fun v => decide (256 ≤ v.runs)) fun s =>
    s.groupRuns g

/-- The target rate index: the lower of the two rate_max values (R444). -/
def State.targetRate (s : State) (g : Nat) : Nat := min (s.get (XCV_LN_GRP.rate_max g)) (s.lane g).farMax

/-- A group of 5 or more after an LTS block (R444). -/
def State.largeGroup (s : State) (g : Nat) : State :=
  let v := s.group g
  let idx := s.get (XCV_LN_STAT.rate_idx g)
  let ready := s.allLanes g fun v => v.ready
  let farReady := s.allLanes g fun v => decide (v.farState ≠ 0)
  let toStep (s : State) (n st : Nat) : State := (s.setGroup g { s.group g with step := n }).put (XCV_LN_STAT.grp_state g) st
  let s := s.when (decide (v.step = 1) && ready) fun s => toStep s 2 2
  let s := s.when ((decide ((s.group g).step = 2) || decide ((s.group g).step = 5)) && ready && farReady) fun s =>
    if v.final || decide (idx = s.targetRate g) then toStep s 6 2 else toStep s 4 3
  let lead := s.is (XCV_LN_GRP.lead g)
  let heard (k : Nat) : Bool := s.allLanes g fun v => v.farState = k
  let s := s.when (decide ((s.group g).step = 4) && (if lead then heard 3 else heard 2)) fun s =>
    s.setGroup g { s.group g with switch := true }
  s.when (decide ((s.group g).step = 6) && s.allLanes g fun v => decide (256 ≤ v.runs)) fun s => s.groupRuns g

/-- The far end's view in an LTS block (R442). -/
def State.takeLts (s : State) (g l : Nat) (p : Nat) : State :=
  let v := s.lane l
  let n := s.get (XCV_LN_GRP.count g)
  let i := p / 2 ^ 48
  let okTag := decide (p / 2 ^ 8 % 2 ^ 16 = s.get (XCV_LN_GRP.tag g))
  let okCount := decide (p / 2 ^ 40 % 256 = n)
  let okIdx := decide (i = l - g) || (decide (n ≤ 4) && decide (i = n - 1 - (l - g)))
  let good := if okTag && okCount && okIdx then v.ltsGood + 1 else 0
  let st := p / 2 ^ 24 % 256
  s.setLane l { v with
    ltsGood := min 16 good, ready := v.ready || decide (16 ≤ good), index := some i, badTag := !okTag,
    badCount := !okCount, farState := st, farMax := p / 2 ^ 32 % 256, runs := if st = 4 then min 256 (v.runs + 1) else 0 }

/-- LTS_BLOCK (R442 to R444): a reversed pair is corrected; a good block counts towards READY and carries the far end's
state; a RUNNING group of 5 or more returns to step 1. -/
def execLtsBlock (lane : Fin 48) (b : Lts) (s : State) : Out :=
  let l := lane.val
  match s.leaderOf l with
  | none => .next s
  | some g =>
    let n := s.get (XCV_LN_GRP.count g)
    let st := s.get (XCV_LN_STAT.grp_state g)
    if s.get (XCV_LN_GRP.train g) ≠ 1 || st = 0 || st = 5 || !s.receives l then .next s
    else if st = 4 then .next (if 5 ≤ n then s.toStep1 g else s)
    else if b.type = 0x69 && b.swapped then
      let s := s.setLane l { s.lane l with ltsGood := 0 }
      .next ((s.putB (XCV_LN_STAT.pol_inv l) (!s.is (XCV_LN_STAT.pol_inv l))).laneEvent l 3 CORRECTED 0x0E04)
    else
      let p := b.payload.toNat
      if b.type ≠ 0x96 || b.swapped || crcPoly 8 0x07 48 (p / 256) ≠ p % 256 then
        .next (s.setLane l { s.lane l with ltsGood := 0 })
      else
        let s := s.takeLts g l p
        let i := p / 2 ^ 48
        if n ≤ 4 then
          (if i = l - g || i = n - 1 - (l - g) then .next (s.smallGroup g) else .next (s.groupFails g 3))
        else .next (s.largeGroup g)

/-- RATE_SWITCH (R444): both ends go to the next index and train there. -/
def execRateSwitch (lane : Fin 48) (s : State) : Out :=
  let g := lane.val
  let v := s.group g
  if v.step ≠ 4 || !v.switch then .next s
  else
    let idx := s.get (XCV_LN_STAT.rate_idx g)
    let s := (s.untrain g).setGroup g { v with step := 5, prev := idx, switch := false }
    .next (s.put (XCV_LN_STAT.rate_idx g) (idx + 1))

/-- STEP_RETRAIN_TIMEOUT (R444): the group returns to the previous index and ends there. -/
def execStepRetrainTimeout (lane : Fin 48) (s : State) : Out :=
  let g := lane.val
  let v := s.group g
  if v.step ≠ 5 || v.final then .next s
  else
    let s := (s.untrain g).setGroup g { v with final := true }
    .next ((s.put (XCV_LN_STAT.rate_idx g) v.prev).put (XCV_LN_STAT.step_fail g) 1)

/-- GROUP_TRAIN_TIMEOUT (R444): step 3 has not been reached in 100 ms, or no end or both lead. -/
def execGroupTrainTimeout (lane : Fin 48) (s : State) : Out :=
  let g := lane.val
  let v := s.group g
  let n := s.get (XCV_LN_GRP.count g)
  let any (p : LaneState → Bool) : Bool := (s.members g).any fun l => p (s.lane l)
  let order := (s.members g).any fun l => match (s.lane l).index with | some i => decide (i ≠ l - g) | none => false
  if n < 5 || s.get (XCV_LN_STAT.grp_state g) = 0 || !(v.step = 1 || v.step = 2 || (v.step = 4 && !v.switch)) then .next s
  else
    let reason :=
      if any fun v => v.badTag then 1 else if any fun v => v.badCount then 2 else if order then 3
      else if v.step = 4 then 4 else 5
    .next ((s.setGroup g { v with step := 0 }).groupFails g reason)

/-- GROUP_RETRY (R444). -/
def execGroupRetry (lane : Fin 48) (s : State) : Out :=
  let g := lane.val
  .next (s.when (decide (5 ≤ s.get (XCV_LN_GRP.count g)) && decide (s.get (XCV_LN_STAT.grp_state g) = 5)) fun s =>
    s.toStep1 g)

/-- GROUP_LOCK_LOSS_TIMEOUT (R444). -/
def execGroupLockLossTimeout (lane : Fin 48) (s : State) : Out :=
  let l := lane.val
  match s.leaderOf l with
  | none => .next s
  | some g =>
    if s.get (XCV_LN_GRP.count g) < 5 || s.get (XCV_LN_STAT.grp_state g) ≠ 4 || s.is (XCV_LN_STAT.locked l) then .next s
    else .next (s.toStep1 g)

/-! ### Configurations and power states -/

/-- Whether one direction of a lane configuration meets R432 and R435 under its PLL's setting. -/
def directionFits (pll : Option (Nat × Word × Word)) (c : Word) (d : Nat) : Bool :=
  match pll with
  | none => false
  | some (ref, v, f) =>
    let num := ref * (bitsOf v 23 16 * 2 ^ 24 + bitsOf f 23 0)
    let den := (bitsOf v 25 24 + 1) * 2 ^ 24 * 2 ^ d
    let pam4 := bit c 15
    let coding := bitsOf c 27 26
    let w := 32 * 2 ^ bitsOf c 25 24
    let rate := (if pam4 then 8 else 2) * num
    let inRange (lo hi : Nat) : Bool := decide (lo * den ≤ rate) && decide (rate ≤ hi * den)
    let (a, b) := match coding with | 0 => (1, 1) | 1 => (4, 5) | 2 => (64, 66) | _ => (16, 17)
    let clock := decide (25000 * (den * b * w) ≤ rate * a) && decide (rate * a ≤ 625000 * (den * b * w))
    let code := match coding with
      | 0 => true
      | 1 => !pam4 && decide (rate ≤ 16375000 * den) && decide (w ≤ 64)
      | _ => decide (64 ≤ w)
    (if pam4 then decide (d ≤ 1) && inRange 40000000 116000000 else decide (d ≤ 4) && inRange 1250000 32750000)
      && clock && code

/-- Whether a lane configuration is accepted: each direction that it enables fits (R432). -/
def State.laneFits (s : State) (l : Nat) (c : Word) : Bool :=
  (!bit c 29 || directionFits (s.qpll (l / 4) (bitsOf c 23 23)) c (bitsOf c 21 19))
    && (!bit c 28 || directionFits (s.qpll (l / 4) (bitsOf c 22 22)) c (bitsOf c 18 16))

/-- A request for a power state (R446): its transition starts, or it is the latest that waits. -/
def State.requestPstate (s : State) (l p : Nat) : State :=
  let v := s.lane l
  if !s.domOpen (0x100 + l / 4) then s
  else if v.dest.isSome then s.setLane l { v with want := some p }
  else if p = s.get (XCV_LN_STAT.pstate l) then s
  else s.setLane l { v with dest := some p }

/-- A write of XCV_LN_CFG (R432, R446, R453): applied whole or refused with cfg_err; a changed receiver hunts anew, and
the power state is requested. -/
def State.writeLaneCfg (s : State) (l : Nat) (v : Word) : State :=
  let v := if bitsOf v 31 30 = 3 then setBits v 31 30 2 else v
  if !s.laneFits l v then s.put (XCV_LN_STAT.cfg_err l) 1 else
  let old := s.word (XCV_LN_CFG.off l)
  let s := (s.put (XCV_LN_STAT.cfg_err l) 0).write (XCV_LN_CFG.off l) v
  let s := s.when (decide ((old ^^^ s.word (XCV_LN_CFG.off l)) &&& 0x1F47A800 ≠ 0)) fun s => s.dropLock l
  let s := (s.requestPstate l (bitsOf v 31 30)).stopQplls (l / 4)
  match s.leaderOf l with
  | some g =>
    (s.when (decide (2 ≤ s.get (XCV_LN_GRP.count g))) fun s => s.putB (XCV_LN_STAT.cfg_err g) (!s.groupFits g)).groupCheck g
  | none => s

/-- LANE_CFG_WRITE (R432). -/
def execLaneCfgWrite (lane : Fin 48) (v : Word) (s : State) : Out := .next (s.writeLaneCfg lane v)

/-- PSTATE_REQUEST (R446). -/
def execPstateRequest (lane : Fin 48) (v : Word) (s : State) : Out := .next (s.writeLaneCfg lane v)

/-- PSTATE_TRANSITION_COMPLETE (R446): the state is reached, out of ACTIVE the lane is not locked, and the waiting
request starts. -/
def execPstateTransitionComplete (lane : Fin 48) (s : State) : Out :=
  let l := lane.val
  let v := s.lane l
  match v.dest with
  | none => .next s
  | some d =>
    let next := match v.want with
      | some w => if w = d then none else some w
      | none => none
    let s := (s.setLane l { v with dest := next, want := none }).put (XCV_LN_STAT.pstate l) d
    let s := (s.when (decide (d ≠ 0)) fun s => s.dropLock l).stopQplls (l / 4)
    match s.leaderOf l with
    | some g => .next (s.groupCheck g)
    | none => .next s

/-- The power domain of a quad leaves OPEN (R447): every lane stops as in DEEP. -/
def State.quadClosing (s : State) (q : Nat) : State :=
  let s := s.each (List.range 4) fun s p =>
    let l := 4 * q + p
    let s := (s.setLane l { s.lane l with dest := none, want := none }).put (XCV_LN_STAT.pstate l) 2
    let s := s.dropLock l
    match s.leaderOf l with
    | some g => s.groupCheck g
    | none => s
  s.stopQplls q

/-- The power domain of a quad is OPEN again (R447): each lane returns to its requested state. -/
def State.quadOpened (s : State) (q : Nat) : State :=
  s.each (List.range 4) fun s p => s.requestPstate (4 * q + p) (s.get (XCV_LN_CFG.pstate (4 * q + p)))

/-- A block reset of a quad beyond its registers (R29). -/
def State.quadReset (s : State) (q : Nat) : State :=
  let s := s.each (List.range 4) fun s p => (s.setLane (4 * q + p) {}).setGroup (4 * q + p) {}
  (s.setQpll q 0 none).setQpll q 1 none

/-! ### Connection faults -/

/-- TX_FAULT (R445). -/
def execTxFault (lane : Fin 48) (s : State) : Out :=
  let l := lane.val
  if !s.is (XCV_LN_CFG.tx_en l) || (s.lane l).driverOff then .next s
  else
    let s := (s.setLane l { s.lane l with driverOff := true }).put (XCV_LN_FAULT.fault l) 1
    .next (s.laneEvent l 2 CONTAINED 0x0E01)

/-- TX_FAULT_RETRY (R445): up to 8 retries, then the driver is left off. -/
def execTxFaultRetry (lane : Fin 48) (s : State) : Out :=
  let l := lane.val
  if !(s.lane l).driverOff || 8 ≤ s.get (XCV_LN_FAULT.retries l) then .next s
  else
    let s := (s.setLane l { s.lane l with driverOff := false }).count (XCV_LN_FAULT.retries l)
    .next (s.put (XCV_LN_FAULT.fault l) 0)

/-- RECEIVER_DETECT (R445): the flag stands while no termination is found. -/
def execReceiverDetect (lane : Fin 48) (found : Bool) (s : State) : Out :=
  let l := lane.val
  let f := s.get (XCV_LN_FAULT.fault l)
  if !s.is (XCV_LN_CFG.tx_en l) then .next s
  else if found then .next (s.when (decide (f = 2)) fun s => s.put (XCV_LN_FAULT.fault l) 0)
  else if f = 2 then .next s
  else .next (((s.when (decide (f = 0)) fun s => s.put (XCV_LN_FAULT.fault l) 2)).laneEvent l 2 INFO 0x0E02)

/-- LOSS_OF_SIGNAL (R445). -/
def execLossOfSignal (lane : Fin 48) (s : State) : Out :=
  let l := lane.val
  if !s.is (XCV_LN_CFG.rx_en l) || s.is (XCV_LN_STAT.los l) then .next s
  else
    let s := (s.put (XCV_LN_STAT.los l) 1).put (XCV_LN_FAULT.fault l) 3
    let s := s.setLane l { s.lane l with frozen := true }
    .next (((s.loseLock l).dropLock l).laneEvent l 2 CONTAINED 0x0E03)

/-- SIGNAL_RETURN (R445). -/
def execSignalReturn (lane : Fin 48) (s : State) : Out :=
  let l := lane.val
  if !s.is (XCV_LN_STAT.los l) then .next s
  else
    let s := (s.put (XCV_LN_STAT.los l) 0).setLane l { s.lane l with frozen := false }
    .next (s.when (decide (s.get (XCV_LN_FAULT.fault l) = 3)) fun s => s.put (XCV_LN_FAULT.fault l) 0)

/-- A write of XCV_LN_FAULT (R445, R452). -/
def State.writeLaneFault (s : State) (l : Nat) (v : Word) : State :=
  if !bit v 31 then s else
  ((s.setLane l { s.lane l with driverOff := false }).put (XCV_LN_FAULT.fault l) 0).put (XCV_LN_FAULT.retries l) 0

/-- LANE_FAULT_CLEAR (R445). -/
def execLaneFaultClear (lane : Fin 48) (v : Word) (s : State) : Out := .next (s.writeLaneFault lane v)

/-! ### Calibration, PRBS, eye scan and injection -/

/-- A write of XCV_LN_MAINT (R448). -/
def State.writeLaneMaint (s : State) (l : Nat) (v : Word) : State :=
  let s := s.write (XCV_LN_MAINT.off l) v
  let idle := (!s.is (XCV_LN_CFG.tx_en l) && !s.is (XCV_LN_CFG.rx_en l)) || decide (s.get (XCV_LN_STAT.pstate l) = 2)
  if !bit v 31 then s
  else if idle || s.is (XCV_LN_MAINT.force l) then
    let s := (s.put (XCV_LN_MAINT.answer l) 1).put (XCV_LN_MAINT.done l) 0
    let s := s.setLane l { s.lane l with cal := true }
    if idle then s else
    let s := (s.loseLock l).dropLock l
    match s.leaderOf l with
    | some g =>
      if 5 ≤ s.get (XCV_LN_GRP.count g) && s.get (XCV_LN_STAT.grp_state g) ≠ 0 then s.toStep1 g else s
    | none => s
  else s.put (XCV_LN_MAINT.answer l) 3

/-- LANE_CAL (R448). -/
def execLaneCal (lane : Fin 48) (v : Word) (s : State) : Out := .next (s.writeLaneMaint lane v)

/-- LANE_CAL_COMPLETE (R448). -/
def execLaneCalComplete (lane : Fin 48) (s : State) : Out :=
  let l := lane.val
  .next (s.when (s.lane l).cal fun s => (s.setLane l { s.lane l with cal := false }).put (XCV_LN_MAINT.done l) 1)

/-- PRBS_CHECKER_LOCK (R443, R449): the checker locks, or relocks after more than 256 errors; in training with PRBS31 an
inverted lane is corrected, and the group runs once every checker has locked. -/
def execPrbsCheckerLock (lane : Fin 48) (inverted relock : Bool) (s : State) : Out :=
  let l := lane.val
  let training := match s.leaderOf l with
    | some g => decide (s.get (XCV_LN_GRP.train g) = 2) && decide (s.get (XCV_LN_STAT.grp_state g) = 1)
    | none => false
  if !s.receives l || !(training || s.is (XCV_LN_PRBS.rx_en l)) then .next s
  else
    let s := s.when relock fun s =>
      let n := min (s.getWide (XCV_LN_PRBS_ERR0.off l) 2 + 257) (2 ^ 48 - 1)
      s.putWide (XCV_LN_PRBS_ERR0.off l) 2 n
    let s := (s.put (XCV_LN_PRBS.locked l) 1).putB (XCV_LN_PRBS.inverted l) inverted
    match s.leaderOf l with
    | none => .next s
    | some g =>
      if !training then .next s else
      let s := s.setLane l { s.lane l with prbsGood := true }
      let s := s.when inverted fun s =>
        (s.putB (XCV_LN_STAT.pol_inv l) (!s.is (XCV_LN_STAT.pol_inv l))).laneEvent l 3 CORRECTED 0x0E04
      .next (s.when (s.allLanes g fun v => v.prbsGood) fun s => s.groupRuns g)

/-- A write of XCV_LN_ES_CFG (R450). -/
def State.writeEyeScan (s : State) (l : Nat) (v : Word) : State :=
  let busy := s.is (XCV_LN_ES_CFG.busy l)
  let s := s.write (XCV_LN_ES_CFG.off l) v
  if !bit v 31 then s
  else if busy || !s.is (XCV_LN_STAT.locked l) then s.put (XCV_LN_ES_CFG.answer l) 3
  else (s.put (XCV_LN_ES_CFG.answer l) 1).put (XCV_LN_ES_CFG.busy l) 1

/-- EYE_SCAN (R450). -/
def execEyeScan (lane : Fin 48) (v : Word) (s : State) : Out := .next (s.writeEyeScan lane v)

/-- EYE_SCAN_COMPLETE (R450). -/
def execEyeScanComplete (lane : Fin 48) (count : BitVec 48) (s : State) : Out :=
  let l := lane.val
  .next (s.when (s.is (XCV_LN_ES_CFG.busy l)) fun s =>
    (s.putWide (XCV_LN_ES_ERR0.off l) 2 count.toNat).put (XCV_LN_ES_CFG.busy l) 0)

/-- A write of XCV_LN_FI (R307, R451): with fi_enable the injector is armed. -/
def State.writeLaneFi (s : State) (l : Nat) (v : Word) : State :=
  let s := s.write (XCV_LN_FI.off l) v
  if bit v 31 && s.is (XCV_Q_CFG.fi_enable (l / 4)) then
    (s.setLane l { s.lane l with
      skip := s.get (XCV_LN_FI.skip l), times := s.get (XCV_LN_FI.times l), acted := false }).put (XCV_LN_FI.armed l) 1
  else s

/-- LANE_FI_ARM (R451). -/
def execLaneFiArm (lane : Fin 48) (v : Word) (s : State) : Out := .next (s.writeLaneFi lane v)

end Sys2Proof.Machine
end

