-- ==== Sys2Proof/Machine/DomainOps.lean ====
section
/-! DEFINITION. Power domains: requests, closing, power off and opening (R249, R336, R447, R496 to R498). -/

namespace Sys2Proof.Machine

open Reg

/-! ### What a domain holds -/

/-- The NoC ports of a domain but a controller's, whose state follows R316. -/
def domPorts (d : Nat) : List Nat :=
  if d < 0x010 then []
  else if d < 0x100 then (regionQuays (d - 0x010)).map quayPort
  else if d < 0x110 then [portId (d - 0x100) 5 3]
  else if d < 0x130 then []
  else if d = 0x130 then [portId 5 0 0, portId 6 0 0]
  else [portId 9 0 0]

/-- Whether every fabric column of a region but its clock columns lies in a stall in RESET (R496). -/
def State.regionHeld (s : State) (r : Nat) : Bool :=
  (List.range 97).all fun l =>
    l = 47 || l = 49 || (match s.stallAt (97 * (r % 12) + l) (r / 12) with
      | some n => decide (s.stallState n = 6)
      | none => false)

/-- Why a close is refused, where the domain is OPEN (R496). -/
def State.closeRefusal (s : State) (d : Nat) : Option Nat :=
  let st := s.get (DMC_STAT.state (d - 0x110))
  if d < 0x010 then some 1
  else if d < 0x100 then (if s.regionHeld (d - 0x010) then none else some 2)
  else if d < 0x110 then (if !s.is (XCV_Q_CFG.mirror (d - 0x100)) || s.get PAIR_STAT.state = 0 then none else some 4)
  else if d < 0x120 then (if st = 2 || st = 0 || st = 5 then none else some 3)
  else if d < 0x130 then (if s.is (CC_CORE_CTRL.run (d - 0x120)) then some 3 else none)
  else if d = 0x130 then (if s.is PCI_CFG.enable then some 3 else none)
  else (if s.is TH_CTRL.enable then some 3 else none)

/-! ### Requests -/

/-- The answer to a request, and the event of a refusal (R496, R512, R513). -/
def State.domAnswer (s : State) (d answer reason : Nat) : State :=
  let s := (s.put (PWR_DOM.answer d) answer).put (PWR_DOM.reason d) reason
  s.when (answer = 3) fun s => s.raise pagePWR 3 INFO 0x1104 d 0

/-- A region's stalls close, with the partial load for one of them (R249), its tracks stop (R198), and its quays close. -/
def State.regionClosing (s : State) (r : Nat) : State :=
  let s := s.each (s.stallsOf r) fun s n => s.failStallLoad n
  ((s.closeStallsOf r).put (RGN_CLK_ACT.v r) 0).each (regionQuays r) fun s q => s.closePort false (quayPort q)

/-- A domain enters CLOSING (R497). -/
def State.beginClose (s : State) (d : Nat) : State :=
  let s := s.setDom d 1
  let s := if d < 0x100 then s.regionClosing (d - 0x010)
    else if d < 0x110 then s.quadClosing (d - 0x100)
    else if d < 0x120 then s.dmcClosing (d - 0x110)
    else if d < 0x130 then s.coreClosing (d - 0x120)
    else s
  s.each (domPorts d) fun s p => s.closePort false p

/-- A close request (R496). -/
def State.requestClose (s : State) (d : Nat) : State :=
  let st := s.get (PWR_DOM.state d)
  if d < 0x010 then s.domAnswer d 3 1
  else if st = 1 || st = 3 || s.fullLoading then s.domAnswer d 3 5
  else if st = 2 then s.domAnswer d 1 0
  else match s.closeRefusal d with
    | some r => s.domAnswer d 3 r
    | none => (s.domAnswer d 1 0).beginClose d

/-- An open request (R496). -/
def State.requestOpen (s : State) (d : Nat) : State :=
  let st := s.get (PWR_DOM.state d)
  if st = 1 || st = 3 || (s.fullLoading && decide (0x010 ≤ d)) then s.domAnswer d 3 5
  else if st = 2 then (s.domAnswer d 1 0).setDom d 3
  else s.domAnswer d 1 0

/-- A write of PWR_DOM (R496, R512): close, then open. An ID that names no domain has no effect. -/
def State.writeDom (s : State) (d : Nat) (v : Word) : State :=
  if 2 ≤ d && !allDoms.contains d then s else
  let s := s.when (bit v 31) fun s => s.requestClose d
  s.when (bit v 30) fun s => s.requestOpen d

/-! ### Power off and open again -/

/-- Whether a CLOSING domain's ports are CLOSED and its block has finished (R497). -/
def State.closeDone (s : State) (d : Nat) : Bool :=
  let st := s.get (DMC_STAT.state (d - 0x110))
  (domPorts d).all (fun p => s.portState p = 2)
    && (if 0x110 ≤ d && d < 0x120 then st = 0 || st = 4 || st = 5 else true)

/-- A region that closes loses both planes of its frames but its clock columns', and its memories (R96, R497); its sensor
and its monitors are unpowered (R500, R505). -/
def State.regionOff (s : State) (r : Nat) : State :=
  let keeps (e : Nat × Frame) : Bool :=
    let a := e.1 % 2 ^ 32
    !(decide (faCol a < 1164) && decide (faRegion a = r) && decide (colKind (faCol a) ≠ some .clock))
  let s := ({ s with planes := s.planes.filter keeps }).zeroRegionMemories r
  let s := (s.put (AGE_MON.stale (2 * r)) 1).put (AGE_MON.stale (2 * r + 1)) 1
  match (List.range 16).find? fun n => 12 * (5 * (n / 4) + 2) + 3 * (n % 4) + 1 = r with
  | some n => s.put (THM_SENS.stale n) 1
  | none => s

/-- The device removes a domain's power: CLOSED (R497). A full load under way opens it again (R228). -/
def State.domOff (s : State) (d : Nat) : State :=
  let s := (s.setDom d 2).count (PWR_DOM.closes d)
  let s := if 0x010 ≤ d && d < 0x100 then s.regionOff (d - 0x010) else s
  let s := s.raise pagePWR 1 INFO 0x1102 d 0
  if s.fullLoading then s.setDom d 3 else s

/-- A region is OPEN again (R96, R249, R497): its memories are zeroed, its stalls whose regions all are OPEN enter RESET,
and the quays that no stall holds open. -/
def State.regionOpened (s : State) (r : Nat) : State :=
  let s := (s.zeroRegionMemories r).reviveStallsOf r
  let free := (regionQuays r).filter fun q => (s.stallAt (97 * (q % 24 / 2) + 48) (quayRow q)).isNone
  let s := s.when (!s.fullLoading) fun s => s.each free fun s q => s.openPort (quayPort q)
  { s with pwr := { s.pwr with openAt := s.pwr.openAt.set (fun _ => none) r (some s.now) } }

/-- A domain returns to OPEN (R497). -/
def State.domOpened (s : State) (d : Nat) : State :=
  let s := s.setDom d 0
  let s := if d < 0x100 then s.regionOpened (d - 0x010)
    else if d < 0x110 then (s.openPort (portId (d - 0x100) 5 3)).quadOpened (d - 0x100)
    else if d < 0x120 then s.dmcOpened (d - 0x110)
    else if d < 0x130 then
      s.when (s.is (CC_CORE_CTRL.run (d - 0x120)) && decide ((s.core (d - 0x120)).sleep ≠ 2)) fun s => s.startCore (d - 0x120)
    else s.each (domPorts d) fun s p => s.openPort p
  let s := s.raise pagePWR 2 INFO 0x1103 d 0
  match s.cfg.load with
  | some l => if l.phase = .clearing then s.closeForLoad else s
  | none => s

end Sys2Proof.Machine
end

