-- ==== Sys2Proof/Machine/FaultLog.lean ====
section
/-! DEFINITION. The fault log: intake, ring, flash log and power-fail warning (R474 to R482). -/

namespace Sys2Proof.Machine

open Reg

/-! ### The log area in the flash -/

/-- The flash byte address of page `p` of the log area (R477). -/
def State.logAddr (s : State) (p : Nat) : Nat := s.get FLT_AREA_BASE.v * 4096 + 4096 * p

/-- What an unlisted log page reads as. -/
def logPageDefault : Nat → LogPage := fun _ => {}

/-- What the FLT knows of page `p`. -/
def State.logPage (s : State) (p : Nat) : LogPage := s.flt.pages.get logPageDefault p

/-- Changing what the FLT knows of page `p`. -/
def State.setLogPage (s : State) (p : Nat) (v : LogPage) : State :=
  { s with flt := { s.flt with pages := s.flt.pages.set logPageDefault p v } }

/-- The pages of the area that are not retired (R479). -/
def State.usablePages (s : State) : Nat :=
  ((List.range (s.get FLT_AREA_PAGES.v)).filter fun p => !(s.logPage p).retired).length

/-- The `n` usable pages that follow page `p` in ascending order, wrapping at the area's end (R479). -/
def State.pagesAfter (s : State) (p n : Nat) : List Nat :=
  let t := s.get FLT_AREA_PAGES.v
  (((List.range t).map fun i => (p + 1 + i) % t).filter fun q => !(s.logPage q).retired).take n

/-- The page before the one that the log takes next: the current page, or the area's last before any. -/
def State.logCur (s : State) : Nat :=
  match s.flt.cur with
  | some p => p
  | none => s.get FLT_AREA_PAGES.v - 1

/-- The backlog field shows the entries in the backlog. -/
def State.showBacklog (s : State) : State := s.put FLT_STAT.backlog (min s.flt.backlog.length 128)

/-- A page retires (R479): its state field is programmed to zero, and logging stops below four usable pages. -/
def State.retirePage (s : State) (p : Nat) (byError : Bool) : State :=
  let a := s.logAddr p
  let s := s.when byError fun s => s.raise pageFLT 0 CONTAINED 0x1001 a 0
  let s := (s.flashProgramBytes (a + 0xC) [0, 0, 0, 0]).setLogPage p { s.logPage p with retired := true, erased := false }
  let s := (s.count FLT_RETIRED.v).raise pageFLT 1 INFO 0x1002 a 0
  let s := s.put FLT_STAT.usable s.usablePages
  if s.usablePages < 4 then
    let s := (s.put FLT_STAT.state 3).raise pageFLT 2 CONTAINED 0x1003 a 0
    ({ s with flt := { s.flt with flushing := 0 } }).put FLT_STAT.flushing 0
  else s

/-- The header of a page as it is first used (R477). -/
def logHeader (seq erases first : Nat) : List Byte :=
  let low := toBytes 0x5A464C47 4 ++ toBytes seq 4 ++ toBytes erases 4
  let fst := toBytes first 8
  low ++ [0xFF, 0xFF, 0xFF, 0xFF] ++ fst ++ toBytes (crc32 (low ++ fst)) 4 ++ [0xFF, 0xFF, 0xFF, 0xFF]

/-- The next page becomes the current one, if it is erased (R479). -/
def State.openLogPage (s : State) (first : Nat) : Option State :=
  match s.pagesAfter s.logCur 1 with
  | [] => none
  | p :: _ =>
    let g := s.logPage p
    if !g.erased then none else
    let seq := s.get FLT_SEQ.v + 1
    let s := (s.setLogPage p { g with seq := seq, erased := false }).put FLT_SEQ.v seq
    let s := s.flashProgramBytes (s.logAddr p) (logHeader seq g.erases first)
    some { s with flt := { s.flt with cur := some p, slot := 0 } }

/-- Programming entries, each with its number, into consecutive slots, opening pages as they fill. -/
def State.programLog (s : State) : List (Nat × BitVec 256) → Option State
  | [] => some s
  | (k, e) :: es =>
    let s' := if s.flt.cur.isNone || s.flt.slot ≥ 127 then s.openLogPage k else some s
    match s' with
    | none => none
    | some t =>
      let t := t.flashProgramBytes (t.logAddr t.logCur + 32 + 32 * t.flt.slot) (toBytes e.toNat 32)
      ({ t with flt := { t.flt with slot := t.flt.slot + 1 } }).programLog es

/-- Whether an entry's class is FATAL, and CONTAINED (R474). -/
def isFatal (e : BitVec 256) : Bool := e.toNat / 2 ^ 94 % 4 = 3
def isContained (e : BitVec 256) : Bool := e.toNat / 2 ^ 94 % 4 = 2

/-- A flush starts over the present backlog, while the log is LOGGING (R478). -/
def State.startFlush (s : State) : State :=
  if s.get FLT_STAT.state = 2 && !s.flt.backlog.isEmpty && s.flt.flushing = 0 then
    ({ s with flt := { s.flt with flushing := s.flt.backlog.length } }).put FLT_STAT.flushing 1
  else s

/-- A flush starts when the backlog holds 8 entries, a FATAL entry or the power-fail warning (R478, R482). -/
def State.flushIfDue (s : State) : State :=
  if s.flt.backlog.length ≥ 8 || s.flt.ringOnly || s.flt.backlog.any (fun b => isFatal b.entry) then s.startFlush else s

/-! ### Intake and ring -/

/-- The intake-full entry of a run of drops: the first that the queue accepts after the run (R475). -/
def State.endDrops (s : State) : State :=
  if s.flt.dropped = 0 then s else
  let e := encodeEntry s.flt.dropStamp s.flt.dropAon true (pageEntry pageFLT INFO 0x1004 s.flt.dropped 0)
  let s := (s.put (ERR_INFO0.v pageFLT) s.flt.dropped).put (ERR_INFO1.v pageFLT) 0
  { s with flt := { s.flt with intake := s.flt.intake ++ [e], dropped := 0 } }

/-- What the committed mark of an unlisted slot of the ring reads as. -/
def committedDefault : Nat → Bool := fun _ => false

/-- An entry of the ring joins the backlog, or is kept out and counted (R478, R482). -/
def State.joinBacklog (s : State) (k : Nat) (e : BitVec 256) : State :=
  let st := s.get FLT_STAT.state
  if st = 0 || st = 3 then s
  else if s.flt.ringOnly then { s with flt := { s.flt with keptOut := s.flt.keptOut + 1 } }
  else if s.flt.backlog.length < s.get FLT_CFG.backlog_max then
    { s with flt := { s.flt with backlog := s.flt.backlog ++ [⟨some k, e⟩] } }
  else
    let s := s.count FLT_GAP.v
    if s.flt.gapOut = 0 then
      let s := s.event pageFLT 4
      { s with flt := { s.flt with backlog := s.flt.backlog ++ [⟨none, 0⟩], gapOut := 1 } }
    else { s with flt := { s.flt with gapOut := s.flt.gapOut + 1 } }

/-- One entry enters the ring as number FLT_COUNT (R476), and then the backlog. -/
def State.enterRing (s : State) (e : BitVec 256) : State :=
  let k := s.get FLT_COUNT.v
  let slot := k % 1024
  let s := s.when (decide (1024 ≤ k) && !s.flt.committed.get committedDefault slot) fun s => s.count FLT_OVW.v
  let s := { s with flt := { s.flt with
    ring := s.flt.ring.set ringDefault slot e, committed := s.flt.committed.set committedDefault slot false } }
  let s := (s.put FLT_COUNT.v (k + 1)).when (isFatal e) fun s => (s.event pageFLT 7).alert 0
  let s := s.when (isContained e) fun s => s.alert 1
  let s := s.joinBacklog k e
  let warning := e.toNat / 2 ^ 80 % 256 = 0x81 && e.toNat / 2 ^ 112 % 65536 = 0x1006
  let s := s.when (warning && s.is FLT_STAT.pfw) fun s => { s with flt := { s.flt with ringOnly := true } }
  s.flushIfDue.showBacklog

/-- FAULT_ENTRY (R475). -/
def execFaultEntry (e : FaultRec) (s : State) : Out := .next (s.handEntry e)

/-- RING_INTAKE (R475, R476, R478): one entry moves from the queue to the ring, and the queue then accepts the entry
of a run of drops. -/
def execRingIntake (s : State) : Out :=
  match s.flt.intake with
  | [] => .next s
  | e :: rest => .next (({ s with flt := { s.flt with intake := rest } }).endDrops.enterRing e)

/-! ### The flash log -/

/-- FLUSH_TIMER (R478): the oldest entry of the backlog has waited 2 ms. -/
def execFlushTimer (s : State) : Out := .next s.startFlush

/-- The entry that a place of the backlog puts into the flash: the GAP entry carries the entries kept out (R478). -/
def State.backlogEntry (s : State) (b : BackEntry) : BitVec 256 :=
  match b.number with
  | some _ => b.entry
  | none => encodeEntry s.stamp.1 s.stamp.2 false (pageEntry pageFLT INFO 0x1005 s.flt.gapOut 0)

/-- The COMMIT entry of a flush (R478). -/
def State.commitEntry (s : State) (es : List (BitVec 256)) : BitVec 256 :=
  encodeEntry s.stamp.1 s.stamp.2 false
    (pageEntry pageFLT INFO 0x1000 (crc32 (es.flatMap fun e => toBytes e.toNat 32)) es.length)

/-- FLUSH_COMPLETE (R478, R479): the entries and their COMMIT are programmed and committed; a device error retires the
page, and the entries are flushed again into the next one. -/
def execFlushComplete (ok : Bool) (s : State) : Out :=
  let n := s.flt.flushing
  if n = 0 then .next s
  else if !ok then
    let fresh := s.flt.cur.isNone || decide (127 ≤ s.flt.slot)
    let p := if fresh then (s.pagesAfter s.logCur 1).headD s.logCur else s.logCur
    .next ({ s with flt := { s.flt with cur := some p, slot := 127 } }.retirePage p true)
  else
    let bs := s.flt.backlog.take n
    let es := bs.map s.backlogEntry
    let numbered := (bs.map fun b => b.number.getD (s.get FLT_COUNT.v)).zip es
    match s.programLog (numbered ++ [(s.get FLT_COUNT.v, s.commitEntry es)]) with
    | none => .next s
    | some t =>
      let marks := bs.filterMap fun b => b.number
      let com := marks.foldl (fun m k => m.set committedDefault (k % 1024) true) t.flt.committed
      let gone := bs.any fun b => b.number.isNone
      let t := { t with flt := { t.flt with
        committed := com, backlog := t.flt.backlog.drop n, flushing := 0,
        gapOut := if gone then 0 else t.flt.gapOut } }
      .next (((t.put FLT_STAT.flushing 0).add FLT_FLUSHED.v n).flushIfDue.showBacklog)

/-- The page whose erase ahead is due: the first of the next two usable pages that is not erased (R479). -/
def State.pageDue (s : State) : Option Nat := (s.pagesAfter s.logCur 2).find? fun p => !(s.logPage p).erased

/-- PAGE_ERASE_COMPLETE (R479): a page is erased ahead; a worn page is retired in place of its erase, and a device
error retires it. -/
def execPageEraseComplete (ok : Bool) (s : State) : Out :=
  if s.get FLT_STAT.state ≠ 2 then .next s else
  match s.pageDue with
  | none => .next s
  | some p =>
    let g := s.logPage p
    if g.erases ≥ 100000 then .next (s.retirePage p false)
    else if !ok then .next (s.retirePage p true)
    else .next ((s.flashErase (s.logAddr p) 4096).setLogPage p { g with erased := true, erases := g.erases + 1 })

/-- A write of FLT_CTRL.log_en, which PAGE_LOCK holds (R477): setting it checks the area and starts the scan; clearing it
takes the log to OFF. -/
def State.writeLogEn (s : State) (v : Word) : State :=
  if s.locked pageFLT then s else
  let on := bit v 30
  let was := s.is FLT_CTRL.log_en
  let s := s.putB FLT_CTRL.log_en on
  if !on then
    (((({ s with flt := { s.flt with backlog := [], flushing := 0, gapOut := 0 } }).put FLT_STAT.state 0).put
      FLT_STAT.flushing 0).showBacklog)
  else if was && s.get FLT_STAT.state ≠ 0 then s
  else
    let fits := match s.cfg.goldenEnd with
      | none => true
      | some g => decide (g ≤ s.logAddr 0)
    if fits && decide (4 ≤ s.get FLT_AREA_PAGES.v) then (s.put FLT_STAT.state 1)
    else (s.raise pageFLT 6 INFO 0x1007 (s.logAddr 0) 0)

/-- A write of FLT_CTRL: log_en, then flush_now (R477, R478, R490). -/
def State.writeFltCtrl (s : State) (v : Word) : State := (s.writeLogEn v).when (bit v 31) State.startFlush

/-- FLUSH_NOW (R478): a write of FLT_CTRL. -/
def execFlushNow (v : Word) (s : State) : Out := .next (s.writeFltCtrl v)

/-- LOG_ENABLE (R477): a write of FLT_CTRL. -/
def execLogEnable (v : Word) (s : State) : Out := .next (s.writeFltCtrl v)

/-- What the scan finds in the header of page `p` (R477, R480): none where its magic or crc fails. -/
def State.readLogHeader (s : State) (p : Nat) : Option LogPage :=
  let a := s.logAddr p
  if s.flashNum a 4 = 0x5A464C47 && s.flashNum (a + 0x18) 4 = crc32 (s.flashBytes a 12 ++ s.flashBytes (a + 0x10) 8) then
    some { seq := s.flashNum (a + 4) 4, erases := s.flashNum (a + 8) 4, retired := s.flashNum (a + 0xC) 4 = 0,
           erased := false }
  else none

/-- The entry in a slot of a page. -/
def State.logEntryAt (s : State) (p i : Nat) : BitVec 256 := BitVec.ofNat 256 (s.flashNum (s.logAddr p + 32 + 32 * i) 32)

/-- Whether slot `i` of page `p` holds a COMMIT that matches the entries before it, some of which may stand at the end
of the page used before (R478). -/
def State.commitAt (s : State) (p prev i : Nat) : Bool :=
  let e := (s.logEntryAt p i).toNat
  let n := e / 2 ^ 192
  let es := (List.range n).map fun j =>
    if n ≤ i + j then s.logEntryAt p (i + j - n) else s.logEntryAt prev (127 + i + j - n)
  decide (e / 2 ^ 80 % 256 = 0x81) && decide (e / 2 ^ 112 % 65536 = 0x1000) && decide (n ≤ 127)
    && decide (e / 2 ^ 128 % 2 ^ 64 = crc32 (es.flatMap fun x => toBytes x.toNat 32))

/-- LOG_SCAN_COMPLETE (R480): the valid header with the highest seq names the current page, and logging resumes after
its last matching COMMIT; a page without a valid header is to be erased and keeps the highest erases found plus 1. -/
def execLogScanComplete (s : State) : Out :=
  if s.get FLT_STAT.state ≠ 1 then .next s else
  let t := s.get FLT_AREA_PAGES.v
  let heads := (List.range t).map fun p => (p, s.readLogHeader p)
  let worst := heads.foldl (fun m h => match h.2 with | some g => max m g.erases | none => m) 0
  let s := s.each heads fun s h => s.setLogPage h.1 (h.2.getD { erases := worst + 1 })
  let best : Option (Nat × Nat) := heads.foldl (fun b h => match h.2 with
    | some g => (match b with
      | some (_, q) => if q < g.seq then some (h.1, g.seq) else b
      | none => some (h.1, g.seq))
    | none => b) (none : Option (Nat × Nat))
  let s : State := match best with
    | none => { s with flt := { s.flt with cur := none, slot := 0 } }
    | some (p, q) =>
      let prev := ((heads.find? fun h : Nat × Option LogPage =>
        match h.2 with | some g => decide (g.seq + 1 = q) | none => false).map Prod.fst).getD p
      let slot := (List.range 127).foldl (fun m i => if s.commitAt p prev i then i + 1 else m) 0
      ({ s with flt := { s.flt with cur := some p, slot := slot } }).put FLT_SEQ.v q
  let s := s.put FLT_STAT.usable s.usablePages
  if s.usablePages < 4 then .next ((s.put FLT_STAT.state 3).raise pageFLT 2 CONTAINED 0x1003 (s.logAddr 0) 0)
  else .next ((s.put FLT_STAT.state 2).flushIfDue.showBacklog)

/-- FLT_ENT_READ (R476): FLT_ENT0 returns the slot of FLT_SEL, and FLT_ENT1 to FLT_ENT7 latch from it. -/
def execFltEntRead (s : State) : Out :=
  let s := s.latchEntry
  .next (s.answerWord (s.word (FLT_ENT.off 0)))

/-! ### Power-fail warning -/

/-- The erase ahead of a log page, if one is in progress, which is left free, is abandoned and its page left partly
erased (R479, R482). -/
def State.dropPageErase (s : State) : State :=
  if s.get FLT_STAT.state = 2 && s.flt.backlog.isEmpty then
    match s.pageDue with
    | none => s
    | some p =>
      let got := s.fresh 1
      let b := got.1
      let s := got.2
      s.when (decide (b ≠ 0)) fun s => s.flashSpoil (s.logAddr p) 4096
  else s

/-- POWER_FAIL_WARNING (R482): the warning is logged, and a flash erase in progress is abandoned, its sectors left
partly erased and, of a CFG_FLASH_CMD, its result 4. The flush follows when the warning entry enters the backlog. -/
def execPowerFailWarning (s : State) : Out :=
  if s.is FLT_STAT.pfw then .next s else
  let s := (s.dropPageErase.put FLT_STAT.pfw 1).raise pageFLT 5 INFO 0x1006 0 0
  match s.cfg.flash with
  | some f =>
    if f.op = 2 || f.op = 3 then
      let s := (s.flashSpoil f.addr f.len).put CFG_FLASH_CMD.result 4
      .next { s with cfg := { s.cfg with flash := none } }
    else .next s
  | none => .next s

/-- POWER_FAIL_CLEAR (R482): flash logging resumes, and the entries kept out are counted as a gap. -/
def execPowerFailClear (s : State) : Out :=
  if !s.is FLT_STAT.pfw then .next s else
  let k := s.flt.keptOut
  let s := s.put FLT_STAT.pfw 0
  let s := if k = 0 then s else
    let s := s.add FLT_GAP.v k
    if s.flt.gapOut = 0 then
      { s with flt := { s.flt with backlog := s.flt.backlog ++ [⟨none, 0⟩], gapOut := k } }
    else { s with flt := { s.flt with gapOut := s.flt.gapOut + k } }
  .next (({ s with flt := { s.flt with ringOnly := false, keptOut := 0 } }).showBacklog)

end Sys2Proof.Machine
end

