-- ==== Sys2Proof/Machine/ResetOps.lean ====
section
/-! DEFINITION. Resets: cold, warm and block reset, and what each keeps (R12, R29 to R32, R480, R488, R498, R506). -/

namespace Sys2Proof.Machine

open Reg

/-! ### Registers -/

/-- What an unlisted fuse word reads as. -/
def fuseDefault : Nat → Word := fun _ => 0

/-- The registers that a warm reset of the offsets `at_` leaves: fields of the kinds cold and image stand, others take
their reset values (R12, R29, R30, R199). PAGE_LOCK follows `lock`, and a page goes on showing whether its domain is
OPEN. -/
def State.resetRegs (s : State) (at_ : Nat → Bool) (lock : Bool) : State :=
  { s with regs := s.regs.mapEntries resetWord fun off w =>
    if !at_ off then w
    else if off % 4096 = 0x28 && !lock && !(fieldsAt off).isEmpty && decide (off < 0x1000000) then w
    else keepFields (fieldsAt off) (fun f => decide (f.kind ≠ .warm)) (resetWord off) w }

/-- The registers whose reset values are fuses take them: all of a register at cold reset, its warm fields at another
(R12). -/
def State.loadFuses (s : State) (at_ : Nat → Bool) (cold : Bool) : State :=
  (s.each s.fuse fun s e =>
    if !at_ e.1 then s
    else if cold then s.setWord e.1 e.2
    else s.setWord e.1 (keepFields (fieldsAt e.1) (fun f => decide (f.kind ≠ .warm)) e.2 (s.word e.1))).showFuses

/-! ### What ends with a reset -/

/-- A flash operation is abandoned: what a program or an erase was working on is undefined (R32, R488). -/
def State.dropFlash (s : State) : State :=
  match s.cfg.flash with
  | none => s
  | some f =>
    let s := { s with cfg := { s.cfg with flash := none } }
    if f.op = 0 then s else s.flashSpoil f.addr f.len

/-- A transport's window, and storing it; TWP_STAT shows its status (R515, R521). -/
def State.win (s : State) (t : Transport) : Window :=
  match t with
  | .smbus => s.twp.smb
  | .spi => s.twp.spi
def State.setWin (s : State) (t : Transport) (w : Window) : State :=
  match t with
  | .smbus => ({ s with twp := { s.twp with smb := w } }).put TWP_STAT.smb_status w.status
  | .spi => ({ s with twp := { s.twp with spi := w } }).put TWP_STAT.spi_status w.status

/-- An access of a transport's window ends with a status (R521): a write that is not OK is counted, and an answer other
than OK is an alert source (R525). The data that a read without an OK status leaves is a free value. -/
def State.endAccess (s : State) (t : Transport) (status : Nat) (data : Word) : State :=
  let w := s.win t
  let isWrite := match w.pending with
    | some (.write _ _) => true
    | some (.read _) => false
    | none => false
  let got := s.fresh 32
  let open_ := got.1
  let s := got.2
  let s := s.setWin t { w with pending := none, status := status,
                               data := if isWrite then w.data else if status = 0 then data else open_ }
  let s := s.when (isWrite && status ≠ 0) fun s => s.count TWP_WIN_ERR.v
  s.when (status ≠ 0) fun s => s.alert 6

/-- Every pending window access ends NOT_POWERED; the window addresses are kept (R519, R524). -/
def State.endWindows (s : State) : State :=
  let s := s.each [Transport.smbus, .spi] fun s t =>
    let s := s.when (s.win t).pending.isSome fun s => s.endAccess t 8 0
    let s := s.each (s.win t).later fun s a => (s.setWin t { s.win t with pending := some a }).endAccess t 8 0
    s.setWin t { s.win t with later := [] }
  { s with twp := { s.twp with order := [] } }

/-- The highest shifts that the ageing summaries in the flash give (R506): of the valid summary of this device with the
highest sequence. -/
def State.seedAge (s : State) : AgeState :=
  let base := s.get AGE_SUM_BASE.v * 4096
  let good (p : Nat) : Bool :=
    let a := base + 4096 * p
    decide (s.flashNum a 4 = 0x5A414745) && decide (s.flashNum (a + 8) 8 = s.getWide (DEV_SERIAL.off 0) 2)
      && decide (s.flashNum (a + 0xFFC) 4 = crc32 (s.flashBytes a 0xFFC))
  let pages := (List.range (s.get AGE_SUM_PAGES.v)).filter good
  let seq (p : Nat) : Nat := s.flashNum (base + 4096 * p + 4) 4
  match pages.foldl (fun (b : Option Nat) p => match b with
    | none => some p
    | some q => if seq q < seq p then some p else some q) none with
  | none => {}
  | some p =>
    let a := base + 4096 * p
    let top := signed 16 (s.flashNum (a + 0x14) 2)
    { seed := some top, most := some top, seq := seq p, page := (p + 1) % s.get AGE_SUM_PAGES.v,
      hours := s.flashNum (a + 0x10) 4
      highs := (List.range 512).foldl (fun m i =>
        m.set (fun _ => none) i (some (signed 16 (s.flashNum (a + 0x400 + 2 * i) 2)))) [] }

/-! ### Warm reset -/

/-- Every domain that is not OPEN opens (R498). -/
def State.openDomains (s : State) : State :=
  s.each allDoms fun s d =>
    if s.domOpen d then s
    else
      let s := (s.setDom d 0).raise pagePWR 2 INFO 0x1103 d 0
      if 0x010 ≤ d && d < 0x100 then
        { s with pwr := { s.pwr with openAt := s.pwr.openAt.set (fun _ => none) (d - 0x010) (some s.now) } }
      else s

/-- The fault log after a warm reset: the ring and the backlog stand, and the area is scanned where log_en is set (R32,
R480). -/
def State.rescan (s : State) : State :=
  let s := ({ s with flt := { s.flt with flushing := 0 } }).put FLT_STAT.flushing 0
  s.when (s.is FLT_CTRL.log_en) fun s => s.put FLT_STAT.state 1

/-- A warm reset (R12, R29, R30, R32, R189, R498): everything outside the always-on domain is at its reset state, the
retained fields apart. -/
def State.warmReset (s : State) : State :=
  let wasFenced := s.fenced
  let s := s.dropFlash.openDomains.endWindows
  let s := (s.resetRegs (fun _ => true) true).loadFuses (fun _ => true) false
  let sticky (_ : Nat) (f : PciFn) : PciFn := { pmeEn := f.pmeEn, pmeStatus := f.pmeStatus }
  let s := { s with
    th := {}, fabric := {}, mem := {}, slices := [], planes := [], cfg := {}, stalls := [], scrub := {}, noc := {}
    dmcs := [], mpes := [], dram := [], se := {}, ts := {}, cc := {}, xcv := {}
    pci := { fns := s.pci.fns.mapEntries pciFnDefault sticky }
    pair := { driven := s.pair.driven }
    clk := { s.clk with tracks := [] }
    age := s.seedAge }
  let s := s.when wasFenced fun s => s.put PAIR_STAT.role 0
  (s.rescan).showMarks

/-! ### Cold reset and loss of power -/

/-- A cold reset (R12, R29): only the fuses, the flash, what the pins show and the waiting commands stand. -/
def State.coldReset (s : State) : State :=
  let t : State := { fuses := s.fuses, fuse := s.fuse, flash := s.flash, now := s.now, freeCount := s.freeCount,
                     answer := s.answer, pins := s.pins, pending := s.pending }
  let t := t.loadFuses (fun _ => true) true
  { t with age := t.seedAge }

/-- What a loss of power does to the flash (R488): an interrupted program or erase leaves its pages undefined, be it a
command's, a flush's or the erase ahead of the log. -/
def State.flashLoss (s : State) : State :=
  let s := s.dropFlash
  if s.get FLT_STAT.state ≠ 2 then s else
  let s := s.when (decide (s.flt.flushing ≠ 0) && s.flt.cur.isSome) fun s =>
    s.flashSpoil (s.logAddr s.logCur + 32 + 32 * s.flt.slot) (32 * min (s.flt.flushing + 1) (127 - s.flt.slot))
  match s.pageDue with
  | some p => s.flashSpoil (s.logAddr p) 4096
  | none => s

/-! ### Block reset -/

/-- The pages of a block instance (R559). -/
def blockPages : ResetBlock → List Nat
  | .scb => [pageSCB]
  | .th => [pageTH0, pageTH1, pageTH2, pageTH3, pageTH4, pageTH5]
  | .dmc n => [pageDMC n]
  | .mpe n => [pageMPE n]
  | .se => [pageSE0, pageSE1]
  | .xcv q => [pageXCV q]
  | .pair => [pagePAIR]

/-- The page whose CTRL.blk_reset resets the instance. -/
def blockPage (b : ResetBlock) : Nat := ((blockPages b).head?).getD 0

/-- The ports of a block instance (R31, R283). -/
def blockPorts : ResetBlock → List Nat
  | .scb => [portId 1 0 1]
  | .th => [portId 9 0 0]
  | .dmc n => [dmcPort n]
  | .mpe n => [dmcPort n]
  | .se => [portId 7 0 0, portId 8 0 0]
  | .xcv q => [portId q 5 3]
  | .pair => [portId 10 0 0]

/-- Whether an offset belongs to the instance: its pages, the sequencer tables of the Timing Hub, the context table of the
stream engine. -/
def inBlock (b : ResetBlock) (off : Nat) : Bool :=
  (blockPages b).contains (pageBase off)
    || (match b with
      | .th => decide (0x1400000 ≤ off) && decide (off < 0x1440000)
      | .se => decide (0x1000000 ≤ off) && decide (off < 0x1400000)
      | .scb => false
      | .dmc _ => false
      | .mpe _ => false
      | .xcv _ => false
      | .pair => false)

/-- A write of CTRL (R31, R556): blk_reset starts a block reset, which closes the instance's ports; it is ignored while
one is under way. -/
def State.writeCtrl (s : State) (b : ResetBlock) (v : Word) : State :=
  let pg := blockPage b
  if !bit v 31 || s.is (STATUS.in_reset pg) then s else
  let s := s.put (STATUS.in_reset pg) 1
  s.each (blockPorts b) fun s p => s.closePort false p

/-- What a block holds beyond its registers at its reset state (R29). -/
def State.blockState (s : State) (b : ResetBlock) : State :=
  match b with
  | .scb => if s.is CFG_STATUS.done then s.startScrub else s.stopScrub
  | .th => ({ s with th := {} }.cancelTimedSwaps).showMarks
  | .dmc n => s.dmcReset n
  | .mpe n => s.mpeReset n
  | .se => { s with se := {} }
  | .xcv q => s.quadReset q
  | .pair => { s with pair := { driven := s.pair.driven } }

/-- A block reset takes effect (R29, R31): the instance's registers and state are set, its PAGE_LOCK and retained fields
stand, and its ports return to OPEN. -/
def State.applyBlock (s : State) (b : ResetBlock) : State :=
  let shown := (blockPages b).map fun pg => (pg, s.get (STATUS.dom_open pg))
  let s := (s.resetRegs (inBlock b) false).loadFuses (inBlock b) false
  let s := (s.each shown fun s e => s.put (STATUS.dom_open e.1) e.2).blockState b
  s.each (blockPorts b) fun s p => s.openPort p

end Sys2Proof.Machine
end

