-- ==== Sys2Proof/Machine/TwpOps.lean ====
section
/-! DEFINITION. The requests of the Towpath, as a transport or its window writes them (R523 to R526, R530, R531). -/

namespace Sys2Proof.Machine

open Reg

/-- The answer to a request word; a refusal is an alert source (R524, R525). -/
def State.twpAnswer (s : State) (ok : Bool) : State :=
  (s.put TWP_STAT.req_result (if ok then 1 else 3)).when (!ok) fun s => s.alert 6

/-- Whether every sensor reads below 115 °C (R503). -/
def State.allCool (s : State) : Bool := (List.range 24).all fun n => decide (s.getS (THM_SENS.temp n) < 920)

/-- RESET (R12, R32, R188, R503, R524): a warm reset, ignored while a reset pin is asserted. It ends the window accesses
and releases the hold after the third loss of the root's lock, and a trip while every sensor is cool. -/
def State.twpReset (s : State) (v : Word) : State :=
  let s := (s.raise pageTWP 0 INFO 0x1201 v.toNat 0).twpAnswer true
  if s.pins.perst || s.pins.por then s else
  let s := s.endWindows
  let s := if s.pwr.trip && s.allCool then { s with pwr := { s.pwr with trip := false, tripHeld := false } } else s
  { s with clk := { s.clk with coreHeld := false } }.warmReset

/-- RECONFIGURE (R204, R524): a write of CFG_CTRL.prog while the system core is out of reset. -/
def State.twpReconfigure (s : State) (v : Word) : State :=
  if s.held then s.twpAnswer false
  else
    let s := (s.raise pageTWP 1 INFO 0x1202 v.toNat 0).twpAnswer true
    s.writeCfgCtrl (s.word CFG_CTRL.off ||| 0x80000000)

/-- WAKE (R524): PCIE_WAKE_N goes low while PCIE_PERST_N is asserted and PME_En of a physical function is 1. -/
def State.twpWake (s : State) (v : Word) : State :=
  if s.pins.perst && ((s.fn 0).pmeEn || (s.fn 65).pmeEn) then
    ((s.raise pageTWP 2 INFO 0x1203 v.toNat 0).twpAnswer true).put TWP_STAT.wake 1
  else s.twpAnswer false

/-- A request word (R523, R524): one bit names the request; a word of several bits, or of none that R524 names, is
REFUSED. -/
def State.twpRequest (s : State) (v : Word) : State :=
  if v = 0x80000000 then s.twpReset v
  else if v = 0x40000000 then s.twpReconfigure v
  else if v = 0x20000000 then s.twpWake v
  else if v = 0x10000000 then (s.twpAnswer true).setWord TWP_ALERT_SRC.off 0
  else s.twpAnswer false

end Sys2Proof.Machine
end

