-- ==== Sys2Proof/Machine/RegWrite.lean ====
section
/-! DEFINITION. A 32-bit write of any register, whoever sends it: the header, the fields that act, and the conditions that
the owning chapters put on a write (R9 to R11, R555 to R561). -/

namespace Sys2Proof.Machine

open Reg

/-! ### The header of a page (R556) -/

/-- The event bits of an initiator block's host page (R312) and of a system SRAM's page (R100). -/
def hostBits (p : PageSpec) : Nat :=
  (if p.ini = 0 then 0 else 0x0E000000) + (if p.ini = 2 then 0x01C00000 else 0) + (if p.sram then 0xE0000000 else 0)

/-- The event bits that the chapters assign in page `i` of a block type (R100, R172, R201, R238, R280, R312, R340, R365,
R398, R428, R454, R471, R492, R513, R530). -/
def chapterBits (p : PageSpec) (i : Nat) : Nat :=
  match p.code with
  | 0x0002 => 0x1FF
  | 0x0003 => 0x7F
  | 0x0010 => 0x3F
  | 0x0011 => 0xFF
  | 0x0012 => 0xFFFFFFFF
  | 0x0020 => (match p.inst0 with
    | 0 => 0x1F
    | 1 => 0xFFFF
    | 2 => 0x3FFFFFF
    | 3 => 0xFFFFFFFF
    | 4 => 3
    | _ => 1)
  | 0x0030 => 0x3FF
  | 0x0040 => 0x7FF
  | 0x0041 => 0x1FF
  | 0x0050 => if p.inst0 = 0 then 0x1FF else 0
  | 0x0051 => if p.inst0 = 0 then 0xF else 0
  | 0x0060 => if p.inst0 = 1 then 1 else 0
  | 0x0061 => if p.inst0 = 3 then 1 else 0
  | 0x0062 => if p.inst0 = 0 then 0x1F else 0
  | 0x0070 => 0x7FFFFFFF
  | 0x0080 => 0x7F
  | 0x0081 => 0xFF
  | 0x0082 => 0x3F
  | 0x0083 => 0x3F
  | 0x0090 => 0x1F
  | 0x00A0 => 0x1F00 + (if i % 12 = 0 || i % 12 = 11 then 0xF0000 else 0)
  | _ => 0

/-- The event bits that a page has. -/
def evtMask (p : PageSpec) (i : Nat) : Nat := hostBits p ||| chapterBits p i

/-- A write of EVT_FORCE sets the bits written as 1 that have an event (R556). -/
def State.forceEvents (s : State) (pg : Nat) (mask : Nat) (v : Word) : State :=
  s.setWord (EVT.off pg) (s.word (EVT.off pg) ||| (v &&& BitVec.ofNat 32 mask))

/-- A write of PAGE_LOCK: a 1 locks, a 0 is ignored (R556). -/
def State.lockPage (s : State) (pg : Nat) (v : Word) : State := s.when (bit v 0) fun s => s.put (PAGE_LOCK.lock pg) 1

/-- A write of EVT: the bits written as 1 clear, but those that hardware sets in the same cycle (R11). -/
def State.clearEvents (s : State) (pg : Nat) (v hwSet : Word) : State :=
  s.setWord (EVT.off pg) ((s.word (EVT.off pg) &&& ~~~v) ||| hwSet)

/-- The block instance whose CTRL lies in page `i` of a page type (R559). -/
def resetBlockOf (p : PageSpec) (i : Nat) : Option ResetBlock :=
  if !p.blk then none else
  match p.code with
  | 0x0011 => some .scb
  | 0x0020 => some .th
  | 0x0040 => some (.dmc (Fin.ofNat 8 i))
  | 0x0041 => some (.mpe (Fin.ofNat 8 i))
  | 0x0051 => some .se
  | 0x0070 => some (.xcv (Fin.ofNat 12 i))
  | 0x0080 => some .pair
  | _ => none

/-! ### The pages -/

/-- A fact of the outside that a plain write does not carry, as a free value. -/
def State.openFact (s : State) (f : Bool → State → State) : State :=
  let got := s.fresh 1
  let b := got.1
  let s := got.2
  f (decide (b ≠ 0)) s

/-- A write in an STL page (R279): the rectangles and the swap clock stand outside UNDEFINED. -/
def State.writeStl (s : State) (i o off : Nat) (v : Word) : State :=
  let n := 16 * i + (o - 0x100) / 0x80
  let undefined := decide (s.get (STL_STAT.state n) = 0)
  if off = STL_CMD.off n then s.openFact fun clk s => s.writeStlCmd n v clk
  else if off = STL_CFG.off n then s.writeWhere off (fun f => f.lo ≠ 27 || undefined) v
  else if STL_RECT.off n 0 ≤ off && off ≤ STL_RECT.off n 3 then (if undefined then s.write off v else s)
  else s.write off v

/-- A write in a Timing Hub page (R134 to R171). -/
def State.writeTh (s : State) (page o off : Nat) (v : Word) : State :=
  let k := (o - 0x40) / 0x20
  match page with
  | 0 => if off = TH_CTRL.off then s.writeThCtrl v else s.write off v
  | 1 =>
    if off = TH_XTL_SEND1.off then s.openFact fun clk s => s.writeXtlSend v clk
    else if 0x200 ≤ o && o < 0x2A0 then s.writeLayout ((o - 0x200) / 4) v
    else if k < 4 && off = TH_TL_CFG.off k then s.writeRole k v
    else s.write off v
  | 2 => if k < 24 && off = TH_IN_CFG.off k then s.writeInCfg k v else s.write off v
  | 3 =>
    if k < 16 && off = TH_SEQ_CTRL.off k then s.openFact fun clk s => s.writeSeqCtrl k v clk else s.write off v
  | 4 =>
    let out := (o - 0x40) / 0x10
    let sr := (o - 0x400) / 0x20
    if off = TH_OUT_REQ3.off then s.writeOutReq v
    else if 0x400 ≤ o && sr < 4 && off = TH_SR_CTRL.off sr then s.writeSysref (Fin.ofNat 4 sr) v
    else if out < 28 && off = TH_OUT_CFG.off out then
      let was := s.is (TH_OUT_CFG.enable out)
      let s := s.write off v
      s.when (!was && s.is (TH_OUT_CFG.enable out)) fun s => s.releaseOut out
    else s.write off v
  | _ => s.write off v

/-- A write in a router page (R301, R307): the staging registers stand in HOLD. -/
def State.writeNoc (s : State) (i o off : Nat) (v : Word) : State :=
  let p := (o - 0x100) / 0x10
  if off = NOC_RTR_CTRL.off i then s.writeRtr i v
  else if 0x60 ≤ o && o < 0x70 && s.is (NOC_RTR_STAT.hold i) then s
  else if 0x100 ≤ o && p < 8 && off = NOC_FI_CTRL.off i p then s.writeFi i p v
  else s.write off v

/-- A write in a DMC page (R314, R317, R338, R339). -/
def State.writeDmc (s : State) (n off : Nat) (v : Word) : State :=
  let off_ (m : Nat) : Bool := decide (s.get (DMC_STAT.state m) = 0)
  if off = DMC_CTRL.off n then s.writeDmcCtrl n v
  else if off = DMC_MAINT.off n then s.writeMaint n v
  else if off = DMC_CE_RATE.off n then (s.write off v).newWindow n
  else if off = DMC_GEOM.off n then (if off_ n then s.write off v else s)
  else if off = DMC_MAP.off n then (if n = 0 && (List.range 8).all off_ then s.write off v else s)
  else s.write off v

/-- A write in an MPE page (R343, R344, R346, R364): the sizes and places stand while the controller, or the region, is not
OFF. -/
def State.writeMpe (s : State) (sender : Sender) (n o off : Nat) (v : Word) : State :=
  let r := (o - 0x100) / 0x40
  if off = MPE_KEY_CMD.off n then s.writeKeyCmd n sender v
  else if 0x50 ≤ o && o < 0x60 then s.writeKeyMode n ((o - 0x50) / 4) sender v
  else if 0x70 ≤ o && o < 0x90 then (if s.keyBlocked n sender then s else s.write off v)
  else if off = MPE_CARVE.off n then (if s.get (DMC_STAT.state n) = 0 then s.write off v else s)
  else if 0x100 ≤ o && r < 8 then
    if off = MPE_RGN_CFG.off n r then s.writeRgnCfg n r v
    else if off = MPE_RGN_BASE.off n r || off = MPE_RGN_SIZE.off n r || off = MPE_RGN_META.off n r then
      (if s.get (MPE_RGN_STAT.state n r) = 0 then s.write off v else s)
    else s.write off v
  else s.write off v

/-- A write in a control complex page (R403 to R406). -/
def State.writeCc (s : State) (core : Option Nat) (off : Nat) (v : Word) : State :=
  match core with
  | none =>
    if off = CC_L2_PART.off then s.writeL2Part v
    else if off = CC_L2_MAINT2.off then s.writeL2Maint v
    else s.write off v
  | some c => if off = CC_CORE_CTRL.off c then s.coreCtrlWrite c v else s.write off v

/-- A write in an interrupt controller page (R407 to R412): a level source that a mode change finds asserted pends. -/
def State.writeIc (s : State) (page i o off : Nat) (v : Word) : State :=
  match page with
  | 0 =>
    if off = IC_SWI.off then s.writeSwi v
    else if 0x100 ≤ o && o < 0x180 then s.writePend (Fin.ofNat 32 ((o - 0x100) / 4)) v 0
    else s.write off v
  | 1 =>
    let n := 512 * i + (o - 0x40) / 4
    let s := s.write off v
    s.when (0x40 ≤ o && s.sourceLevel n) fun s => s.sourceHigh n
  | _ => if off = IC_COMPLETE.off i then s.writeComplete (Fin.ofNat 8 i) v else s.write off v

/-- A write in a task scheduler page (R418, R425). -/
def State.writeTs (s : State) (off : Nat) (v : Word) : State :=
  if off = TS_CTRL.off then s.writeTsCtrl v
  else if off = TS_CMD.off then s.tsCmd v
  else if off = TS_DONE.off then s.tsDone v
  else s.write off v

/-- A write in a quad's page (R431, R441, R445, R446, R448, R450, R451). -/
def State.writeXcv (s : State) (q o off : Nat) (v : Word) : State :=
  let l := 4 * q + (o - 0x100) / 0x40
  let pll (b : Nat) : State :=
    let got := s.fresh 20
    let khz := got.1
    let s := got.2
    s.writeQpll q b khz.toNat v
  if off = XCV_QP_CFG.off q 0 then pll 0
  else if off = XCV_QP_CFG.off q 1 then pll 1
  else if o < 0x100 || 0x200 ≤ o then s.write off v
  else if off = XCV_LN_CFG.off l then s.writeLaneCfg l v
  else if off = XCV_LN_GRP.off l then s.writeGroup l v
  else if off = XCV_LN_MAINT.off l then s.writeLaneMaint l v
  else if off = XCV_LN_ES_CFG.off l then s.writeEyeScan l v
  else if off = XCV_LN_FI.off l then s.writeLaneFi l v
  else if off = XCV_LN_FAULT.off l then s.writeLaneFault l v
  else s.write off v

/-- A write in the AGE page (R505, R507): a sweep request is accepted; a point of the curve is not lowered below its fused
value. -/
def State.writeAge (s : State) (o off : Nat) (v : Word) : State :=
  if off = AGE_MAINT.off then
    s.when (bit v 31) fun s => { s.put AGE_MAINT.answer 1 with age := { s.age with asked := true } }
  else if 0x100 ≤ o && o < 0x180 then
    let least := bitsOf (s.fuse.get fuseDefault off) 15 0
    s.write off (setBits v 15 0 (max least (bitsOf v 15 0)))
  else s.write off v

/-- A write in the TWP page (R523, R525, R526): TWP_REQ takes words from a transport only. -/
def State.writeTwp (s : State) (sender : Sender) (off : Nat) (v : Word) : State :=
  if off = TWP_REQ.off then
    (match sender with
    | .towpath => s.twpRequest v
    | .host => s
    | .firmware _ => s
    | .quay _ => s
    | .image => s)
  else if off = TWP_FW_ALERT.off then s.when (bit v 0) fun s => s.alert 7
  else if off = TWP_ALERT_EN.off then
    let was := s.get TWP_ALERT_SRC.v &&& s.get TWP_ALERT_EN.v
    let s := s.write off v
    let now := s.get TWP_ALERT_SRC.v &&& s.get TWP_ALERT_EN.v
    if was ||| now ≠ was then { s with twp := { s.twp with answered := false } } else s
  else s.write off v

/-- A write in a region page (R89 to R93, R97, R100, R190). -/
def State.writeRegion (s : State) (i o off : Nat) (v : Word) : State :=
  let r : Fin 240 := Fin.ofNat 240 i
  let rol : State := if bit v 31 then s.setWord off 0 else s
  let tile := 2 * (i / 12) + (if i % 12 = 0 then 0 else 1)
  let cmt (f : Nat) : State :=
    let got := s.fresh 20
    let khz := got.1
    let s := got.2
    let got := s.fresh 2
    let g := got.1
    let s := got.2
    s.writeCmtCtrl tile f khz.toNat (g.toNat % 3) v
  if (0x110 ≤ o && o < 0x130) || (0x150 ≤ o && o < 0x170) then rol
  else if 0x200 ≤ o && o < 0x260 then s.remapWrite (.bm r (Fin.ofNat 24 ((o - 0x200) / 4))) v
  else if 0x260 ≤ o && o < 0x2C0 then s.remapWrite (.dm r (Fin.ofNat 24 ((o - 0x260) / 4))) v
  else if off = RGN_MEM_ECC_INJ.off i then s.writeEccInj r v
  else if off = RGN_MEM_BIST.off i then s.bistWrite r v
  else if o = 0x300 && (i % 12 = 0 || i % 12 = 11) then cmt 0
  else if o = 0x340 && (i % 12 = 0 || i % 12 = 11) then cmt 1
  else s.write off v

/-- Which system SRAM lies in page `i` of a page type (R99). -/
def sramOf (p : PageSpec) (i : Nat) : Fin 10 :=
  if p.code = 0x0051 then 0 else if p.code = 0x0060 then 9 else Fin.ofNat 10 (i + 1)

/-- A write below the header of a page. -/
def State.writePage (s : State) (sender : Sender) (p : PageSpec) (i o off : Nat) (v : Word) : State :=
  if p.sram && 0xF10 ≤ o && o < 0xF30 then (if bit v 31 then s.setWord off 0 else s)
  else if p.sram && 0xF40 ≤ o && o < 0xF80 then s.remapWrite (.sram (sramOf p i) (Fin.ofNat 16 ((o - 0xF40) / 4))) v
  else match p.code with
  | 0x0002 =>
    if off = CLK_SEL.off then s.writeClkSel v else if off = CLK_TRIM_CFG.off then s.writeTrimCfg v else s.write off v
  | 0x0003 => if 0x400 ≤ o then s.writeDom ((o - 0x400) / 4) v else s.write off v
  | 0x0010 =>
    if off = CFG_CTRL.off then s.writeCfgCtrl v else if off = CFG_FLASH_CMD.off then s.writeFlashCmd v else s.write off v
  | 0x0012 => if 0x100 ≤ o && o < 0x900 then s.writeStl i o off v else s.write off v
  | 0x0020 => s.writeTh p.inst0 o off v
  | 0x0030 => s.writeNoc i o off v
  | 0x0040 => s.writeDmc i off v
  | 0x0041 => s.writeMpe sender i o off v
  | 0x0052 =>
    let j := 128 * i + (o - 0x800) / 16
    if o < 0x800 then s.write off v
    else if off = SLU_CFG.off j then s.writeSluCfg j v
    else if off = SLU_TGT.off j then s.writeSluTgt j v
    else s.write off v
  | 0x0060 => s.writeCc (if p.inst0 = 1 then some i else none) off v
  | 0x0061 => s.writeIc p.inst0 i o off v
  | 0x0062 => if p.inst0 = 0 then s.writeTs off v else s.write off v
  | 0x0070 => s.writeXcv i o off v
  | 0x0080 => if off = PAIR_CTRL.off then s.writePairCtrl v none else s.write off v
  | 0x0081 => if off = FLT_CTRL.off then s.writeFltCtrl v else s.write off v
  | 0x0082 => s.writeAge o off v
  | 0x0090 => s.writeTwp sender off v
  | 0x00A0 => s.writeRegion i o off v
  | _ => s.write off v

/-- A write in a table window (R159, R376, R384, R417, R561). -/
def State.writeWindow (s : State) (p : PageSpec) (i o off : Nat) (v : Word) : State :=
  if p.base = 0x1000000 then
    if o = 0 then s.writeScCtrl i v
    else if off = SE_SC_DB.off i then s.writeTail i v
    else if off = SE_SC_TOLL.off i then s.writeToll i v
    else s.writeCtxWord i off v
  else if p.base = 0x1400000 then s.writeSeqTable (Fin.ofNat 16 (i / 4096)) (Fin.ofNat 4096 i) v
  else if p.base = 0x1440000 then s.writeTask (Fin.ofNat 4096 i) (Fin.ofNat 8 (o / 4)) v
  else s.write off v

/-! ### Outside pages and tables -/

/-- A 32-bit write of the register space (R9, R10, R232, R419, R555 to R561). `off` is a multiple of 4. -/
def State.regWrite (s : State) (sender : Sender) (off : Nat) (v : Word) : State :=
  match locate off with
  | some (p, i, o) =>
    if !p.header then s.writeWindow p i o off v
    else if o = 0x08 then
      (match resetBlockOf p i with
      | some b => s.writeCtrl b v
      | none => s)
    else if o = 0x18 then s.forceEvents (pageBase off) (evtMask p i) v
    else if o = 0x28 then s.lockPage (pageBase off) v
    else if o < 0x40 then s.write off v
    else s.writePage sender p i o off v
  | none =>
    if 0x1460000 ≤ off && off < 0x1464000 then s.writePost (Fin.ofNat 4096 ((off - 0x1460000) / 4)) v
    else if 0x1800000 ≤ off && off < 0x1810000 then s.pushCfgData (toBytes v.toNat 4)
    else s

end Sys2Proof.Machine
end

