-- ==== Sys2Proof/Machine/Scrubber.lean ====
section
/-! DEFINITION. The scrubber, its repairs and the shadow refill (R270 to R277, R280). -/

namespace Sys2Proof.Machine

open Reg

/-- Whether a frame is dynamic: it stands in the list for the plane that is active (R252, R271). -/
def State.frameDynamic (s : State) (a : Nat) (stall : Option Nat) : Bool :=
  let pl := s.activePlane stall
  s.cfg.dynlist.any fun (e : Word × Option Nat × Bool) =>
    decide (e.1.toNat = a) && decide (e.2.1 = stall) && (stall.isNone || e.2.2 == pl)

/-- Whether the scrubber skips a frame (R271). Edge columns lie in no region. -/
def State.frameSkipped (s : State) (a : Nat) (stall : Option Nat) : Bool :=
  let closed := decide (faCol a ≤ 1163) && !s.domOpen (regionDom (faRegion a))
  let busy := match stall with
    | some n => [3, 4, 5, 7, 8].contains (s.stallState n)
    | none => false
  s.frameDynamic a stall || closed || busy

/-- Whether the shadow plane of a frame mirrors the active one (R248, R271). -/
def State.shadowMirrors (s : State) (stall : Option Nat) : Bool :=
  match stall with
  | some n => s.get (STL_STAT.shadow n) = 5
  | none => true

/-- The repair pointer of a frame's active plane: its source, and its address (R273, R279). -/
def State.repairPointer (s : State) (stall : Option Nat) : Nat × Nat :=
  match stall with
  | none => (s.get SCB_RPR_HI.src, s.get SCB_RPR_HI.addr_hi * 2 ^ 32 + s.get SCB_RPR_LO.v)
  | some n =>
    if s.is (STL_STAT.plane n) then
      (s.get (STL_RPR1_HI.src n), s.get (STL_RPR1_HI.addr_hi n) * 2 ^ 32 + s.get (STL_RPR1_LO.v n))
    else (s.get (STL_RPR0_HI.src n), s.get (STL_RPR0_HI.addr_hi n) * 2 ^ 32 + s.get (STL_RPR0_LO.v n))

/-- Whether a load or a flash command holds the flash (R276). -/
def State.flashHeld (s : State) : Bool :=
  s.cfg.flash.isSome || (match s.cfg.load with
    | some l => match l.source with
      | .slot _ | .golden | .flash => true
      | .host | .dram | .jtag => false
    | none => false)

/-- The queue of repairs that wait for the flash, and its depth in SCB_STAT. -/
def State.setWaiting (s : State) (l : List Repair) : State :=
  ({ s with scrub := { s.scrub with waiting := l } }).put SCB_STAT.queue l.length

/-- The repair under way. -/
def State.setRepair (s : State) (r : Option Repair) : State := { s with scrub := { s.scrub with repair := r } }

/-- The oldest waiting repair starts once the flash is free. -/
def State.startWaiting (s : State) : State :=
  match s.scrub.repair, s.scrub.waiting with
  | none, r :: rest => if s.flashHeld then s else (s.setWaiting rest).setRepair (some r)
  | _, _ => s

/-- A frame that no source repairs (R275): a refill is abandoned by it (R277). -/
def State.unrepaired (s : State) (r : Repair) : State :=
  let a := r.addr.toNat
  if r.refill then
    let s := match r.stall with
      | some n => s.setShadow n 0
      | none => s
    s.raise pageSCB 7 CONTAINED 0x0819 a 0
  else
    let s := s.count SCB_UNREP.v
    match r.stall with
    | none => s.raise pageSCB 4 FATAL 0x0816 a 0
    | some n =>
      let s := (s.count (STL_UE.v n)).raise pageSCB 3 CONTAINED 0x0815 a n
      s.when (s.is (STL_CFG.ue_reset n) && s.stallState n = 1) fun s => (s.holdStall n).put (STL_STAT.ue_held n) 1

/-- The repair copies, from source 2 on (R273): the copy is asked for, waits for the flash, or there is none. -/
def State.tryCopies (s : State) (r : Repair) : State :=
  let p := s.repairPointer r.stall
  let dram := decide (r.source ≤ 2) && s.is SCB_CFG.src_dram && decide (p.1 = 1) && decide (p.2 / 2 ^ 52 = 0)
  let flash := s.is SCB_CFG.src_flash && decide (p.1 = 2) && !s.fuses.reqEnc && decide (r.source ≤ 3)
  if dram then s.setRepair (some { r with source := 2 })
  else if flash then
    if s.flashHeld then s.setWaiting (s.scrub.waiting ++ [{ r with source := 3 }]) else s.setRepair (some { r with source := 3 })
  else s.unrepaired r

/-- The latest uncorrectable frame in the information registers (R278). -/
def State.noteBadFrame (s : State) (a mask : Nat) (stall : Option Nat) : State :=
  let s := s.count SCB_UE.v
  let who := match stall with
    | some n => n
    | none => 0xFF
  let code := if stall.isSome then 0x0815 else 0x0816
  (s.put (ERR_INFO0.v pageSCB) a).put (ERR_INFO1.v pageSCB) (mask * 2 ^ 24 + who * 2 ^ 16 + code)

/-- Corrections in one plane: counted, and written back in CORRECT mode (R272). -/
def State.correctPlane (s : State) (plane : Bool) (a : Nat) (shadow : Bool) : State :=
  let f := s.frame plane a
  let c := fixCounts f
  let s := (s.add SCB_CE1.v c.1).add SCB_CE2.v c.2
  let s := s.when shadow fun s => s.add SCB_SH_CE.v (c.1 + c.2)
  let s := { s with scrub := { s.scrub with fixes := s.scrub.fixes + c.1 + c.2 } }
  s.when (s.get SCB_CFG.mode = 2 && decide (0 < c.1 + c.2)) fun s => s.setFrame plane a (fixFrame f)

/-- A frame with the bad segments of `f` taken from the shadow `g`, where each of them decodes there (R273). -/
def fromShadow (f g : Frame) : Option Frame :=
  let bad := (List.range 8).filter fun k => decodeSeg f k = .bad
  if bad.all fun k => decodeSeg g k ≠ .bad then some (bad.foldl (fun h k => copySeg h (fixFrame g) k) f) else none

/-- One frame in its slot (R271 to R275). -/
def State.scrubFrame (s : State) (a : Nat) : State :=
  let stall := s.frameStall a
  if s.frameSkipped a stall then s.count SCB_SKIP.v else
  let pl := s.activePlane stall
  let mirror := s.shadowMirrors stall
  let s := s.correctPlane pl a false
  let s := s.when mirror fun s => s.correctPlane (!pl) a true
  let s := s.when (mirror && badMask (s.frame (!pl) a) ≠ 0) fun s => s.noteBadFrame a (badMask (s.frame (!pl) a)) stall
  let f := s.frame pl a
  let mask := badMask f
  if mask = 0 then s else
  let s := s.noteBadFrame a mask stall
  if s.get SCB_CFG.mode ≠ 2 then s else
  let src1 := if mirror && s.is SCB_CFG.src_shadow then fromShadow f (s.frame (!pl) a) else none
  match src1 with
  | some g =>
    let s := ((s.setFrame pl a g).count SCB_FIX_SH.v).raise pageSCB 2 CORRECTED 0x0812 a 0
    { s with scrub := { s.scrub with fixes := s.scrub.fixes + 1 } }
  | none => s.tryCopies { addr := BitVec.ofNat 32 a, plane := pl, stall := stall, source := 2 }

/-- A pass ends after its last slot, and the next begins (R270, R280). -/
def State.endPass (s : State) : State :=
  let fixes := s.scrub.fixes
  let s := (s.count SCB_PASSES.v).put SCB_PASS_T.v ((s.now - s.scrub.started) / 1600)
  let s := s.when (s.is SCB_CFG.pass_evt) fun s => s.raise pageSCB 0 INFO 0x0810 0 0
  let s := s.when (fixes ≠ 0) fun s => s.raise pageSCB 1 CORRECTED 0x0811 fixes 0
  ({ s with scrub := { s.scrub with addr := 0, fixes := 0, started := s.now } }).put SCB_STAT.ordinal 0

/-- SCRUB_SLOT (R270 to R277): nothing while the scrubber is stopped or OFF, while a refill goes before the pass, while a
repair copy is awaited, and while the queue for the flash is full. -/
def execScrubSlot (s : State) : Out :=
  let s := s.startWaiting
  if !s.is SCB_STAT.running || s.get SCB_CFG.mode = 0 || s.refilling || s.scrub.repair.isSome
    || 16 ≤ s.scrub.waiting.length then .next s
  else
    let n := s.get SCB_STAT.ordinal
    let s := s.elapse (s.scrub.started + (n + 1) * s.get SCB_CFG.period * 4 - s.now)
    let a := s.scrub.addr.toNat
    let s := s.scrubFrame a
    match nextFrame a with
    | some b => .next (({ s with scrub := { s.scrub with addr := BitVec.ofNat 32 b } }).put SCB_STAT.ordinal (n + 1))
    | none => .next s.endPass

/-- A refill goes on to the stall's next frame, or is complete (R277). -/
def State.refillNext (s : State) (n a : Nat) : State :=
  match (nextFrame a).bind fun b => s.stallFrameFrom n b with
  | some b => s.setStall n { s.stall n with refill := some b }
  | none =>
    let s := if s.is (STL_STAT.plane n) then
        (s.setWord (STL_RPR0_LO.off n) (s.word (STL_RPR1_LO.off n))).setWord (STL_RPR0_HI.off n) (s.word (STL_RPR1_HI.off n))
      else (s.setWord (STL_RPR1_LO.off n) (s.word (STL_RPR0_LO.off n))).setWord (STL_RPR1_HI.off n) (s.word (STL_RPR0_HI.off n))
    (s.setShadow n 5).raise pageSCB 6 INFO 0x0818 n 0

/-- REPAIR_READ_RESPONSE (R272, R273): a copy is used only if it is good, and only while the frame's plane is still the
active one and its stall RUNNING or RESET. -/
def execRepairReadResponse (ok : Bool) (frame : Frame) (s : State) : Out :=
  match s.scrub.repair with
  | none => .next s
  | some r =>
    let s := s.setRepair none
    let a := r.addr.toNat
    let stands := match r.stall with
      | some n => s.activePlane (some n) == r.plane && (s.stallState n = 1 || s.stallState n = 6)
      | none => (s.frameStall a).isNone
    let s :=
      if !ok then s.tryCopies { r with source := r.source + 1 }
      else if !frameGood frame then
        (s.raise pageSCB 5 INFO 0x0817 a 0).tryCopies { r with source := r.source + 1 }
      else if !stands then s.count SCB_SKIP.v
      else
        let s := s.setFrame r.plane a frame
        let s := if r.source = 2 then (s.count SCB_FIX_DR.v).raise pageSCB 2 CORRECTED 0x0813 a 0
          else (s.count SCB_FIX_FL.v).raise pageSCB 2 CORRECTED 0x0814 a 0
        let s := { s with scrub := { s.scrub with fixes := s.scrub.fixes + 1 } }
        match r.refill, r.stall with
        | true, some n => (s.setFrame (!r.plane) a frame).refillNext n a
        | _, _ => s
    .next s.startWaiting

/-- REFILL_FRAME (R277): the next frame, corrected or repaired before it is written to both planes. A dynamic frame is
copied as it is. -/
def execRefillFrame (n : Fin 64) (s : State) : Out :=
  let k := n.val
  match (s.stall k).refill with
  | none => .next s
  | some a =>
    let waits := s.scrub.repair.isSome || s.scrub.waiting.any fun r => r.refill && decide (r.stall = some k)
    if s.get (STL_STAT.shadow k) ≠ 4 || waits then .next s else
    let pl := s.activePlane (some k)
    let f := s.frame pl a
    if s.frameDynamic a (some k) then .next ((s.setFrame (!pl) a f).refillNext k a)
    else if badMask f ≠ 0 then
      .next ((s.noteBadFrame a (badMask f) (some k)).tryCopies
        { addr := BitVec.ofNat 32 a, plane := pl, stall := some k, source := 2, refill := true })
    else
      let c := fixCounts f
      let s := (s.add SCB_CE1.v c.1).add SCB_CE2.v c.2
      let g := fixFrame f
      .next (((s.setFrame pl a g).setFrame (!pl) a g).refillNext k a)

end Sys2Proof.Machine
end

