-- ==== Sys2Proof/Machine/ConfigEngine.lean ====
section
/-! DEFINITION. The configuration engine's commands: boot, loads from every source, the command stream, the trailer and the
start-up, the self-test and the flash commands (R202 to R238). -/

namespace Sys2Proof.Machine

open Reg

/-! ### Requests (R203, R204, R209, R233, R236) -/

/-- PROG_N_ASSERT (R204, R236): a full reconfiguration is requested and waits for the release. -/
def execProgNAssert (s : State) : Out := .next ({ s with pins := { s.pins with prog := true } }.reconfigure)

/-- PROG_N_RELEASE (R203, R204): BOOT_MODE is sampled, and a reconfiguration that waits begins. -/
def execProgNRelease (bootMode : BitVec 3) (s : State) : Out :=
  let s := ({ s with pins := { s.pins with prog := false } }).sampleMode bootMode.toNat
  .next (s.when (s.cfg.progWait && !s.cfg.testRuns) fun s =>
    ({ s with cfg := { s.cfg with progWait := false } }).startBoot)

/-- PROG (R204, R236): a write of CFG_CTRL. -/
def execProg (v : Word) (s : State) : Out := .next (s.writeCfgCtrl v)

/-- BOOT_START (R203, R209): the engine leaves reset. -/
def execBootStart (bootMode : BitVec 3) (s : State) : Out :=
  if !s.cfg.bootDue || s.held then .next s else
  let s := s.countBoot.sampleMode bootMode.toNat
  .next ({ s with cfg := { s.cfg with bootDue := false } }.startBoot)

/-- LOAD_GO (R202, R233, R236): a write of CFG_CTRL. -/
def execLoadGo (v : Word) (s : State) : Out := .next (s.writeCfgCtrl v)

/-- ABORT (R236): a write of CFG_CTRL. -/
def execAbort (v : Word) (s : State) : Out := .next (s.writeCfgCtrl v)

/-- SELFTEST (R236): a write of CFG_CTRL. -/
def execSelftest (v : Word) (s : State) : Out := .next (s.writeCfgCtrl v)

/-- SELFTEST_COMPLETE (R236, R238): the result stands in CFG_STATUS, and a reconfiguration or a load that waited begins. -/
def execSelftestComplete (pass : Bool) (s : State) : Out :=
  if !s.cfg.testRuns then .next s else
  let s := { s with cfg := { s.cfg with testRuns := false, testBad := !pass } }
  let s := ((s.put CFG_STATUS.selftest (if pass then 1 else 2)).put CFG_STATUS.state 0).raise pageCFG 3 INFO 0x0722 0 0
  let s := s.when (!pass) fun s => s.log pageCFG CONTAINED 0x0725 0 0
  if s.cfg.progWait && !s.pins.prog then
    .next ({ s with cfg := { s.cfg with progWait := false, next := none } }.startBoot)
  else match s.cfg.next with
    | some l =>
      let s := { s with cfg := { s.cfg with next := none } }
      .next (if pass || decide (l.source = .jtag) then s.beginLoad l else s)
    | none => .next s

/-! ### What the sources deliver (R232 to R234) -/

/-- CFG_DATA_WRITE (R232). -/
def execCfgDataWrite (bytes : List Byte) (s : State) : Out := .next (s.pushCfgData bytes)

/-- Whether a load has all its image bytes. -/
def CfgLoad.complete (l : CfgLoad) : Bool :=
  match l.header with
  | none => false
  | some h => decide (h.totalLen.toNat ≤ l.bytes.length)

/-- LOAD_DATA_TIMEOUT (R232): a host or JTAG load whose data has stopped ends early. -/
def execLoadDataTimeout (s : State) : Out :=
  match s.cfg.load with
  | none => .next s
  | some l =>
    match l.source with
    | .host => .next (if l.complete then s else s.failHere 0x070E)
    | .jtag => .next (if l.complete then s else s.failHere 0x070E)
    | _ => .next s

/-- The bytes of one response reach the load; a source that has ended before total_len ends the load (R234). -/
def State.feedSource (s : State) (l : CfgLoad) (bs : List Byte) : State :=
  let most := match l.limit with
    | some n => n - l.bytes.length
    | none => bs.length
  let s := s.feedLoad (bs.take most)
  match s.cfg.load, l.limit with
  | some l, some n => if n ≤ l.bytes.length && !l.complete then s.failHere 0x070E else s
  | _, _ => s

/-- SOURCE_READ_RESPONSE (R206, R233, R234): the answer to a read of the DRAM source, or the next bytes of the flash. -/
def execSourceReadResponse (status : BitVec 4) (bytes : List Byte) (s : State) : Out :=
  match s.cfg.load with
  | none => .next s
  | some l =>
    let flash : State :=
      let a := l.base + l.bytes.length
      if 2 ^ 32 < a + bytes.length then s.failHere 0x070E else s.feedSource l (s.flashBytes a bytes.length)
    match l.source with
    | .host => .next s
    | .jtag => .next s
    | .dram => .next (if status ≠ 0 then s.failHere 0x0712 else s.feedSource l bytes)
    | .slot _ => .next (if status ≠ 0 then s.failHere 0x0712 else flash)
    | .golden => .next (if status ≠ 0 then s.failHere 0x0712 else flash)
    | .flash => .next (if status ≠ 0 then s.failHere 0x0712 else flash)

/-! ### Plain bytes (R225) -/

/-- The AES key that a header names, its first byte the least significant of the fuse field. -/
def State.imageKey (s : State) (h : ImageHeader) : List Nat :=
  (toBytes (s.fuses.aesKey.toNat / 2 ^ (256 * h.aesSlot)) 32).map BitVec.toNat

/-- The IV of a segment (R225). -/
def ImageHeader.iv (h : ImageHeader) (i : Nat) : List Nat :=
  (toBytes h.nonce.toNat 8 ++ toBytes (h.nonce.toNat / 2 ^ 64 + i) 4).map BitVec.toNat

/-- The keystream byte at place `q` of a segment. -/
def State.cipherByte (s : State) (h : ImageHeader) (seg q : Nat) : Nat :=
  (aes256 (s.imageKey h) (h.iv seg ++ beBytes (2 + q / 16) 4)).getD (q % 16) 0

/-- A plain byte of the system section, and of the stream. -/
def State.sysByte (s : State) (l : CfgLoad) (h : ImageHeader) (p : Nat) : Byte :=
  let b := l.bytes.getD (4096 + p) 0
  if h.encrypted then b ^^^ BitVec.ofNat 8 (s.cipherByte h 0 p) else b
def State.streamByte (s : State) (l : CfgLoad) (h : ImageHeader) (p : Nat) : Byte :=
  let b := l.bytes.getD (h.streamAt p) 0
  if h.encrypted then b ^^^ BitVec.ofNat 8 (s.cipherByte h (1 + p / segLen) (p % segLen)) else b

/-- `n` stream bytes from `p` on as a number. -/
def State.streamNum (s : State) (l : CfgLoad) (h : ImageHeader) (p n : Nat) : Nat :=
  ofBytes ((List.range n).map fun i => s.streamByte l h (p + i))

/-- The plain length of the system section. -/
def ImageHeader.sysPlain (h : ImageHeader) : Nat := h.sysLen.toNat - (if h.encrypted then 16 else 0)

/-- Whether the stored system section passes sys_hash (R226). -/
def sysHashGood (l : CfgLoad) (h : ImageHeader) : Bool :=
  decide (BitVec.ofNat 384 (ofBytes (sha384 ((l.bytes.drop 4096).take h.sysLen.toNat))) = h.sysHash)

/-! ### The header (R213, R228, R231) -/

/-- The start of a partial load (R231, R250). -/
def State.startPartial (s : State) (l : CfgLoad) (n : Nat) : State :=
  let st := s.stallState n
  if st = 0 || st = 7 || st = 8 || (s.stall n).swap.isSome then s.failLoad 0x0716 0xC 0
  else
    let plane := !s.activePlane (some n)
    let s := ((s.setShadow n 1).put (if plane then STL_RPR1_HI.src n else STL_RPR0_HI.src n) 0).freeDynamic fun e =>
      decide (e.2.1 = some n) && (e.2.2 == plane)
    (s.setLoad { l with phase := .system }).put CFG_STATUS.state 3

/-- The start of a full load (R228, R229, R498): every CLOSED domain opens. -/
def State.startFull (s : State) (l : CfgLoad) : State :=
  let s := ((s.fullStart.put CFG_STATUS.state 2).putB CFG_STATUS.golden (decide (l.source = .golden))).setLoad
    { l with phase := .clearing }
  let s := s.each allDoms fun s d => s.when (s.get (PWR_DOM.state d) = 2) fun s => s.setDom d 3
  s.closeForLoad

/-- A header has passed every check. -/
def State.headerPassed (s : State) (l : CfgLoad) (h : ImageHeader) : State :=
  if h.partial_ then s.startPartial l h.stall.toNat else s.startFull l

/-- IMAGE_HEADER (R213): checks 1 to 7; the signature of a signed image is verified by a command of its own. -/
def execImageHeader (s : State) : Out :=
  match s.cfg.load with
  | none => .next s
  | some l =>
    if l.phase ≠ .header || l.bytes.length < 4096 then .next s else
    let h := readHeader (l.bytes.take 4096)
    let l := { l with header := some h }
    let s := s.setLoad l
    match s.headerError l.source h with
    | some (code, off, info1) => .next (s.failLoad code off info1)
    | none =>
      if h.signed then .next (s.setLoad { l with phase := .signature })
      else .next (s.headerPassed l h)

/-- BULK_CLEAR_COMPLETE (R228): once every domain is OPEN and every quay port CLOSED, frames may be written. -/
def execBulkClearComplete (s : State) : Out :=
  match s.cfg.load with
  | none => .next s
  | some l =>
    if l.phase ≠ .clearing || !s.allOpen || !((List.range 120).all fun q => decide (s.portState (quayPort q) = 2)) then
      .next s
    else .next (s.bulkClear.setLoad { l with phase := .system })

/-! ### The system section (R214, R226) -/

/-- Whether a record's offset fails the image (R214). -/
def sysAddrBad (off : Nat) : Bool :=
  let pg := pageBase off
  let o := off % 0x10000
  pg = pageCFG || pg = pageSCB || (decide (pageSTL 0 ≤ pg) && decide (pg < pageSTL 4)) || pg = pageFLT || pg = pageTWP
    || (decide (0x100000 ≤ off) && decide (off < 0x180000)
      && (decide (o / 4 = 0x1060 / 4) || (decide (0x1070 ≤ o) && decide (o < 0x1090))))
    || decide (0x1000000 ≤ off)

/-- A record is written as a 32-bit write (R9, R214). -/
def State.writeRecord (s : State) (off : Nat) (v : Word) : State :=
  let pci := off / 0x2000 = pagePCI0 / 0x2000
  if off % 4 ≠ 0 || (pci && s.cfg.endpoint && s.is PCI_CFG.enable) then s else s.regWrite .image off v

/-- The system section has been applied: the endpoint's settings stand from the first full load on (R214). -/
def State.systemDone (s : State) (l : CfgLoad) (h : ImageHeader) : State :=
  let s := if h.partial_ then s else { s with cfg := { s.cfg with endpoint := true } }
  s.setLoad { l with phase := .stream, segs := max 1 l.segs }

/-- SYSTEM_RECORD (R214, R226): the next record of the system section. -/
def execSystemRecord (s : State) : Out :=
  match s.cfg.load with
  | none => .next s
  | some l =>
    match l.header with
    | none => .next s
    | some h =>
      let n := h.sysPlain
      if l.phase ≠ .system || l.bytes.length < 4096 + h.sysLen.toNat then .next s
      else if h.sysLen = 0 then .next (s.systemDone l h)
      else if h.encrypted && l.segs = 0 then .next s
      else if l.sysPos = 0 && !sysHashGood l h then .next (s.failHere 0x0708)
      else if n < l.sysPos + 8 then .next (s.failHere 0x0703)
      else
        let num (p : Nat) : Nat := ofBytes ((List.range 4).map fun i => s.sysByte l h (p + i))
        let off := num l.sysPos
        if off = 0xFFFFFFFF then
          let rest := n - l.sysPos - 8
          if (List.range rest).all fun i => s.sysByte l h (l.sysPos + 8 + i) = 0 then .next (s.systemDone l h)
          else .next (s.failHere 0x0703)
        else if sysAddrBad off then .next (s.failLoad 0x0709 l.at_ off)
        else .next ((s.setLoad { l with sysPos := l.sysPos + 8 }).writeRecord off (BitVec.ofNat 32 (num (l.sysPos + 4))))

/-! ### Segments (R225, R226) -/

/-- Whether a stored segment's tag is right: its ciphertext from `a` on, `n` bytes, then the tag. -/
def State.segmentGood (s : State) (l : CfgLoad) (h : ImageHeader) (i a n : Nat) : Bool :=
  let bs := (l.bytes.drop a).map BitVec.toNat
  let aad := (l.bytes.take 0x100).map BitVec.toNat
  decide (gcmTagOf (s.imageKey h) (h.iv i) aad (bs.take n) = (bs.drop n).take 16)

/-- GCM_SEGMENT (R225, R226): the next segment's tag is checked; sys_hash comes before the tag of the system section. -/
def execGcmSegment (s : State) : Out :=
  match s.cfg.load with
  | none => .next s
  | some l =>
    match l.header with
    | none => .next s
    | some h =>
      let sys := h.sysLen.toNat
      let i := l.segs
      if !h.encrypted || !l.begun || h.segments < i then .next s
      else if i = 0 then
        if l.bytes.length < 4096 + sys then .next s
        else if sys = 0 then .next (s.setLoad { l with segs := 1 })
        else if sys < 16 || !sysHashGood l h || !s.segmentGood l h 0 4096 (sys - 16) then .next (s.failLoad 0x0708 4096 0)
        else .next (s.setLoad { l with segs := 1 })
      else
        let a := 4096 + sys + (i - 1) * (segLen + 16)
        let n := min segLen (h.trailerAt - a - 16)
        if l.bytes.length < a + n + 16 then .next s
        else if h.trailerAt < a + 16 || !s.segmentGood l h i a n then .next (s.failLoad 0x070D a 0)
        else .next (s.setLoad { l with segs := i + 1 })

/-! ### Frames (R216 to R222, R231) -/

/-- Why a frame address may not stand where it stands (R218, R220, R231). -/
def State.addrError (s : State) (l : CfgLoad) (h : ImageHeader) (a : Nat) : Option Nat :=
  let content := decide (faType a ≠ 0)
  if !frameExists a || 2 ^ 32 ≤ a then some 0x070B
  else if h.partial_ && content && (decide (l.source = .host) || decide (l.source = .jtag)) then some 0x0713
  else if !content && l.content.isSome then some 0x070A
  else if h.partial_ && !s.inStall h.stall.toNat a then some 0x0711
  else none

/-- The registers of a tile that its edge block's frames load (R218). -/
def State.loadTile (s : State) (a : Nat) : State :=
  let t := 2 * faRow a + (if faCol a = 1164 then 0 else 1)
  let base := a - a % 2 ^ 10
  let frames := (List.range 64).map fun m => s.frame false (base + 8 * m)
  s.each (List.range 20) fun s j =>
    let f := j / 10
    let w := Config.tileSetting frames j
    match j % 10 with
    | 0 => s.write (CMT_CTRL.off t f) w
    | 1 => s.write (CMT_DIV.off t f) w
    | 2 => s.write (CMT_FRAC.off t f) w
    | k => s.write (CMT_OUT.off t f (k - 3)) w

/-- A frame is written at an address, or counted and kept for the content phase (R216, R222, R231). -/
def State.placeFrame (s : State) (l : CfgLoad) (h : ImageHeader) (a : Nat) (f : Frame) : State :=
  if faType a ≠ 0 then
    let s := s.setLoad { l with contentN := l.contentN + 1 }
    if h.partial_ then s else (s.writeContent a f).count CFG_PROGRESS.v
  else if h.partial_ then
    ((s.setLoad l).setFrame (!s.activePlane (some h.stall.toNat)) a f).count CFG_PROGRESS.v
  else
    let s := (((s.setLoad l).setFrame false a f).setFrame true a f).count CFG_PROGRESS.v
    if 1164 ≤ faCol a && faBlock a = 1 then s.loadTile a else s

/-- A load notes where its content section begins: the command with the first content address (R220). -/
def CfgLoad.note (l : CfgLoad) (h : ImageHeader) (a : Nat) : CfgLoad :=
  if faType a ≠ 0 && l.content.isNone then { l with content := some (h.streamAt l.start) } else l

/-- The frame at an address fails its check (R88, R216). -/
def frameBad (a : Nat) (f : Frame) : Bool := !frameGood f || (decide (faType a ≠ 0) && !contentZeros a f)

/-! ### The command stream (R219) -/

/-- Whether the first `p` stream bytes have been delivered. -/
def CfgLoad.has (l : CfgLoad) (h : ImageHeader) (p : Nat) : Bool := p = 0 || decide (h.streamAt (p - 1) < l.bytes.length)

/-- Whether a command word is no command, or its count is out of range (R219). -/
def commandBad (l : CfgLoad) (h : ImageHeader) (o n : Nat) : Bool :=
  match o with
  | 1 => decide (n ≠ 0)
  | 2 => decide (n = 0) || l.far.isNone
  | 3 => false
  | 4 => h.partial_
  | 5 => false
  | 6 => decide (n ≠ 0)
  | 7 => decide (n ≠ 0)
  | 15 => decide (n ≠ 0)
  | _ => true

/-- The operands of a command in turn, `n` bytes each, as far as the source has delivered them: `one` does what one
operand asks for, and answers none where the image has failed. -/
def State.operands (s : State) (n : Nat) (one : State → CfgLoad → ImageHeader → Nat → State) : Nat → State
  | 0 => s
  | k + 1 =>
    match s.cfg.load with
    | none => s
    | some l =>
      match l.header with
      | none => s
      | some h =>
        if l.phase ≠ .stream || l.op.isNone then s
        else if l.left = 0 then s.setLoad { l with op := none, frame := none }
        else if h.plainLen < l.pos + n then s.failHere 0x070E
        else if !l.has h (l.pos + n) then s
        else
          let v := s.streamNum l h l.pos n
          State.operands (one s { l with pos := l.pos + n, left := l.left - 1 } h v) n one k

/-- A stream row: the command under way goes on, or the next command word begins one, where it has the row's opcode. A
word that is no command fails the image, whichever row meets it. -/
def State.streamRow (s : State) (opc : Nat) (run : State → CfgLoad → ImageHeader → State) : State :=
  match s.cfg.load with
  | none => s
  | some l =>
    match l.header with
    | none => s
    | some h =>
      if l.phase ≠ .stream then s else
      match l.op with
      | some o => if o = opc then run s l h else s
      | none =>
        if h.plainLen < l.pos + 4 then s.failHere 0x070E
        else if !l.has h (l.pos + 4) then s
        else
          let w := s.streamNum l h l.pos 4
          let o := w / 2 ^ 24
          let n := w % 2 ^ 24
          if commandBad l h o n then s.failHere 0x070A
          else if o ≠ opc then s
          else
            let l := { l with pos := l.pos + 4, start := l.pos, op := some o, left := if o = 1 then 1 else n }
            run (s.setLoad l) l h

/-- SETFAR (R219, R220). -/
def execSetfar (s : State) : Out :=
  .next (s.streamRow 1 fun s l _ => s.operands 4 (fun s l h a =>
    match s.addrError l h a with
    | some code => (s.setLoad l).failLoad code l.at_ a
    | none => s.setLoad { l.note h a with far := some a }) (l.left + 1))

/-- WRITE (R219, R220, R222). -/
def execWrite (s : State) : Out :=
  .next (s.streamRow 2 fun s l _ => s.operands 512 (fun s l h v =>
    match l.far with
    | none => (s.setLoad l).failHere 0x070A
    | some a =>
      let f : Frame := BitVec.ofNat 4096 v
      match s.addrError l h a with
      | some code => (s.setLoad l).failLoad code l.at_ a
      | none =>
        if frameBad a f then (s.setLoad l).failLoad 0x070C l.at_ a
        else s.placeFrame { l with far := some ((nextFrame a).getD (2 ^ 32)) } h a f) (l.left + 1))

/-- The frame of a REPEAT, once it has been delivered. -/
def State.repeatFrameOf (s : State) (l : CfgLoad) (h : ImageHeader) : State :=
  if l.frame.isSome then s
  else if h.plainLen < l.pos + 512 then s.failHere 0x070E
  else if !l.has h (l.pos + 512) then s
  else s.setLoad { l with pos := l.pos + 512, frame := some (BitVec.ofNat 4096 (s.streamNum l h l.pos 512)) }

/-- REPEAT (R219 to R222). -/
def execRepeatFrame (s : State) : Out :=
  .next (s.streamRow 3 fun s l h =>
    let s := s.repeatFrameOf l h
    match s.cfg.load with
    | none => s
    | some m =>
      match m.frame with
      | none => s
      | some f => s.operands 4 (fun s l h a =>
        match s.addrError l h a with
        | some code => (s.setLoad l).failLoad code l.at_ a
        | none =>
          if frameBad a f then (s.setLoad l).failLoad 0x070C l.at_ a
          else s.placeFrame (l.note h a) h a f) (l.left + 1))

/-- WREG (R214, R219). -/
def execWreg (s : State) : Out :=
  .next (s.streamRow 4 fun s l _ => s.operands 8 (fun s l _ v =>
    let off := v % 2 ^ 32
    if sysAddrBad off then (s.setLoad l).failLoad 0x0709 l.at_ off
    else (s.setLoad l).writeRecord off (BitVec.ofNat 32 (v / 2 ^ 32))) (l.left + 1))

/-- DYNLIST (R219, R222, R231, R251, R252). -/
def execDynlist (s : State) : Out :=
  .next (s.streamRow 5 fun s l _ => s.operands 4 (fun s l h a =>
    let stall := if h.partial_ then some h.stall.toNat else none
    let plane := h.partial_ && !s.activePlane stall
    let s := s.setLoad l
    if !frameExists a then s.failLoad 0x070B l.at_ a
    else if faType a ≠ 0 then s.failLoad 0x070A l.at_ a
    else if h.partial_ && !s.inStall h.stall.toNat a then s.failLoad 0x0711 l.at_ a
    else if 16384 ≤ s.cfg.dynlist.length then s.failLoad 0x0715 l.at_ a
    else { s with cfg := { s.cfg with dynlist := s.cfg.dynlist ++ [(BitVec.ofNat 32 a, stall, plane)] } }) (l.left + 1))

/-- NOP (R219). -/
def execNop (s : State) : Out := .next (s.streamRow 6 fun s l _ => s.setLoad { l with op := none })

/-- SYNC (R219): every frame write of the model completes with its command. -/
def execSync (s : State) : Out := .next (s.streamRow 7 fun s l _ => s.setLoad { l with op := none })

/-- END (R219): once the whole stream is there, every later byte must be zero. -/
def execEndStream (s : State) : Out :=
  .next (s.streamRow 15 fun s l h =>
    if l.bytes.length < h.trailerAt then s
    else if (List.range (h.plainLen - l.pos)).all fun i => s.streamByte l h (l.pos + i) = 0 then
      s.setLoad { l with op := none, pos := h.plainLen, phase := .trailer }
    else s.failHere 0x070A)

/-! ### The trailer (R215, R224, R229, R231, R252) -/

/-- A partial load has passed: its shadow plane is LOADED (R231, R252). -/
def State.passPartial (s : State) (l : CfgLoad) (h : ImageHeader) : State :=
  let n := h.stall.toNat
  let src := match l.source with
    | .dram => 1
    | .flash => 2
    | _ => 0
  let s := (s.setShadow n 2).put (STL_CONT.v n 0) l.base
  let s := (s.put (STL_CONT.v n 1) (l.base / 2 ^ 32 % 2 ^ 24 + src * 2 ^ 30)).put (STL_CONT.v n 2) (l.content.getD 0)
  let s := (s.put (STL_CONT.v n 3) l.contentN).setStall n { s.stall n with kept := h.kept }
  let s := s.putB (STL_STAT.content_pending n) (decide (l.contentN ≠ 0) && !h.kept)
  ((s.raise pageCFG 0 INFO 0x0720 0 0).dropLoad.put CFG_STATUS.state 0).loadEnded

/-- A full load has passed: every tile PLL with an enabled output relocks (R229). -/
def State.passFull (s : State) (l : CfgLoad) : State :=
  let s := s.each (List.range 80) fun s k =>
    let t := k / 2
    let f := k % 2
    s.when ((List.range 7).any fun j => s.is (CMT_OUT.enable t f j)) fun s =>
      s.relock t f (s.pllSetting t f) (!s.pllNone t f)
  let s := ({ s with cfg := { s.cfg with imageCrc := l.crc } }).put PAIR_IMAGE.v l.crc.toNat
  (s.setLoad { l with phase := .startup }).put CFG_STATUS.state 4

/-- A load has passed every check. -/
def State.trailerPassed (s : State) (l : CfgLoad) (h : ImageHeader) : State :=
  if h.partial_ then s.passPartial l h else s.passFull l

/-- TRAILER_CHECK (R215, R224, R234): magic, CRC, length, reserved bytes; a signed image's signature comes next. -/
def execTrailerCheck (s : State) : Out :=
  match s.cfg.load with
  | none => .next s
  | some l =>
    match l.header with
    | none => .next s
    | some h =>
      let a := h.trailerAt
      let t := (l.bytes.drop a).take 512
      let crc := numAt t 4 4
      if l.phase ≠ .trailer || l.bytes.length < a + 512 || (h.encrypted && l.segs ≤ h.segments) then .next s
      else if numAt t 0 4 ≠ 0x5A4E5452 then .next (s.failHere 0x070E)
      else if crc ≠ crc32 (l.bytes.take a) then .next (s.failLoad 0x070F (a + 4) 0)
      else if numAt t 8 8 ≠ h.totalLen.toNat then .next (s.failLoad 0x0703 (a + 8) 0)
      else if !zeroAt t 0x70 0x200 || (!h.signed && !zeroAt t 0x10 0x70) then .next (s.failLoad 0x0703 (a + 0x10) 0)
      else
        let l := { l with crc := BitVec.ofNat 32 crc }
        if h.signed then .next (s.setLoad { l with phase := .trailerSig }) else .next (s.trailerPassed l h)

/-- SIGNATURE_VERIFIED (R213, R224): hdr_sig over the first 256 bytes, or the trailer's sig over everything before it. -/
def execSignatureVerified (trailer : Bool) (s : State) : Out :=
  match s.cfg.load with
  | none => .next s
  | some l =>
    match l.header with
    | none => .next s
    | some h =>
      let key := toBytes h.pubkey.toNat 97
      if !trailer && l.phase = .signature then
        if ecdsaVerify key (sha384 (l.bytes.take 0x100)) (toBytes h.hdrSig.toNat 96) then .next (s.headerPassed l h)
        else .next (s.failLoad 0x0707 0x100 0)
      else if trailer && l.phase = .trailerSig then
        let a := h.trailerAt + 16
        if ecdsaVerify key (sha384 (l.bytes.take a)) ((l.bytes.drop a).take 96) then .next (s.trailerPassed l h)
        else .next (s.failLoad 0x0710 a 0)
      else .next s

/-! ### Start-up (R202, R229, R230, R270) -/

/-- What CFG_BOOT_STAT shows of a full image that has started. -/
def State.showSlot (s : State) (l : CfgLoad) (h : ImageHeader) : State :=
  if h.type = 3 then s.put CFG_BOOT_STAT.slot 14
  else match l.source with
    | .slot n => s.put CFG_BOOT_STAT.slot n
    | .golden => s.put CFG_BOOT_STAT.slot 15
    | _ => s

/-- STARTUP_PLL_RELOCKED (R229): once no tile PLL relocks, the fabric starts and CFG_DONE rises. -/
def execStartupPllRelocked (s : State) : Out :=
  match s.cfg.load with
  | none => .next s
  | some l =>
    match l.header with
    | none => .next s
    | some h =>
      let waits := (List.range 80).any fun k => (s.pll (k / 2) (k % 2)).relocking
      if l.phase ≠ .startup || waits then .next s else
      let s := (s.restartFabric (fun _ => true) allPlaces).startTracks
      let s := s.each (List.range 120) fun s q => s.openPort (quayPort q)
      let s := (s.put CFG_STATUS.done 1).putB CFG_STATUS.golden (decide (l.source = .golden))
      let s := (s.when (!l.fell) fun s => s.put CFG_STATUS.boot_err 0).showSlot l h
      let s := (s.raise pageCFG 0 INFO 0x0720 0 0).startScrub
      .next ((s.dropLoad.put CFG_STATUS.state 0).loadEnded)

/-! ### Flash commands (R210, R237, R238) -/

/-- FLASH_READ (R210): a write of CFG_FLASH_CMD. -/
def execFlashRead (v : Word) (s : State) : Out := .next (s.writeFlashCmd v)

/-- FLASH_PROGRAM (R210, R482): a write of CFG_FLASH_CMD. -/
def execFlashProgram (v : Word) (s : State) : Out := .next (s.writeFlashCmd v)

/-- FLASH_ERASE_4K (R210, R482): a write of CFG_FLASH_CMD. -/
def execFlashErase4k (v : Word) (s : State) : Out := .next (s.writeFlashCmd v)

/-- FLASH_ERASE_64K (R210, R482): a write of CFG_FLASH_CMD. -/
def execFlashErase64k (v : Word) (s : State) : Out := .next (s.writeFlashCmd v)

/-- The data of a flash read goes to the buffer in posted writes within 256-byte blocks (R210, R290). -/
def State.toBuffer (s : State) (bs : List Byte) : State :=
  let base := s.getWide (CFG_FLASH_BUF.off 0) 2 % 2 ^ 56
  let first := 256 - base % 256
  let pieces := (0, min first bs.length) ::
    (List.range ((bs.length - first + 255) / 256)).map fun i => (first + 256 * i, min 256 (bs.length - first - 256 * i))
  s.each pieces fun s p =>
    if p.2 = 0 then s else s.issue .cfg (writeReq .wrp (base + p.1) ((bs.drop p.1).take p.2) 3 0xFFF)

/-- FLASH_CMD_COMPLETE (R210, R238): `bytes` are what the buffer holds for a program. What a failed program or erase leaves
is open. -/
def execFlashCmdComplete (ok : Bool) (bytes : List Byte) (s : State) : Out :=
  match s.cfg.flash with
  | none => .next s
  | some c =>
    if !ok then .next (((if c.op = 0 then s else s.flashSpoil c.addr c.len).flashEnds 4).startWaiting)
    else
      let s := match c.op with
        | 0 => s.toBuffer (s.flashBytes c.addr c.len)
        | 1 => s.flashProgramBytes c.addr (bytes.take c.len)
        | _ => s.flashErase c.addr c.len
      .next ((s.flashEnds 1).startWaiting)

end Sys2Proof.Machine
end

