-- ==== Sys2Proof/Machine/Jtag.lean ====
section
/-! DEFINITION. The commands of the JTAG port: its instructions, the load of CFG_IN and the programming of fuses (R202,
R223, R550, R551). -/

namespace Sys2Proof.Machine

open Reg

/-- Whether the port works: VCCAUX is in range (R550). -/
def State.jtagOn (s : State) : Bool := bit (s.word PWR_SUP_STAT.off) 3

/-- An instruction takes effect: EXTEST, EXTEST_PULSE, EXTEST_TRAIN, HIGHZ and CLAMP hold a warm reset with the boundary
cells that drive the pins; any other releases it. -/
def State.takeInstruction (s : State) (code : Nat) (hold : Bool) (driven : List Bool) : State :=
  let s := s.when (hold && !s.jtag.held) State.warmReset
  { s with jtag := { s.jtag with code := code, held := hold, driven := driven } }

/-- An instruction, where the port works. -/
def State.instruction (s : State) (code : Nat) (hold : Bool) (driven : List Bool) : State :=
  if s.jtagOn then s.takeInstruction code hold driven else s

/-- BYPASS (R551). -/
def execBypass (s : State) : Out := .next (s.instruction 0x3FF false [])

/-- IDCODE (R4, R551). -/
def execIdcode (s : State) : Out :=
  .next (if s.jtagOn then (s.takeInstruction 0x009 false []).answerWord (s.word DEV_IDCODE.off) else s)

/-- SAMPLE_PRELOAD (R551): the boundary register is captured or shifted. -/
def execSamplePreload (boundary : List Bool) (s : State) : Out :=
  if !s.jtagOn then .next s else
  let s := s.takeInstruction 0x001 false []
  .next { s with jtag := { s.jtag with boundary := boundary } }

/-- EXTEST (R551). -/
def execExtest (s : State) : Out := .next (s.instruction 0x026 true s.jtag.boundary)

/-- EXTEST_PULSE (R551). -/
def execExtestPulse (s : State) : Out := .next (s.instruction 0x03C true s.jtag.boundary)

/-- EXTEST_TRAIN (R551). -/
def execExtestTrain (s : State) : Out := .next (s.instruction 0x03D true s.jtag.boundary)

/-- HIGHZ (R551): no cell drives a pin. -/
def execHighz (s : State) : Out := .next (s.instruction 0x00A true [])

/-- CLAMP (R551). -/
def execClamp (s : State) : Out := .next (s.instruction 0x00B true s.jtag.boundary)

/-- The bits that CFG_IN shifts in (R202, R236, R551): they start a JTAG load, or join it, or are discarded while
another load is under way. A load during a self-test waits for its end, and the bits meanwhile are discarded. -/
def State.shiftConfig (s : State) (bytes : List Byte) : State :=
  match s.cfg.load with
  | some l => if l.source = .jtag then s.feedLoad bytes else s.cfgAnswer 3
  | none =>
    if s.held || s.cfg.bootDue then s
    else if s.cfg.progWait then s.cfgAnswer 3
    else if s.cfg.testRuns then
      match s.cfg.next with
      | some l => if l.source = .jtag then s else s.cfgAnswer 3
      | none => { s with cfg := { s.cfg with next := some { source := .jtag } } }
    else (s.beginLoad { source := .jtag }).feedLoad bytes

/-- CFG_IN (R202, R551): Capture-DR loads CFG_STATUS, and Shift-DR takes the bits. -/
def execCfgIn (bytes : List Byte) (s : State) : Out :=
  if !s.jtagOn then .next s else
  let s := s.takeInstruction 0x005 false []
  .next ((s.answerWord (s.shown CFG_STATUS.off)).shiftConfig bytes)

/-- The fuses with the bits of a field set beside those that stand (R223). -/
def Fuses.burn (u : Fuses) (f : FuseField) (data : BitVec 512) : Fuses :=
  match f with
  | .aesKey n =>
    { u with aesKey := u.aesKey ||| ((data &&& BitVec.ofNat 512 (2 ^ 256 - 1)) <<< (256 * n.val))
             aesProg := if bits data 256 = 0 then u.aesProg else u.aesProg ||| BitVec.ofNat 2 (2 ^ n.val) }
  | .aesRevoke => { u with aesRevoke := u.aesRevoke ||| BitVec.ofNat 2 data.toNat }
  | .pkHash n =>
    { u with pkHash := u.pkHash.upd (fun _ => 0) n.val fun h => h ||| BitVec.ofNat 384 data.toNat
             pkProg := if bits data 384 = 0 then u.pkProg else u.pkProg ||| BitVec.ofNat 4 (2 ^ n.val) }
  | .pkRevoke => { u with pkRevoke := u.pkRevoke ||| BitVec.ofNat 4 data.toNat }
  | .reqSig => { u with reqSig := u.reqSig || data.getLsbD 0 }
  | .reqEnc => { u with reqEnc := u.reqEnc || data.getLsbD 0 }
  | .svnFloor => { u with svnFloor := u.svnFloor ||| BitVec.ofNat 64 data.toNat }
where
  /-- The lowest `n` bits of the data register. -/
  bits (data : BitVec 512) (n : Nat) : Nat := data.toNat % 2 ^ n

/-- FUSE_PROG (R223, R551): each fuse bit can be programmed once, and stays. -/
def execFuseProg (f : FuseField) (data : BitVec 512) (s : State) : Out :=
  if !s.jtagOn then .next s else
  let s := s.takeInstruction 0x0A5 false []
  .next ({ s with fuses := s.fuses.burn f data }.showFuses)

end Sys2Proof.Machine
end

