-- ==== Sys2Proof/Machine/Logic.lean ====
section
/-! DEFINITION. Logic blocks: look-up tables, wide multiplexers, carry, flip-flops, LUT RAM, shift registers and lateral
registers at an active clock edge (R33 to R70). -/

namespace Sys2Proof.Machine

/-- The logic-block number of a column within its region (R18): odd ones hold LB-S blocks. -/
def logicNumber (col : Nat) : Nat :=
  ((List.range (col % 97)).filter fun l => colKind l = some .logic).length

/-- The LUT content frame of a position of a block (R56). -/
def lutFrame (col row p : Nat) : Nat := frameAddr 0 (row / 60) col 0 (24 + p)

/-- The 64 content bits of position `p` in a plane (R56). -/
def State.lutContent (s : State) (plane : Bool) (col row p : Nat) : Nat :=
  (s.frame plane (lutFrame col row p)).toNat / 2 ^ (64 * (row % 60)) % 2 ^ 64

/-- Storing the 64 content bits of a position. -/
def State.setLut (s : State) (plane : Bool) (col row p v : Nat) : State :=
  let a := lutFrame col row p
  let mask : Frame := BitVec.ofNat 4096 (2 ^ 64 - 1) <<< (64 * (row % 60))
  s.setFrame plane a ((s.frame plane a &&& ~~~mask) ||| (BitVec.ofNat 4096 (v % 2 ^ 64) <<< (64 * (row % 60))))

/-- Bit `n` of a number. -/
def natBit (v n : Nat) : Bool := v / 2 ^ n % 2 = 1

/-- LF and LH of a position (R37, R38, R54, R59). -/
def lutOut (m : LutMode) (c : Nat) (i : BitVec 6) : Bool × Bool :=
  let a5 := i.toNat % 32
  match m with
  | .whole => (natBit c i.toNat, natBit c a5)
  | .fractured => (natBit c (32 + a5), natBit c a5)
  | .ram64 => (natBit c i.toNat, natBit c a5)
  | .ram32x2 => (natBit c (32 + a5), natBit c a5)
  | .deepRam _ => (natBit c i.toNat, natBit c a5)
  | .shift _ => (natBit c a5, natBit c 31)

/-- Whether position `p` of a list of bits is set. -/
def nth (l : List Bool) (p : Nat) : Bool := (l[p]?).getD false

/-- The wide multiplexer on YA of position `p` (R40), if there is one. -/
def wideOut (lf : List Bool) (xa : BitVec 8) (p : Nat) : Option Bool :=
  let w2 (k : Nat) := if xa.getLsbD (2 * k + 1) then nth lf (2 * k + 1) else nth lf (2 * k)
  let w4 (h : Nat) := if xa.getLsbD (if h = 0 then 2 else 6) then w2 (2 * h + 1) else w2 (2 * h)
  if p % 2 = 1 then some (w2 (p / 2))
  else if p = 2 then some (w4 0)
  else if p = 6 then some (w4 1)
  else if p = 4 then some (if xa.getLsbD 4 then w4 1 else w4 0)
  else none

/-- The value of a carry-in source (R48, R49). -/
def carryIn (src : CarrySrc) (chain xa : Bool) : Bool :=
  match src with
  | .chain => chain | .zero => false | .one => true | .xa => xa

/-- Sums and carries of the positions (R47): P is LF, G is LH or XA. -/
def carryRun (cfg : LbCfg) (lf lh : List Bool) (xa : BitVec 8) (cyi : Bool) : List (Bool × Bool) :=
  ((List.range 8).foldl (fun (a : List (Bool × Bool) × Bool) p =>
    let ci := if p = 0 then carryIn cfg.cin cyi (xa.getLsbD 0)
      else match cfg.split with
        | some src => if p = 4 then carryIn src false (xa.getLsbD 4) else a.2
        | none => a.2
    let pr := nth lf p
    let ge := match (cfg.pos.toList)[p]? with
      | some q => if q.genXa then xa.getLsbD p else nth lh p
      | none => false
    let co := if pr then ci else ge
    (a.1 ++ [(xor pr ci, co)], co)) ([], false)).1

/-- Whether a block can be set so: a chain where CYI exists, RAM and shift functions in an LB-S block, a wide
multiplexer where there is one, a cascade from a lower position (R34, R40, R49, R51, R60). -/
def lbFits (col row : Nat) (cfg : LbCfg) : Bool :=
  let mem (m : LutMode) : Bool := match m with
    | .whole => false | .fractured => false | .ram64 => true | .ram32x2 => true | .deepRam _ => true | .shift _ => true
  (List.range 8).all (fun p => match (cfg.pos.toList)[p]? with
    | none => false
    | some q =>
      (!mem q.lut || logicNumber col % 2 = 1)
        && (match q.lut with
          | .deepRam a => decide (a.val ≠ 0)
          | .shift c => !c || decide (p ≠ 0)
          | .whole => true | .fractured => true | .ram64 => true | .ram32x2 => true)
        && (!decide (q.faSrc = .wide) || decide (p ≠ 0)))
  && !(decide (cfg.cin = .chain) && row % 600 = 0) && !decide (cfg.split = some .chain)

/-- The word that a LUT holds after an active edge of CK1 with EN3 at 1 (R53, R59, R60). `sh` is SH31 of the position
below. -/
def lutNext (m : LutMode) (c p : Nat) (pins : LbPins) (sh : Bool) : Nat :=
  let wa := ((pins.i.toList)[7]?.getD 0).toNat
  let put (v n : Nat) (b : Bool) : Nat := if natBit v n == b then v else v ^^^ 2 ^ n
  match m with
  | .whole => c
  | .fractured => c
  | .ram64 => put c wa (pins.xa.getLsbD p)
  | .ram32x2 => put (put c (32 + wa % 32) (pins.xa.getLsbD p)) (wa % 32) (pins.xb.getLsbD p)
  | .deepRam a =>
    let up := (pins.xb.getLsbD 6).toNat + 2 * (pins.xb.getLsbD 5).toNat + 4 * (pins.xb.getLsbD 4).toNat
    if p % 2 ^ a.val = up % 2 ^ a.val then put c wa (pins.xb.getLsbD 0) else c
  | .shift casc =>
    c / 2 ^ 32 * 2 ^ 32 + (c % 2 ^ 31 * 2 + (if casc then sh else pins.xa.getLsbD p).toNat)

/-- The value of a flip-flop after an edge (R42 to R44): `hit` says that the edge is active for it (a latch follows at
either edge of its clock), `d` its D input, `en` and `fs` its half's lines. -/
def ffNext (half : HalfCfg) (o : FfOpt) (hit fs en d old : Bool) : Bool :=
  if o.obeysFs && fs && (half.async || hit) then o.fval
  else if hit && (!o.obeysEn || en) then d
  else old

/-- An edge in a logic block. -/
def State.blockEdge (s : State) (col row : Nat) (cfg : LbCfg) (pins : LbPins) : State :=
  let plane := s.activePlane (s.stallAt col (row / 60))
  let cont := (List.range 8).map fun p => s.lutContent plane col row p
  let outs := (List.range 8).map fun p => match (cfg.pos.toList)[p]? with
    | some q => lutOut q.lut ((cont[p]?).getD 0) ((pins.i.toList)[p]?.getD 0)
    | none => (false, false)
  let lf := outs.map Prod.fst
  let lh := outs.map Prod.snd
  let cy := carryRun cfg lf lh pins.xa pins.cyi
  let old := s
  let s := s.each (List.range 8) fun s p => match (cfg.pos.toList)[p]? with
    | none => s
    | some q =>
      let half := if p < 4 then cfg.low else cfg.high
      let hit := half.ck1 == pins.ck1 && (half.latch || pins.rising == !half.falling)
      let fs := pins.fs.getLsbD (if p < 4 then 0 else 1)
      let da := match q.faSrc with
        | .lf => nth lf p | .sum => ((cy[p]?).getD (false, false)).1
        | .wide => (wideOut lf pins.xa p).getD false | .xa => pins.xa.getLsbD p
      let db := match q.fbSrc with
        | .lh => nth lh p | .co => ((cy[p]?).getD (false, false)).2 | .xb => pins.xb.getLsbD p
      let ea := pins.en.getLsbD (if p < 4 then 0 else 2)
      let eb := pins.en.getLsbD (if p < 4 then 1 else 3)
      (s.setFf col row (2 * p) (ffNext half q.fa hit fs ea da (old.ff col row (2 * p)))).setFf col row (2 * p + 1)
        (ffNext half q.fb hit fs eb db (old.ff col row (2 * p + 1)))
  if pins.ck1 && pins.rising == !cfg.ramFalling && pins.en.getLsbD 3 then
    s.each (List.range 8) fun s p => match (cfg.pos.toList)[p]? with
      | none => s
      | some q =>
        let c := (cont[p]?).getD 0
        s.setLut plane col row p (lutNext q.lut c p pins (natBit ((cont[p - 1]?).getD 0) 31))
  else s

/-- Whether the power domain of a column's region is OPEN. -/
def State.placeOpen (s : State) (col cy : Nat) : Bool :=
  s.domOpen (regionDom (12 * cy + col / 97))

/-- LOGIC_CLOCK_EDGE (R41 to R70). -/
def execLogicClockEdge (t : LogicTarget) (s : State) : Out :=
  match t with
  | .block col row cfg pins =>
    if colKind col.val ≠ some .logic || !lbFits col row cfg then .fault .illFormed
    else if s.stallHeld (s.stallAt col (row.val / 60)) || !s.placeOpen col (row.val / 60) then .next s
    else .next (s.blockEdge col row cfg pins)
  | .laterals col north capture en used d =>
    if colKind col.val ≠ some .logic then .fault .illFormed else
    let cy := lateralRow north capture
    let k := lateralKey col north capture
    let d := if capture && !s.placeOpen col (lateralRow north false) then 0 else d
    let v := s.fabric.laterals.get lateralDefault k
    if s.stallHeld (s.stallAt col cy) || !s.placeOpen col cy || !en then .next s
    else .next { s with fabric := { s.fabric with laterals := s.fabric.laterals.set lateralDefault k ((v &&& ~~~used) ||| (d &&& used)) } }

end Sys2Proof.Machine
end

