-- ==== Sys2Proof/Machine/Noc.lean ====
section
/-! DEFINITION. The network on chip and the quays: issuing, routing, delivery, answers, fences, HOLD, closing and fault
injection (R281 to R312). -/

namespace Sys2Proof.Machine

open Reg

/-! ### Requests and fences -/

/-- NOC_REQUEST_ISSUE (R28, R94, R286, R287, R290). A core's access that finds an uncorrectable L2 word traps in place
of its request. -/
def execNocRequestIssue (i : IniPort) (r : NocReq) (l2Bad : Option CoreAccess) (s : State) : Out :=
  let bad (second : Bool) (a : CoreAccess) : State :=
    let c := coreOfTag second r.tag
    ((s.coreFault c (l2Cause a) r.addr.toNat).log (pageCCC c) CONTAINED 0x0312 c r.addr.toNat).count
      ⟨pageCC0 + 0xF0C, 31, 0⟩
  match l2Bad, i with
  | some a, .ccA => .next (bad false a)
  | some a, .ccB => .next (bad true a)
  | _, _ => .next (s.issue i r)

/-- QUAY_INITIATOR_REQUEST (R294, R295): a request or a fence of the fabric enters through its quay. -/
def execQuayInitiatorRequest (q : Fin 120) (isFence : Bool) (r : NocReq) (s : State) : Out :=
  let i := IniPort.quay q
  let v := s.ini i
  if isFence then
    if s.portState (iniPort i) ≠ 0 || decide (256 ≤ v.out.length + v.fences.length) then .next s
    else .next (s.startFence i r.tag)
  else .next (s.issue i r)

/-- FENCE (R293). -/
def execFence (i : IniPort) (tag : BitVec 12) (s : State) : Out :=
  if s.portState (iniPort i) ≠ 0 then .next s else .next (s.startFence i tag)

/-! ### Routing -/

/-- Where a router sends a packet (R284): output 0 to 3 is E, W, N, S, 4 + p local port p; none is blocked. -/
def State.routeOf (s : State) (x y : Nat) (p : Packet) : Option Nat :=
  let i := 12 * y + x
  let dx := p.dest.toNat / 64
  let dy := p.dest.toNat / 8 % 8
  let outs := s.get (NOC_RTR_LINK.outs i)
  let link (o : Nat) : Option Nat := if outs / 2 ^ o % 2 = 1 then some o else none
  if dx ≠ x then
    match s.get (NOC_RTR_XDIR.v i) / 4 ^ dx % 4 with
    | 0 => if dx < 12 then link 0 else none
    | 1 => link 1
    | _ => none
  else if dy ≠ y then
    match s.get (NOC_RTR_YDIR.v i) / 4 ^ dy % 4 with
    | 0 => if dy < 6 then link 2 else none
    | 1 => link 3
    | _ => none
  else
    let l := portLocal p.dest.toNat
    if portExists p.dest.toNat && decide (s.get (NOC_RTR_LINK.ports i) / 2 ^ l % 2 = 1) then some (4 + l) else none

/-- The place that an output leads to (R281). -/
def outPlace (x y o : Nat) : Place :=
  match o with
  | 0 => .router (12 * y + (x + 1) % 12)
  | 1 => .router (12 * y + (x + 11) % 12)
  | 2 => .router (12 * ((y + 1) % 6) + x)
  | 3 => .router (12 * ((y + 5) % 6) + x)
  | _ => .port (BitVec.ofNat 10 (portId x y (o - 4)))

/-- A packet leaves by an output: the hop count rises between routers (R285). -/
def State.forward (s : State) (x y o : Nat) (p : Packet) : State :=
  s.send (outPlace x y o) (if o < 4 then { p with hops := p.hops + 1 } else p)

/-- An injector acts (R307): the action is counted, the first of an arming is logged, and the last disarms it. -/
def State.injActs (s : State) (i o : Nat) (p : Packet) : State :=
  let v := s.inj i o
  let s := (s.count (NOC_FI_CNT.v i o)).when (!v.acted) fun s => s.routerEvent i 9 INFO 0x090A p
  let s := s.setInj i o { v with acted := true, times := v.times - 1 }
  s.when (decide (v.times ≤ 1)) fun s => s.put (NOC_FI_CTRL.armed i o) 0

/-- The packet with a bit of a data flit inverted after its check word is made (R308). -/
def corruptFlit (p : Packet) (flit b : Nat) : Packet :=
  { p with data := p.data.modify flit fun d => (d.1 ^^^ BitVec.ofNat 512 (2 ^ b), d.2) }

/-- A packet at an output, past its injector (R307, R308). -/
def State.throughInjector (s : State) (x y o : Nat) (p : Packet) : State :=
  let i := 12 * y + x
  let v := s.inj i o
  let src := s.get (NOC_FI_CTRL.src i o)
  let fits := s.is (NOC_FI_CTRL.armed i o) && decide (p.vc.toNat = s.get (NOC_FI_CTRL.vc i o))
    && (decide (src = 0x3FF) || decide (src = p.src.toNat))
  match v.held with
  | some q =>
    if p.vc = q.vc then
      let s := ((s.forward x y o p).forward x y o q).injActs i o q
      s.setInj i o { s.inj i o with held := none }
    else s.forward x y o p
  | none =>
    if !fits then s.forward x y o p
    else if v.skip ≠ 0 then (s.setInj i o { v with skip := v.skip - 1 }).forward x y o p
    else match s.get (NOC_FI_CTRL.mode i o) with
      | 1 => s.injActs i o p
      | 2 =>
        let f := s.get (NOC_FI_CORR.flit i o)
        if f < p.data.length then
          (s.injActs i o p).forward x y o (corruptFlit p f (s.get (NOC_FI_CORR.bit i o)))
        else s.forward x y o p
      | 3 => s.setInj i o { v with held := some p }
      | _ => s.forward x y o p

/-- A packet whose route is blocked (R285, R302): a request is answered UNROUTABLE, a posted write is dropped with a
notice, a response is dropped. -/
def State.blocked (s : State) (i : Nat) (p : Packet) : State :=
  if isPosted p then
    ((s.notice (routerId i) p 3).count (NOC_RTR_PDROP.v i)).routerEvent i 3 CONTAINED 0x0904 p
  else if isNonPosted p || decide (p.opcode = 3) then
    ((s.answerFrom (routerId i) p 3 [] true (routerId i + 0x0902 * 65536)).count (NOC_RTR_UNRT.v i)).routerEvent i 1
      CONTAINED 0x0902 p
  else (s.count (NOC_RTR_RDROP.v i)).routerEvent i 2 CONTAINED 0x0903 p

/-- ROUTER_PACKET (R284, R285, R299 to R302, R308): a packet at a router's input. A router in HOLD keeps it waiting. -/
def execRouterPacket (x : Fin 12) (y : Fin 6) (p : Packet) (s : State) : Out :=
  let i := 12 * y.val + x.val
  let s := s.unsend (.router i) p
  if hcrcOf p ≠ p.hcrc then
    .next ((s.count (NOC_RTR_HDRERR.v i)).routerEvent i 4 CONTAINED 0x0905 p)
  else if s.is (NOC_RTR_STAT.hold i) then .next (s.send (.router i) p)
  else match s.routeOf x y p with
    | none => .next (s.blocked i p)
    | some o => if o < 4 && p.hops = 24 then .next (s.blocked i p) else .next (s.throughInjector x y o p)

/-- FI_ARM (R307). -/
def execFiArm (x : Fin 12) (y : Fin 6) (out : Fin 8) (v : Word) (s : State) : Out :=
  .next (s.writeFi (12 * y.val + x.val) out v)

/-- FI_REORDER_TIMEOUT (R308): the held packet is sent alone and not counted. -/
def execFiReorderTimeout (x : Fin 12) (y : Fin 6) (out : Fin 8) (s : State) : Out :=
  let i := 12 * y.val + x.val
  match (s.inj i out).held with
  | none => .next s
  | some p => .next ((s.setInj i out { s.inj i out with held := none }).forward x y out p)

/-! ### HOLD -/

/-- HOLD_APPLY (R301). -/
def execHoldApply (x : Fin 12) (y : Fin 6) (v : Word) (s : State) : Out := .next (s.writeRtr (12 * y.val + x.val) v)

/-- The release of a HOLD after `cycles` of 0.625 ns, shown in units of 10 ns rounded up (R301). -/
def State.releaseHold (s : State) (i result cycles : Nat) : State :=
  let s := ((s.put (NOC_RTR_STAT.hold i) 0).put (NOC_RTR_STAT.result i) result).put (NOC_RTR_STAT.hold_time i)
    (min ((5 * cycles + 79) / 80) 65535)
  { s with noc := { s.noc with holds := s.noc.holds.set natDefault i 0 } }

/-- The cycles since a router entered HOLD. -/
def State.heldFor (s : State) (i : Nat) : Nat := s.now - s.noc.holds.get natDefault i

/-- HOLD_APPLIED (R301): every staged setting takes effect together, at the earliest one cycle after the write, and the
inputs are released in the next cycle. -/
def execHoldApplied (x : Fin 12) (y : Fin 6) (s : State) : Out :=
  let i := 12 * y.val + x.val
  if !s.is (NOC_RTR_STAT.hold i) then .next s else
  let have' := existingPorts x y * 16 + 15
  let s := s.setWord (NOC_RTR_LINK.off i) (s.word (NOC_RTR_NEXT_LINK.off i) &&& BitVec.ofNat 32 have')
  let s := s.setWord (NOC_RTR_XDIR.off i) (s.word (NOC_RTR_NEXT_XDIR.off i))
  let s := s.setWord (NOC_RTR_YDIR.off i) (s.word (NOC_RTR_NEXT_YDIR.off i))
  let s := s.setWord (NOC_RTR_ARB.off i) (s.word (NOC_RTR_NEXT_ARB.off i))
  .next (s.releaseHold i 1 (max 2 (s.heldFor i)))

/-- HOLD_TIMEOUT (R301): after 16 µs the router releases with its old settings. -/
def execHoldTimeout (x : Fin 12) (y : Fin 6) (s : State) : Out :=
  let i := 12 * y.val + x.val
  if !s.is (NOC_RTR_STAT.hold i) then .next s else
  .next ((s.releaseHold i 2 (max 25600 (s.heldFor i))).raise (pageNOC i) 0 INFO 0x0901 0 0)

/-! ### Delivery at a destination port -/

/-- Writing the bytes that be marks, from the first line of the 256-byte block that the data covers. -/
def State.l2Write (s : State) (p : Packet) : State :=
  let a := p.addr.toNat % 2 ^ 22
  let base := a / 64 * 64
  let bs := dataBytes p
  { s with cc := { s.cc with l2 := (List.range bs.length).foldl (fun m k =>
      if p.be.getLsbD (base % 256 + k) then m.set s.l2Default (base + k) (bs.getD k 0) else m) s.cc.l2 } }

/-- The lines that a read of the L2 returns. -/
def State.l2Read (s : State) (p : Packet) : List Line :=
  let a := p.addr.toNat % 2 ^ 22
  linesOf (s.cc.l2.getMany s.l2Default (a / 64 * 64) (64 * linesTouched a p.len.toNat))

/-- Who sends a packet, as the registers that ask for it tell (R343, R523). -/
def packetSender (p : Packet) : Sender :=
  let src := p.src.toNat
  if src = portId 2 0 0 then .firmware (Fin.ofNat 8 (coreOfTag false p.tag))
  else if src = portId 3 0 0 then .firmware (Fin.ofNat 8 (coreOfTag true p.tag))
  else if src = portId 0 0 1 then .towpath
  else match (List.range 120).find? fun q => decide (quayPort q = src) with
    | some q => .quay (Fin.ofNat 120 q)
    | none => .host

/-- Writing registers from a packet: each register whose four bytes be marks (R9, R10). -/
def State.regsWrite (s : State) (p : Packet) : State :=
  let o := p.addr.toNat % 2 ^ 26
  let base := o / 64 * 64
  let bs := dataBytes p
  s.each (List.range ((p.len.toNat + 1) / 4)) fun s k =>
    let r := o + 4 * k
    let at_ := r - base
    if (List.range 4).all fun j => p.be.getLsbD (base % 256 + at_ + j) then
      s.regWrite (packetSender p) r (BitVec.ofNat 32 (ofBytes ((bs.drop at_).take 4)))
    else s

/-- The lines that a register read returns, and what its RC fields leave. -/
def State.regsRead (s : State) (p : Packet) : List Line × State :=
  let o := p.addr.toNat % 2 ^ 26
  let got := s.readRegs o ((p.len.toNat + 1) / 4)
  let bs := got.1
  let s := got.2
  (linesOf (List.replicate (o % 64) 0 ++ bs), s)

/-- Whether control complex memory at the packet's last byte is reachable (R405). -/
def State.l2Reaches (s : State) (p : Packet) : Bool :=
  decide (p.addr.toNat % 2 ^ 22 + p.len.toNat < s.get CC_L2_PART.mem_ways * 2 ^ 18)

/-- Whether an address is served by a quay's fabric: a quay window or the fabric user window (R287). -/
def toFabric (p : Packet) : Bool :=
  decide (p.addr.toNat / 2 ^ 52 = 2) || (decide (p.addr.toNat / 2 ^ 52 = 3) && decide (0x2000000 ≤ p.addr.toNat % 2 ^ 26))

/-- A posted write is applied at its target: registers and L2 at once, a quay's fabric takes it, DRAM and host writes
wait to be taken (R292, R295, R300); a link that is down takes
no host write (R374). -/
def State.applyPosted (s : State) (port : Nat) (p : Packet) : State :=
  if toFabric p then
    match portQuay port with
    | some q => if s.is (QUAY_CFG.tgt_en q) then s else (s.markLost port p).dropPosted port p 1
    | none => s
  else match p.addr.toNat / 2 ^ 52 with
    | 3 => s.regsWrite p
    | 4 => if s.l2Reaches p then s.l2Write p else (s.markLost port p).dropPosted port p 1
    | 1 =>
      if s.get PCI_LINK.ltssm = 0 || !s.is PCI_CFG.enable then (s.markLost port p).dropPosted port p 1
      else if s.hostSends then s.leave (.write p.addr p.be (p.data.map Prod.fst))
      else s.setPort port { s.port port with posted := (s.port port).posted ++ [p] }
    | _ => s.setPort port { s.port port with posted := (s.port port).posted ++ [p] }

/-- The QT_TAG that a quay gives its next target request: the lowest that no open request holds, and where it can, none
whose late answer is awaited. -/
def QuayState.freeTag (u : QuayState) : Option (BitVec 8) :=
  let tags := (List.range 256).map fun n => BitVec.ofNat 8 n
  let open_ := tags.filter fun t => !(u.given.any fun g => g.1 = t)
  (open_.find? fun t => !u.discard.contains t).or open_.head?

/-- A non-posted request is answered at its target, or waits there for its answer (R295, R296). -/
def State.applyRequest (s : State) (port : Nat) (p : Packet) : State :=
  if toFabric p then
    match portQuay port with
    | none => s.answerFrom port p 1 [] false 0
    | some q =>
      if !s.is (QUAY_CFG.tgt_en q) then s.answerFrom port p 1 [] false 0 else
      match (s.quay q).freeTag with
      | none => s.send (.port (BitVec.ofNat 10 port)) p
      | some t => s.setQuay q { s.quay q with given := (s.quay q).given ++ [(t, p)] }
  else match p.addr.toNat / 2 ^ 52 with
    | 3 =>
      if p.opcode = 1 then (s.regsWrite p).answerFrom port p 0 [] false 0
      else
        let got := s.regsRead p
        let ls := got.1
        let s := got.2
        s.answerFrom port p 0 ls false 0
    | 4 =>
      if !s.l2Reaches p then s.answerFrom port p 1 [] false 0
      else if p.opcode = 1 then (s.l2Write p).answerFrom port p 0 [] false 0
      else s.answerFrom port p 0 (s.l2Read p) false 0
    | 1 =>
      if s.get PCI_LINK.ltssm = 0 || !s.is PCI_CFG.enable then s.answerFrom port p 1 [] false 0
      else s.setPort port { s.port port with accepted := (s.port port).accepted ++ [p] }
    | _ => s.setPort port { s.port port with accepted := (s.port port).accepted ++ [p] }

/-- A posted packet in its turn: a failed data check drops it (R299), and the flow expects the next seq. -/
def State.takePosted (s : State) (port : Nat) (p : Packet) : State :=
  let i := portRouter port
  let s := s.setFlow port p.src p.vc { s.flow port p.src p.vc with expected := some (p.seq + 1) }
  if dataGood p then s.applyPosted port p
  else
    let s := ((s.markLost port p).count (NOC_RTR_CRCERR.v i)).routerEvent i 5 CONTAINED 0x0906 p
    (s.notice port p 6).count (NOC_RTR_PDROP.v i)

/-- The held packets that have become expected are applied in order, each counted as an order restored (R299). -/
def State.drainHeld (s : State) (port : Nat) (src : BitVec 10) (vc : BitVec 2) : Nat → State
  | 0 => s
  | n + 1 =>
    let f := s.flow port src vc
    match f.held.find? fun p : Packet => seqAhead f p.seq = 0 with
    | none => s
    | some p =>
      let s := s.setFlow port src vc { f with held := f.held.erase p }
      let i := portRouter port
      let s := ((s.takePosted port p).count (NOC_RTR_REORD.v i)).routerEvent i 7 CORRECTED 0x0908 p
      s.drainHeld port src vc n

/-- The port gives up waiting for a gap (R299): every missing seq below the highest packet is logged as lost, and the
packets present are applied in seq order. -/
def State.giveUp (s : State) (port : Nat) (src : BitVec 10) (vc : BitVec 2) (ps : List Packet) : State :=
  let f := s.flow port src vc
  let i := portRouter port
  let top := ps.foldl (fun m p => max m (seqAhead f p.seq)) 0
  let s := s.setFlow port src vc { f with held := [], lost := true }
  s.each (List.range (top + 1)) fun s d =>
    match ps.find? fun p : Packet => seqAhead f p.seq = d with
    | some p => if p.opcode = 3 then s else s.takePosted port p
    | none =>
      let s := s.setFlow port src vc { s.flow port src vc with expected := f.expected.map fun e => e + BitVec.ofNat 8 (d + 1) }
      (s.count (NOC_RTR_SEQLOST.v i)).raise (pageNOC i) 6 CONTAINED 0x0907 0 (port + src.toNat * 2 ^ 16)

/-- A posted packet arrives at an OPEN port (R299). -/
def State.arrivePosted (s : State) (port : Nat) (p : Packet) : State :=
  let f := s.flow port p.src p.vc
  let d := seqAhead f p.seq
  if d = 0 then (s.takePosted port p).drainHeld port p.src p.vc 8
  else if 128 ≤ d || f.held.any fun q => q.seq = p.seq then s.count (NOC_RTR_REORD.v (portRouter port))
  else if d ≤ 8 && f.held.length < 8 then s.setFlow port p.src p.vc { f with held := f.held ++ [p] }
  else s.giveUp port p.src p.vc (f.held ++ [p])

/-- Whether a port is closed to a packet, and how (R304, R316, R558): 0 OPEN, 1 CLOSING, 2 CLOSED. A controller's edge
port is closed to DRAM-space requests by the controller's state, and to its pages only with its domain or in its block
reset. -/
def State.closedTo (s : State) (port : Nat) (p : Packet) : Nat :=
  match portDmc port with
  | none => s.portState port
  | some n =>
    if p.addr.toNat / 2 ^ 52 = 3 then
      (if s.domOpen (0x110 + n) && !s.is (STATUS.in_reset (pageDMC n)) && !s.is (STATUS.in_reset (pageMPE n)) then 0 else 2)
    else
      let st := s.get (DMC_STAT.state n)
      if st = 2 || st = 3 then s.portState port else 2

/-- What an arriving packet does at its destination port. -/
def State.arrive (s : State) (port : BitVec 10) (p : Packet) : State :=
  let n := port.toNat
  let i := portRouter n
  if !opcodeFits p then
    (((s.unsend (.port port) p).count (NOC_RTR_HDRERR.v i)).routerEvent i 4 CONTAINED 0x0905 p)
  else if p.vc = 2 || p.opcode = 9 then
    (if s.noc.flight.contains (.port port, p) then s else
      { s with noc := { s.noc with flight := s.noc.flight ++ [(.port port, p)] } })
  else
    let s := s.unsend (.port port) p
    if s.closedTo n p ≠ 0 then
      if isPosted p then
        let f := s.flow n p.src p.vc
        let s := s.setFlow n p.src p.vc { f with
          lost := true, expected := if seqAhead f p.seq = 0 then some (p.seq + 1) else f.expected }
        let s := s.dropPosted n p 4
        if s.closedTo n p = 1 then (s.drainHeld n p.src p.vc 8).settleFlushes n else s
      else
        let s := s.when (decide (p.opcode = 3)) fun s => s.each [(0 : BitVec 2), 3] fun s vc =>
          s.when (s.flow n p.src vc).lost fun s => s.setFlow n p.src vc { s.flow n p.src vc with lost := false }
        (s.answerClosed n p)
    else if isPosted p then ((s.arrivePosted n p).settleFlushes n)
    else if p.opcode = 3 then
      ((s.setPort n { s.port n with flushes := (s.port n).flushes ++ [p] }).settleFlushes n)
    else if !dataGood p then
      (((s.answerFrom n p 6 [] false 0).count (NOC_RTR_CRCERR.v i)).routerEvent i 5 CONTAINED 0x0906 p)
    else (s.applyRequest n p)

/-- DESTINATION_PACKET (R289, R293, R295, R299, R300, R304, R306). A response or a NOTICE waits at its port for its
initiator. -/
def execDestinationPacket (port : BitVec 10) (p : Packet) (s : State) : Out := mirrored (fun s => .next (s.arrive port p)) s

/-- SEQUENCE_GAP_TIMEOUT (R299): a gap has stayed unfilled for 16 µs; a waiting FLUSH shows the seqs below its own. -/
def execSequenceGapTimeout (port : BitVec 10) (src : BitVec 10) (vc : BitVec 2) (s : State) : Out := mirrored (fun s =>
  let n := port.toNat
  let f := s.flow n src vc
  let waiting := (s.port n).flushes.filter fun p =>
    p.src = src && p.vc = vc && decide (0 < seqAhead f p.seq) && decide (seqAhead f p.seq < 128)
  if f.held.isEmpty && waiting.isEmpty then .next s
  else .next ((s.giveUp n src vc (f.held ++ waiting)).settleFlushes n)) s

/-! ### Answers at an initiator -/

/-- A fence ends with a status: what its port serves is told (R293). -/
def State.endFence (s : State) (i : IniPort) (f : FenceRun) (status : BitVec 4) : State :=
  let v := s.ini i
  let s := s.setIni i { v with fences := v.fences.filter (fun g => g.tag ≠ f.tag), fenced := some (f.tag, status) }
  match i with
  | .pciA =>
    ({ s with pci := { s.pci with reqs := s.pci.reqs.map fun r : HostReq =>
      { r with fences := r.fences.filter fun t => t ≠ f.tag } } }).sendPieces
  | _ => s

/-- An answer to a FLUSH of a fence (R293): its status is the first non-OK one, or OK. -/
def State.fenceAnswer (s : State) (i : IniPort) (f : FenceRun) (p : Packet) : State :=
  let st := if f.status = 0 then p.status else f.status
  let left := match f.left.find? fun d : BitVec 10 × BitVec 2 => d.1 = p.src with
    | some d => f.left.erase d
    | none => f.left.tail
  if left.isEmpty then s.endFence i f st
  else
    let v := s.ini i
    s.setIni i { v with fences := v.fences.map fun g => if g.tag = f.tag then { g with left := left, status := st } else g }

/-- NOC_RESPONSE (R295, R296, R298, R299): a response reaches its initiator and is matched by its tag. A late one is
discarded; a quay discards what it owes to a stall drained by force (R255, R266). -/
def execNocResponse (i : IniPort) (p : Packet) (s : State) : Out :=
  let s := s.unsend (.port (BitVec.ofNat 10 (iniPort i))) p
  let b := iniBlock i
  let v := s.ini i
  match v.out.find? fun o : Outstanding => o.tag = p.tag with
  | some o =>
    let p : Packet := if dataGood p then p else { p with status := 6, opcode := 8, data := [] }
    let s := s.when p.synth fun s =>
      (s.count (NOC_INI_SYN.v b)).iniLast i p.status.toNat p.tag.toNat o.dest.toNat o.addr.toNat
    let d := s.port o.dest.toNat
    let s := s.when (d.accepted.any fun q => q.src = p.dest && q.tag = p.tag) fun s =>
      s.setPort o.dest.toNat { d with accepted := d.accepted.filter fun q => !(q.src = p.dest && q.tag = p.tag) }
    let v := { v with out := v.out.erase o }
    (match i with
    | .quay q =>
      let u := s.quay q
      if u.owed.contains p.tag then
        .next (((s.setQuay q { u with owed := u.owed.erase p.tag }).setIni i v).count (QUAY_DISC.v q))
      else .next ((s.setIni i v).handOver i o.op o.addr.toNat p)
    | _ => .next ((s.setIni i v).handOver i o.op o.addr.toNat p))
  | none =>
    match v.fences.find? fun f : FenceRun => f.tag = p.tag with
    | some f =>
      let s := s.when p.synth fun s => (s.count (NOC_INI_SYN.v b)).iniLast i p.status.toNat p.tag.toNat p.src.toNat 0
      .next (s.fenceAnswer i f p)
    | none =>
      if v.dead.contains p.tag then
        let s := (s.setIni i { v with dead := v.dead.erase p.tag }).count (NOC_INI_LATE.v b)
        .next (s.raise (iniPage i) (iniEvt i 2) INFO 0x0912 0 p.src.toNat)
      else .next s

/-- INITIATOR_TIMEOUT (R297): a request or fence is answered TIMEOUT by its initiator, and its tag is kept back. -/
def execInitiatorTimeout (i : IniPort) (tag : BitVec 12) (s : State) : Out :=
  let v := s.ini i
  let b := iniBlock i
  match v.out.find? fun o : Outstanding => o.tag = tag with
  | some o =>
    let s := (s.setIni i { v with out := v.out.erase o, dead := v.dead ++ [tag] }).count (NOC_INI_TMOCNT.v b)
    let s := s.raise (iniPage i) (iniEvt i 0) CONTAINED 0x0910 o.addr.toNat o.dest.toNat
    .next (s.ownResponse i o.op tag 5 0x0910 o.dest.toNat o.addr.toNat)
  | none =>
    match v.fences.find? fun f : FenceRun => f.tag = tag with
    | none => .next s
    | some f =>
      let d := match f.left with
        | [] => 0
        | e :: _ => e.1.toNat
      let s := (s.setIni i { v with dead := v.dead ++ [tag] }).count (NOC_INI_TMOCNT.v b)
      let s := s.raise (iniPage i) (iniEvt i 0) CONTAINED 0x0910 0 d
      .next ((s.iniLast i 5 tag.toNat d 0).endFence i f (if f.status = 0 then 5 else f.status))

/-- TAG_RELEASE (R298). -/
def execTagRelease (i : IniPort) (tag : BitVec 12) (s : State) : Out :=
  let v := s.ini i
  .next (s.setIni i { v with dead := v.dead.filter fun t => t ≠ tag })

/-- NOTICE_RECEIVED (R300, R401): a NOTICE is counted and recorded, and for a core's store it is a bus error. -/
def execNoticeReceived (i : IniPort) (p : Packet) (s : State) : Out :=
  let s := s.unsend (.port (BitVec.ofNat 10 (iniPort i))) p
  let a := p.addr.toNat
  let s := (s.count (NOC_INI_PDROP.v (iniBlock i))).iniLast i p.status.toNat p.tag.toNat p.src.toNat a
  match i with
  | .ccA => .next (s.busError (coreOfTag false p.tag) a p.status.toNat)
  | .ccB => .next (s.busError (coreOfTag true p.tag) a p.status.toNat)
  | .ts => .next (s.dispatchDropped p.tag.toNat a)
  | _ => .next s

/-! ### Closing ports -/

/-- PORT_CLOSED (R305, R336, R339): a CLOSING port whose work is finished enters CLOSED, and a controller behind it goes
on to OFF or to SELF_REFRESH. -/
def execPortClosed (port : BitVec 10) (s : State) : Out :=
  let n := port.toNat
  if s.portState n = 1 && s.targetIdle n && s.ownIdle n then
    match portDmc n with
    | none => .next (s.setPortState n 2)
    | some d => if s.dmcIdle d then .next ((s.setPortState n 2).dmcClosed d) else .next s
  else .next s

/-- PORT_FORCE_CLOSE (R305): at close_us the port answers what is open and drops what is not taken, with one entry; a
stall drain has its own limit. -/
def execPortForceClose (port : BitVec 10) (s : State) : Out :=
  let n := port.toNat
  let i := portRouter n
  let v := s.port n
  if s.portState n ≠ 1 || v.drain then .next s else
  let asked := v.accepted.length + v.flushes.length + (match portQuay n with
    | some q => (s.quay q).given.length
    | none => 0) + (match portDmc n with
    | some d => (s.dmc d).runs.length + (s.dmc d).wrns.length
    | none => 0)
  let writes := (s.untaken n).length
  let s := ((s.forceTarget n).count (NOC_RTR_FORCED.v i)).raise (pageNOC i) 8 CONTAINED 0x0909 asked writes
  match portDmc n with
  | none => .next (s.when (s.ownIdle n) fun s => s.setPortState n 2)
  | some d => .next (((s.dmcForce d).setPortState n 2).dmcClosed d)

/-- QUAY_TARGET_RESPONSE (R295): the fabric's answer to a target request, TARGET_ERR with QTR_ERR; an answer after a
forced drain is discarded and counted (R255, R266). -/
def execQuayTargetResponse (q : Fin 120) (tag : BitVec 8) (err : Bool) (data : List Line) (s : State) : Out :=
  let u := s.quay q
  match u.given.find? fun g : BitVec 8 × Packet => g.1 = tag with
  | some g =>
    let s := s.setQuay q { u with given := u.given.erase g }
    .next (s.answerFrom (quayPort q) g.2 (if err then 1 else 0) (if err || g.2.opcode = 1 then [] else data) false 0)
  | none =>
    if u.discard.contains tag then
      .next ((s.setQuay q { u with discard := u.discard.erase tag }).count (QUAY_DISC.v q))
    else .next s

end Sys2Proof.Machine
end

