-- ==== Sys2Proof/Machine/Pcie.lean ====
section
/-! DEFINITION. The PCI Express endpoint: link, functions, host requests, the function aperture and MSI-X (R366 to R375,
R390, R393, R394). -/

namespace Sys2Proof.Machine

open Reg

/-! ### Link -/

/-- The TLPs that waited for L0 leave; in D3hot of every function only PMEs do (R374, R393). -/
def State.sendWaiting (s : State) : State :=
  let go := s.pci.waiting.filter fun t => !s.allD3 || (match t with
    | .pme _ => true
    | _ => false)
  let s := { s with pci := { s.pci with waiting := s.pci.waiting.filter fun t => !go.contains t } }
  (s.each go State.leave).sendHostWrites

/-- LINK_UP (R367, R398): the link trains; the operands are what both ends support within PCI_CFG's maxima. -/
def execLinkUp (rate : BitVec 3) (width : BitVec 5) (flit : Bool) (s : State) : Out :=
  if !s.is PCI_CFG.enable then .next s else
  let maxW := 2 ^ s.get PCI_CFG.max_width
  let r := min rate.toNat (s.get PCI_CFG.max_rate)
  let w := min width.toNat maxW
  let s := ((s.put PCI_LINK.ltssm 3).put PCI_LINK.rate r).put PCI_LINK.width w
  let s := (s.putB PCI_LINK.flit (r = 5 || (flit && s.is PCI_CFG.flit_allow))).put PCI_LINK.l1_sub 0
  let s := ({ s with pci := { s.pci with pmL1 := false } }).raise pagePCI0 1 INFO 0x0C11 0 0
  let s := s.when (r < s.get PCI_CFG.max_rate || w < maxW) fun s => s.raise pagePCI0 2 INFO 0x0C12 r w
  .next s.sendWaiting

/-- The host reads and fetches of the stream engine end with the link (R374): reads are answered TARGET_ERR, fetches
are made again. -/
def State.loseHostReads (s : State) : State :=
  s.each s.ctxsOn fun s n =>
    let s := s.each (s.ctx n).work fun s w =>
      match w.desc with
      | some d =>
        if s.srcHost n then
          s.each w.reads fun s r =>
            match (s.ctx n).work.find? fun e : StreamDesc => e.pos = w.pos with
            | some e => s.readAnswer n e d r 1 []
            | none => s
        else s
      | none =>
        if isHost (s.dring n) then
          let c := s.ctx n
          s.setCtx n { c with work := c.work.map fun e : StreamDesc => if e = w then { e with reads := [] } else e }
        else s
    s.showCtx n

/-- LINK_DOWN (R374, R394, R398): host-space requests are answered TARGET_ERR, posted writes are discarded, which later
FLUSHes of their sources tell, and the host's own requests are forgotten. -/
def execLinkDown (s : State) : Out :=
  mirrored (fun s =>
    if s.get PCI_LINK.ltssm = 0 then .next s else
    let s := ((s.put PCI_LINK.ltssm 0).put PCI_LINK.l1_sub 0).count PCI_LINK.downs
    let keep (t : HostTlp) : Bool := match t with
      | .completion _ _ _ => false
      | _ => true
    let s := { s with pci := { s.pci with pmL1 := false, reqs := [], waiting := s.pci.waiting.filter keep } }
    let s := s.raise pagePCI0 0 CONTAINED 0x0C10 0 0
    let s := s.each [portId 5 0 0, portId 6 0 0] fun s q =>
      let v := s.port q
      let host (p : Packet) : Bool := isHost p.addr.toNat
      let s := s.setPort q { v with accepted := v.accepted.filter fun p => !host p, posted := [] }
      let s := s.each (v.accepted.filter host) fun s p => s.answerFrom q p 1 [] false 0
      (s.each v.posted fun s p => s.markLost q p).settleFlushes q
    .next s.loseHostReads) s

/-- ASPM_L1_ENTRY (R374): the idle link enters ASPM L1 (0), L1.1 or L1.2. -/
def execAspmL1Entry (sub : Fin 3) (s : State) : Out :=
  if s.linkOn && s.pci.waiting.isEmpty then
    .next ({ (s.put PCI_LINK.ltssm 6).put PCI_LINK.l1_sub sub with pci := { s.pci with pmL1 := false } })
  else .next s

/-- L1_EXIT (R374, R375, R393): the endpoint is in L0 and sends what waited. -/
def execL1Exit (s : State) : Out :=
  if s.get PCI_LINK.ltssm ≠ 6 then .next s
  else .next ({ (s.put PCI_LINK.ltssm 3).put PCI_LINK.l1_sub 0 with pci := { s.pci with pmL1 := false } }).sendWaiting

/-- LTR_SEND (R375): the latencies of PCI_LTR go to the host. -/
def execLtrSend (s : State) : Out :=
  if s.get PCI_LINK.ltssm = 0 || !s.is PCI_CFG.enable || s.fenced then .next s
  else .next (s.toHost (.ltr (s.word PCI_LTR.off)))

/-! ### Function-level reset -/

/-- The sluices that some register lists. -/
def State.sluices (s : State) : List Nat :=
  ((s.regs.filter fun e : Nat × Word => 0x220000 ≤ e.1 && e.1 < 0x240000 && 0x800 ≤ e.1 % 4096).map
    fun e : Nat × Word => (e.1 - 0x220000) / 4096 * 128 + (e.1 % 4096 - 0x800) / 16).dedup

/-- What an FLR does to one function (R390): its contexts end without records, its sluices are cleared, and its MSI-X
state resets. -/
def State.flrFn (s : State) (k : Nat) : State :=
  let s := s.each (s.se.ctxs.map Prod.fst) fun s n => if s.ctxFn n = k then s.ctxOff n false else s
  let s := s.each s.sluices fun s j =>
    if fnOf (s.get (SLU_TGT.pf j)) (s.get (SLU_TGT.vf j)) = k then
      ((s.setTimer j none).setWord (SLU_STAT.off j) 0).put (SLU_TGT.enable j) 0
    else s
  let s := if k = 0 then
      { s with regs := (s.regs.eraseRange 0x208000 0x210000).eraseRange 0x207000 0x207100 }
    else { s with pci := { s.pci with table := s.pci.table.eraseRange (8192 * k) (8192 * (k + 1)),
                                      pba := s.pci.pba.eraseRange (64 * k) (64 * (k + 1)) } }
  let f := s.fn k
  let s := s.setFn k { inFlr := true, pmeEn := f.pmeEn, pmeStatus := f.pmeStatus }
  { s with pci := { s.pci with holds := s.pci.holds.filter fun h : Nat × Nat × Option Nat => h.1 ≠ k } }

/-- The virtual functions of a physical one. -/
def vfsOf (pf : Nat) : List Nat := (List.range 64).map fun v => 65 * pf + v + 1

/-- An FLR (R390): one of a PF acts on its VFs too, whose VF Enable it clears. -/
def State.flr (s : State) (k : Nat) : State :=
  let pf := k / 65
  let s := if k % 65 = 0 then
      let vfs := (vfsOf pf).filter s.fnPresent
      (s.each vfs fun s v => s.flrFn v).setVfEn pf false
    else s
  s.flrFn k

/-- FLR (R390, R398). -/
def execFlr (f : Fn) (s : State) : Out :=
  mirrored (fun s =>
    if !s.fnPresent (fnNo f) then .next s
    else .next ((s.flr (fnNo f)).raise pagePCI0 3 INFO 0x0C13 (fnNo f) 0)) s

/-- IN_BAND_RESET (R368): an FLR of every function; the device is not reset. -/
def execInBandReset (s : State) : Out :=
  mirrored (fun s => .next ((s.each ([0, 65].filter s.fnPresent) State.flr).raise pagePCI0 3 INFO 0x0C13 130 0)) s

/-- FLR_COMPLETE (R390): the function, and with a PF its VFs, are out of FLR. -/
def execFlrComplete (f : Fn) (s : State) : Out :=
  let k := fnNo f
  let ks := if k % 65 = 0 then k :: vfsOf (k / 65) else [k]
  .next (s.each ks fun s j => if (s.fn j).inFlr then s.setFn j { s.fn j with inFlr := false } else s)

/-! ### Configuration by the host -/

/-- A D-state change (R374, R398): with every physical function in D3hot the link enters PCI-PM L1; the host brings it
back to write D0. -/
def State.setDState (s : State) (k : Nat) (d3 : Bool) : State :=
  if (s.fn k).d3 = d3 then s else
  let s := (s.setFn k { s.fn k with d3 := d3 }).raise pagePCI0 5 INFO 0x0C15 k (if d3 then 3 else 0)
  if d3 then
    if s.allD3 && s.linkLive then
      { s.put PCI_LINK.ltssm 6 with pci := { s.pci with pmL1 := true } }
    else s
  else if s.pci.pmL1 then ({ s.put PCI_LINK.ltssm 3 with pci := { s.pci with pmL1 := false } }).sendWaiting
  else s.when s.linkOn State.sendWaiting

/-- HOST_CONFIG_WRITE (R369, R374, R393, R398): clearing VF Enable acts on the VFs as their reset. -/
def execHostConfigWrite (f : Fn) (w : CfgWrite) (s : State) : Out :=
  mirrored (fun s =>
    let k := fnNo f
    if !s.fnPresent k || s.get PCI_LINK.ltssm = 0 then .next s else
    let v := s.fn k
    match w with
    | .dState d3 => .next (s.setDState k d3)
    | .bme on => .next (s.setFn k { v with bme := on })
    | .msixEnable on => .next (((s.setFn k { v with msix := on }).sendHeld k).sendPending k)
    | .functionMask on => .next ((s.setFn k { v with masked := on }).sendPending k)
    | .pmeEnable on => .next (s.setFn k { v with pmeEn := on })
    | .vfEnable on =>
      if k % 65 ≠ 0 then .next s
      else if on then .next (s.setVfEn (k / 65) true)
      else
        let vfs := (vfsOf (k / 65)).filter s.fnPresent
        let s := (s.each vfs fun s j => (s.flrFn j).setFn j {}).setVfEn (k / 65) false
        .next s
    | .vectorMask vector on =>
      let n := vector.toNat
      if vectorsOf k ≤ n then .next s
      else .next ((s.setMsixWord k n 3 (setBits (s.msixWord k n 3) 0 0 on.toNat)).sendPending k)) s

/-- MSIX_UNMASK (R393): the vector is unmasked, and its pending message goes out. -/
def execMsixUnmask (f : Fn) (vector : BitVec 11) (s : State) : Out :=
  let k := fnNo f
  let n := vector.toNat
  if !s.fnPresent k || decide (vectorsOf k ≤ n) then .next s
  else .next ((s.setMsixWord k n 3 (setBits (s.msixWord k n 3) 0 0 0)).sendPending k)

/-- FUNCTION_REACHABLE (R374, R393, R394): held records are written first, and held messages are sent in order. -/
def execFunctionReachable (f : Fn) (s : State) : Out :=
  mirrored (fun s =>
    let k := fnNo f
    if !s.reachable k then .next s else
    let s := s.each (s.se.ctxs.map Prod.fst) fun s n => if s.ctxFn n = k then s.progress n else s
    .next ((s.sendHeld k).sendPending k)) s

/-! ### Host requests -/

/-- The pieces of a host request, none crossing a 256-byte boundary (R290, R372). -/
def splitReq (a len : Nat) : Nat → List (Nat × Nat)
  | 0 => []
  | k + 1 =>
    if len = 0 then [] else
    let n := min len (256 - a % 256)
    (a, n) :: splitReq (a + n) (len - n) k

/-- The NoC space and the size that a BAR maps (R370). -/
def barSpace (bar : Nat) : Option (Nat × Nat) :=
  match bar with
  | 0 => some (3, 2 ^ 26) | 2 => some (2, 2 ^ 36) | 4 => some (0, 2 ^ 38) | _ => none

/-- A host posted write enters the network piece by piece; one that the decoder refuses is also an Unsupported Request
under AER (R372). -/
def State.hostWrite (s : State) (k bar a : Nat) (data : List Byte) : State :=
  let f := if k = 0 then (PCI_FN_CFG.cls, PCI_FN_CFG.key) else (PCI_FN_CFG1.cls, PCI_FN_CFG1.key)
  s.each (splitReq a data.length (data.length + 1)) fun s c =>
    let r := writeReq (if bar = 0 then .mwr else .wrp) c.1 ((data.drop (c.1 - a)).take c.2) (BitVec.ofNat 2 (s.get f.1)) 0
    let r := { r with key := if bar = 4 then BitVec.ofNat 6 (s.get f.2) else 0 }
    let bad := !requestFits r || (s.destPort 5 c.1).isNone
    (s.issue .pciA r).when bad fun s => s.raise pagePCI0 7 CONTAINED 0x0C17 c.1 k

/-- A host read enters the network: before each destination that posted writes have gone to since its last FLUSH, a
FLUSH, whose answer the reads wait for (R373). -/
def State.hostRead (s : State) (k bar off a len : Nat) : State :=
  let id := s.pci.nextId
  let cs := splitReq a len (len + 1)
  let dests := (cs.filterMap fun c => s.destPort 5 c.1).dedup
  let ds := (s.ini .pciA).written.filter fun d : BitVec 10 × BitVec 2 => dests.contains d.1.toNat
  let pieces : List HostPiece := cs.map fun c => { addr := c.1, len := c.2 }
  let add (s : State) (fences : List (BitVec 12)) : State :=
    { s with pci := { s.pci with nextId := id + 1, reqs := s.pci.reqs ++
      [{ id := id, fn := k, bar := bar, off := off, pieces := pieces, fences := fences }] } }
  if ds.isEmpty then (add s []).sendPieces
  else match s.freeTag .pciA with
    | none => s
    | some t => (add s [t]).flushTo .pciA t ds

/-- HOST_REQUEST (R366, R369, R370, R372, R373, R467): a memory TLP of the host to a BAR. `off` is the offset in the
BAR. -/
def execHostRequest (f : Fn) (bar : Fin 5) (isWrite : Bool) (off : BitVec 38) (len : Fin 4097) (data : List Byte)
    (s : State) : Out :=
  let k := fnNo f
  let id := s.pci.nextId
  let bump (s : State) : State := { s with pci := { s.pci with nextId := id + 1 } }
  let no (status : Nat) : Out := if isWrite then .next s else .next ((bump s).complete id k bar off.toNat status [])
  if len.val = 0 || (isWrite && data.length ≠ len.val) then .fault .illFormed
  else if !s.is PCI_CFG.enable || !s.linkLive then .next s
  else if s.fenced then no 2
  else match barSpace bar with
    | none => no 1
    | some (space, size) =>
      if !s.fnPresent k || k % 65 ≠ 0 || (bar.val = 0 && k ≠ 0) || size < off.toNat + len.val then no 1 else
      let a := space * 2 ^ 52 + off.toNat
      if isWrite then .next (s.hostWrite k bar a data)
      else if bar.val = 0 && (off.toNat % 4 ≠ 0 || len.val % 4 ≠ 0 || 64 < len.val) then no 2
      else .next (s.hostRead k bar off.toNat a len)

/-- HOST_COMPLETION (R372, R398): every NoC answer of a host request is in. -/
def execHostCompletion (id : Nat) (s : State) : Out :=
  match s.pci.reqs.find? fun r : HostReq => r.id = id with
  | none => .next s
  | some r =>
    if r.pieces.any fun c => c.answer.isNone then .next s else
    let s := { s with pci := { s.pci with reqs := s.pci.reqs.erase r } }
    match (r.pieces.filterMap fun c => c.answer).find? fun a : BitVec 4 => a ≠ 0 with
    | none => .next (s.complete r.id r.fn r.bar r.off 0 (r.pieces.flatMap fun c => c.data))
    | some a => .next (s.complete r.id r.fn r.bar r.off (if a = 3 then 1 else 2) [])

/-! ### The function aperture -/

/-- The first context and the number of contexts of a function's range (R371, R397): PF1 has none. -/
def State.ctxRange (s : State) (k : Nat) : Nat × Nat :=
  if k % 65 = 0 then (0, 0) else
  let m := 64 * (k / 65) + k % 65 - 1
  let b := s.get (SE_VF_MAP.base m)
  (b, min (s.get (SE_VF_MAP.count m)) (65536 - b))

/-- The byte of a function aperture outside the doorbells: the MSI-X table and the PBA (R371). -/
def State.apertureByte (s : State) (k o : Nat) : Byte :=
  if o < 16 * vectorsOf k then BitVec.ofNat 8 ((s.msixWord k (o / 16) (o / 4 % 4)).toNat / 2 ^ (8 * (o % 4)))
  else if 0x8000 ≤ o && o < 0x8100 && 8 * (o - 0x8000) < vectorsOf k then
    BitVec.ofNat 8 ((s.pbaWord k ((o - 0x8000) / 4)).toNat / 2 ^ (8 * (o % 4)))
  else 0

/-- Writing a byte of a function's MSI-X table. -/
def State.writeMsixByte (s : State) (k o : Nat) (b : Byte) : State :=
  if o < 16 * vectorsOf k then
    let w := s.msixWord k (o / 16) (o / 4 % 4)
    s.setMsixWord k (o / 16) (o / 4 % 4) (setBits w (8 * (o % 4) + 7) (8 * (o % 4)) b.toNat)
  else s

/-- APERTURE_ACCESS (R371, R398): an access of 1 to 8 bytes in the function aperture of PF1 or a VF. A doorbell acts
only within the function's range and on a context that names it. -/
def execApertureAccess (f : Fn) (off : BitVec 16) (isWrite : Bool) (bytes : Fin 9) (v : BitVec 64) (s : State) : Out :=
  mirrored (fun s =>
    let k := fnNo f
    let o := off.toNat
    let n := bytes.val
    if n = 0 then .fault .illFormed
    else if k = 0 || !s.fnPresent k || !s.is PCI_CFG.enable || !s.linkLive || s.fenced then .next s
    else if o < 0x9000 || 0xB000 ≤ o then
      if isWrite then
        let s := s.each (List.range n) fun s i => s.writeMsixByte k (o + i) (BitVec.ofNat 8 (v.toNat / 2 ^ (8 * i)))
        .next (s.sendPending k)
      else .next (s.answering ((List.range n).map fun i => s.apertureByte k (o + i)))
    else
      let i := (o - 0x9000) / 8
      let at_ := (o - 0x9000) % 8
      let r := s.ctxRange k
      let c := r.1 + i
      if r.2 ≤ i || s.ctxFn c ≠ k then
        let s := (s.count SE_DB_REFUSED.v).raise pageSE0 2 INFO 0x0C03 c k
        .next (s.when (!isWrite) fun s => s.answering (List.replicate n 0))
      else if isWrite then
        let x := v.toNat * 2 ^ (8 * at_)
        let s := s.when (decide (at_ = 0) && decide (2 ≤ n)) fun s => s.writeTail c (BitVec.ofNat 32 (x % 65536))
        let w : Word := BitVec.ofNat 32 (x / 2 ^ 32)
        .next (s.when (decide (at_ ≤ 4) && decide (8 ≤ at_ + n)) fun s =>
          if s.ctxHeld c then s.count PAIR_REFUSED.v
          else (s.when (bit w 29) fun s => s.stopCtx c).when (bit w 30) fun s => s.restartCtx c)
      else
        let bs := toBytes (s.word (SE_SC_IDX.off c)).toNat 4 ++ toBytes (s.word (SE_SC_STAT.off c)).toNat 4
        .next (s.answering ((bs.drop at_).take n))) s

end Sys2Proof.Machine
end

