-- ==== Sys2Proof/Machine/PowerOps.lean ====
section
/-! DEFINITION. The thermal sensors, the throttle, the ageing monitors and the margin planner as operations (R500 to
R510, R513). -/

namespace Sys2Proof.Machine

open Reg

/-! ### Sensors and limits (R500, R503, R504) -/

/-- The power domain that a sensor or a pair of monitor places lies in, by the sensor's number; none where it is one that
stays powered (R498, R500, R505). -/
def sensorDom (n : Nat) : Option Nat :=
  if n < 16 then some (regionDom (12 * (5 * (n / 4) + 2) + 3 * (n % 4) + 1))
  else if n = 18 then some 0x130
  else none

/-- Whether a domain has power (R497). -/
def State.domPowered (s : State) (d : Nat) : Bool := decide (s.get (PWR_DOM.state d) < 2)

/-- Whether a fabric sensor's region has been OPEN for 1 ms (R500). -/
def State.openLong (s : State) (n : Nat) : Bool :=
  if n < 16 then
    match s.pwr.openAt.get (fun _ => none) (12 * (5 * (n / 4) + 2) + 3 * (n % 4) + 1) with
    | none => true
    | some t => decide (t + 1600000 ≤ s.now)
  else true

/-- Whether a sensor takes part: neither stale nor faulty (R500). -/
def State.sensorValid (s : State) (n : Nat) : Bool := !s.is (THM_SENS.stale n) && !s.is (THM_SENS.fault n)

/-- The hottest valid sensor in units of 0.125 °C, none where no sensor is valid (R502, R504). -/
def State.hottest (s : State) : Option Int :=
  (List.range 24).foldl (fun (b : Option Int) n =>
    if s.sensorValid n then
      let t := s.getS (THM_SENS.temp n)
      match b with
      | none => some t
      | some u => some (max t u)
    else b) none

/-- The throttle level as the three levels and the critical action give it (R502, R503, R504). -/
def State.levelNow (s : State) : Nat :=
  if s.pwr.crit || s.pwr.noValid then 15
  else max (s.get THM_STAT.thermal) (max (s.get THM_STAT.cap) (s.get THM_STAT.derating))

/-- The throttle takes the level; a change is an event (R502). -/
def State.applyLevel (s : State) : State :=
  let l := s.levelNow
  if s.get THM_STAT.L = l then s else (s.put THM_STAT.L l).raise pageTHM 3 INFO 0x1113 0 0

/-- Whether the throttle removes edge `i` of a run of 16 at level `l` (R501). -/
def edgeRemoved (l i : Nat) : Bool := decide ((i * l) % 16 < l)

/-- The warning and the critical limit, each with its hysteresis (R503). -/
def State.checkLimits (s : State) (hot : Int) : State :=
  let warn := 8 * s.getS THM_LIMIT.warn
  let crit := 8 * s.getS THM_LIMIT.crit
  let s := if s.pwr.warn then { s with pwr := { s.pwr with warn := decide (warn - 16 < hot) } }
    else if warn ≤ hot then ({ s with pwr := { s.pwr with warn := true } }.raise pageTHM 2 INFO 0x1112 0 0).alert 2
    else s
  if s.pwr.crit then { s with pwr := { s.pwr with crit := decide (crit - 40 < hot) } }
  else if crit ≤ hot then
    (({ s with pwr := { s.pwr with crit := true } }.raise pageTHM 1 CONTAINED 0x1111 0 0).alert 2).applyLevel
  else s

/-- What follows a reading: the hottest valid sensor and the limits, or the state in which no sensor is valid. -/
def State.afterReading (s : State) : State :=
  match s.hottest with
  | some hot =>
    let s := { s with pwr := { s.pwr with noValid := false } }
    (s.putS THM_STAT.hottest hot).checkLimits hot
  | none =>
    if s.pwr.noValid then s
    else ({ s with pwr := { s.pwr with noValid := true } }.raise pageTHM 5 CONTAINED 0x1115 0 0).applyLevel

/-- A reading of sensor `n` (R500): the sensor of a domain without power keeps its value and is stale; one that reads
outside −55 °C to +150 °C is faulty. -/
def State.readSensor (s : State) (n : Nat) (eighths : Int) : State :=
  let dark := match sensorDom n with
    | some d => !s.domPowered d
    | none => false
  if dark then (s.put (THM_SENS.stale n) 1).afterReading
  else
    let bad := decide (eighths < -440) || decide (1200 < eighths)
    let new := bad && !s.is (THM_SENS.fault n)
    let s := (s.putS (THM_SENS.temp n) (max (-2048) (min 2047 eighths))).putB (THM_SENS.fault n) bad
    let s := s.putB (THM_SENS.stale n) (!s.openLong n)
    (s.when new fun s => s.raise pageTHM 4 CONTAINED 0x1114 n 0).afterReading

/-! ### The throttle level (R502) -/

/-- The highest entry of the curve whose threshold does not exceed a temperature. -/
def State.curveEntry (s : State) (hot : Int) : Option Nat :=
  (List.range 16).foldl (fun (b : Option Nat) k =>
    if 8 * s.getS (THM_CURVE.threshold k) ≤ hot then some k else b) none

/-- The curve entry that acts: a rise at once, a fall 2 °C below the entry's threshold. -/
def State.thermalEntry (s : State) (hot : Int) : Option Nat :=
  match s.pwr.entry with
  | none => s.curveEntry hot
  | some k =>
    match s.curveEntry hot with
    | some j => if k ≤ j || hot ≤ 8 * s.getS (THM_CURVE.threshold k) - 16 then some j else some k
    | none => if hot ≤ 8 * s.getS (THM_CURVE.threshold k) - 16 then none else some k

/-- The thermal level. -/
def State.updateThermal (s : State) : State :=
  match s.hottest with
  | none => s.put THM_STAT.thermal 15
  | some hot =>
    let e := s.thermalEntry hot
    let l := match e with
      | some k => s.get (THM_CURVE.level k)
      | none => 0
    { s with pwr := { s.pwr with entry := e } }.put THM_STAT.thermal l

/-- A change of the cap level; a level above 0 is an event (R502, R513). -/
def State.setCap (s : State) (l : Nat) : State :=
  let was := s.get THM_STAT.cap
  (s.put THM_STAT.cap l).when (was = 0 && l ≠ 0) fun s => s.raise pagePWR 6 INFO 0x1107 0 0

/-- One read of the VCCINT power against the cap (R502). -/
def State.capRead (s : State) : State :=
  let cap := s.get PWR_CAP.watts
  if cap = 0 then s else
  let mw := s.get PWR_VCCINT.mv * s.get PWR_VCCINT.amps
  let level := s.get THM_STAT.cap
  if 1000 * cap < mw then
    let raise := decide (4 ≤ s.pwr.capOver)
    let s := { s with pwr := { s.pwr with capOver := min 4 (s.pwr.capOver + 1), capUnder := 0 } }
    if raise then s.setCap (min 15 (level + 1)) else s
  else if mw < 950 * cap then
    let n := s.pwr.capUnder + 1
    let s := { s with pwr := { s.pwr with capOver := 0, capUnder := if n = 10 then 0 else n } }
    if n = 10 then s.setCap (level - 1) else s
  else { s with pwr := { s.pwr with capOver := 0, capUnder := 0 } }

/-! ### The planner (R508, R509) -/

/-- `S`: the highest worst shift of the last 16 sweeps, or the seeded shift where it is larger. -/
def State.planShift (s : State) : Option Int :=
  s.age.worst.foldl (fun (b : Option Int) x => match b with
    | none => some x
    | some y => some (max x y)) s.age.seed

/-- The voltage of the first curve point whose limit is at or above `S`, else of point 31, in mV. -/
def State.curveMv (s : State) (shift : Int) : Nat :=
  s.get (AGE_CURVE.mv (((List.range 32).find? fun k : Nat =>
    decide (shift ≤ (s.get (AGE_CURVE.limit k) : Int))).getD 31))

/-- The temperature offset: of the first point whose bound is at or above the hottest valid sensor, else of point 15. -/
def State.tempMv (s : State) : Int :=
  let k := match s.hottest with
    | none => 15
    | some hot => ((List.range 16).find? fun k : Nat => decide (hot ≤ 8 * s.getS (AGE_TCORR.bound k))).getD 15
  s.getS (AGE_TCORR.mv k)

/-- The guard band in mV. -/
def State.guardMv (s : State) : Nat :=
  if s.is AGE_STAT.settled then s.get AGE_GUARD.settled else s.get AGE_GUARD.full

/-- The unclamped target in mV. -/
def State.rawTarget (s : State) (shift : Int) : Int := s.curveMv shift + s.tempMv + s.guardMv

/-- The clamp to 700 to 850 mV. -/
def clampMv (v : Int) : Nat := (max 700 (min 850 v)).toNat

/-- The step that an unclamped target needs, before the limit of 15 (R509). -/
def deratingNeed (v : Int) (mv : Nat) : Nat :=
  if v ≤ 850 then 0 else ((v - 850).toNat + mv - 1) / mv

/-- The derating step (R509, R513). -/
def State.derate (s : State) (v : Int) (mv : Nat) (shift : Int) : State :=
  let need := deratingNeed v (s.get AGE_CFG.derate_mv)
  let was := s.get AGE_STAT.derate
  let beyond := s.age.beyond
  let i1 := (shift % 2 ^ 64).toNat
  let s := { s with age := { s.age with beyond := decide (15 < need) } }.put AGE_STAT.derate (min need 15)
  let s := s.when (was = 0 && need ≠ 0) fun s => s.raise pageAGE 1 CONTAINED 0x1121 mv i1
  s.when (!beyond && decide (15 < need)) fun s => s.raise pageAGE 5 CONTAINED 0x1125 mv i1

/-- The request that AGE_STAT shows, with the margin; a change is an event (R508). -/
def State.showRequest (s : State) (mv : Nat) (shift : Int) : State :=
  let was := s.get AGE_STAT.request_mv
  let s := (s.put AGE_STAT.request_mv mv).put AGE_STAT.margin_mv (850 - mv)
  s.when (was ≠ mv) fun s => s.raise pageAGE 0 INFO 0x1120 mv (shift % 2 ^ 64).toNat

/-- The request of mode AUTO after a sweep's target, and whether a descent is under way: a rise at once; a fall of at
most 2 mV at each sweep after the one whose target lay at least 3 mV below the request. -/
def autoRequest (present : Option Nat) (descend : Bool) (v : Nat) : Nat × Bool :=
  match present with
  | none => (v, false)
  | some r =>
    if r ≤ v then (v, false)
    else if descend then
      let r' := max v (r - 2)
      (r', decide (r' ≠ v))
    else (r, decide (v + 3 ≤ r))

/-- VOUT_COMMAND's word for a request in mV: round(V × 2^−N) in ULINEAR16 (R510). -/
def voutWord (mv : Nat) (n : Int) : BitVec 16 :=
  BitVec.ofNat 16 ((2 * mv * 2 ^ (-n).toNat + 1000 * 2 ^ n.toNat) / (2000 * 2 ^ n.toNat))

/-- The planner's decision after a sweep (R508, R509). -/
def State.plan (s : State) : State :=
  let mode := s.get AGE_CFG.mode
  match s.planShift with
  | none => s
  | some shift =>
    if mode = 0 then s else
    let raw := s.rawTarget shift
    let v := clampMv raw
    let s :=
      if mode = 2 then
        match s.age.expo with
        | none => s
        | some n =>
          if s.age.stopped then s
          else
            let (r, d) := autoRequest s.age.sent s.age.descend v
            { s with age := { s.age with sent := some r, descend := d, vout := voutWord r n } }.showRequest r shift
      else s.showRequest v shift
    s.derate raw (s.get AGE_STAT.request_mv) shift

/-! ### A sweep (R505) -/

/-- The domain of a monitor, where it can close. -/
def monitorDom (m : Nat) : Option Nat :=
  if m < 480 then some (regionDom (m / 2)) else sensorDom (16 + (m - 480) / 4)

/-- Whether a sweep measures monitor `m`: its domain is OPEN. -/
def State.measures (s : State) (m : Nat) : Bool :=
  match monitorDom m with
  | none => true
  | some d => s.domOpen d

/-- The saturation at ±327.67 %. -/
def clampShift (x : Int) : Int := max (-32767) (min 32767 x)

/-- What no shift reads as. -/
def highDefault : Nat → Option Int := fun _ => none

/-- One measurement. -/
def State.measure (s : State) (m : Nat) (x : Int) : State :=
  let x := clampShift x
  let high := match s.age.highs.get highDefault m with
    | none => x
    | some y => max x y
  let s := (s.putS (AGE_MON.shift m) x).put (AGE_MON.stale m) 0
  { s with age := { s.age with highs := s.age.highs.set highDefault m (some high) } }

/-- The sweep's worst shift. -/
def worstOf : List Int → Option Int
  | [] => none
  | x :: xs => match worstOf xs with
    | none => some x
    | some y => some (max x y)

/-- The sweep is counted, and its worst shift recorded; the sixteenth settles the guard band (R508). -/
def State.countSweep (s : State) (worst : Option Int) : State :=
  let s := s.count AGE_SWEEPS.v
  let age := match worst with
    | none => s.age
    | some w => { s.age with worst := (w :: s.age.worst).take 16, most := match s.age.most with
        | none => some w
        | some x => some (max w x) }
  let s : State := { s with age := { age with asked := false } }
  if s.is AGE_STAT.settled || s.get AGE_SWEEPS.v < 16 then s
  else (s.put AGE_STAT.settled 1).raise pageAGE 2 INFO 0x1122 (s.get AGE_STAT.request_mv)
    (((s.planShift.getD 0) % 2 ^ 64).toNat)

/-- A sweep over the measured shifts: monitors in closed domains keep theirs and are stale. -/
def State.sweepOver (s : State) (shifts : List (Fin 512 × Int)) : State :=
  let s := s.each ((List.range 512).filter fun m : Nat => !s.measures m) fun s m => s.put (AGE_MON.stale m) 1
  let live := shifts.filter fun e : Fin 512 × Int => s.measures e.1.val
  let s := s.each live fun s e => s.measure e.1.val e.2
  (s.countSweep (worstOf (live.map fun e : Fin 512 × Int => clampShift e.2))).plan

/-! ### The summary (R506) -/

/-- A shift as the summary holds it: of a monitor that has never been measured, a free value. -/
def State.shiftBytes (s : State) (x : Option Int) : List Byte × State :=
  match x with
  | some v => (toBytes (v % 2 ^ 16).toNat 2, s)
  | none =>
    let got := s.fresh 16
    let b := got.1
    let s := got.2
    (toBytes b.toNat 2, s)

/-- The highest shifts of the monitors from `m` on. -/
def State.highBytes (s : State) (m : Nat) : Nat → List Byte × State
  | 0 => ([], s)
  | n + 1 =>
    let got := s.shiftBytes (s.age.highs.get highDefault m)
    let b := got.1
    let s := got.2
    let got := s.highBytes (m + 1) n
    let bs := got.1
    let s := got.2
    (b ++ bs, s)

/-- The 4,096 bytes of the summary. -/
def State.summaryBytes (s : State) (seq hours : Nat) : List Byte × State :=
  let got := s.shiftBytes s.age.most
  let top := got.1
  let s := got.2
  let got := s.highBytes 0 512
  let high := got.1
  let s := got.2
  let last := (List.range 512).flatMap fun m => toBytes (s.get (AGE_MON.shift m)) 2
  let body := toBytes 0x5A414745 4 ++ toBytes seq 4 ++ toBytes (s.getWide (DEV_SERIAL.off 0) 2) 8 ++ toBytes hours 4
    ++ top ++ toBytes (s.get AGE_STAT.request_mv) 2 ++ List.replicate 0x3E8 (0xFF : Byte) ++ high ++ last
    ++ List.replicate 0x3FC (0xFF : Byte)
  (body ++ toBytes (crc32 body) 4, s)

/-- An hour's summary is saved, or its page fails and is skipped. -/
def State.saveSummary (s : State) (ok : Bool) : State :=
  let n := s.get AGE_SUM_PAGES.v
  let hours := s.age.hours + 1
  let s : State := { s with age := { s.age with hours := hours } }
  if n < 2 then s else
  let a := s.get AGE_SUM_BASE.v * 4096 + 4096 * (s.age.page % n)
  let i0 := s.get AGE_STAT.request_mv
  let i1 := ((s.planShift.getD 0) % 2 ^ 64).toNat
  let next (s : State) : State := { s with age := { s.age with page := (s.age.page + 1) % n } }
  if ok then
    let seq := (s.age.seq + 1) % 2 ^ 32
    let got := s.summaryBytes seq hours
    let bs := got.1
    let s := got.2
    (next { s.flashStore a bs with age := { s.age with seq := seq } }).raise pageAGE 3 INFO 0x1123 i0 i1
  else (next (s.flashSpoil a 4096)).raise pageAGE 4 CONTAINED 0x1124 i0 i1

/-! ### PMBus (R510) -/

/-- A PMBus fault stops the planner. -/
def State.pmbusStop (s : State) : State :=
  if s.age.stopped then s
  else ({ s with age := { s.age with stopped := true } }.put AGE_STAT.pmb_fault 1).raise pagePWR 4 CONTAINED 0x1105 0 0

/-- `x` × 2^`n`, to the nearest. -/
def scaled (x : Nat) (n : Int) : Nat :=
  if 0 ≤ n then x * 2 ^ n.toNat else (x + 2 ^ ((-n).toNat - 1)) / 2 ^ (-n).toNat

/-- What a PMBus command that has succeeded tells. -/
def State.pmbusRead (s : State) (cmd : BitVec 8) (data : BitVec 16) : State :=
  if cmd = 0x20 then
    if bitsOf (BitVec.ofNat 32 data.toNat) 7 5 = 0 then
      { s with age := { s.age with expo := some (signed 5 data.toNat) } }
    else s.pmbusStop
  else if cmd = 0x8B then
    match s.age.expo with
    | some n => s.put PWR_VCCINT.mv (min 65535 (scaled (data.toNat * 1000) n))
    | none => s
  else if cmd = 0x8C then
    let amps := scaled (max 0 (signed 11 data.toNat)).toNat (signed 5 (data.toNat / 2048))
    (s.put PWR_VCCINT.amps (min 65535 amps)).capRead
  else s

/-- A transaction completes, or fails: the third failure stops the planner. -/
def State.pmbusDone (s : State) (cmd : BitVec 8) (ok : Bool) (data : BitVec 16) : State :=
  if ok then { s with age := { s.age with fails := 0 } }.pmbusRead cmd data
  else
    let n := s.age.fails + 1
    if n < 3 then { s with age := { s.age with fails := n } }
    else { s with age := { s.age with fails := 0 } }.pmbusStop

end Sys2Proof.Machine
end

