-- ==== Sys2Proof/Machine/Power.lean ====
section
/-! DEFINITION. The commands of supplies, power domains, thermal limits and ageing (R493 to R513). -/

namespace Sys2Proof.Machine

open Reg

/-! ### Supplies (R494, R495) -/

/-- A supply's bit of PWR_SUP_STAT. -/
def supplyBit (n : Nat) : Field := ⟨PWR_SUP_STAT.off, n, n⟩

/-- Whether every supply other than VAON is in range. -/
def State.allSupplies (s : State) : Bool := decide (s.get PWR_SUP_STAT.ok = 1023)

/-- SUPPLY_IN_RANGE (R494): a supply reaches range; with the last one, once, the system core leaves reset. -/
def execSupplyInRange (supply : Fin 11) (s : State) : Out :=
  if supply.val = 0 || !s.pwr.vaon then .next s else
  let s := s.put (supplyBit supply.val) 1
  .next (if s.allSupplies then { s with pwr := { s.pwr with tv := true } } else s)

/-- SUPPLY_FAULT (R495): a supply has been out of range for 1 µs. Once tV has passed, that is FATAL, and everything
outside the always-on domain is held in reset. -/
def execSupplyFault (supply : Fin 11) (s : State) : Out :=
  if supply.val = 0 || !s.pwr.vaon then .next s else
  let s := s.put (supplyBit supply.val) 0
  if !s.pwr.tv then .next s
  else
    let s := (s.raise pagePWR 0 FATAL 0x1101 supply.val 0).alert 3
    .next ({ s with pwr := { s.pwr with supply := true } }.warmReset)

/-- SUPPLY_RECOVERED (R495): every supply has been back in range for 1 ms, and the device boots as after a warm reset. -/
def execSupplyRecovered (s : State) : Out :=
  .next (if s.pwr.supply && s.allSupplies then { s with pwr := { s.pwr with supply := false } } else s)

/-! ### Power domains (R496, R497) -/

/-- DOMAIN_CLOSE (R496): a write of PWR_DOM. -/
def execDomainClose (d : DomId) (v : Word) (s : State) : Out := .next (s.writeDom d.toNat v)

/-- DOMAIN_OPEN (R496): a write of PWR_DOM. -/
def execDomainOpen (d : DomId) (v : Word) (s : State) : Out := .next (s.writeDom d.toNat v)

/-- DOMAIN_POWER_OFF (R497): the ports are CLOSED and the block has finished, and the domain's power is removed. -/
def execDomainPowerOff (d : DomId) (s : State) : Out :=
  .next (if s.get (PWR_DOM.state d.toNat) = 1 && s.closeDone d.toNat && allDoms.contains d.toNat then s.domOff d.toNat else s)

/-- DOMAIN_OPENED (R497): power is back and the reopening steps are done. -/
def execDomainOpened (d : DomId) (s : State) : Out :=
  .next (if s.get (PWR_DOM.state d.toNat) = 3 && allDoms.contains d.toNat then s.domOpened d.toNat else s)

/-! ### Thermal (R500 to R504) -/

/-- SENSOR_READING (R500, R503, R504): a sensor reads while VCCAUX is in range; without it the values hold (R527). -/
def execSensorReading (n : Fin 24) (eighths : Int) (s : State) : Out :=
  .next (if s.is (supplyBit 3) then s.readSensor n.val eighths else s)

/-- THROTTLE_UPDATE (R502): every 1 ms the level is the largest of the three. -/
def execThrottleUpdate (s : State) : Out :=
  let s := s.updateThermal.put THM_STAT.derating (if s.is AGE_CFG.derate_thr then s.get AGE_STAT.derate else 0)
  let s := if s.is PWR_CAP.watts then s else
    { s with pwr := { s.pwr with capOver := 0, capUnder := 0 } }.put THM_STAT.cap 0
  .next s.applyLevel

/-- THERM_TRIP_N goes low and the trip is logged (R503). -/
def State.tripNow (s : State) (info : Nat) : State :=
  if s.pwr.trip then s else { s with pwr := { s.pwr with trip := true } }.raise pageTHM 0 FATAL 0x1110 info 0

/-- THERMAL_TRIP (R503): the trip comparator of a sensor that is not faulty acts at 125 °C. -/
def execThermalTrip (n : Fin 24) (s : State) : Out :=
  .next (if s.is (THM_SENS.fault n.val) then s else s.tripNow n.val)

/-- TRIP_SHUTDOWN (R503): the flush has ended or 10 ms have passed: the system clocks are gated, and everything outside
the always-on domain is held in reset. -/
def execTripShutdown (s : State) : Out :=
  .next (if s.pwr.trip && !s.pwr.tripHeld then { s with pwr := { s.pwr with tripHeld := true } }.warmReset else s)

/-- SENSORS_FAULTY_TRIP (R504): all 24 sensors have been faulty for 10 ms. -/
def execSensorsFaultyTrip (s : State) : Out :=
  .next (if (List.range 24).all (fun n => s.is (THM_SENS.fault n)) then s.tripNow 0 else s)

/-! ### Ageing (R505 to R510) -/

/-- AGEING_SWEEP (R505, R508, R509): the monitors are measured, and the planner decides. -/
def execAgeingSweep (shifts : List (Fin 512 × Int)) (s : State) : Out := .next (s.sweepOver shifts)

/-- SWEEP (R505): a write of AGE_MAINT. -/
def execSweep (v : Word) (s : State) : Out := .next (s.writeAge 0x4C AGE_MAINT.off v)

/-- SUMMARY_SAVE (R506): an hour of operation has passed. -/
def execSummarySave (ok : Bool) (s : State) : Out := .next (s.saveSummary ok)

/-- PMBUS_TRANSACTION (R502, R510). -/
def execPmbusTransaction (tx : PmbusTx) (s : State) : Out :=
  .next (if s.age.stopped then s else s.pmbusDone tx.cmd tx.ok tx.data)

/-- PMB_ALERT (R510): the STATUS_WORD that the falling edge of PMB_ALERT_N has made the device read is logged. -/
def execPmbAlert (word : BitVec 16) (s : State) : Out := .next (s.raise pagePWR 5 INFO 0x1106 word.toNat 0)

/-- PMBUS_RETRY (R510): a stopped planner tries again, and resumes when the transaction succeeds. -/
def execPmbusRetry (ok : Bool) (s : State) : Out :=
  .next (if s.age.stopped && ok then { s with age := { s.age with stopped := false, fails := 0 } }.put AGE_STAT.pmb_fault 0 else s)

end Sys2Proof.Machine
end

