-- ==== Sys2Proof/Machine/Registers.lean ====
section
/-! DEFINITION. The commands that reach a register by its offset, and those of a page's header (R9 to R11, R556). -/

namespace Sys2Proof.Machine

open Reg

/-- REGISTER_WRITE (R9, R10): a write that does not cover the four bytes of one register is discarded. -/
def execRegisterWrite (sender : Sender) (off : BitVec 26) (bytes : Fin 5) (v : Word) (s : State) : Out :=
  if bytes.val ≠ 4 || off.toNat % 4 ≠ 0 then .next s
  else mirrored (fun s => .next (s.regWrite sender off.toNat v)) s

/-- RC_READ (R9, R10): a read of a register, or of part of it, returns the addressed bytes and clears the RC fields that
have a bit among them. -/
def State.readPart (s : State) (off n : Nat) : List Byte × State :=
  let base := off - off % 4
  let fs := fieldsAt base
  let s := s.latchFor base
  let bs := ((toBytes (readFields fs (s.shown base)).toNat 4).drop (off % 4)).take n
  (bs, s.setWord base (clearRead fs (off % 4) bs.length (s.word base)))

/-- RC_READ (R9, R10). -/
def execRcRead (off : BitVec 26) (bytes : Fin 5) (s : State) : Out :=
  let got := s.readPart off.toNat bytes.val
  let bs := got.1
  let s := got.2
  .next (s.answering bs)

/-- EVT_CLEAR (R11): a write of EVT, with the bits that hardware sets in the same cycle. -/
def execEvtClear (page : BitVec 14) (v hwSet : Word) (s : State) : Out :=
  match locate (4096 * page.toNat) with
  | some (p, _, 0) => .next (if p.header then s.clearEvents (4096 * page.toNat) v hwSet else s)
  | some (_, _, _ + 1) => .next s
  | none => .next s

/-- EVT_FORCE (R556): a write of EVT_FORCE. -/
def execEvtForce (page : BitVec 14) (v : Word) (s : State) : Out :=
  match locate (4096 * page.toNat) with
  | some (p, i, 0) => .next (if p.header then s.forceEvents (4096 * page.toNat) (evtMask p i) v else s)
  | some (_, _, _ + 1) => .next s
  | none => .next s

/-- PAGE_LOCK_SET (R10, R556): a write of PAGE_LOCK. -/
def execPageLockSet (page : BitVec 14) (v : Word) (s : State) : Out :=
  match locate (4096 * page.toNat) with
  | some (p, _, 0) => .next (if p.header then s.lockPage (4096 * page.toNat) v else s)
  | some (_, _, _ + 1) => .next s
  | none => .next s

end Sys2Proof.Machine
end

