-- ==== Sys2Proof/Machine/Resets.lean ====
section
/-! DEFINITION. The commands of power-on, of the reset pins and of block resets (R12, R29 to R32, R188, R488). -/

namespace Sys2Proof.Machine

open Reg

/-! ### Power -/

/-- VAON_IN_RANGE (R12, R29, R456, R494, R514): the cold reset of the always-on domain; the pins that it samples. -/
def execVaonInRange (pairRole : Bool) (twpAddr : BitVec 3) (s : State) : Out :=
  if s.pwr.vaon then .next s else
  let s : State := { s with pins := { s.pins with pairRole := pairRole, twpAddr := twpAddr } }
  let s := s.coldReset
  let s := (s.putB PAIR_STAT.pin_role pairRole).putB PAIR_STAT.role pairRole
  let s := s.put TWP_CFG.addr (0x58 + twpAddr.toNat)
  .next { s with pwr := { s.pwr with vaon := true } }

/-- POWER_LOSS (R488): every supply is lost; what stands is the fuses and the flash, less what an operation on it was
working on. -/
def execPowerLoss (s : State) : Out := .next s.flashLoss.coldReset

/-! ### The reset pins (R32) -/

/-- The warm reset that the first of the two pins to be asserted begins; the second joins it. -/
def State.pinReset (s : State) : State :=
  if s.pins.perst || s.pins.por || !s.pwr.vaon then s else s.warmReset

/-- PCIE_PERST_N_ASSERT (R32). -/
def execPciePerstNAssert (s : State) : Out :=
  let s := s.pinReset
  .next { s with pins := { s.pins with perst := true } }

/-- PCIE_PERST_N_RELEASE (R32, R524): PCIE_WAKE_N is released. -/
def execPciePerstNRelease (s : State) : Out :=
  .next ({ s with pins := { s.pins with perst := false } }.put TWP_STAT.wake 0)

/-- POR_N_ASSERT (R32). -/
def execPorNAssert (s : State) : Out :=
  let s := s.pinReset
  .next { s with pins := { s.pins with por := true } }

/-- POR_N_RELEASE (R32). -/
def execPorNRelease (s : State) : Out := .next { s with pins := { s.pins with por := false } }

/-! ### The root clock (R188) -/

/-- ROOT_LOCK_LOST (R188): the root PLL loses lock while its reference is READY: FATAL, a warm reset, and after the third
in one cold-reset period the system core is held. -/
def execRootLockLost (s : State) : Out :=
  if !s.is CLK_SRC_STAT.root_ready || !s.rootRefReady (s.get CLK_SEL.root_ref) then .next s else
  let s := ((s.leaveReady .root true).raise pageCLK 8 FATAL 0x0609 0 0).count CLK_SRC_STAT.root_faults
  let s := s.warmReset
  .next (if s.get CLK_SRC_STAT.root_faults < 3 then s else { s with clk := { s.clk with coreHeld := true } })

/-! ### Block reset (R31) -/

/-- BLK_RESET (R31, R556): a write of CTRL. -/
def execBlkReset (b : ResetBlock) (v : Word) (s : State) : Out := .next (s.writeCtrl b v)

/-- BLOCK_RESET_APPLY (R31): the instance's ports are CLOSED. -/
def execBlockResetApply (b : ResetBlock) (s : State) : Out :=
  .next (if s.is (STATUS.in_reset (blockPage b)) && (blockPorts b).all (fun p => s.portState p = 2) then s.applyBlock b else s)

end Sys2Proof.Machine
end

