-- ==== Sys2Proof/Machine/SliceOps.lean ====
section
/-! DEFINITION. The arithmetic of a slice: fixed-point products and accumulation, rounding, and the fused floating-point
operations (R103 to R116, R118 to R121). -/

namespace Sys2Proof.Machine

/-! ### Fixed point -/

/-- Bits [hi:lo] of an operand read as signed. -/
def sfield {w : Nat} (v : BitVec w) (hi lo : Nat) : Int := signed (hi + 1 - lo) (v.toNat / 2 ^ lo)

/-- Bits [hi:lo] of an operand read as unsigned. -/
def ufield {w : Nat} (v : BitVec w) (hi lo : Nat) : Int := ((v.toNat / 2 ^ lo % 2 ^ (hi + 1 - lo) : Nat) : Int)

/-- A number clamped to w signed bits. -/
def clampBits (w : Nat) (v : Int) : Int := max (-(2 ^ (w - 1) : Nat)) (min v ((2 ^ (w - 1) : Nat) - 1))

/-- The pre-sum (R103). -/
def preSum (cfg : SliceCfg) (x : Sample) : BitVec 27 :=
  let u := x.u.toInt
  let w := x.w.toInt
  let sat (v : Int) : BitVec 27 := BitVec.ofInt 27 (if cfg.preSat then clampBits 27 v else v)
  match x.pre.toNat with
  | 0 => x.u
  | 1 => sat (w + u)
  | 2 => sat (w - u)
  | _ => x.w

/-- Which modes are floating point, and which form one half of a complex pair (R112, R116). -/
def isFloat : SliceMode → Bool
  | .fp32 => true | .fp16 => true | .bf16 => true | .dotFp16 => true | .dotBf16 => true
  | .one27 => false | .two18 => false | .four9 _ => false | .complexRe => false | .complexIm => false
def isComplex : SliceMode → Bool
  | .complexRe => true | .complexIm => true
  | .fp32 => false | .fp16 => false | .bf16 => false | .dotFp16 => false | .dotBf16 => false
  | .one27 => false | .two18 => false | .four9 _ => false

/-- The product of a fixed-point mode (R104, R116). The partner's operands of a complex pair are c and d beside slice 2p,
a and b beside slice 2p + 1. -/
def product (mode : SliceMode) (x : Sample) : Int :=
  match mode with
  | .one27 => x.ps.toInt * x.v.toInt
  | .two18 => sfield x.u 17 0 * sfield x.v 18 0 + sfield x.w 17 0 * sfield x.k 18 0
  | .four9 un =>
    let f (v : BitVec 27) (hi lo : Nat) : Int := if un then ufield v hi lo else sfield v hi lo
    let kf : Int := if un then ufield x.k 8 0 else sfield x.k 8 0
    f x.u 8 0 * f x.v 8 0 + f x.u 17 9 * f x.v 17 9 + f x.u 26 18 * f x.v 26 18 + f x.w 8 0 * kf
  | .complexRe =>
    let a := sfield x.u 17 0
    let b := sfield x.v 17 0
    let c := sfield x.pu 17 0
    let d := sfield x.pv 17 0
    c * (a + b) - b * (c + d)
  | .complexIm =>
    let c := sfield x.u 17 0
    let d := sfield x.v 17 0
    let a := sfield x.pu 17 0
    let b := sfield x.pv 17 0
    c * (a + b) + a * (d - c)
  | .fp32 => 0 | .fp16 => 0 | .bf16 => 0 | .dotFp16 => 0 | .dotBf16 => 0

/-- The operation that an OP code gives in a mode: codes that are reserved or not allowed act as 0xB (R105, R106). -/
def opOf (mode : SliceMode) (op : BitVec 4) : Nat :=
  let o := op.toNat
  let kOps := decide (mode = .one27) || isFloat mode || isComplex mode
  let allowed :=
    if o = 2 || o = 3 || o = 8 then kOps
    else if o = 9 || o = 10 then decide (mode = .one27) || isComplex mode
    else if o = 12 then decide (mode = .one27)
    else decide (o ≤ 11)
  if allowed then o else 11

/-- The true signed result of an accumulator update (R105), none where the accumulator is unchanged. -/
def accTrue (op : Nat) (acc csi k : BitVec 64) (prd : Int) : Option Int :=
  match op with
  | 0 => some 0
  | 1 => some prd
  | 2 => some (k.toInt + prd)
  | 3 => some (k.toInt - prd)
  | 4 => some (acc.toInt + prd)
  | 5 => some (acc.toInt - prd)
  | 6 => some (csi.toInt + prd)
  | 7 => some (csi.toInt - prd)
  | 8 => some k.toInt
  | 9 => some (acc.toInt + k.toInt)
  | 10 => some (csi.toInt + k.toInt)
  | 12 => some (csi.toInt / 2 ^ 17 + prd)
  | _ => none

/-- Whether a number fits w signed bits. -/
def fitsBits (w : Nat) (v : Int) : Bool := decide (-(2 ^ (w - 1) : Nat) ≤ v) && decide (v < (2 ^ (w - 1) : Nat))

/-- A number divided by 2^s and rounded half to even (R110). -/
def shiftHalfEven (v : Int) (s : Nat) : Int :=
  if s = 0 then v else
  let q := v / (2 ^ s : Nat)
  let r := v % (2 ^ s : Nat)
  let h : Int := (2 ^ (s - 1) : Nat)
  if h < r then q + 1 else if r = h then (if q % 2 = 0 then q else q + 1) else q

/-- The quotient of the rounding stage (R110). -/
def roundShift (m : RoundMode) (v : Int) (s : Nat) : Int :=
  if s = 0 then v else
  match m with
  | .trunc => v / (2 ^ s : Nat)
  | .halfUp => (v + (2 ^ (s - 1) : Nat)) / (2 ^ s : Nat)
  | .halfEven => shiftHalfEven v s

/-- The rounding stage: Q and SAT (R110). -/
def roundStage (cfg : SliceCfg) (acc : BitVec 64) : BitVec 64 × Bool :=
  let q := roundShift cfg.round acc.toInt cfg.shift.val
  if cfg.satw.val < 64 && !fitsBits cfg.satw.val q then (BitVec.ofInt 64 (clampBits cfg.satw.val q), true)
  else (BitVec.ofInt 64 q, false)

/-- A sample shifted by the block's shift: right with rounding half to even, or left (R119). -/
def blockShift {w : Nat} (s : Int) (v : BitVec w) : BitVec w :=
  if 0 ≤ s then BitVec.ofInt w (shiftHalfEven v.toInt s.toNat) else BitVec.ofInt w (v.toInt * (2 ^ (-s).toNat : Nat))

/-- Bits [hi:lo] of an operand shifted by the block's shift, as the mode reads them, the other bits as they are (R119). -/
def shiftField {w : Nat} (s : Int) (un : Bool) (v : BitVec w) (hi lo : Nat) : BitVec w :=
  let x : Int := if un then ufield v hi lo else sfield v hi lo
  let y : Int := if 0 ≤ s then shiftHalfEven x s.toNat else x * (2 ^ (-s).toNat : Nat)
  let y := (y % (2 ^ (hi + 1 - lo) : Nat)).toNat
  BitVec.ofNat w (v.toNat / 2 ^ (hi + 1) * 2 ^ (hi + 1) + y * 2 ^ lo + v.toNat % 2 ^ lo)

/-- The samples on U, W and K and the partner's shifted by the block's shift, each operand of the mode by itself; V is
never shifted (R104, R116, R118, R119). -/
def alignSample (mode : SliceMode) (s : Int) (x : Sample) : Sample :=
  match mode with
  | .two18 => { x with u := shiftField s false x.u 17 0, w := shiftField s false x.w 17 0, k := shiftField s false x.k 18 0 }
  | .four9 un =>
    { x with u := shiftField s un (shiftField s un (shiftField s un x.u 8 0) 17 9) 26 18
             w := shiftField s un x.w 8 0, k := shiftField s un x.k 8 0 }
  | .complexRe => { x with u := shiftField s false x.u 17 0, pu := shiftField s false x.pu 17 0, k := blockShift s x.k }
  | .complexIm => { x with u := shiftField s false x.u 17 0, pu := shiftField s false x.pu 17 0, k := blockShift s x.k }
  | .one27 => { x with u := blockShift s x.u, w := blockShift s x.w, k := blockShift s x.k }
  | .fp32 => x | .fp16 => x | .bf16 => x | .dotFp16 => x | .dotBf16 => x

/-- The headroom of a value within M bits: leading bits equal to the sign bit, less one (R121). -/
def headroom (m : Nat) (v : Int) : Nat :=
  let a : Nat := if v < 0 then (-v - 1).toNat else v.toNat
  m - 1 - (if a = 0 then 0 else Nat.log2 a + 1)

/-! ### Floating point -/

/-- A binary format: exponent and mantissa widths. -/
structure FpFormat where
  e : Nat
  m : Nat
deriving DecidableEq, Repr

/-- The formats of R112. -/
def fpSingle : FpFormat := ⟨8, 23⟩
def fpHalf : FpFormat := ⟨5, 10⟩
def fpBrain : FpFormat := ⟨8, 7⟩

/-- A floating-point value: a NaN with its sign and mantissa, an infinity, or sign × mant × 2^exp. -/
inductive FpVal where
  | nan (neg : Bool) (mant : Nat)
  | inf (neg : Bool)
  | fin (neg : Bool) (mant : Nat) (exp : Int)
deriving DecidableEq, Repr

/-- The bias of a format. -/
def FpFormat.bias (f : FpFormat) : Int := (2 ^ (f.e - 1) : Nat) - 1

/-- Reading a value; with flush-to-zero a subnormal reads as zero of its sign (R113). -/
def fpRead (f : FpFormat) (ftz : Bool) (v : Nat) : FpVal :=
  let man := v % 2 ^ f.m
  let ex := v / 2 ^ f.m % 2 ^ f.e
  let neg := v / 2 ^ (f.m + f.e) % 2 = 1
  if ex = 2 ^ f.e - 1 then (if man = 0 then .inf neg else .nan neg man)
  else if ex = 0 then .fin neg (if ftz then 0 else man) (1 - f.bias - f.m)
  else .fin neg (man + 2 ^ f.m) ((ex : Int) - f.bias - f.m)

/-- Whether a NaN is signalling: its mantissa MSB is 0. -/
def signalling (f : FpFormat) : FpVal → Bool
  | .nan _ m => decide (m / 2 ^ (f.m - 1) % 2 = 0)
  | .inf _ => false
  | .fin _ _ _ => false

/-- The flags NV, OF, UF and NX, NV in bit 3 (R115). -/
def fpNV : Nat := 8
def fpOF : Nat := 4
def fpUF : Nat := 2
def fpNX : Nat := 1

/-- The default NaN (R114). -/
def defaultNan (f : FpFormat) : Nat := (2 ^ f.e - 1) * 2 ^ f.m + 2 ^ (f.m - 1)

/-- Packing sign, biased exponent and mantissa. -/
def fpPack (f : FpFormat) (neg : Bool) (ex man : Nat) : Nat := neg.toNat * 2 ^ (f.e + f.m) + ex * 2 ^ f.m + man

/-- Rounding an exact non-zero value to a format, to nearest with ties to even, with its flags (R113, R114). -/
def fpRound (f : FpFormat) (ftz satOvf neg : Bool) (mant : Nat) (exp : Int) : Nat × Nat :=
  let top : Int := exp + Nat.log2 mant
  let least : Int := 1 - f.bias
  let unit : Int := max top least - f.m
  let q : Int := if unit ≤ exp then (mant : Int) * (2 ^ (exp - unit).toNat : Nat) else shiftHalfEven mant (unit - exp).toNat
  let exact : Bool := unit ≤ exp || decide ((mant : Int) % (2 ^ (unit - exp).toNat : Nat) = 0)
  let q := q.toNat
  let (q, unit) := if 2 ^ (f.m + 1) ≤ q then (q / 2, unit + 1) else (q, unit)
  let ex : Int := if q < 2 ^ f.m then 0 else unit + f.m + f.bias
  if (2 ^ f.e - 1 : Nat) ≤ ex then
    (if satOvf then fpPack f neg (2 ^ f.e - 2) (2 ^ f.m - 1) else fpPack f neg (2 ^ f.e - 1) 0, fpOF + fpNX)
  else if q < 2 ^ f.m then
    if ftz then (fpPack f neg 0 0, fpUF + fpNX)
    else (fpPack f neg 0 q, if exact then 0 else fpUF + fpNX)
  else (fpPack f neg ex.toNat (q - 2 ^ f.m), if exact then 0 else fpNX)

/-- The sign of a product, and the exact product of two finite values. -/
def fpNeg : FpVal → Bool
  | .nan n _ => n | .inf n => n | .fin n _ _ => n
def isZero : FpVal → Bool
  | .fin _ m _ => decide (m = 0) | .nan _ _ => false | .inf _ => false
def isInf : FpVal → Bool
  | .inf _ => true | .nan _ _ => false | .fin _ _ _ => false

/-- A value with its sign inverted where `b` holds; a NaN keeps its sign. -/
def fpFlip (b : Bool) : FpVal → FpVal
  | .nan n m => .nan n m
  | .inf n => .inf (xor b n)
  | .fin n m e => .fin (xor b n) m e

/-- The product of two values that are no NaN: none for infinity times zero. -/
def fpMul (x y : FpVal) : Option FpVal :=
  let neg := xor (fpNeg x) (fpNeg y)
  if isInf x || isInf y then (if isZero x || isZero y then none else some (.inf neg))
  else match x, y with
    | .fin _ a p, .fin _ b q => some (.fin neg (a * b) (p + q))
    | _, _ => none

/-- The exact sum of addends rounded once (R113, R114). -/
def fpSum (f : FpFormat) (ftz satOvf : Bool) (l : List FpVal) : Nat × Nat :=
  let infs := l.filter isInf
  if !infs.isEmpty then
    if infs.all fpNeg then (fpPack f true (2 ^ f.e - 1) 0, 0)
    else if infs.all (fun v => !fpNeg v) then (fpPack f false (2 ^ f.e - 1) 0, 0)
    else (defaultNan f, fpNV)
  else
    let least : Int := l.foldl (fun a v => match v with | .fin _ _ e => min a e | .nan _ _ => a | .inf _ => a) 0
    let sum : Int := l.foldl (fun a v => match v with
      | .fin n m e => a + (if n then -1 else 1) * (m : Int) * (2 ^ (e - least).toNat : Nat)
      | .nan _ _ => a
      | .inf _ => a) 0
    if sum = 0 then (fpPack f (!l.isEmpty && l.all fpNeg) 0 0, 0)
    else fpRound f ftz satOvf (decide (sum < 0)) sum.natAbs least

/-- The first NaN of the inputs as the result shows it (R114): made quiet, sign and payload kept, a payload of a narrower
format at the top of the result's mantissa. -/
def firstNan (f : FpFormat) : List (FpFormat × FpVal) → Option Nat
  | [] => none
  | (g, v) :: rest => match v with
    | .nan n m =>
      let q := m / 2 ^ (g.m - 1) % 2
      some (fpPack f n (2 ^ f.e - 1) ((m + (if q = 0 then 2 ^ (g.m - 1) else 0)) * 2 ^ (f.m - g.m)))
    | .inf _ => firstNan f rest
    | .fin _ _ _ => firstNan f rest

/-- A fused operation: the sum of products and an addend, in format `f`, with inputs in format `g` (R113, R114).
`negP` subtracts the products. -/
def fpFused (f g : FpFormat) (cfg : SliceCfg) (negP : Bool) (pairs : List (Nat × Nat)) (z : Option Nat) : Nat × Nat :=
  let rd (h : FpFormat) (v : Nat) := fpRead h cfg.ftz v
  let ps := pairs.map fun p => (rd g p.1, rd g p.2)
  let zs := z.toList.map (rd f)
  let prods := ps.map fun p => fpMul p.1 p.2
  let invalid := ps.any fun p => (isInf p.1 && isZero p.2) || (isZero p.1 && isInf p.2)
  let ins := (ps.flatMap fun p => [(g, p.1), (g, p.2)]) ++ zs.map fun v => (f, v)
  match firstNan f ins with
  | some r => (r, if invalid || ins.any (fun i => signalling i.1 i.2) then fpNV else 0)
  | none =>
    if invalid then (defaultNan f, fpNV)
    else fpSum f cfg.ftz cfg.satOvf ((prods.filterMap id).map (fpFlip negP) ++ zs)

/-- One floating-point operation under OP: its result, and its flags; none where the value is kept (R112). -/
def fpOp (f g : FpFormat) (cfg : SliceCfg) (op : Nat) (pairs : List (Nat × Nat)) (k acc csi : Nat) : Option (Nat × Nat) :=
  match op with
  | 0 => some (0, 0)
  | 1 => some (fpFused f g cfg false pairs none)
  | 2 => some (fpFused f g cfg false pairs (some k))
  | 3 => some (fpFused f g cfg true pairs (some k))
  | 4 => some (fpFused f g cfg false pairs (some acc))
  | 5 => some (fpFused f g cfg true pairs (some acc))
  | 6 => some (fpFused f g cfg false pairs (some csi))
  | 7 => some (fpFused f g cfg true pairs (some csi))
  | 8 => some (k, 0)
  | _ => none

/-- The operands of the floating-point modes (R112). -/
def fpX32 (x : Sample) : Nat := x.w.toNat % 32 * 2 ^ 27 + x.u.toNat
def fpY32 (x : Sample) : Nat := x.w.toNat / 32 % 32 * 2 ^ 27 + x.v.toNat
def fpLane (v wbits n : Nat) : Nat := if n = 0 then v % 2 ^ 16 else wbits * 2 ^ 11 + v / 2 ^ 16
def fpXLane (x : Sample) (n : Nat) : Nat := fpLane x.u.toNat (x.w.toNat % 32) n
def fpYLane (x : Sample) (n : Nat) : Nat := fpLane x.v.toNat (x.w.toNat / 32 % 32) n

/-- The accumulator of a floating-point mode after an operation: the value and the flags of both lanes (R112, R115). -/
def fpAcc (cfg : SliceCfg) (x : Sample) (acc csi : BitVec 64) : BitVec 64 × BitVec 8 :=
  let op := opOf cfg.mode x.op
  let one (r : Option (Nat × Nat)) : BitVec 64 × BitVec 8 := match r with
    | some (v, fl) => (BitVec.ofNat 64 v, BitVec.ofNat 8 fl)
    | none => (acc, 0)
  let lanes (f : FpFormat) : BitVec 64 × BitVec 8 :=
    let lane (n : Nat) := fpOp f f cfg op [(fpXLane x n, fpYLane x n)] (x.k.toNat / 2 ^ (16 * n) % 2 ^ 16)
      (acc.toNat / 2 ^ (16 * n) % 2 ^ 16) (csi.toNat / 2 ^ (16 * n) % 2 ^ 16)
    match lane 0, lane 1 with
    | some (a, fa), some (b, fb) => (BitVec.ofNat 64 (a + b * 2 ^ 16), BitVec.ofNat 8 (fa + fb * 16))
    | _, _ => (acc, 0)
  let dot (g : FpFormat) : BitVec 64 × BitVec 8 :=
    one (fpOp fpSingle g cfg op [(fpXLane x 0, fpYLane x 0), (fpXLane x 1, fpYLane x 1)] (x.k.toNat % 2 ^ 32)
      (acc.toNat % 2 ^ 32) (csi.toNat % 2 ^ 32))
  match cfg.mode with
  | .fp32 => one (fpOp fpSingle fpSingle cfg op [(fpX32 x, fpY32 x)] (x.k.toNat % 2 ^ 32) (acc.toNat % 2 ^ 32)
      (csi.toNat % 2 ^ 32))
  | .fp16 => lanes fpHalf
  | .bf16 => lanes fpBrain
  | .dotFp16 => dot fpHalf
  | .dotBf16 => dot fpBrain
  | .one27 => (acc, 0) | .two18 => (acc, 0) | .four9 _ => (acc, 0) | .complexRe => (acc, 0) | .complexIm => (acc, 0)

end Sys2Proof.Machine
end

