-- ==== Sys2Proof/Machine/Slices.lean ====
section
/-! DEFINITION. Arithmetic slices at a clock edge: pipeline, accumulator, rounding, match outputs, block-floating-point
chains and the gearbox of hard-pipeline mode (R101 to R129). -/

namespace Sys2Proof.Machine

/-- The register stages of a mode between S3 and S4 in normal mode (R117, R127). -/
def extraStages (cfg : SliceCfg) : Nat :=
  if cfg.bfp.isSome then 1 else
  match cfg.mode with
  | .complexRe => 1 | .complexIm => 1 | .fp16 => 1 | .bf16 => 1 | .fp32 => 2 | .dotFp16 => 2 | .dotBf16 => 2
  | .one27 => 0 | .two18 => 0 | .four9 _ => 0

/-- Whether S5 is in use: by configuration in fixed point, always in a block-floating-point slice, never in floating
point (R108, R110, R115, R120). -/
def usesS5 (cfg : SliceCfg) : Bool := cfg.bfp.isSome || (cfg.s5 && !isFloat cfg.mode)

/-- The internal latency in hard-pipeline mode (R127). -/
def hardLatency (cfg : SliceCfg) : Nat :=
  if cfg.bfp.isSome then 8 else
  match cfg.mode with
  | .one27 => 6 + cfg.s5.toNat | .two18 => 6 + cfg.s5.toNat | .four9 _ => 6 + cfg.s5.toNat
  | .complexRe => 7 + cfg.s5.toNat | .complexIm => 7 + cfg.s5.toNat
  | .fp16 => 8 | .bf16 => 8 | .fp32 => 10 | .dotFp16 => 10 | .dotBf16 => 10

/-- What reaches a slice from others: the block values of the slice before it in its chain, and its pair partner's
result (R119, R121). -/
structure Neighbours where
  shift : Int
  exp   : BitVec 8
  part  : BitVec 64
deriving DecidableEq, Repr

/-- The shift and output exponent of a block (R119). -/
def blockValues (b : BfpCfg) (expIn : BitVec 8) (hrIn : Nat) : Int × BitVec 8 :=
  let s : Int := if b.norm then (b.g.val : Int) - hrIn else max 0 ((b.g.val : Int) - hrIn)
  let e := clampBits 8 (expIn.toInt + s)
  (e - expIn.toInt, BitVec.ofInt 8 e)

/-- A sample as it enters, aligned by its block (R119, R122), and the slice's block values after it. -/
def enterSample (cfg : SliceCfg) (v : SliceState) (nb : Neighbours) (ops : SliceOps) (pu pv : BitVec 27) (bstart blast : Bool)
    (expIn : BitVec 8) (hrIn : BitVec 5) : Sample × SliceState :=
  let x : Sample := { u := ops.u, v := ops.v, w := ops.w, k := ops.k, op := ops.op, pre := ops.pre, pu := pu, pv := pv }
  match cfg.bfp with
  | none => (x, v)
  | some b =>
    let (s, e) := if !bstart then (v.shift, v.exp)
      else if b.first then blockValues b expIn hrIn.toNat else (nb.shift, nb.exp)
    ({ alignSample cfg.mode s x with
              bstart := bstart, blast := blast, blk := bstart || v.inBlock, shift := s, exp := e },
      { v with shift := s, exp := e, inBlock := (bstart || v.inBlock) && !blast })

/-- S2's pre-sum and S3's product of a sample (R103, R104). -/
def preStage (cfg : SliceCfg) (x : Sample) : Sample := { x with ps := preSum cfg x }
def mulStage (cfg : SliceCfg) (x : Sample) : Sample := { x with prd := BitVec.ofInt 64 (product cfg.mode x) }

/-- The accumulator after a sample (R105 to R107, R111, R112). -/
def accNext (cfg : SliceCfg) (acc : Result) (csi : BitVec 64) (clearIt : Bool) (x : Sample) : Result :=
  if clearIt then { val := 0, flag := 0, of_ := x }
  else if isFloat cfg.mode then
    let r := fpAcc cfg x acc.val csi
    { val := r.1, flag := r.2, of_ := x }
  else match accTrue (opOf cfg.mode x.op) acc.val csi x.k x.prd.toInt with
    | none => { val := acc.val, flag := 0, of_ := x }
    | some t => { val := BitVec.ofInt 64 t, flag := if fitsBits 64 t then 0 else 1, of_ := x }

/-- What S5 takes from the accumulator (R110, R120): SAT in bit 1. -/
def roundResult (cfg : SliceCfg) (a : Result) : Result :=
  match cfg.bfp with
  | some b =>
    let q := shiftHalfEven a.val.toInt b.f.val
    { val := BitVec.ofInt 64 (clampBits b.m.val q), flag := if fitsBits b.m.val q then 0 else 2, of_ := a.of_ }
  | none =>
    let r := roundStage cfg a.val
    { val := r.1, flag := if r.2 then 2 else 0, of_ := a.of_ }

/-- EQ in bit 2 and EQN in bit 3 of a value on RES (R111). -/
def matchBits (cfg : SliceCfg) (r : Result) : BitVec 8 :=
  let m := if cfg.matchK then r.of_.k else cfg.matchV
  (if (r.val ^^^ m) &&& ~~~cfg.ignore = 0 then 4 else 0) ||| (if (r.val ^^^ ~~~m) &&& ~~~cfg.ignore = 0 then 8 else 0)

/-- The block outputs of a result (R119, R121): exponent, markers, and in the chain's last slice the headroom. -/
def blockOutputs (cfg : SliceCfg) (nb : Neighbours) (v : SliceState) (r : Result) : SliceState :=
  match cfg.bfp with
  | none => v
  | some b =>
    let x := r.of_
    let h := headroom b.m.val r.val.toInt
    let h := if isComplex cfg.mode then min h (headroom b.m.val nb.part.toInt) else h
    let least := if x.bstart then h else match v.least with
      | some l => min l h
      | none => h
    let v := { v with expOut := x.exp, bstOut := x.bstart, blsOut := x.blast, hrValid := false }
    if !b.last || !x.blk then v
    else if x.blast then { v with hrOut := BitVec.ofNat 5 least, hrValid := true, least := none }
    else { v with least := some least }

/-- The last of a line of `n` samples. -/
def lineEnd (l : List Sample) (n : Nat) : Sample := (l[n - 1]?).getD {}

/-- A line of `n` samples with one more at its front. -/
def lineIn (l : List Sample) (n : Nat) (x : Sample) : List Sample := (x :: l).take n

/-- An edge of CLK in normal mode (R106 to R111): registers take what stood before them, and the outputs follow the
registers. -/
def normalEdge (cfg : SliceCfg) (nb : Neighbours) (pins : SlicePins) (v : SliceState) : SliceState :=
  let (x0, w) := enterSample cfg v nb pins.even pins.pu pins.pv pins.bstart pins.blast pins.expIn pins.hrIn
  let (shiftWas, expWas) := (v.shift, v.exp)
  let v := if pins.eni && !pins.cli then w else v
  let e := extraStages cfg
  let step (clr en : Bool) (old new : Sample) : Sample := if clr then {} else if en then new else old
  let i2 := preStage cfg (if cfg.s1 then v.s1 else x0)
  let i3 := mulStage cfg (if cfg.s2 then v.s2 else i2)
  let i4 := if cfg.s3 then v.s3 else i3
  let i5 := if e = 0 then i4 else lineEnd v.extra e
  let n1 := step pins.cli pins.eni v.s1 x0
  let n2 := step pins.cli pins.eni v.s2 i2
  let n3 := step pins.clp pins.enp v.s3 i3
  let nx := if pins.clp then [] else if pins.enp then lineIn v.extra e i4 else v.extra
  let next := accNext cfg v.acc pins.csi v.clearIt i5
  let na : Result := if pins.cla then {} else if pins.ena then next
    else if isFloat cfg.mode then v.acc else { v.acc with flag := 0 }
  let nr : Result := if pins.cla then {} else if pins.ena then roundResult cfg (if cfg.s4 then v.acc else next) else v.res
  let o2 := preStage cfg (if cfg.s1 then n1 else x0)
  let o3 := mulStage cfg (if cfg.s2 then n2 else o2)
  let o4 := if cfg.s3 then n3 else o3
  let o5 := if e = 0 then o4 else lineEnd nx e
  let oa := if cfg.s4 then na else accNext cfg na pins.csi false o5
  let out := if usesS5 cfg then nr else oa
  let eq := if pins.cla || isFloat cfg.mode then 0 else if pins.ena then matchBits cfg out else v.outFlag &&& 12
  let v := { v with
    s1 := n1, s2 := n2, s3 := n3, extra := nx, acc := na, res := nr, outRes := out.val, cso := oa.val
    shiftWas := shiftWas, expWas := expWas
    outFlag := if isFloat cfg.mode then out.flag else (oa.flag &&& 1) ||| (out.flag &&& 2) ||| eq
    clearIt := if pins.ena || pins.cla then cfg.autoClear && eq.getLsbD 2 else v.clearIt }
  if pins.ena && !pins.cla then blockOutputs cfg nb v out else v

/-- One HCLK edge of the internal pipeline (R123 to R125): a sample enters, one reaches the accumulator, and a result
joins those that the output gearbox holds. -/
def hardShift (cfg : SliceCfg) (nb : Neighbours) (pins : SlicePins) (v : SliceState) : SliceState :=
  let n := hardLatency cfg - 1 - (usesS5 cfg).toNat
  let x := (v.pair.head?).getD {}
  let x := mulStage cfg (preStage cfg x)
  let out := lineEnd v.line n
  let line := lineIn v.line n x
  let next := accNext cfg v.acc pins.csi v.clearIt out
  let rs := roundResult cfg v.acc
  let (ci, cp, ca) := v.clears
  let line := (List.range n).map fun i =>
    if (if i < 2 then ci else cp) then ({} : Sample) else lineEnd line (i + 1)
  let acc : Result := if ca then {} else next
  let res : Result := if ca then {} else rs
  let r := if usesS5 cfg then res else acc
  let eq := if ca || isFloat cfg.mode then 0 else matchBits cfg r
  let fl := if isFloat cfg.mode then r.flag else (acc.flag &&& 1) ||| (r.flag &&& 2) ||| eq
  let v := { v with
    line := line, pair := v.pair.drop 1, acc := acc, res := res, cso := acc.val
    clearIt := cfg.autoClear && eq.getLsbD 2, held := ({ r with flag := fl } :: v.held).take 3 }
  blockOutputs cfg nb v r

/-- An edge of HCLK in hard-pipeline mode (R123 to R126). -/
def hardEdge (cfg : SliceCfg) (nb : Neighbours) (pins : SlicePins) (v : SliceState) : SliceState :=
  let bad := match v.phase with
    | none => false
    | some due => due != pins.fclk
  let v := { v with
    gberr := v.gberr || bad
    phase := match v.phase with
      | none => if pins.fclk then some false else none
      | some due => some !due }
  if v.gberr then { v with outRes := 0, outFlag := 0, cso := 0, outOdd := 0, flagOdd := 0 }
  else
    let run := v.enable
    let d := hardLatency cfg % 2
    let v := if pins.fclk && run then
        let y1 := (v.held[d]?).getD {}
        let y0 := (v.held[d + 1]?).getD {}
        { v with outRes := y0.val, outFlag := y0.flag, outOdd := y1.val, flagOdd := y1.flag }
      else v
    let v := if run then hardShift cfg nb pins v else v
    if !pins.fclk then v
    else
      let en := pins.eni && pins.enp && pins.ena
      let v := { v with enable := en, clears := (pins.cli, pins.clp, pins.cla), shiftWas := v.shift, expWas := v.exp }
      if !en then v
      else
        let (x0, v) := enterSample cfg v nb pins.even pins.pu pins.pv pins.bstart false pins.expIn pins.hrIn
        let (x1, v) := enterSample cfg v nb pins.odd pins.puOdd pins.pvOdd false pins.blast pins.expIn pins.hrIn
        { v with pair := v.pair ++ [x0, x1] }

/-- Whether a slice can be set so (R110, R116, R118, R123): the saturation width, the block parameters in a fixed-point mode,
the place of each half of a complex pair, and no stage bypassed in hard-pipeline mode. -/
def sliceFits (sl : SliceRef) (cfg : SliceCfg) : Bool :=
  decide (2 ≤ cfg.satw.val)
    && (match cfg.bfp with
      | none => true
      | some b => decide (8 ≤ b.m.val) && !isFloat cfg.mode)
    && !(decide (cfg.mode = .complexRe) && sl.inst.val % 2 = 1) && !(decide (cfg.mode = .complexIm) && sl.inst.val % 2 = 0)
    && (!cfg.hard || (cfg.s1 && cfg.s2 && cfg.s3 && cfg.s4))

/-- A slice. -/
def State.slice (s : State) (region inst : Nat) : SliceState := s.slices.get sliceDefault (sliceKey region inst)

/-- The neighbours of a slice: the one before it in its column, in the region to the south from slice 0, by what its
cascade link held before its latest clock edge, and the other of its pair. No cascade crosses the die boundary below
region row 10, and one from a region that is not OPEN reads 0 (R101, R125, R127, R129). -/
def State.neighbours (s : State) (sl : SliceRef) : Neighbours :=
  let r := sl.region.val
  let i := sl.inst.val
  let cut := decide (r < 12) || decide (r / 12 = 10) || !s.domOpen (regionDom (r - 12))
  let pred := if i % 24 ≠ 0 then s.slice r (i - 1) else if cut then {} else s.slice (r - 12) (i + 23)
  let part := s.slice r (if i % 2 = 0 then i + 1 else i - 1)
  { shift := pred.shiftWas, exp := pred.expWas, part := part.outRes }

/-- Whether a slice runs: its region is OPEN and its stall is not held in reset (R109). -/
def State.sliceRuns (s : State) (sl : SliceRef) : Bool :=
  let p := slicePlace (sliceKey sl.region sl.inst)
  s.domOpen (regionDom sl.region) && !s.stallHeld (s.stallAt p.1 p.2)

/-- Storing a slice. -/
def State.setSlice (s : State) (sl : SliceRef) (v : SliceState) : State :=
  { s with slices := s.slices.set sliceDefault (sliceKey sl.region sl.inst) v }

/-- SLICE_CLOCK_EDGE (R103 to R126). -/
def execSliceClockEdge (sl : SliceRef) (cfg : SliceCfg) (pins : SlicePins) (s : State) : Out :=
  if !sliceFits sl cfg then .fault .illFormed
  else if !s.sliceRuns sl then .next s
  else
    let v := s.slice sl.region sl.inst
    let nb := s.neighbours sl
    .next (s.setSlice sl (if cfg.hard then hardEdge cfg nb pins v else normalEdge cfg nb pins v))

/-- GBRST (R126): held for two FCLK edges, it clears the gearboxes and every internal register, and the phase is fixed
at the next FCLK edge. -/
def execGbrst (sl : SliceRef) (edges : Nat) (s : State) : Out :=
  if edges < 2 || !s.sliceRuns sl then .next s
  else .next (s.setSlice sl { gberr := false })

end Sys2Proof.Machine
end

