-- ==== Sys2Proof/Machine/Towpath.lean ====
section
/-! DEFINITION. The commands of the Towpath: its register window over SMBus and SPI, its requests and its alert (R514 to
R531). -/

namespace Sys2Proof.Machine

open Reg

/-! ### The window (R519 to R522) -/

/-- Whether an offset lies in an always-on page that the direct path reaches (R519). -/
def directPage (off : Nat) : Bool :=
  [pageDEV, pageCLK, pagePWR, pageFLT, pageTHM, pageTWP].contains (pageBase off)

/-- Whether a window address has a bit set that must be zero (R520, R521). -/
def badWindow (a : Nat) : Bool := decide (2 ^ 26 ≤ a) || decide (a % 4 ≠ 0)

/-- The window address of an access, [29:0] of the window word. -/
def WinAccess.at_ : WinAccess → Nat
  | .read a => a
  | .write a _ => a

/-- An access enters the NoC as an MRD or MWR of the Towpath's port (R519). -/
def State.issueWindow (s : State) (a : WinAccess) : State :=
  match s.freeTag .twp with
  | none => s
  | some tag =>
    let addr := 3 * 2 ^ 52 + a.at_
    match a with
    | .read _ => s.issue .twp
        { op := .mrd, addr := BitVec.ofNat 56 addr, len := 3, cls := 2, key := 0, tag := tag, be := 0, data := [] }
    | .write _ v => s.issue .twp (writeReq .mwr addr (toBytes v.toNat 4) 2 tag)

/-- An access starts (R519, R521): one that can have no effect ends at once. -/
def State.startAccess (s : State) (t : Transport) (a : WinAccess) : State :=
  let s := s.setWin t { s.win t with pending := some a }
  if badWindow a.at_ then s.endAccess t 9 0
  else if directPage a.at_ then s
  else if s.held || !bit (s.word PWR_SUP_STAT.off) 1 then s.endAccess t 8 0
  else s.issueWindow a

/-- The waiting accesses start in arrival order, at most one outstanding for each transport (R515). -/
def State.pumpWindows (s : State) : Nat → State
  | 0 => s
  | n + 1 =>
    match s.twp.order with
    | [] => s
    | t :: rest =>
      match (s.win t).pending, (s.win t).later with
      | none, a :: more =>
        let s := s.setWin t { s.win t with later := more }
        (({ s with twp := { s.twp with order := rest } }).startAccess t a).pumpWindows n
      | none, [] => ({ s with twp := { s.twp with order := rest } }).pumpWindows n
      | some _, _ => s

/-- Every access that can start does. -/
def State.pump (s : State) : State := s.pumpWindows s.twp.order.length

/-- An access arrives. -/
def State.arriveAccess (s : State) (t : Transport) (a : WinAccess) : State :=
  let s := s.setWin t { s.win t with later := (s.win t).later ++ [a] }
  ({ s with twp := { s.twp with order := s.twp.order ++ [t] } }).pump

/-- The window word with its address advanced by 4. -/
def advanceWindow (w : Word) : Word := setBits w 25 2 (bitsOf w 25 2 + 1)

/-! ### SMBus (R516, R517) -/

/-- A write over SMBus, with what its PEC byte shows: without a correct one it is discarded where PEC is required (R516). -/
def State.smbWrite (s : State) (code : Nat) (pec : Option Bool) (f : State → State) : State :=
  if !s.is TWP_CFG.smb_en then s
  else if s.is TWP_CFG.pec_req && pec ≠ some true then
    (s.count TWP_PEC_ERR.v).raise pageTWP 3 INFO 0x1204 code 0
  else f s

/-- WIN_ADDR (R517, R520). -/
def execWinAddr (v : Word) (pec : Option Bool) (s : State) : Out :=
  .next (s.smbWrite 0x10 pec fun s =>
    let s := s.setWin .smbus { s.win .smbus with word := v }
    s.when (bit v 30) fun s => s.arriveAccess .smbus (.read (bitsOf v 29 0)))

/-- WIN_WDATA (R517, R520). -/
def execWinWdata (v : Word) (pec : Option Bool) (s : State) : Out :=
  .next (s.smbWrite 0x11 pec fun s =>
    let w := (s.win .smbus).word
    let s := s.when (bit w 31) fun s => s.setWin .smbus { s.win .smbus with word := advanceWindow w }
    s.arriveAccess .smbus (.write (bitsOf w 29 0) v))

/-- Whether an access is a read. -/
def WinAccess.isRead : WinAccess → Bool
  | .read _ => true
  | .write _ _ => false

/-- Whether a read of a window has not ended. -/
def Window.reading (w : Window) : Bool := w.pending.any WinAccess.isRead || w.later.any WinAccess.isRead

/-- WIN_RDATA (R517, R520): the status and the data of the last read; with auto_inc the next read starts. -/
def execWinRdata (s : State) : Out :=
  if !s.is TWP_CFG.smb_en then .next (s.answering []) else
  let w := s.win .smbus
  if w.reading then .next (s.answering (toBytes 15 1 ++ toBytes w.data.toNat 4))
  else
    let s := s.answering (toBytes w.status 1 ++ toBytes w.data.toNat 4)
    if bit w.word 31 && bit w.word 30 then
      let v := advanceWindow w.word
      .next ((s.setWin .smbus { w with word := v }).arriveAccess .smbus (.read (bitsOf v 29 0)))
    else .next s

/-- TWP_STAT over SMBus (R517). -/
def execTwpStat (s : State) : Out :=
  .next (if s.is TWP_CFG.smb_en then s.answerWord (s.shown TWP_STAT.off) else s.answering [])

/-- ID over SMBus (R517). -/
def execId (s : State) : Out :=
  .next (if s.is TWP_CFG.smb_en then s.answerWord (s.word DEV_IDCODE.off) else s.answering [])

/-! ### SPI (R518) -/

/-- A word as SPI sends it, most significant byte first. -/
def spiBytes (w : Word) : List Byte := (toBytes w.toNat 4).reverse

/-- SPI_WRITE (R518): a write at each of consecutive word addresses. -/
def execSpiWrite (word : BitVec 24) (data : List Word) (s : State) : Out :=
  if !s.is TWP_CFG.spi_en then .next s else
  .next (s.each (data.zipIdx : List (Word × Nat)) fun s e => s.arriveAccess .spi (.write ((4 * (word.toNat + e.2)) % 2 ^ 26) e.1))

/-- SPI_READ (R518): the access of one word of a READ frame starts; 0xFF fills the time to its end. -/
def execSpiRead (word : BitVec 24) (s : State) : Out :=
  if !s.is TWP_CFG.spi_en then .next (s.answering []) else
  .next ((s.answering [0xFF]).arriveAccess .spi (.read (4 * word.toNat)))

/-- SPI_STATUS (R518). -/
def execSpiStatus (s : State) : Out :=
  .next (s.answering (if s.is TWP_CFG.spi_en then spiBytes (s.shown TWP_STAT.off) else []))

/-- SPI_ID (R518). -/
def execSpiId (s : State) : Out :=
  .next (s.answering (if s.is TWP_CFG.spi_en then spiBytes (s.word DEV_IDCODE.off) else []))

/-! ### The end of an access (R519, R521) -/

/-- What the end of a read over SPI sends: the status and the data, zeros unless it is OK (R518). -/
def State.spiAnswer (s : State) (t : Transport) (isRead : Bool) : State :=
  match t with
  | .smbus => s
  | .spi =>
    let w := s.win .spi
    if isRead then s.answering (toBytes w.status 1 ++ (if w.status = 0 then spiBytes w.data else spiBytes 0)) else s

/-- The access of a transport ends: over the direct path it has its effect now, through the NoC it brings a status of
R296 and a read its data. -/
def State.finishAccess (s : State) (t : Transport) (a : WinAccess) (status : Nat) (data : Word) : State :=
  if directPage a.at_ then
    match a with
    | .read off =>
      let got := s.readReg off
      let w := got.1
      let s := got.2
      s.endAccess t 0 w
    | .write off v =>
      let s := s.regWrite .towpath off v
      if (s.win t).pending.isSome then s.endAccess t 0 0 else s
  else s.endAccess t status data

/-- WINDOW_ACCESS_COMPLETE (R519 to R522). -/
def execWindowAccessComplete (t : Transport) (status : BitVec 4) (data : Word) (s : State) : Out :=
  match (s.win t).pending with
  | none => .next s
  | some a =>
    if 8 ≤ status.toNat && !directPage a.at_ then .next s
    else .next ((s.finishAccess t a status.toNat data).spiAnswer t a.isRead).pump

/-! ### Requests (R523, R524) -/

/-- Whether a transport is enabled (R515). -/
def State.transportOn (s : State) (t : Transport) : Bool :=
  match t with
  | .smbus => s.is TWP_CFG.smb_en
  | .spi => s.is TWP_CFG.spi_en

/-- A request word over a transport. -/
def State.requestOver (s : State) (t : Transport) (v : Word) : State := if s.transportOn t then s.twpRequest v else s

/-- RESET (R524): a write of TWP_REQ. -/
def execReset (t : Transport) (v : Word) (s : State) : Out := .next (s.requestOver t v)

/-- RECONFIGURE (R524): a write of TWP_REQ. -/
def execReconfigure (t : Transport) (v : Word) (s : State) : Out := .next (s.requestOver t v)

/-- WAKE (R524): a write of TWP_REQ. -/
def execWake (t : Transport) (v : Word) (s : State) : Out := .next (s.requestOver t v)

/-- ALERT_CLEAR (R524): a write of TWP_REQ. -/
def execAlertClear (t : Transport) (v : Word) (s : State) : Out := .next (s.requestOver t v)

/-! ### Alerts (R516, R525, R526) -/

/-- Whether TWP_ALERT_N is low. -/
def State.alertLow (s : State) : Bool :=
  decide (s.get TWP_ALERT_SRC.v &&& s.get TWP_ALERT_EN.v ≠ 0) && !s.twp.answered

/-- ALERT_RESPONSE (R526): a read of the Alert Response Address while the pin is low returns the device's address and
answers the alert. -/
def execAlertResponse (s : State) : Out :=
  if s.is TWP_CFG.smb_en && s.alertLow then
    .next { s.answering (toBytes (s.get TWP_CFG.addr) 1) with twp := { s.twp with answered := true } }
  else .next (s.answering [])

/-- SMBUS_TIMEOUT (R516, R530): the interface resets. -/
def execSmbusTimeout (s : State) : Out := .next (s.raise pageTWP 4 INFO 0x1205 0 0)

/-- FW_ALERT (R525): a write of TWP_FW_ALERT. -/
def execFwAlert (v : Word) (s : State) : Out := .next (s.writeTwp .host TWP_FW_ALERT.off v)

end Sys2Proof.Machine
end

