-- ==== Sys2Proof/Machine/Dispatch.lean ====
section
/-! DEFINITION. exec: one arm per row of the table of operations and events, each a direct call of its meaning. -/

namespace Sys2Proof.Machine

def exec (i : Instr) (s : State) : Host.Outcome State Fault Refusal :=
  match i with
  | .vaonInRange pairRole twpAddr => Sys2Proof.Machine.execVaonInRange pairRole twpAddr s
  | .pciePerstNAssert => Sys2Proof.Machine.execPciePerstNAssert s
  | .pciePerstNRelease => Sys2Proof.Machine.execPciePerstNRelease s
  | .porNAssert => Sys2Proof.Machine.execPorNAssert s
  | .porNRelease => Sys2Proof.Machine.execPorNRelease s
  | .blkReset b v => Sys2Proof.Machine.execBlkReset b v s
  | .blockResetApply b => Sys2Proof.Machine.execBlockResetApply b s
  | .registerWrite sender off bytes v => Sys2Proof.Machine.execRegisterWrite sender off bytes v s
  | .rcRead off bytes => Sys2Proof.Machine.execRcRead off bytes s
  | .evtClear page v hwSet => Sys2Proof.Machine.execEvtClear page v hwSet s
  | .evtForce page v => Sys2Proof.Machine.execEvtForce page v s
  | .pageLockSet page v => Sys2Proof.Machine.execPageLockSet page v s
  | .memoryPortWrite m portB cfg pins => Sys2Proof.Machine.execMemoryPortWrite m portB cfg pins s
  | .memoryPortRead m portB cfg pins => Sys2Proof.Machine.execMemoryPortRead m portB cfg pins s
  | .narrowWrite m portB cfg pins => Sys2Proof.Machine.execNarrowWrite m portB cfg pins s
  | .clrv region inst => Sys2Proof.Machine.execClrv region inst s
  | .leakPeriod b => Sys2Proof.Machine.execLeakPeriod b s
  | .rolEntryFree b e v => Sys2Proof.Machine.execRolEntryFree b e v s
  | .remapEntrySet r v => Sys2Proof.Machine.execRemapEntrySet r v s
  | .remapEntryClear r v => Sys2Proof.Machine.execRemapEntryClear r v s
  | .eccInjectArm region v => Sys2Proof.Machine.execEccInjectArm region v s
  | .bistStart region v => Sys2Proof.Machine.execBistStart region v s
  | .bistComplete region failing => Sys2Proof.Machine.execBistComplete region failing s
  | .gbrst sl edges => Sys2Proof.Machine.execGbrst sl edges s
  | .thEnable v => Sys2Proof.Machine.execThEnable v s
  | .timeLoadGo v => Sys2Proof.Machine.execTimeLoadGo v s
  | .syncInEdge => Sys2Proof.Machine.execSyncInEdge s
  | .acceptStep v => Sys2Proof.Machine.execAcceptStep v s
  | .timeRead => Sys2Proof.Machine.execTimeRead s
  | .tlRoleWrite lane v => Sys2Proof.Machine.execTlRoleWrite lane v s
  | .layoutWrite r v => Sys2Proof.Machine.execLayoutWrite r v s
  | .tlBlockLock lane => Sys2Proof.Machine.execTlBlockLock lane s
  | .tlLockLost lane => Sys2Proof.Machine.execTlLockLost lane s
  | .xtlFrameReceived lane blocks arrival => Sys2Proof.Machine.execXtlFrameReceived lane blocks arrival s
  | .tlRejectRetry lane => Sys2Proof.Machine.execTlRejectRetry lane s
  | .xtlFrameSend lane => Sys2Proof.Machine.execXtlFrameSend lane s
  | .trigMessageReceived lane payload swapClk => Sys2Proof.Machine.execTrigMessageReceived lane payload swapClk s
  | .xtlSend v swapClk => Sys2Proof.Machine.execXtlSend v swapClk s
  | .calibrationAverageComplete => Sys2Proof.Machine.execCalibrationAverageComplete s
  | .rejoinMeasureComplete => Sys2Proof.Machine.execRejoinMeasureComplete s
  | .holdoverLimitReached => Sys2Proof.Machine.execHoldoverLimitReached s
  | .inputEdge ch rising t lasts => Sys2Proof.Machine.execInputEdge ch rising t lasts s
  | .stampDelivery ch => Sys2Proof.Machine.execStampDelivery ch s
  | .tdcCalTableReplace ch => Sys2Proof.Machine.execTdcCalTableReplace ch s
  | .tdcCalRestart v => Sys2Proof.Machine.execTdcCalRestart v s
  | .fabricEvent line t => Sys2Proof.Machine.execFabricEvent line t s
  | .outputRequest v => Sys2Proof.Machine.execOutputRequest v s
  | .outputActionDue o => Sys2Proof.Machine.execOutputActionDue o s
  | .pulseEnd o => Sys2Proof.Machine.execPulseEnd o s
  | .seqTableWrite s0 word v => Sys2Proof.Machine.execSeqTableWrite s0 word v s
  | .sequencerEventRelease s0 swapClk => Sys2Proof.Machine.execSequencerEventRelease s0 swapClk s
  | .sequencerTimerExpiry s0 => Sys2Proof.Machine.execSequencerTimerExpiry s0 s
  | .seqRun s0 v swapClk => Sys2Proof.Machine.execSeqRun s0 v swapClk s
  | .seqHalt s0 v => Sys2Proof.Machine.execSeqHalt s0 v s
  | .seqArm s0 v => Sys2Proof.Machine.execSeqArm s0 v s
  | .lineContention line => Sys2Proof.Machine.execLineContention line s
  | .contentionRetry line => Sys2Proof.Machine.execContentionRetry line s
  | .lineShort line => Sys2Proof.Machine.execLineShort line s
  | .shortClear line => Sys2Proof.Machine.execShortClear line s
  | .lineOpen line => Sys2Proof.Machine.execLineOpen line s
  | .openClear line => Sys2Proof.Machine.execOpenClear line s
  | .idleCheck line v => Sys2Proof.Machine.execIdleCheck line v s
  | .idleCheckComplete line r => Sys2Proof.Machine.execIdleCheckComplete line r s
  | .lineFaultClear line v => Sys2Proof.Machine.execLineFaultClear line v s
  | .sysrefGo n v => Sys2Proof.Machine.execSysrefGo n v s
  | .sysrefEdge n => Sys2Proof.Machine.execSysrefEdge n s
  | .ptmDialog dev host => Sys2Proof.Machine.execPtmDialog dev host s
  | .ptmStale => Sys2Proof.Machine.execPtmStale s
  | .oscReady => Sys2Proof.Machine.execOscReady s
  | .crystalReady => Sys2Proof.Machine.execCrystalReady s
  | .refclkReady at100 => Sys2Proof.Machine.execRefclkReady at100 s
  | .rootPllLock => Sys2Proof.Machine.execRootPllLock s
  | .thPllLock => Sys2Proof.Machine.execThPllLock s
  | .missingClock src => Sys2Proof.Machine.execMissingClock src s
  | .monitorGate g => Sys2Proof.Machine.execMonitorGate g s
  | .trimConverged code err => Sys2Proof.Machine.execTrimConverged code err s
  | .trimTrackStep up move err => Sys2Proof.Machine.execTrimTrackStep up move err s
  | .clkSelWrite v => Sys2Proof.Machine.execClkSelWrite v s
  | .clkSwitchComplete cfg => Sys2Proof.Machine.execClkSwitchComplete cfg s
  | .rootRelockComplete th => Sys2Proof.Machine.execRootRelockComplete th s
  | .rootLockLost => Sys2Proof.Machine.execRootLockLost s
  | .aonTimeRead => Sys2Proof.Machine.execAonTimeRead s
  | .cmtApply tile fpll inputKhz grade v => Sys2Proof.Machine.execCmtApply tile fpll inputKhz grade v s
  | .cmtReset tile fpll v => Sys2Proof.Machine.execCmtReset tile fpll v s
  | .cmtLock tile fpll => Sys2Proof.Machine.execCmtLock tile fpll s
  | .cmtLockLost tile fpll inputMissing => Sys2Proof.Machine.execCmtLockLost tile fpll inputMissing s
  | .phaseRequest tile fpll count => Sys2Proof.Machine.execPhaseRequest tile fpll count s
  | .phaseMoveComplete tile fpll => Sys2Proof.Machine.execPhaseMoveComplete tile fpll s
  | .trackSelect region track second running => Sys2Proof.Machine.execTrackSelect region track second running s
  | .trackInactive region track => Sys2Proof.Machine.execTrackInactive region track s
  | .progNAssert => Sys2Proof.Machine.execProgNAssert s
  | .progNRelease bootMode => Sys2Proof.Machine.execProgNRelease bootMode s
  | .prog v => Sys2Proof.Machine.execProg v s
  | .bootStart bootMode => Sys2Proof.Machine.execBootStart bootMode s
  | .loadGo v => Sys2Proof.Machine.execLoadGo v s
  | .abort v => Sys2Proof.Machine.execAbort v s
  | .selftest v => Sys2Proof.Machine.execSelftest v s
  | .selftestComplete pass => Sys2Proof.Machine.execSelftestComplete pass s
  | .imageHeader => Sys2Proof.Machine.execImageHeader s
  | .signatureVerified trailer => Sys2Proof.Machine.execSignatureVerified trailer s
  | .bulkClearComplete => Sys2Proof.Machine.execBulkClearComplete s
  | .systemRecord => Sys2Proof.Machine.execSystemRecord s
  | .gcmSegment => Sys2Proof.Machine.execGcmSegment s
  | .setfar => Sys2Proof.Machine.execSetfar s
  | .write => Sys2Proof.Machine.execWrite s
  | .repeatFrame => Sys2Proof.Machine.execRepeatFrame s
  | .wreg => Sys2Proof.Machine.execWreg s
  | .dynlist => Sys2Proof.Machine.execDynlist s
  | .nop => Sys2Proof.Machine.execNop s
  | .sync => Sys2Proof.Machine.execSync s
  | .endStream => Sys2Proof.Machine.execEndStream s
  | .trailerCheck => Sys2Proof.Machine.execTrailerCheck s
  | .startupPllRelocked => Sys2Proof.Machine.execStartupPllRelocked s
  | .cfgDataWrite bytes => Sys2Proof.Machine.execCfgDataWrite bytes s
  | .loadDataTimeout => Sys2Proof.Machine.execLoadDataTimeout s
  | .sourceReadResponse status bytes => Sys2Proof.Machine.execSourceReadResponse status bytes s
  | .flashRead v => Sys2Proof.Machine.execFlashRead v s
  | .flashProgram v => Sys2Proof.Machine.execFlashProgram v s
  | .flashErase4k v => Sys2Proof.Machine.execFlashErase4k v s
  | .flashErase64k v => Sys2Proof.Machine.execFlashErase64k v s
  | .flashCmdComplete ok bytes => Sys2Proof.Machine.execFlashCmdComplete ok bytes s
  | .define s0 v => Sys2Proof.Machine.execDefine s0 v s
  | .undefine s0 v => Sys2Proof.Machine.execUndefine s0 v s
  | .swapNow s0 v swapClk => Sys2Proof.Machine.execSwapNow s0 v swapClk s
  | .swapAt s0 v swapClk => Sys2Proof.Machine.execSwapAt s0 v swapClk s
  | .cancel s0 v => Sys2Proof.Machine.execCancel s0 v s
  | .resetHold s0 v => Sys2Proof.Machine.execResetHold s0 v s
  | .resetRelease s0 v => Sys2Proof.Machine.execResetRelease s0 v s
  | .clear s0 v => Sys2Proof.Machine.execClear s0 v s
  | .clearComplete s0 => Sys2Proof.Machine.execClearComplete s0 s
  | .refill s0 v => Sys2Proof.Machine.execRefill s0 v s
  | .drainStart s0 => Sys2Proof.Machine.execDrainStart s0 s
  | .drainComplete s0 => Sys2Proof.Machine.execDrainComplete s0 s
  | .drainTimeout s0 => Sys2Proof.Machine.execDrainTimeout s0 s
  | .swapFreeze s0 => Sys2Proof.Machine.execSwapFreeze s0 s
  | .swapFlip s0 edge => Sys2Proof.Machine.execSwapFlip s0 edge s
  | .swapRelease s0 => Sys2Proof.Machine.execSwapRelease s0 s
  | .swapClockLost s0 => Sys2Proof.Machine.execSwapClockLost s0 s
  | .contentFrame s0 addr frame readOk tagOk => Sys2Proof.Machine.execContentFrame s0 addr frame readOk tagOk s
  | .contentPhaseEnd s0 => Sys2Proof.Machine.execContentPhaseEnd s0 s
  | .scrubSlot => Sys2Proof.Machine.execScrubSlot s
  | .repairReadResponse ok frame => Sys2Proof.Machine.execRepairReadResponse ok frame s
  | .refillFrame s0 => Sys2Proof.Machine.execRefillFrame s0 s
  | .nocRequestIssue ini r l2Bad => Sys2Proof.Machine.execNocRequestIssue ini r l2Bad s
  | .routerPacket x y p => Sys2Proof.Machine.execRouterPacket x y p s
  | .destinationPacket port p => Sys2Proof.Machine.execDestinationPacket port p s
  | .sequenceGapTimeout port src vc => Sys2Proof.Machine.execSequenceGapTimeout port src vc s
  | .nocResponse ini p => Sys2Proof.Machine.execNocResponse ini p s
  | .initiatorTimeout ini tag => Sys2Proof.Machine.execInitiatorTimeout ini tag s
  | .tagRelease ini tag => Sys2Proof.Machine.execTagRelease ini tag s
  | .noticeReceived ini p => Sys2Proof.Machine.execNoticeReceived ini p s
  | .fence ini tag => Sys2Proof.Machine.execFence ini tag s
  | .holdApply x y v => Sys2Proof.Machine.execHoldApply x y v s
  | .holdApplied x y => Sys2Proof.Machine.execHoldApplied x y s
  | .holdTimeout x y => Sys2Proof.Machine.execHoldTimeout x y s
  | .portClosed port => Sys2Proof.Machine.execPortClosed port s
  | .portForceClose port => Sys2Proof.Machine.execPortForceClose port s
  | .fiArm x y out v => Sys2Proof.Machine.execFiArm x y out v s
  | .fiReorderTimeout x y out => Sys2Proof.Machine.execFiReorderTimeout x y out s
  | .quayInitiatorRequest q isFence r => Sys2Proof.Machine.execQuayInitiatorRequest q isFence r s
  | .quayTargetResponse q tag err data => Sys2Proof.Machine.execQuayTargetResponse q tag err data s
  | .dmcEnable n v => Sys2Proof.Machine.execDmcEnable n v s
  | .dmcDisable n v => Sys2Proof.Machine.execDmcDisable n v s
  | .trainingRecordRead n ids eyeOk => Sys2Proof.Machine.execTrainingRecordRead n ids eyeOk s
  | .trainingStepEnd n pass density width answered ids settings => Sys2Proof.Machine.execTrainingStepEnd n pass density width answered ids settings s
  | .dramRequest n p => Sys2Proof.Machine.execDramRequest n p s
  | .dramCommandSlot n => Sys2Proof.Machine.execDramCommandSlot n s
  | .dramReadData n entry upset => Sys2Proof.Machine.execDramReadData n entry upset s
  | .agePromotion n entry => Sys2Proof.Machine.execAgePromotion n entry s
  | .refreshInterval n rank => Sys2Proof.Machine.execRefreshInterval n rank s
  | .mr4Poll n rank doubled => Sys2Proof.Machine.execMr4Poll n rank doubled s
  | .patrolRead n upset => Sys2Proof.Machine.execPatrolRead n upset s
  | .ceWindowEnd n => Sys2Proof.Machine.execCeWindowEnd n s
  | .ceRateWrite n v => Sys2Proof.Machine.execCeRateWrite n v s
  | .dqsTrack n rank change => Sys2Proof.Machine.execDqsTrack n rank change s
  | .zqCal n rank => Sys2Proof.Machine.execZqCal n rank s
  | .trackNow n v => Sys2Proof.Machine.execTrackNow n v s
  | .retrain n v => Sys2Proof.Machine.execRetrain n v s
  | .retrainCancel n v => Sys2Proof.Machine.execRetrainCancel n v s
  | .patrolRestart n v => Sys2Proof.Machine.execPatrolRestart n v s
  | .retrainStart n => Sys2Proof.Machine.execRetrainStart n s
  | .retrainComplete n => Sys2Proof.Machine.execRetrainComplete n s
  | .retrainTimeout n => Sys2Proof.Machine.execRetrainTimeout n s
  | .keyLoad n sender v => Sys2Proof.Machine.execKeyLoad n sender v s
  | .keyErase n sender v => Sys2Proof.Machine.execKeyErase n sender v s
  | .regionEnable n r v => Sys2Proof.Machine.execRegionEnable n r v s
  | .regionDisable n r v => Sys2Proof.Machine.execRegionDisable n r v s
  | .initGo n r v => Sys2Proof.Machine.execInitGo n r v s
  | .initComplete n r => Sys2Proof.Machine.execInitComplete n r s
  | .nodeFetch n r level index good fromCache => Sys2Proof.Machine.execNodeFetch n r level index good fromCache s
  | .reencryptionComplete n r group failed => Sys2Proof.Machine.execReencryptionComplete n r group failed s
  | .linkUp rate width flit => Sys2Proof.Machine.execLinkUp rate width flit s
  | .linkDown => Sys2Proof.Machine.execLinkDown s
  | .inBandReset => Sys2Proof.Machine.execInBandReset s
  | .flr f => Sys2Proof.Machine.execFlr f s
  | .flrComplete f => Sys2Proof.Machine.execFlrComplete f s
  | .hostConfigWrite f w => Sys2Proof.Machine.execHostConfigWrite f w s
  | .msixUnmask f vector => Sys2Proof.Machine.execMsixUnmask f vector s
  | .l1Exit => Sys2Proof.Machine.execL1Exit s
  | .ltrSend => Sys2Proof.Machine.execLtrSend s
  | .hostRequest f bar isWrite off len data => Sys2Proof.Machine.execHostRequest f bar isWrite off len data s
  | .hostCompletion id => Sys2Proof.Machine.execHostCompletion id s
  | .contextEnable n v => Sys2Proof.Machine.execContextEnable n v s
  | .stop n v => Sys2Proof.Machine.execStop n v s
  | .restart n v => Sys2Proof.Machine.execRestart n v s
  | .contextDisable n v => Sys2Proof.Machine.execContextDisable n v s
  | .doorbell n v => Sys2Proof.Machine.execDoorbell n v s
  | .apertureAccess f off isWrite bytes v => Sys2Proof.Machine.execApertureAccess f off isWrite bytes v s
  | .engineIssueSlot portB upset => Sys2Proof.Machine.execEngineIssueSlot portB upset s
  | .descriptorFetched n status d => Sys2Proof.Machine.execDescriptorFetched n status d s
  | .streamReadResponse n pos status bytes => Sys2Proof.Machine.execStreamReadResponse n pos status bytes s
  | .streamFenceComplete n status => Sys2Proof.Machine.execStreamFenceComplete n status s
  | .recordConfirmed n status => Sys2Proof.Machine.execRecordConfirmed n status s
  | .contextDrained n => Sys2Proof.Machine.execContextDrained n s
  | .tollPeriod => Sys2Proof.Machine.execTollPeriod s
  | .sluiceTimer j => Sys2Proof.Machine.execSluiceTimer j s
  | .sluCfgWrite j v => Sys2Proof.Machine.execSluCfgWrite j v s
  | .sluTgtWrite j v => Sys2Proof.Machine.execSluTgtWrite j v s
  | .functionReachable f => Sys2Proof.Machine.execFunctionReachable f s
  | .coreRun c v => Sys2Proof.Machine.execCoreRun c v s
  | .coreStop c v => Sys2Proof.Machine.execCoreStop c v s
  | .fenceInstruction c deviceOut status => Sys2Proof.Machine.execFenceInstruction c deviceOut status s
  | .fastTrap c => Sys2Proof.Machine.execFastTrap c s
  | .mret c => Sys2Proof.Machine.execMret c s
  | .wfi c => Sys2Proof.Machine.execWfi c s
  | .coreWake c => Sys2Proof.Machine.execCoreWake c s
  | .machineTimer c => Sys2Proof.Machine.execMachineTimer c s
  | .l2PartitionWrite v => Sys2Proof.Machine.execL2PartitionWrite v s
  | .l2Maint v => Sys2Proof.Machine.execL2Maint v s
  | .l2MaintComplete => Sys2Proof.Machine.execL2MaintComplete s
  | .sourceEdge src => Sys2Proof.Machine.execSourceEdge src s
  | .sourceLevel src asserted => Sys2Proof.Machine.execSourceLevel src asserted s
  | .swi v => Sys2Proof.Machine.execSwi v s
  | .claimNormal c => Sys2Proof.Machine.execClaimNormal c s
  | .claimFast c => Sys2Proof.Machine.execClaimFast c s
  | .icComplete c v => Sys2Proof.Machine.execIcComplete c v s
  | .pendWrite r v hwSet => Sys2Proof.Machine.execPendWrite r v hwSet s
  | .taskStart v => Sys2Proof.Machine.execTaskStart v s
  | .taskSuspend v => Sys2Proof.Machine.execTaskSuspend v s
  | .taskDelete v => Sys2Proof.Machine.execTaskDelete v s
  | .taskWait v => Sys2Proof.Machine.execTaskWait v s
  | .taskDelay v => Sys2Proof.Machine.execTaskDelay v s
  | .taskYield v => Sys2Proof.Machine.execTaskYield v s
  | .taskExit v => Sys2Proof.Machine.execTaskExit v s
  | .taskTableWrite t word v => Sys2Proof.Machine.execTaskTableWrite t word v s
  | .taskPostWrite t v => Sys2Proof.Machine.execTaskPostWrite t v s
  | .taskPostApply => Sys2Proof.Machine.execTaskPostApply s
  | .schedulerTick => Sys2Proof.Machine.execSchedulerTick s
  | .tsNext c => Sys2Proof.Machine.execTsNext c s
  | .slotDispatch s0 dropped => Sys2Proof.Machine.execSlotDispatch s0 dropped s
  | .loadWindowEnd => Sys2Proof.Machine.execLoadWindowEnd s
  | .statClear v => Sys2Proof.Machine.execStatClear v s
  | .qpllApply q b refKhz v => Sys2Proof.Machine.execQpllApply q b refKhz v s
  | .qpllLock q b => Sys2Proof.Machine.execQpllLock q b s
  | .laneCfgWrite lane v => Sys2Proof.Machine.execLaneCfgWrite lane v s
  | .pstateRequest lane v => Sys2Proof.Machine.execPstateRequest lane v s
  | .pstateTransitionComplete lane => Sys2Proof.Machine.execPstateTransitionComplete lane s
  | .blockLock lane position => Sys2Proof.Machine.execBlockLock lane position s
  | .lockLoss lane => Sys2Proof.Machine.execLockLoss lane s
  | .commaAlign lane position => Sys2Proof.Machine.execCommaAlign lane position s
  | .fecCodeword lane symbolErrors => Sys2Proof.Machine.execFecCodeword lane symbolErrors s
  | .elasticBufferError lane => Sys2Proof.Machine.execElasticBufferError lane s
  | .gridStrobe lane tx fill => Sys2Proof.Machine.execGridStrobe lane tx fill s
  | .groupDefine lane v => Sys2Proof.Machine.execGroupDefine lane v s
  | .ltsBlock lane b => Sys2Proof.Machine.execLtsBlock lane b s
  | .rateSwitch lane => Sys2Proof.Machine.execRateSwitch lane s
  | .stepRetrainTimeout lane => Sys2Proof.Machine.execStepRetrainTimeout lane s
  | .groupTrainTimeout lane => Sys2Proof.Machine.execGroupTrainTimeout lane s
  | .groupRetry lane => Sys2Proof.Machine.execGroupRetry lane s
  | .groupLockLossTimeout lane => Sys2Proof.Machine.execGroupLockLossTimeout lane s
  | .txFault lane => Sys2Proof.Machine.execTxFault lane s
  | .txFaultRetry lane => Sys2Proof.Machine.execTxFaultRetry lane s
  | .receiverDetect lane found => Sys2Proof.Machine.execReceiverDetect lane found s
  | .lossOfSignal lane => Sys2Proof.Machine.execLossOfSignal lane s
  | .laneFaultClear lane v => Sys2Proof.Machine.execLaneFaultClear lane v s
  | .laneCal lane v => Sys2Proof.Machine.execLaneCal lane v s
  | .laneCalComplete lane => Sys2Proof.Machine.execLaneCalComplete lane s
  | .eyeScan lane v => Sys2Proof.Machine.execEyeScan lane v s
  | .eyeScanComplete lane count => Sys2Proof.Machine.execEyeScanComplete lane count s
  | .laneFiArm lane v => Sys2Proof.Machine.execLaneFiArm lane v s
  | .pairEnable v f => Sys2Proof.Machine.execPairEnable v f s
  | .pairSyncComplete => Sys2Proof.Machine.execPairSyncComplete s
  | .mirrorChange position ch => Sys2Proof.Machine.execMirrorChange position ch s
  | .mirrorAck position => Sys2Proof.Machine.execMirrorAck position s
  | .heartbeatSend => Sys2Proof.Machine.execHeartbeatSend s
  | .heartbeatReceived h => Sys2Proof.Machine.execHeartbeatReceived h s
  | .heartbeatMiss => Sys2Proof.Machine.execHeartbeatMiss s
  | .takeover v => Sys2Proof.Machine.execTakeover v s
  | .fenceReadback high => Sys2Proof.Machine.execFenceReadback high s
  | .takeoverSettle ctxs => Sys2Proof.Machine.execTakeoverSettle ctxs s
  | .primaryAlone => Sys2Proof.Machine.execPrimaryAlone s
  | .fenceIn both => Sys2Proof.Machine.execFenceIn both s
  | .release v fenceIn => Sys2Proof.Machine.execRelease v fenceIn s
  | .rejoin v => Sys2Proof.Machine.execRejoin v s
  | .resync v => Sys2Proof.Machine.execResync v s
  | .faultEntry e => Sys2Proof.Machine.execFaultEntry e s
  | .ringIntake => Sys2Proof.Machine.execRingIntake s
  | .flushTimer => Sys2Proof.Machine.execFlushTimer s
  | .flushNow v => Sys2Proof.Machine.execFlushNow v s
  | .flushComplete ok => Sys2Proof.Machine.execFlushComplete ok s
  | .pageEraseComplete ok => Sys2Proof.Machine.execPageEraseComplete ok s
  | .logEnable v => Sys2Proof.Machine.execLogEnable v s
  | .logScanComplete => Sys2Proof.Machine.execLogScanComplete s
  | .fltEntRead => Sys2Proof.Machine.execFltEntRead s
  | .powerFailWarning => Sys2Proof.Machine.execPowerFailWarning s
  | .powerFailClear => Sys2Proof.Machine.execPowerFailClear s
  | .supplyInRange supply => Sys2Proof.Machine.execSupplyInRange supply s
  | .supplyFault supply => Sys2Proof.Machine.execSupplyFault supply s
  | .supplyRecovered => Sys2Proof.Machine.execSupplyRecovered s
  | .domainClose d v => Sys2Proof.Machine.execDomainClose d v s
  | .domainOpen d v => Sys2Proof.Machine.execDomainOpen d v s
  | .domainPowerOff d => Sys2Proof.Machine.execDomainPowerOff d s
  | .domainOpened d => Sys2Proof.Machine.execDomainOpened d s
  | .sensorReading s0 eighths => Sys2Proof.Machine.execSensorReading s0 eighths s
  | .throttleUpdate => Sys2Proof.Machine.execThrottleUpdate s
  | .thermalTrip s0 => Sys2Proof.Machine.execThermalTrip s0 s
  | .tripShutdown => Sys2Proof.Machine.execTripShutdown s
  | .sensorsFaultyTrip => Sys2Proof.Machine.execSensorsFaultyTrip s
  | .ageingSweep shifts => Sys2Proof.Machine.execAgeingSweep shifts s
  | .sweep v => Sys2Proof.Machine.execSweep v s
  | .summarySave ok => Sys2Proof.Machine.execSummarySave ok s
  | .pmbusTransaction tx => Sys2Proof.Machine.execPmbusTransaction tx s
  | .pmbAlert word => Sys2Proof.Machine.execPmbAlert word s
  | .pmbusRetry ok => Sys2Proof.Machine.execPmbusRetry ok s
  | .winAddr v pec => Sys2Proof.Machine.execWinAddr v pec s
  | .winWdata v pec => Sys2Proof.Machine.execWinWdata v pec s
  | .winRdata => Sys2Proof.Machine.execWinRdata s
  | .twpStat => Sys2Proof.Machine.execTwpStat s
  | .id => Sys2Proof.Machine.execId s
  | .spiWrite word data => Sys2Proof.Machine.execSpiWrite word data s
  | .spiRead word => Sys2Proof.Machine.execSpiRead word s
  | .spiStatus => Sys2Proof.Machine.execSpiStatus s
  | .spiId => Sys2Proof.Machine.execSpiId s
  | .windowAccessComplete t status data => Sys2Proof.Machine.execWindowAccessComplete t status data s
  | .reset t v => Sys2Proof.Machine.execReset t v s
  | .reconfigure t v => Sys2Proof.Machine.execReconfigure t v s
  | .wake t v => Sys2Proof.Machine.execWake t v s
  | .alertClear t v => Sys2Proof.Machine.execAlertClear t v s
  | .alertResponse => Sys2Proof.Machine.execAlertResponse s
  | .smbusTimeout => Sys2Proof.Machine.execSmbusTimeout s
  | .fwAlert v => Sys2Proof.Machine.execFwAlert v s
  | .bypass => Sys2Proof.Machine.execBypass s
  | .idcode => Sys2Proof.Machine.execIdcode s
  | .samplePreload boundary => Sys2Proof.Machine.execSamplePreload boundary s
  | .extest => Sys2Proof.Machine.execExtest s
  | .extestPulse => Sys2Proof.Machine.execExtestPulse s
  | .extestTrain => Sys2Proof.Machine.execExtestTrain s
  | .highz => Sys2Proof.Machine.execHighz s
  | .clamp => Sys2Proof.Machine.execClamp s
  | .cfgIn bytes => Sys2Proof.Machine.execCfgIn bytes s
  | .fuseProg f data => Sys2Proof.Machine.execFuseProg f data s
  | .logicClockEdge t => Sys2Proof.Machine.execLogicClockEdge t s
  | .sliceClockEdge sl cfg pins => Sys2Proof.Machine.execSliceClockEdge sl cfg pins s
  | .tapClockEdge region t => Sys2Proof.Machine.execTapClockEdge region t s
  | .trackGateEnable region track en => Sys2Proof.Machine.execTrackGateEnable region track en s
  | .thPllLockLost => Sys2Proof.Machine.execThPllLockLost s
  | .qpllLockLost q b => Sys2Proof.Machine.execQpllLockLost q b s
  | .signalReturn lane => Sys2Proof.Machine.execSignalReturn lane s
  | .prbsCheckerLock lane inverted relock => Sys2Proof.Machine.execPrbsCheckerLock lane inverted relock s
  | .aspmL1Entry sub => Sys2Proof.Machine.execAspmL1Entry sub s
  | .pcieCompletionTimeout n pos => Sys2Proof.Machine.execPcieCompletionTimeout n pos s
  | .powerLoss => Sys2Proof.Machine.execPowerLoss s

end Sys2Proof.Machine
end

