-- ==== Sys2Proof/WellFormed.lean ====
section
/-! DEFINITION. The well-formed commands: the ones whose operands name something that the block has. The operand types
already bound every number; what is left is that a place has the kind of element that it is used as, that its static
settings are ones that the spec allows together, and that a list of bytes or blocks has the length that its header says. -/

namespace Sys2Proof

/-- Logic elements are clocked in a logic column, with settings that the block can have (R18, R34, R40, R49, R51, R60). -/
def LogicTarget.fits (t : LogicTarget) : Bool :=
  match t with
  | .block col row cfg _ => decide (Machine.colKind col.val = some .logic) && Machine.lbFits col row cfg
  | .laterals col _ _ _ _ _ => decide (Machine.colKind col.val = some .logic)

/-- Whether a command is well-formed (log entry 2). Every other command is well-formed whatever its operands. -/
def Instr.wellFormed (i : Instr) : Bool :=
  match i with
  | .vaonInRange _ _ => true
  | .pciePerstNAssert => true
  | .pciePerstNRelease => true
  | .porNAssert => true
  | .porNRelease => true
  | .blkReset _ _ => true
  | .blockResetApply _ => true
  | .registerWrite _ _ _ _ => true
  | .rcRead _ _ => true
  | .evtClear _ _ _ => true
  | .evtForce _ _ => true
  | .pageLockSet _ _ => true
  | .memoryPortWrite m portB cfg pins => Machine.portFits m portB cfg pins
  | .memoryPortRead m portB cfg pins => Machine.portFits m portB cfg pins
  | .narrowWrite m portB cfg pins => Machine.portFits m portB cfg pins
  | .clrv _ _ => true
  | .leakPeriod _ => true
  | .rolEntryFree _ _ _ => true
  | .remapEntrySet _ _ => true
  | .remapEntryClear _ _ => true
  | .eccInjectArm _ _ => true
  | .bistStart _ _ => true
  | .bistComplete _ _ => true
  | .gbrst _ _ => true
  | .thEnable _ => true
  | .timeLoadGo _ => true
  | .syncInEdge => true
  | .acceptStep _ => true
  | .timeRead => true
  | .tlRoleWrite _ _ => true
  | .layoutWrite _ _ => true
  | .tlBlockLock _ => true
  | .tlLockLost _ => true
  | .xtlFrameReceived _ blocks _ => decide (blocks.length = 156) || decide (blocks.length = 157)
  | .tlRejectRetry _ => true
  | .xtlFrameSend _ => true
  | .trigMessageReceived _ _ _ => true
  | .xtlSend _ _ => true
  | .calibrationAverageComplete => true
  | .rejoinMeasureComplete => true
  | .holdoverLimitReached => true
  | .inputEdge _ _ _ _ => true
  | .stampDelivery _ => true
  | .tdcCalTableReplace _ => true
  | .tdcCalRestart _ => true
  | .fabricEvent _ _ => true
  | .outputRequest _ => true
  | .outputActionDue _ => true
  | .pulseEnd _ => true
  | .seqTableWrite _ _ _ => true
  | .sequencerEventRelease _ _ => true
  | .sequencerTimerExpiry _ => true
  | .seqRun _ _ _ => true
  | .seqHalt _ _ => true
  | .seqArm _ _ => true
  | .lineContention _ => true
  | .contentionRetry _ => true
  | .lineShort _ => true
  | .shortClear _ => true
  | .lineOpen _ => true
  | .openClear _ => true
  | .idleCheck _ _ => true
  | .idleCheckComplete _ _ => true
  | .lineFaultClear _ _ => true
  | .sysrefGo _ _ => true
  | .sysrefEdge _ => true
  | .ptmDialog _ _ => true
  | .ptmStale => true
  | .oscReady => true
  | .crystalReady => true
  | .refclkReady _ => true
  | .rootPllLock => true
  | .thPllLock => true
  | .missingClock _ => true
  | .monitorGate _ => true
  | .trimConverged _ _ => true
  | .trimTrackStep _ _ _ => true
  | .clkSelWrite _ => true
  | .clkSwitchComplete _ => true
  | .rootRelockComplete _ => true
  | .rootLockLost => true
  | .aonTimeRead => true
  | .cmtApply _ _ _ _ _ => true
  | .cmtReset _ _ _ => true
  | .cmtLock _ _ => true
  | .cmtLockLost _ _ _ => true
  | .phaseRequest _ _ _ => true
  | .phaseMoveComplete _ _ => true
  | .trackSelect _ _ _ _ => true
  | .trackInactive _ _ => true
  | .progNAssert => true
  | .progNRelease _ => true
  | .prog _ => true
  | .bootStart _ => true
  | .loadGo _ => true
  | .abort _ => true
  | .selftest _ => true
  | .selftestComplete _ => true
  | .imageHeader => true
  | .signatureVerified _ => true
  | .bulkClearComplete => true
  | .systemRecord => true
  | .gcmSegment => true
  | .setfar => true
  | .write => true
  | .repeatFrame => true
  | .wreg => true
  | .dynlist => true
  | .nop => true
  | .sync => true
  | .endStream => true
  | .trailerCheck => true
  | .startupPllRelocked => true
  | .cfgDataWrite _ => true
  | .loadDataTimeout => true
  | .sourceReadResponse _ _ => true
  | .flashRead _ => true
  | .flashProgram _ => true
  | .flashErase4k _ => true
  | .flashErase64k _ => true
  | .flashCmdComplete _ _ => true
  | .define _ _ => true
  | .undefine _ _ => true
  | .swapNow _ _ _ => true
  | .swapAt _ _ _ => true
  | .cancel _ _ => true
  | .resetHold _ _ => true
  | .resetRelease _ _ => true
  | .clear _ _ => true
  | .clearComplete _ => true
  | .refill _ _ => true
  | .drainStart _ => true
  | .drainComplete _ => true
  | .drainTimeout _ => true
  | .swapFreeze _ => true
  | .swapFlip _ _ => true
  | .swapRelease _ => true
  | .swapClockLost _ => true
  | .contentFrame _ _ _ _ _ => true
  | .contentPhaseEnd _ => true
  | .scrubSlot => true
  | .repairReadResponse _ _ => true
  | .refillFrame _ => true
  | .nocRequestIssue _ _ _ => true
  | .routerPacket _ _ _ => true
  | .destinationPacket _ _ => true
  | .sequenceGapTimeout _ _ _ => true
  | .nocResponse _ _ => true
  | .initiatorTimeout _ _ => true
  | .tagRelease _ _ => true
  | .noticeReceived _ _ => true
  | .fence _ _ => true
  | .holdApply _ _ _ => true
  | .holdApplied _ _ => true
  | .holdTimeout _ _ => true
  | .portClosed _ => true
  | .portForceClose _ => true
  | .fiArm _ _ _ _ => true
  | .fiReorderTimeout _ _ _ => true
  | .quayInitiatorRequest _ _ _ => true
  | .quayTargetResponse _ _ _ _ => true
  | .dmcEnable _ _ => true
  | .dmcDisable _ _ => true
  | .trainingRecordRead _ _ _ => true
  | .trainingStepEnd _ _ _ _ _ _ _ => true
  | .dramRequest _ _ => true
  | .dramCommandSlot _ => true
  | .dramReadData _ _ _ => true
  | .agePromotion _ _ => true
  | .refreshInterval _ _ => true
  | .mr4Poll _ _ _ => true
  | .patrolRead _ _ => true
  | .ceWindowEnd _ => true
  | .ceRateWrite _ _ => true
  | .dqsTrack _ _ _ => true
  | .zqCal _ _ => true
  | .trackNow _ _ => true
  | .retrain _ _ => true
  | .retrainCancel _ _ => true
  | .patrolRestart _ _ => true
  | .retrainStart _ => true
  | .retrainComplete _ => true
  | .retrainTimeout _ => true
  | .keyLoad _ _ _ => true
  | .keyErase _ _ _ => true
  | .regionEnable _ _ _ => true
  | .regionDisable _ _ _ => true
  | .initGo _ _ _ => true
  | .initComplete _ _ => true
  | .nodeFetch _ _ _ _ _ _ => true
  | .reencryptionComplete _ _ _ _ => true
  | .linkUp _ _ _ => true
  | .linkDown => true
  | .inBandReset => true
  | .flr _ => true
  | .flrComplete _ => true
  | .hostConfigWrite _ _ => true
  | .msixUnmask _ _ => true
  | .l1Exit => true
  | .ltrSend => true
  | .hostRequest _ _ isWrite _ len data => decide (0 < len.val) && (!isWrite || decide (data.length = len.val))
  | .hostCompletion _ => true
  | .contextEnable _ _ => true
  | .stop _ _ => true
  | .restart _ _ => true
  | .contextDisable _ _ => true
  | .doorbell _ _ => true
  | .apertureAccess _ _ _ bytes _ => decide (0 < bytes.val)
  | .engineIssueSlot _ _ => true
  | .descriptorFetched _ _ _ => true
  | .streamReadResponse _ _ _ _ => true
  | .streamFenceComplete _ _ => true
  | .recordConfirmed _ _ => true
  | .contextDrained _ => true
  | .tollPeriod => true
  | .sluiceTimer _ => true
  | .sluCfgWrite _ _ => true
  | .sluTgtWrite _ _ => true
  | .functionReachable _ => true
  | .coreRun _ _ => true
  | .coreStop _ _ => true
  | .fenceInstruction _ _ _ => true
  | .fastTrap _ => true
  | .mret _ => true
  | .wfi _ => true
  | .coreWake _ => true
  | .machineTimer _ => true
  | .l2PartitionWrite _ => true
  | .l2Maint _ => true
  | .l2MaintComplete => true
  | .sourceEdge _ => true
  | .sourceLevel _ _ => true
  | .swi _ => true
  | .claimNormal _ => true
  | .claimFast _ => true
  | .icComplete _ _ => true
  | .pendWrite _ _ _ => true
  | .taskStart _ => true
  | .taskSuspend _ => true
  | .taskDelete _ => true
  | .taskWait _ => true
  | .taskDelay _ => true
  | .taskYield _ => true
  | .taskExit _ => true
  | .taskTableWrite _ _ _ => true
  | .taskPostWrite _ _ => true
  | .taskPostApply => true
  | .schedulerTick => true
  | .tsNext _ => true
  | .slotDispatch _ _ => true
  | .loadWindowEnd => true
  | .statClear _ => true
  | .qpllApply _ _ _ _ => true
  | .qpllLock _ _ => true
  | .laneCfgWrite _ _ => true
  | .pstateRequest _ _ => true
  | .pstateTransitionComplete _ => true
  | .blockLock _ _ => true
  | .lockLoss _ => true
  | .commaAlign _ _ => true
  | .fecCodeword _ _ => true
  | .elasticBufferError _ => true
  | .gridStrobe _ _ _ => true
  | .groupDefine _ _ => true
  | .ltsBlock _ _ => true
  | .rateSwitch _ => true
  | .stepRetrainTimeout _ => true
  | .groupTrainTimeout _ => true
  | .groupRetry _ => true
  | .groupLockLossTimeout _ => true
  | .txFault _ => true
  | .txFaultRetry _ => true
  | .receiverDetect _ _ => true
  | .lossOfSignal _ => true
  | .laneFaultClear _ _ => true
  | .laneCal _ _ => true
  | .laneCalComplete _ => true
  | .eyeScan _ _ => true
  | .eyeScanComplete _ _ => true
  | .laneFiArm _ _ => true
  | .pairEnable _ _ => true
  | .pairSyncComplete => true
  | .mirrorChange _ _ => true
  | .mirrorAck _ => true
  | .heartbeatSend => true
  | .heartbeatReceived _ => true
  | .heartbeatMiss => true
  | .takeover _ => true
  | .fenceReadback _ => true
  | .takeoverSettle _ => true
  | .primaryAlone => true
  | .fenceIn _ => true
  | .release _ _ => true
  | .rejoin _ => true
  | .resync _ => true
  | .faultEntry _ => true
  | .ringIntake => true
  | .flushTimer => true
  | .flushNow _ => true
  | .flushComplete _ => true
  | .pageEraseComplete _ => true
  | .logEnable _ => true
  | .logScanComplete => true
  | .fltEntRead => true
  | .powerFailWarning => true
  | .powerFailClear => true
  | .supplyInRange _ => true
  | .supplyFault _ => true
  | .supplyRecovered => true
  | .domainClose _ _ => true
  | .domainOpen _ _ => true
  | .domainPowerOff _ => true
  | .domainOpened _ => true
  | .sensorReading _ _ => true
  | .throttleUpdate => true
  | .thermalTrip _ => true
  | .tripShutdown => true
  | .sensorsFaultyTrip => true
  | .ageingSweep _ => true
  | .sweep _ => true
  | .summarySave _ => true
  | .pmbusTransaction _ => true
  | .pmbAlert _ => true
  | .pmbusRetry _ => true
  | .winAddr _ _ => true
  | .winWdata _ _ => true
  | .winRdata => true
  | .twpStat => true
  | .id => true
  | .spiWrite _ _ => true
  | .spiRead _ => true
  | .spiStatus => true
  | .spiId => true
  | .windowAccessComplete _ _ _ => true
  | .reset _ _ => true
  | .reconfigure _ _ => true
  | .wake _ _ => true
  | .alertClear _ _ => true
  | .alertResponse => true
  | .smbusTimeout => true
  | .fwAlert _ => true
  | .bypass => true
  | .idcode => true
  | .samplePreload _ => true
  | .extest => true
  | .extestPulse => true
  | .extestTrain => true
  | .highz => true
  | .clamp => true
  | .cfgIn _ => true
  | .fuseProg _ _ => true
  | .logicClockEdge t => t.fits
  | .sliceClockEdge sl cfg _ => Machine.sliceFits sl cfg
  | .tapClockEdge _ _ => true
  | .trackGateEnable _ _ _ => true
  | .thPllLockLost => true
  | .qpllLockLost _ _ => true
  | .signalReturn _ => true
  | .prbsCheckerLock _ _ _ => true
  | .aspmL1Entry _ => true
  | .pcieCompletionTimeout _ _ => true
  | .powerLoss => true

end Sys2Proof
end

