-- ==== Sys2Proof/Safety.lean ====
section
/-! DEFINITION. What a safe run is, in the terms that statements use: every waiting command is well-formed, so no step
stops; the fuses only gain bits and mark the keys that they hold; every memory keeps its one canonical form. -/

namespace Sys2Proof.Machine

/-- Every waiting command is well-formed. -/
def State.queueFits (s : State) : Bool := s.pending.all Instr.wellFormed

/-- `t` reads every register as `s` does, but those at the offsets `os`. -/
def State.SameRegs (s t : State) (os : List Nat) : Prop := ∀ o, o ∉ os → t.word o = s.word o

/-- `t` differs from `s` at most in its registers. -/
def State.OnlyRegs (s t : State) : Prop := t = { s with regs := t.regs }

/-- The 256 bits of an AES key slot (R223). -/
def Fuses.aesSlot (u : Fuses) (n : Nat) : Nat := u.aesKey.toNat / 2 ^ (256 * n) % 2 ^ 256

/-- The fuses mark as programmed just the key slots that hold a bit (R223, R237). -/
def Fuses.marksKeys (u : Fuses) : Prop :=
  (∀ n < 2, u.aesProg.getLsbD n = true ↔ u.aesSlot n ≠ 0)
    ∧ (∀ n < 4, u.pkProg.getLsbD n = true ↔ u.pkHash.get (fun _ => 0) n ≠ 0)

/-- Every fuse bit of `u` is set in `v` (R223). -/
def Fuses.le (u v : Fuses) : Prop :=
  u.aesKey &&& v.aesKey = u.aesKey ∧ u.aesProg &&& v.aesProg = u.aesProg ∧ u.aesRevoke &&& v.aesRevoke = u.aesRevoke
    ∧ (∀ n, u.pkHash.get (fun _ => 0) n &&& v.pkHash.get (fun _ => 0) n = u.pkHash.get (fun _ => 0) n)
    ∧ u.pkProg &&& v.pkProg = u.pkProg ∧ u.pkRevoke &&& v.pkRevoke = u.pkRevoke
    ∧ (u.reqSig = true → v.reqSig = true) ∧ (u.reqEnc = true → v.reqEnc = true)
    ∧ u.svnFloor &&& v.svnFloor = u.svnFloor

/-- Every memory stands in its one canonical form: the flash, the DRAM, the two planes, the fabric memories with their
spare words, and the ways of the L2 that are memory. -/
def Memory.wf (s : State) : Bool :=
  s.flash.wf flashDefault && s.dram.wf dramDefault && s.planes.wf frameDefault && s.mem.words.wf wordDefault
    && s.mem.spares.wf spareDefault && s.cc.l2.wf s.l2Default

end Sys2Proof.Machine
end

