-- ==== Sys2Proof/Certificates/Slice0/Obligations.lean ====
section
/-! DEFINITION. The statements about the ZN9216 that are to be proved. -/

open Sys2Proof Sys2Proof.Machine Reg

/-! ### The machine -/

/-- A step with a command at the front of the queue is that command's meaning on the state with the queue's rest. With
nothing waiting, a step lets one cycle of 0.625 ns of the 1.6 GHz clock pass (the model's own choice, log entry 1):
`now` counts one, the Timing Hub's time advances by 40,960 units and what is left of a correction, and nothing else
changes. -/
def Obligations.StepRunsTheFrontCommand : Prop :=
  (∀ (s : State) (c : Instr) (rest : List Instr),
    s.pending = c :: rest → step s = exec c { s with pending := rest })
  ∧ (∀ s : State, s.pending = [] →
    ∃ t, step s = .next t ∧ t.now = s.now + 1 ∧ t = { s with now := t.now, th := t.th }
      ∧ (s.th.running = false → t.th = s.th)
      ∧ (s.th.running = true → s.th.slew = 0 →
          t.th.time = s.th.time + 40960 ∧ t.th = { s.th with time := t.th.time, slewAcc := t.th.slewAcc }))

/-- A command answers a next state just where it is well-formed; any other stops with the one fault, illFormed (log
entry 2). -/
def Obligations.OnlyIllFormedCommandsStop : Prop :=
  ∀ (c : Instr) (s : State),
    ((∃ t, exec c s = .next t) ↔ c.wellFormed = true) ∧ (c.wellFormed = false → exec c s = .fault .illFormed)

/-- From every state whose waiting commands are well-formed a step answers a next state, and the commands that still
wait there are well-formed too: a queue of well-formed commands runs to its end, whatever the rest of the state. -/
def Obligations.WellFormedQueuesNeverStop : Prop :=
  ∀ s : State, s.queueFits = true → ∃ t, step s = .next t ∧ t.queueFits = true ∧ t.pending = s.pending.tail

/-- No command but FUSE_PROG changes a fuse, and FUSE_PROG only sets bits: after any step from any state every fuse
bit that was set is set, and the fused reset values of registers stand (R223). -/
def Obligations.FuseBitsOnceSetStaySet : Prop :=
  ∀ s t : State, step s = .next t →
    s.fuses.le t.fuses ∧ t.fuse = s.fuse
      ∧ ((∀ f data rest, s.pending ≠ .fuseProg f data :: rest) → t.fuses = s.fuses)

/-- Every step keeps: an AES key slot and a public-key slot are marked as programmed just where one of their bits is
set (R223). The marks are the model's: it holds them beside the key bits. -/
def Obligations.ProgrammedMarksFollowTheKeys : Prop :=
  ∀ s t : State, s.fuses.marksKeys → step s = .next t → t.fuses.marksKeys

/-- After reset nothing waits, no fuse of a key is set and the marks say so; memory and the planes list nothing;
before the always-on supply is in range nothing is powered (log entries 4 and 6 name what the spec leaves open of this
state). What registers hold at reset, as the tables of the spec give it: PAGE_ID of pages of R559, PAGE_VER, the local
enables of a router that has two local ports, its X table, the layout of XTL frames, the throttle curve, and the
defaults of a few registers (R139, R284, R310, R502, R556, R559). -/
def Obligations.ResetHoldsNothingAndTheTablesValues : Prop :=
  State.reset.pending = [] ∧ State.reset.fuses.marksKeys ∧ State.reset.queueFits = true
    ∧ State.reset.regs = [] ∧ State.reset.planes = [] ∧ State.reset.flash = [] ∧ State.reset.dram = []
    ∧ State.reset.mem = {} ∧ State.reset.pwr.vaon = false ∧ State.reset.held = true
  ∧ State.reset.word 0x10000 = 0x00100000 ∧ State.reset.word 0x24000 = 0x00200004
    ∧ State.reset.word (pageXCV 11) = 0x0070000B ∧ State.reset.word (pageFLT) = 0x00810000
    ∧ State.reset.word (pageFLT + 4) = 0x0100
    ∧ State.reset.get (STATUS.dom_open (pageXCV 3)) = 1
    ∧ State.reset.word (NOC_RTR_XDIR.off 0) = 0x00554003
    ∧ State.reset.get (THM_CURVE.threshold 0) = 100 ∧ State.reset.get (THM_CURVE.level 4) = 15
    ∧ State.reset.get (NOC_INI_CFG.tmo_n (iniBlock .ts)) = 20

/-! ### Storage and registers -/

/-- Storing a field of a register: the field reads the value's low bits; every other field of the register that shares
no bit with it, and every other register, reads as before; nothing but the registers changes. The store that holds
every memory: reading where a value was written gives it, reading elsewhere is as before, and every operation keeps
the one canonical form, in which two memories that read alike are the same data. -/
def Obligations.StoresReadBackAndLeaveTheRest : Prop :=
  (∀ (s : State) (f : Field) (v : Nat), f.hi < 32 →
    (s.put f v).get f = v % 2 ^ (f.hi + 1 - f.lo)
      ∧ (∀ g : Field, g.hi < 32 → (g.off ≠ f.off ∨ g.hi < f.lo ∨ f.hi < g.lo) → (s.put f v).get g = s.get g)
      ∧ s.SameRegs (s.put f v) [f.off] ∧ s.OnlyRegs (s.put f v))
  ∧ (∀ (d : Nat → Byte) (m n : KMap Byte) (k j : Nat) (v : Byte) (vs : List Byte),
    (m.set d k v).get d j = (if j = k then v else m.get d j)
      ∧ (j < k ∨ k + vs.length ≤ j → (m.setMany d k vs).get d j = m.get d j)
      ∧ (∀ i, (h : i < vs.length) → (m.setMany d k vs).get d (k + i) = vs[i])
      ∧ (m.wf d = true → (m.set d k v).wf d = true ∧ (m.setMany d k vs).wf d = true ∧ (m.eraseRange k j).wf d = true)
      ∧ (m.wf d = true → n.wf d = true → (∀ i, m.get d i = n.get d i) → m = n))

/-- The access codes (R10): of a register whose fields share no bit, a write stores in an RW field the value it clamps
to, clears the W1C bits written as 1, stores in an RWL field only while the page is unlocked, and leaves RO, RC, WO
and W1S fields; bits of no field stand. -/
def Obligations.WritesFollowTheAccessCodes : Prop :=
  ∀ (fs : List FieldSpec) (locked : Bool) (old v : Word),
    (∀ f ∈ fs, f.lo ≤ f.hi ∧ f.hi < 32) → fs.Pairwise (fun f g => f.hi < g.lo ∨ g.hi < f.lo) →
    (∀ f ∈ fs, f.clamp = none →
      let new := bitsOf (writeFields fs locked (fun _ => true) old v) f.hi f.lo
      (f.acc = .rw ∨ (f.acc = .rwl ∧ locked = false) → new = bitsOf v f.hi f.lo)
        ∧ (f.acc = .w1c → new = bitsOf (old &&& ~~~v) f.hi f.lo)
        ∧ (f.acc = .ro ∨ f.acc = .rc ∨ f.acc = .wo ∨ f.acc = .w1s ∨ (f.acc = .rwl ∧ locked = true) →
            new = bitsOf old f.hi f.lo))
      ∧ (∀ n < 32, (∀ f ∈ fs, n < f.lo ∨ f.hi < n) →
          (writeFields fs locked (fun _ => true) old v).getLsbD n = old.getLsbD n)

/-- An event with its entry (R474, R475, R556): the page's EVT bit is set and the others stand, EVT_CNT counts one
unless it is saturated, the information words show in the page but for CFG and SCB, and the entry joins the intake
while it holds fewer than 64, laid out and timed as R474 says; nothing else changes, but for the fault log's own
counters when the intake is full. -/
def Obligations.RaisingAnEventSetsItsBitAndLogs : Prop :=
  (∀ (s : State) (pg n code i0 i1 : Nat) (cls : BitVec 2), n < 32 → pg % 4096 = 0 → pg ≠ pageFLT →
    let t := s.raise pg n cls code i0 i1
    t.get (EVT.v pg) = s.get (EVT.v pg) ||| 2 ^ n
      ∧ t.get (EVT_CNT.v pg) = min (s.get (EVT_CNT.v pg) + 1) (2 ^ 32 - 1)
      ∧ (pg ≠ pageCFG → pg ≠ pageSCB → t.get (ERR_INFO0.v pg) = i0 % 2 ^ 32 ∧ t.get (ERR_INFO1.v pg) = i1 % 2 ^ 32)
      ∧ (s.flt.intake.length < 64 →
          t.flt = { s.flt with
            intake := s.flt.intake ++ [encodeEntry s.stamp.1 s.stamp.2 false (pageEntry pg cls code i0 i1)] }
          ∧ s.SameRegs t [EVT.off pg, EVT_CNT.off pg, ERR_INFO0.off pg, ERR_INFO1.off pg])
      ∧ (64 ≤ s.flt.intake.length → t.flt.intake = s.flt.intake ∧ t.flt.dropped = s.flt.dropped + 1)
      ∧ t = { s with regs := t.regs, flt := t.flt })
  ∧ (∀ (t : BitVec 80) (aon lost : Bool) (e : FaultRec),
    let w := (encodeEntry t aon lost e).toNat
    w % 2 ^ 80 = t.toNat ∧ w / 2 ^ 80 % 2 ^ 8 = e.block.toNat ∧ w / 2 ^ 88 % 2 ^ 4 = 0 ∧ w / 2 ^ 92 % 2 = lost.toNat
      ∧ w / 2 ^ 93 % 2 = aon.toNat ∧ w / 2 ^ 94 % 4 = e.cls.toNat ∧ w / 2 ^ 96 % 2 ^ 16 = e.inst.toNat
      ∧ w / 2 ^ 112 % 2 ^ 16 = e.code.toNat ∧ w / 2 ^ 128 % 2 ^ 64 = e.info0.toNat ∧ w / 2 ^ 192 = e.info1.toNat)
  ∧ (∀ s : State, (s.stamp.2 = true ↔ s.get TH_STATUS.state = 0) ∧ (s.stamp.2 = false → s.stamp.1 = s.th.time)
      ∧ (s.stamp.2 = true → s.stamp.1.toNat % 2 ^ 16 = 0 ∧ s.stamp.1.toNat / 2 ^ 16 = s.aonTime % 2 ^ 64))
  ∧ (∀ (pg code i0 i1 : Nat) (cls : BitVec 2), i0 < 2 ^ 64 → i1 < 2 ^ 64 →
      (pageEntry pg cls code i0 i1).info0.toNat = i0 ∧ (pageEntry pg cls code i0 i1).info1.toNat = i1)

/-- What a plain read command does (R9, R10, R11, R556): RC_READ of a whole register answers what the register shows
with its WO fields as 0, and clears its RC fields; EVT_CLEAR, EVT_FORCE and PAGE_LOCK_SET act on a page's header
alone. -/
def Obligations.RegisterCommandsComplete : Prop :=
  (∀ (s : State) (off : BitVec 26) (v : Word) (sender : Sender), off.toNat % 4 = 0 →
    exec (.registerWrite sender off 4 v) s = .next (s.mirrorFrom (s.regWrite sender off.toNat v)))
  ∧ (∀ (s : State) (off : BitVec 26) (bytes : Fin 5) (v : Word) (sender : Sender), bytes ≠ 4 ∨ off.toNat % 4 ≠ 0 →
    exec (.registerWrite sender off bytes v) s = .next s)
  ∧ (∀ (s : State) (off : BitVec 26), off.toNat % 4 = 0 →
    off.toNat ∉ [CLK_AON_TIME.off 0, TH_TIME.off 0, FLT_ENT.off 0] →
    ∃ t, exec (.rcRead off 4) s = .next t
      ∧ t.answer = toBytes (readFields (fieldsAt off.toNat) (s.shown off.toNat)).toNat 4
      ∧ t.word off.toNat = clearRead (fieldsAt off.toNat) 0 4 (s.word off.toNat)
      ∧ s.SameRegs t [off.toNat] ∧ t = { s with regs := t.regs, answer := t.answer })
  ∧ (∀ (s : State) (page : BitVec 14) (v hwSet : Word) (p : PageSpec) (i : Nat),
    locate (4096 * page.toNat) = some (p, i, 0) → p.header = true →
    ∃ t, exec (.evtClear page v hwSet) s = .next t
      ∧ t.word (EVT.off (4096 * page.toNat)) = (s.word (EVT.off (4096 * page.toNat)) &&& ~~~v) ||| hwSet
      ∧ s.SameRegs t [EVT.off (4096 * page.toNat)] ∧ s.OnlyRegs t)
  ∧ (∀ (s : State) (page : BitVec 14) (v : Word) (p : PageSpec) (i : Nat),
    locate (4096 * page.toNat) = some (p, i, 0) → p.header = true →
    ∃ t, exec (.evtForce page v) s = .next t
      ∧ t.word (EVT.off (4096 * page.toNat))
          = s.word (EVT.off (4096 * page.toNat)) ||| (v &&& BitVec.ofNat 32 (evtMask p i))
      ∧ s.SameRegs t [EVT.off (4096 * page.toNat)] ∧ s.OnlyRegs t)
  ∧ (∀ (s : State) (page : BitVec 14) (v : Word) (p : PageSpec) (i : Nat),
    locate (4096 * page.toNat) = some (p, i, 0) → p.header = true →
    ∃ t, exec (.pageLockSet page v) s = .next t
      ∧ t.locked (4096 * page.toNat) = (s.locked (4096 * page.toNat) || bit v 0)
      ∧ s.SameRegs t [PAGE_LOCK.off (4096 * page.toNat)] ∧ s.OnlyRegs t)

/-! ### Resets, pins and supplies -/

/-- Power-on, power loss and the reset pins (R12, R29, R32, R488, R494, R495): what each leaves. Requests of power
domains (R496, R497): a close of an OPEN domain without a ground for refusal is accepted and begins; without power the
domain opens; the answers that refuse; power off and the return to OPEN. -/
def Obligations.PowerAndDomainCommandsComplete : Prop :=
  (∀ (s : State) (role : Bool) (addr : BitVec 3), s.pwr.vaon = false →
    ∃ t, exec (.vaonInRange role addr) s = .next t
      ∧ t.pwr.vaon = true ∧ t.pins.pairRole = role ∧ t.pins.twpAddr = addr
      ∧ t.get PAIR_STAT.pin_role = role.toNat ∧ t.get PAIR_STAT.role = role.toNat
      ∧ t.get TWP_CFG.addr = 0x58 + addr.toNat ∧ t.flash = s.flash ∧ t.fuses = s.fuses ∧ t.pending = s.pending
      ∧ t.mem = {} ∧ t.planes = [] ∧ t.dram = []
      ∧ (∀ o, o ∉ [PAIR_STAT.off, TWP_CFG.off, CFG_FUSE_STAT.off] → (∀ e ∈ s.fuse, e.1 ≠ o) → t.word o = resetWord o))
  ∧ (∀ s : State, exec .powerLoss s = .next s.flashLoss.coldReset ∧ s.flashLoss.coldReset.pwr.vaon = false)
  ∧ (∀ s : State, s.pins.perst = false → s.pins.por = false → s.pwr.vaon = true →
    exec .pciePerstNAssert s = .next { s.warmReset with pins := { s.warmReset.pins with perst := true } }
      ∧ exec .porNAssert s = .next { s.warmReset with pins := { s.warmReset.pins with por := true } })
  ∧ (∀ s : State, s.pins.por = true →
    exec .pciePerstNAssert s = .next { s with pins := { s.pins with perst := true } })
  ∧ (∀ s : State, exec .pciePerstNRelease s = .next ({ s with pins := { s.pins with perst := false } }.put TWP_STAT.wake 0)
      ∧ exec .porNRelease s = .next { s with pins := { s.pins with por := false } })
  ∧ (∀ s : State, s.pwr.vaon = true → s.pwr.tv = false →
    (∀ n : Fin 11, n.val ≠ 0 → (s.put (supplyBit n.val) 1).allSupplies = true →
      ∃ t, exec (.supplyInRange n) s = .next t ∧ t.pwr.tv = true ∧ t.get (supplyBit n.val) = 1
        ∧ s.SameRegs t [PWR_SUP_STAT.off] ∧ t = { s with regs := t.regs, pwr := { s.pwr with tv := true } }))
  ∧ (∀ s : State, s.pwr.vaon = true → s.pwr.tv = true → ∀ n : Fin 11, n.val ≠ 0 →
    exec (.supplyFault n) s = .next ({ ((s.put (supplyBit n.val) 0).raise pagePWR 0 FATAL 0x1101 n.val 0).alert 3 with
      pwr := { s.pwr with supply := true } }.warmReset))
  ∧ (∀ s : State, s.pwr.supply = true → s.allSupplies = true →
    exec .supplyRecovered s = .next { s with pwr := { s.pwr with supply := false } })
  ∧ (∀ (s : State) (d : DomId) (v : Word), d.toNat ∈ allDoms → 0x010 ≤ d.toNat →
    bit v 31 = true → bit v 30 = false → s.get (PWR_DOM.state d.toNat) = 0 → s.fullLoading = false →
    (s.closeRefusal d.toNat = none →
      exec (.domainClose d v) s = .next ((s.domAnswer d.toNat 1 0).beginClose d.toNat))
    ∧ (∀ r, s.closeRefusal d.toNat = some r → exec (.domainClose d v) s = .next (s.domAnswer d.toNat 3 r)))
  ∧ (∀ (s : State) (d : DomId) (v : Word), d.toNat ∈ allDoms → 0x010 ≤ d.toNat →
    bit v 31 = false → bit v 30 = true → s.get (PWR_DOM.state d.toNat) = 2 → s.fullLoading = false →
    exec (.domainOpen d v) s = .next ((s.domAnswer d.toNat 1 0).setDom d.toNat 3))
  ∧ (∀ (s : State) (d : DomId) (v : Word), d.toNat < 2 → bit v 31 = true → bit v 30 = false →
    exec (.domainClose d v) s = .next (s.domAnswer d.toNat 3 1))
  ∧ (∀ (s : State) (d : DomId), d.toNat ∈ allDoms → s.get (PWR_DOM.state d.toNat) = 1 →
    s.closeDone d.toNat = true → exec (.domainPowerOff d) s = .next (s.domOff d.toNat))
  ∧ (∀ (s : State) (d : DomId), d.toNat ∈ allDoms → s.get (PWR_DOM.state d.toNat) = 3 →
    exec (.domainOpened d) s = .next (s.domOpened d.toNat))
  ∧ (∀ (s : State) (d a r : Nat), d < 0x200 → a < 4 → r < 8 →
    (s.domAnswer d a r).get (PWR_DOM.answer d) = a ∧ (s.domAnswer d a r).get (PWR_DOM.reason d) = r)

/-- A warm reset (R12, R32): what stands inside the system is at its reset state; the always-on domain's pins and
supplies, the fuses, the fault log's ring and the waiting commands stand, and so does the flash where no operation was
under way. A block reset (R29, R31): CTRL.blk_reset starts it once and closes the instance's ports; it takes effect
when they are CLOSED, and then the ports are OPEN again. -/
def Obligations.ResetsLeaveWhatTheirKindKeeps : Prop :=
  (∀ s : State,
    s.warmReset.planes = [] ∧ s.warmReset.mem = {} ∧ s.warmReset.slices = [] ∧ s.warmReset.fabric = {}
      ∧ s.warmReset.dram = [] ∧ s.warmReset.noc = {} ∧ s.warmReset.stalls = [] ∧ s.warmReset.se = {} ∧ s.warmReset.ts = {}
      ∧ s.warmReset.cc = {} ∧ s.warmReset.xcv = {} ∧ s.warmReset.th = {}
      ∧ s.warmReset.pins = s.pins ∧ s.warmReset.fuses = s.fuses ∧ s.warmReset.pending = s.pending
      ∧ s.warmReset.now = s.now ∧ s.warmReset.jtag = s.jtag
      ∧ s.warmReset.flt.ring = s.flt.ring ∧ s.warmReset.flt.backlog = s.flt.backlog
      ∧ (s.cfg.flash = none → s.warmReset.flash = s.flash))
  ∧ (∀ (s : State) (b : ResetBlock) (v : Word), bit v 31 = true → s.is (STATUS.in_reset (blockPage b)) = false →
    exec (.blkReset b v) s
      = .next ((s.put (STATUS.in_reset (blockPage b)) 1).each (blockPorts b) fun s p => s.closePort false p))
  ∧ (∀ (s : State) (b : ResetBlock) (v : Word), bit v 31 = false ∨ s.is (STATUS.in_reset (blockPage b)) = true →
    exec (.blkReset b v) s = .next s)
  ∧ (∀ (s : State) (b : ResetBlock), s.is (STATUS.in_reset (blockPage b)) = true →
    (∀ p ∈ blockPorts b, s.portState p = 2) →
    exec (.blockResetApply b) s = .next (s.applyBlock b))
  ∧ (∀ (s : State) (b : ResetBlock) (p : Nat), p ∈ blockPorts b → s.portState p ≠ 2 →
    exec (.blockResetApply b) s = .next s)

/-! ### Power domains, heat and ageing -/

/-- The throttle removes exactly L of any 16 consecutive edges at level L, and none of them at level 0 (R501). The
margin planner's arithmetic (R508 to R510): a target is clamped to 700 to 850 mV; a rise is requested at once; a fall
is of at most 2 mV a sweep, never below the target, and begins only where the target lies 3 mV or more below; the
worked example of R510. -/
def Obligations.LimitsOfPowerAndVoltage : Prop :=
  (∀ l start : Nat, l < 16 →
    ((List.range 16).filter fun i => edgeRemoved l (start + i)).length = l)
  ∧ (∀ v : Int, 700 ≤ clampMv v ∧ clampMv v ≤ 850)
  ∧ (∀ (r v : Nat) (d : Bool), r ≤ v → autoRequest (some r) d v = (v, false))
  ∧ (∀ (r v : Nat) (d : Bool), v < r →
    v ≤ (autoRequest (some r) d v).1 ∧ r ≤ (autoRequest (some r) d v).1 + 2 ∧ (autoRequest (some r) d v).1 ≤ r)
  ∧ (∀ r v : Nat, v < r → ((autoRequest (some r) false v).2 = true ↔ v + 3 ≤ r))
  ∧ voutWord 784 (-12) = 0x0C8B

/-- The thermal commands (R500 to R504): a reading of a powered sensor shows in THM_SENS, and one outside −55 °C to
+150 °C is faulty; the level is the largest of the three, or 15; a trip is logged once and held; the shutdown is a
warm reset and a hold. Ageing and PMBus (R505 to R510): a sweep measures, counts and plans; a request for one is
accepted; the hour's summary; a transaction, its third failure in a row, the alert, and the retry that resumes. -/
def Obligations.ThermalAndAgeingCommandsComplete : Prop :=
  (∀ (s : State) (n : Fin 24) (x : Int), s.is (supplyBit 3) = true →
    exec (.sensorReading n x) s = .next (s.readSensor n.val x))
  ∧ (∀ (s : State) (n : Fin 24) (x : Int), s.is (supplyBit 3) = true → n.val = 16 ∨ n.val = 17 ∨ 18 < n.val →
    -440 ≤ x → x ≤ 1200 →
    ∃ t, exec (.sensorReading n x) s = .next t ∧ t.getS (THM_SENS.temp n.val) = x ∧ t.get (THM_SENS.fault n.val) = 0
      ∧ t.get (THM_SENS.stale n.val) = 0)
  ∧ (∀ s : State, ∃ t, exec .throttleUpdate s = .next t ∧ t.get THM_STAT.L = t.levelNow
      ∧ t.get THM_STAT.derating = (if s.is AGE_CFG.derate_thr then s.get AGE_STAT.derate else 0))
  ∧ (∀ (s : State) (n : Fin 24), s.is (THM_SENS.fault n.val) = false → s.pwr.trip = false →
    exec (.thermalTrip n) s
      = .next ({ s with pwr := { s.pwr with trip := true } }.raise pageTHM 0 FATAL 0x1110 n.val 0))
  ∧ (∀ s : State, (∀ n < 24, s.is (THM_SENS.fault n) = true) → s.pwr.trip = false →
    exec .sensorsFaultyTrip s
      = .next ({ s with pwr := { s.pwr with trip := true } }.raise pageTHM 0 FATAL 0x1110 0 0))
  ∧ (∀ s : State, s.pwr.trip = true → s.pwr.tripHeld = false →
    exec .tripShutdown s = .next { s with pwr := { s.pwr with tripHeld := true } }.warmReset)
  ∧ (∀ (s : State) (shifts : List (Fin 512 × Int)), exec (.ageingSweep shifts) s = .next (s.sweepOver shifts))
  ∧ (∀ (s : State) (v : Word), bit v 31 = true →
    ∃ t, exec (.sweep v) s = .next t ∧ t.get AGE_MAINT.answer = 1 ∧ t.age = { s.age with asked := true }
      ∧ s.SameRegs t [AGE_MAINT.off] ∧ t = { s with regs := t.regs, age := t.age })
  ∧ (∀ (s : State) (ok : Bool), exec (.summarySave ok) s = .next (s.saveSummary ok)
      ∧ (s.saveSummary ok).age.hours = s.age.hours + 1)
  ∧ (∀ (s : State) (tx : PmbusTx), s.age.stopped = false →
    exec (.pmbusTransaction tx) s = .next (s.pmbusDone tx.cmd tx.ok tx.data)
      ∧ (tx.ok = false → (2 ≤ s.age.fails ↔ (s.pmbusDone tx.cmd tx.ok tx.data).age.stopped = true)))
  ∧ (∀ (s : State) (word : BitVec 16), exec (.pmbAlert word) s = .next (s.raise pagePWR 5 INFO 0x1106 word.toNat 0))
  ∧ (∀ s : State, s.age.stopped = true →
    exec (.pmbusRetry true) s
        = .next ({ s with age := { s.age with stopped := false, fails := 0 } }.put AGE_STAT.pmb_fault 0)
      ∧ exec (.pmbusRetry false) s = .next s)

/-! ### Towpath -/

/-- The register window over SMBus and SPI (R515 to R522): a write of WIN_ADDR with rd starts a read; WIN_WDATA starts
a write at the window's address, which then advances by 4; a write without a correct PEC where PEC is required is
counted and discarded; WIN_RDATA answers status and data; SPI words write consecutive registers; the end of an access.
The Towpath's identification, requests and alert (R516 to R518, R523 to R526): what is answered, and what each request
does while it may. -/
def Obligations.TowpathCommandsComplete : Prop :=
  (∀ (s : State) (v : Word) (pec : Option Bool), s.is TWP_CFG.smb_en = true → s.is TWP_CFG.pec_req = false ∨ pec = some true →
    (bit v 30 = true → exec (.winAddr v pec) s
      = .next ((s.setWin .smbus { s.win .smbus with word := v }).arriveAccess .smbus (.read (bitsOf v 29 0))))
    ∧ (bit v 30 = false → exec (.winAddr v pec) s = .next (s.setWin .smbus { s.win .smbus with word := v }))
    ∧ (bit (s.win .smbus).word 31 = true → exec (.winWdata v pec) s
      = .next ((s.setWin .smbus { s.win .smbus with word := advanceWindow (s.win .smbus).word }).arriveAccess .smbus
          (.write (bitsOf (s.win .smbus).word 29 0) v)))
    ∧ (bit (s.win .smbus).word 31 = false → exec (.winWdata v pec) s
      = .next (s.arriveAccess .smbus (.write (bitsOf (s.win .smbus).word 29 0) v))))
  ∧ (∀ (s : State) (v : Word) (pec : Option Bool), s.is TWP_CFG.smb_en = true → s.is TWP_CFG.pec_req = true → pec ≠ some true →
    exec (.winAddr v pec) s = .next ((s.count TWP_PEC_ERR.v).raise pageTWP 3 INFO 0x1204 0x10 0)
    ∧ exec (.winWdata v pec) s = .next ((s.count TWP_PEC_ERR.v).raise pageTWP 3 INFO 0x1204 0x11 0))
  ∧ (∀ s : State, s.is TWP_CFG.smb_en = true → (s.win .smbus).reading = false → bit (s.win .smbus).word 31 = false →
    exec .winRdata s
      = .next (s.answering (toBytes (s.win .smbus).status 1 ++ toBytes (s.win .smbus).data.toNat 4)))
  ∧ (∀ (s : State) (word : BitVec 24) (w : Word), s.is TWP_CFG.spi_en = true →
    exec (.spiWrite word [w]) s = .next (s.arriveAccess .spi (.write (4 * word.toNat % 2 ^ 26) w))
    ∧ exec (.spiRead word) s = .next ((s.answering [0xFF]).arriveAccess .spi (.read (4 * word.toNat))))
  ∧ (∀ (s : State) (t : Transport) (status : BitVec 4) (data : Word) (a : WinAccess), (s.win t).pending = some a →
    directPage a.at_ = true ∨ status.toNat < 8 →
    exec (.windowAccessComplete t status data) s
      = .next ((s.finishAccess t a status.toNat data).spiAnswer t a.isRead).pump)
  ∧ (∀ (s : State) (t : Transport) (off : Nat) (data : Word), directPage off = false →
    let u := (s.setWin t { s.win t with pending := some (.read off) }).finishAccess t (.read off) 0 data
    (u.win t).status = 0 ∧ (u.win t).data = data ∧ (u.win t).pending = none)
  ∧ (∀ s : State, s.is TWP_CFG.smb_en = true →
    exec .twpStat s = .next (s.answerWord (s.shown TWP_STAT.off)) ∧ exec .id s = .next (s.answerWord (s.word DEV_IDCODE.off)))
  ∧ (∀ s : State, s.is TWP_CFG.spi_en = true →
    exec .spiStatus s = .next (s.answering (spiBytes (s.shown TWP_STAT.off)))
    ∧ exec .spiId s = .next (s.answering (spiBytes (s.word DEV_IDCODE.off))))
  ∧ (∀ (s : State) (t : Transport), s.transportOn t = true →
    exec (.reset t 0x80000000) s = .next (s.twpReset 0x80000000)
    ∧ (s.held = false → exec (.reconfigure t 0x40000000) s
        = .next (((s.raise pageTWP 1 INFO 0x1202 0x40000000 0).twpAnswer true).writeCfgCtrl
            (((s.raise pageTWP 1 INFO 0x1202 0x40000000 0).twpAnswer true).word CFG_CTRL.off ||| 0x80000000)))
    ∧ (s.held = true → exec (.reconfigure t 0x40000000) s = .next (s.twpAnswer false))
    ∧ (s.pins.perst = true → (s.fn 0).pmeEn = true → exec (.wake t 0x20000000) s
        = .next (((s.raise pageTWP 2 INFO 0x1203 0x20000000 0).twpAnswer true).put TWP_STAT.wake 1))
    ∧ (s.pins.perst = false → exec (.wake t 0x20000000) s = .next (s.twpAnswer false))
    ∧ exec (.alertClear t 0x10000000) s = .next ((s.twpAnswer true).setWord TWP_ALERT_SRC.off 0))
  ∧ (∀ s : State, s.is TWP_CFG.smb_en = true → s.alertLow = true →
    ∃ t, exec .alertResponse s = .next t ∧ t.answer = toBytes (s.get TWP_CFG.addr) 1 ∧ t.alertLow = false
      ∧ t = { s with answer := t.answer, twp := { s.twp with answered := true } })
  ∧ (∀ s : State, exec .smbusTimeout s = .next (s.raise pageTWP 4 INFO 0x1205 0 0))
  ∧ (∀ (s : State) (v : Word), bit v 0 = true →
    ∃ t, exec (.fwAlert v) s = .next t ∧ t.get ⟨TWP_ALERT_SRC.off, 7, 7⟩ = 1 ∧ s.SameRegs t [TWP_ALERT_SRC.off]
      ∧ t = { s with regs := t.regs, twp := { s.twp with answered := t.twp.answered } })
  ∧ (∀ s : State, (s.twpAnswer true).get TWP_STAT.req_result = 1 ∧ (s.twpAnswer false).get TWP_STAT.req_result = 3
      ∧ (s.twpAnswer false).get ⟨TWP_ALERT_SRC.off, 6, 6⟩ = 1)

/-! ### JTAG -/

/-- The JTAG instructions (R223, R550, R551): while VCCAUX is in range each takes effect; EXTEST, EXTEST_PULSE,
EXTEST_TRAIN, HIGHZ and CLAMP hold the system in a warm reset, and any other instruction releases it; without the
supply nothing happens. -/
def Obligations.JtagCommandsComplete : Prop :=
  (∀ s : State, s.jtagOn = true →
    exec .bypass s = .next (s.takeInstruction 0x3FF false [])
    ∧ exec .idcode s = .next ((s.takeInstruction 0x009 false []).answerWord (s.word DEV_IDCODE.off))
    ∧ (∀ b, exec (.samplePreload b) s = .next { s.takeInstruction 0x001 false [] with
        jtag := { (s.takeInstruction 0x001 false []).jtag with boundary := b } })
    ∧ exec .extest s = .next (s.takeInstruction 0x026 true s.jtag.boundary)
    ∧ exec .extestPulse s = .next (s.takeInstruction 0x03C true s.jtag.boundary)
    ∧ exec .extestTrain s = .next (s.takeInstruction 0x03D true s.jtag.boundary)
    ∧ exec .highz s = .next (s.takeInstruction 0x00A true [])
    ∧ exec .clamp s = .next (s.takeInstruction 0x00B true s.jtag.boundary)
    ∧ (∀ bytes, exec (.cfgIn bytes) s = .next
        (((s.takeInstruction 0x005 false []).answerWord ((s.takeInstruction 0x005 false []).shown CFG_STATUS.off)).shiftConfig
          bytes))
    ∧ (∀ f data, ∃ t, exec (.fuseProg f data) s = .next t ∧ t.fuses = s.fuses.burn f data ∧ t.jtag.code = 0x0A5
        ∧ s.SameRegs t [CFG_FUSE_STAT.off] ∧ t = { s with regs := t.regs, fuses := t.fuses, jtag := t.jtag }))
  ∧ (∀ (s : State) (code : Nat) (d : List Bool),
    (s.takeInstruction code false d) = { s with jtag := { s.jtag with code := code, held := false, driven := d } }
    ∧ (s.takeInstruction code true d).jtag.held = true ∧ (s.takeInstruction code true d).held = true
    ∧ (s.jtag.held = false → (s.takeInstruction code true d).planes = [] ∧ (s.takeInstruction code true d).mem = {}))
  ∧ (∀ s : State, s.jtagOn = false → exec .bypass s = .next s ∧ exec .extest s = .next s ∧ exec .highz s = .next s)

/-! ### The fault log -/

/-- Intake and ring (R475, R476, R478): an entry joins the queue of 64, or is dropped and counted; one entry at a time
goes to the ring, at the slot of its number, and FLT_COUNT counts it; FLT_ENT0 to FLT_ENT7 show the selected slot. The
flash log (R477 to R482): the flush timer, the enable, a flush that has reached the flash or failed, the erase ahead,
the scan after a reset, and the power-fail warning. -/
def Obligations.FaultLogCommandsComplete : Prop :=
  (∀ (s : State) (e : FaultRec), s.flt.intake.length < 64 →
    exec (.faultEntry e) s = .next { s with flt := { s.flt with
      intake := s.flt.intake ++ [encodeEntry s.stamp.1 s.stamp.2 false e] } })
  ∧ (∀ (s : State) (e : FaultRec), 64 ≤ s.flt.intake.length →
    ∃ t, exec (.faultEntry e) s = .next t ∧ t.flt.intake = s.flt.intake ∧ t.flt.dropped = s.flt.dropped + 1
      ∧ t.get FLT_DROP.v = min (s.get FLT_DROP.v + 1) (2 ^ 32 - 1))
  ∧ (∀ (s : State) (e : BitVec 256) (rest : List (BitVec 256)), s.flt.intake = e :: rest → s.flt.dropped = 0 →
    ∃ t, exec .ringIntake s = .next t ∧ t.flt.intake = rest
      ∧ t.flt.ring.get ringDefault (s.get FLT_COUNT.v % 1024) = e
      ∧ (∀ k, k ≠ s.get FLT_COUNT.v % 1024 → t.flt.ring.get ringDefault k = s.flt.ring.get ringDefault k)
      ∧ t.get FLT_COUNT.v = (s.get FLT_COUNT.v + 1) % 2 ^ 32)
  ∧ (∀ s : State,
    ∃ t, exec .fltEntRead s = .next t
      ∧ t.answer = toBytes ((s.flt.ring.get ringDefault (s.get FLT_SEL.v)).toNat % 2 ^ 32) 4
      ∧ (∀ i, i < 8 → (t.word (FLT_ENT.off i)).toNat
          = (s.flt.ring.get ringDefault (s.get FLT_SEL.v)).toNat / 2 ^ (32 * i) % 2 ^ 32)
      ∧ t = { s with regs := t.regs, answer := t.answer })
  ∧ (∀ s : State, s.get FLT_STAT.state = 2 → s.flt.backlog ≠ [] → s.flt.flushing = 0 →
    exec .flushTimer s
      = .next (({ s with flt := { s.flt with flushing := s.flt.backlog.length } }).put FLT_STAT.flushing 1))
  ∧ (∀ (s : State) (v : Word), s.locked pageFLT = true → bit v 31 = true →
    exec (.flushNow v) s = .next s.startFlush ∧ exec (.logEnable v) s = .next s.startFlush)
  ∧ (∀ (s : State) (v : Word), s.locked pageFLT = false → bit v 31 = false → bit v 30 = true → s.is FLT_CTRL.log_en = false →
    s.cfg.goldenEnd = none → 4 ≤ s.get FLT_AREA_PAGES.v →
    exec (.logEnable v) s = .next ((s.putB FLT_CTRL.log_en true).put FLT_STAT.state 1))
  ∧ (∀ (s : State) (p : Nat), s.flt.flushing ≠ 0 → s.flt.cur = some p → s.flt.slot < 127 →
    exec (.flushComplete false) s
      = .next ({ s with flt := { s.flt with cur := some p, slot := 127 } }.retirePage p true))
  ∧ (∀ s : State, 0 < s.flt.flushing → s.flt.flushing ≤ s.flt.backlog.length → s.flt.cur.isSome = true →
    s.flt.slot + s.flt.flushing + 1 ≤ 127 →
    ∃ t, exec (.flushComplete true) s = .next t ∧ t.flt.backlog = s.flt.backlog.drop s.flt.flushing
      ∧ t.flt.slot = s.flt.slot + s.flt.flushing + 1 ∧ t.flt.ring = s.flt.ring)
  ∧ (∀ (s : State) (p : Nat), s.get FLT_STAT.state = 2 → s.pageDue = some p → (s.logPage p).erases < 100000 →
    exec (.pageEraseComplete true) s = .next ((s.flashErase (s.logAddr p) 4096).setLogPage p
      { s.logPage p with erased := true, erases := (s.logPage p).erases + 1 }))
  ∧ (∀ s : State, s.get FLT_STAT.state = 1 →
    ∃ t, exec .logScanComplete s = .next t ∧ (t.get FLT_STAT.state = 2 ∨ t.get FLT_STAT.state = 3))
  ∧ (∀ s : State, s.is FLT_STAT.pfw = false → s.cfg.flash = none → s.pageDue = none →
    exec .powerFailWarning s = .next ((s.put FLT_STAT.pfw 1).raise pageFLT 5 INFO 0x1006 0 0))
  ∧ (∀ s : State, s.is FLT_STAT.pfw = true → s.flt.keptOut = 0 →
    exec .powerFailClear s
      = .next ({ s.put FLT_STAT.pfw 0 with flt := { s.flt with ringOnly := false, keptOut := 0 } }.showBacklog))

/-! ### Clocks -/

/-- The clock sources (R173 to R180, R187): a source that passes its qualification is READY, AONCLK starting the
always-on count; the root and the time PLL lock; a missing source leaves READY; a gate of the monitor. The switches
and the trim (R177, R181 to R186, R188): a converged search and a tracking step; a request of CLK_SEL that is locked
is refused LOCKED with an event; a switch completes and is DONE; the root lost while its reference is READY is FATAL
and resets the device; CLK_AON_TIME0 reads the always-on count. -/
def Obligations.ClockCommandsComplete : Prop :=
  (∀ s : State, s.get CLK_SRC_STAT.osc_ready = 0 → (s.mon .osc).lost = false → s.clk.aonStart = none →
    ∃ t, exec .oscReady s = .next t ∧ t.get CLK_SRC_STAT.osc_ready = 1 ∧ t.clk.aonStart = some s.now ∧ t.aonTime = 0
      ∧ s.SameRegs t [CLK_SRC_STAT.off, CLK_MON_STAT.off] ∧ t = { s with regs := t.regs, clk := t.clk })
  ∧ (∀ s : State, s.get CLK_SRC_STAT.xtal_ready = 0 → (s.mon .xtal).lost = false →
    exec .crystalReady s = .next (s.becomeReady .xtal))
  ∧ (∀ (s : State) (at100 : Bool), s.get CLK_SRC_STAT.ref_ready = 0 → (s.mon .ref).lost = false →
    exec (.refclkReady at100) s = .next ((s.put CLK_SRC_STAT.ref_freq (if at100 then 2 else 1)).becomeReady .ref))
  ∧ (∀ s : State, s.get CLK_SRC_STAT.root_ready = 0 → s.rootRefReady (s.get CLK_SEL.root_ref) = true →
    s.get CLK_SW_STAT.root ≠ 2 →
    exec .rootPllLock s = .next (({ s with clk := { s.clk with rootTo := none, fallback := false } }.put
      CLK_SRC_STAT.root_holdover 0).qualify .root))
  ∧ (∀ s : State, s.get CLK_SRC_STAT.thpll_ready = 0 → s.is TH_CTRL.enable = true → s.clk.thTo = none →
    s.thRefReady = true → exec .thPllLock s = .next (s.qualify .thpll))
  ∧ (∀ s : State, s.is CLK_SRC_STAT.thpll_ready = true →
    exec .thPllLockLost s
      = .next ((s.put CLK_SRC_STAT.thpll_ready 0).setMon .thpll { lost := true, requal := true }).rootReference)
  ∧ (∀ (s : State) (x : ClkSrc), s.is (srcReady x) = true →
    exec (.missingClock x) s
      = .next (((s.put (missingBit x) 1).raise pageCLK 0 CONTAINED 0x0601 (srcNo x) 0).leaveReady x true))
  ∧ (∀ (s : State) (g : GateSeen), s.votes g .xtal = false → s.votes g .ref = false → s.is CLK_MON_STAT.disagree = false →
    exec (.monitorGate g) s = .next (((((((s.put CLK_MON_STAT.disagree 0).gateSource g .osc false).gateSource g .xtal
      false).gateSource g .ref false).gateSource g .root false).gateSource g .thpll false)))
  ∧ (∀ (s : State) (code : BitVec 12) (err : BitVec 16), s.clk.searching = true →
    ∃ t, exec (.trimConverged code err) s = .next t ∧ t.get CLK_TRIM_STAT.code = code.toNat
      ∧ t.get CLK_TRIM_STAT.err = err.toNat ∧ t.get CLK_TRIM_STAT.converged = 1
      ∧ t.clk = { s.clk with searching := false, trimCode := code })
  ∧ (∀ (s : State) (err : BitVec 16), s.clk.searching = false → s.get CLK_TRIM_STAT.source ≠ 0 →
    s.is CLK_MON_STAT.disagree = false → s.clk.trimCode ≠ 0xFFF →
    ∃ t, exec (.trimTrackStep true true err) s = .next t ∧ t.clk = { s.clk with trimCode := s.clk.trimCode + 1 }
      ∧ t.get CLK_TRIM_STAT.code = s.clk.trimCode.toNat + 1 ∧ t.get CLK_TRIM_STAT.err = err.toNat
      ∧ s.SameRegs t [CLK_TRIM_STAT.off])
  ∧ (∀ (s : State) (v : Word), exec (.clkSelWrite v) s = .next (s.writeClkSel v))
  ∧ (∀ (s : State) (sel stat : Field) (v src : Nat) (i r b : Bool) (go : State → State), s.get sel ≠ v →
    s.switchField sel stat v src true i r b go = (s.put stat 6).raise pageCLK 4 INFO 0x0605 src 0
    ∧ s.switchField sel stat v src false true r b go = (s.put stat 5).raise pageCLK 4 INFO 0x0605 src 0
    ∧ s.switchField sel stat v src false false false b go = (s.put stat 3).raise pageCLK 4 INFO 0x0605 src 0
    ∧ s.switchField sel stat v src false false true true go = (s.put stat 4).raise pageCLK 4 INFO 0x0605 src 0
    ∧ s.switchField sel stat v src false false true false go = go (s.put sel v))
  ∧ (∀ (s : State) (b : Bool), s.clk.cfgTo = some b → s.get CLK_SW_STAT.cfg = 2 →
    exec (.clkSwitchComplete true) s
      = .next ({ s with clk := { s.clk with cfgFromRoot := b, cfgTo := none } }.put CLK_SW_STAT.cfg 1))
  ∧ (∀ (s : State) (b : Bool), s.clk.aonTo = some b → s.get CLK_SW_STAT.aon = 2 →
    exec (.clkSwitchComplete false) s
      = .next ({ s with clk := { s.clk with aonFromRoot := b, aonTo := none } }.put CLK_SW_STAT.aon 1))
  ∧ (∀ (s : State) (r : Nat), s.clk.rootTo = some r → s.get CLK_SW_STAT.root = 2 →
    exec (.rootRelockComplete false) s
      = .next (({ s with clk := { s.clk with rootTo := none, fallback := false } }.put CLK_SW_STAT.root 1).put
          CLK_SRC_STAT.root_holdover 0))
  ∧ (∀ s : State, s.is CLK_SRC_STAT.root_ready = true → s.rootRefReady (s.get CLK_SEL.root_ref) = true →
    ∃ t u, t = (((s.leaveReady .root true).raise pageCLK 8 FATAL 0x0609 0 0).count CLK_SRC_STAT.root_faults).warmReset
      ∧ exec .rootLockLost s = .next u
      ∧ u = (if t.get CLK_SRC_STAT.root_faults < 3 then t else { t with clk := { t.clk with coreHeld := true } }))
  ∧ (∀ s : State,
    ∃ t, exec .aonTimeRead s = .next t ∧ t.answer = toBytes (s.aonTime % 2 ^ 32) 4
      ∧ (t.word (CLK_AON_TIME.off 1)).toNat = s.aonTime / 2 ^ 32 % 2 ^ 32
      ∧ s.SameRegs t [CLK_AON_TIME.off 0, CLK_AON_TIME.off 1] ∧ t = { s with regs := t.regs, answer := t.answer })

/-- Tile PLLs and regional tracks (R190 to R197, R200): an apply in range relocks the PLL at the registers' setting,
one out of range shows range_err alone; a reset relocks at the loaded setting; lock, its loss, a phase move; a track's
select, gate and the end of its edges. -/
def Obligations.TilePllAndTrackCommandsComplete : Prop :=
  (∀ (s : State) (tile : Fin 40) (f : Bool) (khz : Nat) (g : Fin 3) (v : Word), bit v 31 = true → bit v 30 = false →
    let u := s.write (CMT_CTRL.off tile f.toNat) v
    u.pllNone tile f.toNat = false →
    (u.pllInRange tile f.toNat khz g = true →
      ∃ t, exec (.cmtApply tile f khz g v) s = .next t
        ∧ (t.pll tile f.toNat).loaded = u.pllSetting tile f.toNat ∧ (t.pll tile f.toNat).relocking = true
        ∧ t.get (CMT_STAT.locked tile f.toNat) = 0)
    ∧ (u.pllInRange tile f.toNat khz g = false →
      exec (.cmtApply tile f khz g v) s = .next (u.put (CMT_STAT.range_err tile f.toNat) 1)))
  ∧ (∀ (s : State) (tile : Fin 40) (f : Bool) (v : Word), bit v 31 = false → bit v 30 = true →
    let u := s.write (CMT_CTRL.off tile f.toNat) v
    (u.pll tile f.toNat).loaded ≠ [] →
    exec (.cmtReset tile f v) s = .next (u.relock tile f.toNat (u.pll tile f.toNat).loaded
      (!u.pllNone tile f.toNat)))
  ∧ (∀ (s : State) (tile : Fin 40) (f : Bool), (s.pll tile f.toNat).loaded ≠ [] →
    s.is (CMT_STAT.locked tile f.toNat) = false → s.pllNone tile f.toNat = false →
    ∃ t, exec (.cmtLock tile f) s = .next t ∧ t.get (CMT_STAT.locked tile f.toNat) = 1
      ∧ t.get (CMT_STAT.input tile f.toNat) = 1 ∧ (t.pll tile f.toNat) = { s.pll tile f.toNat with relocking := false }
      ∧ s.SameRegs t [CMT_STAT.off tile f.toNat] ∧ t = { s with regs := t.regs, clk := { s.clk with plls := t.clk.plls } })
  ∧ (∀ (s : State) (tile : Fin 40) (f : Bool), s.is (CMT_STAT.locked tile f.toNat) = true →
    exec (.cmtLockLost tile f false) s
      = .next (((s.put (CMT_STAT.locked tile f.toNat) 0).count (CMT_STAT.losses tile f.toNat)).raise
          (pageRGN (12 * (tile.val / 2) + 11 * (tile.val % 2))) (16 + f.toNat) CONTAINED 0x0610 tile.val 0))
  ∧ (∀ (s : State) (tile : Fin 40) (f : Bool) (n : BitVec 7), (s.pll tile f.toNat).busy = none →
    ∃ t, exec (.phaseRequest tile f n) s = .next t ∧ (t.pll tile f.toNat).busy = some (signed 7 n.toNat)
      ∧ t = { s with clk := { s.clk with plls := t.clk.plls } })
  ∧ (∀ (s : State) (tile : Fin 40) (f : Bool) (n : BitVec 7) (k : Int), (s.pll tile f.toNat).busy = some k →
    exec (.phaseRequest tile f n) s = .next s)
  ∧ (∀ (s : State) (tile : Fin 40) (f : Bool),
    exec (.phaseMoveComplete tile f) s = .next (s.setPll tile f.toNat { s.pll tile f.toNat with busy := none }))
  ∧ (∀ (s : State) (r : Fin 240) (k : Fin 24) (b running : Bool),
    (exec (.trackSelect r k b running) s
        = .next ((s.setTrack r k { s.track r k with second := b, running := running }).showTrack r k))
    ∧ (exec (.trackGateEnable r k b) s = .next ((s.setTrack r k { s.track r k with gate := b }).showTrack r k))
    ∧ (∃ t, exec (.trackInactive r k) s = .next t ∧ t.get (trackAct r k) = 0 ∧ s.SameRegs t [RGN_CLK_ACT.off r]
        ∧ s.OnlyRegs t))

/-! ### Timing Hub -/

/-- Time and its states (R131 to R134, R144 to R149, R167, R168): a root that starts has time 0; a load steps the
root's time to the loaded value, at once or at the edge of SYNC_IN; an accepted step joins the time; the averages and
the re-join measure; the limit of HOLDOVER makes the time INVALID; a dialog with the host. -/
def Obligations.HubTimeCommandsComplete : Prop :=
  (∀ (s : State) (v : Word), bit v 20 = false → bit v 17 = false →
    let u := s.write TH_CTRL.off v
    s.is TH_CTRL.enable = false → u.is TH_CTRL.enable = true → u.is TH_CTRL.role = true →
    exec (.thEnable v) s = .next (s.mirrorFrom ({ u with
      th := { u.th with running := true, time := 0, slew := 0, slewAcc := 0 } }.rootReference.checkRoles)))
  ∧ (∀ (s : State) (v : Word), bit v 20 = false → bit v 17 = true →
    let u := s.write TH_CTRL.off v
    s.is TH_CTRL.enable = true → u.is TH_CTRL.enable = true → s.is TH_CTRL.role = true → u.is TH_CTRL.role = true →
    u.th.loadWait = false →
    let t : Nat := u.getWide (TH_TIME_LOAD.off 0) 3 % 2 ^ 80
    (u.get TH_CTRL.load_mode = 1 → ∃ w, w = u.stepTime ((t : Int) - (u.timeNow : Int))
      ∧ exec (.timeLoadGo v) s = .next (s.mirrorFrom ({ w with th := { w.th with loadWait := false } }.sendEpoch)))
    ∧ (u.get TH_CTRL.load_mode = 2 →
      exec (.timeLoadGo v) s = .next (s.mirrorFrom { u with th := { u.th with loadWait := true } })))
  ∧ (∀ s : State, s.th.loadWait = true → exec .syncInEdge s = .next (s.mirrorFrom s.loadTime))
  ∧ (∀ (s : State) (v : Word), bit v 20 = true → bit v 17 = false →
    let u := s.write TH_CTRL.off v
    s.is TH_CTRL.enable = true → u.is TH_CTRL.enable = true → s.is TH_CTRL.role = u.is TH_CTRL.role →
    u.is TH_STATUS.step_pending = true →
    let w := (u.stepTime u.th.step).dropStep
    (w.is TH_CTRL.role = true → exec (.acceptStep v) s = .next (s.mirrorFrom w))
    ∧ (w.is TH_CTRL.role = false →
      exec (.acceptStep v) s
        = .next (s.mirrorFrom (State.restartAverage { w with th := { w.th with rejoin := none } }))))
  ∧ (∀ s : State, ∃ t, exec .timeRead s = .next t
      ∧ t.answer = toBytes (s.th.time.toNat % 2 ^ 32) 4
      ∧ t.word (TH_TIME.off 1) = BitVec.ofNat 32 (s.th.time.toNat / 2 ^ 32)
      ∧ t.word (TH_TIME.off 2) = BitVec.ofNat 32 (s.th.time.toNat / 2 ^ 64)
      ∧ s.SameRegs t [TH_TIME.off 0, TH_TIME.off 1, TH_TIME.off 2] ∧ t = { s with regs := t.regs, answer := t.answer })
  ∧ (∀ s : State, s.th.avgDone = false → s.th.avgN = 16384 → s.laneActive s.upLane = true →
    ∃ u, exec .calibrationAverageComplete s = .next u.calibrated ∧ u.get (TH_TL_STAT.cal_done s.upLane) = 1
      ∧ u.th = { s.th with slew := s.th.slew - s.th.avgSum / 16384, avgDone := true, avgSum := 0 }
      ∧ s.SameRegs u [TH_TL_DELAY.off s.upLane, TH_TL_STAT.off s.upLane])
  ∧ (∀ (s : State) (sum : Int), s.th.rejoin = some (256, sum) → s.laneActive s.upLane = true → s.get TH_STATUS.state = 3 →
    ((sum / 256).natAbs ≤ 65536000 → exec .rejoinMeasureComplete s
        = .next (State.restartAverage { s with th := { s.th with rejoin := none, slew := s.th.slew - sum / 256 } }))
    ∧ (65536000 < (sum / 256).natAbs → exec .rejoinMeasureComplete s
        = .next ((State.put { s with th := { s.th with rejoin := none, step := -(sum / 256) } } TH_STATUS.step_pending
            1).raise pageTH0 3 INFO 0x0504 s.upLane 0)))
  ∧ (∀ s : State, s.get TH_STATUS.state = 3 →
    let u := s.elapse (s.th.holdStart + s.get TH_HOLD_CFG.limit_ms * 1600000 - s.now)
    exec .holdoverLimitReached s
      = .next ((({ u with th := { u.th with rejoin := none } }.dropStep).setThState 0).raise pageTH0 2 CONTAINED 0x0503 0
          0))
  ∧ (∀ (s : State) (dev : Time) (host : BitVec 64),
    (s.is TH_CTRL.enable && s.is TH_CTRL.role && s.is TH_CTRL.ptm_steer) = false →
    ∃ t, exec (.ptmDialog dev host) s = .next t ∧ t.getWide (TH_PTM_DEV.off 0) 3 = dev.toNat
      ∧ t.getWide (TH_PTM_HOST.off 0) 2 = host.toNat ∧ t.get TH_PTM_STAT.valid = 1 ∧ t.get TH_STATUS.ptm_valid = 1
      ∧ s.OnlyRegs t)
  ∧ (∀ s : State, s.is TH_STATUS.ptm_valid = true →
    exec .ptmStale s
      = .next (((s.put TH_STATUS.ptm_valid 0).put TH_PTM_STAT.valid 0).raise pageTH5 0 INFO 0x0550 0 0))

/-- Timing lanes and trigger messages (R135, R136, R139 to R143, R146): a role; the layout table, which takes writes
only while all lanes are OFF; block lock; a frame with a bad CRC counts and one that passes goes to its lane; a frame
is sent; a message is checked, spread to the other lanes and given to the sequencers. -/
def Obligations.TimingLaneCommandsComplete : Prop :=
  (∀ (s : State) (n : Fin 4) (v : Word), s.get (TH_TL_CFG.role n) ≠ 0 →
    (s.write (TH_TL_CFG.off n) v).get (TH_TL_CFG.role n) = 0 → (s.tl n).stalled = false → s.laneActive n = false →
    let u := s.write (TH_TL_CFG.off n) v
    exec (.tlRoleWrite n v) s
      = .next (((((((u.put (TH_TL_STAT.link n) 0).put (TH_TL_STAT.reason n) 0).put (TH_TL_STAT.cal_done n) 0).setTl n
          { frameNo := markNumber s.th.time })).showMarks).checkRoles))
  ∧ (∀ (s : State) (r : Fin 40) (v : Word),
    ((∀ n < 4, s.get (TH_TL_CFG.role n) = 0) →
      exec (.layoutWrite r v) s = .next (s.write (TH_XTL_LAYOUT.off r) (v &&& layoutMask r)))
    ∧ (∀ n < 4, s.get (TH_TL_CFG.role n) ≠ 0 → exec (.layoutWrite r v) s = .next s))
  ∧ (∀ (s : State) (n : Fin 4), s.is TH_CTRL.enable = true → s.get (TH_TL_CFG.role n) ≠ 0 → (s.tl n).stalled = false →
    (s.tl n).locked = false → s.get (TH_TL_STAT.link n) = 0 →
    exec (.tlBlockLock n) s
      = .next (((s.setTl n { s.tl n with locked := true, good := 0 }).put (TH_TL_STAT.link n) 1).checkRoles))
  ∧ (∀ (s : State) (n : Fin 4), (s.tl n).locked = true → s.get (TH_TL_STAT.reason n) < 5 →
    exec (.tlLockLost n) s = .next ((s.setTl n { s.tl n with locked := false }).setLink n 0 0))
  ∧ (∀ (s : State) (n : Fin 4), s.get (TH_TL_STAT.link n) = 3 → (s.tl n).locked = true →
    (s.get (TH_TL_STAT.reason n) ∉ [5, 6] → exec (.tlRejectRetry n) s = .next (s.setLink n 1 0))
    ∧ (s.get (TH_TL_STAT.reason n) ∈ [5, 6] → exec (.tlRejectRetry n) s = .next s))
  ∧ (∀ (s : State) (n : Fin 4) (blocks : List (BitVec 64)) (arrival : Time),
    blocks.length = 156 ∨ blocks.length = 157 → s.is TH_CTRL.enable = true → s.get (TH_TL_CFG.role n) ≠ 0 →
    (s.tl n).locked = true → s.get (TH_TL_STAT.link n) ≠ 3 →
    let u := s.reachTime arrival
    (xtlCrc blocks = blockOf blocks 155 % 2 ^ 32 →
      exec (.xtlFrameReceived n blocks arrival) s = .next (s.mirrorFrom (u.goodFrame n blocks arrival)))
    ∧ (xtlCrc blocks ≠ blockOf blocks 155 % 2 ^ 32 →
      exec (.xtlFrameReceived n blocks arrival) s = .next (s.mirrorFrom (u.badFrame n))))
  ∧ (∀ (s : State) (n : Fin 4), s.is TH_CTRL.enable = true → s.get (TH_TL_CFG.role n) ≠ 0 → (s.tl n).stalled = false →
    ∃ t, exec (.xtlFrameSend n) s = .next t
      ∧ (t.tl n).sent.length = (if (s.tl n).frameNo = 3 then 157 else 156)
      ∧ (t.tl n).frameNo = (s.tl n).frameNo + 1 ∧ (t.tl n).seqTx = (s.tl n).seqTx + 1
      ∧ t.regs = s.regs ∧ t = { s with now := t.now, th := t.th })
  ∧ (∀ (s : State) (n : Fin 4) (m : BitVec 64) (clk : Bool), s.laneActive n = true → m ≠ 0 →
    (msgCrc m.toNat ≠ bitsN m.toNat 63 56 → exec (.trigMessageReceived n m clk) s
      = .next (s.mirrorFrom ((s.count (TH_TL_MSGERR.v n)).raise pageTH1 (4 * n + 2) CONTAINED 0x0511 n 0)))
    ∧ (msgCrc m.toNat = bitsN m.toNat 63 56 → s.is (TH_TL_CFG.repeatMsgs n) = false →
      ∃ recent, exec (.trigMessageReceived n m clk) s
        = .next (s.mirrorFrom (((s.setTl n { s.tl n with recent := recent ++ [(s.th.time, m)] }).spreadMessage (some n)
            m).deliverMessage m clk))))
  ∧ (∀ (s : State) (v : Word) (clk : Bool), bit v 31 = true →
    let u := s.write TH_XTL_SEND1.off v
    let m := trigMessage (u.get TH_XTL_SEND1.channel) ((u.get TH_XTL_SEND0.t + u.get TH_XTL_SEND1.t * 2 ^ 32) * 256)
    exec (.xtlSend v clk) s = .next (s.mirrorFrom ((u.spreadMessage none m).deliverMessage m clk)))

/-- What the first exchanges of a member do (R144, R145): θ is half the difference of the two flights less a, d half
their sum, by the rule's own division; in INVALID the member steps by −θ and is LOCKED; with its average done it
slews, and steps no more. Messages keep their channel and time (R141): a message's own CRC-8 passes, it carries its
channel, and a time that is a multiple of 256 units and not further than 2⁵¹ units from the receiver's own is rebuilt
exactly. An output's queue stays in time order whatever joins it, with the actions that were there and the new one
(R157). -/
def Obligations.TimeAndTriggersKeepTheirOrder : Prop :=
  (∀ t1 t2 t3 t4 : Nat, ∀ a : Int,
    let r := exchangeOf t1 t2 t3 t4 a
    (2 * r.1 = (t2 : Int) - t1 - (t4 - t3) - a ∨ 2 * r.1 + 1 = (t2 : Int) - t1 - (t4 - t3) - a)
      ∧ (2 * r.2 = (t2 : Int) - t1 + (t4 - t3) ∨ 2 * r.2 + 1 = (t2 : Int) - t1 + (t4 - t3)))
  ∧ (∀ (d θ : Nat), exchangeOf 0 (d + θ) (d + θ) (d + d) 0 = ((θ : Int), (d : Int)))
  ∧ (∀ (s : State) (n : Nat) (theta d : Int), s.get TH_STATUS.state ≠ 0 → s.th.firstDue = false → s.th.rejoin = none →
    s.is TH_STATUS.step_pending = false → s.th.avgDone = true → n < 4 →
    let t := s.takeExchange n theta d
    t.th.time = s.th.time ∧ t.th.slew = s.th.slew - (s.th.avgSum + theta) / 16384
      ∧ t.th = { s.th with slew := t.th.slew, avgSum := t.th.avgSum, delaySum := t.th.delaySum }
      ∧ t = { s with regs := t.regs, th := t.th })
  ∧ (∀ (s : State) (chan time : Nat), chan < 4096 →
    let m := trigMessage chan time
    msgCrc m.toNat = bitsN m.toNat 63 56 ∧ bitsN m.toNat 55 44 = chan
      ∧ (time % 256 = 0 → time < 2 ^ 80 → s.timeNow < time + 2 ^ 51 → time < s.timeNow + 2 ^ 51 → 
          (s.messageTime m).toNat = time))
  ∧ (∀ (a : OutAct) (q : List OutAct), q.Pairwise (fun x y => x.t ≤ y.t) →
    (queueAct a q).Pairwise (fun x y => x.t ≤ y.t) ∧ (queueAct a q).Perm (a :: q)
      ∧ (queueAct a q).filter (fun b => b.t = a.t) = q.filter (fun b => b.t = a.t) ++ [a])

/-- Inputs and taps (R150 to R154): an edge that the filter, the dead time and the chosen edges let through is
counted, stamped less the channel's delay and queued, or lost where 64 wait; a stamp goes to all sequencers; the
background table; an event line of the fabric; an edge of a tap's clock shows the time and the next action word. -/
def Obligations.InputCommandsComplete : Prop :=
  (∀ (s : State) (c : Fin 24) (rising : Bool) (t : Time) (lasts : Nat), s.th.running = false →
    s.get (TH_IN_CFG.edge c) = 3 → (s.chan c).inShort = false → (s.chan c).masked = false → (s.chan c).lastEdge = none →
    s.get (TH_IN_CFG.filter_ns c) * 65536 ≤ lasts → 262144 ≤ 5 * lasts →
    exec (.inputEdge c rising t lasts) s
      = .next ((s.setChan c { s.chan c with inShort := false }).recordEdge c (rising != s.flipped c) t))
  ∧ (∀ (s : State) (c : Fin 24) (up : Bool) (t : Time), s.timeValid = true → (s.chan c).queue.length < 64 →
    let u := s.recordEdge c up t
    (u.chan c).queue = (s.chan c).queue ++ [⟨t - BitVec.ofInt 80 (s.getS (TH_IN_DLY.v c)), up, (s.chan c).loss⟩]
      ∧ (u.chan c).loss = false ∧ (u.chan c).lastEdge = some t
      ∧ u.get (TH_IN_CNT.v c) = min (s.get (TH_IN_CNT.v c) + 1) (2 ^ 32 - 1))
  ∧ (∀ (s : State) (c : Fin 24) (e : Stamp) (rest : List Stamp), (s.chan c).queue = e :: rest → s.th.running = false →
    exec (.stampDelivery c) s
      = .next (s.mirrorFrom ((s.setChan c { s.chan c with queue := rest }).giveAll ⟨e.t, c.val, e.rising⟩)))
  ∧ (∀ (s : State) (c : Fin 24),
    exec (.tdcCalTableReplace c) s
      = .next (((s.setChan c { s.chan c with table := true }).putB TH_STATUS.tdc_cal
          (State.allTables (s.setChan c { s.chan c with table := true }))).raise pageTH2 25 INFO 0x0506 c 0))
  ∧ (∀ (s : State) (v : Word), ∃ t, exec (.tdcCalRestart v) s = .next t ∧ s.SameRegs t [TH_TDC_CAL.off] ∧ s.OnlyRegs t)
  ∧ (∀ (s : State) (l : Fin 16) (t : Time), s.get (TH_FEV_SEL.region l) < 240 →
    s.domOpen (regionDom (s.get (TH_FEV_SEL.region l))) = true →
    exec (.fabricEvent l t) s = .next (s.mirrorFrom ((s.reachTime t).giveAll ⟨t, 24 + l.val, true⟩)))
  ∧ (∀ (s : State) (r : Fin 240) (t : Time), s.domOpen (regionDom r) = true →
    ∃ u, exec (.tapClockEdge r t) s = .next u ∧ (u.tap r).time = t ∧ (u.tap r).lost = false
      ∧ (u.tap r).ovf = (s.tap r).lost ∧ (u.tap r).queue = (s.tap r).queue.tail
      ∧ (u.tap r).actv = !(s.tap r).queue.isEmpty
      ∧ (u.tap r).act = ((s.tap r).queue.head?).getD (s.tap r).act
      ∧ (∀ q, q ≠ r.val → u.tap q = s.tap q) ∧ u.regs = s.regs)

/-- Outputs and SYSREF (R156, R157, R165): a request joins the output's queue in time order, is refused where 16 wait
and acts at once, late, less than 40 ns before its time; the first action acts at its time; a pulse ends; a
generator's parameters are taken or refused; its next edge. -/
def Obligations.OutputCommandsComplete : Prop :=
  (∀ (s : State) (v : Word), bit v 31 = true →
    let u := s.write TH_OUT_REQ3.off v
    let a : OutAct := { t := BitVec.ofNat 80 (u.getWide (TH_OUT_REQ.off 0) 3 % 2 ^ 80)
                        act := BitVec.ofNat 3 (u.get TH_OUT_REQ3.action)
                        width := BitVec.ofNat 16 (u.get TH_OUT_REQ3.width) }
    exec (.outputRequest v) s = .next (s.mirrorFrom (u.requestOut (u.get TH_OUT_REQ3.output) a)))
  ∧ (∀ (s : State) (o : Nat) (a : OutAct), o < 24 → a.act ≠ 0 → a.act.toNat ≤ 4 →
    (a.t.toNat < s.timeNow + 2621440 → s.requestOut o a = s.actOut o a s.timeNow true)
    ∧ (s.timeNow + 2621440 ≤ a.t.toNat → 16 ≤ (s.out o).queue.length →
        s.requestOut o a = s.raise pageTH4 1 CONTAINED 0x0532 o 0)
    ∧ (s.timeNow + 2621440 ≤ a.t.toNat → (s.out o).queue.length < 16 →
        (s.requestOut o a).out o = { s.out o with queue := queueAct a (s.out o).queue }
          ∧ (s.requestOut o a).get (TH_OUT_STAT.depth o) = (s.out o).queue.length + 1))
  ∧ (∀ (s : State) (o : Fin 28) (a : OutAct) (rest : List OutAct), (s.out o).queue = a :: rest → s.standby = false →
    exec (.outputActionDue o) s = .next (s.mirrorFrom
      (((s.reachTime a.t).setOut o { s.out o with queue := rest }).actOut o a a.t.toNat false)))
  ∧ (∀ (s : State) (o : Fin 28) (e : Time), (s.out o).pulseEnd = some e →
    exec (.pulseEnd o) s = .next (((s.reachTime e).setOut o { s.out o with pulseEnd := none }).actOut o
      { t := e, act := 2, width := 0 } e.toNat false))
  ∧ (∀ (s : State) (n : Fin 4) (v : Word), bit v 31 = true →
    let u := s.write (TH_SR_CTRL.off n) v
    let g := u.newGrid n (u.timeNow + 2621440)
    (g.bad = true → exec (.sysrefGo n v) s = .next (s.mirrorFrom (u.put (TH_SR_CTRL.refused n) 1)))
    ∧ (g.bad = false → ∃ t, exec (.sysrefGo n v) s = .next (s.mirrorFrom t) ∧ t.get (TH_SR_CTRL.refused n) = 0
        ∧ t.grid n = (if g.live then { u.grid n with coming := some g } else { u.grid n with run := g, coming := none })))
  ∧ (∀ (s : State) (n : Fin 4) (t : Nat) (r : SrRun), (s.grid n).fallAt = none → (s.grid n).nextRise = some (t, r) →
    ∃ coming, exec (.sysrefEdge n) s = .next (s.mirrorFrom
      (((s.reachTime (BitVec.ofNat 80 t)).driveSysref n true t).setGrid n
        { run := { r with next := r.next + 1 }, coming := coming, fallAt := some (t + r.high) })))
  ∧ (∀ (s : State) (n : Fin 4) (f : Nat), (s.grid n).fallAt = some f → (s.grid n).nextRise = none →
    exec (.sysrefEdge n) s = .next (s.mirrorFrom
      (((s.reachTime (BitVec.ofNat 80 f)).driveSysref n false f).setGrid n { s.grid n with fallAt := none })))

/-- Sequencers (R159 to R162): the table takes words only in a halted sequencer, else wr_refused; a held event is
offered in its turn; a timer's expiry is an event of its armed time; halt disarms the timer; run enters the start
state; arm gives an ARM event. -/
def Obligations.SequencerCommandsComplete : Prop :=
  (∀ (s : State) (q : Fin 16) (w : Fin 4096) (v : Word),
    (s.get (TH_SEQ_STAT.run q) = 0 →
      exec (.seqTableWrite q w v) s = .next (s.mirrorFrom (s.write (TH_SEQ_TABLE.off (4096 * q + w)) v)))
    ∧ (s.get (TH_SEQ_STAT.run q) ≠ 0 →
      exec (.seqTableWrite q w v) s = .next (s.mirrorFrom (s.put (TH_SEQ_STAT.wr_refused q) 1))))
  ∧ (∀ (s : State) (q : Fin 16) (clk : Bool) (e : SeqEvent) (rest : List SeqEvent), (s.seqSt q).held = e :: rest →
    e.src < 64 → s.th.running = false → s.get (TH_SEQ_STAT.run q) = 1 → (s.seqSt q).last = none →
    exec (.sequencerEventRelease q clk) s = .next (s.mirrorFrom
      ((s.setSeq q { s.seqSt q with held := rest, last := some e.t }).offerEvent q e clk)))
  ∧ (∀ (s : State) (q : Nat) (e : SeqEvent) (clk : Bool),
    (s.get (TH_SEQ_STAT.run q) ≠ 1 → s.offerEvent q e clk = s)
    ∧ (s.get (TH_SEQ_STAT.run q) = 1 → s.slotFor q e.src e.rising = none → s.offerEvent q e clk = s)
    ∧ (∀ k, s.get (TH_SEQ_STAT.run q) = 1 → s.acts = true → s.slotFor q e.src e.rising = some k →
        s.offerEvent q e clk
          = (s.takeSlot q k e.t clk).1.chainSeq q e.t clk (s.takeSlot q k e.t clk).2 8))
  ∧ (∀ (s : State) (q : Fin 16) (t : Time), (s.seqSt q).timer = some t → s.acts = true →
    exec (.sequencerTimerExpiry q) s = .next (s.mirrorFrom
      (((s.reachTime t).setSeq q { s.seqSt q with timer := none }).giveEvent q ⟨t, 40, true⟩)))
  ∧ (∀ (s : State) (q : Fin 16) (v : Word) (clk : Bool), bit v 30 = false → bit v 29 = true → bit v 31 = false →
    let u := s.write (TH_SEQ_CTRL.off q) v
    u.get (TH_SEQ_STAT.run q) ≠ 1 →
    exec (.seqRun q v clk) s = .next (s.mirrorFrom ((((u.put (TH_SEQ_STAT.run q) 1).put (TH_SEQ_STAT.state q)
      (u.get (TH_SEQ_CTRL.start_state q)))).chainSeq q s.th.time clk false 8)))
  ∧ (∀ (s : State) (q : Fin 16) (v : Word), bit v 30 = true → bit v 29 = false → bit v 31 = false →
    ∃ t, exec (.seqHalt q v) s = .next (s.mirrorFrom t) ∧ t.get (TH_SEQ_STAT.run q) = 0 ∧ (t.seqSt q).timer = none
      ∧ (t.seqSt q).held = (s.seqSt q).held.filter (fun e => e.src ≠ 40)
      ∧ s.SameRegs t [TH_SEQ_CTRL.off q, TH_SEQ_STAT.off q])
  ∧ (∀ (s : State) (q : Fin 16) (v : Word), bit v 30 = false → bit v 29 = false → bit v 31 = true →
    exec (.seqArm q v) s = .next (s.mirrorFrom ((s.write (TH_SEQ_CTRL.off q) v).giveEvent q ⟨s.th.time, 43, true⟩)))

/-- Line faults (R163, R164): contention, its retry and the end of the retries; a short and an open switch the driver
off and mask the input until they clear; the idle check and its three results; clearing a fault. -/
def Obligations.LineFaultCommandsComplete : Prop :=
  (∀ (s : State) (c : Fin 24), s.driverOn c = true →
    ∃ u, u = s.setLine c 1 true (s.chan c).masked ∧ exec (.lineContention c) s
      = .next ((u.setChan c { u.chan c with backoff := true }).raise pageTH2 c CONTAINED 0x0520 c 0))
  ∧ (∀ (s : State) (c : Fin 24), (s.chan c).backoff = true → s.get (TH_IN_STAT.fault c) = 1 →
    let u := s.setChan c { s.chan c with backoff := false }
    (s.get (TH_IN_CFG.max_retry c) ≤ s.get (TH_IN_STAT.retries c) → exec (.contentionRetry c) s = .next u)
    ∧ (s.get (TH_IN_STAT.retries c) < s.get (TH_IN_CFG.max_retry c) →
      exec (.contentionRetry c) s = .next ((u.count (TH_IN_STAT.retries c)).setLine c 0 false (s.chan c).masked)))
  ∧ (∀ (s : State) (c : Fin 16), exec (.lineShort c) s
      = .next (((s.setChan c { s.chan c with backoff := false }).setLine c 2 true true).raise pageTH2 c CONTAINED 0x0521
          c 0))
  ∧ (∀ (s : State) (c : Fin 16), s.get (TH_IN_STAT.fault c) = 2 →
    ∃ t, exec (.shortClear c) s = .next t ∧ t.get (TH_IN_STAT.fault c) = 0 ∧ t.get (TH_IN_STAT.drv_off c) = 0
      ∧ t.chan c = { s.chan c with masked := false } ∧ s.SameRegs t [TH_IN_STAT.off c])
  ∧ (∀ (s : State) (c : Fin 24), 16 ≤ c.val → exec (.lineOpen c) s
      = .next (((s.setChan c { s.chan c with backoff := false, masked := true }).put (TH_IN_STAT.fault c) 3).raise
          pageTH2 c CONTAINED 0x0522 c 0))
  ∧ (∀ (s : State) (c : Fin 24), c.val < 16 → exec (.lineOpen c) s
      = .next (((s.setChan c { s.chan c with backoff := false, masked := true }).setLine c 3 true true).raise pageTH2 c
          CONTAINED 0x0522 c 0))
  ∧ (∀ (s : State) (c : Fin 24), s.get (TH_IN_STAT.fault c) = 3 →
    ∃ t, exec (.openClear c) s = .next t ∧ t.get (TH_IN_STAT.fault c) = 0 ∧ (t.chan c).masked = false
      ∧ s.SameRegs t [TH_IN_STAT.off c])
  ∧ (∀ (s : State) (c : Fin 24) (v : Word), bit v 30 = true → bit v 31 = false →
    ∃ t, exec (.idleCheck c v) s = .next t ∧ (t.chan c).checking = true ∧ (t.chan c).checked = true)
  ∧ (∀ (s : State) (c : Fin 24), (s.chan c).checking = true →
    let u := s.setChan c { s.chan c with checking := false }
    exec (.idleCheckComplete c .normal) s = .next (u.put (TH_IN_STAT.check c) 1)
    ∧ exec (.idleCheckComplete c .reversed) s = .next (((u.setChan c { u.chan c with reversed := true }).put
        (TH_IN_STAT.check c) 2).raise pageTH2 c CORRECTED 0x0523 c 0)
    ∧ exec (.idleCheckComplete c .inconclusive) s
        = .next ((u.put (TH_IN_STAT.check c) 3).raise pageTH2 c INFO 0x0524 c 0))
  ∧ (∀ (s : State) (c : Fin 24) (v : Word), bit v 31 = true → bit v 30 = false → (s.chan c).checked = true →
    ∃ t, exec (.lineFaultClear c v) s = .next t ∧ t.get (TH_IN_STAT.fault c) = 0 ∧ t.get (TH_IN_STAT.drv_off c) = 0
      ∧ t.get (TH_IN_STAT.retries c) = 0 ∧ (t.chan c).masked = false ∧ (t.chan c).backoff = false)

/-! ### Memories -/

/-- The code of R83: whatever 64 bits of data a coded word holds, it reads back as them; with any one of its 72 bits
inverted it reads as corrected, at that bit and with the same data; with any two inverted it reads as uncorrectable. A
frame made with its check words is good, and a frame with one bit of it inverted is corrected back to it (R216, R268,
R269). A line that is stored reads back (R326, R327, R350): what a column write stores decodes without error to the
line's ciphertext, which the same counters and key turn back into the line; and one inverted bit of a word's data or
check byte C is corrected. -/
def Obligations.CodesCorrectOneBit : Prop :=
  (∀ d : Nat, d < 2 ^ 64 →
    decodeWord (coded d) = .good ∧ readData (coded d) = d
      ∧ (∀ b < 72, decodeWord (coded d ^^^ BitVec.ofNat 72 (2 ^ b)) = .corrected b d)
      ∧ (∀ b < 72, ∀ c < b, ∃ syn, syn ≠ 0
          ∧ decodeWord (coded d ^^^ BitVec.ofNat 72 (2 ^ b) ^^^ BitVec.ofNat 72 (2 ^ c)) = .bad syn))
  ∧ (∀ data : Nat, data < 2 ^ 3840 →
    frameGood (frameOf data) = true ∧ badMask (frameOf data) = 0 ∧ fixFrame (frameOf data) = frameOf data
      ∧ (∀ b < 4096, fixFrame (flipBit (frameOf data) b) = frameOf data
          ∧ badMask (flipBit (frameOf data) b) = 0 ∧ fixCounts (flipBit (frameOf data) b) = (1, 0)))
  ∧ (∀ (rank l : Nat) (d : Line), (decodeLine rank l (codedLine rank l d)).data = d
      ∧ (decodeLine rank l (codedLine rank l d)).fixed = 0 ∧ (decodeLine rank l (codedLine rank l d)).bad = false)
  ∧ (∀ (rank l w b : Nat) (d : Line), w < 8 → b < 72 →
      let r := decodeLine rank l (setStored (codedLine rank l d) w
        (storedWord (codedLine rank l d) w ^^^ BitVec.ofNat 80 (2 ^ b)))
      r.data = d ∧ r.fixed = 1 ∧ r.bad = false)
  ∧ (∀ (key : BitVec 256) (c : LineCtr) (rank l : Nat) (d : Line), crypt key c rank l (crypt key c rank l d) = d)
  ∧ (∀ (s : State) (n l : Nat) (d : DramLine), (s.storeLine n l d).rawLine n l = (d, s.storeLine n l d))
  ∧ (∀ (s : State) (n m l k : Nat) (d : DramLine), l < 2 ^ 29 → k < 2 ^ 29 → (m ≠ n ∨ k ≠ l) →
      (s.storeLine n l d).dram.get dramDefault (dramKey m k) = s.dram.get dramDefault (dramKey m k))

/-- Ports of a memory that acts, in ECC mode ON at 72 bits with no collision, no remap entry on the word and no armed
injection (R76 to R79, R82 to R85, R94): a full write stores the data with its code, a narrow write the enabled bytes
beside the old ones, with the code of the result; a read shows the word, corrects one bit and counts it, and shows and
reports an uncorrectable word; no other word changes. Outside of this, a port whose memory does not act changes
nothing. -/
def Obligations.MemoryPortCommandsComplete : Prop :=
  (∀ (s : State) (m : MemRef) (portB : Bool) (cfg : PortCfg) (pins : PortPins), portFits m portB cfg pins = true →
    s.memActs m = false →
    exec (.memoryPortWrite m portB cfg pins) s = .next (s.mirrorFrom s)
      ∧ exec (.memoryPortRead m portB cfg pins) s = .next (s.mirrorFrom s)
      ∧ exec (.narrowWrite m portB cfg pins) s = .next (s.mirrorFrom s))
  ∧ (∀ (s : State) (m : MemRef) (portB : Bool) (cfg : PortCfg) (pins : PortPins), portFits m portB cfg pins = true →
    s.memActs m = true → cfg.ecc = true → cfg.width = .w72 → cfg.outReg = false → cfg.rdw = .keep →
    pins.other = .none → s.standby = false → s.is (RGN_MEM_ECC_INJ.arm m.region) = false →
    let w := pins.addr.toNat % memDepth m
    let k := memKey m
    let old := (s.cell k w).cells
    s.remapOf m w = none →
    (pins.we = 0xFF → ∃ t, exec (.memoryPortWrite m portB cfg pins) s = .next (s.mirrorFrom t)
        ∧ (t.cell k w).cells = coded (wordData pins.din) ∧ (m.deep = true → (t.cell k w).valid = 7)
        ∧ (∀ k' w', w' < 4096 → (k' ≠ k ∨ w' ≠ w) → t.cell k' w' = s.cell k' w')
        ∧ t = { s with mem := { s.mem with words := t.mem.words, eccOff := t.mem.eccOff } })
    ∧ (pins.we ≠ 0 → pins.we ≠ 0xFF → decodeWord old = .good → (m.deep = true → (s.cell k w).valid = 7) →
        ∃ t, exec (.narrowWrite m portB cfg pins) s = .next (s.mirrorFrom t)
        ∧ (t.cell k w).cells = coded (wordData (t.cell k w).cells)
        ∧ (∀ b < 8, bitsN (wordData (t.cell k w).cells) (8 * b + 7) (8 * b)
            = bitsN (if pins.we.getLsbD b then wordData pins.din else wordData old) (8 * b + 7) (8 * b))
        ∧ (∀ k' w', w' < 4096 → (k' ≠ k ∨ w' ≠ w) → t.cell k' w' = s.cell k' w')
        ∧ t = { s with mem := { s.mem with words := t.mem.words, eccOff := t.mem.eccOff, ports := t.mem.ports } })
    ∧ (pins.we = 0 → (m.deep = true → (s.cell k w).valid = 7) →
        (decodeWord old = .good → ∃ t, exec (.memoryPortRead m portB cfg pins) s = .next (s.mirrorFrom t)
          ∧ t.mem.ports.get memPortDefault (memPortKey m portB)
              = { s.mem.ports.get memPortDefault (memPortKey m portB) with dout := old, ecor := false, eunc := false }
          ∧ t = { s with mem := { s.mem with ports := t.mem.ports, eccOff := t.mem.eccOff } })
        ∧ (∀ b x, decodeWord old = .corrected b x →
          ∃ t, exec (.memoryPortRead m portB cfg pins) s = .next (s.mirrorFrom t)
          ∧ t.mem.ports.get memPortDefault (memPortKey m portB)
              = { s.mem.ports.get memPortDefault (memPortKey m portB) with
                  dout := BitVec.ofNat 72 (x + wordCheck old * 2 ^ 64), ecor := true, eunc := false }
          ∧ t.get (CE_TOT.v (bucketBase (memBucket m)))
              = min (s.get (CE_TOT.v (bucketBase (memBucket m))) + 1) (2 ^ 32 - 1)
          ∧ t.mem.words = s.mem.words
          ∧ t = { s with regs := t.regs, mem := { s.mem with ports := t.mem.ports, eccOff := t.mem.eccOff } })
        ∧ (∀ syn, decodeWord old = .bad syn →
          ∃ u, u = State.uncorrectable { s with mem := { s.mem with eccOff := u.mem.eccOff } } m portB w syn
          ∧ exec (.memoryPortRead m portB cfg pins) s = .next (s.mirrorFrom (u.showPort m portB old false true)))))

/-- Maintenance of the memories (R82, R89 to R93, R97, R100): CLRV clears every valid bit of its deep memory; a leak
lowers a bucket; a list entry is freed; a remap entry copies the word and redirects its accesses, or releases them; an
injection is armed; BIST is refused unless its stall is held in reset or holds no valid active plane, and leaves the
memory zero. -/
def Obligations.MemoryMaintenanceCommandsComplete : Prop :=
  (∀ (s : State) (r : Fin 240) (i : Fin 6),
    let m : MemRef := { deep := true, region := r, inst := Fin.ofNat 72 i.val }
    s.memActs m = true → s.standby = false →
    ∃ t, exec (.clrv r i) s = .next (s.mirrorFrom t)
      ∧ (∀ w < 4096, t.cell (memKey m) w = { s.cell (memKey m) w with valid := 0 })
      ∧ (∀ k w, w < 4096 → k ≠ memKey m → t.cell k w = s.cell k w)
      ∧ t = { s with mem := { s.mem with words := t.mem.words } })
  ∧ (∀ (s : State) (b : Bucket), ∃ t, exec (.leakPeriod b) s = .next t
      ∧ t.get (CB_LVL.level (bucketBase b)) = s.get (CB_LVL.level (bucketBase b)) - 1
      ∧ s.SameRegs t [CB_LVL.off (bucketBase b)] ∧ s.OnlyRegs t)
  ∧ (∀ (s : State) (b : Bucket) (e : Fin 8) (v : Word),
    (bit v 31 = true → ∃ t, exec (.rolEntryFree b e v) s = .next t ∧ t.word (ROL.off (bucketBase b) e) = 0
        ∧ s.SameRegs t [ROL.off (bucketBase b) e] ∧ s.OnlyRegs t)
    ∧ (bit v 31 = false → exec (.rolEntryFree b e v) s = .next s))
  ∧ (∀ (s : State) (r : Fin 240) (e : Fin 24) (v : Word),
    let off := RMP.off (rmpBase false r) e
    let m := remapMem false r e v
    s.locked (pageBase off) = false → bit (s.word off) 30 = false → bit (s.word off) 31 = false → bit v 31 = true →
    bitsOf v 15 12 ≤ 11 → bitsOf v 11 0 ≤ 511 →
    (∀ w, s.remapOf m w = none) → decodeWord (s.cell (memKey m) (bitsOf v 11 0)).cells = .good →
    ∃ t, exec (.remapEntrySet (.bm r e) v) s = .next t ∧ bit (t.word off) 31 = true
      ∧ bitsOf (t.word off) 15 0 = bitsOf v 15 0 ∧ bit (t.word off) 29 = false
      ∧ t.spare (spareKey false r e) = (s.cell (memKey m) (bitsOf v 11 0)).cells
      ∧ t.remapOf m (bitsOf v 11 0) = some e.val
      ∧ s.SameRegs t [off] ∧ t = { s with regs := t.regs, mem := { s.mem with spares := t.mem.spares } })
  ∧ (∀ (s : State) (r : RemapRef) (v : Word),
    s.locked (pageBase (remapOff r)) || bit (s.word (remapOff r)) 30 = true →
    exec (.remapEntrySet r v) s = .next s ∧ exec (.remapEntryClear r v) s = .next s)
  ∧ (∀ (s : State) (r : Fin 240) (e : Fin 24) (v : Word),
    let off := RMP.off (rmpBase true r) e
    s.locked (pageBase off) = false → bit (s.word off) 30 = false → bit v 31 = false →
    ∃ t, exec (.remapEntryClear (.dm r e) v) s = .next t ∧ bit (t.word off) 31 = false
      ∧ s.SameRegs t [off] ∧ s.OnlyRegs t)
  ∧ (∀ (s : State) (r : Fin 240) (v : Word),
    ∃ t, exec (.eccInjectArm r v) s = .next t
      ∧ (bit v 31 = true → t.get (RGN_MEM_ECC_INJ.arm r) = 1)
      ∧ t.get (RGN_MEM_ECC_INJ.mask r) = bitsOf v 7 0
      ∧ s.SameRegs t [RGN_MEM_ECC_INJ.off r] ∧ s.OnlyRegs t)
  ∧ (∀ (s : State) (r : Fin 240) (v : Word), bit v 31 = true →
    let u := s.write (RGN_MEM_BIST.off r) v
    let deep := u.is (RGN_MEM_BIST.kind r)
    let i := u.get (RGN_MEM_BIST.inst r)
    (u.memStall (bistRef r deep i) = none → exec (.bistStart r v) s = .next (u.put (RGN_MEM_BIST.answer r) 3))
    ∧ (∀ n, u.memStall (bistRef r deep i) = some n → memExists deep i = true →
        (u.stallHeld (some n) = false → u.is (STL_STAT.active_valid n) = true →
          exec (.bistStart r v) s = .next (u.put (RGN_MEM_BIST.answer r) 3))
        ∧ (u.stallHeld (some n) = true →
          ∃ t, exec (.bistStart r v) s = .next t ∧ t.get (RGN_MEM_BIST.answer r) = 1 ∧ t.get (RGN_MEM_BIST.done r) = 0
            ∧ t.get (RGN_MEM_BIST.fail r) = 0 ∧ (deep, i) ∈ t.mem.bists.get bistDefault r
            ∧ s.SameRegs t [RGN_MEM_BIST.off r])))
  ∧ (∀ (s : State) (r : Fin 240) (failing : List (BitVec 12)) (deep : Bool) (i : Nat) (rest : List (Bool × Nat)),
    s.mem.bists.get bistDefault r = (deep, i) :: rest → memExists deep i = true → (∀ n, (s.stall n).releaseWait = false) →
    ∃ t, exec (.bistComplete r failing) s = .next t ∧ t.get (RGN_MEM_BIST.done r) = 1
      ∧ t.get (RGN_MEM_BIST.fail r) = (!failing.isEmpty).toNat ∧ t.mem.bists.get bistDefault r = rest
      ∧ (∀ w < 4096, s.remapOf (bistRef r deep i) w = none → t.cell (memKey (bistRef r deep i)) w = {})
      ∧ t = { s with regs := t.regs, mem := t.mem, freeCount := t.freeCount })

/-! ### Logic and arithmetic -/

/-- An edge in the fabric (R41 to R44, R53, R69): in a block that is held or whose domain is not OPEN nothing changes;
otherwise a flip-flop that takes its pin at an active edge holds the pin's value, the frames of the LUTs change only
at an edge of CK1 with EN3 at 1, and of the fabric only the block's own flip-flops; lateral registers take their
enabled bits. An edge of a slice (R103 to R111, R126): the slice that runs takes its next state and nothing else
changes; a fully registered slice in mode 1 × 27 shifts its stages, and its accumulator takes what the operation of
the sample in S3 gives; GBRST held for two edges clears the slice. -/
def Obligations.FabricClockEdgesComplete : Prop :=
  (∀ (s : State) (col : Fin 1164) (row : Fin 1200) (cfg : LbCfg) (pins : LbPins),
    (LogicTarget.block col row cfg pins).fits = true →
    (s.stallHeld (s.stallAt col (row.val / 60)) = true ∨ s.placeOpen col (row.val / 60) = false →
      exec (.logicClockEdge (.block col row cfg pins)) s = .next s)
    ∧ (s.stallHeld (s.stallAt col (row.val / 60)) = false → s.placeOpen col (row.val / 60) = true →
      ∃ t, exec (.logicClockEdge (.block col row cfg pins)) s = .next t
        ∧ t = { s with planes := t.planes, fabric := { s.fabric with ffs := t.fabric.ffs } }
        ∧ (pins.ck1 = false ∨ pins.en.getLsbD 3 = false ∨ pins.rising = cfg.ramFalling → t.planes = s.planes)
        ∧ (∀ c r i, c < 1164 → r < 1200 → i < 16 → (c ≠ col.val ∨ r ≠ row.val) → t.ff c r i = s.ff c r i)
        ∧ (∀ p q, p < 8 → (cfg.pos.toList)[p]? = some q →
            let half := if p < 4 then cfg.low else cfg.high
            (half.async = false → half.ck1 ≠ pins.ck1 → t.ff col row (2 * p) = s.ff col row (2 * p)
              ∧ t.ff col row (2 * p + 1) = s.ff col row (2 * p + 1))
            ∧ (half.ck1 = pins.ck1 → half.falling = !pins.rising → q.fa.obeysFs = false → q.fa.obeysEn = false →
                q.faSrc = .xa → t.ff col row (2 * p) = pins.xa.getLsbD p)
            ∧ (half.ck1 = pins.ck1 → half.falling = !pins.rising → q.fb.obeysFs = true →
                pins.fs.getLsbD (if p < 4 then 0 else 1) = true → t.ff col row (2 * p + 1) = q.fb.fval))))
  ∧ (∀ (s : State) (col : Fin 1164) (north : Bool) (used d : BitVec 18),
    (LogicTarget.laterals col north false true used d).fits = true →
    s.stallHeld (s.stallAt col (lateralRow north false)) = false → s.placeOpen col (lateralRow north false) = true →
    ∃ t, exec (.logicClockEdge (.laterals col north false true used d)) s = .next t
      ∧ (∀ b < 18, (t.fabric.laterals.get lateralDefault (lateralKey col north false)).getLsbD b
          = (if used.getLsbD b then d.getLsbD b
              else (s.fabric.laterals.get lateralDefault (lateralKey col north false)).getLsbD b))
      ∧ t = { s with fabric := { s.fabric with laterals := t.fabric.laterals } })
  ∧ (∀ (s : State) (sl : SliceRef) (cfg : SliceCfg) (pins : SlicePins), sliceFits sl cfg = true →
    (s.sliceRuns sl = false → exec (.sliceClockEdge sl cfg pins) s = .next s)
    ∧ (s.sliceRuns sl = true → ∃ t, exec (.sliceClockEdge sl cfg pins) s = .next t
        ∧ t.slice sl.region sl.inst
          = (if cfg.hard then hardEdge cfg (s.neighbours sl) pins (s.slice sl.region sl.inst)
              else normalEdge cfg (s.neighbours sl) pins (s.slice sl.region sl.inst))
        ∧ (∀ r i, i < 192 → (r ≠ sl.region.val ∨ i ≠ sl.inst.val) → t.slice r i = s.slice r i)
        ∧ t = { s with slices := t.slices }))
  ∧ (∀ (cfg : SliceCfg) (nb : Neighbours) (pins : SlicePins) (v : SliceState), cfg.mode = .one27 → cfg.bfp = none →
    cfg.s1 = true → cfg.s2 = true → cfg.s3 = true → cfg.s4 = true →
    pins.eni = true → pins.enp = true → pins.ena = true → pins.cli = false → pins.clp = false → pins.cla = false →
    v.clearIt = false →
    let w := normalEdge cfg nb pins v
    w.s2 = preStage cfg v.s1 ∧ w.s3 = mulStage cfg v.s2 ∧ w.s1.u = pins.even.u ∧ w.s1.v = pins.even.v
      ∧ w.cso = w.acc.val
      ∧ (match accTrue (opOf .one27 v.s3.op) v.acc.val pins.csi v.s3.k v.s3.prd.toInt with
          | some x => w.acc.val = BitVec.ofInt 64 x ∧ (w.acc.flag = 0 ↔ fitsBits 64 x = true)
          | none => w.acc.val = v.acc.val))
  ∧ (∀ (s : State) (sl : SliceRef) (edges : Nat), 2 ≤ edges → s.sliceRuns sl = true →
    ∃ t, exec (.gbrst sl edges) s = .next t ∧ t.slice sl.region sl.inst = { gberr := false }
      ∧ (∀ r i, i < 192 → (r ≠ sl.region.val ∨ i ≠ sl.inst.val) → t.slice r i = s.slice r i)
      ∧ t = { s with slices := t.slices })

/-- The carry chain adds (R47): with P the XOR and G the AND of two operands' bits, no carry in and no split, the
eight sums are the bits of the operands' sum, and the last carry its carry out. Rounding half to even is right (R110):
the result lies within half a unit of the quotient, and is even where two are equally near. -/
def Obligations.FabricArithmetic : Prop :=
  (∀ (cfg : LbCfg) (a b xa : BitVec 8) (cyi : Bool), cfg.cin = .zero → cfg.split = none →
    (∀ q ∈ cfg.pos.toList, q.genXa = false) →
    let lf := (List.range 8).map fun p => xor (a.getLsbD p) (b.getLsbD p)
    let lh := (List.range 8).map fun p => a.getLsbD p && b.getLsbD p
    let r := carryRun cfg lf lh xa cyi
    r.length = 8
      ∧ (∀ p < 8, (r[p]?).map Prod.fst = some ((a + b).getLsbD p))
      ∧ (r[7]?).map Prod.snd = some (decide (256 ≤ a.toNat + b.toNat)))
  ∧ (∀ (v : Int) (n : Nat),
    2 * (shiftHalfEven v n * 2 ^ n - v).natAbs ≤ 2 ^ n
      ∧ (2 * (shiftHalfEven v n * 2 ^ n - v).natAbs = 2 ^ n → shiftHalfEven v n % 2 = 0 ∨ n = 0))

/-! ### Configuration -/

/-- Requests to the configuration engine (R203, R204, R209, R230, R233, R236, R238): PROG_N and a prog write
reconfigure, a boot begins when the engine leaves reset, a load_go begins a load or is refused, an abort ends the load
ABORTED, a self-test runs at once or waits for the load, and its end. -/
def Obligations.ConfigurationRequestsComplete : Prop :=
  (∀ s : State, exec .progNAssert s = .next (State.reconfigure { s with pins := { s.pins with prog := true } }))
  ∧ (∀ (s : State) (m : BitVec 3), s.cfg.progWait = true → s.cfg.testRuns = false →
    ∃ u, u = State.sampleMode { s with pins := { s.pins with prog := false } } m.toNat
      ∧ exec (.progNRelease m) s = .next (State.startBoot { u with cfg := { u.cfg with progWait := false } }))
  ∧ (∀ (s : State) (v : Word), bit v 31 = true → bit v 30 = false → bit v 29 = false → bit v 28 = false →
    exec (.prog v) s = .next (s.write CFG_CTRL.off v).reconfigure)
  ∧ (∀ (s : State) (m : BitVec 3), s.cfg.bootDue = true → s.held = false →
    ∃ u, u = s.countBoot.sampleMode m.toNat
      ∧ exec (.bootStart m) s = .next (State.startBoot { u with cfg := { u.cfg with bootDue := false } }))
  ∧ (∀ (s : State) (m : BitVec 3),
    let t := s.sampleMode m.toNat
    t.get CFG_BOOT_STAT.boot_mode = m.toNat ∧ t.get CFG_BOOT_STAT.mode_err = (decide (4 ≤ m.toNat)).toNat
      ∧ t.cfg.bootFrom = min m.toNat 3 ∧ s.SameRegs t [CFG_BOOT_STAT.off, CFG_FLASH_CTRL.off])
  ∧ (∀ (s : State) (v : Word), bit v 31 = false → bit v 30 = true → bit v 29 = false → bit v 28 = false →
    let u := s.write CFG_CTRL.off v
    (∀ l, u.cfg.load = none → u.cfg.next = none → u.cfg.progWait = false → u.cfg.testBad = false →
      u.cfg.testRuns = false → u.askedLoad = some l →
      exec (.loadGo v) s = .next ((u.beginLoad l).put CFG_STATUS.req_result 1))
    ∧ (∀ l, u.cfg.load = some l → exec (.loadGo v) s = .next (u.put CFG_STATUS.req_result 3)))
  ∧ (∀ (s : State) (v : Word) (l : CfgLoad), bit v 31 = false → bit v 30 = false → bit v 29 = true → bit v 28 = false →
    s.cfg.load = some l → exec (.abort v) s = .next ((s.write CFG_CTRL.off v).failLoad 0x0714 l.at_ 0))
  ∧ (∀ (s : State) (v : Word), bit v 31 = false → bit v 30 = false → bit v 29 = false → bit v 28 = true →
    s.cfg.testRuns = false →
    (s.cfg.load = none → s.cfg.progWait = false → ∃ t, exec (.selftest v) s = .next t ∧ t.cfg.testRuns = true
        ∧ t.get CFG_STATUS.state = 6 ∧ t.get CFG_STATUS.selftest = 3 ∧ t.get CFG_STATUS.req_result = 1)
    ∧ (∀ l, s.cfg.load = some l → ∃ t, exec (.selftest v) s = .next t ∧ t.cfg = { s.cfg with testWait := true }
        ∧ t.get CFG_STATUS.req_result = 2))
  ∧ (∀ (s : State) (pass : Bool), s.cfg.testRuns = true → s.cfg.progWait = false → s.cfg.next = none →
    ∃ t, exec (.selftestComplete pass) s = .next t ∧ t.get CFG_STATUS.selftest = (if pass then 1 else 2)
      ∧ t.get CFG_STATUS.state = 0 ∧ t.cfg = { s.cfg with testRuns := false, testBad := !pass })

/-- What a load takes from its source, and its header (R206, R212, R213, R228, R232 to R234): bytes join the load or
are dropped and counted, a source that ends or answers an error fails it; a header is refused by the first check that
it fails; a bulk clear leaves every frame and every word of memory zero. The end of a load and the start-up (R215,
R224, R229, R231): the trailer is checked in its order; a signature decides; once every tile PLL has locked the fabric
starts with CFG_DONE high, the scrubber running and no load left. -/
def Obligations.ConfigurationLoadsComplete : Prop :=
  (∀ (s : State) (bytes : List Byte) (l : CfgLoad), s.cfg.load = some l →
    (l.source = .host →
      exec (.cfgDataWrite bytes) s = .next { s with cfg := { s.cfg with load := some { l with bytes := l.bytes ++ bytes } } })
    ∧ (l.source = .jtag →
      exec (.cfgDataWrite bytes) s = .next ((s.add CFG_DATA_DROP.v bytes.length).raise pageCFG 5 INFO 0x0724 0 0)))
  ∧ (∀ (s : State) (l : CfgLoad), s.cfg.load = some l → l.source = .host → l.complete = false →
    exec .loadDataTimeout s = .next (s.failLoad 0x070E l.at_ 0))
  ∧ (∀ (s : State) (status : BitVec 4) (bytes : List Byte) (l : CfgLoad) (n : Nat), s.cfg.load = some l →
    l.source = .dram → l.limit = some n →
    (status ≠ 0 → exec (.sourceReadResponse status bytes) s = .next (s.failLoad 0x0712 l.at_ 0))
    ∧ (status = 0 → l.bytes.length + bytes.length < n → exec (.sourceReadResponse status bytes) s
        = .next { s with cfg := { s.cfg with load := some { l with bytes := l.bytes ++ bytes } } }))
  ∧ (∀ (s : State) (l : CfgLoad) (h : ImageHeader), s.cfg.load = some l → l.phase = .header → 4096 ≤ l.bytes.length →
    h = readHeader (l.bytes.take 4096) →
    let u := s.setLoad { l with header := some h }
    (∀ code off info, u.headerError l.source h = some (code, off, info) →
      exec .imageHeader s = .next (u.failLoad code off info))
    ∧ (u.headerError l.source h = none → h.signed = true →
      exec .imageHeader s = .next (u.setLoad { l with header := some h, phase := .signature }))
    ∧ (u.headerError l.source h = none → h.signed = false →
      exec .imageHeader s = .next (u.headerPassed { l with header := some h } h)))
  ∧ (∀ (s : State) (l : CfgLoad), s.cfg.load = some l → l.phase = .clearing → s.allOpen = true →
    (∀ q < 120, s.portState (quayPort q) = 2) →
    ∃ t, exec .bulkClearComplete s = .next t ∧ t.cfg = { s.cfg with load := some { l with phase := .system } }
      ∧ t.mem.words = [] ∧ (∀ plane a, frameExists a = true → t.frame plane a = 0)
      ∧ (∀ o, (o < pageRGN 0 ∨ pageRGN 240 ≤ o) → t.word o = s.word o))
  ∧ (∀ (s : State) (l : CfgLoad) (h : ImageHeader), s.cfg.load = some l → l.header = some h → l.phase = .system →
    h.encrypted = false → 4096 + h.sysLen.toNat ≤ l.bytes.length → l.sysPos + 8 ≤ h.sysLen.toNat →
    (l.sysPos = 0 → sysHashGood l h = true) →
    let off := numAt l.bytes (4096 + l.sysPos) 4
    let v := numAt l.bytes (4096 + l.sysPos + 4) 4
    off ≠ 0xFFFFFFFF →
    (sysAddrBad off = true → exec .systemRecord s = .next (s.failLoad 0x0709 l.at_ off))
    ∧ (sysAddrBad off = false → exec .systemRecord s
        = .next ((s.setLoad { l with sysPos := l.sysPos + 8 }).writeRecord off (BitVec.ofNat 32 v))))
  ∧ (∀ (s : State) (l : CfgLoad) (h : ImageHeader), s.cfg.load = some l → l.header = some h → h.encrypted = true →
    l.begun = true → 0 < l.segs → l.segs ≤ h.segments →
    let a := 4096 + h.sysLen.toNat + (l.segs - 1) * (2 ^ 24 + 16)
    let n := min (2 ^ 24) (h.trailerAt - a - 16)
    a + n + 16 ≤ l.bytes.length → a + 16 ≤ h.trailerAt →
    exec .gcmSegment s = .next (if s.segmentGood l h l.segs a n then s.setLoad { l with segs := l.segs + 1 }
      else s.failLoad 0x070D a 0))
  ∧ (∀ (s : State) (l : CfgLoad) (h : ImageHeader), s.cfg.load = some l → l.header = some h → l.phase = .trailer →
    h.encrypted = false → h.trailerAt + 512 ≤ l.bytes.length →
    let t := (l.bytes.drop h.trailerAt).take 512
    (numAt t 0 4 ≠ 0x5A4E5452 → exec .trailerCheck s = .next (s.failLoad 0x070E l.at_ 0))
    ∧ (numAt t 0 4 = 0x5A4E5452 → numAt t 4 4 ≠ crc32 (l.bytes.take h.trailerAt) →
      exec .trailerCheck s = .next (s.failLoad 0x070F (h.trailerAt + 4) 0))
    ∧ (numAt t 0 4 = 0x5A4E5452 → numAt t 4 4 = crc32 (l.bytes.take h.trailerAt) → numAt t 8 8 = h.totalLen.toNat →
      zeroAt t 0x70 0x200 = true → (h.signed = true → exec .trailerCheck s
          = .next (s.setLoad { l with crc := BitVec.ofNat 32 (numAt t 4 4), phase := .trailerSig }))
        ∧ (h.signed = false → zeroAt t 0x10 0x70 = true → exec .trailerCheck s
          = .next (s.trailerPassed { l with crc := BitVec.ofNat 32 (numAt t 4 4) } h))))
  ∧ (∀ (s : State) (l : CfgLoad) (h : ImageHeader), s.cfg.load = some l → l.header = some h → l.phase = .signature →
    exec (.signatureVerified false) s
      = .next (if ecdsaVerify (toBytes h.pubkey.toNat 97) (sha384 (l.bytes.take 0x100)) (toBytes h.hdrSig.toNat 96)
          then s.headerPassed l h else s.failLoad 0x0707 0x100 0))
  ∧ (∀ (s : State) (l : CfgLoad) (h : ImageHeader), s.cfg.load = some l → l.header = some h → l.phase = .startup →
    (∀ k < 80, (s.pll (k / 2) (k % 2)).relocking = false) → s.cfg.testWait = false →
    ∃ t, exec .startupPllRelocked s = .next t ∧ t.cfg.load = none ∧ t.get CFG_STATUS.done = 1
      ∧ t.get CFG_STATUS.state = 0 ∧ t.get SCB_STAT.running = 1 ∧ t.get SCB_STAT.ordinal = 0)

/-- A stream command on the bytes that a load has delivered (R219 to R222, R231): its word moves the position past it
and its operands; SETFAR sets the address; WRITE and REPEAT put a good frame into both planes of a full load, or fail
with BAD_FRAME; WREG writes a record; DYNLIST lists a frame; END leads to the trailer; any word that is no command
fails the image with BAD_COMMAND. -/
def Obligations.StreamCommandsComplete : Prop :=
  ∀ (s : State) (l : CfgLoad) (h : ImageHeader), s.cfg.load = some l → l.header = some h → l.phase = .stream →
    l.op = none → l.pos + 4 ≤ h.plainLen → l.has h (l.pos + 4) = true →
    let w := s.streamNum l h l.pos 4
    let o := w / 2 ^ 24
    let n := w % 2 ^ 24
    (commandBad l h o n = true → ∀ c ∈ [Instr.setfar, .write, .repeatFrame, .wreg, .dynlist, .nop, .sync, .endStream],
        exec c s = .next (s.failLoad 0x070A l.at_ 0))
    ∧ (n = 0 → (o = 6 → exec .nop s
          = .next (s.setLoad { l with pos := l.pos + 4, start := l.pos, op := none, left := 0 }))
        ∧ (o = 7 → exec .sync s
          = .next (s.setLoad { l with pos := l.pos + 4, start := l.pos, op := none, left := 0 }))
        ∧ (o = 15 → h.trailerAt ≤ l.bytes.length →
            (∀ i < h.plainLen - (l.pos + 4), s.streamByte l h (l.pos + 4 + i) = 0) → exec .endStream s
          = .next (s.setLoad { l with pos := h.plainLen, start := l.pos, op := none, left := 0, phase := .trailer })))
    ∧ (∀ a, o = 1 → n = 0 → l.pos + 8 ≤ h.plainLen → l.has h (l.pos + 8) = true → a = s.streamNum l h (l.pos + 4) 4 →
        (∀ code, s.addrError l h a = some code → ∃ m : CfgLoad, m.header = some h ∧ m.source = l.source
          ∧ exec .setfar s = .next ((s.setLoad m).failLoad code m.at_ a))
        ∧ (s.addrError l h a = none → ∃ m : CfgLoad, exec .setfar s = .next (s.setLoad m)
          ∧ m.far = some a ∧ m.pos = l.pos + 8 ∧ m.op = none ∧ m.bytes = l.bytes))
    ∧ (∀ a f, o = 2 → n = 1 → l.pos + 516 ≤ h.plainLen → l.has h (l.pos + 516) = true → l.far = some a →
        f = BitVec.ofNat 4096 (s.streamNum l h (l.pos + 4) 512) → s.addrError l h a = none → faType a = 0 →
        faCol a < 1164 → h.partial_ = false → frameGood f = true → ∃ t m, exec .write s = .next t
          ∧ t.frame false a = f ∧ t.frame true a = f ∧ t.cfg = { s.cfg with load := some m }
          ∧ m.far = some ((nextFrame a).getD (2 ^ 32)) ∧ m.pos = l.pos + 516 ∧ m.op = none
          ∧ (∀ p b, b < 2 ^ 32 → b ≠ a → t.frame p b = s.frame p b) ∧ s.SameRegs t [CFG_PROGRESS.off])
    ∧ (∀ a f, o = 3 → n = 1 → l.frame = none → l.pos + 520 ≤ h.plainLen → l.has h (l.pos + 516) = true → l.has h (l.pos + 520) = true →
        f = BitVec.ofNat 4096 (s.streamNum l h (l.pos + 4) 512) → a = s.streamNum l h (l.pos + 516) 4 →
        s.addrError l h a = none → faType a = 0 → faCol a < 1164 → h.partial_ = false →
        (frameGood f = true → ∃ t m, exec .repeatFrame s = .next t
          ∧ t.frame false a = f ∧ t.frame true a = f ∧ t.cfg = { s.cfg with load := some m }
          ∧ m.pos = l.pos + 520 ∧ m.op = none
          ∧ (∀ p b, b < 2 ^ 32 → b ≠ a → t.frame p b = s.frame p b))
        ∧ (frameGood f = false → ∃ m : CfgLoad, exec .repeatFrame s = .next ((s.setLoad m).failLoad 0x070C m.at_ a)))
    ∧ (∀ off v u, o = 4 → n = 1 → h.partial_ = false → l.pos + 12 ≤ h.plainLen → l.has h (l.pos + 12) = true →
        off = s.streamNum l h (l.pos + 4) 8 % 2 ^ 32 → v = s.streamNum l h (l.pos + 4) 8 / 2 ^ 32 →
        sysAddrBad off = false →
        let m : CfgLoad := { l with pos := l.pos + 12, start := l.pos, op := some 4, left := 0 }
        u = (s.setLoad m).writeRecord off (BitVec.ofNat 32 v) → u.cfg.load = some m →
        exec .wreg s = .next (u.setLoad { m with op := none, frame := none }))
    ∧ (∀ a, o = 5 → n = 1 → l.pos + 8 ≤ h.plainLen → l.has h (l.pos + 8) = true → a = s.streamNum l h (l.pos + 4) 4 →
        h.partial_ = false → frameExists a = true → faType a = 0 → s.cfg.dynlist.length < 16384 →
        ∃ t m, exec .dynlist s = .next t
          ∧ t = { s with cfg := { s.cfg with load := some m, dynlist := s.cfg.dynlist ++ [(BitVec.ofNat 32 a, none, false)] } }
          ∧ m.pos = l.pos + 8 ∧ m.op = none)

/-- Flash commands (R207, R210): go starts a command, or it is refused as busy or as protected; a completed read sends
its bytes to the buffer, a program clears bits and sets none, an erase leaves 0xFF, and no other byte changes. -/
def Obligations.FlashCommandsComplete : Prop :=
  (∀ (s : State) (v : Word), exec (.flashRead v) s = .next (s.writeFlashCmd v)
    ∧ exec (.flashProgram v) s = .next (s.writeFlashCmd v) ∧ exec (.flashErase4k v) s = .next (s.writeFlashCmd v)
    ∧ exec (.flashErase64k v) s = .next (s.writeFlashCmd v))
  ∧ (∀ (s : State) (v : Word), bit v 31 = true →
    let u := s.write CFG_FLASH_CMD.off v
    let op := u.get CFG_FLASH_CMD.op
    let a := u.get CFG_FLASH_ADDR.v
    (u.cfg.flash.isSome = true → s.writeFlashCmd v = u.put CFG_FLASH_CMD.result 2)
    ∧ (u.cfg.flash = none → u.flashLoading = false → u.is FLT_STAT.pfw = false →
      (op = 0 → s.writeFlashCmd v = { u with cfg := { u.cfg with
          flash := some { op := 0, addr := a, len := u.get CFG_FLASH_CMD.length + 1 } } })
      ∧ (op = 1 → a < u.protectedEnd → u.is CFG_FLASH_CTRL.golden_unlock = false →
          s.writeFlashCmd v = u.put CFG_FLASH_CMD.result 3)
      ∧ (op = 1 → u.protectedEnd ≤ a → s.writeFlashCmd v = { u with cfg := { u.cfg with
          flash := some { op := 1, addr := a, len := u.get CFG_FLASH_CMD.length + 1 } } })
      ∧ (op = 2 → u.protectedEnd ≤ a - a % 4096 → s.writeFlashCmd v = { u with cfg := { u.cfg with
          flash := some { op := 2, addr := a - a % 4096, len := 4096 } } })
      ∧ (op = 3 → u.protectedEnd ≤ a - a % 65536 → s.writeFlashCmd v = { u with cfg := { u.cfg with
          flash := some { op := 3, addr := a - a % 65536, len := 65536 } } })))
  ∧ (∀ (s : State) (bytes : List Byte) (c : FlashCmd), s.cfg.flash = some c → c.op = 1 → bytes.length = c.len →
    ∃ t, exec (.flashCmdComplete true bytes) s = .next t ∧ t.cfg.flash = none ∧ t.get CFG_FLASH_CMD.result = 1
      ∧ (∀ i, (h : i < bytes.length) → t.flashAt (c.addr + i) = s.flashAt (c.addr + i) &&& bytes[i])
      ∧ (∀ a, (a < c.addr ∨ c.addr + c.len ≤ a) → t.flashAt a = s.flashAt a))
  ∧ (∀ (s : State) (bytes : List Byte) (c : FlashCmd), s.cfg.flash = some c → 2 ≤ c.op →
    ∃ t, exec (.flashCmdComplete true bytes) s = .next t ∧ t.cfg.flash = none ∧ t.get CFG_FLASH_CMD.result = 1
      ∧ (∀ a, t.flashAt a = if c.addr ≤ a ∧ a < c.addr + c.len then 0xFF else s.flashAt a))
  ∧ (∀ (s : State) (bytes : List Byte) (c : FlashCmd), s.cfg.flash = some c → c.op = 0 →
    exec (.flashCmdComplete true bytes) s
      = .next (((s.toBuffer (s.flashBytes c.addr c.len)).flashEnds 1).startWaiting)
    ∧ exec (.flashCmdComplete false bytes) s = .next ((s.flashEnds 4).startWaiting))

/-! ### Stalls and the scrubber -/

/-- Commands of stalls (R242, R246, R253, R254, R260, R266, R267, R277, R279): each, alone in STL_CMD, acts where the
stall's state allows it and shows the answer in STL_RES; otherwise it is refused; more than one at once is refused. A
define is refused for a stall in use, for no rectangle, for one out of the fabric, for an overlap with another defined
stall, and for a split deep-memory column, and it is refused for a reason only where that reason holds (R242). -/
def Obligations.StallCommandsComplete : Prop :=
  (∀ (s : State) (n : Fin 64) (v : Word), v.toNat / 2 ^ 23 = 256 →
    (∀ r, s.defineRefusal n = some r → exec (.define n v) s = .next (s.cmdRefused n r))
    ∧ (s.defineRefusal n = none → ∃ t, exec (.define n v) s = .next t ∧ t.stallState n = 1
        ∧ t.get (STL_STAT.plane n) = 0 ∧ t.get (STL_STAT.active_valid n) = 1 ∧ t.get (STL_STAT.shadow n) = 5
        ∧ t.get (STL_SWAPS.v n) = 0 ∧ t.get (STL_RES.cmd n) = 1 ∧ t.stall n = {}
        ∧ s.SameRegs t [STL_STAT.off n, STL_SWAPS.off n, STL_RES.off n, SCB_STAT.off]
        ∧ t = { s with regs := t.regs, stalls := t.stalls }))
  ∧ (∀ (s : State) (n : Fin 64) (v : Word), v.toNat / 2 ^ 23 = 128 →
    (s.stallState n = 1 ∧ s.get (STL_STAT.shadow n) = 5 → ∃ t, exec (.undefine n v) s = .next t ∧ t.stallState n = 0
        ∧ t.get (STL_RES.cmd n) = 1 ∧ t.stall n = {})
    ∧ (s.get (STL_STAT.shadow n) ≠ 5 → exec (.undefine n v) s = .next (s.cmdRefused n 6)))
  ∧ (∀ (s : State) (n : Fin 64) (v : Word) (clk : Bool), v.toNat / 2 ^ 23 = 64 → s.swapRefusal n false clk = none →
    exec (.swapNow n v clk) s = .next (((s.swapResult n 12).beginDrain n
      { timed := false, fromReset := decide (s.stallState n = 6) }).cmdAccepted n))
  ∧ (∀ (s : State) (n : Fin 64) (v : Word) (clk : Bool), v.toNat / 2 ^ 23 = 32 →
    (∀ code, s.swapRefusal n true clk = some code → exec (.swapAt n v clk) s
      = .next (((s.swapResult n code).stallEvent n true INFO 0x0803 code).cmdRefused n 0))
    ∧ (s.swapRefusal n true clk = none → s.th.time.toNat + s.get (STL_DRAIN.lead_us n) * 65536000 < s.swapTime n →
      ∃ t, exec (.swapAt n v clk) s = .next t ∧ t.stallState n = 2 ∧ t.get (STL_RES.swap n) = 12
        ∧ t.get (STL_RES.cmd n) = 1
        ∧ t.stall n = { s.stall n with swap := some { timed := true, fromReset := decide (s.stallState n = 6) } }
        ∧ s.SameRegs t [STL_STAT.off n, STL_RES.off n]))
  ∧ (∀ (s : State) (n : Fin 64) (v : Word), v.toNat / 2 ^ 23 = 16 →
    ((s.stall n).swap = none → exec (.cancel n v) s = .next (s.cmdRefused n 6))
    ∧ (∀ w, (s.stall n).swap = some w → w.frozen = false → w.flipped = false → exec (.cancel n v) s
      = .next (((s.abandonSwap n 6).stallEvent n true INFO 0x0803 6).cmdAccepted n)))
  ∧ (∀ (s : State) (n : Fin 64) (v : Word), v.toNat / 2 ^ 23 = 8 → exec (.resetHold n v) s
      = .next (if s.stallState n = 1 then (s.holdStall n).cmdAccepted n else s.cmdRefused n 6))
  ∧ (∀ (s : State) (n : Fin 64) (v : Word), v.toNat / 2 ^ 23 = 4 →
    (s.stallState n = 6 → s.bistIn n = false → exec (.resetRelease n v) s = .next ((s.freeStall n).cmdAccepted n))
    ∧ (s.stallState n ≠ 6 → exec (.resetRelease n v) s = .next (s.cmdRefused n 6)))
  ∧ (∀ (s : State) (n : Fin 64) (v : Word), v.toNat / 2 ^ 23 = 2 → exec (.clear n v) s
      = .next (if s.stallState n = 6 then (s.put (STL_STAT.state n) 7).cmdAccepted n else s.cmdRefused n 6))
  ∧ (∀ (s : State) (n : Fin 64) (v : Word), v.toNat / 2 ^ 23 = 1 →
    (s.stallState n = 1 → s.get (STL_STAT.shadow n) = 3 → ∃ t, exec (.refill n v) s = .next t
        ∧ t.get (STL_STAT.shadow n) = 4 ∧ t.get (STL_RES.cmd n) = 1 ∧ t.get SCB_STAT.refill_active = 1)
    ∧ (s.get (STL_STAT.shadow n) = 5 → exec (.refill n v) s = .next (s.cmdRefused n 6)))
  ∧ (∀ (s : State) (n : Fin 64) (v : Word), v.toNat / 2 ^ 23 = 384 → exec (.define n v) s = .next (s.cmdRefused n 6))
  ∧ (∀ (s : State) (n : Fin 64), s.stallState n = 7 → ∃ t, exec (.clearComplete n) s = .next t ∧ t.stallState n = 6
      ∧ t.get (STL_STAT.active_valid n) = 0 ∧ t.get (STL_STAT.shadow n) = 5
      ∧ (∀ p a, a < 2 ^ 32 → t.frame p a = if s.inStall n a then 0 else s.frame p a))
  ∧ (∀ (s : State) (n : Fin 64),
    (s.stallState n ≠ 0 ↔ s.defineRefusal n = some 6)
    ∧ (s.stallState n = 0 → (∀ j < 4, s.rectUsed n j = false) → s.defineRefusal n = some 1)
    ∧ (∀ m j k, m < 64 → m ≠ n.val → j < 4 → k < 4 → s.stallState n = 0 → s.stallState m ≠ 0 →
        s.rectsMeet n j m k = true → s.defineRefusal n = some 1 ∨ s.defineRefusal n = some 2)
    ∧ (s.defineRefusal n = none → ∀ m, m < 64 → m ≠ n.val → s.stallState m ≠ 0 → ∀ col cy,
        s.stallCovers n col cy = true → s.stallCovers m col cy = false)
    ∧ (s.defineRefusal n = none → ∀ col cy, s.stallCovers n col cy = true → col ≤ 1163 ∧ cy ≤ 19
        ∧ s.domOpen (regionDom (12 * cy + col / 97)) = true))

/-- The course of a swap (R255 to R261, R264, R265): the drain starts, completes or times out; the freeze, the flip
and the release; a lost clock flips at once; content frames are written or end the phase. -/
def Obligations.SwapCommandsComplete : Prop :=
  (∀ (s : State) (n : Fin 64) (w : Swap), (s.stall n).swap = some w → s.stallState n = 2 →
    ∃ u, u = s.reachTime (BitVec.ofNat 80 (s.swapTime n - s.get (STL_DRAIN.lead_us n) * 65536000))
      ∧ exec (.drainStart n) s = .next (u.beginDrain n w))
  ∧ (∀ (s : State) (n : Fin 64) (w : Swap), (s.stall n).swap = some w → w.drain = true → w.drained = false →
    (s.drainDone n = true → w.lost = false → exec (.drainComplete n) s
      = .next (s.setStall n { s.stall n with swap := some { w with drained := true } }))
    ∧ (s.drainDone n = true → w.lost = true → exec (.drainComplete n) s
      = .next (s.flipStall n { w with drained := true }))
    ∧ (s.is (STL_CFG.force_drain n) = false → exec (.drainTimeout n) s
      = .next ((s.abandonSwap n 7).stallEvent n true CONTAINED 0x0804 7))
    ∧ (s.is (STL_CFG.force_drain n) = true → w.lost = false → exec (.drainTimeout n) s
      = .next (s.setStall n { s.stall n with swap := some { w with drained := true, forced := true } }))
    ∧ (w.frozen = false → w.timed = true → w.late = false → s.is (STL_CFG.late_policy n) = false →
      exec (.swapFreeze n) s = .next (s.setStall n { s.stall n with swap := some { w with late := true } })))
  ∧ (∀ (s : State) (n : Fin 64) (w : Swap), (s.stall n).swap = some w → w.frozen = false → w.drained = true →
    ∃ t, exec (.swapFreeze n) s = .next t ∧ t.stallState n = 4
      ∧ t.stall n = { s.stall n with swap := some { w with frozen := true } } ∧ s.SameRegs t [STL_STAT.off n])
  ∧ (∀ (s : State) (n : Fin 64) (edge : Time) (w : Swap), (s.stall n).swap = some w → w.frozen = true →
    w.flipped = false → w.forced = false → s.get (STL_STAT.shadow n) ≠ 2 →
    ∃ t, exec (.swapFlip n edge) s = .next t ∧ t.get (STL_STAT.plane n) = (if s.is (STL_STAT.plane n) then 0 else 1)
      ∧ t.stallState n = 4 ∧ t.get (STL_STAT.active_valid n) = 1
      ∧ (t.stall n).swap = some { w with flipped := true, content := false })
  ∧ (∀ (s : State) (n : Fin 64) (w : Swap), (s.stall n).swap = some w → w.flipped = true → w.content = false →
    exec (.swapRelease n) s = .next (s.finishSwap n w))
  ∧ (∀ (s : State) (n : Fin 64) (w : Swap), (s.stall n).swap = some w → w.drain = true →
    (w.drained = true → w.flipped = false → exec (.swapClockLost n) s = .next (s.flipStall n { w with lost := true }))
    ∧ (w.drained = false → exec (.swapClockLost n) s
      = .next (s.setStall n { s.stall n with swap := some { w with lost := true } })))
  ∧ (∀ (s : State) (n : Fin 64) (a : Word) (f : Frame) (r g : Bool) (w : Swap), (s.stall n).swap = some w →
    w.flipped = true → w.content = true → (s.stall n).done < s.get (STL_CONT.v n 3) →
    (s.contentError n a f r g = none → ∃ u, u = s.writeContent a.toNat f
      ∧ exec (.contentFrame n a f r g) s
        = .next (u.setStall n { u.stall n with done := (s.stall n).done + 1 }))
    ∧ (∀ code, s.contentError n a f r g = some code → ∃ u : State, u.get (STL_RES.swap n) = 11 ∧ u.stallState n = 6
      ∧ (u.stall n).swap = none ∧ exec (.contentFrame n a f r g) s
        = .next (u.raise (pageSTL (n.val / 16)) (n.val % 16) CONTAINED 0x0806 code a.toNat)))
  ∧ (∀ (s : State) (n : Fin 64) (w : Swap), (s.stall n).swap = some w → w.flipped = true → w.content = true →
    s.get (STL_CONT.v n 3) ≤ (s.stall n).done → s.bistIn n = false →
    exec (.contentPhaseEnd n) s = .next (s.finishSwap n w))
  ∧ (∀ (s : State) (n : Fin 64) (w : Swap), w.lost = false → w.late = false → w.fromReset = true →
    s.is (STL_CFG.shadow_mode n) = false →
    ∃ u : State, s.finishSwap n w = u.stallEvent n false INFO 0x0801 1 ∧ u.stallState n = 6 ∧ u.get (STL_STAT.shadow n) = 3
      ∧ u.get (STL_RES.swap n) = 1 ∧ (u.stall n).swap = none)

/-- The scrubber (R270 to R277): a slot with a clean frame leaves it and counts the ordinal, one with a frame that its
code corrects counts and writes it back; a repair copy that is good replaces the frame; a refill copies a clean frame
to the shadow; nothing happens while it is stopped. -/
def Obligations.ScrubberCommandsComplete : Prop :=
  (∀ s : State, s.scrub.repair = none → s.scrub.waiting = [] → s.is SCB_STAT.running = false →
    exec .scrubSlot s = .next s)
  ∧ (∀ (s : State) (b : Nat), s.scrub.repair = none → s.scrub.waiting = [] → s.is SCB_STAT.running = true →
    s.get SCB_CFG.mode ≠ 0 → s.refilling = false →
    let a := s.scrub.addr.toNat
    let n := s.get SCB_STAT.ordinal
    let u := s.elapse (s.scrub.started + (n + 1) * s.get SCB_CFG.period * 4 - s.now)
    nextFrame a = some b →
    ∃ w, w = u.scrubFrame a ∧ exec .scrubSlot s
      = .next (({ w with scrub := { w.scrub with addr := BitVec.ofNat 32 b } }).put SCB_STAT.ordinal (n + 1)))
  ∧ (∀ (s : State) (a : Nat), a < 2 ^ 32 → s.frameStall a = none → s.frameSkipped a none = false →
    (∀ p, badMask (s.frame p a) = 0 ∧ badMask (fixFrame (s.frame p a)) = 0) → s.get SCB_CFG.mode = 2 →
    let t := s.scrubFrame a
    t.frame false a = fixFrame (s.frame false a) ∧ t.frame true a = fixFrame (s.frame true a)
      ∧ (∀ p b, b < 2 ^ 32 → b ≠ a → t.frame p b = s.frame p b)
      ∧ s.SameRegs t [SCB_CE1.off, SCB_CE2.off, SCB_SH_CE.off])
  ∧ (∀ (s : State) (r : Repair) (f : Frame), s.scrub.repair = some r → s.scrub.waiting = [] → r.stall = none →
    r.refill = false → frameGood f = true → s.frameStall r.addr.toNat = none → r.source = 2 →
    ∃ t, exec (.repairReadResponse true f) s = .next t
      ∧ t.frame r.plane r.addr.toNat = f
      ∧ t.get SCB_FIX_DR.v = min (s.get SCB_FIX_DR.v + 1) (2 ^ 32 - 1) ∧ t.scrub.repair = none
      ∧ (∀ p b, b < 2 ^ 32 → (p ≠ r.plane ∨ b ≠ r.addr.toNat) → t.frame p b = s.frame p b))
  ∧ (∀ (s : State) (n : Fin 64) (a : Nat), (s.stall n).refill = some a → s.scrub.repair = none →
    s.scrub.waiting = [] → s.get (STL_STAT.shadow n) = 4 → s.frameDynamic a (some n.val) = false →
    badMask (s.frame (s.activePlane (some n.val)) a) = 0 →
    let g := fixFrame (s.frame (s.activePlane (some n.val)) a)
    ∃ u : State, u.frame true a = g ∧ u.frame false a = g ∧ exec (.refillFrame n) s = .next (u.refillNext n a))

/-! ### Network on chip -/

/-- Requests enter the network (R28, R287, R290, R292 to R295, R298): one whose address the decoder refuses is
answered or dropped at its initiator; a read joins the outstanding requests and its packet stands at the initiator's
router; a posted write carries the next seq; a tag in use waits; a fence with nothing written completes OK, otherwise
it flushes what was written. -/
def Obligations.NocRequestsComplete : Prop :=
  (∀ (s : State) (i : IniPort) (r : NocReq) (l2 : Option CoreAccess), i ≠ .ccA → i ≠ .ccB →
    exec (.nocRequestIssue i r l2) s = .next (s.issue i r))
  ∧ (∀ (s : State) (i : IniPort) (r : NocReq), s.portState (iniPort i) ≠ 0 → s.issue i r = s)
  ∧ (∀ (s : State) (i : IniPort) (r : NocReq), s.portState (iniPort i) = 0 →
    requestFits r = false ∨ s.destPort (iniPort i / 64) r.addr.toNat = none → s.issue i r = s.refuseRequest i r)
  ∧ (∀ (s : State) (i : IniPort) (r : NocReq) (d : Nat), s.portState (iniPort i) = 0 → requestFits r = true →
    s.destPort (iniPort i / 64) r.addr.toNat = some d →
    (r.op = .rd → (s.ini i).out.length + (s.ini i).fences.length < 256 → (∀ o ∈ (s.ini i).out, o.tag ≠ r.tag) →
      r.tag ∉ (s.ini i).dead → (∀ f ∈ (s.ini i).fences, f.tag ≠ r.tag) →
      let t := s.issue i r
      (t.ini i).out = (s.ini i).out ++ [{ tag := r.tag, dest := BitVec.ofNat 10 d, op := 0, addr := r.addr, issued := s.now }]
        ∧ (∃ p, t.noc.flight = s.noc.flight ++ [(.router (portRouter (iniPort i)), p)] ∧ p.opcode = 0 ∧ p.vc = 1
          ∧ p.dest = BitVec.ofNat 10 d ∧ p.tag = r.tag ∧ p.addr = r.addr ∧ p.hops = 0 ∧ p.hcrc = hcrcOf p)
        ∧ t = { s with noc := t.noc })
    ∧ (r.op ∈ [.rd, .wrn, .mrd] → (∃ o ∈ (s.ini i).out, o.tag = r.tag) → s.issue i r = s)
    ∧ (r.op = .wrp →
      let t := s.issue i r
      t.nextSeq i (BitVec.ofNat 10 d).toNat 0 = s.nextSeq i (BitVec.ofNat 10 d).toNat 0 + 1
        ∧ (∃ p, t.noc.flight = s.noc.flight ++ [(.router (portRouter (iniPort i)), p)] ∧ p.opcode = 2 ∧ p.vc = 0
          ∧ p.seq = s.nextSeq i (BitVec.ofNat 10 d).toNat 0 ∧ p.addr = r.addr ∧ p.be = r.be ∧ dataGood p = true)
        ∧ (BitVec.ofNat 10 d, 0) ∈ (t.ini i).written ∧ t = { s with noc := t.noc }))
  ∧ (∀ (s : State) (q : Fin 120) (r : NocReq),
    exec (.quayInitiatorRequest q false r) s = .next (s.issue (.quay q) r)
      ∧ (s.portState (quayPort q) = 0 → (s.ini (.quay q)).out.length + (s.ini (.quay q)).fences.length < 256 →
          exec (.quayInitiatorRequest q true r) s = .next (s.startFence (.quay q) r.tag)))
  ∧ (∀ (s : State) (i : IniPort) (tag : BitVec 12), s.portState (iniPort i) = 0 →
    ((s.ini i).written = [] → ∃ t, exec (.fence i tag) s = .next t ∧ (t.ini i).fenced = some (tag, 0)
        ∧ t.noc.flight = s.noc.flight ∧ t = { s with noc := t.noc })
    ∧ ((s.ini i).written ≠ [] → exec (.fence i tag) s = .next (s.flushTo i tag (s.ini i).written)))
  ∧ (∀ (s : State) (x a : Nat), a < 2 ^ 56 →
    (5 ≤ a / 2 ^ 52 → s.destPort x a = none)
    ∧ (a / 2 ^ 52 = 0 → (a / 2 ^ 48 % 16 ≠ 0 ∨ a / 2 ^ 38 % 16 ≠ 0) → s.destPort x a = none)
    ∧ (a / 2 ^ 52 = 0 → s.is (DMC_MAP.mode 0) = false → 8 * s.dcapBytes 0 ≤ a % 2 ^ 42 → s.destPort x a = none)
    ∧ (a / 2 ^ 52 = 0 → s.is (DMC_MAP.mode 0) = true → s.dcapBytes (a / 2 ^ 35 % 8) ≤ a % 2 ^ 35 → s.destPort x a = none)
    ∧ (a / 2 ^ 52 = 2 → (a / 2 ^ 36 % 2 ^ 16 ≠ 0 ∨ 120 ≤ a / 2 ^ 29 % 128) → s.destPort x a = none)
    ∧ (a / 2 ^ 52 = 3 → a / 2 ^ 26 % 2 ^ 26 ≠ 0 → s.destPort x a = none)
    ∧ (a / 2 ^ 52 = 4 → a / 2 ^ 22 % 2 ^ 30 ≠ 0 → s.destPort x a = none))
  ∧ (∀ (s : State) (i : IniPort) (r : NocReq),
    let u := s.raise (iniPage i) (iniEvt i 1) CONTAINED 0x0911 r.addr.toNat 0
    let v := u.count (NOC_INI_PDROP.v (iniBlock i))
    (opPosted r.op = true → s.refuseRequest i r = match i with
      | .ccA => v.busError (coreOfTag false r.tag) r.addr.toNat 3
      | .ccB => v.busError (coreOfTag true r.tag) r.addr.toNat 3
      | .ts => v.dispatchDropped r.tag.toNat r.addr.toNat
      | _ => v)
    ∧ (opPosted r.op = false → ∃ dest, s.refuseRequest i r
        = { u with freeCount := s.freeCount + 1 }.ownResponse i (opCode r.op) r.tag 3 0x0911 dest r.addr.toNat))

/-- A packet at a router (R284, R285, R299, R301, R302, R307, R308): a header that fails its check is dropped and
counted; in HOLD it waits; a blocked one is answered, dropped with a notice, or dropped; any other goes on to the
output that the tables give, with one hop more between routers. HOLD, its staged settings and its timeout; the arming
of an injector. -/
def Obligations.RouterCommandsComplete : Prop :=
  (∀ (s : State) (x : Fin 12) (y : Fin 6) (p : Packet),
    let i := 12 * y.val + x.val
    let u := s.unsend (.router i) p
    (hcrcOf p ≠ p.hcrc → exec (.routerPacket x y p) s
      = .next ((u.count (NOC_RTR_HDRERR.v i)).routerEvent i 4 CONTAINED 0x0905 p))
    ∧ (hcrcOf p = p.hcrc → s.is (NOC_RTR_STAT.hold i) = true →
      exec (.routerPacket x y p) s = .next (u.send (.router i) p))
    ∧ (hcrcOf p = p.hcrc → s.is (NOC_RTR_STAT.hold i) = false → s.routeOf x y p = none →
      exec (.routerPacket x y p) s = .next (u.blocked i p))
    ∧ (∀ o, hcrcOf p = p.hcrc → s.is (NOC_RTR_STAT.hold i) = false → s.routeOf x y p = some o → (o < 4 → p.hops ≠ 24) →
      s.is (NOC_FI_CTRL.armed i o) = false → (s.inj i o).held = none → exec (.routerPacket x y p) s
        = .next (u.send (outPlace x y o) (if o < 4 then { p with hops := p.hops + 1 } else p))))
  ∧ (∀ (s : State) (x : Fin 12) (y : Fin 6) (o : Fin 8) (v : Word),
    let i := 12 * y.val + x.val
    bit v 31 = true → s.is (NOC_RTR_CTRL.fi_enable i) = true →
    (s.write (NOC_FI_CTRL.off i o) v).get (NOC_FI_CTRL.vc i o) ≠ 3 →
    ∃ t, exec (.fiArm x y o v) s = .next t ∧ t.get (NOC_FI_CTRL.armed i o) = 1
      ∧ (t.inj i o).skip = t.get (NOC_FI_CTRL.skip i o) ∧ (t.inj i o).times = t.get (NOC_FI_CTRL.times i o)
      ∧ (t.inj i o).acted = false ∧ s.SameRegs t [NOC_FI_CTRL.off i o])
  ∧ (∀ (s : State) (x : Fin 12) (y : Fin 6) (o : Fin 8) (p : Packet), (s.inj (12 * y.val + x.val) o).held = some p →
    ∃ u, u = s.setInj (12 * y.val + x.val) o { s.inj (12 * y.val + x.val) o with held := none }
      ∧ exec (.fiReorderTimeout x y o) s = .next (u.forward x y o p))
  ∧ (∀ (s : State) (x : Fin 12) (y : Fin 6) (v : Word),
    let i := 12 * y.val + x.val
    bit v 31 = true → s.is (NOC_RTR_STAT.hold i) = false →
    ∃ t, exec (.holdApply x y v) s = .next t ∧ t.get (NOC_RTR_STAT.hold i) = 1
      ∧ t.noc = { s.noc with holds := t.noc.holds } ∧ t.heldFor i = 0 ∧ s.SameRegs t [NOC_RTR_CTRL.off i, NOC_RTR_STAT.off i])
  ∧ (∀ (s : State) (x : Fin 12) (y : Fin 6),
    let i := 12 * y.val + x.val
    s.is (NOC_RTR_STAT.hold i) = true →
    (∃ t, exec (.holdApplied x y) s = .next t
      ∧ t.word (NOC_RTR_XDIR.off i) = s.word (NOC_RTR_NEXT_XDIR.off i)
      ∧ t.word (NOC_RTR_YDIR.off i) = s.word (NOC_RTR_NEXT_YDIR.off i)
      ∧ t.word (NOC_RTR_ARB.off i) = s.word (NOC_RTR_NEXT_ARB.off i)
      ∧ t.get (NOC_RTR_STAT.hold i) = 0 ∧ t.get (NOC_RTR_STAT.result i) = 1)
    ∧ (∃ u, u = s.releaseHold i 2 (max 25600 (s.heldFor i)) ∧ u.get (NOC_RTR_STAT.result i) = 2
      ∧ u.get (NOC_RTR_STAT.hold i) = 0 ∧ u.word (NOC_RTR_XDIR.off i) = s.word (NOC_RTR_XDIR.off i)
      ∧ exec (.holdTimeout x y) s = .next (u.raise (pageNOC i) 0 INFO 0x0901 0 0)))

/-- The decoder sends an address where the address map says (R27, R28, R287): 0x5 to 0xF of the top four bits are
refused, a host address goes to the nearer PCI port, a quay window to its quay; and the answer to a request goes back
to its source with its tag. Under the tables that hold after reset every packet takes the shorter way round the X ring
to its destination's column, a tie going E, then the shorter way round the Y ring, a tie going N, then leaves by its
destination's port (R281, R283, R284): no packet to a port that exists is blocked, and every hop brings it nearer. -/
def Obligations.AddressesAndRoutesFollowTheMap : Prop :=
  (∀ (s : State) (x a : Nat), 5 ≤ a / 2 ^ 52 → s.destPort x a = none)
  ∧ (∀ (s : State) (x a : Nat), a / 2 ^ 52 = 1 → s.destPort x a = some (if x ≤ 5 then 320 else 384))
  ∧ (∀ (s : State) (x q o : Nat), q < 120 → o < 2 ^ 29 →
      s.destPort x (2 * 2 ^ 52 + q * 2 ^ 29 + o) = some (quayPort q))
  ∧ (∀ (s : State) (x o : Nat), o < 0x2000000 → ∃ d, s.destPort x (3 * 2 ^ 52 + o) = some d ∧ portExists d = true)
  ∧ (∀ (s : State) (x o : Nat), o < 2 ^ 42 →
      s.destPort x o = if o / 2 ^ 38 ≠ 0 then none else (s.dramPlace o).map fun d => dmcPort d.1)
  ∧ (∀ (s : State) (src : Nat) (r : Packet) (st : Nat) (ls : List Line) (i : Nat), st < 16 →
      ∃ p, (s.answerFrom src r st ls false i).noc.flight = s.noc.flight ++ [(.router (portRouter src), p)]
        ∧ p.dest = r.src ∧ p.tag = r.tag ∧ p.vc = 2 ∧ p.status.toNat = st ∧ dataGood p = true ∧ hcrcOf p = p.hcrc)
  ∧ (∀ (s : State) (x y : Nat) (p : Packet), x < 12 → y < 6 → portExists p.dest.toNat = true →
    (∀ i < 72, s.word (NOC_RTR_XDIR.off i) = State.reset.word (NOC_RTR_XDIR.off i)
      ∧ s.word (NOC_RTR_YDIR.off i) = State.reset.word (NOC_RTR_YDIR.off i)
      ∧ s.word (NOC_RTR_LINK.off i) = State.reset.word (NOC_RTR_LINK.off i)) →
    let east := (p.dest.toNat / 64 + 12 - x) % 12
    let north := (p.dest.toNat / 8 % 8 + 6 - y) % 6
    s.routeOf x y p = some (if 1 ≤ east ∧ east ≤ 6 then 0 else if 6 < east then 1 else if 1 ≤ north ∧ north ≤ 3 then 2
        else if 3 < north then 3 else 4 + p.dest.toNat % 8)
      ∧ outPlace x y 0 = .router (12 * y + (x + 1) % 12) ∧ outPlace x y 2 = .router (12 * ((y + 1) % 6) + x)
      ∧ (east = 0 → north = 0 → outPlace x y (4 + p.dest.toNat % 8) = .port p.dest))

/-- A packet at its destination and what becomes of answers (R289, R293 to R300, R304, R305): a port that is not OPEN
answers a request DOMAIN_CLOSED and drops a posted write with a notice; a read of the registers is answered at once; a
posted write in its turn is taken and one too far ahead waits; a response is matched by its tag; timeouts answer
TIMEOUT and keep the tag back; a port closes when its work is done, or by force. -/
def Obligations.DestinationCommandsComplete : Prop :=
  (∀ (s : State) (port : BitVec 10) (p : Packet),
    exec (.destinationPacket port p) s = .next (s.mirrorFrom (s.arrive port p)))
  ∧ (∀ (s : State) (port : BitVec 10) (p : Packet), opcodeFits p = true → p.opcode = 0 →
    let u := s.unsend (.port port) p
    (u.closedTo port.toNat p ≠ 0 → s.arrive port p = u.answerClosed port.toNat p)
    ∧ (u.closedTo port.toNat p = 0 → dataGood p = true → s.arrive port p = u.applyRequest port.toNat p)
    ∧ (p.addr.toNat / 2 ^ 52 = 3 → toFabric p = false → s.applyRequest port.toNat p
        = (s.regsRead p).2.answerFrom port.toNat p 0 (s.regsRead p).1 false 0))
  ∧ (∀ (s : State) (port : BitVec 10) (p : Packet), opcodeFits p = true → p.opcode = 2 →
    let u := s.unsend (.port port) p
    let f := u.flow port.toNat p.src p.vc
    (u.closedTo port.toNat p ≠ 0 → s.arrive port p = (u.setFlow port.toNat p.src p.vc { f with
        lost := true
        expected := if seqAhead f p.seq = 0 then some (p.seq + 1) else f.expected }).dropPosted port.toNat p 4)
    ∧ (u.closedTo port.toNat p = 0 → 1 ≤ seqAhead f p.seq → seqAhead f p.seq ≤ 8 → f.held.length < 8 →
        s.arrive port p
          = (u.setFlow port.toNat p.src p.vc { f with held := f.held ++ [p] }).settleFlushes port.toNat))
  ∧ (∀ (s : State) (port src : BitVec 10) (vc : BitVec 2), (s.flow port.toNat src vc).held ≠ [] → 
    (s.port port.toNat).flushes = [] →
    exec (.sequenceGapTimeout port src vc) s = .next (s.mirrorFrom
      ((s.giveUp port.toNat src vc (s.flow port.toNat src vc).held).settleFlushes port.toNat)))
  ∧ (∀ (s : State) (i : IniPort) (p : Packet) (o : Outstanding), i ≠ .pciA → i ≠ .ccA → i ≠ .ccB →
    (∀ q, i ≠ .quay q) → (s.ini i).out.find? (fun e : Outstanding => e.tag = p.tag) = some o → dataGood p = true →
    p.synth = false → (s.port o.dest.toNat).accepted = [] →
    ∃ t, exec (.nocResponse i p) s = .next t ∧ (t.ini i).out = (s.ini i).out.erase o ∧ (t.ini i).got = some p
      ∧ t = { s with noc := t.noc })
  ∧ (∀ (s : State) (i : IniPort) (tag : BitVec 12) (o : Outstanding),
    (s.ini i).out.find? (fun e : Outstanding => e.tag = tag) = some o →
    ∃ u, u = State.count (s.setIni i { s.ini i with out := (s.ini i).out.erase o, dead := (s.ini i).dead ++ [tag] })
        (NOC_INI_TMOCNT.v (iniBlock i))
      ∧ exec (.initiatorTimeout i tag) s = .next ((u.raise (iniPage i) (iniEvt i 0) CONTAINED 0x0910 o.addr.toNat
          o.dest.toNat).ownResponse i o.op tag 5 0x0910 o.dest.toNat o.addr.toNat))
  ∧ (∀ (s : State) (i : IniPort) (tag : BitVec 12), ∃ t, exec (.tagRelease i tag) s = .next t ∧ tag ∉ (t.ini i).dead
      ∧ (∀ e, e ≠ tag → (e ∈ (t.ini i).dead ↔ e ∈ (s.ini i).dead)) ∧ t = { s with noc := t.noc })
  ∧ (∀ (s : State) (p : Packet),
    let u := s.unsend (.port (BitVec.ofNat 10 (iniPort .cfg))) p
    exec (.noticeReceived .cfg p) s = .next ((u.count (NOC_INI_PDROP.v (iniBlock .cfg))).iniLast .cfg p.status.toNat
      p.tag.toNat p.src.toNat p.addr.toNat))
  ∧ (∀ (s : State) (port : BitVec 10), portDmc port.toNat = none →
    (s.portState port.toNat = 1 → s.targetIdle port.toNat = true → s.ownIdle port.toNat = true →
      exec (.portClosed port) s = .next (s.setPortState port.toNat 2))
    ∧ (s.portState port.toNat ≠ 1 → exec (.portClosed port) s = .next s ∧ exec (.portForceClose port) s = .next s))
  ∧ (∀ (s : State) (port : BitVec 10), portDmc port.toNat = none → portQuay port.toNat = none →
    s.portState port.toNat = 1 → (s.port port.toNat).drain = false →
    ∃ u, u = ((s.forceTarget port.toNat).count (NOC_RTR_FORCED.v (portRouter port.toNat))).raise
        (pageNOC (portRouter port.toNat)) 8 CONTAINED 0x0909
        ((s.port port.toNat).accepted.length + (s.port port.toNat).flushes.length) (s.untaken port.toNat).length
      ∧ exec (.portForceClose port) s = .next (if u.ownIdle port.toNat then u.setPortState port.toNat 2 else u))
  ∧ (∀ (s : State) (q : Fin 120) (tag : BitVec 8) (err : Bool) (data : List Line) (g : BitVec 8 × Packet),
    (s.quay q).given.find? (fun e : BitVec 8 × Packet => e.1 = tag) = some g →
    exec (.quayTargetResponse q tag err data) s
      = .next ((s.setQuay q { s.quay q with given := (s.quay q).given.erase g }).answerFrom (quayPort q) g.2
          (if err then 1 else 0) (if err || g.2.opcode = 1 then [] else data) false 0))

/-! ### DRAM controllers and protection engines -/

/-- Service, training and maintenance of a controller (R316, R317, R330, R333, R334, R336, R339): enable starts
training or shows GEOMETRY; disable acts by state; a training step goes on, fails or ends in READY; a retrain starts,
waits, is cancelled, ends or times out; the requests are answered REFUSED outside READY. -/
def Obligations.DramServiceCommandsComplete : Prop :=
  (∀ (s : State) (n : Fin 8) (v : Word), s.is (DMC_CTRL.enable n) = false → s.dmcState n = 0 →
    let u := s.write (DMC_CTRL.off n) v
    u.is (DMC_CTRL.enable n) = true → u.get (DMC_CTRL.pred n) ≠ 3 →
    (u.geometryFits n = true → exec (.dmcEnable n v) s = .next (u.startTraining n)
      ∧ (u.startTraining n).dmcState n = 1 ∧ (u.startTraining n).get (DMC_STAT.reason n) = 0)
    ∧ (u.geometryFits n = false → exec (.dmcEnable n v) s = .next (u.put (DMC_STAT.reason n) 1)))
  ∧ (∀ (s : State) (n : Fin 8) (v : Word), s.is (DMC_CTRL.enable n) = true →
    let u := s.write (DMC_CTRL.off n) v
    u.is (DMC_CTRL.enable n) = false → u.get (DMC_CTRL.pred n) ≠ 3 →
    (s.dmcState n = 5 → exec (.dmcDisable n v) s = .next (u.put (DMC_STAT.state n) 0))
    ∧ (s.dmcState n = 1 → exec (.dmcDisable n v) s = .next (u.abandonTraining n))
    ∧ (s.dmcState n = 2 → exec (.dmcDisable n v) s
        = .next ((u.setDmc n { u.dmc n with offWait := true }).closePort false (dmcPort n))))
  ∧ (∀ (s : State) (n : Fin 8) (ids : List Byte) (ok : Bool), s.dmcState n = 1 → (s.dmc n).step = 0 →
    (s.dmc n).kept = false →
    let good := ok && s.recordValid n (s.flashBytes (s.get (DMC_TRN_SRC.v n)) 2048) ids
    (good = true → ∃ u, u.get (DMC_STAT.trained n) = 2 ∧ u.dmcState n = 2 ∧ u.get (DMC_PATROL.running n) = 1
      ∧ exec (.trainingRecordRead n ids ok) s = .next (State.raise u (pageDMC n) 0 INFO 0x0A01 0 0))
    ∧ (good = false → exec (.trainingRecordRead n ids ok) s = .next (s.setDmc n { s.dmc n with step := 2 })))
  ∧ (∀ (s : State) (n : Fin 8) (d : BitVec 2) (w : BitVec 1) (a : BitVec 2) (ids set : List Byte), s.dmcState n = 1 →
    (s.dmc n).step ≠ 0 →
    (exec (.trainingStepEnd n false d w a ids set) s = .next (s.trainingFails n (s.dmc n).step))
    ∧ ((s.dmc n).step ≠ 3 → (s.dmc n).step < 7 → exec (.trainingStepEnd n true d w a ids set) s
        = .next (s.setDmc n { s.dmc n with step := (s.dmc n).step + 1 }))
    ∧ ((s.dmc n).step = 3 → d.toNat ≠ s.get (DMC_GEOM.density n) →
        exec (.trainingStepEnd n true d w a ids set) s = .next (s.trainingFails n 1))
    ∧ ((s.dmc n).step = 7 → exec (.trainingStepEnd n true d w a ids set) s = .next (s.trainingDone n ids set)))
  ∧ (∀ (s : State) (n : Fin 8) (v : Word), bit v 27 = false → bit v 28 = false → bit v 29 = false → bit v 31 = true →
    let u := s.write (DMC_MAINT.off n) v
    (s.dmcState n ≠ 2 → exec (.retrain n v) s = .next (u.put (DMC_MAINT.answer n) 3))
    ∧ (s.dmcState n = 2 → u.is (DMC_MAINT.force n) = true → exec (.retrain n v) s
        = .next (((u.setDmc n { u.dmc n with deferred := false }).put (DMC_STAT.state n) 3).put (DMC_MAINT.answer n) 1))
    ∧ (s.dmcState n = 2 → u.is (DMC_MAINT.force n) = false → u.emptyLong n = false → exec (.retrain n v) s
        = .next ((u.setDmc n { u.dmc n with deferred := true }).put (DMC_MAINT.answer n) 2)))
  ∧ (∀ (s : State) (n : Fin 8) (v : Word), s.dmcState n = 2 →
    let u := s.write (DMC_MAINT.off n) v
    (bit v 27 = true → bit v 28 = false → bit v 29 = false → bit v 31 = false → (u.dmc n).deferred = true →
      exec (.retrainCancel n v) s = .next (((u.setDmc n { u.dmc n with deferred := false }).put (DMC_MAINT.result n)
        3).put (DMC_MAINT.answer n) 1))
    ∧ (bit v 27 = false → bit v 28 = true → bit v 29 = false → bit v 31 = false → exec (.patrolRestart n v) s
        = .next ((u.setDmc n { u.dmc n with patrolAt := 0 }).put (DMC_MAINT.answer n) 1))
    ∧ (bit v 27 = false → bit v 28 = false → bit v 29 = true → bit v 31 = false → ∃ t, exec (.trackNow n v) s = .next t
        ∧ t.get (DMC_MAINT.answer n) = 1 ∧ (∀ r < 2, (t.dmc n).trackDue.get flagDefault r = true)))
  ∧ (∀ (s : State) (n : Fin 8), (s.dmc n).deferred = true → s.dmcState n = 2 → (s.dmc n).reads = [] →
    (s.dmc n).writes = [] → exec (.retrainStart n) s
      = .next ((s.elapse ((s.dmc n).emptyAt + 16000 - s.now)).startRetrain n))
  ∧ (∀ (s : State) (n : Fin 8), s.dmcState n = 3 →
    ((s.dmc n).reads = [] → (s.dmc n).writes = [] →
      exec (.retrainComplete n) s = .next ((s.endRetrain n 1).raise (pageDMC n) 5 INFO 0x0A06 0 0))
    ∧ exec (.retrainTimeout n) s = .next ((s.endRetrain n 2).raise (pageDMC n) 6 CONTAINED 0x0A07 0 0)
    ∧ (s.is (DMC_CTRL.enable n) = true → (s.endRetrain n 1).dmcState n = 2
      ∧ (s.endRetrain n 1).get (DMC_MAINT.result n) = 1))

/-- Requests, commands and upkeep of the DRAM (R319 to R329, R332, R342): a request that the key rules refuse is
answered or dropped; an unprotected write that waits at the port takes its entries; a slot opens or closes a row or
makes the column access; a read's data answers it; ageing, refresh debt, the patrol, the windows and the tracking. -/
def Obligations.DramRequestCommandsComplete : Prop :=
  (∀ (s : State) (n : Fin 8) (p : Packet), s.dmcState n ≠ 2 → exec (.dramRequest n p) s = .next s)
  ∧ (∀ (s : State) (n : Fin 8) (p : Packet), s.dmcState n = 2 →
    ((s.port (dmcPort n)).posted = [p] ∧ (s.port (dmcPort n)).accepted = [] ∧ isPosted p = true
      ∨ (s.port (dmcPort n)).posted = [] ∧ (s.port (dmcPort n)).accepted = [p] ∧ isPosted p = false) →
    let l := (s.linesOfReq p).1
    let k := (s.linesOfReq p).2
    (isPosted p = false → s.keyRule n l p = none →
      exec (.dramRequest n p) s = .next ((s.takeFromPort n p).answerFrom (dmcPort n) p 1 [] false 0))
    ∧ (isPosted p = true → s.keyRule n l p = some none → roomFor (s.dmc n).writes.length k p.cls.toNat = true →
      exec (.dramRequest n p) s
        = .next (((s.takeFromPort n p).acceptWrite n l k none p).settleFlushes (dmcPort n)))
    ∧ (p.opcode = 0 → s.keyRule n l p = some none → roomFor (s.dmc n).reads.length k p.cls.toNat = false →
      exec (.dramRequest n p) s = .next s))
  ∧ (∀ (s : State) (n : Fin 8) (i : Nat), s.dmcState n = 2 → s.dueRefresh n = some i →
    exec (.dramCommandSlot n) s = .next (s.refreshSame n i))
  ∧ (∀ (s : State) (n : Fin 8) (e : DmcEntry), s.dmcState n = 2 → s.dueRefresh n = none → (s.dmc n).reads = [e] →
    (s.dmc n).writes = [] → e.issued = false → (s.dmc n).writing = false → e.eff ≤ 3 → e.id < (s.dmc n).nextId →
    e.kind = .read →
    ∃ u, u = s.setDmc n (s.dmc n) ∧
      match (u.bank n (u.linePlace n e.line).1).row with
      | none => exec (.dramCommandSlot n) s = .next (u.setBank n (u.linePlace n e.line).1
          { u.bank n (u.linePlace n e.line).1 with row := some (u.linePlace n e.line).2 })
      | some r => exec (.dramCommandSlot n) s
          = .next (if r = (u.linePlace n e.line).2 then u.column n e false
              else u.setBank n (u.linePlace n e.line).1 { u.bank n (u.linePlace n e.line).1 with row := none }))
  ∧ (∀ (s : State) (n : Fin 8) (e : DmcEntry) (d : DramLine) (p : Packet),
    ((s.dmc n).reads ++ (s.dmc n).writes).find? (fun f => decide (f.id = e.id) && f.issued) = some e → e.kind = .read →
    s.dram.get dramDefault (dramKey n e.line) = some d → e.rgn = none → e.req = some p →
    let r := decodeLine (s.lineRank n e.line) e.line (disturb d [])
    r.fixed = 0 → r.bad = false →
    exec (.dramReadData n e.id []) s = .next (((s.logLine n e.line r).dropEntry n e).readLine n p e.pos (some r.data)))
  ∧ (∀ (s : State) (n : Fin 8) (e : DmcEntry), (s.dmc n).reads = [e] → (s.dmc n).writes = [] → e.eff ≠ 0 →
    s.ageLimit n e.cls ≠ 0 → ∃ t, exec (.agePromotion n e.id) s = .next t
      ∧ (t.dmc n).reads = [{ e with eff := min e.eff (e.eff - 1) }] ∧ t.dram = s.dram)
  ∧ (∀ (s : State) (n : Fin 8) (rank : Fin 2), s.dmcState n = 2 → rank.val ≤ s.get (DMC_GEOM.ranks n) →
    s.owedOf n rank / 4 + 1 < s.get (DMC_REF.postpone n) →
    ∃ t, exec (.refreshInterval n rank) s = .next t ∧ t.owedOf n rank = s.owedOf n rank + 4
      ∧ t.get (DMC_REFAB.v n) = s.get (DMC_REFAB.v n) ∧ t.dram = s.dram)
  ∧ (∀ (s : State) (n : Fin 8) (rank : Fin 2) (dbl : Bool), ∃ t, exec (.mr4Poll n rank dbl) s = .next t
      ∧ (t.dmc n).doubled.get flagDefault rank = dbl ∧ t.dram = s.dram)
  ∧ (∀ (s : State) (n : Fin 8) (d : DramLine), s.dmcState n = 2 →
    s.dram.get dramDefault (dramKey n (s.dmc n).patrolAt) = some d →
    (s.dmc n).patrolAt + 1 < s.dcapBytes n / 64 →
    let l := (s.dmc n).patrolAt
    let r := decodeLine (s.lineRank n l) l (disturb d [])
    r.fixed = 0 → r.bad = false →
    ∃ t, exec (.patrolRead n []) s = .next t ∧ (t.dmc n).patrolAt = l + 1 ∧ t.dram = s.dram
      ∧ t.get (DMC_RD_LINES.v n) = min (s.get (DMC_RD_LINES.v n) + 1) (2 ^ 32 - 1))
  ∧ (∀ (s : State) (n : Fin 8), s.dmcState n = 2 → ∃ t, exec (.ceWindowEnd n) s = .next t
      ∧ (t.dmc n).ceCount = 0 ∧ (t.dmc n).ceRaised = false ∧ t.dram = s.dram)
  ∧ (∀ (s : State) (n : Fin 8) (v : Word), ∃ t, exec (.ceRateWrite n v) s = .next t
      ∧ (t.dmc n).ceCount = 0 ∧ (t.dmc n).ceRaised = false
      ∧ t.word (DMC_CE_RATE.off n) = (s.write (DMC_CE_RATE.off n) v).word (DMC_CE_RATE.off n))
  ∧ (∀ (s : State) (n : Fin 8) (rank : Fin 2) (change : Int), s.dmcState n = 2 →
    rank.val ≤ s.get (DMC_GEOM.ranks n) → ((s.dmc n).shift.get shiftDefault rank + change).natAbs ≤ 16 →
    ∃ t, exec (.dqsTrack n rank change) s = .next t
      ∧ (t.dmc n).shift.get shiftDefault rank = (s.dmc n).shift.get shiftDefault rank + change
      ∧ (t.dmc n).trackDue.get flagDefault rank = false ∧ t.dram = s.dram)
  ∧ (∀ (s : State) (n : Fin 8) (rank : Fin 2), exec (.zqCal n rank) s = .next s)

/-- Keys, regions and their trees (R343 to R345, R347, R351, R355, R359 to R361): a key is taken and its registers
clear, or refused for a key ID that cannot change; a region is enabled into an INIT or refused by the first reason of
the table; the INIT leaves it ACTIVE over zero lines; a fetched node enters the cache or is poisoned; re-encryption
raises the major counter. -/
def Obligations.ProtectionCommandsComplete : Prop :=
  (∀ (s : State) (n : Fin 8) (sender : Sender) (v : Word), s.keyBlocked n sender = true →
    exec (.keyLoad n sender v) s = .next s ∧ exec (.keyErase n sender v) s = .next s)
  ∧ (∀ (s : State) (n : Fin 8) (sender : Sender) (v : Word), s.keyBlocked n sender = false →
    let u := s.write (MPE_KEY_CMD.off n) v
    let id := u.get (MPE_KEY_CMD.key_id n)
    ((id = 0 ∨ u.boundIn n id (fun st => st = 1 || st = 2) = true) → bit v 31 = true → exec (.keyLoad n sender v) s
        = .next ((u.put (MPE_KEY_CMD.result n) 3).raise (pageMPE n) 8 INFO 0x0B0A 0 0))
    ∧ (id ≠ 0 → u.boundIn n id (fun st => st = 1 || st = 2) = false →
        (bit v 31 = true → bit v 30 = false → ∃ t, exec (.keyLoad n sender v) s = .next t
          ∧ t.mpeKey n id = some (BitVec.ofNat 256 (s.getWide (MPE_KEY.off n 0) 8)) ∧ t.get (MPE_KEY_CMD.result n) = 1
          ∧ t.getWide (MPE_KEY.off n 0) 8 = 0 ∧ (∀ j, j ≠ id → t.mpeKey n j = s.mpeKey n j))
        ∧ (bit v 31 = false → bit v 30 = true → ∃ t, exec (.keyErase n sender v) s = .next t
          ∧ t.mpeKey n id = none ∧ t.get (MPE_KEY_CMD.result n) = 1 ∧ (∀ j, j ≠ id → t.mpeKey n j = s.mpeKey n j))))
  ∧ (∀ (s : State) (n r : Fin 8) (v : Word), s.rgnState n r = 0 → s.is (MPE_RGN_CFG.enable n r) = false →
    bit v 31 = true →
    let u := s.put (MPE_RGN_CFG.key n r) (bitsOf v 5 0)
    (∀ why, u.enableReason n r = some why → bit v 30 = false → exec (.regionEnable n r v) s
        = .next ((u.rgnAnswer n r 3 why).raise (pageMPE n) 8 INFO 0x0B0A (u.rgnFirst n r * 64) r))
    ∧ (u.enableReason n r = none → bit v 30 = false → ∃ t, exec (.regionEnable n r v) s = .next t ∧ t.rgnState n r = 1
        ∧ t.get (MPE_RGN_STAT.result n r) = 1 ∧ t.get (MPE_RGN_CFG.enable n r) = 1
        ∧ (t.rgn n r).init = some (0, s.rgnGroups n r) ∧ (t.rgn n r).rootA.epoch = 0
        ∧ (t.rgn n r).rootA = (t.rgn n r).rootB))
  ∧ (∀ (s : State) (n r : Fin 8) (v : Word), s.rgnState n r = 2 → s.is (MPE_RGN_CFG.enable n r) = true →
    bit v 31 = false → bit v 30 = false →
    exec (.regionDisable n r v) s = .next ((s.setRgn n r { s.rgn n r with closing := true }).settleRegions n))
  ∧ (∀ (s : State) (n r : Fin 8) (v : Word), bit v 31 = false → bit v 30 = true →
    s.is (MPE_RGN_CFG.enable n r) = false →
    (s.rgnState n r = 1 → exec (.initGo n r v) s = .next (s.rgnAnswer n r 3 5))
    ∧ (s.rgnState n r = 2 → s.get (MPE_RGN_INIT_LEN.v n r) = 0 → (s.mpe n).poison = [] →
        (s.rgn n r).rootA.epoch ≠ BitVec.allOnes 24 →
        exec (.initGo n r v) s = .next (s.startInit n r 0 (s.rgnGroups n r) false)))
  ∧ (∀ (s : State) (n r : Fin 8) (a m : Nat), (s.rgn n r).init = some (a, m) → (s.dmc n).reads = [] →
    (s.dmc n).writes = [] → ∃ u, u.rgnState n r = 2 ∧ (u.rgn n r).init = none
      ∧ (∀ i, a ≤ i → i < a + m → (u.rgn n r).leaves.get leafDefault i = {})
      ∧ exec (.initComplete n r) s = .next (State.mpeEvent u n 7 INFO 0x0B09 (s.rgnFirst n r + 64 * a) r 0))
  ∧ (∀ (s : State) (n r : Fin 8) (level : Fin 9) (i : BitVec 26) (good : Bool), s.rgnState n r = 2 →
    level.val ≤ s.get (MPE_RGN_STAT.levels n r) → i.toNat < s.nodeCount n r level →
    s.cached n r level i.toNat = false → (s.rgn n r).rootA = (s.rgn n r).rootB →
    ∃ u, u = s.count (MPE_CC_MISS.v n) ∧ exec (.nodeFetch n r level i good false) s
      = .next (if good then u.cacheNode n r level i.toNat else u.addPoison n r level i.toNat))
  ∧ (∀ (s : State) (n r : Fin 8) (group : Nat) (failed : List (Fin 64)) (p : Packet),
    (s.rgn n r).groups = [(group, p)] → (s.dmc n).reads = [] → (s.dmc n).writes = [] →
    ∃ u, ((State.rgn u n r).leaves.get leafDefault group).major = ((s.rgn n r).leaves.get leafDefault group).major + 1
      ∧ ((u.rgn n r).leaves.get leafDefault group).minors = 0 ∧ (u.rgn n r).groups = []
      ∧ exec (.reencryptionComplete n r group failed) s
        = .next (u.when (((u.port (dmcPort n)).posted ++ (u.port (dmcPort n)).accepted).contains p)
            fun v => v.dramAccept n p))

/-! ### PCI Express -/

/-- The link and its power states (R367, R374, R375, R394): the link comes up at what both ends support within the
maxima; it goes down with every host request forgotten; it enters L1 while idle and sends on its exit what waited; an
LTR message leaves at once in L0 and waits otherwise. What the host asks (R366, R370 to R373, R467): a read of a BAR
becomes NoC reads and a write NoC posted writes, a function other than the BAR's is unsupported, a FENCED device
aborts; a request whose pieces are all answered completes with their data; a doorbell within the function's range
moves the tail, and one outside is counted and reported. -/
def Obligations.PcieLinkAndHostCommandsComplete : Prop :=
  (∀ (s : State) (rate : BitVec 3) (width : BitVec 5) (flit : Bool), s.is PCI_CFG.enable = true →
    ∃ u : State, u.get PCI_LINK.ltssm = 3 ∧ u.get PCI_LINK.rate = min rate.toNat (s.get PCI_CFG.max_rate)
      ∧ u.get PCI_LINK.width = min width.toNat (2 ^ s.get PCI_CFG.max_width) ∧ u.get PCI_LINK.l1_sub = 0
      ∧ u.pci = { s.pci with pmL1 := false } ∧ exec (.linkUp rate width flit) s = .next u.sendWaiting)
  ∧ (∀ s : State, s.get PCI_LINK.ltssm ≠ 0 →
    (∀ q ∈ [portId 5 0 0, portId 6 0 0],
      (s.port q).accepted = [] ∧ (s.port q).posted = [] ∧ (s.port q).flushes = []) →
    ∃ u : State, u.get PCI_LINK.ltssm = 0 ∧ u.get PCI_LINK.downs = min (s.get PCI_LINK.downs + 1) 255 ∧ u.pci.reqs = []
      ∧ u.pci.out = s.pci.out ∧ u.se = s.se ∧ exec .linkDown s = .next (s.mirrorFrom u.loseHostReads))
  ∧ (∀ (s : State) (sub : Fin 3), s.linkOn = true → s.pci.waiting = [] →
    ∃ t, exec (.aspmL1Entry sub) s = .next t ∧ t.get PCI_LINK.ltssm = 6 ∧ t.get PCI_LINK.l1_sub = sub
      ∧ t.pci.pmL1 = false ∧ s.SameRegs t [PCI_LINK.off] ∧ t = { s with regs := t.regs, pci := t.pci })
  ∧ (∀ s : State, s.get PCI_LINK.ltssm = 6 →
    ∃ u : State, u.get PCI_LINK.ltssm = 3 ∧ u.get PCI_LINK.l1_sub = 0 ∧ u.pci = { s.pci with pmL1 := false }
      ∧ s.SameRegs u [PCI_LINK.off] ∧ exec .l1Exit s = .next u.sendWaiting)
  ∧ (∀ s : State, s.get PCI_LINK.ltssm ≠ 0 → s.is PCI_CFG.enable = true → s.fenced = false →
    ∃ t, exec .ltrSend s = .next t ∧ t = { s with pci := t.pci }
      ∧ (s.linkOn = true → t.pci.out = s.pci.out ++ [.ltr (s.word PCI_LTR.off)] ∧ t.pci.waiting = s.pci.waiting)
      ∧ (s.linkOn = false → t.pci.waiting = s.pci.waiting ++ [.ltr (s.word PCI_LTR.off)] ∧ t.pci.out = s.pci.out))
  ∧ (∀ (s : State) (f : Fn) (bar : Fin 5) (off : BitVec 38) (len : Fin 4097) (data : List Byte), 0 < len.val →
    s.is PCI_CFG.enable = true → s.linkLive = true →
    let k := fnNo f
    let u := { s with pci := { s.pci with nextId := s.pci.nextId + 1 } }
    (s.fenced = true → exec (.hostRequest f bar false off len data) s
        = .next (u.complete s.pci.nextId k bar off.toNat 2 []))
    ∧ (s.fenced = false → (barSpace bar = none ∨ f.vf ≠ 0) → exec (.hostRequest f bar false off len data) s
        = .next (u.complete s.pci.nextId k bar off.toNat 1 []))
    ∧ (∀ space size, s.fenced = false → barSpace bar = some (space, size) → s.fnPresent k = true → f.vf = 0 →
      (bar.val = 0 → k = 0) → off.toNat + len.val ≤ size →
      (data.length = len.val → exec (.hostRequest f bar true off len data) s
          = .next (s.hostWrite k bar (space * 2 ^ 52 + off.toNat) data))
      ∧ ((bar.val = 0 → off.toNat % 4 = 0 ∧ len.val % 4 = 0 ∧ len.val ≤ 64) →
        exec (.hostRequest f bar false off len data) s
          = .next (s.hostRead k bar off.toNat (space * 2 ^ 52 + off.toNat) len))))
  ∧ (∀ (s : State) (r : HostReq), s.pci.reqs = [r] → (∀ c ∈ r.pieces, c.answer = some 0) →
    exec (.hostCompletion r.id) s = .next (State.complete { s with pci := { s.pci with reqs := [] } } r.id r.fn r.bar
      r.off 0 (r.pieces.flatMap fun c => c.data)))
  ∧ (∀ (s : State) (f : Fn) (bytes : Fin 9) (v : BitVec 64), fnNo f ≠ 0 → s.fnPresent (fnNo f) = true →
    s.is PCI_CFG.enable = true → s.linkLive = true → s.fenced = false →
    let r := s.ctxRange (fnNo f)
    (∀ i < 1024, i < r.2 → s.ctxFn (r.1 + i) = fnNo f →
      exec (.apertureAccess f (BitVec.ofNat 16 (0x9000 + 8 * i)) true 2 v) s
        = .next (s.mirrorFrom (s.writeTail (r.1 + i) (BitVec.ofNat 32 (v.toNat % 65536)))))
    ∧ (∀ i < 1024, (r.2 ≤ i ∨ s.ctxFn (r.1 + i) ≠ fnNo f) →
      exec (.apertureAccess f (BitVec.ofNat 16 (0x9000 + 8 * i)) true 2 v) s = .next (s.mirrorFrom
        ((s.count SE_DB_REFUSED.v).raise pageSE0 2 INFO 0x0C03 (r.1 + i) (fnNo f))))
    ∧ (∀ off : BitVec 16, off.toNat < 0x9000 ∨ 0xB000 ≤ off.toNat → bytes.val ≠ 0 →
      exec (.apertureAccess f off false bytes v) s = .next (s.mirrorFrom
        (s.answering ((List.range bytes.val).map fun i => s.apertureByte (fnNo f) (off.toNat + i))))))

/-- Functions and their messages (R369, R374, R390, R393): an FLR ends in a function that has kept only its PME bits;
a configuration write changes its one setting, and with every physical function in D3hot the link is in L1; an
unmasked vector's pending message goes out; a delivery is sent, set pending or held. -/
def Obligations.PcieFunctionCommandsComplete : Prop :=
  (∀ (s : State) (f : Fn), s.fnPresent (fnNo f) = true →
    exec (.flr f) s = .next (s.mirrorFrom ((s.flr (fnNo f)).raise pagePCI0 3 INFO 0x0C13 (fnNo f) 0))
      ∧ ((s.flr (fnNo f)).fn (fnNo f)).inFlr = true ∧ ((s.flr (fnNo f)).fn (fnNo f)).d3 = false
      ∧ ((s.flr (fnNo f)).fn (fnNo f)).bme = false ∧ ((s.flr (fnNo f)).fn (fnNo f)).msix = false
      ∧ ((s.flr (fnNo f)).fn (fnNo f)).pmeEn = (s.fn (fnNo f)).pmeEn
      ∧ (∀ h ∈ (s.flr (fnNo f)).pci.holds, h.1 ≠ fnNo f))
  ∧ (∀ s : State, exec .inBandReset s
      = .next (s.mirrorFrom ((s.each ([0, 65].filter s.fnPresent) State.flr).raise pagePCI0 3 INFO 0x0C13 130 0)))
  ∧ (∀ (s : State) (f : Fn), ∃ t, exec (.flrComplete f) s = .next t ∧ (t.fn (fnNo f)).inFlr = false
      ∧ (f.vf = 0 → ∀ v < 65, (t.fn (fnNo f + v)).inFlr = false))
  ∧ (∀ (s : State) (f : Fn), s.fnPresent (fnNo f) = true → s.get PCI_LINK.ltssm ≠ 0 →
    let k := fnNo f
    (∀ on, exec (.hostConfigWrite f (.bme on)) s = .next (s.mirrorFrom (s.setFn k { s.fn k with bme := on })))
    ∧ (∀ on, exec (.hostConfigWrite f (.msixEnable on)) s
        = .next (s.mirrorFrom (((s.setFn k { s.fn k with msix := on }).sendHeld k).sendPending k)))
    ∧ (∀ on, exec (.hostConfigWrite f (.functionMask on)) s
        = .next (s.mirrorFrom ((s.setFn k { s.fn k with masked := on }).sendPending k)))
    ∧ (∀ on, exec (.hostConfigWrite f (.pmeEnable on)) s = .next (s.mirrorFrom (s.setFn k { s.fn k with pmeEn := on })))
    ∧ (f.vf = 0 → exec (.hostConfigWrite f (.vfEnable true)) s = .next (s.mirrorFrom (s.setVfEn (k / 65) true)))
    ∧ (∀ n on, n.toNat < vectorsOf k → exec (.hostConfigWrite f (.vectorMask n on)) s = .next (s.mirrorFrom
        ((s.setMsixWord k n.toNat 3 (setBits (s.msixWord k n.toNat 3) 0 0 on.toNat)).sendPending k)))
    ∧ (∀ d3, exec (.hostConfigWrite f (.dState d3)) s = .next (s.mirrorFrom (s.setDState k d3)))
    ∧ ((s.fn k).d3 = false → ((s.setDState k true).fn k).d3 = true
        ∧ ((s.setFn k { s.fn k with d3 := true }).allD3 = true → s.linkLive = true →
          (s.setDState k true).get PCI_LINK.ltssm = 6 ∧ (s.setDState k true).pci.pmL1 = true)))
  ∧ (∀ (s : State) (f : Fn) (n : BitVec 11), s.fnPresent (fnNo f) = true → n.toNat < vectorsOf (fnNo f) →
    exec (.msixUnmask f n) s = .next ((s.setMsixWord (fnNo f) n.toNat 3
      (setBits (s.msixWord (fnNo f) n.toNat 3) 0 0 0)).sendPending (fnNo f)))
  ∧ (∀ (s : State) (f : Fn), s.reachable (fnNo f) = true → exec (.functionReachable f) s = .next (s.mirrorFrom
      (((s.each (s.se.ctxs.map Prod.fst) fun s n => if s.ctxFn n = fnNo f then s.progress n else s).sendHeld
        (fnNo f)).sendPending (fnNo f))))
  ∧ (∀ (s : State) (k v : Nat), (∀ h ∈ s.pci.holds, h.1 ≠ k) → s.canSend k = true → (s.fn k).pmeSent = false →
    ∃ u, u = s.setFn k (s.fn k) ∧ (s.vectorMasked k v = true → s.deliver k v none = u.setPba k v true)
      ∧ (s.vectorMasked k v = false → s.deliver k v none = u.toHost (s.msixTlp k v)))
  ∧ (∀ (s : State) (k v : Nat), s.canSend k = false → (s.fn k).d3 = false →
    s.deliver k v none = { s with pci := { s.pci with
      holds := if (k, v, none) ∈ s.pci.holds then s.pci.holds else s.pci.holds ++ [(k, v, none)] } })

/-! ### Stream engine -/

/-- What commands make of a context (R376, R378, R379, R459): enabling starts it at position 0 with phase 1; stop,
restart and disable act by its state; a doorbell stores the tail; a context that a standby mirrors refuses all five.
Tolls and sluices (R384, R391, R392): each toll period renews a balance up to the toll; a sluice's timer releases it;
new limits release a sluice that has reached them; a vector beyond the function's table leaves a sluice disabled. -/
def Obligations.ContextAndSluiceCommandsComplete : Prop :=
  (∀ (s : State) (n : BitVec 16) (v : Word), s.ctxHeld n.toNat = true →
    let t := s.mirrorFrom (s.count PAIR_REFUSED.v)
    exec (.contextEnable n v) s = .next t ∧ exec (.stop n v) s = .next t ∧ exec (.restart n v) s = .next t
      ∧ exec (.contextDisable n v) s = .next t ∧ exec (.doorbell n v) s = .next t)
  ∧ (∀ (s : State) (b : BitVec 16) (v : Word), s.ctxHeld b.toNat = false →
    let n := b.toNat
    (s.is (SE_SC_CTRL.enable n) = false → bit v 31 = true → bit v 30 = false → bit v 29 = false →
      let u := s.writeWhere (SE_SC_CTRL.off n) (fun f => decide (f.lo ≠ 31)) v
      let t := u.enableCtx n
      exec (.contextEnable b v) s = .next (s.mirrorFrom t)
        ∧ (u.get (SE_SC_CTRL.src_kind n) = 0 → u.get (SE_SC_CTRL.dst_kind n) = 0 → t = u)
        ∧ (u.get (SE_SC_CTRL.src_kind n) = 1 → u.get (SE_SC_CTRL.dst_kind n) ≠ 3 →
          4 ≤ u.get (SE_SC_DRING_HI.size n) → u.get (SE_SC_DRING_HI.size n) ≤ 16 →
          t.get (SE_SC_CTRL.enable n) = 1 ∧ t.head n = 0 ∧ t.done n = 0 ∧ t.get (SE_SC_STAT.phase n) = 1
            ∧ t.ctx n = { on := true } ∧ (u.tail n = 0 → t.ctxState n = 1)))
    ∧ (s.is (SE_SC_CTRL.enable n) = true → bit v 31 = true →
      let u := s.writeWhere (SE_SC_CTRL.off n)
        (fun f => decide (f.lo ≠ 31) && !(decide (f.lo = 27) || decide (f.lo = 25) || decide (f.lo = 17))) v
      (bit v 29 = true → bit v 30 = false → (s.ctxState n = 2 ∨ s.ctxState n = 3) → exec (.stop b v) s
          = .next (s.mirrorFrom ((u.setCtx n { u.ctx n with stopped := true }).setCtxState n 4)))
      ∧ (bit v 29 = false → bit v 30 = true → s.ctxState n = 5 →
          exec (.restart b v) s = .next (s.mirrorFrom (u.restartCtx n))))
    ∧ (s.is (SE_SC_CTRL.enable n) = true → bit v 31 = false → bit v 30 = false → bit v 29 = false →
      let u := s.writeWhere (SE_SC_CTRL.off n)
        (fun f => decide (f.lo ≠ 31) && !(decide (f.lo = 27) || decide (f.lo = 25) || decide (f.lo = 17))) v
      ((s.ctxState n = 1 ∨ s.ctxState n = 5) → exec (.contextDisable b v) s = .next (s.mirrorFrom (u.ctxOff n true))
          ∧ (u.ctxOff n true).get (SE_SC_CTRL.enable n) = 0 ∧ (u.ctxOff n true).ctxState n = 0)
      ∧ ((s.ctxState n = 2 ∨ s.ctxState n = 3) → exec (.contextDisable b v) s = .next (s.mirrorFrom
          ((u.setCtx n { u.ctx n with disabling := true }).stopCtx n))))
    ∧ (let u := s.write (SE_SC_DB.off n) v
      u.get (SE_SC_DB.tail n) = bitsOf v 15 0 ∧ exec (.doorbell b v) s
        = .next (s.mirrorFrom (if u.is (SE_SC_CTRL.enable n) then u.showCtx n else u))))
  ∧ (∀ (s : State) (n : Nat), s.ctxState n = 5 → (s.ctx n).recs = [] → n < 65536 → s.get (SE_SC_DRING_HI.size n) ≤ 16 →
    let t := s.restartCtx n
    let next := (s.get (SE_SC_ERR.index n) + 1) % s.ringLen n
    t.head n = next ∧ t.done n = next ∧ t.word (SE_SC_ERR.off n) = 0 ∧ t.ctx n = { on := true }
      ∧ (s.tail n = next → t.ctxState n = 1))
  ∧ (∀ s : State, ∃ t : State, exec .tollPeriod s = .next (s.mirrorFrom t)
    ∧ t.now = s.now - s.now % 1600 + 1600
    ∧ (∀ n, s.tolled.Nodup → n ∈ s.tolled → s.get (SE_SC_TOLL.toll n) ≠ 0 →
        t.getS (SE_SC_BAL.v n) = min (s.getS (SE_SC_BAL.v n) + (s.get (SE_SC_TOLL.toll n) : Int))
          (s.get (SE_SC_TOLL.toll n) : Int)))
  ∧ (∀ (s : State) (n : Nat), s.get (SE_SC_TOLL.toll n) ≠ 0 → s.getS (SE_SC_BAL.v n) ≤ 0 → s.reader n = none)
  ∧ (∀ (s : State) (n : Nat) (w : StreamDesc) (d : Desc), n < 65536 →
    (s.get (SE_SC_TOLL.toll n) = 0 → (s.issueRead n w d).getS (SE_SC_BAL.v n) = s.getS (SE_SC_BAL.v n))
    ∧ (s.get (SE_SC_TOLL.toll n) ≠ 0 → -2 ^ 31 + 256 ≤ s.getS (SE_SC_BAL.v n) →
        (s.issueRead n w d).getS (SE_SC_BAL.v n)
          = s.getS (SE_SC_BAL.v n) - (min (256 - (d.src.toNat + w.asked) % 256) (d.len.toNat - w.asked) : Nat)))
  ∧ (∀ (s : State) (n : Nat) (v : Word), n < 65536 → s.ctxHeld n = false → (s.getS (SE_SC_BAL.v n)).natAbs < 2 ^ 30 →
    let t := s.writeToll n v
    t.get (SE_SC_TOLL.toll n) = bitsOf v 15 0 ∧ t.getS (SE_SC_BAL.v n)
      = s.getS (SE_SC_BAL.v n) + ((bitsOf v 15 0 : Nat) - (s.get (SE_SC_TOLL.toll n) : Int)))
  ∧ (∀ (s : State) (j : Fin 4096) (t0 : Nat), s.se.timers.get timerDefault j = some t0 →
    exec (.sluiceTimer j) s = .next (s.mirrorFrom
      ((s.elapse (t0 + 1600 * s.get (SLU_CFG.time_us j) - s.now)).releaseSluice j)))
  ∧ (∀ (s : State) (j : Fin 4096), ∃ u : State, u.se.timers.get timerDefault j = none ∧ u.get (SLU_STAT.timing j) = 0
    ∧ u.get (SLU_REL.v j) = min (s.get (SLU_REL.v j) + 1) (2 ^ 32 - 1)
    ∧ s.releaseSluice j = u.deliver (fnOf (s.get (SLU_TGT.pf j)) (s.get (SLU_TGT.vf j))) (s.get (SLU_TGT.vector j))
      (some j.val))
  ∧ (∀ (s : State) (j : Fin 4096) (v : Word),
    let u := s.write (SLU_CFG.off j) v
    u.get (SLU_CFG.count_max j) = max 1 (bitsOf v 31 16) ∧ u.get (SLU_CFG.time_us j) = max 1 (bitsOf v 15 0)
      ∧ (s.get (SLU_STAT.count j) = 0 → exec (.sluCfgWrite j v) s = .next (s.mirrorFrom u))
      ∧ (s.get (SLU_STAT.count j) ≠ 0 → s.is (SLU_STAT.held j) = false →
          bitsOf v 31 16 ≤ s.get (SLU_STAT.count j) →
          exec (.sluCfgWrite j v) s = .next (s.mirrorFrom (u.releaseSluice j)))
      ∧ (∀ t0, s.get (SLU_STAT.count j) ≠ 0 → s.is (SLU_STAT.held j) = false →
          s.se.timers.get timerDefault j = some t0 → 1600 * max 1 (bitsOf v 15 0) ≤ s.now - t0 →
          exec (.sluCfgWrite j v) s = .next (s.mirrorFrom (u.releaseSluice j))))
  ∧ (∀ (s : State) (j : Fin 4096) (v : Word),
    let u := s.write (SLU_TGT.off j) v
    u.get (SLU_TGT.vector j) = bitsOf v 10 0 ∧
    ∃ t, exec (.sluTgtWrite j v) s = .next (s.mirrorFrom t) ∧ s.SameRegs t [SLU_TGT.off j]
      ∧ (bitsOf v 10 0 < vectorsOf (fnOf (u.get (SLU_TGT.pf j)) (u.get (SLU_TGT.vf j))) → t = u)
      ∧ (vectorsOf (fnOf (u.get (SLU_TGT.pf j)) (u.get (SLU_TGT.vf j))) ≤ bitsOf v 10 0 →
          t.get (SLU_TGT.enable j) = 0))

/-- What a context does (R381, R383 to R388, R394): an issue slot issues its next read, of up to 256 bytes within a
block of the source and at the cost of its toll, or fetches a descriptor; an upset ends the context or the descriptor;
a fetched descriptor is checked; an answer's data goes to the destination or fails the descriptor; a fence makes
finished descriptors visible; a confirmed record moves the done position; a drained context ends. -/
def Obligations.ContextEngineCompletes : Prop :=
  (∀ (s : State) (b : Bool) (n : Nat), s.is SE_CTRL.enable = true →
    s.ctxsOn.filter (fun m => decide (m % 2 = b.toNat) && s.serves m) = [n] →
    ∃ u : State, u = { s with se := { s.se with last := u.se.last, credit := u.se.credit } }
      ∧ exec (.engineIssueSlot b (some true)) s = .next (s.mirrorFrom (u.entryLost n))
      ∧ exec (.engineIssueSlot b (some false)) s = .next (s.mirrorFrom (u.bufferLost n))
      ∧ (∀ w d, s.reader n = some w → w.desc = some d →
        exec (.engineIssueSlot b none) s = .next (s.mirrorFrom ((u.issueRead n w d).showCtx n)))
      ∧ (s.reader n = none →
        exec (.engineIssueSlot b none) s = .next (s.mirrorFrom ((u.issueFetch n).showCtx n))))
  ∧ (∀ (s : State) (n : Nat) (w : StreamDesc) (d : Desc), n < 65536 → (s.ctx n).work = [w] → w.asked < d.len.toNat →
    let size := min (256 - (d.src.toNat + w.asked) % 256) (d.len.toNat - w.asked)
    let t := s.issueRead n w d
    (t.ctx n).work = [{ w with asked := w.asked + size, reads := w.reads ++ [(w.asked, size)] }]
      ∧ (s.get (SE_SC_QUOTA.outstanding n) < 1024 →
          t.get (SE_SC_QUOTA.outstanding n) = s.get (SE_SC_QUOTA.outstanding n) + 1))
  ∧ (∀ (s : State) (b : BitVec 16) (w : StreamDesc) (status : BitVec 4) (d : Desc),
    let n := b.toNat
    (s.ctx n).work = [w] → w.desc = none → w.reads ≠ [] →
    let u := s.setCtx n { s.ctx n with work := [{ w with desc := some d, reads := [] }] }
    let r := s.setCtx n { s.ctx n with work := [{ w with reads := [] }] }
    (status = 0 → exec (.descriptorFetched b status d) s
        = .next (s.mirrorFrom (if u.descFits n d then u.showCtx n else u.failDesc n w.pos 4 0)))
    ∧ (status ≠ 0 → exec (.descriptorFetched b status d) s
        = .next (s.mirrorFrom (if isHost (s.dring n) then r.showCtx n else r.failDesc n w.pos 5 status.toNat)))
    ∧ (isHost (s.dring n) = true → exec (.pcieCompletionTimeout b (BitVec.ofNat 16 w.pos)) s = .next (s.mirrorFrom
        (if w.pos < 65536 then ((s.raise pagePCI0 7 CONTAINED 0x0C17 n w.pos).setCtx n
          { s.ctx n with work := [{ w with reads := [] }] }).showCtx n else s))))
  ∧ (∀ (s : State) (b : BitVec 16) (w : StreamDesc) (d : Desc) (at_ : Nat × Nat) (status : BitVec 4) (bs : List Byte),
    let n := b.toNat
    (s.ctx n).work = [w] → w.desc = some d → w.reads = [at_] → w.pos < 65536 → w.fail = none →
    (s.ctx n).stopped = false → (s.ctx n).ringErr = none →
    let u := s.outBy n (-1)
    (status = 0 → bs.length = at_.2 →
      exec (.streamReadResponse b (BitVec.ofNat 16 w.pos) status bs) s
        = .next (s.mirrorFrom (((u.setCtx n { s.ctx n with work := [{ w with
            reads := [], got := w.got + at_.2, fencing := decide (w.got + at_.2 = d.len.toNat) }] }).writeOut n
            (d.dst.toNat + at_.1) bs).showCtx n)))
    ∧ (status ≠ 0 → exec (.streamReadResponse b (BitVec.ofNat 16 w.pos) status bs) s
        = .next (s.mirrorFrom (((u.setCtx n { s.ctx n with work := [{ w with reads := [] }] }).failDesc n w.pos
            (if s.srcHost n then 3 else 1) status.toNat).showCtx n)))
    ∧ (s.srcHost n = true → exec (.pcieCompletionTimeout b (BitVec.ofNat 16 w.pos)) s = .next (s.mirrorFrom
        (((s.raise pagePCI0 7 CONTAINED 0x0C17 n w.pos).readAnswer n w d at_ 1 []).showCtx n))))
  ∧ (∀ (s : State) (b : BitVec 16) (w : StreamDesc) (status : BitVec 4),
    let n := b.toNat
    (s.ctx n).work = [w] → w.fencing = true → w.visible = false →
    (status = 0 → exec (.streamFenceComplete b status) s = .next (s.mirrorFrom ((s.setCtx n { s.ctx n with
        work := [{ w with fencing := false, visible := true }] }).progress n)))
    ∧ (status ≠ 0 → exec (.streamFenceComplete b status) s = .next (s.mirrorFrom (((s.setCtx n { s.ctx n with
        work := [{ w with fencing := false }] }).failDesc n w.pos (if s.dstHost n then 3 else 2)
          status.toNat).progress n))))
  ∧ (∀ (s : State) (b : BitVec 16) (r : StreamRec) (rs : List StreamRec) (status : BitVec 4),
    let n := b.toNat
    (s.ctx n).recs = r :: rs → r.written = true →
    (status = 0 → exec (.recordConfirmed b status) s = .next (s.mirrorFrom
        ((((s.setCtx n { s.ctx n with recs := rs }).stepDone n r).countRecord n r).progress n)))
    ∧ (status ≠ 0 → isHost (s.cring n) = false → ∃ t : State, t.ctxState n = 4 ∧ (t.ctx n).recs = []
        ∧ (t.ctx n).ringErr = some (r.pos, status.toNat)
        ∧ exec (.recordConfirmed b status) s = .next (s.mirrorFrom t)))
  ∧ (∀ (s : State) (n : Nat) (r : StreamRec), r.pos = s.done n → s.get (SE_SC_DRING_HI.size n) ≤ 16 → n < 65536 →
    let t := s.stepDone n r
    t.done n = (r.pos + 1) % s.ringLen n
      ∧ t.getWide (SE_SC_BYTES.off n 0) 2 = (s.getWide (SE_SC_BYTES.off n 0) 2 + r.bytes) % 2 ^ 64
      ∧ ((r.pos + 1) % s.ringLen n ≠ 0 → t.get (SE_SC_STAT.phase n) = s.get (SE_SC_STAT.phase n))
      ∧ ((r.pos + 1) % s.ringLen n = 0 → t.get (SE_SC_STAT.phase n) = 1 - s.get (SE_SC_STAT.phase n)))
  ∧ (∀ (s : State) (b : BitVec 16) (w : StreamDesc) (d : Desc),
    let n := b.toNat
    s.fenced = false → s.ctxState n = 4 → (s.ctx n).work = [w] → w.desc = some d → w.reads = [] → w.fencing = false →
    w.visible = false → w.fail = none → (s.ctx n).ringErr = none → (s.ctx n).stopped = true →
    (s.ctx n).disabling = false → (s.ctx n).recs = [] → s.mirrors = false →
    ∃ u : State, u.ctxState n = 5 ∧ u.word (SE_SC_ERR.off n) = BitVec.ofNat 32 (errWord w.pos 0 7)
      ∧ (u.ctx n).work = [] ∧ (u.ctx n).recs.map (fun r => (r.pos, r.status, r.cookie)) = [(w.pos, 7, d.cookie)]
      ∧ exec (.contextDrained b) s = .next (s.mirrorFrom (u.pushRecords n)))

/-! ### Control complex and interrupts -/

/-- The cores (R401 to R403, R413 to R416): run starts a core at its reset vector and clearing it resets the core; a
fence goes on, and a status other than OK is a bus error; a fast trap saves the pc and the privilege and goes to its
vector, MRET returns from it, from a nested trap or from an ordinary one; WFI sleeps, and the wake condition ends the
sleep. -/
def Obligations.CoreCommandsComplete : Prop :=
  (∀ (s : State) (c : Fin 8) (v : Word),
    (s.is (CC_CORE_CTRL.run c) = false → bit v 0 = true → s.domOpen (0x120 + c) = true →
      ∃ t, exec (.coreRun c v) s = .next t ∧ t.get (CC_CORE_CTRL.run c) = 1 ∧ s.SameRegs t [CC_CORE_CTRL.off c]
        ∧ t.core c = { running := true, pc := BitVec.ofNat 64 (s.getWide (CC_RESET_VEC.off c 0) 2),
                       wake := if (s.core c).stopped then 3 else 0 }
        ∧ (∀ k : Nat, k ≠ c → t.core k = s.core k) ∧ t = { s with regs := t.regs, cc := t.cc })
    ∧ (s.is (CC_CORE_CTRL.run c) = true → bit v 0 = false →
      ∃ t, exec (.coreStop c v) s = .next t ∧ t.get (CC_CORE_CTRL.run c) = 0 ∧ s.SameRegs t [CC_CORE_CTRL.off c]
        ∧ t.core c = { stopped := true } ∧ (∀ k : Nat, k ≠ c → t.core k = s.core k)
        ∧ t = { s with regs := t.regs, cc := t.cc }))
  ∧ (∀ (s : State) (c : Nat), (State.reset.core c).running = false ∧ (s.coldReset.core c).running = false
      ∧ (s.warmReset.core c).running = false)
  ∧ (∀ (s : State) (c : Fin 8) (out : Bool) (status : BitVec 4), (s.core c).running = true → (s.core c).sleep = 0 →
    let u := s.setCore c { s.core c with pc := (s.core c).pc + 4 }
    ((out = false ∨ status = 0) → exec (.fenceInstruction c out status) s = .next u)
    ∧ (out = true → status ≠ 0 → ∃ a t, exec (.fenceInstruction c out status) s = .next t
        ∧ t = { u with freeCount := s.freeCount + 1 }.busError c a status.toNat ∧ a < 2 ^ 56
        ∧ (t.core c).busErr17 = true ∧ (t.core c).busErr.toNat / 2 ^ 56 = status.toNat
        ∧ (t.core c).pc = (s.core c).pc + 4))
  ∧ (∀ (s : State) (c : Fin 8), (s.core c).running = true → (s.core c).sleep = 0 →
    (s.causePending c 16 = true → (s.core c).fastEn = true → (s.core c).mie.getLsbD 16 = true → (s.core c).active = false →
      exec (.fastTrap c) s = .next (s.setCore c { s.core c with
        fepc := (s.core c).pc, fastPrv := (s.core c).priv, active := true, priv := 3, pc := (s.core c).ftvec }))
    ∧ ((s.core c).priv = 3 → (s.core c).active = true → (s.core c).nested = false →
      exec (.mret c) s = .next (s.setCore c { s.core c with
        pc := (s.core c).fepc, priv := (s.core c).fastPrv, active := false }))
    ∧ ((s.core c).priv = 3 → ((s.core c).active = false ∨ (s.core c).nested = true) →
      exec (.mret c) s = .next (s.setCore c { s.core c with
        pc := (s.core c).mepc, priv := BitVec.ofNat 2 ((s.core c).mstatus.toNat / 2 ^ 11),
        mstatus := mretStatus (s.core c).mstatus, nested := false }))
    ∧ ((s.core c).priv ≠ 3 → ∃ t, exec (.mret c) s = .next t ∧ (t.core c).mepc = (s.core c).pc ∧ (t.core c).mcause = 2
      ∧ (t.core c).priv = 3 ∧ (t.core c).pc = (s.core c).mtvec &&& ~~~3)
    ∧ ((s.core c).deep = false →
      exec (.wfi c) s = .next (s.setCore c { s.core c with pc := (s.core c).pc + 4, sleep := 1 }))
    ∧ ((s.core c).deep = true → exec (.wfi c) s = .next (((s.setCore c { s.core c with
        pc := (s.core c).pc + 4, sleep := 2 }).setDom (0x120 + c) 1).coreClosing c)))
  ∧ (∀ (s : State) (c : Fin 8), (s.core c).sleep = 1 → s.wakeNative c = true →
    exec (.coreWake c) s = .next (s.setCore c { s.core c with sleep := 0 }))
  ∧ (∀ (s : State) (c : Fin 8), (s.core c).sleep = 2 →
    (s.get (PWR_DOM.state (0x120 + c)) = 0 ∨ s.get (PWR_DOM.state (0x120 + c)) = 2) →
    (s.cc.retained.get retainedDefault c = none → s.wakeNative c = true → ∃ t, exec (.coreWake c) s = .next t
      ∧ (t.core c).running = true ∧ (t.core c).sleep = 0 ∧ (t.core c).wake = 1
      ∧ t.get (PWR_DOM.state (0x120 + c)) = 0
      ∧ (t.core c).pc = BitVec.ofNat 64 (s.getWide (CC_WAKE_VEC.off c 0) 2))
    ∧ (∀ r, s.cc.retained.get retainedDefault c = some r → s.wakeCompat c = true → ∃ t, exec (.coreWake c) s = .next t
      ∧ (t.core c).running = true ∧ (t.core c).wake = 2 ∧ t.word (IC_CORE_CFG.off c) = r.cfg
      ∧ t.cc.retained.get retainedDefault c = none
      ∧ (t.core c).pc = BitVec.ofNat 64 (s.getWide (CC_WAKE_VEC.off c 0) 2)))
  ∧ (∀ (s : State) (c : Fin 8), s.getWide (CC_MTIMECMP.off c 0) 2 ≠ 2 ^ 64 - 1 →
    exec (.machineTimer c) s = .next (s.reachSched (s.getWide (CC_MTIMECMP.off c 0) 2)))

/-- The L2 array (R405, R406): memory takes ways from the cache, whose dirty lines are written back, or gives them up
with their content; a maintenance operation is busy until it ends, with its lines clean or gone. -/
def Obligations.L2CommandsComplete : Prop :=
  (∀ (s : State) (v : Word),
    let u := s.write CC_L2_PART.off v
    let new := min (bitsOf v 4 0) 16
    u.get CC_L2_PART.mem_ways = new
      ∧ (new ≤ s.get CC_L2_PART.mem_ways → exec (.l2PartitionWrite v) s = .next { u with cc := { s.cc with
          l2 := s.cc.l2.eraseRange (new * 2 ^ 18) (s.get CC_L2_PART.mem_ways * 2 ^ 18) } })
      ∧ (s.get CC_L2_PART.mem_ways < new → (∀ e ∈ s.cc.l2cache, e.2.dirty = false) →
          ∃ t, exec (.l2PartitionWrite v) s = .next t ∧ t.regs = u.regs ∧ t.noc = s.noc
            ∧ (∀ e, e ∈ t.cc.l2cache ↔
                e ∈ s.cc.l2cache ∧ ¬(s.get CC_L2_PART.mem_ways ≤ e.2.way ∧ e.2.way < new))
            ∧ t.cc.l2 = s.cc.l2.eraseRange (s.get CC_L2_PART.mem_ways * 2 ^ 18) (new * 2 ^ 18)))
  ∧ (∀ (s : State) (v : Word), s.is CC_L2_MAINT2.busy = false → bit v 31 = true →
    let u := (s.write CC_L2_MAINT2.off v).put CC_L2_MAINT2.busy 1
    (u.get CC_L2_MAINT2.op = 1 → exec (.l2Maint v) s = .next u)
    ∧ (u.get CC_L2_MAINT2.op ≠ 1 → exec (.l2Maint v) s = .next (u.each (s.cc.l2cache.filter fun e =>
        decide (u.maintRange.1 ≤ e.1) && decide (e.1 < u.maintRange.2) && e.2.dirty)
          fun s e => s.l2WriteBack (64 * e.1) e.2.data)))
  ∧ (∀ s : State, s.is CC_L2_MAINT2.busy = true → ∃ t, exec .l2MaintComplete s = .next t
    ∧ t.get CC_L2_MAINT2.busy = 0 ∧ s.SameRegs t [CC_L2_MAINT2.off]
    ∧ (s.get CC_L2_MAINT2.op ≠ 0 → ∀ e, e ∈ t.cc.l2cache ↔
        e ∈ s.cc.l2cache ∧ ¬(s.maintRange.1 ≤ e.1 ∧ e.1 < s.maintRange.2))
    ∧ (s.get CC_L2_MAINT2.op = 0 → ∀ e ∈ t.cc.l2cache,
        s.maintRange.1 ≤ e.1 → e.1 < s.maintRange.2 → e.2.dirty = false))

/-- Interrupt sources (R407 to R412): an edge is counted and, in edge mode, pends; an asserted level pends where it is
not in service; a claim takes the lowest deliverable source of its class, or answers 1023; a completion ends the
service of the claiming core alone; a write of pending bits loses no hardware set and no asserted level. -/
def Obligations.InterruptCommandsComplete : Prop :=
  (∀ (s : State) (n : Fin 1024), sourceReserved n = false → (n.val < 536 ∨ 792 ≤ n.val) →
    ∃ t, exec (.sourceEdge n) s = .next t ∧ t.get (IC_SRC_CFG.count n) = min (s.get (IC_SRC_CFG.count n) + 1) 255
      ∧ (s.is (IC_SRC_CFG.mode n) = false → t.get (sourceBit IC_PEND.v n) = 1)
      ∧ (s.is (IC_SRC_CFG.mode n) = true → t.get (sourceBit IC_PEND.v n) = s.get (sourceBit IC_PEND.v n))
      ∧ s.SameRegs t [IC_SRC_CFG.off n, (sourceBit IC_PEND.v n).off] ∧ t = { s with regs := t.regs })
  ∧ (∀ (s : State) (n : Fin 1024), 536 ≤ n.val → n.val < 792 →
    (s.domOpen (regionDom (s.firqRegion (n.val - 536))) = true →
      exec (.sourceEdge n) s = .next ((s.setSourceLine n true).sourceRise n))
    ∧ (s.domOpen (regionDom (s.firqRegion (n.val - 536))) = false → exec (.sourceEdge n) s = .next s))
  ∧ (∀ (s : State) (n : Fin 1024) (b : Bool),
    let u := s.setSourceLine n b
    ∃ t, exec (.sourceLevel n b) s = .next t
      ∧ (u.sourceLevel n = true → s.is (IC_SRC_CFG.mode n) = true → s.is (sourceBit IC_INSV.v n) = false →
          t.get (sourceBit IC_PEND.v n) = 1)
      ∧ (u.sourceLevel n = false ∨ s.is (IC_SRC_CFG.mode n) = false ∨ s.is (sourceBit IC_INSV.v n) = true → t = u))
  ∧ (∀ (s : State) (v : Word), ∃ t, exec (.swi v) s = .next t ∧ t = { s with regs := t.regs }
      ∧ (∀ n < 16, bit v n = true → s.is (IC_SRC_CFG.mode n) = false → t.get (sourceBit IC_PEND.v n) = 1)
      ∧ (∀ n < 16, bit v n = true → t.get (IC_SRC_CFG.count n) = min (s.get (IC_SRC_CFG.count n) + 1) 255)
      ∧ (∀ n < 1024, (16 ≤ n ∨ bit v n = false) →
          t.get (sourceBit IC_PEND.v n) = s.get (sourceBit IC_PEND.v n)
          ∧ t.get (IC_SRC_CFG.count n) = s.get (IC_SRC_CFG.count n)))
  ∧ (∀ (s : State) (c : Fin 8) (fast : Bool),
    let row := if fast then Instr.claimFast c else .claimNormal c
    let r := if fast then IC_CLAIM_F.off c else IC_CLAIM_N.off c
    (s.lowestFor c fast = none → exec row s = .next ((s.setWord r 1023).answerWord 1023))
    ∧ (∀ n, s.lowestFor c fast = some n → ∃ t, exec row s = .next t
        ∧ t.answer = toBytes (n + s.get (IC_SRC_CFG.count n) * 2 ^ 24) 4
        ∧ t.get (sourceBit IC_PEND.v n) = 0 ∧ t.get (sourceBit IC_INSV.v n) = 1 ∧ t.get (IC_SRC_CFG.count n) = 0
        ∧ t.cc.owner.get ownerDefault n = c + 1
        ∧ s.SameRegs t [(sourceBit IC_PEND.v n).off, (sourceBit IC_INSV.v n).off, IC_SRC_CFG.off n, r]
        ∧ t = { s with regs := t.regs, cc := t.cc, answer := t.answer }))
  ∧ (∀ (s : State) (c : Fin 8) (v : Word), bitsOf v 9 0 ≠ 1023 →
    let n := bitsOf v 9 0
    (s.is (sourceBit IC_INSV.v n) = true → s.cc.owner.get ownerDefault n = c + 1 →
      exec (.icComplete c v) s = .next (s.completeSource n) ∧ (s.completeSource n).get (sourceBit IC_INSV.v n) = 0
        ∧ (s.completeSource n).is (sourceBit IC_PEND.v n)
          = (s.is (sourceBit IC_PEND.v n) || s.is (IC_SRC_CFG.mode n) && s.sourceLevel n))
    ∧ (s.is (sourceBit IC_INSV.v n) = false ∨ s.cc.owner.get ownerDefault n ≠ c + 1 →
      exec (.icComplete c v) s = .next ((s.count (IC_CMPL_BAD.v c)).raise (pageICC c) 0 INFO 0x0D02 c n)))
  ∧ (∀ (s : State) (c : Fin 8) (v : Word), bitsOf v 9 0 = 1023 → exec (.icComplete c v) s = .next s)
  ∧ (∀ (s : State) (c n : Nat) (fast : Bool), s.is (sourceBit IC_INSV.v n) = true → s.lowestFor c fast ≠ some n)
  ∧ (∀ (s : State) (r : Fin 32) (v hw : Word), ∃ t, exec (.pendWrite r v hw) s = .next t
      ∧ s.SameRegs t [(IC_PEND.v r).off] ∧ t = { s with regs := t.regs }
      ∧ (∀ b < 32, let n := 32 * r.val + b
          t.is (sourceBit IC_PEND.v n) = (!sourceReserved n && (bit v b || bit hw b
            || (s.is (IC_SRC_CFG.mode n) && s.sourceLevel n && !s.is (sourceBit IC_INSV.v n))))))

/-! ### Task scheduler -/

/-- What commands make of a task (R417 to R421): START, SUSPEND and DELETE act in the states that allow them and are
refused elsewhere; TS_DONE ends a run by its action; a table write keeps the state; a post joins the queue and is ORed
into the flags; a tick readies the tasks whose wake has come. -/
def Obligations.TaskCommandsComplete : Prop :=
  (∀ (s : State) (v : Word),
    let t := bitsOf v 11 0
    let done (u : State) : Host.Outcome State Fault Refusal := .next (s.mirrorFrom (u.put TS_CMD_RES.v 1))
    let bad : Host.Outcome State Fault Refusal :=
      .next (s.mirrorFrom ((s.put TS_CMD_RES.v 3).raise pageTS0 2 INFO 0x0D05 t 0))
    (bitsOf v 31 28 = 1 →
      ((s.get (taskState t) = 0 ∨ s.get (taskState t) = 5) → s.get (taskTarget t) ≤ 71 →
        (s.get (taskMask t) ≠ 0 → exec (.taskStart v) s = done (s.put (taskState t) 1))
        ∧ (s.get (taskMask t) = 0 → s.is (taskTimed t) = true → exec (.taskStart v) s = done (s.put (taskState t) 2))
        ∧ (s.get (taskMask t) = 0 → s.is (taskTimed t) = false → exec (.taskStart v) s = done (s.makeReady t 0)))
      ∧ ((s.get (taskState t) ≠ 0 ∧ s.get (taskState t) ≠ 5 ∨ 71 < s.get (taskTarget t)) →
        exec (.taskStart v) s = bad))
    ∧ (bitsOf v 31 28 = 2 →
      (s.get (taskState t) = 3 → exec (.taskSuspend v) s = done ((s.unready t).put (taskState t) 5))
      ∧ ((s.get (taskState t) = 1 ∨ s.get (taskState t) = 2) →
          exec (.taskSuspend v) s = done (s.put (taskState t) 5))
      ∧ (s.get (taskState t) = 4 → t ∉ s.ts.suspend →
          exec (.taskSuspend v) s = done { s with ts := { s.ts with suspend := t :: s.ts.suspend } })
      ∧ ((s.get (taskState t) = 0 ∨ s.get (taskState t) = 5) → exec (.taskSuspend v) s = bad))
    ∧ (bitsOf v 31 28 = 3 →
      (s.get (taskState t) = 5 → exec (.taskDelete v) s = done (s.put (taskState t) 0))
      ∧ (s.get (taskState t) ≠ 5 → exec (.taskDelete v) s = bad)))
  ∧ (∀ (s : State) (v : Word),
    let t := bitsOf v 11 0
    let u := s.stopRunning t
    (s.get (taskState t) = 4 → t ∉ s.ts.suspend →
      (bitsOf v 31 28 = 0 → exec (.taskWait v) s = .next (s.mirrorFrom
        (if u.taskHolds t then u.readyByFlags t else u.put (taskState t) 1)))
      ∧ (bitsOf v 31 28 = 1 → exec (.taskDelay v) s = .next (s.mirrorFrom (u.put (taskState t) 2)))
      ∧ (bitsOf v 31 28 = 2 → exec (.taskYield v) s = .next (s.mirrorFrom (u.makeReady t 3)))
      ∧ (bitsOf v 31 28 = 3 → exec (.taskExit v) s = .next (s.mirrorFrom (u.put (taskState t) 0))))
    ∧ (∀ c, c = Instr.taskWait v ∨ c = .taskDelay v ∨ c = .taskYield v ∨ c = .taskExit v →
      (s.get (taskState t) = 4 → t ∈ s.ts.suspend → ∃ w : State, w.get (taskState t) = 5
        ∧ w.ts.suspend = s.ts.suspend.erase t ∧ exec c s = .next (s.mirrorFrom w))
      ∧ (s.get (taskState t) ≠ 4 → exec c s = .next (s.mirrorFrom
          ((s.count TS_BAD_DONE.v).raise pageTS0 2 INFO 0x0D05 t 0)))))
  ∧ (∀ (s : State) (t why : Nat), t < 4096 → why < 4 →
    let u := s.makeReady t why
    let g := s.get (taskTarget t)
    u.get (taskState t) = 3 ∧ u.get (taskReason t) = why
      ∧ u.readyList g = (s.readyList g).takeWhile (fun k => s.get (taskPrio k) ≤ s.get (taskPrio t)) ++ t ::
          (s.readyList g).dropWhile (fun k => s.get (taskPrio k) ≤ s.get (taskPrio t)))
  ∧ (∀ (s : State) (g t : Nat), g ≤ 71 → t < 4096 → (s.dispatch g t).get (taskState t) = 4)
  ∧ (∀ (s : State) (t : Fin 4096) (w : Fin 8) (v : Word), s.standby = false →
    let idle := s.get (taskState t) = 0 ∨ s.get (taskState t) = 5
    (idle → w.val ≠ 3 → ∃ u, u = (if w.val = 0 then s.setWord (TS_TASK.off t 0)
          (setBits (setBits v 31 28 (s.get (taskState t))) 12 0 0) else s.setWord (TS_TASK.off t w) v)
        ∧ u.get (taskState t) = s.get (taskState t) ∧ exec (.taskTableWrite t w v) s = .next (s.mirrorFrom u))
    ∧ ((w.val = 3 ∨ ¬idle ∧ (s.get (taskState t) ≠ 4 ∨ w.val = 0 ∨ w.val = 2)) →
        exec (.taskTableWrite t w v) s = .next (s.mirrorFrom (s.count TS_WR_REFUSED.v))))
  ∧ (∀ (s : State) (t : Fin 4096) (v : Word), s.ts.posts.length < 512 →
    exec (.taskPostWrite t v) s = .next (({ s with ts := { s.ts with posts := s.ts.posts ++ [(t.val, v)] } }).put
      TS_QUEUE.v (s.ts.posts.length + 1)))
  ∧ (∀ (s : State) (t : Nat) (v : Word) (rest : List (Nat × Word)), s.ts.posts = (t, v) :: rest → t < 4096 →
    let u := ({ s with ts := { s.ts with posts := rest } }).put TS_QUEUE.v rest.length
    let w := u.setWord (taskFlags t).off (s.word (taskFlags t).off ||| v)
    (s.get (taskState t) = 0 → exec .taskPostApply s = .next (s.mirrorFrom (u.count TS_POST_DROP.v)))
    ∧ (s.get (taskState t) = 1 → w.taskHolds t = true → exec .taskPostApply s = .next (s.mirrorFrom (w.readyByFlags t)))
    ∧ (s.get (taskState t) ≠ 0 → (s.get (taskState t) ≠ 1 ∨ w.taskHolds t = false) →
        exec .taskPostApply s = .next (s.mirrorFrom w)))
  ∧ (∀ s : State, ∃ t : State, exec .schedulerTick s = .next (s.mirrorFrom t) ∧ t.ts.lastTick = s.tickTime
      ∧ t.ts.stepped = none
      ∧ (∀ n < 4096, (s.get (taskState n) = 2 ∨ s.get (taskState n) = 1 ∧ s.is (taskTimed n) = true) →
          s.taskWake n ≤ s.tickTime → t.get (taskState n) = 3 ∧ t.get (taskReason n) = 2)
      ∧ (∀ n < 4096, s.tickTime < s.taskWake n → t.get (taskState n) = s.get (taskState n)))

/-- Dispatch and its statistics (R422 to R425): TS_NEXT gives an idle core the head of its list, and 0 with none; a
slot's dispatch writes the record to its quay, and a dropped one returns its task; the load of a window; the clearing.
-/
def Obligations.DispatchCommandsComplete : Prop :=
  (∀ (s : State) (c : Fin 8) (t : Nat) (rest : List Nat), s.standby = false → s.readyList c = t :: rest →
    s.runningOn c = [] →
    let w := BitVec.ofNat 32 (2 ^ 31 + s.get (taskPrio t) * 2 ^ 23 + s.get (taskReason t) * 2 ^ 12 + t)
    exec (.tsNext c) s = .next (s.mirrorFrom (((s.dispatch c t).setWord (TS_NEXT.off c) w).answerWord w))
      ∧ (t < 4096 → s.get (taskTarget t) = c → (s.dispatch c t).get (taskState t) = 4
          ∧ (s.dispatch c t).readyList c = rest ∧ (s.dispatch c t).runningOn c = [t]))
  ∧ (∀ (s : State) (c : Fin 8), s.readyList c = [] ∨ s.runningOn c ≠ [] ∨ s.standby = true →
    exec (.tsNext c) s = .next (s.mirrorFrom ((s.setWord (TS_NEXT.off c) 0).answerWord 0)))
  ∧ (∀ (s : State) (k : Fin 64) (t : Nat) (rest : List Nat), s.readyList (slotTarget k) = t :: rest →
    let a := s.getWide (TS_SLOT_ADDR.off k 0) 2 % 2 ^ 56
    s.standby = false → s.is (TS_SLOT_CFG.en k) = true → a / 2 ^ 52 = 2 → s.slotHeld k = false →
    (s.runningOn (slotTarget k)).length < s.get (TS_SLOT_CFG.depth k) →
    exec (.slotDispatch k false) s = .next (s.mirrorFrom ((s.dispatch (slotTarget k) t).issue .ts
      (writeReq .wrp a (s.slotRecord t) 1 (BitVec.ofNat 12 t))))
    ∧ ∃ u : State, u.ts = (s.dispatch (slotTarget k) t).ts
        ∧ exec (.slotDispatch k true) s = .next (s.mirrorFrom (u.dispatchDropped t a)))
  ∧ (∀ (s : State) (t : Nat), t < 4096 → s.get (taskState t) = 4 →
    let g := s.get (taskTarget t)
    let u := s.returnOne t
    u.get (taskState t) = 3 ∧ u.runningOn g = (s.runningOn g).erase t
      ∧ u.readyList g = (s.readyList g).takeWhile (fun k => s.get (taskPrio k) < s.get (taskPrio t)) ++ t ::
          (s.readyList g).dropWhile (fun k => s.get (taskPrio k) < s.get (taskPrio t)))
  ∧ (∀ s : State,
    let w := s.get TS_WIN.v * 1000000
    let u := s.reachSched (s.ts.winStart + w)
    ∃ t, exec .loadWindowEnd s = .next t ∧ t.ts = { s.ts with winStart := u.schedTime, busy := [] }
      ∧ (∀ g < 72, s.runningOn g = [] → t.get (TS_LOAD.insuff g) = 0
          ∧ t.get (TS_LOAD.load g) = min (s.ts.busy.get natDefault g * 65536 / w) 65535))
  ∧ (∀ (s : State) (v : Word), bit v 31 = true → ∃ t, exec (.statClear v) s = .next t
      ∧ t.ts = { s.ts with winStart := s.schedTime, busy := [] }
      ∧ (∀ g < 72, t.get (TS_LOAD.load g) = 0 ∧ t.get (TS_LOAD.insuff g) = 1)
      ∧ (∀ g < 72, ∀ b < 8, t.get (TS_HIST.v g b) = 0))

/-! ### User serial lanes -/

/-- PLLs, configurations, power states and lock of the lanes (R431, R432, R434, R436 to R440, R446, R452 to R454): a
setting within the limits is loaded and locks; a configuration is applied whole or refused; a power state is reached;
a receiver locks, loses lock and counts its errors; a buffer error is recentred and waits for the grid. -/
def Obligations.LaneReceiverCommandsComplete : Prop :=
  (∀ (s : State) (q : Fin 12) (b : Bool) (ref : Nat) (v : Word), bit v 30 = true →
    let u := s.write (XCV_QP_CFG.off q b.toNat) v
    let f := u.word (XCV_QP_FRAC.off q b.toNat)
    (bit v 31 = false → exec (.qpllApply q b ref v) s
        = .next ((u.setQpll q b.toNat none).put (qpllLocked q b.toNat) 0))
    ∧ (bit v 31 = true → qpllFits q ref v f = true → exec (.qpllApply q b ref v) s
        = .next ((u.setQpll q b.toNat (some (ref, v, f))).put (qpllLocked q b.toNat) 0))
    ∧ (bit v 31 = true → qpllFits q ref v f = false → exec (.qpllApply q b ref v) s
        = .next (u.put (XCV_Q_STAT.range_err q) 1)))
  ∧ (∀ (s : State) (q : Fin 12) (b : Bool),
    (s.qpll q b.toNat ≠ none → s.qpllUsed q b.toNat = true →
      exec (.qpllLock q b) s = .next (s.put (qpllLocked q b.toNat) 1))
    ∧ (s.is (qpllLocked q b.toNat) = true → exec (.qpllLockLost q b) s = .next (((s.put (qpllLocked q b.toNat) 0).count
        (XCV_Q_STAT.losses q)).raise (pageXCV q) (28 + b.toNat) CONTAINED 0x0E0D q b.toNat)))
  ∧ (∀ (s : State) (l : Fin 48) (v : Word) (c : Instr), c = .laneCfgWrite l v ∨ c = .pstateRequest l v →
    let w := if bitsOf v 31 30 = 3 then setBits v 31 30 2 else v
    (s.laneFits l w = false → exec c s = .next (s.put (XCV_LN_STAT.cfg_err l) 1))
    ∧ (s.laneFits l w = true → ∃ t, exec c s = .next t
        ∧ t.word (XCV_LN_CFG.off l) = (s.write (XCV_LN_CFG.off l) w).word (XCV_LN_CFG.off l)
        ∧ (s.leaderOf l = none → t.get (XCV_LN_STAT.cfg_err l) = 0)
        ∧ (s.leaderOf l = none → s.domOpen (0x100 + l / 4) = true → (s.lane l).dest = none →
            bitsOf w 31 30 ≠ s.get (XCV_LN_STAT.pstate l) → (t.lane l).dest = some (bitsOf w 31 30))
        ∧ (s.leaderOf l = none → s.domOpen (0x100 + l / 4) = true → (s.lane l).dest ≠ none →
            (t.lane l).want = some (bitsOf w 31 30) ∧ (t.lane l).dest = (s.lane l).dest)))
  ∧ (∀ (s : State) (l : Fin 48) (d : Nat), (s.lane l).dest = some d → d < 3 → s.leaderOf l = none →
    ∃ t, exec (.pstateTransitionComplete l) s = .next t ∧ t.get (XCV_LN_STAT.pstate l) = d
      ∧ (d ≠ 0 → t.get (XCV_LN_STAT.locked l) = 0) ∧ (t.lane l).want = none
      ∧ ((s.lane l).want = none ∨ (s.lane l).want = some d → (t.lane l).dest = none)
      ∧ (∀ e, (s.lane l).want = some e → e ≠ d → (t.lane l).dest = some e))
  ∧ (∀ (s : State) (l : Fin 48) (p : Fin 66), s.receives l = true → s.is (XCV_LN_STAT.locked l) = false →
    (s.get (XCV_LN_CFG.coding l) = 2 ∨ s.get (XCV_LN_CFG.coding l) = 3 ∧ s.is (XCV_LN_STAT.fec_locked l) = true) →
    exec (.blockLock l p) s = .next ((s.put (XCV_LN_STAT.slip l) p).gainLock l))
  ∧ (∀ (s : State) (l : Fin 48), (s.gainLock l).get (XCV_LN_STAT.locked l) = 1
      ∧ (s.gainLock l).get (XCV_LN_STAT.ebuf_err l) = 0
      ∧ ((s.gainLock l).lane l).rxWait = s.is (XCV_LN_CFG.dl l) ∧ (s.loseLock l).get (XCV_LN_STAT.locked l) = 0)
  ∧ (∀ (s : State) (l : Fin 48), s.is (XCV_LN_STAT.locked l) = true → s.get (XCV_LN_CFG.coding l) ≠ 0 →
    exec (.lockLoss l) s = .next ((s.add (XCV_LN_HDRERR.v l) 16).loseLock l))
  ∧ (∀ (s : State) (l : Fin 48) (p : Fin 10), s.receives l = true → s.get (XCV_LN_CFG.coding l) = 1 →
    (s.is (XCV_LN_STAT.locked l) = false → exec (.commaAlign l p) s
        = .next ((s.setLane l { s.lane l with commaAt := some p.val }).gainLock l))
    ∧ (s.is (XCV_LN_STAT.locked l) = true → s.is (XCV_LN_CFG.comma_cont l) = true → exec (.commaAlign l p) s
        = .next (s.setLane l { s.lane l with commaAt := some p.val })))
  ∧ (∀ (s : State) (l : Fin 48) (n : Nat), s.receives l = true → s.get (XCV_LN_CFG.coding l) = 3 →
    (n ≤ 15 → ∃ t, exec (.fecCodeword l n) s = .next t ∧ (t.lane l).fecGood = min 3 ((s.lane l).fecGood + 1)
      ∧ (t.lane l).fecBad = 0
      ∧ (2 ≤ (s.lane l).fecGood → t.get (XCV_LN_STAT.fec_locked l) = 1)
      ∧ (s.is (XCV_LN_STAT.fec_locked l) = true → s.is (XCV_LN_CFG.fec_bypass l) = false →
          t.get (XCV_LN_FEC_CORR.v l) = min (s.get (XCV_LN_FEC_CORR.v l) + n) (2 ^ 32 - 1)))
    ∧ (15 < n → s.is (XCV_LN_STAT.fec_locked l) = true → ∃ t, exec (.fecCodeword l n) s = .next t
      ∧ t.get (XCV_LN_FEC_UNC.v l) = min (s.get (XCV_LN_FEC_UNC.v l) + 1) (2 ^ 32 - 1)
      ∧ t.get (XCV_LN_STAT.locked l) = 0 ∧ (t.lane l).fecGood = 0
      ∧ ((s.lane l).fecBad < 7 → (t.lane l).fecBad = (s.lane l).fecBad + 1 ∧ t.get (XCV_LN_STAT.fec_locked l) = 1)
      ∧ (7 ≤ (s.lane l).fecBad → (t.lane l).fecBad = 0 ∧ t.get (XCV_LN_STAT.fec_locked l) = 0)))
  ∧ (∀ (s : State) (l : Fin 48), ∃ t, exec (.elasticBufferError l) s = .next t
      ∧ t.get (XCV_LN_STAT.ebuf_err l) = 1 ∧ (t.lane l).rxWait = s.is (XCV_LN_CFG.dl l)
      ∧ (t.lane l).txWait = s.is (XCV_LN_CFG.dl l)
      ∧ t.get (XCV_LN_EBUF.v l) = min (s.get (XCV_LN_EBUF.v l) + 1) (2 ^ 32 - 1))
  ∧ (∀ (s : State) (l : Fin 48) (fill : Fin 65), s.timeValid = true → s.get (XCV_DL_CFG.fill (l / 4)) ≤ fill →
    exec (.gridStrobe l true fill) s = .next (s.setLane l { s.lane l with txWait := false })
      ∧ ((s.lane l).rxWait = true → exec (.gridStrobe l false fill) s
          = .next ((s.setLane l { s.lane l with rxWait := false }).put (XCV_LN_STAT.dl_fill l) fill)))

/-- Groups (R441 to R444): a definition is judged and starts a group whose lanes are all enabled and ACTIVE; a
training block corrects a reversed pair, restarts its lane's count or goes to the group; a rate switch, its timeouts
and a failed group's retry. -/
def Obligations.LaneGroupCommandsComplete : Prop :=
  (∀ (s : State) (l : Fin 48) (v : Word),
    let u := s.write (XCV_LN_GRP.off l) v
    u.get (XCV_LN_GRP.train l) ≠ 3 → u.get (XCV_LN_GRP.count l) ≤ 48 →
    u.get (XCV_LN_GRP.rate_min l) ≤ u.get (XCV_LN_GRP.rate_max l) →
    exec (.groupDefine l v) s = .next (u.each ((s.leaderOf l).toList ++ (u.leaderOf l).toList).dedup fun s g =>
      ((s.groupOff g).putB (XCV_LN_STAT.cfg_err g) (!s.groupFits g)).groupCheck g))
  ∧ (∀ (s : State) (g : Fin 48), s.is (XCV_LN_STAT.cfg_err g) = false → s.get (XCV_LN_STAT.grp_state g) = 0 →
    (∀ l ∈ s.members g, s.is (XCV_LN_CFG.tx_en l) = true ∧ s.is (XCV_LN_CFG.rx_en l) = true
      ∧ s.get (XCV_LN_STAT.pstate l) = 0) →
    (s.get (XCV_LN_GRP.train g) = 0 → s.groupCheck g = s.groupRuns g ∧ (s.groupRuns g).get (XCV_LN_STAT.grp_state g) = 4)
    ∧ (s.get (XCV_LN_GRP.train g) ≠ 0 → s.groupCheck g = s.toStep1 g))
  ∧ (∀ (s : State) (l : Fin 48) (g : Nat) (b : Lts), s.leaderOf l = some g → s.get (XCV_LN_GRP.train g) = 1 →
    s.receives l = true → s.get (XCV_LN_STAT.grp_state g) ∈ [1, 2, 3] →
    let p := b.payload.toNat
    let v := { s.lane l with ltsGood := 0 }
    let i := p / 2 ^ 48
    let n := s.get (XCV_LN_GRP.count g)
    (b.type = 0x69 → b.swapped = true → exec (.ltsBlock l b) s = .next (((s.setLane l v).putB (XCV_LN_STAT.pol_inv l)
        (!s.is (XCV_LN_STAT.pol_inv l))).laneEvent l 3 CORRECTED 0x0E04))
    ∧ (b.type = 0x96 → b.swapped = false → crcPoly 8 0x07 48 (p / 256) ≠ p % 256 →
        exec (.ltsBlock l b) s = .next (s.setLane l v))
    ∧ (b.type = 0x96 → b.swapped = false → crcPoly 8 0x07 48 (p / 256) = p % 256 →
        (5 ≤ n → exec (.ltsBlock l b) s = .next ((s.takeLts g l p).largeGroup g))
        ∧ (n ≤ 4 → (i = l - g ∨ i = n - 1 - (l - g)) → exec (.ltsBlock l b) s = .next ((s.takeLts g l p).smallGroup g))
        ∧ (n ≤ 4 → i ≠ l - g → i ≠ n - 1 - (l - g) → exec (.ltsBlock l b) s = .next ((s.takeLts g l p).groupFails g 3))))
  ∧ (∀ (s : State) (g : Fin 48), (s.group g).step = 4 → (s.group g).switch = true →
    ∃ t, exec (.rateSwitch g) s = .next t ∧ t.get (XCV_LN_STAT.rate_idx g) = (s.get (XCV_LN_STAT.rate_idx g) + 1) % 4
      ∧ t.group g = { s.group g with step := 5, prev := s.get (XCV_LN_STAT.rate_idx g), switch := false })
  ∧ (∀ (s : State) (g : Fin 48), (s.group g).step = 5 → (s.group g).final = false → (s.group g).prev < 4 →
    ∃ t, exec (.stepRetrainTimeout g) s = .next t ∧ t.get (XCV_LN_STAT.rate_idx g) = (s.group g).prev
      ∧ t.get (XCV_LN_STAT.step_fail g) = 1 ∧ t.group g = { s.group g with final := true })
  ∧ (∀ (s : State) (g : Fin 48), 5 ≤ s.get (XCV_LN_GRP.count g) → s.get (XCV_LN_STAT.grp_state g) ≠ 0 →
    ((s.group g).step = 1 ∨ (s.group g).step = 2) →
    (∀ l ∈ s.members g, (s.lane l).badTag = false ∧ (s.lane l).badCount = false
      ∧ ((s.lane l).index = none ∨ (s.lane l).index = some (l - g))) →
    exec (.groupTrainTimeout g) s = .next ((s.setGroup g { s.group g with step := 0 }).groupFails g 5))
  ∧ (∀ (s : State) (g : Fin 48), 5 ≤ s.get (XCV_LN_GRP.count g) → s.get (XCV_LN_STAT.grp_state g) = 5 →
    exec (.groupRetry g) s = .next (s.toStep1 g))
  ∧ (∀ (s : State) (l : Fin 48) (g : Nat), s.leaderOf l = some g → 5 ≤ s.get (XCV_LN_GRP.count g) →
    s.get (XCV_LN_STAT.grp_state g) = 4 → s.is (XCV_LN_STAT.locked l) = false →
    exec (.groupLockLossTimeout l) s = .next (s.toStep1 g))
  ∧ (∀ (s : State) (g : Fin 48), let t := s.toStep1 g
      t.get (XCV_LN_STAT.grp_state g) = 1 ∧ t.get (XCV_LN_STAT.reason g) = 0 ∧ t.get (XCV_LN_STAT.step_fail g) = 0
        ∧ (∀ l ∈ s.members g, (t.lane l).ready = false ∧ (t.lane l).ltsGood = 0))

/-- Faults and upkeep of the lanes (R443, R445, R448 to R451): a driver fault turns the driver off, up to 8 retries
turn it on; termination and signal show in the fault field; a calibration, a checker's lock, an eye scan, an injector.
-/
def Obligations.LaneUpkeepCommandsComplete : Prop :=
  (∀ (s : State) (l : Fin 48), s.is (XCV_LN_CFG.tx_en l) = true → (s.lane l).driverOff = false →
    exec (.txFault l) s = .next (((s.setLane l { s.lane l with driverOff := true }).put (XCV_LN_FAULT.fault l) 1).laneEvent
      l 2 CONTAINED 0x0E01))
  ∧ (∀ (s : State) (l : Fin 48), (s.lane l).driverOff = true → s.get (XCV_LN_FAULT.retries l) < 8 →
    exec (.txFaultRetry l) s = .next (((s.setLane l { s.lane l with driverOff := false }).count
      (XCV_LN_FAULT.retries l)).put (XCV_LN_FAULT.fault l) 0))
  ∧ (∀ (s : State) (l : Fin 48), 8 ≤ s.get (XCV_LN_FAULT.retries l) → exec (.txFaultRetry l) s = .next s)
  ∧ (∀ (s : State) (l : Fin 48), s.is (XCV_LN_CFG.tx_en l) = true →
    (s.get (XCV_LN_FAULT.fault l) = 2 → exec (.receiverDetect l true) s = .next (s.put (XCV_LN_FAULT.fault l) 0))
    ∧ (s.get (XCV_LN_FAULT.fault l) = 0 → exec (.receiverDetect l false) s
        = .next ((s.put (XCV_LN_FAULT.fault l) 2).laneEvent l 2 INFO 0x0E02)))
  ∧ (∀ (s : State) (l : Fin 48), s.is (XCV_LN_CFG.rx_en l) = true → s.is (XCV_LN_STAT.los l) = false →
    ∃ t, exec (.lossOfSignal l) s = .next t ∧ t.get (XCV_LN_STAT.los l) = 1 ∧ t.get (XCV_LN_FAULT.fault l) = 3
      ∧ t.get (XCV_LN_STAT.locked l) = 0 ∧ t.get (XCV_LN_STAT.fec_locked l) = 0 ∧ (t.lane l).frozen = true)
  ∧ (∀ (s : State) (l : Fin 48), s.is (XCV_LN_STAT.los l) = true →
    ∃ t, exec (.signalReturn l) s = .next t ∧ t.get (XCV_LN_STAT.los l) = 0 ∧ (t.lane l).frozen = false
      ∧ t.get (XCV_LN_FAULT.fault l)
          = (if s.get (XCV_LN_FAULT.fault l) = 3 then 0 else s.get (XCV_LN_FAULT.fault l)))
  ∧ (∀ (s : State) (l : Fin 48) (v : Word), bit v 31 = true → exec (.laneFaultClear l v) s
      = .next (((s.setLane l { s.lane l with driverOff := false }).put (XCV_LN_FAULT.fault l) 0).put
          (XCV_LN_FAULT.retries l) 0))
  ∧ (∀ (s : State) (l : Fin 48) (v : Word), bit v 31 = true →
    let u := s.write (XCV_LN_MAINT.off l) v
    let idle := s.is (XCV_LN_CFG.tx_en l) = false ∧ s.is (XCV_LN_CFG.rx_en l) = false
      ∨ s.get (XCV_LN_STAT.pstate l) = 2
    (idle → exec (.laneCal l v) s = .next (((u.put (XCV_LN_MAINT.answer l) 1).put (XCV_LN_MAINT.done l) 0).setLane l
      { s.lane l with cal := true }))
    ∧ (¬idle → u.is (XCV_LN_MAINT.force l) = true → ∃ t, exec (.laneCal l v) s = .next t
        ∧ t.get (XCV_LN_MAINT.answer l) = 1 ∧ (t.lane l).cal = true ∧ t.get (XCV_LN_STAT.locked l) = 0)
    ∧ (¬idle → u.is (XCV_LN_MAINT.force l) = false → exec (.laneCal l v) s = .next (u.put (XCV_LN_MAINT.answer l) 3)))
  ∧ (∀ (s : State) (l : Fin 48), (s.lane l).cal = true → exec (.laneCalComplete l) s
      = .next ((s.setLane l { s.lane l with cal := false }).put (XCV_LN_MAINT.done l) 1))
  ∧ (∀ (s : State) (l : Fin 48) (inv : Bool), s.receives l = true →
    (s.leaderOf l = none → s.is (XCV_LN_PRBS.rx_en l) = true → ∀ relock, ∃ t,
      exec (.prbsCheckerLock l inv relock) s = .next t ∧ t.get (XCV_LN_PRBS.locked l) = 1
        ∧ t.get (XCV_LN_PRBS.inverted l) = inv.toNat
        ∧ t.getWide (XCV_LN_PRBS_ERR0.off l) 2 = (if relock
            then min (s.getWide (XCV_LN_PRBS_ERR0.off l) 2 + 257) (2 ^ 48 - 1)
            else s.getWide (XCV_LN_PRBS_ERR0.off l) 2))
    ∧ (∀ g : Nat, s.leaderOf l = some g → s.get (XCV_LN_GRP.train g) = 2 → s.get (XCV_LN_STAT.grp_state g) = 1 →
      ∃ u : State, (u.lane l).prbsGood = true ∧ u.get (XCV_LN_PRBS.locked l) = 1
        ∧ (∀ k : Nat, k ≠ l → u.lane k = s.lane k)
        ∧ (inv = true → u.is (XCV_LN_STAT.pol_inv l) = !s.is (XCV_LN_STAT.pol_inv l))
        ∧ exec (.prbsCheckerLock l inv false) s
          = .next (if u.allLanes g (fun v => v.prbsGood) then u.groupRuns g else u)))
  ∧ (∀ (s : State) (l : Fin 48) (v : Word), bit v 31 = true →
    let u := s.write (XCV_LN_ES_CFG.off l) v
    (s.is (XCV_LN_ES_CFG.busy l) = false → s.is (XCV_LN_STAT.locked l) = true → exec (.eyeScan l v) s
        = .next ((u.put (XCV_LN_ES_CFG.answer l) 1).put (XCV_LN_ES_CFG.busy l) 1))
    ∧ ((s.is (XCV_LN_ES_CFG.busy l) = true ∨ s.is (XCV_LN_STAT.locked l) = false) → exec (.eyeScan l v) s
        = .next (u.put (XCV_LN_ES_CFG.answer l) 3)))
  ∧ (∀ (s : State) (l : Fin 48) (n : BitVec 48), s.is (XCV_LN_ES_CFG.busy l) = true →
    ∃ t, exec (.eyeScanComplete l n) s = .next t ∧ t.get (XCV_LN_ES_CFG.busy l) = 0
      ∧ t.getWide (XCV_LN_ES_ERR0.off l) 2 = n.toNat)
  ∧ (∀ (s : State) (l : Fin 48) (v : Word), bit v 31 = true → s.is (XCV_Q_CFG.fi_enable (l / 4)) = true →
    let u := s.write (XCV_LN_FI.off l) v
    exec (.laneFiArm l v) s = .next ((u.setLane l { s.lane l with
      skip := u.get (XCV_LN_FI.skip l), times := u.get (XCV_LN_FI.times l), acted := false }).put (XCV_LN_FI.armed l) 1))

/-! ### The redundant pair -/

/-- What the primary mirrors (R458, R460): a command's mirrored changes join the queue in order while it has room; one
that finds none counts an overflow and leaves the pair UNSYNCED; a device that mirrors nothing sends nothing;
mirroring changes nothing but the pair's own state, the fault log and the alerts. -/
def Obligations.MirrorQueueTakesChangesInOrder : Prop :=
  (∀ s t : State, t.mirrors = false → s.mirrorFrom t = t)
  ∧ (∀ s t : State, let u := s.mirrorFrom t
      u = { t with regs := u.regs, pair := u.pair, flt := u.flt, twp := u.twp }
        ∧ (∀ off, off / 4096 * 4096 ≠ pagePAIR → off / 4096 * 4096 ≠ pageFLT → off ≠ TWP_ALERT_SRC.off →
            u.word off = t.word off))
  ∧ (∀ s t : State, t.mirrors = true →
      t.mirrorDepth + ((s.changesFrom t).map changeBytes).foldl (fun a b => a + b) 0 ≤ 51520 →
      (s.mirrorFrom t).pair.queue.map (fun e => e.2.1) = t.pair.queue.map (fun e => e.2.1) ++ s.changesFrom t
        ∧ (s.mirrorFrom t).pair.nextPos = t.pair.nextPos + (s.changesFrom t).length)
  ∧ (∀ (s : State) (c : Change), s.mirrors = true → 51520 < s.mirrorDepth + changeBytes c →
      (s.mirror c).pair.queue = [] ∧ (s.mirror c).pair.copying = false ∧ (s.mirror c).get PAIR_STAT.state = 3
        ∧ (s.mirror c).get PAIR_OVF.v = min (s.get PAIR_OVF.v + 1) (2 ^ 32 - 1) ∧ (s.mirror c).mirrors = false)

/-- Forming and keeping a pair (R455 to R457, R459 to R461, R464, R466, R469): enabling starts the copy or names the
first missing requirement; a finished copy makes SYNC; the standby applies each change once; an acknowledgement
empties the queue up to it; heartbeats are sent, heard and missed; a primary that hears nothing goes on alone; resync
and rejoin. -/
def Obligations.PairMirrorCommandsComplete : Prop :=
  (∀ (s : State) (v : Word) (f : PairFacts), bit v 29 = false → bit v 28 = false → bit v 27 = false → bit v 26 = false →
    let u := s.write PAIR_CTRL.off v
    u.is PAIR_CTRL.enable = true → (s.get PAIR_STAT.state = 0 ∨ s.get PAIR_STAT.state = 5) →
    (u.missingNeed f = 0 → exec (.pairEnable v f) s = .next (u.put PAIR_STAT.reason 0).startCopy)
    ∧ (u.missingNeed f ≠ 0 → exec (.pairEnable v f) s
        = .next ((u.put PAIR_STAT.reason (u.missingNeed f)).pairEvent 6 INFO 0x0F07)))
  ∧ (∀ s : State, s.startCopy.get PAIR_STAT.state = 1 ∧ s.startCopy.pair.queue = [] ∧ s.startCopy.pair.copying = true
      ∧ s.startCopy.pair.misses = 0 ∧ s.startCopy.get PAIR_LAG.v = 0)
  ∧ (∀ s : State, s.pair.copying = true →
    (s.fenced = true → exec .pairSyncComplete s = .next { s with pair := { s.pair with rejoined := true } })
    ∧ (s.get PAIR_STAT.state = 1 → ∃ t, exec .pairSyncComplete s = .next t ∧ t.get PAIR_STAT.state = 2
        ∧ t.pair.copying = false ∧ t.pair.queue = s.pair.queue
        ∧ (s.pair.survivor = true → t.pair.driven = false ∧ t.get PAIR_STAT.fence_out = 0)))
  ∧ (∀ (s : State) (position : Nat) (ch : Change), s.takesChanges = true →
    (s.pair.applied < position → exec (.mirrorChange position ch) s
        = .next { s.applyChange ch with pair := { (s.applyChange ch).pair with applied := position } })
    ∧ (position ≤ s.pair.applied → exec (.mirrorChange position ch) s = .next s))
  ∧ (∀ (s : State) (n : BitVec 16) (w : Fin 16) (t : Fin 4096) (k : Fin 8) (v : Word),
    (s.applyChange (.contextWord n w v)).word (SE_SC_CTRL.off n.toNat + 4 * w.val) = v
      ∧ (s.applyChange (.task t k v)).word (TS_TASK.off t k) = v
      ∧ (s.applyChange (.hubReg (BitVec.ofNat 26 TH_CTRL.off) v)).regs = s.regs)
  ∧ (∀ (s : State) (position : Nat), s.mirrors = true → s.pair.acked < position →
    let u := { s with pair := { s.pair with
      acked := position, queue := s.pair.queue.filter fun e => decide (position < e.1) } }
    exec (.mirrorAck position) s = .next u.showLag.progressAll)
  ∧ (∀ s : State, s.is PAIR_CTRL.enable = true → s.get PAIR_STAT.state ≠ 0 →
    exec .heartbeatSend s = .next { s with pair := { s.pair with sent := some {
      primary := s.is PAIR_STAT.role, state := BitVec.ofNat 4 (s.get PAIR_STAT.state), crc := s.word PAIR_IMAGE.off
      ack := s.pair.applied, check := true } } })
  ∧ (∀ (s : State) (h : Heartbeat), s.is PAIR_CTRL.enable = true → h.check = true → s.mirrors = false →
    let u := { s with pair := { s.pair with misses := 0 } }
    let follows := s.is PAIR_STAT.role = false ∧ h.primary = true ∧ 1 ≤ s.get PAIR_STAT.state
      ∧ s.get PAIR_STAT.state ≤ 3
    (follows → h.state = 1 → s.get PAIR_STAT.state ≠ 1 → exec (.heartbeatReceived h) s = .next u.startCopy)
    ∧ (follows → h.state = 3 → s.get PAIR_STAT.state ≠ 3 → exec (.heartbeatReceived h) s
        = .next ({ u with pair := { u.pair with copying := false } }.setPairState 3))
    ∧ ((¬follows ∨ h.state ≠ 1 ∧ h.state ≠ 3) → exec (.heartbeatReceived h) s = .next u))
  ∧ (∀ (s : State) (h : Heartbeat), h.check = false → exec (.heartbeatReceived h) s = .next s)
  ∧ (∀ s : State, s.is PAIR_CTRL.enable = true → 1 ≤ s.get PAIR_STAT.state → s.get PAIR_STAT.state ≤ 3 →
    (s.count PAIR_HB_MISS.v).get PAIR_HB_MISS.v = min (s.get PAIR_HB_MISS.v + 1) (2 ^ 32 - 1))
  ∧ (∀ s : State, s.is PAIR_CTRL.enable = true → 1 ≤ s.get PAIR_STAT.state → s.get PAIR_STAT.state ≤ 3 →
    let u := { s.count PAIR_HB_MISS.v with pair := { s.pair with misses := s.pair.misses + 1 } }
    (s.pair.misses + 1 < s.get PAIR_CFG.miss → exec .heartbeatMiss s = .next u)
    ∧ (s.get PAIR_CFG.miss ≤ s.pair.misses + 1 → exec .heartbeatMiss s = .next u.startTakeover)
    ∧ (s.is PAIR_STAT.role = true → 0 < s.pair.misses →
        exec .primaryAlone s = .next ((s.pairEvent 1 CONTAINED 0x0F02).stopMirroring 5)))
  ∧ (∀ (s : State) (v : Word), bit v 29 = false → bit v 26 = false → s.is PAIR_CTRL.enable = true →
    let u := s.write PAIR_CTRL.off v
    u.is PAIR_CTRL.enable = true →
    (bit v 28 = true → bit v 27 = false → s.is PAIR_STAT.role = true → s.get PAIR_STAT.state = 3 →
      exec (.resync v) s = .next u.startCopy)
    ∧ (bit v 28 = false → bit v 27 = true → s.fenced = true → exec (.rejoin v) s
        = .next ({ u with pair := { u.pair with copying := true, applied := 0, misses := 0 } }.put PAIR_STAT.role 0)))

/-- Takeover and fencing (R462, R465, R467, R468): a standby that takes over drives its fence; the ball that reads low
ends the takeover; the settled standby is primary and goes on where the records stand; a device whose fence input is
high is FENCED, unless both drive and its role pin says to stand; a release leaves FENCED. -/
def Obligations.TakeoverCommandsComplete : Prop :=
  (∀ (s : State) (v : Word), bit v 29 = true → bit v 28 = false → bit v 27 = false → bit v 26 = false →
    s.is PAIR_CTRL.enable = true →
    let u := s.write PAIR_CTRL.off v
    u.is PAIR_CTRL.enable = true → s.is PAIR_STAT.role = false →
    (s.get PAIR_STAT.state = 2 ∨ s.get PAIR_STAT.state = 3) →
    exec (.takeover v) s = .next ({ u with pair := { u.pair with
      before := s.get PAIR_STAT.state, driven := true } }.setPairState 4))
  ∧ (∀ s : State, s.get PAIR_STAT.state = 4 →
    exec (.fenceReadback true) s = .next (s.put PAIR_STAT.fence_out 1)
      ∧ (s.pair.before < 16 → ∃ t, exec (.fenceReadback false) s = .next t ∧ t.get PAIR_STAT.state = s.pair.before
          ∧ t.get PAIR_STAT.fence_out = 0 ∧ t.pair = { s.pair with driven := false }))
  ∧ (∀ (s : State) (ctxs : List TakeoverCtx), s.get PAIR_STAT.state = 4 → s.is PAIR_STAT.fence_out = true →
    ∃ u : State, u.get PAIR_STAT.state = 5 ∧ u.is PAIR_STAT.role = true
      ∧ u.get PAIR_TAKEOVERS.v = min (s.get PAIR_TAKEOVERS.v + 1) (2 ^ 32 - 1)
      ∧ u.pair = { s.pair with survivor := true, copying := false, queue := [], acked := s.pair.applied,
                               nextPos := s.pair.applied + 1 }
      ∧ u.se = s.se
      ∧ exec (.takeoverSettle ctxs) s = .next (((((u.each (u.ctxsOn.filter fun n => u.mirroredCtx n) fun s n =>
          s.takeContext n (match ctxs.find? fun c : TakeoverCtx => c.ctx.toNat = n with
            | some c => c.present
            | none => 0)).takeTasks).takeRoot).each (List.range 28) fun s o => s.passOut o).progressAll))
  ∧ (∀ (s : State) (n present : Nat), n < 65536 → isHost (s.cring n) = false → s.get (SE_SC_DRING_HI.size n) ≤ 16 →
    let rs := runFrom (s.ctx n).recs (s.ringLen n) (s.done n) (s.ctx n).recs.length
    let t := s.takeContext n present
    t.head n = (s.done n + rs.length) % s.ringLen n ∧ t.done n = s.done n ∧ (t.ctx n).work = []
      ∧ (t.ctx n).recs = rs.map fun r => { r with written := false, ack := none })
  ∧ (∀ s : State, s.fenced = false →
    let u := s.put PAIR_STAT.fence_in 1
    exec (.fenceIn false) s = .next u.becomeFenced
      ∧ (s.pair.driven = false → exec (.fenceIn true) s = .next u.becomeFenced)
      ∧ (s.pair.driven = true → s.is PAIR_STAT.pin_role = true → exec (.fenceIn true) s = .next u)
      ∧ (s.pair.driven = true → s.is PAIR_STAT.pin_role = false → exec (.fenceIn true) s
          = .next (({ u with pair := { u.pair with driven := false } }.put PAIR_STAT.fence_out 0).becomeFenced))
      ∧ s.becomeFenced.fenced = true ∧ s.becomeFenced.pair.queue = [] ∧ s.becomeFenced.pair.survivor = false)
  ∧ (∀ (s : State) (v : Word), bit v 29 = false → bit v 28 = false → bit v 27 = false → bit v 26 = true →
    s.fenced = true → s.is PAIR_CTRL.enable = true →
    let u := (s.putB PAIR_STAT.fence_in false).write PAIR_CTRL.off v
    u.is PAIR_CTRL.enable = true →
    (s.pair.rejoined = false → exec (.release v false) s = .next (u.setPairState 0))
    ∧ (s.pair.rejoined = true → ∃ t, exec (.release v false) s = .next t ∧ t.get PAIR_STAT.state = 2
        ∧ t.pair = { s.pair with rejoined := false, copying := false }))
end

