-- ==== Sys2Proof/Laws/Answers.lean ====
section
/-! SUPPORT. Every well-formed command answers a next state, in every state. -/

namespace Sys2Proof.Machine

/-- The answer is a next state. -/
def Answers (o : Out) : Prop := ∃ t, o = .next t

theorem answers_next (t : State) : Answers (.next t) := ⟨t, rfl⟩

theorem mirrored_answers (f : State → Out) (s : State) (h : ∀ t, Answers (f t)) : Answers (mirrored f s) := by
  obtain ⟨t, e⟩ := h s
  exact ⟨s.mirrorFrom t, by unfold mirrored; rw [e]⟩

theorem execBistStart_answers (region : Fin 240) (v : Word) (s : State) : Answers (execBistStart region v s) := by
  unfold execBistStart
  repeat' with_reducible first
    | exact answers_next _
    | split
theorem execBistComplete_answers (region : Fin 240) (failing : List (BitVec 12)) (s : State) : Answers (execBistComplete region failing s) := by
  unfold execBistComplete
  dsimp only
  repeat' with_reducible first
    | exact answers_next _
    | split
theorem execOscReady_answers (s : State) : Answers (execOscReady s) := by
  unfold execOscReady
  repeat' with_reducible first
    | exact answers_next _
    | split
theorem execCrystalReady_answers (s : State) : Answers (execCrystalReady s) := by
  unfold execCrystalReady
  repeat' with_reducible first
    | exact answers_next _
    | split
theorem execRefclkReady_answers (at100 : Bool) (s : State) : Answers (execRefclkReady at100 s) := by
  unfold execRefclkReady
  repeat' with_reducible first
    | exact answers_next _
    | split
theorem execRootPllLock_answers (s : State) : Answers (execRootPllLock s) := by
  unfold execRootPllLock
  repeat' with_reducible first
    | exact answers_next _
    | split
theorem execThPllLock_answers (s : State) : Answers (execThPllLock s) := by
  unfold execThPllLock
  dsimp only
  repeat' with_reducible first
    | exact answers_next _
    | split
theorem execThPllLockLost_answers (s : State) : Answers (execThPllLockLost s) := by
  unfold execThPllLockLost
  repeat' with_reducible first
    | exact answers_next _
    | split
theorem execMissingClock_answers (src : ClkSrc) (s : State) : Answers (execMissingClock src s) := by
  unfold execMissingClock
  dsimp only
  repeat' with_reducible first
    | exact answers_next _
    | split
theorem execMonitorGate_answers (g : GateSeen) (s : State) : Answers (execMonitorGate g s) := by
  unfold execMonitorGate
  repeat' with_reducible first
    | exact answers_next _
    | split
theorem execTrimConverged_answers (code : BitVec 12) (err : BitVec 16) (s : State) : Answers (execTrimConverged code err s) := by
  unfold execTrimConverged
  repeat' with_reducible first
    | exact answers_next _
    | split
theorem execTrimTrackStep_answers (up move : Bool) (err : BitVec 16) (s : State) : Answers (execTrimTrackStep up move err s) := by
  unfold execTrimTrackStep
  repeat' with_reducible first
    | exact answers_next _
    | split
theorem execClkSelWrite_answers (v : Word) (s : State) : Answers (execClkSelWrite v s) := by
  unfold execClkSelWrite
  repeat' with_reducible first
    | exact answers_next _
    | split
theorem execClkSwitchComplete_answers (cfg : Bool) (s : State) : Answers (execClkSwitchComplete cfg s) := by
  unfold execClkSwitchComplete
  repeat' with_reducible first
    | exact answers_next _
    | split
theorem execRootRelockComplete_answers (th : Bool) (s : State) : Answers (execRootRelockComplete th s) := by
  unfold execRootRelockComplete
  repeat' with_reducible first
    | exact answers_next _
    | split
theorem execAonTimeRead_answers (s : State) : Answers (execAonTimeRead s) := by
  unfold execAonTimeRead
  repeat' with_reducible first
    | exact answers_next _
    | split
theorem execCmtApply_answers (tile : Fin 40) (fpll : Bool) (inputKhz : Nat) (grade : Fin 3) (v : Word) (s : State) : Answers (execCmtApply tile fpll inputKhz grade v s) := by
  unfold execCmtApply
  repeat' with_reducible first
    | exact answers_next _
    | split
theorem execCmtReset_answers (tile : Fin 40) (fpll : Bool) (v : Word) (s : State) : Answers (execCmtReset tile fpll v s) := by
  unfold execCmtReset
  repeat' with_reducible first
    | exact answers_next _
    | split
theorem execCmtLock_answers (tile : Fin 40) (fpll : Bool) (s : State) : Answers (execCmtLock tile fpll s) := by
  unfold execCmtLock
  dsimp only
  repeat' with_reducible first
    | exact answers_next _
    | split
theorem execCmtLockLost_answers (tile : Fin 40) (fpll : Bool) (inputMissing : Bool) (s : State) : Answers (execCmtLockLost tile fpll inputMissing s) := by
  unfold execCmtLockLost
  dsimp only
  repeat' with_reducible first
    | exact answers_next _
    | split
theorem execPhaseRequest_answers (tile : Fin 40) (fpll : Bool) (count : BitVec 7) (s : State) : Answers (execPhaseRequest tile fpll count s) := by
  unfold execPhaseRequest
  dsimp only
  repeat' with_reducible first
    | exact answers_next _
    | split
theorem execPhaseMoveComplete_answers (tile : Fin 40) (fpll : Bool) (s : State) : Answers (execPhaseMoveComplete tile fpll s) := by
  unfold execPhaseMoveComplete
  repeat' with_reducible first
    | exact answers_next _
    | split
theorem execTrackSelect_answers (region : Fin 240) (track : Fin 24) (second running : Bool) (s : State) : Answers (execTrackSelect region track second running s) := by
  unfold execTrackSelect
  repeat' with_reducible first
    | exact answers_next _
    | split
theorem execTrackInactive_answers (region : Fin 240) (track : Fin 24) (s : State) : Answers (execTrackInactive region track s) := by
  unfold execTrackInactive
  repeat' with_reducible first
    | exact answers_next _
    | split
theorem execTrackGateEnable_answers (region : Fin 240) (track : Fin 24) (en : Bool) (s : State) : Answers (execTrackGateEnable region track en s) := by
  unfold execTrackGateEnable
  repeat' with_reducible first
    | exact answers_next _
    | split
theorem execCoreRun_answers (c : Fin 8) (v : Word) (s : State) : Answers (execCoreRun c v s) := by
  unfold execCoreRun
  repeat' with_reducible first
    | exact answers_next _
    | split
theorem execCoreStop_answers (c : Fin 8) (v : Word) (s : State) : Answers (execCoreStop c v s) := by
  unfold execCoreStop
  repeat' with_reducible first
    | exact answers_next _
    | split
theorem execFenceInstruction_answers (c : Fin 8) (deviceOut : Bool) (status : BitVec 4) (s : State) : Answers (execFenceInstruction c deviceOut status s) := by
  unfold execFenceInstruction
  dsimp only
  repeat' with_reducible first
    | exact answers_next _
    | split
theorem execFastTrap_answers (c : Fin 8) (s : State) : Answers (execFastTrap c s) := by
  unfold execFastTrap
  dsimp only
  repeat' with_reducible first
    | exact answers_next _
    | split
theorem execMret_answers (c : Fin 8) (s : State) : Answers (execMret c s) := by
  unfold execMret
  dsimp only
  repeat' with_reducible first
    | exact answers_next _
    | split
theorem execWfi_answers (c : Fin 8) (s : State) : Answers (execWfi c s) := by
  unfold execWfi
  dsimp only
  repeat' with_reducible first
    | exact answers_next _
    | split
theorem execCoreWake_answers (c : Fin 8) (s : State) : Answers (execCoreWake c s) := by
  unfold execCoreWake
  dsimp only
  repeat' with_reducible first
    | exact answers_next _
    | split
theorem execMachineTimer_answers (c : Fin 8) (s : State) : Answers (execMachineTimer c s) := by
  unfold execMachineTimer
  dsimp only
  repeat' with_reducible first
    | exact answers_next _
    | split
theorem execL2PartitionWrite_answers (v : Word) (s : State) : Answers (execL2PartitionWrite v s) := by
  unfold execL2PartitionWrite
  repeat' with_reducible first
    | exact answers_next _
    | split
theorem execL2Maint_answers (v : Word) (s : State) : Answers (execL2Maint v s) := by
  unfold execL2Maint
  repeat' with_reducible first
    | exact answers_next _
    | split
theorem execL2MaintComplete_answers (s : State) : Answers (execL2MaintComplete s) := by
  unfold execL2MaintComplete
  repeat' with_reducible first
    | exact answers_next _
    | split
theorem execSourceEdge_answers (src : Fin 1024) (s : State) : Answers (execSourceEdge src s) := by
  unfold execSourceEdge
  dsimp only
  repeat' with_reducible first
    | exact answers_next _
    | split
theorem execSourceLevel_answers (src : Fin 1024) (asserted : Bool) (s : State) : Answers (execSourceLevel src asserted s) := by
  unfold execSourceLevel
  repeat' with_reducible first
    | exact answers_next _
    | split
theorem execSwi_answers (v : Word) (s : State) : Answers (execSwi v s) := by
  unfold execSwi
  repeat' with_reducible first
    | exact answers_next _
    | split
theorem execClaimNormal_answers (c : Fin 8) (s : State) : Answers (execClaimNormal c s) := by
  unfold execClaimNormal
  repeat' with_reducible first
    | exact answers_next _
    | split
theorem execClaimFast_answers (c : Fin 8) (s : State) : Answers (execClaimFast c s) := by
  unfold execClaimFast
  repeat' with_reducible first
    | exact answers_next _
    | split
theorem execIcComplete_answers (c : Fin 8) (v : Word) (s : State) : Answers (execIcComplete c v s) := by
  unfold execIcComplete
  repeat' with_reducible first
    | exact answers_next _
    | split
theorem execPendWrite_answers (r : Fin 32) (v : Word) (hwSet : Word) (s : State) : Answers (execPendWrite r v hwSet s) := by
  unfold execPendWrite
  repeat' with_reducible first
    | exact answers_next _
    | split
theorem State.portEdge_answers (s : State) (m : MemRef) (portB : Bool) (cfg : PortCfg) (pins : PortPins)
    (w : portFits m portB cfg pins) : Answers (s.portEdge m portB cfg pins) := by
  unfold State.portEdge
  rw [if_neg (by simp [w])]
  repeat' with_reducible first
    | exact answers_next _
    | split
theorem execMemoryPortWrite_answers (m : MemRef) (portB : Bool) (cfg : PortCfg) (pins : PortPins) (s : State)
    (w : portFits m portB cfg pins) : Answers (execMemoryPortWrite m portB cfg pins s) := by
  refine mirrored_answers _ _ fun s => ?_
  exact s.portEdge_answers m portB cfg pins w
theorem execMemoryPortRead_answers (m : MemRef) (portB : Bool) (cfg : PortCfg) (pins : PortPins) (s : State)
    (w : portFits m portB cfg pins) : Answers (execMemoryPortRead m portB cfg pins s) := by
  refine mirrored_answers _ _ fun s => ?_
  exact s.portEdge_answers m portB cfg pins w
theorem execNarrowWrite_answers (m : MemRef) (portB : Bool) (cfg : PortCfg) (pins : PortPins) (s : State)
    (w : portFits m portB cfg pins) : Answers (execNarrowWrite m portB cfg pins s) := by
  refine mirrored_answers _ _ fun s => ?_
  exact s.portEdge_answers m portB cfg pins w
theorem execClrv_answers (region : Fin 240) (inst : Fin 6) (s : State) : Answers (execClrv region inst s) := by
  unfold execClrv
  refine mirrored_answers _ _ fun s => ?_
  dsimp only
  repeat' with_reducible first
    | exact answers_next _
    | split
theorem execLeakPeriod_answers (b : Bucket) (s : State) : Answers (execLeakPeriod b s) := by
  unfold execLeakPeriod
  repeat' with_reducible first
    | exact answers_next _
    | split
theorem execRolEntryFree_answers (b : Bucket) (e : Fin 8) (v : Word) (s : State) : Answers (execRolEntryFree b e v s) := by
  unfold execRolEntryFree
  repeat' with_reducible first
    | exact answers_next _
    | split
theorem execRemapEntrySet_answers (r : RemapRef) (v : Word) (s : State) : Answers (execRemapEntrySet r v s) := by
  unfold execRemapEntrySet
  repeat' with_reducible first
    | exact answers_next _
    | split
theorem execRemapEntryClear_answers (r : RemapRef) (v : Word) (s : State) : Answers (execRemapEntryClear r v s) := by
  unfold execRemapEntryClear
  repeat' with_reducible first
    | exact answers_next _
    | split
theorem execEccInjectArm_answers (region : Fin 240) (v : Word) (s : State) : Answers (execEccInjectArm region v s) := by
  unfold execEccInjectArm
  repeat' with_reducible first
    | exact answers_next _
    | split
theorem execContextEnable_answers (n : BitVec 16) (v : Word) (s : State) : Answers (execContextEnable n v s) := by
  unfold execContextEnable
  refine mirrored_answers _ _ fun s => ?_
  repeat' with_reducible first
    | exact answers_next _
    | split
theorem execStop_answers (n : BitVec 16) (v : Word) (s : State) : Answers (execStop n v s) := by
  unfold execStop
  refine mirrored_answers _ _ fun s => ?_
  repeat' with_reducible first
    | exact answers_next _
    | split
theorem execRestart_answers (n : BitVec 16) (v : Word) (s : State) : Answers (execRestart n v s) := by
  unfold execRestart
  refine mirrored_answers _ _ fun s => ?_
  repeat' with_reducible first
    | exact answers_next _
    | split
theorem execContextDisable_answers (n : BitVec 16) (v : Word) (s : State) : Answers (execContextDisable n v s) := by
  unfold execContextDisable
  refine mirrored_answers _ _ fun s => ?_
  repeat' with_reducible first
    | exact answers_next _
    | split
theorem execDoorbell_answers (n : BitVec 16) (v : Word) (s : State) : Answers (execDoorbell n v s) := by
  unfold execDoorbell
  refine mirrored_answers _ _ fun s => ?_
  repeat' with_reducible first
    | exact answers_next _
    | split
theorem execEngineIssueSlot_answers (portB : Bool) (upset : Option Bool) (s : State) : Answers (execEngineIssueSlot portB upset s) := by
  unfold execEngineIssueSlot
  refine mirrored_answers _ _ fun s => ?_
  dsimp only
  repeat' with_reducible first
    | exact answers_next _
    | split
theorem execDescriptorFetched_answers (n : BitVec 16) (status : BitVec 4) (d : Desc) (s : State) : Answers (execDescriptorFetched n status d s) := by
  unfold execDescriptorFetched
  refine mirrored_answers _ _ fun s => ?_
  dsimp only
  repeat' with_reducible first
    | exact answers_next _
    | split
theorem execStreamReadResponse_answers (n : BitVec 16) (pos : BitVec 16) (status : BitVec 4) (bytes : List Byte) (s : State) : Answers (execStreamReadResponse n pos status bytes s) := by
  unfold execStreamReadResponse
  refine mirrored_answers _ _ fun s => ?_
  dsimp only
  repeat' with_reducible first
    | exact answers_next _
    | split
theorem execPcieCompletionTimeout_answers (n : BitVec 16) (pos : BitVec 16) (s : State) : Answers (execPcieCompletionTimeout n pos s) := by
  unfold execPcieCompletionTimeout
  refine mirrored_answers _ _ fun s => ?_
  dsimp only
  repeat' with_reducible first
    | exact answers_next _
    | split
theorem execStreamFenceComplete_answers (n : BitVec 16) (status : BitVec 4) (s : State) : Answers (execStreamFenceComplete n status s) := by
  unfold execStreamFenceComplete
  refine mirrored_answers _ _ fun s => ?_
  dsimp only
  repeat' with_reducible first
    | exact answers_next _
    | split
theorem execRecordConfirmed_answers (n : BitVec 16) (status : BitVec 4) (s : State) : Answers (execRecordConfirmed n status s) := by
  unfold execRecordConfirmed
  refine mirrored_answers _ _ fun s => ?_
  dsimp only
  repeat' with_reducible first
    | exact answers_next _
    | split
theorem execContextDrained_answers (n : BitVec 16) (s : State) : Answers (execContextDrained n s) := by
  unfold execContextDrained
  refine mirrored_answers _ _ fun s => ?_
  repeat' with_reducible first
    | exact answers_next _
    | split
theorem execTollPeriod_answers (s : State) : Answers (execTollPeriod s) := by
  unfold execTollPeriod
  refine mirrored_answers _ _ fun s => ?_
  repeat' with_reducible first
    | exact answers_next _
    | split
theorem execSluiceTimer_answers (j : Fin 4096) (s : State) : Answers (execSluiceTimer j s) := by
  unfold execSluiceTimer
  refine mirrored_answers _ _ fun s => ?_
  repeat' with_reducible first
    | exact answers_next _
    | split
theorem execSluCfgWrite_answers (j : Fin 4096) (v : Word) (s : State) : Answers (execSluCfgWrite j v s) := by
  unfold execSluCfgWrite
  refine mirrored_answers _ _ fun s => ?_
  repeat' with_reducible first
    | exact answers_next _
    | split
theorem execSluTgtWrite_answers (j : Fin 4096) (v : Word) (s : State) : Answers (execSluTgtWrite j v s) := by
  unfold execSluTgtWrite
  refine mirrored_answers _ _ fun s => ?_
  repeat' with_reducible first
    | exact answers_next _
    | split
theorem execTaskStart_answers (v : Word) (s : State) : Answers (execTaskStart v s) := by
  unfold execTaskStart
  refine mirrored_answers _ _ fun s => ?_
  repeat' with_reducible first
    | exact answers_next _
    | split
theorem execTaskSuspend_answers (v : Word) (s : State) : Answers (execTaskSuspend v s) := by
  unfold execTaskSuspend
  refine mirrored_answers _ _ fun s => ?_
  repeat' with_reducible first
    | exact answers_next _
    | split
theorem execTaskDelete_answers (v : Word) (s : State) : Answers (execTaskDelete v s) := by
  unfold execTaskDelete
  refine mirrored_answers _ _ fun s => ?_
  repeat' with_reducible first
    | exact answers_next _
    | split
theorem execTaskWait_answers (v : Word) (s : State) : Answers (execTaskWait v s) := by
  unfold execTaskWait
  refine mirrored_answers _ _ fun s => ?_
  repeat' with_reducible first
    | exact answers_next _
    | split
theorem execTaskDelay_answers (v : Word) (s : State) : Answers (execTaskDelay v s) := by
  unfold execTaskDelay
  refine mirrored_answers _ _ fun s => ?_
  repeat' with_reducible first
    | exact answers_next _
    | split
theorem execTaskYield_answers (v : Word) (s : State) : Answers (execTaskYield v s) := by
  unfold execTaskYield
  refine mirrored_answers _ _ fun s => ?_
  repeat' with_reducible first
    | exact answers_next _
    | split
theorem execTaskExit_answers (v : Word) (s : State) : Answers (execTaskExit v s) := by
  unfold execTaskExit
  refine mirrored_answers _ _ fun s => ?_
  repeat' with_reducible first
    | exact answers_next _
    | split
theorem execTaskTableWrite_answers (t : Fin 4096) (word : Fin 8) (v : Word) (s : State) : Answers (execTaskTableWrite t word v s) := by
  unfold execTaskTableWrite
  refine mirrored_answers _ _ fun s => ?_
  repeat' with_reducible first
    | exact answers_next _
    | split
theorem execTaskPostWrite_answers (t : Fin 4096) (v : Word) (s : State) : Answers (execTaskPostWrite t v s) := by
  unfold execTaskPostWrite
  repeat' with_reducible first
    | exact answers_next _
    | split
theorem execTaskPostApply_answers (s : State) : Answers (execTaskPostApply s) := by
  unfold execTaskPostApply
  refine mirrored_answers _ _ fun s => ?_
  dsimp only
  repeat' with_reducible first
    | exact answers_next _
    | split
theorem execSchedulerTick_answers (s : State) : Answers (execSchedulerTick s) := by
  unfold execSchedulerTick
  refine mirrored_answers _ _ fun s => ?_
  repeat' with_reducible first
    | exact answers_next _
    | split
theorem execTsNext_answers (c : Fin 8) (s : State) : Answers (execTsNext c s) := by
  unfold execTsNext
  refine mirrored_answers _ _ fun s => ?_
  repeat' with_reducible first
    | exact answers_next _
    | split
theorem execSlotDispatch_answers (k : Fin 64) (dropped : Bool) (s : State) : Answers (execSlotDispatch k dropped s) := by
  unfold execSlotDispatch
  refine mirrored_answers _ _ fun s => ?_
  dsimp only
  repeat' with_reducible first
    | exact answers_next _
    | split
theorem execLoadWindowEnd_answers (s : State) : Answers (execLoadWindowEnd s) := by
  unfold execLoadWindowEnd
  repeat' with_reducible first
    | exact answers_next _
    | split
theorem execStatClear_answers (v : Word) (s : State) : Answers (execStatClear v s) := by
  unfold execStatClear
  repeat' with_reducible first
    | exact answers_next _
    | split
theorem execTlRoleWrite_answers (lane : Fin 4) (v : Word) (s : State) : Answers (execTlRoleWrite lane v s) := by
  unfold execTlRoleWrite
  repeat' with_reducible first
    | exact answers_next _
    | split
theorem execLayoutWrite_answers (r : Fin 40) (v : Word) (s : State) : Answers (execLayoutWrite r v s) := by
  unfold execLayoutWrite
  repeat' with_reducible first
    | exact answers_next _
    | split
theorem execTlBlockLock_answers (lane : Fin 4) (s : State) : Answers (execTlBlockLock lane s) := by
  unfold execTlBlockLock
  dsimp only
  repeat' with_reducible first
    | exact answers_next _
    | split
theorem execTlLockLost_answers (lane : Fin 4) (s : State) : Answers (execTlLockLost lane s) := by
  unfold execTlLockLost
  dsimp only
  repeat' with_reducible first
    | exact answers_next _
    | split
theorem execTlRejectRetry_answers (lane : Fin 4) (s : State) : Answers (execTlRejectRetry lane s) := by
  unfold execTlRejectRetry
  dsimp only
  repeat' with_reducible first
    | exact answers_next _
    | split
theorem execThEnable_answers (v : Word) (s : State) : Answers (execThEnable v s) := by
  unfold execThEnable
  refine mirrored_answers _ _ fun s => ?_
  repeat' with_reducible first
    | exact answers_next _
    | split
theorem execTimeLoadGo_answers (v : Word) (s : State) : Answers (execTimeLoadGo v s) := by
  unfold execTimeLoadGo
  refine mirrored_answers _ _ fun s => ?_
  repeat' with_reducible first
    | exact answers_next _
    | split
theorem execAcceptStep_answers (v : Word) (s : State) : Answers (execAcceptStep v s) := by
  unfold execAcceptStep
  refine mirrored_answers _ _ fun s => ?_
  repeat' with_reducible first
    | exact answers_next _
    | split
theorem execSyncInEdge_answers (s : State) : Answers (execSyncInEdge s) := by
  unfold execSyncInEdge
  refine mirrored_answers _ _ fun s => ?_
  repeat' with_reducible first
    | exact answers_next _
    | split
theorem execTimeRead_answers (s : State) : Answers (execTimeRead s) := by
  unfold execTimeRead
  repeat' with_reducible first
    | exact answers_next _
    | split
theorem execXtlFrameReceived_answers (lane : Fin 4) (blocks : List (BitVec 64)) (arrival : Time) (s : State)
    (w : (Instr.xtlFrameReceived lane blocks arrival).wellFormed) : Answers (execXtlFrameReceived lane blocks arrival s) := by
  simp only [Instr.wellFormed, Bool.or_eq_true, decide_eq_true_eq] at w
  unfold execXtlFrameReceived
  refine mirrored_answers _ _ fun s => ?_
  dsimp only
  rw [if_neg (by simp; omega)]
  repeat' with_reducible first
    | exact answers_next _
    | split
theorem execXtlFrameSend_answers (lane : Fin 4) (s : State) : Answers (execXtlFrameSend lane s) := by
  unfold execXtlFrameSend
  dsimp only
  repeat' with_reducible first
    | exact answers_next _
    | split
theorem execTrigMessageReceived_answers (lane : Fin 4) (payload : BitVec 64) (swapClk : Bool) (s : State) : Answers (execTrigMessageReceived lane payload swapClk s) := by
  unfold execTrigMessageReceived
  refine mirrored_answers _ _ fun s => ?_
  dsimp only
  repeat' with_reducible first
    | exact answers_next _
    | split
theorem execXtlSend_answers (v : Word) (swapClk : Bool) (s : State) : Answers (execXtlSend v swapClk s) := by
  unfold execXtlSend
  refine mirrored_answers _ _ fun s => ?_
  repeat' with_reducible first
    | exact answers_next _
    | split
theorem execCalibrationAverageComplete_answers (s : State) : Answers (execCalibrationAverageComplete s) := by
  unfold execCalibrationAverageComplete
  dsimp only
  repeat' with_reducible first
    | exact answers_next _
    | split
theorem execRejoinMeasureComplete_answers (s : State) : Answers (execRejoinMeasureComplete s) := by
  unfold execRejoinMeasureComplete
  dsimp only
  repeat' with_reducible first
    | exact answers_next _
    | split
theorem execHoldoverLimitReached_answers (s : State) : Answers (execHoldoverLimitReached s) := by
  unfold execHoldoverLimitReached
  repeat' with_reducible first
    | exact answers_next _
    | split
theorem execPtmDialog_answers (dev : Time) (host : BitVec 64) (s : State) : Answers (execPtmDialog dev host s) := by
  unfold execPtmDialog
  dsimp only
  repeat' with_reducible first
    | exact answers_next _
    | split
theorem execPtmStale_answers (s : State) : Answers (execPtmStale s) := by
  unfold execPtmStale
  repeat' with_reducible first
    | exact answers_next _
    | split
theorem execInputEdge_answers (ch : Fin 24) (rising : Bool) (t : Time) (lasts : Nat) (s : State) : Answers (execInputEdge ch rising t lasts s) := by
  unfold execInputEdge
  dsimp only
  repeat' with_reducible first
    | exact answers_next _
    | split
theorem execStampDelivery_answers (ch : Fin 24) (s : State) : Answers (execStampDelivery ch s) := by
  unfold execStampDelivery
  refine mirrored_answers _ _ fun s => ?_
  dsimp only
  repeat' with_reducible first
    | exact answers_next _
    | split
theorem execTdcCalTableReplace_answers (ch : Fin 24) (s : State) : Answers (execTdcCalTableReplace ch s) := by
  unfold execTdcCalTableReplace
  repeat' with_reducible first
    | exact answers_next _
    | split
theorem execTdcCalRestart_answers (v : Word) (s : State) : Answers (execTdcCalRestart v s) := by
  unfold execTdcCalRestart
  repeat' with_reducible first
    | exact answers_next _
    | split
theorem execFabricEvent_answers (line : Fin 16) (t : Time) (s : State) : Answers (execFabricEvent line t s) := by
  unfold execFabricEvent
  refine mirrored_answers _ _ fun s => ?_
  dsimp only
  repeat' with_reducible first
    | exact answers_next _
    | split
theorem execTapClockEdge_answers (region : Fin 240) (t : Time) (s : State) : Answers (execTapClockEdge region t s) := by
  unfold execTapClockEdge
  dsimp only
  repeat' with_reducible first
    | exact answers_next _
    | split
theorem execOutputRequest_answers (v : Word) (s : State) : Answers (execOutputRequest v s) := by
  unfold execOutputRequest
  refine mirrored_answers _ _ fun s => ?_
  repeat' with_reducible first
    | exact answers_next _
    | split
theorem execOutputActionDue_answers (o : Fin 28) (s : State) : Answers (execOutputActionDue o s) := by
  unfold execOutputActionDue
  refine mirrored_answers _ _ fun s => ?_
  dsimp only
  repeat' with_reducible first
    | exact answers_next _
    | split
theorem execPulseEnd_answers (o : Fin 28) (s : State) : Answers (execPulseEnd o s) := by
  unfold execPulseEnd
  dsimp only
  repeat' with_reducible first
    | exact answers_next _
    | split
theorem execSeqTableWrite_answers (q : Fin 16) (word : Fin 4096) (v : Word) (s : State) : Answers (execSeqTableWrite q word v s) := by
  unfold execSeqTableWrite
  refine mirrored_answers _ _ fun s => ?_
  repeat' with_reducible first
    | exact answers_next _
    | split
theorem execSequencerEventRelease_answers (q : Fin 16) (swapClk : Bool) (s : State) : Answers (execSequencerEventRelease q swapClk s) := by
  unfold execSequencerEventRelease
  refine mirrored_answers _ _ fun s => ?_
  dsimp only
  repeat' with_reducible first
    | exact answers_next _
    | split
theorem execSequencerTimerExpiry_answers (q : Fin 16) (s : State) : Answers (execSequencerTimerExpiry q s) := by
  unfold execSequencerTimerExpiry
  refine mirrored_answers _ _ fun s => ?_
  dsimp only
  repeat' with_reducible first
    | exact answers_next _
    | split
theorem execSeqRun_answers (q : Fin 16) (v : Word) (swapClk : Bool) (s : State) : Answers (execSeqRun q v swapClk s) := by
  unfold execSeqRun
  refine mirrored_answers _ _ fun s => ?_
  repeat' with_reducible first
    | exact answers_next _
    | split
theorem execSeqHalt_answers (q : Fin 16) (v : Word) (s : State) : Answers (execSeqHalt q v s) := by
  unfold execSeqHalt
  refine mirrored_answers _ _ fun s => ?_
  repeat' with_reducible first
    | exact answers_next _
    | split
theorem execSeqArm_answers (q : Fin 16) (v : Word) (s : State) : Answers (execSeqArm q v s) := by
  unfold execSeqArm
  refine mirrored_answers _ _ fun s => ?_
  repeat' with_reducible first
    | exact answers_next _
    | split
theorem execLineContention_answers (line : Fin 24) (s : State) : Answers (execLineContention line s) := by
  unfold execLineContention
  dsimp only
  repeat' with_reducible first
    | exact answers_next _
    | split
theorem execContentionRetry_answers (line : Fin 24) (s : State) : Answers (execContentionRetry line s) := by
  unfold execContentionRetry
  dsimp only
  repeat' with_reducible first
    | exact answers_next _
    | split
theorem execLineShort_answers (line : Fin 16) (s : State) : Answers (execLineShort line s) := by
  unfold execLineShort
  repeat' with_reducible first
    | exact answers_next _
    | split
theorem execShortClear_answers (line : Fin 16) (s : State) : Answers (execShortClear line s) := by
  unfold execShortClear
  repeat' with_reducible first
    | exact answers_next _
    | split
theorem execLineOpen_answers (line : Fin 24) (s : State) : Answers (execLineOpen line s) := by
  unfold execLineOpen
  repeat' with_reducible first
    | exact answers_next _
    | split
theorem execOpenClear_answers (line : Fin 24) (s : State) : Answers (execOpenClear line s) := by
  unfold execOpenClear
  dsimp only
  repeat' with_reducible first
    | exact answers_next _
    | split
theorem execIdleCheck_answers (line : Fin 24) (v : Word) (s : State) : Answers (execIdleCheck line v s) := by
  unfold execIdleCheck
  repeat' with_reducible first
    | exact answers_next _
    | split
theorem execLineFaultClear_answers (line : Fin 24) (v : Word) (s : State) : Answers (execLineFaultClear line v s) := by
  unfold execLineFaultClear
  repeat' with_reducible first
    | exact answers_next _
    | split
theorem execIdleCheckComplete_answers (line : Fin 24) (r : IdleResult) (s : State) : Answers (execIdleCheckComplete line r s) := by
  unfold execIdleCheckComplete
  dsimp only
  repeat' with_reducible first
    | exact answers_next _
    | split
theorem execSysrefGo_answers (n : Fin 4) (v : Word) (s : State) : Answers (execSysrefGo n v s) := by
  unfold execSysrefGo
  refine mirrored_answers _ _ fun s => ?_
  repeat' with_reducible first
    | exact answers_next _
    | split
theorem execSysrefEdge_answers (n : Fin 4) (s : State) : Answers (execSysrefEdge n s) := by
  unfold execSysrefEdge
  refine mirrored_answers _ _ fun s => ?_
  dsimp only
  repeat' with_reducible first
    | exact answers_next _
    | split
theorem execPairEnable_answers (v : Word) (f : PairFacts) (s : State) : Answers (execPairEnable v f s) := by
  unfold execPairEnable
  repeat' with_reducible first
    | exact answers_next _
    | split
theorem execTakeover_answers (v : Word) (s : State) : Answers (execTakeover v s) := by
  unfold execTakeover
  repeat' with_reducible first
    | exact answers_next _
    | split
theorem execRelease_answers (v : Word) (fenceIn : Bool) (s : State) : Answers (execRelease v fenceIn s) := by
  unfold execRelease
  repeat' with_reducible first
    | exact answers_next _
    | split
theorem execRejoin_answers (v : Word) (s : State) : Answers (execRejoin v s) := by
  unfold execRejoin
  repeat' with_reducible first
    | exact answers_next _
    | split
theorem execResync_answers (v : Word) (s : State) : Answers (execResync v s) := by
  unfold execResync
  repeat' with_reducible first
    | exact answers_next _
    | split
theorem execPairSyncComplete_answers (s : State) : Answers (execPairSyncComplete s) := by
  unfold execPairSyncComplete
  repeat' with_reducible first
    | exact answers_next _
    | split
theorem execMirrorChange_answers (position : Nat) (ch : Change) (s : State) : Answers (execMirrorChange position ch s) := by
  unfold execMirrorChange
  repeat' with_reducible first
    | exact answers_next _
    | split
theorem execMirrorAck_answers (position : Nat) (s : State) : Answers (execMirrorAck position s) := by
  unfold execMirrorAck
  repeat' with_reducible first
    | exact answers_next _
    | split
theorem execHeartbeatSend_answers (s : State) : Answers (execHeartbeatSend s) := by
  unfold execHeartbeatSend
  repeat' with_reducible first
    | exact answers_next _
    | split
theorem execHeartbeatReceived_answers (h : Heartbeat) (s : State) : Answers (execHeartbeatReceived h s) := by
  unfold execHeartbeatReceived
  dsimp only
  repeat' with_reducible first
    | exact answers_next _
    | split
theorem execHeartbeatMiss_answers (s : State) : Answers (execHeartbeatMiss s) := by
  unfold execHeartbeatMiss
  dsimp only
  repeat' with_reducible first
    | exact answers_next _
    | split
theorem execPrimaryAlone_answers (s : State) : Answers (execPrimaryAlone s) := by
  unfold execPrimaryAlone
  dsimp only
  repeat' with_reducible first
    | exact answers_next _
    | split
theorem execFenceReadback_answers (high : Bool) (s : State) : Answers (execFenceReadback high s) := by
  unfold execFenceReadback
  repeat' with_reducible first
    | exact answers_next _
    | split
theorem execFenceIn_answers (both : Bool) (s : State) : Answers (execFenceIn both s) := by
  unfold execFenceIn
  dsimp only
  repeat' with_reducible first
    | exact answers_next _
    | split
theorem execTakeoverSettle_answers (ctxs : List TakeoverCtx) (s : State) : Answers (execTakeoverSettle ctxs s) := by
  unfold execTakeoverSettle
  dsimp only
  repeat' with_reducible first
    | exact answers_next _
    | refine mirrored_answers _ _ fun s => ?_
    | split
theorem execKeyLoad_answers (n : Fin 8) (sender : Sender) (v : Word) (s : State) : Answers (execKeyLoad n sender v s) := by
  unfold execKeyLoad
  repeat' with_reducible first
    | exact answers_next _
    | split
theorem execKeyErase_answers (n : Fin 8) (sender : Sender) (v : Word) (s : State) : Answers (execKeyErase n sender v s) := by
  unfold execKeyErase
  repeat' with_reducible first
    | exact answers_next _
    | split
theorem execRegionEnable_answers (n : Fin 8) (r : Fin 8) (v : Word) (s : State) : Answers (execRegionEnable n r v s) := by
  unfold execRegionEnable
  repeat' with_reducible first
    | exact answers_next _
    | split
theorem execRegionDisable_answers (n : Fin 8) (r : Fin 8) (v : Word) (s : State) : Answers (execRegionDisable n r v s) := by
  unfold execRegionDisable
  repeat' with_reducible first
    | exact answers_next _
    | split
theorem execInitGo_answers (n : Fin 8) (r : Fin 8) (v : Word) (s : State) : Answers (execInitGo n r v s) := by
  unfold execInitGo
  repeat' with_reducible first
    | exact answers_next _
    | split
theorem execInitComplete_answers (n : Fin 8) (r : Fin 8) (s : State) : Answers (execInitComplete n r s) := by
  unfold execInitComplete
  dsimp only
  repeat' with_reducible first
    | exact answers_next _
    | split
theorem execNodeFetch_answers (n : Fin 8) (r : Fin 8) (level : Fin 9) (index : BitVec 26) (good fromCache : Bool) (s : State) : Answers (execNodeFetch n r level index good fromCache s) := by
  unfold execNodeFetch
  dsimp only
  repeat' with_reducible first
    | exact answers_next _
    | split
theorem execReencryptionComplete_answers (n : Fin 8) (r : Fin 8) (group : Nat) (failed : List (Fin 64)) (s : State) : Answers (execReencryptionComplete n r group failed s) := by
  unfold execReencryptionComplete
  dsimp only
  repeat' with_reducible first
    | exact answers_next _
    | split
theorem execDefine_answers (n : Fin 64) (v : Word) (s : State) : Answers (execDefine n v s) := by
  unfold execDefine
  repeat' with_reducible first
    | exact answers_next _
    | split
theorem execUndefine_answers (n : Fin 64) (v : Word) (s : State) : Answers (execUndefine n v s) := by
  unfold execUndefine
  repeat' with_reducible first
    | exact answers_next _
    | split
theorem execSwapNow_answers (n : Fin 64) (v : Word) (swapClk : Bool) (s : State) : Answers (execSwapNow n v swapClk s) := by
  unfold execSwapNow
  repeat' with_reducible first
    | exact answers_next _
    | split
theorem execSwapAt_answers (n : Fin 64) (v : Word) (swapClk : Bool) (s : State) : Answers (execSwapAt n v swapClk s) := by
  unfold execSwapAt
  repeat' with_reducible first
    | exact answers_next _
    | split
theorem execCancel_answers (n : Fin 64) (v : Word) (s : State) : Answers (execCancel n v s) := by
  unfold execCancel
  repeat' with_reducible first
    | exact answers_next _
    | split
theorem execResetHold_answers (n : Fin 64) (v : Word) (s : State) : Answers (execResetHold n v s) := by
  unfold execResetHold
  repeat' with_reducible first
    | exact answers_next _
    | split
theorem execResetRelease_answers (n : Fin 64) (v : Word) (s : State) : Answers (execResetRelease n v s) := by
  unfold execResetRelease
  repeat' with_reducible first
    | exact answers_next _
    | split
theorem execClear_answers (n : Fin 64) (v : Word) (s : State) : Answers (execClear n v s) := by
  unfold execClear
  repeat' with_reducible first
    | exact answers_next _
    | split
theorem execRefill_answers (n : Fin 64) (v : Word) (s : State) : Answers (execRefill n v s) := by
  unfold execRefill
  repeat' with_reducible first
    | exact answers_next _
    | split
theorem execClearComplete_answers (n : Fin 64) (s : State) : Answers (execClearComplete n s) := by
  unfold execClearComplete
  dsimp only
  repeat' with_reducible first
    | exact answers_next _
    | split
theorem execDrainStart_answers (n : Fin 64) (s : State) : Answers (execDrainStart n s) := by
  unfold execDrainStart
  dsimp only
  repeat' with_reducible first
    | exact answers_next _
    | split
theorem execDrainComplete_answers (n : Fin 64) (s : State) : Answers (execDrainComplete n s) := by
  unfold execDrainComplete
  dsimp only
  repeat' with_reducible first
    | exact answers_next _
    | split
theorem execDrainTimeout_answers (n : Fin 64) (s : State) : Answers (execDrainTimeout n s) := by
  unfold execDrainTimeout
  dsimp only
  repeat' with_reducible first
    | exact answers_next _
    | split
theorem execSwapFreeze_answers (n : Fin 64) (s : State) : Answers (execSwapFreeze n s) := by
  unfold execSwapFreeze
  dsimp only
  repeat' with_reducible first
    | exact answers_next _
    | split
theorem execSwapFlip_answers (n : Fin 64) (edge : Time) (s : State) : Answers (execSwapFlip n edge s) := by
  unfold execSwapFlip
  dsimp only
  repeat' with_reducible first
    | exact answers_next _
    | split
theorem execSwapRelease_answers (n : Fin 64) (s : State) : Answers (execSwapRelease n s) := by
  unfold execSwapRelease
  repeat' with_reducible first
    | exact answers_next _
    | split
theorem execSwapClockLost_answers (n : Fin 64) (s : State) : Answers (execSwapClockLost n s) := by
  unfold execSwapClockLost
  dsimp only
  repeat' with_reducible first
    | exact answers_next _
    | split
theorem execContentFrame_answers (n : Fin 64) (addr : Word) (f : Frame) (readOk tagOk : Bool) (s : State) : Answers (execContentFrame n addr f readOk tagOk s) := by
  unfold execContentFrame
  dsimp only
  repeat' with_reducible first
    | exact answers_next _
    | split
theorem execContentPhaseEnd_answers (n : Fin 64) (s : State) : Answers (execContentPhaseEnd n s) := by
  unfold execContentPhaseEnd
  dsimp only
  repeat' with_reducible first
    | exact answers_next _
    | split
theorem execDmcEnable_answers (n : Fin 8) (v : Word) (s : State) : Answers (execDmcEnable n v s) := by
  unfold execDmcEnable
  repeat' with_reducible first
    | exact answers_next _
    | split
theorem execDmcDisable_answers (n : Fin 8) (v : Word) (s : State) : Answers (execDmcDisable n v s) := by
  unfold execDmcDisable
  repeat' with_reducible first
    | exact answers_next _
    | split
theorem execTrainingRecordRead_answers (n : Fin 8) (ids : List Byte) (eyeOk : Bool) (s : State) : Answers (execTrainingRecordRead n ids eyeOk s) := by
  unfold execTrainingRecordRead
  dsimp only
  repeat' with_reducible first
    | exact answers_next _
    | split
theorem execTrainingStepEnd_answers (n : Fin 8) (pass : Bool) (density : BitVec 2) (width : BitVec 1) (answered : BitVec 2) (ids settings : List Byte) (s : State) : Answers (execTrainingStepEnd n pass density width answered ids settings s) := by
  unfold execTrainingStepEnd
  dsimp only
  repeat' with_reducible first
    | exact answers_next _
    | split
theorem execDramRequest_answers (n : Fin 8) (p : Packet) (s : State) : Answers (execDramRequest n p s) := by
  unfold execDramRequest
  dsimp only
  repeat' with_reducible first
    | exact answers_next _
    | split
theorem execDramCommandSlot_answers (n : Fin 8) (s : State) : Answers (execDramCommandSlot n s) := by
  unfold execDramCommandSlot
  dsimp only
  repeat' with_reducible first
    | exact answers_next _
    | split
theorem execDramReadData_answers (n : Fin 8) (entry : Nat) (upset : List (BitVec 80)) (s : State) : Answers (execDramReadData n entry upset s) := by
  unfold execDramReadData
  dsimp only
  repeat' with_reducible first
    | exact answers_next _
    | split
theorem execAgePromotion_answers (n : Fin 8) (entry : Nat) (s : State) : Answers (execAgePromotion n entry s) := by
  unfold execAgePromotion
  dsimp only
  repeat' with_reducible first
    | exact answers_next _
    | split
theorem execRefreshInterval_answers (n : Fin 8) (rank : Fin 2) (s : State) : Answers (execRefreshInterval n rank s) := by
  unfold execRefreshInterval
  dsimp only
  repeat' with_reducible first
    | exact answers_next _
    | split
theorem execMr4Poll_answers (n : Fin 8) (rank : Fin 2) (doubled : Bool) (s : State) : Answers (execMr4Poll n rank doubled s) := by
  unfold execMr4Poll
  repeat' with_reducible first
    | exact answers_next _
    | split
theorem execPatrolRead_answers (n : Fin 8) (upset : List (BitVec 80)) (s : State) : Answers (execPatrolRead n upset s) := by
  unfold execPatrolRead
  dsimp only
  repeat' with_reducible first
    | exact answers_next _
    | split
theorem execCeWindowEnd_answers (n : Fin 8) (s : State) : Answers (execCeWindowEnd n s) := by
  unfold execCeWindowEnd
  repeat' with_reducible first
    | exact answers_next _
    | split
theorem execCeRateWrite_answers (n : Fin 8) (v : Word) (s : State) : Answers (execCeRateWrite n v s) := by
  unfold execCeRateWrite
  repeat' with_reducible first
    | exact answers_next _
    | split
theorem execDqsTrack_answers (n : Fin 8) (rank : Fin 2) (change : Int) (s : State) : Answers (execDqsTrack n rank change s) := by
  unfold execDqsTrack
  repeat' with_reducible first
    | exact answers_next _
    | split
theorem execZqCal_answers (_n : Fin 8) (_rank : Fin 2) (s : State) : Answers (execZqCal _n _rank s) := by
  unfold execZqCal
  repeat' with_reducible first
    | exact answers_next _
    | split
theorem execTrackNow_answers (n : Fin 8) (v : Word) (s : State) : Answers (execTrackNow n v s) := by
  unfold execTrackNow
  repeat' with_reducible first
    | exact answers_next _
    | split
theorem execRetrain_answers (n : Fin 8) (v : Word) (s : State) : Answers (execRetrain n v s) := by
  unfold execRetrain
  repeat' with_reducible first
    | exact answers_next _
    | split
theorem execRetrainCancel_answers (n : Fin 8) (v : Word) (s : State) : Answers (execRetrainCancel n v s) := by
  unfold execRetrainCancel
  repeat' with_reducible first
    | exact answers_next _
    | split
theorem execPatrolRestart_answers (n : Fin 8) (v : Word) (s : State) : Answers (execPatrolRestart n v s) := by
  unfold execPatrolRestart
  repeat' with_reducible first
    | exact answers_next _
    | split
theorem execRetrainStart_answers (n : Fin 8) (s : State) : Answers (execRetrainStart n s) := by
  unfold execRetrainStart
  dsimp only
  repeat' with_reducible first
    | exact answers_next _
    | split
theorem execRetrainComplete_answers (n : Fin 8) (s : State) : Answers (execRetrainComplete n s) := by
  unfold execRetrainComplete
  dsimp only
  repeat' with_reducible first
    | exact answers_next _
    | split
theorem execRetrainTimeout_answers (n : Fin 8) (s : State) : Answers (execRetrainTimeout n s) := by
  unfold execRetrainTimeout
  repeat' with_reducible first
    | exact answers_next _
    | split
theorem execQpllApply_answers (q : Fin 12) (b : Bool) (refKhz : Nat) (v : Word) (s : State) : Answers (execQpllApply q b refKhz v s) := by
  unfold execQpllApply
  repeat' with_reducible first
    | exact answers_next _
    | split
theorem execQpllLock_answers (q : Fin 12) (b : Bool) (s : State) : Answers (execQpllLock q b s) := by
  unfold execQpllLock
  repeat' with_reducible first
    | exact answers_next _
    | split
theorem execQpllLockLost_answers (q : Fin 12) (b : Bool) (s : State) : Answers (execQpllLockLost q b s) := by
  unfold execQpllLockLost
  repeat' with_reducible first
    | exact answers_next _
    | split
theorem execBlockLock_answers (lane : Fin 48) (position : Fin 66) (s : State) : Answers (execBlockLock lane position s) := by
  unfold execBlockLock
  dsimp only
  repeat' with_reducible first
    | exact answers_next _
    | split
theorem execLockLoss_answers (lane : Fin 48) (s : State) : Answers (execLockLoss lane s) := by
  unfold execLockLoss
  dsimp only
  repeat' with_reducible first
    | exact answers_next _
    | split
theorem execCommaAlign_answers (lane : Fin 48) (position : Fin 10) (s : State) : Answers (execCommaAlign lane position s) := by
  unfold execCommaAlign
  dsimp only
  repeat' with_reducible first
    | exact answers_next _
    | split
theorem execFecCodeword_answers (lane : Fin 48) (symbolErrors : Nat) (s : State) : Answers (execFecCodeword lane symbolErrors s) := by
  unfold execFecCodeword
  dsimp only
  repeat' with_reducible first
    | exact answers_next _
    | split
theorem execElasticBufferError_answers (lane : Fin 48) (s : State) : Answers (execElasticBufferError lane s) := by
  unfold execElasticBufferError
  repeat' with_reducible first
    | exact answers_next _
    | split
theorem execGridStrobe_answers (lane : Fin 48) (tx : Bool) (fill : Fin 65) (s : State) : Answers (execGridStrobe lane tx fill s) := by
  unfold execGridStrobe
  dsimp only
  repeat' with_reducible first
    | exact answers_next _
    | split
theorem execGroupDefine_answers (lane : Fin 48) (v : Word) (s : State) : Answers (execGroupDefine lane v s) := by
  unfold execGroupDefine
  repeat' with_reducible first
    | exact answers_next _
    | split
theorem execLtsBlock_answers (lane : Fin 48) (b : Lts) (s : State) : Answers (execLtsBlock lane b s) := by
  unfold execLtsBlock
  dsimp only
  repeat' with_reducible first
    | exact answers_next _
    | split
theorem execRateSwitch_answers (lane : Fin 48) (s : State) : Answers (execRateSwitch lane s) := by
  unfold execRateSwitch
  dsimp only
  repeat' with_reducible first
    | exact answers_next _
    | split
theorem execStepRetrainTimeout_answers (lane : Fin 48) (s : State) : Answers (execStepRetrainTimeout lane s) := by
  unfold execStepRetrainTimeout
  dsimp only
  repeat' with_reducible first
    | exact answers_next _
    | split
theorem execGroupTrainTimeout_answers (lane : Fin 48) (s : State) : Answers (execGroupTrainTimeout lane s) := by
  unfold execGroupTrainTimeout
  dsimp only
  repeat' with_reducible first
    | exact answers_next _
    | split
theorem execGroupRetry_answers (lane : Fin 48) (s : State) : Answers (execGroupRetry lane s) := by
  unfold execGroupRetry
  repeat' with_reducible first
    | exact answers_next _
    | split
theorem execGroupLockLossTimeout_answers (lane : Fin 48) (s : State) : Answers (execGroupLockLossTimeout lane s) := by
  unfold execGroupLockLossTimeout
  dsimp only
  repeat' with_reducible first
    | exact answers_next _
    | split
theorem execLaneCfgWrite_answers (lane : Fin 48) (v : Word) (s : State) : Answers (execLaneCfgWrite lane v s) := by
  unfold execLaneCfgWrite
  repeat' with_reducible first
    | exact answers_next _
    | split
theorem execPstateRequest_answers (lane : Fin 48) (v : Word) (s : State) : Answers (execPstateRequest lane v s) := by
  unfold execPstateRequest
  repeat' with_reducible first
    | exact answers_next _
    | split
theorem execPstateTransitionComplete_answers (lane : Fin 48) (s : State) : Answers (execPstateTransitionComplete lane s) := by
  unfold execPstateTransitionComplete
  dsimp only
  repeat' with_reducible first
    | exact answers_next _
    | split
theorem execTxFault_answers (lane : Fin 48) (s : State) : Answers (execTxFault lane s) := by
  unfold execTxFault
  dsimp only
  repeat' with_reducible first
    | exact answers_next _
    | split
theorem execTxFaultRetry_answers (lane : Fin 48) (s : State) : Answers (execTxFaultRetry lane s) := by
  unfold execTxFaultRetry
  dsimp only
  repeat' with_reducible first
    | exact answers_next _
    | split
theorem execReceiverDetect_answers (lane : Fin 48) (found : Bool) (s : State) : Answers (execReceiverDetect lane found s) := by
  unfold execReceiverDetect
  dsimp only
  repeat' with_reducible first
    | exact answers_next _
    | split
theorem execLossOfSignal_answers (lane : Fin 48) (s : State) : Answers (execLossOfSignal lane s) := by
  unfold execLossOfSignal
  dsimp only
  repeat' with_reducible first
    | exact answers_next _
    | split
theorem execSignalReturn_answers (lane : Fin 48) (s : State) : Answers (execSignalReturn lane s) := by
  unfold execSignalReturn
  dsimp only
  repeat' with_reducible first
    | exact answers_next _
    | split
theorem execLaneFaultClear_answers (lane : Fin 48) (v : Word) (s : State) : Answers (execLaneFaultClear lane v s) := by
  unfold execLaneFaultClear
  repeat' with_reducible first
    | exact answers_next _
    | split
theorem execLaneCal_answers (lane : Fin 48) (v : Word) (s : State) : Answers (execLaneCal lane v s) := by
  unfold execLaneCal
  repeat' with_reducible first
    | exact answers_next _
    | split
theorem execLaneCalComplete_answers (lane : Fin 48) (s : State) : Answers (execLaneCalComplete lane s) := by
  unfold execLaneCalComplete
  repeat' with_reducible first
    | exact answers_next _
    | split
theorem execPrbsCheckerLock_answers (lane : Fin 48) (inverted relock : Bool) (s : State) : Answers (execPrbsCheckerLock lane inverted relock s) := by
  unfold execPrbsCheckerLock
  dsimp only
  repeat' with_reducible first
    | exact answers_next _
    | split
theorem execEyeScan_answers (lane : Fin 48) (v : Word) (s : State) : Answers (execEyeScan lane v s) := by
  unfold execEyeScan
  repeat' with_reducible first
    | exact answers_next _
    | split
theorem execEyeScanComplete_answers (lane : Fin 48) (count : BitVec 48) (s : State) : Answers (execEyeScanComplete lane count s) := by
  unfold execEyeScanComplete
  repeat' with_reducible first
    | exact answers_next _
    | split
theorem execLaneFiArm_answers (lane : Fin 48) (v : Word) (s : State) : Answers (execLaneFiArm lane v s) := by
  unfold execLaneFiArm
  repeat' with_reducible first
    | exact answers_next _
    | split
theorem execFaultEntry_answers (e : FaultRec) (s : State) : Answers (execFaultEntry e s) := by
  unfold execFaultEntry
  repeat' with_reducible first
    | exact answers_next _
    | split
theorem execRingIntake_answers (s : State) : Answers (execRingIntake s) := by
  unfold execRingIntake
  repeat' with_reducible first
    | exact answers_next _
    | split
theorem execFlushTimer_answers (s : State) : Answers (execFlushTimer s) := by
  unfold execFlushTimer
  repeat' with_reducible first
    | exact answers_next _
    | split
theorem execFlushComplete_answers (ok : Bool) (s : State) : Answers (execFlushComplete ok s) := by
  unfold execFlushComplete
  dsimp only
  repeat' with_reducible first
    | exact answers_next _
    | split
theorem execPageEraseComplete_answers (ok : Bool) (s : State) : Answers (execPageEraseComplete ok s) := by
  unfold execPageEraseComplete
  dsimp only
  repeat' with_reducible first
    | exact answers_next _
    | split
theorem execFlushNow_answers (v : Word) (s : State) : Answers (execFlushNow v s) := by
  unfold execFlushNow
  repeat' with_reducible first
    | exact answers_next _
    | split
theorem execLogEnable_answers (v : Word) (s : State) : Answers (execLogEnable v s) := by
  unfold execLogEnable
  repeat' with_reducible first
    | exact answers_next _
    | split
theorem execLogScanComplete_answers (s : State) : Answers (execLogScanComplete s) := by
  unfold execLogScanComplete
  dsimp only
  repeat' with_reducible first
    | exact answers_next _
    | split
theorem execFltEntRead_answers (s : State) : Answers (execFltEntRead s) := by
  unfold execFltEntRead
  repeat' with_reducible first
    | exact answers_next _
    | split
theorem execPowerFailWarning_answers (s : State) : Answers (execPowerFailWarning s) := by
  unfold execPowerFailWarning
  dsimp only
  repeat' with_reducible first
    | exact answers_next _
    | split
theorem execPowerFailClear_answers (s : State) : Answers (execPowerFailClear s) := by
  unfold execPowerFailClear
  repeat' with_reducible first
    | exact answers_next _
    | split
theorem execScrubSlot_answers (s : State) : Answers (execScrubSlot s) := by
  unfold execScrubSlot
  dsimp only
  repeat' with_reducible first
    | exact answers_next _
    | split
theorem execRepairReadResponse_answers (ok : Bool) (frame : Frame) (s : State) : Answers (execRepairReadResponse ok frame s) := by
  unfold execRepairReadResponse
  repeat' with_reducible first
    | exact answers_next _
    | split
theorem execRefillFrame_answers (n : Fin 64) (s : State) : Answers (execRefillFrame n s) := by
  unfold execRefillFrame
  dsimp only
  repeat' with_reducible first
    | exact answers_next _
    | split
theorem execProgNAssert_answers (s : State) : Answers (execProgNAssert s) := by
  unfold execProgNAssert
  repeat' with_reducible first
    | exact answers_next _
    | split
theorem execProgNRelease_answers (bootMode : BitVec 3) (s : State) : Answers (execProgNRelease bootMode s) := by
  unfold execProgNRelease
  repeat' with_reducible first
    | exact answers_next _
    | split
theorem execProg_answers (v : Word) (s : State) : Answers (execProg v s) := by
  unfold execProg
  repeat' with_reducible first
    | exact answers_next _
    | split
theorem execBootStart_answers (bootMode : BitVec 3) (s : State) : Answers (execBootStart bootMode s) := by
  unfold execBootStart
  repeat' with_reducible first
    | exact answers_next _
    | split
theorem execLoadGo_answers (v : Word) (s : State) : Answers (execLoadGo v s) := by
  unfold execLoadGo
  repeat' with_reducible first
    | exact answers_next _
    | split
theorem execAbort_answers (v : Word) (s : State) : Answers (execAbort v s) := by
  unfold execAbort
  repeat' with_reducible first
    | exact answers_next _
    | split
theorem execSelftest_answers (v : Word) (s : State) : Answers (execSelftest v s) := by
  unfold execSelftest
  repeat' with_reducible first
    | exact answers_next _
    | split
theorem execSelftestComplete_answers (pass : Bool) (s : State) : Answers (execSelftestComplete pass s) := by
  unfold execSelftestComplete
  dsimp only
  repeat' with_reducible first
    | exact answers_next _
    | split
theorem execCfgDataWrite_answers (bytes : List Byte) (s : State) : Answers (execCfgDataWrite bytes s) := by
  unfold execCfgDataWrite
  repeat' with_reducible first
    | exact answers_next _
    | split
theorem execLoadDataTimeout_answers (s : State) : Answers (execLoadDataTimeout s) := by
  unfold execLoadDataTimeout
  repeat' with_reducible first
    | exact answers_next _
    | split
theorem execSourceReadResponse_answers (status : BitVec 4) (bytes : List Byte) (s : State) : Answers (execSourceReadResponse status bytes s) := by
  unfold execSourceReadResponse
  repeat' with_reducible first
    | exact answers_next _
    | split
theorem execImageHeader_answers (s : State) : Answers (execImageHeader s) := by
  unfold execImageHeader
  dsimp only
  repeat' with_reducible first
    | exact answers_next _
    | split
theorem execBulkClearComplete_answers (s : State) : Answers (execBulkClearComplete s) := by
  unfold execBulkClearComplete
  repeat' with_reducible first
    | exact answers_next _
    | split
theorem execSystemRecord_answers (s : State) : Answers (execSystemRecord s) := by
  unfold execSystemRecord
  dsimp only
  repeat' with_reducible first
    | exact answers_next _
    | split
theorem execGcmSegment_answers (s : State) : Answers (execGcmSegment s) := by
  unfold execGcmSegment
  dsimp only
  repeat' with_reducible first
    | exact answers_next _
    | split
theorem execSetfar_answers (s : State) : Answers (execSetfar s) := by
  unfold execSetfar
  repeat' with_reducible first
    | exact answers_next _
    | split
theorem execWrite_answers (s : State) : Answers (execWrite s) := by
  unfold execWrite
  repeat' with_reducible first
    | exact answers_next _
    | split
theorem execRepeatFrame_answers (s : State) : Answers (execRepeatFrame s) := by
  unfold execRepeatFrame
  repeat' with_reducible first
    | exact answers_next _
    | split
theorem execWreg_answers (s : State) : Answers (execWreg s) := by
  unfold execWreg
  repeat' with_reducible first
    | exact answers_next _
    | split
theorem execDynlist_answers (s : State) : Answers (execDynlist s) := by
  unfold execDynlist
  repeat' with_reducible first
    | exact answers_next _
    | split
theorem execNop_answers (s : State) : Answers (execNop s) := by
  unfold execNop
  repeat' with_reducible first
    | exact answers_next _
    | split
theorem execSync_answers (s : State) : Answers (execSync s) := by
  unfold execSync
  repeat' with_reducible first
    | exact answers_next _
    | split
theorem execEndStream_answers (s : State) : Answers (execEndStream s) := by
  unfold execEndStream
  repeat' with_reducible first
    | exact answers_next _
    | split
theorem execTrailerCheck_answers (s : State) : Answers (execTrailerCheck s) := by
  unfold execTrailerCheck
  dsimp only
  repeat' with_reducible first
    | exact answers_next _
    | split
theorem execSignatureVerified_answers (trailer : Bool) (s : State) : Answers (execSignatureVerified trailer s) := by
  unfold execSignatureVerified
  dsimp only
  repeat' with_reducible first
    | exact answers_next _
    | split
theorem execStartupPllRelocked_answers (s : State) : Answers (execStartupPllRelocked s) := by
  unfold execStartupPllRelocked
  dsimp only
  repeat' with_reducible first
    | exact answers_next _
    | split
theorem execFlashRead_answers (v : Word) (s : State) : Answers (execFlashRead v s) := by
  unfold execFlashRead
  repeat' with_reducible first
    | exact answers_next _
    | split
theorem execFlashProgram_answers (v : Word) (s : State) : Answers (execFlashProgram v s) := by
  unfold execFlashProgram
  repeat' with_reducible first
    | exact answers_next _
    | split
theorem execFlashErase4k_answers (v : Word) (s : State) : Answers (execFlashErase4k v s) := by
  unfold execFlashErase4k
  repeat' with_reducible first
    | exact answers_next _
    | split
theorem execFlashErase64k_answers (v : Word) (s : State) : Answers (execFlashErase64k v s) := by
  unfold execFlashErase64k
  repeat' with_reducible first
    | exact answers_next _
    | split
theorem execFlashCmdComplete_answers (ok : Bool) (bytes : List Byte) (s : State) : Answers (execFlashCmdComplete ok bytes s) := by
  unfold execFlashCmdComplete
  repeat' with_reducible first
    | exact answers_next _
    | split
theorem execBypass_answers (s : State) : Answers (execBypass s) := by
  unfold execBypass
  repeat' with_reducible first
    | exact answers_next _
    | split
theorem execIdcode_answers (s : State) : Answers (execIdcode s) := by
  unfold execIdcode
  repeat' with_reducible first
    | exact answers_next _
    | split
theorem execSamplePreload_answers (boundary : List Bool) (s : State) : Answers (execSamplePreload boundary s) := by
  unfold execSamplePreload
  repeat' with_reducible first
    | exact answers_next _
    | split
theorem execExtest_answers (s : State) : Answers (execExtest s) := by
  unfold execExtest
  repeat' with_reducible first
    | exact answers_next _
    | split
theorem execExtestPulse_answers (s : State) : Answers (execExtestPulse s) := by
  unfold execExtestPulse
  repeat' with_reducible first
    | exact answers_next _
    | split
theorem execExtestTrain_answers (s : State) : Answers (execExtestTrain s) := by
  unfold execExtestTrain
  repeat' with_reducible first
    | exact answers_next _
    | split
theorem execHighz_answers (s : State) : Answers (execHighz s) := by
  unfold execHighz
  repeat' with_reducible first
    | exact answers_next _
    | split
theorem execClamp_answers (s : State) : Answers (execClamp s) := by
  unfold execClamp
  repeat' with_reducible first
    | exact answers_next _
    | split
theorem execCfgIn_answers (bytes : List Byte) (s : State) : Answers (execCfgIn bytes s) := by
  unfold execCfgIn
  repeat' with_reducible first
    | exact answers_next _
    | split
theorem execFuseProg_answers (f : FuseField) (data : BitVec 512) (s : State) : Answers (execFuseProg f data s) := by
  unfold execFuseProg
  repeat' with_reducible first
    | exact answers_next _
    | split
theorem execLogicClockEdge_answers (t : LogicTarget) (s : State) (w : (Instr.logicClockEdge t).wellFormed) :
    Answers (execLogicClockEdge t s) := by
  simp only [Instr.wellFormed] at w
  unfold execLogicClockEdge
  cases t with
  | block col row cfg pins =>
    simp only [LogicTarget.fits, Bool.and_eq_true, decide_eq_true_eq] at w
    dsimp only
    rw [if_neg (by simp [w])]
    repeat' with_reducible first
      | exact answers_next _
      | split
  | laterals col north capture en used d =>
    simp only [LogicTarget.fits, decide_eq_true_eq] at w
    dsimp only
    rw [if_neg (by simp [w])]
    repeat' with_reducible first
      | exact answers_next _
      | split
theorem execNocRequestIssue_answers (i : IniPort) (r : NocReq) (l2Bad : Option CoreAccess) (s : State) : Answers (execNocRequestIssue i r l2Bad s) := by
  unfold execNocRequestIssue
  repeat' with_reducible first
    | exact answers_next _
    | split
theorem execQuayInitiatorRequest_answers (q : Fin 120) (isFence : Bool) (r : NocReq) (s : State) : Answers (execQuayInitiatorRequest q isFence r s) := by
  unfold execQuayInitiatorRequest
  dsimp only
  repeat' with_reducible first
    | exact answers_next _
    | split
theorem execFence_answers (i : IniPort) (tag : BitVec 12) (s : State) : Answers (execFence i tag s) := by
  unfold execFence
  repeat' with_reducible first
    | exact answers_next _
    | split
theorem execRouterPacket_answers (x : Fin 12) (y : Fin 6) (p : Packet) (s : State) : Answers (execRouterPacket x y p s) := by
  unfold execRouterPacket
  dsimp only
  repeat' with_reducible first
    | exact answers_next _
    | split
theorem execFiArm_answers (x : Fin 12) (y : Fin 6) (out : Fin 8) (v : Word) (s : State) : Answers (execFiArm x y out v s) := by
  unfold execFiArm
  repeat' with_reducible first
    | exact answers_next _
    | split
theorem execFiReorderTimeout_answers (x : Fin 12) (y : Fin 6) (out : Fin 8) (s : State) : Answers (execFiReorderTimeout x y out s) := by
  unfold execFiReorderTimeout
  dsimp only
  repeat' with_reducible first
    | exact answers_next _
    | split
theorem execHoldApply_answers (x : Fin 12) (y : Fin 6) (v : Word) (s : State) : Answers (execHoldApply x y v s) := by
  unfold execHoldApply
  repeat' with_reducible first
    | exact answers_next _
    | split
theorem execHoldApplied_answers (x : Fin 12) (y : Fin 6) (s : State) : Answers (execHoldApplied x y s) := by
  unfold execHoldApplied
  dsimp only
  repeat' with_reducible first
    | exact answers_next _
    | split
theorem execHoldTimeout_answers (x : Fin 12) (y : Fin 6) (s : State) : Answers (execHoldTimeout x y s) := by
  unfold execHoldTimeout
  dsimp only
  repeat' with_reducible first
    | exact answers_next _
    | split
theorem execDestinationPacket_answers (port : BitVec 10) (p : Packet) (s : State) : Answers (execDestinationPacket port p s) := by
  unfold execDestinationPacket
  refine mirrored_answers _ _ fun s => ?_
  repeat' with_reducible first
    | exact answers_next _
    | split
theorem execSequenceGapTimeout_answers (port : BitVec 10) (src : BitVec 10) (vc : BitVec 2) (s : State) : Answers (execSequenceGapTimeout port src vc s) := by
  unfold execSequenceGapTimeout
  refine mirrored_answers _ _ fun s => ?_
  dsimp only
  repeat' with_reducible first
    | exact answers_next _
    | split
theorem execNocResponse_answers (i : IniPort) (p : Packet) (s : State) : Answers (execNocResponse i p s) := by
  unfold execNocResponse
  dsimp only
  repeat' with_reducible first
    | exact answers_next _
    | split
theorem execInitiatorTimeout_answers (i : IniPort) (tag : BitVec 12) (s : State) : Answers (execInitiatorTimeout i tag s) := by
  unfold execInitiatorTimeout
  dsimp only
  repeat' with_reducible first
    | exact answers_next _
    | split
theorem execTagRelease_answers (i : IniPort) (tag : BitVec 12) (s : State) : Answers (execTagRelease i tag s) := by
  unfold execTagRelease
  repeat' with_reducible first
    | exact answers_next _
    | split
theorem execNoticeReceived_answers (i : IniPort) (p : Packet) (s : State) : Answers (execNoticeReceived i p s) := by
  unfold execNoticeReceived
  repeat' with_reducible first
    | exact answers_next _
    | split
theorem execPortClosed_answers (port : BitVec 10) (s : State) : Answers (execPortClosed port s) := by
  unfold execPortClosed
  dsimp only
  repeat' with_reducible first
    | exact answers_next _
    | split
theorem execPortForceClose_answers (port : BitVec 10) (s : State) : Answers (execPortForceClose port s) := by
  unfold execPortForceClose
  dsimp only
  repeat' with_reducible first
    | exact answers_next _
    | split
theorem execQuayTargetResponse_answers (q : Fin 120) (tag : BitVec 8) (err : Bool) (data : List Line) (s : State) : Answers (execQuayTargetResponse q tag err data s) := by
  unfold execQuayTargetResponse
  dsimp only
  repeat' with_reducible first
    | exact answers_next _
    | split
theorem execLinkUp_answers (rate : BitVec 3) (width : BitVec 5) (flit : Bool) (s : State) : Answers (execLinkUp rate width flit s) := by
  unfold execLinkUp
  repeat' with_reducible first
    | exact answers_next _
    | split
theorem execLinkDown_answers (s : State) : Answers (execLinkDown s) := by
  unfold execLinkDown
  refine mirrored_answers _ _ fun s => ?_
  repeat' with_reducible first
    | exact answers_next _
    | split
theorem execAspmL1Entry_answers (sub : Fin 3) (s : State) : Answers (execAspmL1Entry sub s) := by
  unfold execAspmL1Entry
  repeat' with_reducible first
    | exact answers_next _
    | split
theorem execL1Exit_answers (s : State) : Answers (execL1Exit s) := by
  unfold execL1Exit
  repeat' with_reducible first
    | exact answers_next _
    | split
theorem execLtrSend_answers (s : State) : Answers (execLtrSend s) := by
  unfold execLtrSend
  repeat' with_reducible first
    | exact answers_next _
    | split
theorem execFlr_answers (f : Fn) (s : State) : Answers (execFlr f s) := by
  unfold execFlr
  refine mirrored_answers _ _ fun s => ?_
  repeat' with_reducible first
    | exact answers_next _
    | split
theorem execInBandReset_answers (s : State) : Answers (execInBandReset s) := by
  unfold execInBandReset
  refine mirrored_answers _ _ fun s => ?_
  repeat' with_reducible first
    | exact answers_next _
    | split
theorem execFlrComplete_answers (f : Fn) (s : State) : Answers (execFlrComplete f s) := by
  unfold execFlrComplete
  repeat' with_reducible first
    | exact answers_next _
    | split
theorem execHostConfigWrite_answers (f : Fn) (w : CfgWrite) (s : State) : Answers (execHostConfigWrite f w s) := by
  unfold execHostConfigWrite
  refine mirrored_answers _ _ fun s => ?_
  dsimp only
  repeat' with_reducible first
    | exact answers_next _
    | split
theorem execMsixUnmask_answers (f : Fn) (vector : BitVec 11) (s : State) : Answers (execMsixUnmask f vector s) := by
  unfold execMsixUnmask
  dsimp only
  repeat' with_reducible first
    | exact answers_next _
    | split
theorem execFunctionReachable_answers (f : Fn) (s : State) : Answers (execFunctionReachable f s) := by
  unfold execFunctionReachable
  refine mirrored_answers _ _ fun s => ?_
  dsimp only
  repeat' with_reducible first
    | exact answers_next _
    | split
theorem execHostRequest_answers (f : Fn) (bar : Fin 5) (isWrite : Bool) (off : BitVec 38) (len : Fin 4097) (data : List Byte)
    (s : State) (w : (Instr.hostRequest f bar isWrite off len data).wellFormed) :
    Answers (execHostRequest f bar isWrite off len data s) := by
  simp only [Instr.wellFormed, Bool.and_eq_true, Bool.or_eq_true, decide_eq_true_eq] at w
  unfold execHostRequest
  dsimp only
  rw [if_neg (by cases isWrite <;> simp_all <;> omega)]
  repeat' with_reducible first
    | exact answers_next _
    | split
theorem execHostCompletion_answers (id : Nat) (s : State) : Answers (execHostCompletion id s) := by
  unfold execHostCompletion
  repeat' with_reducible first
    | exact answers_next _
    | split
theorem execApertureAccess_answers (f : Fn) (off : BitVec 16) (isWrite : Bool) (bytes : Fin 9) (v : BitVec 64) (s : State)
    (w : (Instr.apertureAccess f off isWrite bytes v).wellFormed) : Answers (execApertureAccess f off isWrite bytes v s) := by
  simp only [Instr.wellFormed, decide_eq_true_eq] at w
  unfold execApertureAccess
  refine mirrored_answers _ _ fun s => ?_
  dsimp only
  rw [if_neg (by omega)]
  repeat' with_reducible first
    | exact answers_next _
    | split
theorem execSupplyInRange_answers (supply : Fin 11) (s : State) : Answers (execSupplyInRange supply s) := by
  unfold execSupplyInRange
  repeat' with_reducible first
    | exact answers_next _
    | split
theorem execSupplyFault_answers (supply : Fin 11) (s : State) : Answers (execSupplyFault supply s) := by
  unfold execSupplyFault
  dsimp only
  repeat' with_reducible first
    | exact answers_next _
    | split
theorem execSupplyRecovered_answers (s : State) : Answers (execSupplyRecovered s) := by
  unfold execSupplyRecovered
  repeat' with_reducible first
    | exact answers_next _
    | split
theorem execDomainClose_answers (d : DomId) (v : Word) (s : State) : Answers (execDomainClose d v s) := by
  unfold execDomainClose
  repeat' with_reducible first
    | exact answers_next _
    | split
theorem execDomainOpen_answers (d : DomId) (v : Word) (s : State) : Answers (execDomainOpen d v s) := by
  unfold execDomainOpen
  repeat' with_reducible first
    | exact answers_next _
    | split
theorem execDomainPowerOff_answers (d : DomId) (s : State) : Answers (execDomainPowerOff d s) := by
  unfold execDomainPowerOff
  repeat' with_reducible first
    | exact answers_next _
    | split
theorem execDomainOpened_answers (d : DomId) (s : State) : Answers (execDomainOpened d s) := by
  unfold execDomainOpened
  repeat' with_reducible first
    | exact answers_next _
    | split
theorem execSensorReading_answers (n : Fin 24) (eighths : Int) (s : State) : Answers (execSensorReading n eighths s) := by
  unfold execSensorReading
  repeat' with_reducible first
    | exact answers_next _
    | split
theorem execThrottleUpdate_answers (s : State) : Answers (execThrottleUpdate s) := by
  unfold execThrottleUpdate
  repeat' with_reducible first
    | exact answers_next _
    | split
theorem execThermalTrip_answers (n : Fin 24) (s : State) : Answers (execThermalTrip n s) := by
  unfold execThermalTrip
  repeat' with_reducible first
    | exact answers_next _
    | split
theorem execTripShutdown_answers (s : State) : Answers (execTripShutdown s) := by
  unfold execTripShutdown
  repeat' with_reducible first
    | exact answers_next _
    | split
theorem execSensorsFaultyTrip_answers (s : State) : Answers (execSensorsFaultyTrip s) := by
  unfold execSensorsFaultyTrip
  repeat' with_reducible first
    | exact answers_next _
    | split
theorem execAgeingSweep_answers (shifts : List (Fin 512 × Int)) (s : State) : Answers (execAgeingSweep shifts s) := by
  unfold execAgeingSweep
  repeat' with_reducible first
    | exact answers_next _
    | split
theorem execSweep_answers (v : Word) (s : State) : Answers (execSweep v s) := by
  unfold execSweep
  repeat' with_reducible first
    | exact answers_next _
    | split
theorem execSummarySave_answers (ok : Bool) (s : State) : Answers (execSummarySave ok s) := by
  unfold execSummarySave
  repeat' with_reducible first
    | exact answers_next _
    | split
theorem execPmbusTransaction_answers (tx : PmbusTx) (s : State) : Answers (execPmbusTransaction tx s) := by
  unfold execPmbusTransaction
  repeat' with_reducible first
    | exact answers_next _
    | split
theorem execPmbAlert_answers (word : BitVec 16) (s : State) : Answers (execPmbAlert word s) := by
  unfold execPmbAlert
  repeat' with_reducible first
    | exact answers_next _
    | split
theorem execPmbusRetry_answers (ok : Bool) (s : State) : Answers (execPmbusRetry ok s) := by
  unfold execPmbusRetry
  repeat' with_reducible first
    | exact answers_next _
    | split
theorem execRegisterWrite_answers (sender : Sender) (off : BitVec 26) (bytes : Fin 5) (v : Word) (s : State) : Answers (execRegisterWrite sender off bytes v s) := by
  unfold execRegisterWrite
  repeat' with_reducible first
    | exact answers_next _
    | refine mirrored_answers _ _ fun s => ?_
    | split
theorem execRcRead_answers (off : BitVec 26) (bytes : Fin 5) (s : State) : Answers (execRcRead off bytes s) := by
  unfold execRcRead
  repeat' with_reducible first
    | exact answers_next _
    | split
theorem execEvtClear_answers (page : BitVec 14) (v hwSet : Word) (s : State) : Answers (execEvtClear page v hwSet s) := by
  unfold execEvtClear
  repeat' with_reducible first
    | exact answers_next _
    | split
theorem execEvtForce_answers (page : BitVec 14) (v : Word) (s : State) : Answers (execEvtForce page v s) := by
  unfold execEvtForce
  repeat' with_reducible first
    | exact answers_next _
    | split
theorem execPageLockSet_answers (page : BitVec 14) (v : Word) (s : State) : Answers (execPageLockSet page v s) := by
  unfold execPageLockSet
  repeat' with_reducible first
    | exact answers_next _
    | split
theorem execVaonInRange_answers (pairRole : Bool) (twpAddr : BitVec 3) (s : State) : Answers (execVaonInRange pairRole twpAddr s) := by
  unfold execVaonInRange
  repeat' with_reducible first
    | exact answers_next _
    | split
theorem execPowerLoss_answers (s : State) : Answers (execPowerLoss s) := by
  unfold execPowerLoss
  repeat' with_reducible first
    | exact answers_next _
    | split
theorem execPciePerstNAssert_answers (s : State) : Answers (execPciePerstNAssert s) := by
  unfold execPciePerstNAssert
  repeat' with_reducible first
    | exact answers_next _
    | split
theorem execPciePerstNRelease_answers (s : State) : Answers (execPciePerstNRelease s) := by
  unfold execPciePerstNRelease
  repeat' with_reducible first
    | exact answers_next _
    | split
theorem execPorNAssert_answers (s : State) : Answers (execPorNAssert s) := by
  unfold execPorNAssert
  repeat' with_reducible first
    | exact answers_next _
    | split
theorem execPorNRelease_answers (s : State) : Answers (execPorNRelease s) := by
  unfold execPorNRelease
  repeat' with_reducible first
    | exact answers_next _
    | split
theorem execRootLockLost_answers (s : State) : Answers (execRootLockLost s) := by
  unfold execRootLockLost
  repeat' with_reducible first
    | exact answers_next _
    | split
theorem execBlkReset_answers (b : ResetBlock) (v : Word) (s : State) : Answers (execBlkReset b v s) := by
  unfold execBlkReset
  repeat' with_reducible first
    | exact answers_next _
    | split
theorem execBlockResetApply_answers (b : ResetBlock) (s : State) : Answers (execBlockResetApply b s) := by
  unfold execBlockResetApply
  repeat' with_reducible first
    | exact answers_next _
    | split
theorem execSliceClockEdge_answers (sl : SliceRef) (cfg : SliceCfg) (pins : SlicePins) (s : State)
    (w : (Instr.sliceClockEdge sl cfg pins).wellFormed) : Answers (execSliceClockEdge sl cfg pins s) := by
  simp only [Instr.wellFormed] at w
  unfold execSliceClockEdge
  rw [if_neg (by simp [w])]
  repeat' with_reducible first
    | exact answers_next _
    | split
theorem execGbrst_answers (sl : SliceRef) (edges : Nat) (s : State) : Answers (execGbrst sl edges s) := by
  unfold execGbrst
  repeat' with_reducible first
    | exact answers_next _
    | split
theorem execWinAddr_answers (v : Word) (pec : Option Bool) (s : State) : Answers (execWinAddr v pec s) := by
  unfold execWinAddr
  repeat' with_reducible first
    | exact answers_next _
    | split
theorem execWinWdata_answers (v : Word) (pec : Option Bool) (s : State) : Answers (execWinWdata v pec s) := by
  unfold execWinWdata
  repeat' with_reducible first
    | exact answers_next _
    | split
theorem execWinRdata_answers (s : State) : Answers (execWinRdata s) := by
  unfold execWinRdata
  dsimp only
  repeat' with_reducible first
    | exact answers_next _
    | split
theorem execTwpStat_answers (s : State) : Answers (execTwpStat s) := by
  unfold execTwpStat
  repeat' with_reducible first
    | exact answers_next _
    | split
theorem execId_answers (s : State) : Answers (execId s) := by
  unfold execId
  repeat' with_reducible first
    | exact answers_next _
    | split
theorem execSpiWrite_answers (word : BitVec 24) (data : List Word) (s : State) : Answers (execSpiWrite word data s) := by
  unfold execSpiWrite
  repeat' with_reducible first
    | exact answers_next _
    | split
theorem execSpiRead_answers (word : BitVec 24) (s : State) : Answers (execSpiRead word s) := by
  unfold execSpiRead
  repeat' with_reducible first
    | exact answers_next _
    | split
theorem execSpiStatus_answers (s : State) : Answers (execSpiStatus s) := by
  unfold execSpiStatus
  repeat' with_reducible first
    | exact answers_next _
    | split
theorem execSpiId_answers (s : State) : Answers (execSpiId s) := by
  unfold execSpiId
  repeat' with_reducible first
    | exact answers_next _
    | split
theorem execWindowAccessComplete_answers (t : Transport) (status : BitVec 4) (data : Word) (s : State) : Answers (execWindowAccessComplete t status data s) := by
  unfold execWindowAccessComplete
  repeat' with_reducible first
    | exact answers_next _
    | split
theorem execReset_answers (t : Transport) (v : Word) (s : State) : Answers (execReset t v s) := by
  unfold execReset
  repeat' with_reducible first
    | exact answers_next _
    | split
theorem execReconfigure_answers (t : Transport) (v : Word) (s : State) : Answers (execReconfigure t v s) := by
  unfold execReconfigure
  repeat' with_reducible first
    | exact answers_next _
    | split
theorem execWake_answers (t : Transport) (v : Word) (s : State) : Answers (execWake t v s) := by
  unfold execWake
  repeat' with_reducible first
    | exact answers_next _
    | split
theorem execAlertClear_answers (t : Transport) (v : Word) (s : State) : Answers (execAlertClear t v s) := by
  unfold execAlertClear
  repeat' with_reducible first
    | exact answers_next _
    | split
theorem execAlertResponse_answers (s : State) : Answers (execAlertResponse s) := by
  unfold execAlertResponse
  repeat' with_reducible first
    | exact answers_next _
    | split
theorem execSmbusTimeout_answers (s : State) : Answers (execSmbusTimeout s) := by
  unfold execSmbusTimeout
  repeat' with_reducible first
    | exact answers_next _
    | split
theorem execFwAlert_answers (v : Word) (s : State) : Answers (execFwAlert v s) := by
  unfold execFwAlert
  repeat' with_reducible first
    | exact answers_next _
    | split

/-- Every well-formed command answers a next state, in every state. -/
theorem exec_answers (i : Instr) (s : State) (fits : i.wellFormed) : Answers (exec i s) := by
  cases i with
  | vaonInRange pairRole twpAddr => exact execVaonInRange_answers pairRole twpAddr s
  | pciePerstNAssert => exact execPciePerstNAssert_answers s
  | pciePerstNRelease => exact execPciePerstNRelease_answers s
  | porNAssert => exact execPorNAssert_answers s
  | porNRelease => exact execPorNRelease_answers s
  | blkReset b v => exact execBlkReset_answers b v s
  | blockResetApply b => exact execBlockResetApply_answers b s
  | registerWrite sender off bytes v => exact execRegisterWrite_answers sender off bytes v s
  | rcRead off bytes => exact execRcRead_answers off bytes s
  | evtClear page v hwSet => exact execEvtClear_answers page v hwSet s
  | evtForce page v => exact execEvtForce_answers page v s
  | pageLockSet page v => exact execPageLockSet_answers page v s
  | memoryPortWrite m portB cfg pins => exact execMemoryPortWrite_answers m portB cfg pins s fits
  | memoryPortRead m portB cfg pins => exact execMemoryPortRead_answers m portB cfg pins s fits
  | narrowWrite m portB cfg pins => exact execNarrowWrite_answers m portB cfg pins s fits
  | clrv region inst => exact execClrv_answers region inst s
  | leakPeriod b => exact execLeakPeriod_answers b s
  | rolEntryFree b e v => exact execRolEntryFree_answers b e v s
  | remapEntrySet r v => exact execRemapEntrySet_answers r v s
  | remapEntryClear r v => exact execRemapEntryClear_answers r v s
  | eccInjectArm region v => exact execEccInjectArm_answers region v s
  | bistStart region v => exact execBistStart_answers region v s
  | bistComplete region failing => exact execBistComplete_answers region failing s
  | gbrst sl edges => exact execGbrst_answers sl edges s
  | thEnable v => exact execThEnable_answers v s
  | timeLoadGo v => exact execTimeLoadGo_answers v s
  | syncInEdge => exact execSyncInEdge_answers s
  | acceptStep v => exact execAcceptStep_answers v s
  | timeRead => exact execTimeRead_answers s
  | tlRoleWrite lane v => exact execTlRoleWrite_answers lane v s
  | layoutWrite r v => exact execLayoutWrite_answers r v s
  | tlBlockLock lane => exact execTlBlockLock_answers lane s
  | tlLockLost lane => exact execTlLockLost_answers lane s
  | xtlFrameReceived lane blocks arrival => exact execXtlFrameReceived_answers lane blocks arrival s fits
  | tlRejectRetry lane => exact execTlRejectRetry_answers lane s
  | xtlFrameSend lane => exact execXtlFrameSend_answers lane s
  | trigMessageReceived lane payload swapClk => exact execTrigMessageReceived_answers lane payload swapClk s
  | xtlSend v swapClk => exact execXtlSend_answers v swapClk s
  | calibrationAverageComplete => exact execCalibrationAverageComplete_answers s
  | rejoinMeasureComplete => exact execRejoinMeasureComplete_answers s
  | holdoverLimitReached => exact execHoldoverLimitReached_answers s
  | inputEdge ch rising t lasts => exact execInputEdge_answers ch rising t lasts s
  | stampDelivery ch => exact execStampDelivery_answers ch s
  | tdcCalTableReplace ch => exact execTdcCalTableReplace_answers ch s
  | tdcCalRestart v => exact execTdcCalRestart_answers v s
  | fabricEvent line t => exact execFabricEvent_answers line t s
  | outputRequest v => exact execOutputRequest_answers v s
  | outputActionDue o => exact execOutputActionDue_answers o s
  | pulseEnd o => exact execPulseEnd_answers o s
  | seqTableWrite s0 word v => exact execSeqTableWrite_answers s0 word v s
  | sequencerEventRelease s0 swapClk => exact execSequencerEventRelease_answers s0 swapClk s
  | sequencerTimerExpiry s0 => exact execSequencerTimerExpiry_answers s0 s
  | seqRun s0 v swapClk => exact execSeqRun_answers s0 v swapClk s
  | seqHalt s0 v => exact execSeqHalt_answers s0 v s
  | seqArm s0 v => exact execSeqArm_answers s0 v s
  | lineContention line => exact execLineContention_answers line s
  | contentionRetry line => exact execContentionRetry_answers line s
  | lineShort line => exact execLineShort_answers line s
  | shortClear line => exact execShortClear_answers line s
  | lineOpen line => exact execLineOpen_answers line s
  | openClear line => exact execOpenClear_answers line s
  | idleCheck line v => exact execIdleCheck_answers line v s
  | idleCheckComplete line r => exact execIdleCheckComplete_answers line r s
  | lineFaultClear line v => exact execLineFaultClear_answers line v s
  | sysrefGo n v => exact execSysrefGo_answers n v s
  | sysrefEdge n => exact execSysrefEdge_answers n s
  | ptmDialog dev host => exact execPtmDialog_answers dev host s
  | ptmStale => exact execPtmStale_answers s
  | oscReady => exact execOscReady_answers s
  | crystalReady => exact execCrystalReady_answers s
  | refclkReady at100 => exact execRefclkReady_answers at100 s
  | rootPllLock => exact execRootPllLock_answers s
  | thPllLock => exact execThPllLock_answers s
  | missingClock src => exact execMissingClock_answers src s
  | monitorGate g => exact execMonitorGate_answers g s
  | trimConverged code err => exact execTrimConverged_answers code err s
  | trimTrackStep up move err => exact execTrimTrackStep_answers up move err s
  | clkSelWrite v => exact execClkSelWrite_answers v s
  | clkSwitchComplete cfg => exact execClkSwitchComplete_answers cfg s
  | rootRelockComplete th => exact execRootRelockComplete_answers th s
  | rootLockLost => exact execRootLockLost_answers s
  | aonTimeRead => exact execAonTimeRead_answers s
  | cmtApply tile fpll inputKhz grade v => exact execCmtApply_answers tile fpll inputKhz grade v s
  | cmtReset tile fpll v => exact execCmtReset_answers tile fpll v s
  | cmtLock tile fpll => exact execCmtLock_answers tile fpll s
  | cmtLockLost tile fpll inputMissing => exact execCmtLockLost_answers tile fpll inputMissing s
  | phaseRequest tile fpll count => exact execPhaseRequest_answers tile fpll count s
  | phaseMoveComplete tile fpll => exact execPhaseMoveComplete_answers tile fpll s
  | trackSelect region track second running => exact execTrackSelect_answers region track second running s
  | trackInactive region track => exact execTrackInactive_answers region track s
  | progNAssert => exact execProgNAssert_answers s
  | progNRelease bootMode => exact execProgNRelease_answers bootMode s
  | prog v => exact execProg_answers v s
  | bootStart bootMode => exact execBootStart_answers bootMode s
  | loadGo v => exact execLoadGo_answers v s
  | abort v => exact execAbort_answers v s
  | selftest v => exact execSelftest_answers v s
  | selftestComplete pass => exact execSelftestComplete_answers pass s
  | imageHeader => exact execImageHeader_answers s
  | signatureVerified trailer => exact execSignatureVerified_answers trailer s
  | bulkClearComplete => exact execBulkClearComplete_answers s
  | systemRecord => exact execSystemRecord_answers s
  | gcmSegment => exact execGcmSegment_answers s
  | setfar => exact execSetfar_answers s
  | write => exact execWrite_answers s
  | repeatFrame => exact execRepeatFrame_answers s
  | wreg => exact execWreg_answers s
  | dynlist => exact execDynlist_answers s
  | nop => exact execNop_answers s
  | sync => exact execSync_answers s
  | endStream => exact execEndStream_answers s
  | trailerCheck => exact execTrailerCheck_answers s
  | startupPllRelocked => exact execStartupPllRelocked_answers s
  | cfgDataWrite bytes => exact execCfgDataWrite_answers bytes s
  | loadDataTimeout => exact execLoadDataTimeout_answers s
  | sourceReadResponse status bytes => exact execSourceReadResponse_answers status bytes s
  | flashRead v => exact execFlashRead_answers v s
  | flashProgram v => exact execFlashProgram_answers v s
  | flashErase4k v => exact execFlashErase4k_answers v s
  | flashErase64k v => exact execFlashErase64k_answers v s
  | flashCmdComplete ok bytes => exact execFlashCmdComplete_answers ok bytes s
  | define s0 v => exact execDefine_answers s0 v s
  | undefine s0 v => exact execUndefine_answers s0 v s
  | swapNow s0 v swapClk => exact execSwapNow_answers s0 v swapClk s
  | swapAt s0 v swapClk => exact execSwapAt_answers s0 v swapClk s
  | cancel s0 v => exact execCancel_answers s0 v s
  | resetHold s0 v => exact execResetHold_answers s0 v s
  | resetRelease s0 v => exact execResetRelease_answers s0 v s
  | clear s0 v => exact execClear_answers s0 v s
  | clearComplete s0 => exact execClearComplete_answers s0 s
  | refill s0 v => exact execRefill_answers s0 v s
  | drainStart s0 => exact execDrainStart_answers s0 s
  | drainComplete s0 => exact execDrainComplete_answers s0 s
  | drainTimeout s0 => exact execDrainTimeout_answers s0 s
  | swapFreeze s0 => exact execSwapFreeze_answers s0 s
  | swapFlip s0 edge => exact execSwapFlip_answers s0 edge s
  | swapRelease s0 => exact execSwapRelease_answers s0 s
  | swapClockLost s0 => exact execSwapClockLost_answers s0 s
  | contentFrame s0 addr frame readOk tagOk => exact execContentFrame_answers s0 addr frame readOk tagOk s
  | contentPhaseEnd s0 => exact execContentPhaseEnd_answers s0 s
  | scrubSlot => exact execScrubSlot_answers s
  | repairReadResponse ok frame => exact execRepairReadResponse_answers ok frame s
  | refillFrame s0 => exact execRefillFrame_answers s0 s
  | nocRequestIssue ini r l2Bad => exact execNocRequestIssue_answers ini r l2Bad s
  | routerPacket x y p => exact execRouterPacket_answers x y p s
  | destinationPacket port p => exact execDestinationPacket_answers port p s
  | sequenceGapTimeout port src vc => exact execSequenceGapTimeout_answers port src vc s
  | nocResponse ini p => exact execNocResponse_answers ini p s
  | initiatorTimeout ini tag => exact execInitiatorTimeout_answers ini tag s
  | tagRelease ini tag => exact execTagRelease_answers ini tag s
  | noticeReceived ini p => exact execNoticeReceived_answers ini p s
  | fence ini tag => exact execFence_answers ini tag s
  | holdApply x y v => exact execHoldApply_answers x y v s
  | holdApplied x y => exact execHoldApplied_answers x y s
  | holdTimeout x y => exact execHoldTimeout_answers x y s
  | portClosed port => exact execPortClosed_answers port s
  | portForceClose port => exact execPortForceClose_answers port s
  | fiArm x y out v => exact execFiArm_answers x y out v s
  | fiReorderTimeout x y out => exact execFiReorderTimeout_answers x y out s
  | quayInitiatorRequest q isFence r => exact execQuayInitiatorRequest_answers q isFence r s
  | quayTargetResponse q tag err data => exact execQuayTargetResponse_answers q tag err data s
  | dmcEnable n v => exact execDmcEnable_answers n v s
  | dmcDisable n v => exact execDmcDisable_answers n v s
  | trainingRecordRead n ids eyeOk => exact execTrainingRecordRead_answers n ids eyeOk s
  | trainingStepEnd n pass density width answered ids settings => exact execTrainingStepEnd_answers n pass density width answered ids settings s
  | dramRequest n p => exact execDramRequest_answers n p s
  | dramCommandSlot n => exact execDramCommandSlot_answers n s
  | dramReadData n entry upset => exact execDramReadData_answers n entry upset s
  | agePromotion n entry => exact execAgePromotion_answers n entry s
  | refreshInterval n rank => exact execRefreshInterval_answers n rank s
  | mr4Poll n rank doubled => exact execMr4Poll_answers n rank doubled s
  | patrolRead n upset => exact execPatrolRead_answers n upset s
  | ceWindowEnd n => exact execCeWindowEnd_answers n s
  | ceRateWrite n v => exact execCeRateWrite_answers n v s
  | dqsTrack n rank change => exact execDqsTrack_answers n rank change s
  | zqCal n rank => exact execZqCal_answers n rank s
  | trackNow n v => exact execTrackNow_answers n v s
  | retrain n v => exact execRetrain_answers n v s
  | retrainCancel n v => exact execRetrainCancel_answers n v s
  | patrolRestart n v => exact execPatrolRestart_answers n v s
  | retrainStart n => exact execRetrainStart_answers n s
  | retrainComplete n => exact execRetrainComplete_answers n s
  | retrainTimeout n => exact execRetrainTimeout_answers n s
  | keyLoad n sender v => exact execKeyLoad_answers n sender v s
  | keyErase n sender v => exact execKeyErase_answers n sender v s
  | regionEnable n r v => exact execRegionEnable_answers n r v s
  | regionDisable n r v => exact execRegionDisable_answers n r v s
  | initGo n r v => exact execInitGo_answers n r v s
  | initComplete n r => exact execInitComplete_answers n r s
  | nodeFetch n r level index good fromCache => exact execNodeFetch_answers n r level index good fromCache s
  | reencryptionComplete n r group failed => exact execReencryptionComplete_answers n r group failed s
  | linkUp rate width flit => exact execLinkUp_answers rate width flit s
  | linkDown => exact execLinkDown_answers s
  | inBandReset => exact execInBandReset_answers s
  | flr f => exact execFlr_answers f s
  | flrComplete f => exact execFlrComplete_answers f s
  | hostConfigWrite f w => exact execHostConfigWrite_answers f w s
  | msixUnmask f vector => exact execMsixUnmask_answers f vector s
  | l1Exit => exact execL1Exit_answers s
  | ltrSend => exact execLtrSend_answers s
  | hostRequest f bar isWrite off len data => exact execHostRequest_answers f bar isWrite off len data s fits
  | hostCompletion id => exact execHostCompletion_answers id s
  | contextEnable n v => exact execContextEnable_answers n v s
  | stop n v => exact execStop_answers n v s
  | restart n v => exact execRestart_answers n v s
  | contextDisable n v => exact execContextDisable_answers n v s
  | doorbell n v => exact execDoorbell_answers n v s
  | apertureAccess f off isWrite bytes v => exact execApertureAccess_answers f off isWrite bytes v s fits
  | engineIssueSlot portB upset => exact execEngineIssueSlot_answers portB upset s
  | descriptorFetched n status d => exact execDescriptorFetched_answers n status d s
  | streamReadResponse n pos status bytes => exact execStreamReadResponse_answers n pos status bytes s
  | streamFenceComplete n status => exact execStreamFenceComplete_answers n status s
  | recordConfirmed n status => exact execRecordConfirmed_answers n status s
  | contextDrained n => exact execContextDrained_answers n s
  | tollPeriod => exact execTollPeriod_answers s
  | sluiceTimer j => exact execSluiceTimer_answers j s
  | sluCfgWrite j v => exact execSluCfgWrite_answers j v s
  | sluTgtWrite j v => exact execSluTgtWrite_answers j v s
  | functionReachable f => exact execFunctionReachable_answers f s
  | coreRun c v => exact execCoreRun_answers c v s
  | coreStop c v => exact execCoreStop_answers c v s
  | fenceInstruction c deviceOut status => exact execFenceInstruction_answers c deviceOut status s
  | fastTrap c => exact execFastTrap_answers c s
  | mret c => exact execMret_answers c s
  | wfi c => exact execWfi_answers c s
  | coreWake c => exact execCoreWake_answers c s
  | machineTimer c => exact execMachineTimer_answers c s
  | l2PartitionWrite v => exact execL2PartitionWrite_answers v s
  | l2Maint v => exact execL2Maint_answers v s
  | l2MaintComplete => exact execL2MaintComplete_answers s
  | sourceEdge src => exact execSourceEdge_answers src s
  | sourceLevel src asserted => exact execSourceLevel_answers src asserted s
  | swi v => exact execSwi_answers v s
  | claimNormal c => exact execClaimNormal_answers c s
  | claimFast c => exact execClaimFast_answers c s
  | icComplete c v => exact execIcComplete_answers c v s
  | pendWrite r v hwSet => exact execPendWrite_answers r v hwSet s
  | taskStart v => exact execTaskStart_answers v s
  | taskSuspend v => exact execTaskSuspend_answers v s
  | taskDelete v => exact execTaskDelete_answers v s
  | taskWait v => exact execTaskWait_answers v s
  | taskDelay v => exact execTaskDelay_answers v s
  | taskYield v => exact execTaskYield_answers v s
  | taskExit v => exact execTaskExit_answers v s
  | taskTableWrite t word v => exact execTaskTableWrite_answers t word v s
  | taskPostWrite t v => exact execTaskPostWrite_answers t v s
  | taskPostApply => exact execTaskPostApply_answers s
  | schedulerTick => exact execSchedulerTick_answers s
  | tsNext c => exact execTsNext_answers c s
  | slotDispatch s0 dropped => exact execSlotDispatch_answers s0 dropped s
  | loadWindowEnd => exact execLoadWindowEnd_answers s
  | statClear v => exact execStatClear_answers v s
  | qpllApply q b refKhz v => exact execQpllApply_answers q b refKhz v s
  | qpllLock q b => exact execQpllLock_answers q b s
  | laneCfgWrite lane v => exact execLaneCfgWrite_answers lane v s
  | pstateRequest lane v => exact execPstateRequest_answers lane v s
  | pstateTransitionComplete lane => exact execPstateTransitionComplete_answers lane s
  | blockLock lane position => exact execBlockLock_answers lane position s
  | lockLoss lane => exact execLockLoss_answers lane s
  | commaAlign lane position => exact execCommaAlign_answers lane position s
  | fecCodeword lane symbolErrors => exact execFecCodeword_answers lane symbolErrors s
  | elasticBufferError lane => exact execElasticBufferError_answers lane s
  | gridStrobe lane tx fill => exact execGridStrobe_answers lane tx fill s
  | groupDefine lane v => exact execGroupDefine_answers lane v s
  | ltsBlock lane b => exact execLtsBlock_answers lane b s
  | rateSwitch lane => exact execRateSwitch_answers lane s
  | stepRetrainTimeout lane => exact execStepRetrainTimeout_answers lane s
  | groupTrainTimeout lane => exact execGroupTrainTimeout_answers lane s
  | groupRetry lane => exact execGroupRetry_answers lane s
  | groupLockLossTimeout lane => exact execGroupLockLossTimeout_answers lane s
  | txFault lane => exact execTxFault_answers lane s
  | txFaultRetry lane => exact execTxFaultRetry_answers lane s
  | receiverDetect lane found => exact execReceiverDetect_answers lane found s
  | lossOfSignal lane => exact execLossOfSignal_answers lane s
  | laneFaultClear lane v => exact execLaneFaultClear_answers lane v s
  | laneCal lane v => exact execLaneCal_answers lane v s
  | laneCalComplete lane => exact execLaneCalComplete_answers lane s
  | eyeScan lane v => exact execEyeScan_answers lane v s
  | eyeScanComplete lane count => exact execEyeScanComplete_answers lane count s
  | laneFiArm lane v => exact execLaneFiArm_answers lane v s
  | pairEnable v f => exact execPairEnable_answers v f s
  | pairSyncComplete => exact execPairSyncComplete_answers s
  | mirrorChange position ch => exact execMirrorChange_answers position ch s
  | mirrorAck position => exact execMirrorAck_answers position s
  | heartbeatSend => exact execHeartbeatSend_answers s
  | heartbeatReceived h => exact execHeartbeatReceived_answers h s
  | heartbeatMiss => exact execHeartbeatMiss_answers s
  | takeover v => exact execTakeover_answers v s
  | fenceReadback high => exact execFenceReadback_answers high s
  | takeoverSettle ctxs => exact execTakeoverSettle_answers ctxs s
  | primaryAlone => exact execPrimaryAlone_answers s
  | fenceIn both => exact execFenceIn_answers both s
  | release v fenceIn => exact execRelease_answers v fenceIn s
  | rejoin v => exact execRejoin_answers v s
  | resync v => exact execResync_answers v s
  | faultEntry e => exact execFaultEntry_answers e s
  | ringIntake => exact execRingIntake_answers s
  | flushTimer => exact execFlushTimer_answers s
  | flushNow v => exact execFlushNow_answers v s
  | flushComplete ok => exact execFlushComplete_answers ok s
  | pageEraseComplete ok => exact execPageEraseComplete_answers ok s
  | logEnable v => exact execLogEnable_answers v s
  | logScanComplete => exact execLogScanComplete_answers s
  | fltEntRead => exact execFltEntRead_answers s
  | powerFailWarning => exact execPowerFailWarning_answers s
  | powerFailClear => exact execPowerFailClear_answers s
  | supplyInRange supply => exact execSupplyInRange_answers supply s
  | supplyFault supply => exact execSupplyFault_answers supply s
  | supplyRecovered => exact execSupplyRecovered_answers s
  | domainClose d v => exact execDomainClose_answers d v s
  | domainOpen d v => exact execDomainOpen_answers d v s
  | domainPowerOff d => exact execDomainPowerOff_answers d s
  | domainOpened d => exact execDomainOpened_answers d s
  | sensorReading s0 eighths => exact execSensorReading_answers s0 eighths s
  | throttleUpdate => exact execThrottleUpdate_answers s
  | thermalTrip s0 => exact execThermalTrip_answers s0 s
  | tripShutdown => exact execTripShutdown_answers s
  | sensorsFaultyTrip => exact execSensorsFaultyTrip_answers s
  | ageingSweep shifts => exact execAgeingSweep_answers shifts s
  | sweep v => exact execSweep_answers v s
  | summarySave ok => exact execSummarySave_answers ok s
  | pmbusTransaction tx => exact execPmbusTransaction_answers tx s
  | pmbAlert word => exact execPmbAlert_answers word s
  | pmbusRetry ok => exact execPmbusRetry_answers ok s
  | winAddr v pec => exact execWinAddr_answers v pec s
  | winWdata v pec => exact execWinWdata_answers v pec s
  | winRdata => exact execWinRdata_answers s
  | twpStat => exact execTwpStat_answers s
  | id => exact execId_answers s
  | spiWrite word data => exact execSpiWrite_answers word data s
  | spiRead word => exact execSpiRead_answers word s
  | spiStatus => exact execSpiStatus_answers s
  | spiId => exact execSpiId_answers s
  | windowAccessComplete t status data => exact execWindowAccessComplete_answers t status data s
  | reset t v => exact execReset_answers t v s
  | reconfigure t v => exact execReconfigure_answers t v s
  | wake t v => exact execWake_answers t v s
  | alertClear t v => exact execAlertClear_answers t v s
  | alertResponse => exact execAlertResponse_answers s
  | smbusTimeout => exact execSmbusTimeout_answers s
  | fwAlert v => exact execFwAlert_answers v s
  | bypass => exact execBypass_answers s
  | idcode => exact execIdcode_answers s
  | samplePreload boundary => exact execSamplePreload_answers boundary s
  | extest => exact execExtest_answers s
  | extestPulse => exact execExtestPulse_answers s
  | extestTrain => exact execExtestTrain_answers s
  | highz => exact execHighz_answers s
  | clamp => exact execClamp_answers s
  | cfgIn bytes => exact execCfgIn_answers bytes s
  | fuseProg f data => exact execFuseProg_answers f data s
  | logicClockEdge t => exact execLogicClockEdge_answers t s fits
  | sliceClockEdge sl cfg pins => exact execSliceClockEdge_answers sl cfg pins s fits
  | tapClockEdge region t => exact execTapClockEdge_answers region t s
  | trackGateEnable region track en => exact execTrackGateEnable_answers region track en s
  | thPllLockLost => exact execThPllLockLost_answers s
  | qpllLockLost q b => exact execQpllLockLost_answers q b s
  | signalReturn lane => exact execSignalReturn_answers lane s
  | prbsCheckerLock lane inverted relock => exact execPrbsCheckerLock_answers lane inverted relock s
  | aspmL1Entry sub => exact execAspmL1Entry_answers sub s
  | pcieCompletionTimeout n pos => exact execPcieCompletionTimeout_answers n pos s
  | powerLoss => exact execPowerLoss_answers s

end Sys2Proof.Machine
end

