-- ==== Sys2Proof/Laws/KMap.lean ====
section
/-! SUPPORT. The laws of sparse storage: a read after a write, and the canonical form that every operation keeps. -/

namespace Sys2Proof.Machine

variable {α : Type} (d : Nat → α)

theorem KMap.get_without_same (m : KMap α) (k : Nat) : KMap.get d (KMap.without m k) k = d k := by
  induction m with
  | nil => rfl
  | cons e m ih =>
    obtain ⟨a, v⟩ := e
    by_cases h : a = k
    · simpa [KMap.without, h] using ih
    · simpa [KMap.without, h, KMap.get, Ne.symm h] using ih

theorem KMap.get_without_ne (m : KMap α) {k j : Nat} (h : j ≠ k) : KMap.get d (KMap.without m k) j = m.get d j := by
  induction m with
  | nil => rfl
  | cons e m ih =>
    obtain ⟨a, v⟩ := e
    by_cases ha : a = k
    · subst ha; simpa [KMap.without, KMap.get, h] using ih
    · have : KMap.without ((a, v) :: m) k = (a, v) :: KMap.without m k := by simp [KMap.without, ha]
      rw [this]; simp only [KMap.get]; rw [ih]

variable [DecidableEq α]

/-- A read after a write at the same place gives the value written. -/
@[simp] theorem KMap.get_set_same (m : KMap α) (k : Nat) (v : α) : (m.set d k v).get d k = v := by
  induction m with
  | nil =>
    by_cases h : v = d k
    · simp [KMap.set, KMap.get, h]
    · simp [KMap.set, KMap.get, h]
  | cons e m ih =>
    obtain ⟨a, w⟩ := e
    simp only [KMap.set]
    split_ifs with h1 h2 h3 h4
    · rw [KMap.get_without_same, h2]
    · simp [KMap.get]
    · rw [KMap.get_without_same, h4]
    · simp [KMap.get]
    · simpa [KMap.get, h3] using ih

/-- A write leaves every other place alone. -/
theorem KMap.get_set_ne (m : KMap α) {k j : Nat} (v : α) (h : j ≠ k) : (m.set d k v).get d j = m.get d j := by
  induction m with
  | nil =>
    by_cases hv : v = d k
    · simp [KMap.set, KMap.get, hv]
    · simp [KMap.set, KMap.get, hv, h]
  | cons e m ih =>
    obtain ⟨a, w⟩ := e
    simp only [KMap.set]
    split_ifs with h1 h2 h3 h4
    · rw [KMap.get_without_ne d _ h]
    · simp [KMap.get, h]
    · subst h3; rw [KMap.get_without_ne d _ h]; simp [KMap.get, h]
    · subst h3; simp [KMap.get, h]
    · simp only [KMap.get]; rw [ih]

theorem KMap.get_set (m : KMap α) (k j : Nat) (v : α) :
    (m.set d k v).get d j = if j = k then v else m.get d j := by
  split_ifs with h
  · subst h; simp
  · exact KMap.get_set_ne d m v h

/-! ### The canonical form -/

theorem KMap.wfFrom_mono {lo hi : Nat} {m : KMap α} (h : hi ≤ lo) (w : KMap.wfFrom d lo m) : KMap.wfFrom d hi m := by
  cases m with
  | nil => rfl
  | cons e m =>
    obtain ⟨a, v⟩ := e
    simp only [KMap.wfFrom, Bool.and_eq_true, decide_eq_true_eq] at *
    exact ⟨⟨by omega, w.1.2⟩, w.2⟩

theorem KMap.wfFrom_filter {lo : Nat} {m : KMap α} (p : Nat × α → Bool) (w : KMap.wfFrom d lo m) :
    KMap.wfFrom d lo (List.filter p m) := by
  induction m generalizing lo with
  | nil => rfl
  | cons e m ih =>
    obtain ⟨a, v⟩ := e
    simp only [KMap.wfFrom, Bool.and_eq_true, decide_eq_true_eq] at w
    by_cases h : p (a, v)
    · simp only [List.filter_cons, h, if_true, KMap.wfFrom, Bool.and_eq_true, decide_eq_true_eq]
      exact ⟨w.1, ih w.2⟩
    · simp only [List.filter_cons, h]
      exact KMap.wfFrom_mono d (by omega) (ih w.2)

theorem KMap.wfFrom_set {lo k : Nat} {m : KMap α} (v : α) (hk : lo ≤ k) (w : KMap.wfFrom d lo m) :
    KMap.wfFrom d lo (m.set d k v) := by
  induction m generalizing lo with
  | nil =>
    by_cases h : v = d k
    · simp [KMap.set, h, KMap.wfFrom]
    · simp [KMap.set, h, KMap.wfFrom, hk]
  | cons e m ih =>
    obtain ⟨a, x⟩ := e
    have w0 := w
    simp only [KMap.wfFrom, Bool.and_eq_true, decide_eq_true_eq] at w
    simp only [KMap.set]
    split_ifs with h1 h2 h3 h4
    · exact KMap.wfFrom_filter d _ w0
    · simp only [KMap.wfFrom, Bool.and_eq_true, decide_eq_true_eq]
      exact ⟨⟨hk, by simpa using h2⟩, ⟨by omega, w.1.2⟩, w.2⟩
    · exact KMap.wfFrom_mono d (by omega) (KMap.wfFrom_filter d _ w.2)
    · subst h3
      simp only [KMap.wfFrom, Bool.and_eq_true, decide_eq_true_eq]
      exact ⟨⟨hk, by simpa using h4⟩, w.2⟩
    · simp only [KMap.wfFrom, Bool.and_eq_true, decide_eq_true_eq]
      exact ⟨w.1, ih (by omega) w.2⟩

theorem KMap.wf_set {m : KMap α} (k : Nat) (v : α) (w : m.wf d) : (m.set d k v).wf d :=
  KMap.wfFrom_set d v (Nat.zero_le k) w

theorem KMap.wf_upd {m : KMap α} (k : Nat) (f : α → α) (w : m.wf d) : (m.upd d k f).wf d := KMap.wf_set d k _ w

theorem KMap.wf_filter {m : KMap α} (p : Nat × α → Bool) (w : m.wf d) : KMap.wf d (List.filter p m) :=
  KMap.wfFrom_filter d p w

theorem KMap.wf_without {m : KMap α} (k : Nat) (w : m.wf d) : (KMap.without m k).wf d := KMap.wf_filter d _ w

theorem KMap.wf_eraseRange {m : KMap α} (a b : Nat) (w : m.wf d) : (m.eraseRange a b).wf d := KMap.wf_filter d _ w

theorem KMap.wf_setMany {m : KMap α} (k : Nat) (vs : List α) (w : m.wf d) : (m.setMany d k vs).wf d := by
  induction vs generalizing m k with
  | nil => exact w
  | cons v vs ih => exact ih _ (KMap.wf_set d k v w)

theorem KMap.wfFrom_mapEntries {lo : Nat} {m : KMap α} (f : Nat → α → α) (w : KMap.wfFrom d lo m) :
    KMap.wfFrom d lo (m.mapEntries d f) := by
  induction m generalizing lo with
  | nil => rfl
  | cons e m ih =>
    obtain ⟨a, v⟩ := e
    simp only [KMap.wfFrom, Bool.and_eq_true, decide_eq_true_eq] at w
    simp only [KMap.mapEntries]
    split_ifs with h
    · exact KMap.wfFrom_mono d (by omega) (ih w.2)
    · simp only [KMap.wfFrom, Bool.and_eq_true, decide_eq_true_eq]
      exact ⟨⟨w.1.1, by simpa using h⟩, ih w.2⟩

theorem KMap.wf_mapEntries {m : KMap α} (f : Nat → α → α) (w : m.wf d) : (m.mapEntries d f).wf d :=
  KMap.wfFrom_mapEntries d f w

@[simp] theorem KMap.wf_nil : KMap.wf d ([] : KMap α) = true := rfl

/-- A canonical map reads as unlisted below its first number. -/
theorem KMap.get_of_lt {lo j : Nat} {m : KMap α} (w : KMap.wfFrom d lo m) (h : j < lo) : m.get d j = d j := by
  induction m generalizing lo with
  | nil => rfl
  | cons e m ih =>
    obtain ⟨a, v⟩ := e
    simp only [KMap.wfFrom, Bool.and_eq_true, decide_eq_true_eq] at w
    have : j ≠ a := by omega
    simpa [KMap.get, this] using ih w.2 (by omega)

theorem KMap.ext_from {lo : Nat} {m n : KMap α} (wm : KMap.wfFrom d lo m) (wn : KMap.wfFrom d lo n)
    (h : ∀ k, m.get d k = n.get d k) : m = n := by
  induction m generalizing lo n with
  | nil =>
    cases n with
    | nil => rfl
    | cons e n =>
      obtain ⟨a, v⟩ := e
      simp only [KMap.wfFrom, Bool.and_eq_true, Bool.not_eq_true', decide_eq_true_eq, decide_eq_false_iff_not] at wn
      have := h a
      simp only [KMap.get, if_true] at this
      exact absurd this.symm wn.1.2
  | cons e m ih =>
    obtain ⟨a, v⟩ := e
    have wm' := wm
    simp only [KMap.wfFrom, Bool.and_eq_true, Bool.not_eq_true', decide_eq_true_eq, decide_eq_false_iff_not] at wm
    cases n with
    | nil =>
      have := h a
      simp only [KMap.get, if_true] at this
      exact absurd this wm.1.2
    | cons f n =>
      obtain ⟨b, u⟩ := f
      have wn' := wn
      simp only [KMap.wfFrom, Bool.and_eq_true, Bool.not_eq_true', decide_eq_true_eq, decide_eq_false_iff_not] at wn
      have hab : a = b := by
        rcases Nat.lt_trichotomy a b with l | l | l
        · have := h a
          simp only [KMap.get, if_true, if_neg (Nat.ne_of_lt l)] at this
          rw [KMap.get_of_lt d wn.2 (by omega)] at this
          exact absurd this wm.1.2
        · exact l
        · have := h b
          simp only [KMap.get, if_true, if_neg (Nat.ne_of_lt l)] at this
          rw [KMap.get_of_lt d wm.2 (by omega)] at this
          exact absurd this.symm wn.1.2
      subst hab
      have hv : v = u := by simpa only [KMap.get, if_true] using h a
      subst hv
      have hmn : m = n := by
        refine ih wm.2 wn.2 fun k => ?_
        by_cases hk : k = a
        · subst hk
          rw [KMap.get_of_lt d wm.2 (by omega), KMap.get_of_lt d wn.2 (by omega)]
        · simpa only [KMap.get, if_neg hk] using h k
      rw [hmn]

/-- Two canonical maps that read the same are the same data. -/
theorem KMap.ext {m n : KMap α} (wm : m.wf d) (wn : n.wf d) (h : ∀ k, m.get d k = n.get d k) : m = n :=
  KMap.ext_from d wm wn h

end Sys2Proof.Machine
end

