-- ==== Sys2Proof/Laws/State.lean ====
section
/-! SUPPORT. What each shared operation leaves of every field of State: one lemma per field and operation. -/

namespace Sys2Proof.Machine

variable (s : State)

/-! ### Storing a register word -/

@[simp] theorem State.setWord_fuse (o : Nat) (w : Word) : (s.setWord o w).fuse = s.fuse := rfl
@[simp] theorem State.setWord_now (o : Nat) (w : Word) : (s.setWord o w).now = s.now := rfl
@[simp] theorem State.setWord_answer (o : Nat) (w : Word) : (s.setWord o w).answer = s.answer := rfl
@[simp] theorem State.setWord_freeCount (o : Nat) (w : Word) : (s.setWord o w).freeCount = s.freeCount := rfl
@[simp] theorem State.setWord_pins (o : Nat) (w : Word) : (s.setWord o w).pins = s.pins := rfl
@[simp] theorem State.setWord_flt (o : Nat) (w : Word) : (s.setWord o w).flt = s.flt := rfl
@[simp] theorem State.setWord_th (o : Nat) (w : Word) : (s.setWord o w).th = s.th := rfl
@[simp] theorem State.setWord_clk (o : Nat) (w : Word) : (s.setWord o w).clk = s.clk := rfl
@[simp] theorem State.setWord_fabric (o : Nat) (w : Word) : (s.setWord o w).fabric = s.fabric := rfl
@[simp] theorem State.setWord_mem (o : Nat) (w : Word) : (s.setWord o w).mem = s.mem := rfl
@[simp] theorem State.setWord_slices (o : Nat) (w : Word) : (s.setWord o w).slices = s.slices := rfl
@[simp] theorem State.setWord_fuses (o : Nat) (w : Word) : (s.setWord o w).fuses = s.fuses := rfl
@[simp] theorem State.setWord_flash (o : Nat) (w : Word) : (s.setWord o w).flash = s.flash := rfl
@[simp] theorem State.setWord_planes (o : Nat) (w : Word) : (s.setWord o w).planes = s.planes := rfl
@[simp] theorem State.setWord_cfg (o : Nat) (w : Word) : (s.setWord o w).cfg = s.cfg := rfl
@[simp] theorem State.setWord_stalls (o : Nat) (w : Word) : (s.setWord o w).stalls = s.stalls := rfl
@[simp] theorem State.setWord_scrub (o : Nat) (w : Word) : (s.setWord o w).scrub = s.scrub := rfl
@[simp] theorem State.setWord_noc (o : Nat) (w : Word) : (s.setWord o w).noc = s.noc := rfl
@[simp] theorem State.setWord_dmcs (o : Nat) (w : Word) : (s.setWord o w).dmcs = s.dmcs := rfl
@[simp] theorem State.setWord_dram (o : Nat) (w : Word) : (s.setWord o w).dram = s.dram := rfl
@[simp] theorem State.setWord_mpes (o : Nat) (w : Word) : (s.setWord o w).mpes = s.mpes := rfl
@[simp] theorem State.setWord_pci (o : Nat) (w : Word) : (s.setWord o w).pci = s.pci := rfl
@[simp] theorem State.setWord_se (o : Nat) (w : Word) : (s.setWord o w).se = s.se := rfl
@[simp] theorem State.setWord_ts (o : Nat) (w : Word) : (s.setWord o w).ts = s.ts := rfl
@[simp] theorem State.setWord_cc (o : Nat) (w : Word) : (s.setWord o w).cc = s.cc := rfl
@[simp] theorem State.setWord_xcv (o : Nat) (w : Word) : (s.setWord o w).xcv = s.xcv := rfl
@[simp] theorem State.setWord_pair (o : Nat) (w : Word) : (s.setWord o w).pair = s.pair := rfl
@[simp] theorem State.setWord_pwr (o : Nat) (w : Word) : (s.setWord o w).pwr = s.pwr := rfl
@[simp] theorem State.setWord_age (o : Nat) (w : Word) : (s.setWord o w).age = s.age := rfl
@[simp] theorem State.setWord_twp (o : Nat) (w : Word) : (s.setWord o w).twp = s.twp := rfl
@[simp] theorem State.setWord_jtag (o : Nat) (w : Word) : (s.setWord o w).jtag = s.jtag := rfl
@[simp] theorem State.setWord_pending (o : Nat) (w : Word) : (s.setWord o w).pending = s.pending := rfl

/-! ### Storing a field -/

@[simp] theorem State.put_fuse (f : Field) (v : Nat) : (s.put f v).fuse = s.fuse := rfl
@[simp] theorem State.put_now (f : Field) (v : Nat) : (s.put f v).now = s.now := rfl
@[simp] theorem State.put_answer (f : Field) (v : Nat) : (s.put f v).answer = s.answer := rfl
@[simp] theorem State.put_freeCount (f : Field) (v : Nat) : (s.put f v).freeCount = s.freeCount := rfl
@[simp] theorem State.put_pins (f : Field) (v : Nat) : (s.put f v).pins = s.pins := rfl
@[simp] theorem State.put_flt (f : Field) (v : Nat) : (s.put f v).flt = s.flt := rfl
@[simp] theorem State.put_th (f : Field) (v : Nat) : (s.put f v).th = s.th := rfl
@[simp] theorem State.put_clk (f : Field) (v : Nat) : (s.put f v).clk = s.clk := rfl
@[simp] theorem State.put_fabric (f : Field) (v : Nat) : (s.put f v).fabric = s.fabric := rfl
@[simp] theorem State.put_mem (f : Field) (v : Nat) : (s.put f v).mem = s.mem := rfl
@[simp] theorem State.put_slices (f : Field) (v : Nat) : (s.put f v).slices = s.slices := rfl
@[simp] theorem State.put_fuses (f : Field) (v : Nat) : (s.put f v).fuses = s.fuses := rfl
@[simp] theorem State.put_flash (f : Field) (v : Nat) : (s.put f v).flash = s.flash := rfl
@[simp] theorem State.put_planes (f : Field) (v : Nat) : (s.put f v).planes = s.planes := rfl
@[simp] theorem State.put_cfg (f : Field) (v : Nat) : (s.put f v).cfg = s.cfg := rfl
@[simp] theorem State.put_stalls (f : Field) (v : Nat) : (s.put f v).stalls = s.stalls := rfl
@[simp] theorem State.put_scrub (f : Field) (v : Nat) : (s.put f v).scrub = s.scrub := rfl
@[simp] theorem State.put_noc (f : Field) (v : Nat) : (s.put f v).noc = s.noc := rfl
@[simp] theorem State.put_dmcs (f : Field) (v : Nat) : (s.put f v).dmcs = s.dmcs := rfl
@[simp] theorem State.put_dram (f : Field) (v : Nat) : (s.put f v).dram = s.dram := rfl
@[simp] theorem State.put_mpes (f : Field) (v : Nat) : (s.put f v).mpes = s.mpes := rfl
@[simp] theorem State.put_pci (f : Field) (v : Nat) : (s.put f v).pci = s.pci := rfl
@[simp] theorem State.put_se (f : Field) (v : Nat) : (s.put f v).se = s.se := rfl
@[simp] theorem State.put_ts (f : Field) (v : Nat) : (s.put f v).ts = s.ts := rfl
@[simp] theorem State.put_cc (f : Field) (v : Nat) : (s.put f v).cc = s.cc := rfl
@[simp] theorem State.put_xcv (f : Field) (v : Nat) : (s.put f v).xcv = s.xcv := rfl
@[simp] theorem State.put_pair (f : Field) (v : Nat) : (s.put f v).pair = s.pair := rfl
@[simp] theorem State.put_pwr (f : Field) (v : Nat) : (s.put f v).pwr = s.pwr := rfl
@[simp] theorem State.put_age (f : Field) (v : Nat) : (s.put f v).age = s.age := rfl
@[simp] theorem State.put_twp (f : Field) (v : Nat) : (s.put f v).twp = s.twp := rfl
@[simp] theorem State.put_jtag (f : Field) (v : Nat) : (s.put f v).jtag = s.jtag := rfl
@[simp] theorem State.put_pending (f : Field) (v : Nat) : (s.put f v).pending = s.pending := rfl

/-! ### Storing a Boolean field -/

@[simp] theorem State.putB_fuse (f : Field) (v : Bool) : (s.putB f v).fuse = s.fuse := rfl
@[simp] theorem State.putB_now (f : Field) (v : Bool) : (s.putB f v).now = s.now := rfl
@[simp] theorem State.putB_answer (f : Field) (v : Bool) : (s.putB f v).answer = s.answer := rfl
@[simp] theorem State.putB_freeCount (f : Field) (v : Bool) : (s.putB f v).freeCount = s.freeCount := rfl
@[simp] theorem State.putB_pins (f : Field) (v : Bool) : (s.putB f v).pins = s.pins := rfl
@[simp] theorem State.putB_flt (f : Field) (v : Bool) : (s.putB f v).flt = s.flt := rfl
@[simp] theorem State.putB_th (f : Field) (v : Bool) : (s.putB f v).th = s.th := rfl
@[simp] theorem State.putB_clk (f : Field) (v : Bool) : (s.putB f v).clk = s.clk := rfl
@[simp] theorem State.putB_fabric (f : Field) (v : Bool) : (s.putB f v).fabric = s.fabric := rfl
@[simp] theorem State.putB_mem (f : Field) (v : Bool) : (s.putB f v).mem = s.mem := rfl
@[simp] theorem State.putB_slices (f : Field) (v : Bool) : (s.putB f v).slices = s.slices := rfl
@[simp] theorem State.putB_fuses (f : Field) (v : Bool) : (s.putB f v).fuses = s.fuses := rfl
@[simp] theorem State.putB_flash (f : Field) (v : Bool) : (s.putB f v).flash = s.flash := rfl
@[simp] theorem State.putB_planes (f : Field) (v : Bool) : (s.putB f v).planes = s.planes := rfl
@[simp] theorem State.putB_cfg (f : Field) (v : Bool) : (s.putB f v).cfg = s.cfg := rfl
@[simp] theorem State.putB_stalls (f : Field) (v : Bool) : (s.putB f v).stalls = s.stalls := rfl
@[simp] theorem State.putB_scrub (f : Field) (v : Bool) : (s.putB f v).scrub = s.scrub := rfl
@[simp] theorem State.putB_noc (f : Field) (v : Bool) : (s.putB f v).noc = s.noc := rfl
@[simp] theorem State.putB_dmcs (f : Field) (v : Bool) : (s.putB f v).dmcs = s.dmcs := rfl
@[simp] theorem State.putB_dram (f : Field) (v : Bool) : (s.putB f v).dram = s.dram := rfl
@[simp] theorem State.putB_mpes (f : Field) (v : Bool) : (s.putB f v).mpes = s.mpes := rfl
@[simp] theorem State.putB_pci (f : Field) (v : Bool) : (s.putB f v).pci = s.pci := rfl
@[simp] theorem State.putB_se (f : Field) (v : Bool) : (s.putB f v).se = s.se := rfl
@[simp] theorem State.putB_ts (f : Field) (v : Bool) : (s.putB f v).ts = s.ts := rfl
@[simp] theorem State.putB_cc (f : Field) (v : Bool) : (s.putB f v).cc = s.cc := rfl
@[simp] theorem State.putB_xcv (f : Field) (v : Bool) : (s.putB f v).xcv = s.xcv := rfl
@[simp] theorem State.putB_pair (f : Field) (v : Bool) : (s.putB f v).pair = s.pair := rfl
@[simp] theorem State.putB_pwr (f : Field) (v : Bool) : (s.putB f v).pwr = s.pwr := rfl
@[simp] theorem State.putB_age (f : Field) (v : Bool) : (s.putB f v).age = s.age := rfl
@[simp] theorem State.putB_twp (f : Field) (v : Bool) : (s.putB f v).twp = s.twp := rfl
@[simp] theorem State.putB_jtag (f : Field) (v : Bool) : (s.putB f v).jtag = s.jtag := rfl
@[simp] theorem State.putB_pending (f : Field) (v : Bool) : (s.putB f v).pending = s.pending := rfl

/-! ### Storing a signed field -/

@[simp] theorem State.putS_fuse (f : Field) (v : Int) : (s.putS f v).fuse = s.fuse := rfl
@[simp] theorem State.putS_now (f : Field) (v : Int) : (s.putS f v).now = s.now := rfl
@[simp] theorem State.putS_answer (f : Field) (v : Int) : (s.putS f v).answer = s.answer := rfl
@[simp] theorem State.putS_freeCount (f : Field) (v : Int) : (s.putS f v).freeCount = s.freeCount := rfl
@[simp] theorem State.putS_pins (f : Field) (v : Int) : (s.putS f v).pins = s.pins := rfl
@[simp] theorem State.putS_flt (f : Field) (v : Int) : (s.putS f v).flt = s.flt := rfl
@[simp] theorem State.putS_th (f : Field) (v : Int) : (s.putS f v).th = s.th := rfl
@[simp] theorem State.putS_clk (f : Field) (v : Int) : (s.putS f v).clk = s.clk := rfl
@[simp] theorem State.putS_fabric (f : Field) (v : Int) : (s.putS f v).fabric = s.fabric := rfl
@[simp] theorem State.putS_mem (f : Field) (v : Int) : (s.putS f v).mem = s.mem := rfl
@[simp] theorem State.putS_slices (f : Field) (v : Int) : (s.putS f v).slices = s.slices := rfl
@[simp] theorem State.putS_fuses (f : Field) (v : Int) : (s.putS f v).fuses = s.fuses := rfl
@[simp] theorem State.putS_flash (f : Field) (v : Int) : (s.putS f v).flash = s.flash := rfl
@[simp] theorem State.putS_planes (f : Field) (v : Int) : (s.putS f v).planes = s.planes := rfl
@[simp] theorem State.putS_cfg (f : Field) (v : Int) : (s.putS f v).cfg = s.cfg := rfl
@[simp] theorem State.putS_stalls (f : Field) (v : Int) : (s.putS f v).stalls = s.stalls := rfl
@[simp] theorem State.putS_scrub (f : Field) (v : Int) : (s.putS f v).scrub = s.scrub := rfl
@[simp] theorem State.putS_noc (f : Field) (v : Int) : (s.putS f v).noc = s.noc := rfl
@[simp] theorem State.putS_dmcs (f : Field) (v : Int) : (s.putS f v).dmcs = s.dmcs := rfl
@[simp] theorem State.putS_dram (f : Field) (v : Int) : (s.putS f v).dram = s.dram := rfl
@[simp] theorem State.putS_mpes (f : Field) (v : Int) : (s.putS f v).mpes = s.mpes := rfl
@[simp] theorem State.putS_pci (f : Field) (v : Int) : (s.putS f v).pci = s.pci := rfl
@[simp] theorem State.putS_se (f : Field) (v : Int) : (s.putS f v).se = s.se := rfl
@[simp] theorem State.putS_ts (f : Field) (v : Int) : (s.putS f v).ts = s.ts := rfl
@[simp] theorem State.putS_cc (f : Field) (v : Int) : (s.putS f v).cc = s.cc := rfl
@[simp] theorem State.putS_xcv (f : Field) (v : Int) : (s.putS f v).xcv = s.xcv := rfl
@[simp] theorem State.putS_pair (f : Field) (v : Int) : (s.putS f v).pair = s.pair := rfl
@[simp] theorem State.putS_pwr (f : Field) (v : Int) : (s.putS f v).pwr = s.pwr := rfl
@[simp] theorem State.putS_age (f : Field) (v : Int) : (s.putS f v).age = s.age := rfl
@[simp] theorem State.putS_twp (f : Field) (v : Int) : (s.putS f v).twp = s.twp := rfl
@[simp] theorem State.putS_jtag (f : Field) (v : Int) : (s.putS f v).jtag = s.jtag := rfl
@[simp] theorem State.putS_pending (f : Field) (v : Int) : (s.putS f v).pending = s.pending := rfl

/-! ### Counting -/

@[simp] theorem State.add_fuse (f : Field) (n : Nat) : (s.add f n).fuse = s.fuse := rfl
@[simp] theorem State.add_now (f : Field) (n : Nat) : (s.add f n).now = s.now := rfl
@[simp] theorem State.add_answer (f : Field) (n : Nat) : (s.add f n).answer = s.answer := rfl
@[simp] theorem State.add_freeCount (f : Field) (n : Nat) : (s.add f n).freeCount = s.freeCount := rfl
@[simp] theorem State.add_pins (f : Field) (n : Nat) : (s.add f n).pins = s.pins := rfl
@[simp] theorem State.add_flt (f : Field) (n : Nat) : (s.add f n).flt = s.flt := rfl
@[simp] theorem State.add_th (f : Field) (n : Nat) : (s.add f n).th = s.th := rfl
@[simp] theorem State.add_clk (f : Field) (n : Nat) : (s.add f n).clk = s.clk := rfl
@[simp] theorem State.add_fabric (f : Field) (n : Nat) : (s.add f n).fabric = s.fabric := rfl
@[simp] theorem State.add_mem (f : Field) (n : Nat) : (s.add f n).mem = s.mem := rfl
@[simp] theorem State.add_slices (f : Field) (n : Nat) : (s.add f n).slices = s.slices := rfl
@[simp] theorem State.add_fuses (f : Field) (n : Nat) : (s.add f n).fuses = s.fuses := rfl
@[simp] theorem State.add_flash (f : Field) (n : Nat) : (s.add f n).flash = s.flash := rfl
@[simp] theorem State.add_planes (f : Field) (n : Nat) : (s.add f n).planes = s.planes := rfl
@[simp] theorem State.add_cfg (f : Field) (n : Nat) : (s.add f n).cfg = s.cfg := rfl
@[simp] theorem State.add_stalls (f : Field) (n : Nat) : (s.add f n).stalls = s.stalls := rfl
@[simp] theorem State.add_scrub (f : Field) (n : Nat) : (s.add f n).scrub = s.scrub := rfl
@[simp] theorem State.add_noc (f : Field) (n : Nat) : (s.add f n).noc = s.noc := rfl
@[simp] theorem State.add_dmcs (f : Field) (n : Nat) : (s.add f n).dmcs = s.dmcs := rfl
@[simp] theorem State.add_dram (f : Field) (n : Nat) : (s.add f n).dram = s.dram := rfl
@[simp] theorem State.add_mpes (f : Field) (n : Nat) : (s.add f n).mpes = s.mpes := rfl
@[simp] theorem State.add_pci (f : Field) (n : Nat) : (s.add f n).pci = s.pci := rfl
@[simp] theorem State.add_se (f : Field) (n : Nat) : (s.add f n).se = s.se := rfl
@[simp] theorem State.add_ts (f : Field) (n : Nat) : (s.add f n).ts = s.ts := rfl
@[simp] theorem State.add_cc (f : Field) (n : Nat) : (s.add f n).cc = s.cc := rfl
@[simp] theorem State.add_xcv (f : Field) (n : Nat) : (s.add f n).xcv = s.xcv := rfl
@[simp] theorem State.add_pair (f : Field) (n : Nat) : (s.add f n).pair = s.pair := rfl
@[simp] theorem State.add_pwr (f : Field) (n : Nat) : (s.add f n).pwr = s.pwr := rfl
@[simp] theorem State.add_age (f : Field) (n : Nat) : (s.add f n).age = s.age := rfl
@[simp] theorem State.add_twp (f : Field) (n : Nat) : (s.add f n).twp = s.twp := rfl
@[simp] theorem State.add_jtag (f : Field) (n : Nat) : (s.add f n).jtag = s.jtag := rfl
@[simp] theorem State.add_pending (f : Field) (n : Nat) : (s.add f n).pending = s.pending := rfl

/-! ### Counting one -/

@[simp] theorem State.count_fuse (f : Field) : (s.count f).fuse = s.fuse := rfl
@[simp] theorem State.count_now (f : Field) : (s.count f).now = s.now := rfl
@[simp] theorem State.count_answer (f : Field) : (s.count f).answer = s.answer := rfl
@[simp] theorem State.count_freeCount (f : Field) : (s.count f).freeCount = s.freeCount := rfl
@[simp] theorem State.count_pins (f : Field) : (s.count f).pins = s.pins := rfl
@[simp] theorem State.count_flt (f : Field) : (s.count f).flt = s.flt := rfl
@[simp] theorem State.count_th (f : Field) : (s.count f).th = s.th := rfl
@[simp] theorem State.count_clk (f : Field) : (s.count f).clk = s.clk := rfl
@[simp] theorem State.count_fabric (f : Field) : (s.count f).fabric = s.fabric := rfl
@[simp] theorem State.count_mem (f : Field) : (s.count f).mem = s.mem := rfl
@[simp] theorem State.count_slices (f : Field) : (s.count f).slices = s.slices := rfl
@[simp] theorem State.count_fuses (f : Field) : (s.count f).fuses = s.fuses := rfl
@[simp] theorem State.count_flash (f : Field) : (s.count f).flash = s.flash := rfl
@[simp] theorem State.count_planes (f : Field) : (s.count f).planes = s.planes := rfl
@[simp] theorem State.count_cfg (f : Field) : (s.count f).cfg = s.cfg := rfl
@[simp] theorem State.count_stalls (f : Field) : (s.count f).stalls = s.stalls := rfl
@[simp] theorem State.count_scrub (f : Field) : (s.count f).scrub = s.scrub := rfl
@[simp] theorem State.count_noc (f : Field) : (s.count f).noc = s.noc := rfl
@[simp] theorem State.count_dmcs (f : Field) : (s.count f).dmcs = s.dmcs := rfl
@[simp] theorem State.count_dram (f : Field) : (s.count f).dram = s.dram := rfl
@[simp] theorem State.count_mpes (f : Field) : (s.count f).mpes = s.mpes := rfl
@[simp] theorem State.count_pci (f : Field) : (s.count f).pci = s.pci := rfl
@[simp] theorem State.count_se (f : Field) : (s.count f).se = s.se := rfl
@[simp] theorem State.count_ts (f : Field) : (s.count f).ts = s.ts := rfl
@[simp] theorem State.count_cc (f : Field) : (s.count f).cc = s.cc := rfl
@[simp] theorem State.count_xcv (f : Field) : (s.count f).xcv = s.xcv := rfl
@[simp] theorem State.count_pair (f : Field) : (s.count f).pair = s.pair := rfl
@[simp] theorem State.count_pwr (f : Field) : (s.count f).pwr = s.pwr := rfl
@[simp] theorem State.count_age (f : Field) : (s.count f).age = s.age := rfl
@[simp] theorem State.count_twp (f : Field) : (s.count f).twp = s.twp := rfl
@[simp] theorem State.count_jtag (f : Field) : (s.count f).jtag = s.jtag := rfl
@[simp] theorem State.count_pending (f : Field) : (s.count f).pending = s.pending := rfl

/-! ### Writing a register under the access codes -/

@[simp] theorem State.writeWhere_fuse (o : Nat) (m : FieldSpec → Bool) (v : Word) : (s.writeWhere o m v).fuse = s.fuse := rfl
@[simp] theorem State.writeWhere_now (o : Nat) (m : FieldSpec → Bool) (v : Word) : (s.writeWhere o m v).now = s.now := rfl
@[simp] theorem State.writeWhere_answer (o : Nat) (m : FieldSpec → Bool) (v : Word) : (s.writeWhere o m v).answer = s.answer := rfl
@[simp] theorem State.writeWhere_freeCount (o : Nat) (m : FieldSpec → Bool) (v : Word) : (s.writeWhere o m v).freeCount = s.freeCount := rfl
@[simp] theorem State.writeWhere_pins (o : Nat) (m : FieldSpec → Bool) (v : Word) : (s.writeWhere o m v).pins = s.pins := rfl
@[simp] theorem State.writeWhere_flt (o : Nat) (m : FieldSpec → Bool) (v : Word) : (s.writeWhere o m v).flt = s.flt := rfl
@[simp] theorem State.writeWhere_th (o : Nat) (m : FieldSpec → Bool) (v : Word) : (s.writeWhere o m v).th = s.th := rfl
@[simp] theorem State.writeWhere_clk (o : Nat) (m : FieldSpec → Bool) (v : Word) : (s.writeWhere o m v).clk = s.clk := rfl
@[simp] theorem State.writeWhere_fabric (o : Nat) (m : FieldSpec → Bool) (v : Word) : (s.writeWhere o m v).fabric = s.fabric := rfl
@[simp] theorem State.writeWhere_mem (o : Nat) (m : FieldSpec → Bool) (v : Word) : (s.writeWhere o m v).mem = s.mem := rfl
@[simp] theorem State.writeWhere_slices (o : Nat) (m : FieldSpec → Bool) (v : Word) : (s.writeWhere o m v).slices = s.slices := rfl
@[simp] theorem State.writeWhere_fuses (o : Nat) (m : FieldSpec → Bool) (v : Word) : (s.writeWhere o m v).fuses = s.fuses := rfl
@[simp] theorem State.writeWhere_flash (o : Nat) (m : FieldSpec → Bool) (v : Word) : (s.writeWhere o m v).flash = s.flash := rfl
@[simp] theorem State.writeWhere_planes (o : Nat) (m : FieldSpec → Bool) (v : Word) : (s.writeWhere o m v).planes = s.planes := rfl
@[simp] theorem State.writeWhere_cfg (o : Nat) (m : FieldSpec → Bool) (v : Word) : (s.writeWhere o m v).cfg = s.cfg := rfl
@[simp] theorem State.writeWhere_stalls (o : Nat) (m : FieldSpec → Bool) (v : Word) : (s.writeWhere o m v).stalls = s.stalls := rfl
@[simp] theorem State.writeWhere_scrub (o : Nat) (m : FieldSpec → Bool) (v : Word) : (s.writeWhere o m v).scrub = s.scrub := rfl
@[simp] theorem State.writeWhere_noc (o : Nat) (m : FieldSpec → Bool) (v : Word) : (s.writeWhere o m v).noc = s.noc := rfl
@[simp] theorem State.writeWhere_dmcs (o : Nat) (m : FieldSpec → Bool) (v : Word) : (s.writeWhere o m v).dmcs = s.dmcs := rfl
@[simp] theorem State.writeWhere_dram (o : Nat) (m : FieldSpec → Bool) (v : Word) : (s.writeWhere o m v).dram = s.dram := rfl
@[simp] theorem State.writeWhere_mpes (o : Nat) (m : FieldSpec → Bool) (v : Word) : (s.writeWhere o m v).mpes = s.mpes := rfl
@[simp] theorem State.writeWhere_pci (o : Nat) (m : FieldSpec → Bool) (v : Word) : (s.writeWhere o m v).pci = s.pci := rfl
@[simp] theorem State.writeWhere_se (o : Nat) (m : FieldSpec → Bool) (v : Word) : (s.writeWhere o m v).se = s.se := rfl
@[simp] theorem State.writeWhere_ts (o : Nat) (m : FieldSpec → Bool) (v : Word) : (s.writeWhere o m v).ts = s.ts := rfl
@[simp] theorem State.writeWhere_cc (o : Nat) (m : FieldSpec → Bool) (v : Word) : (s.writeWhere o m v).cc = s.cc := rfl
@[simp] theorem State.writeWhere_xcv (o : Nat) (m : FieldSpec → Bool) (v : Word) : (s.writeWhere o m v).xcv = s.xcv := rfl
@[simp] theorem State.writeWhere_pair (o : Nat) (m : FieldSpec → Bool) (v : Word) : (s.writeWhere o m v).pair = s.pair := rfl
@[simp] theorem State.writeWhere_pwr (o : Nat) (m : FieldSpec → Bool) (v : Word) : (s.writeWhere o m v).pwr = s.pwr := rfl
@[simp] theorem State.writeWhere_age (o : Nat) (m : FieldSpec → Bool) (v : Word) : (s.writeWhere o m v).age = s.age := rfl
@[simp] theorem State.writeWhere_twp (o : Nat) (m : FieldSpec → Bool) (v : Word) : (s.writeWhere o m v).twp = s.twp := rfl
@[simp] theorem State.writeWhere_jtag (o : Nat) (m : FieldSpec → Bool) (v : Word) : (s.writeWhere o m v).jtag = s.jtag := rfl
@[simp] theorem State.writeWhere_pending (o : Nat) (m : FieldSpec → Bool) (v : Word) : (s.writeWhere o m v).pending = s.pending := rfl

/-! ### Writing a register -/

@[simp] theorem State.write_fuse (o : Nat) (v : Word) : (s.write o v).fuse = s.fuse := rfl
@[simp] theorem State.write_now (o : Nat) (v : Word) : (s.write o v).now = s.now := rfl
@[simp] theorem State.write_answer (o : Nat) (v : Word) : (s.write o v).answer = s.answer := rfl
@[simp] theorem State.write_freeCount (o : Nat) (v : Word) : (s.write o v).freeCount = s.freeCount := rfl
@[simp] theorem State.write_pins (o : Nat) (v : Word) : (s.write o v).pins = s.pins := rfl
@[simp] theorem State.write_flt (o : Nat) (v : Word) : (s.write o v).flt = s.flt := rfl
@[simp] theorem State.write_th (o : Nat) (v : Word) : (s.write o v).th = s.th := rfl
@[simp] theorem State.write_clk (o : Nat) (v : Word) : (s.write o v).clk = s.clk := rfl
@[simp] theorem State.write_fabric (o : Nat) (v : Word) : (s.write o v).fabric = s.fabric := rfl
@[simp] theorem State.write_mem (o : Nat) (v : Word) : (s.write o v).mem = s.mem := rfl
@[simp] theorem State.write_slices (o : Nat) (v : Word) : (s.write o v).slices = s.slices := rfl
@[simp] theorem State.write_fuses (o : Nat) (v : Word) : (s.write o v).fuses = s.fuses := rfl
@[simp] theorem State.write_flash (o : Nat) (v : Word) : (s.write o v).flash = s.flash := rfl
@[simp] theorem State.write_planes (o : Nat) (v : Word) : (s.write o v).planes = s.planes := rfl
@[simp] theorem State.write_cfg (o : Nat) (v : Word) : (s.write o v).cfg = s.cfg := rfl
@[simp] theorem State.write_stalls (o : Nat) (v : Word) : (s.write o v).stalls = s.stalls := rfl
@[simp] theorem State.write_scrub (o : Nat) (v : Word) : (s.write o v).scrub = s.scrub := rfl
@[simp] theorem State.write_noc (o : Nat) (v : Word) : (s.write o v).noc = s.noc := rfl
@[simp] theorem State.write_dmcs (o : Nat) (v : Word) : (s.write o v).dmcs = s.dmcs := rfl
@[simp] theorem State.write_dram (o : Nat) (v : Word) : (s.write o v).dram = s.dram := rfl
@[simp] theorem State.write_mpes (o : Nat) (v : Word) : (s.write o v).mpes = s.mpes := rfl
@[simp] theorem State.write_pci (o : Nat) (v : Word) : (s.write o v).pci = s.pci := rfl
@[simp] theorem State.write_se (o : Nat) (v : Word) : (s.write o v).se = s.se := rfl
@[simp] theorem State.write_ts (o : Nat) (v : Word) : (s.write o v).ts = s.ts := rfl
@[simp] theorem State.write_cc (o : Nat) (v : Word) : (s.write o v).cc = s.cc := rfl
@[simp] theorem State.write_xcv (o : Nat) (v : Word) : (s.write o v).xcv = s.xcv := rfl
@[simp] theorem State.write_pair (o : Nat) (v : Word) : (s.write o v).pair = s.pair := rfl
@[simp] theorem State.write_pwr (o : Nat) (v : Word) : (s.write o v).pwr = s.pwr := rfl
@[simp] theorem State.write_age (o : Nat) (v : Word) : (s.write o v).age = s.age := rfl
@[simp] theorem State.write_twp (o : Nat) (v : Word) : (s.write o v).twp = s.twp := rfl
@[simp] theorem State.write_jtag (o : Nat) (v : Word) : (s.write o v).jtag = s.jtag := rfl
@[simp] theorem State.write_pending (o : Nat) (v : Word) : (s.write o v).pending = s.pending := rfl

/-! ### An event -/

@[simp] theorem State.event_fuse (pg n : Nat) : (s.event pg n).fuse = s.fuse := rfl
@[simp] theorem State.event_now (pg n : Nat) : (s.event pg n).now = s.now := rfl
@[simp] theorem State.event_answer (pg n : Nat) : (s.event pg n).answer = s.answer := rfl
@[simp] theorem State.event_freeCount (pg n : Nat) : (s.event pg n).freeCount = s.freeCount := rfl
@[simp] theorem State.event_pins (pg n : Nat) : (s.event pg n).pins = s.pins := rfl
@[simp] theorem State.event_flt (pg n : Nat) : (s.event pg n).flt = s.flt := rfl
@[simp] theorem State.event_th (pg n : Nat) : (s.event pg n).th = s.th := rfl
@[simp] theorem State.event_clk (pg n : Nat) : (s.event pg n).clk = s.clk := rfl
@[simp] theorem State.event_fabric (pg n : Nat) : (s.event pg n).fabric = s.fabric := rfl
@[simp] theorem State.event_mem (pg n : Nat) : (s.event pg n).mem = s.mem := rfl
@[simp] theorem State.event_slices (pg n : Nat) : (s.event pg n).slices = s.slices := rfl
@[simp] theorem State.event_fuses (pg n : Nat) : (s.event pg n).fuses = s.fuses := rfl
@[simp] theorem State.event_flash (pg n : Nat) : (s.event pg n).flash = s.flash := rfl
@[simp] theorem State.event_planes (pg n : Nat) : (s.event pg n).planes = s.planes := rfl
@[simp] theorem State.event_cfg (pg n : Nat) : (s.event pg n).cfg = s.cfg := rfl
@[simp] theorem State.event_stalls (pg n : Nat) : (s.event pg n).stalls = s.stalls := rfl
@[simp] theorem State.event_scrub (pg n : Nat) : (s.event pg n).scrub = s.scrub := rfl
@[simp] theorem State.event_noc (pg n : Nat) : (s.event pg n).noc = s.noc := rfl
@[simp] theorem State.event_dmcs (pg n : Nat) : (s.event pg n).dmcs = s.dmcs := rfl
@[simp] theorem State.event_dram (pg n : Nat) : (s.event pg n).dram = s.dram := rfl
@[simp] theorem State.event_mpes (pg n : Nat) : (s.event pg n).mpes = s.mpes := rfl
@[simp] theorem State.event_pci (pg n : Nat) : (s.event pg n).pci = s.pci := rfl
@[simp] theorem State.event_se (pg n : Nat) : (s.event pg n).se = s.se := rfl
@[simp] theorem State.event_ts (pg n : Nat) : (s.event pg n).ts = s.ts := rfl
@[simp] theorem State.event_cc (pg n : Nat) : (s.event pg n).cc = s.cc := rfl
@[simp] theorem State.event_xcv (pg n : Nat) : (s.event pg n).xcv = s.xcv := rfl
@[simp] theorem State.event_pair (pg n : Nat) : (s.event pg n).pair = s.pair := rfl
@[simp] theorem State.event_pwr (pg n : Nat) : (s.event pg n).pwr = s.pwr := rfl
@[simp] theorem State.event_age (pg n : Nat) : (s.event pg n).age = s.age := rfl
@[simp] theorem State.event_twp (pg n : Nat) : (s.event pg n).twp = s.twp := rfl
@[simp] theorem State.event_jtag (pg n : Nat) : (s.event pg n).jtag = s.jtag := rfl
@[simp] theorem State.event_pending (pg n : Nat) : (s.event pg n).pending = s.pending := rfl

/-! ### Answering -/

@[simp] theorem State.answering_regs (b : List Byte) : (s.answering b).regs = s.regs := rfl
@[simp] theorem State.answering_fuse (b : List Byte) : (s.answering b).fuse = s.fuse := rfl
@[simp] theorem State.answering_now (b : List Byte) : (s.answering b).now = s.now := rfl
@[simp] theorem State.answering_freeCount (b : List Byte) : (s.answering b).freeCount = s.freeCount := rfl
@[simp] theorem State.answering_pins (b : List Byte) : (s.answering b).pins = s.pins := rfl
@[simp] theorem State.answering_flt (b : List Byte) : (s.answering b).flt = s.flt := rfl
@[simp] theorem State.answering_th (b : List Byte) : (s.answering b).th = s.th := rfl
@[simp] theorem State.answering_clk (b : List Byte) : (s.answering b).clk = s.clk := rfl
@[simp] theorem State.answering_fabric (b : List Byte) : (s.answering b).fabric = s.fabric := rfl
@[simp] theorem State.answering_mem (b : List Byte) : (s.answering b).mem = s.mem := rfl
@[simp] theorem State.answering_slices (b : List Byte) : (s.answering b).slices = s.slices := rfl
@[simp] theorem State.answering_fuses (b : List Byte) : (s.answering b).fuses = s.fuses := rfl
@[simp] theorem State.answering_flash (b : List Byte) : (s.answering b).flash = s.flash := rfl
@[simp] theorem State.answering_planes (b : List Byte) : (s.answering b).planes = s.planes := rfl
@[simp] theorem State.answering_cfg (b : List Byte) : (s.answering b).cfg = s.cfg := rfl
@[simp] theorem State.answering_stalls (b : List Byte) : (s.answering b).stalls = s.stalls := rfl
@[simp] theorem State.answering_scrub (b : List Byte) : (s.answering b).scrub = s.scrub := rfl
@[simp] theorem State.answering_noc (b : List Byte) : (s.answering b).noc = s.noc := rfl
@[simp] theorem State.answering_dmcs (b : List Byte) : (s.answering b).dmcs = s.dmcs := rfl
@[simp] theorem State.answering_dram (b : List Byte) : (s.answering b).dram = s.dram := rfl
@[simp] theorem State.answering_mpes (b : List Byte) : (s.answering b).mpes = s.mpes := rfl
@[simp] theorem State.answering_pci (b : List Byte) : (s.answering b).pci = s.pci := rfl
@[simp] theorem State.answering_se (b : List Byte) : (s.answering b).se = s.se := rfl
@[simp] theorem State.answering_ts (b : List Byte) : (s.answering b).ts = s.ts := rfl
@[simp] theorem State.answering_cc (b : List Byte) : (s.answering b).cc = s.cc := rfl
@[simp] theorem State.answering_xcv (b : List Byte) : (s.answering b).xcv = s.xcv := rfl
@[simp] theorem State.answering_pair (b : List Byte) : (s.answering b).pair = s.pair := rfl
@[simp] theorem State.answering_pwr (b : List Byte) : (s.answering b).pwr = s.pwr := rfl
@[simp] theorem State.answering_age (b : List Byte) : (s.answering b).age = s.age := rfl
@[simp] theorem State.answering_twp (b : List Byte) : (s.answering b).twp = s.twp := rfl
@[simp] theorem State.answering_jtag (b : List Byte) : (s.answering b).jtag = s.jtag := rfl
@[simp] theorem State.answering_pending (b : List Byte) : (s.answering b).pending = s.pending := rfl

/-! ### Answering a word -/

@[simp] theorem State.answerWord_regs (w : Word) : (s.answerWord w).regs = s.regs := rfl
@[simp] theorem State.answerWord_fuse (w : Word) : (s.answerWord w).fuse = s.fuse := rfl
@[simp] theorem State.answerWord_now (w : Word) : (s.answerWord w).now = s.now := rfl
@[simp] theorem State.answerWord_freeCount (w : Word) : (s.answerWord w).freeCount = s.freeCount := rfl
@[simp] theorem State.answerWord_pins (w : Word) : (s.answerWord w).pins = s.pins := rfl
@[simp] theorem State.answerWord_flt (w : Word) : (s.answerWord w).flt = s.flt := rfl
@[simp] theorem State.answerWord_th (w : Word) : (s.answerWord w).th = s.th := rfl
@[simp] theorem State.answerWord_clk (w : Word) : (s.answerWord w).clk = s.clk := rfl
@[simp] theorem State.answerWord_fabric (w : Word) : (s.answerWord w).fabric = s.fabric := rfl
@[simp] theorem State.answerWord_mem (w : Word) : (s.answerWord w).mem = s.mem := rfl
@[simp] theorem State.answerWord_slices (w : Word) : (s.answerWord w).slices = s.slices := rfl
@[simp] theorem State.answerWord_fuses (w : Word) : (s.answerWord w).fuses = s.fuses := rfl
@[simp] theorem State.answerWord_flash (w : Word) : (s.answerWord w).flash = s.flash := rfl
@[simp] theorem State.answerWord_planes (w : Word) : (s.answerWord w).planes = s.planes := rfl
@[simp] theorem State.answerWord_cfg (w : Word) : (s.answerWord w).cfg = s.cfg := rfl
@[simp] theorem State.answerWord_stalls (w : Word) : (s.answerWord w).stalls = s.stalls := rfl
@[simp] theorem State.answerWord_scrub (w : Word) : (s.answerWord w).scrub = s.scrub := rfl
@[simp] theorem State.answerWord_noc (w : Word) : (s.answerWord w).noc = s.noc := rfl
@[simp] theorem State.answerWord_dmcs (w : Word) : (s.answerWord w).dmcs = s.dmcs := rfl
@[simp] theorem State.answerWord_dram (w : Word) : (s.answerWord w).dram = s.dram := rfl
@[simp] theorem State.answerWord_mpes (w : Word) : (s.answerWord w).mpes = s.mpes := rfl
@[simp] theorem State.answerWord_pci (w : Word) : (s.answerWord w).pci = s.pci := rfl
@[simp] theorem State.answerWord_se (w : Word) : (s.answerWord w).se = s.se := rfl
@[simp] theorem State.answerWord_ts (w : Word) : (s.answerWord w).ts = s.ts := rfl
@[simp] theorem State.answerWord_cc (w : Word) : (s.answerWord w).cc = s.cc := rfl
@[simp] theorem State.answerWord_xcv (w : Word) : (s.answerWord w).xcv = s.xcv := rfl
@[simp] theorem State.answerWord_pair (w : Word) : (s.answerWord w).pair = s.pair := rfl
@[simp] theorem State.answerWord_pwr (w : Word) : (s.answerWord w).pwr = s.pwr := rfl
@[simp] theorem State.answerWord_age (w : Word) : (s.answerWord w).age = s.age := rfl
@[simp] theorem State.answerWord_twp (w : Word) : (s.answerWord w).twp = s.twp := rfl
@[simp] theorem State.answerWord_jtag (w : Word) : (s.answerWord w).jtag = s.jtag := rfl
@[simp] theorem State.answerWord_pending (w : Word) : (s.answerWord w).pending = s.pending := rfl

/-! ### A fresh free value -/

@[simp] theorem State.fresh_regs (w : Nat) : ((s.fresh w).2).regs = s.regs := rfl
@[simp] theorem State.fresh_fuse (w : Nat) : ((s.fresh w).2).fuse = s.fuse := rfl
@[simp] theorem State.fresh_now (w : Nat) : ((s.fresh w).2).now = s.now := rfl
@[simp] theorem State.fresh_answer (w : Nat) : ((s.fresh w).2).answer = s.answer := rfl
@[simp] theorem State.fresh_pins (w : Nat) : ((s.fresh w).2).pins = s.pins := rfl
@[simp] theorem State.fresh_flt (w : Nat) : ((s.fresh w).2).flt = s.flt := rfl
@[simp] theorem State.fresh_th (w : Nat) : ((s.fresh w).2).th = s.th := rfl
@[simp] theorem State.fresh_clk (w : Nat) : ((s.fresh w).2).clk = s.clk := rfl
@[simp] theorem State.fresh_fabric (w : Nat) : ((s.fresh w).2).fabric = s.fabric := rfl
@[simp] theorem State.fresh_mem (w : Nat) : ((s.fresh w).2).mem = s.mem := rfl
@[simp] theorem State.fresh_slices (w : Nat) : ((s.fresh w).2).slices = s.slices := rfl
@[simp] theorem State.fresh_fuses (w : Nat) : ((s.fresh w).2).fuses = s.fuses := rfl
@[simp] theorem State.fresh_flash (w : Nat) : ((s.fresh w).2).flash = s.flash := rfl
@[simp] theorem State.fresh_planes (w : Nat) : ((s.fresh w).2).planes = s.planes := rfl
@[simp] theorem State.fresh_cfg (w : Nat) : ((s.fresh w).2).cfg = s.cfg := rfl
@[simp] theorem State.fresh_stalls (w : Nat) : ((s.fresh w).2).stalls = s.stalls := rfl
@[simp] theorem State.fresh_scrub (w : Nat) : ((s.fresh w).2).scrub = s.scrub := rfl
@[simp] theorem State.fresh_noc (w : Nat) : ((s.fresh w).2).noc = s.noc := rfl
@[simp] theorem State.fresh_dmcs (w : Nat) : ((s.fresh w).2).dmcs = s.dmcs := rfl
@[simp] theorem State.fresh_dram (w : Nat) : ((s.fresh w).2).dram = s.dram := rfl
@[simp] theorem State.fresh_mpes (w : Nat) : ((s.fresh w).2).mpes = s.mpes := rfl
@[simp] theorem State.fresh_pci (w : Nat) : ((s.fresh w).2).pci = s.pci := rfl
@[simp] theorem State.fresh_se (w : Nat) : ((s.fresh w).2).se = s.se := rfl
@[simp] theorem State.fresh_ts (w : Nat) : ((s.fresh w).2).ts = s.ts := rfl
@[simp] theorem State.fresh_cc (w : Nat) : ((s.fresh w).2).cc = s.cc := rfl
@[simp] theorem State.fresh_xcv (w : Nat) : ((s.fresh w).2).xcv = s.xcv := rfl
@[simp] theorem State.fresh_pair (w : Nat) : ((s.fresh w).2).pair = s.pair := rfl
@[simp] theorem State.fresh_pwr (w : Nat) : ((s.fresh w).2).pwr = s.pwr := rfl
@[simp] theorem State.fresh_age (w : Nat) : ((s.fresh w).2).age = s.age := rfl
@[simp] theorem State.fresh_twp (w : Nat) : ((s.fresh w).2).twp = s.twp := rfl
@[simp] theorem State.fresh_jtag (w : Nat) : ((s.fresh w).2).jtag = s.jtag := rfl
@[simp] theorem State.fresh_pending (w : Nat) : ((s.fresh w).2).pending = s.pending := rfl

/-! ### An entry for the log -/

@[simp] theorem State.handEntry_fuse (e : FaultRec) : (s.handEntry e).fuse = s.fuse := by
  unfold State.handEntry; simp only []; split_ifs <;> rfl
@[simp] theorem State.handEntry_now (e : FaultRec) : (s.handEntry e).now = s.now := by
  unfold State.handEntry; simp only []; split_ifs <;> rfl
@[simp] theorem State.handEntry_answer (e : FaultRec) : (s.handEntry e).answer = s.answer := by
  unfold State.handEntry; simp only []; split_ifs <;> rfl
@[simp] theorem State.handEntry_freeCount (e : FaultRec) : (s.handEntry e).freeCount = s.freeCount := by
  unfold State.handEntry; simp only []; split_ifs <;> rfl
@[simp] theorem State.handEntry_pins (e : FaultRec) : (s.handEntry e).pins = s.pins := by
  unfold State.handEntry; simp only []; split_ifs <;> rfl
@[simp] theorem State.handEntry_th (e : FaultRec) : (s.handEntry e).th = s.th := by
  unfold State.handEntry; simp only []; split_ifs <;> rfl
@[simp] theorem State.handEntry_clk (e : FaultRec) : (s.handEntry e).clk = s.clk := by
  unfold State.handEntry; simp only []; split_ifs <;> rfl
@[simp] theorem State.handEntry_fabric (e : FaultRec) : (s.handEntry e).fabric = s.fabric := by
  unfold State.handEntry; simp only []; split_ifs <;> rfl
@[simp] theorem State.handEntry_mem (e : FaultRec) : (s.handEntry e).mem = s.mem := by
  unfold State.handEntry; simp only []; split_ifs <;> rfl
@[simp] theorem State.handEntry_slices (e : FaultRec) : (s.handEntry e).slices = s.slices := by
  unfold State.handEntry; simp only []; split_ifs <;> rfl
@[simp] theorem State.handEntry_fuses (e : FaultRec) : (s.handEntry e).fuses = s.fuses := by
  unfold State.handEntry; simp only []; split_ifs <;> rfl
@[simp] theorem State.handEntry_flash (e : FaultRec) : (s.handEntry e).flash = s.flash := by
  unfold State.handEntry; simp only []; split_ifs <;> rfl
@[simp] theorem State.handEntry_planes (e : FaultRec) : (s.handEntry e).planes = s.planes := by
  unfold State.handEntry; simp only []; split_ifs <;> rfl
@[simp] theorem State.handEntry_cfg (e : FaultRec) : (s.handEntry e).cfg = s.cfg := by
  unfold State.handEntry; simp only []; split_ifs <;> rfl
@[simp] theorem State.handEntry_stalls (e : FaultRec) : (s.handEntry e).stalls = s.stalls := by
  unfold State.handEntry; simp only []; split_ifs <;> rfl
@[simp] theorem State.handEntry_scrub (e : FaultRec) : (s.handEntry e).scrub = s.scrub := by
  unfold State.handEntry; simp only []; split_ifs <;> rfl
@[simp] theorem State.handEntry_noc (e : FaultRec) : (s.handEntry e).noc = s.noc := by
  unfold State.handEntry; simp only []; split_ifs <;> rfl
@[simp] theorem State.handEntry_dmcs (e : FaultRec) : (s.handEntry e).dmcs = s.dmcs := by
  unfold State.handEntry; simp only []; split_ifs <;> rfl
@[simp] theorem State.handEntry_dram (e : FaultRec) : (s.handEntry e).dram = s.dram := by
  unfold State.handEntry; simp only []; split_ifs <;> rfl
@[simp] theorem State.handEntry_mpes (e : FaultRec) : (s.handEntry e).mpes = s.mpes := by
  unfold State.handEntry; simp only []; split_ifs <;> rfl
@[simp] theorem State.handEntry_pci (e : FaultRec) : (s.handEntry e).pci = s.pci := by
  unfold State.handEntry; simp only []; split_ifs <;> rfl
@[simp] theorem State.handEntry_se (e : FaultRec) : (s.handEntry e).se = s.se := by
  unfold State.handEntry; simp only []; split_ifs <;> rfl
@[simp] theorem State.handEntry_ts (e : FaultRec) : (s.handEntry e).ts = s.ts := by
  unfold State.handEntry; simp only []; split_ifs <;> rfl
@[simp] theorem State.handEntry_cc (e : FaultRec) : (s.handEntry e).cc = s.cc := by
  unfold State.handEntry; simp only []; split_ifs <;> rfl
@[simp] theorem State.handEntry_xcv (e : FaultRec) : (s.handEntry e).xcv = s.xcv := by
  unfold State.handEntry; simp only []; split_ifs <;> rfl
@[simp] theorem State.handEntry_pair (e : FaultRec) : (s.handEntry e).pair = s.pair := by
  unfold State.handEntry; simp only []; split_ifs <;> rfl
@[simp] theorem State.handEntry_pwr (e : FaultRec) : (s.handEntry e).pwr = s.pwr := by
  unfold State.handEntry; simp only []; split_ifs <;> rfl
@[simp] theorem State.handEntry_age (e : FaultRec) : (s.handEntry e).age = s.age := by
  unfold State.handEntry; simp only []; split_ifs <;> rfl
@[simp] theorem State.handEntry_twp (e : FaultRec) : (s.handEntry e).twp = s.twp := by
  unfold State.handEntry; simp only []; split_ifs <;> rfl
@[simp] theorem State.handEntry_jtag (e : FaultRec) : (s.handEntry e).jtag = s.jtag := by
  unfold State.handEntry; simp only []; split_ifs <;> rfl
@[simp] theorem State.handEntry_pending (e : FaultRec) : (s.handEntry e).pending = s.pending := by
  unfold State.handEntry; simp only []; split_ifs <;> rfl

/-! ### A logged entry -/

@[simp] theorem State.log_fuse (pg : Nat) (c : BitVec 2) (k i j : Nat) : (s.log pg c k i j).fuse = s.fuse := by
  unfold State.log; simp only []; split_ifs <;> simp
@[simp] theorem State.log_now (pg : Nat) (c : BitVec 2) (k i j : Nat) : (s.log pg c k i j).now = s.now := by
  unfold State.log; simp only []; split_ifs <;> simp
@[simp] theorem State.log_answer (pg : Nat) (c : BitVec 2) (k i j : Nat) : (s.log pg c k i j).answer = s.answer := by
  unfold State.log; simp only []; split_ifs <;> simp
@[simp] theorem State.log_freeCount (pg : Nat) (c : BitVec 2) (k i j : Nat) : (s.log pg c k i j).freeCount = s.freeCount := by
  unfold State.log; simp only []; split_ifs <;> simp
@[simp] theorem State.log_pins (pg : Nat) (c : BitVec 2) (k i j : Nat) : (s.log pg c k i j).pins = s.pins := by
  unfold State.log; simp only []; split_ifs <;> simp
@[simp] theorem State.log_th (pg : Nat) (c : BitVec 2) (k i j : Nat) : (s.log pg c k i j).th = s.th := by
  unfold State.log; simp only []; split_ifs <;> simp
@[simp] theorem State.log_clk (pg : Nat) (c : BitVec 2) (k i j : Nat) : (s.log pg c k i j).clk = s.clk := by
  unfold State.log; simp only []; split_ifs <;> simp
@[simp] theorem State.log_fabric (pg : Nat) (c : BitVec 2) (k i j : Nat) : (s.log pg c k i j).fabric = s.fabric := by
  unfold State.log; simp only []; split_ifs <;> simp
@[simp] theorem State.log_mem (pg : Nat) (c : BitVec 2) (k i j : Nat) : (s.log pg c k i j).mem = s.mem := by
  unfold State.log; simp only []; split_ifs <;> simp
@[simp] theorem State.log_slices (pg : Nat) (c : BitVec 2) (k i j : Nat) : (s.log pg c k i j).slices = s.slices := by
  unfold State.log; simp only []; split_ifs <;> simp
@[simp] theorem State.log_fuses (pg : Nat) (c : BitVec 2) (k i j : Nat) : (s.log pg c k i j).fuses = s.fuses := by
  unfold State.log; simp only []; split_ifs <;> simp
@[simp] theorem State.log_flash (pg : Nat) (c : BitVec 2) (k i j : Nat) : (s.log pg c k i j).flash = s.flash := by
  unfold State.log; simp only []; split_ifs <;> simp
@[simp] theorem State.log_planes (pg : Nat) (c : BitVec 2) (k i j : Nat) : (s.log pg c k i j).planes = s.planes := by
  unfold State.log; simp only []; split_ifs <;> simp
@[simp] theorem State.log_cfg (pg : Nat) (c : BitVec 2) (k i j : Nat) : (s.log pg c k i j).cfg = s.cfg := by
  unfold State.log; simp only []; split_ifs <;> simp
@[simp] theorem State.log_stalls (pg : Nat) (c : BitVec 2) (k i j : Nat) : (s.log pg c k i j).stalls = s.stalls := by
  unfold State.log; simp only []; split_ifs <;> simp
@[simp] theorem State.log_scrub (pg : Nat) (c : BitVec 2) (k i j : Nat) : (s.log pg c k i j).scrub = s.scrub := by
  unfold State.log; simp only []; split_ifs <;> simp
@[simp] theorem State.log_noc (pg : Nat) (c : BitVec 2) (k i j : Nat) : (s.log pg c k i j).noc = s.noc := by
  unfold State.log; simp only []; split_ifs <;> simp
@[simp] theorem State.log_dmcs (pg : Nat) (c : BitVec 2) (k i j : Nat) : (s.log pg c k i j).dmcs = s.dmcs := by
  unfold State.log; simp only []; split_ifs <;> simp
@[simp] theorem State.log_dram (pg : Nat) (c : BitVec 2) (k i j : Nat) : (s.log pg c k i j).dram = s.dram := by
  unfold State.log; simp only []; split_ifs <;> simp
@[simp] theorem State.log_mpes (pg : Nat) (c : BitVec 2) (k i j : Nat) : (s.log pg c k i j).mpes = s.mpes := by
  unfold State.log; simp only []; split_ifs <;> simp
@[simp] theorem State.log_pci (pg : Nat) (c : BitVec 2) (k i j : Nat) : (s.log pg c k i j).pci = s.pci := by
  unfold State.log; simp only []; split_ifs <;> simp
@[simp] theorem State.log_se (pg : Nat) (c : BitVec 2) (k i j : Nat) : (s.log pg c k i j).se = s.se := by
  unfold State.log; simp only []; split_ifs <;> simp
@[simp] theorem State.log_ts (pg : Nat) (c : BitVec 2) (k i j : Nat) : (s.log pg c k i j).ts = s.ts := by
  unfold State.log; simp only []; split_ifs <;> simp
@[simp] theorem State.log_cc (pg : Nat) (c : BitVec 2) (k i j : Nat) : (s.log pg c k i j).cc = s.cc := by
  unfold State.log; simp only []; split_ifs <;> simp
@[simp] theorem State.log_xcv (pg : Nat) (c : BitVec 2) (k i j : Nat) : (s.log pg c k i j).xcv = s.xcv := by
  unfold State.log; simp only []; split_ifs <;> simp
@[simp] theorem State.log_pair (pg : Nat) (c : BitVec 2) (k i j : Nat) : (s.log pg c k i j).pair = s.pair := by
  unfold State.log; simp only []; split_ifs <;> simp
@[simp] theorem State.log_pwr (pg : Nat) (c : BitVec 2) (k i j : Nat) : (s.log pg c k i j).pwr = s.pwr := by
  unfold State.log; simp only []; split_ifs <;> simp
@[simp] theorem State.log_age (pg : Nat) (c : BitVec 2) (k i j : Nat) : (s.log pg c k i j).age = s.age := by
  unfold State.log; simp only []; split_ifs <;> simp
@[simp] theorem State.log_twp (pg : Nat) (c : BitVec 2) (k i j : Nat) : (s.log pg c k i j).twp = s.twp := by
  unfold State.log; simp only []; split_ifs <;> simp
@[simp] theorem State.log_jtag (pg : Nat) (c : BitVec 2) (k i j : Nat) : (s.log pg c k i j).jtag = s.jtag := by
  unfold State.log; simp only []; split_ifs <;> simp
@[simp] theorem State.log_pending (pg : Nat) (c : BitVec 2) (k i j : Nat) : (s.log pg c k i j).pending = s.pending := by
  unfold State.log; simp only []; split_ifs <;> simp

/-! ### An event with its entry -/

@[simp] theorem State.raise_fuse (pg n : Nat) (c : BitVec 2) (k i j : Nat) : (s.raise pg n c k i j).fuse = s.fuse := by
  simp [State.raise]
@[simp] theorem State.raise_now (pg n : Nat) (c : BitVec 2) (k i j : Nat) : (s.raise pg n c k i j).now = s.now := by
  simp [State.raise]
@[simp] theorem State.raise_answer (pg n : Nat) (c : BitVec 2) (k i j : Nat) : (s.raise pg n c k i j).answer = s.answer := by
  simp [State.raise]
@[simp] theorem State.raise_freeCount (pg n : Nat) (c : BitVec 2) (k i j : Nat) : (s.raise pg n c k i j).freeCount = s.freeCount := by
  simp [State.raise]
@[simp] theorem State.raise_pins (pg n : Nat) (c : BitVec 2) (k i j : Nat) : (s.raise pg n c k i j).pins = s.pins := by
  simp [State.raise]
@[simp] theorem State.raise_th (pg n : Nat) (c : BitVec 2) (k i j : Nat) : (s.raise pg n c k i j).th = s.th := by
  simp [State.raise]
@[simp] theorem State.raise_clk (pg n : Nat) (c : BitVec 2) (k i j : Nat) : (s.raise pg n c k i j).clk = s.clk := by
  simp [State.raise]
@[simp] theorem State.raise_fabric (pg n : Nat) (c : BitVec 2) (k i j : Nat) : (s.raise pg n c k i j).fabric = s.fabric := by
  simp [State.raise]
@[simp] theorem State.raise_mem (pg n : Nat) (c : BitVec 2) (k i j : Nat) : (s.raise pg n c k i j).mem = s.mem := by
  simp [State.raise]
@[simp] theorem State.raise_slices (pg n : Nat) (c : BitVec 2) (k i j : Nat) : (s.raise pg n c k i j).slices = s.slices := by
  simp [State.raise]
@[simp] theorem State.raise_fuses (pg n : Nat) (c : BitVec 2) (k i j : Nat) : (s.raise pg n c k i j).fuses = s.fuses := by
  simp [State.raise]
@[simp] theorem State.raise_flash (pg n : Nat) (c : BitVec 2) (k i j : Nat) : (s.raise pg n c k i j).flash = s.flash := by
  simp [State.raise]
@[simp] theorem State.raise_planes (pg n : Nat) (c : BitVec 2) (k i j : Nat) : (s.raise pg n c k i j).planes = s.planes := by
  simp [State.raise]
@[simp] theorem State.raise_cfg (pg n : Nat) (c : BitVec 2) (k i j : Nat) : (s.raise pg n c k i j).cfg = s.cfg := by
  simp [State.raise]
@[simp] theorem State.raise_stalls (pg n : Nat) (c : BitVec 2) (k i j : Nat) : (s.raise pg n c k i j).stalls = s.stalls := by
  simp [State.raise]
@[simp] theorem State.raise_scrub (pg n : Nat) (c : BitVec 2) (k i j : Nat) : (s.raise pg n c k i j).scrub = s.scrub := by
  simp [State.raise]
@[simp] theorem State.raise_noc (pg n : Nat) (c : BitVec 2) (k i j : Nat) : (s.raise pg n c k i j).noc = s.noc := by
  simp [State.raise]
@[simp] theorem State.raise_dmcs (pg n : Nat) (c : BitVec 2) (k i j : Nat) : (s.raise pg n c k i j).dmcs = s.dmcs := by
  simp [State.raise]
@[simp] theorem State.raise_dram (pg n : Nat) (c : BitVec 2) (k i j : Nat) : (s.raise pg n c k i j).dram = s.dram := by
  simp [State.raise]
@[simp] theorem State.raise_mpes (pg n : Nat) (c : BitVec 2) (k i j : Nat) : (s.raise pg n c k i j).mpes = s.mpes := by
  simp [State.raise]
@[simp] theorem State.raise_pci (pg n : Nat) (c : BitVec 2) (k i j : Nat) : (s.raise pg n c k i j).pci = s.pci := by
  simp [State.raise]
@[simp] theorem State.raise_se (pg n : Nat) (c : BitVec 2) (k i j : Nat) : (s.raise pg n c k i j).se = s.se := by
  simp [State.raise]
@[simp] theorem State.raise_ts (pg n : Nat) (c : BitVec 2) (k i j : Nat) : (s.raise pg n c k i j).ts = s.ts := by
  simp [State.raise]
@[simp] theorem State.raise_cc (pg n : Nat) (c : BitVec 2) (k i j : Nat) : (s.raise pg n c k i j).cc = s.cc := by
  simp [State.raise]
@[simp] theorem State.raise_xcv (pg n : Nat) (c : BitVec 2) (k i j : Nat) : (s.raise pg n c k i j).xcv = s.xcv := by
  simp [State.raise]
@[simp] theorem State.raise_pair (pg n : Nat) (c : BitVec 2) (k i j : Nat) : (s.raise pg n c k i j).pair = s.pair := by
  simp [State.raise]
@[simp] theorem State.raise_pwr (pg n : Nat) (c : BitVec 2) (k i j : Nat) : (s.raise pg n c k i j).pwr = s.pwr := by
  simp [State.raise]
@[simp] theorem State.raise_age (pg n : Nat) (c : BitVec 2) (k i j : Nat) : (s.raise pg n c k i j).age = s.age := by
  simp [State.raise]
@[simp] theorem State.raise_twp (pg n : Nat) (c : BitVec 2) (k i j : Nat) : (s.raise pg n c k i j).twp = s.twp := by
  simp [State.raise]
@[simp] theorem State.raise_jtag (pg n : Nat) (c : BitVec 2) (k i j : Nat) : (s.raise pg n c k i j).jtag = s.jtag := by
  simp [State.raise]
@[simp] theorem State.raise_pending (pg n : Nat) (c : BitVec 2) (k i j : Nat) : (s.raise pg n c k i j).pending = s.pending := by
  simp [State.raise]

/-! ### An alert source -/

@[simp] theorem State.alert_fuse (n : Nat) : (s.alert n).fuse = s.fuse := by
  unfold State.alert; simp only []; split_ifs <;> rfl
@[simp] theorem State.alert_now (n : Nat) : (s.alert n).now = s.now := by
  unfold State.alert; simp only []; split_ifs <;> rfl
@[simp] theorem State.alert_answer (n : Nat) : (s.alert n).answer = s.answer := by
  unfold State.alert; simp only []; split_ifs <;> rfl
@[simp] theorem State.alert_freeCount (n : Nat) : (s.alert n).freeCount = s.freeCount := by
  unfold State.alert; simp only []; split_ifs <;> rfl
@[simp] theorem State.alert_pins (n : Nat) : (s.alert n).pins = s.pins := by
  unfold State.alert; simp only []; split_ifs <;> rfl
@[simp] theorem State.alert_flt (n : Nat) : (s.alert n).flt = s.flt := by
  unfold State.alert; simp only []; split_ifs <;> rfl
@[simp] theorem State.alert_th (n : Nat) : (s.alert n).th = s.th := by
  unfold State.alert; simp only []; split_ifs <;> rfl
@[simp] theorem State.alert_clk (n : Nat) : (s.alert n).clk = s.clk := by
  unfold State.alert; simp only []; split_ifs <;> rfl
@[simp] theorem State.alert_fabric (n : Nat) : (s.alert n).fabric = s.fabric := by
  unfold State.alert; simp only []; split_ifs <;> rfl
@[simp] theorem State.alert_mem (n : Nat) : (s.alert n).mem = s.mem := by
  unfold State.alert; simp only []; split_ifs <;> rfl
@[simp] theorem State.alert_slices (n : Nat) : (s.alert n).slices = s.slices := by
  unfold State.alert; simp only []; split_ifs <;> rfl
@[simp] theorem State.alert_fuses (n : Nat) : (s.alert n).fuses = s.fuses := by
  unfold State.alert; simp only []; split_ifs <;> rfl
@[simp] theorem State.alert_flash (n : Nat) : (s.alert n).flash = s.flash := by
  unfold State.alert; simp only []; split_ifs <;> rfl
@[simp] theorem State.alert_planes (n : Nat) : (s.alert n).planes = s.planes := by
  unfold State.alert; simp only []; split_ifs <;> rfl
@[simp] theorem State.alert_cfg (n : Nat) : (s.alert n).cfg = s.cfg := by
  unfold State.alert; simp only []; split_ifs <;> rfl
@[simp] theorem State.alert_stalls (n : Nat) : (s.alert n).stalls = s.stalls := by
  unfold State.alert; simp only []; split_ifs <;> rfl
@[simp] theorem State.alert_scrub (n : Nat) : (s.alert n).scrub = s.scrub := by
  unfold State.alert; simp only []; split_ifs <;> rfl
@[simp] theorem State.alert_noc (n : Nat) : (s.alert n).noc = s.noc := by
  unfold State.alert; simp only []; split_ifs <;> rfl
@[simp] theorem State.alert_dmcs (n : Nat) : (s.alert n).dmcs = s.dmcs := by
  unfold State.alert; simp only []; split_ifs <;> rfl
@[simp] theorem State.alert_dram (n : Nat) : (s.alert n).dram = s.dram := by
  unfold State.alert; simp only []; split_ifs <;> rfl
@[simp] theorem State.alert_mpes (n : Nat) : (s.alert n).mpes = s.mpes := by
  unfold State.alert; simp only []; split_ifs <;> rfl
@[simp] theorem State.alert_pci (n : Nat) : (s.alert n).pci = s.pci := by
  unfold State.alert; simp only []; split_ifs <;> rfl
@[simp] theorem State.alert_se (n : Nat) : (s.alert n).se = s.se := by
  unfold State.alert; simp only []; split_ifs <;> rfl
@[simp] theorem State.alert_ts (n : Nat) : (s.alert n).ts = s.ts := by
  unfold State.alert; simp only []; split_ifs <;> rfl
@[simp] theorem State.alert_cc (n : Nat) : (s.alert n).cc = s.cc := by
  unfold State.alert; simp only []; split_ifs <;> rfl
@[simp] theorem State.alert_xcv (n : Nat) : (s.alert n).xcv = s.xcv := by
  unfold State.alert; simp only []; split_ifs <;> rfl
@[simp] theorem State.alert_pair (n : Nat) : (s.alert n).pair = s.pair := by
  unfold State.alert; simp only []; split_ifs <;> rfl
@[simp] theorem State.alert_pwr (n : Nat) : (s.alert n).pwr = s.pwr := by
  unfold State.alert; simp only []; split_ifs <;> rfl
@[simp] theorem State.alert_age (n : Nat) : (s.alert n).age = s.age := by
  unfold State.alert; simp only []; split_ifs <;> rfl
@[simp] theorem State.alert_jtag (n : Nat) : (s.alert n).jtag = s.jtag := by
  unfold State.alert; simp only []; split_ifs <;> rfl
@[simp] theorem State.alert_pending (n : Nat) : (s.alert n).pending = s.pending := by
  unfold State.alert; simp only []; split_ifs <;> rfl

end Sys2Proof.Machine
end

