-- ==== Sys2Proof/Laws/Registers.lean ====
section
/-! SUPPORT. The laws of the register space: a word, a field and a quantity read after a write. -/

namespace Sys2Proof.Machine

/-! ### Bits of a word -/

theorem setBits_getLsbD (w : Word) (hi lo v k : Nat) (hk : k < 32) :
    (setBits w hi lo v).getLsbD k =
      if lo ≤ k ∧ k < hi + 1 then v.testBit (k - lo) else w.getLsbD k := by
  unfold setBits
  simp only [BitVec.getLsbD_or, BitVec.getLsbD_and, BitVec.getLsbD_not, BitVec.getLsbD_ofNat, hk, decide_true,
    Bool.true_and, Nat.testBit_shiftLeft, Nat.testBit_two_pow_sub_one, Nat.testBit_mod_two_pow]
  by_cases h1 : lo ≤ k
  · by_cases h2 : k < hi + 1
    · have : k - lo < hi + 1 - lo := by omega
      simp [h1, h2, this]
    · have : ¬ k - lo < hi + 1 - lo := by omega
      simp [h1, h2, this]
  · simp [h1]

theorem bitsOf_testBit (w : Word) (hi lo k : Nat) :
    (bitsOf w hi lo).testBit k = (decide (k < hi + 1 - lo) && w.getLsbD (lo + k)) := by
  simp [bitsOf, Nat.testBit_mod_two_pow, Nat.testBit_shiftRight, BitVec.getLsbD]

/-- The field that has been written reads as what was written, at its width. -/
theorem bitsOf_setBits_same (w : Word) {hi lo : Nat} (v : Nat) (h : hi < 32) :
    bitsOf (setBits w hi lo v) hi lo = v % 2 ^ (hi + 1 - lo) := by
  apply Nat.eq_of_testBit_eq
  intro k
  rw [bitsOf_testBit, Nat.testBit_mod_two_pow]
  by_cases hk : k < hi + 1 - lo
  · rw [setBits_getLsbD _ _ _ _ _ (by omega)]
    have h1 : lo ≤ lo + k ∧ lo + k < hi + 1 := by omega
    simp [hk, h1]
  · simp [hk]

/-- A field apart from the one that has been written reads as before. -/
theorem bitsOf_setBits_ne (w : Word) {hi lo hi' lo' : Nat} (v : Nat) (h : hi' < 32) (ne : hi' < lo ∨ hi < lo') :
    bitsOf (setBits w hi lo v) hi' lo' = bitsOf w hi' lo' := by
  apply Nat.eq_of_testBit_eq
  intro k
  rw [bitsOf_testBit, bitsOf_testBit]
  by_cases hk : k < hi' + 1 - lo'
  · rw [setBits_getLsbD _ _ _ _ _ (by omega)]
    have : ¬ (lo ≤ lo' + k ∧ lo' + k < hi + 1) := by omega
    rw [if_neg this]
  · simp [hk]

theorem bitsOf_lt (w : Word) (hi lo : Nat) : bitsOf w hi lo < 2 ^ (hi + 1 - lo) :=
  Nat.mod_lt _ (Nat.two_pow_pos _)

/-! ### Words and fields of the state -/

@[simp] theorem State.word_setWord_same (s : State) (o : Nat) (w : Word) : (s.setWord o w).word o = w := by
  simp [State.word, State.setWord]

theorem State.word_setWord_ne (s : State) {o o' : Nat} (w : Word) (h : o' ≠ o) :
    (s.setWord o w).word o' = s.word o' := by
  simp [State.word, State.setWord, KMap.get_set_ne _ _ _ h]

theorem State.word_setWord (s : State) (o o' : Nat) (w : Word) :
    (s.setWord o w).word o' = if o' = o then w else s.word o' := by
  simp [State.word, State.setWord, KMap.get_set]

theorem State.word_put_ne (s : State) {f : Field} {o : Nat} (v : Nat) (h : o ≠ f.off) : (s.put f v).word o = s.word o :=
  s.word_setWord_ne _ h

theorem State.get_put_same (s : State) {f : Field} (v : Nat) (h : f.hi < 32) :
    (s.put f v).get f = v % 2 ^ (f.hi + 1 - f.lo) := by
  simp [State.put, State.get, bitsOf_setBits_same _ _ h]

theorem State.get_put_off (s : State) {f g : Field} (v : Nat) (h : g.off ≠ f.off) : (s.put f v).get g = s.get g := by
  simp [State.get, s.word_put_ne v h]

theorem State.get_put_apart (s : State) {f g : Field} (v : Nat) (hg : g.hi < 32) (h : g.hi < f.lo ∨ f.hi < g.lo) :
    (s.put f v).get g = s.get g := by
  by_cases ho : g.off = f.off
  · simp [State.get, State.put, ho, bitsOf_setBits_ne _ _ hg h]
  · exact s.get_put_off v ho

/-- A field after another, or itself, is stored. -/
theorem State.get_put (s : State) {f g : Field} (v : Nat) (hg : g.hi < 32) (h : g = f ∨ g.off ≠ f.off ∨ g.hi < f.lo ∨ f.hi < g.lo) :
    (s.put f v).get g = if g = f then v % 2 ^ (f.hi + 1 - f.lo) else s.get g := by
  by_cases e : g = f
  · subst e; simp [s.get_put_same v hg]
  · rw [if_neg e]
    rcases h with h | h | h
    · exact absurd h e
    · exact s.get_put_off v h
    · exact s.get_put_apart v hg h

theorem State.get_lt (s : State) (f : Field) : s.get f < 2 ^ (f.hi + 1 - f.lo) := bitsOf_lt _ _ _

theorem State.word_of_regs {s t : State} (h : s.regs = t.regs) (o : Nat) : s.word o = t.word o := by
  simp [State.word, h]

theorem State.get_of_regs {s t : State} (h : s.regs = t.regs) (f : Field) : s.get f = t.get f := by
  simp [State.get, State.word, h]

/-! ### Counting and events -/

theorem State.get_count_same (s : State) {f : Field} (h : f.hi < 32) :
    (s.count f).get f = min (s.get f + 1) (2 ^ (f.hi + 1 - f.lo) - 1) := by
  have := Nat.two_pow_pos (f.hi + 1 - f.lo)
  rw [State.count, State.add, s.get_put_same _ h]
  exact Nat.mod_eq_of_lt (by omega)

theorem State.word_count_ne (s : State) {f : Field} {o : Nat} (h : o ≠ f.off) : (s.count f).word o = s.word o :=
  s.word_put_ne _ h

theorem State.get_count_off (s : State) {f g : Field} (h : g.off ≠ f.off) : (s.count f).get g = s.get g :=
  s.get_put_off _ h

end Sys2Proof.Machine
end

