-- ==== Sys2Proof/Laws/Events.lean ====
section
/-! SUPPORT. What an event and its entry do, once and for all: the registers they touch, and the intake queue. -/

namespace Sys2Proof.Machine

open Reg

theorem State.word_of_eq {s t : State} (h : t.regs = s.regs) (o : Nat) : t.word o = s.word o := by
  simp [State.word, h]

/-- An event touches its page's EVT and EVT_CNT. -/
theorem State.word_event_ne (s : State) (pg n : Nat) {o : Nat} (h1 : o ≠ EVT.off pg) (h2 : o ≠ EVT_CNT.off pg) :
    (s.event pg n).word o = s.word o := by
  unfold State.event
  rw [State.word_count_ne _ (by exact h2), State.word_put_ne _ _ (by exact h1)]

theorem State.get_evt_event (s : State) (pg n : Nat) (hn : n < 32) :
    (s.event pg n).get (EVT.v pg) = s.get (EVT.v pg) ||| 2 ^ n := by
  unfold State.event
  rw [State.get_count_off _ (by simp [EVT.v, EVT_CNT.v, EVT.off, EVT_CNT.off]),
    State.get_put_same _ _ (by simp [EVT.v])]
  have h1 : s.get (EVT.v pg) < 2 ^ 32 := s.get_lt (EVT.v pg)
  exact Nat.mod_eq_of_lt (Nat.or_lt_two_pow h1 (Nat.pow_lt_pow_right (by decide) hn))

theorem State.get_cnt_event (s : State) (pg n : Nat) :
    (s.event pg n).get (EVT_CNT.v pg) = min (s.get (EVT_CNT.v pg) + 1) (2 ^ 32 - 1) := by
  unfold State.event
  rw [State.get_count_same _ (by simp [EVT_CNT.v]), State.get_put_off _ _ (by simp [EVT.v, EVT_CNT.v, EVT.off, EVT_CNT.off])]
  simp [EVT_CNT.v]

/-- The time of an entry does not depend on a page's header. -/
theorem State.stamp_event (s : State) (pg n : Nat) (h : pg % 4096 = 0) : (s.event pg n).stamp = s.stamp := by
  have e : (s.event pg n).get TH_STATUS.state = s.get TH_STATUS.state := by
    simp only [State.get]
    rw [s.word_event_ne pg n (by simp only [TH_STATUS.state, TH_STATUS.off, EVT.off]; omega)
      (by simp only [TH_STATUS.state, TH_STATUS.off, EVT_CNT.off]; omega)]
  have a : (s.event pg n).aonTime = s.aonTime := rfl
  have c : (s.event pg n).timeValid = s.timeValid := by
    unfold State.timeValid State.is
    rw [e]
  unfold State.stamp
  rw [c, a, State.event_th]

/-- With room in the intake queue an entry joins it, and nothing else happens. -/
theorem State.handEntry_room (s : State) (e : FaultRec) (h : s.flt.intake.length < 64) :
    s.handEntry e = { s with flt := { s.flt with
      intake := s.flt.intake ++ [encodeEntry s.stamp.1 s.stamp.2 false e] } } := by
  unfold State.handEntry
  simp [h]

/-- Without room the entry is dropped and counted. -/
theorem State.handEntry_full (s : State) (e : FaultRec) (h : 64 ≤ s.flt.intake.length) :
    (s.handEntry e).flt.intake = s.flt.intake ∧ (s.handEntry e).flt.dropped = s.flt.dropped + 1
      ∧ (s.handEntry e).get FLT_DROP.v = min (s.get FLT_DROP.v + 1) (2 ^ 32 - 1) := by
  have h' : ¬ s.flt.intake.length < 64 := by omega
  unfold State.handEntry
  simp only [if_neg h']
  refine ⟨?_, ?_, ?_⟩
  · split <;> simp
  · split <;> simp
  · have hd : (s.count FLT_DROP.v).get FLT_DROP.v = min (s.get FLT_DROP.v + 1) (2 ^ 32 - 1) := by
      rw [State.get_count_same _ (by simp [FLT_DROP.v])]; simp [FLT_DROP.v]
    rw [← hd]
    split
    · simp only [State.get]
      rw [← State.word_event_ne (s.count FLT_DROP.v) pageFLT 3 (o := FLT_DROP.v.off) (by decide) (by decide)]
      rfl
    · rfl

/-- A dropped or queued entry touches FLT_DROP and the FLT page's EVT and EVT_CNT at most. -/
theorem State.word_handEntry_ne (s : State) (e : FaultRec) {o : Nat} (h1 : o ≠ FLT_DROP.off) (h2 : o ≠ EVT.off pageFLT)
    (h3 : o ≠ EVT_CNT.off pageFLT) : (s.handEntry e).word o = s.word o := by
  unfold State.handEntry
  dsimp only
  split
  · rfl
  · split
    · show ((s.count FLT_DROP.v).event pageFLT 3).word o = s.word o
      rw [State.word_event_ne _ _ _ h2 h3, State.word_count_ne _ (by exact h1)]
    · show (s.count FLT_DROP.v).word o = s.word o
      rw [State.word_count_ne _ (by exact h1)]

/-- A handed entry changes registers and the fault log at most. -/
theorem State.handEntry_frame (s : State) (e : FaultRec) :
    s.handEntry e = { s with regs := (s.handEntry e).regs, flt := (s.handEntry e).flt } := by
  unfold State.handEntry
  dsimp only
  split
  · rfl
  · split <;> rfl

/-- An event with its entry changes registers and the fault log at most. -/
theorem State.raise_frame (s : State) (pg n : Nat) (cls : BitVec 2) (code i0 i1 : Nat) :
    s.raise pg n cls code i0 i1
      = { s with regs := (s.raise pg n cls code i0 i1).regs, flt := (s.raise pg n cls code i0 i1).flt } := by
  have h := (s.event pg n).handEntry_frame (pageEntry pg cls code i0 i1)
  unfold State.raise State.log
  dsimp only
  split
  · rw [h]; rfl
  · rw [h]; rfl

/-- The registers that an event with its entry can touch. -/
theorem State.word_raise_ne (s : State) (pg n : Nat) (cls : BitVec 2) (code i0 i1 : Nat) {o : Nat}
    (h : o ∉ [EVT.off pg, EVT_CNT.off pg, ERR_INFO0.off pg, ERR_INFO1.off pg, FLT_DROP.off, EVT.off pageFLT,
      EVT_CNT.off pageFLT]) : (s.raise pg n cls code i0 i1).word o = s.word o := by
  simp only [List.mem_cons, List.not_mem_nil, or_false, not_or] at h
  have e : ((s.event pg n).handEntry (pageEntry pg cls code i0 i1)).word o = s.word o := by
    rw [State.word_handEntry_ne _ _ h.2.2.2.2.1 h.2.2.2.2.2.1 h.2.2.2.2.2.2, State.word_event_ne _ _ _ h.1 h.2.1]
  unfold State.raise State.log
  dsimp only
  split
  · exact e
  · rw [State.word_put_ne _ _ (by exact h.2.2.2.1), State.word_put_ne _ _ (by exact h.2.2.1), e]

/-- A field of another register reads as before. -/
theorem State.get_raise_off (s : State) (pg n : Nat) (cls : BitVec 2) (code i0 i1 : Nat) {f : Field}
    (h : f.off ∉ [EVT.off pg, EVT_CNT.off pg, ERR_INFO0.off pg, ERR_INFO1.off pg, FLT_DROP.off, EVT.off pageFLT,
      EVT_CNT.off pageFLT]) : (s.raise pg n cls code i0 i1).get f = s.get f := by
  simp only [State.get, s.word_raise_ne pg n cls code i0 i1 h]

end Sys2Proof.Machine
end

