-- ==== Sys2Proof/Laws/KeptBase.lean ====
section
/-! SUPPORT. What no command changes: the queue of waiting commands and the fuses, as one value, and how it passes through
the ways in which operations are put together. -/

namespace Sys2Proof.Machine

/-- The waiting commands, the fuses and the fused reset values. -/
def State.kept (s : State) : List Instr × Fuses × KMap Word := (s.pending, s.fuses, s.fuse)

/-- An answer that leaves them as they are in `s`. -/
def OutKept (s : State) (o : Out) : Prop := ∀ t, o = .next t → t.kept = s.kept

theorem State.kept_def (s : State) : s.kept = (s.pending, s.fuses, s.fuse) := rfl

theorem State.kept_fold (s : State) : (s.pending, s.fuses, s.fuse) = s.kept := Eq.mp rfl rfl

theorem State.kept_mk (x0 : KMap Word) (x1 : KMap Word) (x2 : Nat) (x3 : List Byte) (x4 : Nat) (x5 : PinState)
    (x6 : FltState) (x7 : ThState) (x8 : ClkState) (x9 : FabricState) (x10 : MemState) (x11 : KMap SliceState) (x12 :
    Fuses) (x13 : KMap Byte) (x14 : KMap Frame) (x15 : CfgState) (x16 : KMap StallState) (x17 : ScrubState) (x18 :
    NocState) (x19 : KMap DmcState) (x20 : KMap (Option DramLine)) (x21 : KMap MpeState) (x22 : PciState) (x23 :
    SeState) (x24 : TsState) (x25 : CcState) (x26 : XcvState) (x27 : PairState) (x28 : PwrState) (x29 : AgeState) (x30
    : TwpState) (x31 : JtagState) (x32 : List Instr) :     (State.mk x0 x1 x2 x3 x4 x5 x6 x7 x8 x9 x10 x11 x12 x13 x14
    x15 x16 x17 x18 x19 x20 x21 x22 x23 x24 x25 x26 x27 x28 x29 x30 x31 x32).kept = (x32, x12, x1) := Eq.mp rfl rfl

theorem OutKept_next_of {s t : State} (h : t.kept = s.kept) : OutKept s (.next t) := by
  intro u e
  cases e
  exact h

theorem OutKept_next (s t : State) : OutKept s (.next t) = (t.kept = s.kept) :=
  propext ⟨fun h => h t rfl, OutKept_next_of⟩

theorem OutKept_fault_ (s : State) (f : Fault) : OutKept s (.fault f) := fun _ e => by cases e
theorem OutKept_refused_ (s : State) (f : Refusal) : OutKept s (.refused f) := fun _ e => by cases e
theorem OutKept_fault (s : State) (f : Fault) : OutKept s (.fault f) = True := eq_true (OutKept_fault_ s f)
theorem OutKept_refused (s : State) (f : Refusal) : OutKept s (.refused f) = True := eq_true (OutKept_refused_ s f)

theorem OutKept_ite (s : State) (c : Prop) [Decidable c] (a b : Out) :
    OutKept s (if c then a else b) = if c then OutKept s a else OutKept s b := apply_ite _ c a b

theorem kept_ite (c : Prop) [Decidable c] (a b : State) :
    (if c then a else b).kept = if c then a.kept else b.kept := apply_ite _ c a b

theorem kept_snd_ite {α : Type} (c : Prop) [Decidable c] (a b : α × State) :
    (if c then a else b).2.kept = if c then a.2.kept else b.2.kept := apply_ite (fun x : α × State => x.2.kept) c a b

theorem OutKept.trans {s t : State} {o : Out} (h : OutKept t o) (e : t.kept = s.kept) : OutKept s o :=
  fun u hu => (h u hu).trans e

theorem each_kept {α : Type} (s : State) (l : List α) (f : State → α → State) (h : ∀ t a, (f t a).kept = t.kept) :
    (s.each l f).kept = s.kept := by
  unfold State.each
  induction l generalizing s with
  | nil => rfl
  | cons a l ih => exact (ih (f s a)).trans (h s a)

theorem foldl_kept {α : Type} (s : State) (l : List α) (f : State → α → State) (h : ∀ t a, (f t a).kept = t.kept) :
    (l.foldl f s).kept = s.kept := each_kept s l f h

theorem when_kept (s : State) (c : Bool) (f : State → State) (h : ∀ t, (f t).kept = t.kept) :
    (s.when c f).kept = s.kept := by
  unfold State.when
  split
  · exact h s
  · rfl

end Sys2Proof.Machine
end

