-- ==== Sys2Proof/Laws/Kept.lean ====
section
/-! SUPPORT. Every operation and every command but FUSE_PROG leaves the waiting commands and the fuses as they are. -/

namespace Sys2Proof.Machine

theorem State.setWord_kept (s : State) (off : Nat) (w : Word) : (State.setWord s off w).kept = s.kept := by
  simp only [State.setWord, ↓State.kept_mk, ↓State.kept_fold, ↓each_kept, ↓foldl_kept, ↓when_kept, ↓kept_ite,
    ↓OutKept_ite, ↓OutKept_next, ↓OutKept_fault, ↓OutKept_refused, ite_self, implies_true]
theorem State.put_kept (s : State) (f : Field) (v : Nat) : (State.put s f v).kept = s.kept := by
  simp only [State.put, ↓State.setWord_kept, ↓State.kept_mk, ↓State.kept_fold, ↓each_kept, ↓foldl_kept, ↓when_kept,
    ↓kept_ite, ↓OutKept_ite, ↓OutKept_next, ↓OutKept_fault, ↓OutKept_refused, ite_self, implies_true]
theorem State.putB_kept (s : State) (f : Field) (b : Bool) : (State.putB s f b).kept = s.kept := by
  simp only [State.putB, ↓State.put_kept, ↓State.kept_mk, ↓State.kept_fold, ↓each_kept, ↓foldl_kept, ↓when_kept,
    ↓kept_ite, ↓OutKept_ite, ↓OutKept_next, ↓OutKept_fault, ↓OutKept_refused, ite_self, implies_true]
theorem State.putS_kept (s : State) (f : Field) (v : Int) : (State.putS s f v).kept = s.kept := by
  simp only [State.putS, ↓State.put_kept, ↓State.kept_mk, ↓State.kept_fold, ↓each_kept, ↓foldl_kept, ↓when_kept,
    ↓kept_ite, ↓OutKept_ite, ↓OutKept_next, ↓OutKept_fault, ↓OutKept_refused, ite_self, implies_true]
theorem State.add_kept (s : State) (f : Field) (n : Nat) : (State.add s f n).kept = s.kept := by
  simp only [State.add, ↓State.put_kept, ↓State.kept_mk, ↓State.kept_fold, ↓each_kept, ↓foldl_kept, ↓when_kept,
    ↓kept_ite, ↓OutKept_ite, ↓OutKept_next, ↓OutKept_fault, ↓OutKept_refused, ite_self, implies_true]
theorem State.count_kept (s : State) (f : Field) : (State.count s f).kept = s.kept := by
  simp only [State.count, ↓State.add_kept, ↓State.kept_mk, ↓State.kept_fold, ↓each_kept, ↓foldl_kept, ↓when_kept,
    ↓kept_ite, ↓OutKept_ite, ↓OutKept_next, ↓OutKept_fault, ↓OutKept_refused, ite_self, implies_true]
theorem State.putWide_kept (s : State) (off n v : Nat) : (State.putWide s off n v).kept = s.kept := by
  simp only [State.putWide, ↓State.setWord_kept, ↓State.kept_mk, ↓State.kept_fold, ↓each_kept, ↓foldl_kept,
    ↓when_kept, ↓kept_ite, ↓OutKept_ite, ↓OutKept_next, ↓OutKept_fault, ↓OutKept_refused, ite_self, implies_true]
theorem State.writeWhere_kept (s : State) (off : Nat) (may : FieldSpec → Bool) (v : Word) : (State.writeWhere s off may v).kept = s.kept := by
  simp only [State.writeWhere, ↓State.setWord_kept, ↓State.kept_mk, ↓State.kept_fold, ↓each_kept, ↓foldl_kept,
    ↓when_kept, ↓kept_ite, ↓OutKept_ite, ↓OutKept_next, ↓OutKept_fault, ↓OutKept_refused, ite_self, implies_true]
theorem State.write_kept (s : State) (off : Nat) (v : Word) : (State.write s off v).kept = s.kept := by
  simp only [State.write, ↓State.writeWhere_kept, ↓State.kept_mk, ↓State.kept_fold, ↓each_kept, ↓foldl_kept,
    ↓when_kept, ↓kept_ite, ↓OutKept_ite, ↓OutKept_next, ↓OutKept_fault, ↓OutKept_refused, ite_self, implies_true]
theorem State.fresh_kept (s : State) (w : Nat) : (s.fresh w).2.kept = s.kept := by
  exact Eq.mp rfl rfl
theorem State.elapse_kept (s : State) (n : Nat) : (State.elapse s n).kept = s.kept := by
  simp only [State.elapse, ↓State.kept_mk, ↓State.kept_fold, ↓each_kept, ↓foldl_kept, ↓when_kept, ↓kept_ite,
    ↓OutKept_ite, ↓OutKept_next, ↓OutKept_fault, ↓OutKept_refused, ite_self, implies_true]
theorem State.reachTime_kept (s : State) (t : Time) : (State.reachTime s t).kept = s.kept := by
  simp only [State.reachTime, ↓State.kept_mk, ↓State.kept_fold, ↓each_kept, ↓foldl_kept, ↓when_kept, ↓kept_ite,
    ↓OutKept_ite, ↓OutKept_next, ↓OutKept_fault, ↓OutKept_refused, ite_self, implies_true]
theorem State.alert_kept (s : State) (n : Nat) : (State.alert s n).kept = s.kept := by
  simp only [State.alert, ↓State.put_kept, ↓State.kept_mk, ↓State.kept_fold, ↓each_kept, ↓foldl_kept, ↓when_kept,
    ↓kept_ite, ↓OutKept_ite, ↓OutKept_next, ↓OutKept_fault, ↓OutKept_refused, ite_self, implies_true]
theorem State.event_kept (s : State) (pg n : Nat) : (State.event s pg n).kept = s.kept := by
  simp only [State.event, ↓State.count_kept, ↓State.put_kept, ↓State.kept_mk, ↓State.kept_fold, ↓each_kept,
    ↓foldl_kept, ↓when_kept, ↓kept_ite, ↓OutKept_ite, ↓OutKept_next, ↓OutKept_fault, ↓OutKept_refused, ite_self,
    implies_true]
theorem State.handEntry_kept (s : State) (e : FaultRec) : (State.handEntry s e).kept = s.kept := by
  simp only [State.handEntry, ↓State.count_kept, ↓State.event_kept, ↓State.kept_mk, ↓State.kept_fold, ↓each_kept,
    ↓foldl_kept, ↓when_kept, ↓kept_ite, ↓OutKept_ite, ↓OutKept_next, ↓OutKept_fault, ↓OutKept_refused, ite_self,
    implies_true]
theorem State.log_kept (s : State) (pg : Nat) (cls : BitVec 2) (code i0 i1 : Nat) : (State.log s pg cls code i0 i1).kept = s.kept := by
  simp only [State.log, ↓State.handEntry_kept, ↓State.put_kept, ↓State.kept_mk, ↓State.kept_fold, ↓each_kept,
    ↓foldl_kept, ↓when_kept, ↓kept_ite, ↓OutKept_ite, ↓OutKept_next, ↓OutKept_fault, ↓OutKept_refused, ite_self,
    implies_true]
theorem State.raise_kept (s : State) (pg n : Nat) (cls : BitVec 2) (code i0 i1 : Nat) : (State.raise s pg n cls code i0 i1).kept = s.kept := by
  simp only [State.raise, ↓State.event_kept, ↓State.log_kept, ↓State.kept_mk, ↓State.kept_fold, ↓each_kept,
    ↓foldl_kept, ↓when_kept, ↓kept_ite, ↓OutKept_ite, ↓OutKept_next, ↓OutKept_fault, ↓OutKept_refused, ite_self,
    implies_true]
theorem State.answering_kept (s : State) (bs : List Byte) : (State.answering s bs).kept = s.kept := by
  simp only [State.answering, ↓State.kept_mk, ↓State.kept_fold, ↓each_kept, ↓foldl_kept, ↓when_kept, ↓kept_ite,
    ↓OutKept_ite, ↓OutKept_next, ↓OutKept_fault, ↓OutKept_refused, ite_self, implies_true]
theorem State.answerWord_kept (s : State) (w : Word) : (State.answerWord s w).kept = s.kept := by
  simp only [State.answerWord, ↓State.answering_kept, ↓State.kept_mk, ↓State.kept_fold, ↓each_kept, ↓foldl_kept,
    ↓when_kept, ↓kept_ite, ↓OutKept_ite, ↓OutKept_next, ↓OutKept_fault, ↓OutKept_refused, ite_self, implies_true]
theorem State.latchAon_kept (s : State) : (State.latchAon s).kept = s.kept := by
  simp only [State.latchAon, ↓State.putWide_kept, ↓State.kept_mk, ↓State.kept_fold, ↓each_kept, ↓foldl_kept,
    ↓when_kept, ↓kept_ite, ↓OutKept_ite, ↓OutKept_next, ↓OutKept_fault, ↓OutKept_refused, ite_self, implies_true]
theorem State.latchTime_kept (s : State) : (State.latchTime s).kept = s.kept := by
  simp only [State.latchTime, ↓State.putWide_kept, ↓State.kept_mk, ↓State.kept_fold, ↓each_kept, ↓foldl_kept,
    ↓when_kept, ↓kept_ite, ↓OutKept_ite, ↓OutKept_next, ↓OutKept_fault, ↓OutKept_refused, ite_self, implies_true]
theorem State.latchEntry_kept (s : State) : (State.latchEntry s).kept = s.kept := by
  simp only [State.latchEntry, ↓State.putWide_kept, ↓State.kept_mk, ↓State.kept_fold, ↓each_kept, ↓foldl_kept,
    ↓when_kept, ↓kept_ite, ↓OutKept_ite, ↓OutKept_next, ↓OutKept_fault, ↓OutKept_refused, ite_self, implies_true]
theorem State.latchFor_kept (s : State) (off : Nat) : (State.latchFor s off).kept = s.kept := by
  simp only [State.latchFor, ↓State.latchAon_kept, ↓State.latchEntry_kept, ↓State.latchTime_kept, ↓State.kept_mk,
    ↓State.kept_fold, ↓each_kept, ↓foldl_kept, ↓when_kept, ↓kept_ite, ↓OutKept_ite, ↓OutKept_next, ↓OutKept_fault,
    ↓OutKept_refused, ite_self, implies_true]
theorem State.readReg_kept (s : State) (off : Nat) : (s.readReg off).2.kept = s.kept := by
  simp only [State.readReg, State.setWord_kept, State.latchFor_kept]
theorem State.readRegs_kept (s : State) (off n : Nat) : (s.readRegs off n).2.kept = s.kept := by
  induction n generalizing s off with
  | zero => rfl
  | succ n ih => exact (ih (s.readReg off).2 (off + 4)).trans (s.readReg_kept off)
theorem State.setPort_kept (s : State) (p : Nat) (v : PortState) : (State.setPort s p v).kept = s.kept := by
  simp only [State.setPort, ↓State.kept_mk, ↓State.kept_fold, ↓each_kept, ↓foldl_kept, ↓when_kept, ↓kept_ite,
    ↓OutKept_ite, ↓OutKept_next, ↓OutKept_fault, ↓OutKept_refused, ite_self, implies_true]
theorem State.setIni_kept (s : State) (i : IniPort) (v : IniState) : (State.setIni s i v).kept = s.kept := by
  unfold State.setIni; (repeat' split) <;> simp (maxDischargeDepth := 9) only [↓State.put_kept, ↓State.kept_mk,
    ↓State.kept_fold, ↓each_kept, ↓foldl_kept, ↓when_kept, ↓kept_ite, ↓OutKept_ite, ↓OutKept_next, ↓OutKept_fault,
    ↓OutKept_refused, ite_self, implies_true]
theorem State.setQuay_kept (s : State) (q : Nat) (v : QuayState) : (State.setQuay s q v).kept = s.kept := by
  simp only [State.setQuay, ↓State.put_kept, ↓State.kept_mk, ↓State.kept_fold, ↓each_kept, ↓foldl_kept, ↓when_kept,
    ↓kept_ite, ↓OutKept_ite, ↓OutKept_next, ↓OutKept_fault, ↓OutKept_refused, ite_self, implies_true]
theorem State.setPortState_kept (s : State) (p v : Nat) : (State.setPortState s p v).kept = s.kept := by
  unfold State.setPortState; (repeat' split) <;> simp (maxDischargeDepth := 9) only [↓State.put_kept,
    ↓State.kept_mk, ↓State.kept_fold, ↓each_kept, ↓foldl_kept, ↓when_kept, ↓kept_ite, ↓OutKept_ite, ↓OutKept_next,
    ↓OutKept_fault, ↓OutKept_refused, ite_self, implies_true]
theorem State.send_kept (s : State) (at_ : Place) (p : Packet) : (State.send s at_ p).kept = s.kept := by
  simp only [State.send, ↓State.kept_mk, ↓State.kept_fold, ↓each_kept, ↓foldl_kept, ↓when_kept, ↓kept_ite,
    ↓OutKept_ite, ↓OutKept_next, ↓OutKept_fault, ↓OutKept_refused, ite_self, implies_true]
theorem State.unsend_kept (s : State) (at_ : Place) (p : Packet) : (State.unsend s at_ p).kept = s.kept := by
  simp only [State.unsend, ↓State.kept_mk, ↓State.kept_fold, ↓each_kept, ↓foldl_kept, ↓when_kept, ↓kept_ite,
    ↓OutKept_ite, ↓OutKept_next, ↓OutKept_fault, ↓OutKept_refused, ite_self, implies_true]
theorem State.answerFrom_kept (s : State) (src : Nat) (req : Packet) (status : Nat) (data : List Line) (synth : Bool) (info : Nat) : (State.answerFrom s src req status data synth info).kept = s.kept := by
  simp only [State.answerFrom, ↓State.send_kept, ↓State.kept_mk, ↓State.kept_fold, ↓each_kept, ↓foldl_kept,
    ↓when_kept, ↓kept_ite, ↓OutKept_ite, ↓OutKept_next, ↓OutKept_fault, ↓OutKept_refused, ite_self, implies_true]
theorem State.notice_kept (s : State) (src : Nat) (req : Packet) (status : Nat) : (State.notice s src req status).kept = s.kept := by
  simp only [State.notice, ↓State.send_kept, ↓State.kept_mk, ↓State.kept_fold, ↓each_kept, ↓foldl_kept, ↓when_kept,
    ↓kept_ite, ↓OutKept_ite, ↓OutKept_next, ↓OutKept_fault, ↓OutKept_refused, ite_self, implies_true]
theorem State.routerEvent_kept (s : State) (i n : Nat) (cls : BitVec 2) (code : Nat) (p : Packet) : (State.routerEvent s i n cls code p).kept = s.kept := by
  simp only [State.routerEvent, ↓State.raise_kept, ↓State.kept_mk, ↓State.kept_fold, ↓each_kept, ↓foldl_kept,
    ↓when_kept, ↓kept_ite, ↓OutKept_ite, ↓OutKept_next, ↓OutKept_fault, ↓OutKept_refused, ite_self, implies_true]
theorem State.sendPosted_kept (s : State) (i : IniPort) (p : Packet) : (State.sendPosted s i p).kept = s.kept := by
  simp only [State.sendPosted, ↓State.send_kept, ↓State.setIni_kept, ↓State.kept_mk, ↓State.kept_fold, ↓each_kept,
    ↓foldl_kept, ↓when_kept, ↓kept_ite, ↓OutKept_ite, ↓OutKept_next, ↓OutKept_fault, ↓OutKept_refused, ite_self,
    implies_true]
theorem State.flushTo_kept (s : State) (i : IniPort) (tag : BitVec 12) (ds : List (BitVec 10 × BitVec 2)) : (State.flushTo s i tag ds).kept = s.kept := by
  simp only [State.flushTo, ↓State.send_kept, ↓State.setIni_kept, ↓State.kept_mk, ↓State.kept_fold, ↓each_kept,
    ↓foldl_kept, ↓when_kept, ↓kept_ite, ↓OutKept_ite, ↓OutKept_next, ↓OutKept_fault, ↓OutKept_refused, ite_self,
    implies_true]
theorem State.startFence_kept (s : State) (i : IniPort) (tag : BitVec 12) : (State.startFence s i tag).kept = s.kept := by
  simp only [State.startFence, ↓State.flushTo_kept, ↓State.setIni_kept, ↓State.kept_mk, ↓State.kept_fold,
    ↓each_kept, ↓foldl_kept, ↓when_kept, ↓kept_ite, ↓OutKept_ite, ↓OutKept_next, ↓OutKept_fault, ↓OutKept_refused,
    ite_self, implies_true]
theorem State.setDom_kept (s : State) (d v : Nat) : (State.setDom s d v).kept = s.kept := by
  simp only [State.setDom, ↓State.put_kept, ↓State.putB_kept, ↓State.kept_mk, ↓State.kept_fold, ↓each_kept,
    ↓foldl_kept, ↓when_kept, ↓kept_ite, ↓OutKept_ite, ↓OutKept_next, ↓OutKept_fault, ↓OutKept_refused, ite_self,
    implies_true]
theorem State.closePort_kept (s : State) (drain : Bool) (p : Nat) : (State.closePort s drain p).kept = s.kept := by
  simp only [State.closePort, ↓State.setPort_kept, ↓State.setPortState_kept, ↓State.kept_mk, ↓State.kept_fold,
    ↓each_kept, ↓foldl_kept, ↓when_kept, ↓kept_ite, ↓OutKept_ite, ↓OutKept_next, ↓OutKept_fault, ↓OutKept_refused,
    ite_self, implies_true]
theorem State.openPort_kept (s : State) (p : Nat) : (State.openPort s p).kept = s.kept := by
  simp only [State.openPort, ↓State.setPort_kept, ↓State.setPortState_kept, ↓State.kept_mk, ↓State.kept_fold,
    ↓each_kept, ↓foldl_kept, ↓when_kept, ↓kept_ite, ↓OutKept_ite, ↓OutKept_next, ↓OutKept_fault, ↓OutKept_refused,
    ite_self, implies_true]
theorem State.answerClosed_kept (s : State) (port : Nat) (p : Packet) : (State.answerClosed s port p).kept = s.kept := by
  unfold State.answerClosed; (repeat' split) <;> simp (maxDischargeDepth := 9) only [↓State.answerFrom_kept,
    ↓State.count_kept, ↓State.kept_mk, ↓State.kept_fold, ↓each_kept, ↓foldl_kept, ↓when_kept, ↓kept_ite,
    ↓OutKept_ite, ↓OutKept_next, ↓OutKept_fault, ↓OutKept_refused, ite_self, implies_true]
theorem State.dropPosted_kept (s : State) (port : Nat) (p : Packet) (status : Nat) : (State.dropPosted s port p status).kept = s.kept := by
  simp only [State.dropPosted, ↓State.count_kept, ↓State.notice_kept, ↓State.routerEvent_kept, ↓State.kept_mk,
    ↓State.kept_fold, ↓each_kept, ↓foldl_kept, ↓when_kept, ↓kept_ite, ↓OutKept_ite, ↓OutKept_next, ↓OutKept_fault,
    ↓OutKept_refused, ite_self, implies_true]
theorem State.forceTarget_kept (s : State) (port : Nat) : (State.forceTarget s port).kept = s.kept := by
  unfold State.forceTarget; (repeat' split) <;> simp (maxDischargeDepth := 9) only [↓State.add_kept,
    ↓State.answerClosed_kept, ↓State.count_kept, ↓State.notice_kept, ↓State.setPort_kept, ↓State.setQuay_kept,
    ↓State.kept_mk, ↓State.kept_fold, ↓each_kept, ↓foldl_kept, ↓when_kept, ↓kept_ite, ↓OutKept_ite, ↓OutKept_next,
    ↓OutKept_fault, ↓OutKept_refused, ite_self, implies_true]
theorem State.setFlow_kept (s : State) (port : Nat) (src : BitVec 10) (vc : BitVec 2) (f : Flow) : (State.setFlow s port src vc f).kept = s.kept := by
  simp only [State.setFlow, ↓State.setPort_kept, ↓State.kept_mk, ↓State.kept_fold, ↓each_kept, ↓foldl_kept,
    ↓when_kept, ↓kept_ite, ↓OutKept_ite, ↓OutKept_next, ↓OutKept_fault, ↓OutKept_refused, ite_self, implies_true]
theorem State.markLost_kept (s : State) (port : Nat) (p : Packet) : (State.markLost s port p).kept = s.kept := by
  simp only [State.markLost, ↓State.setFlow_kept, ↓State.kept_mk, ↓State.kept_fold, ↓each_kept, ↓foldl_kept,
    ↓when_kept, ↓kept_ite, ↓OutKept_ite, ↓OutKept_next, ↓OutKept_fault, ↓OutKept_refused, ite_self, implies_true]
theorem State.answerFlush_kept (s : State) (port : Nat) (p : Packet) : (State.answerFlush s port p).kept = s.kept := by
  simp only [State.answerFlush, ↓State.answerFrom_kept, ↓State.setFlow_kept, ↓State.kept_mk, ↓State.kept_fold,
    ↓each_kept, ↓foldl_kept, ↓when_kept, ↓kept_ite, ↓OutKept_ite, ↓OutKept_next, ↓OutKept_fault, ↓OutKept_refused,
    ite_self, implies_true]
theorem State.settleFlushes_kept (s : State) (port : Nat) : (State.settleFlushes s port).kept = s.kept := by
  simp only [State.settleFlushes, ↓State.answerFlush_kept, ↓State.setPort_kept, ↓State.kept_mk, ↓State.kept_fold,
    ↓each_kept, ↓foldl_kept, ↓when_kept, ↓kept_ite, ↓OutKept_ite, ↓OutKept_next, ↓OutKept_fault, ↓OutKept_refused,
    ite_self, implies_true]
theorem State.setCore_kept (s : State) (c : Nat) (v : CoreState) : (State.setCore s c v).kept = s.kept := by
  simp only [State.setCore, ↓State.kept_mk, ↓State.kept_fold, ↓each_kept, ↓foldl_kept, ↓when_kept, ↓kept_ite,
    ↓OutKept_ite, ↓OutKept_next, ↓OutKept_fault, ↓OutKept_refused, ite_self, implies_true]
theorem State.busError_kept (s : State) (c addr status : Nat) : (State.busError s c addr status).kept = s.kept := by
  simp only [State.busError, ↓State.raise_kept, ↓State.setCore_kept, ↓State.kept_mk, ↓State.kept_fold, ↓each_kept,
    ↓foldl_kept, ↓when_kept, ↓kept_ite, ↓OutKept_ite, ↓OutKept_next, ↓OutKept_fault, ↓OutKept_refused, ite_self,
    implies_true]
theorem State.coreFault_kept (s : State) (c cause addr : Nat) : (State.coreFault s c cause addr).kept = s.kept := by
  simp only [State.coreFault, ↓State.setCore_kept, ↓State.kept_mk, ↓State.kept_fold, ↓each_kept, ↓foldl_kept,
    ↓when_kept, ↓kept_ite, ↓OutKept_ite, ↓OutKept_next, ↓OutKept_fault, ↓OutKept_refused, ite_self, implies_true]
theorem State.setReady_kept (s : State) (g : Nat) (l : List Nat) : (State.setReady s g l).kept = s.kept := by
  simp only [State.setReady, ↓State.put_kept, ↓State.kept_mk, ↓State.kept_fold, ↓each_kept, ↓foldl_kept, ↓when_kept,
    ↓kept_ite, ↓OutKept_ite, ↓OutKept_next, ↓OutKept_fault, ↓OutKept_refused, ite_self, implies_true]
theorem State.setRunning_kept (s : State) (g : Nat) (l : List Nat) : (State.setRunning s g l).kept = s.kept := by
  simp only [State.setRunning, ↓State.kept_mk, ↓State.kept_fold, ↓each_kept, ↓foldl_kept, ↓when_kept, ↓kept_ite,
    ↓OutKept_ite, ↓OutKept_next, ↓OutKept_fault, ↓OutKept_refused, ite_self, implies_true]
theorem State.makeReady_kept (s : State) (t reason : Nat) : (State.makeReady s t reason).kept = s.kept := by
  simp only [State.makeReady, ↓State.put_kept, ↓State.setReady_kept, ↓State.kept_mk, ↓State.kept_fold, ↓each_kept,
    ↓foldl_kept, ↓when_kept, ↓kept_ite, ↓OutKept_ite, ↓OutKept_next, ↓OutKept_fault, ↓OutKept_refused, ite_self,
    implies_true]
theorem State.unready_kept (s : State) (t : Nat) : (State.unready s t).kept = s.kept := by
  simp only [State.unready, ↓State.setReady_kept, ↓State.kept_mk, ↓State.kept_fold, ↓each_kept, ↓foldl_kept,
    ↓when_kept, ↓kept_ite, ↓OutKept_ite, ↓OutKept_next, ↓OutKept_fault, ↓OutKept_refused, ite_self, implies_true]
theorem State.stopRunning_kept (s : State) (t : Nat) : (State.stopRunning s t).kept = s.kept := by
  simp only [State.stopRunning, ↓State.setRunning_kept, ↓State.kept_mk, ↓State.kept_fold, ↓each_kept, ↓foldl_kept,
    ↓when_kept, ↓kept_ite, ↓OutKept_ite, ↓OutKept_next, ↓OutKept_fault, ↓OutKept_refused, ite_self, implies_true]
theorem State.returnOne_kept (s : State) (t : Nat) : (State.returnOne s t).kept = s.kept := by
  simp only [State.returnOne, ↓State.count_kept, ↓State.put_kept, ↓State.raise_kept, ↓State.setReady_kept,
    ↓State.stopRunning_kept, ↓State.kept_mk, ↓State.kept_fold, ↓each_kept, ↓foldl_kept, ↓when_kept, ↓kept_ite,
    ↓OutKept_ite, ↓OutKept_next, ↓OutKept_fault, ↓OutKept_refused, ite_self, implies_true]
theorem State.returnTasks_kept (s : State) (g : Nat) : (State.returnTasks s g).kept = s.kept := by
  simp only [State.returnTasks, ↓State.returnOne_kept, ↓State.kept_mk, ↓State.kept_fold, ↓each_kept, ↓foldl_kept,
    ↓when_kept, ↓kept_ite, ↓OutKept_ite, ↓OutKept_next, ↓OutKept_fault, ↓OutKept_refused, ite_self, implies_true]
theorem State.dispatchDropped_kept (s : State) (t addr : Nat) : (State.dispatchDropped s t addr).kept = s.kept := by
  simp only [State.dispatchDropped, ↓State.raise_kept, ↓State.returnOne_kept, ↓State.kept_mk, ↓State.kept_fold,
    ↓each_kept, ↓foldl_kept, ↓when_kept, ↓kept_ite, ↓OutKept_ite, ↓OutKept_next, ↓OutKept_fault, ↓OutKept_refused,
    ite_self, implies_true]
theorem State.completeSource_kept (s : State) (n : Nat) : (State.completeSource s n).kept = s.kept := by
  simp only [State.completeSource, ↓State.put_kept, ↓State.kept_mk, ↓State.kept_fold, ↓each_kept, ↓foldl_kept,
    ↓when_kept, ↓kept_ite, ↓OutKept_ite, ↓OutKept_next, ↓OutKept_fault, ↓OutKept_refused, ite_self, implies_true]
theorem State.setFrame_kept (s : State) (plane : Bool) (a : Nat) (f : Frame) : (State.setFrame s plane a f).kept = s.kept := by
  simp only [State.setFrame, ↓State.kept_mk, ↓State.kept_fold, ↓each_kept, ↓foldl_kept, ↓when_kept, ↓kept_ite,
    ↓OutKept_ite, ↓OutKept_next, ↓OutKept_fault, ↓OutKept_refused, ite_self, implies_true]
theorem State.setStall_kept (s : State) (n : Nat) (v : StallState) : (State.setStall s n v).kept = s.kept := by
  simp only [State.setStall, ↓State.kept_mk, ↓State.kept_fold, ↓each_kept, ↓foldl_kept, ↓when_kept, ↓kept_ite,
    ↓OutKept_ite, ↓OutKept_next, ↓OutKept_fault, ↓OutKept_refused, ite_self, implies_true]
theorem State.setCell_kept (s : State) (k w : Nat) (v : MemWord) : (State.setCell s k w v).kept = s.kept := by
  simp only [State.setCell, ↓State.kept_mk, ↓State.kept_fold, ↓each_kept, ↓foldl_kept, ↓when_kept, ↓kept_ite,
    ↓OutKept_ite, ↓OutKept_next, ↓OutKept_fault, ↓OutKept_refused, ite_self, implies_true]
theorem State.setSpare_kept (s : State) (k : Nat) (v : BitVec 72) : (State.setSpare s k v).kept = s.kept := by
  simp only [State.setSpare, ↓State.kept_mk, ↓State.kept_fold, ↓each_kept, ↓foldl_kept, ↓when_kept, ↓kept_ite,
    ↓OutKept_ite, ↓OutKept_next, ↓OutKept_fault, ↓OutKept_refused, ite_self, implies_true]
theorem State.storeWord_kept (s : State) (m : MemRef) (w : Nat) (v : BitVec 72) (full : Bool) : (State.storeWord s m w v full).kept = s.kept := by
  unfold State.storeWord; (repeat' split) <;> simp (maxDischargeDepth := 9) only [↓State.put_kept,
    ↓State.setCell_kept, ↓State.setSpare_kept, ↓State.kept_mk, ↓State.kept_fold, ↓each_kept, ↓foldl_kept,
    ↓when_kept, ↓kept_ite, ↓OutKept_ite, ↓OutKept_next, ↓OutKept_fault, ↓OutKept_refused, ite_self, implies_true]
theorem State.setValid_kept (s : State) (m : MemRef) (w : Nat) (on : Bool) : (State.setValid s m w on).kept = s.kept := by
  simp only [State.setValid, ↓State.setCell_kept, ↓State.kept_mk, ↓State.kept_fold, ↓each_kept, ↓foldl_kept,
    ↓when_kept, ↓kept_ite, ↓OutKept_ite, ↓OutKept_next, ↓OutKept_fault, ↓OutKept_refused, ite_self, implies_true]
theorem State.clearValid_kept (s : State) (m : MemRef) : (State.clearValid s m).kept = s.kept := by
  simp only [State.clearValid, ↓State.kept_mk, ↓State.kept_fold, ↓each_kept, ↓foldl_kept, ↓when_kept, ↓kept_ite,
    ↓OutKept_ite, ↓OutKept_next, ↓OutKept_fault, ↓OutKept_refused, ite_self, implies_true]
theorem State.offend_kept (s : State) (b : Bucket) (inst word bitNo hits : Nat) : (State.offend s b inst word bitNo hits).kept = s.kept := by
  unfold State.offend; dsimp only; (repeat' split) <;> simp (maxDischargeDepth := 9) only [↓State.add_kept,
    ↓State.count_kept, ↓State.event_kept, ↓State.put_kept, ↓State.setWord_kept, ↓State.kept_mk, ↓State.kept_fold,
    ↓each_kept, ↓foldl_kept, ↓when_kept, ↓kept_ite, ↓OutKept_ite, ↓OutKept_next, ↓OutKept_fault, ↓OutKept_refused,
    ite_self, implies_true]
theorem State.correctedError_kept (s : State) (b : Bucket) (inst word bitNo : Nat) : (State.correctedError s b inst word bitNo).kept = s.kept := by
  simp only [State.correctedError, ↓State.count_kept, ↓State.event_kept, ↓State.offend_kept, ↓State.put_kept,
    ↓State.kept_mk, ↓State.kept_fold, ↓each_kept, ↓foldl_kept, ↓when_kept, ↓kept_ite, ↓OutKept_ite, ↓OutKept_next,
    ↓OutKept_fault, ↓OutKept_refused, ite_self, implies_true]
theorem State.uncorrectable_kept (s : State) (m : MemRef) (portB : Bool) (w syn : Nat) : (State.uncorrectable s m portB w syn).kept = s.kept := by
  simp only [State.uncorrectable, ↓State.count_kept, ↓State.raise_kept, ↓State.setWord_kept, ↓State.kept_mk,
    ↓State.kept_fold, ↓each_kept, ↓foldl_kept, ↓when_kept, ↓kept_ite, ↓OutKept_ite, ↓OutKept_next, ↓OutKept_fault,
    ↓OutKept_refused, ite_self, implies_true]
theorem State.writeContent_kept (s : State) (a : Nat) (f : Frame) : (State.writeContent s a f).kept = s.kept := by
  simp only [State.writeContent, ↓State.setValid_kept, ↓State.storeWord_kept, ↓State.kept_mk, ↓State.kept_fold,
    ↓each_kept, ↓foldl_kept, ↓when_kept, ↓kept_ite, ↓OutKept_ite, ↓OutKept_next, ↓OutKept_fault, ↓OutKept_refused,
    ite_self, implies_true]
theorem State.zeroMemory_kept (s : State) (m : MemRef) : (State.zeroMemory s m).kept = s.kept := by
  simp only [State.zeroMemory, ↓State.put_kept, ↓State.setCell_kept, ↓State.setSpare_kept, ↓State.kept_mk,
    ↓State.kept_fold, ↓each_kept, ↓foldl_kept, ↓when_kept, ↓kept_ite, ↓OutKept_ite, ↓OutKept_next, ↓OutKept_fault,
    ↓OutKept_refused, ite_self, implies_true]
theorem State.zeroRegionMemories_kept (s : State) (r : Nat) : (State.zeroRegionMemories s r).kept = s.kept := by
  simp only [State.zeroRegionMemories, ↓State.put_kept, ↓State.kept_mk, ↓State.kept_fold, ↓each_kept, ↓foldl_kept,
    ↓when_kept, ↓kept_ite, ↓OutKept_ite, ↓OutKept_next, ↓OutKept_fault, ↓OutKept_refused, ite_self, implies_true]
theorem State.clearMemories_kept (s : State) : (State.clearMemories s).kept = s.kept := by
  simp only [State.clearMemories, ↓State.kept_mk, ↓State.kept_fold, ↓each_kept, ↓foldl_kept, ↓when_kept, ↓kept_ite,
    ↓OutKept_ite, ↓OutKept_next, ↓OutKept_fault, ↓OutKept_refused, ite_self, implies_true]
theorem State.setFf_kept (s : State) (col row i : Nat) (b : Bool) : (State.setFf s col row i b).kept = s.kept := by
  simp only [State.setFf, ↓State.kept_mk, ↓State.kept_fold, ↓each_kept, ↓foldl_kept, ↓when_kept, ↓kept_ite,
    ↓OutKept_ite, ↓OutKept_next, ↓OutKept_fault, ↓OutKept_refused, ite_self, implies_true]
theorem State.restartFabric_kept (s : State) (at_ : Nat × Nat → Bool) (places : List (Nat × Nat)) : (State.restartFabric s at_ places).kept = s.kept := by
  simp only [State.restartFabric, ↓State.kept_mk, ↓State.kept_fold, ↓each_kept, ↓foldl_kept, ↓when_kept, ↓kept_ite,
    ↓OutKept_ite, ↓OutKept_next, ↓OutKept_fault, ↓OutKept_refused, ite_self, implies_true]
theorem State.restartStall_kept (s : State) (n : Nat) : (State.restartStall s n).kept = s.kept := by
  simp only [State.restartStall, ↓State.restartFabric_kept, ↓State.kept_mk, ↓State.kept_fold, ↓each_kept,
    ↓foldl_kept, ↓when_kept, ↓kept_ite, ↓OutKept_ite, ↓OutKept_next, ↓OutKept_fault, ↓OutKept_refused, ite_self,
    implies_true]
theorem State.swapResult_kept (s : State) (n code : Nat) : (State.swapResult s n code).kept = s.kept := by
  simp only [State.swapResult, ↓State.put_kept, ↓State.kept_mk, ↓State.kept_fold, ↓each_kept, ↓foldl_kept,
    ↓when_kept, ↓kept_ite, ↓OutKept_ite, ↓OutKept_next, ↓OutKept_fault, ↓OutKept_refused, ite_self, implies_true]
theorem State.stallEvent_kept (s : State) (n : Nat) (refused : Bool) (cls : BitVec 2) (code result : Nat) : (State.stallEvent s n refused cls code result).kept = s.kept := by
  simp only [State.stallEvent, ↓State.raise_kept, ↓State.kept_mk, ↓State.kept_fold, ↓each_kept, ↓foldl_kept,
    ↓when_kept, ↓kept_ite, ↓OutKept_ite, ↓OutKept_next, ↓OutKept_fault, ↓OutKept_refused, ite_self, implies_true]
theorem State.setShadow_kept (s : State) (n v : Nat) : (State.setShadow s n v).kept = s.kept := by
  simp only [State.setShadow, ↓State.put_kept, ↓State.setStall_kept, ↓State.kept_mk, ↓State.kept_fold, ↓each_kept,
    ↓foldl_kept, ↓when_kept, ↓kept_ite, ↓OutKept_ite, ↓OutKept_next, ↓OutKept_fault, ↓OutKept_refused, ite_self,
    implies_true]
theorem State.startRefill_kept (s : State) (n : Nat) : (State.startRefill s n).kept = s.kept := by
  simp only [State.startRefill, ↓State.setShadow_kept, ↓State.setStall_kept, ↓State.kept_mk, ↓State.kept_fold,
    ↓each_kept, ↓foldl_kept, ↓when_kept, ↓kept_ite, ↓OutKept_ite, ↓OutKept_next, ↓OutKept_fault, ↓OutKept_refused,
    ite_self, implies_true]
theorem State.dropSwap_kept (s : State) (n : Nat) : (State.dropSwap s n).kept = s.kept := by
  simp only [State.dropSwap, ↓State.setStall_kept, ↓State.kept_mk, ↓State.kept_fold, ↓each_kept, ↓foldl_kept,
    ↓when_kept, ↓kept_ite, ↓OutKept_ite, ↓OutKept_next, ↓OutKept_fault, ↓OutKept_refused, ite_self, implies_true]
theorem State.freeDynamic_kept (s : State) (f : Word × Option Nat × Bool → Bool) : (State.freeDynamic s f).kept = s.kept := by
  simp only [State.freeDynamic, ↓State.kept_mk, ↓State.kept_fold, ↓each_kept, ↓foldl_kept, ↓when_kept, ↓kept_ite,
    ↓OutKept_ite, ↓OutKept_next, ↓OutKept_fault, ↓OutKept_refused, ite_self, implies_true]
theorem State.reopenPort_kept (s : State) (p : Nat) : (State.reopenPort s p).kept = s.kept := by
  simp only [State.reopenPort, ↓State.openPort_kept, ↓State.setPort_kept, ↓State.setPortState_kept, ↓State.kept_mk,
    ↓State.kept_fold, ↓each_kept, ↓foldl_kept, ↓when_kept, ↓kept_ite, ↓OutKept_ite, ↓OutKept_next, ↓OutKept_fault,
    ↓OutKept_refused, ite_self, implies_true]
theorem State.openStallQuays_kept (s : State) (n : Nat) : (State.openStallQuays s n).kept = s.kept := by
  simp only [State.openStallQuays, ↓State.reopenPort_kept, ↓State.kept_mk, ↓State.kept_fold, ↓each_kept,
    ↓foldl_kept, ↓when_kept, ↓kept_ite, ↓OutKept_ite, ↓OutKept_next, ↓OutKept_fault, ↓OutKept_refused, ite_self,
    implies_true]
theorem State.disown_kept (s : State) (q : Nat) : (State.disown s q).kept = s.kept := by
  unfold State.disown; (repeat' split) <;> simp (maxDischargeDepth := 9) only [↓State.setQuay_kept, ↓State.kept_mk,
    ↓State.kept_fold, ↓each_kept, ↓foldl_kept, ↓when_kept, ↓kept_ite, ↓OutKept_ite, ↓OutKept_next, ↓OutKept_fault,
    ↓OutKept_refused, ite_self, implies_true]
theorem State.forceStallQuays_kept (s : State) (n : Nat) : (State.forceStallQuays s n).kept = s.kept := by
  simp only [State.forceStallQuays, ↓State.disown_kept, ↓State.forceTarget_kept, ↓State.setPortState_kept,
    ↓State.kept_mk, ↓State.kept_fold, ↓each_kept, ↓foldl_kept, ↓when_kept, ↓kept_ite, ↓OutKept_ite, ↓OutKept_next,
    ↓OutKept_fault, ↓OutKept_refused, ite_self, implies_true]
theorem State.beginDrain_kept (s : State) (n : Nat) (w : Swap) : (State.beginDrain s n w).kept = s.kept := by
  simp only [State.beginDrain, ↓State.closePort_kept, ↓State.put_kept, ↓State.setStall_kept, ↓State.kept_mk,
    ↓State.kept_fold, ↓each_kept, ↓foldl_kept, ↓when_kept, ↓kept_ite, ↓OutKept_ite, ↓OutKept_next, ↓OutKept_fault,
    ↓OutKept_refused, ite_self, implies_true]
theorem State.abandonSwap_kept (s : State) (n code : Nat) : (State.abandonSwap s n code).kept = s.kept := by
  simp only [State.abandonSwap, ↓State.dropSwap_kept, ↓State.openStallQuays_kept, ↓State.put_kept,
    ↓State.swapResult_kept, ↓State.kept_mk, ↓State.kept_fold, ↓each_kept, ↓foldl_kept, ↓when_kept, ↓kept_ite,
    ↓OutKept_ite, ↓OutKept_next, ↓OutKept_fault, ↓OutKept_refused, ite_self, implies_true]
theorem State.cancelTimedSwaps_kept (s : State) : (State.cancelTimedSwaps s).kept = s.kept := by
  unfold State.cancelTimedSwaps
  refine each_kept _ _ _ fun _ _ => ?_
  split
  · rfl
  · split
    · exact (State.stallEvent_kept ..).trans (State.abandonSwap_kept ..)
    · rfl
theorem State.passTimedSwaps_kept (s : State) : (State.passTimedSwaps s).kept = s.kept := by
  unfold State.passTimedSwaps
  dsimp only
  repeat' with_reducible first
    | rfl
    | refine (Machine.each_kept _ _ _ fun _ _ => ?_).trans ?_
    | split
  all_goals
    simp (maxDischargeDepth := 9) only [↓State.beginDrain_kept, ↓State.setStall_kept, ↓State.kept_mk,
      ↓State.kept_fold, ↓each_kept, ↓foldl_kept, ↓when_kept, ↓kept_ite, ↓OutKept_ite, ↓OutKept_next, ↓OutKept_fault,
      ↓OutKept_refused, ite_self, implies_true]
theorem State.awaitTimedSwaps_kept (s : State) : (State.awaitTimedSwaps s).kept = s.kept := by
  unfold State.awaitTimedSwaps
  dsimp only
  repeat' with_reducible first
    | rfl
    | refine (Machine.each_kept _ _ _ fun _ _ => ?_).trans ?_
    | split
  all_goals
    simp (maxDischargeDepth := 9) only [↓State.setStall_kept, ↓State.kept_mk, ↓State.kept_fold, ↓each_kept,
      ↓foldl_kept, ↓when_kept, ↓kept_ite, ↓OutKept_ite, ↓OutKept_next, ↓OutKept_fault, ↓OutKept_refused, ite_self,
      implies_true]
theorem State.requestSwap_kept (s : State) (n : Nat) (timed swapClk : Bool) (t : Option Nat) :
    (s.requestSwap n timed swapClk t).1.kept = s.kept := by
  unfold State.requestSwap
  split
  · simp only [State.stallEvent_kept, State.swapResult_kept]
  · dsimp only
    split_ifs <;> cases t <;> simp only [State.beginDrain_kept, State.swapResult_kept, State.putWide_kept, State.setStall_kept,
      State.put_kept]
theorem State.holdStall_kept (s : State) (n : Nat) : (State.holdStall s n).kept = s.kept := by
  simp only [State.holdStall, ↓State.forceStallQuays_kept, ↓State.put_kept, ↓State.restartStall_kept,
    ↓State.returnTasks_kept, ↓State.kept_mk, ↓State.kept_fold, ↓each_kept, ↓foldl_kept, ↓when_kept, ↓kept_ite,
    ↓OutKept_ite, ↓OutKept_next, ↓OutKept_fault, ↓OutKept_refused, ite_self, implies_true]
theorem State.freeStall_kept (s : State) (n : Nat) : (State.freeStall s n).kept = s.kept := by
  simp only [State.freeStall, ↓State.openStallQuays_kept, ↓State.put_kept, ↓State.setStall_kept, ↓State.kept_mk,
    ↓State.kept_fold, ↓each_kept, ↓foldl_kept, ↓when_kept, ↓kept_ite, ↓OutKept_ite, ↓OutKept_next, ↓OutKept_fault,
    ↓OutKept_refused, ite_self, implies_true]
theorem State.releaseStall_kept (s : State) (n : Nat) : (State.releaseStall s n).kept = s.kept := by
  simp only [State.releaseStall, ↓State.freeStall_kept, ↓State.setStall_kept, ↓State.kept_mk, ↓State.kept_fold,
    ↓each_kept, ↓foldl_kept, ↓when_kept, ↓kept_ite, ↓OutKept_ite, ↓OutKept_next, ↓OutKept_fault, ↓OutKept_refused,
    ite_self, implies_true]
theorem State.closeStall_kept (s : State) (n : Nat) : (State.closeStall s n).kept = s.kept := by
  simp only [State.closeStall, ↓State.closePort_kept, ↓State.dropSwap_kept, ↓State.put_kept,
    ↓State.returnTasks_kept, ↓State.setShadow_kept, ↓State.setStall_kept, ↓State.swapResult_kept, ↓State.kept_mk,
    ↓State.kept_fold, ↓each_kept, ↓foldl_kept, ↓when_kept, ↓kept_ite, ↓OutKept_ite, ↓OutKept_next, ↓OutKept_fault,
    ↓OutKept_refused, ite_self, implies_true]
theorem State.closeStallsOf_kept (s : State) (r : Nat) : (State.closeStallsOf s r).kept = s.kept := by
  simp only [State.closeStallsOf, ↓State.closeStall_kept, ↓State.kept_mk, ↓State.kept_fold, ↓each_kept, ↓foldl_kept,
    ↓when_kept, ↓kept_ite, ↓OutKept_ite, ↓OutKept_next, ↓OutKept_fault, ↓OutKept_refused, ite_self, implies_true]
theorem State.reviveStallsOf_kept (s : State) (r : Nat) : (State.reviveStallsOf s r).kept = s.kept := by
  simp only [State.reviveStallsOf, ↓State.put_kept, ↓State.restartStall_kept, ↓State.kept_mk, ↓State.kept_fold,
    ↓each_kept, ↓foldl_kept, ↓when_kept, ↓kept_ite, ↓OutKept_ite, ↓OutKept_next, ↓OutKept_fault, ↓OutKept_refused,
    ite_self, implies_true]
theorem State.startScrub_kept (s : State) : (State.startScrub s).kept = s.kept := by
  simp only [State.startScrub, ↓State.put_kept, ↓State.kept_mk, ↓State.kept_fold, ↓each_kept, ↓foldl_kept,
    ↓when_kept, ↓kept_ite, ↓OutKept_ite, ↓OutKept_next, ↓OutKept_fault, ↓OutKept_refused, ite_self, implies_true]
theorem State.stopScrub_kept (s : State) : (State.stopScrub s).kept = s.kept := by
  simp only [State.stopScrub, ↓State.put_kept, ↓State.kept_mk, ↓State.kept_fold, ↓each_kept, ↓foldl_kept,
    ↓when_kept, ↓kept_ite, ↓OutKept_ite, ↓OutKept_next, ↓OutKept_fault, ↓OutKept_refused, ite_self, implies_true]
theorem State.undefineAll_kept (s : State) : (State.undefineAll s).kept = s.kept := by
  simp only [State.undefineAll, ↓State.put_kept, ↓State.returnTasks_kept, ↓State.kept_mk, ↓State.kept_fold,
    ↓each_kept, ↓foldl_kept, ↓when_kept, ↓kept_ite, ↓OutKept_ite, ↓OutKept_next, ↓OutKept_fault, ↓OutKept_refused,
    ite_self, implies_true]
theorem State.bistWrite_kept (s : State) (region : Fin 240) (v : Word) : (State.bistWrite s region v).kept = s.kept := by
  simp only [State.bistWrite, ↓State.put_kept, ↓State.write_kept, ↓State.kept_mk, ↓State.kept_fold, ↓each_kept,
    ↓foldl_kept, ↓when_kept, ↓kept_ite, ↓OutKept_ite, ↓OutKept_next, ↓OutKept_fault, ↓OutKept_refused, ite_self,
    implies_true]
theorem execBistStart_kept (region : Fin 240) (v : Word) (s : State) : OutKept s (execBistStart region v s) := by
  simp only [execBistStart, ↓State.bistWrite_kept, ↓State.kept_mk, ↓State.kept_fold, ↓each_kept, ↓foldl_kept,
    ↓when_kept, ↓kept_ite, ↓OutKept_ite, ↓OutKept_next, ↓OutKept_fault, ↓OutKept_refused, ite_self, implies_true]
theorem execBistComplete_kept (region : Fin 240) (failing : List (BitVec 12)) (s : State) : OutKept s (execBistComplete region failing s) := by
  unfold execBistComplete; dsimp only; (repeat' split) <;> simp (maxDischargeDepth := 9) only
    [↓State.freeStall_kept, ↓State.fresh_kept, ↓State.offend_kept, ↓State.put_kept, ↓State.putB_kept,
    ↓State.zeroMemory_kept, ↓State.kept_mk, ↓State.kept_fold, ↓each_kept, ↓foldl_kept, ↓when_kept, ↓kept_ite,
    ↓OutKept_ite, ↓OutKept_next, ↓OutKept_fault, ↓OutKept_refused, ite_self, implies_true]
theorem State.startSearch_kept (s : State) (x : Nat) : (State.startSearch s x).kept = s.kept := by
  simp only [State.startSearch, ↓State.put_kept, ↓State.kept_mk, ↓State.kept_fold, ↓each_kept, ↓foldl_kept,
    ↓when_kept, ↓kept_ite, ↓OutKept_ite, ↓OutKept_next, ↓OutKept_fault, ↓OutKept_refused, ite_self, implies_true]
theorem State.trimGained_kept (s : State) (x : Nat) : (State.trimGained s x).kept = s.kept := by
  simp only [State.trimGained, ↓State.startSearch_kept, ↓State.kept_mk, ↓State.kept_fold, ↓each_kept, ↓foldl_kept,
    ↓when_kept, ↓kept_ite, ↓OutKept_ite, ↓OutKept_next, ↓OutKept_fault, ↓OutKept_refused, ite_self, implies_true]
theorem State.holdTrim_kept (s : State) : (State.holdTrim s).kept = s.kept := by
  simp only [State.holdTrim, ↓State.put_kept, ↓State.raise_kept, ↓State.kept_mk, ↓State.kept_fold, ↓each_kept,
    ↓foldl_kept, ↓when_kept, ↓kept_ite, ↓OutKept_ite, ↓OutKept_next, ↓OutKept_fault, ↓OutKept_refused, ite_self,
    implies_true]
theorem State.trimLost_kept (s : State) (x : Nat) : (State.trimLost s x).kept = s.kept := by
  simp only [State.trimLost, ↓State.holdTrim_kept, ↓State.put_kept, ↓State.kept_mk, ↓State.kept_fold, ↓each_kept,
    ↓foldl_kept, ↓when_kept, ↓kept_ite, ↓OutKept_ite, ↓OutKept_next, ↓OutKept_fault, ↓OutKept_refused, ite_self,
    implies_true]
theorem State.writeTrimCfg_kept (s : State) (v : Word) : (State.writeTrimCfg s v).kept = s.kept := by
  simp only [State.writeTrimCfg, ↓State.holdTrim_kept, ↓State.put_kept, ↓State.startSearch_kept, ↓State.write_kept,
    ↓State.kept_mk, ↓State.kept_fold, ↓each_kept, ↓foldl_kept, ↓when_kept, ↓kept_ite, ↓OutKept_ite, ↓OutKept_next,
    ↓OutKept_fault, ↓OutKept_refused, ite_self, implies_true]
theorem State.showMarks_kept (s : State) : (State.showMarks s).kept = s.kept := by
  simp only [State.showMarks, ↓State.put_kept, ↓State.trimGained_kept, ↓State.trimLost_kept, ↓State.kept_mk,
    ↓State.kept_fold, ↓each_kept, ↓foldl_kept, ↓when_kept, ↓kept_ite, ↓OutKept_ite, ↓OutKept_next, ↓OutKept_fault,
    ↓OutKept_refused, ite_self, implies_true]
theorem State.setPll_kept (s : State) (t f : Nat) (v : CmtPll) : (State.setPll s t f v).kept = s.kept := by
  simp only [State.setPll, ↓State.kept_mk, ↓State.kept_fold, ↓each_kept, ↓foldl_kept, ↓when_kept, ↓kept_ite,
    ↓OutKept_ite, ↓OutKept_next, ↓OutKept_fault, ↓OutKept_refused, ite_self, implies_true]
theorem State.relock_kept (s : State) (t f : Nat) (setting : List Word) (runs : Bool) : (State.relock s t f setting runs).kept = s.kept := by
  simp only [State.relock, ↓State.put_kept, ↓State.putB_kept, ↓State.setPll_kept, ↓State.kept_mk, ↓State.kept_fold,
    ↓each_kept, ↓foldl_kept, ↓when_kept, ↓kept_ite, ↓OutKept_ite, ↓OutKept_next, ↓OutKept_fault, ↓OutKept_refused,
    ite_self, implies_true]
theorem State.setTrack_kept (s : State) (r t : Nat) (v : Track) : (State.setTrack s r t v).kept = s.kept := by
  simp only [State.setTrack, ↓State.kept_mk, ↓State.kept_fold, ↓each_kept, ↓foldl_kept, ↓when_kept, ↓kept_ite,
    ↓OutKept_ite, ↓OutKept_next, ↓OutKept_fault, ↓OutKept_refused, ite_self, implies_true]
theorem State.showTrack_kept (s : State) (r t : Nat) : (State.showTrack s r t).kept = s.kept := by
  simp only [State.showTrack, ↓State.put_kept, ↓State.kept_mk, ↓State.kept_fold, ↓each_kept, ↓foldl_kept,
    ↓when_kept, ↓kept_ite, ↓OutKept_ite, ↓OutKept_next, ↓OutKept_fault, ↓OutKept_refused, ite_self, implies_true]
theorem State.showLag_kept (s : State) : (State.showLag s).kept = s.kept := by
  simp only [State.showLag, ↓State.put_kept, ↓State.kept_mk, ↓State.kept_fold, ↓each_kept, ↓foldl_kept, ↓when_kept,
    ↓kept_ite, ↓OutKept_ite, ↓OutKept_next, ↓OutKept_fault, ↓OutKept_refused, ite_self, implies_true]
theorem State.pairEvent_kept (s : State) (n : Nat) (cls : BitVec 2) (code : Nat) : (State.pairEvent s n cls code).kept = s.kept := by
  simp only [State.pairEvent, ↓State.raise_kept, ↓State.kept_mk, ↓State.kept_fold, ↓each_kept, ↓foldl_kept,
    ↓when_kept, ↓kept_ite, ↓OutKept_ite, ↓OutKept_next, ↓OutKept_fault, ↓OutKept_refused, ite_self, implies_true]
theorem State.setPairState_kept (s : State) (v : Nat) : (State.setPairState s v).kept = s.kept := by
  simp only [State.setPairState, ↓State.alert_kept, ↓State.put_kept, ↓State.kept_mk, ↓State.kept_fold, ↓each_kept,
    ↓foldl_kept, ↓when_kept, ↓kept_ite, ↓OutKept_ite, ↓OutKept_next, ↓OutKept_fault, ↓OutKept_refused, ite_self,
    implies_true]
theorem State.mirror_kept (s : State) (c : Change) : (State.mirror s c).kept = s.kept := by
  simp only [State.mirror, ↓State.count_kept, ↓State.pairEvent_kept, ↓State.setPairState_kept, ↓State.showLag_kept,
    ↓State.kept_mk, ↓State.kept_fold, ↓each_kept, ↓foldl_kept, ↓when_kept, ↓kept_ite, ↓OutKept_ite, ↓OutKept_next,
    ↓OutKept_fault, ↓OutKept_refused, ite_self, implies_true]
theorem State.mirrorFrom_kept (s t : State) : (s.mirrorFrom t).kept = t.kept := by
  unfold State.mirrorFrom
  split
  · rfl
  · exact each_kept _ _ _ fun u c => u.mirror_kept c
theorem mirrored_kept (f : State → Out) (s : State) (h : ∀ t, OutKept t (f t)) : OutKept s (mirrored f s) := by
  have e := h s
  unfold mirrored
  split
  · next t hf => rw [hf] at e; exact OutKept_next_of ((s.mirrorFrom_kept t).trans (e t rfl))
  · next o hf => exact e
theorem State.setTl_kept (s : State) (n : Nat) (v : ThLane) : (State.setTl s n v).kept = s.kept := by
  simp only [State.setTl, ↓State.kept_mk, ↓State.kept_fold, ↓each_kept, ↓foldl_kept, ↓when_kept, ↓kept_ite,
    ↓OutKept_ite, ↓OutKept_next, ↓OutKept_fault, ↓OutKept_refused, ite_self, implies_true]
theorem State.setChan_kept (s : State) (c : Nat) (v : ThChan) : (State.setChan s c v).kept = s.kept := by
  simp only [State.setChan, ↓State.kept_mk, ↓State.kept_fold, ↓each_kept, ↓foldl_kept, ↓when_kept, ↓kept_ite,
    ↓OutKept_ite, ↓OutKept_next, ↓OutKept_fault, ↓OutKept_refused, ite_self, implies_true]
theorem State.setOut_kept (s : State) (o : Nat) (v : ThOut) : (State.setOut s o v).kept = s.kept := by
  simp only [State.setOut, ↓State.put_kept, ↓State.kept_mk, ↓State.kept_fold, ↓each_kept, ↓foldl_kept, ↓when_kept,
    ↓kept_ite, ↓OutKept_ite, ↓OutKept_next, ↓OutKept_fault, ↓OutKept_refused, ite_self, implies_true]
theorem State.setGrid_kept (s : State) (n : Nat) (v : SrGrid) : (State.setGrid s n v).kept = s.kept := by
  simp only [State.setGrid, ↓State.kept_mk, ↓State.kept_fold, ↓each_kept, ↓foldl_kept, ↓when_kept, ↓kept_ite,
    ↓OutKept_ite, ↓OutKept_next, ↓OutKept_fault, ↓OutKept_refused, ite_self, implies_true]
theorem State.setSeq_kept (s : State) (q : Nat) (v : ThSeq) : (State.setSeq s q v).kept = s.kept := by
  simp only [State.setSeq, ↓State.kept_mk, ↓State.kept_fold, ↓each_kept, ↓foldl_kept, ↓when_kept, ↓kept_ite,
    ↓OutKept_ite, ↓OutKept_next, ↓OutKept_fault, ↓OutKept_refused, ite_self, implies_true]
theorem State.setTap_kept (s : State) (r : Nat) (v : ThTap) : (State.setTap s r v).kept = s.kept := by
  simp only [State.setTap, ↓State.kept_mk, ↓State.kept_fold, ↓each_kept, ↓foldl_kept, ↓when_kept, ↓kept_ite,
    ↓OutKept_ite, ↓OutKept_next, ↓OutKept_fault, ↓OutKept_refused, ite_self, implies_true]
theorem State.lateOut_kept (s : State) (o : Nat) : (State.lateOut s o).kept = s.kept := by
  simp only [State.lateOut, ↓State.count_kept, ↓State.raise_kept, ↓State.kept_mk, ↓State.kept_fold, ↓each_kept,
    ↓foldl_kept, ↓when_kept, ↓kept_ite, ↓OutKept_ite, ↓OutKept_next, ↓OutKept_fault, ↓OutKept_refused, ite_self,
    implies_true]
theorem State.driveOut_kept (s : State) (o : Nat) (level : Bool) (at_ : Nat) : (State.driveOut s o level at_).kept = s.kept := by
  simp only [State.driveOut, ↓State.setOut_kept, ↓State.kept_mk, ↓State.kept_fold, ↓each_kept, ↓foldl_kept,
    ↓when_kept, ↓kept_ite, ↓OutKept_ite, ↓OutKept_next, ↓OutKept_fault, ↓OutKept_refused, ite_self, implies_true]
theorem State.actOut_kept (s : State) (o : Nat) (a : OutAct) (t : Nat) (late : Bool) : (State.actOut s o a t late).kept = s.kept := by
  simp only [State.actOut, ↓State.driveOut_kept, ↓State.lateOut_kept, ↓State.setOut_kept, ↓State.kept_mk,
    ↓State.kept_fold, ↓each_kept, ↓foldl_kept, ↓when_kept, ↓kept_ite, ↓OutKept_ite, ↓OutKept_next, ↓OutKept_fault,
    ↓OutKept_refused, ite_self, implies_true]
theorem State.requestOut_kept (s : State) (o : Nat) (a : OutAct) : (State.requestOut s o a).kept = s.kept := by
  simp only [State.requestOut, ↓State.actOut_kept, ↓State.raise_kept, ↓State.setOut_kept, ↓State.kept_mk,
    ↓State.kept_fold, ↓each_kept, ↓foldl_kept, ↓when_kept, ↓kept_ite, ↓OutKept_ite, ↓OutKept_next, ↓OutKept_fault,
    ↓OutKept_refused, ite_self, implies_true]
theorem State.passOut_kept (s : State) (o : Nat) : (State.passOut s o).kept = s.kept := by
  unfold State.passOut; dsimp only; (repeat' split) <;> simp (maxDischargeDepth := 9) only [↓State.actOut_kept,
    ↓State.driveOut_kept, ↓State.lateOut_kept, ↓State.setOut_kept, ↓State.kept_mk, ↓State.kept_fold, ↓each_kept,
    ↓foldl_kept, ↓when_kept, ↓kept_ite, ↓OutKept_ite, ↓OutKept_next, ↓OutKept_fault, ↓OutKept_refused, ite_self,
    implies_true]
theorem State.passGrid_kept (s : State) (n : Nat) : (State.passGrid s n).kept = s.kept := by
  unfold State.passGrid; dsimp only; (repeat' split) <;> simp (maxDischargeDepth := 9) only [↓State.count_kept,
    ↓State.driveOut_kept, ↓State.setGrid_kept, ↓State.kept_mk, ↓State.kept_fold, ↓each_kept, ↓foldl_kept,
    ↓when_kept, ↓kept_ite, ↓OutKept_ite, ↓OutKept_next, ↓OutKept_fault, ↓OutKept_refused, ite_self, implies_true]
theorem State.giveEvent_kept (s : State) (q : Nat) (e : SeqEvent) : (State.giveEvent s q e).kept = s.kept := by
  simp only [State.giveEvent, ↓State.setSeq_kept, ↓State.kept_mk, ↓State.kept_fold, ↓each_kept, ↓foldl_kept,
    ↓when_kept, ↓kept_ite, ↓OutKept_ite, ↓OutKept_next, ↓OutKept_fault, ↓OutKept_refused, ite_self, implies_true]
theorem State.giveAll_kept (s : State) (e : SeqEvent) : (State.giveAll s e).kept = s.kept := by
  simp only [State.giveAll, ↓State.giveEvent_kept, ↓State.kept_mk, ↓State.kept_fold, ↓each_kept, ↓foldl_kept,
    ↓when_kept, ↓kept_ite, ↓OutKept_ite, ↓OutKept_next, ↓OutKept_fault, ↓OutKept_refused, ite_self, implies_true]
theorem State.passTimer_kept (s : State) (q : Nat) : (State.passTimer s q).kept = s.kept := by
  unfold State.passTimer; dsimp only; (repeat' split) <;> simp (maxDischargeDepth := 9) only [↓State.count_kept,
    ↓State.setSeq_kept, ↓State.kept_mk, ↓State.kept_fold, ↓each_kept, ↓foldl_kept, ↓when_kept, ↓kept_ite,
    ↓OutKept_ite, ↓OutKept_next, ↓OutKept_fault, ↓OutKept_refused, ite_self, implies_true]
theorem State.stepTime_kept (s : State) (d : Int) : (State.stepTime s d).kept = s.kept := by
  simp only [State.stepTime, ↓State.awaitTimedSwaps_kept, ↓State.passGrid_kept, ↓State.passOut_kept,
    ↓State.passTimedSwaps_kept, ↓State.passTimer_kept, ↓State.kept_mk, ↓State.kept_fold, ↓each_kept, ↓foldl_kept,
    ↓when_kept, ↓kept_ite, ↓OutKept_ite, ↓OutKept_next, ↓OutKept_fault, ↓OutKept_refused, ite_self, implies_true]
theorem State.setThState_kept (s : State) (v : Nat) : (State.setThState s v).kept = s.kept := by
  simp only [State.setThState, ↓State.cancelTimedSwaps_kept, ↓State.put_kept, ↓State.raise_kept, ↓State.kept_mk,
    ↓State.kept_fold, ↓each_kept, ↓foldl_kept, ↓when_kept, ↓kept_ite, ↓OutKept_ite, ↓OutKept_next, ↓OutKept_fault,
    ↓OutKept_refused, ite_self, implies_true]
theorem State.restartAverage_kept (s : State) : (State.restartAverage s).kept = s.kept := by
  simp only [State.restartAverage, ↓State.put_kept, ↓State.kept_mk, ↓State.kept_fold, ↓each_kept, ↓foldl_kept,
    ↓when_kept, ↓kept_ite, ↓OutKept_ite, ↓OutKept_next, ↓OutKept_fault, ↓OutKept_refused, ite_self, implies_true]
theorem State.enterHoldover_kept (s : State) : (State.enterHoldover s).kept = s.kept := by
  simp only [State.enterHoldover, ↓State.raise_kept, ↓State.restartAverage_kept, ↓State.setThState_kept,
    ↓State.kept_mk, ↓State.kept_fold, ↓each_kept, ↓foldl_kept, ↓when_kept, ↓kept_ite, ↓OutKept_ite, ↓OutKept_next,
    ↓OutKept_fault, ↓OutKept_refused, ite_self, implies_true]
theorem State.dropStep_kept (s : State) : (State.dropStep s).kept = s.kept := by
  simp only [State.dropStep, ↓State.put_kept, ↓State.kept_mk, ↓State.kept_fold, ↓each_kept, ↓foldl_kept, ↓when_kept,
    ↓kept_ite, ↓OutKept_ite, ↓OutKept_next, ↓OutKept_fault, ↓OutKept_refused, ite_self, implies_true]
theorem State.rootReference_kept (s : State) : (State.rootReference s).kept = s.kept := by
  simp only [State.rootReference, ↓State.enterHoldover_kept, ↓State.put_kept, ↓State.setThState_kept,
    ↓State.kept_mk, ↓State.kept_fold, ↓each_kept, ↓foldl_kept, ↓when_kept, ↓kept_ite, ↓OutKept_ite, ↓OutKept_next,
    ↓OutKept_fault, ↓OutKept_refused, ite_self, implies_true]
theorem State.queueMessage_kept (s : State) (n : Nat) (m : BitVec 64) : (State.queueMessage s n m).kept = s.kept := by
  simp only [State.queueMessage, ↓State.count_kept, ↓State.raise_kept, ↓State.setTl_kept, ↓State.kept_mk,
    ↓State.kept_fold, ↓each_kept, ↓foldl_kept, ↓when_kept, ↓kept_ite, ↓OutKept_ite, ↓OutKept_next, ↓OutKept_fault,
    ↓OutKept_refused, ite_self, implies_true]
theorem State.spreadMessage_kept (s : State) (but : Option Nat) (m : BitVec 64) : (State.spreadMessage s but m).kept = s.kept := by
  simp only [State.spreadMessage, ↓State.queueMessage_kept, ↓State.kept_mk, ↓State.kept_fold, ↓each_kept,
    ↓foldl_kept, ↓when_kept, ↓kept_ite, ↓OutKept_ite, ↓OutKept_next, ↓OutKept_fault, ↓OutKept_refused, ite_self,
    implies_true]
theorem State.tapWord_kept (s : State) (a : BitVec 100) : (State.tapWord s a).kept = s.kept := by
  simp only [State.tapWord, ↓State.setTap_kept, ↓State.kept_mk, ↓State.kept_fold, ↓each_kept, ↓foldl_kept,
    ↓when_kept, ↓kept_ite, ↓OutKept_ite, ↓OutKept_next, ↓OutKept_fault, ↓OutKept_refused, ite_self, implies_true]
theorem State.slotStart_kept (s : State) (q : Nat) (w0 : Nat) (t : Time) : (State.slotStart s q w0 t).kept = s.kept := by
  simp only [State.slotStart, ↓State.put_kept, ↓State.putWide_kept, ↓State.kept_mk, ↓State.kept_fold, ↓each_kept,
    ↓foldl_kept, ↓when_kept, ↓kept_ite, ↓OutKept_ite, ↓OutKept_next, ↓OutKept_fault, ↓OutKept_refused, ite_self,
    implies_true]
theorem State.slotTimer_kept (s : State) (q w0 td : Nat) (t : Time) : (State.slotTimer s q w0 td t).kept = s.kept := by
  unfold State.slotTimer; (repeat' split) <;> simp (maxDischargeDepth := 9) only [↓State.setSeq_kept,
    ↓State.kept_mk, ↓State.kept_fold, ↓each_kept, ↓foldl_kept, ↓when_kept, ↓kept_ite, ↓OutKept_ite, ↓OutKept_next,
    ↓OutKept_fault, ↓OutKept_refused, ite_self, implies_true]
theorem State.slotCount_kept (s : State) (q w0 w3 : Nat) : (State.slotCount s q w0 w3).kept = s.kept := by
  unfold State.slotCount; (repeat' split) <;> simp (maxDischargeDepth := 9) only [↓State.put_kept, ↓State.kept_mk,
    ↓State.kept_fold, ↓each_kept, ↓foldl_kept, ↓when_kept, ↓kept_ite, ↓OutKept_ite, ↓OutKept_next, ↓OutKept_fault,
    ↓OutKept_refused, ite_self, implies_true]
theorem State.slotActs_kept (s : State) (q w0 w2 w3 at_ : Nat) (t : Time) (swapClk : Bool) : (State.slotActs s q w0 w2 w3 at_ t swapClk).kept = s.kept := by
  simp only [State.slotActs, ↓State.event_kept, ↓State.giveAll_kept, ↓State.requestOut_kept,
    ↓State.requestSwap_kept, ↓State.spreadMessage_kept, ↓State.tapWord_kept, ↓State.kept_mk, ↓State.kept_fold,
    ↓each_kept, ↓foldl_kept, ↓when_kept, ↓kept_ite, ↓OutKept_ite, ↓OutKept_next, ↓OutKept_fault, ↓OutKept_refused,
    ite_self, implies_true]
theorem State.takeSlot_kept (s : State) (q k : Nat) (t : Time) (swapClk : Bool) :
    (s.takeSlot q k t swapClk).1.kept = s.kept := by
  exact (State.slotActs_kept ..).trans ((State.slotCount_kept ..).trans ((State.slotTimer_kept ..).trans (State.slotStart_kept ..)))
theorem State.loopHalt_kept (s : State) (q : Nat) : (State.loopHalt s q).kept = s.kept := by
  simp only [State.loopHalt, ↓State.put_kept, ↓State.raise_kept, ↓State.kept_mk, ↓State.kept_fold, ↓each_kept,
    ↓foldl_kept, ↓when_kept, ↓kept_ite, ↓OutKept_ite, ↓OutKept_next, ↓OutKept_fault, ↓OutKept_refused, ite_self,
    implies_true]
theorem State.chainSeq_kept (s : State) (q : Nat) (t : Time) (swapClk zero : Bool) (left : Nat) :
    (s.chainSeq q t swapClk zero left).kept = s.kept := by
  induction left generalizing s zero with
  | zero =>
    unfold State.chainSeq
    generalize s.chainSlot q zero = k
    cases k <;> split_ifs
    · with_reducible rfl
    · with_reducible rfl
    · with_reducible rfl
    · exact s.loopHalt_kept q
  | succ n ih =>
    unfold State.chainSeq
    generalize s.chainSlot q zero = k
    cases k <;> split_ifs
    · with_reducible rfl
    · with_reducible rfl
    · with_reducible rfl
    · exact (ih _ _).trans (State.takeSlot_kept ..)
theorem State.offerEvent_kept (s : State) (q : Nat) (e : SeqEvent) (swapClk : Bool) :
    (s.offerEvent q e swapClk).kept = s.kept := by
  unfold State.offerEvent
  split_ifs
  · rfl
  · split
    · rfl
    · exact (State.chainSeq_kept ..).trans (State.takeSlot_kept ..)
theorem State.setMon_kept (s : State) (x : ClkSrc) (v : ClkMon) : (State.setMon s x v).kept = s.kept := by
  simp only [State.setMon, ↓State.kept_mk, ↓State.kept_fold, ↓each_kept, ↓foldl_kept, ↓when_kept, ↓kept_ite,
    ↓OutKept_ite, ↓OutKept_next, ↓OutKept_fault, ↓OutKept_refused, ite_self, implies_true]
theorem State.autoClocks_kept (s : State) : (State.autoClocks s).kept = s.kept := by
  simp only [State.autoClocks, ↓State.kept_mk, ↓State.kept_fold, ↓each_kept, ↓foldl_kept, ↓when_kept, ↓kept_ite,
    ↓OutKept_ite, ↓OutKept_next, ↓OutKept_fault, ↓OutKept_refused, ite_self, implies_true]
theorem State.becomeReady_kept (s : State) (x : ClkSrc) : (State.becomeReady s x).kept = s.kept := by
  unfold State.becomeReady; (repeat' split) <;> simp (maxDischargeDepth := 9) only [↓State.autoClocks_kept,
    ↓State.put_kept, ↓State.rootReference_kept, ↓State.setMon_kept, ↓State.trimGained_kept, ↓State.kept_mk,
    ↓State.kept_fold, ↓each_kept, ↓foldl_kept, ↓when_kept, ↓kept_ite, ↓OutKept_ite, ↓OutKept_next, ↓OutKept_fault,
    ↓OutKept_refused, ite_self, implies_true]
theorem State.qualify_kept (s : State) (x : ClkSrc) : (State.qualify s x).kept = s.kept := by
  simp only [State.qualify, ↓State.becomeReady_kept, ↓State.setMon_kept, ↓State.kept_mk, ↓State.kept_fold,
    ↓each_kept, ↓foldl_kept, ↓when_kept, ↓kept_ite, ↓OutKept_ite, ↓OutKept_next, ↓OutKept_fault, ↓OutKept_refused,
    ite_self, implies_true]
theorem State.rootHoldover_kept (s : State) : (State.rootHoldover s).kept = s.kept := by
  simp only [State.rootHoldover, ↓State.put_kept, ↓State.raise_kept, ↓State.kept_mk, ↓State.kept_fold, ↓each_kept,
    ↓foldl_kept, ↓when_kept, ↓kept_ite, ↓OutKept_ite, ↓OutKept_next, ↓OutKept_fault, ↓OutKept_refused, ite_self,
    implies_true]
theorem State.leaveReady_kept (s : State) (x : ClkSrc) (missing : Bool) : (State.leaveReady s x missing).kept = s.kept := by
  unfold State.leaveReady; (repeat' split) <;> simp (maxDischargeDepth := 9) only [↓State.autoClocks_kept,
    ↓State.put_kept, ↓State.rootHoldover_kept, ↓State.rootReference_kept, ↓State.setMon_kept, ↓State.trimLost_kept,
    ↓State.kept_mk, ↓State.kept_fold, ↓each_kept, ↓foldl_kept, ↓when_kept, ↓kept_ite, ↓OutKept_ite, ↓OutKept_next,
    ↓OutKept_fault, ↓OutKept_refused, ite_self, implies_true]
theorem execOscReady_kept (s : State) : OutKept s (execOscReady s) := by
  simp only [execOscReady, ↓State.qualify_kept, ↓State.kept_mk, ↓State.kept_fold, ↓each_kept, ↓foldl_kept,
    ↓when_kept, ↓kept_ite, ↓OutKept_ite, ↓OutKept_next, ↓OutKept_fault, ↓OutKept_refused, ite_self, implies_true]
theorem execCrystalReady_kept (s : State) : OutKept s (execCrystalReady s) := by
  simp only [execCrystalReady, ↓State.qualify_kept, ↓State.kept_mk, ↓State.kept_fold, ↓each_kept, ↓foldl_kept,
    ↓when_kept, ↓kept_ite, ↓OutKept_ite, ↓OutKept_next, ↓OutKept_fault, ↓OutKept_refused, ite_self, implies_true]
theorem execRefclkReady_kept (at100 : Bool) (s : State) : OutKept s (execRefclkReady at100 s) := by
  simp only [execRefclkReady, ↓State.put_kept, ↓State.qualify_kept, ↓State.kept_mk, ↓State.kept_fold, ↓each_kept,
    ↓foldl_kept, ↓when_kept, ↓kept_ite, ↓OutKept_ite, ↓OutKept_next, ↓OutKept_fault, ↓OutKept_refused, ite_self,
    implies_true]
theorem execRootPllLock_kept (s : State) : OutKept s (execRootPllLock s) := by
  simp only [execRootPllLock, ↓State.put_kept, ↓State.qualify_kept, ↓State.kept_mk, ↓State.kept_fold, ↓each_kept,
    ↓foldl_kept, ↓when_kept, ↓kept_ite, ↓OutKept_ite, ↓OutKept_next, ↓OutKept_fault, ↓OutKept_refused, ite_self,
    implies_true]
theorem execThPllLock_kept (s : State) : OutKept s (execThPllLock s) := by
  unfold execThPllLock; (repeat' split) <;> simp (maxDischargeDepth := 9) only [↓State.put_kept,
    ↓State.qualify_kept, ↓State.kept_mk, ↓State.kept_fold, ↓each_kept, ↓foldl_kept, ↓when_kept, ↓kept_ite,
    ↓OutKept_ite, ↓OutKept_next, ↓OutKept_fault, ↓OutKept_refused, ite_self, implies_true]
theorem execThPllLockLost_kept (s : State) : OutKept s (execThPllLockLost s) := by
  simp only [execThPllLockLost, ↓State.leaveReady_kept, ↓State.kept_mk, ↓State.kept_fold, ↓each_kept, ↓foldl_kept,
    ↓when_kept, ↓kept_ite, ↓OutKept_ite, ↓OutKept_next, ↓OutKept_fault, ↓OutKept_refused, ite_self, implies_true]
theorem execMissingClock_kept (src : ClkSrc) (s : State) : OutKept s (execMissingClock src s) := by
  simp only [execMissingClock, ↓State.leaveReady_kept, ↓State.put_kept, ↓State.raise_kept, ↓State.setMon_kept,
    ↓State.kept_mk, ↓State.kept_fold, ↓each_kept, ↓foldl_kept, ↓when_kept, ↓kept_ite, ↓OutKept_ite, ↓OutKept_next,
    ↓OutKept_fault, ↓OutKept_refused, ite_self, implies_true]
theorem State.gateSource_kept (s : State) (g : GateSeen) (x : ClkSrc) (bad : Bool) : (State.gateSource s g x bad).kept = s.kept := by
  simp only [State.gateSource, ↓State.becomeReady_kept, ↓State.leaveReady_kept, ↓State.put_kept, ↓State.raise_kept,
    ↓State.setMon_kept, ↓State.kept_mk, ↓State.kept_fold, ↓each_kept, ↓foldl_kept, ↓when_kept, ↓kept_ite,
    ↓OutKept_ite, ↓OutKept_next, ↓OutKept_fault, ↓OutKept_refused, ite_self, implies_true]
theorem execMonitorGate_kept (g : GateSeen) (s : State) : OutKept s (execMonitorGate g s) := by
  simp only [execMonitorGate, ↓State.gateSource_kept, ↓State.putB_kept, ↓State.raise_kept, ↓State.kept_mk,
    ↓State.kept_fold, ↓each_kept, ↓foldl_kept, ↓when_kept, ↓kept_ite, ↓OutKept_ite, ↓OutKept_next, ↓OutKept_fault,
    ↓OutKept_refused, ite_self, implies_true]
theorem execTrimConverged_kept (code : BitVec 12) (err : BitVec 16) (s : State) : OutKept s (execTrimConverged code err s) := by
  simp only [execTrimConverged, ↓State.put_kept, ↓State.raise_kept, ↓State.kept_mk, ↓State.kept_fold, ↓each_kept,
    ↓foldl_kept, ↓when_kept, ↓kept_ite, ↓OutKept_ite, ↓OutKept_next, ↓OutKept_fault, ↓OutKept_refused, ite_self,
    implies_true]
theorem execTrimTrackStep_kept (up move : Bool) (err : BitVec 16) (s : State) : OutKept s (execTrimTrackStep up move err s) := by
  simp only [execTrimTrackStep, ↓State.put_kept, ↓State.kept_mk, ↓State.kept_fold, ↓each_kept, ↓foldl_kept,
    ↓when_kept, ↓kept_ite, ↓OutKept_ite, ↓OutKept_next, ↓OutKept_fault, ↓OutKept_refused, ite_self, implies_true]
theorem State.switchField_kept (s : State) (sel stat : Field) (v source : Nat) (locked invalid ready busy : Bool)
    (go : State → State) (h : ∀ t, (go t).kept = t.kept) :
    (s.switchField sel stat v source locked invalid ready busy go).kept = s.kept := by
  unfold State.switchField
  dsimp only
  split_ifs <;> simp only [h, State.raise_kept, State.put_kept]
theorem State.writeClkSel_kept (s : State) (v : Word) : (State.writeClkSel s v).kept = s.kept := by
  simp only [State.writeClkSel, ↓State.put_kept, ↓State.putB_kept, ↓State.switchField_kept, ↓State.kept_mk,
    ↓State.kept_fold, ↓each_kept, ↓foldl_kept, ↓when_kept, ↓kept_ite, ↓OutKept_ite, ↓OutKept_next, ↓OutKept_fault,
    ↓OutKept_refused, ite_self, implies_true]
theorem execClkSelWrite_kept (v : Word) (s : State) : OutKept s (execClkSelWrite v s) := by
  simp only [execClkSelWrite, ↓State.writeClkSel_kept, ↓State.kept_mk, ↓State.kept_fold, ↓each_kept, ↓foldl_kept,
    ↓when_kept, ↓kept_ite, ↓OutKept_ite, ↓OutKept_next, ↓OutKept_fault, ↓OutKept_refused, ite_self, implies_true]
theorem execClkSwitchComplete_kept (cfg : Bool) (s : State) : OutKept s (execClkSwitchComplete cfg s) := by
  unfold execClkSwitchComplete; (repeat' split) <;> simp (maxDischargeDepth := 9) only [↓State.put_kept,
    ↓State.kept_mk, ↓State.kept_fold, ↓each_kept, ↓foldl_kept, ↓when_kept, ↓kept_ite, ↓OutKept_ite, ↓OutKept_next,
    ↓OutKept_fault, ↓OutKept_refused, ite_self, implies_true]
theorem execRootRelockComplete_kept (th : Bool) (s : State) : OutKept s (execRootRelockComplete th s) := by
  unfold execRootRelockComplete; (repeat' split) <;> simp (maxDischargeDepth := 9) only [↓State.put_kept,
    ↓State.rootReference_kept, ↓State.kept_mk, ↓State.kept_fold, ↓each_kept, ↓foldl_kept, ↓when_kept, ↓kept_ite,
    ↓OutKept_ite, ↓OutKept_next, ↓OutKept_fault, ↓OutKept_refused, ite_self, implies_true]
theorem execAonTimeRead_kept (s : State) : OutKept s (execAonTimeRead s) := by
  simp only [execAonTimeRead, ↓State.answerWord_kept, ↓State.latchAon_kept, ↓State.kept_mk, ↓State.kept_fold,
    ↓each_kept, ↓foldl_kept, ↓when_kept, ↓kept_ite, ↓OutKept_ite, ↓OutKept_next, ↓OutKept_fault, ↓OutKept_refused,
    ite_self, implies_true]
theorem State.writeCmtCtrl_kept (s : State) (t f khz grade : Nat) (v : Word) : (State.writeCmtCtrl s t f khz grade v).kept = s.kept := by
  simp only [State.writeCmtCtrl, ↓State.put_kept, ↓State.relock_kept, ↓State.setPll_kept, ↓State.write_kept,
    ↓State.kept_mk, ↓State.kept_fold, ↓each_kept, ↓foldl_kept, ↓when_kept, ↓kept_ite, ↓OutKept_ite, ↓OutKept_next,
    ↓OutKept_fault, ↓OutKept_refused, ite_self, implies_true]
theorem execCmtApply_kept (tile : Fin 40) (fpll : Bool) (inputKhz : Nat) (grade : Fin 3) (v : Word) (s : State) : OutKept s (execCmtApply tile fpll inputKhz grade v s) := by
  simp only [execCmtApply, ↓State.writeCmtCtrl_kept, ↓State.kept_mk, ↓State.kept_fold, ↓each_kept, ↓foldl_kept,
    ↓when_kept, ↓kept_ite, ↓OutKept_ite, ↓OutKept_next, ↓OutKept_fault, ↓OutKept_refused, ite_self, implies_true]
theorem execCmtReset_kept (tile : Fin 40) (fpll : Bool) (v : Word) (s : State) : OutKept s (execCmtReset tile fpll v s) := by
  simp only [execCmtReset, ↓State.writeCmtCtrl_kept, ↓State.kept_mk, ↓State.kept_fold, ↓each_kept, ↓foldl_kept,
    ↓when_kept, ↓kept_ite, ↓OutKept_ite, ↓OutKept_next, ↓OutKept_fault, ↓OutKept_refused, ite_self, implies_true]
theorem execCmtLock_kept (tile : Fin 40) (fpll : Bool) (s : State) : OutKept s (execCmtLock tile fpll s) := by
  simp only [execCmtLock, ↓State.put_kept, ↓State.setPll_kept, ↓State.kept_mk, ↓State.kept_fold, ↓each_kept,
    ↓foldl_kept, ↓when_kept, ↓kept_ite, ↓OutKept_ite, ↓OutKept_next, ↓OutKept_fault, ↓OutKept_refused, ite_self,
    implies_true]
theorem execCmtLockLost_kept (tile : Fin 40) (fpll : Bool) (inputMissing : Bool) (s : State) : OutKept s (execCmtLockLost tile fpll inputMissing s) := by
  simp only [execCmtLockLost, ↓State.count_kept, ↓State.put_kept, ↓State.raise_kept, ↓State.kept_mk,
    ↓State.kept_fold, ↓each_kept, ↓foldl_kept, ↓when_kept, ↓kept_ite, ↓OutKept_ite, ↓OutKept_next, ↓OutKept_fault,
    ↓OutKept_refused, ite_self, implies_true]
theorem execPhaseRequest_kept (tile : Fin 40) (fpll : Bool) (count : BitVec 7) (s : State) : OutKept s (execPhaseRequest tile fpll count s) := by
  simp only [execPhaseRequest, ↓State.count_kept, ↓State.setPll_kept, ↓State.kept_mk, ↓State.kept_fold, ↓each_kept,
    ↓foldl_kept, ↓when_kept, ↓kept_ite, ↓OutKept_ite, ↓OutKept_next, ↓OutKept_fault, ↓OutKept_refused, ite_self,
    implies_true]
theorem execPhaseMoveComplete_kept (tile : Fin 40) (fpll : Bool) (s : State) : OutKept s (execPhaseMoveComplete tile fpll s) := by
  simp only [execPhaseMoveComplete, ↓State.setPll_kept, ↓State.kept_mk, ↓State.kept_fold, ↓each_kept, ↓foldl_kept,
    ↓when_kept, ↓kept_ite, ↓OutKept_ite, ↓OutKept_next, ↓OutKept_fault, ↓OutKept_refused, ite_self, implies_true]
theorem execTrackSelect_kept (region : Fin 240) (track : Fin 24) (second running : Bool) (s : State) : OutKept s (execTrackSelect region track second running s) := by
  simp only [execTrackSelect, ↓State.setTrack_kept, ↓State.showTrack_kept, ↓State.kept_mk, ↓State.kept_fold,
    ↓each_kept, ↓foldl_kept, ↓when_kept, ↓kept_ite, ↓OutKept_ite, ↓OutKept_next, ↓OutKept_fault, ↓OutKept_refused,
    ite_self, implies_true]
theorem execTrackInactive_kept (region : Fin 240) (track : Fin 24) (s : State) : OutKept s (execTrackInactive region track s) := by
  simp only [execTrackInactive, ↓State.put_kept, ↓State.kept_mk, ↓State.kept_fold, ↓each_kept, ↓foldl_kept,
    ↓when_kept, ↓kept_ite, ↓OutKept_ite, ↓OutKept_next, ↓OutKept_fault, ↓OutKept_refused, ite_self, implies_true]
theorem execTrackGateEnable_kept (region : Fin 240) (track : Fin 24) (en : Bool) (s : State) : OutKept s (execTrackGateEnable region track en s) := by
  simp only [execTrackGateEnable, ↓State.setTrack_kept, ↓State.showTrack_kept, ↓State.kept_mk, ↓State.kept_fold,
    ↓each_kept, ↓foldl_kept, ↓when_kept, ↓kept_ite, ↓OutKept_ite, ↓OutKept_next, ↓OutKept_fault, ↓OutKept_refused,
    ite_self, implies_true]
theorem State.setFn_kept (s : State) (k : Nat) (v : PciFn) : (State.setFn s k v).kept = s.kept := by
  simp only [State.setFn, ↓State.put_kept, ↓State.kept_mk, ↓State.kept_fold, ↓each_kept, ↓foldl_kept, ↓when_kept,
    ↓kept_ite, ↓OutKept_ite, ↓OutKept_next, ↓OutKept_fault, ↓OutKept_refused, ite_self, implies_true]
theorem State.setVfEn_kept (s : State) (pf : Nat) (on : Bool) : (State.setVfEn s pf on).kept = s.kept := by
  simp only [State.setVfEn, ↓State.kept_mk, ↓State.kept_fold, ↓each_kept, ↓foldl_kept, ↓when_kept, ↓kept_ite,
    ↓OutKept_ite, ↓OutKept_next, ↓OutKept_fault, ↓OutKept_refused, ite_self, implies_true]
theorem State.leave_kept (s : State) (t : HostTlp) : (State.leave s t).kept = s.kept := by
  unfold State.leave
  dsimp only
  repeat' with_reducible first
    | rfl
    | refine (Machine.each_kept _ _ _ fun _ _ => ?_).trans ?_
    | split
  all_goals
    simp (maxDischargeDepth := 9) only [↓State.put_kept, ↓State.raise_kept, ↓State.kept_mk, ↓State.kept_fold,
      ↓each_kept, ↓foldl_kept, ↓when_kept, ↓kept_ite, ↓OutKept_ite, ↓OutKept_next, ↓OutKept_fault, ↓OutKept_refused,
      ite_self, implies_true]
theorem State.toHost_kept (s : State) (t : HostTlp) : (State.toHost s t).kept = s.kept := by
  simp only [State.toHost, ↓State.leave_kept, ↓State.kept_mk, ↓State.kept_fold, ↓each_kept, ↓foldl_kept, ↓when_kept,
    ↓kept_ite, ↓OutKept_ite, ↓OutKept_next, ↓OutKept_fault, ↓OutKept_refused, ite_self, implies_true]
theorem State.setMsixWord_kept (s : State) (k v j : Nat) (w : Word) : (State.setMsixWord s k v j w).kept = s.kept := by
  simp only [State.setMsixWord, ↓State.setWord_kept, ↓State.kept_mk, ↓State.kept_fold, ↓each_kept, ↓foldl_kept,
    ↓when_kept, ↓kept_ite, ↓OutKept_ite, ↓OutKept_next, ↓OutKept_fault, ↓OutKept_refused, ite_self, implies_true]
theorem State.setPba_kept (s : State) (k v : Nat) (b : Bool) : (State.setPba s k v b).kept = s.kept := by
  simp only [State.setPba, ↓State.setWord_kept, ↓State.kept_mk, ↓State.kept_fold, ↓each_kept, ↓foldl_kept,
    ↓when_kept, ↓kept_ite, ↓OutKept_ite, ↓OutKept_next, ↓OutKept_fault, ↓OutKept_refused, ite_self, implies_true]
theorem State.emit_kept (s : State) (k v : Nat) : (State.emit s k v).kept = s.kept := by
  simp only [State.emit, ↓State.setPba_kept, ↓State.toHost_kept, ↓State.kept_mk, ↓State.kept_fold, ↓each_kept,
    ↓foldl_kept, ↓when_kept, ↓kept_ite, ↓OutKept_ite, ↓OutKept_next, ↓OutKept_fault, ↓OutKept_refused, ite_self,
    implies_true]
theorem State.sendPending_kept (s : State) (k : Nat) : (State.sendPending s k).kept = s.kept := by
  simp only [State.sendPending, ↓State.setPba_kept, ↓State.toHost_kept, ↓State.kept_mk, ↓State.kept_fold,
    ↓each_kept, ↓foldl_kept, ↓when_kept, ↓kept_ite, ↓OutKept_ite, ↓OutKept_next, ↓OutKept_fault, ↓OutKept_refused,
    ite_self, implies_true]
theorem State.sendHeld_kept (s : State) (k : Nat) : (State.sendHeld s k).kept = s.kept := by
  unfold State.sendHeld
  dsimp only
  repeat' with_reducible first
    | rfl
    | refine (Machine.each_kept _ _ _ fun _ _ => ?_).trans ?_
    | split
  all_goals
    simp (maxDischargeDepth := 9) only [↓State.count_kept, ↓State.emit_kept, ↓State.put_kept, ↓State.setFn_kept,
      ↓State.kept_mk, ↓State.kept_fold, ↓each_kept, ↓foldl_kept, ↓when_kept, ↓kept_ite, ↓OutKept_ite, ↓OutKept_next,
      ↓OutKept_fault, ↓OutKept_refused, ite_self, implies_true]
theorem State.deliver_kept (s : State) (k v : Nat) (sl : Option Nat) : (State.deliver s k v sl).kept = s.kept := by
  unfold State.deliver; (repeat' split) <;> simp (maxDischargeDepth := 9) only [↓State.count_kept, ↓State.emit_kept,
    ↓State.put_kept, ↓State.putB_kept, ↓State.sendHeld_kept, ↓State.setFn_kept, ↓State.toHost_kept, ↓State.kept_mk,
    ↓State.kept_fold, ↓each_kept, ↓foldl_kept, ↓when_kept, ↓kept_ite, ↓OutKept_ite, ↓OutKept_next, ↓OutKept_fault,
    ↓OutKept_refused, ite_self, implies_true]
theorem State.setTimer_kept (s : State) (j : Nat) (t : Option Nat) : (State.setTimer s j t).kept = s.kept := by
  simp only [State.setTimer, ↓State.putB_kept, ↓State.kept_mk, ↓State.kept_fold, ↓each_kept, ↓foldl_kept,
    ↓when_kept, ↓kept_ite, ↓OutKept_ite, ↓OutKept_next, ↓OutKept_fault, ↓OutKept_refused, ite_self, implies_true]
theorem State.releaseSluice_kept (s : State) (j : Nat) : (State.releaseSluice s j).kept = s.kept := by
  simp only [State.releaseSluice, ↓State.count_kept, ↓State.deliver_kept, ↓State.setTimer_kept, ↓State.kept_mk,
    ↓State.kept_fold, ↓each_kept, ↓foldl_kept, ↓when_kept, ↓kept_ite, ↓OutKept_ite, ↓OutKept_next, ↓OutKept_fault,
    ↓OutKept_refused, ite_self, implies_true]
theorem State.sluiceEvent_kept (s : State) (j : Nat) : (State.sluiceEvent s j).kept = s.kept := by
  simp only [State.sluiceEvent, ↓State.count_kept, ↓State.releaseSluice_kept, ↓State.setTimer_kept, ↓State.kept_mk,
    ↓State.kept_fold, ↓each_kept, ↓foldl_kept, ↓when_kept, ↓kept_ite, ↓OutKept_ite, ↓OutKept_next, ↓OutKept_fault,
    ↓OutKept_refused, ite_self, implies_true]
theorem State.complete_kept (s : State) (id fn bar off status : Nat) (data : List Byte) : (State.complete s id fn bar off status data).kept = s.kept := by
  simp only [State.complete, ↓State.answering_kept, ↓State.raise_kept, ↓State.toHost_kept, ↓State.kept_mk,
    ↓State.kept_fold, ↓each_kept, ↓foldl_kept, ↓when_kept, ↓kept_ite, ↓OutKept_ite, ↓OutKept_next, ↓OutKept_fault,
    ↓OutKept_refused, ite_self, implies_true]
theorem State.hostAnswer_kept (s : State) (p : Packet) : (State.hostAnswer s p).kept = s.kept := by
  simp only [State.hostAnswer, ↓State.kept_mk, ↓State.kept_fold, ↓each_kept, ↓foldl_kept, ↓when_kept, ↓kept_ite,
    ↓OutKept_ite, ↓OutKept_next, ↓OutKept_fault, ↓OutKept_refused, ite_self, implies_true]
theorem State.sendHostWrites_kept (s : State) : (State.sendHostWrites s).kept = s.kept := by
  simp only [State.sendHostWrites, ↓State.leave_kept, ↓State.setPort_kept, ↓State.write_kept, ↓State.kept_mk,
    ↓State.kept_fold, ↓each_kept, ↓foldl_kept, ↓when_kept, ↓kept_ite, ↓OutKept_ite, ↓OutKept_next, ↓OutKept_fault,
    ↓OutKept_refused, ite_self, implies_true]
theorem State.setMpe_kept (s : State) (n : Nat) (v : MpeState) : (State.setMpe s n v).kept = s.kept := by
  simp only [State.setMpe, ↓State.kept_mk, ↓State.kept_fold, ↓each_kept, ↓foldl_kept, ↓when_kept, ↓kept_ite,
    ↓OutKept_ite, ↓OutKept_next, ↓OutKept_fault, ↓OutKept_refused, ite_self, implies_true]
theorem State.setRgn_kept (s : State) (n r : Nat) (v : MpeRegion) : (State.setRgn s n r v).kept = s.kept := by
  simp only [State.setRgn, ↓State.setMpe_kept, ↓State.kept_mk, ↓State.kept_fold, ↓each_kept, ↓foldl_kept,
    ↓when_kept, ↓kept_ite, ↓OutKept_ite, ↓OutKept_next, ↓OutKept_fault, ↓OutKept_refused, ite_self, implies_true]
theorem State.rawLine_kept (s : State) (n l : Nat) : (s.rawLine n l).2.kept = s.kept := by
  unfold State.rawLine
  split
  · rfl
  · dsimp only
    split <;> exact Eq.mp rfl rfl
theorem State.storeLine_kept (s : State) (n l : Nat) (d : DramLine) : (State.storeLine s n l d).kept = s.kept := by
  simp only [State.storeLine, ↓State.kept_mk, ↓State.kept_fold, ↓each_kept, ↓foldl_kept, ↓when_kept, ↓kept_ite,
    ↓OutKept_ite, ↓OutKept_next, ↓OutKept_fault, ↓OutKept_refused, ite_self, implies_true]
theorem State.loseLines_kept (s : State) (n lo hi : Nat) : (State.loseLines s n lo hi).kept = s.kept := by
  simp only [State.loseLines, ↓State.kept_mk, ↓State.kept_fold, ↓each_kept, ↓foldl_kept, ↓when_kept, ↓kept_ite,
    ↓OutKept_ite, ↓OutKept_next, ↓OutKept_fault, ↓OutKept_refused, ite_self, implies_true]
theorem State.mpeEvent_kept (s : State) (n evt : Nat) (cls : BitVec 2) (code l r level : Nat) : (State.mpeEvent s n evt cls code l r level).kept = s.kept := by
  simp only [State.mpeEvent, ↓State.raise_kept, ↓State.kept_mk, ↓State.kept_fold, ↓each_kept, ↓foldl_kept,
    ↓when_kept, ↓kept_ite, ↓OutKept_ite, ↓OutKept_next, ↓OutKept_fault, ↓OutKept_refused, ite_self, implies_true]
theorem State.setRgnState_kept (s : State) (n r st : Nat) : (State.setRgnState s n r st).kept = s.kept := by
  simp only [State.setRgnState, ↓State.put_kept, ↓State.kept_mk, ↓State.kept_fold, ↓each_kept, ↓foldl_kept,
    ↓when_kept, ↓kept_ite, ↓OutKept_ite, ↓OutKept_next, ↓OutKept_fault, ↓OutKept_refused, ite_self, implies_true]
theorem State.checkRoot_kept (s : State) (n r : Nat) : (State.checkRoot s n r).kept = s.kept := by
  simp only [State.checkRoot, ↓State.fresh_kept, ↓State.mpeEvent_kept, ↓State.setRgn_kept, ↓State.setRgnState_kept,
    ↓State.kept_mk, ↓State.kept_fold, ↓each_kept, ↓foldl_kept, ↓when_kept, ↓kept_ite, ↓OutKept_ite, ↓OutKept_next,
    ↓OutKept_fault, ↓OutKept_refused, ite_self, implies_true]
theorem State.setRoot_kept (s : State) (n r : Nat) (f : Root → Root) : (State.setRoot s n r f).kept = s.kept := by
  simp only [State.setRoot, ↓State.setRgn_kept, ↓State.kept_mk, ↓State.kept_fold, ↓each_kept, ↓foldl_kept,
    ↓when_kept, ↓kept_ite, ↓OutKept_ite, ↓OutKept_next, ↓OutKept_fault, ↓OutKept_refused, ite_self, implies_true]
theorem State.exhaust_kept (s : State) (n r : Nat) : (State.exhaust s n r).kept = s.kept := by
  simp only [State.exhaust, ↓State.fresh_kept, ↓State.mpeEvent_kept, ↓State.setRgn_kept, ↓State.setRgnState_kept,
    ↓State.kept_mk, ↓State.kept_fold, ↓each_kept, ↓foldl_kept, ↓when_kept, ↓kept_ite, ↓OutKept_ite, ↓OutKept_next,
    ↓OutKept_fault, ↓OutKept_refused, ite_self, implies_true]
theorem State.markNode_kept (s : State) (n r level idx : Nat) (dirty : Bool) : (State.markNode s n r level idx dirty).kept = s.kept := by
  simp only [State.markNode, ↓State.setMpe_kept, ↓State.kept_mk, ↓State.kept_fold, ↓each_kept, ↓foldl_kept,
    ↓when_kept, ↓kept_ite, ↓OutKept_ite, ↓OutKept_next, ↓OutKept_fault, ↓OutKept_refused, ite_self, implies_true]
theorem State.writeBackNode_kept (s : State) (n r level idx : Nat) : (s.writeBackNode n r level idx).2.kept = s.kept := by
  unfold State.writeBackNode
  dsimp only
  split_ifs <;> simp only [State.markNode_kept, State.checkRoot_kept, State.exhaust_kept, State.setRoot_kept, State.setRgn_kept]
theorem State.writeBackAll_kept (s : State) (n : Nat) (p : Nat → Bool) : (State.writeBackAll s n p).kept = s.kept := by
  simp only [State.writeBackAll, ↓State.writeBackNode_kept, ↓State.kept_mk, ↓State.kept_fold, ↓each_kept,
    ↓foldl_kept, ↓when_kept, ↓kept_ite, ↓OutKept_ite, ↓OutKept_next, ↓OutKept_fault, ↓OutKept_refused, ite_self,
    implies_true]
theorem State.cacheNode_kept (s : State) (n r level idx : Nat) : (s.cacheNode n r level idx).kept = s.kept := by
  unfold State.cacheNode
  dsimp only
  split_ifs
  · exact State.setMpe_kept ..
  · split
    · exact s.fresh_kept 13
    · next e _ =>
      have h : (if e.2.2.2 then (s.fresh 13).2.writeBackNode n e.1 e.2.1 e.2.2.1 else (true, (s.fresh 13).2)).2.kept = s.kept := by
        split
        · exact (State.writeBackNode_kept ..).trans (s.fresh_kept 13)
        · exact s.fresh_kept 13
      generalize (if e.2.2.2 then (s.fresh 13).2.writeBackNode n e.1 e.2.1 e.2.2.1 else (true, (s.fresh 13).2)) = g at h
      split
      · exact (State.setMpe_kept ..).trans ((State.setMpe_kept ..).trans h)
      · exact h
theorem State.addPoison_kept (s : State) (n r level idx : Nat) : (State.addPoison s n r level idx).kept = s.kept := by
  simp only [State.addPoison, ↓State.mpeEvent_kept, ↓State.setMpe_kept, ↓State.setRgnState_kept, ↓State.kept_mk,
    ↓State.kept_fold, ↓each_kept, ↓foldl_kept, ↓when_kept, ↓kept_ite, ↓OutKept_ite, ↓OutKept_next, ↓OutKept_fault,
    ↓OutKept_refused, ite_self, implies_true]
theorem State.countLine_kept (s : State) (n r l : Nat) : (State.countLine s n r l).kept = s.kept := by
  simp only [State.countLine, ↓State.markNode_kept, ↓State.setRgn_kept, ↓State.kept_mk, ↓State.kept_fold,
    ↓each_kept, ↓foldl_kept, ↓when_kept, ↓kept_ite, ↓OutKept_ite, ↓OutKept_next, ↓OutKept_fault, ↓OutKept_refused,
    ite_self, implies_true]
theorem State.setDmc_kept (s : State) (n : Nat) (v : DmcState) : (State.setDmc s n v).kept = s.kept := by
  simp only [State.setDmc, ↓State.put_kept, ↓State.kept_mk, ↓State.kept_fold, ↓each_kept, ↓foldl_kept, ↓when_kept,
    ↓kept_ite, ↓OutKept_ite, ↓OutKept_next, ↓OutKept_fault, ↓OutKept_refused, ite_self, implies_true]
theorem State.setBank_kept (s : State) (n b : Nat) (v : DmcBank) : (State.setBank s n b v).kept = s.kept := by
  simp only [State.setBank, ↓State.setDmc_kept, ↓State.kept_mk, ↓State.kept_fold, ↓each_kept, ↓foldl_kept,
    ↓when_kept, ↓kept_ite, ↓OutKept_ite, ↓OutKept_next, ↓OutKept_fault, ↓OutKept_refused, ite_self, implies_true]
theorem State.readLine_kept (s : State) (n : Nat) (p : Packet) (pos : Nat) (d : Option Line) : (State.readLine s n p pos d).kept = s.kept := by
  unfold State.readLine; dsimp only; (repeat' split) <;> simp (maxDischargeDepth := 9) only [↓State.answerFrom_kept,
    ↓State.count_kept, ↓State.setDmc_kept, ↓State.kept_mk, ↓State.kept_fold, ↓each_kept, ↓foldl_kept, ↓when_kept,
    ↓kept_ite, ↓OutKept_ite, ↓OutKept_next, ↓OutKept_fault, ↓OutKept_refused, ite_self, implies_true]
theorem State.settleWrites_kept (s : State) (n : Nat) : (State.settleWrites s n).kept = s.kept := by
  unfold State.settleWrites; dsimp only; (repeat' split) <;> simp (maxDischargeDepth := 9) only
    [↓State.answerFrom_kept, ↓State.setDmc_kept, ↓State.write_kept, ↓State.kept_mk, ↓State.kept_fold, ↓each_kept,
    ↓foldl_kept, ↓when_kept, ↓kept_ite, ↓OutKept_ite, ↓OutKept_next, ↓OutKept_fault, ↓OutKept_refused, ite_self,
    implies_true]
theorem State.settleRegions_kept (s : State) (n : Nat) : (State.settleRegions s n).kept = s.kept := by
  simp only [State.settleRegions, ↓State.fresh_kept, ↓State.put_kept, ↓State.setMpe_kept, ↓State.setRgn_kept,
    ↓State.setRgnState_kept, ↓State.writeBackAll_kept, ↓State.kept_mk, ↓State.kept_fold, ↓each_kept, ↓foldl_kept,
    ↓when_kept, ↓kept_ite, ↓OutKept_ite, ↓OutKept_next, ↓OutKept_fault, ↓OutKept_refused, ite_self, implies_true]
theorem State.countFixed_kept (s : State) (n k : Nat) : (State.countFixed s n k).kept = s.kept := by
  simp only [State.countFixed, ↓State.add_kept, ↓State.raise_kept, ↓State.setDmc_kept, ↓State.kept_mk,
    ↓State.kept_fold, ↓each_kept, ↓foldl_kept, ↓when_kept, ↓kept_ite, ↓OutKept_ite, ↓OutKept_next, ↓OutKept_fault,
    ↓OutKept_refused, ite_self, implies_true]
theorem State.logLine_kept (s : State) (n l : Nat) (r : LineRead) : (State.logLine s n l r).kept = s.kept := by
  simp only [State.logLine, ↓State.count_kept, ↓State.countFixed_kept, ↓State.put_kept, ↓State.raise_kept,
    ↓State.kept_mk, ↓State.kept_fold, ↓each_kept, ↓foldl_kept, ↓when_kept, ↓kept_ite, ↓OutKept_ite, ↓OutKept_next,
    ↓OutKept_fault, ↓OutKept_refused, ite_self, implies_true]
theorem State.writeBack_kept (s : State) (n l : Nat) (rgn : Option Nat) (r : LineRead) : (State.writeBack s n l rgn r).kept = s.kept := by
  simp only [State.writeBack, ↓State.setDmc_kept, ↓State.storeLine_kept, ↓State.kept_mk, ↓State.kept_fold,
    ↓each_kept, ↓foldl_kept, ↓when_kept, ↓kept_ite, ↓OutKept_ite, ↓OutKept_next, ↓OutKept_fault, ↓OutKept_refused,
    ite_self, implies_true]
theorem State.plainOf_kept (s : State) (n l : Nat) (rgn : Option Nat) (c : LineCtr) (d : Line) :
    (s.plainOf n l rgn c d).2.kept = s.kept := by
  unfold State.plainOf
  cases rgn with
  | none => rfl
  | some r =>
    dsimp only
    split_ifs <;> simp only [State.mpeEvent_kept, State.count_kept]
theorem State.forwardTo_kept (s : State) (n : Nat) (e : DmcEntry) : (State.forwardTo s n e).kept = s.kept := by
  unfold State.forwardTo
  dsimp only
  repeat' with_reducible first
    | rfl
    | refine (Machine.each_kept _ _ _ fun _ _ => ?_).trans ?_
    | split
  all_goals
    simp (maxDischargeDepth := 9) only [↓State.readLine_kept, ↓State.setDmc_kept, ↓State.kept_mk, ↓State.kept_fold,
      ↓each_kept, ↓foldl_kept, ↓when_kept, ↓kept_ite, ↓OutKept_ite, ↓OutKept_next, ↓OutKept_fault, ↓OutKept_refused,
      ite_self, implies_true]
theorem State.dropWrite_kept (s : State) (n : Nat) (p : Packet) : (State.dropWrite s n p).kept = s.kept := by
  simp only [State.dropWrite, ↓State.markLost_kept, ↓State.kept_mk, ↓State.kept_fold, ↓each_kept, ↓foldl_kept,
    ↓when_kept, ↓kept_ite, ↓OutKept_ite, ↓OutKept_next, ↓OutKept_fault, ↓OutKept_refused, ite_self, implies_true]
theorem State.refuseAccess_kept (s : State) (n l : Nat) (p : Packet) : (State.refuseAccess s n l p).kept = s.kept := by
  simp only [State.refuseAccess, ↓State.answerFrom_kept, ↓State.count_kept, ↓State.dropWrite_kept,
    ↓State.mpeEvent_kept, ↓State.kept_mk, ↓State.kept_fold, ↓each_kept, ↓foldl_kept, ↓when_kept, ↓kept_ite,
    ↓OutKept_ite, ↓OutKept_next, ↓OutKept_fault, ↓OutKept_refused, ite_self, implies_true]
theorem State.refuseWrite_kept (s : State) (n l r : Nat) (p : Packet) : (State.refuseWrite s n l r p).kept = s.kept := by
  simp only [State.refuseWrite, ↓State.answerFrom_kept, ↓State.count_kept, ↓State.dropWrite_kept,
    ↓State.mpeEvent_kept, ↓State.kept_mk, ↓State.kept_fold, ↓each_kept, ↓foldl_kept, ↓when_kept, ↓kept_ite,
    ↓OutKept_ite, ↓OutKept_next, ↓OutKept_fault, ↓OutKept_refused, ite_self, implies_true]
theorem State.takeFromPort_kept (s : State) (n : Nat) (p : Packet) : (State.takeFromPort s n p).kept = s.kept := by
  simp only [State.takeFromPort, ↓State.setPort_kept, ↓State.kept_mk, ↓State.kept_fold, ↓each_kept, ↓foldl_kept,
    ↓when_kept, ↓kept_ite, ↓OutKept_ite, ↓OutKept_next, ↓OutKept_fault, ↓OutKept_refused, ite_self, implies_true]
theorem State.acceptRead_kept (s : State) (n l k : Nat) (rgn : Option Nat) (p : Packet) : (State.acceptRead s n l k rgn p).kept = s.kept := by
  unfold State.acceptRead
  dsimp only
  repeat' with_reducible first
    | rfl
    | refine (Machine.each_kept _ _ _ fun _ _ => ?_).trans ?_
    | split
  all_goals
    simp (maxDischargeDepth := 9) only [↓State.count_kept, ↓State.readLine_kept, ↓State.setDmc_kept,
      ↓State.write_kept, ↓State.writeBack_kept, ↓State.kept_mk, ↓State.kept_fold, ↓each_kept, ↓foldl_kept, ↓when_kept,
      ↓kept_ite, ↓OutKept_ite, ↓OutKept_next, ↓OutKept_fault, ↓OutKept_refused, ite_self, implies_true]
theorem State.acceptLine_kept (s : State) (n l : Nat) (rgn : Option Nat) (p : Packet) (d : Line) (be : BitVec 64) : (State.acceptLine s n l rgn p d be).kept = s.kept := by
  unfold State.acceptLine; dsimp only; (repeat' split) <;> simp (maxDischargeDepth := 9) only
    [↓State.countLine_kept, ↓State.setDmc_kept, ↓State.write_kept, ↓State.writeBack_kept, ↓State.kept_mk,
    ↓State.kept_fold, ↓each_kept, ↓foldl_kept, ↓when_kept, ↓kept_ite, ↓OutKept_ite, ↓OutKept_next, ↓OutKept_fault,
    ↓OutKept_refused, ite_self, implies_true]
theorem State.acceptWrite_kept (s : State) (n l k : Nat) (rgn : Option Nat) (p : Packet) : (State.acceptWrite s n l k rgn p).kept = s.kept := by
  simp only [State.acceptWrite, ↓State.acceptLine_kept, ↓State.setDmc_kept, ↓State.settleWrites_kept,
    ↓State.kept_mk, ↓State.kept_fold, ↓each_kept, ↓foldl_kept, ↓when_kept, ↓kept_ite, ↓OutKept_ite, ↓OutKept_next,
    ↓OutKept_fault, ↓OutKept_refused, ite_self, implies_true]
theorem State.protectedAccess_kept (s : State) (n r l k : Nat) (p : Packet) : (State.protectedAccess s n r l k p).kept = s.kept := by
  simp only [State.protectedAccess, ↓State.acceptRead_kept, ↓State.acceptWrite_kept, ↓State.answerFrom_kept,
    ↓State.checkRoot_kept, ↓State.count_kept, ↓State.exhaust_kept, ↓State.refuseWrite_kept, ↓State.setRgn_kept,
    ↓State.settleFlushes_kept, ↓State.takeFromPort_kept, ↓State.write_kept, ↓State.kept_mk, ↓State.kept_fold,
    ↓each_kept, ↓foldl_kept, ↓when_kept, ↓kept_ite, ↓OutKept_ite, ↓OutKept_next, ↓OutKept_fault, ↓OutKept_refused,
    ite_self, implies_true]
theorem State.dramAccept_kept (s : State) (n : Nat) (p : Packet) : (State.dramAccept s n p).kept = s.kept := by
  unfold State.dramAccept; (repeat' split) <;> simp (maxDischargeDepth := 9) only [↓State.acceptRead_kept,
    ↓State.acceptWrite_kept, ↓State.protectedAccess_kept, ↓State.refuseAccess_kept, ↓State.settleFlushes_kept,
    ↓State.takeFromPort_kept, ↓State.write_kept, ↓State.kept_mk, ↓State.kept_fold, ↓each_kept, ↓foldl_kept,
    ↓when_kept, ↓kept_ite, ↓OutKept_ite, ↓OutKept_next, ↓OutKept_fault, ↓OutKept_refused, ite_self, implies_true]
theorem State.columnWrite_kept (s : State) (n : Nat) (e : DmcEntry) : (State.columnWrite s n e).kept = s.kept := by
  unfold State.columnWrite; (repeat' split) <;> simp (maxDischargeDepth := 9) only [↓State.setRgn_kept,
    ↓State.storeLine_kept, ↓State.write_kept, ↓State.writeBack_kept, ↓State.kept_mk, ↓State.kept_fold, ↓each_kept,
    ↓foldl_kept, ↓when_kept, ↓kept_ite, ↓OutKept_ite, ↓OutKept_next, ↓OutKept_fault, ↓OutKept_refused, ite_self,
    implies_true]
theorem State.dropEntry_kept (s : State) (n : Nat) (e : DmcEntry) : (State.dropEntry s n e).kept = s.kept := by
  simp only [State.dropEntry, ↓State.setDmc_kept, ↓State.settleRegions_kept, ↓State.kept_mk, ↓State.kept_fold,
    ↓each_kept, ↓foldl_kept, ↓when_kept, ↓kept_ite, ↓OutKept_ite, ↓OutKept_next, ↓OutKept_fault, ↓OutKept_refused,
    ite_self, implies_true]
theorem State.mergeLine_kept (s : State) (n : Nat) (e : DmcEntry) (raw : DramLine) (r : LineRead) : (State.mergeLine s n e raw r).kept = s.kept := by
  unfold State.mergeLine; dsimp only; (repeat' split) <;> simp (maxDischargeDepth := 9) only [↓State.count_kept,
    ↓State.dropEntry_kept, ↓State.dropWrite_kept, ↓State.forwardTo_kept, ↓State.plainOf_kept, ↓State.raise_kept,
    ↓State.refuseWrite_kept, ↓State.setDmc_kept, ↓State.settleFlushes_kept, ↓State.settleWrites_kept,
    ↓State.write_kept, ↓State.kept_mk, ↓State.kept_fold, ↓each_kept, ↓foldl_kept, ↓when_kept, ↓kept_ite,
    ↓OutKept_ite, ↓OutKept_next, ↓OutKept_fault, ↓OutKept_refused, ite_self, implies_true]
theorem State.writeWaiting_kept (s : State) (n : Nat) (e : DmcEntry) : (State.writeWaiting s n e).kept = s.kept := by
  unfold State.writeWaiting; (repeat' split) <;> simp (maxDischargeDepth := 9) only [↓State.columnWrite_kept,
    ↓State.dropEntry_kept, ↓State.kept_mk, ↓State.kept_fold, ↓each_kept, ↓foldl_kept, ↓when_kept, ↓kept_ite,
    ↓OutKept_ite, ↓OutKept_next, ↓OutKept_fault, ↓OutKept_refused, ite_self, implies_true]
theorem State.drainWrite_kept (s : State) (n : Nat) (e : DmcEntry) : (s.drainWrite n e).kept = s.kept := by
  have one (t : State) (f : DmcEntry) : ((t.columnWrite n f).dropEntry n f).kept = t.kept :=
    (State.dropEntry_kept ..).trans (State.columnWrite_kept ..)
  unfold State.drainWrite
  split
  · exact (State.writeWaiting_kept ..).trans
      ((State.mergeLine_kept ..).trans ((State.logLine_kept ..).trans (State.rawLine_kept ..)))
  all_goals exact one ..
theorem State.drainWrites_kept (s : State) (n : Nat) : (State.drainWrites s n).kept = s.kept := by
  simp only [State.drainWrites, ↓State.drainWrite_kept, ↓State.kept_mk, ↓State.kept_fold, ↓each_kept, ↓foldl_kept,
    ↓when_kept, ↓kept_ite, ↓OutKept_ite, ↓OutKept_next, ↓OutKept_fault, ↓OutKept_refused, ite_self, implies_true]
theorem State.dmcReady_kept (s : State) (n : Nat) : (State.dmcReady s n).kept = s.kept := by
  simp only [State.dmcReady, ↓State.openPort_kept, ↓State.put_kept, ↓State.setDmc_kept, ↓State.kept_mk,
    ↓State.kept_fold, ↓each_kept, ↓foldl_kept, ↓when_kept, ↓kept_ite, ↓OutKept_ite, ↓OutKept_next, ↓OutKept_fault,
    ↓OutKept_refused, ite_self, implies_true]
theorem State.dmcOff_kept (s : State) (n : Nat) : (State.dmcOff s n).kept = s.kept := by
  simp only [State.dmcOff, ↓State.put_kept, ↓State.setDmc_kept, ↓State.kept_mk, ↓State.kept_fold, ↓each_kept,
    ↓foldl_kept, ↓when_kept, ↓kept_ite, ↓OutKept_ite, ↓OutKept_next, ↓OutKept_fault, ↓OutKept_refused, ite_self,
    implies_true]
theorem State.loseTraining_kept (s : State) (n : Nat) : (State.loseTraining s n).kept = s.kept := by
  simp only [State.loseTraining, ↓State.loseLines_kept, ↓State.setMpe_kept, ↓State.kept_mk, ↓State.kept_fold,
    ↓each_kept, ↓foldl_kept, ↓when_kept, ↓kept_ite, ↓OutKept_ite, ↓OutKept_next, ↓OutKept_fault, ↓OutKept_refused,
    ite_self, implies_true]
theorem State.dmcClosed_kept (s : State) (n : Nat) : (State.dmcClosed s n).kept = s.kept := by
  simp only [State.dmcClosed, ↓State.dmcOff_kept, ↓State.drainWrites_kept, ↓State.put_kept, ↓State.setDmc_kept,
    ↓State.writeBackAll_kept, ↓State.kept_mk, ↓State.kept_fold, ↓each_kept, ↓foldl_kept, ↓when_kept, ↓kept_ite,
    ↓OutKept_ite, ↓OutKept_next, ↓OutKept_fault, ↓OutKept_refused, ite_self, implies_true]
theorem State.dmcForce_kept (s : State) (n : Nat) : (State.dmcForce s n).kept = s.kept := by
  simp only [State.dmcForce, ↓State.answerClosed_kept, ↓State.setDmc_kept, ↓State.kept_mk, ↓State.kept_fold,
    ↓each_kept, ↓foldl_kept, ↓when_kept, ↓kept_ite, ↓OutKept_ite, ↓OutKept_next, ↓OutKept_fault, ↓OutKept_refused,
    ite_self, implies_true]
theorem State.iniLast_kept (s : State) (i : IniPort) (status tag dest addr : Nat) : (State.iniLast s i status tag dest addr).kept = s.kept := by
  simp only [State.iniLast, ↓State.put_kept, ↓State.kept_mk, ↓State.kept_fold, ↓each_kept, ↓foldl_kept, ↓when_kept,
    ↓kept_ite, ↓OutKept_ite, ↓OutKept_next, ↓OutKept_fault, ↓OutKept_refused, ite_self, implies_true]
theorem State.handOver_kept (s : State) (i : IniPort) (op : BitVec 4) (addr : Nat) (p : Packet) : (State.handOver s i op addr p).kept = s.kept := by
  unfold State.handOver; (repeat' split) <;> simp (maxDischargeDepth := 9) only [↓State.coreFault_kept,
    ↓State.hostAnswer_kept, ↓State.setIni_kept, ↓State.kept_mk, ↓State.kept_fold, ↓each_kept, ↓foldl_kept,
    ↓when_kept, ↓kept_ite, ↓OutKept_ite, ↓OutKept_next, ↓OutKept_fault, ↓OutKept_refused, ite_self, implies_true]
theorem State.ownResponse_kept (s : State) (i : IniPort) (op : BitVec 4) (tag : BitVec 12) (status code dest addr : Nat) : (State.ownResponse s i op tag status code dest addr).kept = s.kept := by
  simp only [State.ownResponse, ↓State.handOver_kept, ↓State.iniLast_kept, ↓State.kept_mk, ↓State.kept_fold,
    ↓each_kept, ↓foldl_kept, ↓when_kept, ↓kept_ite, ↓OutKept_ite, ↓OutKept_next, ↓OutKept_fault, ↓OutKept_refused,
    ite_self, implies_true]
theorem State.refuseRequest_kept (s : State) (i : IniPort) (r : NocReq) : (s.refuseRequest i r).kept = s.kept := by
  unfold State.refuseRequest
  dsimp only
  split_ifs
  · split <;> simp only [State.busError_kept, State.dispatchDropped_kept, State.count_kept, State.raise_kept]
  · rw [State.ownResponse_kept, State.fresh_kept, State.raise_kept]
theorem State.issue_kept (s : State) (i : IniPort) (r : NocReq) : (State.issue s i r).kept = s.kept := by
  unfold State.issue; (repeat' split) <;> simp (maxDischargeDepth := 9) only [↓State.refuseRequest_kept,
    ↓State.send_kept, ↓State.sendPosted_kept, ↓State.setIni_kept, ↓State.kept_mk, ↓State.kept_fold, ↓each_kept,
    ↓foldl_kept, ↓when_kept, ↓kept_ite, ↓OutKept_ite, ↓OutKept_next, ↓OutKept_fault, ↓OutKept_refused, ite_self,
    implies_true]
theorem State.sendPieces_kept (s : State) : (State.sendPieces s).kept = s.kept := by
  unfold State.sendPieces
  dsimp only
  repeat' with_reducible first
    | rfl
    | refine (Machine.each_kept _ _ _ fun _ _ => ?_).trans ?_
    | split
  all_goals
    simp (maxDischargeDepth := 9) only [↓State.issue_kept, ↓State.kept_mk, ↓State.kept_fold, ↓each_kept, ↓foldl_kept,
      ↓when_kept, ↓kept_ite, ↓OutKept_ite, ↓OutKept_next, ↓OutKept_fault, ↓OutKept_refused, ite_self, implies_true]
theorem State.setInj_kept (s : State) (i o : Nat) (v : Injector) : (State.setInj s i o v).kept = s.kept := by
  simp only [State.setInj, ↓State.kept_mk, ↓State.kept_fold, ↓each_kept, ↓foldl_kept, ↓when_kept, ↓kept_ite,
    ↓OutKept_ite, ↓OutKept_next, ↓OutKept_fault, ↓OutKept_refused, ite_self, implies_true]
theorem State.writeFi_kept (s : State) (i o : Nat) (v : Word) : (State.writeFi s i o v).kept = s.kept := by
  simp only [State.writeFi, ↓State.put_kept, ↓State.setInj_kept, ↓State.write_kept, ↓State.kept_mk,
    ↓State.kept_fold, ↓each_kept, ↓foldl_kept, ↓when_kept, ↓kept_ite, ↓OutKept_ite, ↓OutKept_next, ↓OutKept_fault,
    ↓OutKept_refused, ite_self, implies_true]
theorem State.writeRtr_kept (s : State) (i : Nat) (v : Word) : (State.writeRtr s i v).kept = s.kept := by
  simp only [State.writeRtr, ↓State.put_kept, ↓State.write_kept, ↓State.kept_mk, ↓State.kept_fold, ↓each_kept,
    ↓foldl_kept, ↓when_kept, ↓kept_ite, ↓OutKept_ite, ↓OutKept_next, ↓OutKept_fault, ↓OutKept_refused, ite_self,
    implies_true]
theorem State.startCore_kept (s : State) (c : Nat) : (State.startCore s c).kept = s.kept := by
  simp only [State.startCore, ↓State.setCore_kept, ↓State.kept_mk, ↓State.kept_fold, ↓each_kept, ↓foldl_kept,
    ↓when_kept, ↓kept_ite, ↓OutKept_ite, ↓OutKept_next, ↓OutKept_fault, ↓OutKept_refused, ite_self, implies_true]
theorem State.coreCtrlWrite_kept (s : State) (c : Nat) (v : Word) : (State.coreCtrlWrite s c v).kept = s.kept := by
  simp only [State.coreCtrlWrite, ↓State.setCore_kept, ↓State.startCore_kept, ↓State.write_kept, ↓State.kept_mk,
    ↓State.kept_fold, ↓each_kept, ↓foldl_kept, ↓when_kept, ↓kept_ite, ↓OutKept_ite, ↓OutKept_next, ↓OutKept_fault,
    ↓OutKept_refused, ite_self, implies_true]
theorem execCoreRun_kept (c : Fin 8) (v : Word) (s : State) : OutKept s (execCoreRun c v s) := by
  simp only [execCoreRun, ↓State.coreCtrlWrite_kept, ↓State.kept_mk, ↓State.kept_fold, ↓each_kept, ↓foldl_kept,
    ↓when_kept, ↓kept_ite, ↓OutKept_ite, ↓OutKept_next, ↓OutKept_fault, ↓OutKept_refused, ite_self, implies_true]
theorem execCoreStop_kept (c : Fin 8) (v : Word) (s : State) : OutKept s (execCoreStop c v s) := by
  simp only [execCoreStop, ↓State.coreCtrlWrite_kept, ↓State.kept_mk, ↓State.kept_fold, ↓each_kept, ↓foldl_kept,
    ↓when_kept, ↓kept_ite, ↓OutKept_ite, ↓OutKept_next, ↓OutKept_fault, ↓OutKept_refused, ite_self, implies_true]
theorem execFenceInstruction_kept (c : Fin 8) (deviceOut : Bool) (status : BitVec 4) (s : State) : OutKept s (execFenceInstruction c deviceOut status s) := by
  simp only [execFenceInstruction, ↓State.busError_kept, ↓State.fresh_kept, ↓State.setCore_kept, ↓State.kept_mk,
    ↓State.kept_fold, ↓each_kept, ↓foldl_kept, ↓when_kept, ↓kept_ite, ↓OutKept_ite, ↓OutKept_next, ↓OutKept_fault,
    ↓OutKept_refused, ite_self, implies_true]
theorem execFastTrap_kept (c : Fin 8) (s : State) : OutKept s (execFastTrap c s) := by
  simp only [execFastTrap, ↓State.setCore_kept, ↓State.kept_mk, ↓State.kept_fold, ↓each_kept, ↓foldl_kept,
    ↓when_kept, ↓kept_ite, ↓OutKept_ite, ↓OutKept_next, ↓OutKept_fault, ↓OutKept_refused, ite_self, implies_true]
theorem execMret_kept (c : Fin 8) (s : State) : OutKept s (execMret c s) := by
  simp only [execMret, ↓State.fresh_kept, ↓State.setCore_kept, ↓State.kept_mk, ↓State.kept_fold, ↓each_kept,
    ↓foldl_kept, ↓when_kept, ↓kept_ite, ↓OutKept_ite, ↓OutKept_next, ↓OutKept_fault, ↓OutKept_refused, ite_self,
    implies_true]
theorem State.coreClosing_kept (s : State) (c : Nat) : (State.coreClosing s c).kept = s.kept := by
  simp only [State.coreClosing, ↓State.completeSource_kept, ↓State.returnTasks_kept, ↓State.kept_mk,
    ↓State.kept_fold, ↓each_kept, ↓foldl_kept, ↓when_kept, ↓kept_ite, ↓OutKept_ite, ↓OutKept_next, ↓OutKept_fault,
    ↓OutKept_refused, ite_self, implies_true]
theorem execWfi_kept (c : Fin 8) (s : State) : OutKept s (execWfi c s) := by
  simp only [execWfi, ↓State.coreClosing_kept, ↓State.setCore_kept, ↓State.setDom_kept, ↓State.kept_mk,
    ↓State.kept_fold, ↓each_kept, ↓foldl_kept, ↓when_kept, ↓kept_ite, ↓OutKept_ite, ↓OutKept_next, ↓OutKept_fault,
    ↓OutKept_refused, ite_self, implies_true]
theorem State.freshRegs_kept (s : State) (n : Nat) : (s.freshRegs n).2.kept = s.kept := by
  induction n with
  | zero => rfl
  | succ n ih => exact ((s.freshRegs n).2.fresh_kept 64).trans ih
theorem execCoreWake_kept (c : Fin 8) (s : State) : OutKept s (execCoreWake c s) := by
  unfold execCoreWake
  dsimp only
  repeat' with_reducible first
    | rfl
    | refine (Machine.each_kept _ _ _ fun _ _ => ?_).trans ?_
    | split
  all_goals
    simp (maxDischargeDepth := 9) only [↓State.freshRegs_kept, ↓State.raise_kept, ↓State.setCore_kept,
      ↓State.setDom_kept, ↓State.setWord_kept, ↓State.kept_mk, ↓State.kept_fold, ↓each_kept, ↓foldl_kept, ↓when_kept,
      ↓kept_ite, ↓OutKept_ite, ↓OutKept_next, ↓OutKept_fault, ↓OutKept_refused, ite_self, implies_true]
theorem State.reachSched_kept (s : State) (t : Nat) : (State.reachSched s t).kept = s.kept := by
  simp only [State.reachSched, ↓State.elapse_kept, ↓State.reachTime_kept, ↓State.kept_mk, ↓State.kept_fold,
    ↓each_kept, ↓foldl_kept, ↓when_kept, ↓kept_ite, ↓OutKept_ite, ↓OutKept_next, ↓OutKept_fault, ↓OutKept_refused,
    ite_self, implies_true]
theorem execMachineTimer_kept (c : Fin 8) (s : State) : OutKept s (execMachineTimer c s) := by
  simp only [execMachineTimer, ↓State.reachSched_kept, ↓State.kept_mk, ↓State.kept_fold, ↓each_kept, ↓foldl_kept,
    ↓when_kept, ↓kept_ite, ↓OutKept_ite, ↓OutKept_next, ↓OutKept_fault, ↓OutKept_refused, ite_self, implies_true]
theorem State.l2WriteBack_kept (s : State) (a : Nat) (l : Line) : (State.l2WriteBack s a l).kept = s.kept := by
  simp only [State.l2WriteBack, ↓State.issue_kept, ↓State.kept_mk, ↓State.kept_fold, ↓each_kept, ↓foldl_kept,
    ↓when_kept, ↓kept_ite, ↓OutKept_ite, ↓OutKept_next, ↓OutKept_fault, ↓OutKept_refused, ite_self, implies_true]
theorem State.writeL2Part_kept (s : State) (v : Word) : (State.writeL2Part s v).kept = s.kept := by
  simp only [State.writeL2Part, ↓State.fresh_kept, ↓State.l2WriteBack_kept, ↓State.write_kept, ↓State.kept_mk,
    ↓State.kept_fold, ↓each_kept, ↓foldl_kept, ↓when_kept, ↓kept_ite, ↓OutKept_ite, ↓OutKept_next, ↓OutKept_fault,
    ↓OutKept_refused, ite_self, implies_true]
theorem execL2PartitionWrite_kept (v : Word) (s : State) : OutKept s (execL2PartitionWrite v s) := by
  simp only [execL2PartitionWrite, ↓State.writeL2Part_kept, ↓State.kept_mk, ↓State.kept_fold, ↓each_kept,
    ↓foldl_kept, ↓when_kept, ↓kept_ite, ↓OutKept_ite, ↓OutKept_next, ↓OutKept_fault, ↓OutKept_refused, ite_self,
    implies_true]
theorem State.writeL2Maint_kept (s : State) (v : Word) : (State.writeL2Maint s v).kept = s.kept := by
  simp only [State.writeL2Maint, ↓State.l2WriteBack_kept, ↓State.put_kept, ↓State.write_kept, ↓State.kept_mk,
    ↓State.kept_fold, ↓each_kept, ↓foldl_kept, ↓when_kept, ↓kept_ite, ↓OutKept_ite, ↓OutKept_next, ↓OutKept_fault,
    ↓OutKept_refused, ite_self, implies_true]
theorem execL2Maint_kept (v : Word) (s : State) : OutKept s (execL2Maint v s) := by
  simp only [execL2Maint, ↓State.writeL2Maint_kept, ↓State.kept_mk, ↓State.kept_fold, ↓each_kept, ↓foldl_kept,
    ↓when_kept, ↓kept_ite, ↓OutKept_ite, ↓OutKept_next, ↓OutKept_fault, ↓OutKept_refused, ite_self, implies_true]
theorem execL2MaintComplete_kept (s : State) : OutKept s (execL2MaintComplete s) := by
  simp only [execL2MaintComplete, ↓State.put_kept, ↓State.kept_mk, ↓State.kept_fold, ↓each_kept, ↓foldl_kept,
    ↓when_kept, ↓kept_ite, ↓OutKept_ite, ↓OutKept_next, ↓OutKept_fault, ↓OutKept_refused, ite_self, implies_true]
theorem State.sourceRise_kept (s : State) (n : Nat) : (State.sourceRise s n).kept = s.kept := by
  simp only [State.sourceRise, ↓State.count_kept, ↓State.put_kept, ↓State.kept_mk, ↓State.kept_fold, ↓each_kept,
    ↓foldl_kept, ↓when_kept, ↓kept_ite, ↓OutKept_ite, ↓OutKept_next, ↓OutKept_fault, ↓OutKept_refused, ite_self,
    implies_true]
theorem State.sourceHigh_kept (s : State) (n : Nat) : (State.sourceHigh s n).kept = s.kept := by
  simp only [State.sourceHigh, ↓State.put_kept, ↓State.kept_mk, ↓State.kept_fold, ↓each_kept, ↓foldl_kept,
    ↓when_kept, ↓kept_ite, ↓OutKept_ite, ↓OutKept_next, ↓OutKept_fault, ↓OutKept_refused, ite_self, implies_true]
theorem State.setSourceLine_kept (s : State) (n : Nat) (b : Bool) : (State.setSourceLine s n b).kept = s.kept := by
  simp only [State.setSourceLine, ↓State.kept_mk, ↓State.kept_fold, ↓each_kept, ↓foldl_kept, ↓when_kept, ↓kept_ite,
    ↓OutKept_ite, ↓OutKept_next, ↓OutKept_fault, ↓OutKept_refused, ite_self, implies_true]
theorem execSourceEdge_kept (src : Fin 1024) (s : State) : OutKept s (execSourceEdge src s) := by
  simp only [execSourceEdge, ↓State.setSourceLine_kept, ↓State.sourceRise_kept, ↓State.kept_mk, ↓State.kept_fold,
    ↓each_kept, ↓foldl_kept, ↓when_kept, ↓kept_ite, ↓OutKept_ite, ↓OutKept_next, ↓OutKept_fault, ↓OutKept_refused,
    ite_self, implies_true]
theorem execSourceLevel_kept (src : Fin 1024) (asserted : Bool) (s : State) : OutKept s (execSourceLevel src asserted s) := by
  simp only [execSourceLevel, ↓State.setSourceLine_kept, ↓State.sourceHigh_kept, ↓State.kept_mk, ↓State.kept_fold,
    ↓each_kept, ↓foldl_kept, ↓when_kept, ↓kept_ite, ↓OutKept_ite, ↓OutKept_next, ↓OutKept_fault, ↓OutKept_refused,
    ite_self, implies_true]
theorem State.writeSwi_kept (s : State) (v : Word) : (State.writeSwi s v).kept = s.kept := by
  simp only [State.writeSwi, ↓State.sourceHigh_kept, ↓State.sourceRise_kept, ↓State.kept_mk, ↓State.kept_fold,
    ↓each_kept, ↓foldl_kept, ↓when_kept, ↓kept_ite, ↓OutKept_ite, ↓OutKept_next, ↓OutKept_fault, ↓OutKept_refused,
    ite_self, implies_true]
theorem execSwi_kept (v : Word) (s : State) : OutKept s (execSwi v s) := by
  simp only [execSwi, ↓State.writeSwi_kept, ↓State.kept_mk, ↓State.kept_fold, ↓each_kept, ↓foldl_kept, ↓when_kept,
    ↓kept_ite, ↓OutKept_ite, ↓OutKept_next, ↓OutKept_fault, ↓OutKept_refused, ite_self, implies_true]
theorem State.claim_kept (s : State) (c : Nat) (fast : Bool) (r : Nat) : (State.claim s c fast r).kept = s.kept := by
  unfold State.claim; (repeat' split) <;> simp (maxDischargeDepth := 9) only [↓State.answerWord_kept,
    ↓State.count_kept, ↓State.put_kept, ↓State.setWord_kept, ↓State.kept_mk, ↓State.kept_fold, ↓each_kept,
    ↓foldl_kept, ↓when_kept, ↓kept_ite, ↓OutKept_ite, ↓OutKept_next, ↓OutKept_fault, ↓OutKept_refused, ite_self,
    implies_true]
theorem execClaimNormal_kept (c : Fin 8) (s : State) : OutKept s (execClaimNormal c s) := by
  simp only [execClaimNormal, ↓State.claim_kept, ↓State.kept_mk, ↓State.kept_fold, ↓each_kept, ↓foldl_kept,
    ↓when_kept, ↓kept_ite, ↓OutKept_ite, ↓OutKept_next, ↓OutKept_fault, ↓OutKept_refused, ite_self, implies_true]
theorem execClaimFast_kept (c : Fin 8) (s : State) : OutKept s (execClaimFast c s) := by
  simp only [execClaimFast, ↓State.claim_kept, ↓State.kept_mk, ↓State.kept_fold, ↓each_kept, ↓foldl_kept,
    ↓when_kept, ↓kept_ite, ↓OutKept_ite, ↓OutKept_next, ↓OutKept_fault, ↓OutKept_refused, ite_self, implies_true]
theorem State.writeComplete_kept (s : State) (c : Fin 8) (v : Word) : (State.writeComplete s c v).kept = s.kept := by
  simp only [State.writeComplete, ↓State.completeSource_kept, ↓State.count_kept, ↓State.raise_kept, ↓State.kept_mk,
    ↓State.kept_fold, ↓each_kept, ↓foldl_kept, ↓when_kept, ↓kept_ite, ↓OutKept_ite, ↓OutKept_next, ↓OutKept_fault,
    ↓OutKept_refused, ite_self, implies_true]
theorem execIcComplete_kept (c : Fin 8) (v : Word) (s : State) : OutKept s (execIcComplete c v s) := by
  simp only [execIcComplete, ↓State.writeComplete_kept, ↓State.kept_mk, ↓State.kept_fold, ↓each_kept, ↓foldl_kept,
    ↓when_kept, ↓kept_ite, ↓OutKept_ite, ↓OutKept_next, ↓OutKept_fault, ↓OutKept_refused, ite_self, implies_true]
theorem State.writePend_kept (s : State) (r : Fin 32) (v : Word) (hwSet : Word) : (State.writePend s r v hwSet).kept = s.kept := by
  simp only [State.writePend, ↓State.put_kept, ↓State.sourceHigh_kept, ↓State.kept_mk, ↓State.kept_fold, ↓each_kept,
    ↓foldl_kept, ↓when_kept, ↓kept_ite, ↓OutKept_ite, ↓OutKept_next, ↓OutKept_fault, ↓OutKept_refused, ite_self,
    implies_true]
theorem execPendWrite_kept (r : Fin 32) (v : Word) (hwSet : Word) (s : State) : OutKept s (execPendWrite r v hwSet s) := by
  simp only [execPendWrite, ↓State.writePend_kept, ↓State.kept_mk, ↓State.kept_fold, ↓each_kept, ↓foldl_kept,
    ↓when_kept, ↓kept_ite, ↓OutKept_ite, ↓OutKept_next, ↓OutKept_fault, ↓OutKept_refused, ite_self, implies_true]
theorem State.healValid_kept (s : State) (m : MemRef) (w : Nat) (masked : Bool) : (State.healValid s m w masked).kept = s.kept := by
  simp only [State.healValid, ↓State.correctedError_kept, ↓State.fresh_kept, ↓State.setValid_kept, ↓State.kept_mk,
    ↓State.kept_fold, ↓each_kept, ↓foldl_kept, ↓when_kept, ↓kept_ite, ↓OutKept_ite, ↓OutKept_next, ↓OutKept_fault,
    ↓OutKept_refused, ite_self, implies_true]
theorem State.readWord_kept (s : State) (m : MemRef) (portB ecc : Bool) (w : Nat) (masked : Bool) :
    (s.readWord m portB ecc w masked).2.kept = s.kept := by
  unfold State.readWord
  dsimp only
  split_ifs <;> (try split) <;> simp only [State.healValid_kept, State.uncorrectable_kept, State.correctedError_kept]
theorem State.injection_kept (s : State) (m : MemRef) : (s.injection m).2.kept = s.kept := by
  unfold State.injection
  dsimp only
  split_ifs <;> simp only [State.put_kept]
theorem State.writeCoded_kept (s : State) (m : MemRef) (w d : Nat) (full : Bool) : (s.writeCoded m w d full).kept = s.kept := by
  exact (State.setValid_kept ..).trans ((State.storeWord_kept ..).trans (s.injection_kept m))
theorem State.spoilWord_kept (s : State) (m : MemRef) (w : Nat) : (State.spoilWord s m w).kept = s.kept := by
  simp only [State.spoilWord, ↓State.fresh_kept, ↓State.setValid_kept, ↓State.storeWord_kept, ↓State.kept_mk,
    ↓State.kept_fold, ↓each_kept, ↓foldl_kept, ↓when_kept, ↓kept_ite, ↓OutKept_ite, ↓OutKept_next, ↓OutKept_fault,
    ↓OutKept_refused, ite_self, implies_true]
theorem State.showPort_kept (s : State) (m : MemRef) (portB : Bool) (v : BitVec 72) (ecor eunc : Bool) : (State.showPort s m portB v ecor eunc).kept = s.kept := by
  simp only [State.showPort, ↓State.kept_mk, ↓State.kept_fold, ↓each_kept, ↓foldl_kept, ↓when_kept, ↓kept_ite,
    ↓OutKept_ite, ↓OutKept_next, ↓OutKept_fault, ↓OutKept_refused, ite_self, implies_true]
theorem State.outputReg_kept (s : State) (m : MemRef) (portB : Bool) (pins : PortPins) : (State.outputReg s m portB pins).kept = s.kept := by
  simp only [State.outputReg, ↓State.kept_mk, ↓State.kept_fold, ↓each_kept, ↓foldl_kept, ↓when_kept, ↓kept_ite,
    ↓OutKept_ite, ↓OutKept_next, ↓OutKept_fault, ↓OutKept_refused, ite_self, implies_true]
theorem State.portRead_kept (s : State) (m : MemRef) (portB : Bool) (cfg : PortCfg) (pins : PortPins) (w j : Nat) : (State.portRead s m portB cfg pins w j).kept = s.kept := by
  simp only [State.portRead, ↓State.fresh_kept, ↓State.readWord_kept, ↓State.showPort_kept, ↓State.kept_mk,
    ↓State.kept_fold, ↓each_kept, ↓foldl_kept, ↓when_kept, ↓kept_ite, ↓OutKept_ite, ↓OutKept_next, ↓OutKept_fault,
    ↓OutKept_refused, ite_self, implies_true]
theorem State.portWrite_kept (s : State) (m : MemRef) (portB : Bool) (cfg : PortCfg) (pins : PortPins) (w j : Nat) : (State.portWrite s m portB cfg pins w j).kept = s.kept := by
  unfold State.portWrite; (repeat' split) <;> simp (maxDischargeDepth := 9) only [↓State.readWord_kept,
    ↓State.showPort_kept, ↓State.spoilWord_kept, ↓State.storeWord_kept, ↓State.writeCoded_kept, ↓State.kept_mk,
    ↓State.kept_fold, ↓each_kept, ↓foldl_kept, ↓when_kept, ↓kept_ite, ↓OutKept_ite, ↓OutKept_next, ↓OutKept_fault,
    ↓OutKept_refused, ite_self, implies_true]
theorem State.portEdge_kept (s : State) (m : MemRef) (portB : Bool) (cfg : PortCfg) (pins : PortPins) : OutKept s (State.portEdge s m portB cfg pins) := by
  simp only [State.portEdge, ↓State.count_kept, ↓State.outputReg_kept, ↓State.portRead_kept, ↓State.portWrite_kept,
    ↓State.kept_mk, ↓State.kept_fold, ↓each_kept, ↓foldl_kept, ↓when_kept, ↓kept_ite, ↓OutKept_ite, ↓OutKept_next,
    ↓OutKept_fault, ↓OutKept_refused, ite_self, implies_true]
theorem execMemoryPortWrite_kept (m : MemRef) (portB : Bool) (cfg : PortCfg) (pins : PortPins) (s : State) : OutKept s (execMemoryPortWrite m portB cfg pins s) := by
  simp only [execMemoryPortWrite, ↓mirrored_kept, ↓State.portEdge_kept, ↓State.kept_mk, ↓State.kept_fold,
    ↓each_kept, ↓foldl_kept, ↓when_kept, ↓kept_ite, ↓OutKept_ite, ↓OutKept_next, ↓OutKept_fault, ↓OutKept_refused,
    ite_self, implies_true]
theorem execMemoryPortRead_kept (m : MemRef) (portB : Bool) (cfg : PortCfg) (pins : PortPins) (s : State) : OutKept s (execMemoryPortRead m portB cfg pins s) := by
  simp only [execMemoryPortRead, ↓mirrored_kept, ↓State.portEdge_kept, ↓State.kept_mk, ↓State.kept_fold, ↓each_kept,
    ↓foldl_kept, ↓when_kept, ↓kept_ite, ↓OutKept_ite, ↓OutKept_next, ↓OutKept_fault, ↓OutKept_refused, ite_self,
    implies_true]
theorem execNarrowWrite_kept (m : MemRef) (portB : Bool) (cfg : PortCfg) (pins : PortPins) (s : State) : OutKept s (execNarrowWrite m portB cfg pins s) := by
  simp only [execNarrowWrite, ↓mirrored_kept, ↓State.portEdge_kept, ↓State.kept_mk, ↓State.kept_fold, ↓each_kept,
    ↓foldl_kept, ↓when_kept, ↓kept_ite, ↓OutKept_ite, ↓OutKept_next, ↓OutKept_fault, ↓OutKept_refused, ite_self,
    implies_true]
theorem execClrv_kept (region : Fin 240) (inst : Fin 6) (s : State) : OutKept s (execClrv region inst s) := by
  simp only [execClrv, ↓State.clearValid_kept, ↓State.count_kept, ↓mirrored_kept, ↓State.kept_mk, ↓State.kept_fold,
    ↓each_kept, ↓foldl_kept, ↓when_kept, ↓kept_ite, ↓OutKept_ite, ↓OutKept_next, ↓OutKept_fault, ↓OutKept_refused,
    ite_self, implies_true]
theorem execLeakPeriod_kept (b : Bucket) (s : State) : OutKept s (execLeakPeriod b s) := by
  simp only [execLeakPeriod, ↓State.put_kept, ↓State.kept_mk, ↓State.kept_fold, ↓each_kept, ↓foldl_kept, ↓when_kept,
    ↓kept_ite, ↓OutKept_ite, ↓OutKept_next, ↓OutKept_fault, ↓OutKept_refused, ite_self, implies_true]
theorem execRolEntryFree_kept (b : Bucket) (e : Fin 8) (v : Word) (s : State) : OutKept s (execRolEntryFree b e v s) := by
  simp only [execRolEntryFree, ↓State.setWord_kept, ↓State.kept_mk, ↓State.kept_fold, ↓each_kept, ↓foldl_kept,
    ↓when_kept, ↓kept_ite, ↓OutKept_ite, ↓OutKept_next, ↓OutKept_fault, ↓OutKept_refused, ite_self, implies_true]
theorem State.copyToSpare_kept (s : State) (m : MemRef) (w k off : Nat) : (State.copyToSpare s m w k off).kept = s.kept := by
  unfold State.copyToSpare; (repeat' split) <;> simp (maxDischargeDepth := 9) only [↓State.put_kept,
    ↓State.setSpare_kept, ↓State.kept_mk, ↓State.kept_fold, ↓each_kept, ↓foldl_kept, ↓when_kept, ↓kept_ite,
    ↓OutKept_ite, ↓OutKept_next, ↓OutKept_fault, ↓OutKept_refused, ite_self, implies_true]
theorem State.remapWrite_kept (s : State) (r : RemapRef) (v : Word) : (State.remapWrite s r v).kept = s.kept := by
  unfold State.remapWrite; (repeat' split) <;> simp (maxDischargeDepth := 9) only [↓State.copyToSpare_kept,
    ↓State.put_kept, ↓State.kept_mk, ↓State.kept_fold, ↓each_kept, ↓foldl_kept, ↓when_kept, ↓kept_ite, ↓OutKept_ite,
    ↓OutKept_next, ↓OutKept_fault, ↓OutKept_refused, ite_self, implies_true]
theorem execRemapEntrySet_kept (r : RemapRef) (v : Word) (s : State) : OutKept s (execRemapEntrySet r v s) := by
  simp only [execRemapEntrySet, ↓State.remapWrite_kept, ↓State.kept_mk, ↓State.kept_fold, ↓each_kept, ↓foldl_kept,
    ↓when_kept, ↓kept_ite, ↓OutKept_ite, ↓OutKept_next, ↓OutKept_fault, ↓OutKept_refused, ite_self, implies_true]
theorem execRemapEntryClear_kept (r : RemapRef) (v : Word) (s : State) : OutKept s (execRemapEntryClear r v s) := by
  simp only [execRemapEntryClear, ↓State.remapWrite_kept, ↓State.kept_mk, ↓State.kept_fold, ↓each_kept, ↓foldl_kept,
    ↓when_kept, ↓kept_ite, ↓OutKept_ite, ↓OutKept_next, ↓OutKept_fault, ↓OutKept_refused, ite_self, implies_true]
theorem State.writeEccInj_kept (s : State) (region : Fin 240) (v : Word) : (State.writeEccInj s region v).kept = s.kept := by
  simp only [State.writeEccInj, ↓State.put_kept, ↓State.write_kept, ↓State.kept_mk, ↓State.kept_fold, ↓each_kept,
    ↓foldl_kept, ↓when_kept, ↓kept_ite, ↓OutKept_ite, ↓OutKept_next, ↓OutKept_fault, ↓OutKept_refused, ite_self,
    implies_true]
theorem execEccInjectArm_kept (region : Fin 240) (v : Word) (s : State) : OutKept s (execEccInjectArm region v s) := by
  simp only [execEccInjectArm, ↓State.writeEccInj_kept, ↓State.kept_mk, ↓State.kept_fold, ↓each_kept, ↓foldl_kept,
    ↓when_kept, ↓kept_ite, ↓OutKept_ite, ↓OutKept_next, ↓OutKept_fault, ↓OutKept_refused, ite_self, implies_true]
theorem State.setCtx_kept (s : State) (n : Nat) (c : StreamCtx) : (State.setCtx s n c).kept = s.kept := by
  simp only [State.setCtx, ↓State.kept_mk, ↓State.kept_fold, ↓each_kept, ↓foldl_kept, ↓when_kept, ↓kept_ite,
    ↓OutKept_ite, ↓OutKept_next, ↓OutKept_fault, ↓OutKept_refused, ite_self, implies_true]
theorem State.setCtxState_kept (s : State) (n v : Nat) : (State.setCtxState s n v).kept = s.kept := by
  simp only [State.setCtxState, ↓State.put_kept, ↓State.kept_mk, ↓State.kept_fold, ↓each_kept, ↓foldl_kept,
    ↓when_kept, ↓kept_ite, ↓OutKept_ite, ↓OutKept_next, ↓OutKept_fault, ↓OutKept_refused, ite_self, implies_true]
theorem State.outBy_kept (s : State) (n : Nat) (d : Int) : (State.outBy s n d).kept = s.kept := by
  simp only [State.outBy, ↓State.put_kept, ↓State.kept_mk, ↓State.kept_fold, ↓each_kept, ↓foldl_kept, ↓when_kept,
    ↓kept_ite, ↓OutKept_ite, ↓OutKept_next, ↓OutKept_fault, ↓OutKept_refused, ite_self, implies_true]
theorem State.ctxWrite_kept (s : State) (n addr : Nat) (bs : List Byte) : (State.ctxWrite s n addr bs).kept = s.kept := by
  simp only [State.ctxWrite, ↓State.issue_kept, ↓State.kept_mk, ↓State.kept_fold, ↓each_kept, ↓foldl_kept,
    ↓when_kept, ↓kept_ite, ↓OutKept_ite, ↓OutKept_next, ↓OutKept_fault, ↓OutKept_refused, ite_self, implies_true]
theorem State.sendRecords_kept (s : State) (n : Nat) (rs : List StreamRec) : (s.sendRecords n rs).1.kept = s.kept := by
  induction rs generalizing s with
  | nil => rfl
  | cons r rs ih =>
    unfold State.sendRecords
    split_ifs
    · exact ih s
    · exact (ih _).trans (State.ctxWrite_kept ..)
    · rfl
theorem State.pushRecords_kept (s : State) (n : Nat) : (s.pushRecords n).kept = s.kept := by
  exact (State.setCtx_kept ..).trans (s.sendRecords_kept n _)
theorem State.addRecord_kept (s : State) (n pos status detail bytes : Nat) (cookie : BitVec 64) (noIrq : Bool) : (State.addRecord s n pos status detail bytes cookie noIrq).kept = s.kept := by
  simp only [State.addRecord, ↓State.mirror_kept, ↓State.setCtx_kept, ↓State.kept_mk, ↓State.kept_fold, ↓each_kept,
    ↓foldl_kept, ↓when_kept, ↓kept_ite, ↓OutKept_ite, ↓OutKept_next, ↓OutKept_fault, ↓OutKept_refused, ite_self,
    implies_true]
theorem State.finish_kept (s : State) (n k : Nat) : (s.finish n k).kept = s.kept := by
  induction k generalizing s with
  | zero => rfl
  | succ k ih =>
    unfold State.finish
    repeat' split
    all_goals first
      | rfl
      | (dsimp only; rw [ih, State.addRecord_kept, State.count_kept, State.setCtx_kept])
theorem State.showCtx_kept (s : State) (n : Nat) : (State.showCtx s n).kept = s.kept := by
  simp only [State.showCtx, ↓State.put_kept, ↓State.raise_kept, ↓State.setCtx_kept, ↓State.setCtxState_kept,
    ↓State.kept_mk, ↓State.kept_fold, ↓each_kept, ↓foldl_kept, ↓when_kept, ↓kept_ite, ↓OutKept_ite, ↓OutKept_next,
    ↓OutKept_fault, ↓OutKept_refused, ite_self, implies_true]
theorem State.progress_kept (s : State) (n : Nat) : (s.progress n).kept = s.kept := by
  exact (State.showCtx_kept ..).trans ((State.pushRecords_kept ..).trans (s.finish_kept n _))
theorem State.ctxOff_kept (s : State) (n : Nat) (keep : Bool) : (State.ctxOff s n keep).kept = s.kept := by
  simp only [State.ctxOff, ↓State.outBy_kept, ↓State.put_kept, ↓State.setCtx_kept, ↓State.setCtxState_kept,
    ↓State.kept_mk, ↓State.kept_fold, ↓each_kept, ↓foldl_kept, ↓when_kept, ↓kept_ite, ↓OutKept_ite, ↓OutKept_next,
    ↓OutKept_fault, ↓OutKept_refused, ite_self, implies_true]
theorem State.failDesc_kept (s : State) (n pos status detail : Nat) : (State.failDesc s n pos status detail).kept = s.kept := by
  simp only [State.failDesc, ↓State.setCtx_kept, ↓State.setCtxState_kept, ↓State.kept_mk, ↓State.kept_fold,
    ↓each_kept, ↓foldl_kept, ↓when_kept, ↓kept_ite, ↓OutKept_ite, ↓OutKept_next, ↓OutKept_fault, ↓OutKept_refused,
    ite_self, implies_true]
theorem State.stopCtx_kept (s : State) (n : Nat) : (State.stopCtx s n).kept = s.kept := by
  simp only [State.stopCtx, ↓State.setCtx_kept, ↓State.setCtxState_kept, ↓State.kept_mk, ↓State.kept_fold,
    ↓each_kept, ↓foldl_kept, ↓when_kept, ↓kept_ite, ↓OutKept_ite, ↓OutKept_next, ↓OutKept_fault, ↓OutKept_refused,
    ite_self, implies_true]
theorem State.restartCtx_kept (s : State) (n : Nat) : (State.restartCtx s n).kept = s.kept := by
  simp only [State.restartCtx, ↓State.progress_kept, ↓State.put_kept, ↓State.putB_kept, ↓State.setCtx_kept,
    ↓State.setCtxState_kept, ↓State.setWord_kept, ↓State.kept_mk, ↓State.kept_fold, ↓each_kept, ↓foldl_kept,
    ↓when_kept, ↓kept_ite, ↓OutKept_ite, ↓OutKept_next, ↓OutKept_fault, ↓OutKept_refused, ite_self, implies_true]
theorem State.enableCtx_kept (s : State) (n : Nat) : (State.enableCtx s n).kept = s.kept := by
  simp only [State.enableCtx, ↓State.put_kept, ↓State.setCtx_kept, ↓State.setCtxState_kept, ↓State.showCtx_kept,
    ↓State.kept_mk, ↓State.kept_fold, ↓each_kept, ↓foldl_kept, ↓when_kept, ↓kept_ite, ↓OutKept_ite, ↓OutKept_next,
    ↓OutKept_fault, ↓OutKept_refused, ite_self, implies_true]
theorem State.disableCtx_kept (s : State) (n : Nat) : (State.disableCtx s n).kept = s.kept := by
  simp only [State.disableCtx, ↓State.ctxOff_kept, ↓State.setCtx_kept, ↓State.stopCtx_kept, ↓State.kept_mk,
    ↓State.kept_fold, ↓each_kept, ↓foldl_kept, ↓when_kept, ↓kept_ite, ↓OutKept_ite, ↓OutKept_next, ↓OutKept_fault,
    ↓OutKept_refused, ite_self, implies_true]
theorem State.writeScCtrl_kept (s : State) (n : Nat) (v : Word) : (State.writeScCtrl s n v).kept = s.kept := by
  simp only [State.writeScCtrl, ↓State.count_kept, ↓State.disableCtx_kept, ↓State.enableCtx_kept,
    ↓State.restartCtx_kept, ↓State.stopCtx_kept, ↓State.writeWhere_kept, ↓State.kept_mk, ↓State.kept_fold,
    ↓each_kept, ↓foldl_kept, ↓when_kept, ↓kept_ite, ↓OutKept_ite, ↓OutKept_next, ↓OutKept_fault, ↓OutKept_refused,
    ite_self, implies_true]
theorem State.writeTail_kept (s : State) (n : Nat) (v : Word) : (State.writeTail s n v).kept = s.kept := by
  simp only [State.writeTail, ↓State.count_kept, ↓State.showCtx_kept, ↓State.write_kept, ↓State.kept_mk,
    ↓State.kept_fold, ↓each_kept, ↓foldl_kept, ↓when_kept, ↓kept_ite, ↓OutKept_ite, ↓OutKept_next, ↓OutKept_fault,
    ↓OutKept_refused, ite_self, implies_true]
theorem State.writeToll_kept (s : State) (n : Nat) (v : Word) : (State.writeToll s n v).kept = s.kept := by
  simp only [State.writeToll, ↓State.count_kept, ↓State.putS_kept, ↓State.write_kept, ↓State.kept_mk,
    ↓State.kept_fold, ↓each_kept, ↓foldl_kept, ↓when_kept, ↓kept_ite, ↓OutKept_ite, ↓OutKept_next, ↓OutKept_fault,
    ↓OutKept_refused, ite_self, implies_true]
theorem State.writeCtxWord_kept (s : State) (n off : Nat) (v : Word) : (State.writeCtxWord s n off v).kept = s.kept := by
  simp only [State.writeCtxWord, ↓State.count_kept, ↓State.write_kept, ↓State.writeWhere_kept, ↓State.kept_mk,
    ↓State.kept_fold, ↓each_kept, ↓foldl_kept, ↓when_kept, ↓kept_ite, ↓OutKept_ite, ↓OutKept_next, ↓OutKept_fault,
    ↓OutKept_refused, ite_self, implies_true]
theorem execContextEnable_kept (n : BitVec 16) (v : Word) (s : State) : OutKept s (execContextEnable n v s) := by
  simp only [execContextEnable, ↓mirrored_kept, ↓State.writeScCtrl_kept, ↓State.kept_mk, ↓State.kept_fold,
    ↓each_kept, ↓foldl_kept, ↓when_kept, ↓kept_ite, ↓OutKept_ite, ↓OutKept_next, ↓OutKept_fault, ↓OutKept_refused,
    ite_self, implies_true]
theorem execStop_kept (n : BitVec 16) (v : Word) (s : State) : OutKept s (execStop n v s) := by
  simp only [execStop, ↓mirrored_kept, ↓State.writeScCtrl_kept, ↓State.kept_mk, ↓State.kept_fold, ↓each_kept,
    ↓foldl_kept, ↓when_kept, ↓kept_ite, ↓OutKept_ite, ↓OutKept_next, ↓OutKept_fault, ↓OutKept_refused, ite_self,
    implies_true]
theorem execRestart_kept (n : BitVec 16) (v : Word) (s : State) : OutKept s (execRestart n v s) := by
  simp only [execRestart, ↓mirrored_kept, ↓State.writeScCtrl_kept, ↓State.kept_mk, ↓State.kept_fold, ↓each_kept,
    ↓foldl_kept, ↓when_kept, ↓kept_ite, ↓OutKept_ite, ↓OutKept_next, ↓OutKept_fault, ↓OutKept_refused, ite_self,
    implies_true]
theorem execContextDisable_kept (n : BitVec 16) (v : Word) (s : State) : OutKept s (execContextDisable n v s) := by
  simp only [execContextDisable, ↓mirrored_kept, ↓State.writeScCtrl_kept, ↓State.kept_mk, ↓State.kept_fold,
    ↓each_kept, ↓foldl_kept, ↓when_kept, ↓kept_ite, ↓OutKept_ite, ↓OutKept_next, ↓OutKept_fault, ↓OutKept_refused,
    ite_self, implies_true]
theorem execDoorbell_kept (n : BitVec 16) (v : Word) (s : State) : OutKept s (execDoorbell n v s) := by
  simp only [execDoorbell, ↓mirrored_kept, ↓State.writeTail_kept, ↓State.kept_mk, ↓State.kept_fold, ↓each_kept,
    ↓foldl_kept, ↓when_kept, ↓kept_ite, ↓OutKept_ite, ↓OutKept_next, ↓OutKept_fault, ↓OutKept_refused, ite_self,
    implies_true]
theorem State.pickClass_kept (s : State) (port : Nat) (cs : List Nat) : (s.pickClass port cs).2.kept = s.kept := by
  unfold State.pickClass
  dsimp only
  repeat' split
  all_goals first
    | rfl
    | simp only [↓State.kept_mk, ↓State.kept_fold, ↓each_kept, implies_true]
theorem State.pickCtx_kept (s : State) (port cls : Nat) (ns : List Nat) : (s.pickCtx port cls ns).2.kept = s.kept := by
  unfold State.pickCtx
  dsimp only
  split <;> exact Eq.mp rfl rfl
theorem State.issueRead_kept (s : State) (n : Nat) (w : StreamDesc) (d : Desc) : (State.issueRead s n w d).kept = s.kept := by
  simp only [State.issueRead, ↓State.outBy_kept, ↓State.putS_kept, ↓State.setCtx_kept, ↓State.kept_mk,
    ↓State.kept_fold, ↓each_kept, ↓foldl_kept, ↓when_kept, ↓kept_ite, ↓OutKept_ite, ↓OutKept_next, ↓OutKept_fault,
    ↓OutKept_refused, ite_self, implies_true]
theorem State.issueFetch_kept (s : State) (n : Nat) : (State.issueFetch s n).kept = s.kept := by
  unfold State.issueFetch; dsimp only; (repeat' split) <;> simp (maxDischargeDepth := 9) only [↓State.put_kept,
    ↓State.setCtx_kept, ↓State.kept_mk, ↓State.kept_fold, ↓each_kept, ↓foldl_kept, ↓when_kept, ↓kept_ite,
    ↓OutKept_ite, ↓OutKept_next, ↓OutKept_fault, ↓OutKept_refused, ite_self, implies_true]
theorem State.entryLost_kept (s : State) (n : Nat) : (State.entryLost s n).kept = s.kept := by
  simp only [State.entryLost, ↓State.count_kept, ↓State.ctxOff_kept, ↓State.log_kept, ↓State.kept_mk,
    ↓State.kept_fold, ↓each_kept, ↓foldl_kept, ↓when_kept, ↓kept_ite, ↓OutKept_ite, ↓OutKept_next, ↓OutKept_fault,
    ↓OutKept_refused, ite_self, implies_true]
theorem State.bufferLost_kept (s : State) (n : Nat) : (State.bufferLost s n).kept = s.kept := by
  unfold State.bufferLost; (repeat' split) <;> simp (maxDischargeDepth := 9) only [↓State.count_kept,
    ↓State.failDesc_kept, ↓State.log_kept, ↓State.kept_mk, ↓State.kept_fold, ↓each_kept, ↓foldl_kept, ↓when_kept,
    ↓kept_ite, ↓OutKept_ite, ↓OutKept_next, ↓OutKept_fault, ↓OutKept_refused, ite_self, implies_true]
theorem execEngineIssueSlot_kept (portB : Bool) (upset : Option Bool) (s : State) : OutKept s (execEngineIssueSlot portB upset s) := by
  refine mirrored_kept _ _ fun s => ?_
  dsimp only
  split
  · exact OutKept_next_of rfl
  · split
    · exact OutKept_next_of rfl
    · next h =>
      have e := congrArg (fun x : Option Nat × State => x.2.kept) h
      have e' := (e.symm.trans (State.pickCtx_kept ..)).trans (State.pickClass_kept ..)
      repeat' with_reducible split
      · exact OutKept_next_of ((State.entryLost_kept ..).trans e')
      · exact OutKept_next_of ((State.bufferLost_kept ..).trans e')
      · exact OutKept_next_of ((State.showCtx_kept ..).trans ((State.issueRead_kept ..).trans e'))
      · exact OutKept_next_of e'
      · exact OutKept_next_of ((State.showCtx_kept ..).trans ((State.issueFetch_kept ..).trans e'))
theorem execDescriptorFetched_kept (n : BitVec 16) (status : BitVec 4) (d : Desc) (s : State) : OutKept s (execDescriptorFetched n status d s) := by
  unfold execDescriptorFetched
  refine mirrored_kept _ _ fun _ => ?_
  dsimp only
  repeat' with_reducible first
    | rfl
    | refine (Machine.each_kept _ _ _ fun _ _ => ?_).trans ?_
    | split
  all_goals
    simp (maxDischargeDepth := 9) only [↓State.failDesc_kept, ↓mirrored_kept, ↓State.setCtx_kept, ↓State.showCtx_kept,
      ↓State.kept_mk, ↓State.kept_fold, ↓each_kept, ↓foldl_kept, ↓when_kept, ↓kept_ite, ↓OutKept_ite, ↓OutKept_next,
      ↓OutKept_fault, ↓OutKept_refused, ite_self, implies_true]
theorem State.writeOut_kept (s : State) (n a : Nat) (bs : List Byte) : (State.writeOut s n a bs).kept = s.kept := by
  simp only [State.writeOut, ↓State.ctxWrite_kept, ↓State.kept_mk, ↓State.kept_fold, ↓each_kept, ↓foldl_kept,
    ↓when_kept, ↓kept_ite, ↓OutKept_ite, ↓OutKept_next, ↓OutKept_fault, ↓OutKept_refused, ite_self, implies_true]
theorem State.readAnswer_kept (s : State) (n : Nat) (w : StreamDesc) (d : Desc) (at_ : Nat × Nat) (status : Nat) (bs : List Byte) : (State.readAnswer s n w d at_ status bs).kept = s.kept := by
  simp only [State.readAnswer, ↓State.failDesc_kept, ↓State.outBy_kept, ↓State.setCtx_kept, ↓State.writeOut_kept,
    ↓State.kept_mk, ↓State.kept_fold, ↓each_kept, ↓foldl_kept, ↓when_kept, ↓kept_ite, ↓OutKept_ite, ↓OutKept_next,
    ↓OutKept_fault, ↓OutKept_refused, ite_self, implies_true]
theorem execStreamReadResponse_kept (n : BitVec 16) (pos : BitVec 16) (status : BitVec 4) (bytes : List Byte) (s : State) : OutKept s (execStreamReadResponse n pos status bytes s) := by
  unfold execStreamReadResponse
  refine mirrored_kept _ _ fun _ => ?_
  dsimp only
  repeat' with_reducible first
    | rfl
    | refine (Machine.each_kept _ _ _ fun _ _ => ?_).trans ?_
    | split
  all_goals
    simp (maxDischargeDepth := 9) only [↓mirrored_kept, ↓State.readAnswer_kept, ↓State.showCtx_kept, ↓State.kept_mk,
      ↓State.kept_fold, ↓each_kept, ↓foldl_kept, ↓when_kept, ↓kept_ite, ↓OutKept_ite, ↓OutKept_next, ↓OutKept_fault,
      ↓OutKept_refused, ite_self, implies_true]
theorem execPcieCompletionTimeout_kept (n : BitVec 16) (pos : BitVec 16) (s : State) : OutKept s (execPcieCompletionTimeout n pos s) := by
  unfold execPcieCompletionTimeout
  refine mirrored_kept _ _ fun _ => ?_
  dsimp only
  repeat' with_reducible first
    | rfl
    | refine (Machine.each_kept _ _ _ fun _ _ => ?_).trans ?_
    | split
  all_goals
    simp (maxDischargeDepth := 9) only [↓mirrored_kept, ↓State.raise_kept, ↓State.readAnswer_kept, ↓State.setCtx_kept,
      ↓State.showCtx_kept, ↓State.kept_mk, ↓State.kept_fold, ↓each_kept, ↓foldl_kept, ↓when_kept, ↓kept_ite,
      ↓OutKept_ite, ↓OutKept_next, ↓OutKept_fault, ↓OutKept_refused, ite_self, implies_true]
theorem execStreamFenceComplete_kept (n : BitVec 16) (status : BitVec 4) (s : State) : OutKept s (execStreamFenceComplete n status s) := by
  simp only [execStreamFenceComplete, ↓State.failDesc_kept, ↓mirrored_kept, ↓State.progress_kept,
    ↓State.setCtx_kept, ↓State.kept_mk, ↓State.kept_fold, ↓each_kept, ↓foldl_kept, ↓when_kept, ↓kept_ite,
    ↓OutKept_ite, ↓OutKept_next, ↓OutKept_fault, ↓OutKept_refused, ite_self, implies_true]
theorem State.countRecord_kept (s : State) (n : Nat) (r : StreamRec) : (State.countRecord s n r).kept = s.kept := by
  unfold State.countRecord; (repeat' split) <;> simp (maxDischargeDepth := 9) only [↓State.deliver_kept,
    ↓State.sluiceEvent_kept, ↓State.kept_mk, ↓State.kept_fold, ↓each_kept, ↓foldl_kept, ↓when_kept, ↓kept_ite,
    ↓OutKept_ite, ↓OutKept_next, ↓OutKept_fault, ↓OutKept_refused, ite_self, implies_true]
theorem State.stepDone_kept (s : State) (n : Nat) (r : StreamRec) : (State.stepDone s n r).kept = s.kept := by
  simp only [State.stepDone, ↓State.put_kept, ↓State.putB_kept, ↓State.putWide_kept, ↓State.kept_mk,
    ↓State.kept_fold, ↓each_kept, ↓foldl_kept, ↓when_kept, ↓kept_ite, ↓OutKept_ite, ↓OutKept_next, ↓OutKept_fault,
    ↓OutKept_refused, ite_self, implies_true]
theorem execRecordConfirmed_kept (n : BitVec 16) (status : BitVec 4) (s : State) : OutKept s (execRecordConfirmed n status s) := by
  unfold execRecordConfirmed
  refine mirrored_kept _ _ fun _ => ?_
  dsimp only
  repeat' with_reducible first
    | rfl
    | refine (Machine.each_kept _ _ _ fun _ _ => ?_).trans ?_
    | split
  all_goals
    simp (maxDischargeDepth := 9) only [↓State.countRecord_kept, ↓mirrored_kept, ↓State.progress_kept,
      ↓State.raise_kept, ↓State.setCtx_kept, ↓State.setCtxState_kept, ↓State.stepDone_kept, ↓State.kept_mk,
      ↓State.kept_fold, ↓each_kept, ↓foldl_kept, ↓when_kept, ↓kept_ite, ↓OutKept_ite, ↓OutKept_next, ↓OutKept_fault,
      ↓OutKept_refused, ite_self, implies_true]
theorem State.haltCtx_kept (s : State) (n index status detail : Nat) : (State.haltCtx s n index status detail).kept = s.kept := by
  simp only [State.haltCtx, ↓State.ctxOff_kept, ↓State.outBy_kept, ↓State.pushRecords_kept, ↓State.setCtx_kept,
    ↓State.setCtxState_kept, ↓State.setWord_kept, ↓State.kept_mk, ↓State.kept_fold, ↓each_kept, ↓foldl_kept,
    ↓when_kept, ↓kept_ite, ↓OutKept_ite, ↓OutKept_next, ↓OutKept_fault, ↓OutKept_refused, ite_self, implies_true]
theorem State.endAt_kept (s : State) (n : Nat) (w : StreamDesc) (status detail : Nat) : (State.endAt s n w status detail).kept = s.kept := by
  unfold State.endAt; (repeat' split) <;> simp (maxDischargeDepth := 9) only [↓State.addRecord_kept,
    ↓State.fresh_kept, ↓State.haltCtx_kept, ↓State.kept_mk, ↓State.kept_fold, ↓each_kept, ↓foldl_kept, ↓when_kept,
    ↓kept_ite, ↓OutKept_ite, ↓OutKept_next, ↓OutKept_fault, ↓OutKept_refused, ite_self, implies_true]
theorem State.endStopped_kept (s : State) (n : Nat) : (State.endStopped s n).kept = s.kept := by
  unfold State.endStopped; dsimp only; (repeat' split) <;> simp (maxDischargeDepth := 9) only
    [↓State.addRecord_kept, ↓State.endAt_kept, ↓State.fresh_kept, ↓State.haltCtx_kept, ↓State.kept_mk,
    ↓State.kept_fold, ↓each_kept, ↓foldl_kept, ↓when_kept, ↓kept_ite, ↓OutKept_ite, ↓OutKept_next, ↓OutKept_fault,
    ↓OutKept_refused, ite_self, implies_true]
theorem State.haltFenced_kept (s : State) (n : Nat) : (State.haltFenced s n).kept = s.kept := by
  simp only [State.haltFenced, ↓State.setCtx_kept, ↓State.setCtxState_kept, ↓State.kept_mk, ↓State.kept_fold,
    ↓each_kept, ↓foldl_kept, ↓when_kept, ↓kept_ite, ↓OutKept_ite, ↓OutKept_next, ↓OutKept_fault, ↓OutKept_refused,
    ite_self, implies_true]
theorem State.drained_kept (s : State) (n : Nat) : (State.drained s n).kept = s.kept := by
  unfold State.drained
  dsimp only
  repeat' with_reducible first
    | rfl
    | refine (Machine.each_kept _ _ _ fun _ _ => ?_).trans ?_
    | split
  all_goals
    simp (maxDischargeDepth := 9) only [↓State.count_kept, ↓State.endAt_kept, ↓State.endStopped_kept,
      ↓State.haltCtx_kept, ↓State.raise_kept, ↓State.kept_mk, ↓State.kept_fold, ↓each_kept, ↓foldl_kept, ↓when_kept,
      ↓kept_ite, ↓OutKept_ite, ↓OutKept_next, ↓OutKept_fault, ↓OutKept_refused, ite_self, implies_true]
theorem execContextDrained_kept (n : BitVec 16) (s : State) : OutKept s (execContextDrained n s) := by
  refine mirrored_kept _ _ fun s => OutKept_next_of ?_
  split
  · exact State.haltFenced_kept ..
  · split
    · with_reducible rfl
    · exact (State.drained_kept ..).trans (State.progress_kept ..)
theorem State.reachTick_kept (s : State) (p : Nat) : (State.reachTick s p).kept = s.kept := by
  simp only [State.reachTick, ↓State.elapse_kept, ↓State.kept_mk, ↓State.kept_fold, ↓each_kept, ↓foldl_kept,
    ↓when_kept, ↓kept_ite, ↓OutKept_ite, ↓OutKept_next, ↓OutKept_fault, ↓OutKept_refused, ite_self, implies_true]
theorem execTollPeriod_kept (s : State) : OutKept s (execTollPeriod s) := by
  simp only [execTollPeriod, ↓mirrored_kept, ↓State.putS_kept, ↓State.reachTick_kept, ↓State.kept_mk,
    ↓State.kept_fold, ↓each_kept, ↓foldl_kept, ↓when_kept, ↓kept_ite, ↓OutKept_ite, ↓OutKept_next, ↓OutKept_fault,
    ↓OutKept_refused, ite_self, implies_true]
theorem execSluiceTimer_kept (j : Fin 4096) (s : State) : OutKept s (execSluiceTimer j s) := by
  unfold execSluiceTimer
  refine mirrored_kept _ _ fun _ => ?_
  dsimp only
  repeat' with_reducible first
    | rfl
    | refine (Machine.each_kept _ _ _ fun _ _ => ?_).trans ?_
    | split
  all_goals
    simp (maxDischargeDepth := 9) only [↓State.elapse_kept, ↓mirrored_kept, ↓State.releaseSluice_kept, ↓State.kept_mk,
      ↓State.kept_fold, ↓each_kept, ↓foldl_kept, ↓when_kept, ↓kept_ite, ↓OutKept_ite, ↓OutKept_next, ↓OutKept_fault,
      ↓OutKept_refused, ite_self, implies_true]
theorem State.writeSluCfg_kept (s : State) (j : Nat) (v : Word) : (State.writeSluCfg s j v).kept = s.kept := by
  simp only [State.writeSluCfg, ↓State.count_kept, ↓State.releaseSluice_kept, ↓State.write_kept, ↓State.kept_mk,
    ↓State.kept_fold, ↓each_kept, ↓foldl_kept, ↓when_kept, ↓kept_ite, ↓OutKept_ite, ↓OutKept_next, ↓OutKept_fault,
    ↓OutKept_refused, ite_self, implies_true]
theorem execSluCfgWrite_kept (j : Fin 4096) (v : Word) (s : State) : OutKept s (execSluCfgWrite j v s) := by
  simp only [execSluCfgWrite, ↓mirrored_kept, ↓State.writeSluCfg_kept, ↓State.kept_mk, ↓State.kept_fold, ↓each_kept,
    ↓foldl_kept, ↓when_kept, ↓kept_ite, ↓OutKept_ite, ↓OutKept_next, ↓OutKept_fault, ↓OutKept_refused, ite_self,
    implies_true]
theorem State.writeSluTgt_kept (s : State) (j : Nat) (v : Word) : (State.writeSluTgt s j v).kept = s.kept := by
  simp only [State.writeSluTgt, ↓State.put_kept, ↓State.write_kept, ↓State.kept_mk, ↓State.kept_fold, ↓each_kept,
    ↓foldl_kept, ↓when_kept, ↓kept_ite, ↓OutKept_ite, ↓OutKept_next, ↓OutKept_fault, ↓OutKept_refused, ite_self,
    implies_true]
theorem execSluTgtWrite_kept (j : Fin 4096) (v : Word) (s : State) : OutKept s (execSluTgtWrite j v s) := by
  simp only [execSluTgtWrite, ↓mirrored_kept, ↓State.writeSluTgt_kept, ↓State.kept_mk, ↓State.kept_fold, ↓each_kept,
    ↓foldl_kept, ↓when_kept, ↓kept_ite, ↓OutKept_ite, ↓OutKept_next, ↓OutKept_fault, ↓OutKept_refused, ite_self,
    implies_true]
theorem State.readyByFlags_kept (s : State) (t : Nat) : (State.readyByFlags s t).kept = s.kept := by
  simp only [State.readyByFlags, ↓State.makeReady_kept, ↓State.setWord_kept, ↓State.kept_mk, ↓State.kept_fold,
    ↓each_kept, ↓foldl_kept, ↓when_kept, ↓kept_ite, ↓OutKept_ite, ↓OutKept_next, ↓OutKept_fault, ↓OutKept_refused,
    ite_self, implies_true]
theorem State.taskRefused_kept (s : State) (t : Nat) : (State.taskRefused s t).kept = s.kept := by
  simp only [State.taskRefused, ↓State.raise_kept, ↓State.kept_mk, ↓State.kept_fold, ↓each_kept, ↓foldl_kept,
    ↓when_kept, ↓kept_ite, ↓OutKept_ite, ↓OutKept_next, ↓OutKept_fault, ↓OutKept_refused, ite_self, implies_true]
theorem State.tsCmd_kept (s : State) (v : Word) : (State.tsCmd s v).kept = s.kept := by
  unfold State.tsCmd; (repeat' split) <;> simp (maxDischargeDepth := 9) only [↓State.makeReady_kept,
    ↓State.put_kept, ↓State.taskRefused_kept, ↓State.unready_kept, ↓State.kept_mk, ↓State.kept_fold, ↓each_kept,
    ↓foldl_kept, ↓when_kept, ↓kept_ite, ↓OutKept_ite, ↓OutKept_next, ↓OutKept_fault, ↓OutKept_refused, ite_self,
    implies_true]
theorem execTaskStart_kept (v : Word) (s : State) : OutKept s (execTaskStart v s) := by
  simp only [execTaskStart, ↓mirrored_kept, ↓State.tsCmd_kept, ↓State.kept_mk, ↓State.kept_fold, ↓each_kept,
    ↓foldl_kept, ↓when_kept, ↓kept_ite, ↓OutKept_ite, ↓OutKept_next, ↓OutKept_fault, ↓OutKept_refused, ite_self,
    implies_true]
theorem execTaskSuspend_kept (v : Word) (s : State) : OutKept s (execTaskSuspend v s) := by
  simp only [execTaskSuspend, ↓mirrored_kept, ↓State.tsCmd_kept, ↓State.kept_mk, ↓State.kept_fold, ↓each_kept,
    ↓foldl_kept, ↓when_kept, ↓kept_ite, ↓OutKept_ite, ↓OutKept_next, ↓OutKept_fault, ↓OutKept_refused, ite_self,
    implies_true]
theorem execTaskDelete_kept (v : Word) (s : State) : OutKept s (execTaskDelete v s) := by
  simp only [execTaskDelete, ↓mirrored_kept, ↓State.tsCmd_kept, ↓State.kept_mk, ↓State.kept_fold, ↓each_kept,
    ↓foldl_kept, ↓when_kept, ↓kept_ite, ↓OutKept_ite, ↓OutKept_next, ↓OutKept_fault, ↓OutKept_refused, ite_self,
    implies_true]
theorem State.tsDone_kept (s : State) (v : Word) : (State.tsDone s v).kept = s.kept := by
  unfold State.tsDone; dsimp only; (repeat' split) <;> simp (maxDischargeDepth := 9) only [↓State.count_kept,
    ↓State.makeReady_kept, ↓State.put_kept, ↓State.readyByFlags_kept, ↓State.stopRunning_kept,
    ↓State.taskRefused_kept, ↓State.kept_mk, ↓State.kept_fold, ↓each_kept, ↓foldl_kept, ↓when_kept, ↓kept_ite,
    ↓OutKept_ite, ↓OutKept_next, ↓OutKept_fault, ↓OutKept_refused, ite_self, implies_true]
theorem execTaskWait_kept (v : Word) (s : State) : OutKept s (execTaskWait v s) := by
  simp only [execTaskWait, ↓mirrored_kept, ↓State.tsDone_kept, ↓State.kept_mk, ↓State.kept_fold, ↓each_kept,
    ↓foldl_kept, ↓when_kept, ↓kept_ite, ↓OutKept_ite, ↓OutKept_next, ↓OutKept_fault, ↓OutKept_refused, ite_self,
    implies_true]
theorem execTaskDelay_kept (v : Word) (s : State) : OutKept s (execTaskDelay v s) := by
  simp only [execTaskDelay, ↓mirrored_kept, ↓State.tsDone_kept, ↓State.kept_mk, ↓State.kept_fold, ↓each_kept,
    ↓foldl_kept, ↓when_kept, ↓kept_ite, ↓OutKept_ite, ↓OutKept_next, ↓OutKept_fault, ↓OutKept_refused, ite_self,
    implies_true]
theorem execTaskYield_kept (v : Word) (s : State) : OutKept s (execTaskYield v s) := by
  simp only [execTaskYield, ↓mirrored_kept, ↓State.tsDone_kept, ↓State.kept_mk, ↓State.kept_fold, ↓each_kept,
    ↓foldl_kept, ↓when_kept, ↓kept_ite, ↓OutKept_ite, ↓OutKept_next, ↓OutKept_fault, ↓OutKept_refused, ite_self,
    implies_true]
theorem execTaskExit_kept (v : Word) (s : State) : OutKept s (execTaskExit v s) := by
  simp only [execTaskExit, ↓mirrored_kept, ↓State.tsDone_kept, ↓State.kept_mk, ↓State.kept_fold, ↓each_kept,
    ↓foldl_kept, ↓when_kept, ↓kept_ite, ↓OutKept_ite, ↓OutKept_next, ↓OutKept_fault, ↓OutKept_refused, ite_self,
    implies_true]
theorem State.writeTask_kept (s : State) (t : Fin 4096) (word : Fin 8) (v : Word) : (State.writeTask s t word v).kept = s.kept := by
  simp only [State.writeTask, ↓State.count_kept, ↓State.setWord_kept, ↓State.kept_mk, ↓State.kept_fold, ↓each_kept,
    ↓foldl_kept, ↓when_kept, ↓kept_ite, ↓OutKept_ite, ↓OutKept_next, ↓OutKept_fault, ↓OutKept_refused, ite_self,
    implies_true]
theorem execTaskTableWrite_kept (t : Fin 4096) (word : Fin 8) (v : Word) (s : State) : OutKept s (execTaskTableWrite t word v s) := by
  simp only [execTaskTableWrite, ↓mirrored_kept, ↓State.writeTask_kept, ↓State.kept_mk, ↓State.kept_fold,
    ↓each_kept, ↓foldl_kept, ↓when_kept, ↓kept_ite, ↓OutKept_ite, ↓OutKept_next, ↓OutKept_fault, ↓OutKept_refused,
    ite_self, implies_true]
theorem State.writePost_kept (s : State) (t : Fin 4096) (v : Word) : (State.writePost s t v).kept = s.kept := by
  simp only [State.writePost, ↓State.put_kept, ↓State.raise_kept, ↓State.kept_mk, ↓State.kept_fold, ↓each_kept,
    ↓foldl_kept, ↓when_kept, ↓kept_ite, ↓OutKept_ite, ↓OutKept_next, ↓OutKept_fault, ↓OutKept_refused, ite_self,
    implies_true]
theorem execTaskPostWrite_kept (t : Fin 4096) (v : Word) (s : State) : OutKept s (execTaskPostWrite t v s) := by
  simp only [execTaskPostWrite, ↓State.writePost_kept, ↓State.kept_mk, ↓State.kept_fold, ↓each_kept, ↓foldl_kept,
    ↓when_kept, ↓kept_ite, ↓OutKept_ite, ↓OutKept_next, ↓OutKept_fault, ↓OutKept_refused, ite_self, implies_true]
theorem execTaskPostApply_kept (s : State) : OutKept s (execTaskPostApply s) := by
  unfold execTaskPostApply
  refine mirrored_kept _ _ fun _ => ?_
  dsimp only
  repeat' with_reducible first
    | rfl
    | refine (Machine.each_kept _ _ _ fun _ _ => ?_).trans ?_
    | split
  all_goals
    simp (maxDischargeDepth := 9) only [↓State.count_kept, ↓mirrored_kept, ↓State.put_kept, ↓State.readyByFlags_kept,
      ↓State.setWord_kept, ↓State.kept_mk, ↓State.kept_fold, ↓each_kept, ↓foldl_kept, ↓when_kept, ↓kept_ite,
      ↓OutKept_ite, ↓OutKept_next, ↓OutKept_fault, ↓OutKept_refused, ite_self, implies_true]
theorem execSchedulerTick_kept (s : State) : OutKept s (execSchedulerTick s) := by
  unfold execSchedulerTick
  refine mirrored_kept _ _ fun _ => ?_
  dsimp only
  repeat' with_reducible first
    | rfl
    | refine (Machine.each_kept _ _ _ fun _ _ => ?_).trans ?_
    | split
  all_goals
    simp (maxDischargeDepth := 9) only [↓State.add_kept, ↓State.makeReady_kept, ↓mirrored_kept, ↓State.raise_kept,
      ↓State.reachSched_kept, ↓State.kept_mk, ↓State.kept_fold, ↓each_kept, ↓foldl_kept, ↓when_kept, ↓kept_ite,
      ↓OutKept_ite, ↓OutKept_next, ↓OutKept_fault, ↓OutKept_refused, ite_self, implies_true]
theorem State.dispatch_kept (s : State) (g t : Nat) : (State.dispatch s g t).kept = s.kept := by
  simp only [State.dispatch, ↓State.count_kept, ↓State.put_kept, ↓State.setRunning_kept, ↓State.unready_kept,
    ↓State.kept_mk, ↓State.kept_fold, ↓each_kept, ↓foldl_kept, ↓when_kept, ↓kept_ite, ↓OutKept_ite, ↓OutKept_next,
    ↓OutKept_fault, ↓OutKept_refused, ite_self, implies_true]
theorem execTsNext_kept (c : Fin 8) (s : State) : OutKept s (execTsNext c s) := by
  unfold execTsNext
  refine mirrored_kept _ _ fun _ => ?_
  dsimp only
  repeat' with_reducible first
    | rfl
    | refine (Machine.each_kept _ _ _ fun _ _ => ?_).trans ?_
    | split
  all_goals
    simp (maxDischargeDepth := 9) only [↓State.answerWord_kept, ↓State.dispatch_kept, ↓mirrored_kept,
      ↓State.setWord_kept, ↓State.kept_mk, ↓State.kept_fold, ↓each_kept, ↓foldl_kept, ↓when_kept, ↓kept_ite,
      ↓OutKept_ite, ↓OutKept_next, ↓OutKept_fault, ↓OutKept_refused, ite_self, implies_true]
theorem execSlotDispatch_kept (k : Fin 64) (dropped : Bool) (s : State) : OutKept s (execSlotDispatch k dropped s) := by
  unfold execSlotDispatch
  refine mirrored_kept _ _ fun _ => ?_
  dsimp only
  repeat' with_reducible first
    | rfl
    | refine (Machine.each_kept _ _ _ fun _ _ => ?_).trans ?_
    | split
  all_goals
    simp (maxDischargeDepth := 9) only [↓State.count_kept, ↓State.dispatch_kept, ↓State.dispatchDropped_kept,
      ↓State.fresh_kept, ↓State.iniLast_kept, ↓State.issue_kept, ↓mirrored_kept, ↓State.kept_mk, ↓State.kept_fold,
      ↓each_kept, ↓foldl_kept, ↓when_kept, ↓kept_ite, ↓OutKept_ite, ↓OutKept_next, ↓OutKept_fault, ↓OutKept_refused,
      ite_self, implies_true]
theorem execLoadWindowEnd_kept (s : State) : OutKept s (execLoadWindowEnd s) := by
  simp only [execLoadWindowEnd, ↓State.put_kept, ↓State.reachSched_kept, ↓State.kept_mk, ↓State.kept_fold,
    ↓each_kept, ↓foldl_kept, ↓when_kept, ↓kept_ite, ↓OutKept_ite, ↓OutKept_next, ↓OutKept_fault, ↓OutKept_refused,
    ite_self, implies_true]
theorem State.writeTsCtrl_kept (s : State) (v : Word) : (State.writeTsCtrl s v).kept = s.kept := by
  simp only [State.writeTsCtrl, ↓State.put_kept, ↓State.write_kept, ↓State.kept_mk, ↓State.kept_fold, ↓each_kept,
    ↓foldl_kept, ↓when_kept, ↓kept_ite, ↓OutKept_ite, ↓OutKept_next, ↓OutKept_fault, ↓OutKept_refused, ite_self,
    implies_true]
theorem execStatClear_kept (v : Word) (s : State) : OutKept s (execStatClear v s) := by
  simp only [execStatClear, ↓State.writeTsCtrl_kept, ↓State.kept_mk, ↓State.kept_fold, ↓each_kept, ↓foldl_kept,
    ↓when_kept, ↓kept_ite, ↓OutKept_ite, ↓OutKept_next, ↓OutKept_fault, ↓OutKept_refused, ite_self, implies_true]
theorem State.upLost_kept (s : State) : (State.upLost s).kept = s.kept := by
  simp only [State.upLost, ↓State.dropStep_kept, ↓State.enterHoldover_kept, ↓State.restartAverage_kept,
    ↓State.kept_mk, ↓State.kept_fold, ↓each_kept, ↓foldl_kept, ↓when_kept, ↓kept_ite, ↓OutKept_ite, ↓OutKept_next,
    ↓OutKept_fault, ↓OutKept_refused, ite_self, implies_true]
theorem State.setLink_kept (s : State) (n link reason : Nat) : (State.setLink s n link reason).kept = s.kept := by
  simp only [State.setLink, ↓State.put_kept, ↓State.setTl_kept, ↓State.showMarks_kept, ↓State.upLost_kept,
    ↓State.kept_mk, ↓State.kept_fold, ↓each_kept, ↓foldl_kept, ↓when_kept, ↓kept_ite, ↓OutKept_ite, ↓OutKept_next,
    ↓OutKept_fault, ↓OutKept_refused, ite_self, implies_true]
theorem State.rejectLane_kept (s : State) (n reason : Nat) : (State.rejectLane s n reason).kept = s.kept := by
  simp only [State.rejectLane, ↓State.raise_kept, ↓State.setLink_kept, ↓State.setTl_kept, ↓State.kept_mk,
    ↓State.kept_fold, ↓each_kept, ↓foldl_kept, ↓when_kept, ↓kept_ite, ↓OutKept_ite, ↓OutKept_next, ↓OutKept_fault,
    ↓OutKept_refused, ite_self, implies_true]
theorem State.checkRoles_kept (s : State) : (State.checkRoles s).kept = s.kept := by
  simp only [State.checkRoles, ↓State.put_kept, ↓State.rejectLane_kept, ↓State.setLink_kept, ↓State.kept_mk,
    ↓State.kept_fold, ↓each_kept, ↓foldl_kept, ↓when_kept, ↓kept_ite, ↓OutKept_ite, ↓OutKept_next, ↓OutKept_fault,
    ↓OutKept_refused, ite_self, implies_true]
theorem State.writeRole_kept (s : State) (n : Nat) (v : Word) : (State.writeRole s n v).kept = s.kept := by
  simp only [State.writeRole, ↓State.checkRoles_kept, ↓State.put_kept, ↓State.rejectLane_kept, ↓State.setTl_kept,
    ↓State.showMarks_kept, ↓State.upLost_kept, ↓State.write_kept, ↓State.kept_mk, ↓State.kept_fold, ↓each_kept,
    ↓foldl_kept, ↓when_kept, ↓kept_ite, ↓OutKept_ite, ↓OutKept_next, ↓OutKept_fault, ↓OutKept_refused, ite_self,
    implies_true]
theorem execTlRoleWrite_kept (lane : Fin 4) (v : Word) (s : State) : OutKept s (execTlRoleWrite lane v s) := by
  simp only [execTlRoleWrite, ↓State.writeRole_kept, ↓State.kept_mk, ↓State.kept_fold, ↓each_kept, ↓foldl_kept,
    ↓when_kept, ↓kept_ite, ↓OutKept_ite, ↓OutKept_next, ↓OutKept_fault, ↓OutKept_refused, ite_self, implies_true]
theorem State.writeLayout_kept (s : State) (r : Nat) (v : Word) : (State.writeLayout s r v).kept = s.kept := by
  simp only [State.writeLayout, ↓State.write_kept, ↓State.kept_mk, ↓State.kept_fold, ↓each_kept, ↓foldl_kept,
    ↓when_kept, ↓kept_ite, ↓OutKept_ite, ↓OutKept_next, ↓OutKept_fault, ↓OutKept_refused, ite_self, implies_true]
theorem execLayoutWrite_kept (r : Fin 40) (v : Word) (s : State) : OutKept s (execLayoutWrite r v s) := by
  simp only [execLayoutWrite, ↓State.writeLayout_kept, ↓State.kept_mk, ↓State.kept_fold, ↓each_kept, ↓foldl_kept,
    ↓when_kept, ↓kept_ite, ↓OutKept_ite, ↓OutKept_next, ↓OutKept_fault, ↓OutKept_refused, ite_self, implies_true]
theorem execTlBlockLock_kept (lane : Fin 4) (s : State) : OutKept s (execTlBlockLock lane s) := by
  simp only [execTlBlockLock, ↓State.checkRoles_kept, ↓State.put_kept, ↓State.setTl_kept, ↓State.kept_mk,
    ↓State.kept_fold, ↓each_kept, ↓foldl_kept, ↓when_kept, ↓kept_ite, ↓OutKept_ite, ↓OutKept_next, ↓OutKept_fault,
    ↓OutKept_refused, ite_self, implies_true]
theorem execTlLockLost_kept (lane : Fin 4) (s : State) : OutKept s (execTlLockLost lane s) := by
  simp only [execTlLockLost, ↓State.setLink_kept, ↓State.setTl_kept, ↓State.kept_mk, ↓State.kept_fold, ↓each_kept,
    ↓foldl_kept, ↓when_kept, ↓kept_ite, ↓OutKept_ite, ↓OutKept_next, ↓OutKept_fault, ↓OutKept_refused, ite_self,
    implies_true]
theorem execTlRejectRetry_kept (lane : Fin 4) (s : State) : OutKept s (execTlRejectRetry lane s) := by
  simp only [execTlRejectRetry, ↓State.setLink_kept, ↓State.kept_mk, ↓State.kept_fold, ↓each_kept, ↓foldl_kept,
    ↓when_kept, ↓kept_ite, ↓OutKept_ite, ↓OutKept_next, ↓OutKept_fault, ↓OutKept_refused, ite_self, implies_true]
theorem State.sendEpoch_kept (s : State) : (State.sendEpoch s).kept = s.kept := by
  simp only [State.sendEpoch, ↓State.setTl_kept, ↓State.kept_mk, ↓State.kept_fold, ↓each_kept, ↓foldl_kept,
    ↓when_kept, ↓kept_ite, ↓OutKept_ite, ↓OutKept_next, ↓OutKept_fault, ↓OutKept_refused, ite_self, implies_true]
theorem State.loadTime_kept (s : State) : (State.loadTime s).kept = s.kept := by
  simp only [State.loadTime, ↓State.sendEpoch_kept, ↓State.stepTime_kept, ↓State.kept_mk, ↓State.kept_fold,
    ↓each_kept, ↓foldl_kept, ↓when_kept, ↓kept_ite, ↓OutKept_ite, ↓OutKept_next, ↓OutKept_fault, ↓OutKept_refused,
    ite_self, implies_true]
theorem State.requestLoad_kept (s : State) : (State.requestLoad s).kept = s.kept := by
  unfold State.requestLoad; (repeat' split) <;> simp (maxDischargeDepth := 9) only [↓State.loadTime_kept,
    ↓State.kept_mk, ↓State.kept_fold, ↓each_kept, ↓foldl_kept, ↓when_kept, ↓kept_ite, ↓OutKept_ite, ↓OutKept_next,
    ↓OutKept_fault, ↓OutKept_refused, ite_self, implies_true]
theorem State.acceptStep_kept (s : State) : (State.acceptStep s).kept = s.kept := by
  simp only [State.acceptStep, ↓State.dropStep_kept, ↓State.restartAverage_kept, ↓State.stepTime_kept,
    ↓State.kept_mk, ↓State.kept_fold, ↓each_kept, ↓foldl_kept, ↓when_kept, ↓kept_ite, ↓OutKept_ite, ↓OutKept_next,
    ↓OutKept_fault, ↓OutKept_refused, ite_self, implies_true]
theorem State.startHub_kept (s : State) : (State.startHub s).kept = s.kept := by
  simp only [State.startHub, ↓State.checkRoles_kept, ↓State.rootReference_kept, ↓State.kept_mk, ↓State.kept_fold,
    ↓each_kept, ↓foldl_kept, ↓when_kept, ↓kept_ite, ↓OutKept_ite, ↓OutKept_next, ↓OutKept_fault, ↓OutKept_refused,
    ite_self, implies_true]
theorem State.stopHub_kept (s : State) : (State.stopHub s).kept = s.kept := by
  simp only [State.stopHub, ↓State.dropStep_kept, ↓State.setLink_kept, ↓State.setThState_kept, ↓State.setTl_kept,
    ↓State.kept_mk, ↓State.kept_fold, ↓each_kept, ↓foldl_kept, ↓when_kept, ↓kept_ite, ↓OutKept_ite, ↓OutKept_next,
    ↓OutKept_fault, ↓OutKept_refused, ite_self, implies_true]
theorem State.changeRole_kept (s : State) : (State.changeRole s).kept = s.kept := by
  simp only [State.changeRole, ↓State.checkRoles_kept, ↓State.dropStep_kept, ↓State.enterHoldover_kept,
    ↓State.rootReference_kept, ↓State.kept_mk, ↓State.kept_fold, ↓each_kept, ↓foldl_kept, ↓when_kept, ↓kept_ite,
    ↓OutKept_ite, ↓OutKept_next, ↓OutKept_fault, ↓OutKept_refused, ite_self, implies_true]
theorem State.writeThCtrl_kept (s : State) (v : Word) : (State.writeThCtrl s v).kept = s.kept := by
  simp only [State.writeThCtrl, ↓State.acceptStep_kept, ↓State.changeRole_kept, ↓State.requestLoad_kept,
    ↓State.startHub_kept, ↓State.stopHub_kept, ↓State.write_kept, ↓State.kept_mk, ↓State.kept_fold, ↓each_kept,
    ↓foldl_kept, ↓when_kept, ↓kept_ite, ↓OutKept_ite, ↓OutKept_next, ↓OutKept_fault, ↓OutKept_refused, ite_self,
    implies_true]
theorem execThEnable_kept (v : Word) (s : State) : OutKept s (execThEnable v s) := by
  simp only [execThEnable, ↓mirrored_kept, ↓State.writeThCtrl_kept, ↓State.kept_mk, ↓State.kept_fold, ↓each_kept,
    ↓foldl_kept, ↓when_kept, ↓kept_ite, ↓OutKept_ite, ↓OutKept_next, ↓OutKept_fault, ↓OutKept_refused, ite_self,
    implies_true]
theorem execTimeLoadGo_kept (v : Word) (s : State) : OutKept s (execTimeLoadGo v s) := by
  simp only [execTimeLoadGo, ↓mirrored_kept, ↓State.writeThCtrl_kept, ↓State.kept_mk, ↓State.kept_fold, ↓each_kept,
    ↓foldl_kept, ↓when_kept, ↓kept_ite, ↓OutKept_ite, ↓OutKept_next, ↓OutKept_fault, ↓OutKept_refused, ite_self,
    implies_true]
theorem execAcceptStep_kept (v : Word) (s : State) : OutKept s (execAcceptStep v s) := by
  simp only [execAcceptStep, ↓mirrored_kept, ↓State.writeThCtrl_kept, ↓State.kept_mk, ↓State.kept_fold, ↓each_kept,
    ↓foldl_kept, ↓when_kept, ↓kept_ite, ↓OutKept_ite, ↓OutKept_next, ↓OutKept_fault, ↓OutKept_refused, ite_self,
    implies_true]
theorem execSyncInEdge_kept (s : State) : OutKept s (execSyncInEdge s) := by
  simp only [execSyncInEdge, ↓State.loadTime_kept, ↓mirrored_kept, ↓State.kept_mk, ↓State.kept_fold, ↓each_kept,
    ↓foldl_kept, ↓when_kept, ↓kept_ite, ↓OutKept_ite, ↓OutKept_next, ↓OutKept_fault, ↓OutKept_refused, ite_self,
    implies_true]
theorem execTimeRead_kept (s : State) : OutKept s (execTimeRead s) := by
  simp only [execTimeRead, ↓State.answerWord_kept, ↓State.latchTime_kept, ↓State.kept_mk, ↓State.kept_fold,
    ↓each_kept, ↓foldl_kept, ↓when_kept, ↓kept_ite, ↓OutKept_ite, ↓OutKept_next, ↓OutKept_fault, ↓OutKept_refused,
    ite_self, implies_true]
theorem State.showNode_kept (s : State) : (State.showNode s).kept = s.kept := by
  simp only [State.showNode, ↓State.put_kept, ↓State.kept_mk, ↓State.kept_fold, ↓each_kept, ↓foldl_kept, ↓when_kept,
    ↓kept_ite, ↓OutKept_ite, ↓OutKept_next, ↓OutKept_fault, ↓OutKept_refused, ite_self, implies_true]
theorem State.takePart_kept (s : State) (n first len : Nat) : (State.takePart s n first len).kept = s.kept := by
  simp only [State.takePart, ↓State.raise_kept, ↓State.setTl_kept, ↓State.showNode_kept, ↓State.kept_mk,
    ↓State.kept_fold, ↓each_kept, ↓foldl_kept, ↓when_kept, ↓kept_ite, ↓OutKept_ite, ↓OutKept_next, ↓OutKept_fault,
    ↓OutKept_refused, ite_self, implies_true]
theorem State.slewBy_kept (s : State) (d : Int) : (State.slewBy s d).kept = s.kept := by
  simp only [State.slewBy, ↓State.kept_mk, ↓State.kept_fold, ↓each_kept, ↓foldl_kept, ↓when_kept, ↓kept_ite,
    ↓OutKept_ite, ↓OutKept_next, ↓OutKept_fault, ↓OutKept_refused, ite_self, implies_true]
theorem State.calibrated_kept (s : State) : (State.calibrated s).kept = s.kept := by
  simp only [State.calibrated, ↓State.setThState_kept, ↓State.kept_mk, ↓State.kept_fold, ↓each_kept, ↓foldl_kept,
    ↓when_kept, ↓kept_ite, ↓OutKept_ite, ↓OutKept_next, ↓OutKept_fault, ↓OutKept_refused, ite_self, implies_true]
theorem State.averageIn_kept (s : State) (theta d : Int) : (State.averageIn s theta d).kept = s.kept := by
  unfold State.averageIn; dsimp only; (repeat' split) <;> simp (maxDischargeDepth := 9) only [↓State.putS_kept,
    ↓State.slewBy_kept, ↓State.kept_mk, ↓State.kept_fold, ↓each_kept, ↓foldl_kept, ↓when_kept, ↓kept_ite,
    ↓OutKept_ite, ↓OutKept_next, ↓OutKept_fault, ↓OutKept_refused, ite_self, implies_true]
theorem State.takeExchange_kept (s : State) (n : Nat) (theta d : Int) : (State.takeExchange s n theta d).kept = s.kept := by
  simp only [State.takeExchange, ↓State.averageIn_kept, ↓State.putS_kept, ↓State.restartAverage_kept,
    ↓State.setThState_kept, ↓State.stepTime_kept, ↓State.kept_mk, ↓State.kept_fold, ↓each_kept, ↓foldl_kept,
    ↓when_kept, ↓kept_ite, ↓OutKept_ite, ↓OutKept_next, ↓OutKept_fault, ↓OutKept_refused, ite_self, implies_true]
theorem State.epochStep_kept (s : State) (n t1 : Nat) (t2 : Time) : (State.epochStep s n t1 t2).kept = s.kept := by
  simp only [State.epochStep, ↓State.dropStep_kept, ↓State.sendEpoch_kept, ↓State.setTl_kept, ↓State.stepTime_kept,
    ↓State.kept_mk, ↓State.kept_fold, ↓each_kept, ↓foldl_kept, ↓when_kept, ↓kept_ite, ↓OutKept_ite, ↓OutKept_next,
    ↓OutKept_fault, ↓OutKept_refused, ite_self, implies_true]
theorem State.useUpFrame_kept (s : State) (n : Nat) (h : XtlHead) (bs : List (BitVec 64)) (t2 : Time) : (State.useUpFrame s n h bs t2).kept = s.kept := by
  unfold State.useUpFrame; dsimp only; (repeat' split) <;> simp (maxDischargeDepth := 9) only
    [↓State.calibrated_kept, ↓State.enterHoldover_kept, ↓State.epochStep_kept, ↓State.put_kept, ↓State.setTl_kept,
    ↓State.takeExchange_kept, ↓State.takePart_kept, ↓State.kept_mk, ↓State.kept_fold, ↓each_kept, ↓foldl_kept,
    ↓when_kept, ↓kept_ite, ↓OutKept_ite, ↓OutKept_next, ↓OutKept_fault, ↓OutKept_refused, ite_self, implies_true]
theorem State.goodFrame_kept (s : State) (n : Nat) (bs : List (BitVec 64)) (t : Time) : (State.goodFrame s n bs t).kept = s.kept := by
  simp only [State.goodFrame, ↓State.put_kept, ↓State.rejectLane_kept, ↓State.setLink_kept, ↓State.setTl_kept,
    ↓State.useUpFrame_kept, ↓State.kept_mk, ↓State.kept_fold, ↓each_kept, ↓foldl_kept, ↓when_kept, ↓kept_ite,
    ↓OutKept_ite, ↓OutKept_next, ↓OutKept_fault, ↓OutKept_refused, ite_self, implies_true]
theorem State.badFrame_kept (s : State) (n : Nat) : (State.badFrame s n).kept = s.kept := by
  simp only [State.badFrame, ↓State.count_kept, ↓State.enterHoldover_kept, ↓State.raise_kept, ↓State.setTl_kept,
    ↓State.kept_mk, ↓State.kept_fold, ↓each_kept, ↓foldl_kept, ↓when_kept, ↓kept_ite, ↓OutKept_ite, ↓OutKept_next,
    ↓OutKept_fault, ↓OutKept_refused, ite_self, implies_true]
theorem execXtlFrameReceived_kept (lane : Fin 4) (blocks : List (BitVec 64)) (arrival : Time) (s : State) : OutKept s (execXtlFrameReceived lane blocks arrival s) := by
  simp only [execXtlFrameReceived, ↓State.badFrame_kept, ↓State.goodFrame_kept, ↓mirrored_kept,
    ↓State.reachTime_kept, ↓State.kept_mk, ↓State.kept_fold, ↓each_kept, ↓foldl_kept, ↓when_kept, ↓kept_ite,
    ↓OutKept_ite, ↓OutKept_next, ↓OutKept_fault, ↓OutKept_refused, ite_self, implies_true]
theorem State.sendFrame_kept (s : State) (n : Nat) : (State.sendFrame s n).kept = s.kept := by
  simp only [State.sendFrame, ↓State.reachTime_kept, ↓State.setTl_kept, ↓State.kept_mk, ↓State.kept_fold,
    ↓each_kept, ↓foldl_kept, ↓when_kept, ↓kept_ite, ↓OutKept_ite, ↓OutKept_next, ↓OutKept_fault, ↓OutKept_refused,
    ite_self, implies_true]
theorem execXtlFrameSend_kept (lane : Fin 4) (s : State) : OutKept s (execXtlFrameSend lane s) := by
  simp only [execXtlFrameSend, ↓State.sendFrame_kept, ↓State.kept_mk, ↓State.kept_fold, ↓each_kept, ↓foldl_kept,
    ↓when_kept, ↓kept_ite, ↓OutKept_ite, ↓OutKept_next, ↓OutKept_fault, ↓OutKept_refused, ite_self, implies_true]
theorem State.deliverMessage_kept (s : State) (m : BitVec 64) (swapClk : Bool) : (State.deliverMessage s m swapClk).kept = s.kept := by
  simp only [State.deliverMessage, ↓State.offerEvent_kept, ↓State.kept_mk, ↓State.kept_fold, ↓each_kept,
    ↓foldl_kept, ↓when_kept, ↓kept_ite, ↓OutKept_ite, ↓OutKept_next, ↓OutKept_fault, ↓OutKept_refused, ite_self,
    implies_true]
theorem execTrigMessageReceived_kept (lane : Fin 4) (payload : BitVec 64) (swapClk : Bool) (s : State) : OutKept s (execTrigMessageReceived lane payload swapClk s) := by
  simp only [execTrigMessageReceived, ↓State.count_kept, ↓State.deliverMessage_kept, ↓mirrored_kept,
    ↓State.raise_kept, ↓State.setTl_kept, ↓State.spreadMessage_kept, ↓State.kept_mk, ↓State.kept_fold, ↓each_kept,
    ↓foldl_kept, ↓when_kept, ↓kept_ite, ↓OutKept_ite, ↓OutKept_next, ↓OutKept_fault, ↓OutKept_refused, ite_self,
    implies_true]
theorem State.writeXtlSend_kept (s : State) (v : Word) (swapClk : Bool) : (State.writeXtlSend s v swapClk).kept = s.kept := by
  simp only [State.writeXtlSend, ↓State.deliverMessage_kept, ↓State.spreadMessage_kept, ↓State.write_kept,
    ↓State.kept_mk, ↓State.kept_fold, ↓each_kept, ↓foldl_kept, ↓when_kept, ↓kept_ite, ↓OutKept_ite, ↓OutKept_next,
    ↓OutKept_fault, ↓OutKept_refused, ite_self, implies_true]
theorem execXtlSend_kept (v : Word) (swapClk : Bool) (s : State) : OutKept s (execXtlSend v swapClk s) := by
  simp only [execXtlSend, ↓mirrored_kept, ↓State.writeXtlSend_kept, ↓State.kept_mk, ↓State.kept_fold, ↓each_kept,
    ↓foldl_kept, ↓when_kept, ↓kept_ite, ↓OutKept_ite, ↓OutKept_next, ↓OutKept_fault, ↓OutKept_refused, ite_self,
    implies_true]
theorem execCalibrationAverageComplete_kept (s : State) : OutKept s (execCalibrationAverageComplete s) := by
  simp only [execCalibrationAverageComplete, ↓State.calibrated_kept, ↓State.put_kept, ↓State.putS_kept,
    ↓State.slewBy_kept, ↓State.kept_mk, ↓State.kept_fold, ↓each_kept, ↓foldl_kept, ↓when_kept, ↓kept_ite,
    ↓OutKept_ite, ↓OutKept_next, ↓OutKept_fault, ↓OutKept_refused, ite_self, implies_true]
theorem execRejoinMeasureComplete_kept (s : State) : OutKept s (execRejoinMeasureComplete s) := by
  unfold execRejoinMeasureComplete; (repeat' split) <;> simp (maxDischargeDepth := 9) only [↓State.put_kept,
    ↓State.raise_kept, ↓State.restartAverage_kept, ↓State.slewBy_kept, ↓State.kept_mk, ↓State.kept_fold, ↓each_kept,
    ↓foldl_kept, ↓when_kept, ↓kept_ite, ↓OutKept_ite, ↓OutKept_next, ↓OutKept_fault, ↓OutKept_refused, ite_self,
    implies_true]
theorem execHoldoverLimitReached_kept (s : State) : OutKept s (execHoldoverLimitReached s) := by
  simp only [execHoldoverLimitReached, ↓State.dropStep_kept, ↓State.elapse_kept, ↓State.raise_kept,
    ↓State.setThState_kept, ↓State.kept_mk, ↓State.kept_fold, ↓each_kept, ↓foldl_kept, ↓when_kept, ↓kept_ite,
    ↓OutKept_ite, ↓OutKept_next, ↓OutKept_fault, ↓OutKept_refused, ite_self, implies_true]
theorem execPtmDialog_kept (dev : Time) (host : BitVec 64) (s : State) : OutKept s (execPtmDialog dev host s) := by
  simp only [execPtmDialog, ↓State.put_kept, ↓State.putWide_kept, ↓State.raise_kept, ↓State.kept_mk,
    ↓State.kept_fold, ↓each_kept, ↓foldl_kept, ↓when_kept, ↓kept_ite, ↓OutKept_ite, ↓OutKept_next, ↓OutKept_fault,
    ↓OutKept_refused, ite_self, implies_true]
theorem execPtmStale_kept (s : State) : OutKept s (execPtmStale s) := by
  simp only [execPtmStale, ↓State.put_kept, ↓State.raise_kept, ↓State.kept_mk, ↓State.kept_fold, ↓each_kept,
    ↓foldl_kept, ↓when_kept, ↓kept_ite, ↓OutKept_ite, ↓OutKept_next, ↓OutKept_fault, ↓OutKept_refused, ite_self,
    implies_true]
theorem State.recordEdge_kept (s : State) (c : Nat) (rising : Bool) (t : Time) : (State.recordEdge s c rising t).kept = s.kept := by
  simp only [State.recordEdge, ↓State.count_kept, ↓State.putWide_kept, ↓State.raise_kept, ↓State.setChan_kept,
    ↓State.kept_mk, ↓State.kept_fold, ↓each_kept, ↓foldl_kept, ↓when_kept, ↓kept_ite, ↓OutKept_ite, ↓OutKept_next,
    ↓OutKept_fault, ↓OutKept_refused, ite_self, implies_true]
theorem execInputEdge_kept (ch : Fin 24) (rising : Bool) (t : Time) (lasts : Nat) (s : State) : OutKept s (execInputEdge ch rising t lasts s) := by
  simp only [execInputEdge, ↓State.reachTime_kept, ↓State.recordEdge_kept, ↓State.setChan_kept, ↓State.kept_mk,
    ↓State.kept_fold, ↓each_kept, ↓foldl_kept, ↓when_kept, ↓kept_ite, ↓OutKept_ite, ↓OutKept_next, ↓OutKept_fault,
    ↓OutKept_refused, ite_self, implies_true]
theorem execStampDelivery_kept (ch : Fin 24) (s : State) : OutKept s (execStampDelivery ch s) := by
  unfold execStampDelivery
  refine mirrored_kept _ _ fun _ => ?_
  dsimp only
  repeat' with_reducible first
    | rfl
    | refine (Machine.each_kept _ _ _ fun _ _ => ?_).trans ?_
    | split
  all_goals
    simp (maxDischargeDepth := 9) only [↓State.giveAll_kept, ↓mirrored_kept, ↓State.reachTime_kept,
      ↓State.setChan_kept, ↓State.kept_mk, ↓State.kept_fold, ↓each_kept, ↓foldl_kept, ↓when_kept, ↓kept_ite,
      ↓OutKept_ite, ↓OutKept_next, ↓OutKept_fault, ↓OutKept_refused, ite_self, implies_true]
theorem execTdcCalTableReplace_kept (ch : Fin 24) (s : State) : OutKept s (execTdcCalTableReplace ch s) := by
  simp only [execTdcCalTableReplace, ↓State.putB_kept, ↓State.raise_kept, ↓State.setChan_kept, ↓State.kept_mk,
    ↓State.kept_fold, ↓each_kept, ↓foldl_kept, ↓when_kept, ↓kept_ite, ↓OutKept_ite, ↓OutKept_next, ↓OutKept_fault,
    ↓OutKept_refused, ite_self, implies_true]
theorem execTdcCalRestart_kept (v : Word) (s : State) : OutKept s (execTdcCalRestart v s) := by
  simp only [execTdcCalRestart, ↓State.write_kept, ↓State.kept_mk, ↓State.kept_fold, ↓each_kept, ↓foldl_kept,
    ↓when_kept, ↓kept_ite, ↓OutKept_ite, ↓OutKept_next, ↓OutKept_fault, ↓OutKept_refused, ite_self, implies_true]
theorem execFabricEvent_kept (line : Fin 16) (t : Time) (s : State) : OutKept s (execFabricEvent line t s) := by
  simp only [execFabricEvent, ↓State.giveAll_kept, ↓mirrored_kept, ↓State.reachTime_kept, ↓State.kept_mk,
    ↓State.kept_fold, ↓each_kept, ↓foldl_kept, ↓when_kept, ↓kept_ite, ↓OutKept_ite, ↓OutKept_next, ↓OutKept_fault,
    ↓OutKept_refused, ite_self, implies_true]
theorem execTapClockEdge_kept (region : Fin 240) (t : Time) (s : State) : OutKept s (execTapClockEdge region t s) := by
  simp only [execTapClockEdge, ↓State.reachTime_kept, ↓State.setTap_kept, ↓State.kept_mk, ↓State.kept_fold,
    ↓each_kept, ↓foldl_kept, ↓when_kept, ↓kept_ite, ↓OutKept_ite, ↓OutKept_next, ↓OutKept_fault, ↓OutKept_refused,
    ite_self, implies_true]
theorem State.writeOutReq_kept (s : State) (v : Word) : (State.writeOutReq s v).kept = s.kept := by
  simp only [State.writeOutReq, ↓State.requestOut_kept, ↓State.write_kept, ↓State.kept_mk, ↓State.kept_fold,
    ↓each_kept, ↓foldl_kept, ↓when_kept, ↓kept_ite, ↓OutKept_ite, ↓OutKept_next, ↓OutKept_fault, ↓OutKept_refused,
    ite_self, implies_true]
theorem execOutputRequest_kept (v : Word) (s : State) : OutKept s (execOutputRequest v s) := by
  simp only [execOutputRequest, ↓mirrored_kept, ↓State.writeOutReq_kept, ↓State.kept_mk, ↓State.kept_fold,
    ↓each_kept, ↓foldl_kept, ↓when_kept, ↓kept_ite, ↓OutKept_ite, ↓OutKept_next, ↓OutKept_fault, ↓OutKept_refused,
    ite_self, implies_true]
theorem execOutputActionDue_kept (o : Fin 28) (s : State) : OutKept s (execOutputActionDue o s) := by
  unfold execOutputActionDue
  refine mirrored_kept _ _ fun _ => ?_
  dsimp only
  repeat' with_reducible first
    | rfl
    | refine (Machine.each_kept _ _ _ fun _ _ => ?_).trans ?_
    | split
  all_goals
    simp (maxDischargeDepth := 9) only [↓State.actOut_kept, ↓mirrored_kept, ↓State.reachTime_kept, ↓State.setOut_kept,
      ↓State.kept_mk, ↓State.kept_fold, ↓each_kept, ↓foldl_kept, ↓when_kept, ↓kept_ite, ↓OutKept_ite, ↓OutKept_next,
      ↓OutKept_fault, ↓OutKept_refused, ite_self, implies_true]
theorem execPulseEnd_kept (o : Fin 28) (s : State) : OutKept s (execPulseEnd o s) := by
  unfold execPulseEnd; dsimp only; (repeat' split) <;> simp (maxDischargeDepth := 9) only [↓State.actOut_kept,
    ↓State.reachTime_kept, ↓State.setOut_kept, ↓State.kept_mk, ↓State.kept_fold, ↓each_kept, ↓foldl_kept,
    ↓when_kept, ↓kept_ite, ↓OutKept_ite, ↓OutKept_next, ↓OutKept_fault, ↓OutKept_refused, ite_self, implies_true]
theorem State.releaseOut_kept (s : State) (o : Nat) : (State.releaseOut s o).kept = s.kept := by
  simp only [State.releaseOut, ↓State.setOut_kept, ↓State.kept_mk, ↓State.kept_fold, ↓each_kept, ↓foldl_kept,
    ↓when_kept, ↓kept_ite, ↓OutKept_ite, ↓OutKept_next, ↓OutKept_fault, ↓OutKept_refused, ite_self, implies_true]
theorem State.writeSeqTable_kept (s : State) (q : Fin 16) (word : Fin 4096) (v : Word) : (State.writeSeqTable s q word v).kept = s.kept := by
  simp only [State.writeSeqTable, ↓State.put_kept, ↓State.write_kept, ↓State.kept_mk, ↓State.kept_fold, ↓each_kept,
    ↓foldl_kept, ↓when_kept, ↓kept_ite, ↓OutKept_ite, ↓OutKept_next, ↓OutKept_fault, ↓OutKept_refused, ite_self,
    implies_true]
theorem execSeqTableWrite_kept (q : Fin 16) (word : Fin 4096) (v : Word) (s : State) : OutKept s (execSeqTableWrite q word v s) := by
  simp only [execSeqTableWrite, ↓mirrored_kept, ↓State.writeSeqTable_kept, ↓State.kept_mk, ↓State.kept_fold,
    ↓each_kept, ↓foldl_kept, ↓when_kept, ↓kept_ite, ↓OutKept_ite, ↓OutKept_next, ↓OutKept_fault, ↓OutKept_refused,
    ite_self, implies_true]
theorem execSequencerEventRelease_kept (q : Fin 16) (swapClk : Bool) (s : State) : OutKept s (execSequencerEventRelease q swapClk s) := by
  unfold execSequencerEventRelease
  refine mirrored_kept _ _ fun _ => ?_
  dsimp only
  repeat' with_reducible first
    | rfl
    | refine (Machine.each_kept _ _ _ fun _ _ => ?_).trans ?_
    | split
  all_goals
    simp (maxDischargeDepth := 9) only [↓State.count_kept, ↓mirrored_kept, ↓State.offerEvent_kept,
      ↓State.reachTime_kept, ↓State.setSeq_kept, ↓State.kept_mk, ↓State.kept_fold, ↓each_kept, ↓foldl_kept,
      ↓when_kept, ↓kept_ite, ↓OutKept_ite, ↓OutKept_next, ↓OutKept_fault, ↓OutKept_refused, ite_self, implies_true]
theorem execSequencerTimerExpiry_kept (q : Fin 16) (s : State) : OutKept s (execSequencerTimerExpiry q s) := by
  unfold execSequencerTimerExpiry
  refine mirrored_kept _ _ fun _ => ?_
  dsimp only
  repeat' with_reducible first
    | rfl
    | refine (Machine.each_kept _ _ _ fun _ _ => ?_).trans ?_
    | split
  all_goals
    simp (maxDischargeDepth := 9) only [↓State.giveEvent_kept, ↓mirrored_kept, ↓State.reachTime_kept,
      ↓State.setSeq_kept, ↓State.kept_mk, ↓State.kept_fold, ↓each_kept, ↓foldl_kept, ↓when_kept, ↓kept_ite,
      ↓OutKept_ite, ↓OutKept_next, ↓OutKept_fault, ↓OutKept_refused, ite_self, implies_true]
theorem State.haltSeq_kept (s : State) (q : Nat) : (State.haltSeq s q).kept = s.kept := by
  simp only [State.haltSeq, ↓State.put_kept, ↓State.setSeq_kept, ↓State.kept_mk, ↓State.kept_fold, ↓each_kept,
    ↓foldl_kept, ↓when_kept, ↓kept_ite, ↓OutKept_ite, ↓OutKept_next, ↓OutKept_fault, ↓OutKept_refused, ite_self,
    implies_true]
theorem State.writeSeqCtrl_kept (s : State) (q : Nat) (v : Word) (swapClk : Bool) : (State.writeSeqCtrl s q v swapClk).kept = s.kept := by
  simp only [State.writeSeqCtrl, ↓State.chainSeq_kept, ↓State.giveEvent_kept, ↓State.haltSeq_kept, ↓State.put_kept,
    ↓State.write_kept, ↓State.kept_mk, ↓State.kept_fold, ↓each_kept, ↓foldl_kept, ↓when_kept, ↓kept_ite,
    ↓OutKept_ite, ↓OutKept_next, ↓OutKept_fault, ↓OutKept_refused, ite_self, implies_true]
theorem execSeqRun_kept (q : Fin 16) (v : Word) (swapClk : Bool) (s : State) : OutKept s (execSeqRun q v swapClk s) := by
  simp only [execSeqRun, ↓mirrored_kept, ↓State.writeSeqCtrl_kept, ↓State.kept_mk, ↓State.kept_fold, ↓each_kept,
    ↓foldl_kept, ↓when_kept, ↓kept_ite, ↓OutKept_ite, ↓OutKept_next, ↓OutKept_fault, ↓OutKept_refused, ite_self,
    implies_true]
theorem execSeqHalt_kept (q : Fin 16) (v : Word) (s : State) : OutKept s (execSeqHalt q v s) := by
  simp only [execSeqHalt, ↓mirrored_kept, ↓State.writeSeqCtrl_kept, ↓State.kept_mk, ↓State.kept_fold, ↓each_kept,
    ↓foldl_kept, ↓when_kept, ↓kept_ite, ↓OutKept_ite, ↓OutKept_next, ↓OutKept_fault, ↓OutKept_refused, ite_self,
    implies_true]
theorem execSeqArm_kept (q : Fin 16) (v : Word) (s : State) : OutKept s (execSeqArm q v s) := by
  simp only [execSeqArm, ↓mirrored_kept, ↓State.writeSeqCtrl_kept, ↓State.kept_mk, ↓State.kept_fold, ↓each_kept,
    ↓foldl_kept, ↓when_kept, ↓kept_ite, ↓OutKept_ite, ↓OutKept_next, ↓OutKept_fault, ↓OutKept_refused, ite_self,
    implies_true]
theorem State.setLine_kept (s : State) (c fault : Nat) (off masked : Bool) : (State.setLine s c fault off masked).kept = s.kept := by
  simp only [State.setLine, ↓State.put_kept, ↓State.putB_kept, ↓State.releaseOut_kept, ↓State.setChan_kept,
    ↓State.kept_mk, ↓State.kept_fold, ↓each_kept, ↓foldl_kept, ↓when_kept, ↓kept_ite, ↓OutKept_ite, ↓OutKept_next,
    ↓OutKept_fault, ↓OutKept_refused, ite_self, implies_true]
theorem execLineContention_kept (line : Fin 24) (s : State) : OutKept s (execLineContention line s) := by
  simp only [execLineContention, ↓State.raise_kept, ↓State.setChan_kept, ↓State.setLine_kept, ↓State.kept_mk,
    ↓State.kept_fold, ↓each_kept, ↓foldl_kept, ↓when_kept, ↓kept_ite, ↓OutKept_ite, ↓OutKept_next, ↓OutKept_fault,
    ↓OutKept_refused, ite_self, implies_true]
theorem execContentionRetry_kept (line : Fin 24) (s : State) : OutKept s (execContentionRetry line s) := by
  simp only [execContentionRetry, ↓State.count_kept, ↓State.setChan_kept, ↓State.setLine_kept, ↓State.kept_mk,
    ↓State.kept_fold, ↓each_kept, ↓foldl_kept, ↓when_kept, ↓kept_ite, ↓OutKept_ite, ↓OutKept_next, ↓OutKept_fault,
    ↓OutKept_refused, ite_self, implies_true]
theorem execLineShort_kept (line : Fin 16) (s : State) : OutKept s (execLineShort line s) := by
  simp only [execLineShort, ↓State.raise_kept, ↓State.setChan_kept, ↓State.setLine_kept, ↓State.kept_mk,
    ↓State.kept_fold, ↓each_kept, ↓foldl_kept, ↓when_kept, ↓kept_ite, ↓OutKept_ite, ↓OutKept_next, ↓OutKept_fault,
    ↓OutKept_refused, ite_self, implies_true]
theorem execShortClear_kept (line : Fin 16) (s : State) : OutKept s (execShortClear line s) := by
  simp only [execShortClear, ↓State.setLine_kept, ↓State.kept_mk, ↓State.kept_fold, ↓each_kept, ↓foldl_kept,
    ↓when_kept, ↓kept_ite, ↓OutKept_ite, ↓OutKept_next, ↓OutKept_fault, ↓OutKept_refused, ite_self, implies_true]
theorem execLineOpen_kept (line : Fin 24) (s : State) : OutKept s (execLineOpen line s) := by
  simp only [execLineOpen, ↓State.put_kept, ↓State.raise_kept, ↓State.setChan_kept, ↓State.setLine_kept,
    ↓State.kept_mk, ↓State.kept_fold, ↓each_kept, ↓foldl_kept, ↓when_kept, ↓kept_ite, ↓OutKept_ite, ↓OutKept_next,
    ↓OutKept_fault, ↓OutKept_refused, ite_self, implies_true]
theorem execOpenClear_kept (line : Fin 24) (s : State) : OutKept s (execOpenClear line s) := by
  simp only [execOpenClear, ↓State.put_kept, ↓State.setChan_kept, ↓State.setLine_kept, ↓State.kept_mk,
    ↓State.kept_fold, ↓each_kept, ↓foldl_kept, ↓when_kept, ↓kept_ite, ↓OutKept_ite, ↓OutKept_next, ↓OutKept_fault,
    ↓OutKept_refused, ite_self, implies_true]
theorem State.clearLine_kept (s : State) (c : Nat) : (State.clearLine s c).kept = s.kept := by
  simp only [State.clearLine, ↓State.put_kept, ↓State.setChan_kept, ↓State.setLine_kept, ↓State.kept_mk,
    ↓State.kept_fold, ↓each_kept, ↓foldl_kept, ↓when_kept, ↓kept_ite, ↓OutKept_ite, ↓OutKept_next, ↓OutKept_fault,
    ↓OutKept_refused, ite_self, implies_true]
theorem State.writeInCfg_kept (s : State) (c : Nat) (v : Word) : (State.writeInCfg s c v).kept = s.kept := by
  simp only [State.writeInCfg, ↓State.clearLine_kept, ↓State.putB_kept, ↓State.releaseOut_kept, ↓State.setChan_kept,
    ↓State.write_kept, ↓State.kept_mk, ↓State.kept_fold, ↓each_kept, ↓foldl_kept, ↓when_kept, ↓kept_ite,
    ↓OutKept_ite, ↓OutKept_next, ↓OutKept_fault, ↓OutKept_refused, ite_self, implies_true]
theorem execIdleCheck_kept (line : Fin 24) (v : Word) (s : State) : OutKept s (execIdleCheck line v s) := by
  simp only [execIdleCheck, ↓State.writeInCfg_kept, ↓State.kept_mk, ↓State.kept_fold, ↓each_kept, ↓foldl_kept,
    ↓when_kept, ↓kept_ite, ↓OutKept_ite, ↓OutKept_next, ↓OutKept_fault, ↓OutKept_refused, ite_self, implies_true]
theorem execLineFaultClear_kept (line : Fin 24) (v : Word) (s : State) : OutKept s (execLineFaultClear line v s) := by
  simp only [execLineFaultClear, ↓State.writeInCfg_kept, ↓State.kept_mk, ↓State.kept_fold, ↓each_kept, ↓foldl_kept,
    ↓when_kept, ↓kept_ite, ↓OutKept_ite, ↓OutKept_next, ↓OutKept_fault, ↓OutKept_refused, ite_self, implies_true]
theorem execIdleCheckComplete_kept (line : Fin 24) (r : IdleResult) (s : State) : OutKept s (execIdleCheckComplete line r s) := by
  unfold execIdleCheckComplete; (repeat' split) <;> simp (maxDischargeDepth := 9) only [↓State.put_kept,
    ↓State.raise_kept, ↓State.setChan_kept, ↓State.kept_mk, ↓State.kept_fold, ↓each_kept, ↓foldl_kept, ↓when_kept,
    ↓kept_ite, ↓OutKept_ite, ↓OutKept_next, ↓OutKept_fault, ↓OutKept_refused, ite_self, implies_true]
theorem State.writeSysref_kept (s : State) (n : Fin 4) (v : Word) : (State.writeSysref s n v).kept = s.kept := by
  simp only [State.writeSysref, ↓State.put_kept, ↓State.setGrid_kept, ↓State.write_kept, ↓State.kept_mk,
    ↓State.kept_fold, ↓each_kept, ↓foldl_kept, ↓when_kept, ↓kept_ite, ↓OutKept_ite, ↓OutKept_next, ↓OutKept_fault,
    ↓OutKept_refused, ite_self, implies_true]
theorem execSysrefGo_kept (n : Fin 4) (v : Word) (s : State) : OutKept s (execSysrefGo n v s) := by
  simp only [execSysrefGo, ↓mirrored_kept, ↓State.writeSysref_kept, ↓State.kept_mk, ↓State.kept_fold, ↓each_kept,
    ↓foldl_kept, ↓when_kept, ↓kept_ite, ↓OutKept_ite, ↓OutKept_next, ↓OutKept_fault, ↓OutKept_refused, ite_self,
    implies_true]
theorem State.driveSysref_kept (s : State) (n : Nat) (level : Bool) (t : Nat) : (State.driveSysref s n level t).kept = s.kept := by
  simp only [State.driveSysref, ↓State.driveOut_kept, ↓State.kept_mk, ↓State.kept_fold, ↓each_kept, ↓foldl_kept,
    ↓when_kept, ↓kept_ite, ↓OutKept_ite, ↓OutKept_next, ↓OutKept_fault, ↓OutKept_refused, ite_self, implies_true]
theorem execSysrefEdge_kept (n : Fin 4) (s : State) : OutKept s (execSysrefEdge n s) := by
  unfold execSysrefEdge
  refine mirrored_kept _ _ fun _ => ?_
  dsimp only
  repeat' with_reducible first
    | rfl
    | refine (Machine.each_kept _ _ _ fun _ _ => ?_).trans ?_
    | split
  all_goals
    simp (maxDischargeDepth := 9) only [↓State.driveSysref_kept, ↓mirrored_kept, ↓State.reachTime_kept,
      ↓State.setGrid_kept, ↓State.kept_mk, ↓State.kept_fold, ↓each_kept, ↓foldl_kept, ↓when_kept, ↓kept_ite,
      ↓OutKept_ite, ↓OutKept_next, ↓OutKept_fault, ↓OutKept_refused, ite_self, implies_true]
theorem State.startCopy_kept (s : State) : (State.startCopy s).kept = s.kept := by
  simp only [State.startCopy, ↓State.setPairState_kept, ↓State.showLag_kept, ↓State.kept_mk, ↓State.kept_fold,
    ↓each_kept, ↓foldl_kept, ↓when_kept, ↓kept_ite, ↓OutKept_ite, ↓OutKept_next, ↓OutKept_fault, ↓OutKept_refused,
    ite_self, implies_true]
theorem State.progressAll_kept (s : State) : (State.progressAll s).kept = s.kept := by
  simp only [State.progressAll, ↓State.progress_kept, ↓State.kept_mk, ↓State.kept_fold, ↓each_kept, ↓foldl_kept,
    ↓when_kept, ↓kept_ite, ↓OutKept_ite, ↓OutKept_next, ↓OutKept_fault, ↓OutKept_refused, ite_self, implies_true]
theorem State.stopMirroring_kept (s : State) (state : Nat) : (State.stopMirroring s state).kept = s.kept := by
  simp only [State.stopMirroring, ↓State.progressAll_kept, ↓State.setPairState_kept, ↓State.showLag_kept,
    ↓State.kept_mk, ↓State.kept_fold, ↓each_kept, ↓foldl_kept, ↓when_kept, ↓kept_ite, ↓OutKept_ite, ↓OutKept_next,
    ↓OutKept_fault, ↓OutKept_refused, ite_self, implies_true]
theorem State.enablePair_kept (s : State) (f : PairFacts) : (State.enablePair s f).kept = s.kept := by
  simp only [State.enablePair, ↓State.pairEvent_kept, ↓State.put_kept, ↓State.startCopy_kept, ↓State.kept_mk,
    ↓State.kept_fold, ↓each_kept, ↓foldl_kept, ↓when_kept, ↓kept_ite, ↓OutKept_ite, ↓OutKept_next, ↓OutKept_fault,
    ↓OutKept_refused, ite_self, implies_true]
theorem State.freeFacts_kept (s : State) : s.freeFacts.2.kept = s.kept := by
  exact Eq.mp rfl rfl
theorem State.startTakeover_kept (s : State) : (State.startTakeover s).kept = s.kept := by
  simp only [State.startTakeover, ↓State.setPairState_kept, ↓State.kept_mk, ↓State.kept_fold, ↓each_kept,
    ↓foldl_kept, ↓when_kept, ↓kept_ite, ↓OutKept_ite, ↓OutKept_next, ↓OutKept_fault, ↓OutKept_refused, ite_self,
    implies_true]
theorem State.resyncPair_kept (s : State) : (State.resyncPair s).kept = s.kept := by
  simp only [State.resyncPair, ↓State.startCopy_kept, ↓State.kept_mk, ↓State.kept_fold, ↓each_kept, ↓foldl_kept,
    ↓when_kept, ↓kept_ite, ↓OutKept_ite, ↓OutKept_next, ↓OutKept_fault, ↓OutKept_refused, ite_self, implies_true]
theorem State.rejoinPair_kept (s : State) : (State.rejoinPair s).kept = s.kept := by
  simp only [State.rejoinPair, ↓State.put_kept, ↓State.kept_mk, ↓State.kept_fold, ↓each_kept, ↓foldl_kept,
    ↓when_kept, ↓kept_ite, ↓OutKept_ite, ↓OutKept_next, ↓OutKept_fault, ↓OutKept_refused, ite_self, implies_true]
theorem State.releasePair_kept (s : State) : (State.releasePair s).kept = s.kept := by
  simp only [State.releasePair, ↓State.pairEvent_kept, ↓State.setPairState_kept, ↓State.kept_mk, ↓State.kept_fold,
    ↓each_kept, ↓foldl_kept, ↓when_kept, ↓kept_ite, ↓OutKept_ite, ↓OutKept_next, ↓OutKept_fault, ↓OutKept_refused,
    ite_self, implies_true]
theorem State.writePairCtrl_kept (s : State) (v : Word) (f : Option PairFacts) : (State.writePairCtrl s v f).kept = s.kept := by
  unfold State.writePairCtrl; (repeat' split) <;> simp (maxDischargeDepth := 9) only [↓State.enablePair_kept,
    ↓State.freeFacts_kept, ↓State.rejoinPair_kept, ↓State.releasePair_kept, ↓State.resyncPair_kept,
    ↓State.startTakeover_kept, ↓State.stopMirroring_kept, ↓State.write_kept, ↓State.kept_mk, ↓State.kept_fold,
    ↓each_kept, ↓foldl_kept, ↓when_kept, ↓kept_ite, ↓OutKept_ite, ↓OutKept_next, ↓OutKept_fault, ↓OutKept_refused,
    ite_self, implies_true]
theorem execPairEnable_kept (v : Word) (f : PairFacts) (s : State) : OutKept s (execPairEnable v f s) := by
  simp only [execPairEnable, ↓State.writePairCtrl_kept, ↓State.kept_mk, ↓State.kept_fold, ↓each_kept, ↓foldl_kept,
    ↓when_kept, ↓kept_ite, ↓OutKept_ite, ↓OutKept_next, ↓OutKept_fault, ↓OutKept_refused, ite_self, implies_true]
theorem execTakeover_kept (v : Word) (s : State) : OutKept s (execTakeover v s) := by
  simp only [execTakeover, ↓State.writePairCtrl_kept, ↓State.kept_mk, ↓State.kept_fold, ↓each_kept, ↓foldl_kept,
    ↓when_kept, ↓kept_ite, ↓OutKept_ite, ↓OutKept_next, ↓OutKept_fault, ↓OutKept_refused, ite_self, implies_true]
theorem execRelease_kept (v : Word) (fenceIn : Bool) (s : State) : OutKept s (execRelease v fenceIn s) := by
  simp only [execRelease, ↓State.putB_kept, ↓State.writePairCtrl_kept, ↓State.kept_mk, ↓State.kept_fold, ↓each_kept,
    ↓foldl_kept, ↓when_kept, ↓kept_ite, ↓OutKept_ite, ↓OutKept_next, ↓OutKept_fault, ↓OutKept_refused, ite_self,
    implies_true]
theorem execRejoin_kept (v : Word) (s : State) : OutKept s (execRejoin v s) := by
  simp only [execRejoin, ↓State.writePairCtrl_kept, ↓State.kept_mk, ↓State.kept_fold, ↓each_kept, ↓foldl_kept,
    ↓when_kept, ↓kept_ite, ↓OutKept_ite, ↓OutKept_next, ↓OutKept_fault, ↓OutKept_refused, ite_self, implies_true]
theorem execResync_kept (v : Word) (s : State) : OutKept s (execResync v s) := by
  simp only [execResync, ↓State.writePairCtrl_kept, ↓State.kept_mk, ↓State.kept_fold, ↓each_kept, ↓foldl_kept,
    ↓when_kept, ↓kept_ite, ↓OutKept_ite, ↓OutKept_next, ↓OutKept_fault, ↓OutKept_refused, ite_self, implies_true]
theorem execPairSyncComplete_kept (s : State) : OutKept s (execPairSyncComplete s) := by
  simp only [execPairSyncComplete, ↓State.pairEvent_kept, ↓State.put_kept, ↓State.setPairState_kept, ↓State.kept_mk,
    ↓State.kept_fold, ↓each_kept, ↓foldl_kept, ↓when_kept, ↓kept_ite, ↓OutKept_ite, ↓OutKept_next, ↓OutKept_fault,
    ↓OutKept_refused, ite_self, implies_true]
theorem State.applyChange_kept (s : State) (ch : Change) : (State.applyChange s ch).kept = s.kept := by
  unfold State.applyChange; (repeat' split) <;> simp (maxDischargeDepth := 9) only [↓State.clearValid_kept,
    ↓State.count_kept, ↓State.put_kept, ↓State.putB_kept, ↓State.setCtx_kept, ↓State.setOut_kept,
    ↓State.setSeq_kept, ↓State.setTimer_kept, ↓State.setValid_kept, ↓State.setWord_kept, ↓State.storeWord_kept,
    ↓State.kept_mk, ↓State.kept_fold, ↓each_kept, ↓foldl_kept, ↓when_kept, ↓kept_ite, ↓OutKept_ite, ↓OutKept_next,
    ↓OutKept_fault, ↓OutKept_refused, ite_self, implies_true]
theorem execMirrorChange_kept (position : Nat) (ch : Change) (s : State) : OutKept s (execMirrorChange position ch s) := by
  simp only [execMirrorChange, ↓State.applyChange_kept, ↓State.kept_mk, ↓State.kept_fold, ↓each_kept, ↓foldl_kept,
    ↓when_kept, ↓kept_ite, ↓OutKept_ite, ↓OutKept_next, ↓OutKept_fault, ↓OutKept_refused, ite_self, implies_true]
theorem State.takeAck_kept (s : State) (position : Nat) : (State.takeAck s position).kept = s.kept := by
  simp only [State.takeAck, ↓State.progressAll_kept, ↓State.showLag_kept, ↓State.kept_mk, ↓State.kept_fold,
    ↓each_kept, ↓foldl_kept, ↓when_kept, ↓kept_ite, ↓OutKept_ite, ↓OutKept_next, ↓OutKept_fault, ↓OutKept_refused,
    ite_self, implies_true]
theorem execMirrorAck_kept (position : Nat) (s : State) : OutKept s (execMirrorAck position s) := by
  simp only [execMirrorAck, ↓State.takeAck_kept, ↓State.kept_mk, ↓State.kept_fold, ↓each_kept, ↓foldl_kept,
    ↓when_kept, ↓kept_ite, ↓OutKept_ite, ↓OutKept_next, ↓OutKept_fault, ↓OutKept_refused, ite_self, implies_true]
theorem execHeartbeatSend_kept (s : State) : OutKept s (execHeartbeatSend s) := by
  simp only [execHeartbeatSend, ↓State.kept_mk, ↓State.kept_fold, ↓each_kept, ↓foldl_kept, ↓when_kept, ↓kept_ite,
    ↓OutKept_ite, ↓OutKept_next, ↓OutKept_fault, ↓OutKept_refused, ite_self, implies_true]
theorem execHeartbeatReceived_kept (h : Heartbeat) (s : State) : OutKept s (execHeartbeatReceived h s) := by
  simp only [execHeartbeatReceived, ↓State.setPairState_kept, ↓State.startCopy_kept, ↓State.takeAck_kept,
    ↓State.kept_mk, ↓State.kept_fold, ↓each_kept, ↓foldl_kept, ↓when_kept, ↓kept_ite, ↓OutKept_ite, ↓OutKept_next,
    ↓OutKept_fault, ↓OutKept_refused, ite_self, implies_true]
theorem execHeartbeatMiss_kept (s : State) : OutKept s (execHeartbeatMiss s) := by
  simp only [execHeartbeatMiss, ↓State.count_kept, ↓State.startTakeover_kept, ↓State.kept_mk, ↓State.kept_fold,
    ↓each_kept, ↓foldl_kept, ↓when_kept, ↓kept_ite, ↓OutKept_ite, ↓OutKept_next, ↓OutKept_fault, ↓OutKept_refused,
    ite_self, implies_true]
theorem execPrimaryAlone_kept (s : State) : OutKept s (execPrimaryAlone s) := by
  simp only [execPrimaryAlone, ↓State.pairEvent_kept, ↓State.stopMirroring_kept, ↓State.kept_mk, ↓State.kept_fold,
    ↓each_kept, ↓foldl_kept, ↓when_kept, ↓kept_ite, ↓OutKept_ite, ↓OutKept_next, ↓OutKept_fault, ↓OutKept_refused,
    ite_self, implies_true]
theorem execFenceReadback_kept (high : Bool) (s : State) : OutKept s (execFenceReadback high s) := by
  simp only [execFenceReadback, ↓State.pairEvent_kept, ↓State.put_kept, ↓State.setPairState_kept, ↓State.kept_mk,
    ↓State.kept_fold, ↓each_kept, ↓foldl_kept, ↓when_kept, ↓kept_ite, ↓OutKept_ite, ↓OutKept_next, ↓OutKept_fault,
    ↓OutKept_refused, ite_self, implies_true]
theorem State.becomeFenced_kept (s : State) : (State.becomeFenced s).kept = s.kept := by
  simp only [State.becomeFenced, ↓State.pairEvent_kept, ↓State.releaseOut_kept, ↓State.setPairState_kept,
    ↓State.showLag_kept, ↓State.kept_mk, ↓State.kept_fold, ↓each_kept, ↓foldl_kept, ↓when_kept, ↓kept_ite,
    ↓OutKept_ite, ↓OutKept_next, ↓OutKept_fault, ↓OutKept_refused, ite_self, implies_true]
theorem execFenceIn_kept (both : Bool) (s : State) : OutKept s (execFenceIn both s) := by
  simp only [execFenceIn, ↓State.becomeFenced_kept, ↓State.put_kept, ↓State.kept_mk, ↓State.kept_fold, ↓each_kept,
    ↓foldl_kept, ↓when_kept, ↓kept_ite, ↓OutKept_ite, ↓OutKept_next, ↓OutKept_fault, ↓OutKept_refused, ite_self,
    implies_true]
theorem State.strangeRecord_kept (s : State) (n : Nat) : (s.strangeRecord n).2.kept = s.kept := by
  exact Eq.mp rfl rfl
theorem State.adopt_kept (s : State) (n k : Nat) : (s.adopt n k).kept = s.kept := by
  induction k generalizing s with
  | zero => rfl
  | succ k ih =>
    unfold State.adopt
    cases h : s.nextRecord n with
    | none =>
      dsimp only
      rw [ih, State.countRecord_kept, State.stepDone_kept, State.setCtx_kept, State.strangeRecord_kept]
    | some r =>
      dsimp only
      rw [ih, State.countRecord_kept, State.stepDone_kept, State.setCtx_kept]
theorem State.takeContext_kept (s : State) (n present : Nat) : (State.takeContext s n present).kept = s.kept := by
  simp only [State.takeContext, ↓State.adopt_kept, ↓State.put_kept, ↓State.setCtx_kept, ↓State.kept_mk,
    ↓State.kept_fold, ↓each_kept, ↓foldl_kept, ↓when_kept, ↓kept_ite, ↓OutKept_ite, ↓OutKept_next, ↓OutKept_fault,
    ↓OutKept_refused, ite_self, implies_true]
theorem State.takeTasks_kept (s : State) : (State.takeTasks s).kept = s.kept := by
  simp only [State.takeTasks, ↓State.returnOne_kept, ↓State.setReady_kept, ↓State.setRunning_kept, ↓State.kept_mk,
    ↓State.kept_fold, ↓each_kept, ↓foldl_kept, ↓when_kept, ↓kept_ite, ↓OutKept_ite, ↓OutKept_next, ↓OutKept_fault,
    ↓OutKept_refused, ite_self, implies_true]
theorem State.takeRoot_kept (s : State) : (State.takeRoot s).kept = s.kept := by
  simp only [State.takeRoot, ↓State.changeRole_kept, ↓State.put_kept, ↓State.setTl_kept, ↓State.showMarks_kept,
    ↓State.kept_mk, ↓State.kept_fold, ↓each_kept, ↓foldl_kept, ↓when_kept, ↓kept_ite, ↓OutKept_ite, ↓OutKept_next,
    ↓OutKept_fault, ↓OutKept_refused, ite_self, implies_true]
theorem execTakeoverSettle_kept (ctxs : List TakeoverCtx) (s : State) : OutKept s (execTakeoverSettle ctxs s) := by
  simp only [execTakeoverSettle, ↓State.count_kept, ↓State.pairEvent_kept, ↓State.passOut_kept,
    ↓State.progressAll_kept, ↓State.put_kept, ↓State.setPairState_kept, ↓State.takeContext_kept,
    ↓State.takeRoot_kept, ↓State.takeTasks_kept, ↓State.kept_mk, ↓State.kept_fold, ↓each_kept, ↓foldl_kept,
    ↓when_kept, ↓kept_ite, ↓OutKept_ite, ↓OutKept_next, ↓OutKept_fault, ↓OutKept_refused, ite_self, implies_true]
theorem State.setKey_kept (s : State) (n id : Nat) (k : Option (BitVec 256)) : (State.setKey s n id k).kept = s.kept := by
  simp only [State.setKey, ↓State.fresh_kept, ↓State.put_kept, ↓State.setMpe_kept, ↓State.setRgn_kept,
    ↓State.kept_mk, ↓State.kept_fold, ↓each_kept, ↓foldl_kept, ↓when_kept, ↓kept_ite, ↓OutKept_ite, ↓OutKept_next,
    ↓OutKept_fault, ↓OutKept_refused, ite_self, implies_true]
theorem State.writeKeyCmd_kept (s : State) (n : Nat) (sender : Sender) (v : Word) : (State.writeKeyCmd s n sender v).kept = s.kept := by
  simp only [State.writeKeyCmd, ↓State.put_kept, ↓State.putWide_kept, ↓State.raise_kept, ↓State.setKey_kept,
    ↓State.write_kept, ↓State.kept_mk, ↓State.kept_fold, ↓each_kept, ↓foldl_kept, ↓when_kept, ↓kept_ite,
    ↓OutKept_ite, ↓OutKept_next, ↓OutKept_fault, ↓OutKept_refused, ite_self, implies_true]
theorem execKeyLoad_kept (n : Fin 8) (sender : Sender) (v : Word) (s : State) : OutKept s (execKeyLoad n sender v s) := by
  simp only [execKeyLoad, ↓State.writeKeyCmd_kept, ↓State.kept_mk, ↓State.kept_fold, ↓each_kept, ↓foldl_kept,
    ↓when_kept, ↓kept_ite, ↓OutKept_ite, ↓OutKept_next, ↓OutKept_fault, ↓OutKept_refused, ite_self, implies_true]
theorem execKeyErase_kept (n : Fin 8) (sender : Sender) (v : Word) (s : State) : OutKept s (execKeyErase n sender v s) := by
  simp only [execKeyErase, ↓State.writeKeyCmd_kept, ↓State.kept_mk, ↓State.kept_fold, ↓each_kept, ↓foldl_kept,
    ↓when_kept, ↓kept_ite, ↓OutKept_ite, ↓OutKept_next, ↓OutKept_fault, ↓OutKept_refused, ite_self, implies_true]
theorem State.writeKeyMode_kept (s : State) (n j : Nat) (sender : Sender) (v : Word) : (State.writeKeyMode s n j sender v).kept = s.kept := by
  simp only [State.writeKeyMode, ↓State.put_kept, ↓State.kept_mk, ↓State.kept_fold, ↓each_kept, ↓foldl_kept,
    ↓when_kept, ↓kept_ite, ↓OutKept_ite, ↓OutKept_next, ↓OutKept_fault, ↓OutKept_refused, ite_self, implies_true]
theorem State.rgnAnswer_kept (s : State) (n r result reason : Nat) : (State.rgnAnswer s n r result reason).kept = s.kept := by
  simp only [State.rgnAnswer, ↓State.put_kept, ↓State.kept_mk, ↓State.kept_fold, ↓each_kept, ↓foldl_kept,
    ↓when_kept, ↓kept_ite, ↓OutKept_ite, ↓OutKept_next, ↓OutKept_fault, ↓OutKept_refused, ite_self, implies_true]
theorem State.startInit_kept (s : State) (n r a m : Nat) (restart : Bool) : (State.startInit s n r a m restart).kept = s.kept := by
  simp only [State.startInit, ↓State.fresh_kept, ↓State.put_kept, ↓State.putWide_kept, ↓State.rgnAnswer_kept,
    ↓State.setRgn_kept, ↓State.setRgnState_kept, ↓State.setRoot_kept, ↓State.kept_mk, ↓State.kept_fold, ↓each_kept,
    ↓foldl_kept, ↓when_kept, ↓kept_ite, ↓OutKept_ite, ↓OutKept_next, ↓OutKept_fault, ↓OutKept_refused, ite_self,
    implies_true]
theorem State.writeRgnCfg_kept (s : State) (n r : Nat) (v : Word) : (State.writeRgnCfg s n r v).kept = s.kept := by
  unfold State.writeRgnCfg
  dsimp only
  generalize h0 : (s.when (decide (s.rgnState n r = 0) || decide (s.rgnState n r = 4) || decide (s.rgnState n r = 5)) fun s =>
    s.put (Reg.MPE_RGN_CFG.key n r) (bitsOf v 5 0)) = u
  have hu : u.kept = s.kept := by rw [← h0]; exact when_kept _ _ _ fun _ => State.put_kept ..
  generalize h1 : (if (bit v 31 && (!u.is (Reg.MPE_RGN_CFG.enable n r) || decide (s.rgnState n r = 0))) = true then _ else _) = w
  have hw : w.kept = s.kept := by
    rw [← h1, ← hu]
    repeat' with_reducible first
      | rfl
      | split
    all_goals simp only [State.raise_kept, State.rgnAnswer_kept, State.startInit_kept, State.put_kept, State.settleRegions_kept,
      State.setRgn_kept]
  rw [← hw]
  repeat' with_reducible first
    | rfl
    | exact State.rgnAnswer_kept ..
    | exact State.startInit_kept ..
    | split
theorem execRegionEnable_kept (n : Fin 8) (r : Fin 8) (v : Word) (s : State) : OutKept s (execRegionEnable n r v s) := by
  simp only [execRegionEnable, ↓State.writeRgnCfg_kept, ↓State.kept_mk, ↓State.kept_fold, ↓each_kept, ↓foldl_kept,
    ↓when_kept, ↓kept_ite, ↓OutKept_ite, ↓OutKept_next, ↓OutKept_fault, ↓OutKept_refused, ite_self, implies_true]
theorem execRegionDisable_kept (n : Fin 8) (r : Fin 8) (v : Word) (s : State) : OutKept s (execRegionDisable n r v s) := by
  simp only [execRegionDisable, ↓State.writeRgnCfg_kept, ↓State.kept_mk, ↓State.kept_fold, ↓each_kept, ↓foldl_kept,
    ↓when_kept, ↓kept_ite, ↓OutKept_ite, ↓OutKept_next, ↓OutKept_fault, ↓OutKept_refused, ite_self, implies_true]
theorem execInitGo_kept (n : Fin 8) (r : Fin 8) (v : Word) (s : State) : OutKept s (execInitGo n r v s) := by
  simp only [execInitGo, ↓State.writeRgnCfg_kept, ↓State.kept_mk, ↓State.kept_fold, ↓each_kept, ↓foldl_kept,
    ↓when_kept, ↓kept_ite, ↓OutKept_ite, ↓OutKept_next, ↓OutKept_fault, ↓OutKept_refused, ite_self, implies_true]
theorem execInitComplete_kept (n : Fin 8) (r : Fin 8) (s : State) : OutKept s (execInitComplete n r s) := by
  unfold execInitComplete; (repeat' split) <;> simp (maxDischargeDepth := 9) only [↓State.loseLines_kept,
    ↓State.mpeEvent_kept, ↓State.setMpe_kept, ↓State.setRgn_kept, ↓State.setRgnState_kept, ↓State.kept_mk,
    ↓State.kept_fold, ↓each_kept, ↓foldl_kept, ↓when_kept, ↓kept_ite, ↓OutKept_ite, ↓OutKept_next, ↓OutKept_fault,
    ↓OutKept_refused, ite_self, implies_true]
theorem execNodeFetch_kept (n : Fin 8) (r : Fin 8) (level : Fin 9) (index : BitVec 26) (good fromCache : Bool) (s : State) : OutKept s (execNodeFetch n r level index good fromCache s) := by
  simp only [execNodeFetch, ↓State.addPoison_kept, ↓State.cacheNode_kept, ↓State.checkRoot_kept, ↓State.count_kept,
    ↓State.log_kept, ↓State.setMpe_kept, ↓State.kept_mk, ↓State.kept_fold, ↓each_kept, ↓foldl_kept, ↓when_kept,
    ↓kept_ite, ↓OutKept_ite, ↓OutKept_next, ↓OutKept_fault, ↓OutKept_refused, ite_self, implies_true]
theorem State.reencryptLine_kept (s : State) (n r l : Nat) (old new : LineCtr) (fails : Bool) : (State.reencryptLine s n r l old new fails).kept = s.kept := by
  simp only [State.reencryptLine, ↓State.rawLine_kept, ↓State.setRgn_kept, ↓State.storeLine_kept, ↓State.kept_mk,
    ↓State.kept_fold, ↓each_kept, ↓foldl_kept, ↓when_kept, ↓kept_ite, ↓OutKept_ite, ↓OutKept_next, ↓OutKept_fault,
    ↓OutKept_refused, ite_self, implies_true]
theorem execReencryptionComplete_kept (n : Fin 8) (r : Fin 8) (group : Nat) (failed : List (Fin 64)) (s : State) : OutKept s (execReencryptionComplete n r group failed s) := by
  unfold execReencryptionComplete; (repeat' split) <;> simp (maxDischargeDepth := 9) only [↓State.count_kept,
    ↓State.dramAccept_kept, ↓State.markNode_kept, ↓State.putWide_kept, ↓State.reencryptLine_kept,
    ↓State.setRgn_kept, ↓State.setRoot_kept, ↓State.kept_mk, ↓State.kept_fold, ↓each_kept, ↓foldl_kept, ↓when_kept,
    ↓kept_ite, ↓OutKept_ite, ↓OutKept_next, ↓OutKept_fault, ↓OutKept_refused, ite_self, implies_true]
theorem State.cmdAccepted_kept (s : State) (n : Nat) : (State.cmdAccepted s n).kept = s.kept := by
  simp only [State.cmdAccepted, ↓State.put_kept, ↓State.kept_mk, ↓State.kept_fold, ↓each_kept, ↓foldl_kept,
    ↓when_kept, ↓kept_ite, ↓OutKept_ite, ↓OutKept_next, ↓OutKept_fault, ↓OutKept_refused, ite_self, implies_true]
theorem State.cmdRefused_kept (s : State) (n reason : Nat) : (State.cmdRefused s n reason).kept = s.kept := by
  simp only [State.cmdRefused, ↓State.put_kept, ↓State.kept_mk, ↓State.kept_fold, ↓each_kept, ↓foldl_kept,
    ↓when_kept, ↓kept_ite, ↓OutKept_ite, ↓OutKept_next, ↓OutKept_fault, ↓OutKept_refused, ite_self, implies_true]
theorem State.defineStall_kept (s : State) (n : Nat) : (State.defineStall s n).kept = s.kept := by
  unfold State.defineStall; (repeat' split) <;> simp (maxDischargeDepth := 9) only [↓State.cmdAccepted_kept,
    ↓State.cmdRefused_kept, ↓State.put_kept, ↓State.setShadow_kept, ↓State.setStall_kept, ↓State.swapResult_kept,
    ↓State.kept_mk, ↓State.kept_fold, ↓each_kept, ↓foldl_kept, ↓when_kept, ↓kept_ite, ↓OutKept_ite, ↓OutKept_next,
    ↓OutKept_fault, ↓OutKept_refused, ite_self, implies_true]
theorem State.undefineStall_kept (s : State) (n : Nat) : (State.undefineStall s n).kept = s.kept := by
  simp only [State.undefineStall, ↓State.cmdAccepted_kept, ↓State.cmdRefused_kept, ↓State.freeDynamic_kept,
    ↓State.openStallQuays_kept, ↓State.put_kept, ↓State.returnTasks_kept, ↓State.setStall_kept, ↓State.kept_mk,
    ↓State.kept_fold, ↓each_kept, ↓foldl_kept, ↓when_kept, ↓kept_ite, ↓OutKept_ite, ↓OutKept_next, ↓OutKept_fault,
    ↓OutKept_refused, ite_self, implies_true]
theorem State.commandSwap_kept (s : State) (n : Nat) (timed swapClk : Bool) : (s.commandSwap n timed swapClk).kept = s.kept := by
  unfold State.commandSwap
  dsimp only
  split_ifs <;> simp only [State.cmdAccepted_kept, State.cmdRefused_kept, State.requestSwap_kept]
theorem State.cancelSwap_kept (s : State) (n : Nat) : (State.cancelSwap s n).kept = s.kept := by
  unfold State.cancelSwap; (repeat' split) <;> simp (maxDischargeDepth := 9) only [↓State.abandonSwap_kept,
    ↓State.cmdAccepted_kept, ↓State.cmdRefused_kept, ↓State.stallEvent_kept, ↓State.kept_mk, ↓State.kept_fold,
    ↓each_kept, ↓foldl_kept, ↓when_kept, ↓kept_ite, ↓OutKept_ite, ↓OutKept_next, ↓OutKept_fault, ↓OutKept_refused,
    ite_self, implies_true]
theorem State.commandRefill_kept (s : State) (n : Nat) : (State.commandRefill s n).kept = s.kept := by
  simp only [State.commandRefill, ↓State.cmdAccepted_kept, ↓State.cmdRefused_kept, ↓State.startRefill_kept,
    ↓State.kept_mk, ↓State.kept_fold, ↓each_kept, ↓foldl_kept, ↓when_kept, ↓kept_ite, ↓OutKept_ite, ↓OutKept_next,
    ↓OutKept_fault, ↓OutKept_refused, ite_self, implies_true]
theorem State.writeStlCmd_kept (s : State) (n : Nat) (v : Word) (swapClk : Bool) : (State.writeStlCmd s n v swapClk).kept = s.kept := by
  unfold State.writeStlCmd; dsimp only; (repeat' split) <;> simp (maxDischargeDepth := 9) only
    [↓State.cancelSwap_kept, ↓State.cmdAccepted_kept, ↓State.cmdRefused_kept, ↓State.commandRefill_kept,
    ↓State.commandSwap_kept, ↓State.defineStall_kept, ↓State.holdStall_kept, ↓State.put_kept,
    ↓State.releaseStall_kept, ↓State.undefineStall_kept, ↓State.kept_mk, ↓State.kept_fold, ↓each_kept, ↓foldl_kept,
    ↓when_kept, ↓kept_ite, ↓OutKept_ite, ↓OutKept_next, ↓OutKept_fault, ↓OutKept_refused, ite_self, implies_true]
theorem execDefine_kept (n : Fin 64) (v : Word) (s : State) : OutKept s (execDefine n v s) := by
  simp only [execDefine, ↓State.writeStlCmd_kept, ↓State.kept_mk, ↓State.kept_fold, ↓each_kept, ↓foldl_kept,
    ↓when_kept, ↓kept_ite, ↓OutKept_ite, ↓OutKept_next, ↓OutKept_fault, ↓OutKept_refused, ite_self, implies_true]
theorem execUndefine_kept (n : Fin 64) (v : Word) (s : State) : OutKept s (execUndefine n v s) := by
  simp only [execUndefine, ↓State.writeStlCmd_kept, ↓State.kept_mk, ↓State.kept_fold, ↓each_kept, ↓foldl_kept,
    ↓when_kept, ↓kept_ite, ↓OutKept_ite, ↓OutKept_next, ↓OutKept_fault, ↓OutKept_refused, ite_self, implies_true]
theorem execSwapNow_kept (n : Fin 64) (v : Word) (swapClk : Bool) (s : State) : OutKept s (execSwapNow n v swapClk s) := by
  simp only [execSwapNow, ↓State.writeStlCmd_kept, ↓State.kept_mk, ↓State.kept_fold, ↓each_kept, ↓foldl_kept,
    ↓when_kept, ↓kept_ite, ↓OutKept_ite, ↓OutKept_next, ↓OutKept_fault, ↓OutKept_refused, ite_self, implies_true]
theorem execSwapAt_kept (n : Fin 64) (v : Word) (swapClk : Bool) (s : State) : OutKept s (execSwapAt n v swapClk s) := by
  simp only [execSwapAt, ↓State.writeStlCmd_kept, ↓State.kept_mk, ↓State.kept_fold, ↓each_kept, ↓foldl_kept,
    ↓when_kept, ↓kept_ite, ↓OutKept_ite, ↓OutKept_next, ↓OutKept_fault, ↓OutKept_refused, ite_self, implies_true]
theorem execCancel_kept (n : Fin 64) (v : Word) (s : State) : OutKept s (execCancel n v s) := by
  simp only [execCancel, ↓State.writeStlCmd_kept, ↓State.kept_mk, ↓State.kept_fold, ↓each_kept, ↓foldl_kept,
    ↓when_kept, ↓kept_ite, ↓OutKept_ite, ↓OutKept_next, ↓OutKept_fault, ↓OutKept_refused, ite_self, implies_true]
theorem execResetHold_kept (n : Fin 64) (v : Word) (s : State) : OutKept s (execResetHold n v s) := by
  simp only [execResetHold, ↓State.writeStlCmd_kept, ↓State.kept_mk, ↓State.kept_fold, ↓each_kept, ↓foldl_kept,
    ↓when_kept, ↓kept_ite, ↓OutKept_ite, ↓OutKept_next, ↓OutKept_fault, ↓OutKept_refused, ite_self, implies_true]
theorem execResetRelease_kept (n : Fin 64) (v : Word) (s : State) : OutKept s (execResetRelease n v s) := by
  simp only [execResetRelease, ↓State.writeStlCmd_kept, ↓State.kept_mk, ↓State.kept_fold, ↓each_kept, ↓foldl_kept,
    ↓when_kept, ↓kept_ite, ↓OutKept_ite, ↓OutKept_next, ↓OutKept_fault, ↓OutKept_refused, ite_self, implies_true]
theorem execClear_kept (n : Fin 64) (v : Word) (s : State) : OutKept s (execClear n v s) := by
  simp only [execClear, ↓State.writeStlCmd_kept, ↓State.kept_mk, ↓State.kept_fold, ↓each_kept, ↓foldl_kept,
    ↓when_kept, ↓kept_ite, ↓OutKept_ite, ↓OutKept_next, ↓OutKept_fault, ↓OutKept_refused, ite_self, implies_true]
theorem execRefill_kept (n : Fin 64) (v : Word) (s : State) : OutKept s (execRefill n v s) := by
  simp only [execRefill, ↓State.writeStlCmd_kept, ↓State.kept_mk, ↓State.kept_fold, ↓each_kept, ↓foldl_kept,
    ↓when_kept, ↓kept_ite, ↓OutKept_ite, ↓OutKept_next, ↓OutKept_fault, ↓OutKept_refused, ite_self, implies_true]
theorem execClearComplete_kept (n : Fin 64) (s : State) : OutKept s (execClearComplete n s) := by
  simp only [execClearComplete, ↓State.freeDynamic_kept, ↓State.put_kept, ↓State.setShadow_kept, ↓State.kept_mk,
    ↓State.kept_fold, ↓each_kept, ↓foldl_kept, ↓when_kept, ↓kept_ite, ↓OutKept_ite, ↓OutKept_next, ↓OutKept_fault,
    ↓OutKept_refused, ite_self, implies_true]
theorem execDrainStart_kept (n : Fin 64) (s : State) : OutKept s (execDrainStart n s) := by
  unfold execDrainStart; dsimp only; (repeat' split) <;> simp (maxDischargeDepth := 9) only [↓State.beginDrain_kept,
    ↓State.reachTime_kept, ↓State.kept_mk, ↓State.kept_fold, ↓each_kept, ↓foldl_kept, ↓when_kept, ↓kept_ite,
    ↓OutKept_ite, ↓OutKept_next, ↓OutKept_fault, ↓OutKept_refused, ite_self, implies_true]
theorem State.flipStall_kept (s : State) (n : Nat) (w : Swap) : (State.flipStall s n w).kept = s.kept := by
  simp only [State.flipStall, ↓State.count_kept, ↓State.forceStallQuays_kept, ↓State.put_kept, ↓State.putB_kept,
    ↓State.putWide_kept, ↓State.restartStall_kept, ↓State.returnTasks_kept, ↓State.setStall_kept, ↓State.kept_mk,
    ↓State.kept_fold, ↓each_kept, ↓foldl_kept, ↓when_kept, ↓kept_ite, ↓OutKept_ite, ↓OutKept_next, ↓OutKept_fault,
    ↓OutKept_refused, ite_self, implies_true]
theorem execDrainComplete_kept (n : Fin 64) (s : State) : OutKept s (execDrainComplete n s) := by
  unfold execDrainComplete; dsimp only; (repeat' split) <;> simp (maxDischargeDepth := 9) only [↓State.drained_kept,
    ↓State.flipStall_kept, ↓State.setStall_kept, ↓State.kept_mk, ↓State.kept_fold, ↓each_kept, ↓foldl_kept,
    ↓when_kept, ↓kept_ite, ↓OutKept_ite, ↓OutKept_next, ↓OutKept_fault, ↓OutKept_refused, ite_self, implies_true]
theorem execDrainTimeout_kept (n : Fin 64) (s : State) : OutKept s (execDrainTimeout n s) := by
  unfold execDrainTimeout; dsimp only; (repeat' split) <;> simp (maxDischargeDepth := 9) only
    [↓State.abandonSwap_kept, ↓State.drained_kept, ↓State.flipStall_kept, ↓State.setStall_kept,
    ↓State.stallEvent_kept, ↓State.kept_mk, ↓State.kept_fold, ↓each_kept, ↓foldl_kept, ↓when_kept, ↓kept_ite,
    ↓OutKept_ite, ↓OutKept_next, ↓OutKept_fault, ↓OutKept_refused, ite_self, implies_true]
theorem execSwapFreeze_kept (n : Fin 64) (s : State) : OutKept s (execSwapFreeze n s) := by
  unfold execSwapFreeze; dsimp only; (repeat' split) <;> simp (maxDischargeDepth := 9) only
    [↓State.abandonSwap_kept, ↓State.drained_kept, ↓State.put_kept, ↓State.setStall_kept, ↓State.stallEvent_kept,
    ↓State.kept_mk, ↓State.kept_fold, ↓each_kept, ↓foldl_kept, ↓when_kept, ↓kept_ite, ↓OutKept_ite, ↓OutKept_next,
    ↓OutKept_fault, ↓OutKept_refused, ite_self, implies_true]
theorem execSwapFlip_kept (n : Fin 64) (edge : Time) (s : State) : OutKept s (execSwapFlip n edge s) := by
  unfold execSwapFlip; dsimp only; (repeat' split) <;> simp (maxDischargeDepth := 9) only [↓State.flipStall_kept,
    ↓State.reachTime_kept, ↓State.kept_mk, ↓State.kept_fold, ↓each_kept, ↓foldl_kept, ↓when_kept, ↓kept_ite,
    ↓OutKept_ite, ↓OutKept_next, ↓OutKept_fault, ↓OutKept_refused, ite_self, implies_true]
theorem State.finishSwap_kept (s : State) (n : Nat) (w : Swap) : (State.finishSwap s n w).kept = s.kept := by
  simp only [State.finishSwap, ↓State.dropSwap_kept, ↓State.openStallQuays_kept, ↓State.put_kept,
    ↓State.setShadow_kept, ↓State.stallEvent_kept, ↓State.startRefill_kept, ↓State.swapResult_kept, ↓State.kept_mk,
    ↓State.kept_fold, ↓each_kept, ↓foldl_kept, ↓when_kept, ↓kept_ite, ↓OutKept_ite, ↓OutKept_next, ↓OutKept_fault,
    ↓OutKept_refused, ite_self, implies_true]
theorem execSwapRelease_kept (n : Fin 64) (s : State) : OutKept s (execSwapRelease n s) := by
  unfold execSwapRelease; (repeat' split) <;> simp (maxDischargeDepth := 9) only [↓State.finishSwap_kept,
    ↓State.kept_mk, ↓State.kept_fold, ↓each_kept, ↓foldl_kept, ↓when_kept, ↓kept_ite, ↓OutKept_ite, ↓OutKept_next,
    ↓OutKept_fault, ↓OutKept_refused, ite_self, implies_true]
theorem execSwapClockLost_kept (n : Fin 64) (s : State) : OutKept s (execSwapClockLost n s) := by
  unfold execSwapClockLost; dsimp only; (repeat' split) <;> simp (maxDischargeDepth := 9) only [↓State.drained_kept,
    ↓State.flipStall_kept, ↓State.setStall_kept, ↓State.kept_mk, ↓State.kept_fold, ↓each_kept, ↓foldl_kept,
    ↓when_kept, ↓kept_ite, ↓OutKept_ite, ↓OutKept_next, ↓OutKept_fault, ↓OutKept_refused, ite_self, implies_true]
theorem execContentFrame_kept (n : Fin 64) (addr : Word) (f : Frame) (readOk tagOk : Bool) (s : State) : OutKept s (execContentFrame n addr f readOk tagOk s) := by
  unfold execContentFrame; dsimp only; (repeat' split) <;> simp (maxDischargeDepth := 9) only [↓State.dropSwap_kept,
    ↓State.put_kept, ↓State.raise_kept, ↓State.setShadow_kept, ↓State.setStall_kept, ↓State.swapResult_kept,
    ↓State.writeContent_kept, ↓State.kept_mk, ↓State.kept_fold, ↓each_kept, ↓foldl_kept, ↓when_kept, ↓kept_ite,
    ↓OutKept_ite, ↓OutKept_next, ↓OutKept_fault, ↓OutKept_refused, ite_self, implies_true]
theorem execContentPhaseEnd_kept (n : Fin 64) (s : State) : OutKept s (execContentPhaseEnd n s) := by
  unfold execContentPhaseEnd; dsimp only; (repeat' split) <;> simp (maxDischargeDepth := 9) only
    [↓State.finishSwap_kept, ↓State.kept_mk, ↓State.kept_fold, ↓each_kept, ↓foldl_kept, ↓when_kept, ↓kept_ite,
    ↓OutKept_ite, ↓OutKept_next, ↓OutKept_fault, ↓OutKept_refused, ite_self, implies_true]
theorem State.flashStore_kept (s : State) (a : Nat) (bs : List Byte) : (State.flashStore s a bs).kept = s.kept := by
  simp only [State.flashStore, ↓State.kept_mk, ↓State.kept_fold, ↓each_kept, ↓foldl_kept, ↓when_kept, ↓kept_ite,
    ↓OutKept_ite, ↓OutKept_next, ↓OutKept_fault, ↓OutKept_refused, ite_self, implies_true]
theorem State.flashProgramBytes_kept (s : State) (a : Nat) (bs : List Byte) : (State.flashProgramBytes s a bs).kept = s.kept := by
  simp only [State.flashProgramBytes, ↓State.flashStore_kept, ↓State.kept_mk, ↓State.kept_fold, ↓each_kept,
    ↓foldl_kept, ↓when_kept, ↓kept_ite, ↓OutKept_ite, ↓OutKept_next, ↓OutKept_fault, ↓OutKept_refused, ite_self,
    implies_true]
theorem State.flashErase_kept (s : State) (a n : Nat) : (State.flashErase s a n).kept = s.kept := by
  simp only [State.flashErase, ↓State.kept_mk, ↓State.kept_fold, ↓each_kept, ↓foldl_kept, ↓when_kept, ↓kept_ite,
    ↓OutKept_ite, ↓OutKept_next, ↓OutKept_fault, ↓OutKept_refused, ite_self, implies_true]
theorem State.flashSpoil_kept (s : State) (a n : Nat) : (State.flashSpoil s a n).kept = s.kept := by
  simp only [State.flashSpoil, ↓State.flashStore_kept, ↓State.fresh_kept, ↓State.kept_mk, ↓State.kept_fold,
    ↓each_kept, ↓foldl_kept, ↓when_kept, ↓kept_ite, ↓OutKept_ite, ↓OutKept_next, ↓OutKept_fault, ↓OutKept_refused,
    ite_self, implies_true]
theorem State.setLoad_kept (s : State) (l : CfgLoad) : (State.setLoad s l).kept = s.kept := by
  simp only [State.setLoad, ↓State.kept_mk, ↓State.kept_fold, ↓each_kept, ↓foldl_kept, ↓when_kept, ↓kept_ite,
    ↓OutKept_ite, ↓OutKept_next, ↓OutKept_fault, ↓OutKept_refused, ite_self, implies_true]
theorem State.dropLoad_kept (s : State) : (State.dropLoad s).kept = s.kept := by
  simp only [State.dropLoad, ↓State.kept_mk, ↓State.kept_fold, ↓each_kept, ↓foldl_kept, ↓when_kept, ↓kept_ite,
    ↓OutKept_ite, ↓OutKept_next, ↓OutKept_fault, ↓OutKept_refused, ite_self, implies_true]
theorem State.beginLoad_kept (s : State) (l : CfgLoad) : (State.beginLoad s l).kept = s.kept := by
  simp only [State.beginLoad, ↓State.put_kept, ↓State.setLoad_kept, ↓State.kept_mk, ↓State.kept_fold, ↓each_kept,
    ↓foldl_kept, ↓when_kept, ↓kept_ite, ↓OutKept_ite, ↓OutKept_next, ↓OutKept_fault, ↓OutKept_refused, ite_self,
    implies_true]
theorem State.startTest_kept (s : State) : (State.startTest s).kept = s.kept := by
  simp only [State.startTest, ↓State.put_kept, ↓State.kept_mk, ↓State.kept_fold, ↓each_kept, ↓foldl_kept,
    ↓when_kept, ↓kept_ite, ↓OutKept_ite, ↓OutKept_next, ↓OutKept_fault, ↓OutKept_refused, ite_self, implies_true]
theorem State.loadEnded_kept (s : State) : (State.loadEnded s).kept = s.kept := by
  simp only [State.loadEnded, ↓State.startTest_kept, ↓State.kept_mk, ↓State.kept_fold, ↓each_kept, ↓foldl_kept,
    ↓when_kept, ↓kept_ite, ↓OutKept_ite, ↓OutKept_next, ↓OutKept_fault, ↓OutKept_refused, ite_self, implies_true]
theorem State.stopTracks_kept (s : State) : (State.stopTracks s).kept = s.kept := by
  simp only [State.stopTracks, ↓State.put_kept, ↓State.kept_mk, ↓State.kept_fold, ↓each_kept, ↓foldl_kept,
    ↓when_kept, ↓kept_ite, ↓OutKept_ite, ↓OutKept_next, ↓OutKept_fault, ↓OutKept_refused, ite_self, implies_true]
theorem State.startTracks_kept (s : State) : (State.startTracks s).kept = s.kept := by
  simp only [State.startTracks, ↓State.fresh_kept, ↓State.setTrack_kept, ↓State.showTrack_kept, ↓State.kept_mk,
    ↓State.kept_fold, ↓each_kept, ↓foldl_kept, ↓when_kept, ↓kept_ite, ↓OutKept_ite, ↓OutKept_next, ↓OutKept_fault,
    ↓OutKept_refused, ite_self, implies_true]
theorem State.closeForLoad_kept (s : State) : (State.closeForLoad s).kept = s.kept := by
  simp only [State.closeForLoad, ↓State.closePort_kept, ↓State.stopTracks_kept, ↓State.kept_mk, ↓State.kept_fold,
    ↓each_kept, ↓foldl_kept, ↓when_kept, ↓kept_ite, ↓OutKept_ite, ↓OutKept_next, ↓OutKept_fault, ↓OutKept_refused,
    ite_self, implies_true]
theorem State.fullStart_kept (s : State) : (State.fullStart s).kept = s.kept := by
  simp only [State.fullStart, ↓State.put_kept, ↓State.stopScrub_kept, ↓State.undefineAll_kept, ↓State.kept_mk,
    ↓State.kept_fold, ↓each_kept, ↓foldl_kept, ↓when_kept, ↓kept_ite, ↓OutKept_ite, ↓OutKept_next, ↓OutKept_fault,
    ↓OutKept_refused, ite_self, implies_true]
theorem State.bulkClear_kept (s : State) : (State.bulkClear s).kept = s.kept := by
  simp only [State.bulkClear, ↓State.clearMemories_kept, ↓State.kept_mk, ↓State.kept_fold, ↓each_kept, ↓foldl_kept,
    ↓when_kept, ↓kept_ite, ↓OutKept_ite, ↓OutKept_next, ↓OutKept_fault, ↓OutKept_refused, ite_self, implies_true]
theorem State.clearFabric_kept (s : State) : (State.clearFabric s).kept = s.kept := by
  simp only [State.clearFabric, ↓State.bulkClear_kept, ↓State.closePort_kept, ↓State.fullStart_kept,
    ↓State.stopTracks_kept, ↓State.kept_mk, ↓State.kept_fold, ↓each_kept, ↓foldl_kept, ↓when_kept, ↓kept_ite,
    ↓OutKept_ite, ↓OutKept_next, ↓OutKept_fault, ↓OutKept_refused, ite_self, implies_true]
theorem State.logLoad_kept (s : State) (l : CfgLoad) (code off info1 : Nat) : (State.logLoad s l code off info1).kept = s.kept := by
  simp only [State.logLoad, ↓State.alert_kept, ↓State.put_kept, ↓State.putWide_kept, ↓State.raise_kept,
    ↓State.kept_mk, ↓State.kept_fold, ↓each_kept, ↓foldl_kept, ↓when_kept, ↓kept_ite, ↓OutKept_ite, ↓OutKept_next,
    ↓OutKept_fault, ↓OutKept_refused, ite_self, implies_true]
theorem State.fallBack_kept (s : State) : (State.fallBack s).kept = s.kept := by
  simp only [State.fallBack, ↓State.alert_kept, ↓State.beginLoad_kept, ↓State.put_kept, ↓State.raise_kept,
    ↓State.kept_mk, ↓State.kept_fold, ↓each_kept, ↓foldl_kept, ↓when_kept, ↓kept_ite, ↓OutKept_ite, ↓OutKept_next,
    ↓OutKept_fault, ↓OutKept_refused, ite_self, implies_true]
theorem State.noImage_kept (s : State) (off : Nat) : (State.noImage s off).kept = s.kept := by
  simp only [State.noImage, ↓State.log_kept, ↓State.put_kept, ↓State.kept_mk, ↓State.kept_fold, ↓each_kept,
    ↓foldl_kept, ↓when_kept, ↓kept_ite, ↓OutKept_ite, ↓OutKept_next, ↓OutKept_fault, ↓OutKept_refused, ite_self,
    implies_true]
theorem State.failLoad_kept (s : State) (code off info1 : Nat) : (State.failLoad s code off info1).kept = s.kept := by
  unfold State.failLoad; (repeat' split) <;> simp (maxDischargeDepth := 9) only [↓State.clearFabric_kept,
    ↓State.dropLoad_kept, ↓State.fallBack_kept, ↓State.loadEnded_kept, ↓State.logLoad_kept, ↓State.noImage_kept,
    ↓State.put_kept, ↓State.setShadow_kept, ↓State.kept_mk, ↓State.kept_fold, ↓each_kept, ↓foldl_kept, ↓when_kept,
    ↓kept_ite, ↓OutKept_ite, ↓OutKept_next, ↓OutKept_fault, ↓OutKept_refused, ite_self, implies_true]
theorem State.failHere_kept (s : State) (code : Nat) : (State.failHere s code).kept = s.kept := by
  unfold State.failHere; (repeat' split) <;> simp (maxDischargeDepth := 9) only [↓State.failLoad_kept,
    ↓State.kept_mk, ↓State.kept_fold, ↓each_kept, ↓foldl_kept, ↓when_kept, ↓kept_ite, ↓OutKept_ite, ↓OutKept_next,
    ↓OutKept_fault, ↓OutKept_refused, ite_self, implies_true]
theorem State.failStallLoad_kept (s : State) (n : Nat) : (State.failStallLoad s n).kept = s.kept := by
  simp only [State.failStallLoad, ↓State.failHere_kept, ↓State.kept_mk, ↓State.kept_fold, ↓each_kept, ↓foldl_kept,
    ↓when_kept, ↓kept_ite, ↓OutKept_ite, ↓OutKept_next, ↓OutKept_fault, ↓OutKept_refused, ite_self, implies_true]
theorem State.chooseSlot_kept (s : State) : (State.chooseSlot s).kept = s.kept := by
  unfold State.chooseSlot; dsimp only; (repeat' split) <;> simp (maxDischargeDepth := 9) only
    [↓State.beginLoad_kept, ↓State.log_kept, ↓State.kept_mk, ↓State.kept_fold, ↓each_kept, ↓foldl_kept, ↓when_kept,
    ↓kept_ite, ↓OutKept_ite, ↓OutKept_next, ↓OutKept_fault, ↓OutKept_refused, ite_self, implies_true]
theorem State.startBoot_kept (s : State) : (State.startBoot s).kept = s.kept := by
  unfold State.startBoot; (repeat' split) <;> simp (maxDischargeDepth := 9) only [↓State.chooseSlot_kept,
    ↓State.put_kept, ↓State.kept_mk, ↓State.kept_fold, ↓each_kept, ↓foldl_kept, ↓when_kept, ↓kept_ite, ↓OutKept_ite,
    ↓OutKept_next, ↓OutKept_fault, ↓OutKept_refused, ite_self, implies_true]
theorem State.countBoot_kept (s : State) : (State.countBoot s).kept = s.kept := by
  simp only [State.countBoot, ↓State.count_kept, ↓State.put_kept, ↓State.kept_mk, ↓State.kept_fold, ↓each_kept,
    ↓foldl_kept, ↓when_kept, ↓kept_ite, ↓OutKept_ite, ↓OutKept_next, ↓OutKept_fault, ↓OutKept_refused, ite_self,
    implies_true]
theorem State.sampleMode_kept (s : State) (m : Nat) : (State.sampleMode s m).kept = s.kept := by
  simp only [State.sampleMode, ↓State.put_kept, ↓State.putB_kept, ↓State.kept_mk, ↓State.kept_fold, ↓each_kept,
    ↓foldl_kept, ↓when_kept, ↓kept_ite, ↓OutKept_ite, ↓OutKept_next, ↓OutKept_fault, ↓OutKept_refused, ite_self,
    implies_true]
theorem State.endForProg_kept (s : State) : (State.endForProg s).kept = s.kept := by
  unfold State.endForProg; (repeat' split) <;> simp (maxDischargeDepth := 9) only [↓State.dropLoad_kept,
    ↓State.failHere_kept, ↓State.kept_mk, ↓State.kept_fold, ↓each_kept, ↓foldl_kept, ↓when_kept, ↓kept_ite,
    ↓OutKept_ite, ↓OutKept_next, ↓OutKept_fault, ↓OutKept_refused, ite_self, implies_true]
theorem State.reconfigure_kept (s : State) : (State.reconfigure s).kept = s.kept := by
  simp only [State.reconfigure, ↓State.clearFabric_kept, ↓State.countBoot_kept, ↓State.endForProg_kept,
    ↓State.noImage_kept, ↓State.put_kept, ↓State.setWord_kept, ↓State.startBoot_kept, ↓State.kept_mk,
    ↓State.kept_fold, ↓each_kept, ↓foldl_kept, ↓when_kept, ↓kept_ite, ↓OutKept_ite, ↓OutKept_next, ↓OutKept_fault,
    ↓OutKept_refused, ite_self, implies_true]
theorem State.cfgAnswer_kept (s : State) (v : Nat) : (State.cfgAnswer s v).kept = s.kept := by
  simp only [State.cfgAnswer, ↓State.put_kept, ↓State.kept_mk, ↓State.kept_fold, ↓each_kept, ↓foldl_kept,
    ↓when_kept, ↓kept_ite, ↓OutKept_ite, ↓OutKept_next, ↓OutKept_fault, ↓OutKept_refused, ite_self, implies_true]
theorem State.requestLoadGo_kept (s : State) : (State.requestLoadGo s).kept = s.kept := by
  unfold State.requestLoadGo; (repeat' split) <;> simp (maxDischargeDepth := 9) only [↓State.beginLoad_kept,
    ↓State.cfgAnswer_kept, ↓State.kept_mk, ↓State.kept_fold, ↓each_kept, ↓foldl_kept, ↓when_kept, ↓kept_ite,
    ↓OutKept_ite, ↓OutKept_next, ↓OutKept_fault, ↓OutKept_refused, ite_self, implies_true]
theorem State.requestTest_kept (s : State) : (State.requestTest s).kept = s.kept := by
  simp only [State.requestTest, ↓State.cfgAnswer_kept, ↓State.startTest_kept, ↓State.kept_mk, ↓State.kept_fold,
    ↓each_kept, ↓foldl_kept, ↓when_kept, ↓kept_ite, ↓OutKept_ite, ↓OutKept_next, ↓OutKept_fault, ↓OutKept_refused,
    ite_self, implies_true]
theorem State.writeCfgCtrl_kept (s : State) (v : Word) : (State.writeCfgCtrl s v).kept = s.kept := by
  simp only [State.writeCfgCtrl, ↓State.failHere_kept, ↓State.reconfigure_kept, ↓State.requestLoadGo_kept,
    ↓State.requestTest_kept, ↓State.write_kept, ↓State.kept_mk, ↓State.kept_fold, ↓each_kept, ↓foldl_kept,
    ↓when_kept, ↓kept_ite, ↓OutKept_ite, ↓OutKept_next, ↓OutKept_fault, ↓OutKept_refused, ite_self, implies_true]
theorem State.feedLoad_kept (s : State) (bs : List Byte) : (State.feedLoad s bs).kept = s.kept := by
  unfold State.feedLoad; (repeat' split) <;> simp (maxDischargeDepth := 9) only [↓State.setLoad_kept,
    ↓State.kept_mk, ↓State.kept_fold, ↓each_kept, ↓foldl_kept, ↓when_kept, ↓kept_ite, ↓OutKept_ite, ↓OutKept_next,
    ↓OutKept_fault, ↓OutKept_refused, ite_self, implies_true]
theorem State.pushCfgData_kept (s : State) (bs : List Byte) : (State.pushCfgData s bs).kept = s.kept := by
  unfold State.pushCfgData; (repeat' split) <;> simp (maxDischargeDepth := 9) only [↓State.add_kept,
    ↓State.feedLoad_kept, ↓State.raise_kept, ↓State.kept_mk, ↓State.kept_fold, ↓each_kept, ↓foldl_kept, ↓when_kept,
    ↓kept_ite, ↓OutKept_ite, ↓OutKept_next, ↓OutKept_fault, ↓OutKept_refused, ite_self, implies_true]
theorem State.flashEnds_kept (s : State) (result : Nat) : (State.flashEnds s result).kept = s.kept := by
  simp only [State.flashEnds, ↓State.put_kept, ↓State.raise_kept, ↓State.kept_mk, ↓State.kept_fold, ↓each_kept,
    ↓foldl_kept, ↓when_kept, ↓kept_ite, ↓OutKept_ite, ↓OutKept_next, ↓OutKept_fault, ↓OutKept_refused, ite_self,
    implies_true]
theorem State.writeFlashCmd_kept (s : State) (v : Word) : (State.writeFlashCmd s v).kept = s.kept := by
  simp only [State.writeFlashCmd, ↓State.flashEnds_kept, ↓State.put_kept, ↓State.write_kept, ↓State.kept_mk,
    ↓State.kept_fold, ↓each_kept, ↓foldl_kept, ↓when_kept, ↓kept_ite, ↓OutKept_ite, ↓OutKept_next, ↓OutKept_fault,
    ↓OutKept_refused, ite_self, implies_true]
theorem State.showFuses_kept (s : State) : (State.showFuses s).kept = s.kept := by
  simp only [State.showFuses, ↓State.setWord_kept, ↓State.kept_mk, ↓State.kept_fold, ↓each_kept, ↓foldl_kept,
    ↓when_kept, ↓kept_ite, ↓OutKept_ite, ↓OutKept_next, ↓OutKept_fault, ↓OutKept_refused, ite_self, implies_true]
theorem State.startTraining_kept (s : State) (n : Nat) : (State.startTraining s n).kept = s.kept := by
  simp only [State.startTraining, ↓State.put_kept, ↓State.setDmc_kept, ↓State.kept_mk, ↓State.kept_fold, ↓each_kept,
    ↓foldl_kept, ↓when_kept, ↓kept_ite, ↓OutKept_ite, ↓OutKept_next, ↓OutKept_fault, ↓OutKept_refused, ite_self,
    implies_true]
theorem State.abandonTraining_kept (s : State) (n : Nat) : (State.abandonTraining s n).kept = s.kept := by
  simp only [State.abandonTraining, ↓State.dmcOff_kept, ↓State.loseLines_kept, ↓State.setMpe_kept, ↓State.kept_mk,
    ↓State.kept_fold, ↓each_kept, ↓foldl_kept, ↓when_kept, ↓kept_ite, ↓OutKept_ite, ↓OutKept_next, ↓OutKept_fault,
    ↓OutKept_refused, ite_self, implies_true]
theorem State.disableDmc_kept (s : State) (n : Nat) : (State.disableDmc s n).kept = s.kept := by
  unfold State.disableDmc; (repeat' split) <;> simp (maxDischargeDepth := 9) only [↓State.abandonTraining_kept,
    ↓State.closePort_kept, ↓State.put_kept, ↓State.setDmc_kept, ↓State.kept_mk, ↓State.kept_fold, ↓each_kept,
    ↓foldl_kept, ↓when_kept, ↓kept_ite, ↓OutKept_ite, ↓OutKept_next, ↓OutKept_fault, ↓OutKept_refused, ite_self,
    implies_true]
theorem State.writeDmcCtrl_kept (s : State) (n : Nat) (v : Word) : (State.writeDmcCtrl s n v).kept = s.kept := by
  simp only [State.writeDmcCtrl, ↓State.disableDmc_kept, ↓State.put_kept, ↓State.startTraining_kept,
    ↓State.write_kept, ↓State.kept_mk, ↓State.kept_fold, ↓each_kept, ↓foldl_kept, ↓when_kept, ↓kept_ite,
    ↓OutKept_ite, ↓OutKept_next, ↓OutKept_fault, ↓OutKept_refused, ite_self, implies_true]
theorem execDmcEnable_kept (n : Fin 8) (v : Word) (s : State) : OutKept s (execDmcEnable n v s) := by
  simp only [execDmcEnable, ↓State.writeDmcCtrl_kept, ↓State.kept_mk, ↓State.kept_fold, ↓each_kept, ↓foldl_kept,
    ↓when_kept, ↓kept_ite, ↓OutKept_ite, ↓OutKept_next, ↓OutKept_fault, ↓OutKept_refused, ite_self, implies_true]
theorem execDmcDisable_kept (n : Fin 8) (v : Word) (s : State) : OutKept s (execDmcDisable n v s) := by
  simp only [execDmcDisable, ↓State.writeDmcCtrl_kept, ↓State.kept_mk, ↓State.kept_fold, ↓each_kept, ↓foldl_kept,
    ↓when_kept, ↓kept_ite, ↓OutKept_ite, ↓OutKept_next, ↓OutKept_fault, ↓OutKept_refused, ite_self, implies_true]
theorem execTrainingRecordRead_kept (n : Fin 8) (ids : List Byte) (eyeOk : Bool) (s : State) : OutKept s (execTrainingRecordRead n ids eyeOk s) := by
  simp only [execTrainingRecordRead, ↓State.dmcReady_kept, ↓State.put_kept, ↓State.raise_kept, ↓State.setDmc_kept,
    ↓State.kept_mk, ↓State.kept_fold, ↓each_kept, ↓foldl_kept, ↓when_kept, ↓kept_ite, ↓OutKept_ite, ↓OutKept_next,
    ↓OutKept_fault, ↓OutKept_refused, ite_self, implies_true]
theorem State.trainingFails_kept (s : State) (n reason : Nat) : (State.trainingFails s n reason).kept = s.kept := by
  simp only [State.trainingFails, ↓State.loseTraining_kept, ↓State.put_kept, ↓State.raise_kept, ↓State.setDmc_kept,
    ↓State.kept_mk, ↓State.kept_fold, ↓each_kept, ↓foldl_kept, ↓when_kept, ↓kept_ite, ↓OutKept_ite, ↓OutKept_next,
    ↓OutKept_fault, ↓OutKept_refused, ite_self, implies_true]
theorem State.trainingDone_kept (s : State) (n : Nat) (ids settings : List Byte) : (State.trainingDone s n ids settings).kept = s.kept := by
  simp only [State.trainingDone, ↓State.dmcReady_kept, ↓State.loseTraining_kept, ↓State.put_kept,
    ↓State.putWide_kept, ↓State.raise_kept, ↓State.setDmc_kept, ↓State.kept_mk, ↓State.kept_fold, ↓each_kept,
    ↓foldl_kept, ↓when_kept, ↓kept_ite, ↓OutKept_ite, ↓OutKept_next, ↓OutKept_fault, ↓OutKept_refused, ite_self,
    implies_true]
theorem execTrainingStepEnd_kept (n : Fin 8) (pass : Bool) (density : BitVec 2) (width : BitVec 1) (answered : BitVec 2) (ids settings : List Byte) (s : State) : OutKept s (execTrainingStepEnd n pass density width answered ids settings s) := by
  simp only [execTrainingStepEnd, ↓State.setDmc_kept, ↓State.trainingDone_kept, ↓State.trainingFails_kept,
    ↓State.kept_mk, ↓State.kept_fold, ↓each_kept, ↓foldl_kept, ↓when_kept, ↓kept_ite, ↓OutKept_ite, ↓OutKept_next,
    ↓OutKept_fault, ↓OutKept_refused, ite_self, implies_true]
theorem execDramRequest_kept (n : Fin 8) (p : Packet) (s : State) : OutKept s (execDramRequest n p s) := by
  simp only [execDramRequest, ↓State.dramAccept_kept, ↓State.kept_mk, ↓State.kept_fold, ↓each_kept, ↓foldl_kept,
    ↓when_kept, ↓kept_ite, ↓OutKept_ite, ↓OutKept_next, ↓OutKept_fault, ↓OutKept_refused, ite_self, implies_true]
theorem State.refreshSame_kept (s : State) (n i : Nat) : (State.refreshSame s n i).kept = s.kept := by
  simp only [State.refreshSame, ↓State.setDmc_kept, ↓State.kept_mk, ↓State.kept_fold, ↓each_kept, ↓foldl_kept,
    ↓when_kept, ↓kept_ite, ↓OutKept_ite, ↓OutKept_next, ↓OutKept_fault, ↓OutKept_refused, ite_self, implies_true]
theorem State.column_kept (s : State) (n : Nat) (e : DmcEntry) (otherRt : Bool) : (State.column s n e otherRt).kept = s.kept := by
  unfold State.column; (repeat' split) <;> simp (maxDischargeDepth := 9) only [↓State.columnWrite_kept,
    ↓State.count_kept, ↓State.dropEntry_kept, ↓State.send_kept, ↓State.setBank_kept, ↓State.setDmc_kept,
    ↓State.write_kept, ↓State.writeBack_kept, ↓State.kept_mk, ↓State.kept_fold, ↓each_kept, ↓foldl_kept, ↓when_kept,
    ↓kept_ite, ↓OutKept_ite, ↓OutKept_next, ↓OutKept_fault, ↓OutKept_refused, ite_self, implies_true]
theorem execDramCommandSlot_kept (n : Fin 8) (s : State) : OutKept s (execDramCommandSlot n s) := by
  unfold execDramCommandSlot; dsimp only; (repeat' split) <;> simp (maxDischargeDepth := 9) only
    [↓State.column_kept, ↓State.refreshSame_kept, ↓State.setBank_kept, ↓State.setDmc_kept, ↓State.kept_mk,
    ↓State.kept_fold, ↓each_kept, ↓foldl_kept, ↓when_kept, ↓kept_ite, ↓OutKept_ite, ↓OutKept_next, ↓OutKept_fault,
    ↓OutKept_refused, ite_self, implies_true]
theorem execDramReadData_kept (n : Fin 8) (entry : Nat) (upset : List (BitVec 80)) (s : State) : OutKept s (execDramReadData n entry upset s) := by
  unfold execDramReadData
  dsimp only
  split
  · exact OutKept_next_of rfl
  · split
    · simp only [↓OutKept_next, ↓State.mergeLine_kept, ↓State.logLine_kept, ↓State.rawLine_kept]
    · split <;> simp only [↓OutKept_next, ↓State.readLine_kept, kept_snd_ite, ↓State.plainOf_kept, ↓State.dropEntry_kept,
        ↓State.writeBack_kept, ↓State.logLine_kept, ↓State.rawLine_kept, ite_self]
theorem execAgePromotion_kept (n : Fin 8) (entry : Nat) (s : State) : OutKept s (execAgePromotion n entry s) := by
  unfold execAgePromotion; dsimp only; (repeat' split) <;> simp (maxDischargeDepth := 9) only [↓State.elapse_kept,
    ↓State.setDmc_kept, ↓State.kept_mk, ↓State.kept_fold, ↓each_kept, ↓foldl_kept, ↓when_kept, ↓kept_ite,
    ↓OutKept_ite, ↓OutKept_next, ↓OutKept_fault, ↓OutKept_refused, ite_self, implies_true]
theorem State.repay_kept (s : State) (n rank : Nat) : (State.repay s n rank).kept = s.kept := by
  unfold State.repay; dsimp only; (repeat' split) <;> simp (maxDischargeDepth := 9) only [↓State.setDmc_kept,
    ↓State.kept_mk, ↓State.kept_fold, ↓each_kept, ↓foldl_kept, ↓when_kept, ↓kept_ite, ↓OutKept_ite, ↓OutKept_next,
    ↓OutKept_fault, ↓OutKept_refused, ite_self, implies_true]
theorem State.refreshAll_kept (s : State) (n rank k : Nat) : (s.refreshAll n rank k).kept = s.kept := by
  induction k generalizing s with
  | zero => rfl
  | succ k ih =>
    unfold State.refreshAll
    split_ifs
    · rfl
    · dsimp only
      rw [ih, State.count_kept, each_kept _ _ _ (fun t _ => t.repay_kept n rank), State.setDmc_kept]
theorem execRefreshInterval_kept (n : Fin 8) (rank : Fin 2) (s : State) : OutKept s (execRefreshInterval n rank s) := by
  unfold execRefreshInterval
  dsimp only
  split_ifs
  · exact OutKept_next_of rfl
  · exact OutKept_next_of ((State.refreshAll_kept ..).trans (each_kept _ _ _ fun t b => State.setDmc_kept ..))
theorem execMr4Poll_kept (n : Fin 8) (rank : Fin 2) (doubled : Bool) (s : State) : OutKept s (execMr4Poll n rank doubled s) := by
  simp only [execMr4Poll, ↓State.setDmc_kept, ↓State.kept_mk, ↓State.kept_fold, ↓each_kept, ↓foldl_kept, ↓when_kept,
    ↓kept_ite, ↓OutKept_ite, ↓OutKept_next, ↓OutKept_fault, ↓OutKept_refused, ite_self, implies_true]
theorem execPatrolRead_kept (n : Fin 8) (upset : List (BitVec 80)) (s : State) : OutKept s (execPatrolRead n upset s) := by
  simp only [execPatrolRead, ↓State.count_kept, ↓State.logLine_kept, ↓State.raise_kept, ↓State.rawLine_kept,
    ↓State.setDmc_kept, ↓State.writeBack_kept, ↓State.kept_mk, ↓State.kept_fold, ↓each_kept, ↓foldl_kept,
    ↓when_kept, ↓kept_ite, ↓OutKept_ite, ↓OutKept_next, ↓OutKept_fault, ↓OutKept_refused, ite_self, implies_true]
theorem State.newWindow_kept (s : State) (n : Nat) : (State.newWindow s n).kept = s.kept := by
  simp only [State.newWindow, ↓State.setDmc_kept, ↓State.kept_mk, ↓State.kept_fold, ↓each_kept, ↓foldl_kept,
    ↓when_kept, ↓kept_ite, ↓OutKept_ite, ↓OutKept_next, ↓OutKept_fault, ↓OutKept_refused, ite_self, implies_true]
theorem execCeWindowEnd_kept (n : Fin 8) (s : State) : OutKept s (execCeWindowEnd n s) := by
  simp only [execCeWindowEnd, ↓State.newWindow_kept, ↓State.kept_mk, ↓State.kept_fold, ↓each_kept, ↓foldl_kept,
    ↓when_kept, ↓kept_ite, ↓OutKept_ite, ↓OutKept_next, ↓OutKept_fault, ↓OutKept_refused, ite_self, implies_true]
theorem execCeRateWrite_kept (n : Fin 8) (v : Word) (s : State) : OutKept s (execCeRateWrite n v s) := by
  simp only [execCeRateWrite, ↓State.newWindow_kept, ↓State.write_kept, ↓State.kept_mk, ↓State.kept_fold,
    ↓each_kept, ↓foldl_kept, ↓when_kept, ↓kept_ite, ↓OutKept_ite, ↓OutKept_next, ↓OutKept_fault, ↓OutKept_refused,
    ite_self, implies_true]
theorem execDqsTrack_kept (n : Fin 8) (rank : Fin 2) (change : Int) (s : State) : OutKept s (execDqsTrack n rank change s) := by
  simp only [execDqsTrack, ↓State.raise_kept, ↓State.setDmc_kept, ↓State.kept_mk, ↓State.kept_fold, ↓each_kept,
    ↓foldl_kept, ↓when_kept, ↓kept_ite, ↓OutKept_ite, ↓OutKept_next, ↓OutKept_fault, ↓OutKept_refused, ite_self,
    implies_true]
theorem execZqCal_kept (_n : Fin 8) (_rank : Fin 2) (s : State) : OutKept s (execZqCal _n _rank s) := by
  simp only [execZqCal, ↓State.kept_mk, ↓State.kept_fold, ↓each_kept, ↓foldl_kept, ↓when_kept, ↓kept_ite,
    ↓OutKept_ite, ↓OutKept_next, ↓OutKept_fault, ↓OutKept_refused, ite_self, implies_true]
theorem State.startRetrain_kept (s : State) (n : Nat) : (State.startRetrain s n).kept = s.kept := by
  simp only [State.startRetrain, ↓State.put_kept, ↓State.setDmc_kept, ↓State.kept_mk, ↓State.kept_fold, ↓each_kept,
    ↓foldl_kept, ↓when_kept, ↓kept_ite, ↓OutKept_ite, ↓OutKept_next, ↓OutKept_fault, ↓OutKept_refused, ite_self,
    implies_true]
theorem State.writeMaint_kept (s : State) (n : Nat) (v : Word) : (State.writeMaint s n v).kept = s.kept := by
  simp only [State.writeMaint, ↓State.put_kept, ↓State.setDmc_kept, ↓State.startRetrain_kept, ↓State.write_kept,
    ↓State.kept_mk, ↓State.kept_fold, ↓each_kept, ↓foldl_kept, ↓when_kept, ↓kept_ite, ↓OutKept_ite, ↓OutKept_next,
    ↓OutKept_fault, ↓OutKept_refused, ite_self, implies_true]
theorem execTrackNow_kept (n : Fin 8) (v : Word) (s : State) : OutKept s (execTrackNow n v s) := by
  simp only [execTrackNow, ↓State.writeMaint_kept, ↓State.kept_mk, ↓State.kept_fold, ↓each_kept, ↓foldl_kept,
    ↓when_kept, ↓kept_ite, ↓OutKept_ite, ↓OutKept_next, ↓OutKept_fault, ↓OutKept_refused, ite_self, implies_true]
theorem execRetrain_kept (n : Fin 8) (v : Word) (s : State) : OutKept s (execRetrain n v s) := by
  simp only [execRetrain, ↓State.writeMaint_kept, ↓State.kept_mk, ↓State.kept_fold, ↓each_kept, ↓foldl_kept,
    ↓when_kept, ↓kept_ite, ↓OutKept_ite, ↓OutKept_next, ↓OutKept_fault, ↓OutKept_refused, ite_self, implies_true]
theorem execRetrainCancel_kept (n : Fin 8) (v : Word) (s : State) : OutKept s (execRetrainCancel n v s) := by
  simp only [execRetrainCancel, ↓State.writeMaint_kept, ↓State.kept_mk, ↓State.kept_fold, ↓each_kept, ↓foldl_kept,
    ↓when_kept, ↓kept_ite, ↓OutKept_ite, ↓OutKept_next, ↓OutKept_fault, ↓OutKept_refused, ite_self, implies_true]
theorem execPatrolRestart_kept (n : Fin 8) (v : Word) (s : State) : OutKept s (execPatrolRestart n v s) := by
  simp only [execPatrolRestart, ↓State.writeMaint_kept, ↓State.kept_mk, ↓State.kept_fold, ↓each_kept, ↓foldl_kept,
    ↓when_kept, ↓kept_ite, ↓OutKept_ite, ↓OutKept_next, ↓OutKept_fault, ↓OutKept_refused, ite_self, implies_true]
theorem execRetrainStart_kept (n : Fin 8) (s : State) : OutKept s (execRetrainStart n s) := by
  simp only [execRetrainStart, ↓State.elapse_kept, ↓State.startRetrain_kept, ↓State.kept_mk, ↓State.kept_fold,
    ↓each_kept, ↓foldl_kept, ↓when_kept, ↓kept_ite, ↓OutKept_ite, ↓OutKept_next, ↓OutKept_fault, ↓OutKept_refused,
    ite_self, implies_true]
theorem State.endRetrain_kept (s : State) (n result : Nat) : (State.endRetrain s n result).kept = s.kept := by
  simp only [State.endRetrain, ↓State.disableDmc_kept, ↓State.put_kept, ↓State.kept_mk, ↓State.kept_fold,
    ↓each_kept, ↓foldl_kept, ↓when_kept, ↓kept_ite, ↓OutKept_ite, ↓OutKept_next, ↓OutKept_fault, ↓OutKept_refused,
    ite_self, implies_true]
theorem execRetrainComplete_kept (n : Fin 8) (s : State) : OutKept s (execRetrainComplete n s) := by
  simp only [execRetrainComplete, ↓State.endRetrain_kept, ↓State.raise_kept, ↓State.kept_mk, ↓State.kept_fold,
    ↓each_kept, ↓foldl_kept, ↓when_kept, ↓kept_ite, ↓OutKept_ite, ↓OutKept_next, ↓OutKept_fault, ↓OutKept_refused,
    ite_self, implies_true]
theorem execRetrainTimeout_kept (n : Fin 8) (s : State) : OutKept s (execRetrainTimeout n s) := by
  simp only [execRetrainTimeout, ↓State.endRetrain_kept, ↓State.raise_kept, ↓State.kept_mk, ↓State.kept_fold,
    ↓each_kept, ↓foldl_kept, ↓when_kept, ↓kept_ite, ↓OutKept_ite, ↓OutKept_next, ↓OutKept_fault, ↓OutKept_refused,
    ite_self, implies_true]
theorem State.dmcClosing_kept (s : State) (n : Nat) : (State.dmcClosing s n).kept = s.kept := by
  simp only [State.dmcClosing, ↓State.closePort_kept, ↓State.setDmc_kept, ↓State.kept_mk, ↓State.kept_fold,
    ↓each_kept, ↓foldl_kept, ↓when_kept, ↓kept_ite, ↓OutKept_ite, ↓OutKept_next, ↓OutKept_fault, ↓OutKept_refused,
    ite_self, implies_true]
theorem State.dmcOpened_kept (s : State) (n : Nat) : (State.dmcOpened s n).kept = s.kept := by
  simp only [State.dmcOpened, ↓State.put_kept, ↓State.setMpe_kept, ↓State.startTraining_kept, ↓State.kept_mk,
    ↓State.kept_fold, ↓each_kept, ↓foldl_kept, ↓when_kept, ↓kept_ite, ↓OutKept_ite, ↓OutKept_next, ↓OutKept_fault,
    ↓OutKept_refused, ite_self, implies_true]
theorem State.dmcReset_kept (s : State) (n : Nat) : (State.dmcReset s n).kept = s.kept := by
  simp only [State.dmcReset, ↓State.loseLines_kept, ↓State.setMpe_kept, ↓State.kept_mk, ↓State.kept_fold,
    ↓each_kept, ↓foldl_kept, ↓when_kept, ↓kept_ite, ↓OutKept_ite, ↓OutKept_next, ↓OutKept_fault, ↓OutKept_refused,
    ite_self, implies_true]
theorem State.mpeReset_kept (s : State) (n : Nat) : (State.mpeReset s n).kept = s.kept := by
  simp only [State.mpeReset, ↓State.setMpe_kept, ↓State.kept_mk, ↓State.kept_fold, ↓each_kept, ↓foldl_kept,
    ↓when_kept, ↓kept_ite, ↓OutKept_ite, ↓OutKept_next, ↓OutKept_fault, ↓OutKept_refused, ite_self, implies_true]
theorem State.setLane_kept (s : State) (l : Nat) (v : LaneState) : (State.setLane s l v).kept = s.kept := by
  simp only [State.setLane, ↓State.kept_mk, ↓State.kept_fold, ↓each_kept, ↓foldl_kept, ↓when_kept, ↓kept_ite,
    ↓OutKept_ite, ↓OutKept_next, ↓OutKept_fault, ↓OutKept_refused, ite_self, implies_true]
theorem State.setGroup_kept (s : State) (g : Nat) (v : LaneGroup) : (State.setGroup s g v).kept = s.kept := by
  simp only [State.setGroup, ↓State.kept_mk, ↓State.kept_fold, ↓each_kept, ↓foldl_kept, ↓when_kept, ↓kept_ite,
    ↓OutKept_ite, ↓OutKept_next, ↓OutKept_fault, ↓OutKept_refused, ite_self, implies_true]
theorem State.setQpll_kept (s : State) (q b : Nat) (v : Option (Nat × Word × Word)) : (State.setQpll s q b v).kept = s.kept := by
  simp only [State.setQpll, ↓State.kept_mk, ↓State.kept_fold, ↓each_kept, ↓foldl_kept, ↓when_kept, ↓kept_ite,
    ↓OutKept_ite, ↓OutKept_next, ↓OutKept_fault, ↓OutKept_refused, ite_self, implies_true]
theorem State.laneEvent_kept (s : State) (l n : Nat) (cls : BitVec 2) (code : Nat) : (State.laneEvent s l n cls code).kept = s.kept := by
  simp only [State.laneEvent, ↓State.raise_kept, ↓State.kept_mk, ↓State.kept_fold, ↓each_kept, ↓foldl_kept,
    ↓when_kept, ↓kept_ite, ↓OutKept_ite, ↓OutKept_next, ↓OutKept_fault, ↓OutKept_refused, ite_self, implies_true]
theorem State.stopQplls_kept (s : State) (q : Nat) : (State.stopQplls s q).kept = s.kept := by
  simp only [State.stopQplls, ↓State.put_kept, ↓State.kept_mk, ↓State.kept_fold, ↓each_kept, ↓foldl_kept,
    ↓when_kept, ↓kept_ite, ↓OutKept_ite, ↓OutKept_next, ↓OutKept_fault, ↓OutKept_refused, ite_self, implies_true]
theorem State.writeQpll_kept (s : State) (q b refKhz : Nat) (v : Word) : (State.writeQpll s q b refKhz v).kept = s.kept := by
  simp only [State.writeQpll, ↓State.put_kept, ↓State.setQpll_kept, ↓State.write_kept, ↓State.kept_mk,
    ↓State.kept_fold, ↓each_kept, ↓foldl_kept, ↓when_kept, ↓kept_ite, ↓OutKept_ite, ↓OutKept_next, ↓OutKept_fault,
    ↓OutKept_refused, ite_self, implies_true]
theorem execQpllApply_kept (q : Fin 12) (b : Bool) (refKhz : Nat) (v : Word) (s : State) : OutKept s (execQpllApply q b refKhz v s) := by
  simp only [execQpllApply, ↓State.writeQpll_kept, ↓State.kept_mk, ↓State.kept_fold, ↓each_kept, ↓foldl_kept,
    ↓when_kept, ↓kept_ite, ↓OutKept_ite, ↓OutKept_next, ↓OutKept_fault, ↓OutKept_refused, ite_self, implies_true]
theorem execQpllLock_kept (q : Fin 12) (b : Bool) (s : State) : OutKept s (execQpllLock q b s) := by
  simp only [execQpllLock, ↓State.put_kept, ↓State.kept_mk, ↓State.kept_fold, ↓each_kept, ↓foldl_kept, ↓when_kept,
    ↓kept_ite, ↓OutKept_ite, ↓OutKept_next, ↓OutKept_fault, ↓OutKept_refused, ite_self, implies_true]
theorem execQpllLockLost_kept (q : Fin 12) (b : Bool) (s : State) : OutKept s (execQpllLockLost q b s) := by
  simp only [execQpllLockLost, ↓State.count_kept, ↓State.put_kept, ↓State.raise_kept, ↓State.kept_mk,
    ↓State.kept_fold, ↓each_kept, ↓foldl_kept, ↓when_kept, ↓kept_ite, ↓OutKept_ite, ↓OutKept_next, ↓OutKept_fault,
    ↓OutKept_refused, ite_self, implies_true]
theorem State.dropLock_kept (s : State) (l : Nat) : (State.dropLock s l).kept = s.kept := by
  simp only [State.dropLock, ↓State.put_kept, ↓State.setLane_kept, ↓State.kept_mk, ↓State.kept_fold, ↓each_kept,
    ↓foldl_kept, ↓when_kept, ↓kept_ite, ↓OutKept_ite, ↓OutKept_next, ↓OutKept_fault, ↓OutKept_refused, ite_self,
    implies_true]
theorem State.loseLock_kept (s : State) (l : Nat) : (State.loseLock s l).kept = s.kept := by
  simp only [State.loseLock, ↓State.dropLock_kept, ↓State.laneEvent_kept, ↓State.put_kept, ↓State.kept_mk,
    ↓State.kept_fold, ↓each_kept, ↓foldl_kept, ↓when_kept, ↓kept_ite, ↓OutKept_ite, ↓OutKept_next, ↓OutKept_fault,
    ↓OutKept_refused, ite_self, implies_true]
theorem State.gainLock_kept (s : State) (l : Nat) : (State.gainLock s l).kept = s.kept := by
  simp only [State.gainLock, ↓State.laneEvent_kept, ↓State.put_kept, ↓State.setLane_kept, ↓State.kept_mk,
    ↓State.kept_fold, ↓each_kept, ↓foldl_kept, ↓when_kept, ↓kept_ite, ↓OutKept_ite, ↓OutKept_next, ↓OutKept_fault,
    ↓OutKept_refused, ite_self, implies_true]
theorem execBlockLock_kept (lane : Fin 48) (position : Fin 66) (s : State) : OutKept s (execBlockLock lane position s) := by
  simp only [execBlockLock, ↓State.gainLock_kept, ↓State.put_kept, ↓State.kept_mk, ↓State.kept_fold, ↓each_kept,
    ↓foldl_kept, ↓when_kept, ↓kept_ite, ↓OutKept_ite, ↓OutKept_next, ↓OutKept_fault, ↓OutKept_refused, ite_self,
    implies_true]
theorem execLockLoss_kept (lane : Fin 48) (s : State) : OutKept s (execLockLoss lane s) := by
  simp only [execLockLoss, ↓State.add_kept, ↓State.loseLock_kept, ↓State.kept_mk, ↓State.kept_fold, ↓each_kept,
    ↓foldl_kept, ↓when_kept, ↓kept_ite, ↓OutKept_ite, ↓OutKept_next, ↓OutKept_fault, ↓OutKept_refused, ite_self,
    implies_true]
theorem execCommaAlign_kept (lane : Fin 48) (position : Fin 10) (s : State) : OutKept s (execCommaAlign lane position s) := by
  simp only [execCommaAlign, ↓State.gainLock_kept, ↓State.setLane_kept, ↓State.kept_mk, ↓State.kept_fold,
    ↓each_kept, ↓foldl_kept, ↓when_kept, ↓kept_ite, ↓OutKept_ite, ↓OutKept_next, ↓OutKept_fault, ↓OutKept_refused,
    ite_self, implies_true]
theorem execFecCodeword_kept (lane : Fin 48) (symbolErrors : Nat) (s : State) : OutKept s (execFecCodeword lane symbolErrors s) := by
  simp only [execFecCodeword, ↓State.add_kept, ↓State.count_kept, ↓State.laneEvent_kept, ↓State.loseLock_kept,
    ↓State.put_kept, ↓State.setLane_kept, ↓State.kept_mk, ↓State.kept_fold, ↓each_kept, ↓foldl_kept, ↓when_kept,
    ↓kept_ite, ↓OutKept_ite, ↓OutKept_next, ↓OutKept_fault, ↓OutKept_refused, ite_self, implies_true]
theorem execElasticBufferError_kept (lane : Fin 48) (s : State) : OutKept s (execElasticBufferError lane s) := by
  simp only [execElasticBufferError, ↓State.count_kept, ↓State.laneEvent_kept, ↓State.put_kept, ↓State.setLane_kept,
    ↓State.kept_mk, ↓State.kept_fold, ↓each_kept, ↓foldl_kept, ↓when_kept, ↓kept_ite, ↓OutKept_ite, ↓OutKept_next,
    ↓OutKept_fault, ↓OutKept_refused, ite_self, implies_true]
theorem execGridStrobe_kept (lane : Fin 48) (tx : Bool) (fill : Fin 65) (s : State) : OutKept s (execGridStrobe lane tx fill s) := by
  simp only [execGridStrobe, ↓State.put_kept, ↓State.setLane_kept, ↓State.kept_mk, ↓State.kept_fold, ↓each_kept,
    ↓foldl_kept, ↓when_kept, ↓kept_ite, ↓OutKept_ite, ↓OutKept_next, ↓OutKept_fault, ↓OutKept_refused, ite_self,
    implies_true]
theorem State.untrain_kept (s : State) (g : Nat) : (State.untrain s g).kept = s.kept := by
  simp only [State.untrain, ↓State.setLane_kept, ↓State.kept_mk, ↓State.kept_fold, ↓each_kept, ↓foldl_kept,
    ↓when_kept, ↓kept_ite, ↓OutKept_ite, ↓OutKept_next, ↓OutKept_fault, ↓OutKept_refused, ite_self, implies_true]
theorem State.toStep1_kept (s : State) (g : Nat) : (State.toStep1 s g).kept = s.kept := by
  simp only [State.toStep1, ↓State.count_kept, ↓State.dropLock_kept, ↓State.put_kept, ↓State.setGroup_kept,
    ↓State.untrain_kept, ↓State.kept_mk, ↓State.kept_fold, ↓each_kept, ↓foldl_kept, ↓when_kept, ↓kept_ite,
    ↓OutKept_ite, ↓OutKept_next, ↓OutKept_fault, ↓OutKept_refused, ite_self, implies_true]
theorem State.groupOff_kept (s : State) (g : Nat) : (State.groupOff s g).kept = s.kept := by
  simp only [State.groupOff, ↓State.put_kept, ↓State.setGroup_kept, ↓State.untrain_kept, ↓State.kept_mk,
    ↓State.kept_fold, ↓each_kept, ↓foldl_kept, ↓when_kept, ↓kept_ite, ↓OutKept_ite, ↓OutKept_next, ↓OutKept_fault,
    ↓OutKept_refused, ite_self, implies_true]
theorem State.groupRuns_kept (s : State) (g : Nat) : (State.groupRuns s g).kept = s.kept := by
  simp only [State.groupRuns, ↓State.laneEvent_kept, ↓State.put_kept, ↓State.setGroup_kept, ↓State.kept_mk,
    ↓State.kept_fold, ↓each_kept, ↓foldl_kept, ↓when_kept, ↓kept_ite, ↓OutKept_ite, ↓OutKept_next, ↓OutKept_fault,
    ↓OutKept_refused, ite_self, implies_true]
theorem State.groupFails_kept (s : State) (g reason : Nat) : (State.groupFails s g reason).kept = s.kept := by
  simp only [State.groupFails, ↓State.laneEvent_kept, ↓State.put_kept, ↓State.kept_mk, ↓State.kept_fold, ↓each_kept,
    ↓foldl_kept, ↓when_kept, ↓kept_ite, ↓OutKept_ite, ↓OutKept_next, ↓OutKept_fault, ↓OutKept_refused, ite_self,
    implies_true]
theorem State.groupCheck_kept (s : State) (g : Nat) : (State.groupCheck s g).kept = s.kept := by
  simp only [State.groupCheck, ↓State.groupOff_kept, ↓State.groupRuns_kept, ↓State.toStep1_kept, ↓State.kept_mk,
    ↓State.kept_fold, ↓each_kept, ↓foldl_kept, ↓when_kept, ↓kept_ite, ↓OutKept_ite, ↓OutKept_next, ↓OutKept_fault,
    ↓OutKept_refused, ite_self, implies_true]
theorem State.writeGroup_kept (s : State) (l : Nat) (v : Word) : (State.writeGroup s l v).kept = s.kept := by
  simp only [State.writeGroup, ↓State.count_kept, ↓State.groupCheck_kept, ↓State.groupOff_kept, ↓State.put_kept,
    ↓State.putB_kept, ↓State.write_kept, ↓State.kept_mk, ↓State.kept_fold, ↓each_kept, ↓foldl_kept, ↓when_kept,
    ↓kept_ite, ↓OutKept_ite, ↓OutKept_next, ↓OutKept_fault, ↓OutKept_refused, ite_self, implies_true]
theorem execGroupDefine_kept (lane : Fin 48) (v : Word) (s : State) : OutKept s (execGroupDefine lane v s) := by
  simp only [execGroupDefine, ↓State.writeGroup_kept, ↓State.kept_mk, ↓State.kept_fold, ↓each_kept, ↓foldl_kept,
    ↓when_kept, ↓kept_ite, ↓OutKept_ite, ↓OutKept_next, ↓OutKept_fault, ↓OutKept_refused, ite_self, implies_true]
theorem State.smallGroup_kept (s : State) (g : Nat) : (State.smallGroup s g).kept = s.kept := by
  simp only [State.smallGroup, ↓State.count_kept, ↓State.groupFails_kept, ↓State.groupRuns_kept,
    ↓State.laneEvent_kept, ↓State.put_kept, ↓State.setGroup_kept, ↓State.kept_mk, ↓State.kept_fold, ↓each_kept,
    ↓foldl_kept, ↓when_kept, ↓kept_ite, ↓OutKept_ite, ↓OutKept_next, ↓OutKept_fault, ↓OutKept_refused, ite_self,
    implies_true]
theorem State.largeGroup_kept (s : State) (g : Nat) : (State.largeGroup s g).kept = s.kept := by
  simp only [State.largeGroup, ↓State.groupRuns_kept, ↓State.put_kept, ↓State.setGroup_kept, ↓State.kept_mk,
    ↓State.kept_fold, ↓each_kept, ↓foldl_kept, ↓when_kept, ↓kept_ite, ↓OutKept_ite, ↓OutKept_next, ↓OutKept_fault,
    ↓OutKept_refused, ite_self, implies_true]
theorem State.takeLts_kept (s : State) (g l : Nat) (p : Nat) : (State.takeLts s g l p).kept = s.kept := by
  simp only [State.takeLts, ↓State.count_kept, ↓State.setLane_kept, ↓State.kept_mk, ↓State.kept_fold, ↓each_kept,
    ↓foldl_kept, ↓when_kept, ↓kept_ite, ↓OutKept_ite, ↓OutKept_next, ↓OutKept_fault, ↓OutKept_refused, ite_self,
    implies_true]
theorem execLtsBlock_kept (lane : Fin 48) (b : Lts) (s : State) : OutKept s (execLtsBlock lane b s) := by
  unfold execLtsBlock; dsimp only; (repeat' split) <;> simp (maxDischargeDepth := 9) only [↓State.count_kept,
    ↓State.groupFails_kept, ↓State.laneEvent_kept, ↓State.largeGroup_kept, ↓State.putB_kept, ↓State.setLane_kept,
    ↓State.smallGroup_kept, ↓State.takeLts_kept, ↓State.toStep1_kept, ↓State.kept_mk, ↓State.kept_fold, ↓each_kept,
    ↓foldl_kept, ↓when_kept, ↓kept_ite, ↓OutKept_ite, ↓OutKept_next, ↓OutKept_fault, ↓OutKept_refused, ite_self,
    implies_true]
theorem execRateSwitch_kept (lane : Fin 48) (s : State) : OutKept s (execRateSwitch lane s) := by
  simp only [execRateSwitch, ↓State.put_kept, ↓State.setGroup_kept, ↓State.untrain_kept, ↓State.kept_mk,
    ↓State.kept_fold, ↓each_kept, ↓foldl_kept, ↓when_kept, ↓kept_ite, ↓OutKept_ite, ↓OutKept_next, ↓OutKept_fault,
    ↓OutKept_refused, ite_self, implies_true]
theorem execStepRetrainTimeout_kept (lane : Fin 48) (s : State) : OutKept s (execStepRetrainTimeout lane s) := by
  simp only [execStepRetrainTimeout, ↓State.put_kept, ↓State.setGroup_kept, ↓State.untrain_kept, ↓State.kept_mk,
    ↓State.kept_fold, ↓each_kept, ↓foldl_kept, ↓when_kept, ↓kept_ite, ↓OutKept_ite, ↓OutKept_next, ↓OutKept_fault,
    ↓OutKept_refused, ite_self, implies_true]
theorem execGroupTrainTimeout_kept (lane : Fin 48) (s : State) : OutKept s (execGroupTrainTimeout lane s) := by
  simp only [execGroupTrainTimeout, ↓State.count_kept, ↓State.groupFails_kept, ↓State.setGroup_kept, ↓State.kept_mk,
    ↓State.kept_fold, ↓each_kept, ↓foldl_kept, ↓when_kept, ↓kept_ite, ↓OutKept_ite, ↓OutKept_next, ↓OutKept_fault,
    ↓OutKept_refused, ite_self, implies_true]
theorem execGroupRetry_kept (lane : Fin 48) (s : State) : OutKept s (execGroupRetry lane s) := by
  simp only [execGroupRetry, ↓State.count_kept, ↓State.toStep1_kept, ↓State.kept_mk, ↓State.kept_fold, ↓each_kept,
    ↓foldl_kept, ↓when_kept, ↓kept_ite, ↓OutKept_ite, ↓OutKept_next, ↓OutKept_fault, ↓OutKept_refused, ite_self,
    implies_true]
theorem execGroupLockLossTimeout_kept (lane : Fin 48) (s : State) : OutKept s (execGroupLockLossTimeout lane s) := by
  unfold execGroupLockLossTimeout; dsimp only; (repeat' split) <;> simp (maxDischargeDepth := 9) only
    [↓State.count_kept, ↓State.toStep1_kept, ↓State.kept_mk, ↓State.kept_fold, ↓each_kept, ↓foldl_kept, ↓when_kept,
    ↓kept_ite, ↓OutKept_ite, ↓OutKept_next, ↓OutKept_fault, ↓OutKept_refused, ite_self, implies_true]
theorem State.requestPstate_kept (s : State) (l p : Nat) : (State.requestPstate s l p).kept = s.kept := by
  simp only [State.requestPstate, ↓State.setLane_kept, ↓State.kept_mk, ↓State.kept_fold, ↓each_kept, ↓foldl_kept,
    ↓when_kept, ↓kept_ite, ↓OutKept_ite, ↓OutKept_next, ↓OutKept_fault, ↓OutKept_refused, ite_self, implies_true]
theorem State.writeLaneCfg_kept (s : State) (l : Nat) (v : Word) : (State.writeLaneCfg s l v).kept = s.kept := by
  unfold State.writeLaneCfg; dsimp only; (repeat' split) <;> simp (maxDischargeDepth := 9) only [↓State.count_kept,
    ↓State.dropLock_kept, ↓State.groupCheck_kept, ↓State.put_kept, ↓State.putB_kept, ↓State.requestPstate_kept,
    ↓State.stopQplls_kept, ↓State.write_kept, ↓State.kept_mk, ↓State.kept_fold, ↓each_kept, ↓foldl_kept, ↓when_kept,
    ↓kept_ite, ↓OutKept_ite, ↓OutKept_next, ↓OutKept_fault, ↓OutKept_refused, ite_self, implies_true]
theorem execLaneCfgWrite_kept (lane : Fin 48) (v : Word) (s : State) : OutKept s (execLaneCfgWrite lane v s) := by
  simp only [execLaneCfgWrite, ↓State.writeLaneCfg_kept, ↓State.kept_mk, ↓State.kept_fold, ↓each_kept, ↓foldl_kept,
    ↓when_kept, ↓kept_ite, ↓OutKept_ite, ↓OutKept_next, ↓OutKept_fault, ↓OutKept_refused, ite_self, implies_true]
theorem execPstateRequest_kept (lane : Fin 48) (v : Word) (s : State) : OutKept s (execPstateRequest lane v s) := by
  simp only [execPstateRequest, ↓State.writeLaneCfg_kept, ↓State.kept_mk, ↓State.kept_fold, ↓each_kept, ↓foldl_kept,
    ↓when_kept, ↓kept_ite, ↓OutKept_ite, ↓OutKept_next, ↓OutKept_fault, ↓OutKept_refused, ite_self, implies_true]
theorem execPstateTransitionComplete_kept (lane : Fin 48) (s : State) : OutKept s (execPstateTransitionComplete lane s) := by
  unfold execPstateTransitionComplete; dsimp only; (repeat' split) <;> simp (maxDischargeDepth := 9) only
    [↓State.dropLock_kept, ↓State.groupCheck_kept, ↓State.put_kept, ↓State.setLane_kept, ↓State.stopQplls_kept,
    ↓State.kept_mk, ↓State.kept_fold, ↓each_kept, ↓foldl_kept, ↓when_kept, ↓kept_ite, ↓OutKept_ite, ↓OutKept_next,
    ↓OutKept_fault, ↓OutKept_refused, ite_self, implies_true]
theorem State.quadClosing_kept (s : State) (q : Nat) : (State.quadClosing s q).kept = s.kept := by
  unfold State.quadClosing
  refine (State.stopQplls_kept ..).trans (each_kept _ _ _ fun _ _ => ?_)
  dsimp only
  split <;> simp only [State.groupCheck_kept, State.dropLock_kept, State.put_kept, State.setLane_kept]
theorem State.quadOpened_kept (s : State) (q : Nat) : (State.quadOpened s q).kept = s.kept := by
  simp only [State.quadOpened, ↓State.requestPstate_kept, ↓State.kept_mk, ↓State.kept_fold, ↓each_kept, ↓foldl_kept,
    ↓when_kept, ↓kept_ite, ↓OutKept_ite, ↓OutKept_next, ↓OutKept_fault, ↓OutKept_refused, ite_self, implies_true]
theorem State.quadReset_kept (s : State) (q : Nat) : (State.quadReset s q).kept = s.kept := by
  simp only [State.quadReset, ↓State.setGroup_kept, ↓State.setLane_kept, ↓State.setQpll_kept, ↓State.kept_mk,
    ↓State.kept_fold, ↓each_kept, ↓foldl_kept, ↓when_kept, ↓kept_ite, ↓OutKept_ite, ↓OutKept_next, ↓OutKept_fault,
    ↓OutKept_refused, ite_self, implies_true]
theorem execTxFault_kept (lane : Fin 48) (s : State) : OutKept s (execTxFault lane s) := by
  simp only [execTxFault, ↓State.laneEvent_kept, ↓State.put_kept, ↓State.setLane_kept, ↓State.kept_mk,
    ↓State.kept_fold, ↓each_kept, ↓foldl_kept, ↓when_kept, ↓kept_ite, ↓OutKept_ite, ↓OutKept_next, ↓OutKept_fault,
    ↓OutKept_refused, ite_self, implies_true]
theorem execTxFaultRetry_kept (lane : Fin 48) (s : State) : OutKept s (execTxFaultRetry lane s) := by
  simp only [execTxFaultRetry, ↓State.count_kept, ↓State.put_kept, ↓State.setLane_kept, ↓State.kept_mk,
    ↓State.kept_fold, ↓each_kept, ↓foldl_kept, ↓when_kept, ↓kept_ite, ↓OutKept_ite, ↓OutKept_next, ↓OutKept_fault,
    ↓OutKept_refused, ite_self, implies_true]
theorem execReceiverDetect_kept (lane : Fin 48) (found : Bool) (s : State) : OutKept s (execReceiverDetect lane found s) := by
  simp only [execReceiverDetect, ↓State.laneEvent_kept, ↓State.put_kept, ↓State.kept_mk, ↓State.kept_fold,
    ↓each_kept, ↓foldl_kept, ↓when_kept, ↓kept_ite, ↓OutKept_ite, ↓OutKept_next, ↓OutKept_fault, ↓OutKept_refused,
    ite_self, implies_true]
theorem execLossOfSignal_kept (lane : Fin 48) (s : State) : OutKept s (execLossOfSignal lane s) := by
  simp only [execLossOfSignal, ↓State.dropLock_kept, ↓State.laneEvent_kept, ↓State.loseLock_kept, ↓State.put_kept,
    ↓State.setLane_kept, ↓State.kept_mk, ↓State.kept_fold, ↓each_kept, ↓foldl_kept, ↓when_kept, ↓kept_ite,
    ↓OutKept_ite, ↓OutKept_next, ↓OutKept_fault, ↓OutKept_refused, ite_self, implies_true]
theorem execSignalReturn_kept (lane : Fin 48) (s : State) : OutKept s (execSignalReturn lane s) := by
  simp only [execSignalReturn, ↓State.put_kept, ↓State.setLane_kept, ↓State.kept_mk, ↓State.kept_fold, ↓each_kept,
    ↓foldl_kept, ↓when_kept, ↓kept_ite, ↓OutKept_ite, ↓OutKept_next, ↓OutKept_fault, ↓OutKept_refused, ite_self,
    implies_true]
theorem State.writeLaneFault_kept (s : State) (l : Nat) (v : Word) : (State.writeLaneFault s l v).kept = s.kept := by
  simp only [State.writeLaneFault, ↓State.put_kept, ↓State.setLane_kept, ↓State.kept_mk, ↓State.kept_fold,
    ↓each_kept, ↓foldl_kept, ↓when_kept, ↓kept_ite, ↓OutKept_ite, ↓OutKept_next, ↓OutKept_fault, ↓OutKept_refused,
    ite_self, implies_true]
theorem execLaneFaultClear_kept (lane : Fin 48) (v : Word) (s : State) : OutKept s (execLaneFaultClear lane v s) := by
  simp only [execLaneFaultClear, ↓State.writeLaneFault_kept, ↓State.kept_mk, ↓State.kept_fold, ↓each_kept,
    ↓foldl_kept, ↓when_kept, ↓kept_ite, ↓OutKept_ite, ↓OutKept_next, ↓OutKept_fault, ↓OutKept_refused, ite_self,
    implies_true]
theorem State.writeLaneMaint_kept (s : State) (l : Nat) (v : Word) : (State.writeLaneMaint s l v).kept = s.kept := by
  unfold State.writeLaneMaint; dsimp only; (repeat' split) <;> simp (maxDischargeDepth := 9) only
    [↓State.count_kept, ↓State.dropLock_kept, ↓State.loseLock_kept, ↓State.put_kept, ↓State.setLane_kept,
    ↓State.toStep1_kept, ↓State.write_kept, ↓State.kept_mk, ↓State.kept_fold, ↓each_kept, ↓foldl_kept, ↓when_kept,
    ↓kept_ite, ↓OutKept_ite, ↓OutKept_next, ↓OutKept_fault, ↓OutKept_refused, ite_self, implies_true]
theorem execLaneCal_kept (lane : Fin 48) (v : Word) (s : State) : OutKept s (execLaneCal lane v s) := by
  simp only [execLaneCal, ↓State.writeLaneMaint_kept, ↓State.kept_mk, ↓State.kept_fold, ↓each_kept, ↓foldl_kept,
    ↓when_kept, ↓kept_ite, ↓OutKept_ite, ↓OutKept_next, ↓OutKept_fault, ↓OutKept_refused, ite_self, implies_true]
theorem execLaneCalComplete_kept (lane : Fin 48) (s : State) : OutKept s (execLaneCalComplete lane s) := by
  simp only [execLaneCalComplete, ↓State.put_kept, ↓State.setLane_kept, ↓State.kept_mk, ↓State.kept_fold,
    ↓each_kept, ↓foldl_kept, ↓when_kept, ↓kept_ite, ↓OutKept_ite, ↓OutKept_next, ↓OutKept_fault, ↓OutKept_refused,
    ite_self, implies_true]
theorem execPrbsCheckerLock_kept (lane : Fin 48) (inverted relock : Bool) (s : State) : OutKept s (execPrbsCheckerLock lane inverted relock s) := by
  unfold execPrbsCheckerLock; dsimp only; (repeat' split) <;> simp (maxDischargeDepth := 9) only
    [↓State.groupRuns_kept, ↓State.laneEvent_kept, ↓State.put_kept, ↓State.putB_kept, ↓State.putWide_kept,
    ↓State.relock_kept, ↓State.setLane_kept, ↓State.kept_mk, ↓State.kept_fold, ↓each_kept, ↓foldl_kept, ↓when_kept,
    ↓kept_ite, ↓OutKept_ite, ↓OutKept_next, ↓OutKept_fault, ↓OutKept_refused, ite_self, implies_true]
theorem State.writeEyeScan_kept (s : State) (l : Nat) (v : Word) : (State.writeEyeScan s l v).kept = s.kept := by
  simp only [State.writeEyeScan, ↓State.put_kept, ↓State.write_kept, ↓State.kept_mk, ↓State.kept_fold, ↓each_kept,
    ↓foldl_kept, ↓when_kept, ↓kept_ite, ↓OutKept_ite, ↓OutKept_next, ↓OutKept_fault, ↓OutKept_refused, ite_self,
    implies_true]
theorem execEyeScan_kept (lane : Fin 48) (v : Word) (s : State) : OutKept s (execEyeScan lane v s) := by
  simp only [execEyeScan, ↓State.writeEyeScan_kept, ↓State.kept_mk, ↓State.kept_fold, ↓each_kept, ↓foldl_kept,
    ↓when_kept, ↓kept_ite, ↓OutKept_ite, ↓OutKept_next, ↓OutKept_fault, ↓OutKept_refused, ite_self, implies_true]
theorem execEyeScanComplete_kept (lane : Fin 48) (count : BitVec 48) (s : State) : OutKept s (execEyeScanComplete lane count s) := by
  simp only [execEyeScanComplete, ↓State.count_kept, ↓State.put_kept, ↓State.putWide_kept, ↓State.kept_mk,
    ↓State.kept_fold, ↓each_kept, ↓foldl_kept, ↓when_kept, ↓kept_ite, ↓OutKept_ite, ↓OutKept_next, ↓OutKept_fault,
    ↓OutKept_refused, ite_self, implies_true]
theorem State.writeLaneFi_kept (s : State) (l : Nat) (v : Word) : (State.writeLaneFi s l v).kept = s.kept := by
  simp only [State.writeLaneFi, ↓State.put_kept, ↓State.setLane_kept, ↓State.write_kept, ↓State.kept_mk,
    ↓State.kept_fold, ↓each_kept, ↓foldl_kept, ↓when_kept, ↓kept_ite, ↓OutKept_ite, ↓OutKept_next, ↓OutKept_fault,
    ↓OutKept_refused, ite_self, implies_true]
theorem execLaneFiArm_kept (lane : Fin 48) (v : Word) (s : State) : OutKept s (execLaneFiArm lane v s) := by
  simp only [execLaneFiArm, ↓State.writeLaneFi_kept, ↓State.kept_mk, ↓State.kept_fold, ↓each_kept, ↓foldl_kept,
    ↓when_kept, ↓kept_ite, ↓OutKept_ite, ↓OutKept_next, ↓OutKept_fault, ↓OutKept_refused, ite_self, implies_true]
theorem State.domAnswer_kept (s : State) (d answer reason : Nat) : (State.domAnswer s d answer reason).kept = s.kept := by
  simp only [State.domAnswer, ↓State.put_kept, ↓State.raise_kept, ↓State.kept_mk, ↓State.kept_fold, ↓each_kept,
    ↓foldl_kept, ↓when_kept, ↓kept_ite, ↓OutKept_ite, ↓OutKept_next, ↓OutKept_fault, ↓OutKept_refused, ite_self,
    implies_true]
theorem State.regionClosing_kept (s : State) (r : Nat) : (State.regionClosing s r).kept = s.kept := by
  simp only [State.regionClosing, ↓State.closePort_kept, ↓State.closeStallsOf_kept, ↓State.failStallLoad_kept,
    ↓State.put_kept, ↓State.kept_mk, ↓State.kept_fold, ↓each_kept, ↓foldl_kept, ↓when_kept, ↓kept_ite, ↓OutKept_ite,
    ↓OutKept_next, ↓OutKept_fault, ↓OutKept_refused, ite_self, implies_true]
theorem State.beginClose_kept (s : State) (d : Nat) : (State.beginClose s d).kept = s.kept := by
  simp only [State.beginClose, ↓State.closePort_kept, ↓State.coreClosing_kept, ↓State.dmcClosing_kept,
    ↓State.quadClosing_kept, ↓State.regionClosing_kept, ↓State.setDom_kept, ↓State.kept_mk, ↓State.kept_fold,
    ↓each_kept, ↓foldl_kept, ↓when_kept, ↓kept_ite, ↓OutKept_ite, ↓OutKept_next, ↓OutKept_fault, ↓OutKept_refused,
    ite_self, implies_true]
theorem State.requestClose_kept (s : State) (d : Nat) : (State.requestClose s d).kept = s.kept := by
  unfold State.requestClose; (repeat' split) <;> simp (maxDischargeDepth := 9) only [↓State.beginClose_kept,
    ↓State.domAnswer_kept, ↓State.kept_mk, ↓State.kept_fold, ↓each_kept, ↓foldl_kept, ↓when_kept, ↓kept_ite,
    ↓OutKept_ite, ↓OutKept_next, ↓OutKept_fault, ↓OutKept_refused, ite_self, implies_true]
theorem State.requestOpen_kept (s : State) (d : Nat) : (State.requestOpen s d).kept = s.kept := by
  simp only [State.requestOpen, ↓State.domAnswer_kept, ↓State.setDom_kept, ↓State.kept_mk, ↓State.kept_fold,
    ↓each_kept, ↓foldl_kept, ↓when_kept, ↓kept_ite, ↓OutKept_ite, ↓OutKept_next, ↓OutKept_fault, ↓OutKept_refused,
    ite_self, implies_true]
theorem State.writeDom_kept (s : State) (d : Nat) (v : Word) : (State.writeDom s d v).kept = s.kept := by
  simp only [State.writeDom, ↓State.requestClose_kept, ↓State.requestOpen_kept, ↓State.kept_mk, ↓State.kept_fold,
    ↓each_kept, ↓foldl_kept, ↓when_kept, ↓kept_ite, ↓OutKept_ite, ↓OutKept_next, ↓OutKept_fault, ↓OutKept_refused,
    ite_self, implies_true]
theorem State.regionOff_kept (s : State) (r : Nat) : (State.regionOff s r).kept = s.kept := by
  unfold State.regionOff; (repeat' split) <;> simp (maxDischargeDepth := 9) only [↓State.put_kept,
    ↓State.zeroRegionMemories_kept, ↓State.kept_mk, ↓State.kept_fold, ↓each_kept, ↓foldl_kept, ↓when_kept,
    ↓kept_ite, ↓OutKept_ite, ↓OutKept_next, ↓OutKept_fault, ↓OutKept_refused, ite_self, implies_true]
theorem State.domOff_kept (s : State) (d : Nat) : (State.domOff s d).kept = s.kept := by
  simp only [State.domOff, ↓State.count_kept, ↓State.raise_kept, ↓State.regionOff_kept, ↓State.setDom_kept,
    ↓State.kept_mk, ↓State.kept_fold, ↓each_kept, ↓foldl_kept, ↓when_kept, ↓kept_ite, ↓OutKept_ite, ↓OutKept_next,
    ↓OutKept_fault, ↓OutKept_refused, ite_self, implies_true]
theorem State.regionOpened_kept (s : State) (r : Nat) : (State.regionOpened s r).kept = s.kept := by
  simp only [State.regionOpened, ↓State.openPort_kept, ↓State.reviveStallsOf_kept, ↓State.zeroRegionMemories_kept,
    ↓State.kept_mk, ↓State.kept_fold, ↓each_kept, ↓foldl_kept, ↓when_kept, ↓kept_ite, ↓OutKept_ite, ↓OutKept_next,
    ↓OutKept_fault, ↓OutKept_refused, ite_self, implies_true]
theorem State.domOpened_kept (s : State) (d : Nat) : (State.domOpened s d).kept = s.kept := by
  unfold State.domOpened; dsimp only; (repeat' split) <;> simp (maxDischargeDepth := 9) only
    [↓State.closeForLoad_kept, ↓State.dmcOpened_kept, ↓State.openPort_kept, ↓State.quadOpened_kept,
    ↓State.raise_kept, ↓State.regionOpened_kept, ↓State.setDom_kept, ↓State.startCore_kept, ↓State.kept_mk,
    ↓State.kept_fold, ↓each_kept, ↓foldl_kept, ↓when_kept, ↓kept_ite, ↓OutKept_ite, ↓OutKept_next, ↓OutKept_fault,
    ↓OutKept_refused, ite_self, implies_true]
theorem State.setLogPage_kept (s : State) (p : Nat) (v : LogPage) : (State.setLogPage s p v).kept = s.kept := by
  simp only [State.setLogPage, ↓State.kept_mk, ↓State.kept_fold, ↓each_kept, ↓foldl_kept, ↓when_kept, ↓kept_ite,
    ↓OutKept_ite, ↓OutKept_next, ↓OutKept_fault, ↓OutKept_refused, ite_self, implies_true]
theorem State.showBacklog_kept (s : State) : (State.showBacklog s).kept = s.kept := by
  simp only [State.showBacklog, ↓State.put_kept, ↓State.kept_mk, ↓State.kept_fold, ↓each_kept, ↓foldl_kept,
    ↓when_kept, ↓kept_ite, ↓OutKept_ite, ↓OutKept_next, ↓OutKept_fault, ↓OutKept_refused, ite_self, implies_true]
theorem State.retirePage_kept (s : State) (p : Nat) (byError : Bool) : (State.retirePage s p byError).kept = s.kept := by
  simp only [State.retirePage, ↓State.count_kept, ↓State.flashProgramBytes_kept, ↓State.put_kept, ↓State.raise_kept,
    ↓State.setLogPage_kept, ↓State.kept_mk, ↓State.kept_fold, ↓each_kept, ↓foldl_kept, ↓when_kept, ↓kept_ite,
    ↓OutKept_ite, ↓OutKept_next, ↓OutKept_fault, ↓OutKept_refused, ite_self, implies_true]
theorem State.openLogPage_kept (s : State) (first : Nat) : ∀ t ∈ s.openLogPage first, t.kept = s.kept := by
  intro t ht
  unfold State.openLogPage at ht
  split at ht
  · exact absurd ht (by simp)
  · dsimp only at ht
    split_ifs at ht
    · exact absurd ht (by simp)
    · rw [Option.mem_some_iff] at ht
      rw [← ht]
      simp only [↓State.kept_mk, ↓State.kept_fold, ↓State.flashProgramBytes_kept, ↓State.put_kept, ↓State.setLogPage_kept]
theorem State.programLog_kept (s : State) (es : List (Nat × BitVec 256)) : ∀ t ∈ s.programLog es, t.kept = s.kept := by
  induction es generalizing s with
  | nil => intro t ht; simp only [State.programLog, Option.mem_some_iff] at ht; rw [ht]
  | cons e es ih =>
    intro t ht
    obtain ⟨k, e⟩ := e
    unfold State.programLog at ht
    dsimp only at ht
    split at ht
    · exact absurd ht (by simp)
    · next u hu =>
      have h1 := ih _ t ht
      rw [h1]
      simp only [↓State.kept_mk, ↓State.kept_fold, ↓State.flashProgramBytes_kept]
      split_ifs at hu
      · exact s.openLogPage_kept k u hu
      · rw [Option.some.injEq] at hu; rw [hu]
theorem State.startFlush_kept (s : State) : (State.startFlush s).kept = s.kept := by
  simp only [State.startFlush, ↓State.put_kept, ↓State.kept_mk, ↓State.kept_fold, ↓each_kept, ↓foldl_kept,
    ↓when_kept, ↓kept_ite, ↓OutKept_ite, ↓OutKept_next, ↓OutKept_fault, ↓OutKept_refused, ite_self, implies_true]
theorem State.flushIfDue_kept (s : State) : (State.flushIfDue s).kept = s.kept := by
  simp only [State.flushIfDue, ↓State.startFlush_kept, ↓State.kept_mk, ↓State.kept_fold, ↓each_kept, ↓foldl_kept,
    ↓when_kept, ↓kept_ite, ↓OutKept_ite, ↓OutKept_next, ↓OutKept_fault, ↓OutKept_refused, ite_self, implies_true]
theorem State.endDrops_kept (s : State) : (State.endDrops s).kept = s.kept := by
  simp only [State.endDrops, ↓State.put_kept, ↓State.kept_mk, ↓State.kept_fold, ↓each_kept, ↓foldl_kept, ↓when_kept,
    ↓kept_ite, ↓OutKept_ite, ↓OutKept_next, ↓OutKept_fault, ↓OutKept_refused, ite_self, implies_true]
theorem State.joinBacklog_kept (s : State) (k : Nat) (e : BitVec 256) : (State.joinBacklog s k e).kept = s.kept := by
  simp only [State.joinBacklog, ↓State.count_kept, ↓State.event_kept, ↓State.kept_mk, ↓State.kept_fold, ↓each_kept,
    ↓foldl_kept, ↓when_kept, ↓kept_ite, ↓OutKept_ite, ↓OutKept_next, ↓OutKept_fault, ↓OutKept_refused, ite_self,
    implies_true]
theorem State.enterRing_kept (s : State) (e : BitVec 256) : (State.enterRing s e).kept = s.kept := by
  simp only [State.enterRing, ↓State.alert_kept, ↓State.count_kept, ↓State.event_kept, ↓State.flushIfDue_kept,
    ↓State.joinBacklog_kept, ↓State.put_kept, ↓State.showBacklog_kept, ↓State.kept_mk, ↓State.kept_fold, ↓each_kept,
    ↓foldl_kept, ↓when_kept, ↓kept_ite, ↓OutKept_ite, ↓OutKept_next, ↓OutKept_fault, ↓OutKept_refused, ite_self,
    implies_true]
theorem execFaultEntry_kept (e : FaultRec) (s : State) : OutKept s (execFaultEntry e s) := by
  simp only [execFaultEntry, ↓State.handEntry_kept, ↓State.kept_mk, ↓State.kept_fold, ↓each_kept, ↓foldl_kept,
    ↓when_kept, ↓kept_ite, ↓OutKept_ite, ↓OutKept_next, ↓OutKept_fault, ↓OutKept_refused, ite_self, implies_true]
theorem execRingIntake_kept (s : State) : OutKept s (execRingIntake s) := by
  unfold execRingIntake; (repeat' split) <;> simp (maxDischargeDepth := 9) only [↓State.endDrops_kept,
    ↓State.enterRing_kept, ↓State.kept_mk, ↓State.kept_fold, ↓each_kept, ↓foldl_kept, ↓when_kept, ↓kept_ite,
    ↓OutKept_ite, ↓OutKept_next, ↓OutKept_fault, ↓OutKept_refused, ite_self, implies_true]
theorem execFlushTimer_kept (s : State) : OutKept s (execFlushTimer s) := by
  simp only [execFlushTimer, ↓State.startFlush_kept, ↓State.kept_mk, ↓State.kept_fold, ↓each_kept, ↓foldl_kept,
    ↓when_kept, ↓kept_ite, ↓OutKept_ite, ↓OutKept_next, ↓OutKept_fault, ↓OutKept_refused, ite_self, implies_true]
theorem execFlushComplete_kept (ok : Bool) (s : State) : OutKept s (execFlushComplete ok s) := by
  unfold execFlushComplete
  dsimp only
  split
  · exact OutKept_next_of (Eq.mp rfl rfl)
  · split
    · exact OutKept_next_of ((State.retirePage_kept ..).trans (Eq.mp rfl rfl))
    · split
      · exact OutKept_next_of (Eq.mp rfl rfl)
      · next t ht =>
        refine OutKept_next_of ((State.showBacklog_kept ..).trans ((State.flushIfDue_kept ..).trans ((State.add_kept ..).trans
          ((State.put_kept ..).trans ((State.kept_mk ..).trans ((State.kept_fold _).trans ?_))))))
        exact s.programLog_kept _ t ht
theorem execPageEraseComplete_kept (ok : Bool) (s : State) : OutKept s (execPageEraseComplete ok s) := by
  unfold execPageEraseComplete; (repeat' split) <;> simp (maxDischargeDepth := 9) only [↓State.flashErase_kept,
    ↓State.retirePage_kept, ↓State.setLogPage_kept, ↓State.kept_mk, ↓State.kept_fold, ↓each_kept, ↓foldl_kept,
    ↓when_kept, ↓kept_ite, ↓OutKept_ite, ↓OutKept_next, ↓OutKept_fault, ↓OutKept_refused, ite_self, implies_true]
theorem State.writeLogEn_kept (s : State) (v : Word) : (State.writeLogEn s v).kept = s.kept := by
  simp only [State.writeLogEn, ↓State.put_kept, ↓State.putB_kept, ↓State.raise_kept, ↓State.showBacklog_kept,
    ↓State.kept_mk, ↓State.kept_fold, ↓each_kept, ↓foldl_kept, ↓when_kept, ↓kept_ite, ↓OutKept_ite, ↓OutKept_next,
    ↓OutKept_fault, ↓OutKept_refused, ite_self, implies_true]
theorem State.writeFltCtrl_kept (s : State) (v : Word) : (State.writeFltCtrl s v).kept = s.kept := by
  simp only [State.writeFltCtrl, ↓State.startFlush_kept, ↓State.writeLogEn_kept, ↓State.kept_mk, ↓State.kept_fold,
    ↓each_kept, ↓foldl_kept, ↓when_kept, ↓kept_ite, ↓OutKept_ite, ↓OutKept_next, ↓OutKept_fault, ↓OutKept_refused,
    ite_self, implies_true]
theorem execFlushNow_kept (v : Word) (s : State) : OutKept s (execFlushNow v s) := by
  simp only [execFlushNow, ↓State.writeFltCtrl_kept, ↓State.kept_mk, ↓State.kept_fold, ↓each_kept, ↓foldl_kept,
    ↓when_kept, ↓kept_ite, ↓OutKept_ite, ↓OutKept_next, ↓OutKept_fault, ↓OutKept_refused, ite_self, implies_true]
theorem execLogEnable_kept (v : Word) (s : State) : OutKept s (execLogEnable v s) := by
  simp only [execLogEnable, ↓State.writeFltCtrl_kept, ↓State.kept_mk, ↓State.kept_fold, ↓each_kept, ↓foldl_kept,
    ↓when_kept, ↓kept_ite, ↓OutKept_ite, ↓OutKept_next, ↓OutKept_fault, ↓OutKept_refused, ite_self, implies_true]
theorem execLogScanComplete_kept (s : State) : OutKept s (execLogScanComplete s) := by
  unfold execLogScanComplete; dsimp only; (repeat' split) <;> simp (maxDischargeDepth := 9) only
    [↓State.flushIfDue_kept, ↓State.put_kept, ↓State.raise_kept, ↓State.setLogPage_kept, ↓State.showBacklog_kept,
    ↓State.kept_mk, ↓State.kept_fold, ↓each_kept, ↓foldl_kept, ↓when_kept, ↓kept_ite, ↓OutKept_ite, ↓OutKept_next,
    ↓OutKept_fault, ↓OutKept_refused, ite_self, implies_true]
theorem execFltEntRead_kept (s : State) : OutKept s (execFltEntRead s) := by
  simp only [execFltEntRead, ↓State.answerWord_kept, ↓State.latchEntry_kept, ↓State.kept_mk, ↓State.kept_fold,
    ↓each_kept, ↓foldl_kept, ↓when_kept, ↓kept_ite, ↓OutKept_ite, ↓OutKept_next, ↓OutKept_fault, ↓OutKept_refused,
    ite_self, implies_true]
theorem State.dropPageErase_kept (s : State) : (State.dropPageErase s).kept = s.kept := by
  unfold State.dropPageErase; (repeat' split) <;> simp (maxDischargeDepth := 9) only [↓State.flashSpoil_kept,
    ↓State.fresh_kept, ↓State.kept_mk, ↓State.kept_fold, ↓each_kept, ↓foldl_kept, ↓when_kept, ↓kept_ite,
    ↓OutKept_ite, ↓OutKept_next, ↓OutKept_fault, ↓OutKept_refused, ite_self, implies_true]
theorem execPowerFailWarning_kept (s : State) : OutKept s (execPowerFailWarning s) := by
  unfold execPowerFailWarning; dsimp only; (repeat' split) <;> simp (maxDischargeDepth := 9) only
    [↓State.dropPageErase_kept, ↓State.flashSpoil_kept, ↓State.put_kept, ↓State.raise_kept, ↓State.kept_mk,
    ↓State.kept_fold, ↓each_kept, ↓foldl_kept, ↓when_kept, ↓kept_ite, ↓OutKept_ite, ↓OutKept_next, ↓OutKept_fault,
    ↓OutKept_refused, ite_self, implies_true]
theorem execPowerFailClear_kept (s : State) : OutKept s (execPowerFailClear s) := by
  simp only [execPowerFailClear, ↓State.add_kept, ↓State.put_kept, ↓State.showBacklog_kept, ↓State.kept_mk,
    ↓State.kept_fold, ↓each_kept, ↓foldl_kept, ↓when_kept, ↓kept_ite, ↓OutKept_ite, ↓OutKept_next, ↓OutKept_fault,
    ↓OutKept_refused, ite_self, implies_true]
theorem State.resetRegs_kept (s : State) (at_ : Nat → Bool) (lock : Bool) : (State.resetRegs s at_ lock).kept = s.kept := by
  simp only [State.resetRegs, ↓State.kept_mk, ↓State.kept_fold, ↓each_kept, ↓foldl_kept, ↓when_kept, ↓kept_ite,
    ↓OutKept_ite, ↓OutKept_next, ↓OutKept_fault, ↓OutKept_refused, ite_self, implies_true]
theorem State.loadFuses_kept (s : State) (at_ : Nat → Bool) (cold : Bool) : (State.loadFuses s at_ cold).kept = s.kept := by
  simp only [State.loadFuses, ↓State.setWord_kept, ↓State.showFuses_kept, ↓State.kept_mk, ↓State.kept_fold,
    ↓each_kept, ↓foldl_kept, ↓when_kept, ↓kept_ite, ↓OutKept_ite, ↓OutKept_next, ↓OutKept_fault, ↓OutKept_refused,
    ite_self, implies_true]
theorem State.dropFlash_kept (s : State) : (State.dropFlash s).kept = s.kept := by
  unfold State.dropFlash; (repeat' split) <;> simp (maxDischargeDepth := 9) only [↓State.flashSpoil_kept,
    ↓State.kept_mk, ↓State.kept_fold, ↓each_kept, ↓foldl_kept, ↓when_kept, ↓kept_ite, ↓OutKept_ite, ↓OutKept_next,
    ↓OutKept_fault, ↓OutKept_refused, ite_self, implies_true]
theorem State.setWin_kept (s : State) (t : Transport) (w : Window) : (State.setWin s t w).kept = s.kept := by
  unfold State.setWin; (repeat' split) <;> simp (maxDischargeDepth := 9) only [↓State.put_kept, ↓State.kept_mk,
    ↓State.kept_fold, ↓each_kept, ↓foldl_kept, ↓when_kept, ↓kept_ite, ↓OutKept_ite, ↓OutKept_next, ↓OutKept_fault,
    ↓OutKept_refused, ite_self, implies_true]
theorem State.endAccess_kept (s : State) (t : Transport) (status : Nat) (data : Word) : (State.endAccess s t status data).kept = s.kept := by
  simp only [State.endAccess, ↓State.alert_kept, ↓State.count_kept, ↓State.fresh_kept, ↓State.setWin_kept,
    ↓State.write_kept, ↓State.kept_mk, ↓State.kept_fold, ↓each_kept, ↓foldl_kept, ↓when_kept, ↓kept_ite,
    ↓OutKept_ite, ↓OutKept_next, ↓OutKept_fault, ↓OutKept_refused, ite_self, implies_true]
theorem State.endWindows_kept (s : State) : (State.endWindows s).kept = s.kept := by
  simp only [State.endWindows, ↓State.endAccess_kept, ↓State.setWin_kept, ↓State.kept_mk, ↓State.kept_fold,
    ↓each_kept, ↓foldl_kept, ↓when_kept, ↓kept_ite, ↓OutKept_ite, ↓OutKept_next, ↓OutKept_fault, ↓OutKept_refused,
    ite_self, implies_true]
theorem State.openDomains_kept (s : State) : (State.openDomains s).kept = s.kept := by
  simp only [State.openDomains, ↓State.raise_kept, ↓State.setDom_kept, ↓State.kept_mk, ↓State.kept_fold, ↓each_kept,
    ↓foldl_kept, ↓when_kept, ↓kept_ite, ↓OutKept_ite, ↓OutKept_next, ↓OutKept_fault, ↓OutKept_refused, ite_self,
    implies_true]
theorem State.rescan_kept (s : State) : (State.rescan s).kept = s.kept := by
  simp only [State.rescan, ↓State.put_kept, ↓State.kept_mk, ↓State.kept_fold, ↓each_kept, ↓foldl_kept, ↓when_kept,
    ↓kept_ite, ↓OutKept_ite, ↓OutKept_next, ↓OutKept_fault, ↓OutKept_refused, ite_self, implies_true]
theorem State.warmReset_kept (s : State) : (State.warmReset s).kept = s.kept := by
  simp only [State.warmReset, ↓State.dropFlash_kept, ↓State.endWindows_kept, ↓State.loadFuses_kept,
    ↓State.openDomains_kept, ↓State.put_kept, ↓State.rescan_kept, ↓State.resetRegs_kept, ↓State.showMarks_kept,
    ↓State.kept_mk, ↓State.kept_fold, ↓each_kept, ↓foldl_kept, ↓when_kept, ↓kept_ite, ↓OutKept_ite, ↓OutKept_next,
    ↓OutKept_fault, ↓OutKept_refused, ite_self, implies_true]
theorem State.coldReset_kept (s : State) : (State.coldReset s).kept = s.kept := by
  simp only [State.coldReset, ↓State.loadFuses_kept, ↓State.kept_mk, ↓State.kept_fold, ↓each_kept, ↓foldl_kept,
    ↓when_kept, ↓kept_ite, ↓OutKept_ite, ↓OutKept_next, ↓OutKept_fault, ↓OutKept_refused, ite_self, implies_true]
theorem State.flashLoss_kept (s : State) : (State.flashLoss s).kept = s.kept := by
  unfold State.flashLoss; dsimp only; (repeat' split) <;> simp (maxDischargeDepth := 9) only [↓State.dropFlash_kept,
    ↓State.flashSpoil_kept, ↓State.kept_mk, ↓State.kept_fold, ↓each_kept, ↓foldl_kept, ↓when_kept, ↓kept_ite,
    ↓OutKept_ite, ↓OutKept_next, ↓OutKept_fault, ↓OutKept_refused, ite_self, implies_true]
theorem State.writeCtrl_kept (s : State) (b : ResetBlock) (v : Word) : (State.writeCtrl s b v).kept = s.kept := by
  simp only [State.writeCtrl, ↓State.closePort_kept, ↓State.put_kept, ↓State.kept_mk, ↓State.kept_fold, ↓each_kept,
    ↓foldl_kept, ↓when_kept, ↓kept_ite, ↓OutKept_ite, ↓OutKept_next, ↓OutKept_fault, ↓OutKept_refused, ite_self,
    implies_true]
theorem State.blockState_kept (s : State) (b : ResetBlock) : (State.blockState s b).kept = s.kept := by
  unfold State.blockState; (repeat' split) <;> simp (maxDischargeDepth := 9) only [↓State.cancelTimedSwaps_kept,
    ↓State.dmcReset_kept, ↓State.mpeReset_kept, ↓State.quadReset_kept, ↓State.showMarks_kept,
    ↓State.startScrub_kept, ↓State.stopScrub_kept, ↓State.kept_mk, ↓State.kept_fold, ↓each_kept, ↓foldl_kept,
    ↓when_kept, ↓kept_ite, ↓OutKept_ite, ↓OutKept_next, ↓OutKept_fault, ↓OutKept_refused, ite_self, implies_true]
theorem State.applyBlock_kept (s : State) (b : ResetBlock) : (State.applyBlock s b).kept = s.kept := by
  simp only [State.applyBlock, ↓State.blockState_kept, ↓State.loadFuses_kept, ↓State.openPort_kept, ↓State.put_kept,
    ↓State.resetRegs_kept, ↓State.kept_mk, ↓State.kept_fold, ↓each_kept, ↓foldl_kept, ↓when_kept, ↓kept_ite,
    ↓OutKept_ite, ↓OutKept_next, ↓OutKept_fault, ↓OutKept_refused, ite_self, implies_true]
theorem State.twpAnswer_kept (s : State) (ok : Bool) : (State.twpAnswer s ok).kept = s.kept := by
  simp only [State.twpAnswer, ↓State.alert_kept, ↓State.put_kept, ↓State.kept_mk, ↓State.kept_fold, ↓each_kept,
    ↓foldl_kept, ↓when_kept, ↓kept_ite, ↓OutKept_ite, ↓OutKept_next, ↓OutKept_fault, ↓OutKept_refused, ite_self,
    implies_true]
theorem State.twpReset_kept (s : State) (v : Word) : (State.twpReset s v).kept = s.kept := by
  simp only [State.twpReset, ↓State.endWindows_kept, ↓State.raise_kept, ↓State.twpAnswer_kept,
    ↓State.warmReset_kept, ↓State.kept_mk, ↓State.kept_fold, ↓each_kept, ↓foldl_kept, ↓when_kept, ↓kept_ite,
    ↓OutKept_ite, ↓OutKept_next, ↓OutKept_fault, ↓OutKept_refused, ite_self, implies_true]
theorem State.twpReconfigure_kept (s : State) (v : Word) : (State.twpReconfigure s v).kept = s.kept := by
  simp only [State.twpReconfigure, ↓State.raise_kept, ↓State.twpAnswer_kept, ↓State.writeCfgCtrl_kept,
    ↓State.kept_mk, ↓State.kept_fold, ↓each_kept, ↓foldl_kept, ↓when_kept, ↓kept_ite, ↓OutKept_ite, ↓OutKept_next,
    ↓OutKept_fault, ↓OutKept_refused, ite_self, implies_true]
theorem State.twpWake_kept (s : State) (v : Word) : (State.twpWake s v).kept = s.kept := by
  simp only [State.twpWake, ↓State.put_kept, ↓State.raise_kept, ↓State.twpAnswer_kept, ↓State.kept_mk,
    ↓State.kept_fold, ↓each_kept, ↓foldl_kept, ↓when_kept, ↓kept_ite, ↓OutKept_ite, ↓OutKept_next, ↓OutKept_fault,
    ↓OutKept_refused, ite_self, implies_true]
theorem State.twpRequest_kept (s : State) (v : Word) : (State.twpRequest s v).kept = s.kept := by
  simp only [State.twpRequest, ↓State.setWord_kept, ↓State.twpAnswer_kept, ↓State.twpReconfigure_kept,
    ↓State.twpReset_kept, ↓State.twpWake_kept, ↓State.kept_mk, ↓State.kept_fold, ↓each_kept, ↓foldl_kept,
    ↓when_kept, ↓kept_ite, ↓OutKept_ite, ↓OutKept_next, ↓OutKept_fault, ↓OutKept_refused, ite_self, implies_true]
theorem State.forceEvents_kept (s : State) (pg : Nat) (mask : Nat) (v : Word) : (State.forceEvents s pg mask v).kept = s.kept := by
  simp only [State.forceEvents, ↓State.setWord_kept, ↓State.kept_mk, ↓State.kept_fold, ↓each_kept, ↓foldl_kept,
    ↓when_kept, ↓kept_ite, ↓OutKept_ite, ↓OutKept_next, ↓OutKept_fault, ↓OutKept_refused, ite_self, implies_true]
theorem State.lockPage_kept (s : State) (pg : Nat) (v : Word) : (State.lockPage s pg v).kept = s.kept := by
  simp only [State.lockPage, ↓State.put_kept, ↓State.kept_mk, ↓State.kept_fold, ↓each_kept, ↓foldl_kept, ↓when_kept,
    ↓kept_ite, ↓OutKept_ite, ↓OutKept_next, ↓OutKept_fault, ↓OutKept_refused, ite_self, implies_true]
theorem State.clearEvents_kept (s : State) (pg : Nat) (v hwSet : Word) : (State.clearEvents s pg v hwSet).kept = s.kept := by
  simp only [State.clearEvents, ↓State.setWord_kept, ↓State.kept_mk, ↓State.kept_fold, ↓each_kept, ↓foldl_kept,
    ↓when_kept, ↓kept_ite, ↓OutKept_ite, ↓OutKept_next, ↓OutKept_fault, ↓OutKept_refused, ite_self, implies_true]
theorem State.openFact_kept (s : State) (f : Bool → State → State) (h : ∀ b t, (f b t).kept = t.kept) :
    (s.openFact f).kept = s.kept := by
  exact (h _ _).trans (s.fresh_kept 1)
theorem State.writeStl_kept (s : State) (i o off : Nat) (v : Word) : (State.writeStl s i o off v).kept = s.kept := by
  simp only [State.writeStl, ↓State.openFact_kept, ↓State.write_kept, ↓State.writeStlCmd_kept,
    ↓State.writeWhere_kept, ↓State.kept_mk, ↓State.kept_fold, ↓each_kept, ↓foldl_kept, ↓when_kept, ↓kept_ite,
    ↓OutKept_ite, ↓OutKept_next, ↓OutKept_fault, ↓OutKept_refused, ite_self, implies_true]
theorem State.writeTh_kept (s : State) (page o off : Nat) (v : Word) : (State.writeTh s page o off v).kept = s.kept := by
  unfold State.writeTh; (repeat' split) <;> simp (maxDischargeDepth := 9) only [↓State.openFact_kept,
    ↓State.releaseOut_kept, ↓State.write_kept, ↓State.writeInCfg_kept, ↓State.writeLayout_kept,
    ↓State.writeOutReq_kept, ↓State.writeRole_kept, ↓State.writeSeqCtrl_kept, ↓State.writeSysref_kept,
    ↓State.writeThCtrl_kept, ↓State.writeXtlSend_kept, ↓State.kept_mk, ↓State.kept_fold, ↓each_kept, ↓foldl_kept,
    ↓when_kept, ↓kept_ite, ↓OutKept_ite, ↓OutKept_next, ↓OutKept_fault, ↓OutKept_refused, ite_self, implies_true]
theorem State.writeNoc_kept (s : State) (i o off : Nat) (v : Word) : (State.writeNoc s i o off v).kept = s.kept := by
  simp only [State.writeNoc, ↓State.write_kept, ↓State.writeFi_kept, ↓State.writeRtr_kept, ↓State.kept_mk,
    ↓State.kept_fold, ↓each_kept, ↓foldl_kept, ↓when_kept, ↓kept_ite, ↓OutKept_ite, ↓OutKept_next, ↓OutKept_fault,
    ↓OutKept_refused, ite_self, implies_true]
theorem State.writeDmc_kept (s : State) (n off : Nat) (v : Word) : (State.writeDmc s n off v).kept = s.kept := by
  simp only [State.writeDmc, ↓State.newWindow_kept, ↓State.write_kept, ↓State.writeDmcCtrl_kept,
    ↓State.writeMaint_kept, ↓State.kept_mk, ↓State.kept_fold, ↓each_kept, ↓foldl_kept, ↓when_kept, ↓kept_ite,
    ↓OutKept_ite, ↓OutKept_next, ↓OutKept_fault, ↓OutKept_refused, ite_self, implies_true]
theorem State.writeMpe_kept (s : State) (sender : Sender) (n o off : Nat) (v : Word) : (State.writeMpe s sender n o off v).kept = s.kept := by
  simp only [State.writeMpe, ↓State.write_kept, ↓State.writeKeyCmd_kept, ↓State.writeKeyMode_kept,
    ↓State.writeRgnCfg_kept, ↓State.kept_mk, ↓State.kept_fold, ↓each_kept, ↓foldl_kept, ↓when_kept, ↓kept_ite,
    ↓OutKept_ite, ↓OutKept_next, ↓OutKept_fault, ↓OutKept_refused, ite_self, implies_true]
theorem State.writeCc_kept (s : State) (core : Option Nat) (off : Nat) (v : Word) : (State.writeCc s core off v).kept = s.kept := by
  unfold State.writeCc; (repeat' split) <;> simp (maxDischargeDepth := 9) only [↓State.coreCtrlWrite_kept,
    ↓State.write_kept, ↓State.writeL2Maint_kept, ↓State.writeL2Part_kept, ↓State.kept_mk, ↓State.kept_fold,
    ↓each_kept, ↓foldl_kept, ↓when_kept, ↓kept_ite, ↓OutKept_ite, ↓OutKept_next, ↓OutKept_fault, ↓OutKept_refused,
    ite_self, implies_true]
theorem State.writeIc_kept (s : State) (page i o off : Nat) (v : Word) : (State.writeIc s page i o off v).kept = s.kept := by
  unfold State.writeIc; (repeat' split) <;> simp (maxDischargeDepth := 9) only [↓State.sourceHigh_kept,
    ↓State.write_kept, ↓State.writeComplete_kept, ↓State.writePend_kept, ↓State.writeSwi_kept, ↓State.kept_mk,
    ↓State.kept_fold, ↓each_kept, ↓foldl_kept, ↓when_kept, ↓kept_ite, ↓OutKept_ite, ↓OutKept_next, ↓OutKept_fault,
    ↓OutKept_refused, ite_self, implies_true]
theorem State.writeTs_kept (s : State) (off : Nat) (v : Word) : (State.writeTs s off v).kept = s.kept := by
  simp only [State.writeTs, ↓State.tsCmd_kept, ↓State.tsDone_kept, ↓State.write_kept, ↓State.writeTsCtrl_kept,
    ↓State.kept_mk, ↓State.kept_fold, ↓each_kept, ↓foldl_kept, ↓when_kept, ↓kept_ite, ↓OutKept_ite, ↓OutKept_next,
    ↓OutKept_fault, ↓OutKept_refused, ite_self, implies_true]
theorem State.writeXcv_kept (s : State) (q o off : Nat) (v : Word) : (State.writeXcv s q o off v).kept = s.kept := by
  simp only [State.writeXcv, ↓State.fresh_kept, ↓State.write_kept, ↓State.writeEyeScan_kept, ↓State.writeGroup_kept,
    ↓State.writeLaneCfg_kept, ↓State.writeLaneFault_kept, ↓State.writeLaneFi_kept, ↓State.writeLaneMaint_kept,
    ↓State.writeQpll_kept, ↓State.kept_mk, ↓State.kept_fold, ↓each_kept, ↓foldl_kept, ↓when_kept, ↓kept_ite,
    ↓OutKept_ite, ↓OutKept_next, ↓OutKept_fault, ↓OutKept_refused, ite_self, implies_true]
theorem State.writeAge_kept (s : State) (o off : Nat) (v : Word) : (State.writeAge s o off v).kept = s.kept := by
  simp only [State.writeAge, ↓State.put_kept, ↓State.write_kept, ↓State.kept_mk, ↓State.kept_fold, ↓each_kept,
    ↓foldl_kept, ↓when_kept, ↓kept_ite, ↓OutKept_ite, ↓OutKept_next, ↓OutKept_fault, ↓OutKept_refused, ite_self,
    implies_true]
theorem State.writeTwp_kept (s : State) (sender : Sender) (off : Nat) (v : Word) : (State.writeTwp s sender off v).kept = s.kept := by
  unfold State.writeTwp; (repeat' split) <;> simp (maxDischargeDepth := 9) only [↓State.alert_kept,
    ↓State.twpRequest_kept, ↓State.write_kept, ↓State.kept_mk, ↓State.kept_fold, ↓each_kept, ↓foldl_kept,
    ↓when_kept, ↓kept_ite, ↓OutKept_ite, ↓OutKept_next, ↓OutKept_fault, ↓OutKept_refused, ite_self, implies_true]
theorem State.writeRegion_kept (s : State) (i o off : Nat) (v : Word) : (State.writeRegion s i o off v).kept = s.kept := by
  simp only [State.writeRegion, ↓State.bistWrite_kept, ↓State.fresh_kept, ↓State.remapWrite_kept,
    ↓State.setWord_kept, ↓State.write_kept, ↓State.writeCmtCtrl_kept, ↓State.writeEccInj_kept, ↓State.kept_mk,
    ↓State.kept_fold, ↓each_kept, ↓foldl_kept, ↓when_kept, ↓kept_ite, ↓OutKept_ite, ↓OutKept_next, ↓OutKept_fault,
    ↓OutKept_refused, ite_self, implies_true]
theorem State.writePage_kept (s : State) (sender : Sender) (p : PageSpec) (i o off : Nat) (v : Word) : (State.writePage s sender p i o off v).kept = s.kept := by
  unfold State.writePage; (repeat' split) <;> simp (maxDischargeDepth := 9) only [↓State.remapWrite_kept,
    ↓State.setWord_kept, ↓State.write_kept, ↓State.writeAge_kept, ↓State.writeCc_kept, ↓State.writeCfgCtrl_kept,
    ↓State.writeClkSel_kept, ↓State.writeDmc_kept, ↓State.writeDom_kept, ↓State.writeFlashCmd_kept,
    ↓State.writeFltCtrl_kept, ↓State.writeIc_kept, ↓State.writeMpe_kept, ↓State.writeNoc_kept,
    ↓State.writePairCtrl_kept, ↓State.writeRegion_kept, ↓State.writeSluCfg_kept, ↓State.writeSluTgt_kept,
    ↓State.writeStl_kept, ↓State.writeTh_kept, ↓State.writeTrimCfg_kept, ↓State.writeTs_kept, ↓State.writeTwp_kept,
    ↓State.writeXcv_kept, ↓State.kept_mk, ↓State.kept_fold, ↓each_kept, ↓foldl_kept, ↓when_kept, ↓kept_ite,
    ↓OutKept_ite, ↓OutKept_next, ↓OutKept_fault, ↓OutKept_refused, ite_self, implies_true]
theorem State.writeWindow_kept (s : State) (p : PageSpec) (i o off : Nat) (v : Word) : (State.writeWindow s p i o off v).kept = s.kept := by
  simp only [State.writeWindow, ↓State.write_kept, ↓State.writeCtxWord_kept, ↓State.writeScCtrl_kept,
    ↓State.writeSeqTable_kept, ↓State.writeTail_kept, ↓State.writeTask_kept, ↓State.writeToll_kept, ↓State.kept_mk,
    ↓State.kept_fold, ↓each_kept, ↓foldl_kept, ↓when_kept, ↓kept_ite, ↓OutKept_ite, ↓OutKept_next, ↓OutKept_fault,
    ↓OutKept_refused, ite_self, implies_true]
theorem State.regWrite_kept (s : State) (sender : Sender) (off : Nat) (v : Word) : (State.regWrite s sender off v).kept = s.kept := by
  unfold State.regWrite; (repeat' split) <;> simp (maxDischargeDepth := 9) only [↓State.forceEvents_kept,
    ↓State.lockPage_kept, ↓State.pushCfgData_kept, ↓State.write_kept, ↓State.writeCtrl_kept, ↓State.writePage_kept,
    ↓State.writePost_kept, ↓State.writeWindow_kept, ↓State.kept_mk, ↓State.kept_fold, ↓each_kept, ↓foldl_kept,
    ↓when_kept, ↓kept_ite, ↓OutKept_ite, ↓OutKept_next, ↓OutKept_fault, ↓OutKept_refused, ite_self, implies_true]
theorem State.setWaiting_kept (s : State) (l : List Repair) : (State.setWaiting s l).kept = s.kept := by
  simp only [State.setWaiting, ↓State.put_kept, ↓State.kept_mk, ↓State.kept_fold, ↓each_kept, ↓foldl_kept,
    ↓when_kept, ↓kept_ite, ↓OutKept_ite, ↓OutKept_next, ↓OutKept_fault, ↓OutKept_refused, ite_self, implies_true]
theorem State.setRepair_kept (s : State) (r : Option Repair) : (State.setRepair s r).kept = s.kept := by
  simp only [State.setRepair, ↓State.kept_mk, ↓State.kept_fold, ↓each_kept, ↓foldl_kept, ↓when_kept, ↓kept_ite,
    ↓OutKept_ite, ↓OutKept_next, ↓OutKept_fault, ↓OutKept_refused, ite_self, implies_true]
theorem State.startWaiting_kept (s : State) : (State.startWaiting s).kept = s.kept := by
  unfold State.startWaiting; (repeat' split) <;> simp (maxDischargeDepth := 9) only [↓State.setRepair_kept,
    ↓State.setWaiting_kept, ↓State.kept_mk, ↓State.kept_fold, ↓each_kept, ↓foldl_kept, ↓when_kept, ↓kept_ite,
    ↓OutKept_ite, ↓OutKept_next, ↓OutKept_fault, ↓OutKept_refused, ite_self, implies_true]
theorem State.unrepaired_kept (s : State) (r : Repair) : (State.unrepaired s r).kept = s.kept := by
  unfold State.unrepaired; (repeat' split) <;> simp (maxDischargeDepth := 9) only [↓State.count_kept,
    ↓State.holdStall_kept, ↓State.put_kept, ↓State.raise_kept, ↓State.setShadow_kept, ↓State.kept_mk,
    ↓State.kept_fold, ↓each_kept, ↓foldl_kept, ↓when_kept, ↓kept_ite, ↓OutKept_ite, ↓OutKept_next, ↓OutKept_fault,
    ↓OutKept_refused, ite_self, implies_true]
theorem State.tryCopies_kept (s : State) (r : Repair) : (State.tryCopies s r).kept = s.kept := by
  simp only [State.tryCopies, ↓State.setRepair_kept, ↓State.setWaiting_kept, ↓State.unrepaired_kept, ↓State.kept_mk,
    ↓State.kept_fold, ↓each_kept, ↓foldl_kept, ↓when_kept, ↓kept_ite, ↓OutKept_ite, ↓OutKept_next, ↓OutKept_fault,
    ↓OutKept_refused, ite_self, implies_true]
theorem State.noteBadFrame_kept (s : State) (a mask : Nat) (stall : Option Nat) : (State.noteBadFrame s a mask stall).kept = s.kept := by
  simp only [State.noteBadFrame, ↓State.count_kept, ↓State.put_kept, ↓State.kept_mk, ↓State.kept_fold, ↓each_kept,
    ↓foldl_kept, ↓when_kept, ↓kept_ite, ↓OutKept_ite, ↓OutKept_next, ↓OutKept_fault, ↓OutKept_refused, ite_self,
    implies_true]
theorem State.correctPlane_kept (s : State) (plane : Bool) (a : Nat) (shadow : Bool) : (State.correctPlane s plane a shadow).kept = s.kept := by
  simp only [State.correctPlane, ↓State.add_kept, ↓State.setFrame_kept, ↓State.kept_mk, ↓State.kept_fold,
    ↓each_kept, ↓foldl_kept, ↓when_kept, ↓kept_ite, ↓OutKept_ite, ↓OutKept_next, ↓OutKept_fault, ↓OutKept_refused,
    ite_self, implies_true]
theorem State.scrubFrame_kept (s : State) (a : Nat) : (State.scrubFrame s a).kept = s.kept := by
  unfold State.scrubFrame; dsimp only; (repeat' split) <;> simp (maxDischargeDepth := 9) only
    [↓State.correctPlane_kept, ↓State.count_kept, ↓State.mirror_kept, ↓State.noteBadFrame_kept, ↓State.raise_kept,
    ↓State.setFrame_kept, ↓State.tryCopies_kept, ↓State.kept_mk, ↓State.kept_fold, ↓each_kept, ↓foldl_kept,
    ↓when_kept, ↓kept_ite, ↓OutKept_ite, ↓OutKept_next, ↓OutKept_fault, ↓OutKept_refused, ite_self, implies_true]
theorem State.endPass_kept (s : State) : (State.endPass s).kept = s.kept := by
  simp only [State.endPass, ↓State.count_kept, ↓State.put_kept, ↓State.raise_kept, ↓State.kept_mk, ↓State.kept_fold,
    ↓each_kept, ↓foldl_kept, ↓when_kept, ↓kept_ite, ↓OutKept_ite, ↓OutKept_next, ↓OutKept_fault, ↓OutKept_refused,
    ite_self, implies_true]
theorem execScrubSlot_kept (s : State) : OutKept s (execScrubSlot s) := by
  unfold execScrubSlot; dsimp only; (repeat' split) <;> simp (maxDischargeDepth := 9) only [↓State.elapse_kept,
    ↓State.endPass_kept, ↓State.put_kept, ↓State.scrubFrame_kept, ↓State.startWaiting_kept, ↓State.kept_mk,
    ↓State.kept_fold, ↓each_kept, ↓foldl_kept, ↓when_kept, ↓kept_ite, ↓OutKept_ite, ↓OutKept_next, ↓OutKept_fault,
    ↓OutKept_refused, ite_self, implies_true]
theorem State.refillNext_kept (s : State) (n a : Nat) : (State.refillNext s n a).kept = s.kept := by
  unfold State.refillNext; (repeat' split) <;> simp (maxDischargeDepth := 9) only [↓State.raise_kept,
    ↓State.setShadow_kept, ↓State.setStall_kept, ↓State.setWord_kept, ↓State.kept_mk, ↓State.kept_fold, ↓each_kept,
    ↓foldl_kept, ↓when_kept, ↓kept_ite, ↓OutKept_ite, ↓OutKept_next, ↓OutKept_fault, ↓OutKept_refused, ite_self,
    implies_true]
theorem execRepairReadResponse_kept (ok : Bool) (frame : Frame) (s : State) : OutKept s (execRepairReadResponse ok frame s) := by
  unfold execRepairReadResponse; (repeat' split) <;> simp (maxDischargeDepth := 9) only [↓State.count_kept,
    ↓State.raise_kept, ↓State.refillNext_kept, ↓State.setFrame_kept, ↓State.setRepair_kept,
    ↓State.startWaiting_kept, ↓State.tryCopies_kept, ↓State.kept_mk, ↓State.kept_fold, ↓each_kept, ↓foldl_kept,
    ↓when_kept, ↓kept_ite, ↓OutKept_ite, ↓OutKept_next, ↓OutKept_fault, ↓OutKept_refused, ite_self, implies_true]
theorem execRefillFrame_kept (n : Fin 64) (s : State) : OutKept s (execRefillFrame n s) := by
  unfold execRefillFrame; dsimp only; (repeat' split) <;> simp (maxDischargeDepth := 9) only [↓State.add_kept,
    ↓State.noteBadFrame_kept, ↓State.refillNext_kept, ↓State.setFrame_kept, ↓State.tryCopies_kept, ↓State.kept_mk,
    ↓State.kept_fold, ↓each_kept, ↓foldl_kept, ↓when_kept, ↓kept_ite, ↓OutKept_ite, ↓OutKept_next, ↓OutKept_fault,
    ↓OutKept_refused, ite_self, implies_true]
theorem execProgNAssert_kept (s : State) : OutKept s (execProgNAssert s) := by
  simp only [execProgNAssert, ↓State.reconfigure_kept, ↓State.kept_mk, ↓State.kept_fold, ↓each_kept, ↓foldl_kept,
    ↓when_kept, ↓kept_ite, ↓OutKept_ite, ↓OutKept_next, ↓OutKept_fault, ↓OutKept_refused, ite_self, implies_true]
theorem execProgNRelease_kept (bootMode : BitVec 3) (s : State) : OutKept s (execProgNRelease bootMode s) := by
  simp only [execProgNRelease, ↓State.sampleMode_kept, ↓State.startBoot_kept, ↓State.kept_mk, ↓State.kept_fold,
    ↓each_kept, ↓foldl_kept, ↓when_kept, ↓kept_ite, ↓OutKept_ite, ↓OutKept_next, ↓OutKept_fault, ↓OutKept_refused,
    ite_self, implies_true]
theorem execProg_kept (v : Word) (s : State) : OutKept s (execProg v s) := by
  simp only [execProg, ↓State.writeCfgCtrl_kept, ↓State.kept_mk, ↓State.kept_fold, ↓each_kept, ↓foldl_kept,
    ↓when_kept, ↓kept_ite, ↓OutKept_ite, ↓OutKept_next, ↓OutKept_fault, ↓OutKept_refused, ite_self, implies_true]
theorem execBootStart_kept (bootMode : BitVec 3) (s : State) : OutKept s (execBootStart bootMode s) := by
  simp only [execBootStart, ↓State.countBoot_kept, ↓State.sampleMode_kept, ↓State.startBoot_kept, ↓State.kept_mk,
    ↓State.kept_fold, ↓each_kept, ↓foldl_kept, ↓when_kept, ↓kept_ite, ↓OutKept_ite, ↓OutKept_next, ↓OutKept_fault,
    ↓OutKept_refused, ite_self, implies_true]
theorem execLoadGo_kept (v : Word) (s : State) : OutKept s (execLoadGo v s) := by
  simp only [execLoadGo, ↓State.writeCfgCtrl_kept, ↓State.kept_mk, ↓State.kept_fold, ↓each_kept, ↓foldl_kept,
    ↓when_kept, ↓kept_ite, ↓OutKept_ite, ↓OutKept_next, ↓OutKept_fault, ↓OutKept_refused, ite_self, implies_true]
theorem execAbort_kept (v : Word) (s : State) : OutKept s (execAbort v s) := by
  simp only [execAbort, ↓State.writeCfgCtrl_kept, ↓State.kept_mk, ↓State.kept_fold, ↓each_kept, ↓foldl_kept,
    ↓when_kept, ↓kept_ite, ↓OutKept_ite, ↓OutKept_next, ↓OutKept_fault, ↓OutKept_refused, ite_self, implies_true]
theorem execSelftest_kept (v : Word) (s : State) : OutKept s (execSelftest v s) := by
  simp only [execSelftest, ↓State.writeCfgCtrl_kept, ↓State.kept_mk, ↓State.kept_fold, ↓each_kept, ↓foldl_kept,
    ↓when_kept, ↓kept_ite, ↓OutKept_ite, ↓OutKept_next, ↓OutKept_fault, ↓OutKept_refused, ite_self, implies_true]
theorem execSelftestComplete_kept (pass : Bool) (s : State) : OutKept s (execSelftestComplete pass s) := by
  unfold execSelftestComplete; dsimp only; (repeat' split) <;> simp (maxDischargeDepth := 9) only
    [↓State.beginLoad_kept, ↓State.log_kept, ↓State.put_kept, ↓State.raise_kept, ↓State.startBoot_kept,
    ↓State.kept_mk, ↓State.kept_fold, ↓each_kept, ↓foldl_kept, ↓when_kept, ↓kept_ite, ↓OutKept_ite, ↓OutKept_next,
    ↓OutKept_fault, ↓OutKept_refused, ite_self, implies_true]
theorem execCfgDataWrite_kept (bytes : List Byte) (s : State) : OutKept s (execCfgDataWrite bytes s) := by
  simp only [execCfgDataWrite, ↓State.pushCfgData_kept, ↓State.kept_mk, ↓State.kept_fold, ↓each_kept, ↓foldl_kept,
    ↓when_kept, ↓kept_ite, ↓OutKept_ite, ↓OutKept_next, ↓OutKept_fault, ↓OutKept_refused, ite_self, implies_true]
theorem execLoadDataTimeout_kept (s : State) : OutKept s (execLoadDataTimeout s) := by
  unfold execLoadDataTimeout; (repeat' split) <;> simp (maxDischargeDepth := 9) only [↓State.complete_kept,
    ↓State.failHere_kept, ↓State.kept_mk, ↓State.kept_fold, ↓each_kept, ↓foldl_kept, ↓when_kept, ↓kept_ite,
    ↓OutKept_ite, ↓OutKept_next, ↓OutKept_fault, ↓OutKept_refused, ite_self, implies_true]
theorem State.feedSource_kept (s : State) (l : CfgLoad) (bs : List Byte) : (State.feedSource s l bs).kept = s.kept := by
  unfold State.feedSource; dsimp only; (repeat' split) <;> simp (maxDischargeDepth := 9) only [↓State.complete_kept,
    ↓State.failHere_kept, ↓State.feedLoad_kept, ↓State.kept_mk, ↓State.kept_fold, ↓each_kept, ↓foldl_kept,
    ↓when_kept, ↓kept_ite, ↓OutKept_ite, ↓OutKept_next, ↓OutKept_fault, ↓OutKept_refused, ite_self, implies_true]
theorem execSourceReadResponse_kept (status : BitVec 4) (bytes : List Byte) (s : State) : OutKept s (execSourceReadResponse status bytes s) := by
  unfold execSourceReadResponse; (repeat' split) <;> simp (maxDischargeDepth := 9) only [↓State.failHere_kept,
    ↓State.feedSource_kept, ↓State.kept_mk, ↓State.kept_fold, ↓each_kept, ↓foldl_kept, ↓when_kept, ↓kept_ite,
    ↓OutKept_ite, ↓OutKept_next, ↓OutKept_fault, ↓OutKept_refused, ite_self, implies_true]
theorem State.startPartial_kept (s : State) (l : CfgLoad) (n : Nat) : (State.startPartial s l n).kept = s.kept := by
  simp only [State.startPartial, ↓State.failLoad_kept, ↓State.freeDynamic_kept, ↓State.put_kept,
    ↓State.setLoad_kept, ↓State.setShadow_kept, ↓State.kept_mk, ↓State.kept_fold, ↓each_kept, ↓foldl_kept,
    ↓when_kept, ↓kept_ite, ↓OutKept_ite, ↓OutKept_next, ↓OutKept_fault, ↓OutKept_refused, ite_self, implies_true]
theorem State.startFull_kept (s : State) (l : CfgLoad) : (State.startFull s l).kept = s.kept := by
  simp only [State.startFull, ↓State.closeForLoad_kept, ↓State.fullStart_kept, ↓State.put_kept, ↓State.putB_kept,
    ↓State.setDom_kept, ↓State.setLoad_kept, ↓State.kept_mk, ↓State.kept_fold, ↓each_kept, ↓foldl_kept, ↓when_kept,
    ↓kept_ite, ↓OutKept_ite, ↓OutKept_next, ↓OutKept_fault, ↓OutKept_refused, ite_self, implies_true]
theorem State.headerPassed_kept (s : State) (l : CfgLoad) (h : ImageHeader) : (State.headerPassed s l h).kept = s.kept := by
  simp only [State.headerPassed, ↓State.startFull_kept, ↓State.startPartial_kept, ↓State.kept_mk, ↓State.kept_fold,
    ↓each_kept, ↓foldl_kept, ↓when_kept, ↓kept_ite, ↓OutKept_ite, ↓OutKept_next, ↓OutKept_fault, ↓OutKept_refused,
    ite_self, implies_true]
theorem execImageHeader_kept (s : State) : OutKept s (execImageHeader s) := by
  unfold execImageHeader; dsimp only; (repeat' split) <;> simp (maxDischargeDepth := 9) only [↓State.failLoad_kept,
    ↓State.headerPassed_kept, ↓State.setLoad_kept, ↓State.kept_mk, ↓State.kept_fold, ↓each_kept, ↓foldl_kept,
    ↓when_kept, ↓kept_ite, ↓OutKept_ite, ↓OutKept_next, ↓OutKept_fault, ↓OutKept_refused, ite_self, implies_true]
theorem execBulkClearComplete_kept (s : State) : OutKept s (execBulkClearComplete s) := by
  unfold execBulkClearComplete; (repeat' split) <;> simp (maxDischargeDepth := 9) only [↓State.bulkClear_kept,
    ↓State.setLoad_kept, ↓State.kept_mk, ↓State.kept_fold, ↓each_kept, ↓foldl_kept, ↓when_kept, ↓kept_ite,
    ↓OutKept_ite, ↓OutKept_next, ↓OutKept_fault, ↓OutKept_refused, ite_self, implies_true]
theorem State.writeRecord_kept (s : State) (off : Nat) (v : Word) : (State.writeRecord s off v).kept = s.kept := by
  simp only [State.writeRecord, ↓State.regWrite_kept, ↓State.kept_mk, ↓State.kept_fold, ↓each_kept, ↓foldl_kept,
    ↓when_kept, ↓kept_ite, ↓OutKept_ite, ↓OutKept_next, ↓OutKept_fault, ↓OutKept_refused, ite_self, implies_true]
theorem State.systemDone_kept (s : State) (l : CfgLoad) (h : ImageHeader) : (State.systemDone s l h).kept = s.kept := by
  simp only [State.systemDone, ↓State.setLoad_kept, ↓State.kept_mk, ↓State.kept_fold, ↓each_kept, ↓foldl_kept,
    ↓when_kept, ↓kept_ite, ↓OutKept_ite, ↓OutKept_next, ↓OutKept_fault, ↓OutKept_refused, ite_self, implies_true]
theorem execSystemRecord_kept (s : State) : OutKept s (execSystemRecord s) := by
  unfold execSystemRecord; (repeat' split) <;> simp (maxDischargeDepth := 9) only [↓State.failHere_kept,
    ↓State.failLoad_kept, ↓State.setLoad_kept, ↓State.systemDone_kept, ↓State.writeRecord_kept, ↓State.kept_mk,
    ↓State.kept_fold, ↓each_kept, ↓foldl_kept, ↓when_kept, ↓kept_ite, ↓OutKept_ite, ↓OutKept_next, ↓OutKept_fault,
    ↓OutKept_refused, ite_self, implies_true]
theorem execGcmSegment_kept (s : State) : OutKept s (execGcmSegment s) := by
  unfold execGcmSegment; (repeat' split) <;> simp (maxDischargeDepth := 9) only [↓State.failLoad_kept,
    ↓State.setLoad_kept, ↓State.kept_mk, ↓State.kept_fold, ↓each_kept, ↓foldl_kept, ↓when_kept, ↓kept_ite,
    ↓OutKept_ite, ↓OutKept_next, ↓OutKept_fault, ↓OutKept_refused, ite_self, implies_true]
theorem State.loadTile_kept (s : State) (a : Nat) : (State.loadTile s a).kept = s.kept := by
  unfold State.loadTile
  dsimp only
  repeat' with_reducible first
    | rfl
    | refine (Machine.each_kept _ _ _ fun _ _ => ?_).trans ?_
    | split
  all_goals
    simp (maxDischargeDepth := 9) only [↓State.write_kept, ↓State.kept_mk, ↓State.kept_fold, ↓each_kept, ↓foldl_kept,
      ↓when_kept, ↓kept_ite, ↓OutKept_ite, ↓OutKept_next, ↓OutKept_fault, ↓OutKept_refused, ite_self, implies_true]
theorem State.placeFrame_kept (s : State) (l : CfgLoad) (h : ImageHeader) (a : Nat) (f : Frame) : (State.placeFrame s l h a f).kept = s.kept := by
  simp only [State.placeFrame, ↓State.count_kept, ↓State.loadTile_kept, ↓State.setFrame_kept, ↓State.setLoad_kept,
    ↓State.writeContent_kept, ↓State.kept_mk, ↓State.kept_fold, ↓each_kept, ↓foldl_kept, ↓when_kept, ↓kept_ite,
    ↓OutKept_ite, ↓OutKept_next, ↓OutKept_fault, ↓OutKept_refused, ite_self, implies_true]
theorem State.operands_kept (s : State) (n : Nat) (one : State → CfgLoad → ImageHeader → Nat → State)
    (h1 : ∀ t l h v, (one t l h v).kept = t.kept) (k : Nat) : (s.operands n one k).kept = s.kept := by
  induction k generalizing s with
  | zero => rfl
  | succ k ih =>
    unfold State.operands
    repeat' split
    all_goals first
      | rfl
      | exact State.setLoad_kept ..
      | exact State.failHere_kept ..
      | exact (ih _).trans (h1 ..)
theorem State.streamRow_kept (s : State) (opc : Nat) (run : State → CfgLoad → ImageHeader → State)
    (h : ∀ t l x, (run t l x).kept = t.kept) : (s.streamRow opc run).kept = s.kept := by
  unfold State.streamRow
  dsimp only
  repeat' split
  all_goals first
    | rfl
    | exact State.failHere_kept ..
    | exact h ..
    | exact (h ..).trans (State.setLoad_kept ..)
theorem execSetfar_kept (s : State) : OutKept s (execSetfar s) := by
  refine OutKept_next_of (State.streamRow_kept _ _ _ fun _ _ _ => State.operands_kept _ _ _ (fun _ _ _ _ => ?_) _)
  split <;> simp only [State.failLoad_kept, State.setLoad_kept]
theorem execWrite_kept (s : State) : OutKept s (execWrite s) := by
  refine OutKept_next_of (State.streamRow_kept _ _ _ fun _ _ _ => State.operands_kept _ _ _ (fun _ _ _ _ => ?_) _)
  split
  · simp only [State.failHere_kept, State.setLoad_kept]
  · dsimp only
    split
    · simp only [State.failLoad_kept, State.setLoad_kept]
    · split <;> simp only [State.failLoad_kept, State.setLoad_kept, State.placeFrame_kept]
theorem State.repeatFrameOf_kept (s : State) (l : CfgLoad) (h : ImageHeader) : (State.repeatFrameOf s l h).kept = s.kept := by
  simp only [State.repeatFrameOf, ↓State.failHere_kept, ↓State.setLoad_kept, ↓State.kept_mk, ↓State.kept_fold,
    ↓each_kept, ↓foldl_kept, ↓when_kept, ↓kept_ite, ↓OutKept_ite, ↓OutKept_next, ↓OutKept_fault, ↓OutKept_refused,
    ite_self, implies_true]
theorem execRepeatFrame_kept (s : State) : OutKept s (execRepeatFrame s) := by
  refine OutKept_next_of (State.streamRow_kept _ _ _ fun _ _ _ => ?_)
  dsimp only
  split
  · exact State.repeatFrameOf_kept ..
  · split
    · exact State.repeatFrameOf_kept ..
    · refine (State.operands_kept _ _ _ (fun _ _ _ _ => ?_) _).trans (State.repeatFrameOf_kept ..)
      split
      · simp only [State.failLoad_kept, State.setLoad_kept]
      · split <;> simp only [State.failLoad_kept, State.setLoad_kept, State.placeFrame_kept]
theorem execWreg_kept (s : State) : OutKept s (execWreg s) := by
  simp only [execWreg, ↓State.failLoad_kept, ↓State.operands_kept, ↓State.setLoad_kept, ↓State.streamRow_kept,
    ↓State.writeRecord_kept, ↓State.kept_mk, ↓State.kept_fold, ↓each_kept, ↓foldl_kept, ↓when_kept, ↓kept_ite,
    ↓OutKept_ite, ↓OutKept_next, ↓OutKept_fault, ↓OutKept_refused, ite_self, implies_true]
theorem execDynlist_kept (s : State) : OutKept s (execDynlist s) := by
  simp only [execDynlist, ↓State.failLoad_kept, ↓State.operands_kept, ↓State.setLoad_kept, ↓State.streamRow_kept,
    ↓State.kept_mk, ↓State.kept_fold, ↓each_kept, ↓foldl_kept, ↓when_kept, ↓kept_ite, ↓OutKept_ite, ↓OutKept_next,
    ↓OutKept_fault, ↓OutKept_refused, ite_self, implies_true]
theorem execNop_kept (s : State) : OutKept s (execNop s) := by
  simp only [execNop, ↓State.setLoad_kept, ↓State.streamRow_kept, ↓State.kept_mk, ↓State.kept_fold, ↓each_kept,
    ↓foldl_kept, ↓when_kept, ↓kept_ite, ↓OutKept_ite, ↓OutKept_next, ↓OutKept_fault, ↓OutKept_refused, ite_self,
    implies_true]
theorem execSync_kept (s : State) : OutKept s (execSync s) := by
  simp only [execSync, ↓State.setLoad_kept, ↓State.streamRow_kept, ↓State.kept_mk, ↓State.kept_fold, ↓each_kept,
    ↓foldl_kept, ↓when_kept, ↓kept_ite, ↓OutKept_ite, ↓OutKept_next, ↓OutKept_fault, ↓OutKept_refused, ite_self,
    implies_true]
theorem execEndStream_kept (s : State) : OutKept s (execEndStream s) := by
  simp only [execEndStream, ↓State.failHere_kept, ↓State.setLoad_kept, ↓State.streamRow_kept, ↓State.kept_mk,
    ↓State.kept_fold, ↓each_kept, ↓foldl_kept, ↓when_kept, ↓kept_ite, ↓OutKept_ite, ↓OutKept_next, ↓OutKept_fault,
    ↓OutKept_refused, ite_self, implies_true]
theorem State.passPartial_kept (s : State) (l : CfgLoad) (h : ImageHeader) : (State.passPartial s l h).kept = s.kept := by
  simp only [State.passPartial, ↓State.dropLoad_kept, ↓State.loadEnded_kept, ↓State.put_kept, ↓State.putB_kept,
    ↓State.raise_kept, ↓State.setShadow_kept, ↓State.setStall_kept, ↓State.kept_mk, ↓State.kept_fold, ↓each_kept,
    ↓foldl_kept, ↓when_kept, ↓kept_ite, ↓OutKept_ite, ↓OutKept_next, ↓OutKept_fault, ↓OutKept_refused, ite_self,
    implies_true]
theorem State.passFull_kept (s : State) (l : CfgLoad) : (State.passFull s l).kept = s.kept := by
  simp only [State.passFull, ↓State.put_kept, ↓State.relock_kept, ↓State.setLoad_kept, ↓State.kept_mk,
    ↓State.kept_fold, ↓each_kept, ↓foldl_kept, ↓when_kept, ↓kept_ite, ↓OutKept_ite, ↓OutKept_next, ↓OutKept_fault,
    ↓OutKept_refused, ite_self, implies_true]
theorem State.trailerPassed_kept (s : State) (l : CfgLoad) (h : ImageHeader) : (State.trailerPassed s l h).kept = s.kept := by
  simp only [State.trailerPassed, ↓State.passFull_kept, ↓State.passPartial_kept, ↓State.kept_mk, ↓State.kept_fold,
    ↓each_kept, ↓foldl_kept, ↓when_kept, ↓kept_ite, ↓OutKept_ite, ↓OutKept_next, ↓OutKept_fault, ↓OutKept_refused,
    ite_self, implies_true]
theorem execTrailerCheck_kept (s : State) : OutKept s (execTrailerCheck s) := by
  unfold execTrailerCheck; (repeat' split) <;> simp (maxDischargeDepth := 9) only [↓State.failHere_kept,
    ↓State.failLoad_kept, ↓State.setLoad_kept, ↓State.trailerPassed_kept, ↓State.kept_mk, ↓State.kept_fold,
    ↓each_kept, ↓foldl_kept, ↓when_kept, ↓kept_ite, ↓OutKept_ite, ↓OutKept_next, ↓OutKept_fault, ↓OutKept_refused,
    ite_self, implies_true]
theorem execSignatureVerified_kept (trailer : Bool) (s : State) : OutKept s (execSignatureVerified trailer s) := by
  unfold execSignatureVerified; (repeat' split) <;> simp (maxDischargeDepth := 9) only [↓State.failLoad_kept,
    ↓State.headerPassed_kept, ↓State.trailerPassed_kept, ↓State.kept_mk, ↓State.kept_fold, ↓each_kept, ↓foldl_kept,
    ↓when_kept, ↓kept_ite, ↓OutKept_ite, ↓OutKept_next, ↓OutKept_fault, ↓OutKept_refused, ite_self, implies_true]
theorem State.showSlot_kept (s : State) (l : CfgLoad) (h : ImageHeader) : (State.showSlot s l h).kept = s.kept := by
  unfold State.showSlot; (repeat' split) <;> simp (maxDischargeDepth := 9) only [↓State.put_kept, ↓State.kept_mk,
    ↓State.kept_fold, ↓each_kept, ↓foldl_kept, ↓when_kept, ↓kept_ite, ↓OutKept_ite, ↓OutKept_next, ↓OutKept_fault,
    ↓OutKept_refused, ite_self, implies_true]
theorem execStartupPllRelocked_kept (s : State) : OutKept s (execStartupPllRelocked s) := by
  unfold execStartupPllRelocked; (repeat' split) <;> simp (maxDischargeDepth := 9) only [↓State.dropLoad_kept,
    ↓State.loadEnded_kept, ↓State.openPort_kept, ↓State.put_kept, ↓State.putB_kept, ↓State.raise_kept,
    ↓State.restartFabric_kept, ↓State.showSlot_kept, ↓State.startScrub_kept, ↓State.startTracks_kept,
    ↓State.kept_mk, ↓State.kept_fold, ↓each_kept, ↓foldl_kept, ↓when_kept, ↓kept_ite, ↓OutKept_ite, ↓OutKept_next,
    ↓OutKept_fault, ↓OutKept_refused, ite_self, implies_true]
theorem execFlashRead_kept (v : Word) (s : State) : OutKept s (execFlashRead v s) := by
  simp only [execFlashRead, ↓State.writeFlashCmd_kept, ↓State.kept_mk, ↓State.kept_fold, ↓each_kept, ↓foldl_kept,
    ↓when_kept, ↓kept_ite, ↓OutKept_ite, ↓OutKept_next, ↓OutKept_fault, ↓OutKept_refused, ite_self, implies_true]
theorem execFlashProgram_kept (v : Word) (s : State) : OutKept s (execFlashProgram v s) := by
  simp only [execFlashProgram, ↓State.writeFlashCmd_kept, ↓State.kept_mk, ↓State.kept_fold, ↓each_kept, ↓foldl_kept,
    ↓when_kept, ↓kept_ite, ↓OutKept_ite, ↓OutKept_next, ↓OutKept_fault, ↓OutKept_refused, ite_self, implies_true]
theorem execFlashErase4k_kept (v : Word) (s : State) : OutKept s (execFlashErase4k v s) := by
  simp only [execFlashErase4k, ↓State.writeFlashCmd_kept, ↓State.kept_mk, ↓State.kept_fold, ↓each_kept, ↓foldl_kept,
    ↓when_kept, ↓kept_ite, ↓OutKept_ite, ↓OutKept_next, ↓OutKept_fault, ↓OutKept_refused, ite_self, implies_true]
theorem execFlashErase64k_kept (v : Word) (s : State) : OutKept s (execFlashErase64k v s) := by
  simp only [execFlashErase64k, ↓State.writeFlashCmd_kept, ↓State.kept_mk, ↓State.kept_fold, ↓each_kept,
    ↓foldl_kept, ↓when_kept, ↓kept_ite, ↓OutKept_ite, ↓OutKept_next, ↓OutKept_fault, ↓OutKept_refused, ite_self,
    implies_true]
theorem State.toBuffer_kept (s : State) (bs : List Byte) : (State.toBuffer s bs).kept = s.kept := by
  simp only [State.toBuffer, ↓State.issue_kept, ↓State.kept_mk, ↓State.kept_fold, ↓each_kept, ↓foldl_kept,
    ↓when_kept, ↓kept_ite, ↓OutKept_ite, ↓OutKept_next, ↓OutKept_fault, ↓OutKept_refused, ite_self, implies_true]
theorem execFlashCmdComplete_kept (ok : Bool) (bytes : List Byte) (s : State) : OutKept s (execFlashCmdComplete ok bytes s) := by
  unfold execFlashCmdComplete; (repeat' split) <;> simp (maxDischargeDepth := 9) only [↓State.flashEnds_kept,
    ↓State.flashErase_kept, ↓State.flashProgramBytes_kept, ↓State.flashSpoil_kept, ↓State.startWaiting_kept,
    ↓State.toBuffer_kept, ↓State.kept_mk, ↓State.kept_fold, ↓each_kept, ↓foldl_kept, ↓when_kept, ↓kept_ite,
    ↓OutKept_ite, ↓OutKept_next, ↓OutKept_fault, ↓OutKept_refused, ite_self, implies_true]
theorem State.takeInstruction_kept (s : State) (code : Nat) (hold : Bool) (driven : List Bool) : (State.takeInstruction s code hold driven).kept = s.kept := by
  simp only [State.takeInstruction, ↓State.warmReset_kept, ↓State.kept_mk, ↓State.kept_fold, ↓each_kept,
    ↓foldl_kept, ↓when_kept, ↓kept_ite, ↓OutKept_ite, ↓OutKept_next, ↓OutKept_fault, ↓OutKept_refused, ite_self,
    implies_true]
theorem State.instruction_kept (s : State) (code : Nat) (hold : Bool) (driven : List Bool) : (State.instruction s code hold driven).kept = s.kept := by
  simp only [State.instruction, ↓State.takeInstruction_kept, ↓State.kept_mk, ↓State.kept_fold, ↓each_kept,
    ↓foldl_kept, ↓when_kept, ↓kept_ite, ↓OutKept_ite, ↓OutKept_next, ↓OutKept_fault, ↓OutKept_refused, ite_self,
    implies_true]
theorem execBypass_kept (s : State) : OutKept s (execBypass s) := by
  simp only [execBypass, ↓State.instruction_kept, ↓State.kept_mk, ↓State.kept_fold, ↓each_kept, ↓foldl_kept,
    ↓when_kept, ↓kept_ite, ↓OutKept_ite, ↓OutKept_next, ↓OutKept_fault, ↓OutKept_refused, ite_self, implies_true]
theorem execIdcode_kept (s : State) : OutKept s (execIdcode s) := by
  simp only [execIdcode, ↓State.answerWord_kept, ↓State.takeInstruction_kept, ↓State.kept_mk, ↓State.kept_fold,
    ↓each_kept, ↓foldl_kept, ↓when_kept, ↓kept_ite, ↓OutKept_ite, ↓OutKept_next, ↓OutKept_fault, ↓OutKept_refused,
    ite_self, implies_true]
theorem execSamplePreload_kept (boundary : List Bool) (s : State) : OutKept s (execSamplePreload boundary s) := by
  simp only [execSamplePreload, ↓State.takeInstruction_kept, ↓State.kept_mk, ↓State.kept_fold, ↓each_kept,
    ↓foldl_kept, ↓when_kept, ↓kept_ite, ↓OutKept_ite, ↓OutKept_next, ↓OutKept_fault, ↓OutKept_refused, ite_self,
    implies_true]
theorem execExtest_kept (s : State) : OutKept s (execExtest s) := by
  simp only [execExtest, ↓State.instruction_kept, ↓State.kept_mk, ↓State.kept_fold, ↓each_kept, ↓foldl_kept,
    ↓when_kept, ↓kept_ite, ↓OutKept_ite, ↓OutKept_next, ↓OutKept_fault, ↓OutKept_refused, ite_self, implies_true]
theorem execExtestPulse_kept (s : State) : OutKept s (execExtestPulse s) := by
  simp only [execExtestPulse, ↓State.instruction_kept, ↓State.kept_mk, ↓State.kept_fold, ↓each_kept, ↓foldl_kept,
    ↓when_kept, ↓kept_ite, ↓OutKept_ite, ↓OutKept_next, ↓OutKept_fault, ↓OutKept_refused, ite_self, implies_true]
theorem execExtestTrain_kept (s : State) : OutKept s (execExtestTrain s) := by
  simp only [execExtestTrain, ↓State.instruction_kept, ↓State.kept_mk, ↓State.kept_fold, ↓each_kept, ↓foldl_kept,
    ↓when_kept, ↓kept_ite, ↓OutKept_ite, ↓OutKept_next, ↓OutKept_fault, ↓OutKept_refused, ite_self, implies_true]
theorem execHighz_kept (s : State) : OutKept s (execHighz s) := by
  simp only [execHighz, ↓State.instruction_kept, ↓State.kept_mk, ↓State.kept_fold, ↓each_kept, ↓foldl_kept,
    ↓when_kept, ↓kept_ite, ↓OutKept_ite, ↓OutKept_next, ↓OutKept_fault, ↓OutKept_refused, ite_self, implies_true]
theorem execClamp_kept (s : State) : OutKept s (execClamp s) := by
  simp only [execClamp, ↓State.instruction_kept, ↓State.kept_mk, ↓State.kept_fold, ↓each_kept, ↓foldl_kept,
    ↓when_kept, ↓kept_ite, ↓OutKept_ite, ↓OutKept_next, ↓OutKept_fault, ↓OutKept_refused, ite_self, implies_true]
theorem State.shiftConfig_kept (s : State) (bytes : List Byte) : (State.shiftConfig s bytes).kept = s.kept := by
  unfold State.shiftConfig; (repeat' split) <;> simp (maxDischargeDepth := 9) only [↓State.beginLoad_kept,
    ↓State.cfgAnswer_kept, ↓State.feedLoad_kept, ↓State.kept_mk, ↓State.kept_fold, ↓each_kept, ↓foldl_kept,
    ↓when_kept, ↓kept_ite, ↓OutKept_ite, ↓OutKept_next, ↓OutKept_fault, ↓OutKept_refused, ite_self, implies_true]
theorem execCfgIn_kept (bytes : List Byte) (s : State) : OutKept s (execCfgIn bytes s) := by
  simp only [execCfgIn, ↓State.answerWord_kept, ↓State.shiftConfig_kept, ↓State.takeInstruction_kept,
    ↓State.kept_mk, ↓State.kept_fold, ↓each_kept, ↓foldl_kept, ↓when_kept, ↓kept_ite, ↓OutKept_ite, ↓OutKept_next,
    ↓OutKept_fault, ↓OutKept_refused, ite_self, implies_true]
theorem execFuseProg_rest (f : FuseField) (data : BitVec 512) (s t : State) (h : execFuseProg f data s = .next t) :
    t.pending = s.pending ∧ t.fuse = s.fuse ∧ (t.fuses = s.fuses ∨ t.fuses = s.fuses.burn f data) := by
  unfold execFuseProg at h
  split at h
  · cases h
    exact ⟨rfl, rfl, .inl rfl⟩
  · dsimp only at h
    injection h with h
    have e := (State.showFuses_kept { s.takeInstruction 0x0A5 false [] with
      fuses := (s.takeInstruction 0x0A5 false []).fuses.burn f data })
    rw [h] at e
    have k := s.takeInstruction_kept 0x0A5 false []
    simp only [State.kept_def, Prod.mk.injEq] at e k
    rw [k.1, k.2.1, k.2.2] at e
    exact ⟨e.1, e.2.2, .inr e.2.1⟩
theorem State.setLut_kept (s : State) (plane : Bool) (col row p v : Nat) : (State.setLut s plane col row p v).kept = s.kept := by
  simp only [State.setLut, ↓State.setFrame_kept, ↓State.kept_mk, ↓State.kept_fold, ↓each_kept, ↓foldl_kept,
    ↓when_kept, ↓kept_ite, ↓OutKept_ite, ↓OutKept_next, ↓OutKept_fault, ↓OutKept_refused, ite_self, implies_true]
theorem State.blockEdge_kept (s : State) (col row : Nat) (cfg : LbCfg) (pins : LbPins) : (State.blockEdge s col row cfg pins).kept = s.kept := by
  unfold State.blockEdge
  dsimp only
  repeat' with_reducible first
    | rfl
    | refine (Machine.each_kept _ _ _ fun _ _ => ?_).trans ?_
    | split
  all_goals
    simp (maxDischargeDepth := 9) only [↓State.setFf_kept, ↓State.setLut_kept, ↓State.kept_mk, ↓State.kept_fold,
      ↓each_kept, ↓foldl_kept, ↓when_kept, ↓kept_ite, ↓OutKept_ite, ↓OutKept_next, ↓OutKept_fault, ↓OutKept_refused,
      ite_self, implies_true]
theorem execLogicClockEdge_kept (t : LogicTarget) (s : State) : OutKept s (execLogicClockEdge t s) := by
  unfold execLogicClockEdge; (repeat' split) <;> simp (maxDischargeDepth := 9) only [↓State.blockEdge_kept,
    ↓State.kept_mk, ↓State.kept_fold, ↓each_kept, ↓foldl_kept, ↓when_kept, ↓kept_ite, ↓OutKept_ite, ↓OutKept_next,
    ↓OutKept_fault, ↓OutKept_refused, ite_self, implies_true]
theorem execNocRequestIssue_kept (i : IniPort) (r : NocReq) (l2Bad : Option CoreAccess) (s : State) : OutKept s (execNocRequestIssue i r l2Bad s) := by
  unfold execNocRequestIssue; (repeat' split) <;> simp (maxDischargeDepth := 9) only [↓State.coreFault_kept,
    ↓State.count_kept, ↓State.issue_kept, ↓State.log_kept, ↓State.kept_mk, ↓State.kept_fold, ↓each_kept,
    ↓foldl_kept, ↓when_kept, ↓kept_ite, ↓OutKept_ite, ↓OutKept_next, ↓OutKept_fault, ↓OutKept_refused, ite_self,
    implies_true]
theorem execQuayInitiatorRequest_kept (q : Fin 120) (isFence : Bool) (r : NocReq) (s : State) : OutKept s (execQuayInitiatorRequest q isFence r s) := by
  simp only [execQuayInitiatorRequest, ↓State.issue_kept, ↓State.startFence_kept, ↓State.kept_mk, ↓State.kept_fold,
    ↓each_kept, ↓foldl_kept, ↓when_kept, ↓kept_ite, ↓OutKept_ite, ↓OutKept_next, ↓OutKept_fault, ↓OutKept_refused,
    ite_self, implies_true]
theorem execFence_kept (i : IniPort) (tag : BitVec 12) (s : State) : OutKept s (execFence i tag s) := by
  simp only [execFence, ↓State.startFence_kept, ↓State.kept_mk, ↓State.kept_fold, ↓each_kept, ↓foldl_kept,
    ↓when_kept, ↓kept_ite, ↓OutKept_ite, ↓OutKept_next, ↓OutKept_fault, ↓OutKept_refused, ite_self, implies_true]
theorem State.forward_kept (s : State) (x y o : Nat) (p : Packet) : (State.forward s x y o p).kept = s.kept := by
  simp only [State.forward, ↓State.send_kept, ↓State.kept_mk, ↓State.kept_fold, ↓each_kept, ↓foldl_kept, ↓when_kept,
    ↓kept_ite, ↓OutKept_ite, ↓OutKept_next, ↓OutKept_fault, ↓OutKept_refused, ite_self, implies_true]
theorem State.injActs_kept (s : State) (i o : Nat) (p : Packet) : (State.injActs s i o p).kept = s.kept := by
  simp only [State.injActs, ↓State.count_kept, ↓State.put_kept, ↓State.routerEvent_kept, ↓State.setInj_kept,
    ↓State.kept_mk, ↓State.kept_fold, ↓each_kept, ↓foldl_kept, ↓when_kept, ↓kept_ite, ↓OutKept_ite, ↓OutKept_next,
    ↓OutKept_fault, ↓OutKept_refused, ite_self, implies_true]
theorem State.throughInjector_kept (s : State) (x y o : Nat) (p : Packet) : (State.throughInjector s x y o p).kept = s.kept := by
  unfold State.throughInjector; dsimp only; (repeat' split) <;> simp (maxDischargeDepth := 9) only
    [↓State.forward_kept, ↓State.injActs_kept, ↓State.setInj_kept, ↓State.kept_mk, ↓State.kept_fold, ↓each_kept,
    ↓foldl_kept, ↓when_kept, ↓kept_ite, ↓OutKept_ite, ↓OutKept_next, ↓OutKept_fault, ↓OutKept_refused, ite_self,
    implies_true]
theorem State.blocked_kept (s : State) (i : Nat) (p : Packet) : (State.blocked s i p).kept = s.kept := by
  simp only [State.blocked, ↓State.answerFrom_kept, ↓State.count_kept, ↓State.notice_kept, ↓State.routerEvent_kept,
    ↓State.kept_mk, ↓State.kept_fold, ↓each_kept, ↓foldl_kept, ↓when_kept, ↓kept_ite, ↓OutKept_ite, ↓OutKept_next,
    ↓OutKept_fault, ↓OutKept_refused, ite_self, implies_true]
theorem execRouterPacket_kept (x : Fin 12) (y : Fin 6) (p : Packet) (s : State) : OutKept s (execRouterPacket x y p s) := by
  unfold execRouterPacket
  dsimp only
  repeat' with_reducible first
    | rfl
    | refine (Machine.each_kept _ _ _ fun _ _ => ?_).trans ?_
    | split
  all_goals
    simp (maxDischargeDepth := 9) only [↓State.blocked_kept, ↓State.count_kept, ↓State.routerEvent_kept,
      ↓State.send_kept, ↓State.throughInjector_kept, ↓State.unsend_kept, ↓State.kept_mk, ↓State.kept_fold, ↓each_kept,
      ↓foldl_kept, ↓when_kept, ↓kept_ite, ↓OutKept_ite, ↓OutKept_next, ↓OutKept_fault, ↓OutKept_refused, ite_self,
      implies_true]
theorem execFiArm_kept (x : Fin 12) (y : Fin 6) (out : Fin 8) (v : Word) (s : State) : OutKept s (execFiArm x y out v s) := by
  simp only [execFiArm, ↓State.writeFi_kept, ↓State.kept_mk, ↓State.kept_fold, ↓each_kept, ↓foldl_kept, ↓when_kept,
    ↓kept_ite, ↓OutKept_ite, ↓OutKept_next, ↓OutKept_fault, ↓OutKept_refused, ite_self, implies_true]
theorem execFiReorderTimeout_kept (x : Fin 12) (y : Fin 6) (out : Fin 8) (s : State) : OutKept s (execFiReorderTimeout x y out s) := by
  unfold execFiReorderTimeout; dsimp only; (repeat' split) <;> simp (maxDischargeDepth := 9) only
    [↓State.forward_kept, ↓State.setInj_kept, ↓State.kept_mk, ↓State.kept_fold, ↓each_kept, ↓foldl_kept, ↓when_kept,
    ↓kept_ite, ↓OutKept_ite, ↓OutKept_next, ↓OutKept_fault, ↓OutKept_refused, ite_self, implies_true]
theorem execHoldApply_kept (x : Fin 12) (y : Fin 6) (v : Word) (s : State) : OutKept s (execHoldApply x y v s) := by
  simp only [execHoldApply, ↓State.writeRtr_kept, ↓State.kept_mk, ↓State.kept_fold, ↓each_kept, ↓foldl_kept,
    ↓when_kept, ↓kept_ite, ↓OutKept_ite, ↓OutKept_next, ↓OutKept_fault, ↓OutKept_refused, ite_self, implies_true]
theorem State.releaseHold_kept (s : State) (i result cycles : Nat) : (State.releaseHold s i result cycles).kept = s.kept := by
  simp only [State.releaseHold, ↓State.put_kept, ↓State.kept_mk, ↓State.kept_fold, ↓each_kept, ↓foldl_kept,
    ↓when_kept, ↓kept_ite, ↓OutKept_ite, ↓OutKept_next, ↓OutKept_fault, ↓OutKept_refused, ite_self, implies_true]
theorem execHoldApplied_kept (x : Fin 12) (y : Fin 6) (s : State) : OutKept s (execHoldApplied x y s) := by
  simp only [execHoldApplied, ↓State.releaseHold_kept, ↓State.setWord_kept, ↓State.kept_mk, ↓State.kept_fold,
    ↓each_kept, ↓foldl_kept, ↓when_kept, ↓kept_ite, ↓OutKept_ite, ↓OutKept_next, ↓OutKept_fault, ↓OutKept_refused,
    ite_self, implies_true]
theorem execHoldTimeout_kept (x : Fin 12) (y : Fin 6) (s : State) : OutKept s (execHoldTimeout x y s) := by
  simp only [execHoldTimeout, ↓State.raise_kept, ↓State.releaseHold_kept, ↓State.kept_mk, ↓State.kept_fold,
    ↓each_kept, ↓foldl_kept, ↓when_kept, ↓kept_ite, ↓OutKept_ite, ↓OutKept_next, ↓OutKept_fault, ↓OutKept_refused,
    ite_self, implies_true]
theorem State.l2Write_kept (s : State) (p : Packet) : (State.l2Write s p).kept = s.kept := by
  simp only [State.l2Write, ↓State.kept_mk, ↓State.kept_fold, ↓each_kept, ↓foldl_kept, ↓when_kept, ↓kept_ite,
    ↓OutKept_ite, ↓OutKept_next, ↓OutKept_fault, ↓OutKept_refused, ite_self, implies_true]
theorem State.regsWrite_kept (s : State) (p : Packet) : (State.regsWrite s p).kept = s.kept := by
  simp only [State.regsWrite, ↓State.regWrite_kept, ↓State.kept_mk, ↓State.kept_fold, ↓each_kept, ↓foldl_kept,
    ↓when_kept, ↓kept_ite, ↓OutKept_ite, ↓OutKept_next, ↓OutKept_fault, ↓OutKept_refused, ite_self, implies_true]
theorem State.regsRead_kept (s : State) (p : Packet) : (s.regsRead p).2.kept = s.kept := by
  exact s.readRegs_kept _ _
theorem State.applyPosted_kept (s : State) (port : Nat) (p : Packet) : (State.applyPosted s port p).kept = s.kept := by
  unfold State.applyPosted; (repeat' split) <;> simp (maxDischargeDepth := 9) only [↓State.dropPosted_kept,
    ↓State.l2Write_kept, ↓State.leave_kept, ↓State.markLost_kept, ↓State.regsWrite_kept, ↓State.setPort_kept,
    ↓State.write_kept, ↓State.kept_mk, ↓State.kept_fold, ↓each_kept, ↓foldl_kept, ↓when_kept, ↓kept_ite,
    ↓OutKept_ite, ↓OutKept_next, ↓OutKept_fault, ↓OutKept_refused, ite_self, implies_true]
theorem State.applyRequest_kept (s : State) (port : Nat) (p : Packet) : (State.applyRequest s port p).kept = s.kept := by
  unfold State.applyRequest; dsimp only; (repeat' split) <;> simp (maxDischargeDepth := 9) only
    [↓State.answerFrom_kept, ↓State.l2Write_kept, ↓State.regsRead_kept, ↓State.regsWrite_kept, ↓State.send_kept,
    ↓State.setPort_kept, ↓State.setQuay_kept, ↓State.kept_mk, ↓State.kept_fold, ↓each_kept, ↓foldl_kept, ↓when_kept,
    ↓kept_ite, ↓OutKept_ite, ↓OutKept_next, ↓OutKept_fault, ↓OutKept_refused, ite_self, implies_true]
theorem State.takePosted_kept (s : State) (port : Nat) (p : Packet) : (State.takePosted s port p).kept = s.kept := by
  simp only [State.takePosted, ↓State.applyPosted_kept, ↓State.count_kept, ↓State.markLost_kept, ↓State.notice_kept,
    ↓State.routerEvent_kept, ↓State.setFlow_kept, ↓State.kept_mk, ↓State.kept_fold, ↓each_kept, ↓foldl_kept,
    ↓when_kept, ↓kept_ite, ↓OutKept_ite, ↓OutKept_next, ↓OutKept_fault, ↓OutKept_refused, ite_self, implies_true]
theorem State.drainHeld_kept (s : State) (port : Nat) (src : BitVec 10) (vc : BitVec 2) (n : Nat) :
    (s.drainHeld port src vc n).kept = s.kept := by
  induction n generalizing s with
  | zero => rfl
  | succ n ih =>
    unfold State.drainHeld
    dsimp only
    split
    · rfl
    · rw [ih, State.routerEvent_kept, State.count_kept, State.takePosted_kept, State.setFlow_kept]
theorem State.giveUp_kept (s : State) (port : Nat) (src : BitVec 10) (vc : BitVec 2) (ps : List Packet) : (State.giveUp s port src vc ps).kept = s.kept := by
  unfold State.giveUp
  dsimp only
  repeat' with_reducible first
    | rfl
    | refine (Machine.each_kept _ _ _ fun _ _ => ?_).trans ?_
    | split
  all_goals
    simp (maxDischargeDepth := 9) only [↓State.count_kept, ↓State.raise_kept, ↓State.setFlow_kept,
      ↓State.takePosted_kept, ↓State.kept_mk, ↓State.kept_fold, ↓each_kept, ↓foldl_kept, ↓when_kept, ↓kept_ite,
      ↓OutKept_ite, ↓OutKept_next, ↓OutKept_fault, ↓OutKept_refused, ite_self, implies_true]
theorem State.arrivePosted_kept (s : State) (port : Nat) (p : Packet) : (s.arrivePosted port p).kept = s.kept := by
  unfold State.arrivePosted
  dsimp only
  split_ifs <;> simp only [State.drainHeld_kept, State.takePosted_kept, State.count_kept, State.setFlow_kept, State.giveUp_kept]
theorem State.arrive_kept (s : State) (port : BitVec 10) (p : Packet) : (State.arrive s port p).kept = s.kept := by
  unfold State.arrive; (repeat' split) <;> simp (maxDischargeDepth := 9) only [↓State.answerClosed_kept,
    ↓State.answerFrom_kept, ↓State.applyRequest_kept, ↓State.arrivePosted_kept, ↓State.count_kept,
    ↓State.drainHeld_kept, ↓State.dropPosted_kept, ↓State.routerEvent_kept, ↓State.setFlow_kept,
    ↓State.setPort_kept, ↓State.settleFlushes_kept, ↓State.unsend_kept, ↓State.kept_mk, ↓State.kept_fold,
    ↓each_kept, ↓foldl_kept, ↓when_kept, ↓kept_ite, ↓OutKept_ite, ↓OutKept_next, ↓OutKept_fault, ↓OutKept_refused,
    ite_self, implies_true]
theorem execDestinationPacket_kept (port : BitVec 10) (p : Packet) (s : State) : OutKept s (execDestinationPacket port p s) := by
  simp only [execDestinationPacket, ↓State.arrive_kept, ↓mirrored_kept, ↓State.kept_mk, ↓State.kept_fold,
    ↓each_kept, ↓foldl_kept, ↓when_kept, ↓kept_ite, ↓OutKept_ite, ↓OutKept_next, ↓OutKept_fault, ↓OutKept_refused,
    ite_self, implies_true]
theorem execSequenceGapTimeout_kept (port : BitVec 10) (src : BitVec 10) (vc : BitVec 2) (s : State) : OutKept s (execSequenceGapTimeout port src vc s) := by
  simp only [execSequenceGapTimeout, ↓State.giveUp_kept, ↓mirrored_kept, ↓State.settleFlushes_kept, ↓State.kept_mk,
    ↓State.kept_fold, ↓each_kept, ↓foldl_kept, ↓when_kept, ↓kept_ite, ↓OutKept_ite, ↓OutKept_next, ↓OutKept_fault,
    ↓OutKept_refused, ite_self, implies_true]
theorem State.endFence_kept (s : State) (i : IniPort) (f : FenceRun) (status : BitVec 4) : (State.endFence s i f status).kept = s.kept := by
  unfold State.endFence; (repeat' split) <;> simp (maxDischargeDepth := 9) only [↓State.sendPieces_kept,
    ↓State.setIni_kept, ↓State.kept_mk, ↓State.kept_fold, ↓each_kept, ↓foldl_kept, ↓when_kept, ↓kept_ite,
    ↓OutKept_ite, ↓OutKept_next, ↓OutKept_fault, ↓OutKept_refused, ite_self, implies_true]
theorem State.fenceAnswer_kept (s : State) (i : IniPort) (f : FenceRun) (p : Packet) : (State.fenceAnswer s i f p).kept = s.kept := by
  simp only [State.fenceAnswer, ↓State.endFence_kept, ↓State.setIni_kept, ↓State.kept_mk, ↓State.kept_fold,
    ↓each_kept, ↓foldl_kept, ↓when_kept, ↓kept_ite, ↓OutKept_ite, ↓OutKept_next, ↓OutKept_fault, ↓OutKept_refused,
    ite_self, implies_true]
theorem execNocResponse_kept (i : IniPort) (p : Packet) (s : State) : OutKept s (execNocResponse i p s) := by
  unfold execNocResponse; dsimp only; (repeat' split) <;> simp (maxDischargeDepth := 9) only [↓State.count_kept,
    ↓State.fenceAnswer_kept, ↓State.handOver_kept, ↓State.iniLast_kept, ↓State.raise_kept, ↓State.setIni_kept,
    ↓State.setPort_kept, ↓State.setQuay_kept, ↓State.unsend_kept, ↓State.kept_mk, ↓State.kept_fold, ↓each_kept,
    ↓foldl_kept, ↓when_kept, ↓kept_ite, ↓OutKept_ite, ↓OutKept_next, ↓OutKept_fault, ↓OutKept_refused, ite_self,
    implies_true]
theorem execInitiatorTimeout_kept (i : IniPort) (tag : BitVec 12) (s : State) : OutKept s (execInitiatorTimeout i tag s) := by
  unfold execInitiatorTimeout; dsimp only; (repeat' split) <;> simp (maxDischargeDepth := 9) only
    [↓State.count_kept, ↓State.endFence_kept, ↓State.iniLast_kept, ↓State.ownResponse_kept, ↓State.raise_kept,
    ↓State.setIni_kept, ↓State.kept_mk, ↓State.kept_fold, ↓each_kept, ↓foldl_kept, ↓when_kept, ↓kept_ite,
    ↓OutKept_ite, ↓OutKept_next, ↓OutKept_fault, ↓OutKept_refused, ite_self, implies_true]
theorem execTagRelease_kept (i : IniPort) (tag : BitVec 12) (s : State) : OutKept s (execTagRelease i tag s) := by
  simp only [execTagRelease, ↓State.setIni_kept, ↓State.kept_mk, ↓State.kept_fold, ↓each_kept, ↓foldl_kept,
    ↓when_kept, ↓kept_ite, ↓OutKept_ite, ↓OutKept_next, ↓OutKept_fault, ↓OutKept_refused, ite_self, implies_true]
theorem execNoticeReceived_kept (i : IniPort) (p : Packet) (s : State) : OutKept s (execNoticeReceived i p s) := by
  unfold execNoticeReceived; (repeat' split) <;> simp (maxDischargeDepth := 9) only [↓State.busError_kept,
    ↓State.count_kept, ↓State.dispatchDropped_kept, ↓State.iniLast_kept, ↓State.unsend_kept, ↓State.kept_mk,
    ↓State.kept_fold, ↓each_kept, ↓foldl_kept, ↓when_kept, ↓kept_ite, ↓OutKept_ite, ↓OutKept_next, ↓OutKept_fault,
    ↓OutKept_refused, ite_self, implies_true]
theorem execPortClosed_kept (port : BitVec 10) (s : State) : OutKept s (execPortClosed port s) := by
  unfold execPortClosed; dsimp only; (repeat' split) <;> simp (maxDischargeDepth := 9) only [↓State.dmcClosed_kept,
    ↓State.setPortState_kept, ↓State.kept_mk, ↓State.kept_fold, ↓each_kept, ↓foldl_kept, ↓when_kept, ↓kept_ite,
    ↓OutKept_ite, ↓OutKept_next, ↓OutKept_fault, ↓OutKept_refused, ite_self, implies_true]
theorem execPortForceClose_kept (port : BitVec 10) (s : State) : OutKept s (execPortForceClose port s) := by
  unfold execPortForceClose; dsimp only; (repeat' split) <;> simp (maxDischargeDepth := 9) only [↓State.count_kept,
    ↓State.dmcClosed_kept, ↓State.dmcForce_kept, ↓State.forceTarget_kept, ↓State.raise_kept,
    ↓State.setPortState_kept, ↓State.kept_mk, ↓State.kept_fold, ↓each_kept, ↓foldl_kept, ↓when_kept, ↓kept_ite,
    ↓OutKept_ite, ↓OutKept_next, ↓OutKept_fault, ↓OutKept_refused, ite_self, implies_true]
theorem execQuayTargetResponse_kept (q : Fin 120) (tag : BitVec 8) (err : Bool) (data : List Line) (s : State) : OutKept s (execQuayTargetResponse q tag err data s) := by
  unfold execQuayTargetResponse; dsimp only; (repeat' split) <;> simp (maxDischargeDepth := 9) only
    [↓State.answerFrom_kept, ↓State.count_kept, ↓State.setQuay_kept, ↓State.kept_mk, ↓State.kept_fold, ↓each_kept,
    ↓foldl_kept, ↓when_kept, ↓kept_ite, ↓OutKept_ite, ↓OutKept_next, ↓OutKept_fault, ↓OutKept_refused, ite_self,
    implies_true]
theorem State.sendWaiting_kept (s : State) : (State.sendWaiting s).kept = s.kept := by
  simp only [State.sendWaiting, ↓State.leave_kept, ↓State.sendHostWrites_kept, ↓State.kept_mk, ↓State.kept_fold,
    ↓each_kept, ↓foldl_kept, ↓when_kept, ↓kept_ite, ↓OutKept_ite, ↓OutKept_next, ↓OutKept_fault, ↓OutKept_refused,
    ite_self, implies_true]
theorem execLinkUp_kept (rate : BitVec 3) (width : BitVec 5) (flit : Bool) (s : State) : OutKept s (execLinkUp rate width flit s) := by
  simp only [execLinkUp, ↓State.put_kept, ↓State.putB_kept, ↓State.raise_kept, ↓State.sendWaiting_kept,
    ↓State.kept_mk, ↓State.kept_fold, ↓each_kept, ↓foldl_kept, ↓when_kept, ↓kept_ite, ↓OutKept_ite, ↓OutKept_next,
    ↓OutKept_fault, ↓OutKept_refused, ite_self, implies_true]
theorem State.loseHostReads_kept (s : State) : (State.loseHostReads s).kept = s.kept := by
  unfold State.loseHostReads
  refine each_kept _ _ _ fun _ _ => (State.showCtx_kept ..).trans (each_kept _ _ _ fun _ _ => ?_)
  split
  · split
    · refine each_kept _ _ _ fun _ _ => ?_
      split
      · exact State.readAnswer_kept ..
      · rfl
    · rfl
  · split
    · exact State.setCtx_kept ..
    · rfl
theorem execLinkDown_kept (s : State) : OutKept s (execLinkDown s) := by
  unfold execLinkDown; (repeat' split) <;> simp (maxDischargeDepth := 9) only [↓State.answerFrom_kept,
    ↓State.count_kept, ↓State.loseHostReads_kept, ↓State.markLost_kept, ↓mirrored_kept, ↓State.put_kept,
    ↓State.raise_kept, ↓State.setPort_kept, ↓State.settleFlushes_kept, ↓State.kept_mk, ↓State.kept_fold, ↓each_kept,
    ↓foldl_kept, ↓when_kept, ↓kept_ite, ↓OutKept_ite, ↓OutKept_next, ↓OutKept_fault, ↓OutKept_refused, ite_self,
    implies_true]
theorem execAspmL1Entry_kept (sub : Fin 3) (s : State) : OutKept s (execAspmL1Entry sub s) := by
  simp only [execAspmL1Entry, ↓State.put_kept, ↓State.kept_mk, ↓State.kept_fold, ↓each_kept, ↓foldl_kept,
    ↓when_kept, ↓kept_ite, ↓OutKept_ite, ↓OutKept_next, ↓OutKept_fault, ↓OutKept_refused, ite_self, implies_true]
theorem execL1Exit_kept (s : State) : OutKept s (execL1Exit s) := by
  simp only [execL1Exit, ↓State.put_kept, ↓State.sendWaiting_kept, ↓State.kept_mk, ↓State.kept_fold, ↓each_kept,
    ↓foldl_kept, ↓when_kept, ↓kept_ite, ↓OutKept_ite, ↓OutKept_next, ↓OutKept_fault, ↓OutKept_refused, ite_self,
    implies_true]
theorem execLtrSend_kept (s : State) : OutKept s (execLtrSend s) := by
  simp only [execLtrSend, ↓State.toHost_kept, ↓State.kept_mk, ↓State.kept_fold, ↓each_kept, ↓foldl_kept, ↓when_kept,
    ↓kept_ite, ↓OutKept_ite, ↓OutKept_next, ↓OutKept_fault, ↓OutKept_refused, ite_self, implies_true]
theorem State.flrFn_kept (s : State) (k : Nat) : (State.flrFn s k).kept = s.kept := by
  simp only [State.flrFn, ↓State.ctxOff_kept, ↓State.put_kept, ↓State.setFn_kept, ↓State.setTimer_kept,
    ↓State.setWord_kept, ↓State.kept_mk, ↓State.kept_fold, ↓each_kept, ↓foldl_kept, ↓when_kept, ↓kept_ite,
    ↓OutKept_ite, ↓OutKept_next, ↓OutKept_fault, ↓OutKept_refused, ite_self, implies_true]
theorem State.flr_kept (s : State) (k : Nat) : (State.flr s k).kept = s.kept := by
  simp only [State.flr, ↓State.flrFn_kept, ↓State.setVfEn_kept, ↓State.kept_mk, ↓State.kept_fold, ↓each_kept,
    ↓foldl_kept, ↓when_kept, ↓kept_ite, ↓OutKept_ite, ↓OutKept_next, ↓OutKept_fault, ↓OutKept_refused, ite_self,
    implies_true]
theorem execFlr_kept (f : Fn) (s : State) : OutKept s (execFlr f s) := by
  simp only [execFlr, ↓State.flr_kept, ↓mirrored_kept, ↓State.raise_kept, ↓State.kept_mk, ↓State.kept_fold,
    ↓each_kept, ↓foldl_kept, ↓when_kept, ↓kept_ite, ↓OutKept_ite, ↓OutKept_next, ↓OutKept_fault, ↓OutKept_refused,
    ite_self, implies_true]
theorem execInBandReset_kept (s : State) : OutKept s (execInBandReset s) := by
  simp only [execInBandReset, ↓State.flr_kept, ↓mirrored_kept, ↓State.raise_kept, ↓State.kept_mk, ↓State.kept_fold,
    ↓each_kept, ↓foldl_kept, ↓when_kept, ↓kept_ite, ↓OutKept_ite, ↓OutKept_next, ↓OutKept_fault, ↓OutKept_refused,
    ite_self, implies_true]
theorem execFlrComplete_kept (f : Fn) (s : State) : OutKept s (execFlrComplete f s) := by
  simp only [execFlrComplete, ↓State.setFn_kept, ↓State.kept_mk, ↓State.kept_fold, ↓each_kept, ↓foldl_kept,
    ↓when_kept, ↓kept_ite, ↓OutKept_ite, ↓OutKept_next, ↓OutKept_fault, ↓OutKept_refused, ite_self, implies_true]
theorem State.setDState_kept (s : State) (k : Nat) (d3 : Bool) : (State.setDState s k d3).kept = s.kept := by
  simp only [State.setDState, ↓State.put_kept, ↓State.raise_kept, ↓State.sendWaiting_kept, ↓State.setFn_kept,
    ↓State.kept_mk, ↓State.kept_fold, ↓each_kept, ↓foldl_kept, ↓when_kept, ↓kept_ite, ↓OutKept_ite, ↓OutKept_next,
    ↓OutKept_fault, ↓OutKept_refused, ite_self, implies_true]
theorem execHostConfigWrite_kept (f : Fn) (w : CfgWrite) (s : State) : OutKept s (execHostConfigWrite f w s) := by
  unfold execHostConfigWrite; (repeat' split) <;> simp (maxDischargeDepth := 9) only [↓State.flrFn_kept,
    ↓mirrored_kept, ↓State.sendHeld_kept, ↓State.sendPending_kept, ↓State.setDState_kept, ↓State.setFn_kept,
    ↓State.setMsixWord_kept, ↓State.setVfEn_kept, ↓State.kept_mk, ↓State.kept_fold, ↓each_kept, ↓foldl_kept,
    ↓when_kept, ↓kept_ite, ↓OutKept_ite, ↓OutKept_next, ↓OutKept_fault, ↓OutKept_refused, ite_self, implies_true]
theorem execMsixUnmask_kept (f : Fn) (vector : BitVec 11) (s : State) : OutKept s (execMsixUnmask f vector s) := by
  simp only [execMsixUnmask, ↓State.sendPending_kept, ↓State.setMsixWord_kept, ↓State.kept_mk, ↓State.kept_fold,
    ↓each_kept, ↓foldl_kept, ↓when_kept, ↓kept_ite, ↓OutKept_ite, ↓OutKept_next, ↓OutKept_fault, ↓OutKept_refused,
    ite_self, implies_true]
theorem execFunctionReachable_kept (f : Fn) (s : State) : OutKept s (execFunctionReachable f s) := by
  simp only [execFunctionReachable, ↓mirrored_kept, ↓State.progress_kept, ↓State.sendHeld_kept,
    ↓State.sendPending_kept, ↓State.kept_mk, ↓State.kept_fold, ↓each_kept, ↓foldl_kept, ↓when_kept, ↓kept_ite,
    ↓OutKept_ite, ↓OutKept_next, ↓OutKept_fault, ↓OutKept_refused, ite_self, implies_true]
theorem State.hostWrite_kept (s : State) (k bar a : Nat) (data : List Byte) : (State.hostWrite s k bar a data).kept = s.kept := by
  simp only [State.hostWrite, ↓State.issue_kept, ↓State.raise_kept, ↓State.kept_mk, ↓State.kept_fold, ↓each_kept,
    ↓foldl_kept, ↓when_kept, ↓kept_ite, ↓OutKept_ite, ↓OutKept_next, ↓OutKept_fault, ↓OutKept_refused, ite_self,
    implies_true]
theorem State.hostRead_kept (s : State) (k bar off a len : Nat) : (State.hostRead s k bar off a len).kept = s.kept := by
  unfold State.hostRead; (repeat' split) <;> simp (maxDischargeDepth := 9) only [↓State.add_kept,
    ↓State.flushTo_kept, ↓State.sendPieces_kept, ↓State.kept_mk, ↓State.kept_fold, ↓each_kept, ↓foldl_kept,
    ↓when_kept, ↓kept_ite, ↓OutKept_ite, ↓OutKept_next, ↓OutKept_fault, ↓OutKept_refused, ite_self, implies_true]
theorem execHostRequest_kept (f : Fn) (bar : Fin 5) (isWrite : Bool) (off : BitVec 38) (len : Fin 4097) (data : List Byte) (s : State) : OutKept s (execHostRequest f bar isWrite off len data s) := by
  unfold execHostRequest; (repeat' split) <;> simp (maxDischargeDepth := 9) only [↓State.complete_kept,
    ↓State.hostRead_kept, ↓State.hostWrite_kept, ↓State.kept_mk, ↓State.kept_fold, ↓each_kept, ↓foldl_kept,
    ↓when_kept, ↓kept_ite, ↓OutKept_ite, ↓OutKept_next, ↓OutKept_fault, ↓OutKept_refused, ite_self, implies_true]
theorem execHostCompletion_kept (id : Nat) (s : State) : OutKept s (execHostCompletion id s) := by
  unfold execHostCompletion; (repeat' split) <;> simp (maxDischargeDepth := 9) only [↓State.complete_kept,
    ↓State.kept_mk, ↓State.kept_fold, ↓each_kept, ↓foldl_kept, ↓when_kept, ↓kept_ite, ↓OutKept_ite, ↓OutKept_next,
    ↓OutKept_fault, ↓OutKept_refused, ite_self, implies_true]
theorem State.writeMsixByte_kept (s : State) (k o : Nat) (b : Byte) : (State.writeMsixByte s k o b).kept = s.kept := by
  simp only [State.writeMsixByte, ↓State.setMsixWord_kept, ↓State.kept_mk, ↓State.kept_fold, ↓each_kept,
    ↓foldl_kept, ↓when_kept, ↓kept_ite, ↓OutKept_ite, ↓OutKept_next, ↓OutKept_fault, ↓OutKept_refused, ite_self,
    implies_true]
theorem execApertureAccess_kept (f : Fn) (off : BitVec 16) (isWrite : Bool) (bytes : Fin 9) (v : BitVec 64) (s : State) : OutKept s (execApertureAccess f off isWrite bytes v s) := by
  unfold execApertureAccess; (repeat' split) <;> simp (maxDischargeDepth := 9) only [↓State.answering_kept,
    ↓State.count_kept, ↓mirrored_kept, ↓State.raise_kept, ↓State.restartCtx_kept, ↓State.sendPending_kept,
    ↓State.stopCtx_kept, ↓State.writeMsixByte_kept, ↓State.writeTail_kept, ↓State.kept_mk, ↓State.kept_fold,
    ↓each_kept, ↓foldl_kept, ↓when_kept, ↓kept_ite, ↓OutKept_ite, ↓OutKept_next, ↓OutKept_fault, ↓OutKept_refused,
    ite_self, implies_true]
theorem State.applyLevel_kept (s : State) : (State.applyLevel s).kept = s.kept := by
  simp only [State.applyLevel, ↓State.put_kept, ↓State.raise_kept, ↓State.kept_mk, ↓State.kept_fold, ↓each_kept,
    ↓foldl_kept, ↓when_kept, ↓kept_ite, ↓OutKept_ite, ↓OutKept_next, ↓OutKept_fault, ↓OutKept_refused, ite_self,
    implies_true]
theorem State.checkLimits_kept (s : State) (hot : Int) : (State.checkLimits s hot).kept = s.kept := by
  simp only [State.checkLimits, ↓State.alert_kept, ↓State.applyLevel_kept, ↓State.raise_kept, ↓State.kept_mk,
    ↓State.kept_fold, ↓each_kept, ↓foldl_kept, ↓when_kept, ↓kept_ite, ↓OutKept_ite, ↓OutKept_next, ↓OutKept_fault,
    ↓OutKept_refused, ite_self, implies_true]
theorem State.afterReading_kept (s : State) : (State.afterReading s).kept = s.kept := by
  unfold State.afterReading; (repeat' split) <;> simp (maxDischargeDepth := 9) only [↓State.applyLevel_kept,
    ↓State.checkLimits_kept, ↓State.putS_kept, ↓State.raise_kept, ↓State.kept_mk, ↓State.kept_fold, ↓each_kept,
    ↓foldl_kept, ↓when_kept, ↓kept_ite, ↓OutKept_ite, ↓OutKept_next, ↓OutKept_fault, ↓OutKept_refused, ite_self,
    implies_true]
theorem State.readSensor_kept (s : State) (n : Nat) (eighths : Int) : (State.readSensor s n eighths).kept = s.kept := by
  simp only [State.readSensor, ↓State.afterReading_kept, ↓State.put_kept, ↓State.putB_kept, ↓State.putS_kept,
    ↓State.raise_kept, ↓State.kept_mk, ↓State.kept_fold, ↓each_kept, ↓foldl_kept, ↓when_kept, ↓kept_ite,
    ↓OutKept_ite, ↓OutKept_next, ↓OutKept_fault, ↓OutKept_refused, ite_self, implies_true]
theorem State.updateThermal_kept (s : State) : (State.updateThermal s).kept = s.kept := by
  unfold State.updateThermal; (repeat' split) <;> simp (maxDischargeDepth := 9) only [↓State.put_kept,
    ↓State.kept_mk, ↓State.kept_fold, ↓each_kept, ↓foldl_kept, ↓when_kept, ↓kept_ite, ↓OutKept_ite, ↓OutKept_next,
    ↓OutKept_fault, ↓OutKept_refused, ite_self, implies_true]
theorem State.setCap_kept (s : State) (l : Nat) : (State.setCap s l).kept = s.kept := by
  simp only [State.setCap, ↓State.put_kept, ↓State.raise_kept, ↓State.kept_mk, ↓State.kept_fold, ↓each_kept,
    ↓foldl_kept, ↓when_kept, ↓kept_ite, ↓OutKept_ite, ↓OutKept_next, ↓OutKept_fault, ↓OutKept_refused, ite_self,
    implies_true]
theorem State.capRead_kept (s : State) : (State.capRead s).kept = s.kept := by
  simp only [State.capRead, ↓State.raise_kept, ↓State.setCap_kept, ↓State.kept_mk, ↓State.kept_fold, ↓each_kept,
    ↓foldl_kept, ↓when_kept, ↓kept_ite, ↓OutKept_ite, ↓OutKept_next, ↓OutKept_fault, ↓OutKept_refused, ite_self,
    implies_true]
theorem State.derate_kept (s : State) (v : Int) (mv : Nat) (shift : Int) : (State.derate s v mv shift).kept = s.kept := by
  simp only [State.derate, ↓State.put_kept, ↓State.raise_kept, ↓State.kept_mk, ↓State.kept_fold, ↓each_kept,
    ↓foldl_kept, ↓when_kept, ↓kept_ite, ↓OutKept_ite, ↓OutKept_next, ↓OutKept_fault, ↓OutKept_refused, ite_self,
    implies_true]
theorem State.showRequest_kept (s : State) (mv : Nat) (shift : Int) : (State.showRequest s mv shift).kept = s.kept := by
  simp only [State.showRequest, ↓State.put_kept, ↓State.raise_kept, ↓State.kept_mk, ↓State.kept_fold, ↓each_kept,
    ↓foldl_kept, ↓when_kept, ↓kept_ite, ↓OutKept_ite, ↓OutKept_next, ↓OutKept_fault, ↓OutKept_refused, ite_self,
    implies_true]
theorem State.plan_kept (s : State) : (State.plan s).kept = s.kept := by
  unfold State.plan; (repeat' split) <;> simp (maxDischargeDepth := 9) only [↓State.derate_kept,
    ↓State.showRequest_kept, ↓State.kept_mk, ↓State.kept_fold, ↓each_kept, ↓foldl_kept, ↓when_kept, ↓kept_ite,
    ↓OutKept_ite, ↓OutKept_next, ↓OutKept_fault, ↓OutKept_refused, ite_self, implies_true]
theorem State.measure_kept (s : State) (m : Nat) (x : Int) : (State.measure s m x).kept = s.kept := by
  simp only [State.measure, ↓State.put_kept, ↓State.putS_kept, ↓State.kept_mk, ↓State.kept_fold, ↓each_kept,
    ↓foldl_kept, ↓when_kept, ↓kept_ite, ↓OutKept_ite, ↓OutKept_next, ↓OutKept_fault, ↓OutKept_refused, ite_self,
    implies_true]
theorem State.countSweep_kept (s : State) (worst : Option Int) : (State.countSweep s worst).kept = s.kept := by
  simp only [State.countSweep, ↓State.count_kept, ↓State.put_kept, ↓State.raise_kept, ↓State.kept_mk,
    ↓State.kept_fold, ↓each_kept, ↓foldl_kept, ↓when_kept, ↓kept_ite, ↓OutKept_ite, ↓OutKept_next, ↓OutKept_fault,
    ↓OutKept_refused, ite_self, implies_true]
theorem State.sweepOver_kept (s : State) (shifts : List (Fin 512 × Int)) : (State.sweepOver s shifts).kept = s.kept := by
  simp only [State.sweepOver, ↓State.countSweep_kept, ↓State.measure_kept, ↓State.plan_kept, ↓State.put_kept,
    ↓State.kept_mk, ↓State.kept_fold, ↓each_kept, ↓foldl_kept, ↓when_kept, ↓kept_ite, ↓OutKept_ite, ↓OutKept_next,
    ↓OutKept_fault, ↓OutKept_refused, ite_self, implies_true]
theorem State.shiftBytes_kept (s : State) (x : Option Int) : (s.shiftBytes x).2.kept = s.kept := by
  cases x <;> exact Eq.mp rfl rfl
theorem State.highBytes_kept (s : State) (m n : Nat) : (s.highBytes m n).2.kept = s.kept := by
  induction n generalizing s m with
  | zero => rfl
  | succ n ih => exact (ih _ _).trans (s.shiftBytes_kept _)
theorem State.summaryBytes_kept (s : State) (seq hours : Nat) : (s.summaryBytes seq hours).2.kept = s.kept := by
  simp only [State.summaryBytes, ↓State.highBytes_kept, ↓State.shiftBytes_kept]
theorem State.saveSummary_kept (s : State) (ok : Bool) : (s.saveSummary ok).kept = s.kept := by
  unfold State.saveSummary
  dsimp only
  split_ifs
  · exact Eq.mp rfl rfl
  · rw [State.raise_kept]
    simp only [↓State.kept_mk, ↓State.kept_fold, ↓State.flashStore_kept, ↓State.summaryBytes_kept]
  · rw [State.raise_kept]
    simp only [↓State.kept_mk, ↓State.kept_fold, ↓State.flashSpoil_kept]
theorem State.pmbusStop_kept (s : State) : (State.pmbusStop s).kept = s.kept := by
  simp only [State.pmbusStop, ↓State.put_kept, ↓State.raise_kept, ↓State.kept_mk, ↓State.kept_fold, ↓each_kept,
    ↓foldl_kept, ↓when_kept, ↓kept_ite, ↓OutKept_ite, ↓OutKept_next, ↓OutKept_fault, ↓OutKept_refused, ite_self,
    implies_true]
theorem State.pmbusRead_kept (s : State) (cmd : BitVec 8) (data : BitVec 16) : (State.pmbusRead s cmd data).kept = s.kept := by
  unfold State.pmbusRead; (repeat' split) <;> simp (maxDischargeDepth := 9) only [↓State.capRead_kept,
    ↓State.pmbusStop_kept, ↓State.put_kept, ↓State.kept_mk, ↓State.kept_fold, ↓each_kept, ↓foldl_kept, ↓when_kept,
    ↓kept_ite, ↓OutKept_ite, ↓OutKept_next, ↓OutKept_fault, ↓OutKept_refused, ite_self, implies_true]
theorem State.pmbusDone_kept (s : State) (cmd : BitVec 8) (ok : Bool) (data : BitVec 16) : (State.pmbusDone s cmd ok data).kept = s.kept := by
  simp only [State.pmbusDone, ↓State.pmbusRead_kept, ↓State.pmbusStop_kept, ↓State.kept_mk, ↓State.kept_fold,
    ↓each_kept, ↓foldl_kept, ↓when_kept, ↓kept_ite, ↓OutKept_ite, ↓OutKept_next, ↓OutKept_fault, ↓OutKept_refused,
    ite_self, implies_true]
theorem execSupplyInRange_kept (supply : Fin 11) (s : State) : OutKept s (execSupplyInRange supply s) := by
  simp only [execSupplyInRange, ↓State.put_kept, ↓State.kept_mk, ↓State.kept_fold, ↓each_kept, ↓foldl_kept,
    ↓when_kept, ↓kept_ite, ↓OutKept_ite, ↓OutKept_next, ↓OutKept_fault, ↓OutKept_refused, ite_self, implies_true]
theorem execSupplyFault_kept (supply : Fin 11) (s : State) : OutKept s (execSupplyFault supply s) := by
  simp only [execSupplyFault, ↓State.alert_kept, ↓State.put_kept, ↓State.raise_kept, ↓State.warmReset_kept,
    ↓State.kept_mk, ↓State.kept_fold, ↓each_kept, ↓foldl_kept, ↓when_kept, ↓kept_ite, ↓OutKept_ite, ↓OutKept_next,
    ↓OutKept_fault, ↓OutKept_refused, ite_self, implies_true]
theorem execSupplyRecovered_kept (s : State) : OutKept s (execSupplyRecovered s) := by
  simp only [execSupplyRecovered, ↓State.kept_mk, ↓State.kept_fold, ↓each_kept, ↓foldl_kept, ↓when_kept, ↓kept_ite,
    ↓OutKept_ite, ↓OutKept_next, ↓OutKept_fault, ↓OutKept_refused, ite_self, implies_true]
theorem execDomainClose_kept (d : DomId) (v : Word) (s : State) : OutKept s (execDomainClose d v s) := by
  simp only [execDomainClose, ↓State.writeDom_kept, ↓State.kept_mk, ↓State.kept_fold, ↓each_kept, ↓foldl_kept,
    ↓when_kept, ↓kept_ite, ↓OutKept_ite, ↓OutKept_next, ↓OutKept_fault, ↓OutKept_refused, ite_self, implies_true]
theorem execDomainOpen_kept (d : DomId) (v : Word) (s : State) : OutKept s (execDomainOpen d v s) := by
  simp only [execDomainOpen, ↓State.writeDom_kept, ↓State.kept_mk, ↓State.kept_fold, ↓each_kept, ↓foldl_kept,
    ↓when_kept, ↓kept_ite, ↓OutKept_ite, ↓OutKept_next, ↓OutKept_fault, ↓OutKept_refused, ite_self, implies_true]
theorem execDomainPowerOff_kept (d : DomId) (s : State) : OutKept s (execDomainPowerOff d s) := by
  simp only [execDomainPowerOff, ↓State.domOff_kept, ↓State.kept_mk, ↓State.kept_fold, ↓each_kept, ↓foldl_kept,
    ↓when_kept, ↓kept_ite, ↓OutKept_ite, ↓OutKept_next, ↓OutKept_fault, ↓OutKept_refused, ite_self, implies_true]
theorem execDomainOpened_kept (d : DomId) (s : State) : OutKept s (execDomainOpened d s) := by
  simp only [execDomainOpened, ↓State.domOpened_kept, ↓State.kept_mk, ↓State.kept_fold, ↓each_kept, ↓foldl_kept,
    ↓when_kept, ↓kept_ite, ↓OutKept_ite, ↓OutKept_next, ↓OutKept_fault, ↓OutKept_refused, ite_self, implies_true]
theorem execSensorReading_kept (n : Fin 24) (eighths : Int) (s : State) : OutKept s (execSensorReading n eighths s) := by
  simp only [execSensorReading, ↓State.readSensor_kept, ↓State.kept_mk, ↓State.kept_fold, ↓each_kept, ↓foldl_kept,
    ↓when_kept, ↓kept_ite, ↓OutKept_ite, ↓OutKept_next, ↓OutKept_fault, ↓OutKept_refused, ite_self, implies_true]
theorem execThrottleUpdate_kept (s : State) : OutKept s (execThrottleUpdate s) := by
  simp only [execThrottleUpdate, ↓State.applyLevel_kept, ↓State.derate_kept, ↓State.put_kept,
    ↓State.updateThermal_kept, ↓State.kept_mk, ↓State.kept_fold, ↓each_kept, ↓foldl_kept, ↓when_kept, ↓kept_ite,
    ↓OutKept_ite, ↓OutKept_next, ↓OutKept_fault, ↓OutKept_refused, ite_self, implies_true]
theorem State.tripNow_kept (s : State) (info : Nat) : (State.tripNow s info).kept = s.kept := by
  simp only [State.tripNow, ↓State.raise_kept, ↓State.kept_mk, ↓State.kept_fold, ↓each_kept, ↓foldl_kept,
    ↓when_kept, ↓kept_ite, ↓OutKept_ite, ↓OutKept_next, ↓OutKept_fault, ↓OutKept_refused, ite_self, implies_true]
theorem execThermalTrip_kept (n : Fin 24) (s : State) : OutKept s (execThermalTrip n s) := by
  simp only [execThermalTrip, ↓State.tripNow_kept, ↓State.kept_mk, ↓State.kept_fold, ↓each_kept, ↓foldl_kept,
    ↓when_kept, ↓kept_ite, ↓OutKept_ite, ↓OutKept_next, ↓OutKept_fault, ↓OutKept_refused, ite_self, implies_true]
theorem execTripShutdown_kept (s : State) : OutKept s (execTripShutdown s) := by
  simp only [execTripShutdown, ↓State.warmReset_kept, ↓State.kept_mk, ↓State.kept_fold, ↓each_kept, ↓foldl_kept,
    ↓when_kept, ↓kept_ite, ↓OutKept_ite, ↓OutKept_next, ↓OutKept_fault, ↓OutKept_refused, ite_self, implies_true]
theorem execSensorsFaultyTrip_kept (s : State) : OutKept s (execSensorsFaultyTrip s) := by
  simp only [execSensorsFaultyTrip, ↓State.tripNow_kept, ↓State.kept_mk, ↓State.kept_fold, ↓each_kept, ↓foldl_kept,
    ↓when_kept, ↓kept_ite, ↓OutKept_ite, ↓OutKept_next, ↓OutKept_fault, ↓OutKept_refused, ite_self, implies_true]
theorem execAgeingSweep_kept (shifts : List (Fin 512 × Int)) (s : State) : OutKept s (execAgeingSweep shifts s) := by
  simp only [execAgeingSweep, ↓State.sweepOver_kept, ↓State.kept_mk, ↓State.kept_fold, ↓each_kept, ↓foldl_kept,
    ↓when_kept, ↓kept_ite, ↓OutKept_ite, ↓OutKept_next, ↓OutKept_fault, ↓OutKept_refused, ite_self, implies_true]
theorem execSweep_kept (v : Word) (s : State) : OutKept s (execSweep v s) := by
  simp only [execSweep, ↓State.writeAge_kept, ↓State.kept_mk, ↓State.kept_fold, ↓each_kept, ↓foldl_kept, ↓when_kept,
    ↓kept_ite, ↓OutKept_ite, ↓OutKept_next, ↓OutKept_fault, ↓OutKept_refused, ite_self, implies_true]
theorem execSummarySave_kept (ok : Bool) (s : State) : OutKept s (execSummarySave ok s) := by
  unfold execSummarySave; (repeat' split) <;> simp (maxDischargeDepth := 9) only [↓State.saveSummary_kept,
    ↓State.kept_mk, ↓State.kept_fold, ↓each_kept, ↓foldl_kept, ↓when_kept, ↓kept_ite, ↓OutKept_ite, ↓OutKept_next,
    ↓OutKept_fault, ↓OutKept_refused, ite_self, implies_true]
theorem execPmbusTransaction_kept (tx : PmbusTx) (s : State) : OutKept s (execPmbusTransaction tx s) := by
  simp only [execPmbusTransaction, ↓State.pmbusDone_kept, ↓State.kept_mk, ↓State.kept_fold, ↓each_kept, ↓foldl_kept,
    ↓when_kept, ↓kept_ite, ↓OutKept_ite, ↓OutKept_next, ↓OutKept_fault, ↓OutKept_refused, ite_self, implies_true]
theorem execPmbAlert_kept (word : BitVec 16) (s : State) : OutKept s (execPmbAlert word s) := by
  simp only [execPmbAlert, ↓State.raise_kept, ↓State.kept_mk, ↓State.kept_fold, ↓each_kept, ↓foldl_kept, ↓when_kept,
    ↓kept_ite, ↓OutKept_ite, ↓OutKept_next, ↓OutKept_fault, ↓OutKept_refused, ite_self, implies_true]
theorem execPmbusRetry_kept (ok : Bool) (s : State) : OutKept s (execPmbusRetry ok s) := by
  simp only [execPmbusRetry, ↓State.put_kept, ↓State.kept_mk, ↓State.kept_fold, ↓each_kept, ↓foldl_kept, ↓when_kept,
    ↓kept_ite, ↓OutKept_ite, ↓OutKept_next, ↓OutKept_fault, ↓OutKept_refused, ite_self, implies_true]
theorem execRegisterWrite_kept (sender : Sender) (off : BitVec 26) (bytes : Fin 5) (v : Word) (s : State) : OutKept s (execRegisterWrite sender off bytes v s) := by
  simp only [execRegisterWrite, ↓mirrored_kept, ↓State.regWrite_kept, ↓State.kept_mk, ↓State.kept_fold, ↓each_kept,
    ↓foldl_kept, ↓when_kept, ↓kept_ite, ↓OutKept_ite, ↓OutKept_next, ↓OutKept_fault, ↓OutKept_refused, ite_self,
    implies_true]
theorem State.readPart_kept (s : State) (off n : Nat) : (s.readPart off n).2.kept = s.kept := by
  exact (State.setWord_kept ..).trans (s.latchFor_kept _)
theorem execRcRead_kept (off : BitVec 26) (bytes : Fin 5) (s : State) : OutKept s (execRcRead off bytes s) := by
  exact OutKept_next_of ((State.answering_kept ..).trans (s.readPart_kept _ _))
theorem execEvtClear_kept (page : BitVec 14) (v hwSet : Word) (s : State) : OutKept s (execEvtClear page v hwSet s) := by
  unfold execEvtClear; (repeat' split) <;> simp (maxDischargeDepth := 9) only [↓State.clearEvents_kept,
    ↓State.kept_mk, ↓State.kept_fold, ↓each_kept, ↓foldl_kept, ↓when_kept, ↓kept_ite, ↓OutKept_ite, ↓OutKept_next,
    ↓OutKept_fault, ↓OutKept_refused, ite_self, implies_true]
theorem execEvtForce_kept (page : BitVec 14) (v : Word) (s : State) : OutKept s (execEvtForce page v s) := by
  unfold execEvtForce; (repeat' split) <;> simp (maxDischargeDepth := 9) only [↓State.forceEvents_kept,
    ↓State.kept_mk, ↓State.kept_fold, ↓each_kept, ↓foldl_kept, ↓when_kept, ↓kept_ite, ↓OutKept_ite, ↓OutKept_next,
    ↓OutKept_fault, ↓OutKept_refused, ite_self, implies_true]
theorem execPageLockSet_kept (page : BitVec 14) (v : Word) (s : State) : OutKept s (execPageLockSet page v s) := by
  unfold execPageLockSet; (repeat' split) <;> simp (maxDischargeDepth := 9) only [↓State.lockPage_kept,
    ↓State.kept_mk, ↓State.kept_fold, ↓each_kept, ↓foldl_kept, ↓when_kept, ↓kept_ite, ↓OutKept_ite, ↓OutKept_next,
    ↓OutKept_fault, ↓OutKept_refused, ite_self, implies_true]
theorem execVaonInRange_kept (pairRole : Bool) (twpAddr : BitVec 3) (s : State) : OutKept s (execVaonInRange pairRole twpAddr s) := by
  simp only [execVaonInRange, ↓State.coldReset_kept, ↓State.put_kept, ↓State.putB_kept, ↓State.kept_mk,
    ↓State.kept_fold, ↓each_kept, ↓foldl_kept, ↓when_kept, ↓kept_ite, ↓OutKept_ite, ↓OutKept_next, ↓OutKept_fault,
    ↓OutKept_refused, ite_self, implies_true]
theorem execPowerLoss_kept (s : State) : OutKept s (execPowerLoss s) := by
  simp only [execPowerLoss, ↓State.coldReset_kept, ↓State.flashLoss_kept, ↓State.kept_mk, ↓State.kept_fold,
    ↓each_kept, ↓foldl_kept, ↓when_kept, ↓kept_ite, ↓OutKept_ite, ↓OutKept_next, ↓OutKept_fault, ↓OutKept_refused,
    ite_self, implies_true]
theorem State.pinReset_kept (s : State) : (State.pinReset s).kept = s.kept := by
  simp only [State.pinReset, ↓State.warmReset_kept, ↓State.kept_mk, ↓State.kept_fold, ↓each_kept, ↓foldl_kept,
    ↓when_kept, ↓kept_ite, ↓OutKept_ite, ↓OutKept_next, ↓OutKept_fault, ↓OutKept_refused, ite_self, implies_true]
theorem execPciePerstNAssert_kept (s : State) : OutKept s (execPciePerstNAssert s) := by
  simp only [execPciePerstNAssert, ↓State.pinReset_kept, ↓State.kept_mk, ↓State.kept_fold, ↓each_kept, ↓foldl_kept,
    ↓when_kept, ↓kept_ite, ↓OutKept_ite, ↓OutKept_next, ↓OutKept_fault, ↓OutKept_refused, ite_self, implies_true]
theorem execPciePerstNRelease_kept (s : State) : OutKept s (execPciePerstNRelease s) := by
  simp only [execPciePerstNRelease, ↓State.put_kept, ↓State.kept_mk, ↓State.kept_fold, ↓each_kept, ↓foldl_kept,
    ↓when_kept, ↓kept_ite, ↓OutKept_ite, ↓OutKept_next, ↓OutKept_fault, ↓OutKept_refused, ite_self, implies_true]
theorem execPorNAssert_kept (s : State) : OutKept s (execPorNAssert s) := by
  simp only [execPorNAssert, ↓State.pinReset_kept, ↓State.kept_mk, ↓State.kept_fold, ↓each_kept, ↓foldl_kept,
    ↓when_kept, ↓kept_ite, ↓OutKept_ite, ↓OutKept_next, ↓OutKept_fault, ↓OutKept_refused, ite_self, implies_true]
theorem execPorNRelease_kept (s : State) : OutKept s (execPorNRelease s) := by
  simp only [execPorNRelease, ↓State.kept_mk, ↓State.kept_fold, ↓each_kept, ↓foldl_kept, ↓when_kept, ↓kept_ite,
    ↓OutKept_ite, ↓OutKept_next, ↓OutKept_fault, ↓OutKept_refused, ite_self, implies_true]
theorem execRootLockLost_kept (s : State) : OutKept s (execRootLockLost s) := by
  simp only [execRootLockLost, ↓State.count_kept, ↓State.leaveReady_kept, ↓State.raise_kept, ↓State.warmReset_kept,
    ↓State.kept_mk, ↓State.kept_fold, ↓each_kept, ↓foldl_kept, ↓when_kept, ↓kept_ite, ↓OutKept_ite, ↓OutKept_next,
    ↓OutKept_fault, ↓OutKept_refused, ite_self, implies_true]
theorem execBlkReset_kept (b : ResetBlock) (v : Word) (s : State) : OutKept s (execBlkReset b v s) := by
  simp only [execBlkReset, ↓State.writeCtrl_kept, ↓State.kept_mk, ↓State.kept_fold, ↓each_kept, ↓foldl_kept,
    ↓when_kept, ↓kept_ite, ↓OutKept_ite, ↓OutKept_next, ↓OutKept_fault, ↓OutKept_refused, ite_self, implies_true]
theorem execBlockResetApply_kept (b : ResetBlock) (s : State) : OutKept s (execBlockResetApply b s) := by
  simp only [execBlockResetApply, ↓State.applyBlock_kept, ↓State.kept_mk, ↓State.kept_fold, ↓each_kept, ↓foldl_kept,
    ↓when_kept, ↓kept_ite, ↓OutKept_ite, ↓OutKept_next, ↓OutKept_fault, ↓OutKept_refused, ite_self, implies_true]
theorem State.setSlice_kept (s : State) (sl : SliceRef) (v : SliceState) : (State.setSlice s sl v).kept = s.kept := by
  simp only [State.setSlice, ↓State.kept_mk, ↓State.kept_fold, ↓each_kept, ↓foldl_kept, ↓when_kept, ↓kept_ite,
    ↓OutKept_ite, ↓OutKept_next, ↓OutKept_fault, ↓OutKept_refused, ite_self, implies_true]
theorem execSliceClockEdge_kept (sl : SliceRef) (cfg : SliceCfg) (pins : SlicePins) (s : State) : OutKept s (execSliceClockEdge sl cfg pins s) := by
  simp only [execSliceClockEdge, ↓State.setSlice_kept, ↓State.kept_mk, ↓State.kept_fold, ↓each_kept, ↓foldl_kept,
    ↓when_kept, ↓kept_ite, ↓OutKept_ite, ↓OutKept_next, ↓OutKept_fault, ↓OutKept_refused, ite_self, implies_true]
theorem execGbrst_kept (sl : SliceRef) (edges : Nat) (s : State) : OutKept s (execGbrst sl edges s) := by
  simp only [execGbrst, ↓State.setSlice_kept, ↓State.kept_mk, ↓State.kept_fold, ↓each_kept, ↓foldl_kept, ↓when_kept,
    ↓kept_ite, ↓OutKept_ite, ↓OutKept_next, ↓OutKept_fault, ↓OutKept_refused, ite_self, implies_true]
theorem State.issueWindow_kept (s : State) (a : WinAccess) : (State.issueWindow s a).kept = s.kept := by
  unfold State.issueWindow; (repeat' split) <;> simp (maxDischargeDepth := 9) only [↓State.issue_kept,
    ↓State.write_kept, ↓State.kept_mk, ↓State.kept_fold, ↓each_kept, ↓foldl_kept, ↓when_kept, ↓kept_ite,
    ↓OutKept_ite, ↓OutKept_next, ↓OutKept_fault, ↓OutKept_refused, ite_self, implies_true]
theorem State.startAccess_kept (s : State) (t : Transport) (a : WinAccess) : (State.startAccess s t a).kept = s.kept := by
  simp only [State.startAccess, ↓State.endAccess_kept, ↓State.issueWindow_kept, ↓State.setWin_kept, ↓State.kept_mk,
    ↓State.kept_fold, ↓each_kept, ↓foldl_kept, ↓when_kept, ↓kept_ite, ↓OutKept_ite, ↓OutKept_next, ↓OutKept_fault,
    ↓OutKept_refused, ite_self, implies_true]
theorem State.pumpWindows_kept (s : State) (n : Nat) : (s.pumpWindows n).kept = s.kept := by
  induction n generalizing s with
  | zero => rfl
  | succ n ih =>
    unfold State.pumpWindows
    repeat' split
    all_goals first
      | rfl
      | (dsimp only; rw [ih]; exact Eq.mp rfl rfl)
      | (dsimp only; rw [ih, State.startAccess_kept]; simp only [↓State.kept_mk, ↓State.kept_fold, ↓State.setWin_kept])
theorem State.pump_kept (s : State) : s.pump.kept = s.kept := by
  exact s.pumpWindows_kept _
theorem State.arriveAccess_kept (s : State) (t : Transport) (a : WinAccess) : (State.arriveAccess s t a).kept = s.kept := by
  simp only [State.arriveAccess, ↓State.pump_kept, ↓State.setWin_kept, ↓State.kept_mk, ↓State.kept_fold, ↓each_kept,
    ↓foldl_kept, ↓when_kept, ↓kept_ite, ↓OutKept_ite, ↓OutKept_next, ↓OutKept_fault, ↓OutKept_refused, ite_self,
    implies_true]
theorem State.smbWrite_kept (s : State) (code : Nat) (pec : Option Bool) (f : State → State)
    (h : ∀ t, (f t).kept = t.kept) : (s.smbWrite code pec f).kept = s.kept := by
  unfold State.smbWrite
  split_ifs <;> simp only [h, State.raise_kept, State.count_kept]
theorem execWinAddr_kept (v : Word) (pec : Option Bool) (s : State) : OutKept s (execWinAddr v pec s) := by
  simp only [execWinAddr, ↓State.arriveAccess_kept, ↓State.setWin_kept, ↓State.smbWrite_kept, ↓State.kept_mk,
    ↓State.kept_fold, ↓each_kept, ↓foldl_kept, ↓when_kept, ↓kept_ite, ↓OutKept_ite, ↓OutKept_next, ↓OutKept_fault,
    ↓OutKept_refused, ite_self, implies_true]
theorem execWinWdata_kept (v : Word) (pec : Option Bool) (s : State) : OutKept s (execWinWdata v pec s) := by
  simp only [execWinWdata, ↓State.arriveAccess_kept, ↓State.setWin_kept, ↓State.smbWrite_kept, ↓State.write_kept,
    ↓State.kept_mk, ↓State.kept_fold, ↓each_kept, ↓foldl_kept, ↓when_kept, ↓kept_ite, ↓OutKept_ite, ↓OutKept_next,
    ↓OutKept_fault, ↓OutKept_refused, ite_self, implies_true]
theorem execWinRdata_kept (s : State) : OutKept s (execWinRdata s) := by
  simp only [execWinRdata, ↓State.answering_kept, ↓State.arriveAccess_kept, ↓State.setWin_kept, ↓State.kept_mk,
    ↓State.kept_fold, ↓each_kept, ↓foldl_kept, ↓when_kept, ↓kept_ite, ↓OutKept_ite, ↓OutKept_next, ↓OutKept_fault,
    ↓OutKept_refused, ite_self, implies_true]
theorem execTwpStat_kept (s : State) : OutKept s (execTwpStat s) := by
  simp only [execTwpStat, ↓State.answerWord_kept, ↓State.answering_kept, ↓State.kept_mk, ↓State.kept_fold,
    ↓each_kept, ↓foldl_kept, ↓when_kept, ↓kept_ite, ↓OutKept_ite, ↓OutKept_next, ↓OutKept_fault, ↓OutKept_refused,
    ite_self, implies_true]
theorem execId_kept (s : State) : OutKept s (execId s) := by
  simp only [execId, ↓State.answerWord_kept, ↓State.answering_kept, ↓State.kept_mk, ↓State.kept_fold, ↓each_kept,
    ↓foldl_kept, ↓when_kept, ↓kept_ite, ↓OutKept_ite, ↓OutKept_next, ↓OutKept_fault, ↓OutKept_refused, ite_self,
    implies_true]
theorem execSpiWrite_kept (word : BitVec 24) (data : List Word) (s : State) : OutKept s (execSpiWrite word data s) := by
  simp only [execSpiWrite, ↓State.arriveAccess_kept, ↓State.write_kept, ↓State.kept_mk, ↓State.kept_fold,
    ↓each_kept, ↓foldl_kept, ↓when_kept, ↓kept_ite, ↓OutKept_ite, ↓OutKept_next, ↓OutKept_fault, ↓OutKept_refused,
    ite_self, implies_true]
theorem execSpiRead_kept (word : BitVec 24) (s : State) : OutKept s (execSpiRead word s) := by
  simp only [execSpiRead, ↓State.answering_kept, ↓State.arriveAccess_kept, ↓State.kept_mk, ↓State.kept_fold,
    ↓each_kept, ↓foldl_kept, ↓when_kept, ↓kept_ite, ↓OutKept_ite, ↓OutKept_next, ↓OutKept_fault, ↓OutKept_refused,
    ite_self, implies_true]
theorem execSpiStatus_kept (s : State) : OutKept s (execSpiStatus s) := by
  simp only [execSpiStatus, ↓State.answering_kept, ↓State.kept_mk, ↓State.kept_fold, ↓each_kept, ↓foldl_kept,
    ↓when_kept, ↓kept_ite, ↓OutKept_ite, ↓OutKept_next, ↓OutKept_fault, ↓OutKept_refused, ite_self, implies_true]
theorem execSpiId_kept (s : State) : OutKept s (execSpiId s) := by
  simp only [execSpiId, ↓State.answering_kept, ↓State.kept_mk, ↓State.kept_fold, ↓each_kept, ↓foldl_kept,
    ↓when_kept, ↓kept_ite, ↓OutKept_ite, ↓OutKept_next, ↓OutKept_fault, ↓OutKept_refused, ite_self, implies_true]
theorem State.spiAnswer_kept (s : State) (t : Transport) (isRead : Bool) : (State.spiAnswer s t isRead).kept = s.kept := by
  unfold State.spiAnswer; (repeat' split) <;> simp (maxDischargeDepth := 9) only [↓State.answering_kept,
    ↓State.kept_mk, ↓State.kept_fold, ↓each_kept, ↓foldl_kept, ↓when_kept, ↓kept_ite, ↓OutKept_ite, ↓OutKept_next,
    ↓OutKept_fault, ↓OutKept_refused, ite_self, implies_true]
theorem State.finishAccess_kept (s : State) (t : Transport) (a : WinAccess) (status : Nat) (data : Word) : (State.finishAccess s t a status data).kept = s.kept := by
  unfold State.finishAccess; dsimp only; (repeat' split) <;> simp (maxDischargeDepth := 9) only
    [↓State.endAccess_kept, ↓State.readReg_kept, ↓State.regWrite_kept, ↓State.write_kept, ↓State.kept_mk,
    ↓State.kept_fold, ↓each_kept, ↓foldl_kept, ↓when_kept, ↓kept_ite, ↓OutKept_ite, ↓OutKept_next, ↓OutKept_fault,
    ↓OutKept_refused, ite_self, implies_true]
theorem execWindowAccessComplete_kept (t : Transport) (status : BitVec 4) (data : Word) (s : State) : OutKept s (execWindowAccessComplete t status data s) := by
  unfold execWindowAccessComplete; (repeat' split) <;> simp (maxDischargeDepth := 9) only [↓State.finishAccess_kept,
    ↓State.pump_kept, ↓State.spiAnswer_kept, ↓State.kept_mk, ↓State.kept_fold, ↓each_kept, ↓foldl_kept, ↓when_kept,
    ↓kept_ite, ↓OutKept_ite, ↓OutKept_next, ↓OutKept_fault, ↓OutKept_refused, ite_self, implies_true]
theorem State.requestOver_kept (s : State) (t : Transport) (v : Word) : (State.requestOver s t v).kept = s.kept := by
  simp only [State.requestOver, ↓State.twpRequest_kept, ↓State.kept_mk, ↓State.kept_fold, ↓each_kept, ↓foldl_kept,
    ↓when_kept, ↓kept_ite, ↓OutKept_ite, ↓OutKept_next, ↓OutKept_fault, ↓OutKept_refused, ite_self, implies_true]
theorem execReset_kept (t : Transport) (v : Word) (s : State) : OutKept s (execReset t v s) := by
  simp only [execReset, ↓State.requestOver_kept, ↓State.kept_mk, ↓State.kept_fold, ↓each_kept, ↓foldl_kept,
    ↓when_kept, ↓kept_ite, ↓OutKept_ite, ↓OutKept_next, ↓OutKept_fault, ↓OutKept_refused, ite_self, implies_true]
theorem execReconfigure_kept (t : Transport) (v : Word) (s : State) : OutKept s (execReconfigure t v s) := by
  simp only [execReconfigure, ↓State.requestOver_kept, ↓State.kept_mk, ↓State.kept_fold, ↓each_kept, ↓foldl_kept,
    ↓when_kept, ↓kept_ite, ↓OutKept_ite, ↓OutKept_next, ↓OutKept_fault, ↓OutKept_refused, ite_self, implies_true]
theorem execWake_kept (t : Transport) (v : Word) (s : State) : OutKept s (execWake t v s) := by
  simp only [execWake, ↓State.requestOver_kept, ↓State.kept_mk, ↓State.kept_fold, ↓each_kept, ↓foldl_kept,
    ↓when_kept, ↓kept_ite, ↓OutKept_ite, ↓OutKept_next, ↓OutKept_fault, ↓OutKept_refused, ite_self, implies_true]
theorem execAlertClear_kept (t : Transport) (v : Word) (s : State) : OutKept s (execAlertClear t v s) := by
  simp only [execAlertClear, ↓State.requestOver_kept, ↓State.kept_mk, ↓State.kept_fold, ↓each_kept, ↓foldl_kept,
    ↓when_kept, ↓kept_ite, ↓OutKept_ite, ↓OutKept_next, ↓OutKept_fault, ↓OutKept_refused, ite_self, implies_true]
theorem execAlertResponse_kept (s : State) : OutKept s (execAlertResponse s) := by
  simp only [execAlertResponse, ↓State.answering_kept, ↓State.kept_mk, ↓State.kept_fold, ↓each_kept, ↓foldl_kept,
    ↓when_kept, ↓kept_ite, ↓OutKept_ite, ↓OutKept_next, ↓OutKept_fault, ↓OutKept_refused, ite_self, implies_true]
theorem execSmbusTimeout_kept (s : State) : OutKept s (execSmbusTimeout s) := by
  simp only [execSmbusTimeout, ↓State.raise_kept, ↓State.kept_mk, ↓State.kept_fold, ↓each_kept, ↓foldl_kept,
    ↓when_kept, ↓kept_ite, ↓OutKept_ite, ↓OutKept_next, ↓OutKept_fault, ↓OutKept_refused, ite_self, implies_true]
theorem execFwAlert_kept (v : Word) (s : State) : OutKept s (execFwAlert v s) := by
  simp only [execFwAlert, ↓State.writeTwp_kept, ↓State.kept_mk, ↓State.kept_fold, ↓each_kept, ↓foldl_kept,
    ↓when_kept, ↓kept_ite, ↓OutKept_ite, ↓OutKept_next, ↓OutKept_fault, ↓OutKept_refused, ite_self, implies_true]

/-- Every command but FUSE_PROG leaves the waiting commands and the fuses as they are. -/
theorem exec_kept (i : Instr) (s : State) (notFuse : ∀ f d, i ≠ .fuseProg f d) : OutKept s (exec i s) := by
  cases i with
  | vaonInRange pairRole twpAddr => exact execVaonInRange_kept pairRole twpAddr s
  | pciePerstNAssert => exact execPciePerstNAssert_kept s
  | pciePerstNRelease => exact execPciePerstNRelease_kept s
  | porNAssert => exact execPorNAssert_kept s
  | porNRelease => exact execPorNRelease_kept s
  | blkReset b v => exact execBlkReset_kept b v s
  | blockResetApply b => exact execBlockResetApply_kept b s
  | registerWrite sender off bytes v => exact execRegisterWrite_kept sender off bytes v s
  | rcRead off bytes => exact execRcRead_kept off bytes s
  | evtClear page v hwSet => exact execEvtClear_kept page v hwSet s
  | evtForce page v => exact execEvtForce_kept page v s
  | pageLockSet page v => exact execPageLockSet_kept page v s
  | memoryPortWrite m portB cfg pins => exact execMemoryPortWrite_kept m portB cfg pins s
  | memoryPortRead m portB cfg pins => exact execMemoryPortRead_kept m portB cfg pins s
  | narrowWrite m portB cfg pins => exact execNarrowWrite_kept m portB cfg pins s
  | clrv region inst => exact execClrv_kept region inst s
  | leakPeriod b => exact execLeakPeriod_kept b s
  | rolEntryFree b e v => exact execRolEntryFree_kept b e v s
  | remapEntrySet r v => exact execRemapEntrySet_kept r v s
  | remapEntryClear r v => exact execRemapEntryClear_kept r v s
  | eccInjectArm region v => exact execEccInjectArm_kept region v s
  | bistStart region v => exact execBistStart_kept region v s
  | bistComplete region failing => exact execBistComplete_kept region failing s
  | gbrst sl edges => exact execGbrst_kept sl edges s
  | thEnable v => exact execThEnable_kept v s
  | timeLoadGo v => exact execTimeLoadGo_kept v s
  | syncInEdge => exact execSyncInEdge_kept s
  | acceptStep v => exact execAcceptStep_kept v s
  | timeRead => exact execTimeRead_kept s
  | tlRoleWrite lane v => exact execTlRoleWrite_kept lane v s
  | layoutWrite r v => exact execLayoutWrite_kept r v s
  | tlBlockLock lane => exact execTlBlockLock_kept lane s
  | tlLockLost lane => exact execTlLockLost_kept lane s
  | xtlFrameReceived lane blocks arrival => exact execXtlFrameReceived_kept lane blocks arrival s
  | tlRejectRetry lane => exact execTlRejectRetry_kept lane s
  | xtlFrameSend lane => exact execXtlFrameSend_kept lane s
  | trigMessageReceived lane payload swapClk => exact execTrigMessageReceived_kept lane payload swapClk s
  | xtlSend v swapClk => exact execXtlSend_kept v swapClk s
  | calibrationAverageComplete => exact execCalibrationAverageComplete_kept s
  | rejoinMeasureComplete => exact execRejoinMeasureComplete_kept s
  | holdoverLimitReached => exact execHoldoverLimitReached_kept s
  | inputEdge ch rising t lasts => exact execInputEdge_kept ch rising t lasts s
  | stampDelivery ch => exact execStampDelivery_kept ch s
  | tdcCalTableReplace ch => exact execTdcCalTableReplace_kept ch s
  | tdcCalRestart v => exact execTdcCalRestart_kept v s
  | fabricEvent line t => exact execFabricEvent_kept line t s
  | outputRequest v => exact execOutputRequest_kept v s
  | outputActionDue o => exact execOutputActionDue_kept o s
  | pulseEnd o => exact execPulseEnd_kept o s
  | seqTableWrite s0 word v => exact execSeqTableWrite_kept s0 word v s
  | sequencerEventRelease s0 swapClk => exact execSequencerEventRelease_kept s0 swapClk s
  | sequencerTimerExpiry s0 => exact execSequencerTimerExpiry_kept s0 s
  | seqRun s0 v swapClk => exact execSeqRun_kept s0 v swapClk s
  | seqHalt s0 v => exact execSeqHalt_kept s0 v s
  | seqArm s0 v => exact execSeqArm_kept s0 v s
  | lineContention line => exact execLineContention_kept line s
  | contentionRetry line => exact execContentionRetry_kept line s
  | lineShort line => exact execLineShort_kept line s
  | shortClear line => exact execShortClear_kept line s
  | lineOpen line => exact execLineOpen_kept line s
  | openClear line => exact execOpenClear_kept line s
  | idleCheck line v => exact execIdleCheck_kept line v s
  | idleCheckComplete line r => exact execIdleCheckComplete_kept line r s
  | lineFaultClear line v => exact execLineFaultClear_kept line v s
  | sysrefGo n v => exact execSysrefGo_kept n v s
  | sysrefEdge n => exact execSysrefEdge_kept n s
  | ptmDialog dev host => exact execPtmDialog_kept dev host s
  | ptmStale => exact execPtmStale_kept s
  | oscReady => exact execOscReady_kept s
  | crystalReady => exact execCrystalReady_kept s
  | refclkReady at100 => exact execRefclkReady_kept at100 s
  | rootPllLock => exact execRootPllLock_kept s
  | thPllLock => exact execThPllLock_kept s
  | missingClock src => exact execMissingClock_kept src s
  | monitorGate g => exact execMonitorGate_kept g s
  | trimConverged code err => exact execTrimConverged_kept code err s
  | trimTrackStep up move err => exact execTrimTrackStep_kept up move err s
  | clkSelWrite v => exact execClkSelWrite_kept v s
  | clkSwitchComplete cfg => exact execClkSwitchComplete_kept cfg s
  | rootRelockComplete th => exact execRootRelockComplete_kept th s
  | rootLockLost => exact execRootLockLost_kept s
  | aonTimeRead => exact execAonTimeRead_kept s
  | cmtApply tile fpll inputKhz grade v => exact execCmtApply_kept tile fpll inputKhz grade v s
  | cmtReset tile fpll v => exact execCmtReset_kept tile fpll v s
  | cmtLock tile fpll => exact execCmtLock_kept tile fpll s
  | cmtLockLost tile fpll inputMissing => exact execCmtLockLost_kept tile fpll inputMissing s
  | phaseRequest tile fpll count => exact execPhaseRequest_kept tile fpll count s
  | phaseMoveComplete tile fpll => exact execPhaseMoveComplete_kept tile fpll s
  | trackSelect region track second running => exact execTrackSelect_kept region track second running s
  | trackInactive region track => exact execTrackInactive_kept region track s
  | progNAssert => exact execProgNAssert_kept s
  | progNRelease bootMode => exact execProgNRelease_kept bootMode s
  | prog v => exact execProg_kept v s
  | bootStart bootMode => exact execBootStart_kept bootMode s
  | loadGo v => exact execLoadGo_kept v s
  | abort v => exact execAbort_kept v s
  | selftest v => exact execSelftest_kept v s
  | selftestComplete pass => exact execSelftestComplete_kept pass s
  | imageHeader => exact execImageHeader_kept s
  | signatureVerified trailer => exact execSignatureVerified_kept trailer s
  | bulkClearComplete => exact execBulkClearComplete_kept s
  | systemRecord => exact execSystemRecord_kept s
  | gcmSegment => exact execGcmSegment_kept s
  | setfar => exact execSetfar_kept s
  | write => exact execWrite_kept s
  | repeatFrame => exact execRepeatFrame_kept s
  | wreg => exact execWreg_kept s
  | dynlist => exact execDynlist_kept s
  | nop => exact execNop_kept s
  | sync => exact execSync_kept s
  | endStream => exact execEndStream_kept s
  | trailerCheck => exact execTrailerCheck_kept s
  | startupPllRelocked => exact execStartupPllRelocked_kept s
  | cfgDataWrite bytes => exact execCfgDataWrite_kept bytes s
  | loadDataTimeout => exact execLoadDataTimeout_kept s
  | sourceReadResponse status bytes => exact execSourceReadResponse_kept status bytes s
  | flashRead v => exact execFlashRead_kept v s
  | flashProgram v => exact execFlashProgram_kept v s
  | flashErase4k v => exact execFlashErase4k_kept v s
  | flashErase64k v => exact execFlashErase64k_kept v s
  | flashCmdComplete ok bytes => exact execFlashCmdComplete_kept ok bytes s
  | define s0 v => exact execDefine_kept s0 v s
  | undefine s0 v => exact execUndefine_kept s0 v s
  | swapNow s0 v swapClk => exact execSwapNow_kept s0 v swapClk s
  | swapAt s0 v swapClk => exact execSwapAt_kept s0 v swapClk s
  | cancel s0 v => exact execCancel_kept s0 v s
  | resetHold s0 v => exact execResetHold_kept s0 v s
  | resetRelease s0 v => exact execResetRelease_kept s0 v s
  | clear s0 v => exact execClear_kept s0 v s
  | clearComplete s0 => exact execClearComplete_kept s0 s
  | refill s0 v => exact execRefill_kept s0 v s
  | drainStart s0 => exact execDrainStart_kept s0 s
  | drainComplete s0 => exact execDrainComplete_kept s0 s
  | drainTimeout s0 => exact execDrainTimeout_kept s0 s
  | swapFreeze s0 => exact execSwapFreeze_kept s0 s
  | swapFlip s0 edge => exact execSwapFlip_kept s0 edge s
  | swapRelease s0 => exact execSwapRelease_kept s0 s
  | swapClockLost s0 => exact execSwapClockLost_kept s0 s
  | contentFrame s0 addr frame readOk tagOk => exact execContentFrame_kept s0 addr frame readOk tagOk s
  | contentPhaseEnd s0 => exact execContentPhaseEnd_kept s0 s
  | scrubSlot => exact execScrubSlot_kept s
  | repairReadResponse ok frame => exact execRepairReadResponse_kept ok frame s
  | refillFrame s0 => exact execRefillFrame_kept s0 s
  | nocRequestIssue ini r l2Bad => exact execNocRequestIssue_kept ini r l2Bad s
  | routerPacket x y p => exact execRouterPacket_kept x y p s
  | destinationPacket port p => exact execDestinationPacket_kept port p s
  | sequenceGapTimeout port src vc => exact execSequenceGapTimeout_kept port src vc s
  | nocResponse ini p => exact execNocResponse_kept ini p s
  | initiatorTimeout ini tag => exact execInitiatorTimeout_kept ini tag s
  | tagRelease ini tag => exact execTagRelease_kept ini tag s
  | noticeReceived ini p => exact execNoticeReceived_kept ini p s
  | fence ini tag => exact execFence_kept ini tag s
  | holdApply x y v => exact execHoldApply_kept x y v s
  | holdApplied x y => exact execHoldApplied_kept x y s
  | holdTimeout x y => exact execHoldTimeout_kept x y s
  | portClosed port => exact execPortClosed_kept port s
  | portForceClose port => exact execPortForceClose_kept port s
  | fiArm x y out v => exact execFiArm_kept x y out v s
  | fiReorderTimeout x y out => exact execFiReorderTimeout_kept x y out s
  | quayInitiatorRequest q isFence r => exact execQuayInitiatorRequest_kept q isFence r s
  | quayTargetResponse q tag err data => exact execQuayTargetResponse_kept q tag err data s
  | dmcEnable n v => exact execDmcEnable_kept n v s
  | dmcDisable n v => exact execDmcDisable_kept n v s
  | trainingRecordRead n ids eyeOk => exact execTrainingRecordRead_kept n ids eyeOk s
  | trainingStepEnd n pass density width answered ids settings => exact execTrainingStepEnd_kept n pass density width answered ids settings s
  | dramRequest n p => exact execDramRequest_kept n p s
  | dramCommandSlot n => exact execDramCommandSlot_kept n s
  | dramReadData n entry upset => exact execDramReadData_kept n entry upset s
  | agePromotion n entry => exact execAgePromotion_kept n entry s
  | refreshInterval n rank => exact execRefreshInterval_kept n rank s
  | mr4Poll n rank doubled => exact execMr4Poll_kept n rank doubled s
  | patrolRead n upset => exact execPatrolRead_kept n upset s
  | ceWindowEnd n => exact execCeWindowEnd_kept n s
  | ceRateWrite n v => exact execCeRateWrite_kept n v s
  | dqsTrack n rank change => exact execDqsTrack_kept n rank change s
  | zqCal n rank => exact execZqCal_kept n rank s
  | trackNow n v => exact execTrackNow_kept n v s
  | retrain n v => exact execRetrain_kept n v s
  | retrainCancel n v => exact execRetrainCancel_kept n v s
  | patrolRestart n v => exact execPatrolRestart_kept n v s
  | retrainStart n => exact execRetrainStart_kept n s
  | retrainComplete n => exact execRetrainComplete_kept n s
  | retrainTimeout n => exact execRetrainTimeout_kept n s
  | keyLoad n sender v => exact execKeyLoad_kept n sender v s
  | keyErase n sender v => exact execKeyErase_kept n sender v s
  | regionEnable n r v => exact execRegionEnable_kept n r v s
  | regionDisable n r v => exact execRegionDisable_kept n r v s
  | initGo n r v => exact execInitGo_kept n r v s
  | initComplete n r => exact execInitComplete_kept n r s
  | nodeFetch n r level index good fromCache => exact execNodeFetch_kept n r level index good fromCache s
  | reencryptionComplete n r group failed => exact execReencryptionComplete_kept n r group failed s
  | linkUp rate width flit => exact execLinkUp_kept rate width flit s
  | linkDown => exact execLinkDown_kept s
  | inBandReset => exact execInBandReset_kept s
  | flr f => exact execFlr_kept f s
  | flrComplete f => exact execFlrComplete_kept f s
  | hostConfigWrite f w => exact execHostConfigWrite_kept f w s
  | msixUnmask f vector => exact execMsixUnmask_kept f vector s
  | l1Exit => exact execL1Exit_kept s
  | ltrSend => exact execLtrSend_kept s
  | hostRequest f bar isWrite off len data => exact execHostRequest_kept f bar isWrite off len data s
  | hostCompletion id => exact execHostCompletion_kept id s
  | contextEnable n v => exact execContextEnable_kept n v s
  | stop n v => exact execStop_kept n v s
  | restart n v => exact execRestart_kept n v s
  | contextDisable n v => exact execContextDisable_kept n v s
  | doorbell n v => exact execDoorbell_kept n v s
  | apertureAccess f off isWrite bytes v => exact execApertureAccess_kept f off isWrite bytes v s
  | engineIssueSlot portB upset => exact execEngineIssueSlot_kept portB upset s
  | descriptorFetched n status d => exact execDescriptorFetched_kept n status d s
  | streamReadResponse n pos status bytes => exact execStreamReadResponse_kept n pos status bytes s
  | streamFenceComplete n status => exact execStreamFenceComplete_kept n status s
  | recordConfirmed n status => exact execRecordConfirmed_kept n status s
  | contextDrained n => exact execContextDrained_kept n s
  | tollPeriod => exact execTollPeriod_kept s
  | sluiceTimer j => exact execSluiceTimer_kept j s
  | sluCfgWrite j v => exact execSluCfgWrite_kept j v s
  | sluTgtWrite j v => exact execSluTgtWrite_kept j v s
  | functionReachable f => exact execFunctionReachable_kept f s
  | coreRun c v => exact execCoreRun_kept c v s
  | coreStop c v => exact execCoreStop_kept c v s
  | fenceInstruction c deviceOut status => exact execFenceInstruction_kept c deviceOut status s
  | fastTrap c => exact execFastTrap_kept c s
  | mret c => exact execMret_kept c s
  | wfi c => exact execWfi_kept c s
  | coreWake c => exact execCoreWake_kept c s
  | machineTimer c => exact execMachineTimer_kept c s
  | l2PartitionWrite v => exact execL2PartitionWrite_kept v s
  | l2Maint v => exact execL2Maint_kept v s
  | l2MaintComplete => exact execL2MaintComplete_kept s
  | sourceEdge src => exact execSourceEdge_kept src s
  | sourceLevel src asserted => exact execSourceLevel_kept src asserted s
  | swi v => exact execSwi_kept v s
  | claimNormal c => exact execClaimNormal_kept c s
  | claimFast c => exact execClaimFast_kept c s
  | icComplete c v => exact execIcComplete_kept c v s
  | pendWrite r v hwSet => exact execPendWrite_kept r v hwSet s
  | taskStart v => exact execTaskStart_kept v s
  | taskSuspend v => exact execTaskSuspend_kept v s
  | taskDelete v => exact execTaskDelete_kept v s
  | taskWait v => exact execTaskWait_kept v s
  | taskDelay v => exact execTaskDelay_kept v s
  | taskYield v => exact execTaskYield_kept v s
  | taskExit v => exact execTaskExit_kept v s
  | taskTableWrite t word v => exact execTaskTableWrite_kept t word v s
  | taskPostWrite t v => exact execTaskPostWrite_kept t v s
  | taskPostApply => exact execTaskPostApply_kept s
  | schedulerTick => exact execSchedulerTick_kept s
  | tsNext c => exact execTsNext_kept c s
  | slotDispatch s0 dropped => exact execSlotDispatch_kept s0 dropped s
  | loadWindowEnd => exact execLoadWindowEnd_kept s
  | statClear v => exact execStatClear_kept v s
  | qpllApply q b refKhz v => exact execQpllApply_kept q b refKhz v s
  | qpllLock q b => exact execQpllLock_kept q b s
  | laneCfgWrite lane v => exact execLaneCfgWrite_kept lane v s
  | pstateRequest lane v => exact execPstateRequest_kept lane v s
  | pstateTransitionComplete lane => exact execPstateTransitionComplete_kept lane s
  | blockLock lane position => exact execBlockLock_kept lane position s
  | lockLoss lane => exact execLockLoss_kept lane s
  | commaAlign lane position => exact execCommaAlign_kept lane position s
  | fecCodeword lane symbolErrors => exact execFecCodeword_kept lane symbolErrors s
  | elasticBufferError lane => exact execElasticBufferError_kept lane s
  | gridStrobe lane tx fill => exact execGridStrobe_kept lane tx fill s
  | groupDefine lane v => exact execGroupDefine_kept lane v s
  | ltsBlock lane b => exact execLtsBlock_kept lane b s
  | rateSwitch lane => exact execRateSwitch_kept lane s
  | stepRetrainTimeout lane => exact execStepRetrainTimeout_kept lane s
  | groupTrainTimeout lane => exact execGroupTrainTimeout_kept lane s
  | groupRetry lane => exact execGroupRetry_kept lane s
  | groupLockLossTimeout lane => exact execGroupLockLossTimeout_kept lane s
  | txFault lane => exact execTxFault_kept lane s
  | txFaultRetry lane => exact execTxFaultRetry_kept lane s
  | receiverDetect lane found => exact execReceiverDetect_kept lane found s
  | lossOfSignal lane => exact execLossOfSignal_kept lane s
  | laneFaultClear lane v => exact execLaneFaultClear_kept lane v s
  | laneCal lane v => exact execLaneCal_kept lane v s
  | laneCalComplete lane => exact execLaneCalComplete_kept lane s
  | eyeScan lane v => exact execEyeScan_kept lane v s
  | eyeScanComplete lane count => exact execEyeScanComplete_kept lane count s
  | laneFiArm lane v => exact execLaneFiArm_kept lane v s
  | pairEnable v f => exact execPairEnable_kept v f s
  | pairSyncComplete => exact execPairSyncComplete_kept s
  | mirrorChange position ch => exact execMirrorChange_kept position ch s
  | mirrorAck position => exact execMirrorAck_kept position s
  | heartbeatSend => exact execHeartbeatSend_kept s
  | heartbeatReceived h => exact execHeartbeatReceived_kept h s
  | heartbeatMiss => exact execHeartbeatMiss_kept s
  | takeover v => exact execTakeover_kept v s
  | fenceReadback high => exact execFenceReadback_kept high s
  | takeoverSettle ctxs => exact execTakeoverSettle_kept ctxs s
  | primaryAlone => exact execPrimaryAlone_kept s
  | fenceIn both => exact execFenceIn_kept both s
  | release v fenceIn => exact execRelease_kept v fenceIn s
  | rejoin v => exact execRejoin_kept v s
  | resync v => exact execResync_kept v s
  | faultEntry e => exact execFaultEntry_kept e s
  | ringIntake => exact execRingIntake_kept s
  | flushTimer => exact execFlushTimer_kept s
  | flushNow v => exact execFlushNow_kept v s
  | flushComplete ok => exact execFlushComplete_kept ok s
  | pageEraseComplete ok => exact execPageEraseComplete_kept ok s
  | logEnable v => exact execLogEnable_kept v s
  | logScanComplete => exact execLogScanComplete_kept s
  | fltEntRead => exact execFltEntRead_kept s
  | powerFailWarning => exact execPowerFailWarning_kept s
  | powerFailClear => exact execPowerFailClear_kept s
  | supplyInRange supply => exact execSupplyInRange_kept supply s
  | supplyFault supply => exact execSupplyFault_kept supply s
  | supplyRecovered => exact execSupplyRecovered_kept s
  | domainClose d v => exact execDomainClose_kept d v s
  | domainOpen d v => exact execDomainOpen_kept d v s
  | domainPowerOff d => exact execDomainPowerOff_kept d s
  | domainOpened d => exact execDomainOpened_kept d s
  | sensorReading s0 eighths => exact execSensorReading_kept s0 eighths s
  | throttleUpdate => exact execThrottleUpdate_kept s
  | thermalTrip s0 => exact execThermalTrip_kept s0 s
  | tripShutdown => exact execTripShutdown_kept s
  | sensorsFaultyTrip => exact execSensorsFaultyTrip_kept s
  | ageingSweep shifts => exact execAgeingSweep_kept shifts s
  | sweep v => exact execSweep_kept v s
  | summarySave ok => exact execSummarySave_kept ok s
  | pmbusTransaction tx => exact execPmbusTransaction_kept tx s
  | pmbAlert word => exact execPmbAlert_kept word s
  | pmbusRetry ok => exact execPmbusRetry_kept ok s
  | winAddr v pec => exact execWinAddr_kept v pec s
  | winWdata v pec => exact execWinWdata_kept v pec s
  | winRdata => exact execWinRdata_kept s
  | twpStat => exact execTwpStat_kept s
  | id => exact execId_kept s
  | spiWrite word data => exact execSpiWrite_kept word data s
  | spiRead word => exact execSpiRead_kept word s
  | spiStatus => exact execSpiStatus_kept s
  | spiId => exact execSpiId_kept s
  | windowAccessComplete t status data => exact execWindowAccessComplete_kept t status data s
  | reset t v => exact execReset_kept t v s
  | reconfigure t v => exact execReconfigure_kept t v s
  | wake t v => exact execWake_kept t v s
  | alertClear t v => exact execAlertClear_kept t v s
  | alertResponse => exact execAlertResponse_kept s
  | smbusTimeout => exact execSmbusTimeout_kept s
  | fwAlert v => exact execFwAlert_kept v s
  | bypass => exact execBypass_kept s
  | idcode => exact execIdcode_kept s
  | samplePreload boundary => exact execSamplePreload_kept boundary s
  | extest => exact execExtest_kept s
  | extestPulse => exact execExtestPulse_kept s
  | extestTrain => exact execExtestTrain_kept s
  | highz => exact execHighz_kept s
  | clamp => exact execClamp_kept s
  | cfgIn bytes => exact execCfgIn_kept bytes s
  | fuseProg f data => exact (notFuse f data rfl).elim
  | logicClockEdge t => exact execLogicClockEdge_kept t s
  | sliceClockEdge sl cfg pins => exact execSliceClockEdge_kept sl cfg pins s
  | tapClockEdge region t => exact execTapClockEdge_kept region t s
  | trackGateEnable region track en => exact execTrackGateEnable_kept region track en s
  | thPllLockLost => exact execThPllLockLost_kept s
  | qpllLockLost q b => exact execQpllLockLost_kept q b s
  | signalReturn lane => exact execSignalReturn_kept lane s
  | prbsCheckerLock lane inverted relock => exact execPrbsCheckerLock_kept lane inverted relock s
  | aspmL1Entry sub => exact execAspmL1Entry_kept sub s
  | pcieCompletionTimeout n pos => exact execPcieCompletionTimeout_kept n pos s
  | powerLoss => exact execPowerLoss_kept s

/-- No command touches the waiting commands: only the step takes one away. -/
theorem exec_pending (i : Instr) (s t : State) (h : exec i s = .next t) : t.pending = s.pending := by
  by_cases hi : ∃ f d, i = .fuseProg f d
  · obtain ⟨f, d, rfl⟩ := hi
    exact (execFuseProg_rest f d s t h).1
  · have k := exec_kept i s (fun f d e => hi ⟨f, d, e⟩)
    exact congrArg Prod.fst (k t h)

end Sys2Proof.Machine
end

