-- ==== Sys2Proof/Laws/Memory.lean ====
section
/-! SUPPORT. The canonical form of every memory: reset has it, and each named operation on a memory keeps it. -/

namespace Sys2Proof.Machine

theorem Memory.wf_reset : Memory.wf State.reset = true := rfl

theorem Memory.wf_iff (s : State) : Memory.wf s = true ↔
    s.flash.wf flashDefault ∧ s.dram.wf dramDefault ∧ s.planes.wf frameDefault ∧ s.mem.words.wf wordDefault
      ∧ s.mem.spares.wf spareDefault ∧ s.cc.l2.wf s.l2Default := by
  simp only [Memory.wf, Bool.and_eq_true, and_assoc]

variable {s : State}

theorem Memory.wf_flashStore (h : Memory.wf s) (a : Nat) (bs : List Byte) : Memory.wf (s.flashStore a bs) := by
  rw [Memory.wf_iff] at *
  exact ⟨KMap.wf_setMany _ a bs h.1, h.2⟩

theorem Memory.wf_flashErase (h : Memory.wf s) (a n : Nat) : Memory.wf (s.flashErase a n) := by
  rw [Memory.wf_iff] at *
  exact ⟨KMap.wf_eraseRange _ a (a + n) h.1, h.2⟩

theorem Memory.wf_storeLine (h : Memory.wf s) (n l : Nat) (d : DramLine) : Memory.wf (s.storeLine n l d) := by
  rw [Memory.wf_iff] at *
  exact ⟨h.1, KMap.wf_set _ _ _ h.2.1, h.2.2⟩

theorem Memory.wf_loseLines (h : Memory.wf s) (n lo hi : Nat) : Memory.wf (s.loseLines n lo hi) := by
  rw [Memory.wf_iff] at *
  exact ⟨h.1, KMap.wf_eraseRange _ _ _ h.2.1, h.2.2⟩

theorem Memory.wf_setFrame (h : Memory.wf s) (plane : Bool) (a : Nat) (f : Frame) : Memory.wf (s.setFrame plane a f) := by
  rw [Memory.wf_iff] at *
  exact ⟨h.1, h.2.1, KMap.wf_set _ _ _ h.2.2.1, h.2.2.2⟩

theorem Memory.wf_setCell (h : Memory.wf s) (k w : Nat) (v : MemWord) : Memory.wf (s.setCell k w v) := by
  rw [Memory.wf_iff] at *
  exact ⟨h.1, h.2.1, h.2.2.1, KMap.wf_set _ _ _ h.2.2.2.1, h.2.2.2.2⟩

theorem Memory.wf_setSpare (h : Memory.wf s) (k : Nat) (v : BitVec 72) : Memory.wf (s.setSpare k v) := by
  rw [Memory.wf_iff] at *
  exact ⟨h.1, h.2.1, h.2.2.1, h.2.2.2.1, KMap.wf_set _ _ _ h.2.2.2.2.1, h.2.2.2.2.2⟩

theorem Memory.wf_clearValid (h : Memory.wf s) (m : MemRef) : Memory.wf (s.clearValid m) := by
  rw [Memory.wf_iff] at *
  exact ⟨h.1, h.2.1, h.2.2.1, KMap.wf_mapEntries _ _ h.2.2.2.1, h.2.2.2.2⟩

theorem Memory.wf_clearMemories (h : Memory.wf s) : Memory.wf s.clearMemories := by
  rw [Memory.wf_iff] at *
  exact ⟨h.1, h.2.1, h.2.2.1, rfl, KMap.wf_filter _ _ h.2.2.2.2.1, h.2.2.2.2.2⟩

/-- A write of the L2's memory ways keeps the form of what it writes. -/
theorem Memory.wf_l2Write (h : Memory.wf s) (p : Packet) : Memory.wf (s.l2Write p) := by
  rw [Memory.wf_iff] at *
  refine ⟨h.1, h.2.1, h.2.2.1, h.2.2.2.1, h.2.2.2.2.1, ?_⟩
  have key : ∀ (l : List Nat) (f : KMap Byte → Nat → KMap Byte) (m : KMap Byte),
      (∀ m k, m.wf s.l2Default → (f m k).wf s.l2Default) → m.wf s.l2Default → (l.foldl f m).wf s.l2Default := by
    intro l f
    induction l with
    | nil => exact fun m _ w => w
    | cons k l ih => exact fun m hf w => ih _ hf (hf m k w)
  refine key _ _ _ (fun m k w => ?_) h.2.2.2.2.2
  split
  · exact KMap.wf_set _ _ _ w
  · exact w

end Sys2Proof.Machine
end

