-- ==== Sys2Proof/Tests/Slice0.lean ====
section
/-! SUPPORT. The model's own tests: ill-formed commands that WellFormed refuses, a witness for the hypotheses of each
statement's clauses, and results that the spec gives in its examples. -/

namespace Sys2Proof.Tests

open Machine Reg

-- One theorem after another: each kernel evaluation holds a thread of its own.
set_option Elab.async false

/-- The state after reset with some fields stored. -/
def st (fs : List (Field × Nat)) : State := fs.foldl (fun s e => s.put e.1 e.2) State.reset

/-- Whether a command answers a next state with a property. -/
def after (o : Out) (p : State → Bool) : Bool :=
  match o with
  | .next t => p t
  | .fault _ => false
  | .refused _ => false

/-! ### Witnesses: the machine, registers, resets, power -/

theorem test_witness_StepRunsTheFrontCommand :
    (let s := { State.reset with pending := [.powerLoss, .idcode] }; s.pending = .powerLoss :: [.idcode])
    ∧ State.reset.pending = [] ∧ State.reset.th.running = false
    ∧ (let s := { State.reset with th := { running := true } }
       s.pending = [] ∧ s.th.running = true ∧ s.th.slew = 0
       ∧ after (step s) (fun t => decide (t.th.time = 40960)) = true) := by decide +kernel

theorem test_witness_WellFormedQueuesNeverStop :
    (let s := { State.reset with pending := [.powerLoss, .idcode] }
     s.queueFits = true ∧ after (step s) (fun t => decide (t.pending = [.idcode])) = true)
    ∧ after (step { State.reset with pending := [.fuseProg .reqSig 1] }) (fun _ => true) = true := by decide +kernel

theorem test_witness_ProgrammedMarks : State.reset.fuses.marksKeys := by
  unfold Fuses.marksKeys
  decide +kernel

theorem test_witness_StoresReadBack :
    (let f := PCI_LINK.width; let g := PCI_LINK.rate
     f.hi < 32 ∧ g.hi < 32 ∧ (g.off ≠ f.off ∨ g.hi < f.lo ∨ f.hi < g.lo))
    ∧ (let d : Nat → Byte := fun _ => 0; let m : KMap Byte := [(3, 7)]
       (m.wf d = true ∧ (m.set d 3 0) = [] ∧ 0 < [(1 : Byte)].length ∧ (2 < 3 ∨ 3 + 1 ≤ 2))) := by decide +kernel

theorem test_witness_Raising :
    (31 < 32 ∧ pageDMC 7 % 4096 = 0 ∧ pageDMC 7 ≠ pageFLT ∧ pageDMC 7 ≠ pageCFG ∧ pageDMC 7 ≠ pageSCB)
    ∧ State.reset.flt.intake.length < 64
    ∧ 64 ≤ ({ State.reset with flt := { intake := List.replicate 64 0 } }).flt.intake.length
    ∧ State.reset.stamp.2 = true ∧ (st [(TH_STATUS.state, 1)]).stamp.2 = false := by decide +kernel

theorem test_witness_WritesFollowTheAccessCodes :
    let fs := fieldsAt (XCV_LN_MAINT.off 0)
    (∀ f ∈ fs, f.lo ≤ f.hi ∧ f.hi < 32) ∧ fs.Pairwise (fun f g => f.hi < g.lo ∨ g.hi < f.lo)
    ∧ (∃ f ∈ fs, f.clamp = none ∧ f.acc = .rw) ∧ (∃ f ∈ fs, f.clamp = none ∧ f.acc = .ro)
    ∧ (∃ f ∈ fieldsAt PAIR_CTRL.off, f.clamp = none ∧ f.acc = .rwl)
    ∧ (∀ f ∈ fs, 0 < f.lo ∨ f.hi < 0) := by decide +kernel

theorem test_witness_RegisterCommands :
    (pageXCV 11 + 0x20) % 4 = 0 ∧ pageXCV 11 ∉ [CLK_AON_TIME.off 0, TH_TIME.off 0, FLT_ENT.off 0]
    ∧ ((3 : Fin 5) ≠ 4 ∨ pageDMC 0 % 4 ≠ 0)
    ∧ ([pageXCV 11, pageFLT, pagePWR].all fun o => match locate (4096 * (o / 4096)) with
        | some (p, _, 0) => p.header
        | _ => false) = true := by decide +kernel

/-- All ten supplies in range, after the always-on supply. -/
def powered (fs : List (Field × Nat)) : State :=
  { (st ((PWR_SUP_STAT.ok, 1023) :: fs)) with pwr := { vaon := true, tv := true } }

theorem test_witness_PowerAndDomain :
    State.reset.pwr.vaon = false
    ∧ (State.reset.pins.perst = false ∧ State.reset.pins.por = false ∧ (powered []).pwr.vaon = true)
    ∧ (let s := { State.reset with pwr := { vaon := true } }
       s.pwr.tv = false ∧ (((st [(PWR_SUP_STAT.ok, 511)]).put (supplyBit 10) 1).allSupplies = true))
    ∧ ((powered []).pwr.tv = true ∧ (10 : Fin 11).val ≠ 0)
    ∧ (({ powered [] with pwr := { supply := true } } : State).allSupplies = true)
    ∧ (0x010 ∈ allDoms ∧ 0x130 ∈ allDoms ∧ bit (0x80000000 : Word) 31 = true ∧ bit (0x80000000 : Word) 30 = false
        ∧ State.reset.get (PWR_DOM.state 0x010) = 0 ∧ State.reset.fullLoading = false
        ∧ (powered []).closeRefusal 0x110 = none ∧ (powered []).closeRefusal 0x000 = some 1
        ∧ (powered []).closeRefusal 0x010 = some 2)
    ∧ ((st [(PWR_DOM.state 0x010, 2)]).get (PWR_DOM.state 0x010) = 2)
    ∧ ((st [(PWR_DOM.state 0x010, 3)]).get (PWR_DOM.state 0x010) = 3) := by decide +kernel

/-- R496 and R497, on the domain of DRAM controller 0. -/
theorem test_domain_closes_and_powers_off :
    after (exec (.domainClose 0x110 0x80000000) (powered [])) (fun t =>
      decide (t.get (PWR_DOM.answer 0x110) = 1 ∧ t.get (PWR_DOM.state 0x110) = 1 ∧ t.closeDone 0x110 = true)
        && after (exec (.domainPowerOff 0x110) t) fun u => decide (u.get (PWR_DOM.state 0x110) = 2)) = true := by
  decide +kernel

theorem test_witness_Resets :
    bit (0x80000000 : Word) 31 = true ∧ State.reset.is (STATUS.in_reset (blockPage .scb)) = false
    ∧ (st [(STATUS.in_reset (blockPage .se), 1)]).is (STATUS.in_reset (blockPage .se)) = true
    ∧ State.reset.cfg.flash = none
    ∧ (blockPorts (.xcv 0)).all (fun p => decide (State.reset.portState p ≠ 2)) = true := by decide +kernel

theorem test_witness_LimitsOfPowerAndVoltage :
    (15 < 16) ∧ autoRequest (some 700) false 700 = (700, false) ∧ autoRequest (some 703) false 700 = (703, true) ∧ autoRequest (some 703) true 700 = (701, true)
    ∧ autoRequest (some 702) false 700 = (702, false) ∧ clampMv 699 = 700 ∧ clampMv 851 = 850 := by decide +kernel

theorem test_witness_ThermalAndAgeing :
    (powered []).is (supplyBit 3) = true ∧ (19 : Fin 24).val ≠ 18
    ∧ after (exec (.sensorReading 23 (-440)) (powered [])) (fun t => decide (t.get (THM_SENS.fault 23) = 0)) = true
    ∧ after (exec (.sensorReading 23 1201) (powered [])) (fun t => decide (t.get (THM_SENS.fault 23) = 1)) = true
    ∧ State.reset.is (THM_SENS.fault 0) = false ∧ State.reset.pwr.trip = false
    ∧ (let s := st ((List.range 24).map fun n => (THM_SENS.fault n, 1))
       (List.range 24).all (fun n => s.is (THM_SENS.fault n)) = true ∧ s.pwr.trip = false)
    ∧ (({ State.reset with pwr := { trip := true } } : State).pwr.tripHeld = false)
    ∧ bit (0x80000000 : Word) 31 = true ∧ State.reset.age.stopped = false
    ∧ ({ State.reset with age := { stopped := true } } : State).age.stopped = true := by decide +kernel

/-- Both buses enabled, the window at register `w`. -/
def onBus (pec : Nat) (w : Word) : State :=
  (powered [(TWP_CFG.smb_en, 1), (TWP_CFG.spi_en, 1), (TWP_CFG.pec_req, pec)]).setWin .smbus
    { (State.reset.win .smbus) with word := w }

theorem test_witness_Towpath :
    ((onBus 1 0).is TWP_CFG.smb_en = true ∧ (onBus 1 0).is TWP_CFG.pec_req = true ∧ some false ≠ some true)
    ∧ (onBus 0 0).is TWP_CFG.pec_req = false ∧ (onBus 0 0).is TWP_CFG.spi_en = true
    ∧ bit (0x40000000 : Word) 30 = true ∧ bit ((onBus 0 0x80000000).win .smbus).word 31 = true
    ∧ ((onBus 0 0).win .smbus).reading = false
    ∧ (let s := (onBus 0 0).setWin .spi { pending := some (.read 4) }
       (s.win .spi).pending = some (.read 4) ∧ (7 : BitVec 4).toNat < 8 ∧ directPage 0x10000 = false)
    ∧ (onBus 0 0).transportOn .smbus = true ∧ (onBus 0 0).transportOn .spi = true
    ∧ State.reset.held = true ∧ (onBus 0 0).held = false
    ∧ (({ onBus 0 0 with pins := { perst := true } } : State).pins.perst = true) ∧ State.reset.pins.perst = false
    ∧ ((onBus 0 0).setWord TWP_ALERT_SRC.off 1).alertLow = true
    ∧ bit (1 : Word) 0 = true := by decide +kernel

theorem test_witness_Jtag :
    (powered []).jtagOn = true ∧ State.reset.jtagOn = false ∧ (powered []).jtag.held = false := by decide +kernel

theorem test_witness_FaultLog :
    (State.reset.flt.intake.length < 64)
    ∧ 64 ≤ ({ State.reset with flt := { intake := List.replicate 64 0 } } : State).flt.intake.length
    ∧ (let s := { State.reset with flt := { intake := [7] } }; s.flt.intake = 7 :: [] ∧ s.flt.dropped = 0)
    ∧ (let s := { st [(FLT_STAT.state, 2)] with flt := { backlog := [⟨none, 7⟩] } }
       s.get FLT_STAT.state = 2 ∧ s.flt.backlog ≠ [] ∧ s.flt.flushing = 0)
    ∧ ((st [(PAGE_LOCK.lock pageFLT, 1)]).locked pageFLT = true ∧ bit (0x80000000 : Word) 31 = true)
    ∧ (let s := st [(FLT_AREA_PAGES.v, 4), (FLT_CTRL.log_en, 0)]
       s.locked pageFLT = false ∧ bit (0x40000000 : Word) 31 = false ∧ bit (0x40000000 : Word) 30 = true
        ∧ s.is FLT_CTRL.log_en = false ∧ s.cfg.goldenEnd = none ∧ 4 ≤ s.get FLT_AREA_PAGES.v)
    ∧ (let s := { State.reset with flt := { flushing := 1, backlog := [⟨none, 7⟩], cur := some 0, slot := 125 } }
       s.flt.flushing ≠ 0 ∧ 0 < s.flt.flushing ∧ s.flt.flushing ≤ s.flt.backlog.length ∧ s.flt.cur.isSome = true
        ∧ s.flt.slot + s.flt.flushing + 1 ≤ 127)
    ∧ (let s := { st [(FLT_STAT.state, 2), (FLT_AREA_PAGES.v, 4)] with flt := { cur := some 3 } }
       s.get FLT_STAT.state = 2 ∧ s.pageDue ≠ none ∧ (s.logPage 0).erases < 100000)
    ∧ ((st [(FLT_STAT.state, 1)]).get FLT_STAT.state = 1)
    ∧ (State.reset.is FLT_STAT.pfw = false ∧ State.reset.cfg.flash = none ∧ State.reset.pageDue = none)
    ∧ ((st [(FLT_STAT.pfw, 1)]).is FLT_STAT.pfw = true ∧ State.reset.flt.keptOut = 0) := by decide +kernel

theorem test_witness_Clocks :
    (State.reset.get CLK_SRC_STAT.osc_ready = 0 ∧ (State.reset.mon .osc).lost = false ∧ State.reset.clk.aonStart = none
        ∧ State.reset.get CLK_SRC_STAT.xtal_ready = 0 ∧ (State.reset.mon .xtal).lost = false
        ∧ State.reset.get CLK_SRC_STAT.ref_ready = 0 ∧ (State.reset.mon .ref).lost = false)
    ∧ (let s := st [(CLK_SRC_STAT.xtal_ready, 1), (CLK_SRC_STAT.ref_ready, 1)]
       s.get CLK_SRC_STAT.root_ready = 0 ∧ s.rootRefReady (s.get CLK_SEL.root_ref) = true ∧ s.get CLK_SW_STAT.root ≠ 2)
    ∧ (let s := st [(CLK_SRC_STAT.xtal_ready, 1), (CLK_SRC_STAT.ref_ready, 1), (TH_CTRL.enable, 1)]
       s.get CLK_SRC_STAT.thpll_ready = 0 ∧ s.is TH_CTRL.enable = true ∧ s.clk.thTo = none ∧ s.thRefReady = true)
    ∧ ((st [(CLK_SRC_STAT.thpll_ready, 1)]).is CLK_SRC_STAT.thpll_ready = true
        ∧ (st [(CLK_SRC_STAT.thpll_ready, 1)]).is (srcReady .thpll) = true)
    ∧ (let s := { State.reset with clk := { searching := true } }; s.clk.searching = true)
    ∧ (let s := { st [(CLK_TRIM_STAT.source, 1)] with clk := { trimCode := 0xFFE } }
       s.clk.searching = false ∧ s.get CLK_TRIM_STAT.source ≠ 0 ∧ s.is CLK_MON_STAT.disagree = false
        ∧ s.clk.trimCode ≠ 0xFFF)
    ∧ State.reset.get CLK_SEL.root_ref ≠ 3
    ∧ (let s := { st [(CLK_SW_STAT.cfg, 2), (CLK_SW_STAT.aon, 2), (CLK_SW_STAT.root, 2)] with
        clk := { cfgTo := some true, aonTo := some true, rootTo := some 1 } }
       s.clk.cfgTo = some true ∧ s.get CLK_SW_STAT.cfg = 2 ∧ s.clk.aonTo = some true ∧ s.get CLK_SW_STAT.aon = 2
        ∧ s.clk.rootTo = some 1 ∧ s.get CLK_SW_STAT.root = 2)
    ∧ (let s := st [(CLK_SRC_STAT.xtal_ready, 1), (CLK_SRC_STAT.ref_ready, 1), (CLK_SRC_STAT.root_ready, 1)]
       s.is CLK_SRC_STAT.root_ready = true ∧ s.rootRefReady (s.get CLK_SEL.root_ref) = true) := by decide +kernel

theorem test_witness_TilePlls :
    (bit (0x80000000 : Word) 31 = true ∧ bit (0x80000000 : Word) 30 = false
        ∧ (State.reset.write (CMT_CTRL.off 39 1) 0x80000000).pllNone 39 1 = false)
    ∧ ((State.reset.write (CMT_CTRL.off 39 1) 0x80000000).pllInRange 39 1 1 0 = false)
    ∧ (((st [(CMT_DIV.d 0 0, 1), (CMT_DIV.m 0 0, 20)]).write (CMT_CTRL.off 0 0) 0x80000000).pllInRange 0 0 100000 0 = true)
    ∧ (bit (0x40000000 : Word) 31 = false ∧ bit (0x40000000 : Word) 30 = true)
    ∧ (let s := State.reset.setPll 39 1 { State.reset.pll 39 1 with loaded := [1] }
       (s.pll 39 1).loaded ≠ [] ∧ s.is (CMT_STAT.locked 39 1) = false ∧ s.pllNone 39 1 = false
        ∧ (s.pll 39 1).busy = none)
    ∧ ((State.reset.setPll 39 1 { State.reset.pll 39 1 with busy := some (-64) }).pll 39 1).busy = some (-64)
    ∧ (st [(CMT_STAT.locked 39 1, 1)]).is (CMT_STAT.locked 39 1) = true := by decide +kernel

theorem test_witness_HubTime :
    (let u := State.reset.write TH_CTRL.off 3
     bit (3 : Word) 20 = false ∧ bit (3 : Word) 17 = false ∧ State.reset.is TH_CTRL.enable = false
      ∧ u.is TH_CTRL.enable = true ∧ u.is TH_CTRL.role = true)
    ∧ (let s := st [(TH_CTRL.enable, 1), (TH_CTRL.role, 1)]; let v := s.word TH_CTRL.off ||| 0x20000
       let u := s.write TH_CTRL.off v
       bit v 20 = false ∧ bit v 17 = true ∧ s.is TH_CTRL.enable = true ∧ u.is TH_CTRL.enable = true
        ∧ s.is TH_CTRL.role = true ∧ u.is TH_CTRL.role = true ∧ u.th.loadWait = false)
    ∧ (let s := { State.reset with th := { loadWait := true } }; s.th.loadWait = true)
    ∧ (let s := st [(TH_CTRL.enable, 1), (TH_STATUS.step_pending, 1)]; let v := s.word TH_CTRL.off ||| 0x100000
       let u := s.write TH_CTRL.off v
       bit v 20 = true ∧ bit v 17 = false ∧ s.is TH_CTRL.enable = true ∧ u.is TH_CTRL.enable = true
        ∧ s.is TH_CTRL.role = u.is TH_CTRL.role ∧ u.is TH_STATUS.step_pending = true)
    ∧ (let s := { st [(TH_TL_CFG.role 0, 2), (TH_TL_STAT.link 0, 2), (TH_CTRL.enable, 1), (TH_STATUS.state, 3)] with
        th := { avgN := 16384, rejoin := some (256, 256 * 65536000) } }
       s.th.avgDone = false ∧ s.th.avgN = 16384 ∧ s.laneActive s.upLane = true ∧ s.get TH_STATUS.state = 3
        ∧ ((256 * 65536000 : Int) / 256).natAbs ≤ 65536000)
    ∧ (State.reset.is TH_CTRL.enable && State.reset.is TH_CTRL.role && State.reset.is TH_CTRL.ptm_steer) = false
    ∧ (st [(TH_STATUS.ptm_valid, 1)]).is TH_STATUS.ptm_valid = true := by decide +kernel

/-- R133: HOLDOVER's limit of 1 ms is 1,600,000 cycles, after which the time is INVALID. -/
theorem test_holdover_limit_makes_the_time_invalid :
    after (exec .holdoverLimitReached (st [(TH_STATUS.state, 3), (TH_HOLD_CFG.limit_ms, 1)]))
      (fun t => decide (t.get TH_STATUS.state = 0 ∧ t.now = 1600000)) = true := by decide +kernel

/-! ### Witnesses: the Timing Hub -/

theorem test_witness_TimingLanes :
    (let s := st [(TH_TL_CFG.role 3, 2)]
     s.get (TH_TL_CFG.role 3) ≠ 0 ∧ (s.write (TH_TL_CFG.off 3) 0).get (TH_TL_CFG.role 3) = 0
      ∧ (s.tl 3).stalled = false ∧ s.laneActive 3 = false)
    ∧ (∀ n < 4, State.reset.get (TH_TL_CFG.role n) = 0) ∧ ¬ (∀ n < 4, (st [(TH_TL_CFG.role 3, 2)]).get (TH_TL_CFG.role n) = 0)
    ∧ (let s := st [(TH_TL_CFG.role 0, 1), (TH_CTRL.enable, 1)]
       s.is TH_CTRL.enable = true ∧ s.get (TH_TL_CFG.role 0) ≠ 0 ∧ (s.tl 0).stalled = false ∧ (s.tl 0).locked = false
        ∧ s.get (TH_TL_STAT.link 0) = 0)
    ∧ (let s := (st [(TH_TL_CFG.role 0, 1), (TH_CTRL.enable, 1), (TH_TL_STAT.link 0, 2)]).setTl 0 { locked := true }
       (s.tl 0).locked = true ∧ s.get (TH_TL_STAT.reason 0) < 5 ∧ s.get (TH_TL_STAT.link 0) ≠ 3
        ∧ s.is TH_CTRL.enable = true ∧ s.laneActive 0 = true ∧ (1 : BitVec 64) ≠ 0 ∧ s.is (TH_TL_CFG.repeatMsgs 0) = false)
    ∧ (let s := (st [(TH_TL_STAT.link 0, 3), (TH_TL_STAT.reason 0, 6)]).setTl 0 { locked := true }
       s.get (TH_TL_STAT.link 0) = 3 ∧ (s.tl 0).locked = true ∧ s.get (TH_TL_STAT.reason 0) ∈ [5, 6])
    ∧ msgCrc 1 ≠ bitsN 1 63 56 ∧ (let m := trigMessage 4095 (2 ^ 80 - 256); msgCrc m.toNat = bitsN m.toNat 63 56)
    ∧ bit (0x80000000 : Word) 31 = true := by decide +kernel

/-- A frame whose blocks are zero but for its last. -/
def okFrame (v : BitVec 64) : List (BitVec 64) := List.replicate 155 0 ++ [v]

theorem crc32Bits_lt (n : Nat) : ∀ c, c < 2 ^ 32 → crc32Bits c n < 2 ^ 32 := by
  induction n with
  | zero => exact fun c h => h
  | succ n ih =>
    intro c h
    refine ih _ ?_
    split
    · exact Nat.xor_lt_two_pow (by omega) (by decide)
    · omega

theorem crc32From_lt (bs : List Byte) : ∀ c, c < 2 ^ 32 → crc32From c bs < 2 ^ 32 := by
  induction bs with
  | nil => exact fun c h => h
  | cons b bs ih =>
    intro c h
    exact ih _ (crc32Bits_lt 8 _ (Nat.xor_lt_two_pow h (by have := b.isLt; omega)))

theorem crc32_lt (bs : List Byte) : crc32 bs < 2 ^ 32 :=
  Nat.xor_lt_two_pow (crc32From_lt bs _ (by decide)) (by decide)

theorem xtlCrc_okFrame (v : BitVec 64) : xtlCrc (okFrame v) = xtlCrc (okFrame 0) := by
  have h (v : BitVec 64) : ((okFrame v).drop 1).take 154 = List.replicate 154 0 := by
    simp [okFrame, List.drop_append, List.take_append]
  simp only [xtlCrc, h]

theorem blockOf_okFrame (v : BitVec 64) : blockOf (okFrame v) 155 = v.toNat := by
  simp [okFrame, blockOf]

/-- A frame of a timing lane that passes its CRC, and one that does not. -/
theorem test_witness_TimingLanes_frames : ∃ a b : List (BitVec 64), a.length = 156 ∧ b.length = 156
    ∧ xtlCrc a = blockOf a 155 % 2 ^ 32 ∧ xtlCrc b ≠ blockOf b 155 % 2 ^ 32 := by
  have hc : xtlCrc (okFrame 0) < 2 ^ 32 := crc32_lt _
  by_cases h0 : xtlCrc (okFrame 0) = 0
  · refine ⟨okFrame 0, okFrame 1, by simp [okFrame], by simp [okFrame], ?_, ?_⟩
    · rw [blockOf_okFrame, h0]; decide
    · rw [blockOf_okFrame, xtlCrc_okFrame, h0]; decide
  · refine ⟨okFrame (BitVec.ofNat 64 (xtlCrc (okFrame 0))), okFrame 0, by simp [okFrame], by simp [okFrame], ?_, ?_⟩
    · rw [blockOf_okFrame, xtlCrc_okFrame, BitVec.toNat_ofNat]; omega
    · rw [blockOf_okFrame]; exact h0

theorem test_witness_TimeAndTriggers :
    (let s := { st [(TH_STATUS.state, 2)] with th := { avgDone := true } }
     s.get TH_STATUS.state ≠ 0 ∧ s.th.firstDue = false ∧ s.th.rejoin = none ∧ s.is TH_STATUS.step_pending = false
      ∧ s.th.avgDone = true)
    ∧ (4095 < 4096 ∧ 2 ^ 51 - 256 < State.reset.timeNow + 2 ^ 51 ∧ (2 ^ 51 - 256) % 256 = 0
        ∧ (State.reset.messageTime (trigMessage 4095 (2 ^ 51 - 256))).toNat = 2 ^ 51 - 256)
    ∧ ([⟨1, 1, 0⟩, ⟨1, 2, 0⟩, ⟨5, 1, 0⟩] : List OutAct).Pairwise (fun x y => x.t ≤ y.t) := by decide +kernel

theorem test_witness_Inputs :
    (let s := st [(TH_IN_CFG.edge 23, 3), (TH_IN_CFG.filter_ns 23, 1)]
     s.th.running = false ∧ s.get (TH_IN_CFG.edge 23) = 3 ∧ (s.chan 23).inShort = false ∧ (s.chan 23).masked = false
      ∧ (s.chan 23).lastEdge = none ∧ s.get (TH_IN_CFG.filter_ns 23) * 65536 ≤ 65536 ∧ 262144 ≤ 5 * 65536)
    ∧ (let s := (st [(TH_STATUS.state, 1)]).setChan 0 { queue := List.replicate 63 ⟨0, true, false⟩ }
       s.timeValid = true ∧ (s.chan 0).queue.length < 64)
    ∧ (let s := State.reset.setChan 0 { queue := [⟨5, true, false⟩] }
       (s.chan 0).queue = ⟨5, true, false⟩ :: [] ∧ s.th.running = false)
    ∧ (let s := st [(TH_FEV_SEL.region 15, 239)]
       s.get (TH_FEV_SEL.region 15) < 240 ∧ s.domOpen (regionDom (s.get (TH_FEV_SEL.region 15))) = true)
    ∧ State.reset.domOpen (regionDom 239) = true := by decide +kernel

theorem test_witness_Outputs :
    (bit (0x80000000 : Word) 31 = true ∧ (4 : BitVec 3) ≠ 0 ∧ (4 : BitVec 3).toNat ≤ 4)
    ∧ (let a : OutAct := { t := 2621439, act := 4, width := 1 }; a.t.toNat < State.reset.timeNow + 2621440)
    ∧ (let a : OutAct := { t := 2621440, act := 4, width := 1 }
       let s := State.reset.setOut 23 { queue := List.replicate 16 a }
       s.timeNow + 2621440 ≤ a.t.toNat ∧ 16 ≤ (s.out 23).queue.length ∧ (State.reset.out 23).queue.length < 16)
    ∧ (let s := State.reset.setOut 27 { queue := [⟨5, 1, 0⟩], pulseEnd := some 9 }
       (s.out 27).queue = ⟨5, 1, 0⟩ :: [] ∧ s.standby = false ∧ (s.out 27).pulseEnd = some 9)
    ∧ (State.reset.newGrid 3 2621440).bad = true
    ∧ (let s := (st [(TH_SR_CTRL.mode 3, 1), (TH_SR_HIGH.v 3, 262144)]).setWord (TH_SR_PERIOD.off 3 0) 655360
       (s.newGrid 3 2621440).bad = false ∧ (s.newGrid 3 2621440).live = true
        ∧ (let g : SrGrid := { run := s.newGrid 3 2621440 }; g.fallAt = none ∧ g.nextRise ≠ none))
    ∧ (let s := State.reset.setGrid 3 { fallAt := some 9 }; (s.grid 3).fallAt = some 9 ∧ (s.grid 3).nextRise = none)
    := by decide +kernel

theorem test_witness_Sequencers :
    (State.reset.get (TH_SEQ_STAT.run 15) = 0 ∧ (st [(TH_SEQ_STAT.run 15, 1)]).get (TH_SEQ_STAT.run 15) = 1)
    ∧ (let s := (st [(TH_SEQ_STAT.run 15, 1)]).setSeq 15 { held := [⟨5, 63, true⟩], timer := some 9 }
       (s.seqSt 15).held = ⟨5, 63, true⟩ :: [] ∧ s.th.running = false ∧ s.get (TH_SEQ_STAT.run 15) = 1
        ∧ (s.seqSt 15).last = none ∧ (s.seqSt 15).timer = some 9)
    ∧ (let s := (st [(TH_SEQ_STAT.run 15, 1)]).setWord (TH_SEQ_TABLE.off (4096 * 15 + 1)) 0xA8000000
       s.acts = true ∧ s.slotFor 15 40 true = some 0)
    ∧ (State.reset.acts = true ∧ (st [(TH_SEQ_STAT.run 15, 1)]).slotFor 15 63 true = none)
    ∧ (bit (0x20000000 : Word) 30 = false ∧ bit (0x20000000 : Word) 29 = true ∧ bit (0x20000000 : Word) 31 = false
        ∧ (State.reset.write (TH_SEQ_CTRL.off 15) 0x20000000).get (TH_SEQ_STAT.run 15) ≠ 1)
    ∧ (bit (0x40000000 : Word) 30 = true ∧ bit (0x40000000 : Word) 29 = false ∧ bit (0x40000000 : Word) 31 = false)
    ∧ (bit (0x80000000 : Word) 30 = false ∧ bit (0x80000000 : Word) 29 = false ∧ bit (0x80000000 : Word) 31 = true)
    := by decide +kernel

theorem test_witness_LineFaults :
    (let s := (st [(TH_IN_STAT.fault 15, 1), (TH_IN_CFG.max_retry 15, 2), (TH_IN_STAT.retries 15, 1)]).setChan 15
        { backoff := true, checking := true, checked := true }
     (s.chan 15).backoff = true ∧ s.get (TH_IN_STAT.fault 15) = 1 ∧ (s.chan 15).checking = true
      ∧ (s.chan 15).checked = true ∧ s.get (TH_IN_STAT.retries 15) < s.get (TH_IN_CFG.max_retry 15))
    ∧ State.reset.get (TH_IN_CFG.max_retry 23) ≤ (st [(TH_IN_STAT.retries 23, 15)]).get (TH_IN_STAT.retries 23)
    ∧ (st [(TH_IN_STAT.fault 15, 2)]).get (TH_IN_STAT.fault 15) = 2 ∧ (16 : Fin 24).val ≥ 16 ∧ (15 : Fin 24).val < 16
    ∧ (st [(TH_IN_STAT.fault 23, 3)]).get (TH_IN_STAT.fault 23) = 3
    ∧ (st [(TH_OUT_CFG.enable 23, 1)]).driverOn 23 = true
    ∧ (bit (0x40000000 : Word) 30 = true ∧ bit (0x40000000 : Word) 31 = false)
    ∧ (bit (0x80000000 : Word) 31 = true ∧ bit (0x80000000 : Word) 30 = false) := by decide +kernel

/-! ### Witnesses: memories, the fabric, configuration -/

/-- R83's worked check bytes, and a word whose two bits are inverted. -/
theorem test_check_bytes :
    wordCheck (coded 1) = 0x07 ∧ wordCheck (coded (2 ^ 63)) = 0x57
    ∧ decodeWord (coded 1 ^^^ BitVec.ofNat 72 1) = .corrected 0 1 := by decide +kernel

/-- A port at 72 bits with ECC, and a word written, narrowly written or read. -/
def port72 : PortCfg := { ecc := true, width := .w72, rdw := .keep, outReg := false }
def pinsOf (we : BitVec 8) (din : BitVec 72) : PortPins :=
  { addr := 511, we := we, din := din, oren := true, orclr := false, other := .none }
def memOf (deep : Bool) (r : Fin 240) (i : Fin 72) : MemRef := { deep := deep, region := r, inst := i }

theorem test_witness_MemoryPorts :
    (portFits (memOf false 239 71) true port72 (pinsOf 0xFF 1) = true ∧ portFits (memOf true 0 5) false port72 (pinsOf 1 1) = true)
    ∧ (st [(PWR_DOM.state (regionDom 239), 2)]).memActs (memOf false 239 71) = false
    ∧ State.reset.memActs (memOf true 0 5) = true ∧ State.reset.standby = false
    ∧ State.reset.is (RGN_MEM_ECC_INJ.arm 239) = false ∧ State.reset.remapOf (memOf false 239 71) 511 = none
    ∧ decodeWord (State.reset.cell (memKey (memOf false 239 71)) 511).cells = .good
    ∧ (let s := State.reset.setCell (memKey (memOf true 0 5)) 511 { cells := coded 5, valid := 7 }
       (s.cell (memKey (memOf true 0 5)) 511).valid = 7 ∧ decodeWord (s.cell (memKey (memOf true 0 5)) 511).cells = .good)
    ∧ decodeWord (coded 5 ^^^ 1) = .corrected 0 5 ∧ (∃ syn, decodeWord (coded 5 ^^^ 3) = .bad syn) := by
  refine ⟨by decide +kernel, by decide +kernel, by decide +kernel, by decide +kernel, by decide +kernel,
    by decide +kernel, by decide +kernel, by decide +kernel, by decide +kernel, ?_⟩
  have h : (match decodeWord (coded 5 ^^^ 3) with | .bad _ => true | .good => false | .corrected _ _ => false) = true := by
    decide +kernel
  revert h
  cases decodeWord (coded 5 ^^^ 3) with
  | bad syn => exact fun _ => ⟨syn, rfl⟩
  | good => exact fun h => by cases h
  | corrected b d => exact fun h => by cases h

theorem test_write_then_read :
    after (exec (.memoryPortWrite (memOf false 239 71) true port72 (pinsOf 0xFF 0x1234)) State.reset) (fun t =>
      after (exec (.memoryPortRead (memOf false 239 71) false port72 (pinsOf 0 0)) t) fun u =>
        decide (wordData (u.mem.ports.get memPortDefault (memPortKey (memOf false 239 71) false)).dout = 0x1234)) = true := by
  decide +kernel

theorem test_witness_MemoryMaintenance :
    (State.reset.memActs (memOf true 239 5) = true ∧ State.reset.standby = false)
    ∧ (bit (0x80000000 : Word) 31 = true ∧ bit (0 : Word) 31 = false)
    ∧ (let v : Word := 0x8000B1FF; let off := RMP.off (rmpBase false 239) 23
       let m := remapMem false 239 23 v
       State.reset.locked (pageBase off) = false ∧ bit (State.reset.word off) 30 = false
        ∧ bit (State.reset.word off) 31 = false ∧ bit v 31 = true ∧ bitsOf v 15 12 ≤ 11 ∧ bitsOf v 11 0 ≤ 511
        ∧ decodeWord (State.reset.cell (memKey m) (bitsOf v 11 0)).cells = .good)
    ∧ (let s := State.reset.setWord (remapOff (.dm 239 23)) 0x40000000
       (s.locked (pageBase (remapOff (.dm 239 23))) || bit (s.word (remapOff (.dm 239 23))) 30) = true)
    ∧ (let u := State.reset.write (RGN_MEM_BIST.off 239) 0x80000000
       u.memStall (bistRef 239 (u.is (RGN_MEM_BIST.kind 239)) (u.get (RGN_MEM_BIST.inst 239))) = none)
    ∧ (let s := { State.reset with mem := { bists := [(239, [(true, 5)])] } }
       s.mem.bists.get bistDefault 239 = (true, 5) :: [] ∧ memExists true 5 = true) := by decide +kernel

/-- No stall of the reset state waits for a release, and no word of a memory is remapped. -/
theorem test_witness_MemoryMaintenance_all :
    (∀ n, (State.reset.stall n).releaseWait = false) ∧ bit (State.reset.word (RMP.off (rmpBase false 239) 0)) 31 = false :=
  ⟨fun _ => rfl, by decide +kernel⟩

/-- One position of a logic block whose flip-flops take XA and XB. -/
def posXa : PosCfg := ⟨.whole, false, .xa, .xb, ⟨false, false, false⟩, ⟨true, true, false⟩⟩
def lbXa : LbCfg :=
  { pos := Vector.replicate 8 posXa, low := ⟨true, false, false, false⟩, high := ⟨false, false, false, false⟩
    cin := .zero, split := none, ramFalling := false }
def lbPins (xa : BitVec 8) : LbPins :=
  { ck1 := true, rising := true, i := Vector.replicate 8 0, xa := xa, xb := 0, en := 0, fs := 1, cyi := false }

theorem test_witness_FabricClockEdges :
    (LogicTarget.block 0 1199 lbXa (lbPins 0x0F)).fits = true
    ∧ State.reset.stallHeld (State.reset.stallAt 0 19) = false ∧ State.reset.placeOpen 0 19 = true
    ∧ (st [(PWR_DOM.state (regionDom 228), 2)]).placeOpen 0 19 = false
    ∧ after (exec (.logicClockEdge (.block 0 1199 lbXa (lbPins 0x0F))) State.reset) (fun t =>
        decide (t.ff 0 1199 0 = true ∧ t.ff 0 1199 6 = true ∧ t.ff 0 1199 1 = true)) = true
    ∧ (LogicTarget.laterals 0 true false true 0x3FFFF 0).fits = true
    ∧ State.reset.placeOpen 0 (lateralRow true false) = true := by decide +kernel

/-- A multiplying slice with every register. -/
def sliceOne (hard : Bool) : SliceCfg :=
  { mode := .one27, preSat := false, s1 := true, s2 := true, s3 := true, s4 := true, s5 := false, shift := 0
    round := .trunc, satw := 64, matchK := false, matchV := 0, ignore := 0, autoClear := false, ftz := false
    satOvf := false, bfp := none, hard := hard }

theorem test_witness_Slices :
    sliceFits ⟨239, 191⟩ (sliceOne true) = true ∧ sliceFits ⟨0, 0⟩ (sliceOne false) = true
    ∧ State.reset.sliceRuns ⟨239, 191⟩ = true
    ∧ (st [(PWR_DOM.state (regionDom 239), 2)]).sliceRuns ⟨239, 191⟩ = false := by decide +kernel

theorem test_witness_FabricArithmetic :
    (∀ q ∈ lbXa.pos.toList, q.genXa = false) ∧ lbXa.cin = .zero ∧ lbXa.split = none
    ∧ shiftHalfEven 5 1 = 2 ∧ shiftHalfEven 7 1 = 4 ∧ shiftHalfEven (-5) 1 = -2 := by decide +kernel

/-- The header of an unsigned full image with an empty system section and `n` stream bytes. -/
def fullHeader (n : Nat) (flags : BitVec 8) : ImageHeader :=
  { magic := 0x5A4E3949, deviceCode := BitVec.ofNat 32 (State.reset.get ⟨DEV_CODE.off, 31, 0⟩), version := 1, type := 0
    flags := flags, stall := 0xFF, flashMhz := 0, keySlots := 0, totalLen := BitVec.ofNat 64 (4608 + n), sysLen := 0
    svn := 0, streamLen := BitVec.ofNat 64 n, logicFrames := 1, contentFrames := 0, nonce := 0, sysHash := 0
    pubkey := 0, hdrSig := 0, zeros := true }

def loading (l : CfgLoad) : State := { State.reset with cfg := { load := some l } }

theorem test_witness_ConfigurationRequests :
    (let s := { State.reset with cfg := { progWait := true, bootDue := true } }
     s.cfg.progWait = true ∧ s.cfg.testRuns = false ∧ s.cfg.bootDue = true)
    ∧ (powered []).held = false
    ∧ (bit (0x80000000 : Word) 31 = true ∧ bit (0x80000000 : Word) 30 = false ∧ bit (0x40000000 : Word) 30 = true
        ∧ bit (0x20000000 : Word) 29 = true ∧ bit (0x10000000 : Word) 28 = true)
    ∧ (let u := State.reset.write CFG_CTRL.off 0x40000000
       u.cfg.load = none ∧ u.cfg.next = none ∧ u.cfg.progWait = false ∧ u.cfg.testBad = false ∧ u.cfg.testRuns = false
        ∧ u.askedLoad ≠ none)
    ∧ (loading { source := .host }).cfg.load = some { source := .host }
    ∧ (let s := { State.reset with cfg := { testRuns := true } }
       s.cfg.testRuns = true ∧ s.cfg.progWait = false ∧ s.cfg.next = none) := by decide +kernel

theorem test_witness_ConfigurationLoads :
    (let l : CfgLoad := { source := .host }; l.source = .host ∧ l.complete = false)
    ∧ (let l : CfgLoad := { source := .dram, limit := some 2 }
       l.limit = some 2 ∧ l.bytes.length + [(0 : Byte)].length < 2)
    ∧ State.reset.headerError .host (fullHeader 4 0) = none ∧ (fullHeader 4 0).signed = false
    ∧ State.reset.headerError .host { fullHeader 4 0 with magic := 0 } = some (0x0701, 0, 0)
    ∧ (fullHeader 4 2).signed = true ∧ (fullHeader 4 1).encrypted = true
    ∧ (loading { source := .host, phase := .clearing }).allOpen = true
    ∧ sysAddrBad 0x1000000 = true ∧ sysAddrBad (pageFLT + 4) = true ∧ sysAddrBad (pageXCV 0 + 0x20) = false
    ∧ (let h := { fullHeader (2 ^ 24 + 32) 1 with sysLen := 16 }
       let l : CfgLoad := { source := .host, phase := .stream, header := some h, segs := 2 }
       l.begun = true ∧ 0 < l.segs ∧ l.segs ≤ h.segments ∧ 4096 + h.sysLen.toNat + (l.segs - 1) * (2 ^ 24 + 16) + 16
          ≤ h.trailerAt)
    ∧ (∀ k < 80, (State.reset.pll (k / 2) (k % 2)).relocking = false) ∧ State.reset.cfg.testWait = false := by
  decide +kernel

/-- Zero bytes, and a load in its stream whose bytes are one command word and zeros. -/
def zeros (n : Nat) : List Byte := List.replicate n 0

theorem zeros_length (n : Nat) : (zeros n).length = n := List.length_replicate

theorem zeros_getD (n i : Nat) : (zeros n).getD i 0 = 0 := by
  rw [zeros, List.getD_eq_getElem?_getD, List.getElem?_replicate]
  split <;> rfl

def streaming (o n : Nat) (far : Option Nat) : CfgLoad :=
  { source := .host, phase := .stream, header := some (fullHeader 524 0), far := far
    bytes := zeros 4096 ++ (toBytes (o * 2 ^ 24 + n) 4 ++ zeros 520) }

theorem streaming_byte (o n : Nat) (far : Option Nat) (p : Nat) :
    (loading (streaming o n far)).streamByte (streaming o n far) (fullHeader 524 0) p
      = (toBytes (o * 2 ^ 24 + n) 4 ++ zeros 520).getD p 0 := by
  have e : (fullHeader 524 0).encrypted = false := by decide +kernel
  have e2 : (fullHeader 524 0).sysLen.toNat = 0 := by decide +kernel
  simp only [State.streamByte, ImageHeader.streamAt, e, e2, streaming, Bool.false_eq_true, if_false]
  rw [List.getD_eq_getElem?_getD, List.getElem?_append_right (by rw [zeros_length]; omega), zeros_length,
    ← List.getD_eq_getElem?_getD]
  exact (fun a (h : a = p) => h ▸ rfl :
    ∀ a, a = p → (toBytes (o * 2 ^ 24 + n) 4 ++ zeros 520).getD a 0 = (toBytes (o * 2 ^ 24 + n) 4 ++ zeros 520).getD p 0)
    _ (by omega)

theorem ofBytes_zeros (k : Nat) : ofBytes (zeros k) = 0 := by
  induction k with
  | zero => rfl
  | succ k ih => simpa [zeros, List.replicate_succ, ofBytes] using ih

/-- What stands behind the command word reads as zero. -/
theorem streaming_operands (o n : Nat) (far : Option Nat) (p k : Nat) (hp : 4 ≤ p) :
    (loading (streaming o n far)).streamNum (streaming o n far) (fullHeader 524 0) p k = 0 := by
  have h4 : (toBytes (o * 2 ^ 24 + n) 4).length = 4 := by simp [toBytes]
  have : (List.range k).map (fun i => (loading (streaming o n far)).streamByte (streaming o n far)
      (fullHeader 524 0) (p + i)) = zeros k := by
    rw [zeros, List.eq_replicate_iff]
    refine ⟨by simp, fun b hb => ?_⟩
    obtain ⟨i, -, rfl⟩ := List.mem_map.mp hb
    rw [streaming_byte, List.getD_eq_getElem?_getD, List.getElem?_append_right (by rw [h4]; omega),
      ← List.getD_eq_getElem?_getD]
    exact zeros_getD _ _
  rw [State.streamNum, this, ofBytes_zeros]

/-- The command word itself. -/
theorem streaming_word (o n : Nat) (far : Option Nat) (h : o * 2 ^ 24 + n < 2 ^ 32) :
    (loading (streaming o n far)).streamNum (streaming o n far) (fullHeader 524 0) 0 4 = o * 2 ^ 24 + n := by
  have : (List.range 4).map (fun i => (loading (streaming o n far)).streamByte (streaming o n far)
      (fullHeader 524 0) (0 + i)) = toBytes (o * 2 ^ 24 + n) 4 := by
    simp only [streaming_byte]
    rfl
  rw [State.streamNum, this]
  simp [ofBytes, toBytes]
  omega

/-- Every command of the stream has its word, its operands and, for a frame, a good one. -/
theorem test_witness_StreamCommands :
    (∀ o n, o * 2 ^ 24 + n < 2 ^ 32 → ∀ far,
      let l := streaming o n far
      (loading l).cfg.load = some l ∧ l.header = some (fullHeader 524 0) ∧ l.phase = .stream ∧ l.op = none
        ∧ (loading l).streamNum l (fullHeader 524 0) l.pos 4 = o * 2 ^ 24 + n
        ∧ (loading l).streamNum l (fullHeader 524 0) (l.pos + 4) 512 = 0)
    ∧ (let l := streaming 2 1 (some 0); let h := fullHeader 524 0
       l.pos + 516 ≤ h.plainLen ∧ l.has h (l.pos + 4) = true ∧ l.has h (l.pos + 516) = true ∧ l.has h (l.pos + 520) = true
        ∧ (loading l).addrError l h 0 = none
        ∧ faType 0 = 0 ∧ faCol 0 < 1164 ∧ h.partial_ = false ∧ frameGood 0 = true ∧ frameExists 0 = true
        ∧ h.trailerAt ≤ l.bytes.length ∧ sysAddrBad 0 = false ∧ frameGood 1 = false)
    ∧ commandBad (streaming 8 0 none) (fullHeader 524 0) 8 0 = true
    ∧ (loading (streaming 1 0 none)).addrError (streaming 1 0 none) (fullHeader 524 0) 0xFFFFFFFF = some 0x070B := by
  refine ⟨fun o n h far => ⟨rfl, rfl, rfl, rfl, streaming_word o n far h, streaming_operands o n far 4 512 (by omega)⟩, ?_⟩
  decide +kernel

theorem test_witness_Flash :
    (let u := State.reset.write CFG_FLASH_CMD.off 0x80000000
     bit (0x80000000 : Word) 31 = true ∧ u.cfg.flash = none ∧ u.flashLoading = false ∧ u.is FLT_STAT.pfw = false
      ∧ u.get CFG_FLASH_CMD.op = 0)
    ∧ (let u := (st [(CFG_FLASH_ADDR.v, 0xFFFF)]).write CFG_FLASH_CMD.off 0x81000000
       u.get CFG_FLASH_ADDR.v < u.protectedEnd ∧ u.is CFG_FLASH_CTRL.golden_unlock = false)
    ∧ (let u := st [(CFG_FLASH_ADDR.v, 0x10000)]; u.protectedEnd ≤ 0x10000 - 0x10000 % 65536)
    ∧ (let s := { State.reset with cfg := { flash := some ⟨1, 0x10000, 2⟩ } }
       s.cfg.flash = some ⟨1, 0x10000, 2⟩ ∧ [(1 : Byte), 2].length = 2) := by decide +kernel

/-- R210: a program clears bits and sets none. -/
theorem test_flash_program_clears_bits :
    after (exec (.flashCmdComplete true [0x0F, 0xF0]) { State.reset with
        flash := [(0x10000, 0x3C)], cfg := { flash := some ⟨1, 0x10000, 2⟩ } })
      (fun t => decide (t.flashAt 0x10000 = 0x0C ∧ t.flashAt 0x10001 = 0xF0 ∧ t.get CFG_FLASH_CMD.result = 1)) = true := by
  decide +kernel

/-- The first 4,096 bytes of an image with that header, from R212's table. -/
def headerBytes (h : ImageHeader) : List Byte :=
  toBytes h.magic.toNat 4 ++ (toBytes h.deviceCode.toNat 4 ++ ([1, 0, 0, 0, 0xFF, 0, 0, 0] ++ (toBytes h.totalLen.toNat 8
    ++ (zeros 8 ++ (toBytes h.streamLen.toNat 8 ++ ([1, 0, 0, 0] ++ zeros 4052))))))

theorem test_witness_ConfigurationLoads_header :
    readHeader ((headerBytes (fullHeader 4 0)).take 4096) = fullHeader 4 0
    ∧ (headerBytes (fullHeader 4 0)).length = 4096 := by decide +kernel

/-- A trailer that follows any bytes and agrees with them. -/
theorem test_witness_ConfigurationLoads_trailer (pre : List Byte) :
    let t := toBytes 0x5A4E5452 4 ++ (toBytes (crc32 pre) 4 ++ zeros 504)
    ((pre ++ t).drop pre.length).take 512 = t ∧ (pre ++ t).take pre.length = pre ∧ numAt t 0 4 = 0x5A4E5452
      ∧ numAt t 4 4 = crc32 pre := by
  intro t
  have h4 (v : Nat) : (toBytes v 4).length = 4 := by simp [toBytes]
  have hl : t.length = 512 := by simp only [t, List.length_append, h4, zeros_length]
  have hb (v : Nat) (h : v < 2 ^ 32) : ofBytes (toBytes v 4) = v := by
    simp [ofBytes, toBytes]
    omega
  refine ⟨?_, by simp, ?_, ?_⟩
  · rw [List.drop_left, List.take_of_length_le (by omega)]
  · simp only [numAt, t, List.drop_zero]
    rw [List.take_append_of_le_length (by rw [h4]), List.take_of_length_le (by rw [h4])]
    exact hb _ (by decide)
  · simp only [numAt, t]
    rw [List.drop_append_of_le_length (by rw [h4]), List.drop_of_length_le (by rw [h4]), List.nil_append,
      List.take_append_of_le_length (by rw [h4]), List.take_of_length_le (by rw [h4])]
    exact hb _ (crc32_lt pre)

/-! ### Witnesses: stalls, the scrubber, the network -/

/-- Stall 63 with one rectangle and a state, and stall 62 with one. -/
def rectStall (other rect stat0 stat : Word) : State :=
  { State.reset with regs := ((List.range 62).map fun m => (STL_STAT.off m, 0x00400000)) ++ [(STL_RECT.off 62 0, other),
      (STL_STAT.off 62, stat0), (STL_RECT.off 63 0, rect), (STL_STAT.off 63, stat)] }

/-- Stall 63 in a state, with a swap under way. -/
def swapping (state : Nat) (w : Swap) (fs : List (Field × Nat)) : State :=
  (st ((STL_STAT.state 63, state) :: fs)).setStall 63 { swap := some w }

theorem test_witness_Stalls :
    (0x80000000 : Word).toNat / 2 ^ 23 = 256 ∧ (rectStall 0xFFFFFFFF 0 0x00400000 0).defineRefusal 63 = none
    ∧ (rectStall 0xFFFFFFFF 0x400 0x00400000 0).defineRefusal 63 = some 1
    ∧ (rectStall 0xFFFFFFFF 0 0x00400000 0x10000000).defineRefusal 63 = some 6
    ∧ (rectStall 0x00A00000 0 0x10400000 0).defineRefusal 63 = some 2
    ∧ (rectStall 0x00A00000 0 0x10400000 0).rectsMeet 63 0 62 0 = true
    ∧ (let s := st [(STL_STAT.state 63, 1), (STL_STAT.shadow 63, 5)]
       s.stallState 63 = 1 ∧ s.get (STL_STAT.shadow 63) = 5 ∧ (s.stall 63).swap = none)
    ∧ (let s := st [(STL_STAT.state 63, 1), (STL_STAT.shadow 63, 3), (TH_STATUS.state, 1), (STL_DRAIN.lead_us 63, 1)]
       s.swapRefusal 63 false true = none ∧ s.swapRefusal 63 true true = none ∧ s.get (STL_STAT.shadow 63) = 3
        ∧ s.swapRefusal 63 true false = some 9)
    ∧ (let s := (st [(STL_STAT.state 63, 1), (STL_STAT.shadow 63, 3), (TH_STATUS.state, 1)]).putWide (STL_SWAP_T.off 63 0) 3
        (2 ^ 64)
       s.th.time.toNat + s.get (STL_DRAIN.lead_us 63) * 65536000 < s.swapTime 63)
    ∧ (let s := swapping 2 { timed := true, fromReset := false } []
       (s.stall 63).swap = some { timed := true, fromReset := false })
    ∧ ((st [(STL_STAT.state 63, 6)]).stallState 63 = 6 ∧ (st [(STL_STAT.state 63, 6)]).bistIn 63 = false
        ∧ (st [(STL_STAT.state 63, 7)]).stallState 63 = 7)
    ∧ (0x40000000 : Word).toNat / 2 ^ 23 = 128 ∧ (0x00800000 : Word).toNat / 2 ^ 23 = 1
    ∧ (0xC0000000 : Word).toNat / 2 ^ 23 = 384 := by decide +kernel

theorem test_witness_Swaps :
    (let s := swapping 2 { timed := true, fromReset := false } []; s.stallState 63 = 2)
    ∧ (let w : Swap := { timed := true, fromReset := false, drain := true }
       let s := swapping 3 w []
       (s.stall 63).swap = some w ∧ w.drain = true ∧ w.drained = false ∧ s.drainDone 63 = true
        ∧ s.is (STL_CFG.force_drain 63) = false ∧ s.is (STL_CFG.late_policy 63) = false
        ∧ (swapping 3 w [(STL_CFG.force_drain 63, 1)]).is (STL_CFG.force_drain 63) = true)
    ∧ (let w : Swap := { timed := false, fromReset := false, drain := true, drained := true, frozen := true }
       let s := swapping 4 w [(STL_STAT.shadow 63, 3)]
       (s.stall 63).swap = some w ∧ w.frozen = true ∧ w.flipped = false ∧ w.forced = false
        ∧ s.get (STL_STAT.shadow 63) ≠ 2)
    ∧ (let w : Swap := { timed := false, fromReset := true, drained := true, frozen := true, flipped := true, content := true }
       let s := swapping 5 w [(STL_CONT.v 63 3, 1), (STL_CFG.shadow_mode 63, 0)]
       (s.stall 63).swap = some w ∧ (s.stall 63).done < s.get (STL_CONT.v 63 3)
        ∧ s.contentError 63 0 0 false true = some 0x0712 ∧ s.contentError 63 0 0 true true = some 0x070B
        ∧ (swapping 5 w []).get (STL_CONT.v 63 3) ≤ ((swapping 5 w []).stall 63).done ∧ s.bistIn 63 = false
        ∧ s.is (STL_CFG.shadow_mode 63) = false ∧ w.lost = false ∧ w.late = false)
    ∧ (rectStall 0xFFFFFFFF 0x01602C00 0x00400000 0x50000000).contentError 63
        (BitVec.ofNat 32 (frameAddr 1 0 11 0 0)) 0 true true = none := by decide +kernel

theorem test_witness_Scrubber :
    (State.reset.scrub.repair = none ∧ State.reset.scrub.waiting = [] ∧ State.reset.is SCB_STAT.running = false)
    ∧ (let s := st [(SCB_STAT.running, 1), (SCB_CFG.mode, 2)]
       s.is SCB_STAT.running = true ∧ s.get SCB_CFG.mode ≠ 0 ∧ s.refilling = false
        ∧ nextFrame s.scrub.addr.toNat ≠ none ∧ s.frameStall 0 = none ∧ s.frameSkipped 0 none = false
        ∧ (∀ p, badMask (s.frame p 0) = 0 ∧ badMask (fixFrame (s.frame p 0)) = 0) ∧ s.get SCB_CFG.mode = 2)
    ∧ frameGood 0 = true
    ∧ (let r : Repair := { addr := 0, plane := true, stall := none, source := 2 }
       let s := { State.reset with scrub := { repair := some r } }
       s.scrub.repair = some r ∧ r.stall = none ∧ r.refill = false ∧ s.frameStall r.addr.toNat = none)
    ∧ (let s := (st [(STL_STAT.shadow 63, 4)]).setStall 63 { refill := some 0 }
       (s.stall 63).refill = some 0 ∧ s.get (STL_STAT.shadow 63) = 4 ∧ s.frameDynamic 0 (some 63) = false
        ∧ badMask (s.frame (s.activePlane (some 63)) 0) = 0) := by decide +kernel

/-- A read of the registers, a posted write to the host and a read of a quay. -/
def reqOf (op : ReqOp) (addr : Addr) (len : BitVec 8) (tag : BitVec 12) (data : List Line) : NocReq :=
  { op := op, addr := addr, len := len, cls := 1, key := 0, tag := tag, be := BitVec.allOnes 256, data := data }

theorem test_witness_NocRequests :
    (State.reset.portState (iniPort .cfg) = 0
      ∧ (State.reset.setPortState (iniPort .cfg) 1).portState (iniPort .cfg) ≠ 0)
    ∧ (let r := reqOf .rd (0x30000000010000 : Addr) 3 4095 []
       requestFits r = true ∧ State.reset.destPort (iniPort .cfg / 64) r.addr.toNat ≠ none ∧ r.op = .rd
        ∧ (State.reset.ini .cfg).out.length + (State.reset.ini .cfg).fences.length < 256
        ∧ (State.reset.ini .cfg).out = [] ∧ (State.reset.ini .cfg).dead = [] ∧ (State.reset.ini .cfg).fences = [])
    ∧ requestFits (reqOf .wrp (0x10000000000000 : Addr) 63 0 [0]) = true
    ∧ requestFits (reqOf .rd (0x300000000100FD : Addr) 3 0 []) = false
    ∧ State.reset.destPort 0 (0x50000000000000) = none
    ∧ (let s := State.reset.setIni .cfg { out := [⟨7, 0, 0, 0, 0⟩], written := [(3, 0)] }
       (∃ o ∈ (s.ini .cfg).out, o.tag = 7) ∧ (s.ini .cfg).written ≠ [])
    ∧ (State.reset.ini .cfg).written = [] ∧ opPosted .wrp = true ∧ opPosted .rd = false
    ∧ State.reset.portState (quayPort 119) = 0
    ∧ (State.reset.is (DMC_MAP.mode 0) = false ∧ (st [(DMC_MAP.mode 0, 1)]).is (DMC_MAP.mode 0) = true
        ∧ 8 * State.reset.dcapBytes 0 ≤ 2 ^ 42 - 1) := by decide +kernel

/-- A packet with a good header check, to a port. -/
def packetOf (opcode : BitVec 4) (vc : BitVec 2) (dest : BitVec 10) (addr : Addr) : Packet :=
  let p : Packet := { opcode := opcode, vc := vc, cls := 0, dest := dest, src := 0, tag := 0, key := 0, len := 3, seq := 1
                      hops := 0, status := 0, synth := false, addr := addr, be := 0, info := 0, hcrc := 0, data := [] }
  { p with hcrc := hcrcOf p }

theorem test_witness_Routers :
    (let p := packetOf 0 1 0 0; hcrcOf p = p.hcrc ∧ hcrcOf { p with hcrc := p.hcrc + 1 } ≠ p.hcrc + 1
      ∧ State.reset.routeOf 11 5 p ≠ none ∧ p.hops ≠ 24)
    ∧ State.reset.routeOf 11 5 (packetOf 0 1 1023 0) = none
    ∧ (State.reset.is (NOC_RTR_STAT.hold 71) = false ∧ (st [(NOC_RTR_STAT.hold 71, 1)]).is (NOC_RTR_STAT.hold 71) = true)
    ∧ (State.reset.is (NOC_FI_CTRL.armed 71 7) = false ∧ (State.reset.inj 71 7).held = none)
    ∧ (let s := st [(NOC_RTR_CTRL.fi_enable 71, 1)]
       s.is (NOC_RTR_CTRL.fi_enable 71) = true
        ∧ (s.write (NOC_FI_CTRL.off 71 7) 0x80000000).get (NOC_FI_CTRL.vc 71 7) ≠ 3)
    ∧ ((State.reset.setInj 71 7 { held := some (packetOf 0 1 0 0) }).inj 71 7).held = some (packetOf 0 1 0 0) := by
  decide +kernel

/-- R284's tables: from the router (11, 5) a packet to the port (0, 0) goes E, then N. -/
theorem test_witness_Addresses :
    portExists (packetOf 0 1 8 0).dest.toNat = true
    ∧ State.reset.routeOf 11 5 (packetOf 0 1 8 0) = some 0 ∧ State.reset.routeOf 0 5 (packetOf 0 1 8 0) = some 2
    ∧ State.reset.routeOf 0 1 (packetOf 0 1 8 0) = some 4 := by decide +kernel

theorem test_witness_Destinations :
    (let p := packetOf 0 1 (BitVec.ofNat 10 (iniPort .cfg)) 0x30000000010000
     opcodeFits p = true ∧ p.opcode = 0
      ∧ (State.reset.unsend (.port p.dest) p).closedTo p.dest.toNat p = 0 ∧ dataGood p = true
      ∧ ((State.reset.setPortState (iniPort .cfg) 2).unsend (.port p.dest) p).closedTo p.dest.toNat p ≠ 0
      ∧ p.addr.toNat / 2 ^ 52 = 3 ∧ toFabric p = false)
    ∧ (let p := packetOf 2 0 320 0x10000000000000
       let s := State.reset.setFlow 320 0 0 { expected := some 249 }
       opcodeFits p = true ∧ p.opcode = 2 ∧ seqAhead (s.flow 320 p.src p.vc) p.seq = 8
        ∧ (s.flow 320 p.src p.vc).held.length < 8)
    ∧ (let s := State.reset.setFlow 320 0 0 { held := [packetOf 2 0 320 0] }
       (s.flow 320 0 0).held ≠ [] ∧ (s.port 320).flushes = [])
    ∧ (let o : Outstanding := ⟨0, 320, 0, 0, 0⟩
       let s := State.reset.setIni .seA { out := [o] }
       (s.ini .seA).out.find? (fun e : Outstanding => e.tag = 0) = some o ∧ (s.port o.dest.toNat).accepted = [])
    ∧ portDmc 320 = none ∧ portQuay 320 = none
    ∧ ((State.reset.setPortState 320 1).portState 320 = 1 ∧ (State.reset.setPortState 320 1).targetIdle 320 = true
        ∧ (State.reset.setPortState 320 1).ownIdle 320 = true ∧ ((State.reset.setPortState 320 1).port 320).drain = false)
    ∧ State.reset.portState 320 ≠ 1
    ∧ ((State.reset.setQuay 119 { given := [(255, packetOf 0 1 0 0)] }).quay 119).given.find?
        (fun e : BitVec 8 × Packet => e.1 = 255) = some (255, packetOf 0 1 0 0) := by decide +kernel

/-! ### Witnesses: DRAM, protection -/

theorem getMany_setMany (d : Nat → Byte) (m : KMap Byte) (k : Nat) (vs : List Byte) :
    (m.setMany d k vs).getMany d k vs.length = vs := by
  have keep (vs : List Byte) : ∀ (m : KMap Byte) (k j : Nat), j < k → (m.setMany d k vs).get d j = m.get d j := by
    induction vs with
    | nil => exact fun m k j h => rfl
    | cons v vs ih =>
      intro m k j h
      rw [KMap.setMany, ih _ _ _ (by omega), KMap.get_set_ne d m v (by omega)]
  induction vs generalizing m k with
  | nil => rfl
  | cons v vs ih =>
    simp only [KMap.setMany, List.length_cons, KMap.getMany]
    rw [ih, keep vs _ _ _ (by omega), KMap.get_set_same]

theorem recordHead_flash (s : State) (f : KMap Byte) (n : Nat) (ids : List Byte) :
    State.recordHead { s with flash := f } n ids = s.recordHead n ids := rfl

theorem toBytes_length (v n : Nat) : (toBytes v n).length = n := by
  induction n generalizing v with
  | zero => rfl
  | succ n ih => rw [toBytes, List.length_cons, ih]

theorem ofBytes_toBytes4 (v : Nat) (h : v < 2 ^ 32) : ofBytes (toBytes v 4) = v := by
  simp [ofBytes, toBytes]
  omega

/-- A flash can hold a training record that is valid for a controller (R331). -/
theorem record_exists (s : State) (n a k : Nat) (ids : List Byte) (hh : (s.recordHead n ids).length = 60)
    (hk : 60 + k = 2044) : ∃ f, State.recordValid { s with flash := f } n
      (State.flashBytes { s with flash := f } a 2048) ids = true := by
  have hb : (s.recordHead n ids ++ zeros k).length = 2044 := by rw [List.length_append, hh, zeros_length, hk]
  generalize hbody : s.recordHead n ids ++ zeros k = body at hb
  have hr : (body ++ toBytes (crc32 body) 4).length = 2048 := by rw [List.length_append, hb, toBytes_length]
  refine ⟨KMap.setMany flashDefault [] a (body ++ toBytes (crc32 body) 4), ?_⟩
  have hf : State.flashBytes { s with flash := KMap.setMany flashDefault [] a (body ++ toBytes (crc32 body) 4) } a 2048
      = body ++ toBytes (crc32 body) 4 := by
    rw [← hr]; exact getMany_setMany flashDefault [] a _
  have t1 : (body ++ toBytes (crc32 body) 4).take 0x3C = s.recordHead n ids := by
    rw [← hbody, List.append_assoc, List.take_append_of_le_length (Nat.le_of_eq hh.symm),
      List.take_of_length_le (Nat.le_of_eq hh)]
  have t2 : (body ++ toBytes (crc32 body) 4).take 0x7FC = body := by
    rw [List.take_append_of_le_length (Nat.le_of_eq hb.symm), List.take_of_length_le (Nat.le_of_eq hb)]
  have t3 : ((body ++ toBytes (crc32 body) 4).drop 0x7FC).take 4 = toBytes (crc32 body) 4 := by
    rw [List.drop_append_of_le_length (Nat.le_of_eq hb.symm), List.drop_of_length_le (Nat.le_of_eq hb), List.nil_append,
      List.take_of_length_le (Nat.le_of_eq (toBytes_length _ 4))]
  rw [State.recordValid, hf, recordHead_flash, t1, t2, t3, ofBytes_toBytes4 _ (crc32_lt body), decide_eq_true rfl,
    decide_eq_true rfl]
  rfl

theorem test_witness_DramService_record :
    (State.reset.recordHead 7 []).length = 60 ∧ 60 + 1984 = 2044
    ∧ (let s := st [(DMC_STAT.state 7, 1)]; s.dmcState 7 = 1 ∧ (s.dmc 7).step = 0 ∧ (s.dmc 7).kept = false) := by
  decide +kernel

theorem test_witness_DramService :
    (let u := State.reset.write (DMC_CTRL.off 7) 0x80000000
     State.reset.is (DMC_CTRL.enable 7) = false ∧ State.reset.dmcState 7 = 0 ∧ u.is (DMC_CTRL.enable 7) = true
      ∧ u.get (DMC_CTRL.pred 7) ≠ 3 ∧ u.geometryFits 7 = true)
    ∧ ((st [(DMC_GEOM.density 7, 3)]).geometryFits 7 = false)
    ∧ (let s := st [(DMC_CTRL.enable 7, 1), (DMC_STAT.state 7, 5)]; let u := s.write (DMC_CTRL.off 7) 0
       s.is (DMC_CTRL.enable 7) = true ∧ u.is (DMC_CTRL.enable 7) = false ∧ u.get (DMC_CTRL.pred 7) ≠ 3
        ∧ s.dmcState 7 = 5)
    ∧ (let s := (st [(DMC_STAT.state 7, 1), (DMC_GEOM.density 7, 1)]).setDmc 7 { step := 3 }
       s.dmcState 7 = 1 ∧ (s.dmc 7).step ≠ 0 ∧ (3 : BitVec 2).toNat ≠ s.get (DMC_GEOM.density 7))
    ∧ (let v : Word := 0x80000000; bit v 27 = false ∧ bit v 28 = false ∧ bit v 29 = false ∧ bit v 31 = true)
    ∧ (let s := st [(DMC_STAT.state 7, 2)]; let u := s.write (DMC_MAINT.off 7) 0x80000000
       s.dmcState 7 = 2 ∧ u.is (DMC_MAINT.force 7) = false ∧ u.emptyLong 7 = false
        ∧ (s.write (DMC_MAINT.off 7) 0xC0000000).is (DMC_MAINT.force 7) = true)
    ∧ (let s := (st [(DMC_STAT.state 7, 2)]).setDmc 7 { deferred := true }
       let u := s.write (DMC_MAINT.off 7) 0x08000000
       bit (0x08000000 : Word) 27 = true ∧ (u.dmc 7).deferred = true ∧ (s.dmc 7).reads = [] ∧ (s.dmc 7).writes = [])
    ∧ ((st [(DMC_STAT.state 7, 3)]).dmcState 7 = 3 ∧ State.reset.dmcState 7 ≠ 2) := by decide +kernel

/-- A queue entry that reads line 0. -/
def entry0 : DmcEntry := { id := 0, kind := .read, line := 0, cls := 2, eff := 2, since := 0 }

theorem test_witness_DramRequests :
    (let p := packetOf 0 1 0 0
     let s := (st [(DMC_STAT.state 0, 2)]).setPort (dmcPort 0) { accepted := [p] }
     s.dmcState 0 = 2 ∧ (s.port (dmcPort 0)).posted = [] ∧ (s.port (dmcPort 0)).accepted = [p] ∧ isPosted p = false
      ∧ s.keyRule 0 (s.linesOfReq p).1 p = some none
      ∧ (st [(MPE_RGN_STAT.state 0 0, 2), (MPE_RGN_SIZE.mib 0 0, 1)]).keyRule 0 0 p = none)
    ∧ (let p := packetOf 2 0 0 0
       let s := (st [(DMC_STAT.state 0, 2)]).setPort (dmcPort 0) { posted := [p] }
       (s.port (dmcPort 0)).posted = [p] ∧ (s.port (dmcPort 0)).accepted = [] ∧ isPosted p = true
        ∧ s.keyRule 0 0 p = some none ∧ roomFor (s.dmc 0).writes.length (s.linesOfReq p).2 p.cls.toNat = true)
    ∧ roomFor 4096 1 0 = false
    ∧ (let s := (st [(DMC_STAT.state 7, 2)]).setDmc 7 { owed := [(7, 1)] }; s.dueRefresh 7 = some 7)
    ∧ (let s := (st [(DMC_STAT.state 7, 2)]).setDmc 7 { reads := [entry0], nextId := 1 }
       s.dueRefresh 7 = none ∧ (s.dmc 7).reads = [entry0] ∧ (s.dmc 7).writes = [] ∧ entry0.issued = false
        ∧ (s.dmc 7).writing = false ∧ entry0.eff ≤ 3 ∧ entry0.id < (s.dmc 7).nextId ∧ entry0.eff ≠ 0
        ∧ s.ageLimit 7 entry0.cls ≠ 0)
    ∧ (let e : DmcEntry := { entry0 with issued := true, req := some (packetOf 0 1 0 0) }
       let s := { State.reset.setDmc 7 { reads := [e] } with
          dram := [(dramKey 7 0, some (codedLine 0 0 5))] }
       ((s.dmc 7).reads ++ (s.dmc 7).writes).find? (fun f => decide (f.id = e.id) && f.issued) = some e
        ∧ s.dram.get dramDefault (dramKey 7 e.line) = some (codedLine 0 0 5) ∧ e.rgn = none
        ∧ (let r := decodeLine (s.lineRank 7 0) 0 (disturb (codedLine 0 0 5) []); r.fixed = 0 ∧ r.bad = false)
        ∧ s.dram.get dramDefault (dramKey 7 (s.dmc 7).patrolAt) = some (codedLine 0 0 5)
        ∧ (s.dmc 7).patrolAt + 1 < s.dcapBytes 7 / 64)
    ∧ (let s := st [(DMC_STAT.state 7, 2)]
       (0 : Fin 2).val ≤ s.get (DMC_GEOM.ranks 7) ∧ s.owedOf 7 0 / 4 + 1 < s.get (DMC_REF.postpone 7)
        ∧ ((s.dmc 7).shift.get shiftDefault 0 + (-16)).natAbs ≤ 16) := by decide +kernel

theorem test_witness_Protection :
    ((st [(MPE_CTRL.host_block 7, 1)]).keyBlocked 7 .host = true ∧ State.reset.keyBlocked 7 (.firmware 0) = false)
    ∧ (let u := State.reset.write (MPE_KEY_CMD.off 7) 0x8000003F
       let id := u.get (MPE_KEY_CMD.key_id 7)
       id = 63 ∧ u.boundIn 7 id (fun st => st = 1 || st = 2) = false ∧ bit (0x8000003F : Word) 31 = true
        ∧ bit (0x8000003F : Word) 30 = false)
    ∧ (let s := (st [(MPE_RGN_STAT.state 7 7, 2), (MPE_RGN_CFG.key 7 7, 63)]).write (MPE_KEY_CMD.off 7) 0x8000003F
       s.boundIn 7 63 (fun st => st = 1 || st = 2) = true)
    ∧ (State.reset.rgnState 7 7 = 0 ∧ State.reset.is (MPE_RGN_CFG.enable 7 7) = false
        ∧ State.reset.enableReason 7 7 = some 5)
    ∧ (let s := { (st [(DMC_STAT.state 0, 2), (MPE_RGN_SIZE.mib 0 0, 1), (MPE_KEY_MODE.v 0 0, 4), (MPE_CARVE.mib 0, 64),
          (MPE_RGN_META.v 0 0, 2080768), (MPE_RGN_CFG.key 0 0, 1)]) with mpes := [(0, { keys := [(1, some 5)] })] }
       s.enableReason 0 0 = none)
    ∧ (let s := (st [(MPE_RGN_STAT.state 7 7, 2), (MPE_RGN_CFG.enable 7 7, 1)])
       s.rgnState 7 7 = 2 ∧ s.is (MPE_RGN_CFG.enable 7 7) = true)
    ∧ (let s := st [(MPE_RGN_STAT.state 7 7, 2)]
       s.is (MPE_RGN_CFG.enable 7 7) = false ∧ s.get (MPE_RGN_INIT_LEN.v 7 7) = 0 ∧ (s.mpe 7).poison = []
        ∧ (s.rgn 7 7).rootA.epoch ≠ BitVec.allOnes 24)
    ∧ (let s := State.reset.setRgn 7 7 { init := some (0, 256), groups := [(255, packetOf 2 0 0 0)] }
       (s.rgn 7 7).init = some (0, 256) ∧ (s.dmc 7).reads = [] ∧ (s.rgn 7 7).groups = [(255, packetOf 2 0 0 0)])
    ∧ (let s := st [(MPE_RGN_STAT.state 7 7, 2), (MPE_RGN_SIZE.mib 7 7, 1), (MPE_RGN_STAT.levels 7 7, 8)]
       (1 : Fin 9).val ≤ s.get (MPE_RGN_STAT.levels 7 7) ∧ 255 < s.nodeCount 7 7 1 ∧ s.cached 7 7 1 255 = false
        ∧ (s.rgn 7 7).rootA = (s.rgn 7 7).rootB) := by decide +kernel

/-! ### Witnesses: PCI Express, streams, cores, tasks -/

/-- The endpoint enabled with its link in L0, and PF0 able to send. -/
def linked (f : PciFn) (fs : List (Field × Nat)) : State :=
  (st ([(PCI_CFG.enable, 1), (PCI_LINK.ltssm, 3)] ++ fs)).setFn 0 f

theorem test_witness_PcieLinkAndHost :
    ((linked {} []).is PCI_CFG.enable = true ∧ (linked {} []).get PCI_LINK.ltssm ≠ 0 ∧ (linked {} []).linkOn = true
        ∧ (linked {} []).pci.waiting = [] ∧ (linked {} []).fenced = false ∧ (linked {} []).linkLive = true)
    ∧ (∀ q ∈ [portId 5 0 0, portId 6 0 0],
        (State.reset.port q).accepted = [] ∧ (State.reset.port q).posted = [] ∧ (State.reset.port q).flushes = [])
    ∧ (let s := st [(PCI_LINK.ltssm, 6), (PCI_CFG.enable, 1)]
       s.get PCI_LINK.ltssm = 6 ∧ s.linkOn = false ∧ s.fenced = false)
    ∧ ((linked {} [(PAIR_STAT.state, 6)]).fenced = true ∧ barSpace 1 = none ∧ barSpace 0 = some (3, 2 ^ 26)
        ∧ barSpace 4 = some (0, 2 ^ 38) ∧ (linked {} []).fnPresent 0 = true ∧ (2 ^ 26 - 64) + 64 ≤ 2 ^ 26
        ∧ 0 < (64 : Fin 4097).val ∧ (64 : Fin 4097).val % 4 = 0)
    ∧ (let r : HostReq := { id := 1, fn := 0, bar := 0, off := 0, pieces := [⟨0, 4, none, some 0, [1, 2, 3, 4]⟩] }
       (∀ c ∈ r.pieces, c.answer = some 0))
    ∧ (let s : State := { linked {} [(PCI_CFG.vfs0, 64), (SE_VF_MAP.base 63, 0), (SE_VF_MAP.count 63, 1),
          (SE_SC_FUNC.pf 0, 0), (SE_SC_FUNC.vf 0, 64)] with pci := { vfEn := (true, false) } }
       fnNo ⟨false, 64⟩ ≠ 0 ∧ s.fnPresent (fnNo ⟨false, 64⟩) = true ∧ 0 < (s.ctxRange 64).2 ∧ s.ctxFn 0 = 64
        ∧ (s.ctxRange 64).2 ≤ 1 ∧ s.ctxFn 1 ≠ 64) := by decide +kernel

theorem test_witness_PcieFunctions :
    ((linked {} []).fnPresent (fnNo ⟨false, 0⟩) = true ∧ (linked {} []).get PCI_LINK.ltssm ≠ 0
        ∧ (2047 : BitVec 11).toNat < vectorsOf 0)
    ∧ (((linked {} []).fn 0).d3 = false ∧ ((linked {} []).setFn 0 { (linked {} []).fn 0 with d3 := true }).allD3 = true)
    ∧ ((linked { bme := true } []).reachable 0 = true)
    ∧ (let s := linked { bme := true, msix := true } []
       s.canSend 0 = true ∧ (s.fn 0).pmeSent = false ∧ s.pci.holds = [] ∧ s.vectorMasked 0 2047 = true)
    ∧ (let s := (linked { bme := true, msix := true } []).setMsixWord 0 0 3 0
       s.vectorMasked 0 0 = false)
    ∧ ((linked {} []).canSend 0 = false) := by decide +kernel

/-- A context in a state, with a ring of 16 and work under way. -/
def ctxOf (state : Nat) (c : StreamCtx) (fs : List (Field × Nat)) : State :=
  (st ([(SE_SC_STAT.state 1, state), (SE_SC_CTRL.enable 1, 1), (SE_SC_DRING_HI.size 1, 4), (SE_CTRL.enable, 1)] ++ fs)).setCtx 1
    c

theorem test_witness_ContextsAndSluices :
    ((st [(PAIR_STAT.state, 2), (PAIR_STAT.role, 0), (PAIR_SC_RANGE.count 3, 2)]).ctxHeld 1 = true
        ∧ State.reset.ctxHeld 1 = false)
    ∧ (let u := (st [(SE_SC_DRING_HI.size 1, 4)]).writeWhere (SE_SC_CTRL.off 1) (fun f => decide (f.lo ≠ 31)) 0x80000000
       State.reset.is (SE_SC_CTRL.enable 1) = false ∧ 4 ≤ u.get (SE_SC_DRING_HI.size 1)
        ∧ u.get (SE_SC_DRING_HI.size 1) ≤ 16)
    ∧ (let u := State.reset.writeWhere (SE_SC_CTRL.off 1) (fun f => decide (f.lo ≠ 31)) 0x80000000
       u.get (SE_SC_CTRL.src_kind 1) = 0 ∧ u.get (SE_SC_CTRL.dst_kind 1) = 0 ∧ u.tail 1 = 0)
    ∧ (let u := State.reset.writeWhere (SE_SC_CTRL.off 1) (fun f => decide (f.lo ≠ 31)) 0x8A000000
       u.get (SE_SC_CTRL.src_kind 1) = 1 ∧ u.get (SE_SC_CTRL.dst_kind 1) ≠ 3)
    ∧ ((ctxOf 2 {} []).is (SE_SC_CTRL.enable 1) = true ∧ (ctxOf 2 {} []).ctxState 1 = 2 ∧ (ctxOf 5 {} []).ctxState 1 = 5)
    ∧ ((ctxOf 5 {} []).tail 1 = 0 ∧ (ctxOf 5 {} [(SE_SC_ERR.index 1, 15)]).tail 1
        = ((ctxOf 5 {} [(SE_SC_ERR.index 1, 15)]).get (SE_SC_ERR.index 1) + 1) % (ctxOf 5 {} []).ringLen 1)
    ∧ (let s := ctxOf 2 { on := true } [(SE_SC_TOLL.toll 1, 5)]
       s.tolled.Nodup ∧ 1 ∈ s.tolled ∧ s.get (SE_SC_TOLL.toll 1) ≠ 0 ∧ s.getS (SE_SC_BAL.v 1) ≤ 0)
    ∧ (let s := { State.reset with se := { timers := [(4095, some 0)] } }
       s.se.timers.get timerDefault 4095 = some 0)
    ∧ (let s := { st [(SLU_STAT.count 4095, 65535)] with se := { timers := [(4095, some 0)] }, now := 1600 }
       s.get (SLU_STAT.count 4095) ≠ 0 ∧ s.is (SLU_STAT.held 4095) = false ∧ 1600 * max 1 0 ≤ s.now - 0)
    ∧ (31 < vectorsOf (fnOf 0 64) ∧ vectorsOf (fnOf 0 64) ≤ 32) := by decide +kernel

def desc1 : Desc := { src := 0, dst := 0, len := 300, flags := 0, cookie := 9 }

theorem test_witness_ContextEngine :
    (let s := ctxOf 2 { on := true, work := [{ pos := 0, desc := some desc1 }] } [(SE_SC_QUOTA.quota 1, 4),
        (SE_SC_CTRL.src_kind 1, 1), (SE_SC_CTRL.dst_kind 1, 1)]
     s.is SE_CTRL.enable = true
      ∧ s.ctxsOn.filter (fun m => decide (m % 2 = true.toNat) && s.serves m) = [1]
      ∧ s.reader 1 = some { pos := 0, desc := some desc1 })
    ∧ (let s := ctxOf 2 { on := true } [(SE_SC_DB.tail 1, 1)]
       s.ctxsOn.filter (fun m => decide (m % 2 = true.toNat) && s.serves m) = [1] ∧ s.reader 1 = none)
    ∧ (let w : StreamDesc := { pos := 15, reads := [(0, 32)] }
       w.desc = none ∧ w.reads ≠ [] ∧ isHost (State.reset.dring 1) = false)
    ∧ (isHost ((State.reset.putWide (SE_SC_DRING_LO.off 1) 2 0x10000000000000).dring 1) = true)
    ∧ (let w : StreamDesc := { pos := 65535, desc := some desc1, asked := 300, reads := [(256, 44)] }
       w.reads = [(256, 44)] ∧ w.pos < 65536 ∧ w.fail = none ∧ (List.replicate 44 (0 : Byte)).length = 44)
    ∧ (let w : StreamDesc := { pos := 0, desc := some desc1, fencing := true }; w.fencing = true ∧ w.visible = false)
    ∧ (let r : StreamRec := { pos := 15, status := 1, bytes := 4, cookie := 9, noIrq := false, phase := true, written := true }
       r.written = true ∧ (15 + 1) % (ctxOf 2 {} []).ringLen 1 = 0 ∧ isHost (State.reset.cring 1) = false)
    ∧ (let c : StreamCtx := { on := true, stopped := true, work := [{ pos := 0, desc := some desc1 }] }
       let s := ctxOf 4 c []
       s.fenced = false ∧ s.ctxState 1 = 4 ∧ (s.ctx 1).stopped = true ∧ (s.ctx 1).recs = [] ∧ s.mirrors = false)
    := by decide +kernel

/-- A core that runs. -/
def running (c : CoreState) (fs : List (Field × Nat)) : State := (st fs).setCore 7 { c with running := true }

theorem test_witness_Cores :
    (State.reset.is (CC_CORE_CTRL.run 7) = false ∧ State.reset.domOpen (0x120 + 7) = true
        ∧ (st [(CC_CORE_CTRL.run 7, 1)]).is (CC_CORE_CTRL.run 7) = true)
    ∧ (let s := running { fastEn := true, mie := 0x10000 } [(IC_SRC_CFG.target 0, 255), (IC_SRC_CFG.cls 0, 1),
          (sourceBit IC_PEND.v 0, 1), (sourceBit IC_EN.v 0, 1)]
       (s.core 7).running = true ∧ (s.core 7).sleep = 0 ∧ s.lowestFor 7 true = some 0 ∧ s.causePending 7 16 = true
        ∧ (s.core 7).fastEn = true ∧ (s.core 7).mie.getLsbD 16 = true ∧ (s.core 7).active = false
        ∧ s.wakeNative 7 = true)
    ∧ (let s := running { active := true } []; (s.core 7).priv = 3 ∧ (s.core 7).active = true ∧ (s.core 7).nested = false)
    ∧ (let s := running { priv := 0, deep := true } []; (s.core 7).priv ≠ 3 ∧ (s.core 7).deep = true)
    ∧ (let s := { running { sleep := 2 } [(CC_MSIP.v 7, 1), (PWR_DOM.state 0x127, 2)] with cc := { cores := [(7, { sleep := 2 })] } }
       (s.core 7).sleep = 2 ∧ s.get (PWR_DOM.state (0x120 + 7)) = 2 ∧ s.cc.retained.get retainedDefault 7 = none
        ∧ s.causePending 7 3 = true)
    ∧ State.reset.getWide (CC_MTIMECMP.off 7 0) 2 = 2 ^ 64 - 1
    ∧ (st [(⟨CC_MTIMECMP.off 7 0, 31, 0⟩, 0)]).getWide (CC_MTIMECMP.off 7 0) 2 ≠ 2 ^ 64 - 1 := by decide +kernel

theorem test_witness_L2 :
    (0 ≤ State.reset.get CC_L2_PART.mem_ways ∧ State.reset.get CC_L2_PART.mem_ways < 16)
    ∧ (State.reset.is CC_L2_MAINT2.busy = false ∧ (st [(CC_L2_MAINT2.busy, 1)]).is CC_L2_MAINT2.busy = true)
    ∧ ∀ e ∈ State.reset.cc.l2cache, e.2.dirty = false := by decide +kernel

theorem test_witness_Interrupts :
    (sourceReserved 41 = false ∧ sourceReserved 42 = true ∧ sourceReserved 799 = false ∧ (535 : Fin 1024).val < 536
        ∧ 792 ≤ (792 : Fin 1024).val)
    ∧ (State.reset.domOpen (regionDom (State.reset.firqRegion (791 - 536))) = true)
    ∧ (let s := (st [(IC_SRC_CFG.mode 791, 1)]).setSourceLine 791 true
       s.sourceLevel 791 = true ∧ s.is (IC_SRC_CFG.mode 791) = true ∧ s.is (sourceBit IC_INSV.v 791) = false)
    ∧ (bitsOf (1022 : Word) 9 0 ≠ 1023 ∧ bitsOf (0x3FF : Word) 9 0 = 1023)
    ∧ (let s := { st [(sourceBit IC_INSV.v 1022, 1)] with cc := { owner := [(1022, 8)] } }
       s.is (sourceBit IC_INSV.v 1022) = true ∧ s.cc.owner.get ownerDefault 1022 = 7 + 1) := by decide +kernel

/-- Task 4095 in a state, with a slot's target. -/
def taskIn (state : Nat) (fs : List (Field × Nat)) : State :=
  st ([(taskState 4095, state), (taskTarget 4095, 71)] ++ fs)

theorem test_witness_Tasks :
    (bitsOf (0x10000FFF : Word) 31 28 = 1 ∧ bitsOf (0x10000FFF : Word) 11 0 = 4095)
    ∧ ((taskIn 0 []).get (taskState 4095) = 0 ∧ (taskIn 0 []).get (taskTarget 4095) ≤ 71
        ∧ (taskIn 0 []).get (taskMask 4095) = 0 ∧ (taskIn 0 [(taskMask 4095, 1)]).get (taskMask 4095) ≠ 0
        ∧ (taskIn 0 [(taskTimed 4095, 1)]).is (taskTimed 4095) = true ∧ 71 < (st [(taskTarget 4095, 72)]).get (taskTarget 4095))
    ∧ ((taskIn 3 []).get (taskState 4095) = 3 ∧ (taskIn 4 []).get (taskState 4095) = 4 ∧ 4095 ∉ (taskIn 4 []).ts.suspend)
    ∧ (let s := { taskIn 4 [] with ts := { suspend := [4095] } }; 4095 ∈ s.ts.suspend)
    ∧ (State.reset.standby = false ∧ State.reset.ts.posts.length < 512)
    ∧ (let s := { taskIn 1 [(taskMask 4095, 1)] with ts := { posts := [(4095, 1)] } }
       let u := (State.put { s with ts := { s.ts with posts := [] } } TS_QUEUE.v 0)
       s.ts.posts = (4095, 1) :: [] ∧ (u.setWord (taskFlags 4095).off (s.word (taskFlags 4095).off ||| 1)).taskHolds 4095
          = true)
    ∧ ((taskIn 2 []).taskWake 4095 ≤ (taskIn 2 []).tickTime
        ∧ (State.putWide (taskIn 2 []) (TS_TASK.off 4095 4) 2 (2 ^ 64 - 1)).tickTime
          < (State.putWide (taskIn 2 []) (TS_TASK.off 4095 4) 2 (2 ^ 64 - 1)).taskWake 4095) := by decide +kernel

theorem test_witness_Dispatch :
    (let s := { st [(taskTarget 4095, 7), (taskState 4095, 3)] with ts := { ready := [(7, [4095])] } }
     s.standby = false ∧ s.readyList 7 = 4095 :: [] ∧ s.runningOn 7 = [] ∧ s.get (taskTarget 4095) = 7)
    ∧ State.reset.readyList 7 = []
    ∧ (let s := { (taskIn 3 [(TS_SLOT_CFG.en 63, 1), (TS_SLOT_CFG.depth 63, 1), (STL_STAT.state 63, 1)]).putWide
          (TS_SLOT_ADDR.off 63 0) 2 0x20000000000000 with ts := { ready := [(71, [4095])] } }
       s.readyList (slotTarget 63) = 4095 :: [] ∧ s.is (TS_SLOT_CFG.en 63) = true
        ∧ s.getWide (TS_SLOT_ADDR.off 63 0) 2 % 2 ^ 56 / 2 ^ 52 = 2 ∧ s.slotHeld 63 = false
        ∧ (s.runningOn (slotTarget 63)).length < s.get (TS_SLOT_CFG.depth 63))
    ∧ (taskIn 4 []).get (taskState 4095) = 4 ∧ (∀ g < 72, State.reset.runningOn g = []) := by decide +kernel

/-! ### Witnesses: lanes and the pair -/

/-- Lane 47 receiving in a coding. -/
def receiving (coding : Nat) (fs : List (Field × Nat)) : State :=
  st ([(XCV_LN_CFG.rx_en 47, 1), (XCV_LN_STAT.pstate 47, 0), (XCV_LN_CFG.coding 47, coding)] ++ fs)

theorem test_witness_LaneReceivers :
    (bit (0xC0000000 : Word) 30 = true ∧ bit (0xC0000000 : Word) 31 = true ∧ bit (0x40000000 : Word) 31 = false
        ∧ qpllFits 11 100000 0xC0500000 0 = true ∧ qpllFits 11 99999 0xC0500000 0 = false)
    ∧ (let s := (st [(XCV_Q_CFG.mirror 11, 1)]).setQpll 11 1 (some (100000, 0xC0500000, 0))
       s.qpll 11 1 ≠ none ∧ s.qpllUsed 11 1 = true)
    ∧ (let s := State.reset; s.laneFits 47 0x80000000 = true ∧ s.laneFits 47 0xA0000000 = false
        ∧ (st [(XCV_LN_GRP.count 47, 0)]).leaderOf 47 = none
        ∧ s.domOpen (0x100 + 47 / 4) = true ∧ (s.lane 47).dest = none
        ∧ bitsOf (0 : Word) 31 30 ≠ s.get (XCV_LN_STAT.pstate 47))
    ∧ (let s := (st [(XCV_LN_GRP.count 47, 0)]).setLane 47 { dest := some 2, want := some 0 }
       (s.lane 47).dest = some 2 ∧ s.leaderOf 47 = none ∧ (s.lane 47).want = some 0)
    ∧ ((receiving 2 []).receives 47 = true ∧ (receiving 2 []).is (XCV_LN_STAT.locked 47) = false
        ∧ (receiving 2 []).get (XCV_LN_CFG.coding 47) = 2)
    ∧ (let s := receiving 3 [(XCV_LN_STAT.fec_locked 47, 1)]
       s.get (XCV_LN_CFG.coding 47) = 3 ∧ s.is (XCV_LN_STAT.fec_locked 47) = true
        ∧ s.is (XCV_LN_CFG.fec_bypass 47) = false)
    ∧ (let s := receiving 1 [(XCV_LN_STAT.locked 47, 1), (XCV_LN_CFG.comma_cont 47, 1)]
       s.is (XCV_LN_STAT.locked 47) = true ∧ s.is (XCV_LN_CFG.comma_cont 47) = true
        ∧ s.get (XCV_LN_CFG.coding 47) ≠ 0)
    ∧ (let s := (st [(TH_STATUS.state, 1), (XCV_DL_CFG.fill 11, 63)]).setLane 47 { rxWait := true }
       s.timeValid = true ∧ s.get (XCV_DL_CFG.fill (47 / 4)) ≤ 64 ∧ (s.lane 47).rxWait = true) := by decide +kernel

/-- A group of lanes 44 to 47, of one kind of training. -/
def grouped (train : Nat) (fs : List (Field × Nat)) : State :=
  st ([(XCV_LN_GRP.count 44, 4), (XCV_LN_GRP.count 45, 0), (XCV_LN_GRP.count 46, 0), (XCV_LN_GRP.count 47, 0),
    (XCV_LN_GRP.train 44, train)] ++ fs)

theorem test_witness_LaneGroups :
    (let u := State.reset.write (XCV_LN_GRP.off 44) 0
     u.get (XCV_LN_GRP.train 44) ≠ 3 ∧ u.get (XCV_LN_GRP.count 44) ≤ 48
      ∧ u.get (XCV_LN_GRP.rate_min 44) ≤ u.get (XCV_LN_GRP.rate_max 44))
    ∧ (let s := grouped 0 ([44, 45, 46, 47].flatMap fun l =>
        [(XCV_LN_CFG.tx_en l, 1), (XCV_LN_CFG.rx_en l, 1), (XCV_LN_STAT.pstate l, 0)])
       s.is (XCV_LN_STAT.cfg_err 44) = false ∧ s.get (XCV_LN_STAT.grp_state 44) = 0
        ∧ (∀ l ∈ s.members 44, s.is (XCV_LN_CFG.tx_en l) = true ∧ s.is (XCV_LN_CFG.rx_en l) = true
          ∧ s.get (XCV_LN_STAT.pstate l) = 0) ∧ s.get (XCV_LN_GRP.train 44) = 0)
    ∧ (let s := grouped 1 [(XCV_LN_STAT.grp_state 44, 3), (XCV_LN_CFG.rx_en 47, 1), (XCV_LN_STAT.pstate 47, 0)]
       s.leaderOf 47 = some 44 ∧ s.get (XCV_LN_GRP.train 44) = 1 ∧ s.receives 47 = true
        ∧ s.get (XCV_LN_STAT.grp_state 44) ∈ [1, 2, 3] ∧ s.get (XCV_LN_GRP.count 44) ≤ 4)
    ∧ (crcPoly 8 0x07 48 0 = 0 ∧ crcPoly 8 0x07 48 (2 ^ 8 / 256) ≠ 2 ^ 8 % 256 ∧ (3 * 2 ^ 48) / 2 ^ 48 = 47 - 44)
    ∧ (let s := State.reset.setGroup 44 { step := 4, switch := true }; (s.group 44).step = 4 ∧ (s.group 44).switch = true)
    ∧ (let s := State.reset.setGroup 44 { step := 5, prev := 3 }
       (s.group 44).step = 5 ∧ (s.group 44).final = false ∧ (s.group 44).prev < 4)
    ∧ (let s := (st ((XCV_LN_STAT.grp_state 0, 5) :: [5, 0, 0, 0, 0].zipIdx.map fun e => (XCV_LN_GRP.count e.2, e.1))).setGroup 0 { step := 1 }
       5 ≤ s.get (XCV_LN_GRP.count 0) ∧ s.get (XCV_LN_STAT.grp_state 0) = 5 ∧ (s.group 0).step = 1
        ∧ (∀ l ∈ s.members 0, (s.lane l).badTag = false ∧ (s.lane l).badCount = false ∧ (s.lane l).index = none)
        ∧ s.leaderOf 4 = some 0 ∧ s.is (XCV_LN_STAT.locked 4) = false) := by decide +kernel

theorem test_witness_LaneUpkeep :
    ((st [(XCV_LN_CFG.tx_en 47, 1)]).is (XCV_LN_CFG.tx_en 47) = true ∧ (State.reset.lane 47).driverOff = false)
    ∧ (let s := (st [(XCV_LN_FAULT.retries 47, 7)]).setLane 47 { driverOff := true }
       (s.lane 47).driverOff = true ∧ s.get (XCV_LN_FAULT.retries 47) < 8)
    ∧ (8 ≤ (st [(XCV_LN_FAULT.retries 47, 8)]).get (XCV_LN_FAULT.retries 47))
    ∧ ((st [(XCV_LN_FAULT.fault 47, 2)]).get (XCV_LN_FAULT.fault 47) = 2 ∧ State.reset.get (XCV_LN_FAULT.fault 47) = 0)
    ∧ ((receiving 2 []).is (XCV_LN_CFG.rx_en 47) = true ∧ (receiving 2 []).is (XCV_LN_STAT.los 47) = false
        ∧ (st [(XCV_LN_STAT.los 47, 1)]).is (XCV_LN_STAT.los 47) = true)
    ∧ (State.reset.is (XCV_LN_CFG.tx_en 47) = false ∧ State.reset.is (XCV_LN_CFG.rx_en 47) = false
        ∧ ¬ ((receiving 2 []).get (XCV_LN_STAT.pstate 47) = 2)
        ∧ ((receiving 2 []).write (XCV_LN_MAINT.off 47) 0xC0000000).is (XCV_LN_MAINT.force 47) = true)
    ∧ ((State.reset.setLane 47 { cal := true }).lane 47).cal = true
    ∧ (let s := receiving 2 [(XCV_LN_PRBS.rx_en 47, 1), (XCV_LN_STAT.locked 47, 1), (XCV_LN_GRP.count 47, 0)]
       s.receives 47 = true ∧ s.leaderOf 47 = none ∧ s.is (XCV_LN_PRBS.rx_en 47) = true
        ∧ s.is (XCV_LN_ES_CFG.busy 47) = false ∧ s.is (XCV_LN_STAT.locked 47) = true)
    ∧ (let s := grouped 2 [(XCV_LN_STAT.grp_state 44, 1), (XCV_LN_CFG.rx_en 47, 1), (XCV_LN_STAT.pstate 47, 0)]
       s.receives 47 = true ∧ s.leaderOf 47 = some 44 ∧ s.get (XCV_LN_GRP.train 44) = 2
        ∧ s.get (XCV_LN_STAT.grp_state 44) = 1)
    ∧ ((st [(XCV_LN_ES_CFG.busy 47, 1)]).is (XCV_LN_ES_CFG.busy 47) = true
        ∧ (st [(XCV_Q_CFG.fi_enable 11, 1)]).is (XCV_Q_CFG.fi_enable (47 / 4)) = true) := by decide +kernel

/-- A device of an enabled pair, primary or standby, in a state. -/
def paired (role state : Nat) (p : PairState) : State :=
  { st [(PAIR_CTRL.enable, 1), (PAIR_STAT.role, role), (PAIR_STAT.state, state)] with pair := p }

theorem test_witness_MirrorQueue :
    (State.reset.mirrors = false ∧ (paired 1 2 {}).mirrors = true ∧ (paired 1 2 {}).mirrorDepth = 0) := by decide +kernel

/-- A mirror queue that is full, whatever the size of a change. -/
theorem test_witness_MirrorQueue_full (c : Change) :
    51520 < (paired 1 2 { queue := [(1, c, 51521)] }).mirrorDepth + changeBytes c := by
  have h : (paired 1 2 { queue := [(1, c, 51521)] }).mirrorDepth = 51521 := by
    simp only [State.mirrorDepth, paired, List.foldl_cons, List.foldl_nil, Nat.zero_add]
  rw [h]
  omega

theorem test_witness_PairMirror :
    (let v : Word := 0x80000000; bit v 29 = false ∧ bit v 28 = false ∧ bit v 27 = false ∧ bit v 26 = false)
    ∧ ((State.reset.write PAIR_CTRL.off 0x80000000).is PAIR_CTRL.enable = true ∧ State.reset.get PAIR_STAT.state = 0
        ∧ (State.reset.write PAIR_CTRL.off 0x80000000).missingNeed
            { linkRunning := false, partnerCode := 0, partnerCrc := 0, partnerHigh := false, fenceWired := true,
              fenceBackLow := true } = 1)
    ∧ ((paired 1 1 { copying := true, survivor := true }).pair.copying = true
        ∧ (paired 1 1 {}).get PAIR_STAT.state = 1 ∧ (paired 0 6 {}).fenced = true)
    ∧ ((paired 0 2 {}).takesChanges = true ∧ (paired 0 2 {}).pair.applied < 1 ∧ 0 ≤ (paired 0 2 {}).pair.applied)
    ∧ ((paired 1 2 {}).mirrors = true ∧ (paired 1 2 {}).pair.acked < 1)
    ∧ ((paired 1 2 {}).is PAIR_CTRL.enable = true ∧ (paired 1 2 {}).get PAIR_STAT.state ≠ 0)
    ∧ ((paired 0 3 {}).mirrors = false ∧ (paired 0 3 {}).is PAIR_STAT.role = false ∧ 1 ≤ (paired 0 3 {}).get PAIR_STAT.state
        ∧ (paired 0 3 {}).get PAIR_STAT.state ≤ 3)
    ∧ ((paired 1 3 { misses := 1 }).is PAIR_STAT.role = true ∧ 0 < (paired 1 3 { misses := 1 }).pair.misses
        ∧ 0 + 1 < (paired 1 3 {}).get PAIR_CFG.miss ∧ (paired 1 3 {}).get PAIR_CFG.miss ≤ 255 + 1)
    ∧ (let v : Word := 0x90000000; bit v 29 = false ∧ bit v 26 = false ∧ bit v 28 = true ∧ bit v 27 = false
        ∧ ((paired 1 3 {}).write PAIR_CTRL.off v).is PAIR_CTRL.enable = true) := by decide +kernel

theorem test_witness_Takeover :
    (let v : Word := 0xA0000000; bit v 29 = true ∧ bit v 28 = false ∧ bit v 27 = false ∧ bit v 26 = false
      ∧ ((paired 0 2 {}).write PAIR_CTRL.off v).is PAIR_CTRL.enable = true ∧ (paired 0 2 {}).get PAIR_STAT.state = 2)
    ∧ ((paired 0 4 { before := 3 }).get PAIR_STAT.state = 4 ∧ (paired 0 4 { before := 3 }).pair.before < 16)
    ∧ (((paired 0 4 {}).put PAIR_STAT.fence_out 1).is PAIR_STAT.fence_out = true)
    ∧ (isHost (State.reset.cring 65535) = false ∧ State.reset.get (SE_SC_DRING_HI.size 65535) ≤ 16)
    ∧ ((paired 1 2 { driven := true }).fenced = false ∧ (paired 1 2 { driven := true }).pair.driven = true
        ∧ ((paired 1 2 {}).put PAIR_STAT.pin_role 1).is PAIR_STAT.pin_role = true)
    ∧ (let s := paired 0 6 { rejoined := true }; let u := (s.putB PAIR_STAT.fence_in false).write PAIR_CTRL.off 0x84000000
       bit (0x84000000 : Word) 26 = true ∧ s.fenced = true ∧ s.is PAIR_CTRL.enable = true
        ∧ u.is PAIR_CTRL.enable = true ∧ s.pair.rejoined = true) := by decide +kernel

/-! ### Ill-formed terms, one for each check of WellFormed -/

/-- A slice whose saturation width is 1, which no width of R111 is. -/
def narrowSlice : SliceCfg := { sliceOne false with satw := 1 }
def sliceIdle : SliceOps := { u := 0, v := 0, w := 0, k := 0, op := 0, pre := 0 }
def slicePins : SlicePins :=
  { even := sliceIdle, odd := sliceIdle, pu := 0, pv := 0, puOdd := 0, pvOdd := 0, eni := true, enp := true, ena := true
    cli := false, clp := false, cla := false, csi := 0, expIn := 0, hrIn := 0, bstart := false, blast := false
    fclk := false }

/-- An absent deep memory (R75), a byte-lane width with ECC (R76), and port B of a deep memory writing (R75). -/
theorem test_refused_ports :
    (Instr.memoryPortRead (memOf true 0 6) false port72 (pinsOf 0 0)).wellFormed = false
    ∧ (Instr.memoryPortWrite (memOf false 0 0) false { port72 with width := .w36 } (pinsOf 1 0)).wellFormed = false
    ∧ (Instr.narrowWrite (memOf true 0 0) true port72 (pinsOf 1 0)).wellFormed = false := by decide +kernel

/-- A frame of 155 blocks (R137), a request of no bytes, a write without its bytes, and an access of no bytes. -/
theorem test_refused_lengths :
    (Instr.xtlFrameReceived 0 (List.replicate 155 0) 0).wellFormed = false
    ∧ (Instr.hostRequest ⟨false, 0⟩ 0 false 0 0 []).wellFormed = false
    ∧ (Instr.hostRequest ⟨false, 0⟩ 0 true 0 4 [1, 2]).wellFormed = false
    ∧ (Instr.apertureAccess ⟨false, 0⟩ 0 false 0 0).wellFormed = false := by decide +kernel

/-- A logic element in a column of another kind, a carry chain below the lowest row, and a saturation width of 1. -/
theorem test_refused_elements :
    (Instr.logicClockEdge (.laterals 35 true false true 0 0)).wellFormed = false
    ∧ (Instr.logicClockEdge (.block 0 0 { lbXa with cin := .chain } (lbPins 0))).wellFormed = false
    ∧ (Instr.sliceClockEdge ⟨0, 0⟩ narrowSlice slicePins).wellFormed = false := by decide +kernel

theorem test_refused_stops :
    (match exec (.sliceClockEdge ⟨0, 0⟩ narrowSlice slicePins) State.reset with
      | .fault f => decide (f = .illFormed) | .next _ => false | .refused _ => false) = true := by decide +kernel

/-! ### The worked examples of the spec -/

/-- File 00, identification codes of stepping A; file 20, identifying a register from its offset. -/
theorem test_example_codes :
    State.reset.word DEV_IDCODE.off = 0x092165AF ∧ State.reset.word DEV_CODE.off = 0x9216A700
    ∧ State.reset.word 0x131000 = 0x00410003 ∧ MPE_CARVE.off 3 = 0x131044 := by decide +kernel

/-- File 09, a 256-byte read from Q59 to DMC7: the port IDs and the first turns of the two routes. -/
theorem test_example_route :
    quayPort 59 = 345 ∧ dmcPort 7 = 746
    ∧ State.reset.routeOf 5 3 (packetOf 0 0 746 0) = some 0 ∧ State.reset.routeOf 11 3 (packetOf 0 0 746 0) = some 2
    ∧ State.reset.routeOf 11 5 (packetOf 0 0 345 0) = some 0 ∧ State.reset.routeOf 5 5 (packetOf 0 0 345 0) = some 3 := by
  decide +kernel

/-- File 07, one content frame address. -/
theorem test_example_frame : frameAddr 1 12 423 7 3 = 0x5869DC18 ∧ frameExists 0x5869DC18 = true := by decide +kernel

/-- Two ranks of x8 32 Gb devices at controllers 0 and 2, interleaved with the bank hash on. -/
def card32 : State := st [(DMC_GEOM.density 0, 2), (DMC_GEOM.ranks 0, 1), (DMC_GEOM.density 2, 2), (DMC_GEOM.ranks 2, 1)]

/-- File 10, where one DRAM offset lands: DMC2, rank 0, bank group 2, bank 1, row 0x12345, and line 37 of the row. -/
theorem test_example_dram :
    card32.dramPlace 0x1234567A40 = some (2, 0x2468ACF40)
    ∧ card32.linePlace 2 (0x2468ACF40 / 64) = (4 * 2 + 1, 0x12345) := by decide +kernel

/-- File 11, sizing a 32 GiB channel. -/
theorem test_example_sizing :
    (levelCounts (28608 * 256) 7).take 8 = [7323648, 915456, 114432, 14304, 1788, 224, 28, 4]
    ∧ metaUnits 28608 = 1060540 := by decide +kernel

/-- File 12, R384: a cut of the toll leaves a debt. -/
theorem test_example_toll :
    let s := (st [(SE_SC_TOLL.toll 5, 25000)]).putS (SE_SC_BAL.v 5) 5000
    (s.writeToll 5 5000).getS (SE_SC_BAL.v 5) = -15000 := by decide +kernel

/-- File 04, scaling one radix-2 FFT stage: the shift, the exponent, the aligned components and the headrooms. -/
theorem test_example_block :
    let guard : BfpCfg := { m := 18, g := 2, f := 0, norm := false, first := true, last := true }
    let norm : BfpCfg := { guard with norm := true }
    blockValues guard 3 1 = (1, 4) ∧ blockValues guard 4 1 = (1, 5) ∧ blockValues norm 4 5 = (-3, 1)
    ∧ [40000, -12345, 30001, 7].map (fun v : Int => shiftHalfEven v 1) = [20000, -6172, 15000, 4]
    ∧ headroom 18 40000 = 1 ∧ headroom 18 47000 = 1 ∧ headroom 18 3000 = 5 := by decide +kernel

/-- File 17, one planner decision on an aged S3 part: the descent and the regulator's word. -/
theorem test_example_planner :
    autoRequest (some 790) false 784 = (790, true) ∧ autoRequest (some 790) true 784 = (788, true)
    ∧ autoRequest (some 788) true 784 = (786, true) ∧ autoRequest (some 786) true 784 = (784, false)
    ∧ voutWord 784 (-12) = 0x0C8B ∧ deratingNeed 784 10 = 0 := by decide +kernel

end Sys2Proof.Tests
end

section
/-! Where a command stops (log entry 2), and that a queue of well-formed commands runs to its end. -/

namespace Sys2Proof.Machine

/-! ### Ill-formed commands stop -/

theorem mirrored_fault {f : State → Out} {s : State} {r : Fault} (h : f s = .fault r) : mirrored f s = .fault r := by
  simp only [mirrored, h]

/-- The one check of the three commands of a memory port. -/
theorem mirrored_portEdge_illFormed {m : MemRef} {portB : Bool} {cfg : PortCfg} {pins : PortPins} (s : State)
    (h : portFits m portB cfg pins = false) :
    mirrored (fun s => s.portEdge m portB cfg pins) s = .fault .illFormed :=
  mirrored_fault (by simp [State.portEdge, h])

theorem execXtlFrameReceived_illFormed {lane : Fin 4} {blocks : List (BitVec 64)} {arrival : Time} (s : State)
    (h : (Instr.xtlFrameReceived lane blocks arrival).wellFormed = false) :
    execXtlFrameReceived lane blocks arrival s = .fault .illFormed := by
  simp only [Instr.wellFormed, Bool.or_eq_false_iff, decide_eq_false_iff_not] at h
  exact mirrored_fault (if_pos (by simp only [Bool.or_eq_true, decide_eq_true_eq]; omega))

theorem execHostRequest_illFormed {f : Fn} {bar : Fin 5} {isWrite : Bool} {off : BitVec 38} {len : Fin 4097}
    {data : List Byte} (s : State) (h : (Instr.hostRequest f bar isWrite off len data).wellFormed = false) :
    execHostRequest f bar isWrite off len data s = .fault .illFormed := by
  refine if_pos ?_
  cases isWrite <;> simp [Instr.wellFormed] at h ⊢ <;> omega

theorem execApertureAccess_illFormed {f : Fn} {off : BitVec 16} {isWrite : Bool} {bytes : Fin 9} {v : BitVec 64}
    (s : State) (h : (Instr.apertureAccess f off isWrite bytes v).wellFormed = false) :
    execApertureAccess f off isWrite bytes v s = .fault .illFormed := by
  simp only [Instr.wellFormed, decide_eq_false_iff_not] at h
  exact mirrored_fault (if_pos (by omega))

theorem execLogicClockEdge_illFormed {t : LogicTarget} (s : State) (h : t.fits = false) :
    execLogicClockEdge t s = .fault .illFormed := by
  cases t with
  | block col row cfg pins =>
    simp only [LogicTarget.fits, Bool.and_eq_false_iff, decide_eq_false_iff_not] at h
    exact if_pos (by simpa using h)
  | laterals col north capture en used d =>
    simp only [LogicTarget.fits, decide_eq_false_iff_not] at h
    exact if_pos h

theorem execSliceClockEdge_illFormed {sl : SliceRef} {cfg : SliceCfg} (pins : SlicePins) (s : State)
    (h : sliceFits sl cfg = false) : execSliceClockEdge sl cfg pins s = .fault .illFormed := by
  simp [execSliceClockEdge, h]

/-- An ill-formed command stops with the one fault; only eight commands can be ill-formed. -/
theorem exec_illFormed (c : Instr) (s : State) (h : c.wellFormed = false) : exec c s = .fault .illFormed := by
  cases c with
  | memoryPortWrite m portB cfg pins => exact mirrored_portEdge_illFormed s h
  | memoryPortRead m portB cfg pins => exact mirrored_portEdge_illFormed s h
  | narrowWrite m portB cfg pins => exact mirrored_portEdge_illFormed s h
  | xtlFrameReceived lane blocks arrival => exact execXtlFrameReceived_illFormed s h
  | hostRequest f bar isWrite off len data => exact execHostRequest_illFormed s h
  | apertureAccess f off isWrite bytes v => exact execApertureAccess_illFormed s h
  | logicClockEdge t => exact execLogicClockEdge_illFormed s h
  | sliceClockEdge sl cfg pins => exact execSliceClockEdge_illFormed pins s h
  | _ => exact absurd h (by simp [Instr.wellFormed])

/-- Settles O2: a well-formed command answers in every state, and the eight commands that can be ill-formed check it
first. -/
theorem onlyIllFormedCommandsStop : Obligations.OnlyIllFormedCommandsStop := by
  unfold Obligations.OnlyIllFormedCommandsStop
  refine fun c s => ⟨⟨fun ⟨t, ht⟩ => ?_, exec_answers c s⟩, exec_illFormed c s⟩
  by_contra hw
  rw [exec_illFormed c s (by simpa using hw)] at ht
  cases ht

/-! ### A step of a well-formed queue -/

theorem step_nil {s : State} (h : s.pending = []) : step s = .next (s.elapse 1) := by simp [step, h]

theorem step_cons {s : State} {c : Instr} {rest : List Instr} (h : s.pending = c :: rest) :
    step s = exec c { s with pending := rest } := by simp [step, h]

/-- Settles O3, by cases on the queue: time passes and nothing waits, or the front command answers and leaves the rest
of the queue as it is. -/
theorem wellFormedQueuesNeverStop : Obligations.WellFormedQueuesNeverStop := by
  unfold Obligations.WellFormedQueuesNeverStop
  intro s hs
  cases hq : s.pending with
  | nil => exact ⟨s.elapse 1, step_nil hq, hs, hq⟩
  | cons c rest =>
    obtain ⟨hc, hrest⟩ : c.wellFormed = true ∧ rest.all Instr.wellFormed = true := by
      simpa only [State.queueFits, hq, List.all_cons, Bool.and_eq_true] using hs
    obtain ⟨t, ht⟩ := exec_answers c { s with pending := rest } hc
    have hp : t.pending = rest := exec_pending c _ t ht
    exact ⟨t, (step_cons hq).trans ht, by rw [State.queueFits, hp, hrest], hp⟩

end Sys2Proof.Machine
end

section
/-! What a store of a field, a write under the access codes and a write of sparse memory leave. -/

namespace Sys2Proof.Machine

/-! ### Consecutive writes of sparse memory -/

section
variable {α : Type} [DecidableEq α] (d : Nat → α)

theorem KMap.get_setMany_outside (m : KMap α) {k j : Nat} (vs : List α) (h : j < k ∨ k + vs.length ≤ j) :
    (m.setMany d k vs).get d j = m.get d j := by
  induction vs generalizing m k with
  | nil => rfl
  | cons v vs ih =>
    rw [List.length_cons] at h
    calc ((m.set d k v).setMany d (k + 1) vs).get d j = (m.set d k v).get d j := ih _ (by omega)
      _ = m.get d j := KMap.get_set_ne d m v (by omega)

theorem KMap.get_setMany_inside (m : KMap α) (k : Nat) (vs : List α) (i : Nat) (h : i < vs.length) :
    (m.setMany d k vs).get d (k + i) = vs[i] := by
  induction vs generalizing m k i with
  | nil => exact absurd h (Nat.not_lt_zero i)
  | cons v vs ih =>
    cases i with
    | zero =>
      calc ((m.set d k v).setMany d (k + 1) vs).get d k = (m.set d k v).get d k :=
            KMap.get_setMany_outside d _ vs (Or.inl (Nat.lt_succ_self k))
        _ = v := KMap.get_set_same d m k v
    | succ i =>
      have := ih (m.set d k v) (k + 1) i (Nat.lt_of_succ_lt_succ h)
      rwa [Nat.add_right_comm] at this

end

/-! ### Storing a field -/

theorem State.sameRegs_setWord (s : State) (o : Nat) (w : Word) : s.SameRegs (s.setWord o w) [o] :=
  fun _ h => s.word_setWord_ne w (List.ne_of_not_mem_cons h)

theorem State.onlyRegs_setWord (s : State) (o : Nat) (w : Word) : s.OnlyRegs (s.setWord o w) := rfl

theorem State.sameRegs_put (s : State) (f : Field) (v : Nat) : s.SameRegs (s.put f v) [f.off] :=
  s.sameRegs_setWord f.off _

theorem State.onlyRegs_put (s : State) (f : Field) (v : Nat) : s.OnlyRegs (s.put f v) := rfl

/-! ### One after another -/

theorem State.OnlyRegs.trans {s t u : State} (h : s.OnlyRegs t) (h' : t.OnlyRegs u) : s.OnlyRegs u := by
  unfold State.OnlyRegs at *
  rw [h', h]

theorem State.onlyRegs_each {α : Type} (s : State) (l : List α) (f : State → α → State)
    (h : ∀ (t : State) (a : α), t.OnlyRegs (f t a)) : s.OnlyRegs (s.each l f) := by
  unfold State.each
  induction l generalizing s with
  | nil => rfl
  | cons a l ih => exact (h s a).trans (ih _)

/-- What one round leaves as it is, all rounds do. -/
theorem State.each_keeps {α β : Type} (g : State → β) (s : State) (l : List α) (f : State → α → State)
    (h : ∀ t a, g (f t a) = g t) : g (s.each l f) = g s := by
  unfold State.each
  induction l generalizing s with
  | nil => rfl
  | cons a l ih => exact (ih (f s a)).trans (h s a)

theorem State.when_keeps {β : Type} (g : State → β) (s : State) (c : Bool) (f : State → State)
    (h : ∀ t, g (f t) = g t) : g (s.when c f) = g s := by
  cases c
  · rfl
  · exact h s

/-- Settles O7: the laws of the register space and of sparse storage, a block of writes by induction on its values. -/
theorem storesReadBackAndLeaveTheRest : Obligations.StoresReadBackAndLeaveTheRest := by
  unfold Obligations.StoresReadBackAndLeaveTheRest
  constructor
  · intro s f v hf
    refine ⟨s.get_put_same v hf, fun g hg apart => ?_, s.sameRegs_put f v, s.onlyRegs_put f v⟩
    rcases apart with off | apart
    · exact s.get_put_off v off
    · exact s.get_put_apart v hg apart
  · exact fun d m n k j v vs => ⟨KMap.get_set d m k j v, KMap.get_setMany_outside d m vs, KMap.get_setMany_inside d m k vs,
      fun w => ⟨KMap.wf_set d k v w, KMap.wf_setMany d k vs w, KMap.wf_eraseRange d k j w⟩, KMap.ext d⟩

/-! ### Writes under the access codes (R10) -/

/-- The value that a write of `v` over `old` stores in a field that software may change, none where the field stands. -/
def FieldSpec.stored (f : FieldSpec) (locked : Bool) (old v : Word) : Option Nat :=
  match f.acc with
  | .rw | .wos => some (Clamp.apply f.clamp (bitsOf v f.hi f.lo))
  | .rwl => if locked then none else some (Clamp.apply f.clamp (bitsOf v f.hi f.lo))
  | .w1c => some (bitsOf (old &&& ~~~v) f.hi f.lo)
  | .ro | .wo | .w1s | .rc => none

/-- The word with the field replaced by a value, if there is one. -/
def FieldSpec.store (f : FieldSpec) (a : Word) (n : Option Nat) : Word :=
  n.elim a (setBits a f.hi f.lo)

theorem writeFields_eq_foldl_store (fs : List FieldSpec) (locked : Bool) (old v : Word) :
    writeFields fs locked (fun _ => true) old v = fs.foldl (fun a f => f.store a (f.stored locked old v)) old := by
  unfold writeFields
  congr
  funext a f
  cases h : f.acc <;> cases locked <;> simp [FieldSpec.stored, FieldSpec.store, h]

/-- A bit outside a field stands when the field is stored. -/
theorem FieldSpec.getLsbD_store_outside (f : FieldSpec) (a : Word) (x : Option Nat) {n : Nat} (hn : n < 32)
    (h : n < f.lo ∨ f.hi < n) : (f.store a x).getLsbD n = a.getLsbD n := by
  cases x with
  | none => rfl
  | some v =>
    exact (setBits_getLsbD a f.hi f.lo v n hn).trans (if_neg (by omega))

/-- A bit outside every field stands when all are stored. -/
theorem getLsbD_foldl_store_outside (fs : List FieldSpec) (x : FieldSpec → Option Nat) (a : Word) {n : Nat} (hn : n < 32)
    (h : ∀ f ∈ fs, n < f.lo ∨ f.hi < n) : (fs.foldl (fun a f => f.store a (x f)) a).getLsbD n = a.getLsbD n := by
  induction fs generalizing a with
  | nil => rfl
  | cons f fs ih =>
    rw [List.forall_mem_cons] at h
    exact (ih _ h.2).trans (f.getLsbD_store_outside a _ hn h.1)

theorem bitsOf_foldl_store_outside (fs : List FieldSpec) (x : FieldSpec → Option Nat) (a : Word) {hi lo : Nat}
    (hhi : hi < 32) (h : ∀ f ∈ fs, hi < f.lo ∨ f.hi < lo) :
    bitsOf (fs.foldl (fun a f => f.store a (x f)) a) hi lo = bitsOf a hi lo := by
  refine Nat.eq_of_testBit_eq fun k => ?_
  rw [bitsOf_testBit, bitsOf_testBit]
  by_cases hk : k < hi + 1 - lo
  · rw [getLsbD_foldl_store_outside fs x a (by omega) fun f hf => by have := h f hf; omega]
  · simp [hk]

theorem FieldSpec.bitsOf_store (f : FieldSpec) (a : Word) (x : Option Nat) (h : f.hi < 32) :
    bitsOf (f.store a x) f.hi f.lo = x.elim (bitsOf a f.hi f.lo) (· % 2 ^ (f.hi + 1 - f.lo)) := by
  cases x with
  | none => rfl
  | some v => exact bitsOf_setBits_same a v h

/-- Of fields that share no bit, each holds what was stored in it, or what it held before. -/
theorem bitsOf_foldl_store {fs : List FieldSpec} (x : FieldSpec → Option Nat) (a : Word) (hi : ∀ f ∈ fs, f.hi < 32)
    (apart : fs.Pairwise fun f g => f.hi < g.lo ∨ g.hi < f.lo) {f : FieldSpec} (hf : f ∈ fs) :
    bitsOf (fs.foldl (fun a f => f.store a (x f)) a) f.hi f.lo
      = (x f).elim (bitsOf a f.hi f.lo) (· % 2 ^ (f.hi + 1 - f.lo)) := by
  obtain ⟨before, after, rfl⟩ := List.append_of_mem hf
  rw [List.pairwise_append, List.pairwise_cons] at apart
  obtain ⟨-, ⟨hafter, -⟩, hbefore⟩ := apart
  rw [List.foldl_append, List.foldl_cons,
    bitsOf_foldl_store_outside after x _ (hi f hf) hafter, f.bitsOf_store _ _ (hi f hf),
    bitsOf_foldl_store_outside before x a (hi f hf) fun g hg => (hbefore g hg f List.mem_cons_self).symm]

/-- What a write leaves in each field. -/
theorem bitsOf_writeFields {fs : List FieldSpec} (locked : Bool) (old v : Word) (hi : ∀ f ∈ fs, f.hi < 32)
    (apart : fs.Pairwise fun f g => f.hi < g.lo ∨ g.hi < f.lo) {f : FieldSpec} (hf : f ∈ fs) :
    bitsOf (writeFields fs locked (fun _ => true) old v) f.hi f.lo
      = (f.stored locked old v).elim (bitsOf old f.hi f.lo) (· % 2 ^ (f.hi + 1 - f.lo)) := by
  rw [writeFields_eq_foldl_store]
  exact bitsOf_foldl_store (fun f => f.stored locked old v) old hi apart hf

theorem bitsOf_mod (w : Word) (hi lo : Nat) : bitsOf w hi lo % 2 ^ (hi + 1 - lo) = bitsOf w hi lo :=
  Nat.mod_eq_of_lt (bitsOf_lt w hi lo)

/-- Settles O8: a write is one store after another into fields that share no bit, so each field holds what its own code
makes of the value. -/
theorem writesFollowTheAccessCodes : Obligations.WritesFollowTheAccessCodes := by
  unfold Obligations.WritesFollowTheAccessCodes
  intro fs locked old v hfs apart
  refine ⟨fun f hf hc => ?_, fun n hn hout => ?_⟩
  · have hnew := bitsOf_writeFields locked old v (fun g hg => (hfs g hg).2) apart hf
    refine ⟨fun h => ?_, fun h => ?_, fun h => ?_⟩ <;> rw [hnew]
    · rcases h with h | ⟨h, rfl⟩ <;> simp [FieldSpec.stored, Clamp.apply, h, hc, bitsOf_mod]
    · simp [FieldSpec.stored, h, bitsOf_mod]
    · rcases h with h | h | h | h | ⟨h, rfl⟩ <;> simp [FieldSpec.stored, h]
  · rw [writeFields_eq_foldl_store]
    exact getLsbD_foldl_store_outside fs _ old hn hout

end Sys2Proof.Machine
end

section
/-! The commands that reach a register by its offset, and those of a page's header (R9 to R11, R556). -/

namespace Sys2Proof.Machine

open Reg

/-! ### Register writes and reads -/

theorem execRegisterWrite_word (s : State) {off : BitVec 26} (v : Word) (sender : Sender) (h : off.toNat % 4 = 0) :
    execRegisterWrite sender off 4 v s = .next (s.mirrorFrom (s.regWrite sender off.toNat v)) := by
  simp [execRegisterWrite, mirrored, h]

theorem execRegisterWrite_part (s : State) {off : BitVec 26} {bytes : Fin 5} (v : Word) (sender : Sender)
    (h : bytes ≠ 4 ∨ off.toNat % 4 ≠ 0) : execRegisterWrite sender off bytes v s = .next s := by
  have hb : bytes.val ≠ 4 ∨ off.toNat % 4 ≠ 0 := h.imp_left fun hb e => hb (Fin.ext e)
  exact if_pos (by simpa using hb)

theorem length_toBytes (v n : Nat) : (toBytes v n).length = n := by
  induction n generalizing v with
  | zero => rfl
  | succ n ih => exact congrArg (· + 1) (ih (v / 256))

theorem State.latchFor_of_notMem (s : State) {off : Nat} (h : off ∉ [CLK_AON_TIME.off 0, TH_TIME.off 0, FLT_ENT.off 0]) :
    s.latchFor off = s := by
  simp only [List.mem_cons, List.not_mem_nil, or_false, not_or] at h
  simp [State.latchFor, h]

/-- A read of a whole register that latches nothing. -/
theorem State.readPart_word (s : State) {off : Nat} (h4 : off % 4 = 0)
    (h : off ∉ [CLK_AON_TIME.off 0, TH_TIME.off 0, FLT_ENT.off 0]) :
    s.readPart off 4 = (toBytes (readFields (fieldsAt off) (s.shown off)).toNat 4,
      s.setWord off (clearRead (fieldsAt off) 0 4 (s.word off))) := by
  simp [State.readPart, h4, s.latchFor_of_notMem h, List.take_of_length_le, length_toBytes]

theorem execRcRead_word (s : State) {off : BitVec 26} (h4 : off.toNat % 4 = 0)
    (h : off.toNat ∉ [CLK_AON_TIME.off 0, TH_TIME.off 0, FLT_ENT.off 0]) :
    execRcRead off 4 s = .next ((s.setWord off.toNat (clearRead (fieldsAt off.toNat) 0 4 (s.word off.toNat))).answering
      (toBytes (readFields (fieldsAt off.toNat) (s.shown off.toNat)).toNat 4)) := by
  show Host.Outcome.next ((s.readPart off.toNat 4).2.answering (s.readPart off.toNat 4).1) = _
  rw [s.readPart_word h4 h]

/-! ### A page's header -/

section
variable (s : State) {page : BitVec 14} {p : PageSpec} {i : Nat} (at_ : locate (4096 * page.toNat) = some (p, i, 0))
  (header : p.header = true)
include at_ header

theorem execEvtClear_header (v hwSet : Word) :
    execEvtClear page v hwSet s = .next (s.clearEvents (4096 * page.toNat) v hwSet) := by
  simp [execEvtClear, at_, header]

theorem execEvtForce_header (v : Word) :
    execEvtForce page v s = .next (s.forceEvents (4096 * page.toNat) (evtMask p i) v) := by
  simp [execEvtForce, at_, header]

theorem execPageLockSet_header (v : Word) : execPageLockSet page v s = .next (s.lockPage (4096 * page.toNat) v) := by
  simp [execPageLockSet, at_, header]

end

/-- A write of PAGE_LOCK stores a 1 or nothing. -/
theorem State.lockPage_cases (s : State) (pg : Nat) (v : Word) :
    bit v 0 = true ∧ s.lockPage pg v = s.put (PAGE_LOCK.lock pg) 1 ∨ bit v 0 = false ∧ s.lockPage pg v = s := by
  cases h : bit v 0 <;> simp [State.lockPage, State.when, h]

theorem State.locked_lockPage (s : State) (pg : Nat) (v : Word) :
    (s.lockPage pg v).locked pg = (s.locked pg || bit v 0) := by
  rcases s.lockPage_cases pg v with ⟨hv, h⟩ | ⟨hv, h⟩ <;> rw [h, hv]
  · have : (s.put (PAGE_LOCK.lock pg) 1).get (PAGE_LOCK.lock pg) = 1 := s.get_put_same 1 (by decide : 0 < 32)
    simp [State.locked, State.is, this]
  · rw [Bool.or_false]

theorem State.sameRegs_lockPage (s : State) (pg : Nat) (v : Word) : s.SameRegs (s.lockPage pg v) [PAGE_LOCK.off pg] := by
  rcases s.lockPage_cases pg v with ⟨-, h⟩ | ⟨-, h⟩ <;> rw [h]
  · exact s.sameRegs_put (PAGE_LOCK.lock pg) 1
  · exact fun _ _ => rfl

theorem State.onlyRegs_lockPage (s : State) (pg : Nat) (v : Word) : s.OnlyRegs (s.lockPage pg v) := by
  rcases s.lockPage_cases pg v with ⟨-, h⟩ | ⟨-, h⟩ <;> rw [h]
  · exact s.onlyRegs_put _ 1
  · exact rfl

/-- Settles O10: each command is one store, of the register it names or of a register of the page's header. -/
theorem registerCommandsComplete : Obligations.RegisterCommandsComplete := by
  unfold Obligations.RegisterCommandsComplete
  refine ⟨fun s off v sender h => execRegisterWrite_word s v sender h,
    fun s off bytes v sender h => execRegisterWrite_part s v sender h, fun s off h4 h => ?_,
    fun s page v hwSet p i at_ header => ?_, fun s page v p i at_ header => ?_, fun s page v p i at_ header => ?_⟩
  · exact ⟨_, execRcRead_word s h4 h, rfl, s.word_setWord_same _ _, s.sameRegs_setWord _ _, rfl⟩
  · exact ⟨_, execEvtClear_header s at_ header v hwSet, s.word_setWord_same _ _, s.sameRegs_setWord _ _,
      s.onlyRegs_setWord _ _⟩
  · exact ⟨_, execEvtForce_header s at_ header v, s.word_setWord_same _ _, s.sameRegs_setWord _ _,
      s.onlyRegs_setWord _ _⟩
  · exact ⟨_, execPageLockSet_header s at_ header v, s.locked_lockPage _ v, s.sameRegs_lockPage _ v,
      s.onlyRegs_lockPage _ v⟩

end Sys2Proof.Machine
end

section
/-! What a warm reset and a block reset leave (R12, R29 to R32). -/

namespace Sys2Proof.Machine

open Reg

/-! ### What the steps of a reset do not touch -/

/-- The state without what the steps of a reset may touch on their way: the registers, the free values, the clocks, the
power domains, the ageing summary, the Towpath, and of the fault log all but the ring and the backlog. -/
def State.steady (s : State) : State :=
  { s with regs := [], freeCount := 0, clk := {}, pwr := {}, age := {}, twp := {}
           flt := { ring := s.flt.ring, backlog := s.flt.backlog } }

section
variable (s : State)

theorem State.steady_handEntry (e : FaultRec) : (s.handEntry e).steady = s.steady := by
  unfold State.handEntry
  dsimp only
  split
  · rfl
  · split <;> rfl

theorem State.steady_raise (pg n : Nat) (c : BitVec 2) (k i j : Nat) : (s.raise pg n c k i j).steady = s.steady := by
  have h : ((s.event pg n).handEntry (pageEntry pg c k i j)).steady = s.steady := State.steady_handEntry _ _
  unfold State.raise State.log
  dsimp only
  split
  · exact h
  · exact h

theorem State.steady_alert (n : Nat) : (s.alert n).steady = s.steady := by
  unfold State.alert
  dsimp only
  split <;> rfl

theorem State.steady_setDom (d v : Nat) : (s.setDom d v).steady = s.steady :=
  State.each_keeps State.steady _ _ _ fun _ _ => rfl

theorem State.steady_openDomains : s.openDomains.steady = s.steady := by
  refine State.each_keeps State.steady _ _ _ fun t d => ?_
  have h : ((t.setDom d 0).raise pagePWR 2 INFO 0x1103 d 0).steady = t.steady :=
    (State.steady_raise _ _ _ _ _ _ _).trans (t.steady_setDom d 0)
  dsimp only
  split
  · rfl
  · split <;> exact h

theorem State.steady_setWin (t : Transport) (w : Window) : (s.setWin t w).steady = s.steady := by
  cases t <;> rfl

theorem State.steady_endAccess (t : Transport) (status : Nat) (data : Word) :
    (s.endAccess t status data).steady = s.steady := by
  unfold State.endAccess
  refine (State.when_keeps State.steady _ _ _ fun v => v.steady_alert 6).trans ?_
  refine (State.when_keeps State.steady _ _ _ fun _ => ?_).trans (State.steady_setWin _ t _)
  rfl

theorem State.steady_endWindows : s.endWindows.steady = s.steady := by
  refine State.each_keeps State.steady s _ _ fun u t => ?_
  refine (State.steady_setWin _ t _).trans ?_
  refine (State.each_keeps State.steady _ _ _ fun v a => ?_).trans ?_
  · exact (State.steady_endAccess _ t _ _).trans (v.steady_setWin t _)
  · exact State.when_keeps State.steady u _ _ fun v => v.steady_endAccess t _ _

theorem State.OnlyRegs.steady_eq {s t : State} (h : s.OnlyRegs t) : t.steady = s.steady := by
  rw [h]
  rfl

theorem State.onlyRegs_loadFuses (at_ : Nat → Bool) (cold : Bool) : s.OnlyRegs (s.loadFuses at_ cold) := by
  refine State.OnlyRegs.trans (s.onlyRegs_each s.fuse _ fun t e => ?_) (State.onlyRegs_setWord _ CFG_FUSE_STAT.off _)
  split
  · rfl
  · split <;> rfl

theorem State.steady_rescan : s.rescan.steady = s.steady :=
  State.when_keeps State.steady _ _ _ fun _ => rfl

theorem State.steady_trimLost (x : Nat) : (s.trimLost x).steady = s.steady := by
  unfold State.trimLost
  split
  · rfl
  · split
    · rfl
    · exact State.steady_raise _ _ _ _ _ _ _

theorem State.steady_showMarks : s.showMarks.steady = s.steady := by
  unfold State.showMarks
  dsimp only
  split
  · rfl
  · split
    · exact State.when_keeps State.steady _ _ _ fun _ => rfl
    · exact State.steady_trimLost _ _

theorem State.steady_flashSpoil (a n : Nat) :
    (s.flashSpoil a n).steady = { s.steady with flash := (s.flashSpoil a n).flash } := by
  unfold State.flashSpoil
  induction List.range n generalizing s with
  | nil => rfl
  | cons i l ih => exact ih _

theorem State.cfg_flashSpoil (a n : Nat) : (s.flashSpoil a n).cfg = s.cfg := by
  have h := congrArg State.cfg (s.steady_flashSpoil a n)
  exact h

theorem State.steady_dropFlash :
    s.dropFlash.steady = { s.steady with cfg := s.dropFlash.cfg, flash := s.dropFlash.flash } := by
  unfold State.dropFlash
  split
  · rfl
  · dsimp only
    split
    · rfl
    · rw [State.steady_flashSpoil, State.cfg_flashSpoil]
      rfl

/-- Every field that a warm reset keeps, and every field outside the always-on domain at its reset state. -/
theorem State.steady_warmReset : s.warmReset.steady =
    { fuse := s.fuse, now := s.now, answer := s.answer, pins := s.pins, fuses := s.fuses, jtag := s.jtag
      flt := { ring := s.flt.ring, backlog := s.flt.backlog }, flash := s.dropFlash.flash, pending := s.pending
      pci := { fns := s.pci.fns.mapEntries pciFnDefault fun _ f => { pmeEn := f.pmeEn, pmeStatus := f.pmeStatus } }
      pair := { driven := s.pair.driven } } := by
  have before : ∀ t : State, ((t.resetRegs (fun _ => true) true).loadFuses (fun _ => true) false).steady = t.steady :=
    fun t => ((t.resetRegs _ true).onlyRegs_loadFuses _ false).steady_eq
  have h := ((before _).trans s.dropFlash.openDomains.steady_endWindows).trans s.dropFlash.steady_openDomains
  rw [s.steady_dropFlash] at h
  unfold State.warmReset
  dsimp only
  generalize (s.dropFlash.openDomains.endWindows.resetRegs (fun _ => true) true).loadFuses (fun _ => true) false = u
    at h ⊢
  refine (State.steady_showMarks _).trans ((State.steady_rescan _).trans ?_)
  refine (State.when_keeps State.steady _ _ _ fun t =>
    (rfl : (t.put PAIR_STAT.role 0).steady = t.steady)).trans ?_
  simp only [State.steady, State.mk.injEq, FltState.mk.injEq] at h ⊢
  simp [h]

theorem State.flash_warmReset (h : s.cfg.flash = none) : s.warmReset.flash = s.flash := by
  have drop : s.dropFlash = s := by simp [State.dropFlash, h]
  have kept := congrArg State.flash s.steady_warmReset
  rw [drop] at kept
  exact kept

/-! ### Block resets -/

theorem execBlkReset_starts {b : ResetBlock} {v : Word} (hv : bit v 31 = true)
    (h : s.is (STATUS.in_reset (blockPage b)) = false) :
    execBlkReset b v s
      = .next ((s.put (STATUS.in_reset (blockPage b)) 1).each (blockPorts b) fun s p => s.closePort false p) := by
  simp [execBlkReset, State.writeCtrl, hv, h]

theorem execBlkReset_ignored {b : ResetBlock} {v : Word}
    (h : bit v 31 = false ∨ s.is (STATUS.in_reset (blockPage b)) = true) : execBlkReset b v s = .next s := by
  have : (!bit v 31 || s.is (STATUS.in_reset (blockPage b))) = true := by simpa using h
  simp [execBlkReset, State.writeCtrl, this]

theorem execBlockResetApply_applies {b : ResetBlock} (h : s.is (STATUS.in_reset (blockPage b)) = true)
    (closed : ∀ p ∈ blockPorts b, s.portState p = 2) : execBlockResetApply b s = .next (s.applyBlock b) := by
  have : (blockPorts b).all (fun p => s.portState p = 2) = true := by simpa using closed
  simp [execBlockResetApply, h, this]

theorem execBlockResetApply_waits {b : ResetBlock} {p : Nat} (hp : p ∈ blockPorts b) (h : s.portState p ≠ 2) :
    execBlockResetApply b s = .next s := by
  have : (blockPorts b).all (fun p => s.portState p = 2) = false := by
    simpa using ⟨p, hp, h⟩
  simp [execBlockResetApply, this]

end

/-- Settles O12: what a warm reset leaves is read off `State.steady_warmReset`; a block reset starts, waits and takes
effect by the tests of its two commands. -/
theorem resetsLeaveWhatTheirKindKeeps : Obligations.ResetsLeaveWhatTheirKindKeeps := by
  unfold Obligations.ResetsLeaveWhatTheirKindKeeps
  refine ⟨fun s => ?_, fun s _ _ hv h => execBlkReset_starts s hv h, fun s _ _ h => execBlkReset_ignored s h,
    fun s _ h closed => execBlockResetApply_applies s h closed, fun s _ _ hp h => execBlockResetApply_waits s hp h⟩
  have kept {β : Type} (g : State → β) := congrArg g s.steady_warmReset
  exact ⟨kept State.planes, kept State.mem, kept State.slices, kept State.fabric, kept State.dram, kept State.noc,
    kept State.stalls, kept State.se, kept State.ts, kept State.cc, kept State.xcv, kept State.th, kept State.pins,
    kept State.fuses, kept State.pending, kept State.now, kept State.jtag, kept (·.flt.ring), kept (·.flt.backlog),
    s.flash_warmReset⟩

end Sys2Proof.Machine
end

section
/-! Power-on, power loss, the reset pins, supplies and the requests of power domains (R488, R494 to R497). -/

namespace Sys2Proof.Machine

open Reg

section
variable (s : State)

/-! ### Power-on and power loss -/

/-- What a cold reset leaves (R12, R29), the registers and the seed of the ageing apart. -/
theorem State.coldReset_frame : s.coldReset =
    { fuses := s.fuses, fuse := s.fuse, flash := s.flash, now := s.now, freeCount := s.freeCount, answer := s.answer
      pins := s.pins, pending := s.pending, regs := s.coldReset.regs, age := s.coldReset.age } := by
  unfold State.coldReset
  dsimp only
  rw [State.onlyRegs_loadFuses]

/-- A cold load of the fuses touches the fused registers and CFG_FUSE_STAT at most. -/
theorem State.word_loadFuses_ne {o : Nat} (stat : o ≠ CFG_FUSE_STAT.off) (fused : ∀ e ∈ s.fuse, e.1 ≠ o) :
    (s.loadFuses (fun _ => true) true).word o = s.word o := by
  have key : ∀ (l : KMap Word) (t : State), (∀ e ∈ l, e.1 ≠ o) →
      (l.foldl (fun t e => t.setWord e.1 e.2) t).word o = t.word o := by
    intro l
    induction l with
    | nil => exact fun t _ => rfl
    | cons e l ih =>
      intro t h
      rw [List.forall_mem_cons] at h
      exact (ih _ h.2).trans (t.word_setWord_ne e.2 h.1.symm)
  exact (State.word_setWord_ne _ _ stat).trans (key s.fuse s fused)

theorem State.word_coldReset {o : Nat} (stat : o ≠ CFG_FUSE_STAT.off) (fused : ∀ e ∈ s.fuse, e.1 ≠ o) :
    s.coldReset.word o = resetWord o :=
  State.word_loadFuses_ne _ stat fused

/-- What the always-on domain shows of the pins that it samples. -/
def State.showPins (role : Bool) (addr : BitVec 3) : State :=
  ((s.putB PAIR_STAT.pin_role role).putB PAIR_STAT.role role).put TWP_CFG.addr (0x58 + addr.toNat)

theorem State.get_showPins_pinRole (role : Bool) (addr : BitVec 3) :
    (s.showPins role addr).get PAIR_STAT.pin_role = role.toNat := by
  unfold State.showPins State.putB
  rw [State.get_put_off _ _ (by decide), State.get_put_apart _ _ (by decide) (by decide),
    State.get_put_same _ _ (by decide)]
  cases role <;> rfl

theorem State.get_showPins_role (role : Bool) (addr : BitVec 3) :
    (s.showPins role addr).get PAIR_STAT.role = role.toNat := by
  unfold State.showPins State.putB
  rw [State.get_put_off _ _ (by decide), State.get_put_same _ _ (by decide)]
  cases role <;> rfl

theorem State.get_showPins_addr (role : Bool) (addr : BitVec 3) :
    (s.showPins role addr).get TWP_CFG.addr = 0x58 + addr.toNat := by
  have : addr.toNat < 8 := addr.isLt
  exact (State.get_put_same _ _ (by decide)).trans (Nat.mod_eq_of_lt (by simp only [TWP_CFG.addr]; omega))

theorem State.word_showPins_ne (role : Bool) (addr : BitVec 3) {o : Nat} (h : o ∉ [PAIR_STAT.off, TWP_CFG.off]) :
    (s.showPins role addr).word o = s.word o := by
  simp only [List.mem_cons, List.not_mem_nil, or_false, not_or] at h
  exact (State.word_put_ne _ _ h.2).trans ((State.word_put_ne _ _ h.1).trans (State.word_put_ne _ _ h.1))

/-- Power-on is a cold reset with the pins sampled, `c`, which then shows them. -/
theorem execVaonInRange_off (off : s.pwr.vaon = false) (role : Bool) (addr : BitVec 3) :
    ∃ c, c = State.coldReset { s with pins := { s.pins with pairRole := role, twpAddr := addr } }
      ∧ execVaonInRange role addr s
        = .next { c.showPins role addr with pwr := { (c.showPins role addr).pwr with vaon := true } } :=
  ⟨_, rfl, if_neg (by simp [off])⟩

theorem State.vaon_coldReset : s.coldReset.pwr.vaon = false := by rw [State.coldReset_frame]

/-! ### The reset pins -/

theorem State.pinReset_first (perst : s.pins.perst = false) (por : s.pins.por = false) (on : s.pwr.vaon = true) :
    s.pinReset = s.warmReset := by
  simp [State.pinReset, perst, por, on]

theorem State.pinReset_joined (por : s.pins.por = true) : s.pinReset = s := by simp [State.pinReset, por]

/-! ### Supplies -/

theorem State.get_put_supplyBit (n : Fin 11) : (s.put (supplyBit n.val) 1).get (supplyBit n.val) = 1 := by
  have width : n.val + 1 - n.val = 1 := Nat.add_sub_cancel_left ..
  rw [State.get_put_same _ _ (by simp only [supplyBit]; omega)]
  simp [supplyBit, width]

theorem execSupplyInRange_last {n : Fin 11} (hn : n.val ≠ 0) (von : s.pwr.vaon = true)
    (all : (s.put (supplyBit n.val) 1).allSupplies = true) :
    execSupplyInRange n s = .next { s.put (supplyBit n.val) 1 with pwr := { s.pwr with tv := true } } := by
  simp [execSupplyInRange, hn, von, all]

theorem execSupplyFault_held {n : Fin 11} (hn : n.val ≠ 0) (von : s.pwr.vaon = true) (tv : s.pwr.tv = true) :
    execSupplyFault n s = .next ({ ((s.put (supplyBit n.val) 0).raise pagePWR 0 FATAL 0x1101 n.val 0).alert 3 with
      pwr := { s.pwr with supply := true } }.warmReset) := by
  simp [execSupplyFault, hn, von, tv]

/-! ### Power domains -/

theorem State.writeDom_close {d : Nat} {v : Word} (hd : d < 2 ∨ d ∈ allDoms) (h31 : bit v 31 = true)
    (h30 : bit v 30 = false) : s.writeDom d v = s.requestClose d := by
  have : ¬ (2 ≤ d ∧ d ∉ allDoms) := fun ⟨h2, h⟩ => hd.elim (fun h' => by omega) h
  simp [State.writeDom, State.when, this, h31, h30]

theorem State.writeDom_open {d : Nat} {v : Word} (hd : d < 2 ∨ d ∈ allDoms) (h31 : bit v 31 = false)
    (h30 : bit v 30 = true) : s.writeDom d v = s.requestOpen d := by
  have : ¬ (2 ≤ d ∧ d ∉ allDoms) := fun ⟨h2, h⟩ => hd.elim (fun h' => by omega) h
  simp [State.writeDom, State.when, this, h31, h30]

section
variable {d : Nat} (switched : 0x010 ≤ d) (idle : s.fullLoading = false)
include switched idle

theorem State.requestClose_accepted (isOpen : s.get (PWR_DOM.state d) = 0) (may : s.closeRefusal d = none) :
    s.requestClose d = (s.domAnswer d 1 0).beginClose d := by
  simp [State.requestClose, Nat.not_lt.2 switched, idle, isOpen, may]

theorem State.requestClose_refused (isOpen : s.get (PWR_DOM.state d) = 0) {r : Nat} (no : s.closeRefusal d = some r) :
    s.requestClose d = s.domAnswer d 3 r := by
  simp [State.requestClose, Nat.not_lt.2 switched, idle, isOpen, no]

omit switched in
theorem State.requestOpen_closed (closed : s.get (PWR_DOM.state d) = 2) :
    s.requestOpen d = (s.domAnswer d 1 0).setDom d 3 := by
  simp [State.requestOpen, idle, closed]

end

theorem State.requestClose_alwaysOn {d : Nat} (h : d < 0x010) : s.requestClose d = s.domAnswer d 3 1 := by
  simp [State.requestClose, h]

theorem execDomainPowerOff_done {d : DomId} (hd : d.toNat ∈ allDoms) (closing : s.get (PWR_DOM.state d.toNat) = 1)
    (done : s.closeDone d.toNat = true) : execDomainPowerOff d s = .next (s.domOff d.toNat) := by
  simp [execDomainPowerOff, hd, closing, done]

theorem execDomainOpened_opening {d : DomId} (hd : d.toNat ∈ allDoms) (opening : s.get (PWR_DOM.state d.toNat) = 3) :
    execDomainOpened d s = .next (s.domOpened d.toNat) := by
  simp [execDomainOpened, hd, opening]

/-- PWR_DOM lies apart from what the event of a refusal touches. -/
theorem State.get_domAnswer {d a r : Nat} (hd : d < 0x200) {f : Field} (hf : f.off = PWR_DOM.off d) :
    (s.domAnswer d a r).get f = ((s.put (PWR_DOM.answer d) a).put (PWR_DOM.reason d) r).get f := by
  refine State.when_keeps (State.get · f) _ _ _ fun t => t.get_raise_off _ _ _ _ _ _ ?_
  rw [hf]
  simp only [PWR_DOM.off, EVT.off, EVT_CNT.off, ERR_INFO0.off, ERR_INFO1.off, FLT_DROP.off, pagePWR, pageFLT,
    List.mem_cons, List.not_mem_nil, or_false]
  omega

theorem State.get_domAnswer_answer {d a : Nat} (r : Nat) (hd : d < 0x200) (ha : a < 4) :
    (s.domAnswer d a r).get (PWR_DOM.answer d) = a := by
  rw [s.get_domAnswer hd (f := PWR_DOM.answer d) rfl,
    State.get_put_apart _ _ (by decide : 27 < 32) (by decide : 27 < 23 ∨ 25 < 26),
    State.get_put_same _ _ (by decide : 27 < 32)]
  exact Nat.mod_eq_of_lt ha

theorem State.get_domAnswer_reason {d r : Nat} (a : Nat) (hd : d < 0x200) (hr : r < 8) :
    (s.domAnswer d a r).get (PWR_DOM.reason d) = r := by
  rw [s.get_domAnswer hd (f := PWR_DOM.reason d) rfl, State.get_put_same _ _ (by decide : 25 < 32)]
  exact Nat.mod_eq_of_lt hr

end

/-- Settles O11: power-on is a cold reset with what the pins show, and every other command acts by the tests of its own
operation. -/
theorem powerAndDomainCommandsComplete : Obligations.PowerAndDomainCommandsComplete := by
  unfold Obligations.PowerAndDomainCommandsComplete
  refine ⟨fun s role addr off => ?powerOn, fun s => ⟨rfl, s.flashLoss.vaon_coldReset⟩, fun s perst por on => ?firstPin,
    fun s por => ?joinedPin, fun s => ⟨rfl, rfl⟩, fun s on _ n hn all => ?lastSupply,
    fun s on tv n hn => execSupplyFault_held s hn on tv, fun s supply all => ?recovered,
    fun s d v hd switched h31 h30 isOpen idle => ⟨fun may => ?close, fun r no => ?refuse⟩,
    fun s d v hd _ h31 h30 closed idle => ?reopen, fun s d v hd h31 h30 => ?alwaysOn,
    fun s d hd closing done => execDomainPowerOff_done s hd closing done,
    fun s d hd opening => execDomainOpened_opening s hd opening,
    fun s d a r hd ha hr => ⟨s.get_domAnswer_answer r hd ha, s.get_domAnswer_reason a hd hr⟩⟩
  case powerOn =>
    obtain ⟨c, hc, hexec⟩ := execVaonInRange_off s off role addr
    have frame := State.coldReset_frame { s with pins := { s.pins with pairRole := role, twpAddr := addr } }
    have words (o : Nat) :=
      State.word_coldReset { s with pins := { s.pins with pairRole := role, twpAddr := addr } } (o := o)
    rw [← hc] at frame words
    have kept {β : Type} (g : State → β) := congrArg g frame
    refine ⟨_, hexec, rfl, kept (·.pins.pairRole), kept (·.pins.twpAddr),
      (State.get_of_regs rfl _).trans (c.get_showPins_pinRole role addr),
      (State.get_of_regs rfl _).trans (c.get_showPins_role role addr),
      (State.get_of_regs rfl _).trans (c.get_showPins_addr role addr), kept State.flash, kept State.fuses,
      kept State.pending, kept State.mem, kept State.planes, kept State.dram, fun o ho fused => ?_⟩
    simp only [List.mem_cons, List.not_mem_nil, or_false, not_or] at ho
    obtain ⟨hpair, htwp, hstat⟩ := ho
    calc _ = (c.showPins role addr).word o := State.word_of_regs rfl o
      _ = c.word o := c.word_showPins_ne role addr (by simp [hpair, htwp])
      _ = resetWord o := words o hstat fused
  case firstPin =>
    have h := s.pinReset_first perst por on
    exact ⟨by rw [← h]; rfl, by rw [← h]; rfl⟩
  case joinedPin =>
    have h := s.pinReset_joined por
    conv_rhs => rw [← h]
    rfl
  case lastSupply =>
    exact ⟨_, execSupplyInRange_last s hn on all, rfl, (State.get_of_regs rfl _).trans (s.get_put_supplyBit n),
      fun o ho => (State.word_of_regs rfl o).trans (s.sameRegs_put (supplyBit n.val) 1 o ho), rfl⟩
  case recovered =>
    show execSupplyRecovered s = _
    simp [execSupplyRecovered, supply, all]
  case close =>
    exact congrArg Host.Outcome.next
      ((s.writeDom_close (.inr hd) h31 h30).trans (s.requestClose_accepted switched idle isOpen may))
  case refuse =>
    exact congrArg Host.Outcome.next
      ((s.writeDom_close (.inr hd) h31 h30).trans (s.requestClose_refused switched idle isOpen no))
  case reopen =>
    exact congrArg Host.Outcome.next
      ((s.writeDom_open (.inr hd) h31 h30).trans (s.requestOpen_closed idle closed))
  case alwaysOn =>
    exact congrArg Host.Outcome.next
      ((s.writeDom_close (.inl hd) h31 h30).trans (s.requestClose_alwaysOn (Nat.lt_of_lt_of_le hd (by decide))))

end Sys2Proof.Machine
end

section
/-! The address decoder, the answers and the routes of the tables that hold after reset (R27, R28, R281 to R284, R287,
R296). -/

namespace Sys2Proof.Machine

open Reg

/-! ### The address decoder -/

section
variable (s : State) (x : Nat)

theorem State.destPort_refused {a : Nat} (h : 5 ≤ a / 2 ^ 52) : s.destPort x a = none := by
  unfold State.destPort
  split
  case h_6 => rfl
  all_goals omega

theorem State.destPort_host {a : Nat} (h : a / 2 ^ 52 = 1) : s.destPort x a = some (if x ≤ 5 then 320 else 384) := by
  simp only [State.destPort, h]
  rfl

theorem State.destPort_quay {q o : Nat} (hq : q < 120) (ho : o < 2 ^ 29) :
    s.destPort x (2 * 2 ^ 52 + q * 2 ^ 29 + o) = some (quayPort q) := by
  have space : (2 * 2 ^ 52 + q * 2 ^ 29 + o) / 2 ^ 52 = 2 := by omega
  have spare : (2 * 2 ^ 52 + q * 2 ^ 29 + o) % 2 ^ 52 / 2 ^ 36 = 0 := by omega
  have quay : (2 * 2 ^ 52 + q * 2 ^ 29 + o) % 2 ^ 52 / 2 ^ 29 = q := by omega
  simp only [State.destPort, space, spare, quay]
  simp [hq]

theorem State.destPort_registers {o : Nat} (ho : o < 2 ^ 26) : s.destPort x (3 * 2 ^ 52 + o) = regPort o := by
  have space : (3 * 2 ^ 52 + o) / 2 ^ 52 = 3 := by omega
  have offset : (3 * 2 ^ 52 + o) % 2 ^ 52 = o := by omega
  have spare : o / 2 ^ 26 = 0 := by omega
  simp only [State.destPort, space, offset, spare]
  simp

theorem State.destPort_dram {o : Nat} (ho : o < 2 ^ 42) :
    s.destPort x o = if o / 2 ^ 38 ≠ 0 then none else (s.dramPlace o).map fun d => dmcPort d.1 := by
  have space : o / 2 ^ 52 = 0 := by omega
  have offset : o % 2 ^ 52 = o := by omega
  have spare : o / 2 ^ 48 = 0 := by omega
  have above : o / 2 ^ 38 % 16 = o / 2 ^ 38 := by omega
  have below : o % 2 ^ 42 = o := by omega
  simp only [State.destPort, space, offset, spare, above, below]
  simp

end

theorem portExists_dmcPort : ∀ n < 8, portExists (dmcPort n) = true := by decide

/-- Below the quays' pages every register-space offset has a port (R287). -/
theorem regPort_exists {o : Nat} (ho : o < 0x2000000) : ∃ d, regPort o = some d ∧ portExists d = true := by
  rw [← Option.any_eq_true]
  have dmc := portExists_dmcPort (o / 0x10000 % 8) (Nat.mod_lt _ (by decide))
  unfold regPort
  rw [if_neg (Nat.not_le.2 ho)]
  repeat' refine iteInduction (motive := fun d : Option Nat => d.any portExists = true) (fun _ => ?_) fun _ => ?_
  any_goals rfl
  exact dmc

/-! ### Answers -/

/-- The header check does not cover itself. -/
theorem hcrcOf_setHcrc (p : Packet) (c : BitVec 16) : hcrcOf { p with hcrc := c } = hcrcOf p := by
  simp only [hcrcOf, headerOf]

theorem hcrcOf_sealed (p : Packet) : hcrcOf (sealed p) = (sealed p).hcrc := by
  simp only [sealed, hcrcOf_setHcrc]

theorem flits_all_good (ls : List Line) : ((flits ls).all fun d => flitCheck d.1 = d.2) = true := by
  simp [flits]

/-- An answer goes back to its request's source with its tag, in VC 2 and with good checks (R289, R296). -/
theorem State.answerFrom_flight (s : State) (src : Nat) (r : Packet) {st : Nat} (ls : List Line) (synth : Bool)
    (i : Nat) (hst : st < 16) :
    ∃ p, (s.answerFrom src r st ls synth i).noc.flight = s.noc.flight ++ [(.router (portRouter src), p)]
      ∧ p.dest = r.src ∧ p.tag = r.tag ∧ p.vc = 2 ∧ p.status.toNat = st ∧ dataGood p = true ∧ hcrcOf p = p.hcrc :=
  ⟨_, rfl, rfl, rfl, rfl, BitVec.toNat_ofNat .. ▸ Nat.mod_eq_of_lt hst, flits_all_good ls, hcrcOf_sealed _⟩

/-! ### The router tables of reset -/

theorem locate_router {i o : Nat} (hi : i < 72) (ho : o < 0x1000) :
    locate (0x40000 + 0x1000 * i + o)
      = some (⟨0x40000, 0x1000, 72, true, 0x0030, 0, .warm, false, 0, false, regsNOC⟩, i, o) := by
  have index : (0x40000 + 0x1000 * i + o - 0x40000) / 0x1000 = i := by omega
  have inside : (0x40000 + 0x1000 * i + o - 0x40000) % 0x1000 = o := by omega
  have past (b k : Nat) (h : b + 0x1000 * k ≤ 0x40000) : ¬ (0x40000 + 0x1000 * i + o - b) / 0x1000 < k := by omega
  have reached (b : Nat) (h : b ≤ 0x40000) : ¬ 0x40000 + 0x1000 * i + o < b := by omega
  simp [locate, pageDirectory, locate.go, index, inside, past, reached, hi, ho]

theorem resetWord_xdir {i : Nat} (hi : i < 72) :
    resetWord (NOC_RTR_XDIR.off i) = BitVec.ofNat 32 (defaultXdir (i % 12)) := by
  simp [resetWord, NOC_RTR_XDIR.off, locate_router hi, placedReset]

theorem resetWord_ydir {i : Nat} (hi : i < 72) :
    resetWord (NOC_RTR_YDIR.off i) = BitVec.ofNat 32 (defaultYdir (i / 12)) := by
  simp [resetWord, NOC_RTR_YDIR.off, locate_router hi, placedReset]

theorem resetWord_link {i : Nat} (hi : i < 72) :
    resetWord (NOC_RTR_LINK.off i) = BitVec.ofNat 32 (existingPorts (i % 12) (i / 12) * 16 + 15) := by
  simp [resetWord, NOC_RTR_LINK.off, locate_router hi, placedReset]

theorem defaultXdir_lt : ∀ x < 12, defaultXdir x < 2 ^ 24 := by decide

theorem defaultYdir_lt : ∀ y < 6, defaultYdir y < 2 ^ 12 := by decide

theorem existingPorts_lt (x y : Nat) : existingPorts x y < 16 := by
  unfold existingPorts
  split_ifs <;> decide

/-- Column `c` in the X table of column `x`: E up to six columns on, then W. -/
theorem defaultXdir_digit : ∀ x < 12, ∀ c < 12, defaultXdir x / 4 ^ c % 4 =
    if (c + 12 - x) % 12 = 0 then 3 else if (c + 12 - x) % 12 ≤ 6 then 0 else 1 := by
  decide

/-- Row `r` in the Y table of row `y`: N up to three rows on, then S. -/
theorem defaultYdir_digit : ∀ y < 6, ∀ r < 6, defaultYdir y / 4 ^ r % 4 =
    if (r + 6 - y) % 6 = 0 then 3 else if (r + 6 - y) % 6 ≤ 3 then 0 else 1 := by
  decide

/-- The tables that steer router `i` hold what reset gives them. -/
structure State.RoutesAtReset (s : State) (i : Nat) : Prop where
  xdir : s.word (NOC_RTR_XDIR.off i) = resetWord (NOC_RTR_XDIR.off i)
  ydir : s.word (NOC_RTR_YDIR.off i) = resetWord (NOC_RTR_YDIR.off i)
  link : s.word (NOC_RTR_LINK.off i) = resetWord (NOC_RTR_LINK.off i)

section
variable {s : State} {x y : Nat} (tables : s.RoutesAtReset (12 * y + x)) (hx : x < 12) (hy : y < 6)
include tables hx hy

theorem State.RoutesAtReset.get_xdir : s.get (NOC_RTR_XDIR.v (12 * y + x)) = defaultXdir x := by
  have column : (12 * y + x) % 12 = x := by omega
  have width := defaultXdir_lt x hx
  show bitsOf (s.word (NOC_RTR_XDIR.off _)) 23 0 = _
  rw [tables.xdir, resetWord_xdir (by omega), column]
  simp only [bitsOf, BitVec.toNat_ofNat, Nat.shiftRight_zero]
  omega

theorem State.RoutesAtReset.get_ydir : s.get (NOC_RTR_YDIR.v (12 * y + x)) = defaultYdir y := by
  have row : (12 * y + x) / 12 = y := by omega
  have width := defaultYdir_lt y hy
  show bitsOf (s.word (NOC_RTR_YDIR.off _)) 11 0 = _
  rw [tables.ydir, resetWord_ydir (by omega), row]
  simp only [bitsOf, BitVec.toNat_ofNat, Nat.shiftRight_zero]
  omega

theorem State.RoutesAtReset.word_link :
    (s.word (NOC_RTR_LINK.off (12 * y + x))).toNat = existingPorts x y * 16 + 15 := by
  have column : (12 * y + x) % 12 = x := by omega
  have row : (12 * y + x) / 12 = y := by omega
  have width := existingPorts_lt x y
  rw [tables.link, resetWord_link (by omega), column, row, BitVec.toNat_ofNat]
  omega

theorem State.RoutesAtReset.get_outs : s.get (NOC_RTR_LINK.outs (12 * y + x)) = 15 := by
  show (s.word (NOC_RTR_LINK.off _)).toNat >>> 0 % 2 ^ 4 = 15
  rw [tables.word_link hx hy, Nat.shiftRight_zero]
  omega

theorem State.RoutesAtReset.get_ports : s.get (NOC_RTR_LINK.ports (12 * y + x)) = existingPorts x y := by
  have width := existingPorts_lt x y
  show (s.word (NOC_RTR_LINK.off _)).toNat >>> 4 % 2 ^ 4 = _
  rw [tables.word_link hx hy, Nat.shiftRight_eq_div_pow]
  omega

/-- To another column: the shorter way round the X ring, a tie going E (R284). -/
theorem State.RoutesAtReset.routeOf_column {p : Packet} (hp : p.dest.toNat / 64 < 12) (ne : p.dest.toNat / 64 ≠ x) :
    s.routeOf x y p = some (if (p.dest.toNat / 64 + 12 - x) % 12 ≤ 6 then 0 else 1) := by
  have away : (p.dest.toNat / 64 + 12 - x) % 12 ≠ 0 := by omega
  have digit := defaultXdir_digit x hx _ hp
  rw [if_neg away] at digit
  by_cases east : (p.dest.toNat / 64 + 12 - x) % 12 ≤ 6
  · rw [if_pos east] at digit ⊢
    simp [State.routeOf, ne, tables.get_xdir hx hy, tables.get_outs hx hy, digit, hp]
  · rw [if_neg east] at digit ⊢
    simp [State.routeOf, ne, tables.get_xdir hx hy, tables.get_outs hx hy, digit]

/-- To another row of the same column: the shorter way round the Y ring, a tie going N (R284). -/
theorem State.RoutesAtReset.routeOf_row {p : Packet} (hx' : p.dest.toNat / 64 = x) (hp : p.dest.toNat / 8 % 8 < 6)
    (ne : p.dest.toNat / 8 % 8 ≠ y) :
    s.routeOf x y p = some (if (p.dest.toNat / 8 % 8 + 6 - y) % 6 ≤ 3 then 2 else 3) := by
  have away : (p.dest.toNat / 8 % 8 + 6 - y) % 6 ≠ 0 := by omega
  have digit := defaultYdir_digit y hy _ hp
  rw [if_neg away] at digit
  by_cases north : (p.dest.toNat / 8 % 8 + 6 - y) % 6 ≤ 3
  · rw [if_pos north] at digit ⊢
    simp [State.routeOf, hx', ne, tables.get_ydir hx hy, tables.get_outs hx hy, digit, hp]
  · rw [if_neg north] at digit ⊢
    simp [State.routeOf, hx', ne, tables.get_ydir hx hy, tables.get_outs hx hy, digit]

/-- At its router a packet leaves by the port of its destination (R283, R284). -/
theorem State.RoutesAtReset.routeOf_port {p : Packet} (hp : portExists p.dest.toNat = true)
    (hx' : p.dest.toNat / 64 = x) (hy' : p.dest.toNat / 8 % 8 = y) :
    s.routeOf x y p = some (4 + p.dest.toNat % 8) := by
  have there : existingPorts x y / 2 ^ (p.dest.toNat % 8) % 2 = 1 := by
    simp only [portExists, hx', hy', Bool.and_eq_true, decide_eq_true_eq] at hp
    exact hp.2
  simp [State.routeOf, hx', hy', tables.get_ports hx hy, portLocal, hp, there]

end

theorem outPlace_local (x y l : Nat) : outPlace x y (4 + l) = .port (BitVec.ofNat 10 (portId x y l)) := by
  rw [Nat.add_comm]
  rfl

/-- A port's output leads to the port with the router's column and row and its own local number (R283). -/
theorem outPlace_port (d : BitVec 10) : outPlace (d.toNat / 64) (d.toNat / 8 % 8) (4 + d.toNat % 8) = .port d := by
  have h : portId (d.toNat / 64) (d.toNat / 8 % 8) (d.toNat % 8) = d.toNat := by
    unfold portId
    omega
  rw [outPlace_local, h, BitVec.ofNat_toNat, BitVec.setWidth_eq]

/-- Settles O41: the decoder by the top four bits, the answers by what is sent, and the routes by column, row and port. -/
theorem addressesAndRoutesFollowTheMap : Obligations.AddressesAndRoutesFollowTheMap := by
  unfold Obligations.AddressesAndRoutesFollowTheMap
  refine ⟨fun s x a => s.destPort_refused x, fun s x a => s.destPort_host x, fun s x q o => s.destPort_quay x,
    fun s x o ho => ?registers, fun s x o => s.destPort_dram x,
    fun s src r st ls i => s.answerFrom_flight src r ls false i, fun s x y p hx hy hp tables => ?route⟩
  case registers =>
    rw [s.destPort_registers x (Nat.lt_trans ho (by decide))]
    exact regPort_exists ho
  case route =>
    obtain ⟨hxdir, hydir, hlink⟩ := tables (12 * y + x) (by omega)
    have tables : s.RoutesAtReset (12 * y + x) := ⟨hxdir, hydir, hlink⟩
    have ⟨hcol, hrow⟩ : p.dest.toNat / 64 < 12 ∧ p.dest.toNat / 8 % 8 < 6 := by
      simp only [portExists, Bool.and_eq_true, decide_eq_true_eq] at hp
      exact hp.1.1
    refine ⟨?_, rfl, rfl, fun east north => ?_⟩
    · by_cases hx' : p.dest.toNat / 64 = x
      · by_cases hy' : p.dest.toNat / 8 % 8 = y
        · rw [tables.routeOf_port hx hy hp hx' hy']
          exact congrArg some (by split_ifs <;> omega)
        · rw [tables.routeOf_row hx hy hx' hrow hy']
          exact congrArg some (by split_ifs <;> omega)
      · rw [tables.routeOf_column hx hy hcol hx']
        exact congrArg some (by split_ifs <;> omega)
    · obtain ⟨rfl, rfl⟩ : x = p.dest.toNat / 64 ∧ y = p.dest.toNat / 8 % 8 := by omega
      exact outPlace_port p.dest

end Sys2Proof.Machine
end

section
/-! What an accepted read shows in NOC_INI_OUT (R310), and that the statement on requests leaves it out. -/

namespace Sys2Proof.Machine

open Reg

/-- NOC_INI_OUT shows the requests and fences that an initiator has outstanding. -/
theorem State.get_out_setIni (s : State) (i : IniPort) (v : IniState) :
    (s.setIni i v).get (NOC_INI_OUT.v (iniBlock i)) = (v.out.length + v.fences.length) % 2 ^ 13 := by
  cases i with
  | quay q =>
    have apart : (NOC_INI_OUT.v (iniBlock (.quay q))).off ≠ (QUAY_STAT.ini_out q).off := by
      simp [NOC_INI_OUT.v, NOC_INI_OUT.off, QUAY_STAT.ini_out, QUAY_STAT.off, iniBlock, iniPage, iniSecond, pageQUAY]
    exact (State.get_put_off _ _ apart).trans (State.get_put_same _ _ (by simp [NOC_INI_OUT.v]))
  | _ => exact State.get_put_same _ _ (by simp [NOC_INI_OUT.v])

section
variable {s : State} {i : IniPort} {r : NocReq} {d : Nat} (isOpen : s.portState (iniPort i) = 0)
  (fits : requestFits r = true) (dest : s.destPort (iniPort i / 64) r.addr.toNat = some d) (op : r.op = .rd)
  (room : (s.ini i).out.length + (s.ini i).fences.length < 256) (out : ∀ o ∈ (s.ini i).out, o.tag ≠ r.tag)
  (dead : r.tag ∉ (s.ini i).dead) (fences : ∀ f ∈ (s.ini i).fences, f.tag ≠ r.tag)
include isOpen fits dest op room out dead fences

/-- An accepted read joins its initiator's outstanding requests, and only a packet is sent besides. -/
theorem State.issue_read : ∃ p, s.issue i r = (s.setIni i { s.ini i with
    out := (s.ini i).out ++ [{ tag := r.tag, dest := BitVec.ofNat 10 d, op := 0, addr := r.addr, issued := s.now }] }).send
      (.router (portRouter (iniPort i))) p := by
  have notFull : ¬ 256 ≤ (s.ini i).out.length + (s.ini i).fences.length := Nat.not_le.2 room
  have unused : ¬ (((∃ o ∈ (s.ini i).out, o.tag = r.tag) ∨ r.tag ∈ (s.ini i).dead)
      ∨ ∃ f ∈ (s.ini i).fences, f.tag = r.tag) := by
    rintro ((⟨o, ho, e⟩ | h) | ⟨f, hf, e⟩)
    exacts [out o ho e, dead h, fences f hf e]
  cases i <;> exact ⟨_, by simp [State.issue, isOpen, fits, dest, op, opPosted, opCode, notFull, if_neg unused]; rfl⟩

/-- An accepted read counts in NOC_INI_OUT. -/
theorem State.get_out_issue_read : (s.issue i r).get (NOC_INI_OUT.v (iniBlock i))
    = (s.ini i).out.length + 1 + (s.ini i).fences.length := by
  obtain ⟨p, issued⟩ := State.issue_read isOpen fits dest op room out dead fences
  rw [issued]
  refine (State.get_of_regs rfl _).trans ((s.get_out_setIni i _).trans ?_)
  simp only [List.length_append, List.length_singleton]
  omega

end

/-- A 4-byte read of the first word of the register space. -/
def firstRegisterRead : NocReq :=
  { op := .rd, addr := 0x30000000000000, len := 3, cls := 0, key := 0, tag := 0, be := 0, data := [] }

/-- Refutes O39: its frame of an accepted read, `t = { s with noc := t.noc }`, keeps every register, and the read counts
in NOC_INI_OUT (R310). From reset, the configuration engine's first read takes that register from 0 to 1. -/
theorem not_nocRequestsComplete : ¬ Obligations.NocRequestsComplete := by
  unfold Obligations.NocRequestsComplete
  rintro ⟨-, -, -, accepted, -⟩
  have isOpen : State.reset.portState (iniPort .cfg) = 0 := rfl
  have fits : requestFits firstRegisterRead = true := by decide
  have dest : State.reset.destPort (iniPort .cfg / 64) firstRegisterRead.addr.toNat = some 0 := by decide
  have idle : State.reset.ini .cfg = {} := rfl
  have before : State.reset.get (NOC_INI_OUT.v (iniBlock .cfg)) = 0 := rfl
  have after : (State.reset.issue .cfg firstRegisterRead).get (NOC_INI_OUT.v (iniBlock .cfg)) = 1 :=
    State.get_out_issue_read isOpen fits dest rfl (by decide) (by simp [idle]) (by simp [idle]) (by simp [idle])
  obtain ⟨read, -, -⟩ := accepted State.reset .cfg firstRegisterRead 0 isOpen fits dest
  obtain ⟨-, -, frame⟩ := read rfl (by decide) (by simp [idle]) (by simp [idle]) (by simp [idle])
  have kept := State.get_of_regs (congrArg State.regs frame) (NOC_INI_OUT.v (iniBlock .cfg))
  rw [after] at kept
  exact absurd (kept.trans before) (by decide)

end Sys2Proof.Machine
end

section
/-! Fabric arithmetic: the carry chain (R47) and rounding half to even (R110). -/

namespace Sys2Proof.Machine

/-! ### The carry chain -/

section
variable (cfg : LbCfg) (lf lh : List Bool) (xa : BitVec 8) (cyi : Bool)

/-- One position of the chain: its sum and carry joined to those below it. -/
def carryStep (acc : List (Bool × Bool) × Bool) (p : Nat) : List (Bool × Bool) × Bool :=
  let ci := if p = 0 then carryIn cfg.cin cyi (xa.getLsbD 0)
    else match cfg.split with
      | some src => if p = 4 then carryIn src false (xa.getLsbD 4) else acc.2
      | none => acc.2
  let ge := match (cfg.pos.toList)[p]? with
    | some q => if q.genXa then xa.getLsbD p else nth lh p
    | none => false
  let co := if nth lf p then ci else ge
  (acc.1 ++ [(xor (nth lf p) ci, co)], co)

theorem carryRun_eq_foldl_carryStep :
    carryRun cfg lf lh xa cyi = ((List.range 8).foldl (carryStep cfg lf lh xa cyi) ([], false)).1 := rfl

end

theorem nth_map_range {n p : Nat} (f : Nat → Bool) (h : p < n) : nth ((List.range n).map f) p = f p := by
  simp [nth, h]

/-- What position `p` gives in the addition of two operands: its bit of the sum and its carry. -/
def addBit (a b : BitVec 8) (p : Nat) : Bool × Bool := ((a + b).getLsbD p, BitVec.carry (p + 1) a b false)

theorem addBit_last (a b : BitVec 8) : (addBit a b 7).2 = decide (256 ≤ a.toNat + b.toNat) := by
  simp [addBit, BitVec.carry, Nat.mod_eq_of_lt a.isLt, Nat.mod_eq_of_lt b.isLt]

section
variable {cfg : LbCfg} {lf lh : List Bool} {a b xa : BitVec 8} {cyi : Bool} (zero : cfg.cin = .zero)
  (whole : cfg.split = none) (gen : ∀ q ∈ cfg.pos.toList, q.genXa = false)
  (hlf : ∀ p < 8, nth lf p = xor (a.getLsbD p) (b.getLsbD p)) (hlh : ∀ p < 8, nth lh p = (a.getLsbD p && b.getLsbD p))
include zero whole gen hlf hlh

/-- With P the XOR and G the AND of the operands' bits, a position adds them to the carry from below. -/
theorem carryStep_adds (l : List (Bool × Bool)) {p : Nat} (hp : p < 8) :
    carryStep cfg lf lh xa cyi (l, BitVec.carry p a b false) p
      = (l ++ [addBit a b p], BitVec.carry (p + 1) a b false) := by
  have below : (if p = 0 then carryIn cfg.cin cyi (xa.getLsbD 0) else BitVec.carry p a b false)
      = BitVec.carry p a b false := by
    split_ifs with h
    · subst h; simp [zero, carryIn]
    · rfl
  have carryOut : (if xor (a.getLsbD p) (b.getLsbD p) then BitVec.carry p a b false else a.getLsbD p && b.getLsbD p)
      = BitVec.carry (p + 1) a b false := by
    rw [BitVec.carry_succ]
    cases a.getLsbD p <;> cases b.getLsbD p <;> simp [Bool.atLeastTwo]
  have inside : p < cfg.pos.toList.length := by simpa using hp
  simp only [carryStep, whole, List.getElem?_eq_getElem inside, gen _ (List.getElem_mem inside), below, hlf p hp, hlh p hp,
    carryOut, addBit, BitVec.getLsbD_add hp, Bool.xor_assoc, Bool.false_eq_true, if_false]

theorem foldl_carryStep_adds {n : Nat} (hn : n ≤ 8) :
    (List.range n).foldl (carryStep cfg lf lh xa cyi) ([], false)
      = ((List.range n).map (addBit a b), BitVec.carry n a b false) := by
  induction n with
  | zero => simp
  | succ n ih =>
    rw [List.range_succ, List.foldl_append, ih (Nat.le_of_succ_le hn), List.map_append]
    exact carryStep_adds zero whole gen hlf hlh _ hn

theorem carryRun_adds : carryRun cfg lf lh xa cyi = (List.range 8).map (addBit a b) := by
  rw [carryRun_eq_foldl_carryStep, foldl_carryStep_adds zero whole gen hlf hlh (Nat.le_refl 8)]

end

/-! ### Rounding half to even -/

theorem shiftHalfEven_zero (v : Int) : shiftHalfEven v 0 = v := rfl

/-- By how much rounding moves a number, with `r` the remainder and `2 ^ n` half a unit: down by the remainder where it
is below half or the quotient of a tie is even, else up to the next multiple. -/
theorem shiftHalfEven_error (v : Int) (n : Nat) : ∃ r : Int, 0 ≤ r ∧ r < 2 * (2 ^ n : Nat)
    ∧ (shiftHalfEven v (n + 1) * 2 ^ (n + 1) - v = -r
          ∧ (r < (2 ^ n : Nat) ∨ r = (2 ^ n : Nat) ∧ shiftHalfEven v (n + 1) % 2 = 0)
        ∨ shiftHalfEven v (n + 1) * 2 ^ (n + 1) - v = 2 * (2 ^ n : Nat) - r
          ∧ ((2 ^ n : Nat) < r ∨ r = (2 ^ n : Nat) ∧ shiftHalfEven v (n + 1) % 2 = 0)) := by
  have unit : (2 : Int) ^ (n + 1) = 2 * (2 ^ n : Nat) := by push_cast; ring
  have pos : (0 : Int) < 2 * (2 ^ n : Nat) := by have := Nat.two_pow_pos n; omega
  have parts := Int.mul_ediv_add_emod v (2 * (2 ^ n : Nat))
  refine ⟨v % (2 * (2 ^ n : Nat)), Int.emod_nonneg v pos.ne', Int.emod_lt_of_pos v pos, ?_⟩
  simp only [shiftHalfEven, Nat.add_one_ne_zero, if_false, Nat.add_sub_cancel, Nat.cast_pow, Nat.cast_ofNat, unit]
  push_cast at parts ⊢
  split_ifs with above tie even
  · exact .inr ⟨by linear_combination parts, .inl above⟩
  · exact .inl ⟨by linear_combination parts, .inr ⟨tie, even⟩⟩
  · exact .inr ⟨by linear_combination parts, .inr ⟨tie, by omega⟩⟩
  · exact .inl ⟨by linear_combination parts, .inl (by omega)⟩

theorem shiftHalfEven_nearest (v : Int) (n : Nat) :
    2 * (shiftHalfEven v n * 2 ^ n - v).natAbs ≤ 2 ^ n
      ∧ (2 * (shiftHalfEven v n * 2 ^ n - v).natAbs = 2 ^ n → shiftHalfEven v n % 2 = 0 ∨ n = 0) := by
  cases n with
  | zero => simp [shiftHalfEven_zero]
  | succ n =>
    obtain ⟨r, low, high, ⟨error, side⟩ | ⟨error, side⟩⟩ := shiftHalfEven_error v n
    all_goals
      rw [error, Nat.pow_succ]
      omega

/-- Settles O31: the chain by induction on its positions, rounding by the remainder beside half a unit. -/
theorem fabricArithmetic : Obligations.FabricArithmetic := by
  unfold Obligations.FabricArithmetic
  refine ⟨fun cfg a b xa cyi zero whole gen => ?_, shiftHalfEven_nearest⟩
  dsimp only
  rw [carryRun_adds zero whole gen (fun p hp => nth_map_range _ hp) fun p hp => nth_map_range _ hp]
  refine ⟨rfl, fun p hp => ?_, congrArg some (addBit_last a b)⟩
  simp [hp, addBit]

end Sys2Proof.Machine
end

section
/-! Clock edges of the fabric (R41 to R44, R53, R69) and of the slices (R103 to R111, R126). -/

namespace Sys2Proof.Machine

/-! ### Rounds over a list -/

section
variable {α β : Type} (g : State → β) {l : List α} {f : State → α → State}

/-- What every round of the list leaves as it is, all rounds do. -/
theorem State.each_keeps_of_mem (s : State) (h : ∀ x ∈ l, ∀ t, g (f t x) = g t) : g (s.each l f) = g s := by
  unfold State.each
  induction l generalizing s with
  | nil => rfl
  | cons x l ih =>
    rw [List.forall_mem_cons] at h
    exact (ih (f s x) h.2).trans (h.1 s)

/-- What one round settles and no other touches holds after all of them. -/
theorem State.each_settles (s : State) {a : α} {b : β} (ha : a ∈ l) (sets : ∀ t, g (f t a) = b)
    (h : ∀ x ∈ l, x ≠ a → ∀ t, g (f t x) = g t) : g (s.each l f) = b := by
  induction l generalizing s with
  | nil => cases ha
  | cons x l ih =>
    rw [List.forall_mem_cons] at h
    by_cases later : a ∈ l
    · exact ih (f s x) later h.2
    · obtain rfl : a = x := (List.mem_cons.1 ha).resolve_right later
      have others : g ((f s a).each l f) = g (f s a) :=
        State.each_keeps_of_mem g _ fun x hx => h.2 x hx (ne_of_mem_of_not_mem hx later)
      exact others.trans (sets s)

end

/-! ### Flip-flops -/

theorem ffKey_ne {c r i c' r' i' : Nat} (hr : r < 1200) (hi : i < 16) (hr' : r' < 1200) (hi' : i' < 16)
    (h : c ≠ c' ∨ r ≠ r' ∨ i ≠ i') : ffKey c r i ≠ ffKey c' r' i' := by
  unfold ffKey
  omega

theorem State.ff_setFf_same (s : State) (col row i : Nat) (b : Bool) : (s.setFf col row i b).ff col row i = b := by
  simp [State.ff, State.setFf]

theorem State.ff_setFf_ne (s : State) (col row i : Nat) (b : Bool) {c r j : Nat} (h : ffKey c r j ≠ ffKey col row i) :
    (s.setFf col row i b).ff c r j = s.ff c r j := by
  simp only [State.ff, State.setFf, KMap.get_set_ne _ _ _ h]

theorem State.ff_setLut (s : State) (plane : Bool) (col row p v c r i : Nat) :
    (s.setLut plane col row p v).ff c r i = s.ff c r i := rfl

/-- The state without what an edge in a logic block can change: the planes and the flip-flops. -/
def State.withoutLogic (s : State) : State := { s with planes := [], fabric := { s.fabric with ffs := [] } }

theorem State.withoutLogic_setFf (s : State) (col row i : Nat) (b : Bool) :
    (s.setFf col row i b).withoutLogic = s.withoutLogic := rfl

theorem State.withoutLogic_setLut (s : State) (plane : Bool) (col row p v : Nat) :
    (s.setLut plane col row p v).withoutLogic = s.withoutLogic := rfl

theorem State.eq_of_withoutLogic {s t : State} (h : t.withoutLogic = s.withoutLogic) :
    t = { s with planes := t.planes, fabric := { s.fabric with ffs := t.fabric.ffs } } :=
  congrArg (fun u : State => { u with planes := t.planes, fabric := { u.fabric with ffs := t.fabric.ffs } }) h

/-! ### An edge in a logic block -/

/-- The half of a block in which a position lies (R46). -/
def halfOf (cfg : LbCfg) (p : Nat) : HalfCfg := if p < 4 then cfg.low else cfg.high

/-- Whether an edge is active for the flip-flops of a half: a latch follows at either edge of its clock (R43). -/
def edgeHits (half : HalfCfg) (pins : LbPins) : Bool :=
  half.ck1 == pins.ck1 && (half.latch || pins.rising == !half.falling)

/-- The force line of the half in which a position lies (R44). -/
def fsLine (pins : LbPins) (p : Nat) : Bool := pins.fs.getLsbD (if p < 4 then 0 else 1)

/-- What the two flip-flops of a position hold after an edge, from their D inputs (R41 to R44). -/
def State.positionAfter (s : State) (col row : Nat) (cfg : LbCfg) (pins : LbPins) (p : Nat) (q : PosCfg) (da db : Bool) :
    Bool × Bool :=
  (ffNext (halfOf cfg p) q.fa (edgeHits (halfOf cfg p) pins) (fsLine pins p) (pins.en.getLsbD (if p < 4 then 0 else 2)) da
      (s.ff col row (2 * p)),
    ffNext (halfOf cfg p) q.fb (edgeHits (halfOf cfg p) pins) (fsLine pins p) (pins.en.getLsbD (if p < 4 then 1 else 3)) db
      (s.ff col row (2 * p + 1)))

/-- The two flip-flops of a position. -/
def State.position (s : State) (col row p : Nat) : Bool × Bool := (s.ff col row (2 * p), s.ff col row (2 * p + 1))

/-- Loading the two flip-flops of a position. -/
def State.setPosition (s : State) (col row p : Nat) (v : Bool × Bool) : State :=
  (s.setFf col row (2 * p) v.1).setFf col row (2 * p + 1) v.2

theorem State.ff_setPosition_ne (s : State) {col row p : Nat} (v : Bool × Bool) {c r i : Nat} (hp : p < 8)
    (hrow : row < 1200) (hr : r < 1200) (hi : i < 16) (h : c ≠ col ∨ r ≠ row ∨ i / 2 ≠ p) :
    (s.setPosition col row p v).ff c r i = s.ff c r i :=
  (State.ff_setFf_ne _ _ _ _ _ (ffKey_ne hr hi hrow (by omega) (by omega))).trans
    (State.ff_setFf_ne _ _ _ _ _ (ffKey_ne hr hi hrow (by omega) (by omega)))

theorem State.position_setPosition (s : State) {row p : Nat} (col : Nat) (v : Bool × Bool) (hr : row < 1200) (hp : p < 8) :
    (s.setPosition col row p v).position col row p = v := by
  have apart : ffKey col row (2 * p) ≠ ffKey col row (2 * p + 1) :=
    ffKey_ne hr (by omega) hr (by omega) (.inr (.inr (by omega)))
  exact Prod.ext ((State.ff_setFf_ne _ _ _ _ _ apart).trans (State.ff_setFf_same ..)) (State.ff_setFf_same ..)

theorem State.position_setPosition_ne (s : State) {row p x : Nat} (col : Nat) (v : Bool × Bool) (hr : row < 1200)
    (hp : p < 8) (hx : x < 8) (ne : x ≠ p) :
    (s.setPosition col row x v).position col row p = s.position col row p :=
  Prod.ext (State.ff_setPosition_ne s v hx hr hr (by omega) (by omega))
    (State.ff_setPosition_ne s v hx hr hr (by omega) (by omega))

/-- The flip-flops of every position at an edge. -/
def State.loadBlock (s : State) (col row : Nat) (cfg : LbCfg) (pins : LbPins) (da db : Nat → PosCfg → Bool) : State :=
  s.each (List.range 8) fun u p => match (cfg.pos.toList)[p]? with
    | none => u
    | some q => u.setPosition col row p (s.positionAfter col row cfg pins p q (da p q) (db p q))

/-- The words of every position's LUT at an edge. -/
def State.storeBlock (s : State) (col row : Nat) (cfg : LbCfg) (plane : Bool) (word : Nat → PosCfg → Nat) : State :=
  s.each (List.range 8) fun u p => match (cfg.pos.toList)[p]? with
    | none => u
    | some q => u.setLut plane col row p (word p q)

/-- Whether an edge reaches the LUTs of a block: an active edge of CK1 with EN3 at 1 (R53). -/
def lutsClocked (cfg : LbCfg) (pins : LbPins) : Bool :=
  pins.ck1 && pins.rising == !cfg.ramFalling && pins.en.getLsbD 3

/-- An edge loads the flip-flops, from XA where the image says so, and then the LUTs that it reaches. -/
theorem State.blockEdge_eq (s : State) (col row : Nat) (cfg : LbCfg) (pins : LbPins) :
    ∃ (da db : Nat → PosCfg → Bool) (plane : Bool) (word : Nat → PosCfg → Nat),
      (∀ p q, q.faSrc = .xa → da p q = pins.xa.getLsbD p)
      ∧ s.blockEdge col row cfg pins = (s.loadBlock col row cfg pins da db).when (lutsClocked cfg pins)
          fun u => u.storeBlock col row cfg plane word := by
  refine ⟨_, _, _, _, ?xa, rfl⟩
  intro p q h
  simp [h]

section
variable {s : State} {col row : Nat} {cfg : LbCfg} {pins : LbPins}

theorem position_lt {p : Nat} {q : PosCfg} (h : (cfg.pos.toList)[p]? = some q) : p < 8 := by
  simpa using (List.getElem?_eq_some_iff.1 h).1

theorem State.position_loadBlock {p : Nat} {q : PosCfg} (hr : row < 1200) (hq : (cfg.pos.toList)[p]? = some q)
    (da db : Nat → PosCfg → Bool) :
    (s.loadBlock col row cfg pins da db).position col row p
      = s.positionAfter col row cfg pins p q (da p q) (db p q) := by
  have hp := position_lt hq
  refine State.each_settles (fun t => t.position col row p) s (List.mem_range.2 hp) (fun t => ?_) fun x hx ne t => ?_
  · simpa only [hq] using State.position_setPosition t col _ hr hp
  · cases (cfg.pos.toList)[x]? with
    | none => rfl
    | some y => exact State.position_setPosition_ne t col _ hr hp (List.mem_range.1 hx) ne

theorem State.ff_loadBlock_ne (da db : Nat → PosCfg → Bool) {c r i : Nat} (hrow : row < 1200) (hr : r < 1200) (hi : i < 16)
    (h : c ≠ col ∨ r ≠ row) : (s.loadBlock col row cfg pins da db).ff c r i = s.ff c r i := by
  refine State.each_keeps_of_mem (fun t => t.ff c r i) s fun x hx t => ?_
  cases (cfg.pos.toList)[x]? with
  | none => rfl
  | some y => exact State.ff_setPosition_ne t _ (List.mem_range.1 hx) hrow hr hi (by omega)

theorem State.withoutLogic_loadBlock (da db : Nat → PosCfg → Bool) :
    (s.loadBlock col row cfg pins da db).withoutLogic = s.withoutLogic :=
  State.each_keeps State.withoutLogic s _ _ fun t x => by cases (cfg.pos.toList)[x]? <;> rfl

theorem State.planes_loadBlock (da db : Nat → PosCfg → Bool) : (s.loadBlock col row cfg pins da db).planes = s.planes :=
  State.each_keeps State.planes s _ _ fun t x => by cases (cfg.pos.toList)[x]? <;> rfl

theorem State.withoutLogic_storeBlock (plane : Bool) (word : Nat → PosCfg → Nat) :
    (s.storeBlock col row cfg plane word).withoutLogic = s.withoutLogic :=
  State.each_keeps State.withoutLogic s _ _ fun t x => by cases (cfg.pos.toList)[x]? <;> rfl

theorem State.ff_storeBlock (plane : Bool) (word : Nat → PosCfg → Nat) (c r i : Nat) :
    (s.storeBlock col row cfg plane word).ff c r i = s.ff c r i :=
  State.each_keeps (fun t => t.ff c r i) s _ _ fun t x => by cases (cfg.pos.toList)[x]? <;> rfl

/-- An edge in a block changes the planes and the flip-flops only. -/
theorem State.blockEdge_frame : s.blockEdge col row cfg pins = { s with
    planes := (s.blockEdge col row cfg pins).planes
    fabric := { s.fabric with ffs := (s.blockEdge col row cfg pins).fabric.ffs } } := by
  obtain ⟨da, db, plane, word, -, edge⟩ := s.blockEdge_eq col row cfg pins
  refine State.eq_of_withoutLogic ?_
  rw [edge]
  exact (State.when_keeps _ _ _ _ fun _ => State.withoutLogic_storeBlock plane word).trans
    (State.withoutLogic_loadBlock da db)

theorem State.planes_blockEdge (h : lutsClocked cfg pins = false) : (s.blockEdge col row cfg pins).planes = s.planes := by
  obtain ⟨da, db, plane, word, -, edge⟩ := s.blockEdge_eq col row cfg pins
  rw [edge, h]
  exact State.planes_loadBlock da db

/-- The flip-flops of another block stand. -/
theorem State.ff_blockEdge_ne {c r i : Nat} (hrow : row < 1200) (hr : r < 1200) (hi : i < 16) (h : c ≠ col ∨ r ≠ row) :
    (s.blockEdge col row cfg pins).ff c r i = s.ff c r i := by
  obtain ⟨da, db, plane, word, -, edge⟩ := s.blockEdge_eq col row cfg pins
  rw [edge]
  exact (State.when_keeps (fun t => t.ff c r i) _ _ _ fun _ => State.ff_storeBlock plane word c r i).trans
    (State.ff_loadBlock_ne da db hrow hr hi h)

/-- Every position takes what its settings, its lines and its D inputs say. -/
theorem State.position_blockEdge {p : Nat} {q : PosCfg} (hr : row < 1200) (hq : (cfg.pos.toList)[p]? = some q) :
    ∃ da db, (q.faSrc = .xa → da = pins.xa.getLsbD p)
      ∧ (s.blockEdge col row cfg pins).position col row p = s.positionAfter col row cfg pins p q da db := by
  obtain ⟨da, db, plane, word, xa, edge⟩ := s.blockEdge_eq col row cfg pins
  refine ⟨da p q, db p q, xa p q, ?_⟩
  rw [edge]
  exact (State.when_keeps (fun t => t.position col row p) _ _ _ fun _ =>
    Prod.ext (State.ff_storeBlock plane word ..) (State.ff_storeBlock plane word ..)).trans
    (State.position_loadBlock hr hq da db)

end

theorem lutsClocked_eq_false {cfg : LbCfg} {pins : LbPins}
    (h : pins.ck1 = false ∨ pins.en.getLsbD 3 = false ∨ pins.rising = cfg.ramFalling) : lutsClocked cfg pins = false := by
  rcases h with clock | enable | edge
  · simp [lutsClocked, clock]
  · rw [lutsClocked, enable, Bool.and_false]
  · simp [lutsClocked, edge]

theorem edgeHits_otherClock {half : HalfCfg} {pins : LbPins} (h : half.ck1 ≠ pins.ck1) : edgeHits half pins = false := by
  simp [edgeHits, h]

theorem edgeHits_active {half : HalfCfg} {pins : LbPins} (clock : half.ck1 = pins.ck1) (edge : half.falling = !pins.rising) :
    edgeHits half pins = true := by
  simp [edgeHits, clock, edge]

section
variable {half : HalfCfg} {o : FfOpt}

/-- Without an active edge a synchronous flip-flop holds (R43, R44). -/
theorem ffNext_holds (sync : half.async = false) (fs en d old : Bool) : ffNext half o false fs en d old = old := by
  simp [ffNext, sync]

/-- At an active edge a flip-flop that obeys neither line takes its input (R42, R44). -/
theorem ffNext_takes (noFs : o.obeysFs = false) (noEn : o.obeysEn = false) (fs en d old : Bool) :
    ffNext half o true fs en d old = d := by
  simp [ffNext, noFs, noEn]

/-- At an active edge a flip-flop that obeys its force line takes FVAL while the line is 1 (R42, R44). -/
theorem ffNext_forced (obeys : o.obeysFs = true) (en d old : Bool) : ffNext half o true true en d old = o.fval := by
  simp [ffNext, obeys]

end

section
variable {s : State} {col row : Nat} {cfg : LbCfg} {pins : LbPins} {p : Nat} {q : PosCfg} (hr : row < 1200)
  (hq : (cfg.pos.toList)[p]? = some q)
include hr hq

/-- An edge of the other clock leaves both flip-flops of a position in a synchronous half. -/
theorem State.ff_blockEdge_holds (sync : (halfOf cfg p).async = false) (other : (halfOf cfg p).ck1 ≠ pins.ck1) :
    (s.blockEdge col row cfg pins).ff col row (2 * p) = s.ff col row (2 * p)
      ∧ (s.blockEdge col row cfg pins).ff col row (2 * p + 1) = s.ff col row (2 * p + 1) := by
  obtain ⟨da, db, -, after⟩ := State.position_blockEdge (s := s) (col := col) (pins := pins) hr hq
  rw [State.positionAfter, edgeHits_otherClock other, ffNext_holds sync, ffNext_holds sync] at after
  exact Prod.mk.inj after

section
variable (clock : (halfOf cfg p).ck1 = pins.ck1) (edge : (halfOf cfg p).falling = !pins.rising)
include clock edge

theorem State.ff_blockEdge_xa (noFs : q.fa.obeysFs = false) (noEn : q.fa.obeysEn = false) (src : q.faSrc = .xa) :
    (s.blockEdge col row cfg pins).ff col row (2 * p) = pins.xa.getLsbD p := by
  obtain ⟨da, db, xa, after⟩ := State.position_blockEdge (s := s) (col := col) (pins := pins) hr hq
  rw [State.positionAfter, edgeHits_active clock edge, ffNext_takes noFs noEn, xa src] at after
  exact (Prod.mk.inj after).1

theorem State.ff_blockEdge_forced (obeys : q.fb.obeysFs = true) (fs : fsLine pins p = true) :
    (s.blockEdge col row cfg pins).ff col row (2 * p + 1) = q.fb.fval := by
  obtain ⟨da, db, -, after⟩ := State.position_blockEdge (s := s) (col := col) (pins := pins) hr hq
  rw [State.positionAfter, edgeHits_active clock edge, fs, ffNext_forced obeys] at after
  exact (Prod.mk.inj after).2

end

end

section
variable {s : State} {col : Fin 1164} {row : Fin 1200} {cfg : LbCfg} {pins : LbPins}
  (fits : (LogicTarget.block col row cfg pins).fits = true)
include fits

theorem execLogicClockEdge_block_stands
    (h : s.stallHeld (s.stallAt col (row.val / 60)) = true ∨ s.placeOpen col (row.val / 60) = false) :
    execLogicClockEdge (.block col row cfg pins) s = .next s := by
  simp only [LogicTarget.fits, Bool.and_eq_true, decide_eq_true_eq] at fits
  rcases h with h | h <;> simp [execLogicClockEdge, fits, h]

theorem execLogicClockEdge_block_runs (free : s.stallHeld (s.stallAt col (row.val / 60)) = false)
    (isOpen : s.placeOpen col (row.val / 60) = true) :
    execLogicClockEdge (.block col row cfg pins) s = .next (s.blockEdge col row cfg pins) := by
  simp only [LogicTarget.fits, Bool.and_eq_true, decide_eq_true_eq] at fits
  simp [execLogicClockEdge, fits, free, isOpen]

end

/-! ### Lateral registers -/

/-- The lateral registers of one end, each with its used bits taken from `d`. -/
def State.loadLaterals (s : State) (k : Nat) (used d : BitVec 18) : State :=
  let v := s.fabric.laterals.get lateralDefault k
  { s with fabric := { s.fabric with
      laterals := s.fabric.laterals.set lateralDefault k ((v &&& ~~~used) ||| (d &&& used)) } }

theorem State.getLsbD_loadLaterals (s : State) (k : Nat) (used d : BitVec 18) {b : Nat} (hb : b < 18) :
    ((s.loadLaterals k used d).fabric.laterals.get lateralDefault k).getLsbD b
      = if used.getLsbD b then d.getLsbD b else (s.fabric.laterals.get lateralDefault k).getLsbD b := by
  simp only [State.loadLaterals, KMap.get_set_same, BitVec.getLsbD_or, BitVec.getLsbD_and, BitVec.getLsbD_not, hb]
  cases used.getLsbD b <;> simp

theorem execLogicClockEdge_laterals_runs {s : State} {col : Fin 1164} {north : Bool} {used d : BitVec 18}
    (fits : (LogicTarget.laterals col north false true used d).fits = true)
    (free : s.stallHeld (s.stallAt col (lateralRow north false)) = false)
    (isOpen : s.placeOpen col (lateralRow north false) = true) :
    execLogicClockEdge (.laterals col north false true used d) s
      = .next (s.loadLaterals (lateralKey col north false) used d) := by
  simp only [LogicTarget.fits, decide_eq_true_eq] at fits
  simp [execLogicClockEdge, State.loadLaterals, fits, free, isOpen]

/-! ### Slices -/

theorem State.slice_setSlice_same (s : State) (sl : SliceRef) (v : SliceState) :
    (s.setSlice sl v).slice sl.region sl.inst = v := by
  simp [State.slice, State.setSlice]

theorem State.slice_setSlice_ne (s : State) (sl : SliceRef) (v : SliceState) {r i : Nat} (hi : i < 192)
    (h : r ≠ sl.region.val ∨ i ≠ sl.inst.val) : (s.setSlice sl v).slice r i = s.slice r i := by
  have apart : sliceKey r i ≠ sliceKey sl.region sl.inst := by
    unfold sliceKey
    omega
  exact KMap.get_set_ne _ _ _ apart

section
variable {s : State} {sl : SliceRef} {cfg : SliceCfg} (fits : sliceFits sl cfg = true) (pins : SlicePins)
include fits

theorem execSliceClockEdge_stands (h : s.sliceRuns sl = false) : execSliceClockEdge sl cfg pins s = .next s := by
  simp [execSliceClockEdge, fits, h]

theorem execSliceClockEdge_runs (h : s.sliceRuns sl = true) :
    execSliceClockEdge sl cfg pins s = .next (s.setSlice sl
      (if cfg.hard then hardEdge cfg (s.neighbours sl) pins (s.slice sl.region sl.inst)
        else normalEdge cfg (s.neighbours sl) pins (s.slice sl.region sl.inst))) := by
  simp [execSliceClockEdge, fits, h]

end

theorem execGbrst_clears {s : State} {sl : SliceRef} {edges : Nat} (held : 2 ≤ edges) (h : s.sliceRuns sl = true) :
    execGbrst sl edges s = .next (s.setSlice sl { gberr := false }) := by
  simp [execGbrst, h, Nat.not_lt.2 held]

/-! ### A fully registered slice in mode 1 × 27 -/

section
variable {cfg : SliceCfg} (mode : cfg.mode = .one27)
include mode

/-- An operation stores its true result, and flags one that does not fit 64 bits (R105, R107). -/
theorem accNext_result {acc : Result} {csi : BitVec 64} {x : Sample} {t : Int}
    (h : accTrue (opOf .one27 x.op) acc.val csi x.k x.prd.toInt = some t) :
    (accNext cfg acc csi false x).val = BitVec.ofInt 64 t
      ∧ ((accNext cfg acc csi false x).flag = 0 ↔ fitsBits 64 t = true) := by
  cases fit : fitsBits 64 t <;> simp [accNext, mode, isFloat, h, fit]

theorem accNext_unchanged {acc : Result} {csi : BitVec 64} {x : Sample}
    (h : accTrue (opOf .one27 x.op) acc.val csi x.k x.prd.toInt = none) :
    (accNext cfg acc csi false x).val = acc.val := by
  simp [accNext, mode, isFloat, h]

variable {pins : SlicePins} {v : SliceState} (nb : Neighbours) (noBlock : cfg.bfp = none)
  (s1 : cfg.s1 = true) (s2 : cfg.s2 = true) (s3 : cfg.s3 = true) (s4 : cfg.s4 = true)
  (eni : pins.eni = true) (enp : pins.enp = true) (ena : pins.ena = true)
  (cli : pins.cli = false) (clp : pins.clp = false) (cla : pins.cla = false) (kept : v.clearIt = false)
include noBlock s1 s2 s3 s4 eni enp ena cli clp cla kept

/-- Each register takes what the stage before it held, and the accumulator the operation of the sample in S3 (R106 to
R109). -/
theorem normalEdge_shifts :
    (normalEdge cfg nb pins v).s2 = preStage cfg v.s1 ∧ (normalEdge cfg nb pins v).s3 = mulStage cfg v.s2
      ∧ (normalEdge cfg nb pins v).s1.u = pins.even.u ∧ (normalEdge cfg nb pins v).s1.v = pins.even.v
      ∧ (normalEdge cfg nb pins v).cso = (normalEdge cfg nb pins v).acc.val
      ∧ (normalEdge cfg nb pins v).acc = accNext cfg v.acc pins.csi false v.s3 := by
  simp [normalEdge, enterSample, extraStages, blockOutputs, mode, noBlock, s1, s2, s3, s4, eni, enp, ena, cli, clp, cla,
    kept]

end

/-- Settles O30: an edge in a block by the position whose flip-flops it loads, an edge of a slice by the state that it
stores. -/
theorem fabricClockEdgesComplete : Obligations.FabricClockEdgesComplete := by
  unfold Obligations.FabricClockEdgesComplete
  refine ⟨fun s col row cfg pins fits => ⟨execLogicClockEdge_block_stands fits, fun free isOpen => ?block⟩,
    fun s col north used d fits free isOpen => ?laterals,
    fun s sl cfg pins fits => ⟨execSliceClockEdge_stands fits pins, fun runs => ?slice⟩,
    fun cfg nb pins v mode noBlock s1 s2 s3 s4 eni enp ena cli clp cla kept => ?registered,
    fun s sl edges held runs => ?gbrst⟩
  case block =>
    refine ⟨_, execLogicClockEdge_block_runs fits free isOpen, State.blockEdge_frame,
      fun quiet => State.planes_blockEdge (lutsClocked_eq_false quiet),
      fun c r i _ hr hi => State.ff_blockEdge_ne row.isLt hr hi, fun p q _ hq => ?_⟩
    exact ⟨State.ff_blockEdge_holds row.isLt hq, State.ff_blockEdge_xa row.isLt hq,
      State.ff_blockEdge_forced row.isLt hq⟩
  case laterals =>
    exact ⟨_, execLogicClockEdge_laterals_runs fits free isOpen, fun b => s.getLsbD_loadLaterals _ used d, rfl⟩
  case slice =>
    exact ⟨_, execSliceClockEdge_runs fits pins runs, s.slice_setSlice_same sl _, fun r i =>
      s.slice_setSlice_ne sl _, rfl⟩
  case registered =>
    obtain ⟨pre, mul, u, hv, out, acc⟩ :=
      normalEdge_shifts mode nb noBlock s1 s2 s3 s4 eni enp ena cli clp cla kept
    refine ⟨pre, mul, u, hv, out, ?_⟩
    rw [acc]
    split
    · next t result => exact accNext_result mode result
    · next unchanged => exact accNext_unchanged mode unchanged
  case gbrst =>
    exact ⟨_, execGbrst_clears held runs, s.slice_setSlice_same sl _, fun r i => s.slice_setSlice_ne sl _, rfl⟩

end Sys2Proof.Machine
end

section
/-! The code of R83: its check byte is linear over XOR, so what a stored word decodes as is read off the columns of the
bits that are inverted in it (R83, R84). -/

namespace Sys2Proof.Machine

/-! ### The check byte -/

theorem xorColumns_zero (hs : List Nat) : xorColumns 0 hs = 0 := by
  induction hs with
  | nil => rfl
  | cons h hs ih => simp [xorColumns, ih]

theorem xorColumns_xor (a b : Nat) (hs : List Nat) :
    xorColumns (a ^^^ b) hs = xorColumns a hs ^^^ xorColumns b hs := by
  induction hs generalizing a b with
  | nil => exact (Nat.xor_self 0).symm
  | cons h hs ih =>
    have low : (if (a ^^^ b) % 2 = 1 then h else 0)
        = (if a % 2 = 1 then h else 0) ^^^ (if b % 2 = 1 then h else 0) := by
      rw [Nat.xor_mod_two_eq, Nat.add_mod]
      rcases Nat.mod_two_eq_zero_or_one a with ha | ha <;> rcases Nat.mod_two_eq_zero_or_one b with hb | hb <;>
        simp [ha, hb]
    simp only [xorColumns, low, Nat.xor_div_two, ih]
    ac_rfl

theorem xorColumns_two_pow (j : Nat) (hs : List Nat) : xorColumns (2 ^ j) hs = hs.getD j 0 := by
  induction hs generalizing j with
  | nil => rfl
  | cons h hs ih =>
    cases j with
    | zero => simp [xorColumns, xorColumns_zero]
    | succ j => simp [xorColumns, Nat.pow_succ, ih]

theorem xorColumns_lt {n : Nat} (d : Nat) {hs : List Nat} (lt : ∀ h ∈ hs, h < 2 ^ n) : xorColumns d hs < 2 ^ n := by
  induction hs generalizing d with
  | nil => exact Nat.two_pow_pos n
  | cons h hs ih =>
    rw [List.forall_mem_cons] at lt
    refine Nat.xor_lt_two_pow ?_ (ih (d / 2) lt.2)
    split_ifs
    · exact lt.1
    · exact Nat.two_pow_pos n

theorem checkByte_xor (a b : Nat) : checkByte (a ^^^ b) = checkByte a ^^^ checkByte b := xorColumns_xor a b _

theorem checkByte_lt (d : Nat) : checkByte d < 2 ^ 8 := xorColumns_lt d (by decide +kernel)

/-! ### Columns and weights -/

/-- The column of a bit of a coded word: h(b) for a data bit, a unit column for a check bit (R83). -/
def codeColumn (b : Nat) : Nat := if b < 64 then secDedColumns.getD b 0 else 2 ^ (b - 64)

theorem codeColumn_injective : ∀ b < 72, ∀ c < b, codeColumn b ≠ codeColumn c := by decide +kernel

theorem weight8_codeColumn_odd : ∀ b < 72, weight8 (codeColumn b) % 2 = 1 := by decide +kernel

theorem weight8_dataColumn : ∀ b < 64, weight8 (codeColumn b) ≠ 1 := by decide +kernel

theorem findIdx_dataColumn : ∀ b < 64, secDedColumns.findIdx? (· = codeColumn b) = some b := by decide +kernel

theorem weight8_secDedColumns_odd : ∀ h ∈ secDedColumns, weight8 h % 2 = 1 := by decide +kernel

theorem checkColumn_facts : ∀ b < 8, weight8 (2 ^ b) = 1 ∧ Nat.log2 (2 ^ b) = b := by decide +kernel

theorem weight8_xor_parity (a b : Nat) : weight8 (a ^^^ b) % 2 = (weight8 a + weight8 b) % 2 := by
  simp only [weight8, List.range_succ, List.range_zero, List.foldl_append, List.foldl_cons, List.foldl_nil,
    Nat.xor_div_two_pow, Nat.xor_mod_two_eq]
  omega

/-! ### Syndromes -/

/-- The syndrome of a stored word (R84). -/
def wordSyndrome (w : BitVec 72) : Nat := wordCheck w ^^^ checkByte (wordData w)

theorem wordData_xor (v w : BitVec 72) : wordData (v ^^^ w) = wordData v ^^^ wordData w := by
  simp only [wordData, BitVec.toNat_xor, Nat.xor_mod_two_pow]

theorem wordSyndrome_xor (v w : BitVec 72) : wordSyndrome (v ^^^ w) = wordSyndrome v ^^^ wordSyndrome w := by
  have check : wordCheck (v ^^^ w) = wordCheck v ^^^ wordCheck w := by
    simp only [wordCheck, BitVec.toNat_xor, Nat.xor_div_two_pow]
  simp only [wordSyndrome, check, wordData_xor, checkByte_xor]
  ac_rfl

theorem toNat_bit72 {b : Nat} (h : b < 72) : (BitVec.ofNat 72 (2 ^ b)).toNat = 2 ^ b := by
  rw [BitVec.toNat_ofNat, Nat.mod_eq_of_lt (Nat.pow_lt_pow_right (by decide) h)]

theorem wordData_dataBit {b : Nat} (h : b < 64) : wordData (BitVec.ofNat 72 (2 ^ b)) = 2 ^ b := by
  rw [wordData, toNat_bit72 (by omega), Nat.mod_eq_of_lt (Nat.pow_lt_pow_right (by decide) h)]

theorem wordData_checkBit {b : Nat} (h : b < 8) : wordData (BitVec.ofNat 72 (2 ^ (64 + b))) = 0 := by
  rw [wordData, toNat_bit72 (by omega), Nat.pow_add, Nat.mul_mod_right]

/-- Inverting a bit adds its column to the syndrome. -/
theorem wordSyndrome_bit {b : Nat} (h : b < 72) : wordSyndrome (BitVec.ofNat 72 (2 ^ b)) = codeColumn b := by
  rcases Nat.lt_or_ge b 64 with hb | hb
  · have check : wordCheck (BitVec.ofNat 72 (2 ^ b)) = 0 := by
      rw [wordCheck, toNat_bit72 h, Nat.div_eq_of_lt (Nat.pow_lt_pow_right (by decide) hb)]
    rw [wordSyndrome, check, wordData_dataBit hb, Nat.zero_xor, codeColumn, if_pos hb]
    exact xorColumns_two_pow b _
  · obtain ⟨c, rfl⟩ := Nat.exists_eq_add_of_le hb
    have check : wordCheck (BitVec.ofNat 72 (2 ^ (64 + c))) = 2 ^ c := by
      rw [wordCheck, toNat_bit72 h, Nat.pow_add, Nat.mul_div_cancel_left _ (by decide)]
    rw [wordSyndrome, check, wordData_checkBit (by omega), codeColumn, if_neg (by omega), Nat.add_sub_cancel_left]
    exact Nat.xor_zero _

theorem toNat_coded (d : Nat) : (coded d).toNat = d % 2 ^ 64 + checkByte (d % 2 ^ 64) * 2 ^ 64 := by
  have := checkByte_lt (d % 2 ^ 64)
  rw [coded, BitVec.toNat_ofNat]
  omega

@[simp] theorem wordData_coded (d : Nat) : wordData (coded d) = d % 2 ^ 64 := by
  rw [wordData, toNat_coded]
  omega

@[simp] theorem wordCheck_coded (d : Nat) : wordCheck (coded d) = checkByte (d % 2 ^ 64) := by
  rw [wordCheck, toNat_coded]
  omega

@[simp] theorem wordSyndrome_coded (d : Nat) : wordSyndrome (coded d) = 0 := by
  rw [wordSyndrome, wordData_coded, wordCheck_coded, Nat.xor_self]

/-! ### Decoding by the syndrome -/

section
variable {w : BitVec 72}

theorem decodeWord_clean (h : wordSyndrome w = 0) : decodeWord w = .good := if_pos h

theorem decodeWord_dataColumn {b : Nat} (hb : b < 64) (h : wordSyndrome w = codeColumn b) :
    decodeWord w = .corrected b (wordData w ^^^ 2 ^ b) := by
  have odd := weight8_codeColumn_odd b (by omega)
  have nonzero : codeColumn b ≠ 0 := fun e => by rw [e] at odd; exact absurd odd (by decide)
  unfold wordSyndrome at h
  simp only [decodeWord, h, if_neg nonzero, if_neg (weight8_dataColumn b hb), findIdx_dataColumn b hb]

theorem decodeWord_checkColumn {b : Nat} (hb : b < 8) (h : wordSyndrome w = 2 ^ b) :
    decodeWord w = .corrected (64 + b) (wordData w) := by
  obtain ⟨one, log⟩ := checkColumn_facts b hb
  unfold wordSyndrome at h
  simp only [decodeWord, h, if_neg (Nat.two_pow_pos b).ne', one, log, if_true]

/-- Every column has odd weight, so a syndrome of even weight is no column. -/
theorem decodeWord_even (nonzero : wordSyndrome w ≠ 0) (even : weight8 (wordSyndrome w) % 2 = 0) :
    decodeWord w = .bad (wordSyndrome w) := by
  have notOne : weight8 (wordSyndrome w) ≠ 1 := fun e => by rw [e] at even; exact absurd even (by decide)
  have noColumn : secDedColumns.findIdx? (· = wordSyndrome w) = none := by
    rw [List.findIdx?_eq_none_iff]
    intro h mem
    have odd := weight8_secDedColumns_odd h mem
    simp only [decide_eq_false_iff_not]
    rintro rfl
    omega
  unfold wordSyndrome at *
  simp only [decodeWord, if_neg nonzero, if_neg notOne, noColumn]

end

section
variable {d : Nat}

@[simp] theorem decodeWord_coded : decodeWord (coded d) = .good := decodeWord_clean (wordSyndrome_coded d)

/-- A coded word with one bit inverted reads as corrected at that bit (R83, R84). -/
theorem decodeWord_coded_flip (hd : d < 2 ^ 64) {b : Nat} (hb : b < 72) :
    decodeWord (coded d ^^^ BitVec.ofNat 72 (2 ^ b)) = .corrected b d := by
  have syn : wordSyndrome (coded d ^^^ BitVec.ofNat 72 (2 ^ b)) = codeColumn b := by
    rw [wordSyndrome_xor, wordSyndrome_coded, wordSyndrome_bit hb, Nat.zero_xor]
  rcases Nat.lt_or_ge b 64 with data | check
  · rw [decodeWord_dataColumn data syn, wordData_xor, wordData_coded, wordData_dataBit data, Nat.mod_eq_of_lt hd,
      Nat.xor_assoc, Nat.xor_self, Nat.xor_zero]
  · obtain ⟨c, rfl⟩ := Nat.exists_eq_add_of_le check
    rw [codeColumn, if_neg (by omega), Nat.add_sub_cancel_left] at syn
    rw [decodeWord_checkColumn (by omega) syn, wordData_xor, wordData_coded, wordData_checkBit (by omega), Nat.xor_zero,
      Nat.mod_eq_of_lt hd]

/-- A coded word with two bits inverted reads as uncorrectable (R84). -/
theorem decodeWord_coded_flip_two {b c : Nat} (hb : b < 72) (hc : c < b) :
    codeColumn b ^^^ codeColumn c ≠ 0 ∧ decodeWord (coded d ^^^ BitVec.ofNat 72 (2 ^ b) ^^^ BitVec.ofNat 72 (2 ^ c))
      = .bad (codeColumn b ^^^ codeColumn c) := by
  have syn : wordSyndrome (coded d ^^^ BitVec.ofNat 72 (2 ^ b) ^^^ BitVec.ofNat 72 (2 ^ c))
      = codeColumn b ^^^ codeColumn c := by
    rw [wordSyndrome_xor, wordSyndrome_xor, wordSyndrome_coded, wordSyndrome_bit hb, wordSyndrome_bit (by omega),
      Nat.zero_xor]
  have nonzero : codeColumn b ^^^ codeColumn c ≠ 0 := Nat.xor_eq_zero_iff.not.2 (codeColumn_injective b hb c hc)
  have even : weight8 (codeColumn b ^^^ codeColumn c) % 2 = 0 := by
    have oddB := weight8_codeColumn_odd b hb
    have oddC := weight8_codeColumn_odd c (by omega)
    have parity := weight8_xor_parity (codeColumn b) (codeColumn c)
    omega
  refine ⟨nonzero, ?_⟩
  rw [← syn] at nonzero even ⊢
  exact decodeWord_even nonzero even

theorem readData_coded : readData (coded d) = d % 2 ^ 64 := by
  rw [readData, decodeWord_coded]
  exact wordData_coded d

theorem readData_coded_flip (hd : d < 2 ^ 64) {b : Nat} (hb : b < 72) :
    readData (coded d ^^^ BitVec.ofNat 72 (2 ^ b)) = d := by
  rw [readData, decodeWord_coded_flip hd hb]

end

end Sys2Proof.Machine
end

section
/-! The check code of configuration frames: check words are linear over XOR, a single inverted bit gives a power of x as
its segment's syndrome, and those powers are told apart (R216, R268, R269). -/

namespace Sys2Proof.Machine

/-! ### Multiplication by x -/

theorem timesX_eq {v : Nat} (h : v < 2 ^ 32) :
    timesX v = v * 2 % 2 ^ 32 ^^^ if v / 2 ^ 31 % 2 = 1 then 0x1EDC6F41 else 0 := by
  unfold timesX
  split_ifs
  · rfl
  · rw [Nat.xor_zero]
    omega

theorem timesX_lt {v : Nat} (h : v < 2 ^ 32) : timesX v < 2 ^ 32 := by
  rw [timesX_eq h]
  refine Nat.xor_lt_two_pow (Nat.mod_lt _ (by decide)) ?_
  split_ifs <;> decide

theorem timesX_xor {a b : Nat} (ha : a < 2 ^ 32) (hb : b < 2 ^ 32) : timesX (a ^^^ b) = timesX a ^^^ timesX b := by
  have double : (a ^^^ b) * 2 % 2 ^ 32 = (a * 2 % 2 ^ 32) ^^^ (b * 2 % 2 ^ 32) := by
    have shift : (a ^^^ b) <<< 1 = a <<< 1 ^^^ b <<< 1 := Nat.shiftLeft_xor_distrib
    simp only [Nat.shiftLeft_eq, Nat.pow_one] at shift
    rw [shift, Nat.xor_mod_two_pow]
  have top : (if (a ^^^ b) / 2 ^ 31 % 2 = 1 then 0x1EDC6F41 else 0)
      = (if a / 2 ^ 31 % 2 = 1 then 0x1EDC6F41 else 0) ^^^ (if b / 2 ^ 31 % 2 = 1 then 0x1EDC6F41 else 0) := by
    rw [Nat.xor_div_two_pow, Nat.xor_mod_two_eq, Nat.add_mod]
    rcases Nat.mod_two_eq_zero_or_one (a / 2 ^ 31) with h | h <;>
      rcases Nat.mod_two_eq_zero_or_one (b / 2 ^ 31) with h' | h' <;> simp only [h, h'] <;> rfl
  rw [timesX_eq ha, timesX_eq hb, timesX_eq (Nat.xor_lt_two_pow ha hb), double, top]
  ac_rfl

/-- The polynomial's constant term is 1, so no number but 0 becomes 0. -/
theorem timesX_ne_zero {v : Nat} (h : v < 2 ^ 32) (nonzero : v ≠ 0) : timesX v ≠ 0 := by
  rw [timesX_eq h]
  split_ifs with top
  · intro e
    have := Nat.xor_eq_zero_iff.1 e
    omega
  · rw [Nat.xor_zero]
    omega

theorem timesX_injective {a b : Nat} (ha : a < 2 ^ 32) (hb : b < 2 ^ 32) (h : timesX a = timesX b) : a = b := by
  by_contra ne
  refine timesX_ne_zero (Nat.xor_lt_two_pow ha hb) (Nat.xor_eq_zero_iff.not.2 ne) ?_
  rw [timesX_xor ha hb, h, Nat.xor_self]

/-! ### Powers of x -/

/-- x^p mod g(x) (R268). -/
def powerX (p : Nat) : Nat := timesX^[p] 1

theorem powerX_succ (p : Nat) : powerX (p + 1) = timesX (powerX p) := Function.iterate_succ_apply' timesX p 1

theorem iterate_timesX_lt (n : Nat) {v : Nat} (h : v < 2 ^ 32) : timesX^[n] v < 2 ^ 32 := by
  induction n generalizing v with
  | zero => exact h
  | succ n ih => exact ih (timesX_lt h)

theorem powerX_lt (p : Nat) : powerX p < 2 ^ 32 := iterate_timesX_lt p (by decide)

theorem iterate_timesX_xor (n : Nat) {a b : Nat} (ha : a < 2 ^ 32) (hb : b < 2 ^ 32) :
    timesX^[n] (a ^^^ b) = timesX^[n] a ^^^ timesX^[n] b := by
  induction n generalizing a b with
  | zero => rfl
  | succ n ih =>
    simp only [Function.iterate_succ_apply, timesX_xor ha hb]
    exact ih (timesX_lt ha) (timesX_lt hb)

theorem iterate_timesX_injective (n : Nat) {a b : Nat} (ha : a < 2 ^ 32) (hb : b < 2 ^ 32)
    (h : timesX^[n] a = timesX^[n] b) : a = b := by
  induction n generalizing a b with
  | zero => exact h
  | succ n ih => exact timesX_injective ha hb (ih (timesX_lt ha) (timesX_lt hb) h)

theorem powerX_ne_zero (p : Nat) : powerX p ≠ 0 := by
  induction p with
  | zero => decide
  | succ p ih => rw [powerX_succ]; exact timesX_ne_zero (powerX_lt p) ih

/-- Below degree 32 a power of x is its own remainder. -/
theorem powerX_checkBit : ∀ p < 32, powerX p = 2 ^ p := by decide +kernel

theorem powerX_32 : powerX 32 = 0x1EDC6F41 := by decide +kernel

/-- Within a codeword no power of x but the first is 1 or 1 + x. -/
theorem powerX_apart {p : Nat} (pos : p ≠ 0) (h : p < 512) : powerX p ≠ 1 ∧ powerX p ≠ 3 := by
  have all : ∀ v ∈ List.iterate timesX 2 511, v ≠ 1 ∧ v ≠ 3 := by decide +kernel
  obtain ⟨q, rfl⟩ := Nat.exists_eq_succ_of_ne_zero pos
  have bound : q < (List.iterate timesX 2 511).length := by rw [List.length_iterate]; omega
  have := all _ (List.getElem_mem bound)
  rwa [List.getElem_iterate] at this

/-- The syndrome of one inverted bit is decoded to its position: no earlier position, and no earlier pair of adjacent
positions, has it (R269). -/
theorem locateError_powerX {p q n : Nat} (from_ : p ≤ q) (upTo : q < p + n) (h : q < 512) :
    locateError (powerX q) p (powerX p) n = some (q, false) := by
  induction n generalizing p with
  | zero => omega
  | succ n ih =>
    rcases Nat.eq_or_lt_of_le from_ with rfl | later
    · simp [locateError]
    · obtain ⟨d, rfl⟩ := Nat.exists_eq_add_of_le from_
      obtain ⟨notOne, notTwo⟩ := powerX_apart (p := d) (by omega) (by omega)
      have shift : powerX (p + d) = timesX^[p] (powerX d) := Function.iterate_add_apply timesX p d 1
      have single : powerX (p + d) ≠ powerX p := fun e =>
        notOne (iterate_timesX_injective p (powerX_lt d) (by decide) (shift.symm.trans e))
      have pair : timesX^[p] 3 = powerX p ^^^ timesX (powerX p) := by
        have two : timesX^[p] 2 = powerX (p + 1) := rfl
        rw [← powerX_succ, ← two]
        exact iterate_timesX_xor (a := 1) (b := 2) p (by decide) (by decide)
      have double : powerX (p + d) ≠ powerX p ^^^ timesX (powerX p) := fun e =>
        notTwo (iterate_timesX_injective p (powerX_lt d) (by decide) (shift.symm.trans (e.trans pair.symm)))
      simp only [locateError, if_neg single, decide_eq_false double, Bool.and_false, Bool.false_eq_true, if_false]
      rw [← powerX_succ]
      exact ih (by omega) (by omega)

/-! ### Check words -/

/-- One bit of the data enters a check word. -/
theorem crcPolyFrom_succ {c : Nat} (v n : Nat) (h : c < 2 ^ 32) : crcPolyFrom 32 0x1EDC6F41 v c (n + 1)
    = crcPolyFrom 32 0x1EDC6F41 v (timesX c ^^^ if v / 2 ^ n % 2 = 1 then 0x1EDC6F41 else 0) n := by
  have step : (if (c / 2 ^ 31 + v / 2 ^ n) % 2 = 1 then c * 2 % 2 ^ 32 ^^^ 0x1EDC6F41 else c * 2 % 2 ^ 32)
      = timesX c ^^^ if v / 2 ^ n % 2 = 1 then 0x1EDC6F41 else 0 := by
    rw [timesX_eq h, Nat.add_mod]
    rcases Nat.mod_two_eq_zero_or_one (c / 2 ^ 31) with hc | hc <;>
      rcases Nat.mod_two_eq_zero_or_one (v / 2 ^ n) with hv | hv <;> rw [hc, hv] <;> simp
  exact congrArg (crcPolyFrom 32 0x1EDC6F41 v · n) step

theorem dataStep_lt {c : Nat} (v n : Nat) (h : c < 2 ^ 32) :
    (timesX c ^^^ if v / 2 ^ n % 2 = 1 then 0x1EDC6F41 else 0) < 2 ^ 32 := by
  refine Nat.xor_lt_two_pow (timesX_lt h) ?_
  split_ifs <;> decide

theorem crcPolyFrom_lt {c : Nat} (v n : Nat) (h : c < 2 ^ 32) : crcPolyFrom 32 0x1EDC6F41 v c n < 2 ^ 32 := by
  induction n generalizing c with
  | zero => exact h
  | succ n ih => rw [crcPolyFrom_succ v n h]; exact ih (dataStep_lt v n h)

theorem crcPolyFrom_xor {a b : Nat} (v w n : Nat) (ha : a < 2 ^ 32) (hb : b < 2 ^ 32) :
    crcPolyFrom 32 0x1EDC6F41 (v ^^^ w) (a ^^^ b) n
      = crcPolyFrom 32 0x1EDC6F41 v a n ^^^ crcPolyFrom 32 0x1EDC6F41 w b n := by
  induction n generalizing a b with
  | zero => rfl
  | succ n ih =>
    have split : (if (v ^^^ w) / 2 ^ n % 2 = 1 then 0x1EDC6F41 else 0)
        = (if v / 2 ^ n % 2 = 1 then 0x1EDC6F41 else 0) ^^^ (if w / 2 ^ n % 2 = 1 then 0x1EDC6F41 else 0) := by
      rw [Nat.xor_div_two_pow, Nat.xor_mod_two_eq, Nat.add_mod]
      rcases Nat.mod_two_eq_zero_or_one (v / 2 ^ n) with h | h <;>
        rcases Nat.mod_two_eq_zero_or_one (w / 2 ^ n) with h' | h' <;> simp only [h, h'] <;> rfl
    rw [crcPolyFrom_succ _ _ (Nat.xor_lt_two_pow ha hb), crcPolyFrom_succ v n ha, crcPolyFrom_succ w n hb,
      ← ih (dataStep_lt v n ha) (dataStep_lt w n hb), timesX_xor ha hb, split]
    congr 1
    ac_rfl

/-- Data without a bit below `n` only multiplies the check word by x. -/
theorem crcPolyFrom_zeros {c : Nat} (v n : Nat) (h : c < 2 ^ 32) (zeros : ∀ i < n, v / 2 ^ i % 2 = 0) :
    crcPolyFrom 32 0x1EDC6F41 v c n = timesX^[n] c := by
  induction n generalizing c with
  | zero => rfl
  | succ n ih =>
    rw [crcPolyFrom_succ v n h, zeros n (by omega), if_neg (by decide), Nat.xor_zero]
    exact ih (timesX_lt h) fun i hi => zeros i (by omega)

theorem iterate_timesX_zero (n : Nat) : timesX^[n] 0 = 0 := Function.iterate_fixed rfl n

/-- The check word of one data bit is the power of x at its place in the codeword. -/
theorem crcPoly_bit {j n : Nat} (h : j < n) : crcPoly 32 0x1EDC6F41 n (2 ^ j) = powerX (j + 32) := by
  unfold crcPoly
  induction n with
  | zero => omega
  | succ n ih =>
    rw [crcPolyFrom_succ _ _ (by decide)]
    rcases Nat.eq_or_lt_of_le (Nat.le_of_lt_succ h) with rfl | below
    · have zeros : ∀ i < j, 2 ^ j / 2 ^ i % 2 = 0 := fun i hi => by
        rw [Nat.pow_div hi.le (by decide), ← Nat.sub_add_cancel (Nat.sub_pos_of_lt hi), Nat.pow_succ, Nat.mul_mod_left]
      rw [Nat.div_self (Nat.two_pow_pos j), if_pos rfl, powerX, Function.iterate_add_apply]
      exact (crcPolyFrom_zeros _ j (by decide) zeros).trans (congrArg timesX^[j] powerX_32.symm)
    · rw [Nat.div_eq_of_lt (Nat.pow_lt_pow_right (by decide) below), if_neg (by decide)]
      exact ih below

theorem crcPoly_zero (n : Nat) : crcPoly 32 0x1EDC6F41 n 0 = 0 :=
  (crcPolyFrom_zeros 0 n (by decide) fun i _ => by rw [Nat.zero_div]).trans (iterate_timesX_zero n)

/-! ### Syndromes of a frame -/

theorem xor_xor_xor_comm (a b c d : Nat) : (a ^^^ b) ^^^ (c ^^^ d) = (a ^^^ c) ^^^ (b ^^^ d) := by ac_rfl

theorem segData_xor (f g : Frame) (k : Nat) : segData (f ^^^ g) k = segData f k ^^^ segData g k := by
  unfold segData
  rw [BitVec.toNat_xor, Nat.xor_div_two_pow]
  exact Nat.xor_mod_two_pow

theorem syndrome_xor (f g : Frame) (k : Nat) : syndrome (f ^^^ g) k = syndrome f k ^^^ syndrome g k := by
  have check : segCheck (f ^^^ g) k = segCheck f k ^^^ segCheck g k := by
    simp only [segCheck, BitVec.toNat_xor, Nat.xor_div_two_pow, Nat.xor_mod_two_pow]
  have crc : segCrc (f ^^^ g) k = segCrc f k ^^^ segCrc g k := by
    simp only [segCrc, segData_xor]
    exact crcPolyFrom_xor (a := 0) (b := 0) _ _ _ (by decide) (by decide)
  rw [syndrome, check, crc]
  exact xor_xor_xor_comm ..

/-- The segment and the codeword position of a frame's bit (R268). -/
def bitSegment (b : Nat) : Nat := if b < 3840 then b / 480 else (b - 3840) / 32
def bitPosition (b : Nat) : Nat := if b < 3840 then b % 480 + 32 else (b - 3840) % 32

theorem codewordBit_bitPosition (b : Nat) : codewordBit (bitSegment b) (bitPosition b) = b := by
  unfold codewordBit bitSegment bitPosition
  split_ifs <;> omega

theorem bitSegment_lt {b : Nat} (h : b < 4096) : bitSegment b < 8 := by
  unfold bitSegment
  split_ifs <;> omega

theorem bitPosition_lt (b : Nat) : bitPosition b < 512 := by
  unfold bitPosition
  split_ifs <;> omega

/-- A part of one bit: the bit itself where it lies in the part. -/
theorem two_pow_div_mod (b lo n : Nat) :
    2 ^ b / 2 ^ lo % 2 ^ n = if lo ≤ b ∧ b < lo + n then 2 ^ (b - lo) else 0 := by
  refine Nat.eq_of_testBit_eq fun i => ?_
  rw [Nat.testBit_mod_two_pow, Nat.testBit_div_two_pow, Nat.testBit_two_pow]
  split_ifs with h
  · rw [Nat.testBit_two_pow, ← Bool.decide_and]
    exact decide_eq_decide.2 (by omega)
  · rw [Nat.zero_testBit, ← Bool.decide_and]
    exact decide_eq_false (by omega)

theorem toNat_one_shiftLeft {w b : Nat} (h : b < w) : (1#w <<< b).toNat = 2 ^ b := by
  rw [BitVec.toNat_shiftLeft, BitVec.toNat_ofNat, Nat.mod_eq_of_lt (Nat.one_lt_two_pow (by omega)), Nat.one_shiftLeft,
    Nat.mod_eq_of_lt (Nat.pow_lt_pow_right (by decide) h)]

/-- The syndrome that an inverted bit gives: in its own segment the power of x of its position, else none. -/
theorem syndrome_bit {b k : Nat} (hb : b < 4096) (hk : k < 8) :
    syndrome (1#4096 <<< b) k = if k = bitSegment b then powerX (bitPosition b) else 0 := by
  simp only [syndrome, segCrc, segCheck, segData, toNat_one_shiftLeft hb, two_pow_div_mod]
  unfold bitSegment bitPosition
  rcases Nat.lt_or_ge b 3840 with data | check
  · rw [if_neg (by omega), if_pos data, if_pos data, Nat.zero_xor]
    by_cases here : k = b / 480
    · have place : b - 480 * k = b % 480 := by omega
      rw [if_pos (by omega), if_pos here, crcPoly_bit (by omega), place]
    · rw [if_neg (by omega), if_neg here, crcPoly_zero]
  · rw [if_neg (by omega : ¬(480 * k ≤ b ∧ b < 480 * k + 480)), if_neg (Nat.not_lt.2 check),
      if_neg (Nat.not_lt.2 check), crcPoly_zero, Nat.xor_zero]
    by_cases here : k = (b - 3840) / 32
    · have place : b - (3840 + 32 * k) = (b - 3840) % 32 := by omega
      rw [if_pos (by omega), if_pos here, place, powerX_checkBit _ (by omega)]
    · rw [if_neg (by omega), if_neg here]

/-! ### A frame made with its check words -/

/-- The bits of a frame after the check words of its first `n` segments have been put in. -/
theorem getLsbD_foldl_checkWords (f : Frame) (c : Nat → Nat) (lt : ∀ k, c k < 2 ^ 32) (n i : Nat) (hi : i < 4096) :
    ((List.range n).foldl (fun g k => g ||| (BitVec.ofNat 4096 (c k) <<< (3840 + 32 * k))) f).getLsbD i
      = (f.getLsbD i
        || (decide (3840 ≤ i ∧ i < 3840 + 32 * n) && (c ((i - 3840) / 32)).testBit ((i - 3840) % 32))) := by
  induction n with
  | zero =>
    rw [decide_eq_false (by omega), Bool.false_and, Bool.or_false]
    rfl
  | succ n ih =>
    rw [List.range_succ, List.foldl_append, List.foldl_cons, List.foldl_nil, BitVec.getLsbD_or, ih,
      BitVec.getLsbD_shiftLeft, BitVec.getLsbD_ofNat, decide_eq_true hi,
      decide_eq_true (by omega : i - (3840 + 32 * n) < 4096)]
    by_cases here : (i - 3840) / 32 = n ∧ 3840 ≤ i
    · obtain ⟨word, low⟩ := here
      have place : i - (3840 + 32 * n) = (i - 3840) % 32 := by omega
      rw [decide_eq_false (by omega : ¬(3840 ≤ i ∧ i < 3840 + 32 * n)),
        decide_eq_false (by omega : ¬ i < 3840 + 32 * n),
        decide_eq_true (by omega : 3840 ≤ i ∧ i < 3840 + 32 * (n + 1)), word, place]
      simp
    · have outside : (!decide (i < 3840 + 32 * n) && (c n).testBit (i - (3840 + 32 * n))) = false := by
        rcases Nat.lt_or_ge i (3840 + 32 * n) with h | h
        · rw [decide_eq_true h]; rfl
        · have low : c n < 2 ^ (i - (3840 + 32 * n)) :=
            Nat.lt_of_lt_of_le (lt n) (Nat.pow_le_pow_right (by decide) (by omega))
          rw [Nat.testBit_lt_two_pow low, Bool.and_false]
      have same : decide (3840 ≤ i ∧ i < 3840 + 32 * (n + 1)) = decide (3840 ≤ i ∧ i < 3840 + 32 * n) :=
        decide_eq_decide.2 (by omega)
      rw [same]
      simp only [Bool.true_and, outside, Bool.or_false]

theorem segCrc_lt (f : Frame) (k : Nat) : segCrc f k < 2 ^ 32 := crcPolyFrom_lt _ _ (by decide)

/-- The data bits of a frame before its check words are made. -/
def frameData (data : Nat) : Frame := BitVec.ofNat 4096 (data % 2 ^ 3840)

theorem getLsbD_frameData_check (data : Nat) {i : Nat} (hi : 3840 ≤ i) : (frameData data).getLsbD i = false := by
  rw [frameData, BitVec.getLsbD_ofNat, Nat.testBit_mod_two_pow, decide_eq_false (Nat.not_lt.2 hi), Bool.false_and,
    Bool.and_false]

theorem getLsbD_frameOf (data : Nat) {i : Nat} (hi : i < 4096) : (frameOf data).getLsbD i
    = ((frameData data).getLsbD i || (decide (3840 ≤ i ∧ i < 3840 + 32 * 8)
      && (segCrc (frameData data) ((i - 3840) / 32)).testBit ((i - 3840) % 32))) :=
  getLsbD_foldl_checkWords (frameData data) _ (segCrc_lt _) 8 i hi

theorem segData_frameOf (data : Nat) {k : Nat} (hk : k < 8) :
    segData (frameOf data) k = segData (frameData data) k := by
  refine Nat.eq_of_testBit_eq fun j => ?_
  simp only [segData, Nat.testBit_mod_two_pow, Nat.testBit_div_two_pow]
  by_cases hj : j < 480
  · have same := getLsbD_frameOf data (i := j + 480 * k) (by omega)
    rw [decide_eq_false (by omega), Bool.false_and, Bool.or_false] at same
    exact congrArg (decide (j < 480) && ·) same
  · rw [decide_eq_false hj, Bool.false_and, Bool.false_and]

theorem segCheck_frameOf (data : Nat) {k : Nat} (hk : k < 8) :
    segCheck (frameOf data) k = segCrc (frameData data) k := by
  refine Nat.eq_of_testBit_eq fun j => ?_
  simp only [segCheck, Nat.testBit_mod_two_pow, Nat.testBit_div_two_pow]
  by_cases hj : j < 32
  · have stored := getLsbD_frameOf data (i := j + (3840 + 32 * k)) (by omega)
    rw [decide_eq_true (by omega), Bool.true_and, getLsbD_frameData_check data (by omega), Bool.false_or,
      (by omega : (j + (3840 + 32 * k) - 3840) / 32 = k), (by omega : (j + (3840 + 32 * k) - 3840) % 32 = j)] at stored
    rw [decide_eq_true hj, Bool.true_and]
    exact stored
  · rw [decide_eq_false hj, Bool.false_and,
      Nat.testBit_lt_two_pow (Nat.lt_of_lt_of_le (segCrc_lt _ k) (Nat.pow_le_pow_right (by decide) (by omega)))]

theorem syndrome_frameOf (data : Nat) {k : Nat} (hk : k < 8) : syndrome (frameOf data) k = 0 := by
  rw [syndrome, segCheck_frameOf data hk, segCrc, segCrc, segData_frameOf data hk, Nat.xor_self]

theorem syndrome_flipBit (data : Nat) {b k : Nat} (hb : b < 4096) (hk : k < 8) :
    syndrome (flipBit (frameOf data) b) k = if k = bitSegment b then powerX (bitPosition b) else 0 := by
  rw [flipBit, syndrome_xor, syndrome_frameOf data hk, Nat.zero_xor, syndrome_bit hb hk]

/-! ### Decoding a frame -/

theorem decodeSeg_clean {f : Frame} {k : Nat} (h : syndrome f k = 0) : decodeSeg f k = .clean := if_pos h

theorem decodeSeg_single {f : Frame} {k p : Nat} (hp : p < 512) (h : syndrome f k = powerX p) :
    decodeSeg f k = .fixed p false := by
  have located : locateError (powerX p) 0 1 512 = some (p, false) :=
    locateError_powerX (p := 0) (Nat.zero_le p) (by omega) hp
  simp only [decodeSeg, h, if_neg (powerX_ne_zero p), located]

theorem flipBit_flipBit (f : Frame) (b : Nat) : flipBit (flipBit f b) b = f := by
  rw [flipBit, flipBit, BitVec.xor_assoc, BitVec.xor_self, BitVec.xor_zero]

section
variable (data : Nat)

theorem decodeSeg_frameOf {k : Nat} (hk : k < 8) : decodeSeg (frameOf data) k = .clean :=
  decodeSeg_clean (syndrome_frameOf data hk)

theorem decodeSeg_flipBit {b k : Nat} (hb : b < 4096) (hk : k < 8) :
    decodeSeg (flipBit (frameOf data) b) k = if k = bitSegment b then .fixed (bitPosition b) false else .clean := by
  have syn := syndrome_flipBit data hb hk
  split_ifs at syn ⊢
  · exact decodeSeg_single (bitPosition_lt b) syn
  · exact decodeSeg_clean syn

theorem fixSeg_frameOf {k : Nat} (hk : k < 8) : fixSeg (frameOf data) k = frameOf data := by
  simp only [fixSeg, decodeSeg_frameOf data hk]

theorem fixSeg_flipBit {b k : Nat} (hb : b < 4096) (hk : k < 8) :
    fixSeg (flipBit (frameOf data) b) k = if k = bitSegment b then frameOf data else flipBit (frameOf data) b := by
  rw [fixSeg, decodeSeg_flipBit data hb hk]
  split_ifs with here
  · subst here
    simp only [codewordBit_bitPosition, flipBit_flipBit, Bool.false_eq_true, if_false]
  · rfl

theorem foldl_fixSeg_frameOf {ks : List Nat} (lt : ∀ k ∈ ks, k < 8) :
    ks.foldl fixSeg (frameOf data) = frameOf data := by
  induction ks with
  | nil => rfl
  | cons k ks ih =>
    rw [List.forall_mem_cons] at lt
    rw [List.foldl_cons, fixSeg_frameOf data lt.1, ih lt.2]

/-- The correction of the segment in which the bit lies restores the frame, and no other segment is touched. -/
theorem foldl_fixSeg_flipBit {b : Nat} (hb : b < 4096) {ks : List Nat} (lt : ∀ k ∈ ks, k < 8)
    (mem : bitSegment b ∈ ks) : ks.foldl fixSeg (flipBit (frameOf data) b) = frameOf data := by
  induction ks with
  | nil => cases mem
  | cons k ks ih =>
    rw [List.forall_mem_cons] at lt
    rw [List.foldl_cons, fixSeg_flipBit data hb lt.1]
    split_ifs with here
    · exact foldl_fixSeg_frameOf data lt.2
    · exact ih lt.2 ((List.mem_cons.1 mem).resolve_left (Ne.symm here))

theorem frameGood_frameOf : frameGood (frameOf data) = true := by
  simp only [frameGood, List.all_eq_true, List.mem_range, decide_eq_true_eq]
  exact fun k => syndrome_frameOf data

theorem fixFrame_frameOf : fixFrame (frameOf data) = frameOf data :=
  foldl_fixSeg_frameOf data fun _ => List.mem_range.1

theorem fixFrame_flipBit {b : Nat} (hb : b < 4096) : fixFrame (flipBit (frameOf data) b) = frameOf data :=
  foldl_fixSeg_flipBit data hb (fun _ => List.mem_range.1) (List.mem_range.2 (bitSegment_lt hb))

end

theorem badMask_eq_zero {f : Frame} (h : ∀ k < 8, decodeSeg f k ≠ .bad) : badMask f = 0 := by
  have key : ∀ ks : List Nat, (∀ k ∈ ks, k < 8) →
      ks.foldl (fun m k => if decodeSeg f k = .bad then m + 2 ^ k else m) 0 = 0 := by
    intro ks lt
    induction ks with
    | nil => rfl
    | cons k ks ih =>
      rw [List.forall_mem_cons] at lt
      rw [List.foldl_cons, if_neg (h k lt.1), ih lt.2]
  exact key _ fun _ => List.mem_range.1

theorem badMask_frameOf (data : Nat) : badMask (frameOf data) = 0 :=
  badMask_eq_zero fun k hk => by rw [decodeSeg_frameOf data hk]; exact SegResult.noConfusion

theorem badMask_flipBit (data : Nat) {b : Nat} (hb : b < 4096) : badMask (flipBit (frameOf data) b) = 0 :=
  badMask_eq_zero fun k hk => by
    rw [decodeSeg_flipBit data hb hk]
    split_ifs <;> exact SegResult.noConfusion

/-- How the counts of corrected segments grow by one segment (R269). -/
def countSeg (f : Frame) (c : Nat × Nat) (k : Nat) : Nat × Nat :=
  match decodeSeg f k with
  | .fixed _ false => (c.1 + 1, c.2)
  | .fixed _ true => (c.1, c.2 + 1)
  | .clean => c
  | .bad => c

theorem fixCounts_eq_foldl_countSeg (f : Frame) : fixCounts f = (List.range 8).foldl (countSeg f) (0, 0) := rfl

theorem countSeg_flipBit (data : Nat) {b k : Nat} (hb : b < 4096) (hk : k < 8) (c : Nat × Nat) :
    countSeg (flipBit (frameOf data) b) c k = if k = bitSegment b then (c.1 + 1, c.2) else c := by
  rw [countSeg, decodeSeg_flipBit data hb hk]
  split_ifs <;> rfl

theorem fixCounts_flipBit (data : Nat) {b : Nat} (hb : b < 4096) : fixCounts (flipBit (frameOf data) b) = (1, 0) := by
  have key : ∀ (ks : List Nat) (c : Nat × Nat), (∀ k ∈ ks, k < 8) →
      ks.foldl (countSeg (flipBit (frameOf data) b)) c = (c.1 + ks.count (bitSegment b), c.2) := by
    intro ks
    induction ks with
    | nil => exact fun c _ => rfl
    | cons k ks ih =>
      intro c lt
      rw [List.forall_mem_cons] at lt
      rw [List.foldl_cons, countSeg_flipBit data hb lt.1, ih _ lt.2, List.count_cons]
      by_cases here : k = bitSegment b
      · simp only [here, if_true, beq_self_eq_true]
        rw [Nat.add_right_comm, Nat.add_assoc]
      · simp only [if_neg here, beq_eq_false_iff_ne.2 here, Bool.false_eq_true, if_false, Nat.add_zero]
  rw [fixCounts_eq_foldl_countSeg, key _ _ fun _ => List.mem_range.1,
    List.count_eq_one_of_mem List.nodup_range (List.mem_range.2 (bitSegment_lt hb))]

end Sys2Proof.Machine
end

section
/-! Lines of the DRAM: a stored line reads back, and one inverted bit of a word is corrected (R326, R327, R350); with it
the codes of R83 and R268 settle the statement on codes. -/

namespace Sys2Proof.Machine

/-! ### Numbers put together of parts -/

/-- A part of a number at place `k`, in base `B`. -/
def digit (B x k : Nat) : Nat := x / B ^ k % B

section
variable {B : Nat}

theorem digit_cons_zero {n : Nat} (x : Nat) (h : n < B) : digit B (n + x * B) 0 = n := by
  rw [digit, Nat.pow_zero, Nat.div_one, Nat.add_mul_mod_self_right, Nat.mod_eq_of_lt h]

theorem digit_cons_succ {n : Nat} (x k : Nat) (h : n < B) : digit B (n + x * B) (k + 1) = digit B x k := by
  rw [digit, Nat.pow_succ', ← Nat.div_div_eq_div_mul, Nat.add_mul_div_right _ _ (Nat.zero_lt_of_lt h),
    Nat.div_eq_of_lt h, Nat.zero_add, digit]

/-- The number that a list of parts makes, lowest first. -/
def joined (B : Nat) (l : List Nat) : Nat := l.foldr (fun w a => w + a * B) 0

theorem digit_joined {l : List Nat} (lt : ∀ x ∈ l, x < B) {k : Nat} (hk : k < l.length) :
    digit B (joined B l) k = l[k] := by
  induction l generalizing k with
  | nil => cases hk
  | cons x l ih =>
    rw [List.forall_mem_cons] at lt
    cases k with
    | zero => exact digit_cons_zero _ lt.1
    | succ k => exact (digit_cons_succ _ k lt.1).trans (ih lt.2 (Nat.lt_of_succ_lt_succ hk))

theorem digit_joined_map {n : Nat} (f : Nat → Nat) (lt : ∀ k, f k < B) {k : Nat} (hk : k < n) :
    digit B (joined B ((List.range n).map f)) k = f k := by
  have inside : k < ((List.range n).map f).length := by simpa using hk
  rw [digit_joined (by simpa using fun x _ => lt x) inside]
  simp

/-- A part below what is added above it. -/
theorem digit_low {k n : Nat} (M x : Nat) (hB : 0 < B) (h : k < n) : digit B (M * B ^ n + x) k = digit B x k := by
  obtain ⟨i, rfl⟩ := Nat.exists_eq_add_of_lt h
  have split : M * B ^ (k + i + 1) = M * B ^ i * B * B ^ k := by ring
  rw [digit, digit, split, Nat.add_comm, Nat.add_mul_div_right _ _ (Nat.pow_pos hB), Nat.add_mul_mod_self_right]

theorem digit_mod {k n : Nat} (x : Nat) (hB : 0 < B) (h : k < n) : digit B (x % B ^ n) k = digit B x k := by
  have := digit_low (x / B ^ n) (x % B ^ n) hB h
  rwa [Nat.div_add_mod', eq_comm] at this

/-- A number with the part at place `w` replaced. -/
theorem digit_replace {n w : Nat} (x k : Nat) (hB : 0 < B) (hn : n < B) :
    digit B (x / B ^ (w + 1) * B ^ (w + 1) + n * B ^ w + x % B ^ w) k = if k = w then n else digit B x k := by
  have low : x % B ^ w < B ^ w := Nat.mod_lt _ (Nat.pow_pos hB)
  have upper : x / B ^ (w + 1) * B ^ (w + 1) + n * B ^ w + x % B ^ w
      = (x / B ^ (w + 1) * B + n) * B ^ w + x % B ^ w := by
    ring
  have shifted : (x / B ^ (w + 1) * B ^ (w + 1) + n * B ^ w + x % B ^ w) / B ^ w = n + x / B ^ (w + 1) * B := by
    rw [upper, Nat.add_comm, Nat.add_mul_div_right _ _ (Nat.pow_pos hB), Nat.div_eq_of_lt low]
    omega
  rcases Nat.lt_trichotomy k w with h | rfl | h
  · rw [if_neg h.ne, upper, digit_low _ _ hB h, digit_mod x hB h]
  · rw [if_pos rfl, digit, shifted, Nat.add_mul_mod_self_right, Nat.mod_eq_of_lt hn]
  · obtain ⟨i, rfl⟩ := Nat.exists_eq_add_of_lt h
    have place : B ^ (w + i + 1) = B ^ w * (B * B ^ i) := by ring
    have place' : B ^ (w + i + 1) = B ^ (w + 1) * B ^ i := by ring
    rw [if_neg h.ne', digit, place, ← Nat.div_div_eq_div_mul, ← Nat.div_div_eq_div_mul, shifted,
      Nat.add_mul_div_right _ _ hB, Nat.div_eq_of_lt hn, Nat.zero_add, Nat.div_div_eq_div_mul, ← place', digit]

end

/-! ### Words of a line -/

theorem wordAt_eq (d : Line) (w : Nat) : wordAt d w = digit (2 ^ 64) d.toNat w := by
  rw [wordAt, digit, Nat.pow_mul]

theorem wordAt_lt (d : Line) (w : Nat) : wordAt d w < 2 ^ 64 := Nat.mod_lt _ (by decide)

theorem wordAt_lineOf (f : Nat → Nat) (lt : ∀ k, f k < 2 ^ 64) {w : Nat} (hw : w < 8) :
    wordAt (lineOf ((List.range 8).map f)) w = f w := by
  have size : 2 ^ 512 = (2 ^ 64) ^ 8 := Nat.pow_mul 2 64 8
  rw [wordAt_eq, lineOf, BitVec.toNat_ofNat, size, digit_mod _ (by decide) hw]
  exact digit_joined_map f lt hw

/-- A line is its eight words. -/
theorem line_ext {a b : Line} (h : ∀ w < 8, wordAt a w = wordAt b w) : a = b := by
  refine BitVec.eq_of_getLsbD_eq fun i hi => ?_
  have bit (d : Line) : (wordAt d (i / 64)).testBit (i % 64) = d.getLsbD i := by
    rw [wordAt, Nat.testBit_mod_two_pow, decide_eq_true (Nat.mod_lt i (by decide)), Bool.true_and,
      Nat.testBit_div_two_pow, Nat.mod_add_div]
    rfl
  rw [← bit a, ← bit b, h _ (by omega)]

theorem lineOf_wordAt (d : Line) : lineOf ((List.range 8).map (wordAt d)) = d :=
  line_ext fun _ hw => wordAt_lineOf _ (wordAt_lt d) hw

/-! ### Stored words -/

theorem ofBytes_map (f : Nat → Nat) (lt : ∀ k, f k < 256) (l : List Nat) :
    ofBytes (l.map fun k => BitVec.ofNat 8 (f k)) = joined 256 (l.map f) := by
  induction l with
  | nil => rfl
  | cons k l ih =>
    have low : (BitVec.ofNat 8 (f k)).toNat = f k := by rw [BitVec.toNat_ofNat, Nat.mod_eq_of_lt (lt k)]
    simp only [List.map_cons, ofBytes, ih, low]
    exact congrArg (f k + ·) (Nat.mul_comm ..)

/-- Check byte `w` of eight that are stored as one number. -/
theorem digit_checkBytes (f : Nat → Nat) (lt : ∀ k, f k < 256) {w : Nat} (hw : w < 8) :
    digit 256 (BitVec.ofNat 64 (ofBytes ((List.range 8).map fun k => BitVec.ofNat 8 (f k)))).toNat w = f w := by
  have size : 2 ^ 64 = 256 ^ 8 := by decide
  rw [BitVec.toNat_ofNat, size, digit_mod _ (by decide) hw, ofBytes_map f lt, digit_joined_map f lt hw]

theorem toNat_storedWord (D : DramLine) (w : Nat) :
    (storedWord D w).toNat = wordAt D.data w + digit 256 D.c.toNat w * 2 ^ 64 + digit 256 D.a.toNat w * 2 ^ 72 := by
  have data := wordAt_lt D.data w
  have c : digit 256 D.c.toNat w < 256 := Nat.mod_lt _ (by decide)
  have a : digit 256 D.a.toNat w < 256 := Nat.mod_lt _ (by decide)
  refine (BitVec.toNat_ofNat ..).trans ?_
  unfold digit at *
  omega

/-- A word that replaces one of a line reads back, and the other words stand. -/
theorem storedWord_setStored (D : DramLine) (v : BitVec 80) {w k : Nat} (hk : k < 8) :
    storedWord (setStored D w v) k = if k = w then v else storedWord D k := by
  have size : 2 ^ 64 = 256 ^ 8 := by decide
  have replaced (x : BitVec 64) {n : Nat} (hn : n < 256) :
      digit 256 (BitVec.ofNat 64 (x.toNat / 256 ^ (w + 1) * 256 ^ (w + 1) + n * 256 ^ w + x.toNat % 256 ^ w)).toNat k
        = if k = w then n else digit 256 x.toNat k := by
    rw [BitVec.toNat_ofNat, size, digit_mod _ (by decide) hk, digit_replace _ _ (by decide) hn]
  have word : wordAt (setStored D w v).data k = if k = w then v.toNat % 2 ^ 64 else wordAt D.data k :=
    wordAt_lineOf (fun k => if k = w then v.toNat % 2 ^ 64 else wordAt D.data k)
      (fun k => by split_ifs; exacts [Nat.mod_lt _ (by decide), wordAt_lt _ _]) hk
  have c : digit 256 (setStored D w v).c.toNat k = if k = w then v.toNat / 2 ^ 64 % 256 else digit 256 D.c.toNat k :=
    replaced D.c (Nat.mod_lt _ (by decide))
  have a : digit 256 (setStored D w v).a.toNat k = if k = w then v.toNat / 2 ^ 72 else digit 256 D.a.toNat k :=
    replaced D.a (by have := v.isLt; omega)
  refine BitVec.eq_of_toNat_eq ?_
  rw [toNat_storedWord, word, c, a]
  split_ifs
  · omega
  · exact (toNat_storedWord D k).symm

section
variable (rank l : Nat) (d : Line)

/-- Word `w` of a coded line: its data with check byte C, and the address's check byte A (R326). -/
theorem storedWord_codedLine {w : Nat} (hw : w < 8) :
    (storedWord (codedLine rank l d) w).truncate 72 = coded (wordAt d w)
      ∧ (storedWord (codedLine rank l d) w).toNat / 2 ^ 72 = checkByte (addrWord rank l w) := by
  have data := wordAt_lt d w
  have hc := checkByte_lt (wordAt d w)
  have ha := checkByte_lt (addrWord rank l w)
  have stored : (storedWord (codedLine rank l d) w).toNat
      = wordAt d w + checkByte (wordAt d w) * 2 ^ 64 + checkByte (addrWord rank l w) * 2 ^ 72 := by
    rw [toNat_storedWord]
    unfold codedLine
    dsimp only
    rw [digit_checkBytes _ (fun k => checkByte_lt _) hw, digit_checkBytes _ (fun k => checkByte_lt _) hw]
  constructor
  · refine BitVec.eq_of_toNat_eq ?_
    rw [BitVec.truncate_eq_setWidth, BitVec.toNat_setWidth, stored, toNat_coded, Nat.mod_eq_of_lt data]
    omega
  · rw [stored]
    omega

/-! ### Decoding a line -/

/-- What decoding finds of a line whose words carry their addresses, where some of the words have one inverted bit. -/
theorem decodeLine_of_words {D : DramLine} {wrong : Nat → Bool} {b : Nat} (hb : b < 72)
    (words : ∀ w < 8, (storedWord D w).truncate 72
      = if wrong w then coded (wordAt d w) ^^^ BitVec.ofNat 72 (2 ^ b) else coded (wordAt d w))
    (addrs : ∀ w < 8, (storedWord D w).toNat / 2 ^ 72 = checkByte (addrWord rank l w)) :
    decodeLine rank l D = { data := d, fixed := ((List.range 8).filter wrong).length, badC := [], badA := [] } := by
  have addrClean : ∀ w < 8, weight8 ((storedWord D w).toNat / 2 ^ 72 ^^^ checkByte (addrWord rank l w)) = 0 := by
    intro w hw
    rw [addrs w hw, Nat.xor_self]
    rfl
  have read : ∀ w < 8, decodeWord ((storedWord D w).truncate 72)
      = if wrong w then .corrected b (wordAt d w) else .good := by
    intro w hw
    rw [words w hw]
    split_ifs
    · exact decodeWord_coded_flip (wordAt_lt d w) hb
    · exact decodeWord_coded
  have data : ∀ w < 8, readData ((storedWord D w).truncate 72) = wordAt d w := by
    intro w hw
    rw [words w hw]
    split_ifs
    · exact readData_coded_flip (wordAt_lt d w) hb
    · exact readData_coded.trans (Nat.mod_eq_of_lt (wordAt_lt d w))
  have fixed : ∀ w < 8, wordFixed rank l w (storedWord D w) = wrong w := by
    intro w hw
    rw [wordFixed, read w hw, addrClean w hw]
    cases wrong w <;> rfl
  have goodC : ∀ w < 8, ¬ dataBad (storedWord D w) = true := by
    intro w hw
    rw [dataBad, read w hw]
    cases wrong w <;> exact Bool.false_ne_true
  have goodA : ∀ w < 8, ¬ addrBad rank l w (storedWord D w) = true := by
    intro w hw
    rw [addrBad, addrClean w hw]
    decide
  have below {p : Nat → Prop} (h : ∀ w < 8, p w) : ∀ w ∈ List.range 8, p w := fun w hw => h w (List.mem_range.1 hw)
  have noneC := List.filter_eq_nil_iff.2 (below goodC)
  have noneA := List.filter_eq_nil_iff.2 (below goodA)
  unfold decodeLine
  dsimp only
  rw [List.map_congr_left (below data), lineOf_wordAt, List.filter_congr (below fixed), noneC, noneA]

theorem decodeLine_codedLine :
    decodeLine rank l (codedLine rank l d) = { data := d, fixed := 0, badC := [], badA := [] } :=
  decodeLine_of_words rank l d (wrong := fun _ => false) (b := 0) (by decide)
    (fun _ hw => (storedWord_codedLine rank l d hw).1) fun _ hw => (storedWord_codedLine rank l d hw).2

/-- A stored line with one bit of a word's data or check byte C inverted. -/
theorem decodeLine_flipped {w b : Nat} (hw : w < 8) (hb : b < 72) :
    decodeLine rank l (setStored (codedLine rank l d) w (storedWord (codedLine rank l d) w ^^^ BitVec.ofNat 80 (2 ^ b)))
      = { data := d, fixed := 1, badC := [], badA := [] } := by
  have bit80 : (BitVec.ofNat 80 (2 ^ b)).toNat = 2 ^ b := by
    rw [BitVec.toNat_ofNat, Nat.mod_eq_of_lt (Nat.pow_lt_pow_right (by decide) (by omega))]
  have one : ((List.range 8).filter fun k => decide (k = w)).length = 1 := by
    have := List.count_eq_one_of_mem List.nodup_range (List.mem_range.2 hw)
    rwa [List.count_eq_length_filter] at this
  rw [← one]
  refine decodeLine_of_words rank l d (wrong := fun k => decide (k = w)) hb (fun k hk => ?_) fun k hk => ?_
  · rw [storedWord_setStored _ _ hk]
    by_cases here : k = w
    · subst here
      have low : (BitVec.ofNat 80 (2 ^ b)).truncate 72 = BitVec.ofNat 72 (2 ^ b) := by
        refine BitVec.eq_of_toNat_eq ?_
        rw [BitVec.truncate_eq_setWidth, BitVec.toNat_setWidth, bit80, BitVec.toNat_ofNat]
      rw [if_pos rfl, if_pos (decide_eq_true rfl), BitVec.truncate_eq_setWidth, BitVec.setWidth_xor]
      exact congrArg₂ _ (storedWord_codedLine rank l d hk).1 low
    · rw [if_neg here, if_neg (by simpa using here)]
      exact (storedWord_codedLine rank l d hk).1
  · rw [storedWord_setStored _ _ hk]
    split_ifs with here
    · subst here
      rw [BitVec.toNat_xor, bit80, Nat.xor_div_two_pow, Nat.div_eq_of_lt (Nat.pow_lt_pow_right (by decide) hb),
        Nat.xor_zero]
      exact (storedWord_codedLine rank l d hk).2
    · exact (storedWord_codedLine rank l d hk).2

end

/-! ### Encryption and storage -/

theorem crypt_crypt (key : BitVec 256) (c : LineCtr) (rank l : Nat) (d : Line) :
    crypt key c rank l (crypt key c rank l d) = d := by
  unfold crypt
  rw [BitVec.xor_assoc, BitVec.xor_self, BitVec.xor_zero]

theorem dramKey_ne {n m l k : Nat} (hl : l < 2 ^ 29) (hk : k < 2 ^ 29) (h : m ≠ n ∨ k ≠ l) :
    dramKey m k ≠ dramKey n l := by
  unfold dramKey
  omega

theorem State.rawLine_storeLine (s : State) (n l : Nat) (d : DramLine) :
    (s.storeLine n l d).rawLine n l = (d, s.storeLine n l d) := by
  have stored : (s.storeLine n l d).dram.get dramDefault (dramKey n l) = some d := KMap.get_set_same ..
  rw [State.rawLine, stored]

theorem State.dram_storeLine_ne (s : State) {n l j : Nat} (d : DramLine) (h : j ≠ dramKey n l) :
    (s.storeLine n l d).dram.get dramDefault j = s.dram.get dramDefault j := KMap.get_set_ne _ _ _ h

/-- Settles O27: each code is linear, so what is read depends on the syndrome of the inverted bits alone. -/
theorem codesCorrectOneBit : Obligations.CodesCorrectOneBit := by
  unfold Obligations.CodesCorrectOneBit
  refine ⟨fun d hd => ⟨decodeWord_coded, readData_coded.trans (Nat.mod_eq_of_lt hd),
      fun b hb => decodeWord_coded_flip hd hb, fun b hb c hc => ⟨_, decodeWord_coded_flip_two hb hc⟩⟩,
    fun data _ => ⟨frameGood_frameOf data, badMask_frameOf data, fixFrame_frameOf data,
      fun b hb => ⟨fixFrame_flipBit data hb, badMask_flipBit data hb, fixCounts_flipBit data hb⟩⟩,
    fun rank l d => ?stored, fun rank l w b d hw hb => ?flipped, crypt_crypt, fun s => s.rawLine_storeLine,
    fun s n m l k d hl hk apart => s.dram_storeLine_ne d (dramKey_ne hl hk apart)⟩
  case stored =>
    rw [decodeLine_codedLine]
    exact ⟨rfl, rfl, rfl⟩
  case flipped =>
    rw [decodeLine_flipped rank l d hw hb]
    exact ⟨rfl, rfl, rfl⟩

end Sys2Proof.Machine
end

section
/-! Words of a memory and its ports (R76 to R79, R82 to R85, R94): what a store, a read and an edge of a port at 72 bits
in ECC mode ON leave. -/

namespace Sys2Proof.Machine

open Reg

/-! ### Stored words -/

section
variable (s : State)

@[simp] theorem State.cell_setCell_same (k w : Nat) (v : MemWord) : (s.setCell k w v).cell k w = v := by
  simp [State.cell, State.setCell]

theorem State.cell_setCell_ne {k w k' w' : Nat} (v : MemWord) (hw : w < 4096) (hw' : w' < 4096) (h : k' ≠ k ∨ w' ≠ w) :
    (s.setCell k w v).cell k' w' = s.cell k' w' :=
  KMap.get_set_ne _ _ _ (by omega)

theorem mod_memDepth_lt (m : MemRef) (a : Nat) : a % memDepth m < 4096 := by
  unfold memDepth
  split_ifs <;> omega

/-- A word that holds data with its code; a deep-memory word is valid besides (R82, R83). -/
def State.holdCoded (s : State) (m : MemRef) (w d : Nat) : State :=
  (s.setCell (memKey m) w { s.cell (memKey m) w with cells := coded d }).setValid m w true

theorem State.holdCoded_frame (m : MemRef) (w d : Nat) :
    ∃ ws, s.holdCoded m w d = { s with mem := { s.mem with words := ws } } := by
  cases h : m.deep <;> simp only [State.holdCoded, State.setValid, h] <;> exact ⟨_, rfl⟩

theorem State.ports_holdCoded (m : MemRef) (w d : Nat) : (s.holdCoded m w d).mem.ports = s.mem.ports := by
  obtain ⟨ws, held⟩ := s.holdCoded_frame m w d
  rw [held]

theorem State.cells_holdCoded (m : MemRef) (w d : Nat) : ((s.holdCoded m w d).cell (memKey m) w).cells = coded d := by
  cases h : m.deep <;> simp [State.holdCoded, State.setValid, h]

theorem State.valid_holdCoded {m : MemRef} (w d : Nat) (deep : m.deep = true) :
    ((s.holdCoded m w d).cell (memKey m) w).valid = 7 := by
  simp [State.holdCoded, State.setValid, deep]

theorem State.cell_holdCoded_ne {m : MemRef} {w k' w' : Nat} (d : Nat) (hw : w < 4096) (hw' : w' < 4096)
    (h : k' ≠ memKey m ∨ w' ≠ w) : (s.holdCoded m w d).cell k' w' = s.cell k' w' := by
  cases deep : m.deep <;> simp [State.holdCoded, State.setValid, deep, State.cell_setCell_ne _ _ hw hw' h]

end

section
variable {s : State} {m : MemRef} {w : Nat} (direct : s.remapOf m w = none)
include direct

/-- Without a remap entry and an armed injection a write stores the data with its code. -/
theorem State.writeCoded_direct (unarmed : s.is (RGN_MEM_ECC_INJ.arm m.region) = false) (d : Nat) (full : Bool) :
    s.writeCoded m w d full = s.holdCoded m w d := by
  have noInjection : s.injection m = (0, s) := by simp [State.injection, unarmed]
  simp [State.writeCoded, State.storeWord, State.holdCoded, noInjection, direct]

theorem State.stored_direct : s.stored m w = ((s.cell (memKey m) w).cells, false) := by
  simp only [State.stored, direct]

variable (valid : m.deep = true → (s.cell (memKey m) w).valid = 7) (portB : Bool)
include valid

omit direct in
/-- Three agreeing cells of a valid bit stand. -/
theorem State.healValid_whole (masked : Bool) : s.healValid m w masked = s := by
  unfold State.healValid
  cases deep : m.deep
  · rfl
  · simp [valid deep]

/-- A read of a word that is its own and valid depends on how the word decodes (R82 to R84, R94). -/
theorem State.readWord_direct : s.readWord m portB true w false =
    match decodeWord (s.cell (memKey m) w).cells with
    | .good => (⟨(s.cell (memKey m) w).cells, wordData (s.cell (memKey m) w).cells, false, false⟩, s)
    | .corrected b x => (⟨BitVec.ofNat 72 (x + wordCheck (s.cell (memKey m) w).cells * 2 ^ 64), x, true, false⟩,
        s.correctedError (memBucket m) m.inst w b)
    | .bad syn => (⟨(s.cell (memKey m) w).cells, wordData (s.cell (memKey m) w).cells, false, true⟩,
        s.uncorrectable m portB w syn) := by
  have shown : (m.deep && !majority (s.cell (memKey m) w).valid) = false := by
    cases deep : m.deep
    · rfl
    · rw [valid deep]
      decide
  simp only [State.readWord, State.healValid_whole valid, State.stored_direct direct, shown]
  cases decodeWord (s.cell (memKey m) w).cells <;> rfl

end

/-! ### Error reports -/

section
variable (s : State)

theorem State.onlyRegs_offend (b : Bucket) (inst word bitNo hits : Nat) :
    s.OnlyRegs (s.offend b inst word bitNo hits) := by
  unfold State.offend
  dsimp only
  split
  · rfl
  · split <;> rfl

theorem State.onlyRegs_correctedError (b : Bucket) (inst word bitNo : Nat) :
    s.OnlyRegs (s.correctedError b inst word bitNo) := by
  unfold State.correctedError
  dsimp only
  refine State.OnlyRegs.trans ?_ (State.onlyRegs_offend _ b inst word bitNo 1)
  split_ifs <;> rfl

/-- A word that keeps failing touches its list, the list's overflow count and the page's event at most (R90). -/
theorem State.word_offend_ne (b : Bucket) (inst word bitNo hits : Nat) {o : Nat}
    (list : ∀ j, o ≠ ROL.off (bucketBase b) j) (overflow : o ≠ ROL_OVF.off (bucketBase b))
    (evt : o ≠ EVT.off (bucketPage b)) (cnt : o ≠ EVT_CNT.off (bucketPage b)) :
    (s.offend b inst word bitNo hits).word o = s.word o := by
  unfold State.offend
  dsimp only
  split
  · next j _ => exact (State.word_put_ne _ _ (list j)).trans (State.word_put_ne _ _ (list j))
  · split
    · next j _ => exact State.word_setWord_ne _ _ (list j)
    · exact (State.word_event_ne _ _ _ evt cnt).trans (State.word_count_ne _ overflow)

/-- The bucket of a block or deep memory lies in its region's page (R99). -/
theorem bucketBase_memBucket (m : MemRef) :
    bucketBase (memBucket m) = pageRGN m.region + if m.deep then 0x140 else 0x100 := by
  unfold memBucket
  split_ifs <;> rfl

/-- A corrected error counts one in CE_TOT (R89). -/
theorem State.get_ceTot_correctedError (m : MemRef) (inst word bitNo : Nat) :
    (s.correctedError (memBucket m) inst word bitNo).get (CE_TOT.v (bucketBase (memBucket m)))
      = min (s.get (CE_TOT.v (bucketBase (memBucket m))) + 1) (2 ^ 32 - 1) := by
  have place : (bucketBase (memBucket m)) % 4096 = 0x100 ∨ (bucketBase (memBucket m)) % 4096 = 0x140 := by
    rw [bucketBase_memBucket, pageRGN]
    split_ifs <;> omega
  have page : bucketPage (memBucket m) = bucketBase (memBucket m) - bucketBase (memBucket m) % 4096 := rfl
  have evt : (CE_TOT.v (bucketBase (memBucket m))).off ≠ EVT.off (bucketPage (memBucket m)) := by
    simp only [CE_TOT.v, CE_TOT.off, EVT.off, page]
    omega
  have cnt : (CE_TOT.v (bucketBase (memBucket m))).off ≠ EVT_CNT.off (bucketPage (memBucket m)) := by
    simp only [CE_TOT.v, CE_TOT.off, EVT_CNT.off, page]
    omega
  have level : (CE_TOT.v (bucketBase (memBucket m))).off ≠ (CB_LVL.level (bucketBase (memBucket m))).off := by
    simp only [CE_TOT.v, CE_TOT.off, CB_LVL.level, CB_LVL.off]
    omega
  have offended (t : State) (hits : Nat) : (t.offend (memBucket m) inst word bitNo hits).get
      (CE_TOT.v (bucketBase (memBucket m))) = t.get (CE_TOT.v (bucketBase (memBucket m))) := by
    refine congrArg (bitsOf · 31 0) (t.word_offend_ne _ _ _ _ _ (fun j => ?_) ?_ evt cnt)
    · simp only [CE_TOT.v, CE_TOT.off, ROL.off]
      omega
    · simp only [CE_TOT.v, CE_TOT.off, ROL_OVF.off]
      omega
  have counted : ((s.count (CE_TOT.v (bucketBase (memBucket m)))).count (CB_LVL.level (bucketBase (memBucket m)))).get
      (CE_TOT.v (bucketBase (memBucket m))) = min (s.get (CE_TOT.v (bucketBase (memBucket m))) + 1) (2 ^ 32 - 1) :=
    (State.get_count_off _ level).trans (s.get_count_same (by decide : 31 < 32))
  unfold State.correctedError
  dsimp only
  rw [offended]
  split_ifs
  · rw [← counted]
    exact (congrArg (bitsOf · 31 0) (State.word_event_ne _ _ _ evt cnt)).trans (State.get_put_off _ _ level)
  · exact counted

theorem State.mem_correctedError (b : Bucket) (inst word bitNo : Nat) :
    (s.correctedError b inst word bitNo).mem = s.mem := by
  rw [s.onlyRegs_correctedError b inst word bitNo]

theorem State.mem_uncorrectable (m : MemRef) (portB : Bool) (w syn : Nat) :
    (s.uncorrectable m portB w syn).mem = s.mem := by
  unfold State.uncorrectable
  dsimp only
  rw [State.raise_frame]
  exact State.when_keeps State.mem _ _ _ fun _ => rfl

end

/-! ### An edge at a port -/

/-- The latest port setting of a memory is ECC mode ON. -/
def State.eccOn (s : State) (m : MemRef) : State :=
  { s with mem := { s.mem with eccOff := s.mem.eccOff.set offDefault (memKey m) false } }

section
variable {s : State} {m : MemRef} {portB : Bool} {cfg : PortCfg} {pins : PortPins}

/-- The three commands of a port are its edge, with what it changed mirrored. -/
theorem exec_port {t : State} (h : s.portEdge m portB cfg pins = .next t) :
    exec (.memoryPortWrite m portB cfg pins) s = .next (s.mirrorFrom t)
      ∧ exec (.memoryPortRead m portB cfg pins) s = .next (s.mirrorFrom t)
      ∧ exec (.narrowWrite m portB cfg pins) s = .next (s.mirrorFrom t) := by
  have edge : mirrored (fun s => s.portEdge m portB cfg pins) s = .next (s.mirrorFrom t) := by simp only [mirrored, h]
  exact ⟨edge, edge, edge⟩

section
variable (fits : portFits m portB cfg pins = true)
include fits

theorem State.portEdge_idle (idle : s.memActs m = false) : s.portEdge m portB cfg pins = .next s := by
  simp [State.portEdge, fits, idle]

section
variable (acts : s.memActs m = true) (ecc : cfg.ecc = true) (width : cfg.width = .w72) (noReg : cfg.outReg = false)
  (own : s.standby = false)
include acts ecc width noReg own

theorem State.portEdge_writes (we : pins.we ≠ 0) : s.portEdge m portB cfg pins
    = .next ((s.eccOn m).portWrite m portB cfg pins (pins.addr.toNat % memDepth m) 0) := by
  have writes : portWrites cfg pins.we = true := by
    rw [portWrites, width]
    exact decide_eq_true we
  simp [State.portEdge, State.eccOn, State.when, portPlace, widthBits, fits, acts, ecc, width, noReg, own, writes,
    Nat.mod_one]

theorem State.portEdge_reads (we : pins.we = 0) : s.portEdge m portB cfg pins
    = .next ((s.eccOn m).portRead m portB cfg pins (pins.addr.toNat % memDepth m) 0) := by
  have reads : portWrites cfg pins.we = false := by simp [portWrites, width, widthBits, we]
  simp [State.portEdge, State.eccOn, State.when, portPlace, widthBits, fits, acts, ecc, width, noReg, own, reads,
    Nat.mod_one]

end

end

end

/-! ### The bytes that a write reaches -/

/-- The ones of the first `n` bytes whose write enable is 1. -/
def enabledBytes (we : BitVec 8) (n : Nat) : Nat :=
  (List.range n).foldl (fun a b => a + if we.getLsbD b then 255 * 2 ^ (8 * b) else 0) 0

theorem enabledBytes_succ (we : BitVec 8) (n : Nat) :
    enabledBytes we (n + 1) = 2 ^ (8 * n) * (if we.getLsbD n then 255 else 0) + enabledBytes we n := by
  unfold enabledBytes
  rw [List.range_succ, List.foldl_append, List.foldl_cons, List.foldl_nil, Nat.add_comm]
  split_ifs
  · rw [Nat.mul_comm]
  · rw [Nat.mul_zero]

theorem enabledBytes_lt (we : BitVec 8) (n : Nat) : enabledBytes we n < 2 ^ (8 * n) := by
  induction n with
  | zero => exact Nat.one_pos
  | succ n ih =>
    rw [enabledBytes_succ, Nat.mul_succ, Nat.pow_add]
    split_ifs <;> omega

theorem testBit_enabledBytes (we : BitVec 8) (n i : Nat) :
    (enabledBytes we n).testBit i = (decide (i < 8 * n) && we.getLsbD (i / 8)) := by
  induction n with
  | zero => simp [enabledBytes]
  | succ n ih =>
    have byte (j : Nat) : (if we.getLsbD n then 255 else 0).testBit j = (we.getLsbD n && decide (j < 8)) := by
      split_ifs with h
      · rw [h, Bool.true_and]
        exact Nat.testBit_two_pow_sub_one 8 j
      · rw [Nat.zero_testBit, Bool.eq_false_iff.2 h, Bool.false_and]
    rw [enabledBytes_succ, Nat.testBit_two_pow_mul_add _ (enabledBytes_lt we n), ih, byte]
    by_cases below : i < 8 * n
    · rw [if_pos below, decide_eq_true below, decide_eq_true (by omega : i < 8 * (n + 1))]
    · by_cases here : i < 8 * (n + 1)
      · rw [if_neg below, decide_eq_true here, decide_eq_true (by omega : i - 8 * n < 8), (by omega : i / 8 = n),
          Bool.and_comm]
      · rw [if_neg below, decide_eq_false here, decide_eq_false (by omega : ¬ i - 8 * n < 8), Bool.and_false,
          Bool.false_and]

section
variable {s : State} {m : MemRef} {portB : Bool} {cfg : PortCfg} {pins : PortPins} {w : Nat} (ecc : cfg.ecc = true)
  (width : cfg.width = .w72) (keep : cfg.rdw = .keep) (alone : pins.other = .none) (direct : s.remapOf m w = none)
  (unarmed : s.is (RGN_MEM_ECC_INJ.arm m.region) = false)

section
include ecc width keep alone direct unarmed

/-- A full write (R83). -/
theorem State.portWrite_full (full : pins.we = 0xFF) (j : Nat) :
    s.portWrite m portB cfg pins w j = s.holdCoded m w (wordData pins.din) := by
  have whole : portNarrow cfg pins.we = false := by simp [portNarrow, width, widthBits, full]
  have data : portData cfg j pins.din = pins.din := by simp [portData, width, widthBits]
  simp only [State.portWrite, ecc, whole, data, keep, alone, spoilsStore, Bool.not_true, Bool.false_eq_true, if_false]
  exact State.writeCoded_direct direct unarmed _ _

end

/-- The data that a narrow write at 72 bits makes of the old data and the pins' (R85). -/
def mergedData (pins : PortPins) (cfg : PortCfg) (old : Nat) : Nat :=
  ((BitVec.ofNat 72 old &&& ~~~portMask cfg 0 pins.we) ||| (pins.din &&& portMask cfg 0 pins.we)).toNat % 2 ^ 64

section
include ecc width keep alone direct unarmed

/-- A narrow write of a word without errors (R85). -/
theorem State.portWrite_narrow (narrow : pins.we ≠ 0xFF) (valid : m.deep = true → (s.cell (memKey m) w).valid = 7)
    (good : decodeWord (s.cell (memKey m) w).cells = .good) :
    s.portWrite m portB cfg pins w 0
      = (s.holdCoded m w (mergedData pins cfg (wordData (s.cell (memKey m) w).cells))).showPort m portB
          (s.mem.ports.get memPortDefault (memPortKey m portB)).dout false false := by
  have part : portNarrow cfg pins.we = true := by rw [portNarrow, decide_eq_true narrow, Bool.or_true]
  have data : portData cfg 0 pins.din = pins.din := by simp [portData, width, widthBits]
  have read := State.readWord_direct direct valid portB
  simp only [good] at read
  have ports := s.ports_holdCoded m w (mergedData pins cfg (wordData (s.cell (memKey m) w).cells))
  simp only [State.portWrite, ecc, part, data, keep, alone, spoilsStore, collides, read, State.stored_direct direct,
    Bool.not_true, Bool.false_eq_true, if_false, if_true, Bool.or_false, State.writeCoded_direct direct unarmed]
  rw [← ports]
  rfl

end

theorem mergedData_mod (old : Nat) : mergedData pins cfg old % 2 ^ 64 = mergedData pins cfg old := Nat.mod_mod _ _

/-- A port at 72 bits writes the bytes whose write enable is 1 (R76). -/
theorem getLsbD_portMask (ecc : cfg.ecc = true) (width : cfg.width = .w72) (we : BitVec 8) {i : Nat} (hi : i < 64) :
    (portMask cfg 0 we).getLsbD i = we.getLsbD (i / 8) := by
  have mask : portMask cfg 0 we = BitVec.ofNat 72 (enabledBytes we 8) := by
    simp only [portMask, width, widthBits, ecc, Bool.true_or, if_true, Nat.add_zero, enabledBytes]
  rw [mask, BitVec.getLsbD_ofNat, testBit_enabledBytes, decide_eq_true (by omega : i < 72),
    decide_eq_true (by omega : i < 8 * 8), Bool.true_and, Bool.true_and]

/-- Each byte of the merged data comes from the pins where its write enable is 1, else from the old data (R85). -/
theorem bitsN_mergedData (ecc : cfg.ecc = true) (width : cfg.width = .w72) (old : Nat) {b : Nat} (hb : b < 8) :
    bitsN (mergedData pins cfg old) (8 * b + 7) (8 * b)
      = bitsN (if pins.we.getLsbD b then wordData pins.din else old) (8 * b + 7) (8 * b) := by
  have merged : ∀ i < 64, (mergedData pins cfg old).testBit i
      = if pins.we.getLsbD (i / 8) then (wordData pins.din).testBit i else old.testBit i := by
    intro i hi
    have din : (wordData pins.din).testBit i = pins.din.getLsbD i := by
      rw [wordData, Nat.testBit_mod_two_pow, decide_eq_true hi, Bool.true_and]
      rfl
    rw [mergedData, Nat.testBit_mod_two_pow, decide_eq_true hi, Bool.true_and, din]
    change BitVec.getLsbD _ i = _
    rw [BitVec.getLsbD_or, BitVec.getLsbD_and, BitVec.getLsbD_and, BitVec.getLsbD_not, BitVec.getLsbD_ofNat,
      getLsbD_portMask ecc width _ hi, decide_eq_true (by omega : i < 72)]
    cases pins.we.getLsbD (i / 8) <;> simp
  refine Nat.eq_of_testBit_eq fun i => ?_
  simp only [bitsN, Nat.testBit_mod_two_pow, Nat.testBit_div_two_pow]
  by_cases inside : i < 8 * b + 7 + 1 - 8 * b
  · rw [merged _ (by omega), (by omega : (i + 8 * b) / 8 = b)]
    split_ifs <;> rfl
  · rw [decide_eq_false inside, Bool.false_and, Bool.false_and]

section
include ecc width alone direct

/-- What a port shows of a read (R77, R84). -/
theorem State.portRead_direct (valid : m.deep = true → (s.cell (memKey m) w).valid = 7) :
    s.portRead m portB cfg pins w 0 = match decodeWord (s.cell (memKey m) w).cells with
      | .good => s.showPort m portB (s.cell (memKey m) w).cells false false
      | .corrected b x => (s.correctedError (memBucket m) m.inst w b).showPort m portB
          (BitVec.ofNat 72 (x + wordCheck (s.cell (memKey m) w).cells * 2 ^ 64)) true false
      | .bad syn => (s.uncorrectable m portB w syn).showPort m portB (s.cell (memKey m) w).cells false true := by
  have view (v : BitVec 72) : portView cfg 0 v = v := by simp [portView, width, widthBits, widthCheck]
  have read := State.readWord_direct direct valid portB
  have apart : pins.other ≠ .indepWrite := by rw [alone]; decide
  have seen : collides pins.other = false := by rw [alone]; rfl
  simp only [State.portRead, if_neg apart, seen, ecc, read, view]
  cases decodeWord (s.cell (memKey m) w).cells <;> rfl

end

end

/-- The state of a port after it has shown a word. -/
theorem State.port_showPort (s : State) (m : MemRef) (portB : Bool) (v : BitVec 72) (ecor eunc : Bool) :
    (s.showPort m portB v ecor eunc).mem.ports.get memPortDefault (memPortKey m portB)
      = { s.mem.ports.get memPortDefault (memPortKey m portB) with dout := v, ecor := ecor, eunc := eunc } :=
  KMap.get_set_same ..

/-- Settles O28: the three commands are one edge of a port, which does what its write enables say to the word that its
address reaches. -/
theorem memoryPortCommandsComplete : Obligations.MemoryPortCommandsComplete := by
  unfold Obligations.MemoryPortCommandsComplete
  refine ⟨fun s m portB cfg pins fits idle => exec_port (State.portEdge_idle fits idle),
    fun s m portB cfg pins fits acts ecc width noReg keep alone own unarmed direct => ?_⟩
  have direct' : (s.eccOn m).remapOf m (pins.addr.toNat % memDepth m) = none := direct
  have unarmed' : (s.eccOn m).is (RGN_MEM_ECC_INJ.arm m.region) = false := unarmed
  have cell (k w : Nat) : (s.eccOn m).cell k w = s.cell k w := rfl
  have inDepth := mod_memDepth_lt m pins.addr.toNat
  refine ⟨fun full => ?full, fun we narrow good valid => ?narrow, fun we valid => ?read⟩
  case full =>
    obtain ⟨edge, -, -⟩ := exec_port (State.portEdge_writes fits acts ecc width noReg own (by rw [full]; decide))
    rw [State.portWrite_full ecc width keep alone direct' unarmed' full] at edge
    refine ⟨_, edge, State.cells_holdCoded _ m _ _, State.valid_holdCoded _ _ _, fun k' w' hw' apart =>
      State.cell_holdCoded_ne _ _ inDepth hw' apart, ?_⟩
    obtain ⟨ws, held⟩ := (s.eccOn m).holdCoded_frame m (pins.addr.toNat % memDepth m) (wordData pins.din)
    rw [held]
    rfl
  case narrow =>
    obtain ⟨-, -, edge⟩ := exec_port (State.portEdge_writes fits acts ecc width noReg own we)
    rw [State.portWrite_narrow ecc width keep alone direct' unarmed' narrow valid good, cell] at edge
    have cells := (s.eccOn m).cells_holdCoded m (pins.addr.toNat % memDepth m)
      (mergedData pins cfg (wordData (s.cell (memKey m) (pins.addr.toNat % memDepth m)).cells))
    refine ⟨_, edge, cells.trans ?_, fun b hb => ?_, fun k' w' hw' apart =>
      State.cell_holdCoded_ne (s.eccOn m) _ inDepth hw' apart, ?_⟩
    · exact (congrArg coded ((congrArg wordData cells).trans ((wordData_coded _).trans (mergedData_mod _)))).symm
    · rw [← bitsN_mergedData ecc width _ hb]
      exact congrArg (bitsN · _ _) ((congrArg wordData cells).trans ((wordData_coded _).trans (mergedData_mod _)))
    · obtain ⟨ws, held⟩ := (s.eccOn m).holdCoded_frame m (pins.addr.toNat % memDepth m)
        (mergedData pins cfg (wordData (s.cell (memKey m) (pins.addr.toNat % memDepth m)).cells))
      rw [held]
      rfl
  case read =>
    obtain ⟨-, edge, -⟩ := exec_port (State.portEdge_reads fits acts ecc width noReg own we)
    rw [State.portRead_direct ecc width alone direct' valid, cell] at edge
    refine ⟨fun good => ?good, fun b x corrected => ?corrected, fun syn bad => ?bad⟩
    case good =>
      simp only [good] at edge
      exact ⟨_, edge, State.port_showPort .., rfl⟩
    case corrected =>
      simp only [corrected] at edge
      have counted := (s.eccOn m).get_ceTot_correctedError m m.inst (pins.addr.toNat % memDepth m) b
      have frame := (s.eccOn m).onlyRegs_correctedError (memBucket m) m.inst (pins.addr.toNat % memDepth m) b
      have kept := (s.eccOn m).mem_correctedError (memBucket m) m.inst (pins.addr.toNat % memDepth m) b
      have words := congrArg MemState.words kept
      refine ⟨_, edge, (State.port_showPort ..).trans ?_, counted, words, ?_⟩
      · rw [kept]
        rfl
      · rw [frame]
        rfl
    case bad =>
      simp only [bad] at edge
      refine ⟨_, ?_, edge⟩
      rw [State.mem_uncorrectable]
      rfl

end Sys2Proof.Machine
end

section
/-! The valid bits of a deep memory that CLRV clears (R82): in canonical form it clears every one, and out of it the
statement on maintenance fails. -/

namespace Sys2Proof.Machine

open Reg

/-- A canonical map reads as `f` of what it read, where `f` leaves what an unlisted number reads as. -/
theorem KMap.get_mapEntries {α : Type} [DecidableEq α] (d : Nat → α) (f : Nat → α → α) (stands : ∀ k, f k (d k) = d k)
    {lo : Nat} {m : KMap α} (wf : KMap.wfFrom d lo m) (k : Nat) : (m.mapEntries d f).get d k = f k (m.get d k) := by
  induction m generalizing lo with
  | nil => exact (stands k).symm
  | cons e m ih =>
    obtain ⟨a, v⟩ := e
    simp only [KMap.wfFrom, Bool.and_eq_true] at wf
    obtain ⟨-, rest⟩ := wf
    have later := ih rest
    by_cases here : k = a
    · subst here
      have unlisted : KMap.get d m k = d k := KMap.get_of_lt d rest (Nat.lt_succ_self k)
      rw [unlisted, stands] at later
      simp only [KMap.mapEntries, KMap.get, if_true]
      split_ifs with dropped
      · rw [later, dropped]
      · simp [KMap.get]
    · simp only [KMap.mapEntries, KMap.get, if_neg here]
      split_ifs
      · exact later
      · simp only [KMap.get, if_neg here, later]

/-- Where the words stand in canonical form every valid bit of the deep memory is cleared and all else stands (R82). -/
theorem State.cell_clearValid {s : State} (wf : s.mem.words.wf wordDefault) (m : MemRef) {k w : Nat} (hw : w < 4096) :
    (s.clearValid m).cell k w = if k = memKey m then { s.cell k w with valid := 0 } else s.cell k w := by
  have cell := KMap.get_mapEntries wordDefault
    (fun a v => if memKey m * 4096 ≤ a && a < memKey m * 4096 + 4096 then { v with valid := 0 } else v)
    (fun k => by split_ifs <;> rfl) wf (k * 4096 + w)
  refine cell.trans (if_congr ?_ rfl rfl)
  simp only [Bool.and_eq_true, decide_eq_true_eq]
  omega

section
variable {s : State}

theorem exec_clrv_clears {r : Fin 240} {i : Fin 6}
    (acts : s.memActs { deep := true, region := r, inst := Fin.ofNat 72 i.val } = true) (own : s.standby = false) :
    exec (.clrv r i) s
      = .next (s.mirrorFrom (s.clearValid { deep := true, region := r, inst := Fin.ofNat 72 i.val })) := by
  show execClrv r i s = _
  simp only [execClrv, mirrored, acts, own, Bool.not_true, Bool.false_and, Bool.false_eq_true, if_false]

/-- The statement's clause on CLRV holds where the words stand in canonical form. -/
theorem exec_clrv_of_wf (wf : s.mem.words.wf wordDefault) (r : Fin 240) (i : Fin 6) :
    let m : MemRef := { deep := true, region := r, inst := Fin.ofNat 72 i.val }
    s.memActs m = true → s.standby = false →
    ∃ t, exec (.clrv r i) s = .next (s.mirrorFrom t)
      ∧ (∀ w < 4096, t.cell (memKey m) w = { s.cell (memKey m) w with valid := 0 })
      ∧ (∀ k w, w < 4096 → k ≠ memKey m → t.cell k w = s.cell k w)
      ∧ t = { s with mem := { s.mem with words := t.mem.words } } :=
  fun acts own => ⟨_, exec_clrv_clears acts own, fun _ hw => (State.cell_clearValid wf _ hw).trans (if_pos rfl),
    fun _ _ hw other => (State.cell_clearValid wf _ hw).trans (if_neg other), rfl⟩

theorem State.mirrorFrom_quiet (s : State) {t : State} (regs : t.regs = s.regs) (quiet : s.mirrors = false) :
    s.mirrorFrom t = t := by
  have same : t.mirrors = s.mirrors := by simp only [State.mirrors, State.is, State.get_of_regs regs]
  simp [State.mirrorFrom, same, quiet]

end

/-- The deep memory 0 of region 0. -/
def firstDeepMemory : MemRef := { deep := true, region := 0, inst := 0 }

/-- The state after reset, but with a word of a deep memory listed twice: it reads as the first, zero and valid. -/
def listedTwice : State :=
  { State.reset with mem := { words :=
      [(memKey firstDeepMemory * 4096, { valid := 7 }), (memKey firstDeepMemory * 4096, { cells := 1 })] } }

/-- Refutes O29: its clause on CLRV holds of every state, canonical or not. In `listedTwice` the entry that CLRV clears
is as an unlisted word reads and disappears, so the word reads as the second entry and its data goes from 0 to 1. In
canonical form the clause holds (`exec_clrv_of_wf`). -/
theorem not_memoryMaintenanceCommandsComplete : ¬ Obligations.MemoryMaintenanceCommandsComplete := by
  unfold Obligations.MemoryMaintenanceCommandsComplete
  rintro ⟨clears, -⟩
  have acts : listedTwice.memActs firstDeepMemory = true := by decide +kernel
  have own : listedTwice.standby = false := by decide +kernel
  have quiet : listedTwice.mirrors = false := by decide +kernel
  have before : (listedTwice.cell (memKey firstDeepMemory) 0).cells = 0 := by decide +kernel
  have after : ((listedTwice.clearValid firstDeepMemory).cell (memKey firstDeepMemory) 0).cells = 1 := by decide +kernel
  obtain ⟨t, run, cells, -, frame⟩ := clears listedTwice 0 0 acts own
  have result : exec (.clrv 0 0) listedTwice = .next (listedTwice.clearValid firstDeepMemory) :=
    (exec_clrv_clears acts own).trans (congrArg Host.Outcome.next (listedTwice.mirrorFrom_quiet rfl quiet))
  have regs : t.regs = listedTwice.regs := by rw [frame]
  rw [result, listedTwice.mirrorFrom_quiet regs quiet] at run
  obtain rfl : listedTwice.clearValid firstDeepMemory = t := Host.Outcome.next.inj run
  have claimed := congrArg MemWord.cells (cells 0 (by decide))
  exact absurd (after.symm.trans (claimed.trans before)) (by decide)

end Sys2Proof.Machine
end

section
/-! The parts of the Timing Hub beyond its registers, quantities across registers (R9), the passing of time (R131,
R132), and commands whose changes a primary mirrors (R458). -/

namespace Sys2Proof.Machine

open Reg

theorem mirrored_next {f : State → Out} {s t : State} (h : f s = .next t) : mirrored f s = .next (s.mirrorFrom t) := by
  simp only [mirrored, h]

theorem mirrored_eq {g : State → State} {s t : State} (h : g s = t) :
    mirrored (fun s => .next (g s)) s = .next (s.mirrorFrom t) := mirrored_next (congrArg Host.Outcome.next h)

section
variable (s : State)

/-! ### Stores of one part -/

@[simp] theorem State.tl_setTl_same (n : Nat) (v : ThLane) : (s.setTl n v).tl n = v := KMap.get_set_same ..
@[simp] theorem State.get_setTl (n : Nat) (v : ThLane) (f : Field) : (s.setTl n v).get f = s.get f := rfl

@[simp] theorem State.chan_setChan_same (c : Nat) (v : ThChan) : (s.setChan c v).chan c = v := KMap.get_set_same ..
@[simp] theorem State.word_setChan (c : Nat) (v : ThChan) (o : Nat) : (s.setChan c v).word o = s.word o := rfl
@[simp] theorem State.get_setChan (c : Nat) (v : ThChan) (f : Field) : (s.setChan c v).get f = s.get f := rfl
@[simp] theorem State.chan_put (f : Field) (v c : Nat) : (s.put f v).chan c = s.chan c := rfl
@[simp] theorem State.chan_write (o : Nat) (v : Word) (c : Nat) : (s.write o v).chan c = s.chan c := rfl
@[simp] theorem State.chan_releaseOut (o c : Nat) : (s.releaseOut o).chan c = s.chan c := rfl

@[simp] theorem State.grid_setGrid_same (n : Nat) (v : SrGrid) : (s.setGrid n v).grid n = v := KMap.get_set_same ..
@[simp] theorem State.get_setGrid (n : Nat) (v : SrGrid) (f : Field) : (s.setGrid n v).get f = s.get f := rfl

@[simp] theorem State.out_setOut_same (o : Nat) (v : ThOut) : (s.setOut o v).out o = v := KMap.get_set_same ..

theorem State.get_depth_setOut (o : Nat) {v : ThOut} (h : v.queue.length < 32) :
    (s.setOut o v).get (TH_OUT_STAT.depth o) = v.queue.length :=
  (State.get_put_same _ _ (by simp [TH_OUT_STAT.depth])).trans (Nat.mod_eq_of_lt h)

/-! ### Registers that a store leaves -/

variable {s} in
theorem State.SameRegs.trans {t u : State} {os os' : List Nat} (h : s.SameRegs t os) (h' : t.SameRegs u os') :
    s.SameRegs u (os ++ os') := fun o ho => by
  rw [List.mem_append, not_or] at ho
  exact (h' o ho.2).trans (h o ho.1)

variable {s} in
theorem State.SameRegs.mono {t : State} {os os' : List Nat} (h : s.SameRegs t os) (sub : os ⊆ os') : s.SameRegs t os' :=
  fun o ho => h o fun mem => ho (sub mem)

/-! ### Quantities across registers -/

theorem State.putWide_succ (off n v : Nat) :
    s.putWide off (n + 1) v = (s.putWide off n v).setWord (off + 4 * n) (BitVec.ofNat 32 (v / 2 ^ (32 * n))) := by
  simp [State.putWide, List.range_succ]

theorem State.getWide_succ (off n : Nat) :
    s.getWide off (n + 1) = s.getWide off n + (s.word (off + 4 * n)).toNat * 2 ^ (32 * n) := by
  simp [State.getWide, List.range_succ]

theorem State.sameRegs_putWide (off n v : Nat) :
    s.SameRegs (s.putWide off n v) ((List.range n).map fun i => off + 4 * i) := by
  induction n with
  | zero => exact fun _ _ => rfl
  | succ n ih =>
    rw [State.putWide_succ, List.range_succ, List.map_append]
    exact ih.trans (State.sameRegs_setWord _ _ _)

theorem State.onlyRegs_putWide (off n v : Nat) : s.OnlyRegs (s.putWide off n v) := by
  induction n with
  | zero => rfl
  | succ n ih =>
    rw [State.putWide_succ]
    exact ih.trans (State.onlyRegs_setWord _ _ _)

theorem State.word_putWide {n i : Nat} (off v : Nat) (hi : i < n) :
    (s.putWide off n v).word (off + 4 * i) = BitVec.ofNat 32 (v / 2 ^ (32 * i)) := by
  induction n with
  | zero => exact absurd hi (Nat.not_lt_zero i)
  | succ n ih =>
    rw [State.putWide_succ]
    rcases Nat.lt_succ_iff_lt_or_eq.1 hi with below | rfl
    · exact (State.word_setWord_ne _ _ (by omega)).trans (ih below)
    · exact State.word_setWord_same _ _ _

/-- Registers that hold the words of a quantity read as it, at their width. -/
theorem State.getWide_of_words {off n v : Nat}
    (h : ∀ i < n, s.word (off + 4 * i) = BitVec.ofNat 32 (v / 2 ^ (32 * i))) : s.getWide off n = v % 2 ^ (32 * n) := by
  induction n with
  | zero => exact (Nat.mod_one v).symm
  | succ n ih =>
    rw [State.getWide_succ, ih fun i hi => h i (Nat.lt_succ_of_lt hi), h n n.lt_succ_self, BitVec.toNat_ofNat,
      Nat.mul_succ, Nat.pow_add, Nat.mod_mul, Nat.mul_comm (2 ^ (32 * n))]

/-! ### Time -/

/-- What brings the time to a moment changes nothing but the time. -/
theorem State.reachTime_frame (t : Time) : s.reachTime t
    = { s with now := (s.reachTime t).now, th := { s.th with time := (s.reachTime t).th.time } } := by
  unfold State.reachTime
  split <;> rfl

theorem State.elapse_stopped (stopped : s.th.running = false) (n : Nat) : (s.elapse n).th = s.th := by
  simp [State.elapse, stopped]

/-- With no correction under way a cycle adds 40,960 units (R131). -/
theorem State.elapse_steady (runs : s.th.running = true) (steady : s.th.slew = 0) :
    (s.elapse 1).th = { s.th with time := s.th.time + 40960, slewAcc := 0 } := by
  have noCorrection :
      max (-(((s.th.slewAcc : Int) + 4096) / 1000)) (min 0 (((s.th.slewAcc : Int) + 4096) / 1000)) = 0 := by
    omega
  simp [State.elapse, runs, steady, noCorrection]

end

/-- Settles O1: the front command runs, or one cycle passes. -/
theorem stepRunsTheFrontCommand : Obligations.StepRunsTheFrontCommand := by
  unfold Obligations.StepRunsTheFrontCommand
  refine ⟨fun s c rest => step_cons, fun s idle => ⟨s.elapse 1, step_nil idle, rfl, rfl, fun stopped => ?_,
    fun runs steady => ?_⟩⟩
  · exact s.elapse_stopped stopped 1
  · rw [s.elapse_steady runs steady]
    exact ⟨rfl, rfl⟩

end Sys2Proof.Machine
end

section
/-! The order of time and triggers: exchanges of times (R144, R145), trigger messages (R141) and the queue of an output
(R157). -/

namespace Sys2Proof.Machine

open Reg

/-! ### Trigger messages -/

theorem crcPolyFrom_lt_two_pow {w poly : Nat} (hpoly : poly < 2 ^ w) (v n : Nat) {c : Nat} (hc : c < 2 ^ w) :
    crcPolyFrom w poly v c n < 2 ^ w := by
  induction n generalizing c with
  | zero => exact hc
  | succ n ih =>
    have shifted : c * 2 % 2 ^ w < 2 ^ w := Nat.mod_lt _ (Nat.two_pow_pos w)
    refine ih ?_
    split
    · exact Nat.xor_lt_two_pow shifted hpoly
    · exact shifted

theorem msgCrc_lt (v : Nat) : msgCrc v < 2 ^ 8 := crcPolyFrom_lt_two_pow (by decide) _ _ (by decide)

/-- The bits [55:0] of a message: its channel above its time (R141). -/
def messageBody (chan time : Nat) : Nat := chan % 4096 * 2 ^ 44 + time / 256 % 2 ^ 44

theorem messageBody_lt (chan time : Nat) : messageBody chan time < 2 ^ 56 := by
  unfold messageBody
  omega

theorem toNat_trigMessage (chan time : Nat) :
    (trigMessage chan time).toNat = msgCrc (messageBody chan time) * 2 ^ 56 + messageBody chan time := by
  have crc := msgCrc_lt (messageBody chan time)
  have body := messageBody_lt chan time
  show (BitVec.ofNat 64 (msgCrc (messageBody chan time) * 2 ^ 56 + messageBody chan time)).toNat = _
  rw [BitVec.toNat_ofNat]
  exact Nat.mod_eq_of_lt (by omega)

theorem msgCrc_trigMessage (chan time : Nat) :
    msgCrc (trigMessage chan time).toNat = bitsN (trigMessage chan time).toNat 63 56 := by
  have crc := msgCrc_lt (messageBody chan time)
  have body := messageBody_lt chan time
  have covered : msgCrc (trigMessage chan time).toNat = msgCrc (messageBody chan time) := by
    simp only [msgCrc, toNat_trigMessage, Nat.mul_add_mod_self_right]
  rw [covered, toNat_trigMessage, bitsN]
  omega

theorem channel_trigMessage {chan : Nat} (time : Nat) (h : chan < 4096) :
    bitsN (trigMessage chan time).toNat 55 44 = chan := by
  rw [toNat_trigMessage, bitsN, messageBody]
  omega

theorem timeField_trigMessage (chan time : Nat) : (trigMessage chan time).toNat % 2 ^ 44 = time / 256 % 2 ^ 44 := by
  rw [toNat_trigMessage, messageBody]
  omega

/-- Of the numbers that end in the low 52 bits of a multiple of 256, the nearest to `now` is that multiple where it is
less than 2⁵¹ away. -/
theorem nearest_time {now time : Nat} (whole : time % 256 = 0) (ahead : now < time + 2 ^ 51)
    (behind : time < now + 2 ^ 51) :
    let base := now / 2 ^ 52 * 2 ^ 52 + time / 256 % 2 ^ 44 * 256
    (if now + 2 ^ 51 < base then base - 2 ^ 52 else if base + 2 ^ 51 ≤ now then base + 2 ^ 52 else base) = time := by
  dsimp only
  split_ifs <;> omega

/-- A time whose units of 256 a message carries is rebuilt where it is less than 2⁵¹ units away (R141). -/
theorem State.toNat_messageTime (s : State) {m : BitVec 64} {time : Nat}
    (field : m.toNat % 2 ^ 44 = time / 256 % 2 ^ 44) (whole : time % 256 = 0) (fits : time < 2 ^ 80)
    (ahead : s.timeNow < time + 2 ^ 51) (behind : time < s.timeNow + 2 ^ 51) : (s.messageTime m).toNat = time := by
  simp only [State.messageTime, field, BitVec.toNat_ofNat]
  exact (congrArg (· % 2 ^ 80) (nearest_time whole ahead behind)).trans (Nat.mod_eq_of_lt fits)

/-! ### The queue of an output -/

theorem queueAct_perm (a : OutAct) (q : List OutAct) : (queueAct a q).Perm (a :: q) := by
  induction q with
  | nil => exact .refl _
  | cons b q ih =>
    unfold queueAct
    split
    · exact .refl _
    · exact (ih.cons b).trans (.swap a b q)

theorem length_queueAct (a : OutAct) (q : List OutAct) : (queueAct a q).length = q.length + 1 :=
  (queueAct_perm a q).length_eq

theorem queueAct_sorted (a : OutAct) {q : List OutAct} (sorted : q.Pairwise fun x y => x.t ≤ y.t) :
    (queueAct a q).Pairwise fun x y => x.t ≤ y.t := by
  induction q with
  | nil => exact List.pairwise_singleton _ a
  | cons b q ih =>
    obtain ⟨least, rest⟩ := List.pairwise_cons.1 sorted
    unfold queueAct
    split
    next first =>
      have before : a.t ≤ b.t := BitVec.le_of_lt first
      refine List.pairwise_cons.2 ⟨fun x hx => ?_, sorted⟩
      rcases List.mem_cons.1 hx with rfl | later
      · exact before
      · exact BitVec.le_trans before (least x later)
    next after =>
      refine List.pairwise_cons.2 ⟨fun x hx => ?_, ih rest⟩
      rcases List.mem_cons.1 ((queueAct_perm a q).mem_iff.1 hx) with rfl | later
      · exact BitVec.not_lt.1 after
      · exact least x later

/-- Among actions of equal time the new one comes last (R157). -/
theorem filter_queueAct (a : OutAct) {q : List OutAct} (sorted : q.Pairwise fun x y => x.t ≤ y.t) :
    (queueAct a q).filter (fun b => b.t = a.t) = q.filter (fun b => b.t = a.t) ++ [a] := by
  induction q with
  | nil => simp [queueAct]
  | cons b q ih =>
    obtain ⟨least, rest⟩ := List.pairwise_cons.1 sorted
    unfold queueAct
    split
    next first =>
      have later : ∀ x ∈ b :: q, x.t ≠ a.t := by
        intro x hx
        rcases List.mem_cons.1 hx with rfl | hx
        · exact (BitVec.ne_of_lt first).symm
        · exact (BitVec.ne_of_lt (Std.lt_of_lt_of_le first (least x hx))).symm
      have none : (b :: q).filter (fun x => x.t = a.t) = [] := List.filter_eq_nil_iff.2 (by simpa using later)
      rw [List.filter_cons_of_pos (by simp), none, List.nil_append]
    next =>
      simp only [List.filter_cons, ih rest]
      split <;> rfl

/-! ### Exchanges -/

section
variable {s : State} (theta d : Int) (noRejoin : s.th.rejoin = none) (noStep : s.is TH_STATUS.step_pending = false)
  (done : s.th.avgDone = true)
include noRejoin noStep done

/-- The standing average slews by a part of each θ and shows the delay's mean (R145, step 4). -/
theorem State.averageIn_standing : ∃ delaySum, s.averageIn theta d = State.putS { s with th := { s.th with
    slew := s.th.slew - (s.th.avgSum + theta) / 16384
    avgSum := (s.th.avgSum + theta) % 16384
    delaySum := delaySum } } (TH_TL_DELAY.v s.upLane) (delaySum / 16384) := by
  refine ⟨s.th.delaySum - s.th.delaySum / 16384 + d, ?_⟩
  simp only [State.averageIn, noRejoin, noStep, done, Bool.not_true, Bool.false_eq_true, if_false, Int.sub_eq_add_neg]
  rfl

/-- A member with its average done that keeps its time takes an exchange into the standing average. -/
theorem State.takeExchange_standing (n : Nat) (keeps : s.get TH_STATUS.state ≠ 0) (notFirst : s.th.firstDue = false) :
    ∃ delaySum, s.takeExchange n theta d = State.putS { s.putS (TH_TL_OFFSET.v n) theta with th := { s.th with
      slew := s.th.slew - (s.th.avgSum + theta) / 16384
      avgSum := (s.th.avgSum + theta) % 16384
      delaySum := delaySum } } (TH_TL_DELAY.v (s.putS (TH_TL_OFFSET.v n) theta).upLane) (delaySum / 16384) := by
  have apart : TH_STATUS.off ≠ TH_TL_OFFSET.off n := by
    unfold TH_STATUS.off TH_TL_OFFSET.off
    omega
  have state : (s.putS (TH_TL_OFFSET.v n) theta).get TH_STATUS.state ≠ 0 := (s.get_put_off _ apart).trans_ne keeps
  have step : (s.putS (TH_TL_OFFSET.v n) theta).is TH_STATUS.step_pending = false := by
    rw [State.is, State.putS, s.get_put_off _ apart]
    exact noStep
  have standing : s.takeExchange n theta d = (s.putS (TH_TL_OFFSET.v n) theta).averageIn theta d := by
    simp [State.takeExchange, State.when, state, notFirst, done]
  rw [standing]
  exact State.averageIn_standing theta d noRejoin step done

end

/-- Settles O22: the sums of an exchange by its two flights, a message by its parts, a queue by induction. -/
theorem timeAndTriggersKeepTheirOrder : Obligations.TimeAndTriggersKeepTheirOrder := by
  unfold Obligations.TimeAndTriggersKeepTheirOrder
  refine ⟨fun t1 t2 t3 t4 a => ?halves, fun d θ => ?flights,
    fun s n theta d keeps notFirst noRejoin noStep done _ => ?slews,
    fun s chan time small => ⟨msgCrc_trigMessage chan time, channel_trigMessage time small,
      fun whole fits ahead behind => s.toNat_messageTime (timeField_trigMessage chan time) whole fits ahead behind⟩,
    fun a q sorted => ⟨queueAct_sorted a sorted, queueAct_perm a q, filter_queueAct a sorted⟩⟩
  case halves =>
    dsimp only [exchangeOf]
    omega
  case flights =>
    simp only [exchangeOf, Prod.mk.injEq]
    omega
  case slews =>
    obtain ⟨delaySum, taken⟩ := State.takeExchange_standing theta d noRejoin noStep done n keeps notFirst
    dsimp only
    rw [taken]
    exact ⟨rfl, rfl, rfl, rfl⟩

end Sys2Proof.Machine
end

section
/-! Outputs and SYSREF generators (R156, R157, R165). -/

namespace Sys2Proof.Machine

open Reg

section
variable {s : State}

/-- A request at an output other than a SYSREF one acts at once, is refused or joins the queue (R156, R157). -/
theorem State.requestOut_eq {o : Nat} {a : OutAct} (ho : o < 24) (acts : a.act ≠ 0) (known : a.act.toNat ≤ 4) :
    s.requestOut o a = if a.t.toNat < s.timeNow + 2621440 then s.actOut o a s.timeNow true
      else if 16 ≤ (s.out o).queue.length then s.raise pageTH4 1 CONTAINED 0x0532 o 0
      else s.setOut o { s.out o with queue := queueAct a (s.out o).queue } := by
  have present : ¬ 28 ≤ o := by omega
  have plain : ¬ 24 ≤ o := by omega
  have named : ¬ a.act = 0#3 := acts
  simp [State.requestOut, nsUnits, present, plain, named, Nat.not_lt.2 known]

theorem State.writeOutReq_go {v : Word} (go : bit v 31 = true) : s.writeOutReq v =
    let u := s.write TH_OUT_REQ3.off v
    u.requestOut (u.get TH_OUT_REQ3.output)
      { t := BitVec.ofNat 80 (u.getWide (TH_OUT_REQ.off 0) 3 % 2 ^ 80)
        act := BitVec.ofNat 3 (u.get TH_OUT_REQ3.action)
        width := BitVec.ofNat 16 (u.get TH_OUT_REQ3.width) } :=
  if_neg (by simp [go])

/-! ### SYSREF -/

section
variable {n : Fin 4} {v : Word} (go : bit v 31 = true)
include go

theorem State.writeSysref_refused
    (bad : ((s.write (TH_SR_CTRL.off n) v).newGrid n ((s.write (TH_SR_CTRL.off n) v).timeNow + 2621440)).bad = true) :
    s.writeSysref n v = (s.write (TH_SR_CTRL.off n) v).put (TH_SR_CTRL.refused n) 1 :=
  (if_neg (by simp [go])).trans (if_pos bad)

/-- A generator takes parameters: a grid with an edge left waits for its first, any other stands at once (R165). -/
theorem State.writeSysref_taken {g : SrRun}
    (new : (s.write (TH_SR_CTRL.off n) v).newGrid n ((s.write (TH_SR_CTRL.off n) v).timeNow + 2621440) = g)
    (good : g.bad = false) :
    s.writeSysref n v = ((s.write (TH_SR_CTRL.off n) v).put (TH_SR_CTRL.refused n) 0).setGrid n
      (if g.live then { (s.write (TH_SR_CTRL.off n) v).grid n with coming := some g }
        else { (s.write (TH_SR_CTRL.off n) v).grid n with run := g, coming := none }) := by
  subst new
  refine (if_neg (by simp [go])).trans ((if_neg (by simpa [nsUnits] using good)).trans ?_)
  split
  next live => rw [if_pos (by exact live)]; rfl
  next still => rw [if_neg (by exact still)]; rfl

end

section
variable {n : Fin 4}

theorem exec_sysrefEdge_rise {t : Nat} {r : SrRun} (noFall : (s.grid n).fallAt = none)
    (rise : (s.grid n).nextRise = some (t, r)) :
    exec (.sysrefEdge n) s = .next (s.mirrorFrom (((s.reachTime (BitVec.ofNat 80 t)).driveSysref n true t).setGrid n
      { run := { r with next := r.next + 1 }
        coming := if decide ((s.grid n).coming = some r) then none else (s.grid n).coming
        fallAt := some (t + r.high) })) := by
  show execSysrefEdge n s = _
  exact mirrored_next (by simp only [noFall, rise, Bool.false_eq_true, if_false])

theorem exec_sysrefEdge_fall {f : Nat} (fall : (s.grid n).fallAt = some f) (noRise : (s.grid n).nextRise = none) :
    exec (.sysrefEdge n) s = .next (s.mirrorFrom (((s.reachTime (BitVec.ofNat 80 f)).driveSysref n false f).setGrid n
      { s.grid n with fallAt := none })) := by
  show execSysrefEdge n s = _
  exact mirrored_next (by simp only [fall, noRise, if_true, Option.getD_some])

end

/-! ### Actions and pulses -/

section
variable {o : Fin 28}

theorem exec_outputActionDue {a : OutAct} {rest : List OutAct} (queue : (s.out o).queue = a :: rest)
    (own : s.standby = false) :
    exec (.outputActionDue o) s = .next (s.mirrorFrom
      (((s.reachTime a.t).setOut o { s.out o with queue := rest }).actOut o a a.t.toNat false)) := by
  show execOutputActionDue o s = _
  exact mirrored_next (by simp only [queue, own, Bool.false_eq_true, if_false])

theorem exec_pulseEnd {e : Time} (pulse : (s.out o).pulseEnd = some e) :
    exec (.pulseEnd o) s = .next (((s.reachTime e).setOut o { s.out o with pulseEnd := none }).actOut o
      { t := e, act := 2, width := 0 } e.toNat false) := by
  show execPulseEnd o s = _
  simp only [execPulseEnd, pulse]

end

end

/-- Settles O24: each command by the tests of its own operation. -/
theorem outputCommandsComplete : Obligations.OutputCommandsComplete := by
  unfold Obligations.OutputCommandsComplete
  refine ⟨fun s v go => ?request,
    fun s o a ho acts known => ⟨fun late => ?atOnce, fun inTime full => ?refused, fun inTime room => ?joins⟩,
    fun s o a rest queue own => exec_outputActionDue queue own, fun s o e pulse => exec_pulseEnd pulse,
    fun s n v go => ⟨fun bad => ?bad, fun good => ?taken⟩,
    fun s n t r noFall rise => ⟨_, exec_sysrefEdge_rise noFall rise⟩,
    fun s n f fall noRise => exec_sysrefEdge_fall fall noRise⟩
  case request =>
    show execOutputRequest v s = _
    exact mirrored_eq (State.writeOutReq_go go)
  case bad =>
    show execSysrefGo n v s = _
    exact mirrored_eq (State.writeSysref_refused go bad)
  case atOnce => rw [State.requestOut_eq ho acts known, if_pos late]
  case refused => rw [State.requestOut_eq ho acts known, if_neg (Nat.not_lt.2 inTime), if_pos full]
  case joins =>
    rw [State.requestOut_eq ho acts known, if_neg (Nat.not_lt.2 inTime), if_neg (Nat.not_le.2 room)]
    refine ⟨State.out_setOut_same _ _ _, (State.get_depth_setOut _ _ ?_).trans (length_queueAct _ _)⟩
    rw [length_queueAct]
    omega
  case taken =>
    refine ⟨_, mirrored_eq (g := fun s => s.writeSysref n v) (State.writeSysref_taken go rfl good), ?_,
      State.grid_setGrid_same _ _ _⟩
    rw [State.get_setGrid]
    exact State.get_put_same _ _ (by simp [TH_SR_CTRL.refused])

end Sys2Proof.Machine
end

section
/-! Line faults: contention, shorts, opens, the idle check and the clearing of a fault (R163, R164). -/

namespace Sys2Proof.Machine

open Reg

section
variable (s : State) (c : Nat)

/-! ### A line's fault state -/

theorem State.setLine_driven (fault : Nat) (masked : Bool) : s.setLine c fault false masked
    = ((s.put (TH_IN_STAT.fault c) fault).putB (TH_IN_STAT.drv_off c) false).setChan c
        { s.chan c with masked := masked } := rfl

theorem State.get_fault_setLine {fault : Nat} (masked : Bool) (h : fault < 8) :
    (s.setLine c fault false masked).get (TH_IN_STAT.fault c) = fault := by
  rw [State.setLine_driven, State.get_setChan, State.putB,
    State.get_put_apart _ _ (by simp [TH_IN_STAT.fault]) (by simp [TH_IN_STAT.fault, TH_IN_STAT.drv_off])]
  exact (State.get_put_same _ _ (by simp [TH_IN_STAT.fault])).trans (Nat.mod_eq_of_lt h)

theorem State.get_drvOff_setLine (fault : Nat) (masked : Bool) :
    (s.setLine c fault false masked).get (TH_IN_STAT.drv_off c) = 0 := by
  rw [State.setLine_driven, State.get_setChan]
  exact State.get_put_same _ _ (by simp [TH_IN_STAT.drv_off])

theorem State.chan_setLine (fault : Nat) (masked : Bool) :
    (s.setLine c fault false masked).chan c = { s.chan c with masked := masked } :=
  State.chan_setChan_same ..

theorem State.sameRegs_setLine (fault : Nat) (masked : Bool) :
    s.SameRegs (s.setLine c fault false masked) [TH_IN_STAT.off c] := by
  intro o ho
  have apart : o ≠ TH_IN_STAT.off c := by simpa using ho
  rw [State.setLine_driven, State.word_setChan, State.putB, State.word_put_ne _ _ apart, State.word_put_ne _ _ apart]

/-! ### A fault that stays is cleared -/

theorem State.get_fault_clearLine : (s.clearLine c).get (TH_IN_STAT.fault c) = 0 :=
  (State.get_put_apart _ _ (by simp [TH_IN_STAT.fault]) (by simp [TH_IN_STAT.fault, TH_IN_STAT.retries])).trans
    (State.get_fault_setLine _ c false (by decide))

theorem State.get_drvOff_clearLine : (s.clearLine c).get (TH_IN_STAT.drv_off c) = 0 :=
  (State.get_put_apart _ _ (by simp [TH_IN_STAT.drv_off]) (by simp [TH_IN_STAT.drv_off, TH_IN_STAT.retries])).trans
    (State.get_drvOff_setLine _ c 0 false)

theorem State.get_retries_clearLine : (s.clearLine c).get (TH_IN_STAT.retries c) = 0 :=
  State.get_put_same _ _ (by simp [TH_IN_STAT.retries])

theorem State.chan_clearLine : (s.clearLine c).chan c = { s.chan c with backoff := false, masked := false } := by
  have retries : (s.clearLine c).chan c
      = ((s.setChan c { s.chan c with backoff := false }).setLine c 0 false false).chan c := State.chan_put ..
  rw [retries, State.chan_setLine, State.chan_setChan_same]

/-! ### A write of TH_IN_CFG -/

/-- The check bit starts an idle check, which releases the driver of a TRIG line (R164). -/
theorem State.writeInCfg_check {v : Word} (check : bit v 30 = true) : ∃ u : State, s.writeInCfg c v
    = (u.setChan c { u.chan c with checking := true, checked := true }).when
        (decide (c < 16)) fun t => t.releaseOut c :=
  ⟨_, if_pos (by simp [check])⟩

/-- On a line that has been checked the clear bit alone clears its fault (R164). -/
theorem State.writeInCfg_clear {v : Word} (clear : bit v 31 = true) (noCheck : bit v 30 = false)
    (checked : (s.chan c).checked = true) : ∃ u : State, s.writeInCfg c v = u.clearLine c :=
  ⟨_, (if_neg (by simp [noCheck, checked])).trans (if_pos clear)⟩

end

section
variable {s : State}

/-! ### The commands -/

theorem execShortClear_clears {c : Fin 16} (short : s.get (TH_IN_STAT.fault c) = 2) :
    execShortClear c s = .next (s.setLine c 0 false false) :=
  congrArg Host.Outcome.next (if_pos (decide_eq_true short))

section
variable {c : Fin 24}

theorem execContentionRetry_waits (backoff : (s.chan c).backoff = true) (fault : s.get (TH_IN_STAT.fault c) = 1) :
    execContentionRetry c s =
      let u := s.setChan c { s.chan c with backoff := false }
      if s.get (TH_IN_CFG.max_retry c) ≤ s.get (TH_IN_STAT.retries c) then .next u
      else .next ((u.count (TH_IN_STAT.retries c)).setLine c 0 false (s.chan c).masked) :=
  (if_neg (by simp [backoff, fault])).trans (by simp only [State.get_setChan, State.chan_setChan_same])

/-- An open line that is whole again drives and is heard, whichever kind it is (R163). -/
theorem execOpenClear_clears (fault : s.get (TH_IN_STAT.fault c) = 3) :
    ∃ t, execOpenClear c s = .next t ∧ t.get (TH_IN_STAT.fault c) = 0 ∧ (t.chan c).masked = false
      ∧ s.SameRegs t [TH_IN_STAT.off c] := by
  have isOpen : ¬ s.get (TH_IN_STAT.fault c) ≠ 3 := not_not.2 fault
  by_cases driver : c.val < 16
  · exact ⟨_, (if_neg isOpen).trans (if_pos driver), s.get_fault_setLine c false (by decide),
      congrArg ThChan.masked (s.chan_setLine c 0 false), s.sameRegs_setLine c 0 false⟩
  · exact ⟨_, (if_neg isOpen).trans (if_neg driver), s.get_put_same 0 (by simp [TH_IN_STAT.fault]),
      congrArg ThChan.masked (State.chan_setChan_same ..), s.sameRegs_put (TH_IN_STAT.fault c) 0⟩

theorem execIdleCheckComplete_checking (checking : (s.chan c).checking = true) (r : IdleResult) :
    execIdleCheckComplete c r s =
      let u := s.setChan c { s.chan c with checking := false }
      match r with
      | .normal => .next (u.put (TH_IN_STAT.check c) 1)
      | .reversed => .next (((u.setChan c { u.chan c with reversed := true }).put (TH_IN_STAT.check c) 2).raise pageTH2
          c CORRECTED 0x0523 c 0)
      | .inconclusive => .next ((u.put (TH_IN_STAT.check c) 3).raise pageTH2 c INFO 0x0524 c 0) :=
  if_neg (by simp [checking])

end

end

/-- Settles O26: each command by its own test, and what it leaves by the stores of the line's fault state. -/
theorem lineFaultCommandsComplete : Obligations.LineFaultCommandsComplete := by
  unfold Obligations.LineFaultCommandsComplete
  refine ⟨fun s c on => ⟨_, rfl, if_neg (by simp [on])⟩,
    fun s c backoff fault => ⟨fun spent => ?gaveUp, fun left => ?retries⟩, fun s c => rfl, fun s c short => ?short,
    fun s c input => ?openInput, fun s c driver => ?openLine, fun s c fault => execOpenClear_clears fault,
    fun s c v check _ => ?check,
    fun s c checking => ⟨execIdleCheckComplete_checking checking .normal,
      execIdleCheckComplete_checking checking .reversed,
      execIdleCheckComplete_checking checking .inconclusive⟩, fun s c v clear noCheck checked => ?clear⟩
  case gaveUp => exact (execContentionRetry_waits backoff fault).trans (if_pos spent)
  case retries => exact (execContentionRetry_waits backoff fault).trans (if_neg (Nat.not_le.2 left))
  case short =>
    exact ⟨_, execShortClear_clears short, s.get_fault_setLine c false (by decide), s.get_drvOff_setLine c 0 false,
      s.chan_setLine c 0 false, s.sameRegs_setLine c 0 false⟩
  case openInput =>
    show execLineOpen c s = _
    simp only [execLineOpen, if_neg (Nat.not_lt.2 input)]
  case openLine =>
    show execLineOpen c s = _
    simp only [execLineOpen, if_pos driver]
  case check =>
    obtain ⟨u, written⟩ := s.writeInCfg_check c check
    have line : (s.writeInCfg c v).chan c = { u.chan c with checking := true, checked := true } := by
      rw [written, State.when_keeps (fun t => t.chan c) _ _ _ fun t => t.chan_releaseOut c c]
      exact State.chan_setChan_same ..
    exact ⟨_, rfl, congrArg ThChan.checking line, congrArg ThChan.checked line⟩
  case clear =>
    obtain ⟨u, written⟩ := s.writeInCfg_clear c clear noCheck checked
    exact ⟨u.clearLine c, congrArg Host.Outcome.next written, u.get_fault_clearLine c, u.get_drvOff_clearLine c,
      u.get_retries_clearLine c, congrArg ThChan.masked (u.chan_clearLine c),
      congrArg ThChan.backoff (u.chan_clearLine c)⟩

end Sys2Proof.Machine
end

section
/-! Hub time: the writes of TH_CTRL, reads of the time, averages, HOLDOVER and the host's time (R131 to R134, R144 to
R149, R167, R168). -/

namespace Sys2Proof.Machine

open Reg

section
variable {s : State} {v : Word}

/-! ### Writes of TH_CTRL -/

theorem State.writeThCtrl_start (off : s.is TH_CTRL.enable = false)
    (on : (s.write TH_CTRL.off v).is TH_CTRL.enable = true)
    (noAccept : bit v 20 = false) (noLoad : bit v 17 = false) :
    s.writeThCtrl v = (s.write TH_CTRL.off v).startHub := by
  simp [State.writeThCtrl, State.when, off, on, noAccept, noLoad]

section
variable (on : s.is TH_CTRL.enable = true) (stays : (s.write TH_CTRL.off v).is TH_CTRL.enable = true)
  (role : s.is TH_CTRL.role = (s.write TH_CTRL.off v).is TH_CTRL.role)
include on stays role

theorem State.writeThCtrl_accept (accept : bit v 20 = true) (noLoad : bit v 17 = false) :
    s.writeThCtrl v = (s.write TH_CTRL.off v).acceptStep := by
  simp [State.writeThCtrl, State.when, on, stays, role, accept, noLoad]

theorem State.writeThCtrl_load (noAccept : bit v 20 = false) (load : bit v 17 = true) :
    s.writeThCtrl v = (s.write TH_CTRL.off v).requestLoad := by
  simp [State.writeThCtrl, State.when, on, stays, role, noAccept, load]

end

theorem State.startHub_root (root : s.is TH_CTRL.role = true) : s.startHub
    = { s with th := { s.th with running := true, time := 0, slew := 0, slewAcc := 0 } }.rootReference.checkRoles :=
  congrArg (fun t : State => t.rootReference.checkRoles) (if_pos root)

section
variable (root : s.is TH_CTRL.role = true) (idle : s.th.loadWait = false)
include root idle

theorem State.requestLoad_now (mode : s.get TH_CTRL.load_mode = 1) : s.requestLoad = s.loadTime := by
  simp [State.requestLoad, root, idle, mode]

theorem State.requestLoad_waits (mode : s.get TH_CTRL.load_mode = 2) :
    s.requestLoad = { s with th := { s.th with loadWait := true } } := by
  simp [State.requestLoad, root, idle, mode]

end

section
variable (pending : s.is TH_STATUS.step_pending = true)
include pending

theorem State.acceptStep_root (root : (s.stepTime s.th.step).dropStep.is TH_CTRL.role = true) :
    s.acceptStep = (s.stepTime s.th.step).dropStep :=
  (if_neg (by rw [pending]; decide)).trans (if_neg (by rw [root]; decide))

theorem State.acceptStep_member (member : (s.stepTime s.th.step).dropStep.is TH_CTRL.role = false) :
    s.acceptStep = State.restartAverage { (s.stepTime s.th.step).dropStep with
      th := { (s.stepTime s.th.step).dropStep.th with rejoin := none } } :=
  (if_neg (by rw [pending]; decide)).trans (if_pos (by rw [member]; decide))

end

theorem State.word_latchTime {i : Nat} (hi : i < 3) :
    s.latchTime.word (TH_TIME.off i) = BitVec.ofNat 32 (s.th.time.toNat / 2 ^ (32 * i)) :=
  s.word_putWide (TH_TIME.off 0) s.th.time.toNat hi

/-! ### Averages and HOLDOVER -/

/-- The end of the average: its mean is slewed away, and the delay's mean and the end of the measure show (R145). -/
theorem execCalibrationAverageComplete_ends (notDone : s.th.avgDone = false) (n : s.th.avgN = 16384)
    (active : s.laneActive s.upLane = true) :
    ∃ u, execCalibrationAverageComplete s = .next u.calibrated ∧ u.get (TH_TL_STAT.cal_done s.upLane) = 1
      ∧ u.th = { s.th with slew := s.th.slew - s.th.avgSum / 16384, avgDone := true, avgSum := 0 }
      ∧ s.SameRegs u [TH_TL_DELAY.off s.upLane, TH_TL_STAT.off s.upLane] :=
  ⟨_, if_neg (by simp [notDone, n, active]), State.get_put_same _ _ (by simp [TH_TL_STAT.cal_done]), rfl,
    (State.sameRegs_put s (TH_TL_DELAY.v s.upLane) _).trans
      (State.sameRegs_put { s with regs := _ } (TH_TL_STAT.cal_done s.upLane) 1)⟩

section
variable {sum : Int} (measured : s.th.rejoin = some (256, sum)) (active : s.laneActive s.upLane = true)
  (holds : s.get TH_STATUS.state = 3)
include measured active holds

theorem execRejoinMeasureComplete_eq : execRejoinMeasureComplete s =
    if (sum / 256).natAbs ≤ 65536000 then
      .next (State.restartAverage { s with th := { s.th with rejoin := none, slew := s.th.slew - sum / 256 } })
    else .next ((State.put { s with th := { s.th with rejoin := none, step := -(sum / 256) } } TH_STATUS.step_pending
      1).raise pageTH0 3 INFO 0x0504 s.upLane 0) := by
  have member : (decide (256 < 256) || !s.laneActive s.upLane || decide (s.get TH_STATUS.state ≠ 3)) = false := by
    simp [active, holds]
  simp only [execRejoinMeasureComplete, measured, member, Bool.false_eq_true, if_false]
  rfl

end

/-! ### The host's time -/

/-- What a dialog with the host shows: the hub's time, the host's, and that they are valid (R167). -/
def State.showDialog (s : State) (dev : Time) (host : BitVec 64) : State :=
  (((s.putWide (TH_PTM_DEV.off 0) 3 dev.toNat).putWide (TH_PTM_HOST.off 0) 2 host.toNat).put TH_PTM_STAT.valid 1).put
    TH_STATUS.ptm_valid 1

section
variable (dev : Time) (host : BitVec 64)

theorem State.onlyRegs_showDialog : s.OnlyRegs (s.showDialog dev host) :=
  (((s.onlyRegs_putWide _ _ _).trans (State.onlyRegs_putWide _ _ _ _)).trans (State.onlyRegs_put _ _ _)).trans
    (State.onlyRegs_put _ _ _)

theorem State.get_showDialog_off {f : Field} (h : f.off ∉ [TH_PTM_DEV.off 0, TH_PTM_DEV.off 1, TH_PTM_DEV.off 2,
    TH_PTM_HOST.off 0, TH_PTM_HOST.off 1, TH_PTM_STAT.off, TH_STATUS.off]) :
    (s.showDialog dev host).get f = s.get f := by
  have same := ((s.sameRegs_putWide (TH_PTM_DEV.off 0) 3 dev.toNat).trans
    (State.sameRegs_putWide _ (TH_PTM_HOST.off 0) 2 host.toNat)).trans
    ((State.sameRegs_put _ TH_PTM_STAT.valid 1).trans (State.sameRegs_put _ TH_STATUS.ptm_valid 1))
  exact congrArg (bitsOf · f.hi f.lo) (same f.off h)

theorem State.getWide_dev_showDialog : (s.showDialog dev host).getWide (TH_PTM_DEV.off 0) 3 = dev.toNat := by
  refine (State.getWide_of_words _ fun i hi => ?_).trans (Nat.mod_eq_of_lt (by omega))
  have later : TH_PTM_DEV.off 0 + 4 * i ∉ (List.range 2).map (fun j => TH_PTM_HOST.off 0 + 4 * j)
      ++ ([TH_PTM_STAT.off] ++ [TH_STATUS.off]) := by
    interval_cases i <;> decide
  exact (((State.sameRegs_putWide _ _ _ _).trans ((State.sameRegs_put _ TH_PTM_STAT.valid 1).trans
    (State.sameRegs_put _ TH_STATUS.ptm_valid 1))) _ later).trans (State.word_putWide _ _ _ hi)

theorem State.getWide_host_showDialog : (s.showDialog dev host).getWide (TH_PTM_HOST.off 0) 2 = host.toNat := by
  refine (State.getWide_of_words _ fun i hi => ?_).trans (Nat.mod_eq_of_lt (by omega))
  have later : TH_PTM_HOST.off 0 + 4 * i ∉ [TH_PTM_STAT.off] ++ [TH_STATUS.off] := by interval_cases i <;> decide
  exact (((State.sameRegs_put _ TH_PTM_STAT.valid 1).trans (State.sameRegs_put _ TH_STATUS.ptm_valid 1)) _ later).trans
    (State.word_putWide _ _ _ hi)

theorem State.get_valid_showDialog : (s.showDialog dev host).get TH_PTM_STAT.valid = 1 :=
  (State.get_put_off _ _ (by decide)).trans (State.get_put_same _ _ (by decide))

theorem State.get_ptmValid_showDialog : (s.showDialog dev host).get TH_STATUS.ptm_valid = 1 :=
  State.get_put_same _ _ (by decide)

/-- Only a root that steers goes on from a dialog to correct its time (R168). -/
theorem execPtmDialog_shows
    (noSteer : (s.is TH_CTRL.enable && s.is TH_CTRL.role && s.is TH_CTRL.ptm_steer) = false) :
    execPtmDialog dev host s = .next (s.showDialog dev host) := by
  have ctrl {f : Field} (h : f.off = TH_CTRL.off) : (s.showDialog dev host).is f = s.is f := by
    rw [State.is, State.get_showDialog_off dev host (by rw [h]; decide), State.is]
  have still : ((s.showDialog dev host).is TH_CTRL.enable && (s.showDialog dev host).is TH_CTRL.role
      && (s.showDialog dev host).is TH_CTRL.ptm_steer) = false := by
    rw [ctrl rfl, ctrl rfl, ctrl rfl, noSteer]
  exact if_pos (congrArg not still)

end

end

/-- Settles O20: each command by the tests of its own operation. -/
theorem hubTimeCommandsComplete : Obligations.HubTimeCommandsComplete := by
  unfold Obligations.HubTimeCommandsComplete
  refine ⟨fun s v noAccept noLoad off on root => ?starts,
    fun s v noAccept load on stays root root' idle => ⟨fun mode => ⟨_, rfl, ?loads⟩, fun mode => ?waits⟩,
    fun s waits => ?edge,
    fun s v accept noLoad on stays role pending => ⟨fun root => ?joins, fun member => ?measures⟩,
    fun s => ?reads, fun s notDone n active => execCalibrationAverageComplete_ends notDone n active,
    fun s sum measured active holds => ⟨fun near => ?slews, fun far => ?asks⟩,
    fun s holds => if_neg (not_not.2 holds), fun s dev host noSteer => ⟨_, execPtmDialog_shows dev host noSteer,
      State.getWide_dev_showDialog dev host, State.getWide_host_showDialog dev host,
      State.get_valid_showDialog dev host, State.get_ptmValid_showDialog dev host, State.onlyRegs_showDialog dev host⟩,
    fun s valid => if_neg (by simp [valid])⟩
  case starts =>
    show execThEnable v s = _
    exact mirrored_eq ((State.writeThCtrl_start off on noAccept noLoad).trans (State.startHub_root root))
  case loads =>
    show execTimeLoadGo v s = _
    exact mirrored_eq ((State.writeThCtrl_load on stays (root.trans root'.symm) noAccept load).trans
      (State.requestLoad_now root' idle mode))
  case waits =>
    show execTimeLoadGo v s = _
    exact mirrored_eq ((State.writeThCtrl_load on stays (root.trans root'.symm) noAccept load).trans
      (State.requestLoad_waits root' idle mode))
  case edge =>
    show execSyncInEdge s = _
    exact mirrored_eq (if_pos waits)
  case joins =>
    show execAcceptStep v s = _
    exact mirrored_eq ((State.writeThCtrl_accept on stays role accept noLoad).trans
      (State.acceptStep_root pending root))
  case measures =>
    show execAcceptStep v s = _
    exact mirrored_eq ((State.writeThCtrl_accept on stays role accept noLoad).trans
      (State.acceptStep_member pending member))
  case reads =>
    refine ⟨_, rfl, ?_, State.word_latchTime (by decide), State.word_latchTime (by decide),
      s.sameRegs_putWide (TH_TIME.off 0) 3 s.th.time.toNat, ?_⟩
    · show toBytes (s.latchTime.word (TH_TIME.off 0)).toNat 4 = _
      rw [State.word_latchTime (by decide), BitVec.toNat_ofNat, Nat.mul_zero, Nat.pow_zero, Nat.div_one]
    · exact congrArg (fun u : State => { u with answer := toBytes (s.latchTime.word (TH_TIME.off 0)).toNat 4 })
        (s.onlyRegs_putWide (TH_TIME.off 0) 3 s.th.time.toNat)
  case slews => exact (execRejoinMeasureComplete_eq measured active holds).trans (if_pos near)
  case asks => exact (execRejoinMeasureComplete_eq measured active holds).trans (if_neg (Nat.not_le.2 far))

end Sys2Proof.Machine
end

section
/-! Timing lanes and trigger messages (R135, R136, R139 to R143, R146). -/

namespace Sys2Proof.Machine

open Reg

section
variable {s : State}

/-! ### Roles and the layout table -/

theorem State.writeRole_off {n : Nat} {v : Word} (on : s.get (TH_TL_CFG.role n) ≠ 0)
    (off : (s.write (TH_TL_CFG.off n) v).get (TH_TL_CFG.role n) = 0) (running : (s.tl n).stalled = false)
    (idle : s.laneActive n = false) : s.writeRole n v =
      let u := s.write (TH_TL_CFG.off n) v
      ((((((u.put (TH_TL_STAT.link n) 0).put (TH_TL_STAT.reason n) 0).put (TH_TL_STAT.cal_done n) 0).setTl n
        { frameNo := markNumber s.th.time })).showMarks).checkRoles := by
  simp only [State.writeRole, off, running, idle, if_neg on, State.when, Bool.false_and, Bool.and_false, decide_false,
    ne_eq, not_true_eq_false, Bool.false_eq_true, if_false]
  rfl

/-- The layout table takes a write only while all lanes are OFF (R139). -/
theorem State.writeLayout_eq (r : Nat) (v : Word) : s.writeLayout r v =
    if ∀ n < 4, s.get (TH_TL_CFG.role n) = 0 then s.write (TH_XTL_LAYOUT.off r) (v &&& layoutMask r) else s := by
  refine if_congr ?_ rfl rfl
  calc (s.lanesOf 0).length = 4
      ↔ ∀ n ∈ List.range 4, decide (s.get (TH_TL_CFG.role n) = 0) = true := List.length_filter_eq_length_iff
    _ ↔ ∀ n < 4, s.get (TH_TL_CFG.role n) = 0 := by simp only [List.mem_range, decide_eq_true_eq]

/-! ### Frames -/

/-- A frame is sent at the lane's next mark: 156 blocks, and one more where it is the superframe's last (R138, R140). -/
theorem State.sendFrame_eq (n : Nat) : ∃ (t : Time) (frame queue : List (BitVec 64)) (repeats : List (Nat × BitVec 64))
    (marks : List (BitVec 16 × Time)),
    frame.length = (if (s.tl n).frameNo = 3 then 157 else 156)
      ∧ s.sendFrame n = (s.reachTime t).setTl n { s.tl n with
          sent := frame, frameNo := (s.tl n).frameNo + 1, seqTx := (s.tl n).seqTx + 1, queue := queue
          repeats := repeats, epochOut := (s.tl n).epochOut - 1, marks := marks } := by
  have last : ((s.tl n).frameNo.toNat = 3) = ((s.tl n).frameNo = 3) := by
    rw [← BitVec.toNat_inj]
    rfl
  refine ⟨_, _, _, _, _, ?_, rfl⟩
  simp only [last]
  split
  · exact List.length_replicate
  · split <;>
    · simp only [List.length_append, List.length_cons, List.length_nil, List.length_map, List.length_range]
      split <;> rfl

theorem State.regs_reachTime (t : Time) : (s.reachTime t).regs = s.regs := by
  rw [State.reachTime_frame]

section
variable {n : Fin 4}

theorem execTlBlockLock_locks (on : s.is TH_CTRL.enable = true) (role : s.get (TH_TL_CFG.role n) ≠ 0)
    (running : (s.tl n).stalled = false) (unlocked : (s.tl n).locked = false) (down : s.get (TH_TL_STAT.link n) = 0) :
    execTlBlockLock n s
      = .next (((s.setTl n { s.tl n with locked := true, good := 0 }).put (TH_TL_STAT.link n) 1).checkRoles) := by
  refine (if_neg (by simp [on, role, running, unlocked])).trans ?_
  exact congrArg (fun u : State => Host.Outcome.next u.checkRoles) (if_pos (decide_eq_true down))

theorem execTlLockLost_loses (locked : (s.tl n).locked = true) (reason : s.get (TH_TL_STAT.reason n) < 5) :
    execTlLockLost n s = .next ((s.setTl n { s.tl n with locked := false }).setLink n 0 0) :=
  (if_neg (by simp [locked])).trans (if_neg (by simp [Nat.not_le.2 reason]))

theorem exec_xtlFrameReceived {blocks : List (BitVec 64)} (arrival : Time)
    (size : blocks.length = 156 ∨ blocks.length = 157) (on : s.is TH_CTRL.enable = true)
    (role : s.get (TH_TL_CFG.role n) ≠ 0) (locked : (s.tl n).locked = true) (taken : s.get (TH_TL_STAT.link n) ≠ 3) :
    exec (.xtlFrameReceived n blocks arrival) s = .next (s.mirrorFrom
      (if xtlCrc blocks = blockOf blocks 155 % 2 ^ 32 then (s.reachTime arrival).goodFrame n blocks arrival
        else (s.reachTime arrival).badFrame n)) := by
  have fits : ¬ (decide (blocks.length < 156) || decide (157 < blocks.length)) = true := by simp; omega
  show execXtlFrameReceived n blocks arrival s = _
  refine mirrored_next ((if_neg fits).trans ((if_neg (by simp [on, role, locked, taken])).trans ?_))
  split <;> rfl

theorem execXtlFrameSend_sends (on : s.is TH_CTRL.enable = true) (role : s.get (TH_TL_CFG.role n) ≠ 0)
    (running : (s.tl n).stalled = false) : execXtlFrameSend n s = .next (s.sendFrame n) :=
  if_neg (by simp [on, role, running])

/-! ### Trigger messages -/

section
variable {m : BitVec 64} (clk : Bool) (active : s.laneActive n = true) (named : m ≠ 0)
include active named

theorem exec_trigMessageReceived_bad (bad : msgCrc m.toNat ≠ bitsN m.toNat 63 56) :
    exec (.trigMessageReceived n m clk) s
      = .next (s.mirrorFrom ((s.count (TH_TL_MSGERR.v n)).raise pageTH1 (4 * n + 2) CONTAINED 0x0511 n 0)) := by
  show execTrigMessageReceived n m clk s = _
  exact mirrored_next ((if_neg (by simpa [active] using named)).trans (if_pos bad))

/-- On a lane that carries each message once every good one is taken: it joins those of the last 2 µs (R143). -/
theorem exec_trigMessageReceived_good (good : msgCrc m.toNat = bitsN m.toNat 63 56)
    (once : s.is (TH_TL_CFG.repeatMsgs n) = false) :
    exec (.trigMessageReceived n m clk) s = .next (s.mirrorFrom (((s.setTl n { s.tl n with
      recent := ((s.tl n).recent.filter fun e => s.timeNow ≤ e.1.toNat + 2 * usUnits) ++ [(s.th.time, m)]
      }).spreadMessage (some n) m).deliverMessage m clk)) := by
  show execTrigMessageReceived n m clk s = _
  exact mirrored_next ((if_neg (by simpa [active] using named)).trans ((if_neg (not_not.2 good)).trans
    (if_neg (by simp [once]))))

end

end

end

/-- Settles O21: each command by the tests of its own operation. -/
theorem timingLaneCommandsComplete : Obligations.TimingLaneCommandsComplete := by
  unfold Obligations.TimingLaneCommandsComplete
  refine ⟨fun s n v on off running idle => congrArg Host.Outcome.next (State.writeRole_off on off running idle),
    fun s r v => ⟨fun off => congrArg Host.Outcome.next ((s.writeLayout_eq r v).trans (if_pos off)),
      fun n hn on => congrArg Host.Outcome.next ((s.writeLayout_eq r v).trans (if_neg fun off => on (off n hn)))⟩,
    fun s n on role running unlocked down => execTlBlockLock_locks on role running unlocked down,
    fun s n locked reason => execTlLockLost_loses locked reason,
    fun s n rejected locked => ⟨fun other => ?retries, fun stands => ?stays⟩,
    fun s n blocks arrival size on role locked taken => ⟨fun good => ?good, fun bad => ?bad⟩,
    fun s n on role running => ?sends,
    fun s n m clk active named => ⟨exec_trigMessageReceived_bad clk active named,
      fun good once => ⟨_, exec_trigMessageReceived_good clk active named good once⟩⟩,
    fun s v clk go => ?own⟩
  case own =>
    show execXtlSend v clk s = _
    exact mirrored_eq (if_neg (by simp [go]))
  case retries =>
    simp only [List.mem_cons, List.not_mem_nil, or_false, not_or] at other
    exact if_pos (by simp [rejected, locked, other])
  case stays =>
    simp only [List.mem_cons, List.not_mem_nil, or_false] at stands
    exact if_neg (by simp [rejected, locked]; omega)
  case good => rw [exec_xtlFrameReceived arrival size on role locked taken, if_pos good]
  case bad => rw [exec_xtlFrameReceived arrival size on role locked taken, if_neg bad]
  case sends =>
    obtain ⟨t, frame, queue, repeats, marks, length, sent⟩ := State.sendFrame_eq (s := s) n
    refine ⟨_, execXtlFrameSend_sends on role running, ?_⟩
    rw [sent, State.tl_setTl_same]
    refine ⟨length, rfl, rfl, State.regs_reachTime t, ?_⟩
    rw [State.reachTime_frame]
    rfl

end Sys2Proof.Machine
end

section
/-! Clock sources and their monitor, the trim, the switches and the always-on count (R173 to R188). -/

namespace Sys2Proof.Machine

open Reg

section
variable {s : State}

theorem State.is_of_get_zero {f : Field} (h : s.get f = 0) : s.is f = false := by simp [State.is, h]

theorem State.when_of_false {c : Bool} (h : c = false) (f : State → State) : s.when c f = s := if_neg (by simp [h])

theorem State.when_of_true {c : Bool} (h : c = true) (f : State → State) : s.when c f = f s := if_pos h

/-! ### Sources -/

theorem srcReady_off (x : ClkSrc) : (srcReady x).off = CLK_SRC_STAT.off := by cases x <;> rfl

theorem srcReady_hi (x : ClkSrc) : (srcReady x).hi < 32 := by cases x <;> decide

theorem srcReady_bit (x : ClkSrc) : (srcReady x).hi + 1 - (srcReady x).lo = 1 := by cases x <;> rfl

/-- What shows that a source is READY and clears its monitor (R173, R179). -/
def State.showReady (s : State) (x : ClkSrc) : State :=
  (((s.put (srcReady x) 1).setMon x {}).put (missingBit x) 0).put (windowBit x) 0

theorem State.sameRegs_showReady (x : ClkSrc) :
    s.SameRegs (s.showReady x) [CLK_SRC_STAT.off, CLK_MON_STAT.off] := by
  have ready := s.sameRegs_put (srcReady x) 1
  rw [srcReady_off] at ready
  have monitor : (s.put (srcReady x) 1).SameRegs (s.showReady x) ([CLK_MON_STAT.off] ++ [CLK_MON_STAT.off]) :=
    State.SameRegs.trans (t := ((s.put (srcReady x) 1).setMon x {}).put (missingBit x) 0)
      (State.sameRegs_put _ (missingBit x) 0) (State.sameRegs_put _ (windowBit x) 0)
  exact (ready.trans monitor).mono (by simp)

theorem State.get_srcReady_showReady (x : ClkSrc) : (s.showReady x).get (srcReady x) = 1 := by
  have other : (srcReady x).off ≠ CLK_MON_STAT.off := by rw [srcReady_off]; decide
  calc (s.showReady x).get (srcReady x)
      = (((s.put (srcReady x) 1).setMon x {}).put (missingBit x) 0).get (srcReady x) := State.get_put_off _ _ other
    _ = (s.put (srcReady x) 1).get (srcReady x) := State.get_put_off _ _ other
    _ = 1 % 2 ^ 1 := by rw [State.get_put_same _ _ (srcReady_hi x), srcReady_bit]
    _ = 1 := rfl

/-- The oscillator's first qualification starts the always-on count (R177). -/
theorem State.becomeReady_osc (first : s.clk.aonStart = none) : s.becomeReady .osc =
    { s.showReady .osc with clk := { (s.showReady .osc).clk with aonStart := some s.now } } :=
  if_pos (Option.isNone_iff_eq_none.2 first)

theorem State.aonTime_start (start : s.clk.aonStart = some s.now) : s.aonTime = 0 := by
  simp [State.aonTime, start]

/-- A source that has not left READY is READY once it is qualified (R173). -/
theorem State.qualify_becomes {x : ClkSrc} (out : s.get (srcReady x) = 0) (kept : (s.mon x).lost = false) :
    s.qualify x = s.becomeReady x :=
  (if_neg (by simp [State.is_of_get_zero out])).trans (if_neg (by simp [kept]))

theorem State.get_ref_ready_put_ref_freq (v : Nat) :
    (s.put CLK_SRC_STAT.ref_freq v).get CLK_SRC_STAT.ref_ready = s.get CLK_SRC_STAT.ref_ready :=
  s.get_put_apart v (by decide) (by decide)

theorem execRootPllLock_locks (out : s.get CLK_SRC_STAT.root_ready = 0)
    (ref : s.rootRefReady (s.get CLK_SEL.root_ref) = true) (noRequest : s.get CLK_SW_STAT.root ≠ 2) :
    execRootPllLock s = .next (({ s with clk := { s.clk with rootTo := none, fallback := false } }.put
      CLK_SRC_STAT.root_holdover 0).qualify .root) :=
  (if_neg (by simp [State.is_of_get_zero out, ref])).trans
    (congrArg (fun u : State => Host.Outcome.next ((u.put CLK_SRC_STAT.root_holdover 0).qualify .root))
      (State.when_of_false (decide_eq_false noRequest) _))

theorem execThPllLock_locks (out : s.get CLK_SRC_STAT.thpll_ready = 0) (on : s.is TH_CTRL.enable = true)
    (stays : s.clk.thTo = none) (ref : s.thRefReady = true) : execThPllLock s = .next (s.qualify .thpll) := by
  simp [execThPllLock, State.is_of_get_zero out, on, stays, ref]

theorem State.leaveReady_thpll (ready : s.is CLK_SRC_STAT.thpll_ready = true) (missing : Bool) :
    s.leaveReady .thpll missing
      = ((s.put CLK_SRC_STAT.thpll_ready 0).setMon .thpll { lost := true, requal := missing }).rootReference :=
  if_neg (by simp [srcReady, ready])

theorem execMissingClock_ready {x : ClkSrc} (ready : s.is (srcReady x) = true) : execMissingClock x s
    = .next (((s.put (missingBit x) 1).raise pageCLK 0 CONTAINED 0x0601 (srcNo x) 0).leaveReady x true) :=
  if_neg (by simp [ready])

/-- Where the crystal and REFCLK do not vote, no source is outvoted and none disagree (R180). -/
theorem execMonitorGate_oneVoter {g : GateSeen} (noXtal : s.votes g .xtal = false) (noRef : s.votes g .ref = false) :
    execMonitorGate g s = .next ((((((s.put CLK_MON_STAT.disagree 0).gateSource g .osc false).gateSource g .xtal
      false).gateSource g .ref false).gateSource g .root false).gateSource g .thpll false) := by
  simp only [execMonitorGate, noXtal, noRef, Bool.and_false, Bool.false_and, Bool.or_false]
  rfl

/-- The root's loss of lock: FATAL, a warm reset, and after three the core is held (R188). -/
theorem execRootLockLost_resets (ready : s.is CLK_SRC_STAT.root_ready = true)
    (ref : s.rootRefReady (s.get CLK_SEL.root_ref) = true) :
    let t := (((s.leaveReady .root true).raise pageCLK 8 FATAL 0x0609 0 0).count CLK_SRC_STAT.root_faults).warmReset
    execRootLockLost s = .next
      (if t.get CLK_SRC_STAT.root_faults < 3 then t else { t with clk := { t.clk with coreHeld := true } }) :=
  if_neg (by simp [ready, ref])

/-! ### Trim -/

/-- The code and the error that CLK_TRIM_STAT shows (R182). -/
def State.showTrim (s : State) (code : BitVec 12) (err : BitVec 16) : State :=
  (s.put CLK_TRIM_STAT.code code.toNat).put CLK_TRIM_STAT.err err.toNat

section
variable (code : BitVec 12) (err : BitVec 16)

theorem State.get_code_showTrim : (s.showTrim code err).get CLK_TRIM_STAT.code = code.toNat :=
  ((State.get_put_apart _ _ (by decide) (by decide)).trans (s.get_put_same _ (by decide))).trans
    (Nat.mod_eq_of_lt code.isLt)

theorem State.get_err_showTrim : (s.showTrim code err).get CLK_TRIM_STAT.err = err.toNat :=
  (State.get_put_same _ _ (by decide)).trans (Nat.mod_eq_of_lt err.isLt)

theorem State.sameRegs_showTrim : s.SameRegs (s.showTrim code err) [CLK_TRIM_STAT.off] :=
  ((s.sameRegs_put CLK_TRIM_STAT.code _).trans (State.sameRegs_put _ CLK_TRIM_STAT.err _)).mono
    (by simp [CLK_TRIM_STAT.code, CLK_TRIM_STAT.err])

theorem execTrimConverged_ends (searching : s.clk.searching = true) : execTrimConverged code err s = .next
    ((({ s with clk := { s.clk with searching := false, trimCode := code } }.showTrim code err).put
      CLK_TRIM_STAT.converged 1).raise pageCLK 5 INFO 0x0606
      (({ s with clk := { s.clk with searching := false, trimCode := code } }.showTrim code err).get
        CLK_TRIM_STAT.source) 0) :=
  if_neg (by simp [searching])

theorem execTrimTrackStep_up (idle : s.clk.searching = false) (source : s.get CLK_TRIM_STAT.source ≠ 0)
    (agree : s.is CLK_MON_STAT.disagree = false) (room : s.clk.trimCode ≠ 0xFFF) : execTrimTrackStep true true err s
      = .next ({ s with clk := { s.clk with trimCode := s.clk.trimCode + 1 } }.showTrim (s.clk.trimCode + 1) err) := by
  refine (if_neg (by simp [idle, source, agree])).trans ?_
  simp only [Bool.not_true, Bool.false_eq_true, if_false, if_true, if_neg room]
  rfl

end

/-! ### Switches -/

theorem execClkSwitchComplete_cfg {b : Bool} (switch : s.clk.cfgTo = some b) (request : s.get CLK_SW_STAT.cfg = 2) :
    execClkSwitchComplete true s
      = .next ({ s with clk := { s.clk with cfgFromRoot := b, cfgTo := none } }.put CLK_SW_STAT.cfg 1) := by
  simp only [execClkSwitchComplete, switch, if_true]
  exact congrArg Host.Outcome.next (State.when_of_true (decide_eq_true request) _)

theorem execClkSwitchComplete_aon {b : Bool} (switch : s.clk.aonTo = some b) (request : s.get CLK_SW_STAT.aon = 2) :
    execClkSwitchComplete false s
      = .next ({ s with clk := { s.clk with aonFromRoot := b, aonTo := none } }.put CLK_SW_STAT.aon 1) := by
  simp only [execClkSwitchComplete, switch, Bool.false_eq_true, if_false]
  exact congrArg Host.Outcome.next (State.when_of_true (decide_eq_true request) _)

theorem execRootRelockComplete_root {r : Nat} (switch : s.clk.rootTo = some r) (request : s.get CLK_SW_STAT.root = 2) :
    execRootRelockComplete false s
      = .next (({ s with clk := { s.clk with rootTo := none, fallback := false } }.put CLK_SW_STAT.root 1).put
          CLK_SRC_STAT.root_holdover 0) := by
  simp only [execRootRelockComplete, switch, Bool.false_eq_true, if_false]
  exact congrArg (fun u : State => Host.Outcome.next (u.put CLK_SRC_STAT.root_holdover 0))
    (State.when_of_true (decide_eq_true request) _)

/-! ### The always-on count -/

theorem State.toNat_word_latchAon {i : Nat} (hi : i < 2) :
    (s.latchAon.word (CLK_AON_TIME.off i)).toNat = s.aonTime / 2 ^ (32 * i) % 2 ^ 32 :=
  (congrArg BitVec.toNat (s.word_putWide (CLK_AON_TIME.off 0) s.aonTime hi)).trans (BitVec.toNat_ofNat ..)

end

/-- Settles O18: each command by the tests of its own operation. -/
theorem clockCommandsComplete : Obligations.ClockCommandsComplete := by
  unfold Obligations.ClockCommandsComplete
  refine ⟨fun s out kept first => ?osc,
    fun s out kept => congrArg Host.Outcome.next (State.qualify_becomes out kept),
    fun s at100 out kept => congrArg Host.Outcome.next
      (State.qualify_becomes ((State.get_ref_ready_put_ref_freq _).trans out) kept),
    fun s out ref noRequest => execRootPllLock_locks out ref noRequest,
    fun s out on stays ref => execThPllLock_locks out on stays ref,
    fun s ready => congrArg Host.Outcome.next (State.leaveReady_thpll ready true),
    fun s x ready => execMissingClock_ready ready,
    fun s g noXtal noRef _ => execMonitorGate_oneVoter noXtal noRef,
    fun s code err searching => ?converged, fun s err idle source agree room => ?step, fun s v => rfl,
    fun s sel stat v src i r b go new => ⟨if_neg new, if_neg new, if_neg new, if_neg new, if_neg new⟩,
    fun s b switch request => execClkSwitchComplete_cfg switch request,
    fun s b switch request => execClkSwitchComplete_aon switch request,
    fun s r switch request => execRootRelockComplete_root switch request,
    fun s ready ref => ⟨_, _, rfl, execRootLockLost_resets ready ref, rfl⟩, fun s => ?count⟩
  case osc =>
    exact ⟨_, congrArg Host.Outcome.next ((State.qualify_becomes out kept).trans (State.becomeReady_osc first)),
      s.get_srcReady_showReady .osc, rfl, State.aonTime_start rfl, s.sameRegs_showReady .osc, rfl⟩
  case converged =>
    refine ⟨_, execTrimConverged_ends code err searching, ?_, ?_, ?_, State.raise_clk ..⟩ <;>
      rw [State.get_raise_off _ _ _ _ _ _ _ (by decide)]
    · exact (State.get_put_apart _ _ (by decide) (by decide)).trans (State.get_code_showTrim code err)
    · exact (State.get_put_apart _ _ (by decide) (by decide)).trans (State.get_err_showTrim code err)
    · exact State.get_put_same _ _ (by decide)
  case step =>
    have noWrap : (s.clk.trimCode + 1).toNat = s.clk.trimCode.toNat + 1 := by bv_omega
    exact ⟨_, execTrimTrackStep_up err idle source agree room, rfl, (State.get_code_showTrim _ err).trans noWrap,
      State.get_err_showTrim _ err, State.sameRegs_showTrim _ err⟩
  case count =>
    refine ⟨_, rfl, ?_, State.toNat_word_latchAon (by decide),
      s.sameRegs_putWide (CLK_AON_TIME.off 0) 2 s.aonTime, ?_⟩
    · show toBytes (s.latchAon.word (CLK_AON_TIME.off 0)).toNat 4 = _
      rw [State.toNat_word_latchAon (by decide), Nat.mul_zero, Nat.pow_zero, Nat.div_one]
    · exact congrArg (fun u : State => { u with answer := toBytes (s.latchAon.word (CLK_AON_TIME.off 0)).toNat 4 })
        (s.onlyRegs_putWide (CLK_AON_TIME.off 0) 2 s.aonTime)

end Sys2Proof.Machine
end

section
/-! Tile PLLs and regional tracks (R190 to R197, R200). -/

namespace Sys2Proof.Machine

open Reg

section
variable {s : State} {t f : Nat}

/-! ### Stores of a tile PLL -/

theorem State.pll_setPll_same (v : CmtPll) : (s.setPll t f v).pll t f = v := KMap.get_set_same ..

theorem State.get_setPll (v : CmtPll) (g : Field) : (s.setPll t f v).get g = s.get g := rfl

theorem State.pll_relock (setting : List Word) (runs : Bool) : (s.relock t f setting runs).pll t f =
    { s.pll t f with loaded := setting, relocking := runs, busy := none } := State.pll_setPll_same _

theorem State.get_locked_relock (setting : List Word) (runs : Bool) :
    (s.relock t f setting runs).get (CMT_STAT.locked t f) = 0 := by
  rw [State.relock, State.get_setPll, State.putB,
    State.get_put_apart _ _ (by simp [CMT_STAT.locked]) (by simp [CMT_STAT.locked, CMT_STAT.input]),
    State.get_put_same _ _ (by simp [CMT_STAT.locked])]
  exact Nat.zero_mod _

/-! ### Writes of CMT_CTRL -/

section
variable {khz grade : Nat} {v : Word}

/-- An apply without a reset, where in_sel names an input: the setting is loaded, or refused (R190, R194). -/
theorem State.writeCmtCtrl_apply (apply : bit v 31 = true) (noReset : bit v 30 = false)
    (input : (s.write (CMT_CTRL.off t f) v).pllNone t f = false) : s.writeCmtCtrl t f khz grade v =
      let u := s.write (CMT_CTRL.off t f) v
      let w := u.relock t f (u.pllSetting t f) true
      if u.pllInRange t f khz grade then w.setPll t f { w.pll t f with moved := [0, 0, 0, 0, 0, 0, 0] }
      else u.put (CMT_STAT.range_err t f) 1 := by
  simp only [State.writeCmtCtrl, apply, noReset, input, Bool.not_true, Bool.false_eq_true, if_false]
  exact State.when_of_false rfl _

/-- A reset without an apply: a PLL that has a setting relocks at it (R200). -/
theorem State.writeCmtCtrl_reset (noApply : bit v 31 = false) (reset : bit v 30 = true)
    (loaded : ((s.write (CMT_CTRL.off t f) v).pll t f).loaded ≠ []) : s.writeCmtCtrl t f khz grade v =
      let u := s.write (CMT_CTRL.off t f) v
      u.relock t f (u.pll t f).loaded (!u.pllNone t f) := by
  simp only [State.writeCmtCtrl, noApply, reset, Bool.not_false, if_true]
  exact State.when_of_true (by simp [loaded]) _

end

end

section
variable {s : State} {tile : Fin 40} {f : Bool}

/-! ### Lock and phase moves -/

theorem execCmtLock_locks (loaded : (s.pll tile f.toNat).loaded ≠ [])
    (unlocked : s.is (CMT_STAT.locked tile f.toNat) = false) (input : s.pllNone tile f.toNat = false) :
    execCmtLock tile f s = .next (((s.setPll tile f.toNat { s.pll tile f.toNat with relocking := false }).put
      (CMT_STAT.locked tile f.toNat) 1).put (CMT_STAT.input tile f.toNat) 1) :=
  if_neg (by simp [loaded, unlocked, input])

theorem execCmtLockLost_running (locked : s.is (CMT_STAT.locked tile f.toNat) = true) :
    execCmtLockLost tile f false s
      = .next (((s.put (CMT_STAT.locked tile f.toNat) 0).count (CMT_STAT.losses tile f.toNat)).raise
          (pageRGN (12 * (tile.val / 2) + 11 * (tile.val % 2))) (16 + f.toNat) CONTAINED 0x0610 tile.val 0) :=
  if_neg (by simp [locked])

end

/-- Settles O19: each command by the tests of its own operation. -/
theorem tilePllAndTrackCommandsComplete : Obligations.TilePllAndTrackCommandsComplete := by
  unfold Obligations.TilePllAndTrackCommandsComplete
  refine ⟨fun s tile f khz g v apply noReset => ?apply,
    fun s tile f v noApply reset => fun loaded => congrArg Host.Outcome.next
      (State.writeCmtCtrl_reset noApply reset loaded),
    fun s tile f loaded unlocked input => ?lock, fun s tile f locked => execCmtLockLost_running locked,
    fun s tile f n idle => ?moves,
    fun s tile f n k busy => if_pos (Option.isSome_iff_exists.2 ⟨k, busy⟩),
    fun s tile f => rfl, fun s r k b running => ⟨rfl, rfl, _, rfl, ?inactive, s.sameRegs_put _ 0, s.onlyRegs_put _ 0⟩⟩
  case apply =>
    intro u input
    have written := State.writeCmtCtrl_apply (khz := khz) (grade := g) apply noReset input
    refine ⟨fun fits => ?_, fun misfits => congrArg Host.Outcome.next (written.trans (if_neg (by simp [u, misfits])))⟩
    refine ⟨_, congrArg Host.Outcome.next (written.trans (if_pos fits)), ?_, ?_, ?_⟩
    · rw [State.pll_setPll_same, State.pll_relock]
    · rw [State.pll_setPll_same, State.pll_relock]
    · rw [State.get_setPll, State.get_locked_relock]
  case lock =>
    refine ⟨_, execCmtLock_locks loaded unlocked input, ?_, State.get_put_same _ _ (by simp [CMT_STAT.input]),
      State.pll_setPll_same _, ?_, rfl⟩
    · exact (State.get_put_apart _ _ (by simp [CMT_STAT.locked]) (by simp [CMT_STAT.locked, CMT_STAT.input])).trans
        (State.get_put_same _ _ (by simp [CMT_STAT.locked]))
    · exact ((State.sameRegs_put _ (CMT_STAT.locked tile f.toNat) 1).trans
        (State.sameRegs_put _ (CMT_STAT.input tile f.toNat) 1)).mono (by simp [CMT_STAT.locked, CMT_STAT.input])
  case moves =>
    exact ⟨_, if_neg (by simp [idle]), congrArg CmtPll.busy (State.pll_setPll_same _), rfl⟩
  case inactive =>
    exact State.get_put_same _ _ (by simp [trackAct]; omega)

end Sys2Proof.Machine
end

section
/-! The fuses: burning sets bits and never clears one, and the marks of the keys follow the keys (R223). -/

namespace Sys2Proof.Machine

/-! ### Bits that are set stay set -/

theorem and_or_self_left {w : Nat} (x y : BitVec w) : x &&& (x ||| y) = x := by
  ext i hi
  rw [BitVec.getElem_and, BitVec.getElem_or]
  cases x[i] <;> rfl

theorem KMap.get_upd {α : Type} [DecidableEq α] (d : Nat → α) (m : KMap α) (k : Nat) (f : α → α) (j : Nat) :
    (m.upd d k f).get d j = if j = k then f (m.get d k) else m.get d j := KMap.get_set ..

theorem Fuses.le_refl (u : Fuses) : u.le u := by simp [Fuses.le]

theorem Fuses.le_burn (u : Fuses) (f : FuseField) (data : BitVec 512) : u.le (u.burn f data) := by
  cases f with
  | aesKey n =>
    simp only [Fuses.le, Fuses.burn]
    split <;> simp [and_or_self_left]
  | pkHash n =>
    simp only [Fuses.le, Fuses.burn, KMap.get_upd]
    refine ⟨by simp, by simp, by simp, fun k => ?_, ?_, by simp⟩
    · split_ifs with same
      · rw [same, and_or_self_left]
      · exact BitVec.and_self
    · split <;> simp [and_or_self_left]
  | aesRevoke => simp [Fuses.le, Fuses.burn, and_or_self_left]
  | pkRevoke => simp [Fuses.le, Fuses.burn, and_or_self_left]
  | reqSig => simp +contextual [Fuses.le, Fuses.burn]
  | reqEnc => simp +contextual [Fuses.le, Fuses.burn]
  | svnFloor => simp [Fuses.le, Fuses.burn, and_or_self_left]

/-! ### The marks of the keys -/

section
variable (u : Fuses) (data : BitVec 512)

theorem Fuses.testBit_aesSlot (m i : Nat) :
    (u.aesSlot m).testBit i = (decide (i < 256) && u.aesKey.getLsbD (256 * m + i)) := by
  rw [Fuses.aesSlot, Nat.testBit_mod_two_pow, Nat.testBit_div_two_pow, Nat.add_comm]
  rfl

/-- The bits that a burn of slot `n` sets in bit `i` of slot `m`. -/
theorem getLsbD_slotBits {n m i : Nat} (hm : m < 2) (hi : i < 256) :
    ((data &&& BitVec.ofNat 512 (2 ^ 256 - 1)) <<< (256 * n)).getLsbD (256 * m + i)
      = (decide (m = n) && data.getLsbD i) := by
  rw [BitVec.getLsbD_shiftLeft, BitVec.getLsbD_and, BitVec.getLsbD_ofNat, Nat.testBit_two_pow_sub_one]
  rcases Nat.lt_trichotomy m n with h | rfl | h
  · have below : 256 * m + i < 256 * n := by omega
    simp [below, h.ne]
  · have here : 256 * m + i < 512 := by omega
    have low : i < 512 := by omega
    simp [here, low, hi]
  · have above : ¬ 256 * m + i - 256 * n < 256 := by omega
    simp [above, h.ne']

theorem Fuses.aesSlot_burn (n : Fin 2) {m : Nat} (hm : m < 2) :
    (u.burn (.aesKey n) data).aesSlot m = if m = n then u.aesSlot m ||| Fuses.burn.bits data 256 else u.aesSlot m := by
  have key : (u.burn (.aesKey n) data).aesKey
      = u.aesKey ||| ((data &&& BitVec.ofNat 512 (2 ^ 256 - 1)) <<< (256 * n.val)) := rfl
  refine Nat.eq_of_testBit_eq fun i => ?_
  rw [apply_ite (Nat.testBit · i), Nat.testBit_or, Fuses.testBit_aesSlot, Fuses.testBit_aesSlot, key, Fuses.burn.bits,
    Nat.testBit_mod_two_pow]
  by_cases hi : i < 256
  · rw [BitVec.getLsbD_or, getLsbD_slotBits data hm hi]
    split_ifs with same <;> simp [hi, same, BitVec.getLsbD]
  · simp [hi]

/-- A mark set beside the others where `c` holds. -/
theorem getLsbD_mark {w n m : Nat} (p : BitVec w) (hm : m < w) (c : Prop) [Decidable c] :
    (if c then p else p ||| BitVec.ofNat w (2 ^ n)).getLsbD m = true ↔ p.getLsbD m = true ∨ m = n ∧ ¬ c := by
  split_ifs with h
  · simp [h]
  · rw [BitVec.getLsbD_or, BitVec.getLsbD_ofNat, Nat.testBit_two_pow]
    simp only [hm, h, decide_true, Bool.true_and, Bool.or_eq_true, decide_eq_true_eq, not_false_iff, and_true,
      @eq_comm _ n m]

theorem Fuses.marksKeys_burn (f : FuseField) (h : u.marksKeys) : (u.burn f data).marksKeys := by
  obtain ⟨aes, pk⟩ := h
  cases f with
  | aesKey n =>
    refine ⟨fun m hm => ?_, pk⟩
    rw [Fuses.aesSlot_burn u data n hm]
    refine (getLsbD_mark u.aesProg hm _).trans ?_
    rw [aes m hm]
    split_ifs with same
    · have joined := @Nat.or_eq_zero_iff (u.aesSlot m) (Fuses.burn.bits data 256)
      tauto
    · tauto
  | pkHash n =>
    refine ⟨aes, fun m hm => ?_⟩
    refine (getLsbD_mark u.pkProg hm _).trans ?_
    have bits : Fuses.burn.bits data 384 = 0 ↔ BitVec.ofNat 384 data.toNat = 0#384 := by
      simp only [Fuses.burn.bits, ← BitVec.toNat_inj, BitVec.toNat_ofNat, Nat.zero_mod]
    simp only [Fuses.burn, KMap.get_upd]
    rw [pk m hm, bits]
    split_ifs with same
    · have joined := BitVec.or_eq_zero_iff (x := u.pkHash.get (fun _ => 0) m) (y := BitVec.ofNat 384 data.toNat)
      rw [← same]
      tauto
    · tauto
  | aesRevoke | pkRevoke | reqSig | reqEnc | svnFloor => exact ⟨aes, pk⟩

end

/-! ### Steps -/

/-- A step burns one field of the fuses, by a FUSE_PROG at the front of the queue, or leaves them as they are. -/
theorem step_fuses {s t : State} (run : step s = .next t) : t.fuse = s.fuse
    ∧ (t.fuses = s.fuses ∨ ∃ f data rest, s.pending = .fuseProg f data :: rest ∧ t.fuses = s.fuses.burn f data) := by
  cases queue : s.pending with
  | nil =>
    rw [step_nil queue] at run
    cases run
    exact ⟨rfl, .inl rfl⟩
  | cons c rest =>
    rw [step_cons queue] at run
    by_cases burns : ∃ f data, c = .fuseProg f data
    · obtain ⟨f, data, rfl⟩ := burns
      obtain ⟨-, reset, stands | burnt⟩ := execFuseProg_rest f data _ t run
      · exact ⟨reset, .inl stands⟩
      · exact ⟨reset, .inr ⟨f, data, rest, rfl, burnt⟩⟩
    · have kept := exec_kept c _ (fun f data e => burns ⟨f, data, e⟩) t run
      simp only [State.kept_def, Prod.mk.injEq] at kept
      obtain ⟨-, stand, reset⟩ := kept
      exact ⟨reset, .inl stand⟩

/-- Settles O4: a step leaves the fuses as they are or burns a field, which sets bits and clears none. -/
theorem fuseBitsOnceSetStaySet : Obligations.FuseBitsOnceSetStaySet := by
  unfold Obligations.FuseBitsOnceSetStaySet
  intro s t run
  obtain ⟨reset, stand | ⟨f, data, rest, queue, burnt⟩⟩ := step_fuses run
  · exact ⟨stand ▸ s.fuses.le_refl, reset, fun _ => stand⟩
  · exact ⟨burnt ▸ s.fuses.le_burn f data, reset, fun noBurn => absurd queue (noBurn f data rest)⟩

/-- Settles O5: a burn that sets a bit of a key sets its mark. -/
theorem programmedMarksFollowTheKeys : Obligations.ProgrammedMarksFollowTheKeys := by
  unfold Obligations.ProgrammedMarksFollowTheKeys
  intro s t marks run
  obtain ⟨-, stand | ⟨f, data, rest, -, burnt⟩⟩ := step_fuses run
  · rwa [stand]
  · rw [burnt]
    exact s.fuses.marksKeys_burn data f marks

end Sys2Proof.Machine
end

section
/-! The JTAG port (R223, R550, R551). -/

namespace Sys2Proof.Machine

open Reg

section
variable (s : State)

theorem State.takeInstruction_release (code : Nat) (d : List Bool) : s.takeInstruction code false d
    = { s with jtag := { s.jtag with code := code, held := false, driven := d } } := rfl

/-- The first instruction that holds comes with a warm reset (R551). -/
theorem State.takeInstruction_hold {code : Nat} {d : List Bool} (free : s.jtag.held = false) :
    s.takeInstruction code true d
      = { s.warmReset with jtag := { s.warmReset.jtag with code := code, held := true, driven := d } } := by
  have first : s.when (true && !s.jtag.held) State.warmReset = s.warmReset := State.when_of_true (by simp [free]) _
  simp only [State.takeInstruction, first]

theorem State.held_of_jtag (h : s.jtag.held = true) : s.held = true := by simp [State.held, h]

section
variable {s}

theorem State.instruction_on (on : s.jtagOn = true) (code : Nat) (hold : Bool) (d : List Bool) :
    s.instruction code hold d = s.takeInstruction code hold d := if_pos on

theorem State.instruction_off (off : s.jtagOn = false) (code : Nat) (hold : Bool) (d : List Bool) :
    s.instruction code hold d = s := if_neg (by simp [off])

/-- The bits that CFG_IN shifts in, after Capture-DR has loaded what CFG_STATUS shows (R551). -/
theorem execCfgIn_on (on : s.jtagOn = true) (bytes : List Byte) : execCfgIn bytes s =
    let u := s.takeInstruction 0x005 false []
    .next ((u.answerWord (u.shown CFG_STATUS.off)).shiftConfig bytes) := if_neg (by simp [on])

theorem execFuseProg_on (on : s.jtagOn = true) (f : FuseField) (data : BitVec 512) : execFuseProg f data s =
    .next { s.takeInstruction 0x0A5 false [] with fuses := s.fuses.burn f data }.showFuses := if_neg (by simp [on])

end

end

/-- Settles O16: each instruction takes effect where the port works, and what a hold leaves is read off the warm reset
that comes with it. -/
theorem jtagCommandsComplete : Obligations.JtagCommandsComplete := by
  unfold Obligations.JtagCommandsComplete
  refine ⟨fun s on => ?works, fun s code d => ⟨s.takeInstruction_release code d, rfl, State.held_of_jtag _ rfl,
    fun free => ?hold⟩, fun s off => ?silent⟩
  case works =>
    have takes (code : Nat) (hold : Bool) (d : List Bool) :=
      congrArg (Host.Outcome.next (φ := Fault) (ρ := Refusal)) (State.instruction_on on code hold d)
    exact ⟨takes _ _ _, congrArg Host.Outcome.next (if_pos on), fun b => if_neg (by simp [on]), takes _ _ _, takes _ _ _,
      takes _ _ _, takes _ _ _, takes _ _ _, execCfgIn_on on, fun f data => ⟨_, execFuseProg_on on f data, rfl, rfl,
        State.sameRegs_setWord _ CFG_FUSE_STAT.off _, rfl⟩⟩
  case hold =>
    have reset := s.steady_warmReset
    rw [s.takeInstruction_hold free]
    exact ⟨congrArg State.planes reset, congrArg State.mem reset⟩
  case silent =>
    have stands (code : Nat) (hold : Bool) (d : List Bool) :=
      congrArg (Host.Outcome.next (φ := Fault) (ρ := Refusal)) (State.instruction_off off code hold d)
    exact ⟨stands _ _ _, stands _ _ _, stands _ _ _⟩

end Sys2Proof.Machine
end

section
/-! What the failure of a load leaves of the configuration engine (R230, R235). -/

namespace Sys2Proof.Machine

open Reg

section
variable (s : State)

/-! ### Operations that leave the engine as it is -/

theorem State.OnlyRegs.cfg_eq {s t : State} (h : s.OnlyRegs t) : t.cfg = s.cfg := by
  rw [h]

theorem State.cfg_returnTasks (g : Nat) : (s.returnTasks g).cfg = s.cfg := by
  refine State.each_keeps State.cfg _ _ _ fun t n => ?_
  unfold State.returnOne
  split
  · rfl
  · exact State.raise_cfg ..

@[simp] theorem State.cfg_undefineAll : s.undefineAll.cfg = s.cfg :=
  State.each_keeps State.cfg s _ _ fun t _ => State.when_keeps State.cfg t _ _ fun t => t.cfg_returnTasks _

theorem State.cfg_closePort (drain : Bool) (p : Nat) : (s.closePort drain p).cfg = s.cfg := by
  unfold State.closePort State.setPortState
  dsimp only
  split
  · split <;> rfl
  · rfl

@[simp] theorem State.cfg_stopTracks : s.stopTracks.cfg = s.cfg := by
  unfold State.stopTracks
  dsimp only
  exact State.each_keeps State.cfg s _ _ fun _ _ => rfl

@[simp] theorem State.cfg_setShadow (n v : Nat) : (s.setShadow n v).cfg = s.cfg := by
  unfold State.setShadow
  dsimp only
  split <;> rfl

@[simp] theorem State.cfg_logLoad (l : CfgLoad) (code off info : Nat) : (s.logLoad l code off info).cfg = s.cfg := by
  unfold State.logLoad
  dsimp only
  refine (State.when_keeps State.cfg _ _ _ fun t => t.put_cfg _ _).trans ?_
  refine (State.onlyRegs_putWide _ _ 2 off).cfg_eq.trans ?_
  refine (State.when_keeps State.cfg _ _ _ fun t => t.put_cfg _ _).trans ?_
  exact (State.alert_cfg ..).trans (State.raise_cfg ..)

/-! ### The load under way -/

@[simp] theorem State.load_clearFabric : s.clearFabric.cfg.load = s.cfg.load := by
  have cleared : s.fullStart.bulkClear.cfg.load = s.cfg.load := by
    simp [State.fullStart, State.bulkClear, State.clearMemories, State.stopScrub]
  unfold State.clearFabric
  rw [State.cfg_stopTracks, State.each_keeps State.cfg _ _ _ fun t q => t.cfg_closePort false _, cleared]

@[simp] theorem State.load_loadEnded : s.loadEnded.cfg.load = s.cfg.load := by
  unfold State.loadEnded
  split <;> rfl

@[simp] theorem State.load_noImage (off : Nat) : (s.noImage off).cfg.load = s.cfg.load := by
  simp [State.noImage]

@[simp] theorem State.load_fallBack :
    s.fallBack.cfg.load = some { source := .golden, base := goldenBase, fell := true } := by
  simp [State.fallBack, State.beginLoad, State.setLoad]

@[simp] theorem State.load_dropLoad : s.dropLoad.cfg.load = none := rfl

/-- No load is under way that has read its header. -/
def State.Headless (s : State) : Prop := ∀ m, s.cfg.load = some m → m.header = none

theorem State.headless_of_idle {s : State} (idle : s.cfg.load = none) : s.Headless := by
  simp [State.Headless, idle]

/-- Whether a load is of a test image, by its type byte (R212). -/
def CfgLoad.isTest (l : CfgLoad) : Bool :=
  match l.header with
  | none => false
  | some h => decide (h.type = 3)

section
variable {s} {l : CfgLoad} (load : s.cfg.load = some l) (code off info : Nat)
include load

/-- A failed partial load ends, and the engine shows the failure (R231, R235). -/
theorem State.failLoad_partial (part : l.isPartial = true) : ∃ u : State, u.cfg.load = none
    ∧ s.failLoad code off info = (u.put CFG_STATUS.state 5).loadEnded := by
  have ended := State.when_keeps State.cfg (s.logLoad l code off info).dropLoad
    (l.begun && decide (l.stallNo < 64)) (fun s => s.setShadow l.stallNo 0) fun t => t.cfg_setShadow _ 0
  refine ⟨_, congrArg CfgState.load ended, ?_⟩
  simp only [State.failLoad, load, part, if_true]

/-- A failed full load ends on a clear fabric: without an image, with a fallback, or in error (R230, R235). -/
theorem State.failLoad_full (full : l.isPartial = false) : ∃ u : State, u.cfg.load = none
    ∧ s.failLoad code off info = if l.source = .golden then (u.noImage off).loadEnded
      else if l.fallback && !l.isTest then u.fallBack else (u.put CFG_STATUS.state 5).loadEnded := by
  have ended : (((s.logLoad l code off info).dropLoad.when l.isTest fun s =>
      s.put CFG_BOOT_STAT.slot 14).clearFabric.put CFG_STATUS.golden 0).cfg.load = none := by
    rw [State.put_cfg, State.load_clearFabric, State.when_keeps State.cfg _ _ _ fun t => t.put_cfg _ _,
      State.load_dropLoad]
  refine ⟨_, ended, ?_⟩
  simp only [State.failLoad, load, full, Bool.false_eq_true, if_false]
  rfl

end

/-- A load that has failed is over: none is under way, or the one that its fallback begins, which waits for its
header. -/
theorem State.headless_failLoad (code off info : Nat) : (s.failLoad code off info).Headless := by
  cases load : s.cfg.load with
  | none =>
    refine State.headless_of_idle ?_
    simp only [State.failLoad, load]
  | some l =>
    cases kind : l.isPartial with
    | true =>
      obtain ⟨u, idle, after⟩ := State.failLoad_partial load code off info kind
      exact after ▸ State.headless_of_idle (by rw [State.load_loadEnded, State.put_cfg, idle])
    | false =>
      obtain ⟨u, idle, after⟩ := State.failLoad_full load code off info kind
      rw [after]
      split_ifs
      · exact State.headless_of_idle (by rw [State.load_loadEnded, State.load_noImage, idle])
      · simp [State.Headless]
      · exact State.headless_of_idle (by rw [State.load_loadEnded, State.put_cfg, idle])

end

end Sys2Proof.Machine
end

section
/-! The command stream of a load (R219 to R222, R231). -/

namespace Sys2Proof.Machine

open Reg

/-! ### The operands of a command -/

section
variable {s : State} {n : Nat} {one : State → CfgLoad → ImageHeader → Nat → State}

theorem State.operands_headless (ended : s.Headless) : ∀ k, s.operands n one k = s
  | 0 => rfl
  | k + 1 => by
    unfold State.operands
    split
    · rfl
    · rename_i l load
      simp only [ended l load]

variable {l : CfgLoad} {h : ImageHeader} (load : s.cfg.load = some l) (header : l.header = some h)
  (phase : l.phase = .stream) (op : l.op.isNone = false) (k : Nat)
include load header phase op

/-- With no item to go the command ends. -/
theorem State.operands_end (left : l.left = 0) :
    s.operands n one (k + 1) = s.setLoad { l with op := none, frame := none } := by
  simp only [State.operands, load, header]
  rw [if_neg (by simp [phase, op]), if_pos left]

/-- The next item, once it has been delivered. -/
theorem State.operands_next (left : l.left ≠ 0) (room : l.pos + n ≤ h.plainLen) (here : l.has h (l.pos + n) = true) :
    s.operands n one (k + 1) = (one s { l with pos := l.pos + n, left := l.left - 1 } h
      (s.streamNum l h l.pos n)).operands n one k := by
  simp only [State.operands, load, header]
  rw [if_neg (by simp [phase, op]), if_neg left, if_neg (Nat.not_lt.2 room), if_neg (by simp [here])]

end

/-! ### The command word -/

/-- The next command of the stream, its word delivered: opcode `o` and count `n`. -/
structure State.AtCommand (s : State) (l : CfgLoad) (h : ImageHeader) (o n : Nat) : Prop where
  load : s.cfg.load = some l
  header : l.header = some h
  phase : l.phase = .stream
  op : l.op = none
  room : l.pos + 4 ≤ h.plainLen
  here : l.has h (l.pos + 4) = true
  opcode : s.streamNum l h l.pos 4 / 2 ^ 24 = o
  count : s.streamNum l h l.pos 4 % 2 ^ 24 = n

/-- The command under way has taken its items. -/
def CfgLoad.Taken (m : CfgLoad) (h : ImageHeader) : Prop :=
  m.header = some h ∧ m.phase = .stream ∧ m.op.isNone = false ∧ m.left = 0

/-- The load with a command word taken, which asks for `left` items. -/
def CfgLoad.opened (l : CfgLoad) (o left : Nat) : CfgLoad :=
  { l with pos := l.pos + 4, start := l.pos, op := some o, left := left }

/-- The load with a command word and its one item of `n` bytes taken. -/
def CfgLoad.item (l : CfgLoad) (o n : Nat) : CfgLoad :=
  { l with pos := l.pos + 4 + n, start := l.pos, op := some o, left := 0 }

section
variable {s : State} {l : CfgLoad} {h : ImageHeader} {o n : Nat} (c : s.AtCommand l h o n)
  (run : State → CfgLoad → ImageHeader → State)
include c

theorem State.AtCommand.fails (bad : commandBad l h o n = true) (opc : Nat) :
    s.streamRow opc run = s.failLoad 0x070A l.at_ 0 := by
  simp only [State.streamRow, State.failHere, c.load, c.header, c.op, c.opcode, c.count]
  rw [if_neg (by simp [c.phase]), if_neg (Nat.not_lt.2 c.room), if_neg (by simp [c.here]), if_pos bad]

theorem State.AtCommand.begins (good : commandBad l h o n = false) {left : Nat} (items : (if o = 1 then 1 else n) = left) :
    s.streamRow o run = run (s.setLoad (l.opened o left)) (l.opened o left) h := by
  simp only [State.streamRow, c.load, c.header, c.op, c.opcode, c.count, good, items]
  rw [if_neg (by simp [c.phase]), if_neg (Nat.not_lt.2 c.room), if_neg (by simp [c.here]), if_neg (by decide),
    if_neg (by simp), CfgLoad.opened, c.header]

section
variable (good : commandBad l h o n = false) (items : (if o = 1 then 1 else n) = 1) {k : Nat}
  (room : l.pos + 4 + k ≤ h.plainLen) (here : l.has h (l.pos + 4 + k) = true)
  {one : State → CfgLoad → ImageHeader → Nat → State} {u : State}
  (does : one (s.setLoad (l.opened o 1)) (l.item o k) h (s.streamNum l h (l.pos + 4) k) = u)
include good items room here does

/-- A command that asks for one item of `k` bytes, which has been delivered. -/
theorem State.AtCommand.one_item :
    s.streamRow o (fun s l _ => s.operands k one (l.left + 1)) = u.operands k one 1 := by
  rw [c.begins _ good items, ← does]
  exact State.operands_next (s := s.setLoad (l.opened o 1)) rfl c.header c.phase rfl 1 Nat.one_ne_zero room here

/-- The item fails the load. -/
theorem State.AtCommand.one_item_fails (ended : u.Headless) :
    s.streamRow o (fun s l _ => s.operands k one (l.left + 1)) = u :=
  (c.one_item good items room here does).trans (State.operands_headless ended 1)

/-- The item leaves the load under way, and the command ends. -/
theorem State.AtCommand.one_item_ends {m : CfgLoad} (load : u.cfg.load = some m) (taken : m.Taken h) :
    s.streamRow o (fun s l _ => s.operands k one (l.left + 1)) = u.setLoad { m with op := none, frame := none } := by
  obtain ⟨header, phase, op, none_⟩ := taken
  exact (c.one_item good items room here does).trans (State.operands_end load header phase op 0 none_)

end

theorem State.AtCommand.taken_item (k : Nat) : (l.item o k).Taken h := ⟨c.header, c.phase, rfl, rfl⟩

end

/-! ### SETFAR -/

theorem CfgLoad.note_frame (l : CfgLoad) (h : ImageHeader) (a : Nat) :
    l.note h a = { l with content := (l.note h a).content } := by
  unfold CfgLoad.note
  split <;> rfl

section
variable {s : State} {l : CfgLoad} {h : ImageHeader} (c : s.AtCommand l h 1 0) (room : l.pos + 8 ≤ h.plainLen)
  (here : l.has h (l.pos + 8) = true)
include c room here

theorem exec_setfar_refused {code : Nat} (error : s.addrError l h (s.streamNum l h (l.pos + 4) 4) = some code) :
    exec .setfar s = .next ((s.setLoad (l.item 1 4)).failLoad code (l.item 1 4).at_ (s.streamNum l h (l.pos + 4) 4)) := by
  have same : (s.setLoad (l.opened 1 1)).addrError (l.item 1 4) h (s.streamNum l h (l.pos + 4) 4) = some code := error
  refine congrArg Host.Outcome.next (c.one_item_fails rfl rfl room here ?_ (State.headless_failLoad _ _ _ _))
  simp only [same]
  rfl

theorem exec_setfar_taken (error : s.addrError l h (s.streamNum l h (l.pos + 4) 4) = none) :
    exec .setfar s = .next (s.setLoad { l.item 1 4 with
      content := ((l.item 1 4).note h (s.streamNum l h (l.pos + 4) 4)).content
      far := some (s.streamNum l h (l.pos + 4) 4), op := none, frame := none }) := by
  have same : (s.setLoad (l.opened 1 1)).addrError (l.item 1 4) h (s.streamNum l h (l.pos + 4) 4) = none := error
  refine congrArg Host.Outcome.next (c.one_item_ends rfl rfl room here (u := s.setLoad { l.item 1 4 with
    content := ((l.item 1 4).note h (s.streamNum l h (l.pos + 4) 4)).content
    far := some (s.streamNum l h (l.pos + 4) 4) }) ?_ rfl (c.taken_item 4))
  simp only [same]
  rw [CfgLoad.note_frame]
  rfl

end

/-! ### Frames -/

theorem planeKey_eq_iff {p q : Bool} {a b : Nat} (ha : a < 2 ^ 32) (hb : b < 2 ^ 32) :
    planeKey p b = planeKey q a ↔ p = q ∧ b = a := by
  cases p <;> cases q <;> simp [planeKey] <;> omega

theorem State.frame_setFrame (s : State) (q : Bool) {a b : Nat} (f : Frame) (p : Bool) (ha : a < 2 ^ 32)
    (hb : b < 2 ^ 32) : (s.setFrame q a f).frame p b = if p = q ∧ b = a then f else s.frame p b := by
  simp only [← planeKey_eq_iff ha hb]
  exact KMap.get_set ..

/-- A frame of a full load's fabric in both planes, counted. -/
def State.bothPlanes (s : State) (m : CfgLoad) (a : Nat) (f : Frame) : State :=
  (((s.setLoad m).setFrame false a f).setFrame true a f).count CFG_PROGRESS.v

theorem State.placeFrame_logic (s : State) (m : CfgLoad) {h : ImageHeader} {a : Nat} (f : Frame) (logic : faType a = 0)
    (fabric : faCol a < 1164) (full : h.partial_ = false) : s.placeFrame m h a f = s.bothPlanes m a f := by
  simp only [State.placeFrame]
  rw [if_neg (by simp [logic]), if_neg (by simp [full]), if_neg (by simp [Nat.not_le.2 fabric])]
  rfl

theorem State.frame_bothPlanes (s : State) (m : CfgLoad) {a b : Nat} (f : Frame) (p : Bool) (ha : a < 2 ^ 32)
    (hb : b < 2 ^ 32) : (s.bothPlanes m a f).frame p b = if b = a then f else s.frame p b := by
  refine (State.frame_setFrame _ true f p ha hb).trans ?_
  rw [State.frame_setFrame _ false f p ha hb]
  cases p <;> simp [State.frame, State.setLoad]

theorem State.sameRegs_bothPlanes (s : State) (m : CfgLoad) (a : Nat) (f : Frame) :
    s.SameRegs (s.bothPlanes m a f) [CFG_PROGRESS.off] :=
  State.sameRegs_put _ CFG_PROGRESS.v _

theorem State.addr_lt_of_addrError {s : State} {l : CfgLoad} {h : ImageHeader} {a : Nat}
    (good : s.addrError l h a = none) : a < 2 ^ 32 := by
  by_contra below
  have high : (!frameExists a || decide (2 ^ 32 ≤ a)) = true := by rw [decide_eq_true (Nat.not_lt.1 below), Bool.or_true]
  rw [State.addrError, if_pos high] at good
  cases good

theorem frameBad_logic {a : Nat} (f : Frame) (logic : faType a = 0) : frameBad a f = !frameGood f := by
  simp [frameBad, logic]

theorem CfgLoad.note_logic (l : CfgLoad) (h : ImageHeader) {a : Nat} (logic : faType a = 0) : l.note h a = l :=
  if_neg (by simp [logic])

/-- The load with the word and the frame of a REPEAT taken, and with its one address. -/
def CfgLoad.framed (l : CfgLoad) (f : Frame) : CfgLoad := { l.opened 3 1 with pos := l.pos + 516, frame := some f }
def CfgLoad.repeated (l : CfgLoad) (f : Frame) : CfgLoad := { l.item 3 516 with frame := some f }

section
variable {s : State} {l : CfgLoad} {h : ImageHeader} {a : Nat} {f : Frame} (logic : faType a = 0)
  (fabric : faCol a < 1164) (full : h.partial_ = false)
include logic fabric full

theorem exec_write_places (c : s.AtCommand l h 2 1) (room : l.pos + 516 ≤ h.plainLen)
    (here : l.has h (l.pos + 516) = true) (far : l.far = some a)
    (frame : f = BitVec.ofNat 4096 (s.streamNum l h (l.pos + 4) 512)) (fits : s.addrError l h a = none)
    (good : frameGood f = true) :
    let m : CfgLoad := { l.item 2 512 with far := some ((nextFrame a).getD (2 ^ 32)) }
    exec .write s = .next ((s.bothPlanes m a f).setLoad { m with op := none, frame := none }) := by
  intro m
  have far' : (l.item 2 512).far = some a := far
  have same : (s.setLoad (l.opened 2 1)).addrError (l.item 2 512) h a = none := fits
  refine congrArg Host.Outcome.next (c.one_item_ends (by simp [commandBad, far]) rfl room here (u := s.bothPlanes m a f)
    ?_ rfl (c.taken_item 512))
  simp only [far', same]
  rw [← frame, frameBad_logic f logic, good, if_neg (by simp), State.placeFrame_logic _ _ f logic fabric full]
  rfl

theorem exec_repeatFrame (c : s.AtCommand l h 3 1) (first : l.frame = none) (room : l.pos + 520 ≤ h.plainLen)
    (hereFrame : l.has h (l.pos + 516) = true) (here : l.has h (l.pos + 520) = true)
    (frame : f = BitVec.ofNat 4096 (s.streamNum l h (l.pos + 4) 512)) (addr : a = s.streamNum l h (l.pos + 516) 4)
    (fits : s.addrError l h a = none) : exec .repeatFrame s = .next (if frameGood f
      then (s.bothPlanes (l.repeated f) a f).setLoad { l.repeated f with op := none, frame := none }
      else (s.setLoad (l.repeated f)).failLoad 0x070C (l.repeated f).at_ a) := by
  have delivered : (s.setLoad (l.opened 3 1)).repeatFrameOf (l.opened 3 1) h = s.setLoad (l.framed f) := by
    have none_ : (l.opened 3 1).frame = none := first
    have roomFrame : ¬ h.plainLen < (l.opened 3 1).pos + 512 := by simp only [CfgLoad.opened]; omega
    have hereFrame' : (l.opened 3 1).has h ((l.opened 3 1).pos + 512) = true := hereFrame
    rw [State.repeatFrameOf, none_, if_neg (by simp), if_neg roomFrame, if_neg (by simp [hereFrame']), CfgLoad.framed,
      frame]
    rfl
  have next (one : State → CfgLoad → ImageHeader → Nat → State) : (s.setLoad (l.framed f)).operands 4 one 2
      = (one (s.setLoad (l.framed f)) (l.repeated f) h a).operands 4 one 1 := by
    rw [addr]
    exact State.operands_next (s := s.setLoad (l.framed f)) rfl c.header c.phase rfl 1 Nat.one_ne_zero room here
  have same : (s.setLoad (l.framed f)).addrError (l.repeated f) h a = none := fits
  show execRepeatFrame s = _
  rw [execRepeatFrame, c.begins _ rfl (left := 1) rfl]
  simp only [delivered]
  refine congrArg Host.Outcome.next ((next _).trans ?_)
  simp only [same, CfgLoad.note_logic _ h logic, frameBad_logic f logic]
  cases frameGood f with
  | true =>
    rw [if_neg (by decide), if_pos rfl, State.placeFrame_logic _ _ f logic fabric full]
    exact State.operands_end (l := l.repeated f) rfl c.header c.phase rfl 0 rfl
  | false =>
    rw [if_pos (by decide), if_neg (by decide)]
    exact State.operands_headless (State.headless_failLoad _ _ _ _) 1

end

/-! ### The other commands -/

section
variable {s : State} {l : CfgLoad} {h : ImageHeader}

theorem exec_wreg_writes {off v : Nat} {u : State} (c : s.AtCommand l h 4 1) (full : h.partial_ = false)
    (room : l.pos + 12 ≤ h.plainLen) (here : l.has h (l.pos + 12) = true)
    (offset : off = s.streamNum l h (l.pos + 4) 8 % 2 ^ 32) (value : v = s.streamNum l h (l.pos + 4) 8 / 2 ^ 32)
    (fits : sysAddrBad off = false) (writes : u = (s.setLoad (l.item 4 8)).writeRecord off (BitVec.ofNat 32 v))
    (kept : u.cfg.load = some (l.item 4 8)) :
    exec .wreg s = .next (u.setLoad { l.item 4 8 with op := none, frame := none }) := by
  refine congrArg Host.Outcome.next (c.one_item_ends full rfl room here ?_ kept (c.taken_item 8))
  rw [← offset, ← value, if_neg (by simp [fits]), writes]
  rfl

theorem exec_dynlist_lists {a : Nat} (c : s.AtCommand l h 5 1) (room : l.pos + 8 ≤ h.plainLen)
    (here : l.has h (l.pos + 8) = true) (addr : a = s.streamNum l h (l.pos + 4) 4) (full : h.partial_ = false)
    (known : frameExists a = true) (logic : faType a = 0) (fits : s.cfg.dynlist.length < 16384) :
    exec .dynlist s = .next { s with cfg := { s.cfg with load := some { l.item 5 4 with op := none, frame := none },
                                                         dynlist := s.cfg.dynlist ++ [(BitVec.ofNat 32 a, none, false)] } } := by
  refine congrArg Host.Outcome.next (c.one_item_ends rfl rfl room here (m := l.item 5 4)
    (u := { s with cfg := { s.cfg with load := some (l.item 5 4),
                                       dynlist := s.cfg.dynlist ++ [(BitVec.ofNat 32 a, none, false)] } })
    ?_ rfl (c.taken_item 4))
  simp only [← addr, full, known, logic]
  rw [if_neg (by decide), if_neg (by decide), if_neg (by simp)]
  exact if_neg (Nat.not_le.2 fits)

theorem exec_nop_passes (c : s.AtCommand l h 6 0) :
    exec .nop s = .next (s.setLoad { l with pos := l.pos + 4, start := l.pos, op := none, left := 0 }) :=
  congrArg Host.Outcome.next (c.begins _ rfl rfl)

theorem exec_sync_passes (c : s.AtCommand l h 7 0) :
    exec .sync s = .next (s.setLoad { l with pos := l.pos + 4, start := l.pos, op := none, left := 0 }) :=
  congrArg Host.Outcome.next (c.begins _ rfl rfl)

theorem exec_endStream_ends (c : s.AtCommand l h 15 0) (whole : h.trailerAt ≤ l.bytes.length)
    (zeros : ∀ i < h.plainLen - (l.pos + 4), s.streamByte l h (l.pos + 4 + i) = 0) : exec .endStream s = .next
      (s.setLoad { l with pos := h.plainLen, start := l.pos, op := none, left := 0, phase := .trailer }) := by
  have padding : ((List.range (h.plainLen - (l.opened 15 0).pos)).all fun i =>
      (s.setLoad (l.opened 15 0)).streamByte (l.opened 15 0) h ((l.opened 15 0).pos + i) = 0) = true :=
    List.all_eq_true.2 fun i hi => decide_eq_true (zeros i (List.mem_range.1 hi))
  refine congrArg Host.Outcome.next ((c.begins _ rfl (left := 0) rfl).trans ?_)
  exact (if_neg (Nat.not_lt.2 whole)).trans (if_pos padding)

end

/-- Settles O34: each command by its word, and what its one item does by the tests of its own row. -/
theorem streamCommandsComplete : Obligations.StreamCommandsComplete := by
  unfold Obligations.StreamCommandsComplete
  intro s l h load header phase op room here w o n
  have at_ {o' n' : Nat} (opcode : o = o') (count : n = n') : s.AtCommand l h o' n' :=
    ⟨load, header, phase, op, room, here, opcode, count⟩
  refine ⟨fun bad c hc => ?bad, fun n0 => ⟨fun o6 => exec_nop_passes (at_ o6 n0), fun o7 => exec_sync_passes (at_ o7 n0),
      fun o15 whole zeros => exec_endStream_ends (at_ o15 n0) whole zeros⟩,
    fun a o1 n0 room here addr => ?setfar,
    fun a f o2 n1 room here far frame fits logic fabric full good => ?write,
    fun a f o3 n1 first room hereFrame here frame addr fits logic fabric full => ?repeatFrame,
    fun off v u o4 n1 full room here offset value fits writes kept =>
      exec_wreg_writes (at_ o4 n1) full room here offset value fits writes kept,
    fun a o5 n1 room here addr full known logic fits =>
      ⟨_, _, exec_dynlist_lists (at_ o5 n1) room here addr full known logic fits, rfl, rfl, rfl⟩⟩
  case bad =>
    have fails (opc : Nat) (run : State → CfgLoad → ImageHeader → State) :
        Host.Outcome.next (φ := Fault) (ρ := Refusal) (s.streamRow opc run) = .next (s.failLoad 0x070A l.at_ 0) :=
      congrArg Host.Outcome.next ((at_ rfl rfl).fails run bad opc)
    simp only [List.mem_cons, List.not_mem_nil, or_false] at hc
    rcases hc with rfl | rfl | rfl | rfl | rfl | rfl | rfl | rfl <;> exact fails _ _
  case setfar =>
    subst addr
    exact ⟨fun code error => ⟨l.item 1 4, header, rfl, exec_setfar_refused (at_ o1 n0) room here error⟩,
      fun fits => ⟨_, exec_setfar_taken (at_ o1 n0) room here fits, rfl, rfl, rfl, rfl⟩⟩
  case write =>
    have below := State.addr_lt_of_addrError fits
    have frames (m : CfgLoad) (p : Bool) (b : Nat) (hb : b < 2 ^ 32) := s.frame_bothPlanes m f p below hb
    exact ⟨_, _, exec_write_places logic fabric full (at_ o2 n1) room here far frame fits good,
      (frames _ false a below).trans (if_pos rfl), (frames _ true a below).trans (if_pos rfl), rfl, rfl, rfl, rfl,
      fun p b hb ne => (frames _ p b hb).trans (if_neg ne), s.sameRegs_bothPlanes _ a f⟩
  case repeatFrame =>
    have below := State.addr_lt_of_addrError fits
    have frames (p : Bool) (b : Nat) (hb : b < 2 ^ 32) := s.frame_bothPlanes (l.repeated f) f p below hb
    have run := exec_repeatFrame logic fabric full (at_ o3 n1) first room hereFrame here frame addr fits
    refine ⟨fun good => ?_, fun bad => ⟨l.repeated f, by rw [run, if_neg (by simp [bad])]⟩⟩
    rw [if_pos good] at run
    exact ⟨_, _, run, (frames false a below).trans (if_pos rfl), (frames true a below).trans (if_pos rfl), rfl, rfl, rfl,
      fun p b hb ne => (frames p b hb).trans (if_neg ne)⟩

end Sys2Proof.Machine
end

section
/-! Requests to the configuration engine (R203, R204, R209, R233, R236): what one request bit of CFG_CTRL does, what the
sampling of BOOT_MODE stores, and the self-test with its end. -/

namespace Sys2Proof.Machine

open Reg

variable {s : State} {v : Word}

/-! ### One request bit in CFG_CTRL -/

/-- The four request bits of CFG_CTRL are known: abort, prog, load_go and selftest. -/
def RequestBits (v : Word) (abort prog loadGo selftest : Bool) : Prop :=
  bit v 29 = abort ∧ bit v 31 = prog ∧ bit v 30 = loadGo ∧ bit v 28 = selftest

/-- A write of CFG_CTRL serves its request bits in the order abort, prog, load_go, selftest. -/
theorem State.writeCfgCtrl_of_bits {abort prog loadGo selftest : Bool}
    (h : RequestBits v abort prog loadGo selftest) :
    s.writeCfgCtrl v = ((((s.write CFG_CTRL.off v).when abort (State.failHere · 0x0714)).when prog
      State.reconfigure).when loadGo State.requestLoadGo).when selftest State.requestTest := by
  obtain ⟨rfl, rfl, rfl, rfl⟩ := h
  rfl

theorem State.writeCfgCtrl_prog (h : RequestBits v false true false false) :
    s.writeCfgCtrl v = (s.write CFG_CTRL.off v).reconfigure := by
  simp [State.writeCfgCtrl_of_bits h, State.when]

theorem State.writeCfgCtrl_loadGo (h : RequestBits v false false true false) :
    s.writeCfgCtrl v = (s.write CFG_CTRL.off v).requestLoadGo := by
  simp [State.writeCfgCtrl_of_bits h, State.when]

theorem State.writeCfgCtrl_abort (h : RequestBits v true false false false) :
    s.writeCfgCtrl v = (s.write CFG_CTRL.off v).failHere 0x0714 := by
  simp [State.writeCfgCtrl_of_bits h, State.when]

theorem State.writeCfgCtrl_selftest (h : RequestBits v false false false true) :
    s.writeCfgCtrl v = (s.write CFG_CTRL.off v).requestTest := by
  simp [State.writeCfgCtrl_of_bits h, State.when]

/-! ### What a request leads to -/

theorem State.requestLoadGo_begins {l : CfgLoad} (load : s.cfg.load = none) (next : s.cfg.next = none)
    (prog : s.cfg.progWait = false) (bad : s.cfg.testBad = false) (runs : s.cfg.testRuns = false)
    (asked : s.askedLoad = some l) : s.requestLoadGo = (s.beginLoad l).put CFG_STATUS.req_result 1 := by
  simp [State.requestLoadGo, State.cfgAnswer, load, next, prog, bad, runs, asked]

theorem State.requestLoadGo_refused (load : s.cfg.load.isSome = true) :
    s.requestLoadGo = s.put CFG_STATUS.req_result 3 := by
  simp [State.requestLoadGo, State.cfgAnswer, load]

theorem State.failHere_of_load {l : CfgLoad} (load : s.cfg.load = some l) (code : Nat) :
    s.failHere code = s.failLoad code l.at_ 0 := by
  simp only [State.failHere, load]

theorem State.requestTest_runs (runs : s.cfg.testRuns = false) (load : s.cfg.load = none)
    (prog : s.cfg.progWait = false) : s.requestTest = s.startTest.put CFG_STATUS.req_result 1 := by
  simp [State.requestTest, State.cfgAnswer, runs, load, prog]

theorem State.requestTest_waits (runs : s.cfg.testRuns = false) (load : s.cfg.load.isSome = true) :
    s.requestTest = ({ s with cfg := { s.cfg with testWait := true } } : State).put CFG_STATUS.req_result 2 := by
  simp [State.requestTest, State.cfgAnswer, runs, load]

theorem State.startTest_runs : s.startTest.cfg.testRuns = true := rfl

theorem State.startTest_state : s.startTest.get CFG_STATUS.state = 6 :=
  State.get_put_same _ _ (by decide)

theorem State.startTest_selftest : s.startTest.get CFG_STATUS.selftest = 3 :=
  (State.get_put_apart _ _ (by decide) (by decide)).trans (State.get_put_same _ _ (by decide))

/-! ### The sampling of BOOT_MODE -/

section
variable (s)

theorem State.sampleMode_bootMode (m : BitVec 3) : (s.sampleMode m.toNat).get CFG_BOOT_STAT.boot_mode = m.toNat := by
  unfold State.sampleMode State.putB
  dsimp only
  rw [State.get_put_off _ _ (by decide), State.get_put_apart _ _ (by decide) (by decide),
    State.get_put_same _ _ (by decide)]
  exact Nat.mod_eq_of_lt m.isLt

theorem State.sampleMode_modeErr (m : Nat) :
    (s.sampleMode m).get CFG_BOOT_STAT.mode_err = (decide (4 ≤ m)).toNat := by
  unfold State.sampleMode State.putB
  dsimp only
  rw [State.get_put_off _ _ (by decide), State.get_put_same _ _ (by decide)]
  exact Nat.mod_eq_of_lt (decide (4 ≤ m)).toNat_lt

theorem State.sampleMode_bootFrom (m : Nat) : (s.sampleMode m).cfg.bootFrom = min m 3 := by
  show (if m < 4 then m else 3) = min m 3
  split <;> omega

theorem State.sameRegs_sampleMode (m : Nat) :
    s.SameRegs (s.sampleMode m) [CFG_BOOT_STAT.off, CFG_FLASH_CTRL.off] := by
  have kept : s.SameRegs (s.sampleMode m) (([CFG_BOOT_STAT.off] ++ [CFG_BOOT_STAT.off]) ++ [CFG_FLASH_CTRL.off]) :=
    State.SameRegs.trans (State.SameRegs.trans (State.sameRegs_put _ CFG_BOOT_STAT.boot_mode m)
      (State.sameRegs_put _ CFG_BOOT_STAT.mode_err _)) (State.sameRegs_put _ CFG_FLASH_CTRL.mode _)
  exact kept.mono (by simp)

end

/-! ### The end of the self-test -/

/-- An entry of the CFG page leaves the page's own registers (R237). -/
theorem State.get_logCfg (s : State) (cls : BitVec 2) (code i0 i1 : Nat) {f : Field}
    (h : f.off ≠ FLT_DROP.off ∧ f.off ≠ EVT.off pageFLT ∧ f.off ≠ EVT_CNT.off pageFLT) :
    (s.log pageCFG cls code i0 i1).get f = s.get f := by
  obtain ⟨drop, evt, cnt⟩ := h
  have handed : s.log pageCFG cls code i0 i1 = s.handEntry (pageEntry pageCFG cls code i0 i1) := by
    simp [State.log]
  rw [handed, State.get, State.get, State.word_handEntry_ne _ _ drop evt cnt]

/-- The result and the entries that the end of a self-test shows (R236, R238). -/
def State.testShown (s : State) (pass : Bool) : State :=
  (((({ s with cfg := { s.cfg with testRuns := false, testBad := !pass } } : State).put CFG_STATUS.selftest
    (if pass then 1 else 2)).put CFG_STATUS.state 0).raise pageCFG 3 INFO 0x0722 0 0).when (!pass)
      fun s => s.log pageCFG CONTAINED 0x0725 0 0

theorem State.testShown_cfg (pass : Bool) :
    (s.testShown pass).cfg = { s.cfg with testRuns := false, testBad := !pass } := by
  unfold State.testShown
  rw [State.when_keeps State.cfg _ _ _ fun t => t.log_cfg _ _ _ _ _, State.raise_cfg, State.put_cfg, State.put_cfg]

theorem State.testShown_get (pass : Bool) {f : Field}
    (apart : f.off ∉ [EVT.off pageCFG, EVT_CNT.off pageCFG, ERR_INFO0.off pageCFG, ERR_INFO1.off pageCFG,
      FLT_DROP.off, EVT.off pageFLT, EVT_CNT.off pageFLT]) :
    (s.testShown pass).get f = ((s.put CFG_STATUS.selftest (if pass then 1 else 2)).put CFG_STATUS.state 0).get f := by
  have log : f.off ≠ FLT_DROP.off ∧ f.off ≠ EVT.off pageFLT ∧ f.off ≠ EVT_CNT.off pageFLT := by
    simp only [List.mem_cons, List.not_mem_nil, or_false, not_or] at apart
    exact ⟨apart.2.2.2.2.1, apart.2.2.2.2.2.1, apart.2.2.2.2.2.2⟩
  unfold State.testShown
  rw [State.when_keeps (State.get · f) _ _ _ fun t => t.get_logCfg _ _ _ _ log,
    State.get_raise_off _ _ _ _ _ _ _ apart]
  rfl

theorem State.testShown_state (pass : Bool) : (s.testShown pass).get CFG_STATUS.state = 0 :=
  (State.testShown_get pass (by decide)).trans (State.get_put_same _ _ (by decide))

theorem State.testShown_selftest (pass : Bool) :
    (s.testShown pass).get CFG_STATUS.selftest = if pass then 1 else 2 := by
  rw [State.testShown_get pass (by decide), State.get_put_apart _ _ (by decide) (by decide),
    State.get_put_same _ _ (by decide)]
  cases pass <;> rfl

/-- With no reconfiguration and no load waiting, the end of the self-test only shows its result. -/
theorem exec_selftestComplete_ends (pass : Bool) (runs : s.cfg.testRuns = true) (prog : s.cfg.progWait = false)
    (next : s.cfg.next = none) : exec (.selftestComplete pass) s = .next (s.testShown pass) := by
  have cfg := State.testShown_cfg (s := s) pass
  show execSelftestComplete pass s = _
  unfold execSelftestComplete
  rw [runs, Bool.not_true, if_neg Bool.false_ne_true]
  change (if (s.testShown pass).cfg.progWait && !(s.testShown pass).pins.prog then _ else
    match (s.testShown pass).cfg.next with
    | some l => _
    | none => Host.Outcome.next (s.testShown pass)) = _
  simp only [cfg, prog, next, Bool.false_and, Bool.false_eq_true, if_false]

/-! ### The statement -/

/-- Settles O32: each request by the branch of CFG_CTRL that its bit opens, the boot by its guards, the self-test's end
by what its entries leave. -/
theorem configurationRequestsComplete : Obligations.ConfigurationRequestsComplete := by
  unfold Obligations.ConfigurationRequestsComplete
  refine ⟨fun s => rfl, fun s m wait runs => ⟨_, rfl, ?release⟩,
    fun s v b31 b30 b29 b28 => congrArg Host.Outcome.next (State.writeCfgCtrl_prog ⟨b29, b31, b30, b28⟩),
    fun s m due held => ⟨_, rfl, ?boot⟩,
    fun s m => ⟨s.sampleMode_bootMode m, s.sampleMode_modeErr _, s.sampleMode_bootFrom _, s.sameRegs_sampleMode _⟩,
    fun s v b31 b30 b29 b28 => ?loadGo,
    fun s v l b31 b30 b29 b28 load => congrArg Host.Outcome.next
      ((State.writeCfgCtrl_abort ⟨b29, b31, b30, b28⟩).trans
        (State.failHere_of_load (s := s.write CFG_CTRL.off v) load 0x0714)),
    fun s v b31 b30 b29 b28 runs => ?selftest,
    fun s pass runs prog next => ⟨_, exec_selftestComplete_ends pass runs prog next, State.testShown_selftest pass,
      State.testShown_state pass, State.testShown_cfg pass⟩⟩
  case release =>
    refine congrArg Host.Outcome.next (State.when_of_true ?_ _)
    show (s.cfg.progWait && !s.cfg.testRuns) = true
    rw [wait, runs]
    rfl
  case boot =>
    show execBootStart m s = _
    unfold execBootStart
    rw [due, held]
    rfl
  case loadGo =>
    have asks : exec (.loadGo v) s = .next (s.write CFG_CTRL.off v).requestLoadGo :=
      congrArg Host.Outcome.next (State.writeCfgCtrl_loadGo ⟨b29, b31, b30, b28⟩)
    exact ⟨fun l load next prog bad runs asked =>
        asks.trans (congrArg Host.Outcome.next (State.requestLoadGo_begins load next prog bad runs asked)),
      fun l load => asks.trans (congrArg Host.Outcome.next (State.requestLoadGo_refused (by rw [load]; rfl)))⟩
  case selftest =>
    have asks : exec (.selftest v) s = .next (s.write CFG_CTRL.off v).requestTest :=
      congrArg Host.Outcome.next (State.writeCfgCtrl_selftest ⟨b29, b31, b30, b28⟩)
    refine ⟨fun load prog => ⟨_, asks.trans (congrArg Host.Outcome.next (State.requestTest_runs runs load prog)),
        State.startTest_runs, ?_, ?_, State.get_put_same _ _ (by decide)⟩,
      fun l load => ⟨_, asks.trans (congrArg Host.Outcome.next (State.requestTest_waits runs (by
        rw [State.write_cfg, load]; rfl))), rfl, State.get_put_same _ _ (by decide)⟩⟩
    · exact (State.get_put_apart _ _ (by decide) (by decide)).trans State.startTest_state
    · exact (State.get_put_apart _ _ (by decide) (by decide)).trans State.startTest_selftest

end Sys2Proof.Machine
end

section
/-! Flash commands (R207, R210): what a go bit begins or shows, and what a program and an erase that succeed leave in
the flash. -/

namespace Sys2Proof.Machine

open Reg

/-! ### Bytes of sparse memory -/

section
variable {α : Type} (d : Nat → α)

/-- Entries dropped by their numbers alone read as unlisted, and the others as before. -/
theorem KMap.get_filterKeys (m : KMap α) (p : Nat → Bool) (k : Nat) :
    KMap.get d (m.filter fun e => p e.1) k = if p k then m.get d k else d k := by
  induction m with
  | nil => simp [KMap.get]
  | cons e m ih =>
    obtain ⟨a, v⟩ := e
    by_cases stays : p a = true <;> by_cases here : k = a
    · subst here; simp [stays, KMap.get]
    · simpa [stays, KMap.get, here] using ih
    · subst here; simpa [stays] using ih
    · simpa [stays, KMap.get, here] using ih

theorem KMap.get_eraseRange (m : KMap α) (a b k : Nat) :
    (m.eraseRange a b).get d k = if a ≤ k ∧ k < b then d k else m.get d k := by
  refine (KMap.get_filterKeys d m (fun k => !(decide (a ≤ k) && decide (k < b))) k).trans ?_
  by_cases inside : a ≤ k ∧ k < b <;> simp [inside]

theorem KMap.length_getMany (m : KMap α) (k n : Nat) : (m.getMany d k n).length = n := by
  induction n generalizing k with
  | zero => rfl
  | succ n ih => rw [KMap.getMany, List.length_cons, ih]

theorem KMap.getElem_getMany (m : KMap α) (k n i : Nat) (h : i < (m.getMany d k n).length) :
    (m.getMany d k n)[i] = m.get d (k + i) := by
  induction n generalizing k i with
  | zero => exact absurd h (Nat.not_lt_zero i)
  | succ n ih =>
    cases i with
    | zero => rfl
    | succ i =>
      rw [KMap.length_getMany] at h
      refine (ih (k + 1) i (by rw [KMap.length_getMany]; omega)).trans ?_
      rw [Nat.add_right_comm, Nat.add_assoc]

end

variable {s : State}

/-! ### What a program and an erase leave (R210) -/

/-- The bytes that a program stores: each old byte with the bits of the new one. -/
def State.programmed (s : State) (a : Nat) (bs : List Byte) : List Byte :=
  List.zipWith (fun o n => o &&& n) (s.flashBytes a bs.length) bs

theorem State.length_programmed (a : Nat) (bs : List Byte) : (s.programmed a bs).length = bs.length := by
  simp [State.programmed, State.flashBytes, KMap.length_getMany]

theorem State.flashAt_program_inside (a : Nat) (bs : List Byte) {i : Nat} (h : i < bs.length) :
    (s.flashProgramBytes a bs).flashAt (a + i) = s.flashAt (a + i) &&& bs[i] := by
  refine (KMap.get_setMany_inside flashDefault s.flash a (s.programmed a bs) i
    (by rw [State.length_programmed]; exact h)).trans ?_
  simp only [State.programmed, List.getElem_zipWith, State.flashBytes, KMap.getElem_getMany]
  rfl

theorem State.flashAt_program_outside {a : Nat} (bs : List Byte) {b : Nat} (h : b < a ∨ a + bs.length ≤ b) :
    (s.flashProgramBytes a bs).flashAt b = s.flashAt b :=
  KMap.get_setMany_outside flashDefault s.flash (s.programmed a bs) (by rwa [State.length_programmed])

theorem State.flashAt_flashErase (a n b : Nat) :
    (s.flashErase a n).flashAt b = if a ≤ b ∧ b < a + n then 0xFF else s.flashAt b :=
  KMap.get_eraseRange flashDefault s.flash a (a + n) b

/-! ### The end of a command -/

/-- A repair that waited for the flash and starts changes neither the flash nor the engine. -/
theorem State.startWaiting_flash : s.startWaiting.flash = s.flash := by
  unfold State.startWaiting
  split
  · split <;> rfl
  · rfl

theorem State.startWaiting_cfg : s.startWaiting.cfg = s.cfg := by
  unfold State.startWaiting
  split
  · split <;> rfl
  · rfl

theorem State.startWaiting_result : s.startWaiting.get CFG_FLASH_CMD.result = s.get CFG_FLASH_CMD.result := by
  unfold State.startWaiting
  split
  · split
    · rfl
    · exact State.get_put_off _ _ (by decide)
  · rfl

/-- The state after a flash command that ended with `result`. -/
def State.afterFlash (s : State) (result : Nat) : State := (s.flashEnds result).startWaiting

theorem State.afterFlash_idle (result : Nat) : (s.afterFlash result).cfg.flash = none := by
  rw [State.afterFlash, State.startWaiting_cfg, State.flashEnds, State.raise_cfg]
  rfl

theorem State.afterFlash_result {result : Nat} (fits : result < 8) :
    (s.afterFlash result).get CFG_FLASH_CMD.result = result := by
  rw [State.afterFlash, State.startWaiting_result, State.flashEnds, State.get_raise_off _ _ _ _ _ _ _ (by decide),
    State.get_put_same _ _ (by decide)]
  exact Nat.mod_eq_of_lt fits

theorem State.afterFlash_flashAt (result a : Nat) : (s.afterFlash result).flashAt a = s.flashAt a := by
  rw [State.afterFlash, State.flashAt, State.startWaiting_flash, State.flashEnds, State.raise_flash]
  rfl

section
variable {bytes : List Byte} {c : FlashCmd} (busy : s.cfg.flash = some c)
include busy

theorem exec_flashCmdComplete_read (op : c.op = 0) :
    exec (.flashCmdComplete true bytes) s = .next ((s.toBuffer (s.flashBytes c.addr c.len)).afterFlash 1) := by
  show execFlashCmdComplete true bytes s = _
  simp only [execFlashCmdComplete, busy, op]
  rfl

theorem exec_flashCmdComplete_readFails (op : c.op = 0) :
    exec (.flashCmdComplete false bytes) s = .next (s.afterFlash 4) := by
  show execFlashCmdComplete false bytes s = _
  simp only [execFlashCmdComplete, busy, op]
  rfl

theorem exec_flashCmdComplete_program (op : c.op = 1) (all : bytes.length = c.len) :
    exec (.flashCmdComplete true bytes) s = .next ((s.flashProgramBytes c.addr bytes).afterFlash 1) := by
  show execFlashCmdComplete true bytes s = _
  simp only [execFlashCmdComplete, busy, op, ← all, List.take_length]
  rfl

theorem exec_flashCmdComplete_erase (op : 2 ≤ c.op) :
    exec (.flashCmdComplete true bytes) s = .next ((s.flashErase c.addr c.len).afterFlash 1) := by
  show execFlashCmdComplete true bytes s = _
  simp only [execFlashCmdComplete, busy]
  obtain ⟨n, more⟩ := Nat.exists_eq_add_of_le' op
  rw [more]
  rfl

end

/-! ### A write of CFG_FLASH_CMD -/

/-- The command that the flash registers ask for (R210): an erase begins at its sector's first byte. -/
def State.flashAsked (s : State) : FlashCmd :=
  let op := s.get CFG_FLASH_CMD.op
  let size := match op with | 2 => 4096 | 3 => 65536 | _ => s.get CFG_FLASH_CMD.length + 1
  let a := s.get CFG_FLASH_ADDR.v
  { op := op, addr := if op = 2 || op = 3 then a - a % size else a, len := size }

/-- A flash command under way. -/
def State.startFlash (s : State) (c : FlashCmd) : State := { s with cfg := { s.cfg with flash := some c } }

/-- Where no command and no load holds the flash and the power is good, a command is refused for its place or starts. -/
theorem State.writeFlashCmd_free {v : Word} (go : bit v 31 = true)
    (idle : (s.write CFG_FLASH_CMD.off v).cfg.flash = none)
    (noLoad : (s.write CFG_FLASH_CMD.off v).flashLoading = false)
    (power : (s.write CFG_FLASH_CMD.off v).is FLT_STAT.pfw = false)
    (known : (s.write CFG_FLASH_CMD.off v).get CFG_FLASH_CMD.op ≤ 3) :
    let u := s.write CFG_FLASH_CMD.off v
    s.writeFlashCmd v = if u.get CFG_FLASH_CMD.op ≠ 0 && decide (u.flashAsked.addr < u.protectedEnd)
        && !u.is CFG_FLASH_CTRL.golden_unlock then u.put CFG_FLASH_CMD.result 3
      else u.startFlash u.flashAsked := by
  intro u
  show (if !bit v 31 then u else if u.cfg.flash.isSome || u.flashLoading
      || (u.get CFG_FLASH_CMD.op ≠ 0 && u.is FLT_STAT.pfw) then u.put CFG_FLASH_CMD.result 2
    else if 3 < u.get CFG_FLASH_CMD.op then u.flashEnds 4 else _) = _
  rw [if_neg (by simp [go]), if_neg (by simp [u, noLoad, power]; exact idle), if_neg (Nat.not_lt.2 known)]
  rfl

theorem State.writeFlashCmd_busy {v : Word} (go : bit v 31 = true)
    (busy : (s.write CFG_FLASH_CMD.off v).cfg.flash.isSome = true) :
    s.writeFlashCmd v = (s.write CFG_FLASH_CMD.off v).put CFG_FLASH_CMD.result 2 := by
  unfold State.writeFlashCmd
  dsimp only
  rw [if_neg (by simp [go]), if_pos (by rw [busy]; rfl)]

theorem State.flashAsked_plain {s : State} (op : s.get CFG_FLASH_CMD.op < 2) : s.flashAsked =
    { op := s.get CFG_FLASH_CMD.op, addr := s.get CFG_FLASH_ADDR.v, len := s.get CFG_FLASH_CMD.length + 1 } := by
  unfold State.flashAsked
  generalize s.get CFG_FLASH_CMD.op = o at op ⊢
  match o, op with
  | 0, _ => rfl
  | 1, _ => rfl

theorem State.flashAsked_erase4k {s : State} (op : s.get CFG_FLASH_CMD.op = 2) : s.flashAsked =
    { op := 2, addr := s.get CFG_FLASH_ADDR.v - s.get CFG_FLASH_ADDR.v % 4096, len := 4096 } := by
  simp [State.flashAsked, op]

theorem State.flashAsked_erase64k {s : State} (op : s.get CFG_FLASH_CMD.op = 3) : s.flashAsked =
    { op := 3, addr := s.get CFG_FLASH_ADDR.v - s.get CFG_FLASH_ADDR.v % 65536, len := 65536 } := by
  simp [State.flashAsked, op]

/-! ### The statement -/

/-- Settles O35: a go bit by the branch that the flash's state opens, a completed command by the bytes that its one
write of the flash leaves. -/
theorem flashCommandsComplete : Obligations.FlashCommandsComplete := by
  unfold Obligations.FlashCommandsComplete
  refine ⟨fun s v => ⟨rfl, rfl, rfl, rfl⟩,
    fun s v go => ⟨State.writeFlashCmd_busy go, fun idle noLoad power => ?starts⟩,
    fun s bytes c busy op all => ⟨_, exec_flashCmdComplete_program busy op all, State.afterFlash_idle 1,
      State.afterFlash_result (by decide), fun i h => ?inside, fun a outside => ?outside⟩,
    fun s bytes c busy op => ⟨_, exec_flashCmdComplete_erase busy op, State.afterFlash_idle 1,
      State.afterFlash_result (by decide), fun a => ?erased⟩,
    fun s bytes c busy op => ⟨exec_flashCmdComplete_read busy op, exec_flashCmdComplete_readFails busy op⟩⟩
  case starts =>
    have free := State.writeFlashCmd_free go idle noLoad power
    dsimp only at free ⊢
    generalize s.write CFG_FLASH_CMD.off v = u at free ⊢
    refine ⟨fun op => ?_, fun op low locked => ?_, fun op high => ?_, fun op high => ?_, fun op high => ?_⟩
    · rw [free (by omega), if_neg (by simp [op]), State.flashAsked_plain (by omega), op]
      rfl
    · rw [free (by omega), State.flashAsked_plain (by omega), if_pos (by simp [op, low, locked])]
    · rw [free (by omega), State.flashAsked_plain (by omega), if_neg (by simp [high]), op]
      rfl
    · rw [free (by omega), State.flashAsked_erase4k op, if_neg (by simp [high])]
      rfl
    · rw [free (by omega), State.flashAsked_erase64k op, if_neg (by simp [high])]
      rfl
  case inside =>
    rw [State.afterFlash_flashAt]
    exact State.flashAt_program_inside c.addr bytes h
  case outside =>
    rw [State.afterFlash_flashAt]
    exact State.flashAt_program_outside bytes (all ▸ outside)
  case erased =>
    rw [State.afterFlash_flashAt]
    exact State.flashAt_flashErase c.addr c.len a

end Sys2Proof.Machine
end

section
/-! The bulk clear of a full load (R228): it leaves every frame and every word of memory zero; in canonical form it leaves
the registers outside the regions, and out of it the statement on loads fails. -/

namespace Sys2Proof.Machine

open Reg

/-- A canonical map reads as before at a number whose value `f` leaves. -/
theorem KMap.get_mapEntries_kept {α : Type} [DecidableEq α] (d : Nat → α) (f : Nat → α → α) {k : Nat}
    (kept : ∀ v, f k v = v) {lo : Nat} {m : KMap α} (wf : KMap.wfFrom d lo m) :
    (m.mapEntries d f).get d k = m.get d k := by
  induction m generalizing lo with
  | nil => rfl
  | cons e m ih =>
    obtain ⟨a, v⟩ := e
    simp only [KMap.wfFrom, Bool.and_eq_true] at wf
    obtain ⟨-, rest⟩ := wf
    have later := ih rest
    by_cases here : k = a
    · subst here
      have unlisted : KMap.get d m k = d k := KMap.get_of_lt d rest (Nat.lt_succ_self k)
      simp only [KMap.mapEntries, KMap.get, if_true, kept]
      split_ifs with dropped
      · rw [later, unlisted, dropped]
      · simp [KMap.get]
    · simp only [KMap.mapEntries, KMap.get, if_neg here]
      split_ifs
      · exact later
      · simp only [KMap.get, if_neg here, later]

section
variable {s : State}

theorem State.domOpen_region (opened : s.allOpen = true) {r : Nat} (hr : r < 240) : s.domOpen (regionDom r) = true := by
  have member : regionDom r ∈ allDoms := by
    simp only [allDoms, List.mem_append, List.mem_map, List.mem_range]
    exact Or.inl (Or.inl (Or.inl (Or.inl ⟨r, hr, rfl⟩)))
  exact List.all_eq_true.1 opened _ member

/-- Once every domain is OPEN the bulk clear leaves no frame. -/
theorem State.frame_bulkClear (opened : s.allOpen = true) (plane : Bool) {a : Nat} (exist : frameExists a = true) :
    s.bulkClear.frame plane a = 0 := by
  simp only [frameExists, Bool.and_eq_true, decide_eq_true_eq] at exist
  obtain ⟨⟨⟨⟨-, below⟩, row⟩, -⟩, -⟩ := exist
  have address : planeKey plane a % 2 ^ 32 = a := by
    cases plane <;> simp only [planeKey, Bool.toNat_false, Bool.toNat_true] <;> omega
  refine (KMap.get_filterKeys frameDefault s.planes (fun k =>
    decide (faCol (k % 2 ^ 32) < 1164) && !s.domOpen (regionDom (faRegion (k % 2 ^ 32)))) _).trans (if_neg ?_)
  rw [address]
  by_cases logic : faCol a < 1164
  · rw [State.domOpen_region opened (by unfold faRegion; omega)]
    simp
  · simp [logic]

/-- In canonical form the bulk clear leaves every register outside the regions. -/
theorem State.word_bulkClear (wf : s.regs.wf resetWord) {o : Nat} (outside : o < pageRGN 0 ∨ pageRGN 240 ≤ o) :
    s.bulkClear.word o = s.word o :=
  KMap.get_mapEntries_kept resetWord _ (fun _ => if_neg (by
    simp only [Bool.and_eq_true, decide_eq_true_eq]
    omega)) wf

section
variable {l : CfgLoad} (load : s.cfg.load = some l) (phase : l.phase = .clearing) (opened : s.allOpen = true)
  (closed : ∀ q < 120, s.portState (quayPort q) = 2)
include load phase opened closed

theorem exec_bulkClearComplete_clears :
    exec .bulkClearComplete s = .next (s.bulkClear.setLoad { l with phase := .system }) := by
  have ports : ((List.range 120).all fun q => decide (s.portState (quayPort q) = 2)) = true := by
    simpa using closed
  show execBulkClearComplete s = _
  simp only [execBulkClearComplete, load]
  rw [if_neg (by rw [phase, opened, ports]; decide)]

/-- The statement's clause on the bulk clear holds where the registers stand in canonical form. -/
theorem exec_bulkClearComplete_of_wf (wf : s.regs.wf resetWord) :
    ∃ t, exec .bulkClearComplete s = .next t ∧ t.cfg = { s.cfg with load := some { l with phase := .system } }
      ∧ t.mem.words = [] ∧ (∀ plane a, frameExists a = true → t.frame plane a = 0)
      ∧ (∀ o, (o < pageRGN 0 ∨ pageRGN 240 ≤ o) → t.word o = s.word o) :=
  ⟨_, exec_bulkClearComplete_clears load phase opened closed, rfl, rfl,
    fun plane _ exist => State.frame_bulkClear opened plane exist, fun _ outside => State.word_bulkClear wf outside⟩

end

end

/-- A full load that waits for its bulk clear. -/
def clearingLoad : CfgLoad := { source := .host, phase := .clearing }

/-- A state with every domain OPEN, every quay port CLOSED and a load that clears, where CFG_PROGRESS is listed twice: it
reads as the first entry, zero. -/
def progressListedTwice : State :=
  { State.reset with
    regs := (CFG_PROGRESS.off, 0) :: (CFG_PROGRESS.off, 1) :: (List.range 120).map fun q =>
      (NOC_RTR_PORT.off (portRouter (quayPort q)) (portLocal (quayPort q)), 0x80000000)
    cfg := { State.reset.cfg with load := some clearingLoad } }

/-- Refutes O33: its clause on the bulk clear holds of every state, canonical or not. In `progressListedTwice` the first
entry of CFG_PROGRESS, a register outside the regions, is as an unlisted one reads and disappears, so the register goes
from 0 to 1. In canonical form the clause holds (`exec_bulkClearComplete_of_wf`). -/
theorem not_configurationLoadsComplete : ¬ Obligations.ConfigurationLoadsComplete := by
  unfold Obligations.ConfigurationLoadsComplete
  rintro ⟨-, -, -, -, clears, -⟩
  have opened : progressListedTwice.allOpen = true := by decide +kernel
  have closed : ∀ q < 120, progressListedTwice.portState (quayPort q) = 2 := by decide +kernel
  have before : progressListedTwice.word CFG_PROGRESS.off = 0 := by decide +kernel
  have after : progressListedTwice.bulkClear.word CFG_PROGRESS.off = 1 := by decide +kernel
  obtain ⟨t, run, -, -, -, outside⟩ := clears progressListedTwice clearingLoad rfl rfl opened closed
  rw [exec_bulkClearComplete_clears rfl rfl opened closed] at run
  obtain rfl := Host.Outcome.next.inj run
  exact absurd (after.symm.trans ((outside CFG_PROGRESS.off (by decide)).trans before)) (by decide)

end Sys2Proof.Machine
end

section
/-! The registers and the state of a stall under the operations that its commands share: a field stored, a result, the
shadow, and what tasks that return leave of them (R242 to R248, R254, R424). -/

namespace Sys2Proof.Machine

open Reg

/-! ### What a stall keeps beyond its registers -/

theorem State.stall_of_stalls {s t : State} (h : t.stalls = s.stalls) (n : Nat) : t.stall n = s.stall n := by
  rw [State.stall, h, State.stall]

section
variable (s : State) (n : Nat)

@[simp] theorem State.stall_setStall_same (v : StallState) : (s.setStall n v).stall n = v := KMap.get_set_same ..
@[simp] theorem State.stall_put (f : Field) (v : Nat) : (s.put f v).stall n = s.stall n :=
  State.stall_of_stalls rfl n
@[simp] theorem State.word_setStall (v : StallState) (o : Nat) : (s.setStall n v).word o = s.word o :=
  State.word_of_regs rfl o
@[simp] theorem State.get_setStall (v : StallState) (f : Field) : (s.setStall n v).get f = s.get f :=
  State.get_of_regs rfl f

end

/-- `t` differs from `s` at most in its registers and in what its stalls keep beyond them. -/
def State.OnlyStalls (s t : State) : Prop := t = { s with regs := t.regs, stalls := t.stalls }

theorem State.OnlyStalls.refl (s : State) : s.OnlyStalls s := rfl

section
variable {s t : State} (only : s.OnlyStalls t)
include only

theorem State.OnlyStalls.put (f : Field) (v : Nat) : s.OnlyStalls (t.put f v) := by
  unfold State.OnlyStalls at *
  rw [only]
  rfl

theorem State.OnlyStalls.setStall (n : Nat) (v : StallState) : s.OnlyStalls (t.setStall n v) := by
  unfold State.OnlyStalls at *
  rw [only]
  rfl

end

/-! ### Registers that several stores leave -/

theorem State.SameRegs.refl (s : State) (os : List Nat) : s.SameRegs s os := fun _ _ => rfl

section
variable {s t : State} {os : List Nat} (same : s.SameRegs t os)
include same

theorem State.SameRegs.put {f : Field} (mem : f.off ∈ os) (v : Nat) : s.SameRegs (t.put f v) os := fun o ho =>
  (t.word_put_ne v (ne_of_mem_of_not_mem mem ho).symm).trans (same o ho)

theorem State.SameRegs.setStall (n : Nat) (v : StallState) : s.SameRegs (t.setStall n v) os := fun o ho =>
  (t.word_setStall n v o).trans (same o ho)

theorem State.SameRegs.get_eq {f : Field} (apart : f.off ∉ os) : t.get f = s.get f := by
  rw [State.get, same _ apart, State.get]

end

/-! ### The shadow -/

section
variable (s : State) (n : Nat)

/-- The registers after the shadow's state is set: STL_STAT and what SCB_STAT shows of refills. -/
theorem State.regs_setShadow (v : Nat) : (s.setShadow n v).regs
    = ((s.put (STL_STAT.shadow n) v).put SCB_STAT.refill_active (s.put (STL_STAT.shadow n) v).refilling.toNat).regs := by
  unfold State.setShadow
  dsimp only
  split <;> rfl

theorem State.get_setShadow (v : Nat) (f : Field) : (s.setShadow n v).get f
    = ((s.put (STL_STAT.shadow n) v).put SCB_STAT.refill_active (s.put (STL_STAT.shadow n) v).refilling.toNat).get f :=
  State.get_of_regs (s.regs_setShadow n v) f

variable {s} in
theorem State.SameRegs.setShadow {n : Nat} {t : State} {os : List Nat} (same : s.SameRegs t os) (stat : STL_STAT.off n ∈ os)
    (scrub : SCB_STAT.off ∈ os) (v : Nat) : s.SameRegs (t.setShadow n v) os := fun o ho => by
  rw [State.word_of_regs (t.regs_setShadow n v) o]
  exact ((same.put (f := STL_STAT.shadow n) stat v).put (f := SCB_STAT.refill_active) scrub _) o ho

variable {s} in
theorem State.OnlyStalls.setShadow {t : State} (only : s.OnlyStalls t) (n v : Nat) : s.OnlyStalls (t.setShadow n v) := by
  unfold State.setShadow
  dsimp only
  split
  · exact (only.put _ _).put _ _
  · exact ((only.put _ _).setStall _ _).put _ _

/-- A stall whose shadow refills is seen as one. -/
theorem State.refilling_of_shadow (hn : n < 64) (refills : s.get (STL_STAT.shadow n) = 4) : s.refilling = true :=
  List.any_eq_true.2 ⟨n, List.mem_range.2 hn, decide_eq_true refills⟩

end

section
variable (s : State) (n : Nat)

theorem State.stall_setShadow_of_ne {v : Nat} (h : v ≠ 4) :
    (s.setShadow n v).stall n = { s.stall n with refill := none } := by
  unfold State.setShadow
  dsimp only
  rw [if_neg h, State.stall_put, State.stall_setStall_same, State.stall_put]

/-! ### The answer to a command -/

theorem State.get_cmd_cmdAccepted : (s.cmdAccepted n).get (STL_RES.cmd n) = 1 := by
  rw [State.cmdAccepted, State.get_put_apart _ _ (by simp [STL_RES.cmd]) (by simp [STL_RES.cmd, STL_RES.reason]),
    State.get_put_same _ _ (by simp [STL_RES.cmd])]
  simp [STL_RES.cmd]

theorem State.get_swap_cmdAccepted : (s.cmdAccepted n).get (STL_RES.swap n) = s.get (STL_RES.swap n) := by
  rw [State.cmdAccepted, State.get_put_apart _ _ (by simp [STL_RES.swap]) (by simp [STL_RES.swap, STL_RES.reason]),
    State.get_put_apart _ _ (by simp [STL_RES.swap]) (by simp [STL_RES.swap, STL_RES.cmd])]

theorem State.sameRegs_cmdAccepted : s.SameRegs (s.cmdAccepted n) [STL_RES.off n] :=
  (s.sameRegs_put (STL_RES.cmd n) 1).put (f := STL_RES.reason n) List.mem_cons_self 0

@[simp] theorem State.stall_cmdAccepted : (s.cmdAccepted n).stall n = s.stall n :=
  State.stall_of_stalls rfl n

/-! ### Tasks that return -/

/-- A task that returns changes no register below the scheduler's pages. -/
theorem State.word_returnOne {o : Nat} (below : o < pageTS0) (k : Nat) : (s.returnOne k).word o = s.word o := by
  have task : o ≠ (taskState k).off := by simp only [taskState, TS_TASK.off, pageTS0] at *; omega
  have depth (g : Nat) : o ≠ (TS_DEPTH.v g).off := by simp only [TS_DEPTH.v, TS_DEPTH.off, pageTS0] at *; omega
  have abandon : o ≠ TS_ABANDON.v.off := by simp only [TS_ABANDON.v, TS_ABANDON.off, pageTS0] at *; omega
  have logged : o ∉ [EVT.off pageTS0, EVT_CNT.off pageTS0, ERR_INFO0.off pageTS0, ERR_INFO1.off pageTS0, FLT_DROP.off,
      EVT.off pageFLT, EVT_CNT.off pageFLT] := by
    simp only [pageTS0, pageFLT, EVT.off, EVT_CNT.off, ERR_INFO0.off, ERR_INFO1.off, FLT_DROP.off, List.mem_cons,
      List.not_mem_nil, or_false] at *
    omega
  unfold State.returnOne
  split
  · rfl
  · refine (State.word_raise_ne _ _ _ _ _ _ _ logged).trans ((State.word_count_ne _ abandon).trans ?_)
    exact (State.word_put_ne _ _ (depth _)).trans (State.word_put_ne _ _ task)

theorem State.word_returnTasks {o : Nat} (below : o < pageTS0) (g : Nat) : (s.returnTasks g).word o = s.word o :=
  State.each_keeps (State.word · o) s _ _ fun t k => t.word_returnOne below k

theorem State.get_returnTasks {f : Field} (below : f.off < pageTS0) (g : Nat) : (s.returnTasks g).get f = s.get f := by
  rw [State.get, s.word_returnTasks below, State.get]

end

end Sys2Proof.Machine
end

section
/-! Commands of stalls (R242 to R248, R253, R254, R260, R266, R267, R277, R279). -/

namespace Sys2Proof.Machine

open Reg

/-! ### Why a define is refused (R242) -/

section
variable {s : State} {n : Nat}

/-- A rectangle that covers a column of a row is used. -/
theorem State.rectCovers_iff {j col cy : Nat} : s.rectCovers n j col cy = true ↔
    s.rectUsed n j = true ∧ s.get (STL_RECT.c0 n j) ≤ col ∧ col ≤ s.get (STL_RECT.c1 n j)
      ∧ s.get (STL_RECT.y0 n j) ≤ cy ∧ cy ≤ s.get (STL_RECT.y1 n j) := by
  simp [State.rectCovers, and_assoc]

theorem State.stallCovers_iff {col cy : Nat} :
    s.stallCovers n col cy = true ↔ ∃ j < 4, s.rectCovers n j col cy = true := by
  simp [State.stallCovers]

/-- Rectangles that cover the same column of the same row share it. -/
theorem State.rectsMeet_of_covers {j m k col cy : Nat} (mine : s.rectCovers n j col cy = true)
    (other : s.rectCovers m k col cy = true) : s.rectsMeet n j m k = true := by
  obtain ⟨usedMine, c0, c1, y0, y1⟩ := State.rectCovers_iff.1 mine
  obtain ⟨usedOther, d0, d1, z0, z1⟩ := State.rectCovers_iff.1 other
  simp only [State.rectsMeet, usedMine, usedOther, Bool.and_eq_true, decide_eq_true_eq, true_and]
  omega

theorem State.rectUsed_of_rectsMeet {j m k : Nat} (meet : s.rectsMeet n j m k = true) : s.rectUsed n j = true := by
  simp only [State.rectsMeet, Bool.and_eq_true] at meet
  exact meet.1.1.1.1.1

variable (s n)

/-- The rectangles that stall `n` uses. -/
def State.usedRects : List Nat := (List.range 4).filter fun j => s.rectUsed n j

/-- Whether stall `n` overlaps itself or another defined stall (R242, OVERLAP). -/
def State.overlaps : Bool :=
  (s.usedRects n).any fun j => ((s.usedRects n).any fun k => decide (j ≠ k) && s.rectsMeet n j n k)
    || (List.range 64).any fun m => decide (m ≠ n) && decide (s.stallState m ≠ 0)
      && (List.range 4).any fun k => s.rectsMeet n j m k

theorem State.mem_usedRects {j : Nat} : j ∈ s.usedRects n ↔ j < 4 ∧ s.rectUsed n j = true := by
  simp [State.usedRects]

variable {s n}

theorem State.overlaps_of_rectsMeet {m j k : Nat} (hm : m < 64) (ne : m ≠ n) (hj : j < 4) (hk : k < 4)
    (defined : s.stallState m ≠ 0) (meet : s.rectsMeet n j m k = true) : s.overlaps n = true := by
  have used : j ∈ s.usedRects n := (s.mem_usedRects n).2 ⟨hj, State.rectUsed_of_rectsMeet meet⟩
  refine List.any_eq_true.2 ⟨j, used, Bool.or_eq_true_iff.2 (Or.inr ?_)⟩
  refine List.any_eq_true.2 ⟨m, List.mem_range.2 hm, ?_⟩
  simp only [ne, defined, ne_eq, not_false_eq_true, decide_true, Bool.true_and, List.any_eq_true, List.mem_range]
  exact ⟨k, hk, meet⟩

/-- The first reasons in the order of the table, and the split of the others (R242). -/
theorem State.defineRefusal_of_used (h : s.stallState n ≠ 0) : s.defineRefusal n = some 6 := by
  unfold State.defineRefusal
  exact if_pos h

theorem State.defineRefusal_of_badRect (free : s.stallState n = 0)
    (bad : ((s.usedRects n).isEmpty || (s.usedRects n).any fun j => s.rectBad n j) = true) :
    s.defineRefusal n = some 1 := by
  unfold State.defineRefusal
  exact (if_neg (not_not.2 free)).trans (if_pos bad)

theorem State.defineRefusal_of_overlap (free : s.stallState n = 0)
    (good : ((s.usedRects n).isEmpty || (s.usedRects n).any fun j => s.rectBad n j) = false)
    (overlap : s.overlaps n = true) : s.defineRefusal n = some 2 := by
  unfold State.defineRefusal
  refine (if_neg (not_not.2 free)).trans ((if_neg ?_).trans (if_pos overlap))
  exact Bool.not_eq_true _ ▸ good

/-- A free stall is never refused as used. -/
theorem State.defineRefusal_ne_used (free : s.stallState n = 0) : s.defineRefusal n ≠ some 6 := by
  unfold State.defineRefusal
  dsimp only
  rw [if_neg (not_not.2 free)]
  split_ifs <;> simp

/-- What a define that is not refused has met. -/
theorem State.of_defineRefusal_none (fits : s.defineRefusal n = none) : s.stallState n = 0
    ∧ (∀ j ∈ s.usedRects n, s.rectBad n j = false) ∧ s.overlaps n = false
    ∧ ∀ r ∈ s.stallRegions n, s.domOpen (regionDom r) = true := by
  unfold State.defineRefusal at fits
  dsimp only at fits
  split_ifs at fits with used bad overlap split spine closed
  simp only [Bool.or_eq_true, not_or, Bool.not_eq_true] at bad
  obtain ⟨-, rects⟩ := bad
  refine ⟨not_not.1 used, fun j hj => Bool.eq_false_of_not_eq_true (List.any_eq_false.1 rects j hj),
    Bool.eq_false_of_not_eq_true overlap, fun r hr => ?_⟩
  have region := List.any_eq_false.1 (Bool.eq_false_of_not_eq_true closed) r hr
  simpa using region

theorem State.defineRefusal_used_iff : s.stallState n ≠ 0 ↔ s.defineRefusal n = some 6 :=
  ⟨State.defineRefusal_of_used, fun refused free => State.defineRefusal_ne_used free refused⟩

theorem State.defineRefusal_of_noRect (free : s.stallState n = 0) (unused : ∀ j < 4, s.rectUsed n j = false) :
    s.defineRefusal n = some 1 := by
  have noneUsed : s.usedRects n = [] := List.filter_eq_nil_iff.2 fun j hj => by
    simp [unused j (List.mem_range.1 hj)]
  exact State.defineRefusal_of_badRect free (by rw [noneUsed]; rfl)

/-- An overlap is refused as one, unless a rectangle is malformed. -/
theorem State.defineRefusal_of_rectsMeet {m j k : Nat} (hm : m < 64) (ne : m ≠ n) (hj : j < 4) (hk : k < 4)
    (free : s.stallState n = 0) (defined : s.stallState m ≠ 0) (meet : s.rectsMeet n j m k = true) :
    s.defineRefusal n = some 1 ∨ s.defineRefusal n = some 2 := by
  rcases bad : (s.usedRects n).isEmpty || (s.usedRects n).any fun j => s.rectBad n j with _ | _
  · exact Or.inr (State.defineRefusal_of_overlap free bad (State.overlaps_of_rectsMeet hm ne hj hk defined meet))
  · exact Or.inl (State.defineRefusal_of_badRect free bad)

section
variable (fits : s.defineRefusal n = none)
include fits

/-- A stall that a define accepts shares no place with another defined stall. -/
theorem State.not_stallCovers_of_fits {m col cy : Nat} (hm : m < 64) (ne : m ≠ n) (defined : s.stallState m ≠ 0)
    (mine : s.stallCovers n col cy = true) : s.stallCovers m col cy = false := by
  obtain ⟨-, -, apart, -⟩ := State.of_defineRefusal_none fits
  refine Bool.eq_false_of_not_eq_true fun other => ?_
  obtain ⟨j, hj, coversMine⟩ := State.stallCovers_iff.1 mine
  obtain ⟨k, hk, coversOther⟩ := State.stallCovers_iff.1 other
  have meet := State.rectsMeet_of_covers coversMine coversOther
  exact absurd (State.overlaps_of_rectsMeet hm ne hj hk defined meet) (Bool.eq_false_iff.1 apart)

/-- A stall that a define accepts lies in the fabric. -/
theorem State.inFabric_of_fits {col cy : Nat} (covers : s.stallCovers n col cy = true) : col ≤ 1163 ∧ cy ≤ 19 := by
  obtain ⟨-, good, -, -⟩ := State.of_defineRefusal_none fits
  obtain ⟨j, hj, rect⟩ := State.stallCovers_iff.1 covers
  obtain ⟨used, -, right, -, top⟩ := State.rectCovers_iff.1 rect
  have fine := good j ((s.mem_usedRects n).2 ⟨hj, used⟩)
  simp only [State.rectBad, Bool.or_eq_false_iff, decide_eq_false_iff_not, Nat.not_lt] at fine
  obtain ⟨⟨⟨-, inColumns⟩, -⟩, inRows⟩ := fine
  exact ⟨right.trans inColumns, top.trans inRows⟩

/-- Every region of a stall that a define accepts is OPEN. -/
theorem State.domOpen_of_fits {col cy : Nat} (covers : s.stallCovers n col cy = true) :
    s.domOpen (regionDom (12 * cy + col / 97)) = true := by
  obtain ⟨-, -, -, opened⟩ := State.of_defineRefusal_none fits
  obtain ⟨inColumns, inRows⟩ := State.inFabric_of_fits fits covers
  have column : 97 * ((12 * cy + col / 97) % 12) + col % 97 = col := by omega
  have row : (12 * cy + col / 97) / 12 = cy := by omega
  refine opened _ (List.mem_filter.2 ⟨List.mem_range.2 (by omega), ?_⟩)
  exact List.any_eq_true.2 ⟨col % 97, List.mem_range.2 (Nat.mod_lt _ (by decide)), by rwa [column, row]⟩

end

end

/-! ### What an accepted command leaves -/

section
variable (s : State) (n : Nat)

/-- A stall that a define accepts, before the answer: RUNNING with its shadow a mirror, and nothing pending (R246). -/
def State.definedStall : State :=
  let u := (((s.put (STL_STAT.state n) 1).put (STL_STAT.plane n) 0).put (STL_STAT.active_valid n) 1).put
    (STL_STAT.ue_held n) 0
  let u := ((u.setShadow n 5).put (STL_STAT.content_pending n) 0).setStall n {}
  (u.swapResult n 0).put (STL_SWAPS.v n) 0

theorem State.defineStall_fits (fits : s.defineRefusal n = none) : s.defineStall n = (s.definedStall n).cmdAccepted n := by
  simp only [State.defineStall, fits]
  rfl

theorem State.get_definedStall : let t := s.definedStall n
    t.stallState n = 1 ∧ t.get (STL_STAT.plane n) = 0 ∧ t.get (STL_STAT.active_valid n) = 1
      ∧ t.get (STL_STAT.shadow n) = 5 ∧ t.get (STL_SWAPS.v n) = 0 := by
  simp (disch := (dsimp only [STL_STAT.state, STL_STAT.plane, STL_STAT.active_valid, STL_STAT.shadow, STL_STAT.ue_held,
      STL_STAT.content_pending, STL_STAT.off, STL_RES.swap, STL_RES.off, STL_SWAPS.v, STL_SWAPS.off,
      SCB_STAT.refill_active, SCB_STAT.off]; omega)) only
    [State.definedStall, State.stallState, State.swapResult, State.get_setStall, State.get_setShadow,
      State.get_put_same, State.get_put_apart, State.get_put_off]
  simp [STL_STAT.state, STL_STAT.plane, STL_STAT.active_valid, STL_STAT.shadow, STL_SWAPS.v]

theorem State.sameRegs_definedStall :
    s.SameRegs (s.definedStall n) [STL_STAT.off n, STL_SWAPS.off n, STL_RES.off n, SCB_STAT.off] := by
  have stat : STL_STAT.off n ∈ [STL_STAT.off n, STL_SWAPS.off n, STL_RES.off n, SCB_STAT.off] := by simp
  have swaps : STL_SWAPS.off n ∈ [STL_STAT.off n, STL_SWAPS.off n, STL_RES.off n, SCB_STAT.off] := by simp
  have res : STL_RES.off n ∈ [STL_STAT.off n, STL_SWAPS.off n, STL_RES.off n, SCB_STAT.off] := by simp
  have status : s.SameRegs _ [STL_STAT.off n, STL_SWAPS.off n, STL_RES.off n, SCB_STAT.off] :=
    ((((State.SameRegs.refl s _).put (f := STL_STAT.state n) stat 1).put (f := STL_STAT.plane n) stat 0).put
      (f := STL_STAT.active_valid n) stat 1).put (f := STL_STAT.ue_held n) stat 0
  have shadow := (status.setShadow stat (by simp) 5).put (f := STL_STAT.content_pending n) stat 0
  exact ((shadow.setStall n {}).put (f := STL_RES.swap n) res 0).put (f := STL_SWAPS.v n) swaps 0

theorem State.onlyStalls_definedStall : s.OnlyStalls (s.definedStall n) := by
  have status := ((((State.OnlyStalls.refl s).put (STL_STAT.state n) 1).put (STL_STAT.plane n) 0).put
    (STL_STAT.active_valid n) 1).put (STL_STAT.ue_held n) 0
  have shadow := ((status.setShadow n 5).put (STL_STAT.content_pending n) 0).setStall n {}
  exact (shadow.put (STL_RES.swap n) 0).put (STL_SWAPS.v n) 0

theorem State.stall_definedStall : (s.definedStall n).stall n = {} := by
  simp only [State.definedStall, State.swapResult, State.stall_put, State.stall_setStall_same]

end

section
variable (s : State) (n : Nat)

theorem State.undefineStall_accepted (running : s.stallState n = 1) (mirrors : s.get (STL_STAT.shadow n) = 5) :
    ∃ u : State, s.undefineStall n = ((((u.setStall n {}).put (STL_STAT.state n) 0).put (STL_STAT.plane n) 0).put
      (STL_STAT.ue_held n) 0).cmdAccepted n := by
  unfold State.undefineStall
  dsimp only
  rw [if_neg (by simp [running, mirrors])]
  exact ⟨_, rfl⟩

theorem State.undefineStall_refused (other : s.get (STL_STAT.shadow n) ≠ 5) : s.undefineStall n = s.cmdRefused n 6 := by
  unfold State.undefineStall
  dsimp only
  rw [if_pos (by simp [other])]

/-! ### Swap requests (R253, R254) -/

theorem State.commandSwap_refused {timed clk : Bool} {code : Nat} (refused : s.swapRefusal n timed clk = some code) :
    s.commandSwap n timed clk = ((s.swapResult n code).stallEvent n true INFO 0x0803 code).cmdRefused n 0 := by
  simp only [State.commandSwap, State.requestSwap, refused]
  rfl

theorem State.commandSwap_immediate {clk : Bool} (fits : s.swapRefusal n false clk = none) : s.commandSwap n false clk
    = ((s.swapResult n 12).beginDrain n { timed := false, fromReset := decide (s.stallState n = 6) }).cmdAccepted n := by
  simp only [State.commandSwap, State.requestSwap, fits]
  rfl

theorem State.getWide_of_same {t : State} {off k : Nat} (same : ∀ i < k, t.word (off + 4 * i) = s.word (off + 4 * i)) :
    t.getWide off k = s.getWide off k := by
  induction k with
  | zero => rfl
  | succ k ih =>
    rw [State.getWide_succ, State.getWide_succ, ih fun i hi => same i (Nat.lt_succ_of_lt hi), same k k.lt_succ_self]

theorem State.swapTime_swapResult (code : Nat) : (s.swapResult n code).swapTime n = s.swapTime n := by
  refine congrArg (· % 2 ^ 80) (State.getWide_of_same s fun i hi => State.word_put_ne s _ ?_)
  simp only [STL_SWAP_T.off, STL_RES.swap, STL_RES.off]
  omega

theorem State.commandSwap_waits {clk : Bool} (fits : s.swapRefusal n true clk = none)
    (ahead : s.th.time.toNat + s.get (STL_DRAIN.lead_us n) * 65536000 < s.swapTime n) : s.commandSwap n true clk
    = (((s.swapResult n 12).put (STL_STAT.state n) 2).setStall n
        { s.stall n with swap := some { timed := true, fromReset := decide (s.stallState n = 6) } }).cmdAccepted n := by
  have lead : (s.swapResult n 12).get (STL_DRAIN.lead_us n) = s.get (STL_DRAIN.lead_us n) :=
    State.get_put_off s _ (by simp only [STL_DRAIN.lead_us, STL_DRAIN.off, STL_RES.swap, STL_RES.off]; omega)
  have notPast : ¬ (s.swapResult n 12).swapTime n ≤ (s.swapResult n 12).th.time.toNat := by
    rw [State.swapTime_swapResult]
    exact Nat.not_le.2 (Nat.lt_of_le_of_lt (Nat.le_add_right _ _) ahead)
  have notNear : ¬ (s.swapResult n 12).swapTime n ≤ (s.swapResult n 12).th.time.toNat
      + (s.swapResult n 12).get (STL_DRAIN.lead_us n) * usUnits := by
    rw [State.swapTime_swapResult, lead]
    exact Nat.not_le.2 ahead
  simp only [State.commandSwap, State.requestSwap, fits, Bool.not_true, Bool.false_eq_true, if_false, if_neg notPast,
    if_neg notNear, if_true]
  simp only [State.swapResult, State.stall_put]

end

/-! ### One command in STL_CMD (R279) -/

section
variable (s : State) (n : Nat) {v : Word} (clk : Bool)

theorem State.writeStlCmd_define (h : v.toNat / 2 ^ 23 = 256) : s.writeStlCmd n v clk = s.defineStall n := by
  simp only [State.writeStlCmd, h]

theorem State.writeStlCmd_undefine (h : v.toNat / 2 ^ 23 = 128) : s.writeStlCmd n v clk = s.undefineStall n := by
  simp only [State.writeStlCmd, h]

theorem State.writeStlCmd_swapNow (h : v.toNat / 2 ^ 23 = 64) : s.writeStlCmd n v clk = s.commandSwap n false clk := by
  simp only [State.writeStlCmd, h]

theorem State.writeStlCmd_swapAt (h : v.toNat / 2 ^ 23 = 32) : s.writeStlCmd n v clk = s.commandSwap n true clk := by
  simp only [State.writeStlCmd, h]

theorem State.writeStlCmd_cancel (h : v.toNat / 2 ^ 23 = 16) : s.writeStlCmd n v clk = s.cancelSwap n := by
  simp only [State.writeStlCmd, h]

theorem State.writeStlCmd_resetHold (h : v.toNat / 2 ^ 23 = 8) : s.writeStlCmd n v clk
    = if s.stallState n = 1 then (s.holdStall n).cmdAccepted n else s.cmdRefused n 6 := by
  simp only [State.writeStlCmd, h]

theorem State.writeStlCmd_resetRelease (h : v.toNat / 2 ^ 23 = 4) : s.writeStlCmd n v clk
    = if s.stallState n = 6 then (s.releaseStall n).cmdAccepted n else s.cmdRefused n 6 := by
  simp only [State.writeStlCmd, h]

theorem State.writeStlCmd_clear (h : v.toNat / 2 ^ 23 = 2) : s.writeStlCmd n v clk
    = if s.stallState n = 6 then (s.put (STL_STAT.state n) 7).cmdAccepted n else s.cmdRefused n 6 := by
  simp only [State.writeStlCmd, h]

theorem State.writeStlCmd_refill (h : v.toNat / 2 ^ 23 = 1) : s.writeStlCmd n v clk = s.commandRefill n := by
  simp only [State.writeStlCmd, h]

/-- A define and an undefine at once are no command. -/
theorem State.writeStlCmd_two (h : v.toNat / 2 ^ 23 = 384) : s.writeStlCmd n v clk = s.cmdRefused n 6 := by
  simp only [State.writeStlCmd, h]

end

/-! ### The commands -/

section
variable {s : State} {n : Fin 64} {v : Word}

section
variable (one : v.toNat / 2 ^ 23 = 256)
include one

theorem exec_define_refused {r : Nat} (refused : s.defineRefusal n = some r) :
    exec (.define n v) s = .next (s.cmdRefused n r) := by
  show Host.Outcome.next (s.writeStlCmd n v true) = _
  rw [State.writeStlCmd_define s n true one, State.defineStall, refused]

theorem exec_define_accepted (fits : s.defineRefusal n = none) : ∃ t, exec (.define n v) s = .next t
    ∧ t.stallState n = 1 ∧ t.get (STL_STAT.plane n) = 0 ∧ t.get (STL_STAT.active_valid n) = 1
    ∧ t.get (STL_STAT.shadow n) = 5 ∧ t.get (STL_SWAPS.v n) = 0 ∧ t.get (STL_RES.cmd n) = 1 ∧ t.stall n = {}
    ∧ s.SameRegs t [STL_STAT.off n, STL_SWAPS.off n, STL_RES.off n, SCB_STAT.off]
    ∧ t = { s with regs := t.regs, stalls := t.stalls } := by
  refine ⟨(s.definedStall n).cmdAccepted n, ?_, ?_⟩
  · show Host.Outcome.next (s.writeStlCmd n v true) = _
    rw [State.writeStlCmd_define s n true one, State.defineStall_fits s n fits]
  obtain ⟨state, plane, valid, shadow, swaps⟩ := s.get_definedStall n
  have kept {f : Field} (apart : f.off ≠ STL_RES.off n) :
      ((s.definedStall n).cmdAccepted n).get f = (s.definedStall n).get f :=
    (State.sameRegs_cmdAccepted _ n).get_eq (by simpa using apart)
  have stat : STL_STAT.off n ≠ STL_RES.off n := by simp only [STL_STAT.off, STL_RES.off]; omega
  have count : STL_SWAPS.off n ≠ STL_RES.off n := by simp only [STL_SWAPS.off, STL_RES.off]; omega
  refine ⟨(kept stat).trans state, (kept stat).trans plane, (kept stat).trans valid, (kept stat).trans shadow,
    (kept count).trans swaps, State.get_cmd_cmdAccepted _ n, ?_, ?_, ?_⟩
  · rw [State.stall_cmdAccepted, State.stall_definedStall]
  · exact ((s.sameRegs_definedStall n).trans (State.sameRegs_cmdAccepted _ n)).mono (by simp)
  · exact ((s.onlyStalls_definedStall n).put (STL_RES.cmd n) 1).put (STL_RES.reason n) 0

end

theorem exec_undefine_accepted (one : v.toNat / 2 ^ 23 = 128) (running : s.stallState n = 1)
    (mirrors : s.get (STL_STAT.shadow n) = 5) : ∃ t, exec (.undefine n v) s = .next t ∧ t.stallState n = 0
    ∧ t.get (STL_RES.cmd n) = 1 ∧ t.stall n = {} := by
  obtain ⟨u, undefined⟩ := State.undefineStall_accepted s n running mirrors
  refine ⟨_, congrArg Host.Outcome.next ((State.writeStlCmd_undefine s n true one).trans undefined), ?_,
    State.get_cmd_cmdAccepted _ n, ?_⟩
  · simp (disch := (dsimp only [STL_STAT.state, STL_STAT.plane, STL_STAT.ue_held, STL_STAT.off, STL_RES.cmd,
        STL_RES.reason, STL_RES.off]; omega)) only
      [State.stallState, State.cmdAccepted, State.get_put_same, State.get_put_apart]
    exact Nat.zero_mod _
  · rw [State.stall_cmdAccepted, State.stall_put, State.stall_put, State.stall_put, State.stall_setStall_same]

theorem exec_undefine_refused (one : v.toNat / 2 ^ 23 = 128) (other : s.get (STL_STAT.shadow n) ≠ 5) :
    exec (.undefine n v) s = .next (s.cmdRefused n 6) :=
  congrArg Host.Outcome.next
    ((State.writeStlCmd_undefine s n true one).trans (State.undefineStall_refused s n other))

theorem exec_swapAt_waits {clk : Bool} (one : v.toNat / 2 ^ 23 = 32) (fits : s.swapRefusal n true clk = none)
    (ahead : s.th.time.toNat + s.get (STL_DRAIN.lead_us n) * 65536000 < s.swapTime n) :
    ∃ t, exec (.swapAt n v clk) s = .next t ∧ t.stallState n = 2 ∧ t.get (STL_RES.swap n) = 12
      ∧ t.get (STL_RES.cmd n) = 1
      ∧ t.stall n = { s.stall n with swap := some { timed := true, fromReset := decide (s.stallState n = 6) } }
      ∧ s.SameRegs t [STL_STAT.off n, STL_RES.off n] := by
  refine ⟨_, congrArg Host.Outcome.next
    ((State.writeStlCmd_swapAt s n clk one).trans (State.commandSwap_waits s n fits ahead)), ?_, ?_,
    State.get_cmd_cmdAccepted _ _, ?_, ?_⟩
  · simp (disch := (dsimp only [STL_STAT.state, STL_STAT.off, STL_RES.cmd, STL_RES.reason, STL_RES.off]; omega)) only
      [State.stallState, State.cmdAccepted, State.get_setStall, State.get_put_same, State.get_put_off]
    simp [STL_STAT.state]
  · rw [State.get_swap_cmdAccepted, State.get_setStall, State.swapResult]
    simp (disch := (dsimp only [STL_STAT.state, STL_STAT.off, STL_RES.swap, STL_RES.off]; omega)) only
      [State.get_put_same, State.get_put_off]
    simp [STL_RES.swap]
  · rw [State.stall_cmdAccepted, State.stall_setStall_same]
  · have stat : STL_STAT.off n ∈ [STL_STAT.off n, STL_RES.off n] := by simp
    have res : STL_RES.off n ∈ [STL_STAT.off n, STL_RES.off n] := by simp
    have stored := ((State.SameRegs.refl s _).put (f := STL_RES.swap n) res 12).put (f := STL_STAT.state n) stat 2
    exact ((stored.setStall n _).put (f := STL_RES.cmd n) res 1).put (f := STL_RES.reason n) res 0

theorem exec_cancel_accepted {w : Swap} (one : v.toNat / 2 ^ 23 = 16) (pending : (s.stall n).swap = some w)
    (frozen : w.frozen = false) (flipped : w.flipped = false) : exec (.cancel n v) s
      = .next (((s.abandonSwap n 6).stallEvent n true INFO 0x0803 6).cmdAccepted n) := by
  show Host.Outcome.next (s.writeStlCmd n v true) = _
  rw [State.writeStlCmd_cancel s n true one, State.cancelSwap, pending]
  simp only [frozen, flipped, Bool.or_self, Bool.false_eq_true, if_false]

theorem exec_cancel_refused (one : v.toNat / 2 ^ 23 = 16) (idle : (s.stall n).swap = none) :
    exec (.cancel n v) s = .next (s.cmdRefused n 6) := by
  show Host.Outcome.next (s.writeStlCmd n v true) = _
  rw [State.writeStlCmd_cancel s n true one, State.cancelSwap, idle]

theorem exec_resetRelease_accepted (one : v.toNat / 2 ^ 23 = 4) (held : s.stallState n = 6) (free : s.bistIn n = false) :
    exec (.resetRelease n v) s = .next ((s.freeStall n).cmdAccepted n) := by
  show Host.Outcome.next (s.writeStlCmd n v true) = _
  rw [State.writeStlCmd_resetRelease s n true one, if_pos held, State.releaseStall, if_neg (by simp [free])]

theorem exec_refill_accepted (one : v.toNat / 2 ^ 23 = 1) (running : s.stallState n = 1)
    (old : s.get (STL_STAT.shadow n) = 3) : ∃ t, exec (.refill n v) s = .next t ∧ t.get (STL_STAT.shadow n) = 4
      ∧ t.get (STL_RES.cmd n) = 1 ∧ t.get SCB_STAT.refill_active = 1 := by
  have accepted : s.commandRefill n = (s.startRefill n).cmdAccepted n := by
    unfold State.commandRefill
    exact if_pos (by simp [running, old])
  have set : (s.put (STL_STAT.shadow n) 4).get (STL_STAT.shadow n) = 4 := by
    rw [State.get_put_same _ _ (by simp [STL_STAT.shadow])]
    simp [STL_STAT.shadow]
  have refills : (s.put (STL_STAT.shadow n) 4).refilling = true := State.refilling_of_shadow _ n n.isLt set
  refine ⟨_, congrArg Host.Outcome.next ((State.writeStlCmd_refill s n true one).trans accepted), ?_,
    State.get_cmd_cmdAccepted _ n, ?_⟩
  · rw [(State.sameRegs_cmdAccepted _ n).get_eq (by simp [STL_STAT.shadow, STL_STAT.off, STL_RES.off]),
      State.startRefill, State.get_setStall, State.get_setShadow,
      State.get_put_off _ _ (by simp only [STL_STAT.shadow, STL_STAT.off, SCB_STAT.refill_active, SCB_STAT.off]; omega)]
    exact set
  · rw [(State.sameRegs_cmdAccepted _ n).get_eq
        (by simp only [SCB_STAT.refill_active, SCB_STAT.off, STL_RES.off, List.mem_singleton]; omega),
      State.startRefill, State.get_setStall, State.get_setShadow, refills, State.get_put_same _ _ (by decide)]
    rfl

theorem exec_refill_refused (one : v.toNat / 2 ^ 23 = 1) (mirrors : s.get (STL_STAT.shadow n) = 5) :
    exec (.refill n v) s = .next (s.cmdRefused n 6) := by
  show Host.Outcome.next (s.writeStlCmd n v true) = _
  rw [State.writeStlCmd_refill s n true one, State.commandRefill, if_neg (by simp [mirrors])]

end

/-! ### The end of a clear (R267) -/

section
variable (s : State) (n : Nat)

/-- The planes without the frames of stall `n`. -/
def State.clearedFrames : State := { s with planes := s.planes.filter fun e => !s.inStall n (e.1 % 2 ^ 32) }

theorem State.frame_of_planes {s t : State} (h : t.planes = s.planes) (p : Bool) (a : Nat) :
    t.frame p a = s.frame p a := by
  rw [State.frame, h, State.frame]

theorem State.frame_clearedFrames (p : Bool) {a : Nat} (ha : a < 2 ^ 32) :
    (s.clearedFrames n).frame p a = if s.inStall n a then 0 else s.frame p a := by
  have address : planeKey p a % 2 ^ 32 = a := by
    cases p <;> simp only [planeKey, Bool.toNat_false, Bool.toNat_true] <;> omega
  refine (KMap.get_filterKeys frameDefault s.planes (fun k => !s.inStall n (k % 2 ^ 32)) (planeKey p a)).trans ?_
  rw [address]
  cases s.inStall n a <;> rfl

/-- What a completed clear makes of the cleared planes. -/
def State.clearEnds : State :=
  let u := ((s.put (STL_RPR0_HI.src n) 0).put (STL_RPR1_HI.src n) 0).freeDynamic fun e => decide (e.2.1 = some n)
  let u := ((u.put (STL_STAT.active_valid n) 0).setShadow n 5).put (STL_STAT.content_pending n) 0
  u.put (STL_STAT.state n) 6

theorem exec_clearComplete (k : Fin 64) (clearing : s.stallState k = 7) :
    exec (.clearComplete k) s = .next ((s.clearedFrames k).clearEnds k) := by
  show execClearComplete k s = _
  unfold execClearComplete
  exact if_neg (not_not.2 clearing)

theorem State.get_clearEnds : (s.clearEnds n).stallState n = 6 ∧ (s.clearEnds n).get (STL_STAT.active_valid n) = 0
    ∧ (s.clearEnds n).get (STL_STAT.shadow n) = 5 := by
  simp (disch := (dsimp only [STL_STAT.state, STL_STAT.active_valid, STL_STAT.shadow, STL_STAT.content_pending,
      STL_STAT.off, SCB_STAT.refill_active, SCB_STAT.off]; omega)) only
    [State.clearEnds, State.stallState, State.get_setShadow, State.get_put_same, State.get_put_apart]
  simp [STL_STAT.state, STL_STAT.active_valid, STL_STAT.shadow]

theorem State.planes_setShadow (v : Nat) : (s.setShadow n v).planes = s.planes := by
  unfold State.setShadow
  dsimp only
  split <;> rfl

theorem State.planes_clearEnds : (s.clearEnds n).planes = s.planes := by
  unfold State.clearEnds
  dsimp only
  rw [State.put_planes, State.put_planes, State.planes_setShadow]
  rfl

end

/-- Settles O36: one command alone in STL_CMD leads to its operation, the registers of the state that it leaves are read
off store by store, and a define that no reason of the table refuses has met each of them. -/
theorem stallCommandsComplete : Obligations.StallCommandsComplete := by
  unfold Obligations.StallCommandsComplete
  refine ⟨fun s n v one => ⟨fun r => exec_define_refused one, exec_define_accepted one⟩,
    fun s n v one => ⟨fun h => exec_undefine_accepted one h.1 h.2, exec_undefine_refused one⟩,
    fun s n v clk one fits => congrArg Host.Outcome.next
      ((State.writeStlCmd_swapNow s n clk one).trans (State.commandSwap_immediate s n fits)),
    fun s n v clk one => ⟨fun code refused => congrArg Host.Outcome.next
      ((State.writeStlCmd_swapAt s n clk one).trans (State.commandSwap_refused s n refused)), exec_swapAt_waits one⟩,
    fun s n v one => ⟨exec_cancel_refused one, fun w => exec_cancel_accepted one⟩,
    fun s n v one => congrArg Host.Outcome.next (State.writeStlCmd_resetHold s n true one),
    fun s n v one => ⟨exec_resetRelease_accepted one, fun other => congrArg Host.Outcome.next
      ((State.writeStlCmd_resetRelease s n true one).trans (if_neg other))⟩,
    fun s n v one => congrArg Host.Outcome.next (State.writeStlCmd_clear s n true one),
    fun s n v one => ⟨exec_refill_accepted one, exec_refill_refused one⟩,
    fun s n v one => congrArg Host.Outcome.next (State.writeStlCmd_two s n true one),
    fun s n clearing => ?_, fun s n => ?_⟩
  · obtain ⟨state, valid, shadow⟩ := (s.clearedFrames n).get_clearEnds n
    refine ⟨_, exec_clearComplete s n clearing, state, valid, shadow, fun p a ha => ?_⟩
    rw [State.frame_of_planes (State.planes_clearEnds _ n), s.frame_clearedFrames n p ha]
  · exact ⟨State.defineRefusal_used_iff, State.defineRefusal_of_noRect,
      fun m j k hm ne hj hk => State.defineRefusal_of_rectsMeet hm ne hj hk,
      fun fits m hm ne defined col cy => State.not_stallCovers_of_fits fits hm ne defined,
      fun fits col cy covers => and_assoc.1 ⟨State.inFabric_of_fits fits covers, State.domOpen_of_fits fits covers⟩⟩

end Sys2Proof.Machine
end

section
/-! The course of a swap and its content phase (R255 to R261, R264, R265). -/

namespace Sys2Proof.Machine

open Reg

theorem State.is_of_get {s t : State} {f : Field} (h : t.get f = s.get f) : t.is f = s.is f := by
  rw [State.is, h, State.is]

/-- A stall whose shadow turns OLD under a result keeps its state and shows both (R248, R254). -/
theorem State.get_oldShadow (s : State) (n : Nat) {code : Nat} (fits : code < 16) :
    let t := (s.setShadow n 3).swapResult n code
    t.stallState n = s.stallState n ∧ t.get (STL_STAT.shadow n) = 3 ∧ t.get (STL_RES.swap n) = code
      ∧ (t.stall n).swap = (s.stall n).swap := by
  refine ⟨?_, ?_, (State.get_put_same _ _ (by simp [STL_RES.swap])).trans (Nat.mod_eq_of_lt fits), ?_⟩
  · simp (disch := (dsimp only [STL_STAT.state, STL_STAT.shadow, STL_STAT.off, STL_RES.swap, STL_RES.off,
        SCB_STAT.refill_active, SCB_STAT.off]; omega)) only
      [State.stallState, State.swapResult, State.get_setShadow, State.get_put_apart, State.get_put_off]
  · simp (disch := (dsimp only [STL_STAT.shadow, STL_STAT.off, STL_RES.swap, STL_RES.off, SCB_STAT.refill_active,
        SCB_STAT.off]; omega)) only
      [State.swapResult, State.get_setShadow, State.get_put_same, State.get_put_off]
    simp [STL_STAT.shadow]
  · rw [State.swapResult, State.stall_put, State.stall_setShadow_of_ne _ _ (by decide)]

/-! ### The flip (R258) -/

section
variable (s : State) (n : Nat)

theorem State.get_restartStall (f : Field) : (s.restartStall n).get f = s.get f := State.get_of_regs rfl f

/-- The other plane is the active one: the time and the count of the flip, the stall's registers and its tasks. -/
def State.planeFlipped : State :=
  let u := s.putWide (STL_FLIP_T.off n 0) 3 s.th.time.toNat
  let u := ((u.putB (STL_STAT.plane n) (!u.is (STL_STAT.plane n))).count (STL_SWAPS.v n)).put (STL_STAT.active_valid n) 1
  (u.restartStall n).returnTasks (slotTarget n)

/-- A flip with its quays closed and no content to come. -/
theorem State.flipStall_plain {w : Swap} (closed : w.forced = false) (noContent : s.get (STL_STAT.shadow n) ≠ 2) :
    ∃ u : StallState, s.flipStall n w
      = (((s.planeFlipped n).put (STL_STAT.state n) 4).put (STL_STAT.content_pending n) 0).setStall n
        { u with swap := some { w with frozen := true, flipped := true, content := false }, done := 0 } := by
  simp only [State.flipStall, State.when, closed, noContent, decide_false, Bool.false_and, Bool.false_eq_true, if_false]
  exact ⟨_, rfl⟩

theorem State.get_stat_putWide {f : Field} (stat : f.off = STL_STAT.off n) (v : Nat) :
    (s.putWide (STL_FLIP_T.off n 0) 3 v).get f = s.get f := by
  refine (State.sameRegs_putWide s (STL_FLIP_T.off n 0) 3 v).get_eq fun mem => ?_
  obtain ⟨i, -, place⟩ := List.mem_map.1 mem
  simp only [stat, STL_FLIP_T.off, STL_STAT.off] at place
  omega

variable {n} in
/-- What a flip makes of the plane and of its validity. -/
theorem State.get_planeFlipped (hn : n < 64) :
    (s.planeFlipped n).get (STL_STAT.plane n) = (if s.is (STL_STAT.plane n) then 0 else 1)
      ∧ (s.planeFlipped n).get (STL_STAT.active_valid n) = 1 := by
  have below : STL_STAT.off n < pageTS0 := by simp only [STL_STAT.off, pageTS0]; omega
  have plane : (s.putWide (STL_FLIP_T.off n 0) 3 s.th.time.toNat).is (STL_STAT.plane n) = s.is (STL_STAT.plane n) :=
    State.is_of_get (s.get_stat_putWide n rfl _)
  have count : STL_STAT.off n ≠ STL_SWAPS.off n := by simp only [STL_STAT.off, STL_SWAPS.off]; omega
  simp only [State.planeFlipped, plane]
  rw [State.get_returnTasks _ (by exact below), State.get_returnTasks _ (by exact below), State.get_restartStall,
    State.get_restartStall, State.get_put_same _ _ (by simp [STL_STAT.active_valid]),
    State.get_put_apart _ _ (by simp [STL_STAT.plane]) (by simp [STL_STAT.plane, STL_STAT.active_valid]),
    State.get_count_off _ (by exact count), State.putB, State.get_put_same _ _ (by simp [STL_STAT.plane])]
  cases s.is (STL_STAT.plane n) <;> simp [STL_STAT.plane, STL_STAT.active_valid]

end

/-! ### Content frames -/

section
variable (s : State)

theorem State.stalls_setValid (m : MemRef) (w : Nat) (on : Bool) : (s.setValid m w on).stalls = s.stalls := by
  unfold State.setValid
  split <;> rfl

theorem State.stalls_storeWord (m : MemRef) (w : Nat) (v : BitVec 72) (full : Bool) :
    (s.storeWord m w v full).stalls = s.stalls := by
  unfold State.storeWord
  split
  · exact State.when_keeps State.stalls _ _ _ fun t => t.put_stalls _ _
  · rfl

/-- A content frame changes memories, not what a stall keeps. -/
theorem State.stalls_writeContent (a : Nat) (f : Frame) : (s.writeContent a f).stalls = s.stalls := by
  unfold State.writeContent
  dsimp only
  split
  · split
    · rfl
    · exact State.each_keeps State.stalls _ _ _ fun t i => t.stalls_setValid _ _ _
  · refine State.each_keeps State.stalls _ _ _ fun t i => ?_
    split
    · exact t.stalls_storeWord _ _ _ _
    · rfl

end

/-! ### The drain and the flip as commands -/

section
variable {s : State} {n : Fin 64} {w : Swap} (pending : (s.stall n).swap = some w)
include pending

theorem exec_drainStart (armed : s.stallState n = 2) : exec (.drainStart n) s = .next
    ((s.reachTime (BitVec.ofNat 80 (s.swapTime n - s.get (STL_DRAIN.lead_us n) * 65536000))).beginDrain n w) := by
  show execDrainStart n s = _
  simp only [execDrainStart, pending]
  exact if_neg (not_not.2 armed)

section
variable (drain : w.drain = true) (undrained : w.drained = false)
include drain undrained

theorem exec_drainComplete (done : s.drainDone n = true) : exec (.drainComplete n) s
    = .next (if w.lost then s.flipStall n { w with drained := true }
      else s.setStall n { s.stall n with swap := some { w with drained := true } }) := by
  show execDrainComplete n s = _
  simp only [execDrainComplete, pending, drain, undrained, done, Bool.not_true, Bool.or_self, Bool.false_eq_true, if_false]
  cases w.lost <;> rfl

theorem exec_drainTimeout_abandons (unforced : s.is (STL_CFG.force_drain n) = false) : exec (.drainTimeout n) s
    = .next ((s.abandonSwap n 7).stallEvent n true CONTAINED 0x0804 7) := by
  show execDrainTimeout n s = _
  simp only [execDrainTimeout, pending, drain, undrained, unforced, Bool.not_true, Bool.not_false, Bool.or_self,
    Bool.false_eq_true, if_false, if_true]

theorem exec_drainTimeout_forces (forced : s.is (STL_CFG.force_drain n) = true) (clocked : w.lost = false) :
    exec (.drainTimeout n) s
      = .next (s.setStall n { s.stall n with swap := some { w with drained := true, forced := true } }) := by
  show execDrainTimeout n s = _
  simp only [execDrainTimeout, pending, drain, undrained, forced, clocked, Bool.not_true, Bool.or_self,
    Bool.false_eq_true, if_false]

end

theorem exec_swapFreeze_late (thawed : w.frozen = false) (undrained : w.drained = false) (timed : w.timed = true)
    (early : w.late = false) (waits : s.is (STL_CFG.late_policy n) = false) : exec (.swapFreeze n) s
      = .next (s.setStall n { s.stall n with swap := some { w with late := true } }) := by
  show execSwapFreeze n s = _
  simp only [execSwapFreeze, pending, thawed, undrained, timed, early, waits, Bool.not_true, Bool.or_self,
    Bool.false_eq_true, if_false]

theorem exec_swapFreeze_drained (thawed : w.frozen = false) (drained : w.drained = true) :
    ∃ t, exec (.swapFreeze n) s = .next t ∧ t.stallState n = 4
      ∧ t.stall n = { s.stall n with swap := some { w with frozen := true } } ∧ s.SameRegs t [STL_STAT.off n] := by
  have run : exec (.swapFreeze n) s = .next ((s.put (STL_STAT.state n) 4).setStall n
      { s.stall n with swap := some { w with frozen := true } }) := by
    show execSwapFreeze n s = _
    simp only [execSwapFreeze, pending, thawed, drained, Bool.false_eq_true, if_false, if_true]
  refine ⟨_, run, ?_, State.stall_setStall_same _ _ _, (s.sameRegs_put (STL_STAT.state n) 4).setStall _ _⟩
  rw [State.stallState, State.get_setStall, State.get_put_same _ _ (by simp [STL_STAT.state])]
  simp [STL_STAT.state]

theorem exec_swapFlip_plain (edge : Time) (frozen : w.frozen = true) (unflipped : w.flipped = false)
    (closed : w.forced = false) (noContent : s.get (STL_STAT.shadow n) ≠ 2) :
    ∃ t, exec (.swapFlip n edge) s = .next t ∧ t.get (STL_STAT.plane n) = (if s.is (STL_STAT.plane n) then 0 else 1)
      ∧ t.stallState n = 4 ∧ t.get (STL_STAT.active_valid n) = 1
      ∧ (t.stall n).swap = some { w with flipped := true, content := false } := by
  have reads (f : Field) : (s.reachTime edge).get f = s.get f := State.get_of_regs (s.regs_reachTime edge) f
  obtain ⟨u, flip⟩ := (s.reachTime edge).flipStall_plain n closed (by rwa [reads])
  obtain ⟨plane, valid⟩ := (s.reachTime edge).get_planeFlipped n.isLt
  rw [State.is_of_get (reads _)] at plane
  have run : exec (.swapFlip n edge) s = .next ((s.reachTime edge).flipStall n w) := by
    show execSwapFlip n edge s = _
    simp only [execSwapFlip, pending, frozen, unflipped, Bool.not_false, Bool.and_self, if_true]
  refine ⟨_, run.trans (congrArg Host.Outcome.next flip), ?_, ?_, ?_, ?_⟩
  · rw [State.get_setStall, State.get_put_apart _ _ (by simp [STL_STAT.plane])
      (by simp [STL_STAT.plane, STL_STAT.content_pending]), State.get_put_apart _ _ (by simp [STL_STAT.plane])
      (by simp [STL_STAT.plane, STL_STAT.state]), plane]
  · rw [State.stallState, State.get_setStall, State.get_put_apart _ _ (by simp [STL_STAT.state])
      (by simp [STL_STAT.state, STL_STAT.content_pending]), State.get_put_same _ _ (by simp [STL_STAT.state])]
    simp [STL_STAT.state]
  · rw [State.get_setStall, State.get_put_apart _ _ (by simp [STL_STAT.active_valid])
      (by simp [STL_STAT.active_valid, STL_STAT.content_pending]), State.get_put_apart _ _
      (by simp [STL_STAT.active_valid]) (by simp [STL_STAT.active_valid, STL_STAT.state]), valid]
  · rw [State.stall_setStall_same]
    simp only [frozen]

theorem exec_swapRelease (flipped : w.flipped = true) (noContent : w.content = false) :
    exec (.swapRelease n) s = .next (s.finishSwap n w) := by
  show execSwapRelease n s = _
  simp only [execSwapRelease, pending, flipped, noContent, Bool.not_false, Bool.and_self, if_true]

theorem exec_swapClockLost_flips (drain : w.drain = true) (drained : w.drained = true) (unflipped : w.flipped = false) :
    exec (.swapClockLost n) s = .next (s.flipStall n { w with lost := true }) := by
  show execSwapClockLost n s = _
  simp only [execSwapClockLost, pending, drain, drained, unflipped, Bool.not_true, Bool.not_false, Bool.and_self,
    Bool.false_eq_true, if_false, if_true]

theorem exec_swapClockLost_waits (drain : w.drain = true) (undrained : w.drained = false) :
    exec (.swapClockLost n) s = .next (s.setStall n { s.stall n with swap := some { w with lost := true } }) := by
  show execSwapClockLost n s = _
  simp only [execSwapClockLost, pending, drain, undrained, Bool.not_true, Bool.false_and, Bool.false_eq_true, if_false]

/-! ### The content phase (R264, R265) -/

section
variable (flipped : w.flipped = true) (content : w.content = true)
include flipped content

theorem exec_contentFrame_written {a : Word} {f : Frame} {r g : Bool} (more : (s.stall n).done < s.get (STL_CONT.v n 3))
    (good : s.contentError n a f r g = none) : ∃ u, u = s.writeContent a.toNat f
      ∧ exec (.contentFrame n a f r g) s = .next (u.setStall n { u.stall n with done := (s.stall n).done + 1 }) := by
  refine ⟨_, rfl, ?_⟩
  show execContentFrame n a f r g s = _
  simp only [execContentFrame, pending, flipped, content, Nat.not_le.2 more, good, Bool.and_self, Bool.not_true,
    decide_false, Bool.or_self, Bool.false_eq_true, if_false,
    State.stall_of_stalls (s.stalls_writeContent a.toNat f)]

theorem exec_contentFrame_refused {a : Word} {f : Frame} {r g : Bool} (more : (s.stall n).done < s.get (STL_CONT.v n 3))
    {code : Nat} (bad : s.contentError n a f r g = some code) : ∃ u : State, u.get (STL_RES.swap n) = 11
      ∧ u.stallState n = 6 ∧ (u.stall n).swap = none ∧ exec (.contentFrame n a f r g) s
        = .next (u.raise (pageSTL (n.val / 16)) (n.val % 16) CONTAINED 0x0806 code a.toNat) := by
  have run : exec (.contentFrame n a f r g) s = .next
      ((((((s.dropSwap n).put (STL_STAT.state n) 6).put (STL_STAT.active_valid n) 1).setShadow n 3).swapResult n 11).raise
        (pageSTL (n.val / 16)) (n.val % 16) CONTAINED 0x0806 code a.toNat) := by
    show execContentFrame n a f r g s = _
    simp only [execContentFrame, pending, flipped, content, Nat.not_le.2 more, bad, Bool.and_self, Bool.not_true,
      decide_false, Bool.or_self, Bool.false_eq_true, if_false]
  obtain ⟨state, -, result, swap⟩ := State.get_oldShadow
    (((s.dropSwap n).put (STL_STAT.state n) 6).put (STL_STAT.active_valid n) 1) n (code := 11) (by decide)
  refine ⟨_, result, state.trans ?_, swap.trans ?_, run⟩
  · rw [State.stallState, State.get_put_apart _ _ (by simp [STL_STAT.state])
      (by simp [STL_STAT.state, STL_STAT.active_valid]), State.get_put_same _ _ (by simp [STL_STAT.state])]
    simp [STL_STAT.state]
  · rw [State.stall_put, State.stall_put, State.dropSwap, State.stall_setStall_same]

theorem exec_contentPhaseEnd (all : s.get (STL_CONT.v n 3) ≤ (s.stall n).done) (free : s.bistIn n = false) :
    exec (.contentPhaseEnd n) s = .next (s.finishSwap n w) := by
  show execContentPhaseEnd n s = _
  simp only [execContentPhaseEnd, pending, flipped, content, all, free, decide_true, Bool.not_false, Bool.and_self,
    if_true]

end

end

/-! ### The end of a flipped swap (R259) -/

/-- A swap from RESET ends in RESET, with the shadow OLD where no refill is asked for. -/
theorem State.finishSwap_fromReset (s : State) (n : Nat) {w : Swap} (clocked : w.lost = false) (early : w.late = false)
    (held : w.fromReset = true) (noRefill : s.is (STL_CFG.shadow_mode n) = false) :
    ∃ u : State, s.finishSwap n w = u.stallEvent n false INFO 0x0801 1 ∧ u.stallState n = 6
      ∧ u.get (STL_STAT.shadow n) = 3 ∧ u.get (STL_RES.swap n) = 1 ∧ (u.stall n).swap = none := by
  have mode : ((s.dropSwap n).put (STL_STAT.state n) 6).is (STL_CFG.shadow_mode n) = false := by
    rw [← noRefill]
    refine State.is_of_get ((State.get_put_off _ _ ?_).trans (State.get_setStall ..))
    simp only [STL_CFG.shadow_mode, STL_CFG.off, STL_STAT.state, STL_STAT.off]
    omega
  obtain ⟨state, shadow, result, swap⟩ :=
    ((s.dropSwap n).put (STL_STAT.state n) 6).get_oldShadow n (code := 1) (by decide)
  refine ⟨_, ?_, state.trans ?_, shadow, result, swap.trans ?_⟩
  · simp only [State.finishSwap, clocked, early, held, mode, Bool.false_eq_true, if_false, if_true]
  · rw [State.stallState, State.get_put_same _ _ (by simp [STL_STAT.state])]
    simp [STL_STAT.state]
  · rw [State.stall_put, State.dropSwap, State.stall_setStall_same]

/-- Settles O37: each command of a swap by the branch that the swap under way selects; what a flip leaves is read off
store by store, past tasks that return, which reach no register of a stall. -/
theorem swapCommandsComplete : Obligations.SwapCommandsComplete := by
  unfold Obligations.SwapCommandsComplete
  refine ⟨fun s n w pending armed => ⟨_, rfl, exec_drainStart pending armed⟩, fun s n w pending drain undrained => ?_,
    fun s n w => exec_swapFreeze_drained, fun s n edge w pending => exec_swapFlip_plain pending edge,
    fun s n w => exec_swapRelease,
    fun s n w pending drain => ⟨exec_swapClockLost_flips pending drain, exec_swapClockLost_waits pending drain⟩,
    fun s n a f r g w pending flipped content more => ⟨exec_contentFrame_written pending flipped content more,
      fun code => exec_contentFrame_refused pending flipped content more⟩,
    fun s n w => exec_contentPhaseEnd, fun s n w => s.finishSwap_fromReset n⟩
  refine ⟨fun done clocked => ?_, fun done lost => ?_, exec_drainTimeout_abandons pending drain undrained,
    exec_drainTimeout_forces pending drain undrained, fun thawed => exec_swapFreeze_late pending thawed undrained⟩
  · rw [exec_drainComplete pending drain undrained done, clocked]
    rfl
  · rw [exec_drainComplete pending drain undrained done, if_pos lost]

end Sys2Proof.Machine
end

section
/-! The scrubber: slots, corrections, repairs and the refill of a shadow (R270 to R277). -/

namespace Sys2Proof.Machine

open Reg

/-! ### A frame without a correctable segment -/

section
variable (f : Frame)

theorem countSeg_sum_le (c : Nat × Nat) (k : Nat) : c.1 + c.2 ≤ (countSeg f c k).1 + (countSeg f c k).2 := by
  unfold countSeg
  split <;> omega

theorem foldl_countSeg_sum_le (ks : List Nat) (c : Nat × Nat) :
    c.1 + c.2 ≤ (ks.foldl (countSeg f) c).1 + (ks.foldl (countSeg f) c).2 := by
  induction ks generalizing c with
  | nil => exact Nat.le_refl _
  | cons k ks ih => exact (countSeg_sum_le f c k).trans (ih _)

theorem fixSeg_of_uncounted {c : Nat × Nat} {k : Nat} (same : (countSeg f c k).1 + (countSeg f c k).2 = c.1 + c.2) :
    fixSeg f k = f := by
  unfold countSeg at same
  unfold fixSeg
  split at same
  · omega
  · omega
  · next clean => simp only [clean]
  · next bad => simp only [bad]

theorem foldl_fixSeg_of_uncounted (ks : List Nat) (c : Nat × Nat)
    (same : (ks.foldl (countSeg f) c).1 + (ks.foldl (countSeg f) c).2 = c.1 + c.2) : ks.foldl fixSeg f = f := by
  induction ks generalizing c with
  | nil => rfl
  | cons k ks ih =>
    have first := countSeg_sum_le f c k
    have others := foldl_countSeg_sum_le f ks (countSeg f c k)
    rw [List.foldl_cons] at same ⊢
    rw [fixSeg_of_uncounted f (c := c) (k := k) (by omega)]
    exact ih (countSeg f c k) (by omega)

/-- Where no segment is counted as corrected, the correction leaves the frame. -/
theorem fixFrame_of_noFixes (noFixes : ¬ 0 < (fixCounts f).1 + (fixCounts f).2) : fixFrame f = f := by
  rw [fixCounts_eq_foldl_countSeg] at noFixes
  exact foldl_fixSeg_of_uncounted f (List.range 8) (0, 0) (by simpa using noFixes)

end

/-! ### Corrections in one plane (R272) -/

section
variable (s : State)

/-- The corrections of a frame, counted. -/
def State.correctionsCounted (c : Nat × Nat) (shadow : Bool) : State :=
  let u := (s.add SCB_CE1.v c.1).add SCB_CE2.v c.2
  let u := u.when shadow fun u => u.add SCB_SH_CE.v (c.1 + c.2)
  { u with scrub := { u.scrub with fixes := u.scrub.fixes + c.1 + c.2 } }

theorem State.planes_correctionsCounted (c : Nat × Nat) (shadow : Bool) :
    (s.correctionsCounted c shadow).planes = s.planes := by
  cases shadow <;> rfl

theorem State.sameRegs_correctionsCounted (c : Nat × Nat) (shadow : Bool) :
    s.SameRegs (s.correctionsCounted c shadow) [SCB_CE1.off, SCB_CE2.off, SCB_SH_CE.off] := by
  have counted : s.SameRegs ((s.add SCB_CE1.v c.1).add SCB_CE2.v c.2) [SCB_CE1.off, SCB_CE2.off, SCB_SH_CE.off] :=
    ((State.SameRegs.refl s _).put (f := SCB_CE1.v) (by decide) _).put (f := SCB_CE2.v) (by decide) _
  cases shadow with
  | false => exact counted
  | true => exact counted.put (f := SCB_SH_CE.v) (by decide) _

theorem State.correctPlane_eq (p : Bool) (a : Nat) (shadow : Bool) : s.correctPlane p a shadow
    = let u := s.correctionsCounted (fixCounts (s.frame p a)) shadow
      u.when (u.get SCB_CFG.mode = 2 && decide (0 < (fixCounts (s.frame p a)).1 + (fixCounts (s.frame p a)).2))
        fun u => u.setFrame p a (fixFrame (s.frame p a)) := rfl

theorem State.sameRegs_correctPlane (p : Bool) (a : Nat) (shadow : Bool) :
    s.SameRegs (s.correctPlane p a shadow) [SCB_CE1.off, SCB_CE2.off, SCB_SH_CE.off] := by
  intro o ho
  rw [State.correctPlane_eq]
  dsimp only
  refine (State.when_keeps (State.word · o) _ _ _ fun t => ?_).trans (s.sameRegs_correctionsCounted _ _ o ho)
  exact State.word_of_regs rfl o

/-- In CORRECT mode the corrected frame stands in its plane, and every other frame as before. -/
theorem State.frame_correctPlane (mode : s.get SCB_CFG.mode = 2) (p : Bool) {a : Nat} (ha : a < 2 ^ 32) (shadow : Bool)
    (q : Bool) {b : Nat} (hb : b < 2 ^ 32) : (s.correctPlane p a shadow).frame q b
      = if q = p ∧ b = a then fixFrame (s.frame p a) else s.frame q b := by
  have frames (t : State) (kept : t.planes = s.planes) (x : Frame) :
      (t.setFrame p a x).frame q b = if q = p ∧ b = a then x else s.frame q b := by
    rw [State.frame_setFrame t p x q ha hb, State.frame_of_planes kept]
  have counted := s.planes_correctionsCounted (fixCounts (s.frame p a)) shadow
  rw [State.correctPlane_eq]
  dsimp only
  rw [(s.sameRegs_correctionsCounted _ shadow).get_eq (by decide), mode]
  by_cases fixes : 0 < (fixCounts (s.frame p a)).1 + (fixCounts (s.frame p a)).2
  · rw [decide_eq_true fixes]
    exact frames _ counted _
  · rw [decide_eq_false fixes, fixFrame_of_noFixes _ fixes]
    refine (State.frame_of_planes counted q b).trans ?_
    split_ifs with here
    · rw [here.1, here.2]
    · rfl

end

/-! ### A slot (R270, R271) -/

section
variable {s : State}

theorem State.startWaiting_idle (free : s.scrub.repair = none) (empty : s.scrub.waiting = []) : s.startWaiting = s := by
  simp only [State.startWaiting, free, empty]

section
variable (free : s.scrub.repair = none) (empty : s.scrub.waiting = [])
include free empty

theorem exec_scrubSlot_stopped (stopped : s.is SCB_STAT.running = false) : exec .scrubSlot s = .next s := by
  show execScrubSlot s = _
  unfold execScrubSlot
  dsimp only
  rw [State.startWaiting_idle free empty]
  exact if_pos (by simp [stopped])

theorem exec_scrubSlot_runs (runs : s.is SCB_STAT.running = true) (on : s.get SCB_CFG.mode ≠ 0)
    (noRefill : s.refilling = false) {b : Nat} (next : nextFrame s.scrub.addr.toNat = some b) :
    let n := s.get SCB_STAT.ordinal
    let w := (s.elapse (s.scrub.started + (n + 1) * s.get SCB_CFG.period * 4 - s.now)).scrubFrame s.scrub.addr.toNat
    exec .scrubSlot s
      = .next (({ w with scrub := { w.scrub with addr := BitVec.ofNat 32 b } }).put SCB_STAT.ordinal (n + 1)) := by
  have addr (k : Nat) : (s.elapse k).scrub.addr = s.scrub.addr := rfl
  show execScrubSlot s = _
  unfold execScrubSlot
  dsimp only
  rw [State.startWaiting_idle free empty, if_neg (by simp [runs, on, noRefill, free, empty])]
  simp only [addr, next]

end

/-! ### A static frame in its slot (R271 to R273) -/

section
variable {a : Nat} (ha : a < 2 ^ 32) (static : s.frameStall a = none) (unskipped : s.frameSkipped a none = false)
  (mode : s.get SCB_CFG.mode = 2)
include ha mode

/-- Both planes of a static frame corrected. -/
theorem State.frame_correctPlanes (q : Bool) {b : Nat} (hb : b < 2 ^ 32) :
    ((s.correctPlane false a false).correctPlane true a true).frame q b
      = if b = a then fixFrame (s.frame q a) else s.frame q b := by
  have stays : (s.correctPlane false a false).get SCB_CFG.mode = 2 := by
    rw [(s.sameRegs_correctPlane false a false).get_eq (by decide), mode]
  rw [State.frame_correctPlane _ stays true ha true q hb, s.frame_correctPlane mode false ha false q hb,
    s.frame_correctPlane mode false ha false true ha]
  cases q <;> simp

include static unskipped

/-- Where the code corrects every segment of both planes, the slot does nothing else. -/
theorem State.scrubFrame_static (good : ∀ p, badMask (fixFrame (s.frame p a)) = 0) :
    s.scrubFrame a = (s.correctPlane false a false).correctPlane true a true := by
  have fixed (p : Bool) : badMask (((s.correctPlane false a false).correctPlane true a true).frame p a) = 0 := by
    rw [State.frame_correctPlanes ha mode p ha, if_pos rfl, good]
  unfold State.scrubFrame
  simp only [static, unskipped, State.activePlane, State.shadowMirrors, State.when, Bool.not_false, Bool.false_eq_true,
    if_false, if_true, fixed, ne_eq, not_true_eq_false, decide_false, Bool.and_false]

end

end

/-! ### Repair copies (R272, R273) -/

section
variable {s : State}

/-- A repair from DRAM, done. -/
def State.repairedFromDram (s : State) (r : Repair) (f : Frame) : State :=
  let u := (((s.setRepair none).setFrame r.plane r.addr.toNat f).count SCB_FIX_DR.v).raise pageSCB 2 CORRECTED 0x0813
    r.addr.toNat 0
  { u with scrub := { u.scrub with fixes := u.scrub.fixes + 1 } }

theorem State.scrub_repairedFromDram (r : Repair) (f : Frame) : (s.repairedFromDram r f).scrub
    = { s.scrub with repair := none, fixes := s.scrub.fixes + 1 } := by
  unfold State.repairedFromDram
  dsimp only
  rw [State.raise_scrub]
  rfl

theorem State.frame_repairedFromDram (r : Repair) (f : Frame) (p : Bool) {b : Nat} (hb : b < 2 ^ 32) :
    (s.repairedFromDram r f).frame p b = if p = r.plane ∧ b = r.addr.toNat then f else s.frame p b := by
  have planes : (s.repairedFromDram r f).planes = ((s.setRepair none).setFrame r.plane r.addr.toNat f).planes :=
    (State.raise_planes ..).trans rfl
  rw [State.frame_of_planes planes, State.frame_setFrame _ _ f p r.addr.isLt hb]
  rfl

theorem State.get_repairedFromDram (r : Repair) (f : Frame) :
    (s.repairedFromDram r f).get SCB_FIX_DR.v = min (s.get SCB_FIX_DR.v + 1) (2 ^ 32 - 1) := by
  refine (State.get_raise_off _ _ _ _ _ _ _ (by decide)).trans ((State.get_count_same _ (by decide)).trans ?_)
  rw [State.get_of_regs (t := s) rfl]
  rfl

theorem exec_repairReadResponse_dram {r : Repair} {f : Frame} (awaited : s.scrub.repair = some r)
    (empty : s.scrub.waiting = []) (static : r.stall = none) (noRefill : r.refill = false) (good : frameGood f = true)
    (free : s.frameStall r.addr.toNat = none) (dram : r.source = 2) :
    exec (.repairReadResponse true f) s = .next (s.repairedFromDram r f) := by
  have stands : (s.setRepair none).frameStall r.addr.toNat = none := free
  have idle : (s.repairedFromDram r f).startWaiting = s.repairedFromDram r f := by
    refine State.startWaiting_idle ?_ ?_ <;> rw [State.scrub_repairedFromDram]
    exact empty
  show execRepairReadResponse true f s = _
  simp only [execRepairReadResponse, awaited, static, noRefill, good, stands, dram, Bool.not_true, Option.isNone_none,
    Bool.false_eq_true, if_false, if_true]
  exact congrArg Host.Outcome.next idle

/-! ### The refill of a shadow (R277) -/

/-- A frame stored in a plane and then in the other stands in both. -/
theorem State.frame_setFrame_both (s : State) (p : Bool) (a : Nat) (f : Frame) (q : Bool) :
    ((s.setFrame p a f).setFrame (!p) a f).frame q a = f := by
  by_cases first : q = p
  · subst first
    have apart : planeKey q a ≠ planeKey (!q) a := by cases q <;> simp [planeKey]
    exact (KMap.get_set_ne _ _ _ apart).trans (KMap.get_set_same ..)
  · rw [Bool.eq_not_of_ne first]
    exact KMap.get_set_same ..

theorem exec_refillFrame_copies {n : Fin 64} {a : Nat} (refill : (s.stall n).refill = some a)
    (free : s.scrub.repair = none) (empty : s.scrub.waiting = []) (refills : s.get (STL_STAT.shadow n) = 4)
    (static : s.frameDynamic a (some n.val) = false)
    (good : badMask (s.frame (s.activePlane (some n.val)) a) = 0) :
    let g := fixFrame (s.frame (s.activePlane (some n.val)) a)
    ∃ u : State, u.frame true a = g ∧ u.frame false a = g ∧ exec (.refillFrame n) s = .next (u.refillNext n a) := by
  intro g
  have run : ∃ t : State, exec (.refillFrame n) s = .next
      (((t.setFrame (s.activePlane (some n.val)) a g).setFrame (!s.activePlane (some n.val)) a g).refillNext n a) := by
    show ∃ t : State, execRefillFrame n s = _
    simp only [execRefillFrame, refill, free, empty, refills, static, good]
    exact ⟨_, rfl⟩
  obtain ⟨t, run⟩ := run
  exact ⟨_, State.frame_setFrame_both .., State.frame_setFrame_both .., run⟩

end

/-- Settles O38: a slot of a running scrubber is one step of its pass; in a frame that the code corrects both planes take
their corrected frames and nothing else happens; a good copy and a refill store theirs. -/
theorem scrubberCommandsComplete : Obligations.ScrubberCommandsComplete := by
  unfold Obligations.ScrubberCommandsComplete
  refine ⟨fun s => exec_scrubSlot_stopped,
    fun s b free empty runs on noRefill next => ⟨_, rfl, exec_scrubSlot_runs free empty runs on noRefill next⟩,
    fun s a ha static unskipped good mode => ?_,
    fun s r f awaited empty static noRefill good free dram => ?_, fun s n a => exec_refillFrame_copies⟩
  · have slot := State.scrubFrame_static ha static unskipped mode fun p => (good p).2
    have frames (q : Bool) {b : Nat} (hb : b < 2 ^ 32) := State.frame_correctPlanes ha mode q hb
    simp only [slot]
    refine ⟨(frames false ha).trans (if_pos rfl), (frames true ha).trans (if_pos rfl),
      fun p b hb ne => (frames p hb).trans (if_neg ne), ?_⟩
    exact ((s.sameRegs_correctPlane false a false).trans (State.sameRegs_correctPlane _ true a true)).mono (by simp)
  · refine ⟨_, exec_repairReadResponse_dram awaited empty static noRefill good free dram, ?_,
      State.get_repairedFromDram r f, ?_, fun p b hb ne => ?_⟩
    · rw [State.frame_repairedFromDram r f _ r.addr.isLt, if_pos ⟨rfl, rfl⟩]
    · rw [State.scrub_repairedFromDram]
    · rw [State.frame_repairedFromDram r f p hb, if_neg (by simpa only [not_and_or] using ne)]

end Sys2Proof.Machine
end

section
/-! A packet at a router, the injectors of its outputs and HOLD (R284, R285, R299, R301, R302, R307, R308). -/

namespace Sys2Proof.Machine

open Reg

/-! ### A packet at a router's input -/

/-- An injector that is not armed and holds no packet back lets every packet through (R307). -/
theorem State.throughInjector_idle {s : State} {x y o : Nat} (unarmed : s.is (NOC_FI_CTRL.armed (12 * y + x) o) = false)
    (empty : (s.inj (12 * y + x) o).held = none) (p : Packet) : s.throughInjector x y o p = s.forward x y o p := by
  simp [State.throughInjector, unarmed, empty]

@[simp] theorem State.is_unsend (s : State) (pl : Place) (p : Packet) (f : Field) : (s.unsend pl p).is f = s.is f := rfl
@[simp] theorem State.routeOf_unsend (s : State) (pl : Place) (p q : Packet) (x y : Nat) :
    (s.unsend pl p).routeOf x y q = s.routeOf x y q := rfl

section
variable {s : State} {x : Fin 12} {y : Fin 6} {p : Packet}

theorem exec_routerPacket_badHeader (bad : hcrcOf p ≠ p.hcrc) :
    exec (.routerPacket x y p) s
      = .next (((s.unsend (.router (12 * y.val + x.val)) p).count (NOC_RTR_HDRERR.v (12 * y.val + x.val))).routerEvent
          (12 * y.val + x.val) 4 CONTAINED 0x0905 p) := by
  show execRouterPacket x y p s = _
  simp [execRouterPacket, bad]

variable (good : hcrcOf p = p.hcrc)
include good

theorem exec_routerPacket_held (hold : s.is (NOC_RTR_STAT.hold (12 * y.val + x.val)) = true) :
    exec (.routerPacket x y p) s
      = .next ((s.unsend (.router (12 * y.val + x.val)) p).send (.router (12 * y.val + x.val)) p) := by
  show execRouterPacket x y p s = _
  simp [execRouterPacket, good, hold]

variable (free : s.is (NOC_RTR_STAT.hold (12 * y.val + x.val)) = false)
include free

theorem exec_routerPacket_blocked (route : s.routeOf x y p = none) :
    exec (.routerPacket x y p) s
      = .next ((s.unsend (.router (12 * y.val + x.val)) p).blocked (12 * y.val + x.val) p) := by
  show execRouterPacket x y p s = _
  simp [execRouterPacket, good, free, route]

theorem exec_routerPacket_forwards {o : Nat} (route : s.routeOf x y p = some o) (hops : o < 4 → p.hops ≠ 24)
    (unarmed : s.is (NOC_FI_CTRL.armed (12 * y.val + x.val) o) = false)
    (empty : (s.inj (12 * y.val + x.val) o).held = none) :
    exec (.routerPacket x y p) s = .next ((s.unsend (.router (12 * y.val + x.val)) p).forward x y o p) := by
  show execRouterPacket x y p s = _
  have goesOn : ¬ (decide (o < 4) && decide (p.hops = 24)) = true := by simpa using hops
  simp only [execRouterPacket, good, State.is_unsend, free, State.routeOf_unsend, route, if_neg goesOn, ne_eq,
    not_true_eq_false, Bool.false_eq_true, if_false]
  exact congrArg Host.Outcome.next (State.throughInjector_idle (s := s.unsend _ p) unarmed empty p)

end

/-! ### Injectors -/

@[simp] theorem State.inj_setInj_same (s : State) (i o : Nat) (v : Injector) : (s.setInj i o v).inj i o = v :=
  KMap.get_set_same ..

theorem State.SameRegs.is_eq {s t : State} {os : List Nat} (same : s.SameRegs t os) {f : Field} (apart : f.off ∉ os) :
    t.is f = s.is f := by
  rw [State.is, same.get_eq apart, State.is]

theorem State.sameRegs_write (s : State) (off : Nat) (v : Word) : s.SameRegs (s.write off v) [off] :=
  s.sameRegs_setWord off _

/-- The injector of an output that its control arms (R307). -/
def State.armInj (s : State) (i o : Nat) : State :=
  (s.put (NOC_FI_CTRL.armed i o) 1).setInj i o { s.inj i o with
    skip := (s.put (NOC_FI_CTRL.armed i o) 1).get (NOC_FI_CTRL.skip i o)
    times := (s.put (NOC_FI_CTRL.armed i o) 1).get (NOC_FI_CTRL.times i o), acted := false }

theorem State.get_armed_armInj (s : State) (i o : Nat) : (s.armInj i o).get (NOC_FI_CTRL.armed i o) = 1 :=
  State.get_put_same _ _ (by simp [NOC_FI_CTRL.armed])

theorem State.inj_armInj (s : State) (i o : Nat) : (s.armInj i o).inj i o = { s.inj i o with
    skip := (s.armInj i o).get (NOC_FI_CTRL.skip i o), times := (s.armInj i o).get (NOC_FI_CTRL.times i o)
    acted := false } :=
  State.inj_setInj_same ..

theorem State.sameRegs_armInj (s : State) (i o : Nat) : s.SameRegs (s.armInj i o) [NOC_FI_CTRL.off i o] :=
  s.sameRegs_put (NOC_FI_CTRL.armed i o) 1

theorem State.writeFi_arms {s : State} {i o : Nat} {v : Word} (arm : bit v 31 = true)
    (enabled : s.is (NOC_RTR_CTRL.fi_enable i) = true)
    (vc : (s.write (NOC_FI_CTRL.off i o) v).get (NOC_FI_CTRL.vc i o) ≠ 3) :
    s.writeFi i o v = (s.write (NOC_FI_CTRL.off i o) v).armInj i o := by
  have apart : (NOC_RTR_CTRL.fi_enable i).off ∉ [NOC_FI_CTRL.off i o] := by
    simp only [NOC_RTR_CTRL.fi_enable, NOC_RTR_CTRL.off, NOC_FI_CTRL.off, List.mem_singleton]
    omega
  have stillEnabled := ((s.sameRegs_write (NOC_FI_CTRL.off i o) v).is_eq apart).trans enabled
  refine if_pos ?_
  simp [arm, stillEnabled, vc]

/-! ### HOLD -/

/-- A router enters HOLD now (R301). -/
def State.enterHold (s : State) (i : Nat) : State :=
  { s.put (NOC_RTR_STAT.hold i) 1 with noc := { s.noc with holds := s.noc.holds.set natDefault i s.now } }

theorem State.get_hold_enterHold (s : State) (i : Nat) : (s.enterHold i).get (NOC_RTR_STAT.hold i) = 1 :=
  State.get_put_same _ _ (by simp [NOC_RTR_STAT.hold])

@[simp] theorem State.heldFor_setWord (s : State) (o : Nat) (w : Word) (i : Nat) :
    (s.setWord o w).heldFor i = s.heldFor i := rfl

theorem State.heldFor_enterHold (s : State) (i : Nat) : (s.enterHold i).heldFor i = 0 := by
  have entered : (s.enterHold i).noc.holds.get natDefault i = s.now := KMap.get_set_same ..
  rw [State.heldFor, entered]
  exact Nat.sub_self _

theorem State.sameRegs_enterHold (s : State) (i : Nat) : s.SameRegs (s.enterHold i) [NOC_RTR_STAT.off i] :=
  s.sameRegs_put (NOC_RTR_STAT.hold i) 1

theorem State.writeRtr_holds {s : State} {i : Nat} {v : Word} (apply : bit v 31 = true)
    (free : s.is (NOC_RTR_STAT.hold i) = false) :
    s.writeRtr i v = (s.write (NOC_RTR_CTRL.off i) v).enterHold i := by
  have apart : (NOC_RTR_STAT.hold i).off ∉ [NOC_RTR_CTRL.off i] := by
    simp [NOC_RTR_STAT.hold, NOC_RTR_STAT.off, NOC_RTR_CTRL.off]
  have stillFree := ((s.sameRegs_write (NOC_RTR_CTRL.off i) v).is_eq apart).trans free
  refine if_pos ?_
  simp [apply, stillFree]

section
variable (s : State) (i result cycles : Nat)

/-- The registers after the release of a HOLD: NOC_RTR_STAT shows the result and the time. -/
theorem State.regs_releaseHold : (s.releaseHold i result cycles).regs
    = (((s.put (NOC_RTR_STAT.hold i) 0).put (NOC_RTR_STAT.result i) result).put (NOC_RTR_STAT.hold_time i)
        (min ((5 * cycles + 79) / 80) 65535)).regs := rfl

theorem State.get_hold_releaseHold : (s.releaseHold i result cycles).get (NOC_RTR_STAT.hold i) = 0 := by
  rw [State.get_of_regs (s.regs_releaseHold i result cycles),
    State.get_put_apart _ _ (by simp [NOC_RTR_STAT.hold]) (by simp [NOC_RTR_STAT.hold, NOC_RTR_STAT.hold_time]),
    State.get_put_apart _ _ (by simp [NOC_RTR_STAT.hold]) (by simp [NOC_RTR_STAT.hold, NOC_RTR_STAT.result]),
    State.get_put_same _ _ (by simp [NOC_RTR_STAT.hold]), Nat.zero_mod]

theorem State.get_result_releaseHold :
    (s.releaseHold i result cycles).get (NOC_RTR_STAT.result i) = result % 4 := by
  rw [State.get_of_regs (s.regs_releaseHold i result cycles),
    State.get_put_apart _ _ (by simp [NOC_RTR_STAT.result]) (by simp [NOC_RTR_STAT.result, NOC_RTR_STAT.hold_time]),
    State.get_put_same _ _ (by simp [NOC_RTR_STAT.result])]
  rfl

theorem State.sameRegs_releaseHold : s.SameRegs (s.releaseHold i result cycles) [NOC_RTR_STAT.off i] := fun o ho => by
  have apart := List.ne_of_not_mem_cons ho
  rw [State.word_of_regs (s.regs_releaseHold i result cycles), State.word_put_ne _ _ apart, State.word_put_ne _ _ apart,
    State.word_put_ne _ _ apart]

/-- The active settings take what is staged, the ports and outputs those that `mask` has (R301). -/
def State.loadStaged (mask : Nat) : State :=
  (((s.setWord (NOC_RTR_LINK.off i) (s.word (NOC_RTR_NEXT_LINK.off i) &&& BitVec.ofNat 32 mask)).setWord
    (NOC_RTR_XDIR.off i) (s.word (NOC_RTR_NEXT_XDIR.off i))).setWord
    (NOC_RTR_YDIR.off i) (s.word (NOC_RTR_NEXT_YDIR.off i))).setWord
    (NOC_RTR_ARB.off i) (s.word (NOC_RTR_NEXT_ARB.off i))

theorem State.word_loadStaged (mask : Nat) :
    let t := s.loadStaged i mask
    t.word (NOC_RTR_XDIR.off i) = s.word (NOC_RTR_NEXT_XDIR.off i)
      ∧ t.word (NOC_RTR_YDIR.off i) = s.word (NOC_RTR_NEXT_YDIR.off i)
      ∧ t.word (NOC_RTR_ARB.off i) = s.word (NOC_RTR_NEXT_ARB.off i) := by
  simp [State.loadStaged, State.word_setWord, NOC_RTR_XDIR.off, NOC_RTR_YDIR.off, NOC_RTR_ARB.off]

end

section
variable {s : State} {x : Fin 12} {y : Fin 6} (hold : s.is (NOC_RTR_STAT.hold (12 * y.val + x.val)) = true)
include hold

theorem exec_holdApplied_held : exec (.holdApplied x y) s
    = .next ((s.loadStaged (12 * y.val + x.val) (existingPorts x y * 16 + 15)).releaseHold (12 * y.val + x.val) 1
        (max 2 (s.heldFor (12 * y.val + x.val)))) := by
  show execHoldApplied x y s = _
  simp only [execHoldApplied, hold, Bool.not_true, Bool.false_eq_true, if_false, State.word_setWord]
  simp [State.loadStaged, NOC_RTR_XDIR.off, NOC_RTR_YDIR.off, NOC_RTR_ARB.off, NOC_RTR_LINK.off, NOC_RTR_NEXT_XDIR.off,
    NOC_RTR_NEXT_YDIR.off, NOC_RTR_NEXT_ARB.off, NOC_RTR_NEXT_LINK.off]

theorem exec_holdTimeout_held : exec (.holdTimeout x y) s
    = .next ((s.releaseHold (12 * y.val + x.val) 2 (max 25600 (s.heldFor (12 * y.val + x.val)))).raise
        (pageNOC (12 * y.val + x.val)) 0 INFO 0x0901 0 0) := by
  show execHoldTimeout x y s = _
  simp only [execHoldTimeout, hold, Bool.not_true, Bool.false_eq_true, if_false]

end

/-- Settles O40: a packet by its header check, HOLD and its route; an armed injector and a HOLD by the one store that
each makes; a release by what NOC_RTR_STAT shows after it. -/
theorem routerCommandsComplete : Obligations.RouterCommandsComplete := by
  unfold Obligations.RouterCommandsComplete
  refine ⟨fun s x y p => ⟨exec_routerPacket_badHeader, exec_routerPacket_held, exec_routerPacket_blocked,
      fun o good free => exec_routerPacket_forwards good free⟩, fun s x y o v arm enabled vc => ?_,
    fun s x y o p held => ?_, fun s x y v apply free => ?_, fun s x y hold => ⟨?_, ?_⟩⟩
  · refine ⟨_, congrArg Host.Outcome.next (State.writeFi_arms arm enabled vc), State.get_armed_armInj .., ?_⟩
    rw [State.inj_armInj]
    exact ⟨rfl, rfl, rfl, ((s.sameRegs_write _ v).trans (State.sameRegs_armInj _ _ _)).mono (by simp)⟩
  · refine ⟨_, rfl, ?_⟩
    show execFiReorderTimeout x y o s = _
    simp only [execFiReorderTimeout, held]
  · exact ⟨_, congrArg Host.Outcome.next (State.writeRtr_holds apply free), State.get_hold_enterHold .., rfl,
      State.heldFor_enterHold .., (s.sameRegs_write _ v).trans (State.sameRegs_enterHold _ _)⟩
  · obtain ⟨xdir, ydir, arb⟩ := s.word_loadStaged (12 * y.val + x.val) (existingPorts x y * 16 + 15)
    have released := State.sameRegs_releaseHold (s.loadStaged (12 * y.val + x.val) (existingPorts x y * 16 + 15))
      (12 * y.val + x.val) 1 (max 2 (s.heldFor (12 * y.val + x.val)))
    refine ⟨_, exec_holdApplied_held hold, (released _ ?_).trans xdir, (released _ ?_).trans ydir,
      (released _ ?_).trans arb, State.get_hold_releaseHold .., State.get_result_releaseHold ..⟩ <;>
      simp [NOC_RTR_STAT.off, NOC_RTR_XDIR.off, NOC_RTR_YDIR.off, NOC_RTR_ARB.off]
  · exact ⟨_, rfl, State.get_result_releaseHold .., State.get_hold_releaseHold .., s.sameRegs_releaseHold _ _ _ _
      (by simp [NOC_RTR_XDIR.off, NOC_RTR_STAT.off]), exec_holdTimeout_held hold⟩

end Sys2Proof.Machine
end

section
/-! A posted write at a port that is not OPEN (R299, R300, R304), and that the statement on destinations leaves out what
its drop releases. -/

namespace Sys2Proof.Machine

/-- A port that is not OPEN drops a posted write: its flow has lost one, and expects the next seq if this one was due
(R299, R300, R304). -/
def State.dropAtClosed (s : State) (port : Nat) (p : Packet) : State :=
  let f := s.flow port p.src p.vc
  (s.setFlow port p.src p.vc { f with
    lost := true, expected := if seqAhead f p.seq = 0 then some (p.seq + 1) else f.expected }).dropPosted port p 4

/-- While the port is CLOSING, a dropped write still lets the held packets behind it take effect and the FLUSHes that
waited for it be answered. -/
theorem State.arrive_posted_closed {s : State} {port : BitVec 10} {p : Packet} (fits : opcodeFits p = true)
    (write : p.opcode = 2) (closed : (s.unsend (.port port) p).closedTo port.toNat p ≠ 0) :
    s.arrive port p =
      let t := (s.unsend (.port port) p).dropAtClosed port.toNat p
      if t.closedTo port.toNat p = 1 then (t.drainHeld port.toNat p.src p.vc 8).settleFlushes port.toNat else t := by
  have vc : p.vc = 0 := by simpa [opcodeFits, write] using fits
  simp [State.arrive, fits, write, vc, closed, isPosted, State.dropAtClosed]

/-- A posted write of the stream engine's first port to the host, without data. -/
def writeOfSeq (q : BitVec 8) : Packet :=
  { opcode := 2, vc := 0, cls := 0, dest := 320, src := 448, tag := 0, key := 0, len := 3, seq := q, hops := 0,
    status := 0, synth := false, addr := 0x10000000000000, be := 0, info := 0, hcrc := 0, data := [] }

/-- The FLUSH that its source sends after the writes 0 and 1. -/
def flushOfTwo : Packet := { writeOfSeq 2 with opcode := 3, len := 0, addr := 0 }

/-- Port 320 has taken the write 0 and the FLUSH, which waits for the write 1, and has entered CLOSING. -/
def flushWaits : State := ((State.reset.arrive 320 (writeOfSeq 0)).arrive 320 flushOfTwo).closePort false 320

/-- The write 1 has come to that port, and the port has dropped it. -/
def lateDropped : State := (flushWaits.unsend (.port 320) (writeOfSeq 1)).dropAtClosed 320 (writeOfSeq 1)

/-- Refutes O42: its clause on a posted write at a port that is not OPEN says that the port drops it and does nothing
else. In `flushWaits`, which two arrivals and a close leave from reset, the port is CLOSING and the write 1 comes late:
it is dropped, and the FLUSH that waited for it alone is answered (R293, R304). -/
theorem not_destinationCommandsComplete : ¬ Obligations.DestinationCommandsComplete := by
  unfold Obligations.DestinationCommandsComplete
  rintro ⟨-, -, posted, -⟩
  have fits : opcodeFits (writeOfSeq 1) = true := by decide
  have closing : (flushWaits.unsend (.port 320) (writeOfSeq 1)).closedTo 320 (writeOfSeq 1) ≠ 0 := by decide +kernel
  have stillClosing : lateDropped.closedTo 320 (writeOfSeq 1) = 1 := by decide +kernel
  have waits : (lateDropped.port 320).flushes = [flushOfTwo] := by decide +kernel
  have answered : (((lateDropped.drainHeld 320 448 0 8).settleFlushes 320).port 320).flushes = [] := by decide +kernel
  have only : flushWaits.arrive 320 (writeOfSeq 1) = lateDropped :=
    (posted flushWaits 320 (writeOfSeq 1) fits rfl).1 closing
  have more : flushWaits.arrive 320 (writeOfSeq 1) = (lateDropped.drainHeld 320 448 0 8).settleFlushes 320 :=
    (State.arrive_posted_closed fits rfl closing).trans (if_pos stillClosing)
  rw [← more, only, waits] at answered
  exact List.cons_ne_nil _ _ answered

end Sys2Proof.Machine
end

section
/-! The rules of a DRAM controller's state: what it keeps beyond its registers after a store, and the fields of its
registers (R316, R338). -/

namespace Sys2Proof.Machine

open Reg

/-! ### What a controller keeps beyond its registers -/

section
variable (s : State) (n : Nat)

/-- Storing a controller whose queues stay empty, or stay in use, leaves it as it is given. -/
@[simp] theorem State.dmc_setDmc {v : DmcState}
    (queues : (v.reads.isEmpty && v.writes.isEmpty) = ((s.dmc n).reads.isEmpty && (s.dmc n).writes.isEmpty)) :
    (s.setDmc n v).dmc n = v := by
  have unstamped : (v.reads.isEmpty && v.writes.isEmpty
      && !((s.dmc n).reads.isEmpty && (s.dmc n).writes.isEmpty)) = false := by rw [queues, Bool.and_not_self]
  refine Eq.trans (KMap.get_set_same ..) (if_neg ?_)
  rw [unstamped]
  exact Bool.false_ne_true

/-- The registers after a controller is stored: DMC_STAT shows the entries in use. -/
theorem State.regs_setDmc (v : DmcState) : (s.setDmc n v).regs
    = ((s.put (DMC_STAT.rd_used n) v.reads.length).put (DMC_STAT.wr_used n) v.writes.length).regs := by
  unfold State.setDmc
  dsimp only
  split <;> rfl

theorem State.sameRegs_setDmc (v : DmcState) : s.SameRegs (s.setDmc n v) [DMC_STAT.off n] := fun o ho =>
  (State.word_of_regs (s.regs_setDmc n v) o).trans
    (((s.sameRegs_put (DMC_STAT.rd_used n) _).put (f := DMC_STAT.wr_used n) List.mem_cons_self _) o ho)

/-- A field above the counts of entries reads as before, whatever its register. -/
theorem State.get_setDmc_above (v : DmcState) {f : Field} (width : f.hi < 32) (above : 14 < f.lo) :
    (s.setDmc n v).get f = s.get f := by
  rw [State.get_of_regs (s.regs_setDmc n v), State.get_put_apart _ _ width (.inr (by simp [DMC_STAT.wr_used]; omega)),
    State.get_put_apart _ _ width (.inr (by simpa [DMC_STAT.rd_used] using above))]

@[simp] theorem State.dmcState_setDmc (v : DmcState) : (s.setDmc n v).dmcState n = s.dmcState n :=
  s.get_setDmc_above n v (by simp [DMC_STAT.state]) (by simp [DMC_STAT.state])

@[simp] theorem State.dmc_setWord (o : Nat) (w : Word) : (s.setWord o w).dmc n = s.dmc n := rfl
@[simp] theorem State.dmc_put (f : Field) (v : Nat) : (s.put f v).dmc n = s.dmc n := rfl
@[simp] theorem State.dmc_count (f : Field) : (s.count f).dmc n = s.dmc n := rfl
@[simp] theorem State.dmc_write (o : Nat) (v : Word) : (s.write o v).dmc n = s.dmc n := rfl
@[simp] theorem State.dmc_elapse (k : Nat) : (s.elapse k).dmc n = s.dmc n := rfl
@[simp] theorem State.dram_setDmc (v : DmcState) : (s.setDmc n v).dram = s.dram := rfl

/-- A write of another register leaves the state of the controller. -/
theorem State.dmcState_write {o : Nat} (v : Word) (other : o ≠ DMC_STAT.off n) :
    (s.write o v).dmcState n = s.dmcState n :=
  (s.sameRegs_write o v).get_eq (by simpa [DMC_STAT.state] using other.symm)

@[simp] theorem State.dmcState_write_ctrl (v : Word) : (s.write (DMC_CTRL.off n) v).dmcState n = s.dmcState n :=
  s.dmcState_write n v (by simp [DMC_CTRL.off, DMC_STAT.off])

@[simp] theorem State.dmcState_write_maint (v : Word) : (s.write (DMC_MAINT.off n) v).dmcState n = s.dmcState n :=
  s.dmcState_write n v (by simp [DMC_MAINT.off, DMC_STAT.off])

@[simp] theorem State.dmcState_put_state {v : Nat} : (s.put (DMC_STAT.state n) v).dmcState n = v % 16 :=
  State.get_put_same _ _ (by simp [DMC_STAT.state])

/-- Another field of the controller's registers is stored. -/
theorem State.dmcState_put_ne {f : Field} (v : Nat) (apart : (DMC_STAT.state n).off ≠ f.off ∨ f.hi < 28) :
    (s.put f v).dmcState n = s.dmcState n := by
  rcases apart with off | below
  · exact s.get_put_off v off
  · exact s.get_put_apart v (by simp [DMC_STAT.state]) (.inr below)

end

end Sys2Proof.Machine
end

section
/-! Service, training and maintenance of a DRAM controller (R316, R317, R330, R333, R334, R336, R339). -/

namespace Sys2Proof.Machine

open Reg

/-! ### Enable and disable -/

section
variable {s : State} {n : Nat} {v : Word}

/-- A write of DMC_CTRL that sets enable in OFF starts training where the geometry fits (R317, R330). -/
theorem State.writeDmcCtrl_enables (was : s.is (DMC_CTRL.enable n) = false) (off : s.dmcState n = 0)
    (on : (s.write (DMC_CTRL.off n) v).is (DMC_CTRL.enable n) = true)
    (pred : (s.write (DMC_CTRL.off n) v).get (DMC_CTRL.pred n) ≠ 3) :
    s.writeDmcCtrl n v =
      let u := s.write (DMC_CTRL.off n) v
      if u.geometryFits n then u.startTraining n else u.put (DMC_STAT.reason n) 1 := by
  simp [State.writeDmcCtrl, State.when_of_false (decide_eq_false pred), was, on, off]

/-- A write of DMC_CTRL that clears enable acts by the state of the controller (R339). -/
theorem State.writeDmcCtrl_disables (was : s.is (DMC_CTRL.enable n) = true)
    (on : (s.write (DMC_CTRL.off n) v).is (DMC_CTRL.enable n) = false)
    (pred : (s.write (DMC_CTRL.off n) v).get (DMC_CTRL.pred n) ≠ 3) :
    s.writeDmcCtrl n v = (s.write (DMC_CTRL.off n) v).disableDmc n := by
  simp [State.writeDmcCtrl, State.when_of_false (decide_eq_false pred), was, on]

end

section
variable (s : State) (n : Nat)

theorem State.dmcState_startTraining : (s.startTraining n).dmcState n = 1 := by
  rw [State.startTraining, State.dmcState_put_ne _ _ _ (.inr (by simp [DMC_STAT.trained])),
    State.dmcState_put_ne _ _ _ (.inr (by simp [DMC_STAT.reason])), State.dmcState_put_state]

theorem State.reason_startTraining : (s.startTraining n).get (DMC_STAT.reason n) = 0 := by
  rw [State.startTraining,
    State.get_put_apart _ _ (by simp [DMC_STAT.reason]) (by simp [DMC_STAT.reason, DMC_STAT.trained]),
    State.get_put_same _ _ (by simp [DMC_STAT.reason]), Nat.zero_mod]

end

/-! ### READY -/

theorem portQuay_dmcPort : ∀ n < 8, portQuay (dmcPort n) = none := by decide

theorem routerPort_dmcPort_below : ∀ n < 8,
    (NOC_RTR_PORT.state (portRouter (dmcPort n)) (portLocal (dmcPort n))).off < DMC_CTRL.off 0 := by decide

section
variable (s : State) {n : Nat} (hn : n < 8)
include hn

/-- The edge port of a controller opens, which its router's registers alone show. -/
theorem State.sameRegs_openPort_dmcPort : s.SameRegs (s.openPort (dmcPort n))
    [(NOC_RTR_PORT.state (portRouter (dmcPort n)) (portLocal (dmcPort n))).off] := by
  rw [State.openPort, State.setPortState, portQuay_dmcPort n hn]
  exact s.sameRegs_put _ 0

/-- A register from the controllers' pages on stands as an edge port of theirs opens. -/
theorem State.get_openPort_dmcPort {f : Field} (own : DMC_CTRL.off 0 ≤ f.off) :
    (s.openPort (dmcPort n)).get f = s.get f :=
  (s.sameRegs_openPort_dmcPort hn).get_eq
    (List.mem_singleton.not.2 (Nat.ne_of_gt ((routerPort_dmcPort_below n hn).trans_le own)))

theorem State.dmcState_dmcReady : (s.dmcReady n).dmcState n = 2 := by
  rw [State.dmcReady, State.dmcState,
    State.get_openPort_dmcPort _ hn (by simp [DMC_STAT.state, DMC_STAT.off, DMC_CTRL.off]; omega)]
  have other : (DMC_STAT.state n).off ≠ (DMC_PATROL.running n).off := by
    simp [DMC_STAT.state, DMC_STAT.off, DMC_PATROL.running, DMC_PATROL.off]
  exact (State.dmcState_put_ne _ _ _ (.inl other)).trans (State.dmcState_put_state ..)

theorem State.running_dmcReady : (s.dmcReady n).get (DMC_PATROL.running n) = 1 := by
  rw [State.dmcReady,
    State.get_openPort_dmcPort _ hn (by simp [DMC_PATROL.running, DMC_PATROL.off, DMC_CTRL.off]; omega),
    State.get_put_same _ _ (by simp [DMC_PATROL.running])]
  simp [DMC_PATROL.running]

theorem State.trained_dmcReady :
    (s.dmcReady n).get (DMC_STAT.trained n) = s.get (DMC_STAT.trained n) := by
  rw [State.dmcReady, State.get_openPort_dmcPort _ hn (by simp [DMC_STAT.trained, DMC_STAT.off, DMC_CTRL.off]; omega),
    State.get_put_off _ _ (by simp [DMC_STAT.trained, DMC_STAT.off, DMC_PATROL.running, DMC_PATROL.off]),
    State.get_put_apart _ _ (by simp [DMC_STAT.trained]) (by simp [DMC_STAT.trained, DMC_STAT.state]),
    State.get_setDmc_above _ _ _ (by simp [DMC_STAT.trained]) (by simp [DMC_STAT.trained])]

end

/-! ### Training -/

/-- The controller that enters READY with a saved record. -/
def State.readyFromRecord (s : State) (n : Nat) : State :=
  ((s.put (DMC_STAT.trained n) 2).setDmc n { s.dmc n with kept := false }).dmcReady n

theorem State.trained_readyFromRecord (s : State) (n : Fin 8) :
    (s.readyFromRecord n).get (DMC_STAT.trained n) = 2 := by
  rw [State.readyFromRecord, State.trained_dmcReady _ n.isLt,
    State.get_setDmc_above _ _ _ (by simp [DMC_STAT.trained]) (by simp [DMC_STAT.trained]),
    State.get_put_same _ _ (by simp [DMC_STAT.trained])]
  simp [DMC_STAT.trained]

section
variable {s : State} {n : Fin 8} (training : s.dmcState n = 1)
include training

/-- A saved record is tried at the first step of training: with a good eye and a valid record the controller is READY,
else it trains in full (R330, R331). -/
theorem exec_trainingRecordRead_saved (first : (s.dmc n).step = 0) (kept : (s.dmc n).kept = false) (ids : List Byte)
    (ok : Bool) : exec (.trainingRecordRead n ids ok) s = .next
      (if ok && s.recordValid n (s.flashBytes (s.get (DMC_TRN_SRC.v n)) 2048) ids then
        (s.readyFromRecord n).raise (pageDMC n) 0 INFO 0x0A01 0 0
      else s.setDmc n { s.dmc n with step := 2 }) := by
  show execTrainingRecordRead n ids ok s = _
  unfold execTrainingRecordRead
  rw [if_neg (by simp [training, first])]
  simp only [kept, Bool.false_or, apply_ite Host.Outcome.next]
  rfl

section
variable (busy : (s.dmc n).step ≠ 0) (d : BitVec 2) (w : BitVec 1) (a : BitVec 2) (ids set : List Byte)
include busy

theorem exec_trainingStepEnd_fails :
    exec (.trainingStepEnd n false d w a ids set) s = .next (s.trainingFails n (s.dmc n).step) := by
  show execTrainingStepEnd n false d w a ids set s = _
  simp [execTrainingStepEnd, training, busy]

theorem exec_trainingStepEnd_goesOn (plain : (s.dmc n).step ≠ 3) (more : (s.dmc n).step < 7) :
    exec (.trainingStepEnd n true d w a ids set) s
      = .next (s.setDmc n { s.dmc n with step := (s.dmc n).step + 1 }) := by
  show execTrainingStepEnd n true d w a ids set s = _
  simp [execTrainingStepEnd, training, busy, plain, more]

end

/-- The command and address step finds devices of another density (R315). -/
theorem exec_trainingStepEnd_geometry (address : (s.dmc n).step = 3) {d : BitVec 2}
    (differs : d.toNat ≠ s.get (DMC_GEOM.density n)) (w : BitVec 1) (a : BitVec 2) (ids set : List Byte) :
    exec (.trainingStepEnd n true d w a ids set) s = .next (s.trainingFails n 1) := by
  show execTrainingStepEnd n true d w a ids set s = _
  simp [execTrainingStepEnd, training, address, differs]

theorem exec_trainingStepEnd_done (last : (s.dmc n).step = 7) (d : BitVec 2) (w : BitVec 1) (a : BitVec 2)
    (ids set : List Byte) :
    exec (.trainingStepEnd n true d w a ids set) s = .next (s.trainingDone n ids set) := by
  show execTrainingStepEnd n true d w a ids set s = _
  simp [execTrainingStepEnd, training, last]

end

/-! ### Maintenance requests (R333) -/

section
variable {s : State} {n : Nat} {v : Word}

/-- Outside READY every request of DMC_MAINT is answered REFUSED. -/
theorem State.writeMaint_refused (notReady : s.dmcState n ≠ 2)
    (asked : (bit v 31 || bit v 29 || bit v 28 || bit v 27) = true) :
    s.writeMaint n v = (s.write (DMC_MAINT.off n) v).put (DMC_MAINT.answer n) 3 := by
  simp [State.writeMaint, asked, notReady]

/-- The requests that a word makes of DMC_MAINT: cancel, patrol restart, tracking and retrain. -/
structure MaintBits (v : Word) (cancel patrol track retrain : Bool) : Prop where
  cancel : bit v 27 = cancel
  patrol : bit v 28 = patrol
  track : bit v 29 = track
  retrain : bit v 31 = retrain

section
variable (ready : s.dmcState n = 2)
include ready

theorem State.writeMaint_retrain (b : MaintBits v false false false true) : s.writeMaint n v =
    let u := s.write (DMC_MAINT.off n) v
    if u.is (DMC_MAINT.force n) || u.emptyLong n then (u.startRetrain n).put (DMC_MAINT.answer n) 1
    else (u.setDmc n { u.dmc n with deferred := true }).put (DMC_MAINT.answer n) 2 := by
  simp [State.writeMaint, State.when, b.cancel, b.patrol, b.track, b.retrain, ready]

theorem State.writeMaint_cancel (b : MaintBits v true false false false)
    (deferred : ((s.write (DMC_MAINT.off n) v).dmc n).deferred = true) : s.writeMaint n v =
    let u := s.write (DMC_MAINT.off n) v
    ((u.setDmc n { u.dmc n with deferred := false }).put (DMC_MAINT.result n) 3).put (DMC_MAINT.answer n) 1 := by
  simp only [State.dmc_write] at deferred
  simp [State.writeMaint, State.when, b.cancel, b.patrol, b.track, b.retrain, ready, deferred]

theorem State.writeMaint_patrol (b : MaintBits v false true false false) : s.writeMaint n v =
    let u := s.write (DMC_MAINT.off n) v
    (u.setDmc n { u.dmc n with patrolAt := 0 }).put (DMC_MAINT.answer n) 1 := by
  simp [State.writeMaint, State.when, b.cancel, b.patrol, b.track, b.retrain, ready]

theorem State.writeMaint_track (b : MaintBits v false false true false) : s.writeMaint n v =
    let u := s.write (DMC_MAINT.off n) v
    (u.setDmc n { u.dmc n with
      trackDue := ((u.dmc n).trackDue.set flagDefault 0 true).set flagDefault 1 true }).put (DMC_MAINT.answer n) 1 := by
  simp [State.writeMaint, State.when, b.cancel, b.patrol, b.track, b.retrain, ready]

end

theorem State.get_answer_put {a : Nat} (fits : a < 4) :
    (s.put (DMC_MAINT.answer n) a).get (DMC_MAINT.answer n) = a :=
  (State.get_put_same _ _ (by simp [DMC_MAINT.answer])).trans (Nat.mod_eq_of_lt fits)

/-- Tracking that is due in both ranks. -/
theorem KMap.get_set_both (m : KMap Bool) {r : Nat} (hr : r < 2) :
    ((m.set flagDefault 0 true).set flagDefault 1 true).get flagDefault r = true := by
  rw [KMap.get_set, KMap.get_set]
  split_ifs with second first
  · rfl
  · rfl
  · omega

end

/-! ### Retraining (R333, R334) -/

section
variable {s : State} {n : Nat}

/-- A retrain that ends with enable set leaves the controller READY. -/
theorem State.endRetrain_enabled (on : s.is (DMC_CTRL.enable n) = true) (result : Nat) :
    s.endRetrain n result = (s.put (DMC_STAT.state n) 2).put (DMC_MAINT.result n) result := by
  have apart : (DMC_CTRL.enable n).off ∉ [DMC_STAT.off n, DMC_MAINT.off n] := by
    simp [DMC_CTRL.enable, DMC_CTRL.off, DMC_STAT.off, DMC_MAINT.off]
  have same : s.SameRegs ((s.put (DMC_STAT.state n) 2).put (DMC_MAINT.result n) result)
      [DMC_STAT.off n, DMC_MAINT.off n] :=
    (s.sameRegs_put (DMC_STAT.state n) 2).trans (State.sameRegs_put _ (DMC_MAINT.result n) result)
  have stays : (!((s.put (DMC_STAT.state n) 2).put (DMC_MAINT.result n) result).is (DMC_CTRL.enable n)) = false := by
    rw [same.is_eq apart, on, Bool.not_true]
  unfold State.endRetrain
  exact State.when_of_false stays _

theorem State.dmcState_endRetrain (on : s.is (DMC_CTRL.enable n) = true) (result : Nat) :
    (s.endRetrain n result).dmcState n = 2 := by
  rw [State.endRetrain_enabled on, State.dmcState_put_ne _ _ _
    (.inl (by simp [DMC_STAT.state, DMC_STAT.off, DMC_MAINT.result, DMC_MAINT.off])), State.dmcState_put_state]

theorem State.result_endRetrain (on : s.is (DMC_CTRL.enable n) = true) {result : Nat} (fits : result < 4) :
    (s.endRetrain n result).get (DMC_MAINT.result n) = result := by
  rw [State.endRetrain_enabled on, State.get_put_same _ _ (by simp [DMC_MAINT.result])]
  exact Nat.mod_eq_of_lt fits

end

/-- Settles O43: each command by the branch of it that the state or the written word chooses. -/
theorem dramServiceCommandsComplete : Obligations.DramServiceCommandsComplete := by
  unfold Obligations.DramServiceCommandsComplete
  refine ⟨fun s n v was off on pred => ?enable, fun s n v was on pred => ?disable,
    fun s n ids ok training first kept => ?record, fun s n d w a ids set training busy => ?step,
    fun s n v cancel patrol track retrain => ?retrain, fun s n v ready => ?maintenance,
    fun s n deferred ready reads writes => ?start, fun s n retrains => ?ends⟩
  case enable =>
    have run : exec (.dmcEnable n v) s = .next _ :=
      congrArg Host.Outcome.next (State.writeDmcCtrl_enables was off on pred)
    exact ⟨fun fits => ⟨run.trans (congrArg _ (if_pos fits)), State.dmcState_startTraining ..,
        State.reason_startTraining ..⟩,
      fun misfit => run.trans (congrArg _ (if_neg (by simp [misfit])))⟩
  case disable =>
    have run : exec (.dmcDisable n v) s = .next _ :=
      congrArg Host.Outcome.next (State.writeDmcCtrl_disables was on pred)
    rw [run]
    refine ⟨fun state => ?_, fun state => ?_, fun state => ?_⟩ <;>
      simp only [State.disableDmc, State.dmcState_write_ctrl, state]
  case record =>
    have run := exec_trainingRecordRead_saved training first kept ids ok
    exact ⟨fun good => ⟨s.readyFromRecord n, s.trained_readyFromRecord n, State.dmcState_dmcReady _ n.isLt,
      State.running_dmcReady _ n.isLt, run.trans (congrArg _ (if_pos good))⟩,
      fun bad => run.trans (congrArg _ (if_neg (by simp [bad])))⟩
  case step =>
    exact ⟨exec_trainingStepEnd_fails training busy d w a ids set,
      exec_trainingStepEnd_goesOn training busy d w a ids set,
      fun address differs => exec_trainingStepEnd_geometry training address differs ..,
      fun last => exec_trainingStepEnd_done training last ..⟩
  case retrain =>
    have bits : MaintBits v false false false true := ⟨cancel, patrol, track, retrain⟩
    refine ⟨fun notReady => congrArg Host.Outcome.next (State.writeMaint_refused notReady (by simp [retrain])),
      fun ready force => ?_, fun ready force busy => ?_⟩
    all_goals refine congrArg Host.Outcome.next ((State.writeMaint_retrain ready bits).trans ?_)
    · exact if_pos (by simp [force])
    · exact if_neg (by simp [force, busy])
  case maintenance =>
    refine ⟨fun cancel patrol track retrain deferred => ?_, fun cancel patrol track retrain => ?_,
      fun cancel patrol track retrain => ?_⟩
    · exact congrArg Host.Outcome.next (State.writeMaint_cancel ready ⟨cancel, patrol, track, retrain⟩ deferred)
    · exact congrArg Host.Outcome.next (State.writeMaint_patrol ready ⟨cancel, patrol, track, retrain⟩)
    · refine ⟨_, congrArg Host.Outcome.next (State.writeMaint_track ready ⟨cancel, patrol, track, retrain⟩),
        State.get_answer_put (by decide), fun r hr => ?_⟩
      rw [State.dmc_put, State.dmc_setDmc]
      · exact KMap.get_set_both _ hr
      · rfl
  case start =>
    show execRetrainStart n s = _
    simp [execRetrainStart, deferred, ready, reads, writes]
  case ends =>
    refine ⟨fun reads writes => ?_, ?_,
      fun on => ⟨State.dmcState_endRetrain on 1, State.result_endRetrain on (by decide)⟩⟩
    · show execRetrainComplete n s = _
      simp [execRetrainComplete, retrains, reads, writes]
    · show execRetrainTimeout n s = _
      simp [execRetrainTimeout, retrains]

end Sys2Proof.Machine
end

section
/-! Requests, commands and upkeep of the DRAM (R319 to R329, R332, R342). -/

namespace Sys2Proof.Machine

open Reg

/-! ### Requests at the edge port (R319, R320, R342) -/

section
variable {s : State} {n : Fin 8} {p : Packet}

/-- In READY the one packet that waits at the edge port is judged. -/
theorem exec_dramRequest_alone (ready : s.dmcState n = 2)
    (waits : (s.port (dmcPort n)).posted = [p] ∧ (s.port (dmcPort n)).accepted = [] ∧ isPosted p = true
      ∨ (s.port (dmcPort n)).posted = [] ∧ (s.port (dmcPort n)).accepted = [p] ∧ isPosted p = false) :
    exec (.dramRequest n p) s = .next (s.dramAccept n p) := by
  show execDramRequest n p s = _
  rcases waits with ⟨posted, accepted, kind⟩ | ⟨posted, accepted, kind⟩
  · simp [execDramRequest, ready, posted, accepted, kind]
  · simp [execDramRequest, ready, posted, accepted, kind]

theorem exec_dramRequest_notReady (state : s.dmcState n ≠ 2) : exec (.dramRequest n p) s = .next s := by
  show execDramRequest n p s = _
  simp [execDramRequest, state]

/-- A request that is answered and that the key rules refuse is answered with an error. -/
theorem State.dramAccept_refused (answered : isPosted p = false) (rule : s.keyRule n (s.linesOfReq p).1 p = none) :
    s.dramAccept n p = (s.takeFromPort n p).answerFrom (dmcPort n) p 1 [] false 0 := by
  rcases lines : s.linesOfReq p with ⟨l, k⟩
  rw [lines] at rule
  simp [State.dramAccept, lines, rule, State.refuseAccess, answered, State.when]

/-- An unprotected posted write that finds room takes its entries. -/
theorem State.dramAccept_posted (posted : isPosted p = true)
    (rule : s.keyRule n (s.linesOfReq p).1 p = some none)
    (room : roomFor (s.dmc n).writes.length (s.linesOfReq p).2 p.cls.toNat = true) :
    s.dramAccept n p = ((s.takeFromPort n p).acceptWrite n (s.linesOfReq p).1 (s.linesOfReq p).2 none p).settleFlushes
      (dmcPort n) := by
  rcases lines : s.linesOfReq p with ⟨l, k⟩
  rw [lines] at rule room
  simp [State.dramAccept, lines, rule, posted, room]

/-- An unprotected read that finds no room waits. -/
theorem State.dramAccept_full (read : p.opcode = 0) (rule : s.keyRule n (s.linesOfReq p).1 p = some none)
    (full : roomFor (s.dmc n).reads.length (s.linesOfReq p).2 p.cls.toNat = false) :
    s.dramAccept n p = s := by
  rcases lines : s.linesOfReq p with ⟨l, k⟩
  rw [lines] at rule full
  simp [State.dramAccept, lines, rule, isPosted, read, full]

end

/-! ### The command slot (R321, R323, R325) -/

section
variable {s : State} {n : Fin 8}

theorem exec_dramCommandSlot_refresh (ready : s.dmcState n = 2) {i : Nat} (due : s.dueRefresh n = some i) :
    exec (.dramCommandSlot n) s = .next (s.refreshSame n i) := by
  show execDramCommandSlot n s = _
  simp [execDramCommandSlot, ready, due]

/-- The one entry of the queues that has no command yet can be given one. -/
theorem DmcState.mayGo_single {v : DmcState} {e : DmcEntry} (reads : v.reads = [e]) (writes : v.writes = [])
    (waits : e.issued = false) : v.mayGo e = true := by
  simp [DmcState.mayGo, DmcState.blocked, reads, writes, waits]

/-- A slot that serves a read after a read leaves the controller as it is. -/
theorem DmcState.unturned {v : DmcState} (writing : v.writing = false) :
    { v with writing := false, rtBursts := if false = v.writing then v.rtBursts else 0 } = v := by
  cases v
  cases writing
  rfl

/-- With reads alone the direction stays that of reads. -/
theorem State.direction_reads (s : State) (n : Nat) (writing : (s.dmc n).writing = false) (e : DmcEntry) :
    s.direction n [e] [] = false := by
  simp [State.direction, writing]

/-- Of one entry that one is chosen. -/
theorem State.choose_single (s : State) (n : Nat) {e : DmcEntry} (cls : e.eff ≤ 3) (old : e.id < (s.dmc n).nextId) :
    s.choose n [e] = some e := by
  have turn : min 64 (((s.linePlace n e.line).1 + 63 - (s.dmc n).lastBank) % 64)
      = ((s.linePlace n e.line).1 + 63 - (s.dmc n).lastBank) % 64 := by omega
  by_cases hit : (s.bank n (s.linePlace n e.line).1).row = some (s.linePlace n e.line).2
  · simp [State.choose, cls, turn, hit, old.le]
  · simp [State.choose, cls, turn, hit, old.le]

section
variable {e : DmcEntry} (ready : s.dmcState n = 2) (due : s.dueRefresh n = none) (reads : (s.dmc n).reads = [e])
  (writes : (s.dmc n).writes = []) (waits : e.issued = false) (writing : (s.dmc n).writing = false) (cls : e.eff ≤ 3)
  (old : e.id < (s.dmc n).nextId)
include ready due reads writes waits writing cls old

/-- A slot serves the one read that waits by the row of its bank. -/
theorem exec_dramCommandSlot_read :
    let u := s.setDmc n (s.dmc n)
    let at_ := u.linePlace n e.line
    ((u.bank n at_.1).row = none → exec (.dramCommandSlot n) s
      = .next (u.setBank n at_.1 { u.bank n at_.1 with row := some at_.2 }))
    ∧ (∀ r, (u.bank n at_.1).row = some r → exec (.dramCommandSlot n) s
      = .next (if r = at_.2 then u.column n e false else u.setBank n at_.1 { u.bank n at_.1 with row := none })) := by
  have mayGo := DmcState.mayGo_single reads writes waits
  have rs : (s.dmc n).reads.filter (s.dmc n).mayGo = [e] := by simp [reads, mayGo]
  have ws : (s.dmc n).writes.filter (s.dmc n).mayGo = [] := by simp [writes]
  have chosen := (s.setDmc n (s.dmc n)).choose_single n cls (by rwa [State.dmc_setDmc _ _ rfl])
  refine ⟨fun row => ?_, fun r row => ?_⟩
  all_goals
    show execDramCommandSlot n s = _
    unfold execDramCommandSlot
    rw [if_neg (by simp [ready])]
    simp only [due, rs, ws, State.direction_reads s n writing, DmcState.unturned writing, Bool.false_eq_true, if_false,
      chosen, row, List.any_nil]
  exact (apply_ite Host.Outcome.next ..).symm

end

end

/-! ### Lines read without an error (R326, R327, R329) -/

section
variable {s : State} {n l : Nat}

theorem State.rawLine_stored {d : DramLine} (stored : s.dram.get dramDefault (dramKey n l) = some d) :
    s.rawLine n l = (d, s) := by
  rw [State.rawLine, stored]

/-- A line without a corrected word and without a bad one is not logged. -/
theorem State.logLine_clean {r : LineRead} (fixed : r.fixed = 0) (good : r.bad = false) : s.logLine n l r = s := by
  obtain ⟨codes, addresses⟩ : (!r.badC.isEmpty) = false ∧ (!r.badA.isEmpty) = false := Bool.or_eq_false_iff.1 good
  simp only [State.logLine, State.countFixed, fixed, if_pos, State.when_of_false good, State.when_of_false codes,
    State.when_of_false addresses]

/-- A line without a corrected word is not written back. -/
theorem State.writeBack_clean {r : LineRead} (fixed : r.fixed = 0) (rgn : Option Nat) : s.writeBack n l rgn r = s := by
  simp [State.writeBack, fixed]

end

section
variable {s : State} {n : Fin 8}

/-- The line of an unprotected read comes back without an error and is handed on. -/
theorem exec_dramReadData_read {e : DmcEntry} {d : DramLine} {p : Packet}
    (found : ((s.dmc n).reads ++ (s.dmc n).writes).find? (fun f => decide (f.id = e.id) && f.issued) = some e)
    (read : e.kind = .read) (stored : s.dram.get dramDefault (dramKey n e.line) = some d) (plain : e.rgn = none)
    (req : e.req = some p) :
    let r := decodeLine (s.lineRank n e.line) e.line (disturb d [])
    r.fixed = 0 → r.bad = false → exec (.dramReadData n e.id []) s
      = .next (((s.logLine n e.line r).dropEntry n e).readLine n p e.pos (some r.data)) := by
  intro r fixed good
  show execDramReadData n e.id [] s = _
  simp only [execDramReadData, found, State.rawLine_stored stored, read, plain, req]
  rw [State.writeBack_clean fixed, if_neg (by simp [r, good])]
  simp only [State.plainOf, r]

/-! ### Ageing (R322) -/

/-- The one queued read has waited for one more multiple of its limit. -/
theorem exec_agePromotion_single {e : DmcEntry} (reads : (s.dmc n).reads = [e]) (writes : (s.dmc n).writes = [])
    (eff : e.eff ≠ 0) (limit : s.ageLimit n e.cls ≠ 0) : exec (.agePromotion n e.id) s
      = .next ((s.elapse (e.since + (e.cls - e.eff + 1) * s.ageLimit n e.cls - s.now)).setDmc n
          { s.dmc n with reads := [{ e with eff := min e.eff (e.eff - 1) }], writes := [] }) := by
  show execAgePromotion n e.id s = _
  simp [execAgePromotion, reads, writes, eff, limit]

end

/-! ### Refresh debt (R323, R324) -/

/-- One refresh more is owed of the index `k`. -/
def State.oweOne (s : State) (n k : Nat) : State :=
  s.setDmc n { s.dmc n with owed := (s.dmc n).owed.set natDefault k ((s.dmc n).owed.get natDefault k + 1) }

section
variable (s : State) (n : Nat)

theorem State.owed_oweOne (k j : Nat) : ((s.oweOne n k).dmc n).owed.get natDefault j
    = if j = k then (s.dmc n).owed.get natDefault k + 1 else (s.dmc n).owed.get natDefault j := by
  simp [State.oweOne, KMap.get_set]

theorem State.sameRegs_oweOne (k : Nat) : s.SameRegs (s.oweOne n k) [DMC_STAT.off n] := s.sameRegs_setDmc n _

/-- One refresh more is owed of each index of a rank. -/
def State.oweFour (s : State) (n rank : Nat) : State := s.each (List.range 4) fun s b => s.oweOne n (4 * rank + b)

theorem State.owedOf_eq (rank : Nat) : s.owedOf n rank
    = (s.dmc n).owed.get natDefault (4 * rank) + (s.dmc n).owed.get natDefault (4 * rank + 1)
      + (s.dmc n).owed.get natDefault (4 * rank + 2) + (s.dmc n).owed.get natDefault (4 * rank + 3) := by
  simp [State.owedOf, List.range_succ]

theorem State.oweFour_eq (rank : Nat) : s.oweFour n rank
    = (((s.oweOne n (4 * rank)).oweOne n (4 * rank + 1)).oweOne n (4 * rank + 2)).oweOne n (4 * rank + 3) := rfl

theorem State.owedOf_oweFour (rank : Nat) : (s.oweFour n rank).owedOf n rank = s.owedOf n rank + 4 := by
  simp only [State.owedOf_eq, State.oweFour_eq, State.owed_oweOne]
  simp
  omega

theorem State.get_oweFour (rank : Nat) {f : Field} (other : f.off ≠ DMC_STAT.off n) :
    (s.oweFour n rank).get f = s.get f :=
  s.each_keeps (State.get · f) _ _ fun t b =>
    (t.sameRegs_oweOne n (4 * rank + b)).get_eq (List.mem_singleton.not.2 other)

theorem State.dram_oweFour (rank : Nat) : (s.oweFour n rank).dram = s.dram :=
  s.each_keeps State.dram _ _ fun t _ => t.dram_setDmc n _

/-- Debt below the limit asks for no all-bank refresh. -/
theorem State.refreshAll_below {rank : Nat} (below : s.owedOf n rank / 4 < s.get (DMC_REF.postpone n)) (k : Nat) :
    s.refreshAll n rank k = s := by
  cases k with
  | zero => rfl
  | succ k => exact if_pos below

end

theorem exec_refreshInterval_below {s : State} {n : Fin 8} {rank : Fin 2} (ready : s.dmcState n = 2)
    (present : rank.val ≤ s.get (DMC_GEOM.ranks n)) (below : s.owedOf n rank / 4 + 1 < s.get (DMC_REF.postpone n)) :
    exec (.refreshInterval n rank) s = .next (s.oweFour n rank) := by
  show execRefreshInterval n rank s = _
  have still : (s.oweFour n rank).owedOf n rank / 4 < (s.oweFour n rank).get (DMC_REF.postpone n) := by
    rw [State.owedOf_oweFour, State.get_oweFour _ _ _ (by simp [DMC_REF.postpone, DMC_REF.off, DMC_STAT.off])]
    omega
  unfold execRefreshInterval
  rw [if_neg (by simp [ready, present])]
  exact congrArg Host.Outcome.next (State.refreshAll_below _ _ still _)

/-! ### The patrol (R329) -/

theorem State.SameRegs.dcapBytes {s t : State} {os : List Nat} {n : Nat} (same : s.SameRegs t os)
    (geometry : DMC_GEOM.off n ∉ os) (carved : MPE_CARVE.off n ∉ os) : t.dcapBytes n = s.dcapBytes n := by
  simp only [State.dcapBytes, State.dmcBytes, State.rankBytes, same.get_eq (f := DMC_GEOM.density n) geometry,
    same.is_eq (f := DMC_GEOM.width n) geometry, same.get_eq (f := DMC_GEOM.ranks n) geometry,
    same.get_eq (f := MPE_CARVE.mib n) carved]

section
variable {s : State} {n : Fin 8} (ready : s.dmcState n = 2)
include ready

/-- The patrol reads a line without an error that is not the last. -/
theorem exec_patrolRead_clean {d : DramLine} (stored : s.dram.get dramDefault (dramKey n (s.dmc n).patrolAt) = some d)
    (more : (s.dmc n).patrolAt + 1 < s.dcapBytes n / 64) :
    let l := (s.dmc n).patrolAt
    let r := decodeLine (s.lineRank n l) l (disturb d [])
    r.fixed = 0 → r.bad = false → exec (.patrolRead n []) s
      = .next ((s.count (DMC_RD_LINES.v n)).setDmc n { s.dmc n with patrolAt := l + 1 }) := by
  intro l r fixed good
  have size : (s.count (DMC_RD_LINES.v n)).dcapBytes n = s.dcapBytes n :=
    State.SameRegs.dcapBytes (s.sameRegs_put (DMC_RD_LINES.v n) _)
      (by simp [DMC_GEOM.off, DMC_RD_LINES.v, DMC_RD_LINES.off])
      (by simp [MPE_CARVE.off, DMC_RD_LINES.v, DMC_RD_LINES.off]; omega)
  show execPatrolRead n [] s = _
  unfold execPatrolRead
  rw [if_neg (by simp [ready])]
  simp only [State.rawLine_stored stored]
  rw [State.logLine_clean fixed good, State.writeBack_clean fixed, size, if_pos more]
  rfl

theorem exec_ceWindowEnd_ready : exec (.ceWindowEnd n) s = .next (s.newWindow n) :=
  congrArg Host.Outcome.next (State.when_of_true (by simp [ready]) _)

/-- The write DQS of a rank is shifted by no more than a quarter of a unit interval (R332). -/
theorem exec_dqsTrack_within {rank : Fin 2} (present : rank.val ≤ s.get (DMC_GEOM.ranks n)) {change : Int}
    (within : ((s.dmc n).shift.get shiftDefault rank + change).natAbs ≤ 16) : exec (.dqsTrack n rank change) s
      = .next (s.setDmc n { s.dmc n with
          shift := (s.dmc n).shift.set shiftDefault rank ((s.dmc n).shift.get shiftDefault rank + change)
          trackDue := (s.dmc n).trackDue.set flagDefault rank false }) := by
  show execDqsTrack n rank change s = _
  unfold execDqsTrack
  rw [if_neg (by simp [ready, present])]
  exact congrArg Host.Outcome.next (State.when_of_false (by simpa using within) _)

end

theorem State.newWindow_empty (s : State) (n : Nat) :
    ((s.newWindow n).dmc n).ceCount = 0 ∧ ((s.newWindow n).dmc n).ceRaised = false := by
  simp [State.newWindow]

/-- Settles O44: each command by the branch of it that the state of the controller and its queues choose. -/
theorem dramRequestCommandsComplete : Obligations.DramRequestCommandsComplete := by
  unfold Obligations.DramRequestCommandsComplete
  refine ⟨fun s n p => exec_dramRequest_notReady, fun s n p ready waits => ?request,
    fun s n i ready due => exec_dramCommandSlot_refresh ready due,
    fun s n e ready due reads writes waits writing cls old _ => ?slot,
    fun s n e d p found read stored plain req => exec_dramReadData_read found read stored plain req,
    fun s n e reads writes eff limit => ?age, fun s n rank ready present below => ?refresh, fun s n rank dbl => ?poll,
    fun s n d ready stored more => ?patrol,
    fun s n ready => ⟨_, exec_ceWindowEnd_ready ready, (s.newWindow_empty n).1, (s.newWindow_empty n).2, rfl⟩,
    fun s n v => ?rate, fun s n rank change ready present within => ?track, fun s n rank => rfl⟩
  case request =>
    refine ⟨fun answered rule => ?_, fun posted rule room => ?_, fun read rule full => ?_⟩ <;>
      rw [exec_dramRequest_alone ready waits]
    · rw [State.dramAccept_refused answered rule]
    · rw [State.dramAccept_posted posted rule room]
    · rw [State.dramAccept_full read rule full]
  case slot =>
    obtain ⟨closed, opened⟩ := exec_dramCommandSlot_read ready due reads writes waits writing cls old
    refine ⟨_, rfl, ?_⟩
    split
    case h_1 row => exact closed row
    case h_2 r row => exact opened r row
  case age =>
    exact ⟨_, exec_agePromotion_single reads writes eff limit, by simp [reads], rfl⟩
  case refresh =>
    exact ⟨_, exec_refreshInterval_below ready present below, State.owedOf_oweFour ..,
      State.get_oweFour _ _ _ (by simp [DMC_REFAB.v, DMC_REFAB.off, DMC_STAT.off]), State.dram_oweFour ..⟩
  case poll =>
    exact ⟨_, rfl, by simp, rfl⟩
  case patrol =>
    intro l r fixed good
    refine ⟨_, exec_patrolRead_clean ready stored more fixed good, ?_, rfl, ?_⟩
    · rw [State.dmc_setDmc]
      rfl
    · rw [(State.sameRegs_setDmc _ _ _).get_eq (by simp [DMC_RD_LINES.v, DMC_RD_LINES.off, DMC_STAT.off]),
        State.get_count_same _ (by simp [DMC_RD_LINES.v])]
      rfl
  case rate =>
    exact ⟨_, rfl, (State.newWindow_empty _ n).1, (State.newWindow_empty _ n).2,
      State.sameRegs_setDmc _ _ _ _ (by simp [DMC_CE_RATE.off, DMC_STAT.off])⟩
  case track =>
    exact ⟨_, exec_dqsTrack_within ready present within, by simp, by simp, rfl⟩

end Sys2Proof.Machine
end

section
/-! Keys, regions, INIT, the nodes and the groups of a protection engine (R343 to R347, R351, R353, R355, R359 to
R362). -/

namespace Sys2Proof.Machine

open Reg

/-! ### What an engine keeps beyond its registers -/

section
variable (s : State) (n : Nat)

@[simp] theorem State.mpe_setMpe (v : MpeState) : (s.setMpe n v).mpe n = v := KMap.get_set_same ..

@[simp] theorem State.rgn_setRgn (r : Nat) (v : MpeRegion) : (s.setRgn n r v).rgn n r = v := by
  rw [State.rgn, State.setRgn, State.mpe_setMpe]
  exact KMap.get_set_same ..

@[simp] theorem State.mpeKey_setRgn (r : Nat) (v : MpeRegion) (id : Nat) :
    (s.setRgn n r v).mpeKey n id = s.mpeKey n id := by
  rw [State.mpeKey, State.setRgn, State.mpe_setMpe, State.mpeKey]

theorem State.rgn_of_mpes {s t : State} (same : t.mpes = s.mpes) (n r : Nat) : t.rgn n r = s.rgn n r := by
  simp only [State.rgn, State.mpe, same]

theorem State.mpeKey_of_mpes {s t : State} (same : t.mpes = s.mpes) (n id : Nat) : t.mpeKey n id = s.mpeKey n id := by
  simp only [State.mpeKey, State.mpe, same]

theorem State.OnlyRegs.mpes {s t : State} (only : s.OnlyRegs t) : t.mpes = s.mpes := by
  unfold State.OnlyRegs at only
  rw [only]

@[simp] theorem State.rgn_put (f : Field) (v r : Nat) : (s.put f v).rgn n r = s.rgn n r :=
  State.rgn_of_mpes rfl n r
@[simp] theorem State.rgn_count (f : Field) (r : Nat) : (s.count f).rgn n r = s.rgn n r :=
  State.rgn_of_mpes rfl n r

@[simp] theorem State.rgn_putWide (off k v r : Nat) : (s.putWide off k v).rgn n r = s.rgn n r :=
  State.rgn_of_mpes (s.onlyRegs_putWide off k v).mpes n r

@[simp] theorem State.mpeKey_put (f : Field) (v id : Nat) : (s.put f v).mpeKey n id = s.mpeKey n id :=
  State.mpeKey_of_mpes rfl n id
@[simp] theorem State.mpeKey_write (off : Nat) (v : Word) (id : Nat) : (s.write off v).mpeKey n id = s.mpeKey n id :=
  State.mpeKey_of_mpes rfl n id

@[simp] theorem State.mpeKey_putWide (off k v id : Nat) : (s.putWide off k v).mpeKey n id = s.mpeKey n id :=
  State.mpeKey_of_mpes (s.onlyRegs_putWide off k v).mpes n id

/-- Storing a region stores no register. -/
theorem State.SameRegs.setRgn {s t : State} {os : List Nat} (same : s.SameRegs t os) (n r : Nat) (v : MpeRegion) :
    s.SameRegs (t.setRgn n r v) os := same

theorem State.rgnState_setRgnState (r st : Nat) : (s.setRgnState n r st).rgnState n r = st % 16 :=
  s.get_put_same _ (by simp [MPE_RGN_STAT.state])

end

/-! ### Keys (R343, R344) -/

/-- Storing a key or none for a key ID changes that key alone. -/
theorem State.mpeKey_setKey (s : State) (n id : Nat) (k : Option (BitVec 256)) (j : Nat) :
    (s.setKey n id k).mpeKey n j = if j = id then k else s.mpeKey n j := by
  have stored : (s.setMpe n { s.mpe n with keys := (s.mpe n).keys.set keyDefault id k }).mpeKey n j
      = if j = id then k else s.mpeKey n j := by
    rw [State.mpeKey, State.mpe_setMpe]
    exact KMap.get_set ..
  cases k with
  | none => exact stored
  | some k =>
    refine Eq.trans ?_ stored
    refine State.each_keeps (State.mpeKey · n j) (State.put _ _ _) _ _ fun t r => ?_
    split
    · exact t.mpeKey_setRgn n r _ j
    · rfl

/-- The key registers lie apart from MPE_KEY_CMD. -/
theorem keyCmd_ne_key (n i : Nat) : MPE_KEY.off n 0 + 4 * i ≠ MPE_KEY_CMD.off n := by
  simp only [MPE_KEY.off, MPE_KEY_CMD.off]
  omega

section
variable {s : State} {n : Fin 8} {sender : Sender} {v : Word}

theorem State.writeKeyCmd_blocked (blocked : s.keyBlocked n sender = true) : s.writeKeyCmd n sender v = s :=
  if_pos blocked

/-- A load for a key ID that cannot change is refused. -/
theorem State.writeKeyCmd_barred (taken : s.keyBlocked n sender = false) (load : bit v 31 = true) :
    let u := s.write (MPE_KEY_CMD.off n) v
    let id := u.get (MPE_KEY_CMD.key_id n)
    (id = 0 ∨ u.boundIn n id (fun st => st = 1 || st = 2) = true) → s.writeKeyCmd n sender v
      = (u.put (MPE_KEY_CMD.result n) 3).raise (pageMPE n) 8 INFO 0x0B0A 0 0 := by
  intro u id barred
  have barred : (decide (id = 0) || u.boundIn n id fun st => st = 1 || st = 2) = true := by simpa using barred
  simp only [State.writeKeyCmd, taken, load, Bool.true_or, Bool.not_true, Bool.false_eq_true, if_false]
  exact if_pos barred

section
variable (taken : s.keyBlocked n sender = false)
include taken

/-- A load or an erase for a key ID that may change is carried out. -/
theorem State.writeKeyCmd_admitted (asks : (bit v 31 || bit v 30) = true) :
    let u := s.write (MPE_KEY_CMD.off n) v
    let id := u.get (MPE_KEY_CMD.key_id n)
    id ≠ 0 → u.boundIn n id (fun st => st = 1 || st = 2) = false → s.writeKeyCmd n sender v
      = (((u.when (bit v 31) fun u =>
          (u.setKey n id (some (BitVec.ofNat 256 (u.getWide (MPE_KEY.off n 0) 8)))).putWide (MPE_KEY.off n 0) 8 0).when
            (bit v 30) fun u => u.setKey n id none).put (MPE_KEY_CMD.result n) 1) := by
  intro u id named unbound
  have admitted : (decide (id = 0) || u.boundIn n id fun st => st = 1 || st = 2) = false := by simp [named, unbound]
  simp only [State.writeKeyCmd, taken, asks, Bool.not_true, Bool.false_eq_true, if_false]
  exact if_neg (by rw [admitted]; exact Bool.false_ne_true)

theorem State.writeKeyCmd_load (load : bit v 31 = true) (only : bit v 30 = false) :
    let u := s.write (MPE_KEY_CMD.off n) v
    let id := u.get (MPE_KEY_CMD.key_id n)
    id ≠ 0 → u.boundIn n id (fun st => st = 1 || st = 2) = false → s.writeKeyCmd n sender v
      = ((u.setKey n id (some (BitVec.ofNat 256 (s.getWide (MPE_KEY.off n 0) 8)))).putWide (MPE_KEY.off n 0) 8 0).put
          (MPE_KEY_CMD.result n) 1 := by
  intro u id named unbound
  have key : u.getWide (MPE_KEY.off n 0) 8 = s.getWide (MPE_KEY.off n 0) 8 :=
    State.getWide_of_same s fun j _ => s.sameRegs_write _ v _ (List.mem_singleton.not.2 (keyCmd_ne_key n j))
  rw [State.writeKeyCmd_admitted taken (by rw [load, Bool.true_or]) named unbound, State.when_of_true load,
    State.when_of_false only, key]

theorem State.writeKeyCmd_erase (only : bit v 31 = false) (erase : bit v 30 = true) :
    let u := s.write (MPE_KEY_CMD.off n) v
    let id := u.get (MPE_KEY_CMD.key_id n)
    id ≠ 0 → u.boundIn n id (fun st => st = 1 || st = 2) = false → s.writeKeyCmd n sender v
      = (u.setKey n id none).put (MPE_KEY_CMD.result n) 1 := by
  intro u id named unbound
  rw [State.writeKeyCmd_admitted taken (by rw [erase, Bool.or_true]) named unbound, State.when_of_false only,
    State.when_of_true erase]

end

end

theorem State.get_keyResult_put (s : State) (n : Nat) :
    (s.put (MPE_KEY_CMD.result n) 1).get (MPE_KEY_CMD.result n) = 1 :=
  s.get_put_same 1 (by simp [MPE_KEY_CMD.result])

/-- A cleared key reads as 0 whatever the result of the command. -/
theorem State.getWide_key_cleared (s : State) (n v : Nat) :
    ((s.putWide (MPE_KEY.off n 0) 8 0).put (MPE_KEY_CMD.result n) v).getWide (MPE_KEY.off n 0) 8 = 0 :=
  State.getWide_of_words (v := 0) _ fun i hi =>
    (State.word_put_ne _ _ (keyCmd_ne_key n i)).trans (s.word_putWide _ 0 hi)

/-! ### Requests for an INIT (R345, R361) -/

section
variable (s : State) (n r : Nat)

/-- The registers that an accepted request for an INIT stores after its answer: the high-water mark and the epoch. -/
def rgnInitRegs (n r : Nat) : List Nat :=
  ((List.range 2).map fun i => MPE_RGN_HWM.off n r 0 + 4 * i) ++ [MPE_RGN_EPOCH.off n r]

theorem rgnStat_not_mem_rgnInitRegs : MPE_RGN_STAT.off n r ∉ rgnInitRegs n r := by
  simp only [rgnInitRegs, List.mem_append, List.mem_map, List.mem_range, List.mem_singleton, MPE_RGN_STAT.off,
    MPE_RGN_HWM.off, MPE_RGN_EPOCH.off]
  omega

theorem rgnCfg_not_mem_rgnInitRegs : MPE_RGN_CFG.off n r ∉ rgnInitRegs n r := by
  simp only [rgnInitRegs, List.mem_append, List.mem_map, List.mem_range, List.mem_singleton, MPE_RGN_CFG.off,
    MPE_RGN_HWM.off, MPE_RGN_EPOCH.off]
  omega

theorem rgnCfg_ne_rgnStat : MPE_RGN_CFG.off n r ≠ MPE_RGN_STAT.off n r := by
  simp only [MPE_RGN_CFG.off, MPE_RGN_STAT.off]
  omega

/-- The INIT of `m` groups from group `a` is under way, and the epoch of the region shows. -/
def State.beginInit (s : State) (n r a m : Nat) : State :=
  let s := s.put (MPE_RGN_EPOCH.v n r) (s.rgn n r).rootA.epoch.toNat
  s.setRgn n r { s.rgn n r with init := some (a, m), fresh := false }

theorem State.SameRegs.beginInit {s t : State} {os : List Nat} (same : s.SameRegs t os) (n r a m : Nat) :
    s.SameRegs (t.beginInit n r a m) (os ++ [MPE_RGN_EPOCH.off n r]) :=
  (same.trans (t.sameRegs_put (MPE_RGN_EPOCH.v n r) _)).setRgn n r _

/-- After its answer and its state an accepted request stores the high-water mark and the epoch at most. -/
theorem State.sameRegs_startInit (a m : Nat) (restart : Bool) :
    ((s.rgnAnswer n r 1 0).setRgnState n r 1).SameRegs (s.startInit n r a m restart) (rgnInitRegs n r) := by
  cases restart with
  | true =>
    exact (((State.SameRegs.refl _ []).setRgn n r _).trans
      (State.sameRegs_putWide _ (MPE_RGN_HWM.off n r 0) 2 0)).beginInit n r a m
  | false => exact ((State.SameRegs.refl _ _).setRgn n r _).beginInit n r a m

/-- The state and the result of a region stand in MPE_RGN_STAT, where the rest of the request stores nothing. -/
theorem State.get_startInit_stat {f : Field} (stat : f.off = MPE_RGN_STAT.off n r) (a m : Nat) (restart : Bool) :
    (s.startInit n r a m restart).get f = ((s.rgnAnswer n r 1 0).setRgnState n r 1).get f :=
  (s.sameRegs_startInit n r a m restart).get_eq (stat ▸ rgnStat_not_mem_rgnInitRegs n r)

/-- What an answer and a state of a region store leaves MPE_RGN_CFG. -/
theorem State.get_cfg_answered {f : Field} (cfg : f.off = MPE_RGN_CFG.off n r) (result reason st : Nat) :
    ((s.rgnAnswer n r result reason).setRgnState n r st).get f = s.get f := by
  have other : f.off ≠ MPE_RGN_STAT.off n r := cfg ▸ rgnCfg_ne_rgnStat n r
  rw [State.setRgnState, State.get_put_off _ _ other, State.rgnAnswer, State.get_put_off _ _ other,
    State.get_put_off _ _ other]

theorem State.get_startInit_cfg {f : Field} (cfg : f.off = MPE_RGN_CFG.off n r) (a m : Nat) (restart : Bool) :
    (s.startInit n r a m restart).get f = s.get f :=
  ((s.sameRegs_startInit n r a m restart).get_eq (cfg ▸ rgnCfg_not_mem_rgnInitRegs n r)).trans
    (s.get_cfg_answered n r cfg 1 0 1)

theorem State.rgnState_startInit (a m : Nat) (restart : Bool) : (s.startInit n r a m restart).rgnState n r = 1 :=
  (s.get_startInit_stat n r rfl a m restart).trans (State.rgnState_setRgnState _ n r 1)

theorem State.result_startInit (a m : Nat) (restart : Bool) :
    (s.startInit n r a m restart).get (MPE_RGN_STAT.result n r) = 1 := by
  have width : (MPE_RGN_STAT.result n r).hi < 32 := by simp [MPE_RGN_STAT.result]
  rw [s.get_startInit_stat n r rfl, State.setRgnState,
    State.get_put_apart _ _ width (.inl (by simp [MPE_RGN_STAT.result, MPE_RGN_STAT.state])), State.rgnAnswer,
    State.get_put_apart _ _ width (.inl (by simp [MPE_RGN_STAT.result, MPE_RGN_STAT.reason])), s.get_put_same _ width]
  rfl

theorem State.init_startInit (a m : Nat) (restart : Bool) : ((s.startInit n r a m restart).rgn n r).init = some (a, m) :=
  congrArg MpeRegion.init (State.rgn_setRgn _ n r _)

/-- A region that restarts has both copies of its root cleared but for the key (R345, R360). -/
theorem State.roots_startInit_restart (a m : Nat) :
    ((s.startInit n r a m true).rgn n r).rootA = { key := BitVec.ofNat 6 (s.get (MPE_RGN_CFG.key n r)) }
      ∧ ((s.startInit n r a m true).rgn n r).rootB = { key := BitVec.ofNat 6 (s.get (MPE_RGN_CFG.key n r)) } := by
  simp [State.startInit, s.get_cfg_answered n r (f := MPE_RGN_CFG.key n r) rfl]

end

/-! ### Writes of MPE_RGN_CFG (R347, R361, R362) -/

/-- The enable of a region is set, with what its metadata and its tree take (R347, R348). -/
def State.layOutRegion (s : State) (n r : Nat) : State :=
  let s := (s.put (MPE_RGN_CFG.enable n r) 1).put (MPE_RGN_MLEN.v n r) (metaUnits (s.get (MPE_RGN_SIZE.mib n r)))
  s.put (MPE_RGN_STAT.levels n r) (levelCounts (s.rgnGroups n r) 7).length

theorem State.enable_layOutRegion (s : State) (n r : Nat) :
    (s.layOutRegion n r).get (MPE_RGN_CFG.enable n r) = 1 := by
  rw [State.layOutRegion,
    State.get_put_off _ _ (by simp [MPE_RGN_CFG.enable, MPE_RGN_STAT.levels, MPE_RGN_CFG.off, MPE_RGN_STAT.off]),
    State.get_put_off _ _ (by simp [MPE_RGN_CFG.enable, MPE_RGN_MLEN.v, MPE_RGN_CFG.off, MPE_RGN_MLEN.off]),
    s.get_put_same _ (by simp [MPE_RGN_CFG.enable])]
  rfl

/-- The groups of a region follow from its size alone. -/
theorem State.SameRegs.rgnGroups {s t : State} {os : List Nat} {n r : Nat} (same : s.SameRegs t os)
    (size : MPE_RGN_SIZE.off n r ∉ os) : t.rgnGroups n r = s.rgnGroups n r :=
  congrArg (· * 256) (same.get_eq (f := MPE_RGN_SIZE.mib n r) size)

theorem State.sameRegs_layOutRegion (s : State) (n r : Nat) :
    s.SameRegs (s.layOutRegion n r) [MPE_RGN_CFG.off n r, MPE_RGN_MLEN.off n r, MPE_RGN_STAT.off n r] :=
  (((State.SameRegs.refl s _).put (f := MPE_RGN_CFG.enable n r) (by simp [MPE_RGN_CFG.enable]) _).put
    (f := MPE_RGN_MLEN.v n r) (by simp [MPE_RGN_MLEN.v]) _).put (f := MPE_RGN_STAT.levels n r)
      (by simp [MPE_RGN_STAT.levels]) _

section
variable {s : State} {n r : Fin 8} {v : Word}

/-- The key of a region lies apart from its enable. -/
theorem State.is_enable_putKey (s : State) (n r v : Nat) :
    (s.put (MPE_RGN_CFG.key n r) v).is (MPE_RGN_CFG.enable n r) = s.is (MPE_RGN_CFG.enable n r) := by
  rw [State.is, s.get_put_apart v (by simp [MPE_RGN_CFG.enable])
    (.inr (by simp [MPE_RGN_CFG.enable, MPE_RGN_CFG.key])), State.is]

section
variable (off : s.rgnState n r = 0) (clear : s.is (MPE_RGN_CFG.enable n r) = false) (set : bit v 31 = true)
  (alone : bit v 30 = false)
include off clear set alone

/-- An enable is refused by the first reason of the table of R347. -/
theorem State.writeRgnCfg_enable_refused {why : Nat}
    (reason : (s.put (MPE_RGN_CFG.key n r) (bitsOf v 5 0)).enableReason n r = some why) :
    let u := s.put (MPE_RGN_CFG.key n r) (bitsOf v 5 0)
    s.writeRgnCfg n r v = (u.rgnAnswer n r 3 why).raise (pageMPE n) 8 INFO 0x0B0A (u.rgnFirst n r * 64) r := by
  simp only [State.writeRgnCfg, State.when, off, decide_true, Bool.true_or, State.is_enable_putKey, clear, set, alone,
    Bool.not_false, Bool.and_true, Bool.false_and, if_true, Bool.false_eq_true, if_false, reason]

/-- An accepted enable starts the INIT of the whole region. -/
theorem State.writeRgnCfg_enable_accepted
    (reason : (s.put (MPE_RGN_CFG.key n r) (bitsOf v 5 0)).enableReason n r = none) :
    let u := s.put (MPE_RGN_CFG.key n r) (bitsOf v 5 0)
    s.writeRgnCfg n r v = (u.layOutRegion n r).startInit n r 0 (s.rgnGroups n r) true := by
  intro u
  have groups : (u.layOutRegion n r).rgnGroups n r = s.rgnGroups n r :=
    ((s.sameRegs_put (MPE_RGN_CFG.key n r) _).trans (u.sameRegs_layOutRegion n r)).rgnGroups
      (by simp [MPE_RGN_CFG.key, MPE_RGN_SIZE.off, MPE_RGN_CFG.off, MPE_RGN_MLEN.off, MPE_RGN_STAT.off])
  rw [← groups]
  simp only [State.writeRgnCfg, State.when, off, decide_true, Bool.true_or, State.is_enable_putKey, clear, set, alone,
    Bool.not_false, Bool.and_true, Bool.false_and, if_true, Bool.false_eq_true, if_false, reason]
  rfl

end

/-- Clearing the enable of an ACTIVE region lets it turn OFF. -/
theorem State.writeRgnCfg_disable (active : s.rgnState n r = 2) (enabled : s.is (MPE_RGN_CFG.enable n r) = true)
    (clears : bit v 31 = false) (alone : bit v 30 = false) :
    s.writeRgnCfg n r v = (s.setRgn n r { s.rgn n r with closing := true }).settleRegions n := by
  simp [State.writeRgnCfg, State.when, active, enabled, clears, alone]

section
variable (quiet : bit v 31 = false) (go : bit v 30 = true) (disabled : s.is (MPE_RGN_CFG.enable n r) = false)
include quiet go disabled

/-- A region in INIT takes no other INIT. -/
theorem State.writeRgnCfg_go_busy (busy : s.rgnState n r = 1) : s.writeRgnCfg n r v = s.rgnAnswer n r 3 5 := by
  simp [State.writeRgnCfg, State.when, busy, disabled, quiet, go]

/-- An ACTIVE region whose epoch is not spent takes an INIT of the whole. -/
theorem State.writeRgnCfg_go_whole (active : s.rgnState n r = 2) (whole : s.get (MPE_RGN_INIT_LEN.v n r) = 0)
    (clean : (s.mpe n).poison = []) (unspent : (s.rgn n r).rootA.epoch ≠ BitVec.allOnes 24) :
    s.writeRgnCfg n r v = s.startInit n r 0 (s.rgnGroups n r) false := by
  simp [State.writeRgnCfg, State.when, active, disabled, quiet, go, whole, clean, unspent,
    -BitVec.reduceAllOnes]

end

end

/-! ### The end of an INIT (R361) -/

/-- The lines of `m` groups from group `a` are zero plaintext under fresh counters, their poison entries are free, and
the region is ACTIVE. -/
def State.endInit (s : State) (n r a m : Nat) : State :=
  let g := s.rgn n r
  let lo := s.rgnFirst n r + 64 * a
  let hi := s.rgnFirst n r + 64 * (a + m)
  let z : ZeroRun := { lo := lo, hi := hi, epoch := g.rootA.epoch, key := some (s.rgnKey n r) }
  let inside (e : Nat × Nat × Nat) : Bool :=
    e.1 = r && decide (64 * a ≤ firstLine e.2.1 e.2.2) && decide (firstLine e.2.1 e.2.2 < 64 * (a + m))
  let v := s.mpe n
  let s := (s.loseLines n lo hi).setMpe n { v with zeros := z :: v.zeros, poison := v.poison.filter fun e => !inside e }
  (s.setRgn n r { g with
    init := none, leaves := g.leaves.eraseRange a (a + m), tags := g.tags.eraseRange (64 * a) (64 * (a + m)),
    epochs := g.epochs.eraseRange (64 * a) (64 * (a + m)) }).setRgnState n r 2

theorem State.rgn_endInit (s : State) (n r a m : Nat) : (s.endInit n r a m).rgn n r = { s.rgn n r with
    init := none, leaves := (s.rgn n r).leaves.eraseRange a (a + m),
    tags := (s.rgn n r).tags.eraseRange (64 * a) (64 * (a + m)),
    epochs := (s.rgn n r).epochs.eraseRange (64 * a) (64 * (a + m)) } :=
  (State.rgn_put _ n _ _ r).trans (State.rgn_setRgn _ n r _)

theorem State.rgnState_endInit (s : State) (n r a m : Nat) : (s.endInit n r a m).rgnState n r = 2 :=
  State.rgnState_setRgnState _ n r 2

/-- Fresh leaves have counters of 0. -/
theorem State.leaves_endInit (s : State) (n r : Nat) {a m i : Nat} (low : a ≤ i) (high : i < a + m) :
    ((s.endInit n r a m).rgn n r).leaves.get leafDefault i = {} := by
  rw [State.rgn_endInit, KMap.get_eraseRange, if_pos ⟨low, high⟩]
  rfl

/-- An INIT ends when nothing is queued. -/
theorem exec_initComplete_idle {s : State} {n r : Fin 8} {a m : Nat} (init : (s.rgn n r).init = some (a, m))
    (reads : (s.dmc n).reads = []) (writes : (s.dmc n).writes = []) : exec (.initComplete n r) s
      = .next ((s.endInit n r a m).mpeEvent n 7 INFO 0x0B09 (s.rgnFirst n r + 64 * a) r 0) := by
  show execInitComplete n r s = _
  simp only [execInitComplete, init, reads, writes, List.append_nil, List.any_nil, Bool.false_eq_true, if_false]
  rfl

/-! ### Nodes (R351, R353, R359, R360) -/

theorem State.checkRoot_agreeing {s : State} {n r : Nat} (agree : (s.rgn n r).rootA = (s.rgn n r).rootB) :
    s.checkRoot n r = s := if_pos agree

/-- A node that is not cached is fetched: verified it enters the cache, and else it is poisoned. -/
theorem exec_nodeFetch_uncached {s : State} {n r : Fin 8} {level : Fin 9} {i : BitVec 26} (active : s.rgnState n r = 2)
    (depth : level.val ≤ s.get (MPE_RGN_STAT.levels n r)) (exist : i.toNat < s.nodeCount n r level)
    (absent : s.cached n r level i.toNat = false) (agree : (s.rgn n r).rootA = (s.rgn n r).rootB) (good : Bool) :
    let u := s.count (MPE_CC_MISS.v n)
    exec (.nodeFetch n r level i good false) s
      = .next (if good then u.cacheNode n r level i.toNat else u.addPoison n r level i.toNat) := by
  show execNodeFetch n r level i good false s = _
  simp [execNodeFetch, active, depth, exist, absent, State.checkRoot_agreeing agree]

/-! ### Groups (R355) -/

theorem State.mpes_rawLine (s : State) (n l : Nat) : (s.rawLine n l).2.mpes = s.mpes := by
  unfold State.rawLine
  split
  · rfl
  · dsimp only
    split <;> rfl

/-- Re-encrypting a line ends no re-encryption. -/
theorem State.groups_reencryptLine (s : State) (n r l : Nat) (old new : LineCtr) (fails : Bool) :
    ((s.reencryptLine n r l old new fails).rgn n r).groups = (s.rgn n r).groups := by
  have stored (d : DramLine) : ((s.rawLine n l).2.storeLine n l d).rgn n r = s.rgn n r :=
    State.rgn_of_mpes (s.mpes_rawLine n l) n r
  unfold State.reencryptLine
  dsimp only
  split
  · rw [State.rgn_setRgn, stored]
  · rw [stored]

/-- The lines of a group are re-encrypted in turn, from their counters to new ones. -/
def State.reencryptLines (s : State) (n r group : Nat) (new : LineCtr) (failed : List (Fin 64)) : State :=
  let first := s.rgnFirst n r + 64 * group
  let olds := (List.range 64).map fun i => (i, s.lineCtr n r (first + i))
  s.each olds fun s o => s.reencryptLine n r (first + o.1) o.2 new (failed.any fun f => f.val = o.1)

theorem State.groups_reencryptLines (s : State) (n r group : Nat) (new : LineCtr) (failed : List (Fin 64)) :
    ((s.reencryptLines n r group new failed).rgn n r).groups = (s.rgn n r).groups :=
  State.each_keeps (fun t => (t.rgn n r).groups) s _ _ fun t _ => t.groups_reencryptLine n r _ _ _ _

/-- A group stands under a major counter and minor counters of 0: its lines have the epoch of the region, the high-water
mark follows, its leaf is dirty, and the re-encryption is counted and no longer under way. -/
def State.closeGroup (s : State) (n r group : Nat) (major : BitVec 64) : State :=
  let g := s.rgn n r
  let epochs := (List.range 64).foldl (fun m i => m.set epochOfDefault (64 * group + i) (some g.rootA.epoch)) g.epochs
  let s := s.setRgn n r { g with
    leaves := g.leaves.set leafDefault group { major := major }, epochs := epochs,
    groups := g.groups.filter fun x => x.1 ≠ group }
  let s := s.setRoot n r fun x => { x with hwm := if x.hwm < major then major else x.hwm }
  let s := s.putWide (MPE_RGN_HWM.off n r 0) 2 (s.rgn n r).rootA.hwm.toNat
  (s.markNode n r 1 group true).count (MPE_REENC.v n)

section
variable (s : State) (n r : Nat)

@[simp] theorem State.rgn_markNode (level i : Nat) (dirty : Bool) :
    (s.markNode n r level i dirty).rgn n r = s.rgn n r := by
  rw [State.rgn, State.markNode, State.mpe_setMpe, State.rgn]

theorem State.rgn_setRoot (f : Root → Root) : (s.setRoot n r f).rgn n r
    = { s.rgn n r with rootA := f (s.rgn n r).rootA, rootB := f (s.rgn n r).rootB } := s.rgn_setRgn n r _

theorem State.leaf_closeGroup (group : Nat) (major : BitVec 64) :
    ((s.closeGroup n r group major).rgn n r).leaves.get leafDefault group = { major := major } := by
  simp [State.closeGroup, State.rgn_setRoot]

theorem State.groups_closeGroup (group : Nat) (major : BitVec 64) :
    ((s.closeGroup n r group major).rgn n r).groups = (s.rgn n r).groups.filter fun x => x.1 ≠ group := by
  simp [State.closeGroup, State.rgn_setRoot]

end

/-- The one group under re-encryption ends it, and the write that started it proceeds. -/
theorem exec_reencryptionComplete_alone {s : State} {n r : Fin 8} {group : Nat} {p : Packet}
    (alone : (s.rgn n r).groups = [(group, p)]) (reads : (s.dmc n).reads = []) (writes : (s.dmc n).writes = [])
    (failed : List (Fin 64)) :
    let major := ((s.rgn n r).leaves.get leafDefault group).major + 1
    let t := s.reencryptLines n r group { major := major, epoch := (s.rgn n r).rootA.epoch } failed
    let u := t.closeGroup n r group major
    exec (.reencryptionComplete n r group failed) s
      = .next (u.when (((u.port (dmcPort n)).posted ++ (u.port (dmcPort n)).accepted).contains p)
          fun v => v.dramAccept n p) := by
  have found : (s.rgn n r).groups.find? (fun g => g.1 = group) = some (group, p) := by simp [alone]
  show execReencryptionComplete n r group failed s = _
  simp only [execReencryptionComplete, found, reads, writes, List.append_nil, List.any_nil, Bool.false_eq_true, if_false]
  rfl

/-- Settles O45: each command by the branch that its guards choose; what an INIT, a key and a re-encryption store is read
off the engine's state, where later stores of registers leave it. -/
theorem protectionCommandsComplete : Obligations.ProtectionCommandsComplete := by
  unfold Obligations.ProtectionCommandsComplete
  refine ⟨fun s n sender v blocked => ?blocked, fun s n sender v taken => ?keys,
    fun s n r v off clear set => ?enable, fun s n r v active enabled clears alone => ?disable,
    fun s n r v quiet go disabled => ?go, fun s n r a m init reads writes => ?complete,
    fun s n r level i good active depth exist absent agree =>
      ⟨_, rfl, exec_nodeFetch_uncached active depth exist absent agree good⟩,
    fun s n r group failed p alone reads writes => ?group⟩
  case blocked =>
    have stays : s.writeKeyCmd n sender v = s := State.writeKeyCmd_blocked blocked
    exact ⟨congrArg Host.Outcome.next stays, congrArg Host.Outcome.next stays⟩
  case keys =>
    intro u id
    refine ⟨fun barred load => congrArg Host.Outcome.next (State.writeKeyCmd_barred taken load barred),
      fun named unbound => ⟨fun load only => ?load, fun only erase => ?erase⟩⟩
    case load =>
      refine ⟨_, congrArg Host.Outcome.next (State.writeKeyCmd_load taken load only named unbound), ?_,
        State.get_keyResult_put _ n, State.getWide_key_cleared _ n 1, fun j other => ?_⟩
      · rw [State.mpeKey_put, State.mpeKey_putWide, State.mpeKey_setKey, if_pos rfl]
      · rw [State.mpeKey_put, State.mpeKey_putWide, State.mpeKey_setKey, if_neg other, State.mpeKey_write]
    case erase =>
      refine ⟨_, congrArg Host.Outcome.next (State.writeKeyCmd_erase taken only erase named unbound), ?_,
        State.get_keyResult_put _ n, fun j other => ?_⟩
      · rw [State.mpeKey_put, State.mpeKey_setKey, if_pos rfl]
      · rw [State.mpeKey_put, State.mpeKey_setKey, if_neg other, State.mpeKey_write]
  case enable =>
    refine ⟨fun why reason alone =>
      congrArg Host.Outcome.next (State.writeRgnCfg_enable_refused off clear set alone reason), fun reason alone => ?_⟩
    obtain ⟨rootA, rootB⟩ := State.roots_startInit_restart
      ((s.put (MPE_RGN_CFG.key n r) (bitsOf v 5 0)).layOutRegion n r) n r 0 (s.rgnGroups n r)
    refine ⟨_, congrArg Host.Outcome.next (State.writeRgnCfg_enable_accepted off clear set alone reason),
      State.rgnState_startInit .., State.result_startInit .., ?_, State.init_startInit .., ?_, rootA.trans rootB.symm⟩
    · rw [State.get_startInit_cfg _ _ _ rfl, State.enable_layOutRegion]
    · rw [rootA]
  case disable => exact congrArg Host.Outcome.next (State.writeRgnCfg_disable active enabled clears alone)
  case go =>
    exact ⟨fun busy => congrArg Host.Outcome.next (State.writeRgnCfg_go_busy quiet go disabled busy),
      fun active whole clean unspent =>
        congrArg Host.Outcome.next (State.writeRgnCfg_go_whole quiet go disabled active whole clean unspent)⟩
  case complete =>
    exact ⟨_, s.rgnState_endInit n r a m, congrArg MpeRegion.init (s.rgn_endInit n r a m),
      fun i low high => s.leaves_endInit n r low high, exec_initComplete_idle init reads writes⟩
  case group =>
    refine ⟨_, congrArg Leaf.major (State.leaf_closeGroup _ n r group _),
      congrArg Leaf.minors (State.leaf_closeGroup _ n r group _), ?_,
      exec_reencryptionComplete_alone alone reads writes failed⟩
    rw [State.groups_closeGroup, State.groups_reencryptLines, alone]
    simp

end Sys2Proof.Machine
end

section
/-! The arithmetic of the throttle and of the margin planner (R501, R508 to R510). -/

namespace Sys2Proof.Machine

/-- Whether an edge is removed turns on its number modulo 16 alone. -/
theorem edgeRemoved_mod (l start i : Nat) : edgeRemoved l (start + i) = edgeRemoved l (start % 16 + i) := by
  have same : (start + i) * l % 16 = (start % 16 + i) * l % 16 := by
    rw [Nat.mul_mod, Nat.mul_mod (start % 16 + i), Nat.mod_add_mod]
  unfold edgeRemoved
  rw [same]

/-- Of 16 edges in a row level `l` removes `l`, wherever in the pattern they start. -/
theorem edgesRemoved_aligned : ∀ l < 16, ∀ r < 16,
    ((List.range 16).filter fun i => edgeRemoved l (r + i)).length = l := by decide +kernel

theorem clampMv_bounds (v : Int) : 700 ≤ clampMv v ∧ clampMv v ≤ 850 := by
  unfold clampMv
  omega

theorem autoRequest_rise {r v : Nat} (d : Bool) (rise : r ≤ v) : autoRequest (some r) d v = (v, false) := if_pos rise

theorem autoRequest_descending {r v : Nat} (fall : v < r) :
    autoRequest (some r) true v = (max v (r - 2), decide (max v (r - 2) ≠ v)) :=
  (if_neg (Nat.not_le.2 fall)).trans (if_pos rfl)

theorem autoRequest_level {r v : Nat} (fall : v < r) : autoRequest (some r) false v = (r, decide (v + 3 ≤ r)) :=
  (if_neg (Nat.not_le.2 fall)).trans (if_neg Bool.false_ne_true)

/-- A fall is of at most 2 mV and never passes the target. -/
theorem autoRequest_fall {r v : Nat} (d : Bool) (fall : v < r) :
    v ≤ (autoRequest (some r) d v).1 ∧ r ≤ (autoRequest (some r) d v).1 + 2 ∧ (autoRequest (some r) d v).1 ≤ r := by
  cases d with
  | false => rw [autoRequest_level fall]; dsimp only; omega
  | true => rw [autoRequest_descending fall]; dsimp only; omega

/-- Settles O13: the throttle's pattern has period 16; the planner's rules by the branches of its request. -/
theorem limitsOfPowerAndVoltage : Obligations.LimitsOfPowerAndVoltage := by
  unfold Obligations.LimitsOfPowerAndVoltage
  refine ⟨fun l start level => ?_, clampMv_bounds, fun r v d => autoRequest_rise d, fun r v d => autoRequest_fall d,
    fun r v fall => ?_, by decide⟩
  · simp only [edgeRemoved_mod l start]
    exact edgesRemoved_aligned l level (start % 16) (Nat.mod_lt _ (by decide))
  · rw [autoRequest_level fall]
    exact decide_eq_true_iff

end Sys2Proof.Machine
end

section
/-! The state right after reset. -/

namespace Sys2Proof.Machine

open Reg

/-- A register that nothing has stored reads as its place gives it. -/
theorem State.word_reset (o : Nat) : State.reset.word o = resetWord o := rfl

theorem Fuses.marksKeys_reset : State.reset.fuses.marksKeys := by
  refine ⟨fun n hn => ?_, fun n hn => ?_⟩
  · have unset : State.reset.fuses.aesSlot n = 0 := by
      rw [Fuses.aesSlot, show State.reset.fuses.aesKey = 0#512 from rfl, BitVec.toNat_zero, Nat.zero_div, Nat.zero_mod]
    rw [unset]
    exact iff_of_false (by simp [State.reset]) (by simp)
  · exact iff_of_false (by simp [State.reset]) (by simp [State.reset, KMap.get])

/-- Settles O6: nothing is listed, and each register named holds what its table or its place gives it. -/
theorem resetHoldsNothingAndTheTablesValues : Obligations.ResetHoldsNothingAndTheTablesValues := by
  refine ⟨rfl, Fuses.marksKeys_reset, rfl, rfl, rfl, rfl, rfl, rfl, rfl, rfl, ?_, ?_, ?_, ?_, ?_, ?_, ?_, ?_, ?_, ?_⟩
  all_goals simp only [State.get, State.word_reset]
  all_goals decide +kernel

end Sys2Proof.Machine
end

section
/-! Events and their entries (R474, R475, R556). -/

namespace Sys2Proof.Machine

open Reg

/-! ### The registers of an event -/

/-- The registers of the fault log that a dropped entry counts in. -/
def dropRegs : List Nat := [FLT_DROP.off, EVT.off pageFLT, EVT_CNT.off pageFLT]

section
variable (s : State) (pg n : Nat) (cls : BitVec 2) (code i0 i1 : Nat)

/-- The entry that an event hands to the intake queue. -/
def State.raiseEntry (s : State) (pg n : Nat) (cls : BitVec 2) (code i0 i1 : Nat) : State :=
  (s.event pg n).handEntry (pageEntry pg cls code i0 i1)

theorem State.raise_cfg_scb (plain : pg = pageCFG ∨ pg = pageSCB) :
    s.raise pg n cls code i0 i1 = s.raiseEntry pg n cls code i0 i1 := by
  refine if_pos ?_
  simpa using plain

theorem State.raise_infos (cfg : pg ≠ pageCFG) (scb : pg ≠ pageSCB) : s.raise pg n cls code i0 i1
    = ((s.raiseEntry pg n cls code i0 i1).put (ERR_INFO0.v pg) i0).put (ERR_INFO1.v pg) i1 := by
  refine if_neg ?_
  simp [cfg, scb]

theorem State.flt_raise : (s.raise pg n cls code i0 i1).flt = (s.raiseEntry pg n cls code i0 i1).flt := by
  by_cases plain : pg = pageCFG ∨ pg = pageSCB
  · rw [s.raise_cfg_scb _ _ _ _ _ _ plain]
  · obtain ⟨cfg, scb⟩ := not_or.1 plain
    rw [s.raise_infos _ _ _ _ _ _ cfg scb]
    rfl

/-- The information words of a page are all that an event with its entry stores beside what the entry does. -/
theorem State.sameRegs_raise_infos : (s.raiseEntry pg n cls code i0 i1).SameRegs (s.raise pg n cls code i0 i1)
    [ERR_INFO0.off pg, ERR_INFO1.off pg] := by
  by_cases plain : pg = pageCFG ∨ pg = pageSCB
  · rw [s.raise_cfg_scb _ _ _ _ _ _ plain]
    exact State.SameRegs.refl _ _
  · obtain ⟨cfg, scb⟩ := not_or.1 plain
    rw [s.raise_infos _ _ _ _ _ _ cfg scb]
    exact ((State.SameRegs.refl _ _).put (f := ERR_INFO0.v pg) (by simp [ERR_INFO0.v]) _).put (f := ERR_INFO1.v pg)
      (by simp [ERR_INFO1.v]) _

theorem State.sameRegs_raiseEntry : (s.event pg n).SameRegs (s.raiseEntry pg n cls code i0 i1) dropRegs := by
  intro o out
  simp only [dropRegs, List.mem_cons, List.not_mem_nil, or_false, not_or] at out
  exact State.word_handEntry_ne _ _ out.1 out.2.1 out.2.2

theorem State.sameRegs_event : s.SameRegs (s.event pg n) [EVT.off pg, EVT_CNT.off pg] := by
  intro o out
  simp only [List.mem_cons, List.not_mem_nil, or_false, not_or] at out
  exact s.word_event_ne pg n out.1 out.2

/-- The registers of another page's event are not those of the fault log's counters. -/
theorem evt_not_mem_dropRegs {pg : Nat} (aligned : pg % 4096 = 0) (other : pg ≠ pageFLT) {k : Nat} (small : k < 4096) :
    pg + k ∉ dropRegs := by
  simp only [dropRegs, pageFLT, EVT.off, EVT_CNT.off, FLT_DROP.off, List.mem_cons, List.not_mem_nil, or_false] at *
  omega

/-- The fields of EVT and EVT_CNT read after an event with its entry as after the event alone. -/
theorem State.get_raise_evt {f : Field} {pg : Nat} (evt : f.off = EVT.off pg ∨ f.off = EVT_CNT.off pg)
    (aligned : pg % 4096 = 0) (other : pg ≠ pageFLT) :
    (s.raise pg n cls code i0 i1).get f = (s.event pg n).get f := by
  have infos : f.off ∉ [ERR_INFO0.off pg, ERR_INFO1.off pg] := by
    rcases evt with evt | evt <;> simp [evt, EVT.off, EVT_CNT.off, ERR_INFO0.off, ERR_INFO1.off]
  have drops : f.off ∉ dropRegs := by
    rcases evt with evt | evt <;> rw [evt] <;> exact evt_not_mem_dropRegs aligned other (by decide)
  rw [(s.sameRegs_raise_infos pg n cls code i0 i1).get_eq infos,
    (s.sameRegs_raiseEntry pg n cls code i0 i1).get_eq drops]

theorem State.get_raise_info0 (cfg : pg ≠ pageCFG) (scb : pg ≠ pageSCB) :
    (s.raise pg n cls code i0 i1).get (ERR_INFO0.v pg) = i0 % 2 ^ 32 := by
  rw [s.raise_infos _ _ _ _ _ _ cfg scb,
    State.get_put_off _ _ (by simp [ERR_INFO0.v, ERR_INFO1.v, ERR_INFO0.off, ERR_INFO1.off])]
  exact State.get_put_same _ _ (by simp [ERR_INFO0.v])

theorem State.get_raise_info1 (cfg : pg ≠ pageCFG) (scb : pg ≠ pageSCB) :
    (s.raise pg n cls code i0 i1).get (ERR_INFO1.v pg) = i1 % 2 ^ 32 := by
  rw [s.raise_infos _ _ _ _ _ _ cfg scb]
  exact State.get_put_same _ _ (by simp [ERR_INFO1.v])

/-! ### The entry of an event -/

theorem State.raiseEntry_room (aligned : pg % 4096 = 0) (room : s.flt.intake.length < 64) :
    s.raiseEntry pg n cls code i0 i1 = { s.event pg n with flt := { s.flt with
      intake := s.flt.intake ++ [encodeEntry s.stamp.1 s.stamp.2 false (pageEntry pg cls code i0 i1)] } } := by
  have stamp : (s.event pg n).stamp = s.stamp := s.stamp_event pg n aligned
  rw [State.raiseEntry, (s.event pg n).handEntry_room _ room, stamp]
  rfl

theorem State.flt_raise_room (aligned : pg % 4096 = 0) (room : s.flt.intake.length < 64) :
    (s.raise pg n cls code i0 i1).flt = { s.flt with
      intake := s.flt.intake ++ [encodeEntry s.stamp.1 s.stamp.2 false (pageEntry pg cls code i0 i1)] } := by
  rw [s.flt_raise, s.raiseEntry_room _ _ _ _ _ _ aligned room]

theorem State.sameRegs_raise_room (aligned : pg % 4096 = 0) (room : s.flt.intake.length < 64) :
    s.SameRegs (s.raise pg n cls code i0 i1) [EVT.off pg, EVT_CNT.off pg, ERR_INFO0.off pg, ERR_INFO1.off pg] := by
  have entry : s.SameRegs (s.raiseEntry pg n cls code i0 i1) [EVT.off pg, EVT_CNT.off pg] := by
    rw [s.raiseEntry_room _ _ _ _ _ _ aligned room]
    exact s.sameRegs_event pg n
  exact entry.trans (s.sameRegs_raise_infos pg n cls code i0 i1)

theorem State.flt_raise_full (full : 64 ≤ s.flt.intake.length) :
    (s.raise pg n cls code i0 i1).flt.intake = s.flt.intake
      ∧ (s.raise pg n cls code i0 i1).flt.dropped = s.flt.dropped + 1 := by
  obtain ⟨intake, dropped, -⟩ := (s.event pg n).handEntry_full (pageEntry pg cls code i0 i1) full
  rw [s.flt_raise]
  exact ⟨intake, dropped⟩

end

/-! ### The layout of an entry and its stamp (R474) -/

/-- An entry is the number that its parts make at their places. -/
theorem toNat_encodeEntry (t : BitVec 80) (aon lost : Bool) (e : FaultRec) : (encodeEntry t aon lost e).toNat
    = t.toNat + e.block.toNat * 2 ^ 80 + (e.cls.toNat * 64 + aon.toNat * 32 + lost.toNat * 16) * 2 ^ 88
      + e.inst.toNat * 2 ^ 96 + e.code.toNat * 2 ^ 112 + e.info0.toNat * 2 ^ 128 + e.info1.toNat * 2 ^ 192 := by
  rw [encodeEntry, BitVec.toNat_ofNat]
  refine Nat.mod_eq_of_lt ?_
  have time := t.isLt
  have block := e.block.isLt
  have cls := e.cls.isLt
  have inst := e.inst.isLt
  have code := e.code.isLt
  have info0 := e.info0.isLt
  have info1 := e.info1.isLt
  have aonBit := aon.toNat_lt
  have lostBit := lost.toNat_lt
  omega

theorem encodeEntry_parts (t : BitVec 80) (aon lost : Bool) (e : FaultRec) :
    let w := (encodeEntry t aon lost e).toNat
    w % 2 ^ 80 = t.toNat ∧ w / 2 ^ 80 % 2 ^ 8 = e.block.toNat ∧ w / 2 ^ 88 % 2 ^ 4 = 0 ∧ w / 2 ^ 92 % 2 = lost.toNat
      ∧ w / 2 ^ 93 % 2 = aon.toNat ∧ w / 2 ^ 94 % 4 = e.cls.toNat ∧ w / 2 ^ 96 % 2 ^ 16 = e.inst.toNat
      ∧ w / 2 ^ 112 % 2 ^ 16 = e.code.toNat ∧ w / 2 ^ 128 % 2 ^ 64 = e.info0.toNat ∧ w / 2 ^ 192 = e.info1.toNat := by
  intro w
  have sum : w = _ := toNat_encodeEntry t aon lost e
  have time := t.isLt
  have block := e.block.isLt
  have cls := e.cls.isLt
  have inst := e.inst.isLt
  have code := e.code.isLt
  have info0 := e.info0.isLt
  have info1 := e.info1.isLt
  have aonBit := aon.toNat_lt
  have lostBit := lost.toNat_lt
  clear_value w
  refine ⟨?_, ?_, ?_, ?_, ?_, ?_, ?_, ?_, ?_, ?_⟩ <;> omega

theorem State.stamp_source (s : State) : s.stamp.2 = true ↔ s.get TH_STATUS.state = 0 := by
  unfold State.stamp State.timeValid State.is
  by_cases invalid : s.get TH_STATUS.state = 0 <;> simp [invalid]

theorem State.stamp_valid {s : State} (valid : s.stamp.2 = false) : s.stamp.1 = s.th.time := by
  unfold State.stamp at *
  split_ifs at * with h
  rfl

theorem State.stamp_alwaysOn {s : State} (aon : s.stamp.2 = true) :
    s.stamp.1.toNat % 2 ^ 16 = 0 ∧ s.stamp.1.toNat / 2 ^ 16 = s.aonTime % 2 ^ 64 := by
  have time : s.stamp.1 = BitVec.ofNat 80 (s.aonTime * 65536) := by
    unfold State.stamp at *
    split_ifs at * with h
    rfl
  rw [time, BitVec.toNat_ofNat]
  omega

theorem pageEntry_infos (pg code : Nat) (cls : BitVec 2) {i0 i1 : Nat} (fits0 : i0 < 2 ^ 64) (fits1 : i1 < 2 ^ 64) :
    (pageEntry pg cls code i0 i1).info0.toNat = i0 ∧ (pageEntry pg cls code i0 i1).info1.toNat = i1 :=
  ⟨(BitVec.toNat_ofNat ..).trans (Nat.mod_eq_of_lt fits0), (BitVec.toNat_ofNat ..).trans (Nat.mod_eq_of_lt fits1)⟩

/-- Settles O9: the event stores EVT and EVT_CNT, its entry joins the intake or is counted, and the information words
follow; an entry is the sum of its parts at their places. -/
theorem raisingAnEventSetsItsBitAndLogs : Obligations.RaisingAnEventSetsItsBitAndLogs := by
  unfold Obligations.RaisingAnEventSetsItsBitAndLogs
  refine ⟨fun s pg n code i0 i1 cls bitNo aligned other => ⟨?_, ?_, fun cfg scb => ?_, fun room => ?_,
      s.flt_raise_full pg n cls code i0 i1, s.raise_frame pg n cls code i0 i1⟩,
    encodeEntry_parts, fun s => ⟨s.stamp_source, State.stamp_valid, State.stamp_alwaysOn⟩,
    fun pg code _ _ cls => pageEntry_infos pg code cls⟩
  · exact (s.get_raise_evt n cls code i0 i1 (.inl rfl) aligned other).trans (s.get_evt_event pg n bitNo)
  · exact (s.get_raise_evt n cls code i0 i1 (.inr rfl) aligned other).trans (s.get_cnt_event pg n)
  · exact ⟨s.get_raise_info0 pg n cls code i0 i1 cfg scb, s.get_raise_info1 pg n cls code i0 i1 cfg scb⟩
  · exact ⟨s.flt_raise_room pg n cls code i0 i1 aligned room, s.sameRegs_raise_room pg n cls code i0 i1 aligned room⟩

end Sys2Proof.Machine
end

section
/-! The fault log: intake, ring, flash log and the power-fail warning (R474 to R482). -/

namespace Sys2Proof.Machine

open Reg

/-! ### What the log's operations leave -/

section
variable (s : State)

/-- What the entries of the ring stand on: FLT_COUNT, the ring and the intake queue. -/
def State.ringView (s : State) : Word × KMap (BitVec 256) × List (BitVec 256) :=
  (s.word FLT_COUNT.off, s.flt.ring, s.flt.intake)

theorem State.ringView_put {f : Field} (v : Nat) (other : FLT_COUNT.off ≠ f.off) :
    (s.put f v).ringView = s.ringView := by
  simp only [State.ringView, s.word_put_ne v other, State.put_flt]

theorem State.ringView_event (n : Nat) : (s.event pageFLT n).ringView = s.ringView := by
  have count : (s.event pageFLT n).word FLT_COUNT.off = s.word FLT_COUNT.off :=
    s.word_event_ne pageFLT n (by decide) (by decide)
  simp only [State.ringView, count, State.event_flt]

theorem State.ringView_alert {n : Nat} : (s.alert n).ringView = s.ringView := by
  have stored : (s.put ⟨TWP_ALERT_SRC.off, n, n⟩ 1).ringView = s.ringView := s.ringView_put 1 (by simp [FLT_COUNT.off, TWP_ALERT_SRC.off])
  unfold State.alert
  dsimp only
  split
  · exact stored
  · exact stored

theorem State.startFlush_flt : s.startFlush.flt = { s.flt with flushing := s.startFlush.flt.flushing } := by
  unfold State.startFlush
  split <;> rfl

theorem State.flushIfDue_flt : s.flushIfDue.flt = { s.flt with flushing := s.flushIfDue.flt.flushing } := by
  unfold State.flushIfDue
  split
  · exact s.startFlush_flt
  · rfl

theorem State.OnlyRegs.answerWord {s t : State} (only : s.OnlyRegs t) (w : Word) :
    t.answerWord w = { s with regs := t.regs, answer := toBytes w.toNat 4 } := congrArg (·.answerWord w) only

/-- A flush that starts shows in the flushing field alone. -/
theorem State.flushIfDue_stored {β : Type} (g : State → β) (keeps : ∀ (t : State) v, g (t.put FLT_STAT.flushing v) = g t)
    (flt : ∀ (t : State) n, g { t with flt := { t.flt with flushing := n } } = g t) : g s.flushIfDue = g s := by
  unfold State.flushIfDue State.startFlush
  split
  · split
    · exact (keeps _ 1).trans (flt s _)
    · rfl
  · rfl

theorem State.ringView_flushIfDue : s.flushIfDue.ringView = s.ringView :=
  s.flushIfDue_stored State.ringView (fun t v => t.ringView_put v (by decide)) fun _ _ => rfl

theorem State.ringView_joinBacklog (k : Nat) (e : BitVec 256) : (s.joinBacklog k e).ringView = s.ringView := by
  have gap : (s.count FLT_GAP.v).ringView = s.ringView := s.ringView_put _ (by decide)
  have gapEvent : ((s.count FLT_GAP.v).event pageFLT 4).ringView = s.ringView :=
    ((s.count FLT_GAP.v).ringView_event 4).trans gap
  unfold State.joinBacklog
  dsimp only
  split_ifs
  · rfl
  · rfl
  · rfl
  · exact gapEvent
  · exact gap

/-! ### One entry enters the ring -/

/-- The entry stands in the slot of its number, and FLT_COUNT counts it. -/
def State.numberEntry (s : State) (e : BitVec 256) : State :=
  let k := s.get FLT_COUNT.v
  let s := s.when (decide (1024 ≤ k) && !s.flt.committed.get committedDefault (k % 1024)) fun s => s.count FLT_OVW.v
  { s with flt := { s.flt with
    ring := s.flt.ring.set ringDefault (k % 1024) e,
    committed := s.flt.committed.set committedDefault (k % 1024) false } }.put FLT_COUNT.v (k + 1)

theorem State.ringView_numberEntry (e : BitVec 256) : (s.numberEntry e).ringView
    = (setBits (s.word FLT_COUNT.off) 31 0 (s.get FLT_COUNT.v + 1),
      s.flt.ring.set ringDefault (s.get FLT_COUNT.v % 1024) e, s.flt.intake) := by
  have counted : (s.count FLT_OVW.v).word FLT_COUNT.off = s.word FLT_COUNT.off := s.word_count_ne (by decide)
  have stored (t : State) (f : FltState) (v : Nat) : ({ t with flt := f }.put FLT_COUNT.v v).ringView
      = (setBits (t.word FLT_COUNT.off) 31 0 v, f.ring, f.intake) :=
    congrArg (·, f.ring, f.intake) (State.word_setWord_same _ FLT_COUNT.off _)
  refine (stored ..).trans ?_
  unfold State.when
  split
  · rw [counted]; rfl
  · rfl

/-- After an entry is numbered nothing touches FLT_COUNT, the ring or the intake queue. -/
theorem State.ringView_enterRing (e : BitVec 256) : (s.enterRing e).ringView = (s.numberEntry e).ringView := by
  have marked (t : State) : (((t.when (isFatal e) fun s => (s.event pageFLT 7).alert 0).when (isContained e) fun s =>
      s.alert 1)).ringView = t.ringView :=
    (State.when_keeps State.ringView _ _ _ fun t => t.ringView_alert).trans
      (State.when_keeps State.ringView _ _ _ fun t => (State.ringView_alert _).trans (t.ringView_event 7))
  have ended (t : State) (c : Bool) : ((t.when c fun s =>
      { s with flt := { s.flt with ringOnly := true } }).flushIfDue.showBacklog).ringView = t.ringView :=
    (State.ringView_put _ _ (by decide)).trans
      ((State.ringView_flushIfDue _).trans (State.when_keeps State.ringView _ _ _ fun _ => rfl))
  exact (ended _ _).trans ((State.ringView_joinBacklog _ _ e).trans (marked (s.numberEntry e)))

/-- One entry moves from the intake queue to the slot of its number. -/
theorem exec_ringIntake {s : State} {e : BitVec 256} {rest : List (BitVec 256)} (front : s.flt.intake = e :: rest)
    (kept : s.flt.dropped = 0) :
    exec .ringIntake s = .next (({ s with flt := { s.flt with intake := rest } } : State).enterRing e) := by
  have none : ({ s with flt := { s.flt with intake := rest } } : State).endDrops
      = { s with flt := { s.flt with intake := rest } } := if_pos kept
  show execRingIntake s = _
  simp only [execRingIntake, front, none]

/-! ### The flash log -/

/-- An area of at least four pages above the golden image is scanned (R477). -/
theorem State.writeFltCtrl_enable {v : Word} (free : s.locked pageFLT = false) (alone : bit v 31 = false)
    (on : bit v 30 = true) (was : s.is FLT_CTRL.log_en = false) (any : s.cfg.goldenEnd = none)
    (room : 4 ≤ s.get FLT_AREA_PAGES.v) :
    s.writeFltCtrl v = (s.putB FLT_CTRL.log_en true).put FLT_STAT.state 1 := by
  have pages : (s.putB FLT_CTRL.log_en true).get FLT_AREA_PAGES.v = s.get FLT_AREA_PAGES.v :=
    s.get_put_off _ (by decide)
  simp [State.writeFltCtrl, State.when, State.writeLogEn, free, alone, on, was, any, pages, room]

theorem State.writeFltCtrl_locked {v : Word} (locked : s.locked pageFLT = true) (flush : bit v 31 = true) :
    s.writeFltCtrl v = s.startFlush := by
  have stays : s.writeLogEn v = s := if_pos locked
  rw [State.writeFltCtrl, stays, State.when_of_true flush]

theorem State.startFlush_starts (logging : s.get FLT_STAT.state = 2) (waits : s.flt.backlog ≠ [])
    (idle : s.flt.flushing = 0) : s.startFlush
      = ({ s with flt := { s.flt with flushing := s.flt.backlog.length } } : State).put FLT_STAT.flushing 1 := by
  refine if_pos ?_
  simp [logging, waits, idle]

/-- An entry is programmed into the next slot of the current page. -/
def State.programSlot (s : State) (e : BitVec 256) : State :=
  { s.flashProgramBytes (s.logAddr s.logCur + 32 + 32 * s.flt.slot) (toBytes e.toNat 32) with
    flt := { s.flt with slot := s.flt.slot + 1 } }

/-- Entries that fit the current page are programmed into its next slots. -/
theorem State.programLog_fits (es : List (Nat × BitVec 256)) (s : State) (page : s.flt.cur.isSome = true)
    (fits : s.flt.slot + es.length ≤ 127) :
    ∃ t, s.programLog es = some t ∧ t.flt = { s.flt with slot := s.flt.slot + es.length } := by
  induction es generalizing s with
  | nil => exact ⟨s, rfl, rfl⟩
  | cons x es ih =>
    obtain ⟨k, e⟩ := x
    rw [List.length_cons] at fits
    have same : (s.flt.cur.isNone || decide (s.flt.slot ≥ 127)) = false := by
      rw [Option.isNone_eq_false_iff.2 page, Bool.false_or, decide_eq_false_iff_not]
      omega
    obtain ⟨t, programmed, flt⟩ := ih (s.programSlot e) page (by
      show s.flt.slot + 1 + es.length ≤ 127
      omega)
    refine ⟨t, ?_, ?_⟩
    · simp only [State.programLog, same, Bool.false_eq_true, if_false]
      exact programmed
    · have slots : s.flt.slot + 1 + es.length = s.flt.slot + (es.length + 1) := by omega
      rw [flt, List.length_cons, ← slots]
      rfl

/-- A flush whose entries and COMMIT fit the current page ends there (R478). -/
theorem exec_flushComplete_fits {s : State} (some_ : 0 < s.flt.flushing) (all : s.flt.flushing ≤ s.flt.backlog.length)
    (page : s.flt.cur.isSome = true) (fits : s.flt.slot + s.flt.flushing + 1 ≤ 127) :
    ∃ t, exec (.flushComplete true) s = .next t ∧ t.flt.backlog = s.flt.backlog.drop s.flt.flushing
      ∧ t.flt.slot = s.flt.slot + s.flt.flushing + 1 ∧ t.flt.ring = s.flt.ring := by
  have taken : (s.flt.backlog.take s.flt.flushing).length = s.flt.flushing := List.length_take_of_le all
  let es := (s.flt.backlog.take s.flt.flushing).map s.backlogEntry
  let numbered := ((s.flt.backlog.take s.flt.flushing).map fun b => b.number.getD (s.get FLT_COUNT.v)).zip es
  have entries : (numbered ++ [(s.get FLT_COUNT.v, s.commitEntry es)]).length = s.flt.flushing + 1 := by
    simp [numbered, es, all]
  obtain ⟨u, programmed, flt⟩ := State.programLog_fits (numbered ++ [(s.get FLT_COUNT.v, s.commitEntry es)]) s page
    (by rw [entries]; exact fits)
  rw [entries] at flt
  refine ⟨?after, ?run, ?flt⟩
  case run =>
    show execFlushComplete true s = _
    simp only [execFlushComplete, Nat.ne_of_gt some_, if_false, Bool.not_true, Bool.false_eq_true]
    rw [programmed]
  case flt =>
    simp only [State.showBacklog, State.put_flt]
    rw [State.flushIfDue_flt]
    exact ⟨congrArg (fun f => f.backlog.drop s.flt.flushing) flt, congrArg FltState.slot flt,
      (congrArg FltState.ring flt :)⟩

/-- A scan ends in LOGGING or, with fewer than four usable pages, in FULL. -/
def State.endScan (s : State) : Out :=
  if s.usablePages < 4 then .next ((s.put FLT_STAT.state 3).raise pageFLT 2 CONTAINED 0x1003 (s.logAddr 0) 0)
  else .next ((s.put FLT_STAT.state 2).flushIfDue.showBacklog)

theorem exec_logScanComplete {s : State} (scans : s.get FLT_STAT.state = 1) :
    ∃ u : State, exec .logScanComplete s = u.endScan := ⟨_, if_neg (not_not.2 scans)⟩

theorem State.endScan_state (s : State) :
    ∃ t, s.endScan = .next t ∧ (t.get FLT_STAT.state = 2 ∨ t.get FLT_STAT.state = 3) := by
  have state (v : Nat) : (s.put FLT_STAT.state v).get FLT_STAT.state = v % 4 := s.get_put_same v (by decide)
  unfold State.endScan
  split
  · refine ⟨_, rfl, .inr ?_⟩
    rw [State.get_raise_off _ _ _ _ _ _ _ (by decide), state]
  · refine ⟨_, rfl, .inl ?_⟩
    rw [State.showBacklog, State.get_put_apart _ _ (by decide) (by decide),
      State.flushIfDue_stored _ (fun t => t.get FLT_STAT.state) (fun t v => t.get_put_apart v (by decide) (by decide))
        fun _ _ => rfl, state]

end

/-- Settles O17: the commands by the branches that their guards choose; what an entry stores is read off the ring, which
the rest of its intake leaves. -/
theorem faultLogCommandsComplete : Obligations.FaultLogCommandsComplete := by
  unfold Obligations.FaultLogCommandsComplete
  refine ⟨fun s e room => congrArg Host.Outcome.next (s.handEntry_room e room), fun s e full => ⟨_, rfl, s.handEntry_full e full⟩,
    fun s e rest front kept => ⟨_, exec_ringIntake front kept, ?ring⟩, fun s => ⟨_, rfl, ?latched⟩,
    fun s logging waits idle => congrArg Host.Outcome.next (s.startFlush_starts logging waits idle),
    fun s v locked flush => ?locked,
    fun s v free alone on was any room =>
      congrArg Host.Outcome.next (s.writeFltCtrl_enable free alone on was any room),
    fun s p flushes page room => ?error, fun s some_ all page fits => exec_flushComplete_fits some_ all page fits,
    fun s p logging due fresh => ?erased, fun s scans => ?scanned,
    fun s dark noFlash noErase => ?warned, fun s warned none => ?cleared⟩
  case ring =>
    obtain ⟨count, ring, intake⟩ : _ ∧ _ ∧ _ := by
      simpa only [State.ringView, Prod.mk.injEq] using
        (State.ringView_enterRing _ e).trans (State.ringView_numberEntry { s with flt := { s.flt with intake := rest } } e)
    refine ⟨intake, ?_, fun k other => ?_, ?_⟩
    · exact (congrArg (KMap.get ringDefault · _) ring).trans (KMap.get_set_same ..)
    · exact (congrArg (KMap.get ringDefault · k) ring).trans (KMap.get_set_ne _ _ _ other)
    · rw [State.get, FLT_COUNT.v, count]
      exact bitsOf_setBits_same _ _ (by decide)
  case latched =>
    have shown (i : Nat) (hi : i < 8) : s.latchEntry.word (FLT_ENT.off i)
        = BitVec.ofNat 32 ((s.flt.ring.get ringDefault (s.get FLT_SEL.v)).toNat / 2 ^ (32 * i)) := by
      have place : FLT_ENT.off i = FLT_ENT.off 0 + 4 * i := by simp only [FLT_ENT.off]
      rw [place]
      exact s.word_putWide _ _ hi
    refine ⟨?_, fun i hi => ?_, ?_⟩
    · show toBytes (s.latchEntry.word (FLT_ENT.off 0)).toNat 4 = _
      rw [shown 0 (by decide), BitVec.toNat_ofNat, Nat.mul_zero, Nat.pow_zero, Nat.div_one]
    · show (s.latchEntry.word (FLT_ENT.off i)).toNat = _
      rw [shown i hi, BitVec.toNat_ofNat]
    · exact State.OnlyRegs.answerWord (s.onlyRegs_putWide (FLT_ENT.off 0) 8 _) _
  case locked =>
    have starts : s.writeFltCtrl v = s.startFlush := s.writeFltCtrl_locked locked flush
    exact ⟨congrArg Host.Outcome.next starts, congrArg Host.Outcome.next starts⟩
  case error =>
    have same : (s.flt.cur.isNone || decide (127 ≤ s.flt.slot)) = false := by simp [page, room]
    have current : s.logCur = p := by simp [State.logCur, page]
    show execFlushComplete false s = _
    simp only [execFlushComplete, flushes, if_false, Bool.not_false, if_true, same, Bool.false_eq_true, current]
  case erased =>
    show execPageEraseComplete true s = _
    simp [execPageEraseComplete, logging, due, fresh]
  case scanned =>
    obtain ⟨u, ends⟩ := exec_logScanComplete scans
    rw [ends]
    exact u.endScan_state
  case warned =>
    have none : s.dropPageErase = s := by
      unfold State.dropPageErase
      split
      · rw [noErase]
      · rfl
    show execPowerFailWarning s = _
    simp [execPowerFailWarning, dark, none, noFlash]
  case cleared =>
    show execPowerFailClear s = _
    simp [execPowerFailClear, warned, none]

end Sys2Proof.Machine
end

section
/-! The mirror queue of the primary (R458, R460). -/

namespace Sys2Proof.Machine

open Reg

/-! ### What mirroring leaves -/

/-- All but what mirroring stores: the registers, the pair's own state, the fault log and the Towpath's alerts. -/
def State.beyondPair (s : State) : State := { s with regs := [], pair := {}, flt := {}, twp := {} }

theorem State.eq_of_beyondPair {s t : State} (same : t.beyondPair = s.beyondPair) :
    t = { s with regs := t.regs, pair := t.pair, flt := t.flt, twp := t.twp } :=
  congrArg (fun u : State => { u with regs := t.regs, pair := t.pair, flt := t.flt, twp := t.twp }) same

/-- The registers that mirroring can store lie in the pages PAIR and FLT, or are TWP_ALERT_SRC. -/
def pairOffset (o : Nat) : Prop := o / 4096 * 4096 = pagePAIR ∨ o / 4096 * 4096 = pageFLT ∨ o = TWP_ALERT_SRC.off

/-- What stays of a state where the pair mirrors: all beyond its own state, and the registers elsewhere. -/
def State.PairFrame (s t : State) : Prop :=
  t.beyondPair = s.beyondPair ∧ ∀ o, ¬ pairOffset o → t.word o = s.word o

section
variable {s t u : State}

theorem State.PairFrame.refl (s : State) : s.PairFrame s := ⟨rfl, fun _ _ => rfl⟩

theorem State.PairFrame.trans (h : s.PairFrame t) (h' : t.PairFrame u) : s.PairFrame u :=
  ⟨h'.1.trans h.1, fun o out => (h'.2 o out).trans (h.2 o out)⟩

theorem State.PairFrame.each {α : Type} (s : State) (l : List α) (f : State → α → State)
    (h : ∀ (t : State) (a : α), t.PairFrame (f t a)) : s.PairFrame (s.each l f) := by
  unfold State.each
  induction l generalizing s with
  | nil => exact State.PairFrame.refl s
  | cons a l ih => exact (h s a).trans (ih (f s a))

end

section
variable (s : State)

theorem State.pairFrame_put {f : Field} (v : Nat) (own : pairOffset f.off) : s.PairFrame (s.put f v) :=
  ⟨rfl, fun _ out => s.word_put_ne v fun e => out (e ▸ own)⟩

theorem State.pairFrame_pair (p : PairState) : s.PairFrame { s with pair := p } := ⟨rfl, fun _ _ => rfl⟩

theorem State.pairFrame_alert {n : Nat} : s.PairFrame (s.alert n) := by
  have stored : s.PairFrame (s.put ⟨TWP_ALERT_SRC.off, n, n⟩ 1) := s.pairFrame_put 1 (.inr (.inr rfl))
  unfold State.alert
  dsimp only
  split
  · exact ⟨stored.1, stored.2⟩
  · exact stored

theorem State.pairFrame_raise (n : Nat) (cls : BitVec 2) (code i0 i1 : Nat) :
    s.PairFrame (s.raise pagePAIR n cls code i0 i1) := by
  refine ⟨?_, fun o out => s.word_raise_ne _ _ _ _ _ _ ?_⟩
  · rw [s.raise_frame pagePAIR n cls code i0 i1]
    rfl
  · simp only [pairOffset, not_or, pagePAIR, pageFLT, EVT.off, EVT_CNT.off, ERR_INFO0.off, ERR_INFO1.off, FLT_DROP.off,
      List.mem_cons, List.not_mem_nil, or_false] at out ⊢
    omega

theorem State.pairFrame_setPairState (v : Nat) : s.PairFrame (s.setPairState v) := by
  have stored : s.PairFrame (s.put PAIR_STAT.state v) := s.pairFrame_put v (.inl (by decide))
  unfold State.setPairState State.when
  split
  · exact stored.trans (State.pairFrame_alert _)
  · exact stored

/-- The mirror queue takes a change. -/
def State.enqueue (s : State) (c : Change) : State :=
  ({ s with pair := { s.pair with
    queue := s.pair.queue ++ [(s.pair.nextPos, c, changeBytes c)], nextPos := s.pair.nextPos + 1 } } : State).showLag

/-- The mirror queue overflows: what it held is lost, and the pair is UNSYNCED. -/
def State.overflowMirror (s : State) : State :=
  let s := (s.count PAIR_OVF.v).pairEvent 3 CONTAINED 0x0F04
  ((({ s with pair := { s.pair with queue := [], copying := false } } : State).setPairState 3)).showLag

theorem State.mirror_off (c : Change) (off : s.mirrors = false) : s.mirror c = s := if_pos (by simp [off])

theorem State.mirror_room {s : State} {c : Change} (on : s.mirrors = true)
    (room : s.mirrorDepth + changeBytes c ≤ 51520) : s.mirror c = s.enqueue c :=
  (if_neg (by simp [on])).trans (if_pos room)

theorem State.mirror_full {s : State} {c : Change} (on : s.mirrors = true)
    (full : 51520 < s.mirrorDepth + changeBytes c) : s.mirror c = s.overflowMirror :=
  (if_neg (by simp [on])).trans (if_neg (Nat.not_le.2 full))

theorem State.pairFrame_showLag : s.PairFrame s.showLag := s.pairFrame_put _ (.inl (by decide))

theorem State.pairFrame_overflowMirror : s.PairFrame s.overflowMirror :=
  (s.pairFrame_put (f := PAIR_OVF.v) _ (.inl (by decide))).trans
    ((State.pairFrame_raise _ _ _ _ _ _).trans ((State.pairFrame_pair _ _).trans
      ((State.pairFrame_setPairState _ 3).trans (State.pairFrame_showLag _))))

theorem State.pairFrame_mirror (c : Change) : s.PairFrame (s.mirror c) := by
  cases on : s.mirrors with
  | false => rw [s.mirror_off c on]; exact State.PairFrame.refl s
  | true =>
    rcases Nat.lt_or_ge 51520 (s.mirrorDepth + changeBytes c) with full | room
    · rw [State.mirror_full on full]
      exact s.pairFrame_overflowMirror
    · rw [State.mirror_room on room]
      exact (s.pairFrame_pair _).trans (State.pairFrame_showLag _)

theorem State.mirrorFrom_off {t : State} (off : t.mirrors = false) : s.mirrorFrom t = t := if_pos (by simp [off])

theorem State.mirrorFrom_on {t : State} (on : t.mirrors = true) :
    s.mirrorFrom t = t.each (s.changesFrom t) State.mirror := if_neg (by simp [on])

theorem State.pairFrame_mirrorFrom (t : State) : t.PairFrame (s.mirrorFrom t) := by
  cases on : t.mirrors with
  | false => rw [s.mirrorFrom_off on]; exact State.PairFrame.refl t
  | true =>
    rw [s.mirrorFrom_on on]
    exact State.PairFrame.each t _ _ fun t c => t.pairFrame_mirror c

/-! ### Changes that find room -/

@[simp] theorem State.pair_enqueue (c : Change) : (s.enqueue c).pair = { s.pair with
    queue := s.pair.queue ++ [(s.pair.nextPos, c, changeBytes c)], nextPos := s.pair.nextPos + 1 } := rfl

@[simp] theorem State.mirrorDepth_enqueue (c : Change) :
    (s.enqueue c).mirrorDepth = s.mirrorDepth + changeBytes c := by
  simp [State.mirrorDepth, List.foldl_append]

/-- The depth of the queue shows apart from the pair's state and its role. -/
@[simp] theorem State.mirrors_enqueue (c : Change) : (s.enqueue c).mirrors = s.mirrors := by
  have same (f : Field) (stat : f.off = PAIR_STAT.off) : (s.enqueue c).get f = s.get f :=
    State.get_put_off _ _ (by rw [stat]; decide)
  simp only [State.mirrors, State.is, same PAIR_STAT.role rfl, same PAIR_STAT.state rfl]

/-- Changes that all find room join the queue in order. -/
theorem State.each_mirror_room (cs : List Change) (s : State) (on : s.mirrors = true)
    (room : s.mirrorDepth + (cs.map changeBytes).sum ≤ 51520) :
    (s.each cs State.mirror).pair.queue.map (fun e => e.2.1) = s.pair.queue.map (fun e => e.2.1) ++ cs
      ∧ (s.each cs State.mirror).pair.nextPos = s.pair.nextPos + cs.length := by
  induction cs generalizing s with
  | nil => exact ⟨(List.append_nil _).symm, rfl⟩
  | cons c cs ih =>
    rw [List.map_cons, List.sum_cons] at room
    have taken : s.each (c :: cs) State.mirror = (s.enqueue c).each cs State.mirror := by
      rw [← State.mirror_room on (by omega)]
      rfl
    obtain ⟨queue, pos⟩ := ih (s.enqueue c) (by rw [State.mirrors_enqueue, on]) (by rw [State.mirrorDepth_enqueue]; omega)
    rw [taken, queue, pos]
    constructor
    · simp
    · simp only [State.pair_enqueue, List.length_cons]
      omega

/-! ### A change that finds none -/

/-- A new alert stores TWP_ALERT_SRC alone. -/
theorem State.word_alert_ne (n : Nat) {o : Nat} (other : o ≠ TWP_ALERT_SRC.off) : (s.alert n).word o = s.word o := by
  have stored : (s.put ⟨TWP_ALERT_SRC.off, n, n⟩ 1).word o = s.word o := s.word_put_ne 1 other
  unfold State.alert
  dsimp only
  split
  · exact stored
  · exact stored

theorem State.get_alert_off (n : Nat) {f : Field} (other : f.off ≠ TWP_ALERT_SRC.off) :
    (s.alert n).get f = s.get f := congrArg (bitsOf · _ _) (s.word_alert_ne n other)

theorem State.get_setPairState {v : Nat} (fits : v < 16) : (s.setPairState v).get PAIR_STAT.state = v := by
  have stored : (s.put PAIR_STAT.state v).get PAIR_STAT.state = v :=
    (s.get_put_same v (by decide)).trans (Nat.mod_eq_of_lt fits)
  exact (State.when_keeps (fun t => t.get PAIR_STAT.state) _ _ _ fun t => t.get_alert_off 5 (by decide)).trans stored

/-- A new state of the pair stores its field, and an alert at most. -/
theorem State.word_setPairState_ne (v : Nat) {o : Nat} (stat : o ≠ PAIR_STAT.off) (alerts : o ≠ TWP_ALERT_SRC.off) :
    (s.setPairState v).word o = s.word o :=
  (State.when_keeps (fun t => t.word o) _ _ _ fun t => t.word_alert_ne 5 alerts).trans (s.word_put_ne v stat)

theorem State.pair_setPairState (v : Nat) : (s.setPairState v).pair = s.pair :=
  State.when_keeps State.pair (s.put PAIR_STAT.state v) _ _ fun t => t.alert_pair 5

theorem State.pair_overflowMirror : s.overflowMirror.pair = { s.pair with queue := [], copying := false } := by
  unfold State.overflowMirror State.showLag State.pairEvent
  rw [State.put_pair, State.pair_setPairState]
  simp [State.count, State.add]

theorem State.state_overflowMirror : s.overflowMirror.get PAIR_STAT.state = 3 :=
  (State.get_put_off _ _ (by decide)).trans (State.get_setPairState _ (by decide))

theorem State.mirrors_overflowMirror : s.overflowMirror.mirrors = false := by
  simp [State.mirrors, s.state_overflowMirror]

theorem State.overflows_overflowMirror :
    s.overflowMirror.get PAIR_OVF.v = min (s.get PAIR_OVF.v + 1) (2 ^ 32 - 1) := by
  have counted : (s.count PAIR_OVF.v).get PAIR_OVF.v = min (s.get PAIR_OVF.v + 1) (2 ^ 32 - 1) :=
    s.get_count_same (by decide)
  refine Eq.trans ?_ counted
  refine (State.get_put_off _ _ (by decide)).trans ?_
  refine (congrArg (bitsOf · _ _) (State.word_setPairState_ne _ 3 (by decide) (by decide))).trans ?_
  exact State.get_raise_off _ _ _ _ _ _ _ (by decide)

end

/-- Settles O58: by induction on the changes while they find room, and by what one that finds none stores. -/
theorem mirrorQueueTakesChangesInOrder : Obligations.MirrorQueueTakesChangesInOrder := by
  unfold Obligations.MirrorQueueTakesChangesInOrder
  refine ⟨fun s t off => s.mirrorFrom_off off, fun s t => ?frame, fun s t on room => ?room, fun s c on full => ?full⟩
  case frame =>
    obtain ⟨same, words⟩ := s.pairFrame_mirrorFrom t
    refine ⟨State.eq_of_beyondPair same, fun o pair flt alerts => words o ?_⟩
    simp only [pairOffset, not_or]
    exact ⟨pair, flt, alerts⟩
  case room =>
    rw [← List.sum_eq_foldl] at room
    rw [s.mirrorFrom_on on]
    exact t.each_mirror_room _ on room
  case full =>
    rw [State.mirror_full on full, s.pair_overflowMirror]
    exact ⟨rfl, rfl, s.state_overflowMirror, s.overflows_overflowMirror, s.mirrors_overflowMirror⟩

end Sys2Proof.Machine
end

section
/-! Forming and keeping a pair, takeover and fencing (R455 to R469). -/

namespace Sys2Proof.Machine

open Reg

/-! ### Reading a register after a write of another -/

section
variable {s t : State}

theorem State.get_write_off (s : State) {off : Nat} (v : Word) {f : Field} (other : f.off ≠ off) :
    (s.write off v).get f = s.get f :=
  (s.sameRegs_write off v).get_eq (by simpa using other)

theorem State.fenced_of_get (same : t.get PAIR_STAT.state = s.get PAIR_STAT.state) : t.fenced = s.fenced := by
  rw [State.fenced, same, State.fenced]

theorem State.not_fenced_of_state {n : Nat} (state : s.get PAIR_STAT.state = n) (other : n ≠ 6) : s.fenced = false := by
  simp [State.fenced, state, other]

theorem State.get_stat_writeCtrl (s : State) (v : Word) {f : Field} (stat : f.off = PAIR_STAT.off) :
    (s.write PAIR_CTRL.off v).get f = s.get f := s.get_write_off v (by rw [stat]; decide)

end

/-! ### Writes of PAIR_CTRL -/

section
variable {s : State} {v : Word}

/-- What a write of PAIR_CTRL asks for is done in turn. -/
def State.pairActions (s : State) (v : Word) : State :=
  (((s.when (bit v 29) State.startTakeover).when (bit v 28) State.resyncPair).when (bit v 27) State.rejoinPair).when
    (bit v 26) State.releasePair

/-- A device whose pairing stays enabled does what the write asks for. -/
theorem State.writePairCtrl_enabled (on : s.is PAIR_CTRL.enable = true)
    (now : (s.write PAIR_CTRL.off v).is PAIR_CTRL.enable = true) :
    s.writePairCtrl v none = (s.write PAIR_CTRL.off v).pairActions v := by
  simp only [State.writePairCtrl, on, now, if_true, State.pairActions]

theorem State.writePairCtrl_facts (f : PairFacts) (now : (s.write PAIR_CTRL.off v).is PAIR_CTRL.enable = true) :
    s.writePairCtrl v (some f) = ((s.write PAIR_CTRL.off v).enablePair f).pairActions v := by
  simp only [State.writePairCtrl, now, if_true, State.pairActions]

/-- The bits of a write say which actions it asks for. -/
theorem State.pairActions_eq (s : State) {takeover resync rejoin release : Bool} (b29 : bit v 29 = takeover)
    (b28 : bit v 28 = resync) (b27 : bit v 27 = rejoin) (b26 : bit v 26 = release) : s.pairActions v
      = (((s.when takeover State.startTakeover).when resync State.resyncPair).when rejoin State.rejoinPair).when
          release State.releasePair := by
  rw [State.pairActions, b29, b28, b27, b26]

/-! ### What the actions do -/

/-- A device that is SINGLE or ALONE starts the copy where nothing is missing, and else names what is. -/
theorem State.enablePair_apart (f : PairFacts) (apart : s.get PAIR_STAT.state = 0 ∨ s.get PAIR_STAT.state = 5) :
    s.enablePair f = if s.missingNeed f = 0 then (s.put PAIR_STAT.reason (s.missingNeed f)).startCopy
      else (s.put PAIR_STAT.reason (s.missingNeed f)).pairEvent 6 INFO 0x0F07 := by
  rcases apart with state | state <;> simp [State.enablePair, state]

theorem State.startTakeover_standby (role : s.is PAIR_STAT.role = false)
    (state : s.get PAIR_STAT.state = 2 ∨ s.get PAIR_STAT.state = 3) : s.startTakeover
      = { s with pair := { s.pair with before := s.get PAIR_STAT.state, driven := true } }.setPairState 4 := by
  rcases state with state | state <;> simp [State.startTakeover, role, state]

theorem State.resyncPair_unsynced (role : s.is PAIR_STAT.role = true) (state : s.get PAIR_STAT.state = 3) :
    s.resyncPair = s.startCopy := if_pos (by simp [role, state])

theorem State.rejoinPair_fenced (fenced : s.fenced = true) : s.rejoinPair
    = { s with pair := { s.pair with copying := true, applied := 0, misses := 0 } }.put PAIR_STAT.role 0 := if_pos fenced

theorem State.releasePair_single (fenced : s.fenced = true) (low : s.is PAIR_STAT.fence_in = false)
    (alone : s.pair.rejoined = false) : s.releasePair = s.setPairState 0 := by
  simp [State.releasePair, fenced, low, alone]

theorem State.releasePair_rejoined (fenced : s.fenced = true) (low : s.is PAIR_STAT.fence_in = false)
    (rejoined : s.pair.rejoined = true) : s.releasePair
      = { s.pairEvent 4 INFO 0x0F05 with
          pair := { s.pair with rejoined := false, copying := false } }.setPairState 2 := by
  simp [State.releasePair, fenced, low, rejoined, State.pairEvent]

end

/-! ### The copy -/

section
variable (s : State)

theorem State.pair_startCopy : s.startCopy.pair = { s.pair with queue := [], copying := true, misses := 0 } :=
  State.pair_setPairState _ 1

theorem State.get_showLag_off {f : Field} (other : f.off ≠ PAIR_LAG.off) : s.showLag.get f = s.get f :=
  s.get_put_off _ other

theorem State.state_startCopy : s.startCopy.get PAIR_STAT.state = 1 :=
  (State.get_showLag_off _ (by decide)).trans (State.get_setPairState _ (by decide))

theorem State.lag_startCopy : s.startCopy.get PAIR_LAG.v = 0 := by
  have empty : (State.setPairState { s with pair := { s.pair with queue := [], copying := true, misses := 0 } } 1
      ).mirrorDepth = 0 := by
    rw [State.mirrorDepth, State.pair_setPairState]
    rfl
  refine (State.get_put_same _ _ (by decide)).trans ?_
  rw [empty]
  rfl

/-- Storing another field of PAIR_STAT leaves the pair's state. -/
theorem State.get_setPairState_apart (v : Nat) {f : Field} (stat : f.off = PAIR_STAT.off) (below : f.hi < 28) :
    (s.setPairState v).get f = s.get f :=
  (State.when_keeps (fun t => t.get f) _ _ _ fun t => t.get_alert_off 5 (by rw [stat]; decide)).trans
    (s.get_put_apart v (by omega) (.inl below))

/-- A pair's event leaves PAIR_STAT, PAIR_CTRL and the pair's own state. -/
theorem State.get_pairEvent_off (n : Nat) (cls : BitVec 2) (code : Nat) {f : Field}
    (other : f.off ∉ [EVT.off pagePAIR, EVT_CNT.off pagePAIR, ERR_INFO0.off pagePAIR, ERR_INFO1.off pagePAIR,
      FLT_DROP.off, EVT.off pageFLT, EVT_CNT.off pageFLT]) : (s.pairEvent n cls code).get f = s.get f :=
  s.get_raise_off _ _ _ _ _ _ other

theorem State.pair_pairEvent (n : Nat) (cls : BitVec 2) (code : Nat) : (s.pairEvent n cls code).pair = s.pair :=
  s.raise_pair ..

end

/-- A complete copy is in SYNC. -/
def State.endCopy (s : State) : State :=
  ({ s.pairEvent 4 INFO 0x0F05 with pair := { s.pair with copying := false } } : State).setPairState 2

/-- The survivor of a takeover releases its fence. -/
def State.releaseFence (s : State) : State :=
  ({ s with pair := { s.pair with survivor := false, driven := false } } : State).put PAIR_STAT.fence_out 0

theorem State.pair_endCopy (s : State) : s.endCopy.pair = { s.pair with copying := false } :=
  State.pair_setPairState _ 2

theorem State.state_endCopy (s : State) : s.endCopy.get PAIR_STAT.state = 2 :=
  State.get_setPairState _ (by decide)

theorem State.state_releaseFence (s : State) : s.releaseFence.get PAIR_STAT.state = s.get PAIR_STAT.state :=
  State.get_put_apart _ _ (by decide) (by decide)

/-- A copy that is complete makes SYNC, and the survivor of a takeover releases its fence (R457, R469). -/
theorem exec_pairSyncComplete_syncing {s : State} (copying : s.pair.copying = true)
    (syncing : s.get PAIR_STAT.state = 1) :
    exec .pairSyncComplete s = .next (s.endCopy.when s.pair.survivor State.releaseFence) := by
  have survivor : s.endCopy.pair.survivor = s.pair.survivor := (congrArg PairState.survivor s.pair_endCopy :)
  have unfenced : s.fenced = false := State.not_fenced_of_state syncing (by decide)
  rw [← survivor]
  show execPairSyncComplete s = _
  simp only [execPairSyncComplete, copying, unfenced, syncing, Bool.not_true, Bool.false_eq_true, if_false, if_true]
  rfl

/-- A standby, with no acknowledgement to take, follows its primary into SYNCING and UNSYNCED (R457, R460). -/
theorem exec_heartbeatReceived_quiet {s : State} {h : Heartbeat} (on : s.is PAIR_CTRL.enable = true)
    (good : h.check = true) (off : s.mirrors = false) :
    let u := { s with pair := { s.pair with misses := 0 } }
    let follows := !s.is PAIR_STAT.role && h.primary && decide (1 ≤ s.get PAIR_STAT.state)
      && decide (s.get PAIR_STAT.state ≤ 3)
    exec (.heartbeatReceived h) s
      = if follows && decide (h.state = 1) && decide (s.get PAIR_STAT.state ≠ 1) then .next u.startCopy
        else if follows && decide (h.state = 3) && decide (s.get PAIR_STAT.state ≠ 3) then
          .next ({ u with pair := { u.pair with copying := false } }.setPairState 3)
        else .next u := by
  intro u follows
  have none : u.takeAck h.ack = u := if_pos (by rw [show u.mirrors = false from off]; rfl)
  have heard : (!h.check || !s.is PAIR_CTRL.enable) = false := by rw [good, on]; rfl
  show execHeartbeatReceived h s = _
  simp only [execHeartbeatReceived, heard, Bool.false_eq_true, if_false]
  rw [none]
  rfl

/-- A window without a heartbeat counts, and at the limit starts a takeover (R464, R465). -/
theorem exec_heartbeatMiss {s : State} (on : s.is PAIR_CTRL.enable = true) (low : 1 ≤ s.get PAIR_STAT.state)
    (high : s.get PAIR_STAT.state ≤ 3) :
    let u := { s.count PAIR_HB_MISS.v with pair := { s.pair with misses := s.pair.misses + 1 } }
    exec .heartbeatMiss s
      = .next (u.when (decide (s.get PAIR_CFG.miss ≤ s.pair.misses + 1)) State.startTakeover) := by
  intro u
  have limit : u.get PAIR_CFG.miss = s.get PAIR_CFG.miss := s.get_count_off (f := PAIR_HB_MISS.v) (by decide)
  have hears : (!s.is PAIR_CTRL.enable || decide (s.get PAIR_STAT.state = 0) || decide (4 ≤ s.get PAIR_STAT.state)) = false := by
    rw [on, decide_eq_false (by omega), decide_eq_false (by omega)]
    rfl
  rw [← limit]
  show execHeartbeatMiss s = _
  simp only [execHeartbeatMiss, hears, Bool.false_eq_true, if_false]
  rfl

/-- Settles O59: each command by the branch that its guards choose; a new state of the pair leaves the rest of PAIR_STAT,
and a write of PAIR_CTRL leaves all of it. -/
theorem pairMirrorCommandsComplete : Obligations.PairMirrorCommandsComplete := by
  unfold Obligations.PairMirrorCommandsComplete
  refine ⟨fun s v f b29 b28 b27 b26 => ?enable, fun s => ⟨s.state_startCopy, congrArg PairState.queue s.pair_startCopy,
      congrArg PairState.copying s.pair_startCopy, congrArg PairState.misses s.pair_startCopy, s.lag_startCopy⟩,
    fun s copying => ⟨fun fenced => ?fencedCopy, fun syncing => ?synced⟩, fun s position ch takes => ?change,
    fun s n w t k v => ?applied, fun s position on later => ?ack, fun s on paired => ?sent, fun s h on good off => ?heard,
    fun s h bad => ?bad, fun s on low high => s.get_count_same (by decide), fun s on low high => ?missed,
    fun s v b29 b26 on => ?resync⟩
  case enable =>
    intro u now apart
    have state : u.get PAIR_STAT.state = s.get PAIR_STAT.state := s.get_stat_writeCtrl v rfl
    have run : exec (.pairEnable v f) s = .next (u.enablePair f) := by
      show Host.Outcome.next (s.writePairCtrl v (some f)) = _
      rw [State.writePairCtrl_facts f now, State.pairActions_eq _ b29 b28 b27 b26]
      rfl
    rw [State.enablePair_apart f (by rw [state]; exact apart)] at run
    exact ⟨fun complete => run.trans (by rw [if_pos complete, complete]), fun missing => run.trans (by rw [if_neg missing])⟩
  case fencedCopy =>
    show execPairSyncComplete s = _
    simp [execPairSyncComplete, copying, fenced]
  case synced =>
    refine ⟨_, exec_pairSyncComplete_syncing copying syncing, ?_, ?_, ?_, fun survivor => ?_⟩
    · exact (State.when_keeps (fun t => t.get PAIR_STAT.state) _ _ _ State.state_releaseFence).trans s.state_endCopy
    · exact (State.when_keeps (fun t => t.pair.copying) _ _ State.releaseFence fun _ => rfl).trans
        (congrArg PairState.copying s.pair_endCopy)
    · exact (State.when_keeps (fun t => t.pair.queue) _ _ State.releaseFence fun _ => rfl).trans
        (congrArg PairState.queue s.pair_endCopy :)
    · rw [State.when_of_true survivor]
      exact ⟨rfl, State.get_put_same _ _ (by decide)⟩
  case change =>
    constructor
    · intro fresh
      show execMirrorChange position ch s = _
      simp [execMirrorChange, takes, fresh]
    · intro known
      show execMirrorChange position ch s = _
      simp [execMirrorChange, known]
  case applied =>
    have aside : (BitVec.ofNat 26 TH_CTRL.off).toNat = TH_CTRL.off := by decide
    refine ⟨State.word_setWord_same _ _ _, State.word_setWord_same _ _ _, ?_⟩
    simp only [State.applyChange, aside, decide_true, Bool.true_or, if_true]
  case ack =>
    have same : (fun e : Nat × Change × Nat => !decide (e.1 ≤ position)) = fun e => decide (position < e.1) := by
      funext e
      simp [← decide_not]
    show Host.Outcome.next (s.takeAck position) = _
    simp only [State.takeAck, on, same, Nat.not_le.2 later, Bool.not_true, Bool.false_or, decide_false, Bool.false_eq_true,
      if_false]
  case sent =>
    show execHeartbeatSend s = _
    simp [execHeartbeatSend, on, paired]
  case bad =>
    show execHeartbeatReceived h s = _
    simp [execHeartbeatReceived, bad]
  case heard =>
    intro u follows
    have run := exec_heartbeatReceived_quiet on good off
    refine ⟨fun ⟨role, primary, low, high⟩ told new => run.trans ?_, fun ⟨role, primary, low, high⟩ told new => run.trans ?_,
      fun other => run.trans ?_⟩
    · simp [role, primary, low, high, told, new, u]
    · simp [role, primary, low, high, told, new, u]
    · by_cases f : follows
      · obtain ⟨not1, not3⟩ := other.resolve_left (not_not.2 f)
        simp only [decide_eq_false not1, decide_eq_false not3, Bool.and_false, Bool.false_and, Bool.false_eq_true,
          if_false, u]
      · have no : (!s.is PAIR_STAT.role && h.primary && decide (1 ≤ s.get PAIR_STAT.state)
            && decide (s.get PAIR_STAT.state ≤ 3)) = false := by
          rw [← Bool.not_eq_true]
          simpa [follows, and_assoc] using f
        simp [no, u]
  case missed =>
    intro u
    have run := exec_heartbeatMiss on low high
    refine ⟨fun below => ?_, fun reached => ?_, fun role missed => ?_⟩
    · rw [run, State.when_of_false (decide_eq_false (Nat.not_le.2 below))]
    · rw [run, State.when_of_true (decide_eq_true reached)]
    · show execPrimaryAlone s = _
      simp [execPrimaryAlone, role, missed, low, high]
  case resync =>
    intro u now
    have run : s.writePairCtrl v none = u.pairActions v := State.writePairCtrl_enabled on now
    refine ⟨fun b28 b27 role unsynced => congrArg Host.Outcome.next (run.trans ?_),
      fun b28 b27 fenced => congrArg Host.Outcome.next (run.trans ?_)⟩
    · rw [State.pairActions_eq _ b29 b28 b27 b26]
      exact State.resyncPair_unsynced ((State.is_of_get (s.get_stat_writeCtrl v rfl)).trans role)
        ((s.get_stat_writeCtrl v rfl).trans unsynced)
    · rw [State.pairActions_eq _ b29 b28 b27 b26]
      exact State.rejoinPair_fenced ((State.fenced_of_get (s.get_stat_writeCtrl v rfl)).trans fenced)

/-! ### Takeover and fencing -/

/-- A low ball ends the takeover (R465). -/
def State.abandonTakeover (s : State) : State :=
  ({ (s.put PAIR_STAT.fence_out 0).pairEvent 5 FATAL 0x0F06 with
    pair := { s.pair with driven := false } } : State).setPairState s.pair.before

theorem exec_fenceReadback_low {s : State} (taking : s.get PAIR_STAT.state = 4) :
    exec (.fenceReadback false) s = .next s.abandonTakeover := by
  have event : ((s.put PAIR_STAT.fence_out 0).pairEvent 5 FATAL 0x0F06).pair = s.pair := State.pair_pairEvent _ 5 FATAL 0x0F06
  show execFenceReadback false s = _
  simp only [execFenceReadback, taking, ne_eq, not_true_eq_false, Bool.false_eq_true, if_false, event]
  rfl

theorem State.fenceOut_abandonTakeover (s : State) : s.abandonTakeover.get PAIR_STAT.fence_out = 0 :=
  (State.get_setPairState_apart _ _ rfl (by decide)).trans
    ((State.get_pairEvent_off (s.put PAIR_STAT.fence_out 0) 5 FATAL 0x0F06 (by decide)).trans (s.get_put_same 0 (by decide)))

/-- The settled standby is primary (R465): its role, the count of takeovers and its own state. -/
def State.becomePrimary (s : State) : State :=
  ({ ((s.pairEvent 0 CONTAINED 0x0F01).put PAIR_STAT.role 1).count PAIR_TAKEOVERS.v with
    pair := { s.pair with
      survivor := true, copying := false, queue := [], acked := s.pair.applied, nextPos := s.pair.applied + 1 } }
    : State).setPairState 5

section
variable (s : State)

theorem State.pair_becomePrimary : s.becomePrimary.pair = { s.pair with
    survivor := true, copying := false, queue := [], acked := s.pair.applied, nextPos := s.pair.applied + 1 } :=
  State.pair_setPairState _ 5

theorem State.role_becomePrimary : s.becomePrimary.is PAIR_STAT.role = true := by
  have role : s.becomePrimary.get PAIR_STAT.role = 1 :=
    (State.get_setPairState_apart _ 5 rfl (by decide)).trans
      ((State.get_count_off (f := PAIR_TAKEOVERS.v) _ (by decide)).trans (State.get_put_same _ 1 (by decide)))
  simp [State.is, role]

theorem State.takeovers_becomePrimary :
    s.becomePrimary.get PAIR_TAKEOVERS.v = min (s.get PAIR_TAKEOVERS.v + 1) (2 ^ 32 - 1) := by
  have before : ((s.pairEvent 0 CONTAINED 0x0F01).put PAIR_STAT.role 1).get PAIR_TAKEOVERS.v = s.get PAIR_TAKEOVERS.v :=
    (State.get_put_off _ _ (by decide)).trans (s.get_pairEvent_off 0 CONTAINED 0x0F01 (by decide))
  refine (congrArg (bitsOf · _ _) (State.word_setPairState_ne _ 5 (by decide) (by decide))).trans ?_
  refine (State.get_count_same _ (f := PAIR_TAKEOVERS.v) (by decide)).trans ?_
  rw [before]
  rfl

theorem State.se_becomePrimary : s.becomePrimary.se = s.se :=
  (State.when_keeps State.se _ _ _ fun t => t.alert_se 5).trans (s.raise_se ..)

theorem exec_takeoverSettle {s : State} (taking : s.get PAIR_STAT.state = 4) (fence : s.is PAIR_STAT.fence_out = true)
    (ctxs : List TakeoverCtx) : exec (.takeoverSettle ctxs) s
      = .next (((((s.becomePrimary.each (s.becomePrimary.ctxsOn.filter fun n => s.becomePrimary.mirroredCtx n) fun s n =>
          s.takeContext n (match ctxs.find? fun c : TakeoverCtx => c.ctx.toNat = n with
            | some c => c.present
            | none => 0)).takeTasks).takeRoot).each (List.range 28) fun s o => s.passOut o).progressAll) := by
  have event : ((s.pairEvent 0 CONTAINED 0x0F01).put PAIR_STAT.role 1).pair = s.pair := s.pair_pairEvent 0 CONTAINED 0x0F01
  show execTakeoverSettle ctxs s = _
  simp only [execTakeoverSettle, taking, fence, event, ne_eq, not_true_eq_false, decide_false, Bool.not_true, Bool.or_false,
    Bool.false_eq_true, if_false]
  rfl

/-! ### A context taken over (R462) -/

/-- What a context that is taken over goes on with. -/
theorem State.takeContext_noc {n : Nat} (noc : isHost (s.cring n) = false) (present : Nat) :
    let rs := runFrom (s.ctx n).recs (s.ringLen n) (s.done n) (s.ctx n).recs.length
    let u := s.put (SE_SC_IDX.head n) ((s.done n + rs.length) % s.ringLen n)
    s.takeContext n present = u.setCtx n {
      on := (s.ctx n).on, stopped := decide (u.ctxState n = 4), recs := rs.map fun r => { r with written := false, ack := none } } := by
  simp only [State.takeContext, noc, Bool.false_eq_true, if_false]

@[simp] theorem State.ctx_setCtx (n : Nat) (c : StreamCtx) : (s.setCtx n c).ctx n = c := KMap.get_set_same ..

theorem State.ringLen_le {n : Nat} (size : s.get (SE_SC_DRING_HI.size n) ≤ 16) : s.ringLen n ≤ 65536 :=
  Nat.pow_le_pow_right (by decide) size

theorem State.ringLen_pos (n : Nat) : 0 < s.ringLen n := Nat.two_pow_pos _

/-! ### A device that is fenced (R467) -/

/-- An output that is released stores its own registers alone. -/
theorem State.get_releaseOut_off {o : Nat} {f : Field} (other : f.off ≠ TH_OUT_STAT.off o) :
    (s.releaseOut o).get f = s.get f := State.get_put_off _ _ other

theorem State.becomeFenced_keeps {β : Type} (g : State → β) (free : s.fenced = false)
    (keeps : ∀ o < 28, ∀ t : State, g (t.releaseOut o) = g t) : g s.becomeFenced
      = g ({ (s.pairEvent 2 CONTAINED 0x0F03).setPairState 6 with pair := { s.pair with
        queue := [], copying := false, rejoined := false, survivor := false } } : State).showLag := by
  have pair : ((s.pairEvent 2 CONTAINED 0x0F03).setPairState 6).pair = s.pair :=
    (State.pair_setPairState _ 6).trans (s.pair_pairEvent 2 CONTAINED 0x0F03)
  simp only [State.becomeFenced, free, Bool.false_eq_true, if_false, pair]
  exact State.each_keeps_of_mem g _ fun o ho => keeps o (List.mem_range.1 ho)

end

/-- Settles O60: each command by the branch that its guards choose; what follows a new state of the pair leaves what the
statement reads of it. -/
theorem takeoverCommandsComplete : Obligations.TakeoverCommandsComplete := by
  unfold Obligations.TakeoverCommandsComplete
  refine ⟨fun s v b29 b28 b27 b26 on => ?takeover, fun s taking => ⟨?high, fun fits => ?low⟩, fun s ctxs taking fence => ?settle,
    fun s n present _ noc size => ?context, fun s free => ?fence, fun s v b29 b28 b27 b26 fenced on => ?release⟩
  case takeover =>
    intro u now role state
    have run : s.writePairCtrl v none = u.pairActions v := State.writePairCtrl_enabled on now
    have stands : u.get PAIR_STAT.state = s.get PAIR_STAT.state := s.get_stat_writeCtrl v rfl
    refine congrArg Host.Outcome.next (run.trans ?_)
    rw [State.pairActions_eq _ b29 b28 b27 b26, ← stands]
    exact State.startTakeover_standby ((State.is_of_get (s.get_stat_writeCtrl v rfl)).trans role)
      (by rw [stands]; exact state)
  case high =>
    show execFenceReadback true s = _
    simp [execFenceReadback, taking]
  case low =>
    exact ⟨_, exec_fenceReadback_low taking, State.get_setPairState _ fits, s.fenceOut_abandonTakeover,
      State.pair_setPairState _ _⟩
  case settle =>
    exact ⟨s.becomePrimary, State.get_setPairState _ (by decide), s.role_becomePrimary, s.takeovers_becomePrimary,
      s.pair_becomePrimary, s.se_becomePrimary, exec_takeoverSettle taking fence ctxs⟩
  case context =>
    intro rs t
    have taken : t = _ := s.takeContext_noc noc present
    have fits : (s.done n + rs.length) % s.ringLen n < 65536 :=
      (Nat.mod_lt _ (s.ringLen_pos n)).trans_le (s.ringLen_le size)
    have head : t.head n = (s.done n + rs.length) % s.ringLen n := by
      rw [taken]
      exact (s.get_put_same (f := SE_SC_IDX.head n) _ (by simp [SE_SC_IDX.head])).trans (Nat.mod_eq_of_lt fits)
    have done : t.done n = s.done n := by
      rw [taken]
      exact s.get_put_apart (g := SE_SC_IDX.done n) (f := SE_SC_IDX.head n) _ (by simp [SE_SC_IDX.done])
        (by simp [SE_SC_IDX.done, SE_SC_IDX.head])
    refine ⟨head, done, ?_, ?_⟩
    · rw [taken, State.ctx_setCtx]
    · rw [taken, State.ctx_setCtx]
  case fence =>
    intro u
    have stat (f : Field) (own : f.off = PAIR_STAT.off) : ∀ o < 28, ∀ t : State, (t.releaseOut o).get f = t.get f :=
      fun o ho t => t.get_releaseOut_off (by rw [own]; simp only [PAIR_STAT.off, TH_OUT_STAT.off]; omega)
    have role : u.is PAIR_STAT.pin_role = s.is PAIR_STAT.pin_role :=
      State.is_of_get (s.get_put_apart 1 (by decide) (by decide))
    have state : s.becomeFenced.get PAIR_STAT.state = 6 :=
      (s.becomeFenced_keeps (fun t => t.get PAIR_STAT.state) free (stat _ rfl)).trans
        ((State.get_showLag_off _ (by decide)).trans (State.get_setPairState _ (by decide)))
    have pair : s.becomeFenced.pair = { s.pair with
        queue := [], copying := false, rejoined := false, survivor := false } :=
      s.becomeFenced_keeps State.pair free fun _ _ _ => rfl
    refine ⟨rfl, fun idle => ?_, fun driven stands => ?_, fun driven yields => ?_, ?_, ?_, ?_⟩
    · show execFenceIn true s = _
      simp [execFenceIn, idle, u]
    · show execFenceIn true s = _
      simp [execFenceIn, driven, role, stands, u]
    · show execFenceIn true s = _
      simp [execFenceIn, driven, role, yields, u]
    · simp [State.fenced, state]
    · rw [pair]
    · rw [pair]
  case release =>
    intro u now
    have ctrl : (s.putB PAIR_STAT.fence_in false).get PAIR_CTRL.enable = s.get PAIR_CTRL.enable :=
      s.get_put_off _ (by decide)
    have run : (s.putB PAIR_STAT.fence_in false).writePairCtrl v none = u.pairActions v :=
      State.writePairCtrl_enabled ((State.is_of_get ctrl).trans on) now
    have stands : u.fenced = true :=
      (State.fenced_of_get ((State.get_stat_writeCtrl _ v rfl).trans (s.get_put_apart _ (by decide) (by decide)))).trans fenced
    have low : u.is PAIR_STAT.fence_in = false :=
      State.is_of_get_zero ((State.get_stat_writeCtrl _ v rfl).trans (s.get_put_same _ (by decide)))
    rw [State.pairActions_eq _ b29 b28 b27 b26] at run
    refine ⟨fun alone => congrArg Host.Outcome.next (run.trans (State.releasePair_single stands low alone)),
      fun rejoined => ⟨_, congrArg Host.Outcome.next (run.trans (State.releasePair_rejoined stands low rejoined)),
        State.get_setPairState _ (by decide), State.pair_setPairState _ 2⟩⟩

end Sys2Proof.Machine
end

section
/-! Heat, ageing and PMBus (R500 to R510). -/

namespace Sys2Proof.Machine

open Reg

/-! ### What follows a reading (R502 to R504) -/

section
variable (s : State)

/-- An event of THM leaves the sensors' registers and THM_STAT. -/
theorem State.word_raiseThm (n : Nat) (cls : BitVec 2) (code i0 i1 : Nat) {o : Nat} (low : THM_STAT.off ≤ o)
    (high : o < 0x504000) : (s.raise pageTHM n cls code i0 i1).word o = s.word o := by
  refine s.word_raise_ne _ _ _ _ _ _ ?_
  simp only [THM_STAT.off, pageTHM, pageFLT, EVT.off, EVT_CNT.off, ERR_INFO0.off, ERR_INFO1.off, FLT_DROP.off,
    List.mem_cons, List.not_mem_nil, or_false] at *
  omega

theorem State.word_applyLevel {o : Nat} (low : THM_STAT.off < o) (high : o < 0x504000) :
    s.applyLevel.word o = s.word o := by
  unfold State.applyLevel
  dsimp only
  split
  · rfl
  · exact (State.word_raiseThm _ 3 INFO 0x1113 0 0 (Nat.le_of_lt low) high).trans
      (s.word_put_ne (f := THM_STAT.L) _ (Nat.ne_of_gt low))

/-- A limit that is reached raises an event of THM and sets an alert. -/
theorem State.word_limit (p : PwrState) (n : Nat) (cls : BitVec 2) (code : Nat) {o : Nat} (low : THM_STAT.off < o)
    (high : o < 0x504000) : ((State.raise { s with pwr := p } pageTHM n cls code 0 0).alert 2).word o = s.word o :=
  (State.word_alert_ne _ 2 (by simp only [TWP_ALERT_SRC.off]; omega)).trans
    (State.word_raiseThm _ n cls code 0 0 (Nat.le_of_lt low) high)

/-- The warning, and the critical limit (R503). -/
def State.checkWarn (s : State) (hot warn : Int) : State :=
  if s.pwr.warn then { s with pwr := { s.pwr with warn := decide (warn - 16 < hot) } }
  else if warn ≤ hot then ({ s with pwr := { s.pwr with warn := true } }.raise pageTHM 2 INFO 0x1112 0 0).alert 2
  else s
def State.checkCrit (s : State) (hot crit : Int) : State :=
  if s.pwr.crit then { s with pwr := { s.pwr with crit := decide (crit - 40 < hot) } }
  else if crit ≤ hot then
    (({ s with pwr := { s.pwr with crit := true } }.raise pageTHM 1 CONTAINED 0x1111 0 0).alert 2).applyLevel
  else s

theorem State.checkLimits_eq (hot : Int) : s.checkLimits hot
    = (s.checkWarn hot (8 * s.getS THM_LIMIT.warn)).checkCrit hot (8 * s.getS THM_LIMIT.crit) := rfl

theorem State.word_checkWarn (hot warn : Int) {o : Nat} (low : THM_STAT.off < o) (high : o < 0x504000) :
    (s.checkWarn hot warn).word o = s.word o := by
  unfold State.checkWarn
  split
  · rfl
  · split
    · exact s.word_limit _ 2 INFO 0x1112 low high
    · rfl

theorem State.word_checkCrit (hot crit : Int) {o : Nat} (low : THM_STAT.off < o) (high : o < 0x504000) :
    (s.checkCrit hot crit).word o = s.word o := by
  unfold State.checkCrit
  split
  · rfl
  · split
    · exact (State.word_applyLevel _ low high).trans (s.word_limit _ 1 CONTAINED 0x1111 low high)
    · rfl

theorem State.word_afterReading {o : Nat} (low : THM_STAT.off < o) (high : o < 0x504000) :
    s.afterReading.word o = s.word o := by
  unfold State.afterReading
  split
  · dsimp only
    rw [State.checkLimits_eq, State.word_checkCrit _ _ _ low high, State.word_checkWarn _ _ _ low high]
    exact State.word_put_ne (f := THM_STAT.hottest) _ _ (Nat.ne_of_gt low)
  · split
    · rfl
    · exact (State.word_applyLevel _ low high).trans (State.word_raiseThm _ 5 CONTAINED 0x1115 0 0 (Nat.le_of_lt low) high)

/-! ### A reading (R500) -/

/-- A good reading of a sensor that stays powered shows in THM_SENS. -/
def State.showReading (s : State) (n : Nat) (x : Int) : State :=
  ((s.putS (THM_SENS.temp n) x).putB (THM_SENS.fault n) false).putB (THM_SENS.stale n) false

theorem State.readSensor_powered {n : Nat} {x : Int} (powered : n = 16 ∨ n = 17 ∨ 18 < n) (cold : -440 ≤ x)
    (hot : x ≤ 1200) : s.readSensor n x = (s.showReading n x).afterReading := by
  have dom : sensorDom n = none := by
    unfold sensorDom
    rw [if_neg (by omega), if_neg (by omega)]
  have open_ (t : State) : t.openLong n = true := if_neg (by omega)
  have good : (decide (x < -440) || decide (1200 < x)) = false := by
    rw [decide_eq_false (by omega), decide_eq_false (by omega)]
    rfl
  have inside : max (-2048) (min 2047 x) = x := by omega
  simp only [State.readSensor, dom, good, open_, inside, Bool.false_eq_true, if_false, Bool.false_and, Bool.not_true,
    State.when]
  rfl

theorem State.get_showReading_flags (n : Nat) (x : Int) : (s.showReading n x).get (THM_SENS.fault n) = 0
    ∧ (s.showReading n x).get (THM_SENS.stale n) = 0 := by
  constructor
  · refine (State.get_put_apart _ _ (by simp [THM_SENS.fault]) (.inl (by simp [THM_SENS.fault, THM_SENS.stale]))).trans ?_
    exact State.get_put_same _ _ (by simp [THM_SENS.fault])
  · exact State.get_put_same _ _ (by simp [THM_SENS.stale])

theorem State.getS_of_get {s t : State} {f : Field} (same : t.get f = s.get f) : t.getS f = s.getS f := by
  rw [State.getS, same, State.getS]

theorem State.getS_showReading {n : Nat} {x : Int} (cold : -2048 ≤ x) (hot : x ≤ 2047) :
    (s.showReading n x).getS (THM_SENS.temp n) = x := by
  have stored : (s.showReading n x).get (THM_SENS.temp n) = (x % 4096).toNat := by
    refine (State.get_put_apart _ _ (by simp [THM_SENS.temp]) (.inl (by simp [THM_SENS.temp, THM_SENS.stale]))).trans ?_
    refine (State.get_put_apart _ _ (by simp [THM_SENS.temp]) (.inl (by simp [THM_SENS.temp, THM_SENS.fault]))).trans ?_
    refine (s.get_put_same (f := THM_SENS.temp n) _ (by simp [THM_SENS.temp])).trans (Nat.mod_eq_of_lt ?_)
    show (x % 4096).toNat < 4096
    omega
  unfold State.getS
  rw [stored]
  show (if (x % 4096).toNat < 2048 then ((x % 4096).toNat : Int) else ((x % 4096).toNat : Int) - (4096 : Nat)) = x
  split <;> omega

theorem State.word_sens_afterReading (n : Fin 24) :
    s.afterReading.word (THM_SENS.off n.val) = s.word (THM_SENS.off n.val) :=
  s.word_afterReading (by simp only [THM_STAT.off, THM_SENS.off]; omega) (by simp only [THM_SENS.off]; omega)

/-! ### The throttle level (R502) -/

theorem State.levelNow_lt : s.levelNow < 16 := by
  have thermal : s.get THM_STAT.thermal < 16 := s.get_lt _
  have cap : s.get THM_STAT.cap < 16 := s.get_lt _
  have derating : s.get THM_STAT.derating < 16 := s.get_lt _
  unfold State.levelNow
  split <;> omega

/-- The level does not depend on the level that acts, nor on the events of THM. -/
theorem State.levelNow_of_parts {s t : State} (pwr : t.pwr = s.pwr)
    (parts : ∀ f ∈ [THM_STAT.thermal, THM_STAT.cap, THM_STAT.derating], t.get f = s.get f) : t.levelNow = s.levelNow := by
  simp only [List.forall_mem_cons] at parts
  obtain ⟨thermal, cap, derating, -⟩ := parts
  simp only [State.levelNow, pwr, thermal, cap, derating]

/-- A change of the level shows, with its event. -/
theorem State.get_raise_put_level (l : Nat) {f : Field} (stat : f.off = THM_STAT.off) :
    ((s.put THM_STAT.L l).raise pageTHM 3 INFO 0x1113 0 0).get f = (s.put THM_STAT.L l).get f :=
  congrArg (bitsOf · _ _) (State.word_raiseThm _ 3 INFO 0x1113 0 0 (by rw [stat]) (by rw [stat]; decide))

theorem State.get_applyLevel {f : Field} (stat : f.off = THM_STAT.off) (below : f.hi < 28) :
    s.applyLevel.get f = s.get f := by
  unfold State.applyLevel
  dsimp only
  split
  · rfl
  · exact (s.get_raise_put_level _ stat).trans (s.get_put_apart _ (by omega) (.inl below))

theorem State.pwr_applyLevel : s.applyLevel.pwr = s.pwr := by
  unfold State.applyLevel
  dsimp only
  split
  · rfl
  · rw [State.raise_pwr, State.put_pwr]

theorem State.levelNow_applyLevel : s.applyLevel.levelNow = s.levelNow :=
  State.levelNow_of_parts s.pwr_applyLevel (by
    simp only [List.forall_mem_cons, List.not_mem_nil, false_implies, implies_true, and_true]
    exact ⟨s.get_applyLevel rfl (by decide), s.get_applyLevel rfl (by decide), s.get_applyLevel rfl (by decide)⟩)

/-- The throttle takes the level. -/
theorem State.level_applyLevel : s.applyLevel.get THM_STAT.L = s.levelNow := by
  unfold State.applyLevel
  dsimp only
  split
  · assumption
  · exact (s.get_raise_put_level _ rfl).trans ((s.get_put_same _ (by decide)).trans (Nat.mod_eq_of_lt s.levelNow_lt))

/-- What THROTTLE_UPDATE shows before the level is taken: the derating, and no power cap when none is asked for. -/
def State.showDerating (s : State) (v : Nat) : State := s.put THM_STAT.derating v
def State.endCap (s : State) : State :=
  if s.is PWR_CAP.watts then s else
    { s with pwr := { s.pwr with capOver := 0, capUnder := 0 } }.put THM_STAT.cap 0
def State.updateLevels (s : State) : State :=
  (s.updateThermal.showDerating (if s.is AGE_CFG.derate_thr then s.get AGE_STAT.derate else 0)).endCap

theorem State.derating_endCap : s.endCap.get THM_STAT.derating = s.get THM_STAT.derating := by
  unfold State.endCap
  split
  · rfl
  · exact State.get_put_apart _ 0 (by decide) (by decide)

theorem State.derating_updateLevels : s.updateLevels.get THM_STAT.derating
    = if s.is AGE_CFG.derate_thr then s.get AGE_STAT.derate else 0 := by
  have fits : (if s.is AGE_CFG.derate_thr then s.get AGE_STAT.derate else 0) < 16 := by
    have step : s.get AGE_STAT.derate < 16 := s.get_lt _
    split <;> omega
  exact (State.derating_endCap _).trans
    ((State.get_put_same (f := THM_STAT.derating) _ _ (by decide)).trans (Nat.mod_eq_of_lt fits))

/-! ### The summary (R506) and PMBus (R510) -/

theorem State.age_shiftBytes (x : Option Int) : (s.shiftBytes x).2.age = s.age := by
  unfold State.shiftBytes
  split <;> rfl

theorem State.age_highBytes (m n : Nat) : (s.highBytes m n).2.age = s.age := by
  induction n generalizing s m with
  | zero => rfl
  | succ n ih => exact (ih _ (m + 1)).trans (s.age_shiftBytes _)

theorem State.age_summaryBytes (seq hours : Nat) : (s.summaryBytes seq hours).2.age = s.age := by
  unfold State.summaryBytes
  generalize 512 = n
  exact (State.age_highBytes _ 0 n).trans (s.age_shiftBytes _)

theorem State.age_flashSpoil (a n : Nat) : (s.flashSpoil a n).age = s.age :=
  State.each_keeps State.age s (List.range n) _ fun _ _ => rfl

/-- A saved summary's page, and a failed one's, with the event of each. -/
def pageSaved (a n seq i0 i1 : Nat) (got : List Byte × State) : State :=
  let t : State := { got.2.flashStore a got.1 with age := { got.2.age with seq := seq } }
  { t with age := { t.age with page := (t.age.page + 1) % n } }.raise pageAGE 3 INFO 0x1123 i0 i1
def State.pageSkipped (s : State) (a n len i0 i1 : Nat) : State :=
  let t := s.flashSpoil a len
  { t with age := { t.age with page := (t.age.page + 1) % n } }.raise pageAGE 4 CONTAINED 0x1124 i0 i1

theorem hours_pageSaved (a n seq i0 i1 : Nat) (got : List Byte × State) :
    (pageSaved a n seq i0 i1 got).age.hours = got.2.age.hours := by
  unfold pageSaved
  rw [State.raise_age]

theorem State.hours_pageSkipped (a n len i0 i1 : Nat) :
    (s.pageSkipped a n len i0 i1).age.hours = s.age.hours := by
  unfold State.pageSkipped
  rw [State.raise_age]
  exact (congrArg AgeState.hours (s.age_flashSpoil a len) :)

/-- The hours count whether a page is free for the summary or not. -/
theorem State.hours_saveSummary (ok : Bool) : (s.saveSummary ok).age.hours = s.age.hours + 1 := by
  unfold State.saveSummary
  generalize 4096 = len
  extract_lets n hours age t a i0 i1 next seq got bs u
  split
  · rfl
  · split
    · have kept : got.2.age = t.age := t.age_summaryBytes seq hours
      clear_value got
      exact (hours_pageSaved a n seq i0 i1 got).trans (congrArg AgeState.hours kept)
    · exact State.hours_pageSkipped _ _ _ len _ _

theorem State.stopped_pmbusDone_failed {cmd : BitVec 8} {data : BitVec 16} (runs : s.age.stopped = false) :
    2 ≤ s.age.fails ↔ (s.pmbusDone cmd false data).age.stopped = true := by
  by_cases third : s.age.fails + 1 < 3
  · refine iff_of_false (by omega) ?_
    simp [State.pmbusDone, third, runs]
  · refine iff_of_true (by omega) ?_
    simp [State.pmbusDone, third, State.pmbusStop, runs]

end

/-- Settles O14: each command is evaluated; a reading survives what follows it, and the level is taken last. -/
theorem thermalAndAgeingCommandsComplete : Obligations.ThermalAndAgeingCommandsComplete := by
  unfold Obligations.ThermalAndAgeingCommandsComplete
  refine ⟨fun s n x aux => congrArg Host.Outcome.next (if_pos aux), fun s n x aux powered cold hot => ?reading,
    fun s => ⟨s.updateLevels.applyLevel, rfl, ?level, ?derating⟩, fun s n good first => ?trip, fun s faulty first => ?faulty,
    fun s trip free => congrArg Host.Outcome.next (if_pos (by simp [trip, free])), fun s shifts => rfl,
    fun s v asks => ?asked, fun s ok => ⟨rfl, s.hours_saveSummary ok⟩, fun s tx runs => ⟨?done, fun failed => ?failed⟩,
    fun s word => rfl, fun s stopped => ⟨?resumed, ?again⟩⟩
  case reading =>
    have word := (s.showReading n.val x).word_sens_afterReading n
    obtain ⟨good, fresh⟩ := s.get_showReading_flags n.val x
    refine ⟨(s.showReading n.val x).afterReading, ?_, ?_, ?_, ?_⟩
    · exact congrArg Host.Outcome.next ((if_pos aux).trans (s.readSensor_powered powered cold hot))
    · exact (State.getS_of_get (f := THM_SENS.temp n.val) (s := s.showReading n.val x)
        (congrArg (bitsOf · 11 0) word)).trans (s.getS_showReading (by omega) (by omega))
    · exact (congrArg (bitsOf · 30 30) word).trans good
    · exact (congrArg (bitsOf · 31 31) word).trans fresh
  case level => exact (State.level_applyLevel _).trans (State.levelNow_applyLevel _).symm
  case derating => exact (State.get_applyLevel _ rfl (by decide)).trans s.derating_updateLevels
  case trip =>
    show execThermalTrip n s = _
    simp [execThermalTrip, good, State.tripNow, first]
  case faulty =>
    have all : ((List.range 24).all fun n => s.is (THM_SENS.fault n)) = true := by simpa using faulty
    show execSensorsFaultyTrip s = _
    simp [execSensorsFaultyTrip, all, State.tripNow, first]
  case asked =>
    have run : s.writeAge 0x4C AGE_MAINT.off v
        = { s.put AGE_MAINT.answer 1 with age := { s.age with asked := true } } :=
      (if_pos rfl).trans (State.when_of_true asks _)
    exact ⟨_, congrArg Host.Outcome.next run, s.get_put_same 1 (by decide), rfl, s.sameRegs_put AGE_MAINT.answer 1, rfl⟩
  case done =>
    show execPmbusTransaction tx s = _
    simp [execPmbusTransaction, runs]
  case failed =>
    rw [failed]
    exact s.stopped_pmbusDone_failed runs
  case resumed =>
    show execPmbusRetry true s = _
    simp [execPmbusRetry, stopped]
  case again =>
    show execPmbusRetry false s = _
    simp [execPmbusRetry]

end Sys2Proof.Machine
end

section
/-! The Towpath (R515 to R526). -/

namespace Sys2Proof.Machine

open Reg

section
variable (s : State)

/-- Without a demand for PEC, or with a correct one, a write over SMBus has its effect. -/
theorem State.smbWrite_taken {code : Nat} {pec : Option Bool} (f : State → State) (on : s.is TWP_CFG.smb_en = true)
    (good : s.is TWP_CFG.pec_req = false ∨ pec = some true) : s.smbWrite code pec f = f s := by
  rcases good with off | correct
  · simp [State.smbWrite, on, off]
  · simp [State.smbWrite, on, correct]

theorem State.smbWrite_discarded {code : Nat} {pec : Option Bool} (f : State → State) (on : s.is TWP_CFG.smb_en = true)
    (demanded : s.is TWP_CFG.pec_req = true) (bad : pec ≠ some true) :
    s.smbWrite code pec f = (s.count TWP_PEC_ERR.v).raise pageTWP 3 INFO 0x1204 code 0 := by
  simp [State.smbWrite, on, demanded, bad]

theorem State.win_setWin (t : Transport) (w : Window) : (s.setWin t w).win t = w := by
  cases t <;> rfl

/-- A read that ends OK leaves its data in its window. -/
theorem State.win_endAccess_read {t : Transport} {off : Nat} (data : Word) (reads : (s.win t).pending = some (.read off)) :
    (s.endAccess t 0 data).win t = { s.win t with pending := none, status := 0, data := data } := by
  simp only [State.endAccess, reads]
  exact State.win_setWin _ t _

/-- An alert's bit shows. -/
theorem State.get_alert_same {n : Nat} (narrow : n < 32) : (s.alert n).get ⟨TWP_ALERT_SRC.off, n, n⟩ = 1 := by
  have stored : (s.put ⟨TWP_ALERT_SRC.off, n, n⟩ 1).get ⟨TWP_ALERT_SRC.off, n, n⟩ = 1 :=
    (s.get_put_same (f := ⟨TWP_ALERT_SRC.off, n, n⟩) 1 narrow).trans (by simp)
  unfold State.alert
  dsimp only
  split
  · exact stored
  · exact stored

theorem State.sameRegs_alert (n : Nat) : s.SameRegs (s.alert n) [TWP_ALERT_SRC.off] := by
  unfold State.alert
  dsimp only
  split
  · exact s.sameRegs_put ⟨TWP_ALERT_SRC.off, n, n⟩ 1
  · exact s.sameRegs_put ⟨TWP_ALERT_SRC.off, n, n⟩ 1

/-- An alert changes its register and whether the alert is answered. -/
theorem State.alert_frame (n : Nat) :
    s.alert n = { s with regs := (s.alert n).regs, twp := { s.twp with answered := (s.alert n).twp.answered } } := by
  unfold State.alert
  dsimp only
  split <;> rfl

theorem State.req_result_twpAnswer (ok : Bool) :
    (s.twpAnswer ok).get TWP_STAT.req_result = if ok then 1 else 3 := by
  have fits : (s.put TWP_STAT.req_result (if ok then 1 else 3)).get TWP_STAT.req_result = if ok then 1 else 3 :=
    (s.get_put_same _ (by decide)).trans (by cases ok <;> rfl)
  cases ok with
  | true => exact fits
  | false => exact (congrArg (bitsOf · _ _) (State.word_alert_ne _ 6 (by decide))).trans fits

end

/-- Settles O15: each command is evaluated in the case that its clause names. -/
theorem towpathCommandsComplete : Obligations.TowpathCommandsComplete := by
  unfold Obligations.TowpathCommandsComplete
  refine ⟨fun s v pec on good => ⟨fun rd => ?read, fun idle => ?address, fun inc => ?advance, fun still => ?write⟩,
    fun s v pec on demanded bad => ⟨congrArg Host.Outcome.next (s.smbWrite_discarded _ on demanded bad),
      congrArg Host.Outcome.next (s.smbWrite_discarded _ on demanded bad)⟩,
    fun s on ended still => ?data, fun s word w on => ⟨?spiWrite, ?spiRead⟩, fun s t status data a waits runs => ?complete,
    fun s t off data noc => ?ended, fun s on => ⟨congrArg Host.Outcome.next (if_pos on), congrArg Host.Outcome.next (if_pos on)⟩,
    fun s on => ⟨?spiStatus, ?spiId⟩, fun s t on => ?requests, fun s on low => ?response, fun s => rfl,
    fun s v set => ?fwAlert, fun s => ⟨s.req_result_twpAnswer true, s.req_result_twpAnswer false, ?refusal⟩⟩
  case read => exact congrArg Host.Outcome.next ((s.smbWrite_taken _ on good).trans (State.when_of_true rd _))
  case address => exact congrArg Host.Outcome.next ((s.smbWrite_taken _ on good).trans (State.when_of_false idle _))
  case advance =>
    refine congrArg Host.Outcome.next ((s.smbWrite_taken _ on good).trans ?_)
    exact congrArg (State.arriveAccess · _ _) (State.when_of_true inc _)
  case write =>
    refine congrArg Host.Outcome.next ((s.smbWrite_taken _ on good).trans ?_)
    exact congrArg (State.arriveAccess · _ _) (State.when_of_false still _)
  case data =>
    show execWinRdata s = _
    simp [execWinRdata, on, ended, still]
  case spiWrite =>
    show execSpiWrite word [w] s = _
    simp [execSpiWrite, on, State.each]
  case spiRead =>
    show execSpiRead word s = _
    simp [execSpiRead, on]
  case complete =>
    have goes : (decide (8 ≤ status.toNat) && !directPage a.at_) = false := by
      rcases runs with direct | noc
      · rw [direct, Bool.not_true, Bool.and_false]
      · rw [decide_eq_false (Nat.not_le.mpr noc), Bool.false_and]
    show execWindowAccessComplete t status data s = _
    simp only [execWindowAccessComplete, waits, goes, Bool.false_eq_true, if_false]
  case ended =>
    have pends : ((s.setWin t { s.win t with pending := some (.read off) }).win t).pending = some (.read off) :=
      congrArg Window.pending (s.win_setWin t _)
    have run : (s.setWin t { s.win t with pending := some (.read off) }).finishAccess t (.read off) 0 data
        = (s.setWin t { s.win t with pending := some (.read off) }).endAccess t 0 data :=
      if_neg (ne_true_of_eq_false noc)
    have won := State.win_endAccess_read _ data pends
    dsimp only
    rw [run, won]
    exact ⟨rfl, rfl, rfl⟩
  case spiStatus =>
    show execSpiStatus s = _
    simp [execSpiStatus, on]
  case spiId =>
    show execSpiId s = _
    simp [execSpiId, on]
  case requests =>
    have asked (v : Word) : s.requestOver t v = s.twpRequest v := if_pos on
    refine ⟨congrArg Host.Outcome.next (asked _), fun runs => congrArg Host.Outcome.next ((asked _).trans ?_),
      fun held => congrArg Host.Outcome.next ((asked _).trans ?_), fun perst pme => congrArg Host.Outcome.next ((asked _).trans ?_),
      fun up => congrArg Host.Outcome.next ((asked _).trans ?_), congrArg Host.Outcome.next (asked _)⟩
    · exact if_neg (ne_true_of_eq_false runs)
    · exact if_pos held
    · have wakes : (s.pins.perst && ((s.fn 0).pmeEn || (s.fn 65).pmeEn)) = true := by rw [perst, pme]; rfl
      exact if_pos wakes
    · have sleeps : ¬(s.pins.perst && ((s.fn 0).pmeEn || (s.fn 65).pmeEn)) = true := by simp [up]
      exact if_neg sleeps
  case response =>
    have run : execAlertResponse s
        = .next { s.answering (toBytes (s.get TWP_CFG.addr) 1) with twp := { s.twp with answered := true } } :=
      if_pos (by rw [on, low]; rfl)
    exact ⟨_, run, rfl, Bool.and_false _, rfl⟩
  case fwAlert =>
    have run : s.writeTwp .host TWP_FW_ALERT.off v = s.alert 7 :=
      State.when_of_true set fun s => s.alert 7
    exact ⟨s.alert 7, congrArg Host.Outcome.next run, s.get_alert_same (by decide), s.sameRegs_alert 7, s.alert_frame 7⟩
  case refusal => exact State.get_alert_same _ (by decide)

end Sys2Proof.Machine
end

section
/-! The cores (R401 to R403, R413 to R416). -/

namespace Sys2Proof.Machine

open Reg

/-! ### A write under the access codes -/

section
variable (s : State)

/-- A write leaves in each field what the field's code makes of it (R10). -/
theorem State.get_write {off : Nat} {fs : List FieldSpec} (v : Word) (fields : fieldsAt off = fs)
    (hi : ∀ f ∈ fs, f.hi < 32) (apart : fs.Pairwise fun f g => f.hi < g.lo ∨ g.hi < f.lo) {g : FieldSpec} (mem : g ∈ fs) :
    (s.write off v).get ⟨off, g.hi, g.lo⟩ = (g.stored (s.locked (pageBase off)) (s.word off) v).elim
      (s.get ⟨off, g.hi, g.lo⟩) (· % 2 ^ (g.hi + 1 - g.lo)) := by
  have written : (s.write off v).word off
      = writeFields fs (s.locked (pageBase off)) (fun _ => true) (s.word off) v :=
    (s.word_setWord_same off _).trans (by rw [fields])
  unfold State.get
  rw [written]
  exact bitsOf_writeFields _ _ v hi apart mem

theorem bitsOf_bit (v : Word) (n : Nat) : bitsOf v n n = (bit v n).toNat := by
  have one : n + 1 - n = 1 := by omega
  rw [bitsOf, one, bit, BitVec.getLsbD, Nat.toNat_testBit, Nat.shiftRight_eq_div_pow, Nat.pow_one]

/-! ### Cores -/

theorem State.core_setCore (c k : Nat) (v : CoreState) : (s.setCore c v).core k = if k = c then v else s.core k :=
  KMap.get_set ..

@[simp] theorem State.core_setCore_same (c : Nat) (v : CoreState) : (s.setCore c v).core c = v := KMap.get_set_same ..

theorem State.core_of_cc {s t : State} (same : t.cc = s.cc) (c : Nat) : t.core c = s.core c := by
  rw [State.core, same, State.core]

theorem State.core_none {s : State} (none_ : s.cc = {}) (c : Nat) : (s.core c).running = false := by
  rw [State.core, none_]
  rfl

theorem State.cc_coldReset : s.coldReset.cc = {} := by
  have kept := (State.onlyRegs_loadFuses
    { fuses := s.fuses, fuse := s.fuse, flash := s.flash, now := s.now, freeCount := s.freeCount,
      answer := s.answer, pins := s.pins, pending := s.pending } (fun _ => true) true).steady_eq
  exact (congrArg State.cc kept :)

theorem State.cc_warmReset : s.warmReset.cc = {} := congrArg State.cc s.steady_warmReset

/-! ### Run (R403) -/

theorem fieldsAt_coreCtrl (c : Fin 8) : fieldsAt (CC_CORE_CTRL.off c) = [⟨0, 0, .rw, .warm, 0, none⟩] := by
  revert c
  decide

theorem State.run_write (c : Fin 8) (v : Word) :
    (s.write (CC_CORE_CTRL.off c) v).get (CC_CORE_CTRL.run c) = (bit v 0).toNat := by
  refine (s.get_write v (fieldsAt_coreCtrl c) (by decide) (List.pairwise_singleton ..)
    (List.mem_singleton_self _)).trans ?_
  show bitsOf v 0 0 % 2 = _
  rw [bitsOf_bit]
  cases bit v 0 <;> rfl

theorem coreCtrl_ne (c : Fin 8) {o : Nat} (h : o < 0x301040) : o ≠ CC_CORE_CTRL.off c.val := by
  simp only [CC_CORE_CTRL.off]
  omega

theorem State.domOpen_write (c : Fin 8) (v : Word) {d : Nat} (hd : d < 0x1000) :
    (s.write (CC_CORE_CTRL.off c) v).domOpen d = s.domOpen d := by
  unfold State.domOpen
  rw [State.get_write_off s v (coreCtrl_ne c (by simp only [PWR_DOM.state, PWR_DOM.off]; omega))]

theorem State.resetVec_write (c : Fin 8) (v : Word) : (s.write (CC_CORE_CTRL.off c) v).getWide (CC_RESET_VEC.off c 0) 2
    = s.getWide (CC_RESET_VEC.off c 0) 2 :=
  State.getWide_of_same s fun i _ => s.sameRegs_write _ v _ (by
    simp only [CC_RESET_VEC.off, CC_CORE_CTRL.off, List.mem_singleton]
    omega)

theorem State.coreCtrlWrite_starts {s : State} {c : Fin 8} {v : Word} (stopped : s.is (CC_CORE_CTRL.run c) = false)
    (run : bit v 0 = true) (dom : s.domOpen (0x120 + c) = true) :
    s.coreCtrlWrite c v = (s.write (CC_CORE_CTRL.off c) v).setCore c
      { running := true, pc := BitVec.ofNat 64 (s.getWide (CC_RESET_VEC.off c 0) 2)
        wake := if (s.core c).stopped then 3 else 0 } := by
  have open_ := (s.domOpen_write c v (d := 0x120 + c) (by omega)).trans dom
  rw [← s.resetVec_write c v]
  simp only [State.coreCtrlWrite, stopped, run, open_, Bool.not_false, Bool.and_true, if_true]
  rfl

theorem State.coreCtrlWrite_stops {s : State} {c : Fin 8} {v : Word} (runs : s.is (CC_CORE_CTRL.run c) = true)
    (stop : bit v 0 = false) : s.coreCtrlWrite c v = (s.write (CC_CORE_CTRL.off c) v).setCore c { stopped := true } := by
  simp only [State.coreCtrlWrite, runs, stop, Bool.false_eq_true, if_false, if_true]

/-! ### Bus errors (R401) -/

theorem State.core_busError (c a st : Nat) : (s.busError c a st).core c
    = { s.core c with busErr17 := true, busErr := BitVec.ofNat 60 (a % 2 ^ 56 + st * 2 ^ 56) } :=
  (State.core_of_cc (State.raise_cc _ _ _ _ _ _ _) c).trans (s.core_setCore_same c _)

theorem busErr_status {a st : Nat} (narrow : st < 16) : (BitVec.ofNat 60 (a % 2 ^ 56 + st * 2 ^ 56)).toNat / 2 ^ 56 = st := by
  rw [BitVec.toNat_ofNat]
  omega

/-! ### The end of a deep sleep (R415, R416) -/

theorem State.freshRegs_frame (n : Nat) : ∃ k, (s.freshRegs n).2 = { s with freeCount := k } := by
  induction n with
  | zero => exact ⟨s.freeCount, rfl⟩
  | succ n ih =>
    obtain ⟨k, frame⟩ := ih
    refine ⟨k + 1, ?_⟩
    simp only [State.freshRegs, frame]
    rfl

/-- The domain of a core that wakes is OPEN again. -/
def State.reopenCore (s : State) (c : Nat) : State :=
  s.when (decide (s.get (PWR_DOM.state (0x120 + c)) = 2)) fun s =>
    (s.setDom (0x120 + c) 0).raise pagePWR 2 INFO 0x1103 (0x120 + c) 0

/-- A core that wakes from a deep sleep. -/
def State.wokenCore (s : State) (c : Nat) (wake : BitVec 2) (a b : KMap (BitVec 64)) : State :=
  s.reopenCore c |>.setCore c
    { running := true, pc := BitVec.ofNat 64 ((s.reopenCore c).getWide (CC_WAKE_VEC.off c 0) 2), wake := wake
      regs := a, fastRegs := b }

theorem domPages_core {c : Nat} (hc : c < 8) : domPages (0x120 + c) = [pageCCC c, pageICC c] := by
  interval_cases c <;> rfl

theorem State.word_setDom_core {c v o : Nat} (hc : c < 8) (core : 0x300000 ≤ o) (own : 0x10 ≤ o % 0x1000) :
    (s.setDom (0x120 + c) v).word o = s.word o := by
  have dom : o ≠ (PWR_DOM.state (0x120 + c)).off := by
    simp only [PWR_DOM.state, PWR_DOM.off]
    omega
  refine (State.each_keeps_of_mem (fun t => t.word o) _ fun pg mem t => ?_).trans (s.word_put_ne v dom)
  rw [domPages_core hc] at mem
  refine t.word_put_ne _ ?_
  simp only [List.mem_cons, List.not_mem_nil, or_false, pageCCC, pageICC] at mem
  simp only [STATUS.dom_open, STATUS.off]
  omega

theorem State.get_dom_setDom (c : Fin 8) : (s.setDom (0x120 + c) 0).get (PWR_DOM.state (0x120 + c)) = 0 := by
  refine (State.each_keeps_of_mem (fun t => t.get (PWR_DOM.state (0x120 + c))) _ fun pg mem t => ?_).trans
    (s.get_put_same 0 (by simp [PWR_DOM.state]))
  rw [domPages_core c.isLt] at mem
  refine t.get_put_off _ ?_
  simp only [List.mem_cons, List.not_mem_nil, or_false, pageCCC, pageICC] at mem
  simp only [STATUS.dom_open, STATUS.off, PWR_DOM.state, PWR_DOM.off]
  omega

theorem State.word_raisePwr (n : Nat) (cls : BitVec 2) (code i0 i1 : Nat) {o : Nat} (own : 0x40 ≤ o % 0x1000)
    (drop : o ≠ FLT_DROP.off) : (s.raise pagePWR n cls code i0 i1).word o = s.word o := by
  refine s.word_raise_ne _ _ _ _ _ _ ?_
  simp only [pagePWR, pageFLT, EVT.off, EVT_CNT.off, ERR_INFO0.off, ERR_INFO1.off, List.mem_cons, List.not_mem_nil,
    or_false]
  omega

theorem State.wakeVec_reopenCore (c : Fin 8) :
    (s.reopenCore c).getWide (CC_WAKE_VEC.off c 0) 2 = s.getWide (CC_WAKE_VEC.off c 0) 2 := by
  refine State.getWide_of_same s fun i hi => State.when_keeps (fun t => t.word _) s _ _ fun t => ?_
  refine (State.word_raisePwr _ 2 INFO 0x1103 _ 0 ?_ ?_).trans (t.word_setDom_core c.isLt ?_ ?_)
  all_goals
    simp only [CC_WAKE_VEC.off, FLT_DROP.off]
    omega

theorem State.dom_reopenCore {s : State} {c : Fin 8} (rests : s.get (PWR_DOM.state (0x120 + c)) = 0
    ∨ s.get (PWR_DOM.state (0x120 + c)) = 2) : (s.reopenCore c).get (PWR_DOM.state (0x120 + c)) = 0 := by
  unfold State.reopenCore
  rcases rests with open_ | closed
  · rwa [State.when_of_false (by rw [open_]; rfl)]
  · rw [State.when_of_true (by rw [closed]; rfl)]
    refine (congrArg (bitsOf · _ _) (State.word_raisePwr _ 2 INFO 0x1103 _ 0 ?_ ?_)).trans (s.get_dom_setDom c)
    all_goals
      simp only [PWR_DOM.state, PWR_DOM.off, FLT_DROP.off]
      omega

theorem State.core_wokenCore (c : Fin 8) (wake : BitVec 2) (a b : KMap (BitVec 64)) : (s.wokenCore c wake a b).core c
    = { running := true, pc := BitVec.ofNat 64 (s.getWide (CC_WAKE_VEC.off c 0) 2), wake := wake, regs := a, fastRegs := b } :=
  (State.core_setCore_same _ c.val _).trans (by rw [s.wakeVec_reopenCore c])

/-- The wake from a deep sleep, with and without a retained interrupt state. -/
theorem execCoreWake_deep {s : State} {c : Fin 8} (deep : (s.core c).sleep = 2)
    (rests : s.get (PWR_DOM.state (0x120 + c)) = 0 ∨ s.get (PWR_DOM.state (0x120 + c)) = 2) :
    ∃ k a b,
      (s.cc.retained.get retainedDefault c = none → s.wakeNative c = true →
        exec (.coreWake c) s = .next (State.wokenCore { s with freeCount := k } c 1 a b))
      ∧ (∀ r, s.cc.retained.get retainedDefault c = some r → s.wakeCompat c = true →
        exec (.coreWake c) s = .next
          (let t := (State.wokenCore { s with freeCount := k } c 2 a b).setWord (IC_CORE_CFG.off c) r.cfg
           { t with cc := { t.cc with retained := t.cc.retained.set retainedDefault c none } })) := by
  obtain ⟨k, first⟩ := s.freshRegs_frame 31
  obtain ⟨k', second⟩ := State.freshRegs_frame { s with freeCount := k } 31
  have still : (s.get (PWR_DOM.state (0x120 + c)) = 1) = False ∧ (s.get (PWR_DOM.state (0x120 + c)) = 3) = False := by
    rcases rests with open_ | closed <;> simp [*]
  obtain ⟨notClosing, notOpening⟩ := still
  refine ⟨k', (s.freshRegs 31).1, (State.freshRegs { s with freeCount := k } 31).1, fun none_ wakes => ?_,
    fun r some_ wakes => ?_⟩
  · show execCoreWake c s = _
    simp only [execCoreWake, deep, none_, wakes, notClosing, notOpening, first, second]
    rfl
  · show execCoreWake c s = _
    simp only [execCoreWake, deep, some_, wakes, notClosing, notOpening, first, second]
    rfl

end

/-- Settles O50: the instructions and the writes by what each makes of its core, and the deep sleep by its stages. -/
theorem coreCommandsComplete : Obligations.CoreCommandsComplete := by
  unfold Obligations.CoreCommandsComplete
  refine ⟨fun s c v => ⟨fun stopped run dom => ?start, fun runs stop => ?stop⟩,
    fun s c => ⟨State.core_none rfl c, State.core_none s.cc_coldReset c, State.core_none s.cc_warmReset c⟩,
    fun s c out status runs awake => ⟨fun good => ?goesOn, fun device bad => ?busError⟩,
    fun s c runs awake => ⟨fun raised en mie idle => ?trap, fun m active plain => ?fastReturn, fun m ordinary => ?return_,
      fun below => ?illegal, fun light => ?wfi, fun deep => ?deepWfi⟩,
    fun s c sleeps wakes => ?wake, fun s c deep rests => ?deepWake, fun s c set => if_neg set⟩
  case start =>
    refine ⟨_, congrArg Host.Outcome.next (State.coreCtrlWrite_starts stopped run dom), (s.run_write c v).trans (by rw [run]; rfl),
      s.sameRegs_write _ v, State.core_setCore_same _ c.val _, fun k other => ?_, rfl⟩
    exact (State.core_setCore _ c.val k _).trans (if_neg other)
  case stop =>
    refine ⟨_, congrArg Host.Outcome.next (State.coreCtrlWrite_stops runs stop), (s.run_write c v).trans (by rw [stop]; rfl),
      s.sameRegs_write _ v, State.core_setCore_same _ c.val _, fun k other => ?_, rfl⟩
    exact (State.core_setCore _ c.val k _).trans (if_neg other)
  case goesOn =>
    show execFenceInstruction c out status s = _
    rcases good with quiet | ok
    · simp [execFenceInstruction, runs, awake, quiet]
    · simp [execFenceInstruction, runs, awake, ok]
  case busError =>
    have run : execFenceInstruction c out status s = .next (State.busError
        { s.setCore c { s.core c with pc := (s.core c).pc + 4 } with freeCount := s.freeCount + 1 } c
        (BitVec.ofNat 56 (Config.free s.freeCount)).toNat status.toNat) := by
      exact (if_neg (by simp [runs, awake])).trans (if_pos (by rw [device, decide_eq_true bad]; rfl))
    have core := State.core_busError
      { s.setCore c { s.core c with pc := (s.core c).pc + 4 } with freeCount := s.freeCount + 1 } c.val
      (BitVec.ofNat 56 (Config.free s.freeCount)).toNat status.toNat
    refine ⟨_, _, run, rfl, BitVec.isLt _, ?_, ?_, ?_⟩
    · rw [core]
    · rw [core]
      exact busErr_status status.isLt
    · rw [core]
      exact congrArg CoreState.pc (s.core_setCore_same c.val _)
  case trap =>
    show execFastTrap c s = _
    simp [execFastTrap, runs, awake, raised, en, mie, idle]
  case fastReturn =>
    show execMret c s = _
    simp [execMret, runs, awake, m, active, plain]
  case return_ =>
    show execMret c s = _
    rcases ordinary with idle | nested
    · simp [execMret, runs, awake, m, idle]
    · simp [execMret, runs, awake, m, nested]
  case illegal =>
    have run : execMret c s = .next (State.setCore { s with freeCount := s.freeCount + 1 } c
        ((s.core c).exception 2 (BitVec.ofNat 64 (Config.free s.freeCount)).toNat)) := by
      exact (if_neg (by simp [runs, awake])).trans (if_pos below)
    have core := State.core_setCore_same { s with freeCount := s.freeCount + 1 } c.val
      ((s.core c).exception 2 (BitVec.ofNat 64 (Config.free s.freeCount)).toNat)
    refine ⟨_, run, ?_, ?_, ?_, ?_⟩ <;> rw [core] <;> rfl
  case wfi =>
    show execWfi c s = _
    simp [execWfi, runs, awake, light]
  case deepWfi =>
    show execWfi c s = _
    simp [execWfi, runs, awake, deep]
  case wake =>
    show execCoreWake c s = _
    simp [execCoreWake, sleeps, wakes]
  case deepWake =>
    obtain ⟨k, a, b, native, compat⟩ := execCoreWake_deep deep rests
    have native_core := State.core_wokenCore { s with freeCount := k } c 1 a b
    have compat_core := State.core_wokenCore { s with freeCount := k } c 2 a b
    refine ⟨fun none_ wakes => ⟨_, native none_ wakes, ?_, ?_, ?_, ?_, ?_⟩,
      fun r some_ wakes => ⟨_, compat r some_ wakes, ?_, ?_, State.word_setWord_same _ _ _, ?_, ?_⟩⟩
    · rw [native_core]
    · rw [native_core]
    · rw [native_core]
    · exact State.dom_reopenCore (s := { s with freeCount := k }) rests
    · rw [native_core]; rfl
    · exact congrArg CoreState.running compat_core
    · exact congrArg CoreState.wake compat_core
    · exact KMap.get_set_same ..
    · exact congrArg CoreState.pc compat_core

end Sys2Proof.Machine
end

section
/-! The L2 array (R405, R406). -/

namespace Sys2Proof.Machine

open Reg

section
variable (s : State)

/-! ### Ways (R405) -/

theorem mem_filter_outside {α : Type} (g : α → Nat) (l : List α) (a b : Nat) (e : α) :
    e ∈ l.filter (fun e => !(decide (a ≤ g e) && decide (g e < b))) ↔ e ∈ l ∧ ¬(a ≤ g e ∧ g e < b) := by
  simp only [List.mem_filter, Bool.not_eq_true', Bool.and_eq_false_iff, decide_eq_false_iff_not, not_and_or]


theorem fieldsAt_l2Part : fieldsAt CC_L2_PART.off = [⟨4, 0, .rw, .warm, 8, some ⟨0, 0, 16, 16⟩⟩] := by decide

/-- The memory takes at most 16 ways. -/
theorem State.memWays_write (v : Word) : (s.write CC_L2_PART.off v).get CC_L2_PART.mem_ways = min (bitsOf v 4 0) 16 := by
  refine (s.get_write v fieldsAt_l2Part (by decide) (List.pairwise_singleton ..) (List.mem_singleton_self _)).trans ?_
  show (if bitsOf v 4 0 < 0 then 0 else if 16 < bitsOf v 4 0 then 16 else bitsOf v 4 0) % 2 ^ 5 = _
  have narrow : bitsOf v 4 0 < 2 ^ 5 := bitsOf_lt v 4 0
  have none_ : ¬ bitsOf v 4 0 < 0 := Nat.not_lt_zero _
  rw [if_neg none_]
  split <;> omega

/-- The lines of the ways that the cache gives up are written back. -/
def State.writeBackWays (s : State) (old new : Nat) : State :=
  s.each (s.cc.l2cache.filter fun e => old ≤ e.2.way && e.2.way < new) fun s e =>
    s.when e.2.dirty fun s => s.l2WriteBack (64 * e.1) e.2.data

theorem State.writeBackWays_clean {s : State} (clean : ∀ e ∈ s.cc.l2cache, e.2.dirty = false) (old new : Nat) :
    s.writeBackWays old new = s :=
  s.each_keeps_of_mem (g := id) fun e mem _ => State.when_of_false (clean e (List.mem_of_mem_filter mem)) _

/-- The ways become memory, of a content that is not specified. -/
def State.takeWays (s : State) (old new : Nat) : State :=
  let s := (s.fresh 1).2
  { s with cc := { s.cc with
    l2cache := s.cc.l2cache.filter fun e => !(old ≤ e.2.way && e.2.way < new)
    l2 := s.cc.l2.eraseRange (old * 2 ^ 18) (new * 2 ^ 18)
    l2epoch := (List.range (new - old)).foldl (fun m i => m.set natDefault (old + i) s.freeCount) s.cc.l2epoch } }

theorem State.writeL2Part_eq {v : Word} {new : Nat} (ways : (s.write CC_L2_PART.off v).get CC_L2_PART.mem_ways = new) :
    s.writeL2Part v = if s.get CC_L2_PART.mem_ways < new
      then ((s.write CC_L2_PART.off v).writeBackWays (s.get CC_L2_PART.mem_ways) new).takeWays (s.get CC_L2_PART.mem_ways) new
      else { s.write CC_L2_PART.off v with
        cc := { s.cc with l2 := s.cc.l2.eraseRange (new * 2 ^ 18) (s.get CC_L2_PART.mem_ways * 2 ^ 18) } } := by
  subst ways
  rfl

/-! ### Maintenance (R406) -/

theorem State.writeL2Maint_go {s : State} {v : Word} (idle : s.is CC_L2_MAINT2.busy = false) (go : bit v 31 = true) :
    let u := (s.write CC_L2_MAINT2.off v).put CC_L2_MAINT2.busy 1
    s.writeL2Maint v = if u.get CC_L2_MAINT2.op = 1 then u else
      u.each (s.cc.l2cache.filter fun e =>
        decide (u.maintRange.1 ≤ e.1) && decide (e.1 < u.maintRange.2) && e.2.dirty)
          fun s e => s.l2WriteBack (64 * e.1) e.2.data := by
  unfold State.writeL2Maint
  rw [if_neg (ne_true_of_eq_false idle)]
  dsimp only
  rw [go]
  rfl

/-- An entry of a mapped memory is the image of an entry. -/
theorem KMap.mem_mapEntries {α : Type} [DecidableEq α] (d : Nat → α) (f : Nat → α → α) {m : KMap α} {e : Nat × α}
    (mem : e ∈ m.mapEntries d f) : ∃ v, e = (e.1, f e.1 v) := by
  induction m with
  | nil => exact absurd mem List.not_mem_nil
  | cons x m ih =>
    rw [KMap.mapEntries] at mem
    split at mem
    · exact ih mem
    · rcases List.mem_cons.mp mem with rfl | rest
      · exact ⟨x.2, rfl⟩
      · exact ih rest

/-- What the end of a maintenance operation makes of the lines. -/
def State.maintained (s : State) : KMap CacheLine :=
  let inside (n : Nat) : Bool := s.maintRange.1 ≤ n && n < s.maintRange.2
  if s.get CC_L2_MAINT2.op = 0 then
    s.cc.l2cache.mapEntries cacheDefault fun n l => if inside n then { l with dirty := false } else l
  else s.cc.l2cache.filter fun e => !inside e.1

theorem execL2MaintComplete_busy {s : State} (busy : s.is CC_L2_MAINT2.busy = true) : exec .l2MaintComplete s
    = .next { s.put CC_L2_MAINT2.busy 0 with cc := { s.cc with l2cache := s.maintained } } := by
  have runs : ¬ (!s.is CC_L2_MAINT2.busy) = true := by simp [busy]
  exact if_neg runs

theorem State.mem_maintained_invalidate {s : State} (op : s.get CC_L2_MAINT2.op ≠ 0) (e : Nat × CacheLine) :
    e ∈ s.maintained ↔ e ∈ s.cc.l2cache ∧ ¬(s.maintRange.1 ≤ e.1 ∧ e.1 < s.maintRange.2) := by
  rw [State.maintained, if_neg op]
  exact mem_filter_outside (fun e : Nat × CacheLine => e.1) ..

theorem State.clean_maintained {s : State} (op : s.get CC_L2_MAINT2.op = 0) {e : Nat × CacheLine} (mem : e ∈ s.maintained)
    (low : s.maintRange.1 ≤ e.1) (high : e.1 < s.maintRange.2) : e.2.dirty = false := by
  rw [State.maintained, if_pos op] at mem
  obtain ⟨l, image⟩ := KMap.mem_mapEntries _ _ mem
  rw [image]
  simp [low, high]

end

/-- Settles O51: lines that are clean are not written back, and the rest is each command's own case. -/
theorem l2CommandsComplete : Obligations.L2CommandsComplete := by
  unfold Obligations.L2CommandsComplete
  refine ⟨fun s v => ⟨s.memWays_write v, fun fewer => ?lower, fun more clean => ?raise⟩,
    fun s v idle go => ⟨fun invalidate => ?invalidate, fun cleans => ?clean⟩, fun s busy => ⟨_, execL2MaintComplete_busy busy,
      s.get_put_same 0 (by decide), s.sameRegs_put CC_L2_MAINT2.busy 0, fun op e => State.mem_maintained_invalidate op e,
      fun op e mem low high => State.clean_maintained op mem low high⟩⟩
  case lower =>
    exact congrArg Host.Outcome.next ((s.writeL2Part_eq (s.memWays_write v)).trans (if_neg (Nat.not_lt.mpr fewer)))
  case raise =>
    have run := (s.writeL2Part_eq (s.memWays_write v)).trans (if_pos more)
    rw [State.writeBackWays_clean (s := s.write CC_L2_PART.off v) clean] at run
    exact ⟨_, congrArg Host.Outcome.next run, rfl, rfl, fun e => mem_filter_outside (fun e : Nat × CacheLine => e.2.way) .., rfl⟩
  case invalidate => exact congrArg Host.Outcome.next ((State.writeL2Maint_go idle go).trans (if_pos invalidate))
  case clean => exact congrArg Host.Outcome.next ((State.writeL2Maint_go idle go).trans (if_neg cleans))

end Sys2Proof.Machine
end

section
/-! The interrupt controller (R407 to R412). -/

namespace Sys2Proof.Machine

open Reg

/-! ### The registers of a source -/

theorem sourceBit_pend_off (n : Nat) : (sourceBit IC_PEND.v n).off = 0x310100 + 4 * (n / 32) := rfl
theorem sourceBit_insv_off (n : Nat) : (sourceBit IC_INSV.v n).off = 0x310300 + 4 * (n / 32) := rfl

/-- Two sources have their pending bits apart. -/
theorem State.get_put_pend_ne (s : State) {n m : Nat} (v : Nat) (other : m ≠ n) :
    (s.put (sourceBit IC_PEND.v n) v).get (sourceBit IC_PEND.v m) = s.get (sourceBit IC_PEND.v m) := by
  by_cases same : m / 32 = n / 32
  · refine s.get_put_apart v (Nat.mod_lt (y := 32) m (by decide)) ?_
    simp only [sourceBit]
    omega
  · refine s.get_put_off v ?_
    rw [sourceBit_pend_off, sourceBit_pend_off]
    omega

theorem State.get_put_pend_same (s : State) (n v : Nat) :
    (s.put (sourceBit IC_PEND.v n) v).get (sourceBit IC_PEND.v n) = v % 2 := by
  have one : n % 32 + 1 - n % 32 = 1 := by omega
  refine (s.get_put_same v (f := sourceBit IC_PEND.v n) (Nat.mod_lt (y := 32) n (by decide))).trans ?_
  simp only [sourceBit, one, Nat.pow_one]

theorem State.get_put_insv_same (s : State) (n v : Nat) :
    (s.put (sourceBit IC_INSV.v n) v).get (sourceBit IC_INSV.v n) = v % 2 := by
  have one : n % 32 + 1 - n % 32 = 1 := by omega
  refine (s.get_put_same v (f := sourceBit IC_INSV.v n) (Nat.mod_lt (y := 32) n (by decide))).trans ?_
  simp only [sourceBit, one, Nat.pow_one]

/-- The page of a source begins at a multiple of the page size. -/
theorem sourcePage_aligned {n pg : Nat} (page : sourcePage n = some pg) : pg % 0x1000 = 0 := by
  unfold sourcePage at page
  repeat' split at page
  any_goals contradiction
  case _ low =>
    have aligned : ∀ p ∈ [pageDEV, pageCLK, pagePWR, pageCFG, pageSCB, pageSTL 0, pageSTL 1, pageSTL 2, pageSTL 3, pageTH0,
        pageTH1, pageTH2, pageTH3, pageTH4, pageTH5, pagePCI0, pagePCI1, pageSE0, pageSE1, pagePAIR, pageFLT, pageAGE,
        pageTHM, pageTWP, pageCC0, pageTS0], p % 0x1000 = 0 := by decide
    exact aligned pg (List.mem_of_getElem? page)
  all_goals
    obtain rfl := Option.some.inj page
    simp only [pageNOC, pageQUAY, pageDMC, pageMPE, pageXCV, pageGPIO, pageRGN]
    omega

/-- The registers of pending and in-service sources. -/
def inPendOrInsv (o : Nat) : Prop := 0x310100 ≤ o ∧ o < 0x310400

theorem inPendOrInsv_pend {n : Nat} (hn : n < 1024) : inPendOrInsv (sourceBit IC_PEND.v n).off := by
  rw [sourceBit_pend_off, inPendOrInsv]
  omega

theorem inPendOrInsv_insv {n : Nat} (hn : n < 1024) : inPendOrInsv (sourceBit IC_INSV.v n).off := by
  rw [sourceBit_insv_off, inPendOrInsv]
  omega

/-- The level of a source does not depend on what is pending or in service. -/
theorem State.sourceLevel_of_same {s t : State} {n : Nat} (regs : ∀ o, ¬ inPendOrInsv o → t.word o = s.word o)
    (ts : t.ts = s.ts) (lines : t.cc.lines = s.cc.lines) : t.sourceLevel n = s.sourceLevel n := by
  have get {f : Field} (out : ¬ inPendOrInsv f.off) : t.get f = s.get f := congrArg (bitsOf · _ _) (regs _ out)
  have dom {d : Nat} (small : d < 0x200) : t.domOpen d = s.domOpen d := by
    rw [State.domOpen, get, State.domOpen]
    simp only [inPendOrInsv, PWR_DOM.state, PWR_DOM.off]
    omega
  have events {pg : Nat} (aligned : pg % 0x1000 = 0) : t.evtPending pg = s.evtPending pg := by
    rw [State.evtPending, get, get, State.evtPending]
    all_goals
      simp only [inPendOrInsv, EVT.v, EVT.off, EVT_EN.v, EVT_EN.off]
      omega
  have prio (u : Nat) : t.get (taskPrio u) = s.get (taskPrio u) := get (by
    simp only [inPendOrInsv, taskPrio, TS_TASK.off]
    omega)
  have region (k : Nat) : t.firqRegion k = s.firqRegion k := by
    rw [State.firqRegion, get, State.firqRegion]
    simp only [inPendOrInsv, IC_FIRQ_SEL.v, IC_FIRQ_SEL.off]
    omega
  have dispatch (c : Nat) (core : c < 8) : t.dispatchLevel c = s.dispatchLevel c := by
    simp only [State.dispatchLevel, dom (d := 0x120 + c) (by omega), State.readyList, State.runningOn, ts, prio]
  have fabric (k : Nat) : t.domOpen (regionDom (s.firqRegion k)) = s.domOpen (regionDom (s.firqRegion k)) := dom (by
    have narrow : s.firqRegion k < 256 := Nat.mod_lt _ (by decide)
    simp only [regionDom]
    omega)
  unfold State.sourceLevel
  split
  · rfl
  · next real =>
    split
    · next page => exact events (sourcePage_aligned page)
    · split
      · next high =>
        have core : n - 792 < 8 := by
          simp [sourceReserved] at real
          omega
        exact dispatch _ core
      · rw [region, fabric, lines]

/-! ### Rounds over the sources -/

/-- A round's effect on what it alone touches is its effect after all of them. -/
theorem State.each_once {α β : Type} (g : State → β) {l : List α} {f : State → α → State} (s : State) {a : α} {h : β → β}
    (once : l.Nodup) (mem : a ∈ l) (own : ∀ t, g (f t a) = h (g t)) (others : ∀ x ∈ l, x ≠ a → ∀ t, g (f t x) = g t) :
    g (s.each l f) = h (g s) := by
  induction l generalizing s with
  | nil => cases mem
  | cons x l ih =>
    rw [List.forall_mem_cons] at others
    obtain ⟨fresh, once⟩ := List.nodup_cons.mp once
    by_cases first : a = x
    · subst first
      have rest : g ((f s a).each l f) = g (f s a) :=
        State.each_keeps_of_mem g _ fun y hy => others.2 y hy (ne_of_mem_of_not_mem hy fresh)
      exact rest.trans (own s)
    · have later : a ∈ l := (List.mem_cons.mp mem).resolve_left first
      exact (ih (f s x) once later others.2).trans (congrArg h (others.1 (Ne.symm first) s))

/-! ### Edges and levels (R407, R408) -/

/-- What a pulse of a source shows in, and what it turns on: the counter, the pending bit, the mode, and whether the
source is in service. -/
structure SourceView where
  count : Nat
  pend : Nat
  level : Bool
  insv : Bool

def State.sourceView (s : State) (n : Nat) : SourceView where
  count := s.get (IC_SRC_CFG.count n)
  pend := s.get (sourceBit IC_PEND.v n)
  level := s.is (IC_SRC_CFG.mode n)
  insv := s.is (sourceBit IC_INSV.v n)

/-- A rising edge, and an asserted level, in that view. -/
def SourceView.risen (v : SourceView) : SourceView :=
  { v with count := min (v.count + 1) 255, pend := if v.level then v.pend else 1 }
def SourceView.high (v : SourceView) : SourceView := { v with pend := if v.level && !v.insv then 1 else v.pend }

section
variable (s : State)

theorem srcCfg_off_pos (n : Nat) : 0x311040 ≤ IC_SRC_CFG.off n := by
  simp only [IC_SRC_CFG.off]
  omega

theorem srcCfg_off_inj {n m : Nat} (same : IC_SRC_CFG.off n = IC_SRC_CFG.off m) : n = m := by
  simp only [IC_SRC_CFG.off] at same
  omega

theorem State.sourceView_put_pend {n : Nat} (hn : n < 1024) (b : Nat) (hb : b < 2) :
    (s.put (sourceBit IC_PEND.v n) b).sourceView n = { s.sourceView n with pend := b } := by
  have cfg {f : Field} (off : f.off = IC_SRC_CFG.off n) : (s.put (sourceBit IC_PEND.v n) b).get f = s.get f :=
    s.get_put_off b (by rw [off, sourceBit_pend_off]; have := srcCfg_off_pos n; omega)
  have insv : (s.put (sourceBit IC_PEND.v n) b).get (sourceBit IC_INSV.v n) = s.get (sourceBit IC_INSV.v n) :=
    s.get_put_off b (by rw [sourceBit_insv_off, sourceBit_pend_off]; omega)
  have pend := (s.get_put_pend_same n b).trans (Nat.mod_eq_of_lt hb)
  simp only [State.sourceView, State.is, cfg (f := IC_SRC_CFG.count n) rfl, cfg (f := IC_SRC_CFG.mode n) rfl, insv, pend]

theorem State.sourceView_put_pend_ne {n m : Nat} (hn : n < 1024) (other : m ≠ n) (b : Nat) :
    (s.put (sourceBit IC_PEND.v n) b).sourceView m = s.sourceView m := by
  have cfg {f : Field} (off : f.off = IC_SRC_CFG.off m) : (s.put (sourceBit IC_PEND.v n) b).get f = s.get f :=
    s.get_put_off b (by rw [off, sourceBit_pend_off]; have := srcCfg_off_pos m; omega)
  have insv : (s.put (sourceBit IC_PEND.v n) b).get (sourceBit IC_INSV.v m) = s.get (sourceBit IC_INSV.v m) :=
    s.get_put_off b (by rw [sourceBit_insv_off, sourceBit_pend_off]; omega)
  simp only [State.sourceView, State.is, cfg (f := IC_SRC_CFG.count m) rfl, cfg (f := IC_SRC_CFG.mode m) rfl, insv,
    s.get_put_pend_ne b other]

theorem State.sourceView_count {n : Nat} (hn : n < 1024) :
    (s.count (IC_SRC_CFG.count n)).sourceView n = { s.sourceView n with count := min (s.get (IC_SRC_CFG.count n) + 1) 255 } := by
  have bits {f : Field} (low : f.off < 0x311040) : (s.count (IC_SRC_CFG.count n)).get f = s.get f :=
    s.get_count_off (by simp only [IC_SRC_CFG.count]; have := srcCfg_off_pos n; omega)
  have mode : (s.count (IC_SRC_CFG.count n)).get (IC_SRC_CFG.mode n) = s.get (IC_SRC_CFG.mode n) :=
    s.get_put_apart _ (by simp [IC_SRC_CFG.mode]) (.inl (by simp [IC_SRC_CFG.mode, IC_SRC_CFG.count]))
  have counted := s.get_count_same (f := IC_SRC_CFG.count n) (by simp [IC_SRC_CFG.count])
  simp only [State.sourceView, State.is, mode, counted, bits (f := sourceBit IC_PEND.v n) (by rw [sourceBit_pend_off]; omega),
    bits (f := sourceBit IC_INSV.v n) (by rw [sourceBit_insv_off]; omega)]
  rfl

theorem State.sourceView_count_ne {n m : Nat} (hm : m < 1024) (other : m ≠ n) :
    (s.count (IC_SRC_CFG.count n)).sourceView m = s.sourceView m := by
  have bits {f : Field} (low : f.off < 0x311040) : (s.count (IC_SRC_CFG.count n)).get f = s.get f :=
    s.get_count_off (by simp only [IC_SRC_CFG.count]; have := srcCfg_off_pos n; omega)
  have cfg {f : Field} (off : f.off = IC_SRC_CFG.off m) : (s.count (IC_SRC_CFG.count n)).get f = s.get f :=
    s.get_count_off (by rw [off]; exact fun same => other (srcCfg_off_inj same))
  simp only [State.sourceView, State.is, cfg (f := IC_SRC_CFG.count m) rfl, cfg (f := IC_SRC_CFG.mode m) rfl,
    bits (f := sourceBit IC_PEND.v m) (by rw [sourceBit_pend_off]; omega),
    bits (f := sourceBit IC_INSV.v m) (by rw [sourceBit_insv_off]; omega)]

theorem State.sourceView_rise {n : Nat} (hn : n < 1024) (real : sourceReserved n = false) :
    (s.sourceRise n).sourceView n = (s.sourceView n).risen := by
  have counted := s.sourceView_count hn
  have mode : (s.count (IC_SRC_CFG.count n)).is (IC_SRC_CFG.mode n) = s.is (IC_SRC_CFG.mode n) :=
    congrArg SourceView.level counted
  unfold State.sourceRise SourceView.risen
  rw [if_neg (ne_true_of_eq_false real)]
  dsimp only
  rw [mode]
  cases level : s.is (IC_SRC_CFG.mode n) with
  | false =>
    refine ((s.count (IC_SRC_CFG.count n)).sourceView_put_pend hn 1 (by decide)).trans ?_
    rw [counted]
    simp [State.sourceView, level]
  | true => simpa [State.sourceView, level, State.when] using counted

theorem State.sourceView_rise_ne {n m : Nat} (hn : n < 1024) (hm : m < 1024) (other : m ≠ n) :
    (s.sourceRise n).sourceView m = s.sourceView m := by
  unfold State.sourceRise
  split
  · rfl
  · exact (State.when_keeps (fun t => t.sourceView m) _ _ _ fun t => t.sourceView_put_pend_ne hn other 1).trans
      (s.sourceView_count_ne hm other)

theorem State.sourceView_high {n : Nat} (hn : n < 1024) (real : sourceReserved n = false) :
    (s.sourceHigh n).sourceView n = (s.sourceView n).high := by
  unfold State.sourceHigh SourceView.high
  rw [real, Bool.not_false, Bool.true_and]
  cases raised : s.is (IC_SRC_CFG.mode n) && !s.is (sourceBit IC_INSV.v n) with
  | false => simp [State.sourceView, raised, State.when]
  | true =>
    refine (s.sourceView_put_pend hn 1 (by decide)).trans ?_
    simp only [State.sourceView, raised, if_true]

theorem State.sourceView_high_ne {n m : Nat} (hn : n < 1024) (other : m ≠ n) :
    (s.sourceHigh n).sourceView m = s.sourceView m :=
  State.when_keeps (fun t => t.sourceView m) s _ _ fun t => t.sourceView_put_pend_ne hn other 1

theorem State.sameRegs_rise (n : Nat) :
    s.SameRegs (s.sourceRise n) [IC_SRC_CFG.off n, (sourceBit IC_PEND.v n).off] := by
  intro o ho
  simp only [List.mem_cons, List.not_mem_nil, or_false, not_or] at ho
  unfold State.sourceRise
  split
  · rfl
  · exact (State.when_keeps (fun t => t.word o) _ _ _ fun t => t.word_put_ne 1 ho.2).trans
      (s.word_count_ne (f := IC_SRC_CFG.count n) ho.1)

theorem State.onlyRegs_when {f : State → State} (c : Bool) (only : ∀ t : State, t.OnlyRegs (f t)) : s.OnlyRegs (s.when c f) := by
  cases c
  · rfl
  · exact only s

theorem State.onlyRegs_rise (n : Nat) : s.OnlyRegs (s.sourceRise n) := by
  unfold State.sourceRise
  split
  · rfl
  · exact State.OnlyRegs.trans (s.onlyRegs_put _ _) (State.onlyRegs_when _ _ fun t => t.onlyRegs_put _ 1)

theorem State.onlyRegs_high (n : Nat) : s.OnlyRegs (s.sourceHigh n) :=
  s.onlyRegs_when _ fun t => t.onlyRegs_put _ 1

theorem State.setSourceLine_self {n : Nat} (own : n < 536 ∨ 792 ≤ n) (b : Bool) : s.setSourceLine n b = s :=
  if_neg (by simp; omega)

/-! ### Firmware sources (R407) -/

theorem State.sourceView_pulse {n : Nat} (hn : n < 16) :
    ((s.sourceRise n).sourceHigh n).sourceView n = (s.sourceView n).risen.high := by
  have real : sourceReserved n = false := by simp [sourceReserved]; omega
  rw [State.sourceView_high _ (by omega) real, s.sourceView_rise (by omega) real]

theorem State.sourceView_pulse_ne {n m : Nat} (hn : n < 16) (hm : m < 1024) (other : m ≠ n) :
    ((s.sourceRise n).sourceHigh n).sourceView m = s.sourceView m := by
  rw [State.sourceView_high_ne _ (by omega) other, s.sourceView_rise_ne (by omega) hm other]

theorem State.sourceView_swi_set {v : Word} {n : Nat} (hn : n < 16) (set : bit v n = true) :
    (s.writeSwi v).sourceView n = (s.sourceView n).risen.high := by
  refine State.each_once (fun t => t.sourceView n) (h := fun w => w.risen.high) s (a := n) List.nodup_range
    (List.mem_range.mpr hn) (fun t => ?_)
    fun x hx other t => ?_
  · rw [State.when_of_true set]
    exact t.sourceView_pulse hn
  · exact State.when_keeps (fun t => t.sourceView n) t _ _ fun t =>
      t.sourceView_pulse_ne (List.mem_range.mp hx) (by omega) (Ne.symm other)

theorem State.sourceView_swi_clear {v : Word} {n : Nat} (hn : n < 1024) (clear : 16 ≤ n ∨ bit v n = false) :
    (s.writeSwi v).sourceView n = s.sourceView n := by
  refine State.each_keeps_of_mem (fun t => t.sourceView n) s fun x hx t => ?_
  have low := List.mem_range.mp hx
  by_cases own : n = x
  · subst own
    exact congrArg (·.sourceView n) (State.when_of_false (clear.resolve_left (by omega)) _)
  · exact State.when_keeps (fun t => t.sourceView n) t _ _ fun t => t.sourceView_pulse_ne low hn own

/-! ### Claims and completions (R410, R411) -/

theorem State.lowestFor_deliverable {s : State} {c n : Nat} {fast : Bool} (lowest : s.lowestFor c fast = some n) :
    n < 1023 ∧ s.deliverable c n = true := by
  unfold State.lowestFor at lowest
  have found := List.find?_some lowest
  simp only [Bool.and_eq_true] at found
  exact ⟨List.mem_range.mp (List.mem_of_find?_eq_some lowest), found.1⟩

theorem State.lowestFor_ne_insv {s : State} {n : Nat} (insv : s.is (sourceBit IC_INSV.v n) = true) (c : Nat) (fast : Bool) :
    s.lowestFor c fast ≠ some n := fun lowest => by
  have free := (State.lowestFor_deliverable lowest).2
  simp [State.deliverable, insv] at free

/-- A claim's stores, before the claim register shows it. -/
def State.claimed (s : State) (c n : Nat) : State :=
  let s := ((s.put (sourceBit IC_PEND.v n) 0).put (sourceBit IC_INSV.v n) 1).put (IC_SRC_CFG.count n) 0
  { s with cc := { s.cc with owner := s.cc.owner.set ownerDefault n (c + 1) } }

theorem State.claim_some {s : State} {c n r : Nat} {fast : Bool} (lowest : s.lowestFor c fast = some n) : s.claim c fast r
    = ((s.claimed c n).setWord r (BitVec.ofNat 32 (n + s.get (IC_SRC_CFG.count n) * 2 ^ 24))).answerWord
        (BitVec.ofNat 32 (n + s.get (IC_SRC_CFG.count n) * 2 ^ 24)) := by
  unfold State.claim
  split
  · next none_ => exact absurd (lowest.symm.trans none_) (Option.some_ne_none n)
  · next m found =>
    obtain rfl : n = m := Option.some.inj (lowest.symm.trans found)
    rfl

theorem State.get_claimed (c : Nat) {n : Nat} (hn : n < 1024) : (s.claimed c n).get (sourceBit IC_PEND.v n) = 0
    ∧ (s.claimed c n).get (sourceBit IC_INSV.v n) = 1 ∧ (s.claimed c n).get (IC_SRC_CFG.count n) = 0 := by
  have cfg := srcCfg_off_pos n
  refine ⟨?_, ?_, State.get_put_same _ 0 (by simp [IC_SRC_CFG.count])⟩
  · refine (State.get_put_off _ (f := IC_SRC_CFG.count n) 0 (by rw [sourceBit_pend_off]; simp only [IC_SRC_CFG.count]; omega)).trans ?_
    refine (State.get_put_off _ 1 (by rw [sourceBit_pend_off, sourceBit_insv_off]; omega)).trans ?_
    exact s.get_put_pend_same n 0
  · refine (State.get_put_off _ (f := IC_SRC_CFG.count n) 0 (by rw [sourceBit_insv_off]; simp only [IC_SRC_CFG.count]; omega)).trans ?_
    exact State.get_put_insv_same _ n 1

theorem State.sameRegs_claimed (c n : Nat) : s.SameRegs (s.claimed c n)
    [(sourceBit IC_PEND.v n).off, (sourceBit IC_INSV.v n).off, IC_SRC_CFG.off n] := by
  intro o ho
  simp only [List.mem_cons, List.not_mem_nil, or_false, not_or] at ho
  obtain ⟨pend, insv, cfg⟩ := ho
  exact (State.word_put_ne _ (f := IC_SRC_CFG.count n) 0 cfg).trans ((State.word_put_ne _ 1 insv).trans (s.word_put_ne 0 pend))

theorem State.claim_none {s : State} {c r : Nat} {fast : Bool} (none_ : s.lowestFor c fast = none) : s.claim c fast r
    = (s.setWord r 1023).answerWord 1023 := by
  unfold State.claim
  split
  · rfl
  · next m found => exact absurd (found.symm.trans none_) (Option.some_ne_none m)

theorem State.get_setWord_claim {r : Nat} (w : Word) {f : Field} (apart : f.off ≠ r) : (s.setWord r w).get f = s.get f :=
  congrArg (bitsOf · _ _) (s.word_setWord_ne w apart)

theorem claimWord_toNat {n k : Nat} (hn : n < 1024) (hk : k < 256) : (BitVec.ofNat 32 (n + k * 2 ^ 24)).toNat = n + k * 2 ^ 24 := by
  rw [BitVec.toNat_ofNat]
  omega

/-- What a claim that finds a source does. -/
theorem State.claim_serves {s : State} {c n r : Nat} {fast : Bool} (lowest : s.lowestFor c fast = some n) (high : 0x313000 ≤ r) :
    (s.claim c fast r).answer = toBytes (n + s.get (IC_SRC_CFG.count n) * 2 ^ 24) 4
      ∧ (s.claim c fast r).get (sourceBit IC_PEND.v n) = 0 ∧ (s.claim c fast r).get (sourceBit IC_INSV.v n) = 1
      ∧ (s.claim c fast r).get (IC_SRC_CFG.count n) = 0 ∧ (s.claim c fast r).cc.owner.get ownerDefault n = c + 1
      ∧ s.SameRegs (s.claim c fast r) [(sourceBit IC_PEND.v n).off, (sourceBit IC_INSV.v n).off, IC_SRC_CFG.off n, r]
      ∧ s.claim c fast r
        = { s with regs := (s.claim c fast r).regs, cc := (s.claim c fast r).cc, answer := (s.claim c fast r).answer } := by
  have hn : n < 1024 := Nat.lt_of_lt_of_le (State.lowestFor_deliverable lowest).1 (by decide)
  obtain ⟨pend, insv, count⟩ := s.get_claimed c hn
  rw [State.claim_some lowest]
  refine ⟨congrArg (toBytes · 4) (claimWord_toNat hn (s.get_lt _)), ?_, ?_, ?_, KMap.get_set_same .., ?_, rfl⟩
  · exact (State.get_setWord_claim _ _ (by rw [sourceBit_pend_off]; omega)).trans pend
  · exact (State.get_setWord_claim _ _ (by rw [sourceBit_insv_off]; omega)).trans insv
  · exact (State.get_setWord_claim _ _ (by simp only [IC_SRC_CFG.count, IC_SRC_CFG.off]; omega)).trans count
  · exact (s.sameRegs_claimed c n).trans (State.sameRegs_setWord _ r _)

/-- The in-service bit is clear before the level is looked at. -/
def State.released (s : State) (n : Nat) : State :=
  let s := s.put (sourceBit IC_INSV.v n) 0
  { s with cc := { s.cc with owner := s.cc.owner.set ownerDefault n 0 } }

theorem State.completeSource_eq {n : Nat} (hn : n < 1024) : s.completeSource n
    = (s.released n).when (s.is (IC_SRC_CFG.mode n) && s.sourceLevel n) fun s => s.put (sourceBit IC_PEND.v n) 1 := by
  have level : (s.released n).sourceLevel n = s.sourceLevel n :=
    State.sourceLevel_of_same (fun _ out => s.word_put_ne 0 fun same => out (same ▸ inPendOrInsv_insv hn)) rfl rfl
  have mode : (s.released n).is (IC_SRC_CFG.mode n) = s.is (IC_SRC_CFG.mode n) := by
    have cfg := srcCfg_off_pos n
    have get : (s.released n).get (IC_SRC_CFG.mode n) = s.get (IC_SRC_CFG.mode n) :=
      s.get_put_off 0 (by rw [sourceBit_insv_off]; simp only [IC_SRC_CFG.mode]; omega)
    rw [State.is, get, State.is]
  rw [← level, ← mode]
  rfl

theorem State.insv_completeSource {n : Nat} (hn : n < 1024) : (s.completeSource n).get (sourceBit IC_INSV.v n) = 0 := by
  rw [s.completeSource_eq hn]
  refine (State.when_keeps (fun t => t.get (sourceBit IC_INSV.v n)) _ _ _ fun t => ?_).trans (s.get_put_insv_same n 0)
  exact t.get_put_off 1 (by rw [sourceBit_insv_off, sourceBit_pend_off]; omega)

theorem State.pend_completeSource {n : Nat} (hn : n < 1024) : (s.completeSource n).is (sourceBit IC_PEND.v n)
    = (s.is (sourceBit IC_PEND.v n) || s.is (IC_SRC_CFG.mode n) && s.sourceLevel n) := by
  rw [s.completeSource_eq hn]
  cases s.is (IC_SRC_CFG.mode n) && s.sourceLevel n with
  | false =>
    have kept : (s.released n).get (sourceBit IC_PEND.v n) = s.get (sourceBit IC_PEND.v n) :=
      s.get_put_off 0 (by rw [sourceBit_insv_off, sourceBit_pend_off]; omega)
    rw [State.when_of_false rfl, Bool.or_false, State.is, kept, State.is]
  | true =>
    rw [State.when_of_true rfl, Bool.or_true, State.is, State.get_put_pend_same]
    rfl

/-! ### A write of pending bits (R412) -/

/-- The bits that the write and the hardware set. -/
def State.pendStored (s : State) (r : Fin 32) (v hw : Word) : State :=
  s.each (List.range 32) fun s b => s.put (sourceBit IC_PEND.v (32 * r.val + b))
    (!sourceReserved (32 * r.val + b) && (bit v b || bit hw b)).toNat

theorem pend_off_of_word (r : Fin 32) {b : Nat} (hb : b < 32) : (sourceBit IC_PEND.v (32 * r.val + b)).off = (IC_PEND.v r).off := by
  rw [sourceBit_pend_off]
  simp only [IC_PEND.v, IC_PEND.off]
  omega

theorem State.sameRegs_pendStored (r : Fin 32) (v hw : Word) : s.SameRegs (s.pendStored r v hw) [(IC_PEND.v r).off] :=
  fun o ho => State.each_keeps_of_mem (fun t => t.word o) s fun b hb t =>
    t.word_put_ne _ (by rw [pend_off_of_word r (List.mem_range.mp hb)]; simpa using ho)

theorem State.pend_pendStored (r : Fin 32) (v hw : Word) {b : Nat} (hb : b < 32) :
    (s.pendStored r v hw).is (sourceBit IC_PEND.v (32 * r.val + b))
      = (!sourceReserved (32 * r.val + b) && (bit v b || bit hw b)) := by
  have get : (s.pendStored r v hw).get (sourceBit IC_PEND.v (32 * r.val + b))
      = (!sourceReserved (32 * r.val + b) && (bit v b || bit hw b)).toNat := by
    refine State.each_settles (fun t => t.get (sourceBit IC_PEND.v (32 * r.val + b))) s (List.mem_range.mpr hb) (fun t => ?_)
      fun x _ other t => t.get_put_pend_ne _ (by omega)
    exact (t.get_put_pend_same _ _).trans (Nat.mod_eq_of_lt (Bool.toNat_lt _))
  rw [State.is, get]
  cases !sourceReserved (32 * r.val + b) && (bit v b || bit hw b) <;> rfl

/-- What an asserted level turns on. -/
structure LevelView where
  pend : Bool
  mode : Bool
  insv : Bool
  level : Bool

def State.levelView (s : State) (n : Nat) : LevelView where
  pend := s.is (sourceBit IC_PEND.v n)
  mode := s.is (IC_SRC_CFG.mode n)
  insv := s.is (sourceBit IC_INSV.v n)
  level := s.sourceLevel n

def LevelView.repended (v : LevelView) : LevelView := { v with pend := v.pend || (v.mode && v.level && !v.insv) }

/-- An asserted level-mode source pends again. -/
def State.repend (s : State) (n : Nat) : State := s.when (s.sourceLevel n) fun s => s.sourceHigh n

theorem sourceReserved_of_level {s : State} {n : Nat} (level : s.sourceLevel n = true) : sourceReserved n = false := by
  by_contra reserved
  rw [State.sourceLevel, if_pos (by simpa using reserved)] at level
  contradiction

theorem State.sourceLevel_put_pend {n : Nat} (hn : n < 1024) (b m : Nat) :
    (s.put (sourceBit IC_PEND.v n) b).sourceLevel m = s.sourceLevel m :=
  State.sourceLevel_of_same (fun _ out => s.word_put_ne b fun same => out (same ▸ inPendOrInsv_pend hn)) rfl rfl

theorem State.levelView_of_view {s t : State} {n : Nat} (view : t.sourceView n = s.sourceView n)
    (level : t.sourceLevel n = s.sourceLevel n) : t.levelView n = s.levelView n := by
  have pend : t.is (sourceBit IC_PEND.v n) = s.is (sourceBit IC_PEND.v n) :=
    congrArg (fun w : SourceView => decide (w.pend ≠ 0)) view
  have mode : t.is (IC_SRC_CFG.mode n) = s.is (IC_SRC_CFG.mode n) := congrArg SourceView.level view
  have insv : t.is (sourceBit IC_INSV.v n) = s.is (sourceBit IC_INSV.v n) := congrArg SourceView.insv view
  simp only [State.levelView, mode, insv, level, pend]

theorem State.sourceLevel_repend {n : Nat} (hn : n < 1024) (m : Nat) : (s.repend n).sourceLevel m = s.sourceLevel m :=
  State.when_keeps (fun t => t.sourceLevel m) s _ _ fun t =>
    State.when_keeps (fun t => t.sourceLevel m) t _ _ fun t => t.sourceLevel_put_pend hn 1 m

theorem State.levelView_repend_ne {n m : Nat} (hn : n < 1024) (other : m ≠ n) :
    (s.repend n).levelView m = s.levelView m :=
  State.levelView_of_view (State.when_keeps (fun t => t.sourceView m) s _ _ fun t => t.sourceView_high_ne hn other)
    (s.sourceLevel_repend hn m)

theorem State.levelView_repend {n : Nat} (hn : n < 1024) : (s.repend n).levelView n = (s.levelView n).repended := by
  have same := s.sourceLevel_repend hn n
  cases level : s.sourceLevel n with
  | false =>
    rw [State.repend, State.when_of_false level]
    simp [LevelView.repended, State.levelView, level]
  | true =>
    have view := s.sourceView_high hn (sourceReserved_of_level level)
    rw [State.repend, State.when_of_true level] at same ⊢
    have pend : (s.sourceHigh n).get (sourceBit IC_PEND.v n) = if s.is (IC_SRC_CFG.mode n) && !s.is (sourceBit IC_INSV.v n)
      then 1 else s.get (sourceBit IC_PEND.v n) := congrArg SourceView.pend view
    have mode : (s.sourceHigh n).is (IC_SRC_CFG.mode n) = s.is (IC_SRC_CFG.mode n) := congrArg SourceView.level view
    have insv : (s.sourceHigh n).is (sourceBit IC_INSV.v n) = s.is (sourceBit IC_INSV.v n) := congrArg SourceView.insv view
    have shown : (s.sourceHigh n).is (sourceBit IC_PEND.v n)
        = (s.is (sourceBit IC_PEND.v n) || (s.is (IC_SRC_CFG.mode n) && !s.is (sourceBit IC_INSV.v n))) := by
      rw [State.is, pend]
      cases s.is (IC_SRC_CFG.mode n) && !s.is (sourceBit IC_INSV.v n) <;> simp [State.is]
    simp only [State.levelView, LevelView.repended, mode, insv, same, shown, level, Bool.and_true]

theorem State.pend_writePend (r : Fin 32) (v hw : Word) {b : Nat} (hb : b < 32) :
    (s.writePend r v hw).is (sourceBit IC_PEND.v (32 * r.val + b)) = (!sourceReserved (32 * r.val + b) && (bit v b || bit hw b
      || (s.is (IC_SRC_CFG.mode (32 * r.val + b)) && s.sourceLevel (32 * r.val + b)
        && !s.is (sourceBit IC_INSV.v (32 * r.val + b))))) := by
  have hn : 32 * r.val + b < 1024 := by omega
  have stored := s.sameRegs_pendStored r v hw
  have only : s.OnlyRegs (s.pendStored r v hw) := s.onlyRegs_each _ _ fun t _ => t.onlyRegs_put _ _
  have pendOff : (IC_PEND.v r).off = 0x310100 + 4 * r.val := rfl
  have level : (s.pendStored r v hw).sourceLevel (32 * r.val + b) = s.sourceLevel (32 * r.val + b) := by
    refine State.sourceLevel_of_same (fun _ out => stored _ ?_) (by rw [only]) (by rw [only])
    rw [List.mem_singleton, pendOff]
    rintro rfl
    exact out ⟨by omega, by omega⟩
  have mode : (s.pendStored r v hw).is (IC_SRC_CFG.mode (32 * r.val + b)) = s.is (IC_SRC_CFG.mode (32 * r.val + b)) :=
    stored.is_eq (by
      have := srcCfg_off_pos (32 * r.val + b)
      rw [List.mem_singleton, pendOff]
      simp only [IC_SRC_CFG.mode]
      omega)
  have insv : (s.pendStored r v hw).is (sourceBit IC_INSV.v (32 * r.val + b)) = s.is (sourceBit IC_INSV.v (32 * r.val + b)) :=
    stored.is_eq (by
      rw [List.mem_singleton, pendOff, sourceBit_insv_off]
      omega)
  have rounds : (s.writePend r v hw).levelView (32 * r.val + b) = ((s.pendStored r v hw).levelView (32 * r.val + b)).repended :=
    State.each_once (fun t => t.levelView (32 * r.val + b)) (s.pendStored r v hw) (a := b) List.nodup_range (List.mem_range.mpr hb)
      (fun t => t.levelView_repend hn) fun x hx other t => t.levelView_repend_ne
        (by have := List.mem_range.mp hx; omega) (by omega)
  have shown : (s.writePend r v hw).is (sourceBit IC_PEND.v (32 * r.val + b)) = _ := congrArg LevelView.pend rounds
  rw [shown]
  simp only [LevelView.repended, State.levelView, level, mode, insv, s.pend_pendStored r v hw hb]
  cases reserved : sourceReserved (32 * r.val + b) with
  | false => simp only [Bool.not_false, Bool.true_and]
  | true => simp [State.sourceLevel, reserved]

theorem State.sameRegs_writePend (r : Fin 32) (v hw : Word) : s.SameRegs (s.writePend r v hw) [(IC_PEND.v r).off] :=
  fun o ho => (State.each_keeps_of_mem (fun t => t.word o) _ fun b hb t => State.when_keeps (fun t => t.word o) t _ _ fun t =>
    State.when_keeps (fun t => t.word o) t _ _ fun t =>
      t.word_put_ne _ (by rw [pend_off_of_word r (List.mem_range.mp hb)]; simpa using ho)).trans
    (s.sameRegs_pendStored r v hw o ho)

theorem State.onlyRegs_writePend (r : Fin 32) (v hw : Word) : s.OnlyRegs (s.writePend r v hw) :=
  State.OnlyRegs.trans (s.onlyRegs_each _ _ fun t _ => t.onlyRegs_put _ _)
    (State.onlyRegs_each _ _ _ fun t _ => t.onlyRegs_when _ fun t => t.onlyRegs_high _)

end

/-- Settles O52: each command by what it makes of a source's counter, pending bit and in-service bit, round by round where
it goes through several sources. -/
theorem interruptCommandsComplete : Obligations.InterruptCommandsComplete := by
  unfold Obligations.InterruptCommandsComplete
  refine ⟨fun s n real own => ?edge, fun s n low high => ⟨fun open_ => ?lineOpen, fun closed => ?lineClosed⟩,
    fun s n b => ?level, fun s v => ?swi, fun s c fast => ⟨fun none_ => ?claimNone, fun n lowest => ?claim⟩,
    fun s c v other => ⟨fun insv owner => ?complete, fun foreign => ?bad⟩, fun s c v none_ => congrArg Host.Outcome.next (if_pos none_),
    fun s c n fast insv => State.lowestFor_ne_insv insv c fast, fun s r v hw => ⟨_, rfl, s.sameRegs_writePend r v hw,
      s.onlyRegs_writePend r v hw, fun b hb => s.pend_writePend r v hw hb⟩⟩
  case edge =>
    have run : exec (.sourceEdge n) s = .next (s.sourceRise n) := by
      refine (if_neg ?_).trans (by rw [s.setSourceLine_self own])
      simp only [Bool.and_eq_true, decide_eq_true_eq]
      omega
    have view := s.sourceView_rise n.isLt real
    have pend : (s.sourceRise n).get (sourceBit IC_PEND.v n) = if s.is (IC_SRC_CFG.mode n) then s.get (sourceBit IC_PEND.v n) else 1 :=
      congrArg SourceView.pend view
    refine ⟨_, run, congrArg SourceView.count view, fun edge => ?_, fun level => ?_, s.sameRegs_rise n, s.onlyRegs_rise n⟩
    · rw [pend, edge]
      rfl
    · rw [pend, level]
      rfl
  case lineOpen =>
    refine if_neg ?_
    simp [open_]
  case lineClosed =>
    refine if_pos ?_
    simp [closed, low, high]
  case level =>
    have real : (s.setSourceLine n b).regs = s.regs := by
      unfold State.setSourceLine
      split <;> rfl
    have word (o : Nat) : (s.setSourceLine n b).word o = s.word o := congrArg (fun m => KMap.get resetWord m o) real
    have is_ (f : Field) : (s.setSourceLine n b).is f = s.is f := congrArg (fun w => decide (bitsOf w f.hi f.lo ≠ 0)) (word f.off)
    refine ⟨_, rfl, fun high mode free => ?_, fun low => ?_⟩
    · have view := (s.setSourceLine n b).sourceView_high n.isLt (sourceReserved_of_level high)
      rw [State.when_of_true high]
      refine (congrArg SourceView.pend view).trans (if_pos ?_)
      simp only [State.sourceView, is_, mode, free]
      rfl
    · cases high : (s.setSourceLine n b).sourceLevel n with
      | false => exact State.when_of_false rfl _
      | true =>
        have stays := low.resolve_left (by simp [high])
        refine (State.when_of_true rfl _).trans (State.when_of_false ?_ _)
        rw [is_, is_]
        rcases stays with edge | served <;> simp [*]
  case swi =>
    refine ⟨_, rfl, ?_, fun n hn set edge => ?_, fun n hn set => ?_, fun n hn clear => ?_⟩
    · exact s.onlyRegs_each _ _ fun t n => t.onlyRegs_when _ fun t => State.OnlyRegs.trans (t.onlyRegs_rise n) (State.onlyRegs_high _ n)
    · refine (congrArg SourceView.pend (s.sourceView_swi_set hn set)).trans ?_
      simp [SourceView.high, SourceView.risen, State.sourceView, edge]
    · exact congrArg SourceView.count (s.sourceView_swi_set hn set)
    · have view := s.sourceView_swi_clear hn clear
      exact ⟨congrArg SourceView.pend view, congrArg SourceView.count view⟩
  case claimNone =>
    cases fast with
    | false => exact congrArg Host.Outcome.next (State.claim_none none_)
    | true => exact congrArg Host.Outcome.next (State.claim_none none_)
  case claim =>
    cases fast with
    | false => exact ⟨_, rfl, State.claim_serves lowest (by simp only [IC_CLAIM_N.off]; omega)⟩
    | true => exact ⟨_, rfl, State.claim_serves lowest (by simp only [IC_CLAIM_F.off]; omega)⟩
  case complete =>
    have hn : bitsOf v 9 0 < 1024 := bitsOf_lt v 9 0
    refine ⟨congrArg Host.Outcome.next ((if_neg other).trans (if_pos ?_)), s.insv_completeSource hn, s.pend_completeSource hn⟩
    rw [insv, decide_eq_true owner]
    rfl
  case bad =>
    refine congrArg Host.Outcome.next ((if_neg other).trans (if_neg ?_))
    rcases foreign with free | foreign <;> simp [*]

end Sys2Proof.Machine
end

section
/-! The tasks and their lists (R417 to R422). -/

namespace Sys2Proof.Machine

open Reg

/-! ### The fields of a task entry -/

/-- A register of the task table. -/
def inTaskTable (o : Nat) : Prop := 0x1440000 ≤ o

section
variable (s : State)

theorem State.get_setReady {g : Nat} (hg : g < 128) (l : List Nat) {f : Field} (task : inTaskTable f.off) :
    (s.setReady g l).get f = s.get f :=
  State.get_put_off _ (f := TS_DEPTH.v g) _ (by
    simp only [inTaskTable] at task
    simp only [TS_DEPTH.v, TS_DEPTH.off]
    omega)

theorem State.readyList_of_ts {s t : State} (same : t.ts = s.ts) (g : Nat) : t.readyList g = s.readyList g := by
  rw [State.readyList, same, State.readyList]

theorem State.runningOn_of_ts {s t : State} (same : t.ts = s.ts) (g : Nat) : t.runningOn g = s.runningOn g := by
  rw [State.runningOn, same, State.runningOn]

@[simp] theorem State.readyList_setReady_same (g : Nat) (l : List Nat) : (s.setReady g l).readyList g = l := KMap.get_set_same ..

@[simp] theorem State.runningOn_setReady (g h : Nat) (l : List Nat) : (s.setReady g l).runningOn h = s.runningOn h := rfl

theorem State.setRunning_frame (g : Nat) (l : List Nat) : ∃ busy from_, s.setRunning g l = { s with
    ts := { s.ts with running := s.ts.running.set listDefault g l, busy := busy, busyFrom := from_ } } := by
  unfold State.setRunning
  dsimp only
  split
  · exact ⟨_, _, rfl⟩
  · split
    · exact ⟨_, _, rfl⟩
    · exact ⟨_, _, rfl⟩

@[simp] theorem State.runningOn_setRunning_same (g : Nat) (l : List Nat) : (s.setRunning g l).runningOn g = l := by
  obtain ⟨busy, from_, frame⟩ := s.setRunning_frame g l
  rw [frame]
  exact KMap.get_set_same ..

@[simp] theorem State.readyList_setRunning (g h : Nat) (l : List Nat) : (s.setRunning g l).readyList h = s.readyList h := by
  obtain ⟨busy, from_, frame⟩ := s.setRunning_frame g l
  rw [frame]
  rfl

@[simp] theorem State.get_setRunning (g : Nat) (l : List Nat) (f : Field) : (s.setRunning g l).get f = s.get f := by
  obtain ⟨busy, from_, frame⟩ := s.setRunning_frame g l
  rw [frame]
  rfl

@[simp] theorem State.suspend_setRunning (g : Nat) (l : List Nat) : (s.setRunning g l).ts.suspend = s.ts.suspend := by
  obtain ⟨busy, from_, frame⟩ := s.setRunning_frame g l
  rw [frame]

/-- A task's state is a field of its own. -/
theorem State.get_put_taskState (t v : Nat) {f : Field} (apart : f.off ≠ TS_TASK.off t 0 ∨ f.hi < 28) :
    (s.put (taskState t) v).get f = s.get f := by
  rcases apart with off | below
  · exact s.get_put_off v off
  · exact s.get_put_apart v (by omega) (.inl below)

theorem State.get_put_taskReason (t v : Nat) (f : Field) {u : Nat} (first : f.off = TS_TASK.off u 0) :
    (s.put (taskReason t) v).get f = s.get f :=
  s.get_put_off v (by
    rw [first]
    simp only [taskReason, TS_TASK.off]
    omega)

theorem State.state_put_taskState {t v : Nat} (fits : v < 16) : (s.put (taskState t) v).get (taskState t) = v :=
  (s.get_put_same v (by simp [taskState])).trans (Nat.mod_eq_of_lt fits)

theorem State.target_lt (t : Nat) : s.get (taskTarget t) < 128 := s.get_lt _

theorem taskFields_in (t : Nat) : inTaskTable (taskState t).off ∧ inTaskTable (taskReason t).off := by
  simp only [inTaskTable, taskState, taskReason, TS_TASK.off]
  omega

theorem taskWord_ne {t u j : Nat} (hj : 0 < j) (small : j < 8) : TS_TASK.off t 0 ≠ TS_TASK.off u j := by
  simp only [TS_TASK.off]
  omega

theorem taskWord_ne_of_ne {t u : Nat} (other : t ≠ u) {i j : Nat} (hi : i < 8) (hj : j < 8) :
    TS_TASK.off t i ≠ TS_TASK.off u j := by
  simp only [TS_TASK.off]
  omega

/-- The place in a list follows from the priorities alone. -/
theorem State.listTail_of_prio {s t : State} (prio : ∀ u, t.get (taskPrio u) = s.get (taskPrio u)) (n : Nat) (l : List Nat) :
    t.listTail n l = s.listTail n l := by
  simp only [State.listTail, prio]

theorem State.listHead_of_prio {s t : State} (prio : ∀ u, t.get (taskPrio u) = s.get (taskPrio u)) (n : Nat) (l : List Nat) :
    t.listHead n l = s.listHead n l := by
  simp only [State.listHead, prio]

theorem State.prio_put_taskState (t v u : Nat) : (s.put (taskState t) v).get (taskPrio u) = s.get (taskPrio u) :=
  s.get_put_taskState t v (.inr (by simp [taskPrio]))

theorem State.prio_put_taskReason (t v u : Nat) : (s.put (taskReason t) v).get (taskPrio u) = s.get (taskPrio u) :=
  s.get_put_taskReason t v (taskPrio u) rfl

/-! ### READY (R422) -/

/-- A task that becomes READY, before it joins a list. -/
def State.markReady (s : State) (t reason : Nat) : State :=
  let s := (s.put (taskState t) 3).put (taskReason t) reason
  { s with ts := { s.ts with readyAt := s.ts.readyAt.set natDefault t s.schedTime } }

theorem State.makeReady_eq (t reason : Nat) : s.makeReady t reason
    = (s.markReady t reason).setReady ((s.markReady t reason).get (taskTarget t))
        ((s.markReady t reason).listTail t ((s.markReady t reason).readyList ((s.markReady t reason).get (taskTarget t)))) := rfl

theorem State.get_markReady (t reason : Nat) (f : Field) :
    (s.markReady t reason).get f = ((s.put (taskState t) 3).put (taskReason t) reason).get f :=
  State.get_of_regs (by unfold State.markReady; dsimp only) f

theorem State.target_markReady (t reason : Nat) : (s.markReady t reason).get (taskTarget t) = s.get (taskTarget t) :=
  (s.get_markReady t reason _).trans ((State.get_put_taskReason _ t reason (taskTarget t) rfl).trans
    (s.get_put_taskState t 3 (f := taskTarget t) (.inr (by simp [taskTarget]))))

theorem State.prio_markReady (t reason u : Nat) : (s.markReady t reason).get (taskPrio u) = s.get (taskPrio u) :=
  (s.get_markReady t reason _).trans ((State.prio_put_taskReason _ t reason u).trans (s.prio_put_taskState t 3 u))

theorem State.readyList_makeReady (t reason : Nat) : (s.makeReady t reason).readyList (s.get (taskTarget t))
    = s.listTail t (s.readyList (s.get (taskTarget t))) := by
  rw [s.makeReady_eq, s.target_markReady, State.readyList_setReady_same, State.listTail_of_prio (s.prio_markReady t reason)]
  rfl

theorem State.get_makeReady (t reason : Nat) {f : Field} (task : inTaskTable f.off) :
    (s.makeReady t reason).get f = (s.markReady t reason).get f := by
  rw [s.makeReady_eq]
  exact State.get_setReady _ (State.target_lt _ t) _ task

theorem State.state_makeReady (t reason : Nat) : (s.makeReady t reason).get (taskState t) = 3 :=
  ((s.get_makeReady t reason (taskFields_in t).1).trans (s.get_markReady t reason _)).trans
    ((State.get_put_taskReason _ t reason (taskState t) rfl).trans (s.state_put_taskState (by decide)))

theorem State.reason_makeReady (t : Nat) {reason : Nat} (fits : reason < 4) :
    (s.makeReady t reason).get (taskReason t) = reason :=
  ((s.get_makeReady t reason (taskFields_in t).2).trans (s.get_markReady t reason _)).trans
    ((State.get_put_same (f := taskReason t) _ reason (by simp [taskReason])).trans (Nat.mod_eq_of_lt fits))

/-- A task that becomes READY leaves the other tasks' states and reasons. -/
theorem State.get_makeReady_other {t u : Nat} (other : u ≠ t) (reason : Nat) :
    (s.makeReady t reason).get (taskState u) = s.get (taskState u)
      ∧ (s.makeReady t reason).get (taskReason u) = s.get (taskReason u) := by
  have apart {i j : Nat} (hi : i < 8) (hj : j < 8) : TS_TASK.off u i ≠ TS_TASK.off t j := taskWord_ne_of_ne other hi hj
  constructor
  · refine ((s.get_makeReady t reason (taskFields_in u).1).trans (s.get_markReady t reason _)).trans ?_
    exact (State.get_put_taskReason _ t reason (taskState u) rfl).trans
      (s.get_put_taskState t 3 (f := taskState u) (.inl (apart (i := 0) (j := 0) (by decide) (by decide))))
  · refine ((s.get_makeReady t reason (taskFields_in u).2).trans (s.get_markReady t reason _)).trans ?_
    exact (State.get_put_off _ (f := taskReason t) (g := taskReason u) reason (apart (i := 3) (j := 3) (by decide) (by decide))).trans
      (s.get_put_taskState t 3 (f := taskReason u) (.inl (apart (i := 3) (j := 0) (by decide) (by decide))))

/-! ### RUNNING (R422, R425) -/

/-- The head of a list before its dispatch counts. -/
def State.markRunning (s : State) (t : Nat) : State := ((s.unready t).put (taskState t) tRUNNING).count (taskDispatches t)

theorem State.dispatch_eq (g t : Nat) : ∃ bin, bin < 8 ∧ s.dispatch g t
    = ((s.markRunning t).setRunning g ((s.markRunning t).runningOn g ++ [t])).count (TS_HIST.v g bin) := by
  refine ⟨waitBin (s.schedTime - s.ts.readyAt.get natDefault t), ?_, rfl⟩
  unfold waitBin
  split_ifs <;> decide

theorem State.state_dispatch {g : Nat} (hg : g ≤ 71) (t : Nat) : (s.dispatch g t).get (taskState t) = 4 := by
  obtain ⟨bin, small, dispatched⟩ := s.dispatch_eq g t
  have apart : (taskState t).off ≠ (TS_HIST.v g bin).off := by
    simp only [taskState, TS_TASK.off, TS_HIST.v, TS_HIST.off]
    omega
  rw [dispatched, State.get_count_off _ apart, State.get_setRunning]
  exact (State.get_count_off _ (f := taskDispatches t) (g := taskState t)
    (taskWord_ne (t := t) (u := t) (j := 3) (by decide) (by decide))).trans (State.state_put_taskState _ (by decide))

theorem State.readyList_unready (t : Nat) : (s.unready t).readyList (s.get (taskTarget t))
    = (s.readyList (s.get (taskTarget t))).erase t := s.readyList_setReady_same _ _

theorem State.readyList_markRunning (t : Nat) : (s.markRunning t).readyList (s.get (taskTarget t))
    = (s.readyList (s.get (taskTarget t))).erase t := by
  unfold State.markRunning
  rw [State.readyList_of_ts (State.count_ts _ _), State.readyList_of_ts (State.put_ts _ _ _), s.readyList_unready]

theorem State.runningOn_markRunning (t g : Nat) : (s.markRunning t).runningOn g = s.runningOn g := by
  unfold State.markRunning
  rw [State.runningOn_of_ts (State.count_ts _ _), State.runningOn_of_ts (State.put_ts _ _ _)]
  exact s.runningOn_setReady _ _ _

theorem State.lists_dispatch {t : Nat} {rest : List Nat} (head : s.readyList (s.get (taskTarget t)) = t :: rest)
    (idle : s.runningOn (s.get (taskTarget t)) = []) :
    (s.dispatch (s.get (taskTarget t)) t).readyList (s.get (taskTarget t)) = rest
      ∧ (s.dispatch (s.get (taskTarget t)) t).runningOn (s.get (taskTarget t)) = [t] := by
  have ready := s.readyList_markRunning t
  obtain ⟨bin, -, dispatched⟩ := s.dispatch_eq (s.get (taskTarget t)) t
  generalize s.get (taskTarget t) = g at head idle dispatched ready ⊢
  have none_ : (s.markRunning t).runningOn g = [] := (s.runningOn_markRunning t g).trans idle
  rw [dispatched, State.readyList_of_ts (State.count_ts _ _), State.runningOn_of_ts (State.count_ts _ _),
    State.readyList_setRunning, State.runningOn_setRunning_same, none_, ready, head]
  exact ⟨List.erase_cons_head .., rfl⟩

/-! ### The head of a list again (R424) -/

/-- A task that returns is READY and on no list. -/
def State.markReturned (s : State) (t : Nat) : State :=
  let s := (s.stopRunning t).put (taskState t) 3
  { s with ts := { s.ts with readyAt := s.ts.readyAt.set natDefault t s.schedTime } }

theorem State.returnOne_eq {s : State} {t : Nat} (running : s.get (taskState t) = 4) : s.returnOne t
    = (((s.markReturned t).setReady (s.get (taskTarget t)) ((s.markReturned t).listHead t
        ((s.markReturned t).readyList (s.get (taskTarget t))))).count TS_ABANDON.v).raise pageTS0 4 INFO 0x0D07 t 0 :=
  if_neg (not_not_intro running)

theorem State.get_raiseTs0 (n : Nat) (cls : BitVec 2) (code i0 i1 : Nat) {f : Field} (task : inTaskTable f.off) :
    (s.raise pageTS0 n cls code i0 i1).get f = s.get f := by
  refine s.get_raise_off _ _ _ _ _ _ ?_
  simp only [inTaskTable] at task
  simp only [pageTS0, pageFLT, EVT.off, EVT_CNT.off, ERR_INFO0.off, ERR_INFO1.off, FLT_DROP.off, List.mem_cons,
    List.not_mem_nil, or_false]
  omega

theorem State.runningOn_markReturned (t g : Nat) : (s.markReturned t).runningOn g = (s.stopRunning t).runningOn g := by
  unfold State.markReturned State.runningOn
  dsimp only [State.put_ts]

theorem State.readyList_markReturned (t g : Nat) : (s.markReturned t).readyList g = s.readyList g := by
  have stopped : (s.stopRunning t).readyList g = s.readyList g := s.readyList_setRunning _ _ _
  rw [← stopped]
  unfold State.markReturned State.readyList
  dsimp only [State.put_ts]

theorem State.get_markReturned (t : Nat) (f : Field) :
    (s.markReturned t).get f = ((s.stopRunning t).put (taskState t) 3).get f :=
  State.get_of_regs (by unfold State.markReturned; dsimp only) f

theorem State.prio_markReturned (t u : Nat) : (s.markReturned t).get (taskPrio u) = s.get (taskPrio u) :=
  (s.get_markReturned t _).trans ((State.prio_put_taskState _ t 3 u).trans (s.get_setRunning _ _ _))

theorem State.state_returnOne {s : State} {t : Nat} (running : s.get (taskState t) = 4) :
    (s.returnOne t).get (taskState t) = 3 := by
  rw [State.returnOne_eq running, State.get_raiseTs0 _ _ _ _ _ _ (taskFields_in t).1]
  refine (State.get_count_off _ (f := TS_ABANDON.v) (g := taskState t) ?_).trans
    ((State.get_setReady _ (s.target_lt t) _ (taskFields_in t).1).trans
      ((s.get_markReturned t _).trans (State.state_put_taskState _ (by decide))))
  simp only [taskState, TS_TASK.off, TS_ABANDON.v, TS_ABANDON.off]
  omega

theorem State.lists_returnOne {s : State} {t : Nat} (running : s.get (taskState t) = 4) :
    (s.returnOne t).runningOn (s.get (taskTarget t)) = (s.runningOn (s.get (taskTarget t))).erase t
      ∧ (s.returnOne t).readyList (s.get (taskTarget t)) = s.listHead t (s.readyList (s.get (taskTarget t))) := by
  have left : (s.stopRunning t).runningOn (s.get (taskTarget t)) = (s.runningOn (s.get (taskTarget t))).erase t :=
    s.runningOn_setRunning_same _ _
  rw [State.returnOne_eq running, State.runningOn_of_ts (State.raise_ts _ _ _ _ _ _ _),
    State.runningOn_of_ts (State.count_ts _ _), State.runningOn_setReady, s.runningOn_markReturned, left,
    State.readyList_of_ts (State.raise_ts _ _ _ _ _ _ _), State.readyList_of_ts (State.count_ts _ _),
    State.readyList_setReady_same, s.readyList_markReturned, State.listHead_of_prio (s.prio_markReturned t)]
  exact ⟨rfl, rfl⟩

end

end Sys2Proof.Machine
end

section
/-! What commands make of a task (R417 to R421). -/

namespace Sys2Proof.Machine

open Reg

/-! ### TS_CMD (R418) -/

section
variable (s : State) {v : Word}

/-- A command that is carried out, and one that is refused. -/
def State.tsOk (s : State) : State := s.put TS_CMD_RES.v 1
def State.tsBad (s : State) (t : Nat) : State := (s.put TS_CMD_RES.v 3).raise pageTS0 2 INFO 0x0D05 t 0

/-- START by the task's condition: it waits for flags or for a time, or is READY. -/
def State.startTask (s : State) (t : Nat) : State :=
  if s.get (taskMask t) ≠ 0 then s.put (taskState t) 1
  else if s.is (taskTimed t) then s.put (taskState t) 2
  else s.makeReady t 0

theorem State.tsCmd_start (op : bitsOf v 31 28 = 1) : s.tsCmd v
    = if ((s.get (taskState (bitsOf v 11 0)) = 0 || s.get (taskState (bitsOf v 11 0)) = 5)
        && s.get (taskTarget (bitsOf v 11 0)) ≤ 71) = true
      then (s.startTask (bitsOf v 11 0)).tsOk else s.tsBad (bitsOf v 11 0) := by
  simp only [State.tsCmd, op]
  rfl

theorem State.tsCmd_suspend (op : bitsOf v 31 28 = 2) : s.tsCmd v
    = if s.get (taskState (bitsOf v 11 0)) = 3 then ((s.unready (bitsOf v 11 0)).put (taskState (bitsOf v 11 0)) 5).tsOk
      else if (s.get (taskState (bitsOf v 11 0)) = 1 || s.get (taskState (bitsOf v 11 0)) = 2) = true then
        (s.put (taskState (bitsOf v 11 0)) 5).tsOk
      else if s.get (taskState (bitsOf v 11 0)) = 4 then
        State.tsOk (if s.ts.suspend.contains (bitsOf v 11 0) then s
          else { s with ts := { s.ts with suspend := bitsOf v 11 0 :: s.ts.suspend } })
      else s.tsBad (bitsOf v 11 0) := by
  simp only [State.tsCmd, op]
  rfl

theorem State.tsCmd_delete (op : bitsOf v 31 28 = 3) : s.tsCmd v
    = if s.get (taskState (bitsOf v 11 0)) = 5 then (s.put (taskState (bitsOf v 11 0)) 0).tsOk
      else s.tsBad (bitsOf v 11 0) := by
  simp only [State.tsCmd, op]
  rfl

theorem State.tsCmd_starts {s : State} (op : bitsOf v 31 28 = 1)
    (idle : s.get (taskState (bitsOf v 11 0)) = 0 ∨ s.get (taskState (bitsOf v 11 0)) = 5)
    (target : s.get (taskTarget (bitsOf v 11 0)) ≤ 71) : s.tsCmd v = (s.startTask (bitsOf v 11 0)).tsOk := by
  refine (s.tsCmd_start op).trans (if_pos ?_)
  rcases idle with free | suspended <;> simp [*]

theorem State.tsCmd_startRefused {s : State} (op : bitsOf v 31 28 = 1)
    (bad : s.get (taskState (bitsOf v 11 0)) ≠ 0 ∧ s.get (taskState (bitsOf v 11 0)) ≠ 5
      ∨ 71 < s.get (taskTarget (bitsOf v 11 0))) : s.tsCmd v = s.tsBad (bitsOf v 11 0) := by
  refine (s.tsCmd_start op).trans (if_neg ?_)
  rcases bad with ⟨used, unsuspended⟩ | noTarget
  · simp [used, unsuspended]
  · simp [noTarget]

theorem State.tsCmd_suspendsWaiting {s : State} (op : bitsOf v 31 28 = 2)
    (waits : s.get (taskState (bitsOf v 11 0)) = 1 ∨ s.get (taskState (bitsOf v 11 0)) = 2) :
    s.tsCmd v = (s.put (taskState (bitsOf v 11 0)) 5).tsOk :=
  (s.tsCmd_suspend op).trans ((if_neg (by omega)).trans (if_pos (by simpa using waits)))

theorem State.tsCmd_suspendsRunning {s : State} (op : bitsOf v 31 28 = 2)
    (runs : s.get (taskState (bitsOf v 11 0)) = 4) (free : bitsOf v 11 0 ∉ s.ts.suspend) :
    s.tsCmd v = State.tsOk { s with ts := { s.ts with suspend := bitsOf v 11 0 :: s.ts.suspend } } := by
  have fresh : ¬ s.ts.suspend.contains (bitsOf v 11 0) = true := by simpa using free
  rw [s.tsCmd_suspend op, if_neg (by omega), if_neg (by simp [runs]), if_pos runs, if_neg fresh]

theorem State.tsCmd_suspendRefused {s : State} (op : bitsOf v 31 28 = 2)
    (bad : s.get (taskState (bitsOf v 11 0)) = 0 ∨ s.get (taskState (bitsOf v 11 0)) = 5) :
    s.tsCmd v = s.tsBad (bitsOf v 11 0) := by
  rw [s.tsCmd_suspend op, if_neg (by omega), if_neg (by simp; omega), if_neg (by omega)]

/-! ### TS_DONE (R418) -/

/-- A task that SUSPEND has named while it ran. -/
def State.suspendRan (s : State) (t : Nat) : State :=
  let s := (s.stopRunning t).put (taskState t) tSUSPENDED
  { s with ts := { s.ts with suspend := s.ts.suspend.erase t } }

/-- The actions of TS_DONE. -/
def State.doneTask (s : State) (t act : Nat) : State :=
  match act with
  | 0 =>
    let s := s.stopRunning t
    if s.taskHolds t then s.readyByFlags t else s.put (taskState t) tBLOCKED
  | 1 => (s.stopRunning t).put (taskState t) tDELAYED
  | 2 => (s.stopRunning t).makeReady t 3
  | 3 => (s.stopRunning t).put (taskState t) tFREE
  | _ => s.taskRefused t

theorem State.tsDone_eq (v : Word) : s.tsDone v = if s.get (taskState (bitsOf v 11 0)) ≠ 4
    then (s.count TS_BAD_DONE.v).taskRefused (bitsOf v 11 0)
    else if s.ts.suspend.contains (bitsOf v 11 0) = true then s.suspendRan (bitsOf v 11 0)
    else s.doneTask (bitsOf v 11 0) (bitsOf v 31 28) := rfl

theorem State.tsDone_running {s : State} (running : s.get (taskState (bitsOf v 11 0)) = 4)
    (free : bitsOf v 11 0 ∉ s.ts.suspend) {act : Nat} (op : bitsOf v 31 28 = act) :
    s.tsDone v = s.doneTask (bitsOf v 11 0) act := by
  have stays : ¬ s.ts.suspend.contains (bitsOf v 11 0) = true := by simpa using free
  rw [s.tsDone_eq, if_neg (not_not_intro running), if_neg stays, op]

theorem State.tsDone_suspended {s : State} (running : s.get (taskState (bitsOf v 11 0)) = 4)
    (named : bitsOf v 11 0 ∈ s.ts.suspend) : s.tsDone v = s.suspendRan (bitsOf v 11 0) := by
  have goes : s.ts.suspend.contains (bitsOf v 11 0) = true := by simpa using named
  rw [s.tsDone_eq, if_neg (not_not_intro running), if_pos goes]

theorem State.state_suspendRan (t : Nat) : (s.suspendRan t).get (taskState t) = 5 :=
  (State.get_of_regs (by unfold State.suspendRan; dsimp only) _).trans
    (State.state_put_taskState (s.stopRunning t) (t := t) (v := tSUSPENDED) (by decide))

theorem State.suspend_suspendRan (t : Nat) : (s.suspendRan t).ts.suspend = s.ts.suspend.erase t :=
  congrArg (List.erase · t) (s.suspend_setRunning _ _)

theorem State.tsDone_bad {s : State} (still : s.get (taskState (bitsOf v 11 0)) ≠ 4) :
    s.tsDone v = (s.count TS_BAD_DONE.v).raise pageTS0 2 INFO 0x0D05 (bitsOf v 11 0) 0 := if_pos still

/-! ### The table (R417) -/

/-- A write of the table that the task's state allows. -/
def State.storeTask (s : State) (t w : Nat) (v : Word) : State :=
  if w = 0 then s.setWord (TS_TASK.off t 0) (setBits (setBits v 31 28 (s.get (taskState t))) 12 0 0)
  else s.setWord (TS_TASK.off t w) v

theorem State.state_storeTask (t : Nat) {w : Nat} (v : Word) (hw : w < 8) :
    (s.storeTask t w v).get (taskState t) = s.get (taskState t) := by
  unfold State.storeTask
  split
  · have stored : (s.setWord (TS_TASK.off t 0) (setBits (setBits v 31 28 (s.get (taskState t))) 12 0 0)).get (taskState t)
        = bitsOf (setBits (setBits v 31 28 (s.get (taskState t))) 12 0 0) 31 28 :=
      congrArg (bitsOf · 31 28) (s.word_setWord_same _ _)
    rw [stored, bitsOf_setBits_ne _ _ (by decide) (by decide), bitsOf_setBits_same _ _ (by decide)]
    exact Nat.mod_eq_of_lt (s.get_lt (taskState t))
  · next other =>
    exact congrArg (bitsOf · 31 28) (s.word_setWord_ne v (taskWord_ne (t := t) (u := t) (Nat.pos_of_ne_zero other) hw))

theorem State.writeTask_idle {s : State} {t : Fin 4096} {w : Fin 8} (active : s.standby = false)
    (idle : s.get (taskState t) = 0 ∨ s.get (taskState t) = 5) (other : w.val ≠ 3) :
    s.writeTask t w v = s.storeTask t w v := by
  have rests : (decide (s.get (taskState t) = tFREE) || decide (s.get (taskState t) = tSUSPENDED)) = true := by
    rcases idle with free | suspended
    · simp [free, tFREE]
    · simp [suspended, tSUSPENDED]
  simp only [State.writeTask, active, rests, other]
  rfl

theorem State.writeTask_refused {s : State} {t : Fin 4096} {w : Fin 8} (active : s.standby = false)
    (bad : w.val = 3 ∨ ¬(s.get (taskState t) = 0 ∨ s.get (taskState t) = 5)
      ∧ (s.get (taskState t) ≠ 4 ∨ w.val = 0 ∨ w.val = 2)) : s.writeTask t w v = s.count TS_WR_REFUSED.v := by
  have refused : (!(if w.val = 3 then false
      else if (s.get (taskState t) = tFREE || s.get (taskState t) = tSUSPENDED) = true then true
      else s.get (taskState t) = tRUNNING && (w.val = 1 || decide (4 ≤ w.val)))) = true := by
    rcases bad with reserved | ⟨busy, runs⟩
    · simp [reserved]
    · have busy' : ¬(s.get (taskState t) = tFREE ∨ s.get (taskState t) = tSUSPENDED) := busy
      rcases runs with stopped | first | third
      · have stopped' : ¬ s.get (taskState t) = tRUNNING := stopped
        simp [busy', stopped']
      · simp [busy', first]
      · simp [busy', third]
  refine (if_neg (ne_true_of_eq_false active)).trans ?_
  exact if_pos refused

/-! ### Posts (R419, R420) -/

/-- The oldest post leaves the queue, and its flags are set. -/
def State.takePost (s : State) (rest : List (Nat × Word)) : State :=
  ({ s with ts := { s.ts with posts := rest } }).put TS_QUEUE.v rest.length
def State.setFlags (s : State) (t : Nat) (v : Word) : State :=
  s.setWord (taskFlags t).off (s.word (taskFlags t).off ||| v)

theorem State.state_takePost (rest : List (Nat × Word)) (t : Nat) :
    (s.takePost rest).get (taskState t) = s.get (taskState t) :=
  (State.get_put_off _ (f := TS_QUEUE.v) (g := taskState t) _ (by
    simp only [taskState, TS_TASK.off, TS_QUEUE.v, TS_QUEUE.off]
    omega)).trans (State.get_of_regs rfl _)

theorem State.state_setFlags (t : Nat) (v : Word) : (s.setFlags t v).get (taskState t) = s.get (taskState t) :=
  congrArg (bitsOf · 31 28) (s.word_setWord_ne _ (taskWord_ne (t := t) (u := t) (j := 2) (by decide) (by decide)))

theorem State.flags_takePost (rest : List (Nat × Word)) (t : Nat) :
    (s.takePost rest).word (taskFlags t).off = s.word (taskFlags t).off :=
  (State.word_put_ne _ (f := TS_QUEUE.v) _ (by
    simp only [taskFlags, TS_TASK.off, TS_QUEUE.v, TS_QUEUE.off]
    omega)).trans (State.word_of_regs rfl _)

/-- The post in its task's flags. -/
def State.postFlags (s : State) (t : Nat) (v : Word) (rest : List (Nat × Word)) : State :=
  (s.takePost rest).setWord (taskFlags t).off (s.word (taskFlags t).off ||| v)

theorem State.setFlags_takePost (t : Nat) (v : Word) (rest : List (Nat × Word)) :
    (s.takePost rest).setFlags t v = s.postFlags t v rest := by
  rw [State.setFlags, s.flags_takePost, State.postFlags]

theorem execTaskPostApply_eq {s : State} {t : Nat} {w : Word} {rest : List (Nat × Word)} (posts : s.ts.posts = (t, w) :: rest) :
    exec .taskPostApply s = .next (s.mirrorFrom (
      if s.get (taskState t) = 0 then (s.takePost rest).count TS_POST_DROP.v
      else if (s.get (taskState t) = 1 && (s.postFlags t w rest).taskHolds t) = true then
        (s.postFlags t w rest).readyByFlags t
      else s.postFlags t w rest)) := by
  rw [← s.setFlags_takePost]
  have first := s.state_takePost rest t
  have second := ((s.takePost rest).state_setFlags t w).trans first
  show execTaskPostApply s = _
  unfold execTaskPostApply
  refine mirrored_next ?_
  simp only [posts]
  by_cases free : s.get (taskState t) = 0
  · exact (if_pos (first.trans free)).trans (congrArg Host.Outcome.next (if_pos free).symm)
  · rw [if_neg free, ← second]
    refine (if_neg (first.trans_ne free)).trans ?_
    cases ready : (decide (((s.takePost rest).setFlags t w).get (taskState t) = 1)
        && ((s.takePost rest).setFlags t w).taskHolds t) with
    | true => exact if_pos ready
    | false => exact if_neg (ne_true_of_eq_false ready)

end

/-! ### Ticks (R421) -/

section
variable (s : State)

theorem State.mem_byWake (t u : Nat) (l : List Nat) : u ∈ s.byWake t l ↔ u = t ∨ u ∈ l := by
  induction l with
  | nil => exact List.mem_cons
  | cons x l ih =>
    rw [State.byWake]
    split
    · exact List.mem_cons
    · rw [List.mem_cons, ih, List.mem_cons]
      exact or_left_comm

theorem State.mem_wakeOrder (u : Nat) (due l : List Nat) : u ∈ due.foldl (fun l n => s.byWake n l) l ↔ u ∈ due ∨ u ∈ l := by
  induction due generalizing l with
  | nil => simp
  | cons x due ih =>
    rw [List.foldl_cons, ih, s.mem_byWake, List.mem_cons]
    exact or_assoc.symm.trans (or_congr_left or_comm) |>.symm.symm

theorem KMap.mem_of_get_ne {α : Type} {d : Nat → α} {m : KMap α} {k : Nat} (listed : m.get d k ≠ d k) : ∃ v, (k, v) ∈ m := by
  induction m with
  | nil => exact absurd rfl listed
  | cons x m ih =>
    rw [KMap.get] at listed
    split at listed
    · next same => exact ⟨x.2, by rw [same]; exact List.mem_cons_self⟩
    · obtain ⟨v, mem⟩ := ih listed
      exact ⟨v, List.mem_cons_of_mem _ mem⟩

theorem locate_task {i o : Nat} (hi : i < 4096) (ho : o < 0x20) :
    locate (0x1440000 + 0x20 * i + o) = some (⟨0x1440000, 0x20, 4096, false, 0x0000, 0, .warm, false, 0, false, regsTASK⟩, i, o) := by
  have index : (0x1440000 + 0x20 * i + o - 0x1440000) / 0x20 = i := by omega
  have inside : (0x1440000 + 0x20 * i + o - 0x1440000) % 0x20 = o := by omega
  have past (b c k : Nat) (h : b + k * c ≤ 0x1440000) (pos : 0 < c) : ¬ (0x1440000 + 0x20 * i + o - b) / c < k :=
    Nat.not_lt.mpr ((Nat.le_div_iff_mul_le pos).mpr (by omega))
  have reached (b : Nat) (h : b ≤ 0x1440000) : ¬ 0x1440000 + 0x20 * i + o < b := by omega
  simp [locate, pageDirectory, locate.go, index, inside, past, reached, hi, ho]

theorem resetWord_task {i : Nat} (hi : i < 4096) : resetWord (TS_TASK.off i 0) = 0 := by
  have place : TS_TASK.off i 0 = 0x1440000 + 0x20 * i + 0 := rfl
  rw [resetWord, place, locate_task hi (by decide)]
  rfl

/-- A task in a state other than FREE is listed. -/
theorem State.mem_tasksListed {t : Nat} (ht : t < 4096) (used : s.get (taskState t) ≠ 0) : t ∈ s.tasksListed := by
  have listed : s.regs.get resetWord (TS_TASK.off t 0) ≠ resetWord (TS_TASK.off t 0) := by
    intro same
    refine used ?_
    show bitsOf (s.regs.get resetWord (TS_TASK.off t 0)) 31 28 = 0
    rw [same, resetWord_task ht]
    rfl
  obtain ⟨w, mem⟩ := KMap.mem_of_get_ne listed
  refine List.mem_filterMap.mpr ⟨_, mem, ?_⟩
  have low : TS_TASK.off 0 0 ≤ TS_TASK.off t 0 := by simp only [TS_TASK.off]; omega
  have high : TS_TASK.off t 0 < TS_TASK.off 4096 0 := by simp only [TS_TASK.off]; omega
  have aligned : (TS_TASK.off t 0 - TS_TASK.off 0 0) % 0x20 = 0 := by simp only [TS_TASK.off]; omega
  have number : (TS_TASK.off t 0 - TS_TASK.off 0 0) / 0x20 = t := by simp only [TS_TASK.off]; omega
  simp [low, high, aligned, number]

theorem State.regs_reachSched (t : Nat) : (s.reachSched t).regs = s.regs := by
  unfold State.reachSched State.reachTime State.elapse
  split_ifs <;> rfl

theorem State.ts_reachSched (t : Nat) : (s.reachSched t).ts = s.ts := by
  unfold State.reachSched State.reachTime State.elapse
  split_ifs <;> rfl

/-- The tasks that a tick readies. -/
def State.dueTasks (s : State) (t : Nat) : List Nat := s.tasksListed.filter fun n =>
  (s.get (taskState n) = tDELAYED || (s.get (taskState n) = tBLOCKED && s.is (taskTimed n))) && decide (s.taskWake n ≤ t)

/-- The tasks that come late count, with their event. -/
def State.countLate (s : State) (late : List Nat) : State :=
  match late with
  | [] => s
  | n :: _ => (s.add TS_LATE.v late.length).raise pageTS0 3 INFO 0x0D06 n 0

/-- A tick at `t`. -/
def State.tickAt (s : State) (t : Nat) (late : List Nat) : State :=
  let s := (s.each ((s.dueTasks t).foldl (fun l n => s.byWake n l) []) fun s n => s.makeReady n 2).countLate late
  { s with ts := { s.ts with stepped := none, lastTick := t } }

/-- The tasks whose wake a forward step of the time has passed over. -/
def State.lateTasks (s : State) (t : Nat) : List Nat :=
  match s.ts.stepped with
  | none => []
  | some (a, b) => (s.dueTasks t).filter fun n => a < s.taskWake n && s.taskWake n ≤ b

theorem execSchedulerTick_eq : exec .schedulerTick s = .next (s.mirrorFrom
    ((s.reachSched s.tickTime).tickAt s.tickTime ((s.reachSched s.tickTime).lateTasks s.tickTime))) := by
  show execSchedulerTick s = _
  unfold execSchedulerTick
  refine mirrored_next ?_
  refine congrArg Host.Outcome.next ?_
  unfold State.tickAt State.lateTasks State.countLate State.dueTasks
  rfl

/-- The order in which a tick readies the tasks. -/
def State.readyOrder (s : State) (t : Nat) : List Nat := (s.dueTasks t).foldl (fun l n => s.byWake n l) []

theorem State.mem_readyOrder (t n : Nat) : n ∈ s.readyOrder t ↔ n ∈ s.dueTasks t :=
  (s.mem_wakeOrder n (s.dueTasks t) []).trans (by simp)

theorem State.get_countLate (late : List Nat) {f : Field} (task : inTaskTable f.off) :
    (s.countLate late).get f = s.get f := by
  unfold State.countLate
  split
  · rfl
  · refine (State.get_raiseTs0 _ 3 INFO 0x0D06 _ 0 task).trans (State.get_put_off _ _ ?_)
    simp only [inTaskTable] at task
    simp only [TS_LATE.v, TS_LATE.off]
    omega

theorem State.get_tickAt (t : Nat) (late : List Nat) {f : Field} (task : inTaskTable f.off) :
    (s.tickAt t late).get f = (s.each (s.readyOrder t) fun s n => s.makeReady n 2).get f := by
  refine (State.get_of_regs ?_ f).trans (State.get_countLate _ late task)
  unfold State.tickAt State.readyOrder
  dsimp only

theorem State.ready_tickAt {t n : Nat} (due : n ∈ s.dueTasks t) (late : List Nat) :
    (s.tickAt t late).get (taskState n) = 3 ∧ (s.tickAt t late).get (taskReason n) = 2 := by
  obtain ⟨state, reason⟩ := taskFields_in n
  rw [s.get_tickAt t late state, s.get_tickAt t late reason]
  have settled := State.each_settles (fun t => (t.get (taskState n), t.get (taskReason n))) s
    (f := fun s n => s.makeReady n 2) (b := (3, 2)) ((s.mem_readyOrder t n).mpr due)
    (fun u => Prod.ext (u.state_makeReady n 2) (u.reason_makeReady n (by decide)))
    fun x _ other u => Prod.ext (u.get_makeReady_other (Ne.symm other) 2).1 (u.get_makeReady_other (Ne.symm other) 2).2
  exact Prod.ext_iff.mp settled

theorem State.kept_tickAt {t n : Nat} (early : n ∉ s.dueTasks t) (late : List Nat) :
    (s.tickAt t late).get (taskState n) = s.get (taskState n) := by
  rw [s.get_tickAt t late (taskFields_in n).1]
  exact State.each_keeps_of_mem (fun t => t.get (taskState n)) s fun x mem u =>
    (u.get_makeReady_other (ne_of_mem_of_not_mem ((s.mem_readyOrder t x).mp mem) early).symm 2).1

theorem State.dueTasks_of_regs {s u : State} (regs : u.regs = s.regs) (t : Nat) : u.dueTasks t = s.dueTasks t := by
  have get (f : Field) : u.get f = s.get f := State.get_of_regs regs f
  have wake (n : Nat) : u.taskWake n = s.taskWake n := State.getWide_of_same s fun i _ => State.word_of_regs regs _
  have listed : u.tasksListed = s.tasksListed := by rw [State.tasksListed, regs, State.tasksListed]
  unfold State.dueTasks
  rw [listed]
  refine List.filter_congr fun n _ => ?_
  rw [State.is, State.is, get, get, wake]

theorem State.mem_dueTasks_reachSched {n t r : Nat} : n ∈ (s.reachSched r).dueTasks t ↔ n ∈ s.dueTasks t := by
  rw [State.dueTasks_of_regs (s.regs_reachSched r)]

theorem State.ts_tickAt (t : Nat) (late : List Nat) :
    (s.tickAt t late).ts.lastTick = t ∧ (s.tickAt t late).ts.stepped = none := by
  unfold State.tickAt
  exact ⟨rfl, rfl⟩

end

/-! ### The commands -/

theorem next_mirrored (s : State) {t u : State} (same : t = u) :
    (Host.Outcome.next (s.mirrorFrom t) : Out) = .next (s.mirrorFrom u) := congrArg (fun t => Host.Outcome.next (s.mirrorFrom t)) same

section
variable (s : State) (v : Word)

theorem exec_taskStart : exec (.taskStart v) s = .next (s.mirrorFrom (s.tsCmd v)) := by
  show execTaskStart v s = _
  unfold execTaskStart
  exact mirrored_eq (g := fun s => s.tsCmd v) rfl

theorem exec_taskSuspend : exec (.taskSuspend v) s = .next (s.mirrorFrom (s.tsCmd v)) := by
  show execTaskSuspend v s = _
  unfold execTaskSuspend
  exact mirrored_eq (g := fun s => s.tsCmd v) rfl

theorem exec_taskDelete : exec (.taskDelete v) s = .next (s.mirrorFrom (s.tsCmd v)) := by
  show execTaskDelete v s = _
  unfold execTaskDelete
  exact mirrored_eq (g := fun s => s.tsCmd v) rfl

/-- The four rows of TS_DONE. -/
theorem exec_tsDone {c : Instr} (row : c = .taskWait v ∨ c = .taskDelay v ∨ c = .taskYield v ∨ c = .taskExit v) :
    exec c s = .next (s.mirrorFrom (s.tsDone v)) := by
  have done : mirrored (fun s => .next (s.tsDone v)) s = .next (s.mirrorFrom (s.tsDone v)) :=
    mirrored_eq (g := fun s => s.tsDone v) rfl
  rcases row with rfl | rfl | rfl | rfl
  · exact done
  · exact done
  · exact done
  · exact done

theorem exec_taskTableWrite (t : Fin 4096) (w : Fin 8) :
    exec (.taskTableWrite t w v) s = .next (s.mirrorFrom (s.writeTask t w v)) := by
  show execTaskTableWrite t w v s = _
  unfold execTaskTableWrite
  exact mirrored_eq (g := fun s => s.writeTask t w v) rfl

end

/-- Settles O53: commands and TS_DONE by their operation and the task's state, and a tick task by task. -/
theorem taskCommandsComplete : Obligations.TaskCommandsComplete := by
  unfold Obligations.TaskCommandsComplete
  refine ⟨fun s v => ⟨fun op => ⟨fun idle target => ⟨fun mask => ?onFlags, fun mask timed => ?onTime, fun mask timed => ?atOnce⟩,
        fun bad => ?noStart⟩,
      fun op => ⟨fun ready => ?suspendReady, fun waits => ?suspendWaiting, fun runs free => ?suspendRunning, fun bad => ?noSuspend⟩,
      fun op => ⟨fun rests => ?delete, fun bad => ?noDelete⟩⟩,
    fun s v => ⟨fun runs free => ⟨fun op => ?wait, fun op => ?delay, fun op => ?yield_, fun op => ?exit⟩, fun c done => ?ends⟩,
    fun s t why ht fits => ⟨s.state_makeReady t why, s.reason_makeReady t fits, s.readyList_makeReady t why⟩,
    fun s g t hg ht => s.state_dispatch hg t, fun s t w v active => ⟨fun idle other => ?store, fun bad => ?refused⟩,
    fun s t v room => ?post, fun s t v rest posts ht => ⟨fun free => ?dropped, fun blocked holds => ?holds, fun used still => ?flags⟩,
    fun s => ?tick⟩
  case onFlags =>
    exact (exec_taskStart s v).trans (next_mirrored s ((State.tsCmd_starts op idle target).trans (congrArg State.tsOk (if_pos mask))))
  case onTime =>
    exact (exec_taskStart s v).trans (next_mirrored s ((State.tsCmd_starts op idle target).trans
      (congrArg State.tsOk ((if_neg (not_not_intro mask)).trans (if_pos timed)))))
  case atOnce =>
    exact (exec_taskStart s v).trans (next_mirrored s ((State.tsCmd_starts op idle target).trans
      (congrArg State.tsOk ((if_neg (not_not_intro mask)).trans (if_neg (ne_true_of_eq_false timed))))))
  case noStart => exact (exec_taskStart s v).trans (next_mirrored s (State.tsCmd_startRefused op bad))
  case suspendReady => exact (exec_taskSuspend s v).trans (next_mirrored s ((s.tsCmd_suspend op).trans (if_pos ready)))
  case suspendWaiting => exact (exec_taskSuspend s v).trans (next_mirrored s (State.tsCmd_suspendsWaiting op waits))
  case suspendRunning => exact (exec_taskSuspend s v).trans (next_mirrored s (State.tsCmd_suspendsRunning op runs free))
  case noSuspend => exact (exec_taskSuspend s v).trans (next_mirrored s (State.tsCmd_suspendRefused op bad))
  case delete => exact (exec_taskDelete s v).trans (next_mirrored s ((s.tsCmd_delete op).trans (if_pos rests)))
  case noDelete => exact (exec_taskDelete s v).trans (next_mirrored s ((s.tsCmd_delete op).trans (if_neg bad)))
  case wait => exact (exec_tsDone s v (.inl rfl)).trans (next_mirrored s (State.tsDone_running runs free op))
  case delay => exact (exec_tsDone s v (.inr (.inl rfl))).trans (next_mirrored s (State.tsDone_running runs free op))
  case yield_ => exact (exec_tsDone s v (.inr (.inr (.inl rfl)))).trans (next_mirrored s (State.tsDone_running runs free op))
  case exit => exact (exec_tsDone s v (.inr (.inr (.inr rfl)))).trans (next_mirrored s (State.tsDone_running runs free op))
  case ends =>
    have run {w : State} (ended : s.tsDone v = w) : exec c s = .next (s.mirrorFrom w) :=
      (exec_tsDone s v done).trans (next_mirrored s ended)
    exact ⟨fun runs named => ⟨_, s.state_suspendRan _, s.suspend_suspendRan _, run (State.tsDone_suspended runs named)⟩,
      fun still => run (State.tsDone_bad still)⟩
  case store =>
    exact ⟨s.storeTask t w v, rfl, s.state_storeTask t v w.isLt,
      (exec_taskTableWrite s v t w).trans (next_mirrored s (State.writeTask_idle active idle other))⟩
  case refused => exact (exec_taskTableWrite s v t w).trans (next_mirrored s (State.writeTask_refused active bad))
  case post => exact congrArg Host.Outcome.next (if_neg (Nat.not_le.mpr room))
  case dropped => exact (execTaskPostApply_eq posts).trans (next_mirrored s (if_pos free))
  case holds =>
    have used : ¬ s.get (taskState t) = 0 := by omega
    have ready : (decide (s.get (taskState t) = 1) && (s.postFlags t v rest).taskHolds t) = true := by
      rw [decide_eq_true blocked]
      exact holds
    exact (execTaskPostApply_eq posts).trans (next_mirrored s ((if_neg used).trans (if_pos ready)))
  case flags =>
    have stays : ¬ (decide (s.get (taskState t) = 1) && (s.postFlags t v rest).taskHolds t) = true := by
      rcases still with unblocked | waits
      · simp [unblocked]
      · have waits' : (s.postFlags t v rest).taskHolds t = false := waits
        simp [waits']
    exact (execTaskPostApply_eq posts).trans (next_mirrored s ((if_neg used).trans (if_neg stays)))
  case tick =>
    refine ⟨_, execSchedulerTick_eq s, (State.ts_tickAt _ _ _).1, (State.ts_tickAt _ _ _).2, fun n hn waits come => ?_,
      fun n hn early => ?_⟩
    · refine State.ready_tickAt _ (s.mem_dueTasks_reachSched.mpr (List.mem_filter.mpr ⟨s.mem_tasksListed hn (by omega), ?_⟩)) _
      rcases waits with delayed | ⟨blocked, timed⟩
      · simp [delayed, come, tDELAYED]
      · simp [blocked, timed, come, tBLOCKED]
    · have notDue : n ∉ (s.reachSched s.tickTime).dueTasks s.tickTime := fun due => by
        have reached := (List.mem_filter.mp (s.mem_dueTasks_reachSched.mp due)).2
        simp only [Bool.and_eq_true, decide_eq_true_eq] at reached
        omega
      exact (State.kept_tickAt _ notDue _).trans (State.get_of_regs (s.regs_reachSched _) _)

end Sys2Proof.Machine
end

section
/-! Dispatch and its statistics (R422 to R425). -/

namespace Sys2Proof.Machine

open Reg

/-! ### Dispatch (R422, R423) -/

section
variable {s : State}

theorem exec_tsNext_head {c : Fin 8} {t : Nat} {rest : List Nat} (active : s.standby = false)
    (head : s.readyList c = t :: rest) (idle : s.runningOn c = []) :
    let w := BitVec.ofNat 32 (2 ^ 31 + s.get (taskPrio t) * 2 ^ 23 + s.get (taskReason t) * 2 ^ 12 + t)
    exec (.tsNext c) s = .next (s.mirrorFrom (((s.dispatch c t).setWord (TS_NEXT.off c) w).answerWord w)) := by
  show execTsNext c s = _
  unfold execTsNext
  refine mirrored_next ?_
  simp only [active, Bool.false_eq_true, if_false, head, idle]

theorem exec_tsNext_none {c : Fin 8} (none_ : s.readyList c = [] ∨ s.runningOn c ≠ [] ∨ s.standby = true) :
    exec (.tsNext c) s = .next (s.mirrorFrom ((s.setWord (TS_NEXT.off c) 0).answerWord 0)) := by
  show execTsNext c s = _
  unfold execTsNext
  refine mirrored_next ?_
  split
  · next t rest list running =>
    rcases none_ with empty | busy | standby
    · simp [empty] at list
    · exact absurd running busy
    · simp [standby] at list
  · rfl

/-- A dispatch that the NoC drops, before its task returns. -/
def State.droppedAt (s : State) (a t : Nat) : State :=
  let got := s.fresh 4
  (got.2.count (NOC_INI_PDROP.v (iniBlock .ts))).iniLast .ts got.1.toNat t ((got.2.destPort 4 a).getD (iniPort .ts)) a

theorem State.ts_droppedAt (a t : Nat) : (s.droppedAt a t).ts = s.ts := by
  unfold State.droppedAt State.iniLast
  simp only [State.put_ts, State.count_ts, State.fresh_ts]

theorem exec_slotDispatch_head {k : Fin 64} {t a : Nat} {rest : List Nat} (head : s.readyList (slotTarget k) = t :: rest)
    (addr : s.getWide (TS_SLOT_ADDR.off k 0) 2 % 2 ^ 56 = a)
    (active : s.standby = false) (en : s.is (TS_SLOT_CFG.en k) = true) (quay : a / 2 ^ 52 = 2) (free : s.slotHeld k = false)
    (room : (s.runningOn (slotTarget k)).length < s.get (TS_SLOT_CFG.depth k)) (dropped : Bool) :
    exec (.slotDispatch k dropped) s = .next (s.mirrorFrom (
      if dropped then ((s.dispatch (slotTarget k) t).droppedAt a t).dispatchDropped t a
      else (s.dispatch (slotTarget k) t).issue .ts (writeReq .wrp a (s.slotRecord t) 1 (BitVec.ofNat 12 t)))) := by
  have goes : ¬ (s.standby || !s.is (TS_SLOT_CFG.en k) || decide (a / 2 ^ 52 ≠ 2) || s.slotHeld k
      || decide (s.get (TS_SLOT_CFG.depth k) ≤ (s.runningOn (slotTarget k)).length)) = true := by
    have full : ¬ s.get (TS_SLOT_CFG.depth k) ≤ (s.runningOn (slotTarget k)).length := Nat.not_le.mpr room
    rw [active, en, free, decide_eq_false (not_not_intro quay), decide_eq_false full]
    decide
  show execSlotDispatch k dropped s = _
  unfold execSlotDispatch
  refine mirrored_next ?_
  simp only [head, addr]
  rw [if_neg goes]
  unfold State.droppedAt
  cases dropped with
  | false => exact if_neg Bool.false_ne_true
  | true => exact if_pos rfl

end

/-! ### Loads and histograms (R425) -/

section
variable (s : State)

theorem tsLoad_inj {g h : Nat} (same : TS_LOAD.off g = TS_LOAD.off h) : g = h := by
  simp only [TS_LOAD.off] at same
  omega

/-- A target's load is stored. -/
def State.showLoad (s : State) (g load insuff : Nat) : State := (s.put (TS_LOAD.load g) load).put (TS_LOAD.insuff g) insuff

theorem State.load_showLoad (g : Nat) {load insuff : Nat} (fits : load < 2 ^ 16) (bit : insuff < 2) :
    (s.showLoad g load insuff).get (TS_LOAD.load g) = load ∧ (s.showLoad g load insuff).get (TS_LOAD.insuff g) = insuff := by
  constructor
  · refine (State.get_put_apart _ (f := TS_LOAD.insuff g) (g := TS_LOAD.load g) _ (by simp [TS_LOAD.load])
      (.inl (by simp [TS_LOAD.load, TS_LOAD.insuff]))).trans ?_
    exact (s.get_put_same _ (by simp [TS_LOAD.load])).trans (Nat.mod_eq_of_lt fits)
  · exact (State.get_put_same _ _ (by simp [TS_LOAD.insuff])).trans (Nat.mod_eq_of_lt bit)

theorem State.word_showLoad_ne {g o : Nat} (load insuff : Nat) (other : o ≠ TS_LOAD.off g) :
    (s.showLoad g load insuff).word o = s.word o :=
  (State.word_put_ne _ (f := TS_LOAD.insuff g) _ other).trans (s.word_put_ne (f := TS_LOAD.load g) _ other)

/-- What one round settles while an invariant holds, and no other touches, holds after all of them. -/
theorem State.each_settles_of {α β : Type} (g : State → β) {l : List α} {f : State → α → State} {P : State → Prop}
    {s : State} (hP : P s) (keeps : ∀ t x, P t → P (f t x)) {a : α} {b : β} (ha : a ∈ l) (sets : ∀ t, P t → g (f t a) = b)
    (others : ∀ x ∈ l, x ≠ a → ∀ t, g (f t x) = g t) : g (s.each l f) = b := by
  induction l generalizing s with
  | nil => cases ha
  | cons x l ih =>
    rw [List.forall_mem_cons] at others
    by_cases later : a ∈ l
    · exact ih (keeps s x hP) later others.2
    · obtain rfl : a = x := (List.mem_cons.1 ha).resolve_right later
      have rest : g ((f s a).each l f) = g (f s a) :=
        State.each_keeps_of_mem g _ fun x hx => others.2 x hx (ne_of_mem_of_not_mem hx later)
      exact rest.trans (sets s hP)

/-- The load of a target over a window of `w` ns that ends at `t`. -/
def State.loadOf (s : State) (w t g : Nat) : Nat :=
  min ((s.ts.busy.get natDefault g
    + (if (s.runningOn g).isEmpty then 0 else t - max (s.ts.busyFrom.get natDefault g) s.ts.winStart)) * 65536 / w) 65535

/-- The window's end, with the loads that it shows. -/
def State.showLoads (s : State) (w t : Nat) : State :=
  s.each (List.range 72) fun s g => s.showLoad g (s.loadOf w t g) 0

def State.restartWindow (s : State) (t : Nat) : State := { s with ts := { s.ts with winStart := t, busy := [] } }

theorem exec_loadWindowEnd : exec .loadWindowEnd s
    = .next (((s.reachSched (s.ts.winStart + s.get TS_WIN.v * 1000000)).showLoads (s.get TS_WIN.v * 1000000)
        (s.reachSched (s.ts.winStart + s.get TS_WIN.v * 1000000)).schedTime).restartWindow
          (s.reachSched (s.ts.winStart + s.get TS_WIN.v * 1000000)).schedTime) := by
  show execLoadWindowEnd s = _
  unfold execLoadWindowEnd
  rfl

theorem State.get_restartWindow (t : Nat) (f : Field) : (s.restartWindow t).get f = s.get f :=
  State.get_of_regs (by unfold State.restartWindow; dsimp only) f

theorem State.ts_restartWindow {u : State} (same : u.ts = s.ts) (t : Nat) :
    (u.restartWindow t).ts = { s.ts with winStart := t, busy := [] } := by
  unfold State.restartWindow
  rw [same]

theorem State.ts_showLoads (w t : Nat) : (s.showLoads w t).ts = s.ts :=
  State.each_keeps State.ts s _ _ fun _ _ => rfl

theorem State.load_showLoads (w t : Nat) {g : Nat} (hg : g < 72) (idle : s.runningOn g = []) :
    (s.showLoads w t).get (TS_LOAD.insuff g) = 0
      ∧ (s.showLoads w t).get (TS_LOAD.load g) = min (s.ts.busy.get natDefault g * 65536 / w) 65535 := by
  have shown := State.each_settles_of (fun t => (t.get (TS_LOAD.insuff g), t.get (TS_LOAD.load g)))
    (f := fun s g => s.showLoad g (s.loadOf w t g) 0) (P := fun u => u.ts = s.ts) (s := s) rfl (fun _ _ same => same)
    (List.mem_range.mpr hg) (b := (0, min (s.ts.busy.get natDefault g * 65536 / w) 65535)) (fun u same => ?_)
    fun x _ other u => ?_
  · exact Prod.ext_iff.mp shown
  · have load : u.loadOf w t g = min (s.ts.busy.get natDefault g * 65536 / w) 65535 := by
      simp [State.loadOf, State.runningOn_of_ts same, same, idle]
    obtain ⟨first, second⟩ := u.load_showLoad g (load := u.loadOf w t g) (insuff := 0)
      (Nat.lt_of_le_of_lt (Nat.min_le_right _ _) (by decide)) (by decide)
    exact Prod.ext second (first.trans load)
  · have word := u.word_showLoad_ne (u.loadOf w t x) 0 (fun same => other (tsLoad_inj same).symm : TS_LOAD.off g ≠ TS_LOAD.off x)
    exact Prod.ext (congrArg (bitsOf · 31 31) word) (congrArg (bitsOf · 15 0) word)

end

/-! ### The clearing (R425) -/

section
variable (s : State) {v : Word}

/-- No target has a load. -/
def State.noLoads (s : State) : State := s.each (List.range 72) fun s g => s.showLoad g 0 1

def State.clearHist (s : State) : State :=
  { s with regs := s.regs.eraseRange (TS_HIST.off 0 0) (TS_HIST.off 72 0)
           ts := { s.ts with winStart := s.schedTime, busy := [] } }

theorem exec_statClear {s : State} (clear : bit v 31 = true) :
    exec (.statClear v) s = .next (s.write TS_CTRL.off v).noLoads.clearHist := by
  have goes : ¬ (!bit v 31) = true := by simp [clear]
  show execStatClear v s = _
  unfold execStatClear State.writeTsCtrl
  dsimp only
  rw [if_neg goes]
  rfl

theorem State.load_noLoads {g : Nat} (hg : g < 72) :
    s.noLoads.get (TS_LOAD.load g) = 0 ∧ s.noLoads.get (TS_LOAD.insuff g) = 1 := by
  have other {x : Nat} (ne : x ≠ g) (u : State) : (u.showLoad x 0 1).word (TS_LOAD.off g) = u.word (TS_LOAD.off g) :=
    u.word_showLoad_ne 0 1 fun same => ne (tsLoad_inj same).symm
  have own (u : State) := u.load_showLoad g (load := 0) (insuff := 1) (by decide) (by decide)
  unfold State.noLoads
  constructor
  · exact State.each_settles (fun t => t.get (TS_LOAD.load g)) s (List.mem_range.mpr hg) (fun u => (own u).1)
      fun x _ ne u => congrArg (bitsOf · 15 0) (other ne u)
  · exact State.each_settles (fun t => t.get (TS_LOAD.insuff g)) s (List.mem_range.mpr hg) (fun u => (own u).2)
      fun x _ ne u => congrArg (bitsOf · 31 31) (other ne u)

theorem State.word_noLoads {o : Nat} (out : o < 0x321000 ∨ 0x322000 ≤ o) : s.noLoads.word o = s.word o :=
  State.each_keeps_of_mem (fun t => t.word o) s fun g hg t => t.word_showLoad_ne 0 1 (by
    have small := List.mem_range.mp hg
    simp only [TS_LOAD.off]
    omega)

theorem State.word_clearHist (o : Nat) : s.clearHist.word o
    = if TS_HIST.off 0 0 ≤ o ∧ o < TS_HIST.off 72 0 then resetWord o else s.word o :=
  KMap.get_eraseRange resetWord s.regs _ _ o

theorem resetWord_hist : ∀ g < 72, ∀ b < 8, resetWord (TS_HIST.off g b) = 0 := by decide +kernel

theorem State.schedTime_of_same {s t : State} (state : t.word TH_STATUS.off = s.word TH_STATUS.off) (now : t.now = s.now)
    (th : t.th = s.th) (clk : t.clk = s.clk) (ts : t.ts = s.ts) : t.schedTime = s.schedTime := by
  have valid : t.timeValid = s.timeValid := congrArg (fun w => decide (bitsOf w 31 29 ≠ 0)) state
  have aon : t.aonTime = s.aonTime := by rw [State.aonTime, clk, now, State.aonTime]
  rw [State.schedTime, valid, th, ts, aon, State.schedTime]

theorem State.ts_statClear : (s.write TS_CTRL.off v).noLoads.clearHist.ts
    = { s.ts with winStart := s.schedTime, busy := [] } := by
  have only : s.OnlyRegs (s.write TS_CTRL.off v).noLoads :=
    State.OnlyRegs.trans (s.onlyRegs_setWord _ _) (State.onlyRegs_each _ _ _ fun t g => rfl)
  have time : (s.write TS_CTRL.off v).noLoads.schedTime = s.schedTime := by
    refine State.schedTime_of_same ?_ (by rw [only]) (by rw [only]) (by rw [only]) (by rw [only])
    exact (State.word_noLoads _ (.inl (by decide))).trans (s.sameRegs_write _ v _ (by decide))
  have ts : (s.write TS_CTRL.off v).noLoads.ts = s.ts := by rw [only]
  unfold State.clearHist
  rw [time, ts]

end

/-- Settles O54: a dispatch and a return by what they make of the two lists, and the statistics target by target. -/
theorem dispatchCommandsComplete : Obligations.DispatchCommandsComplete := by
  unfold Obligations.DispatchCommandsComplete
  refine ⟨fun s c t rest active head idle => ⟨exec_tsNext_head active head idle, fun ht target => ?lists⟩,
    fun s c none_ => exec_tsNext_none none_, fun s k t rest head => ?slot, fun s t ht running => ?returned,
    fun s => ⟨_, exec_loadWindowEnd s, ?windowTs, fun g hg idle => ?loads⟩,
    fun s v clear => ⟨_, exec_statClear clear, s.ts_statClear, fun g hg => ?noLoads, fun g hg b hb => ?hist⟩⟩
  case lists =>
    have target' : c.val = s.get (taskTarget t) := target.symm
    rw [target'] at head idle ⊢
    obtain ⟨ready, running⟩ := s.lists_dispatch head idle
    exact ⟨s.state_dispatch (by omega) t, ready, running⟩
  case slot =>
    intro a active en quay free room
    exact ⟨(exec_slotDispatch_head head rfl active en quay free room false).trans (next_mirrored s (if_neg Bool.false_ne_true)),
      _, State.ts_droppedAt (s := s.dispatch (slotTarget k) t) a t,
      (exec_slotDispatch_head head rfl active en quay free room true).trans (next_mirrored s (if_pos rfl))⟩
  case returned => exact ⟨State.state_returnOne running, State.lists_returnOne running⟩
  case windowTs => exact s.ts_restartWindow ((State.ts_showLoads _ _ _).trans (s.ts_reachSched _)) _
  case loads =>
    have ts := s.ts_reachSched (s.ts.winStart + s.get TS_WIN.v * 1000000)
    have shown := State.load_showLoads _ (s.get TS_WIN.v * 1000000)
      (s.reachSched (s.ts.winStart + s.get TS_WIN.v * 1000000)).schedTime hg ((State.runningOn_of_ts ts g).trans idle)
    rw [ts] at shown
    rw [State.get_restartWindow, State.get_restartWindow]
    exact shown
  case noLoads =>
    have kept {f : Field} (out : f.off < 0x322100) : ∀ u : State, u.clearHist.get f = u.get f := fun u =>
      congrArg (bitsOf · _ _) ((u.word_clearHist _).trans (if_neg (by simp only [TS_HIST.off]; omega)))
    obtain ⟨load, insuff⟩ := (s.write TS_CTRL.off v).load_noLoads hg
    exact ⟨(kept (f := TS_LOAD.load g) (by simp only [TS_LOAD.load, TS_LOAD.off]; omega) _).trans load,
      (kept (f := TS_LOAD.insuff g) (by simp only [TS_LOAD.insuff, TS_LOAD.off]; omega) _).trans insuff⟩
  case hist =>
    have erased := (State.word_clearHist (s.write TS_CTRL.off v).noLoads (TS_HIST.off g b)).trans
      (if_pos (by simp only [TS_HIST.off]; omega))
    exact (congrArg (bitsOf · 31 0) (erased.trans (resetWord_hist g hg b hb))).trans (by decide)

end Sys2Proof.Machine
end

section
/-! The serial lanes: their registers, their lock and their events (R434 to R440, R454). -/

namespace Sys2Proof.Machine

open Reg

/-! ### Where the lanes' registers lie -/

/-- An offset beyond the registers that an event of a page stores. -/
def pastEvents (o : Nat) : Prop := 0x100 ≤ o % 0x1000

theorem pastEvents_stat (l : Nat) : pastEvents (XCV_LN_STAT.off l) := by
  simp only [pastEvents, XCV_LN_STAT.off]
  omega

theorem pastEvents_cfg (l : Nat) : pastEvents (XCV_LN_CFG.off l) := by
  simp only [pastEvents, XCV_LN_CFG.off]
  omega

theorem pastEvents_maint (l : Nat) : pastEvents (XCV_LN_MAINT.off l) := by
  simp only [pastEvents, XCV_LN_MAINT.off]
  omega

theorem pastEvents_fault (l : Nat) : pastEvents (XCV_LN_FAULT.off l) := by
  simp only [pastEvents, XCV_LN_FAULT.off]
  omega

theorem pastEvents_prbs (l : Nat) : pastEvents (XCV_LN_PRBS.off l) := by
  simp only [pastEvents, XCV_LN_PRBS.off]
  omega

theorem pastEvents_unc (l : Nat) : pastEvents (XCV_LN_FEC_UNC.off l) := by
  simp only [pastEvents, XCV_LN_FEC_UNC.off]
  omega

theorem pastEvents_ebuf (l : Nat) : pastEvents (XCV_LN_EBUF.off l) := by
  simp only [pastEvents, XCV_LN_EBUF.off]
  omega

theorem laneStat_inj {l m : Nat} (same : XCV_LN_STAT.off l = XCV_LN_STAT.off m) : l = m := by
  simp only [XCV_LN_STAT.off] at same
  omega

/-- The status register of a lane is no other register of any lane. -/
theorem laneStat_apart (l m : Nat) : XCV_LN_CFG.off l ≠ XCV_LN_STAT.off m ∧ XCV_LN_GRP.off l ≠ XCV_LN_STAT.off m
    ∧ XCV_LN_MAINT.off l ≠ XCV_LN_STAT.off m ∧ XCV_LN_FAULT.off l ≠ XCV_LN_STAT.off m
    ∧ XCV_LN_PRBS.off l ≠ XCV_LN_STAT.off m ∧ XCV_LN_FEC_UNC.off l ≠ XCV_LN_STAT.off m
    ∧ XCV_LN_HDRERR.off l ≠ XCV_LN_STAT.off m ∧ XCV_LN_EBUF.off l ≠ XCV_LN_STAT.off m := by
  simp only [XCV_LN_CFG.off, XCV_LN_GRP.off, XCV_LN_MAINT.off, XCV_LN_FAULT.off, XCV_LN_PRBS.off, XCV_LN_FEC_UNC.off,
    XCV_LN_HDRERR.off, XCV_LN_EBUF.off, XCV_LN_STAT.off]
  omega

/-! ### Lanes and groups -/

section
variable (s : State)

theorem State.lane_setLane (l k : Nat) (v : LaneState) : (s.setLane l v).lane k = if k = l then v else s.lane k :=
  KMap.get_set ..

@[simp] theorem State.lane_setLane_same (l : Nat) (v : LaneState) : (s.setLane l v).lane l = v := KMap.get_set_same ..

theorem State.lane_setLane_ne {l k : Nat} (v : LaneState) (other : k ≠ l) : (s.setLane l v).lane k = s.lane k :=
  KMap.get_set_ne _ _ _ other

theorem State.lane_of_xcv {s t : State} (same : t.xcv = s.xcv) (l : Nat) : t.lane l = s.lane l := by
  rw [State.lane, same, State.lane]

@[simp] theorem State.lane_put (f : Field) (v l : Nat) : (s.put f v).lane l = s.lane l := rfl
@[simp] theorem State.group_put (f : Field) (v g : Nat) : (s.put f v).group g = s.group g := rfl
@[simp] theorem State.get_setLane (l : Nat) (v : LaneState) (f : Field) : (s.setLane l v).get f = s.get f := rfl
@[simp] theorem State.group_setGroup_same (g : Nat) (v : LaneGroup) : (s.setGroup g v).group g = v := KMap.get_set_same ..

@[simp] theorem State.lane_laneEvent (l n : Nat) (cls : BitVec 2) (code k : Nat) :
    (s.laneEvent l n cls code).lane k = s.lane k := State.lane_of_xcv (State.raise_xcv _ _ _ _ _ _ _) k

theorem State.word_laneEvent (l n : Nat) (cls : BitVec 2) (code : Nat) {o : Nat} (past : pastEvents o) :
    (s.laneEvent l n cls code).word o = s.word o := by
  refine s.word_raise_ne _ _ _ _ _ _ ?_
  simp only [pastEvents] at past
  simp only [pageXCV, pageFLT, EVT.off, EVT_CNT.off, ERR_INFO0.off, ERR_INFO1.off, FLT_DROP.off, List.mem_cons,
    List.not_mem_nil, or_false]
  omega

theorem State.get_laneEvent (l n : Nat) (cls : BitVec 2) (code : Nat) {f : Field} (past : pastEvents f.off) :
    (s.laneEvent l n cls code).get f = s.get f := congrArg (bitsOf · _ _) (s.word_laneEvent l n cls code past)

/-- The leader of a lane follows from the groups' counts. -/
theorem State.leaderOf_of_counts {s t : State} (counts : ∀ g, t.get (XCV_LN_GRP.count g) = s.get (XCV_LN_GRP.count g)) (l : Nat) :
    t.leaderOf l = s.leaderOf l := by
  simp only [State.leaderOf, counts]

/-! ### Lock (R436, R437) -/

theorem State.get_add_same {f : Field} (n : Nat) (h : f.hi < 32) :
    (s.add f n).get f = min (s.get f + n) (2 ^ (f.hi + 1 - f.lo) - 1) := by
  have := Nat.two_pow_pos (f.hi + 1 - f.lo)
  rw [State.add, s.get_put_same _ h]
  exact Nat.mod_eq_of_lt (by omega)

theorem State.get_add_off (n : Nat) {f g : Field} (other : g.off ≠ f.off) : (s.add f n).get g = s.get g :=
  s.get_put_off _ other

theorem State.lane_dropLock (l k : Nat) : (s.dropLock l).lane k = if k = l
    then { s.lane l with commaAt := none, fecGood := 0, fecBad := 0, rxWait := false, txWait := false } else s.lane k :=
  s.lane_setLane l k _

theorem State.lane_dropLock_same (l : Nat) : (s.dropLock l).lane l
    = { s.lane l with commaAt := none, fecGood := 0, fecBad := 0, rxWait := false, txWait := false } :=
  s.lane_setLane_same l _

theorem State.get_dropLock (l : Nat) {f : Field} (apart : f.off ≠ XCV_LN_STAT.off l ∨ f.hi < 28 ∨ 29 < f.lo ∧ f.hi < 32) :
    (s.dropLock l).get f = s.get f := by
  have second (u : State) : (u.put (XCV_LN_STAT.fec_locked l) 0).get f = u.get f := by
    rcases apart with off | low | high
    · exact u.get_put_off 0 off
    · exact u.get_put_apart 0 (by omega) (.inl low)
    · exact u.get_put_apart 0 high.2 (.inr (by simp only [XCV_LN_STAT.fec_locked]; omega))
  refine (second _).trans ?_
  rcases apart with off | low | high
  · exact State.get_put_off _ 0 off
  · exact State.get_put_apart _ (f := XCV_LN_STAT.locked l) 0 (by omega) (.inl (by simp only [XCV_LN_STAT.locked]; omega))
  · exact State.get_put_apart _ (f := XCV_LN_STAT.locked l) 0 high.2 (.inr (by simp only [XCV_LN_STAT.locked]; omega))

theorem State.locked_dropLock (l : Nat) : (s.dropLock l).get (XCV_LN_STAT.locked l) = 0 :=
  (State.get_put_apart _ (f := XCV_LN_STAT.fec_locked l) 0 (by simp [XCV_LN_STAT.locked])
    (.inr (by simp [XCV_LN_STAT.locked, XCV_LN_STAT.fec_locked]))).trans
    (State.get_put_same _ 0 (by simp [XCV_LN_STAT.locked]))

theorem State.fec_dropLock (l : Nat) : (s.dropLock l).get (XCV_LN_STAT.fec_locked l) = 0 :=
  State.get_put_same _ 0 (by simp [XCV_LN_STAT.fec_locked])

theorem State.get_of_not_is {f : Field} (off : s.is f = false) : s.get f = 0 := by
  simpa [State.is] using off

theorem State.get_one_of_is {f : Field} (one : f.hi + 1 - f.lo = 1) (on : s.is f = true) : s.get f = 1 := by
  have small : s.get f < 2 ^ (f.hi + 1 - f.lo) := s.get_lt f
  rw [one] at small
  have set : s.get f ≠ 0 := by simpa [State.is] using on
  omega

theorem State.loseLock_unlocked {l : Nat} (unlocked : s.is (XCV_LN_STAT.locked l) = false) : s.loseLock l = s :=
  if_pos (by simp [unlocked])

theorem State.loseLock_locked {l : Nat} (locked : s.is (XCV_LN_STAT.locked l) = true) : s.loseLock l
    = ((s.dropLock l).put (XCV_LN_STAT.fec_locked l) (s.get (XCV_LN_STAT.fec_locked l))).laneEvent l 0 CONTAINED 0x0E07 :=
  if_neg (by simp [locked])

/-- What a loss of lock leaves. -/
theorem State.get_loseLock (l : Nat) {f : Field} (past : pastEvents f.off)
    (apart : f.off ≠ XCV_LN_STAT.off l ∨ f.hi < 28 ∨ 29 < f.lo ∧ f.hi < 32) : (s.loseLock l).get f = s.get f := by
  cases locked : s.is (XCV_LN_STAT.locked l) with
  | false => rw [s.loseLock_unlocked locked]
  | true =>
    rw [s.loseLock_locked locked, State.get_laneEvent _ _ _ _ _ past]
    refine Eq.trans ?_ (s.get_dropLock l apart)
    rcases apart with off | low | high
    · exact State.get_put_off _ _ off
    · exact State.get_put_apart _ _ (by omega) (.inl low)
    · exact State.get_put_apart _ _ high.2 (.inr (by simp only [XCV_LN_STAT.fec_locked]; omega))

theorem State.locked_loseLock (l : Nat) : (s.loseLock l).get (XCV_LN_STAT.locked l) = 0 := by
  cases locked : s.is (XCV_LN_STAT.locked l) with
  | false =>
    rw [s.loseLock_unlocked locked]
    exact s.get_of_not_is locked
  | true =>
    rw [s.loseLock_locked locked, State.get_laneEvent _ _ _ _ _ (pastEvents_stat l)]
    exact (State.get_put_apart _ (f := XCV_LN_STAT.fec_locked l) _ (by simp [XCV_LN_STAT.locked])
      (.inr (by simp [XCV_LN_STAT.locked, XCV_LN_STAT.fec_locked]))).trans (s.locked_dropLock l)

theorem State.fec_loseLock (l : Nat) :
    (s.loseLock l).get (XCV_LN_STAT.fec_locked l) = s.get (XCV_LN_STAT.fec_locked l) := by
  cases locked : s.is (XCV_LN_STAT.locked l) with
  | false => rw [s.loseLock_unlocked locked]
  | true =>
    rw [s.loseLock_locked locked, State.get_laneEvent _ _ _ _ _ (pastEvents_stat l)]
    exact (State.get_put_same _ _ (by simp [XCV_LN_STAT.fec_locked])).trans (Nat.mod_eq_of_lt (s.get_lt _))

theorem State.lane_loseLock (l : Nat) : (s.loseLock l).lane l = s.lane l ∨ (s.loseLock l).lane l
    = { s.lane l with commaAt := none, fecGood := 0, fecBad := 0, rxWait := false, txWait := false } := by
  cases locked : s.is (XCV_LN_STAT.locked l) with
  | false =>
    rw [s.loseLock_unlocked locked]
    exact .inl rfl
  | true =>
    rw [s.loseLock_locked locked, State.lane_laneEvent, State.lane_put]
    exact .inr (s.lane_dropLock_same l)

theorem State.get_gainLock (l : Nat) : (s.gainLock l).get (XCV_LN_STAT.locked l) = 1
    ∧ (s.gainLock l).get (XCV_LN_STAT.ebuf_err l) = 0 := by
  have event {f : Field} (stat : f.off = XCV_LN_STAT.off l) (u : State) :
      (u.laneEvent l 1 INFO 0x0E08).get f = u.get f := u.get_laneEvent l 1 INFO 0x0E08 (stat ▸ pastEvents_stat l)
  constructor
  · refine (event rfl _).trans ((State.get_put_apart _ (f := XCV_LN_STAT.ebuf_err l) 0 (by simp [XCV_LN_STAT.locked])
      (.inr (by simp [XCV_LN_STAT.locked, XCV_LN_STAT.ebuf_err]))).trans (State.get_put_same _ 1 (by simp [XCV_LN_STAT.locked])))
  · exact (event rfl _).trans (State.get_put_same _ 0 (by simp [XCV_LN_STAT.ebuf_err]))

theorem State.lane_gainLock (l : Nat) : (s.gainLock l).lane l
    = { s.lane l with rxWait := s.is (XCV_LN_CFG.dl l), txWait := s.is (XCV_LN_CFG.dl l) } :=
  (State.lane_laneEvent _ _ _ _ _ _).trans (s.lane_setLane_same l _)

end

end Sys2Proof.Machine
end

section
/-! PLLs, configurations, power states and lock of the serial lanes (R431 to R440, R446). -/

namespace Sys2Proof.Machine

open Reg

/-! ### What a lane's configuration goes through -/

section
variable (s : State)

theorem State.word_dropLock (l : Nat) {o : Nat} (other : o ≠ XCV_LN_STAT.off l) : (s.dropLock l).word o = s.word o :=
  (State.word_put_ne _ (f := XCV_LN_STAT.fec_locked l) 0 other).trans (State.word_put_ne _ (f := XCV_LN_STAT.locked l) 0 other)

/-- A lane that loses lock keeps the power states that it is to take. -/
theorem State.moves_dropLock (l : Nat) :
    ((s.dropLock l).lane l).dest = (s.lane l).dest ∧ ((s.dropLock l).lane l).want = (s.lane l).want := by
  rw [s.lane_dropLock_same]
  exact ⟨rfl, rfl⟩

theorem State.regs_requestPstate (l p : Nat) : (s.requestPstate l p).regs = s.regs := by
  unfold State.requestPstate
  dsimp only
  split_ifs <;> rfl

theorem qpllLocked_off (q b : Nat) : (qpllLocked q b).off = XCV_Q_STAT.off q := by
  unfold qpllLocked
  split <;> rfl

theorem State.word_stopQplls (q : Nat) {o : Nat} (other : o ≠ XCV_Q_STAT.off q) : (s.stopQplls q).word o = s.word o :=
  State.each_keeps (fun t => t.word o) s _ _ fun t _ => State.when_keeps (fun t => t.word o) t _ _ fun u =>
    u.word_put_ne 0 (by rwa [qpllLocked_off])

theorem State.lane_stopQplls (q l : Nat) : (s.stopQplls q).lane l = s.lane l :=
  State.each_keeps (fun t => t.lane l) s _ _ fun t _ => State.when_keeps (fun t => t.lane l) t _ _ fun _ => rfl

/-- A group that is judged stores its lanes' status registers alone. -/
theorem State.word_groupCheck (g : Nat) {o : Nat} (past : pastEvents o) (other : ∀ n, o ≠ XCV_LN_STAT.off n) :
    (s.groupCheck g).word o = s.word o := by
  have untrained (u : State) : (u.untrain g).word o = u.word o := State.each_keeps (fun t => t.word o) u _ _ fun _ _ => rfl
  have runs (u : State) : (u.groupRuns g).word o = u.word o :=
    (State.word_laneEvent _ _ _ _ _ past).trans (State.word_put_ne _ (f := XCV_LN_STAT.grp_state g) 4 (other g))
  have off (u : State) : (u.groupOff g).word o = u.word o :=
    (State.word_put_ne _ (f := XCV_LN_STAT.grp_state g) 0 (other g)).trans (untrained u)
  have drops (u : State) : (u.each (u.members g) fun s l => s.dropLock l).word o = u.word o :=
    State.each_keeps (fun t => t.word o) u _ _ fun t l => t.word_dropLock l (other l)
  have starts (u : State) : (u.toStep1 g).word o = u.word o := by
    refine (State.when_keeps (fun t => t.word o) _ _ _ fun t => ?_).trans ?_
    · exact (State.word_put_ne _ (f := XCV_LN_STAT.rate_idx g) _ (other g)).trans (drops t)
    · refine (State.word_put_ne _ (f := XCV_LN_STAT.step_fail g) 0 (other g)).trans ?_
      refine (State.word_put_ne _ (f := XCV_LN_STAT.reason g) 0 (other g)).trans ?_
      exact (State.word_put_ne _ (f := XCV_LN_STAT.grp_state g) 1 (other g)).trans (untrained u)
  unfold State.groupCheck
  dsimp only
  split
  · split
    · exact runs s
    · exact starts s
  · split
    · exact off s
    · rfl

/-- The stages of a configuration that is applied: stored, the receiver's hunt, and the power state with the PLLs. -/
def State.cfgStored (s : State) (l : Nat) (w : Word) : State := (s.put (XCV_LN_STAT.cfg_err l) 0).write (XCV_LN_CFG.off l) w
def State.cfgHunts (s : State) (l : Nat) (w : Word) : State :=
  (s.cfgStored l w).when (decide ((s.word (XCV_LN_CFG.off l) ^^^ (s.cfgStored l w).word (XCV_LN_CFG.off l)) &&& 0x1F47A800 ≠ 0))
    fun s => s.dropLock l
def State.cfgApplied (s : State) (l : Nat) (w : Word) : State :=
  ((s.cfgHunts l w).requestPstate l (bitsOf w 31 30)).stopQplls (l / 4)

theorem State.writeLaneCfg_refused {s : State} {l : Nat} {v : Word}
    (bad : s.laneFits l (if bitsOf v 31 30 = 3 then setBits v 31 30 2 else v) = false) :
    s.writeLaneCfg l v = s.put (XCV_LN_STAT.cfg_err l) 1 := by
  unfold State.writeLaneCfg
  dsimp only
  rw [bad]
  rfl

theorem State.writeLaneCfg_fits {s : State} {l : Nat} {v w : Word} (code : (if bitsOf v 31 30 = 3 then setBits v 31 30 2 else v) = w)
    (fits : s.laneFits l w = true) : s.writeLaneCfg l v = match (s.cfgApplied l w).leaderOf l with
      | some g => (((s.cfgApplied l w).when (decide (2 ≤ (s.cfgApplied l w).get (XCV_LN_GRP.count g))) fun s =>
          s.putB (XCV_LN_STAT.cfg_err g) (!s.groupFits g))).groupCheck g
      | none => s.cfgApplied l w := by
  unfold State.writeLaneCfg
  rw [code]
  dsimp only
  rw [fits]
  rfl

theorem State.word_cfgHunts (l : Nat) (w : Word) {o : Nat} (cfg : o ≠ XCV_LN_CFG.off l) (stat : o ≠ XCV_LN_STAT.off l) :
    (s.cfgHunts l w).word o = s.word o :=
  (State.when_keeps (fun t => t.word o) _ _ _ fun t => t.word_dropLock l stat).trans
    ((State.word_setWord_ne _ _ cfg).trans (s.word_put_ne (f := XCV_LN_STAT.cfg_err l) 0 stat))

theorem State.word_cfgApplied (l : Nat) (w : Word) {o : Nat} (quad : o ≠ XCV_Q_STAT.off (l / 4)) :
    (s.cfgApplied l w).word o = (s.cfgHunts l w).word o :=
  (State.word_stopQplls _ _ quad).trans (State.word_of_regs (State.regs_requestPstate _ _ _) o)

theorem laneCfg_ne_quad (l q : Nat) : XCV_LN_CFG.off l ≠ XCV_Q_STAT.off q ∧ XCV_LN_GRP.off l ≠ XCV_Q_STAT.off q
    ∧ XCV_LN_STAT.off l ≠ XCV_Q_STAT.off q := by
  simp only [XCV_LN_CFG.off, XCV_LN_GRP.off, XCV_LN_STAT.off, XCV_Q_STAT.off]
  omega

theorem laneGrp_ne_cfg (l m : Nat) : XCV_LN_GRP.off l ≠ XCV_LN_CFG.off m := by
  simp only [XCV_LN_CFG.off, XCV_LN_GRP.off]
  omega

theorem State.leaderOf_cfgApplied (l : Nat) (w : Word) (k : Nat) : (s.cfgApplied l w).leaderOf k = s.leaderOf k :=
  State.leaderOf_of_counts (fun g => congrArg (bitsOf · 28 23) ((s.word_cfgApplied l w (laneCfg_ne_quad g _).2.1).trans
    (s.word_cfgHunts l w (laneGrp_ne_cfg g l) (laneStat_apart g l).2.1))) k

/-- The configuration register holds what the write makes of it. -/
theorem State.cfg_cfgStored (l : Nat) (w : Word) : (s.cfgStored l w).word (XCV_LN_CFG.off l)
    = (s.write (XCV_LN_CFG.off l) w).word (XCV_LN_CFG.off l) := by
  have same : (s.put (XCV_LN_STAT.cfg_err l) 0).word (XCV_LN_CFG.off l) = s.word (XCV_LN_CFG.off l) :=
    s.word_put_ne (f := XCV_LN_STAT.cfg_err l) 0 (laneStat_apart l l).1
  have lock : (s.put (XCV_LN_STAT.cfg_err l) 0).locked (pageBase (XCV_LN_CFG.off l)) = s.locked (pageBase (XCV_LN_CFG.off l)) := by
    have get : (s.put (XCV_LN_STAT.cfg_err l) 0).get (PAGE_LOCK.lock (pageBase (XCV_LN_CFG.off l)))
        = s.get (PAGE_LOCK.lock (pageBase (XCV_LN_CFG.off l))) := s.get_put_off 0 (by
      have page : pageBase (XCV_LN_CFG.off l) % 0x1000 = 0 := by
        unfold pageBase
        omega
      have past := pastEvents_stat l
      simp only [pastEvents] at past
      simp only [PAGE_LOCK.lock, PAGE_LOCK.off, XCV_LN_STAT.cfg_err]
      omega)
    rw [State.locked, State.is, get, State.locked, State.is]
  refine (State.word_setWord_same _ _ _).trans (Eq.trans ?_ (s.word_setWord_same _ _).symm)
  rw [same, lock]

theorem State.cfg_writeLaneCfg {l : Nat} {v w : Word} (code : (if bitsOf v 31 30 = 3 then setBits v 31 30 2 else v) = w)
    (fits : s.laneFits l w = true) : (s.writeLaneCfg l v).word (XCV_LN_CFG.off l)
      = (s.write (XCV_LN_CFG.off l) w).word (XCV_LN_CFG.off l) := by
  have other (n : Nat) : XCV_LN_CFG.off l ≠ XCV_LN_STAT.off n := (laneStat_apart l n).1
  have applied : (s.cfgApplied l w).word (XCV_LN_CFG.off l) = (s.write (XCV_LN_CFG.off l) w).word (XCV_LN_CFG.off l) :=
    (s.word_cfgApplied l w (laneCfg_ne_quad l _).1).trans ((State.when_keeps (fun t => t.word (XCV_LN_CFG.off l)) _ _ _ fun t =>
      t.word_dropLock l (other l)).trans (s.cfg_cfgStored l w))
  rw [State.writeLaneCfg_fits code fits]
  split
  · next g _ =>
    refine (State.word_groupCheck _ g (pastEvents_cfg l) other).trans (Eq.trans ?_ applied)
    exact State.when_keeps (fun t => t.word (XCV_LN_CFG.off l)) _ _ _ fun t => t.word_put_ne (f := XCV_LN_STAT.cfg_err g) _ (other g)
  · exact applied

/-! ### Without a group -/

theorem State.writeLaneCfg_alone {s : State} {l : Nat} {v w : Word}
    (code : (if bitsOf v 31 30 = 3 then setBits v 31 30 2 else v) = w) (fits : s.laneFits l w = true)
    (alone : s.leaderOf l = none) : s.writeLaneCfg l v = s.cfgApplied l w := by
  rw [State.writeLaneCfg_fits code fits, s.leaderOf_cfgApplied, alone]

theorem State.cfgErr_cfgApplied (l : Nat) (w : Word) : (s.cfgApplied l w).get (XCV_LN_STAT.cfg_err l) = 0 := by
  refine (congrArg (bitsOf · _ _) (s.word_cfgApplied l w (laneCfg_ne_quad l _).2.2)).trans ?_
  refine (State.when_keeps (fun t => t.get (XCV_LN_STAT.cfg_err l)) _ _ _ fun t =>
    t.get_dropLock l (.inr (.inl (by simp [XCV_LN_STAT.cfg_err])))).trans ?_
  exact (State.get_write_off _ w (laneStat_apart l l).1.symm).trans (s.get_put_same 0 (by simp [XCV_LN_STAT.cfg_err]))

theorem State.dest_cfgHunts (l : Nat) (w : Word) : ((s.cfgHunts l w).lane l).dest = (s.lane l).dest :=
  (State.when_keeps (fun t => (t.lane l).dest) _ _ _ fun t => (t.moves_dropLock l).1).trans rfl

theorem State.pstate_cfgHunts (l : Nat) (w : Word) :
    (s.cfgHunts l w).get (XCV_LN_STAT.pstate l) = s.get (XCV_LN_STAT.pstate l) := by
  refine (State.when_keeps (fun t => t.get (XCV_LN_STAT.pstate l)) _ _ _ fun t =>
    t.get_dropLock l (.inr (.inr (by simp [XCV_LN_STAT.pstate])))).trans ?_
  exact (State.get_write_off _ w (laneStat_apart l l).1.symm).trans
    (s.get_put_apart 0 (by simp [XCV_LN_STAT.pstate]) (.inr (by simp [XCV_LN_STAT.pstate, XCV_LN_STAT.cfg_err])))

theorem State.domOpen_cfgHunts {l : Nat} (hl : l < 48) (w : Word) :
    (s.cfgHunts l w).domOpen (0x100 + l / 4) = s.domOpen (0x100 + l / 4) := by
  have word : (s.cfgHunts l w).word (PWR_DOM.off (0x100 + l / 4)) = s.word (PWR_DOM.off (0x100 + l / 4)) := by
    refine s.word_cfgHunts l w ?_ ?_
    · simp only [PWR_DOM.off, XCV_LN_CFG.off]
      omega
    · simp only [PWR_DOM.off, XCV_LN_STAT.off]
      omega
  exact congrArg (fun w => decide (bitsOf w 29 28 = 0)) word

theorem State.requestPstate_starts {s : State} {l p : Nat} (open_ : s.domOpen (0x100 + l / 4) = true)
    (rests : (s.lane l).dest = none) (other : p ≠ s.get (XCV_LN_STAT.pstate l)) :
    s.requestPstate l p = s.setLane l { s.lane l with dest := some p } := by
  simp only [State.requestPstate, open_, rests, other]
  rfl

theorem State.requestPstate_waits {s : State} {l : Nat} (p : Nat) (open_ : s.domOpen (0x100 + l / 4) = true)
    (moves : (s.lane l).dest ≠ none) : s.requestPstate l p = s.setLane l { s.lane l with want := some p } := by
  have some_ : (s.lane l).dest.isSome = true := Option.isSome_iff_ne_none.mpr moves
  simp only [State.requestPstate, open_, some_]
  rfl

/-! ### A power state is reached (R446) -/

/-- The lane in its new state, with the request that waits, before the PLLs stop. -/
def State.reachPstate (s : State) (l d : Nat) (next : Option Nat) : State :=
  ((s.setLane l { s.lane l with dest := next, want := none }).put (XCV_LN_STAT.pstate l) d).when (decide (d ≠ 0)) fun s => s.dropLock l

theorem State.lane_reachPstate (l d : Nat) (next : Option Nat) : ((s.reachPstate l d next).lane l).dest = next
    ∧ ((s.reachPstate l d next).lane l).want = none := by
  constructor
  · refine (State.when_keeps (fun t => (t.lane l).dest) _ _ _ fun t => (t.moves_dropLock l).1).trans ?_
    exact congrArg LaneState.dest (s.lane_setLane_same l _)
  · refine (State.when_keeps (fun t => (t.lane l).want) _ _ _ fun t => (t.moves_dropLock l).2).trans ?_
    exact congrArg LaneState.want (s.lane_setLane_same l _)

theorem State.word_reachPstate (l d : Nat) (next : Option Nat) {o : Nat} (other : o ≠ XCV_LN_STAT.off l) :
    (s.reachPstate l d next).word o = s.word o :=
  (State.when_keeps (fun t => t.word o) _ _ _ fun t => t.word_dropLock l other).trans
    (State.word_put_ne _ (f := XCV_LN_STAT.pstate l) d other)

theorem State.pstate_reachPstate (l : Nat) {d : Nat} (hd : d < 4) (next : Option Nat) :
    (s.reachPstate l d next).get (XCV_LN_STAT.pstate l) = d :=
  (State.when_keeps (fun t => t.get (XCV_LN_STAT.pstate l)) _ _ _ fun t =>
    t.get_dropLock l (.inr (.inr (by simp [XCV_LN_STAT.pstate])))).trans
    ((State.get_put_same _ d (by simp [XCV_LN_STAT.pstate])).trans (Nat.mod_eq_of_lt hd))

theorem State.locked_reachPstate (l : Nat) {d : Nat} (left : d ≠ 0) (next : Option Nat) :
    (s.reachPstate l d next).get (XCV_LN_STAT.locked l) = 0 := by
  rw [State.reachPstate, State.when_of_true (decide_eq_true left)]
  exact State.locked_dropLock _ l

/-- A lane that belongs to no group has none to judge. -/
theorem groupCheck_alone {t : State} {l : Nat} (alone : t.leaderOf l = none) :
    (match t.leaderOf l with | some g => (.next (t.groupCheck g) : Out) | none => .next t) = .next t := by
  rw [alone]

/-- What a state's completion makes next of the request that waits. -/
def nextPstate (want : Option Nat) (d : Nat) : Option Nat :=
  match want with
  | some w => if w = d then none else some w
  | none => none

theorem exec_pstateTransitionComplete {s : State} {l : Fin 48} {d : Nat} (dest : (s.lane l).dest = some d)
    (alone : s.leaderOf l = none) : exec (.pstateTransitionComplete l) s
      = .next ((s.reachPstate l d (nextPstate (s.lane l).want d)).stopQplls (l / 4)) := by
  have leader : ((s.reachPstate l d (nextPstate (s.lane l).want d)).stopQplls (l / 4)).leaderOf l = none := by
    rw [← alone]
    exact State.leaderOf_of_counts (fun g => congrArg (bitsOf · 28 23) ((State.word_stopQplls _ _ (laneCfg_ne_quad g _).2.1).trans
      (s.word_reachPstate l d _ (laneStat_apart g l).2.1))) l
  show execPstateTransitionComplete l s = _
  unfold execPstateTransitionComplete
  simp only [dest]
  exact groupCheck_alone leader

end

/-! ### Each command -/

section
variable {s : State}

theorem exec_qpllApply_on {q : Fin 12} {b : Bool} {ref : Nat} {v : Word} (apply : bit v 30 = true) (on : bit v 31 = true) :
    exec (.qpllApply q b ref v) s = .next (
      if qpllFits q ref v ((s.write (XCV_QP_CFG.off q b.toNat) v).word (XCV_QP_FRAC.off q b.toNat))
      then ((s.write (XCV_QP_CFG.off q b.toNat) v).setQpll q b.toNat
        (some (ref, v, (s.write (XCV_QP_CFG.off q b.toNat) v).word (XCV_QP_FRAC.off q b.toNat)))).put (qpllLocked q b.toNat) 0
      else (s.write (XCV_QP_CFG.off q b.toNat) v).put (XCV_Q_STAT.range_err q) 1) := by
  show execQpllApply q b ref v s = _
  simp [execQpllApply, State.writeQpll, apply, on]

theorem exec_qpllApply_off {q : Fin 12} {b : Bool} {ref : Nat} {v : Word} (apply : bit v 30 = true) (off : bit v 31 = false) :
    exec (.qpllApply q b ref v) s
      = .next (((s.write (XCV_QP_CFG.off q b.toNat) v).setQpll q b.toNat none).put (qpllLocked q b.toNat) 0) := by
  show execQpllApply q b ref v s = _
  simp [execQpllApply, State.writeQpll, apply, off]

theorem exec_qpllLock {q : Fin 12} {b : Bool} (runs : s.qpll q b.toNat ≠ none) (used : s.qpllUsed q b.toNat = true) :
    exec (.qpllLock q b) s = .next (s.put (qpllLocked q b.toNat) 1) := by
  have both : ((s.qpll q b.toNat).isSome && s.qpllUsed q b.toNat) = true := by
    simp [Option.isSome_iff_ne_none.mpr runs, used]
  exact congrArg _ (State.when_of_true both _)

theorem exec_qpllLockLost {q : Fin 12} {b : Bool} (locked : s.is (qpllLocked q b.toNat) = true) :
    exec (.qpllLockLost q b) s = .next (((s.put (qpllLocked q b.toNat) 0).count (XCV_Q_STAT.losses q)).raise
      (pageXCV q) (28 + b.toNat) CONTAINED 0x0E0D q b.toNat) := by
  show execQpllLockLost q b s = _
  simp [execQpllLockLost, locked]

theorem exec_blockLock {l : Fin 48} {p : Fin 66} (receives : s.receives l = true) (hunts : s.is (XCV_LN_STAT.locked l) = false)
    (mode : s.get (XCV_LN_CFG.coding l) = 2 ∨ s.get (XCV_LN_CFG.coding l) = 3 ∧ s.is (XCV_LN_STAT.fec_locked l) = true) :
    exec (.blockLock l p) s = .next ((s.put (XCV_LN_STAT.slip l) p).gainLock l) := by
  show execBlockLock l p s = _
  rcases mode with blocks | ⟨fec, decodes⟩
  · simp [execBlockLock, receives, hunts, blocks]
  · simp [execBlockLock, receives, hunts, fec, decodes]

theorem exec_lockLoss {l : Fin 48} (locked : s.is (XCV_LN_STAT.locked l) = true) (coded : s.get (XCV_LN_CFG.coding l) ≠ 0) :
    exec (.lockLoss l) s = .next ((s.add (XCV_LN_HDRERR.v l) 16).loseLock l) := by
  show execLockLoss l s = _
  simp [execLockLoss, locked, coded]

theorem exec_commaAlign_hunting {l : Fin 48} {p : Fin 10} (receives : s.receives l = true)
    (mode : s.get (XCV_LN_CFG.coding l) = 1) (hunts : s.is (XCV_LN_STAT.locked l) = false) : exec (.commaAlign l p) s
      = .next ((s.setLane l { s.lane l with commaAt := some p.val }).gainLock l) := by
  show execCommaAlign l p s = _
  simp [execCommaAlign, receives, mode, hunts]

theorem exec_commaAlign_locked {l : Fin 48} {p : Fin 10} (receives : s.receives l = true)
    (mode : s.get (XCV_LN_CFG.coding l) = 1) (locked : s.is (XCV_LN_STAT.locked l) = true)
    (again : s.is (XCV_LN_CFG.comma_cont l) = true) : exec (.commaAlign l p) s
      = .next (s.setLane l { s.lane l with commaAt := some p.val }) := by
  show execCommaAlign l p s = _
  simp [execCommaAlign, receives, mode, locked, again]

/-! ### Codewords (R438) -/

/-- A codeword that decodes, before the lock that three in a row give. -/
def State.fecDecodes (s : State) (l n : Nat) : State :=
  (s.setLane l { s.lane l with fecGood := min 3 ((s.lane l).fecGood + 1), fecBad := 0 }).when
    (s.is (XCV_LN_STAT.fec_locked l) && !s.is (XCV_LN_CFG.fec_bypass l)) fun s => s.add (XCV_LN_FEC_CORR.v l) n

theorem exec_fecCodeword_good {l : Fin 48} {n : Nat} (receives : s.receives l = true) (mode : s.get (XCV_LN_CFG.coding l) = 3)
    (good : n ≤ 15) : exec (.fecCodeword l n) s = .next ((s.fecDecodes l n).when (decide (2 ≤ (s.lane l).fecGood)) fun s =>
      s.put (XCV_LN_STAT.fec_locked l) 1) := by
  show execFecCodeword l n s = _
  simp only [execFecCodeword, receives, mode, good]
  rfl

/-- An uncorrectable codeword on a locked decoder, up to the loss of the lane's lock. -/
def State.fecFails (s : State) (l : Nat) : State :=
  ((s.setLane l { s.lane l with fecGood := 0, fecBad := (s.lane l).fecBad + 1 }).count (XCV_LN_FEC_UNC.v l)).laneEvent
    l 5 CONTAINED 0x0E0B
def State.fecUnlocks (s : State) (l : Nat) : State :=
  if s.is (XCV_LN_STAT.locked l) then (s.add (XCV_LN_HDRERR.v l) 80).loseLock l else s

theorem exec_fecCodeword_bad {l : Fin 48} {n : Nat} (receives : s.receives l = true) (mode : s.get (XCV_LN_CFG.coding l) = 3)
    (bad : 15 < n) (locked : s.is (XCV_LN_STAT.fec_locked l) = true) : exec (.fecCodeword l n) s
      = .next ((((s.fecFails l).fecUnlocks l).setLane l
          { ((s.fecFails l).fecUnlocks l).lane l with fecBad := (s.lane l).fecBad + 1 }).when
        (decide (8 ≤ (s.lane l).fecBad + 1)) fun s =>
          (s.put (XCV_LN_STAT.fec_locked l) 0).setLane l { s.lane l with fecBad := 0 }) := by
  have many : ¬ n ≤ 15 := by omega
  show execFecCodeword l n s = _
  simp only [execFecCodeword, receives, mode, many, locked]
  rfl

theorem State.lane_fecUnlocks (l : Nat) (none : (s.lane l).fecGood = 0) : ((s.fecUnlocks l).lane l).fecGood = 0 := by
  unfold State.fecUnlocks
  split
  · rcases (s.add (XCV_LN_HDRERR.v l) 80).lane_loseLock l with same | lost
    · rw [same]
      exact none
    · rw [lost]
  · exact none

theorem State.locked_fecUnlocks (l : Nat) : (s.fecUnlocks l).get (XCV_LN_STAT.locked l) = 0 := by
  unfold State.fecUnlocks
  split
  · exact State.locked_loseLock _ l
  · next unlocked => exact s.get_of_not_is (by simpa using unlocked)

theorem State.fec_fecUnlocks (l : Nat) :
    (s.fecUnlocks l).get (XCV_LN_STAT.fec_locked l) = s.get (XCV_LN_STAT.fec_locked l) := by
  unfold State.fecUnlocks
  split
  · exact (State.fec_loseLock _ l).trans (s.get_add_off 80 (laneStat_apart l l).2.2.2.2.2.2.1.symm)
  · rfl

theorem State.unc_fecUnlocks (l : Nat) : (s.fecUnlocks l).get (XCV_LN_FEC_UNC.v l) = s.get (XCV_LN_FEC_UNC.v l) := by
  unfold State.fecUnlocks
  split
  · refine (State.get_loseLock _ l (pastEvents_unc l) (.inl (laneStat_apart l l).2.2.2.2.2.1)).trans (s.get_add_off 80 ?_)
    simp only [XCV_LN_FEC_UNC.v, XCV_LN_HDRERR.v, XCV_LN_FEC_UNC.off, XCV_LN_HDRERR.off]
    omega
  · rfl

theorem State.lane_fecFails (l : Nat) : (s.fecFails l).lane l = { s.lane l with fecGood := 0, fecBad := (s.lane l).fecBad + 1 } :=
  (State.lane_laneEvent _ _ _ _ _ _).trans (s.lane_setLane_same l _)

theorem State.unc_fecFails (l : Nat) :
    (s.fecFails l).get (XCV_LN_FEC_UNC.v l) = min (s.get (XCV_LN_FEC_UNC.v l) + 1) (2 ^ 32 - 1) :=
  (State.get_laneEvent _ _ _ _ _ (pastEvents_unc l)).trans (State.get_count_same _ (by simp [XCV_LN_FEC_UNC.v]))

theorem State.fec_fecFails (l : Nat) :
    (s.fecFails l).get (XCV_LN_STAT.fec_locked l) = s.get (XCV_LN_STAT.fec_locked l) :=
  (State.get_laneEvent _ _ _ _ _ (pastEvents_stat l)).trans (State.get_count_off _ (laneStat_apart l l).2.2.2.2.2.1.symm)

/-! ### Buffers (R439, R440) -/

/-- The buffer of a lane is recentred and its error counted. -/
def State.bufferErr (s : State) (l : Nat) : State := (s.put (XCV_LN_STAT.ebuf_err l) 1).count (XCV_LN_EBUF.v l)

theorem exec_elasticBufferError (l : Fin 48) : exec (.elasticBufferError l) s
    = .next (((s.bufferErr l).setLane l { (s.bufferErr l).lane l with
      rxWait := s.is (XCV_LN_CFG.dl l), txWait := s.is (XCV_LN_CFG.dl l) }).laneEvent l 6 CONTAINED 0x0E0C) := rfl

theorem State.get_bufferErr (l : Nat) : (s.bufferErr l).get (XCV_LN_STAT.ebuf_err l) = 1
    ∧ (s.bufferErr l).get (XCV_LN_EBUF.v l) = min (s.get (XCV_LN_EBUF.v l) + 1) (2 ^ 32 - 1) := by
  constructor
  · exact (State.get_count_off _ (laneStat_apart l l).2.2.2.2.2.2.2.symm).trans
      (s.get_put_same 1 (by simp [XCV_LN_STAT.ebuf_err]))
  · exact (State.get_count_same _ (by simp [XCV_LN_EBUF.v])).trans (congrArg (fun n => min (n + 1) _)
      (s.get_put_off (f := XCV_LN_STAT.ebuf_err l) 1 (laneStat_apart l l).2.2.2.2.2.2.2))

theorem exec_gridStrobe_tx {l : Fin 48} {fill : Fin 65} (valid : s.timeValid = true)
    (full : s.get (XCV_DL_CFG.fill (l / 4)) ≤ fill) : exec (.gridStrobe l true fill) s
      = .next (s.setLane l { s.lane l with txWait := false }) := by
  show execGridStrobe l true fill s = _
  simp [execGridStrobe, valid, Nat.not_lt.mpr full]

theorem exec_gridStrobe_rx {l : Fin 48} {fill : Fin 65} (valid : s.timeValid = true)
    (full : s.get (XCV_DL_CFG.fill (l / 4)) ≤ fill) (waits : (s.lane l).rxWait = true) : exec (.gridStrobe l false fill) s
      = .next ((s.setLane l { s.lane l with rxWait := false }).put (XCV_LN_STAT.dl_fill l) fill) := by
  show execGridStrobe l false fill s = _
  simp [execGridStrobe, valid, Nat.not_lt.mpr full, waits]

end

end Sys2Proof.Machine
end

section
/-! What the commands of a lane's receiver and of its PLLs complete (R431 to R440, R446). -/

namespace Sys2Proof.Machine

open Reg

section
variable {s : State}

/-- A configuration that fits is stored, and its power state requested. -/
theorem State.writeLaneCfg_completes {l : Nat} (hl : l < 48) {v w : Word}
    (code : (if bitsOf v 31 30 = 3 then setBits v 31 30 2 else v) = w) (fits : s.laneFits l w = true) :
    (s.writeLaneCfg l v).word (XCV_LN_CFG.off l) = (s.write (XCV_LN_CFG.off l) w).word (XCV_LN_CFG.off l)
      ∧ (s.leaderOf l = none → (s.writeLaneCfg l v).get (XCV_LN_STAT.cfg_err l) = 0)
      ∧ (s.leaderOf l = none → s.domOpen (0x100 + l / 4) = true → (s.lane l).dest = none →
          bitsOf w 31 30 ≠ s.get (XCV_LN_STAT.pstate l) → ((s.writeLaneCfg l v).lane l).dest = some (bitsOf w 31 30))
      ∧ (s.leaderOf l = none → s.domOpen (0x100 + l / 4) = true → (s.lane l).dest ≠ none →
          ((s.writeLaneCfg l v).lane l).want = some (bitsOf w 31 30)
            ∧ ((s.writeLaneCfg l v).lane l).dest = (s.lane l).dest) := by
  have applied (alone : s.leaderOf l = none) (open_ : s.domOpen (0x100 + l / 4) = true) :
      ((s.writeLaneCfg l v).lane l = ((s.cfgHunts l w).requestPstate l (bitsOf w 31 30)).lane l)
        ∧ (s.cfgHunts l w).domOpen (0x100 + l / 4) = true := by
    rw [State.writeLaneCfg_alone code fits alone, State.cfgApplied, State.lane_stopQplls, s.domOpen_cfgHunts hl]
    exact ⟨rfl, open_⟩
  refine ⟨s.cfg_writeLaneCfg code fits, fun alone => ?_, fun alone isOpen rests other => ?_, fun alone isOpen moves => ?_⟩
  · rw [State.writeLaneCfg_alone code fits alone]
    exact s.cfgErr_cfgApplied l w
  · obtain ⟨lane, open_⟩ := applied alone isOpen
    rw [lane, State.requestPstate_starts open_ ((s.dest_cfgHunts l w).trans rests) (by rwa [s.pstate_cfgHunts]),
      State.lane_setLane_same]
  · obtain ⟨lane, open_⟩ := applied alone isOpen
    rw [lane, State.requestPstate_waits _ open_ (by rwa [s.dest_cfgHunts]), State.lane_setLane_same]
    exact ⟨rfl, s.dest_cfgHunts l w⟩

theorem exec_fecCodeword_good_completes {l : Fin 48} {n : Nat} (receives : s.receives l = true)
    (mode : s.get (XCV_LN_CFG.coding l) = 3) (good : n ≤ 15) : ∃ t, exec (.fecCodeword l n) s = .next t
      ∧ (t.lane l).fecGood = min 3 ((s.lane l).fecGood + 1) ∧ (t.lane l).fecBad = 0
      ∧ (2 ≤ (s.lane l).fecGood → t.get (XCV_LN_STAT.fec_locked l) = 1)
      ∧ (s.is (XCV_LN_STAT.fec_locked l) = true → s.is (XCV_LN_CFG.fec_bypass l) = false →
          t.get (XCV_LN_FEC_CORR.v l) = min (s.get (XCV_LN_FEC_CORR.v l) + n) (2 ^ 32 - 1)) := by
  have lane : ((s.fecDecodes l n).when (decide (2 ≤ (s.lane l).fecGood)) fun s => s.put (XCV_LN_STAT.fec_locked l) 1).lane l
      = { s.lane l with fecGood := min 3 ((s.lane l).fecGood + 1), fecBad := 0 } :=
    (State.when_keeps (fun t => t.lane l) _ _ (fun s => s.put (XCV_LN_STAT.fec_locked l) 1) fun _ => rfl).trans
      ((State.when_keeps (fun t => t.lane l) _ _ (fun s => s.add (XCV_LN_FEC_CORR.v l) n) fun _ => rfl).trans
        (s.lane_setLane_same l _))
  refine ⟨_, exec_fecCodeword_good receives mode good, by rw [lane], by rw [lane], fun third => ?_, fun locked counts => ?_⟩
  · rw [State.when_of_true (decide_eq_true third)]
    exact State.get_put_same _ 1 (by simp [XCV_LN_STAT.fec_locked])
  · refine (State.when_keeps (fun t => t.get (XCV_LN_FEC_CORR.v l)) _ _ _ fun t =>
      t.get_put_off (f := XCV_LN_STAT.fec_locked l) 1 ?_).trans ?_
    · simp only [XCV_LN_FEC_CORR.v, XCV_LN_FEC_CORR.off, XCV_LN_STAT.fec_locked, XCV_LN_STAT.off]
      omega
    · rw [State.fecDecodes, State.when_of_true (by simp [locked, counts])]
      exact State.get_add_same _ n (by simp [XCV_LN_FEC_CORR.v])

/-- What the state after an uncorrectable codeword keeps while the decoder's lock is judged. -/
theorem exec_fecCodeword_bad_completes {l : Fin 48} {n : Nat} (receives : s.receives l = true)
    (mode : s.get (XCV_LN_CFG.coding l) = 3) (bad : 15 < n) (locked : s.is (XCV_LN_STAT.fec_locked l) = true) :
    ∃ t, exec (.fecCodeword l n) s = .next t
      ∧ t.get (XCV_LN_FEC_UNC.v l) = min (s.get (XCV_LN_FEC_UNC.v l) + 1) (2 ^ 32 - 1)
      ∧ t.get (XCV_LN_STAT.locked l) = 0 ∧ (t.lane l).fecGood = 0
      ∧ ((s.lane l).fecBad < 7 → (t.lane l).fecBad = (s.lane l).fecBad + 1 ∧ t.get (XCV_LN_STAT.fec_locked l) = 1)
      ∧ (7 ≤ (s.lane l).fecBad → (t.lane l).fecBad = 0 ∧ t.get (XCV_LN_STAT.fec_locked l) = 0) := by
  have unc : ((s.fecFails l).fecUnlocks l).get (XCV_LN_FEC_UNC.v l) = min (s.get (XCV_LN_FEC_UNC.v l) + 1) (2 ^ 32 - 1) :=
    (State.unc_fecUnlocks _).trans (s.unc_fecFails l)
  have lock : ((s.fecFails l).fecUnlocks l).get (XCV_LN_STAT.locked l) = 0 := State.locked_fecUnlocks _
  have good : (((s.fecFails l).fecUnlocks l).lane l).fecGood = 0 := State.lane_fecUnlocks _ (by rw [s.lane_fecFails])
  have fec : ((s.fecFails l).fecUnlocks l).get (XCV_LN_STAT.fec_locked l) = 1 :=
    (State.fec_fecUnlocks _).trans ((s.fec_fecFails l).trans (s.get_one_of_is (by simp [XCV_LN_STAT.fec_locked]) locked))
  generalize hu : (s.fecFails l).fecUnlocks l = u at unc lock good fec
  refine ⟨_, exec_fecCodeword_bad receives mode bad locked, ?_⟩
  rw [hu]
  by_cases eighth : 7 ≤ (s.lane l).fecBad
  · rw [State.when_of_true (decide_eq_true (by omega))]
    refine ⟨?_, ?_, ?_, fun few => absurd few (by omega), fun _ => ⟨?_, ?_⟩⟩
    · exact (State.get_put_off _ (f := XCV_LN_STAT.fec_locked l) 0 (laneStat_apart l l).2.2.2.2.2.1).trans unc
    · exact (State.get_put_apart _ (f := XCV_LN_STAT.fec_locked l) 0 (by simp [XCV_LN_STAT.locked])
        (.inr (by simp [XCV_LN_STAT.locked, XCV_LN_STAT.fec_locked]))).trans lock
    · rw [State.lane_setLane_same, State.lane_setLane_same]
      exact good
    · rw [State.lane_setLane_same]
    · exact State.get_put_same _ 0 (by simp [XCV_LN_STAT.fec_locked])
  · rw [State.when_of_false (decide_eq_false (by omega))]
    refine ⟨unc, lock, ?_, fun _ => ⟨?_, fec⟩, fun many => absurd many eighth⟩
    · rw [State.lane_setLane_same]
      exact good
    · rw [State.lane_setLane_same]

theorem exec_pstateTransition_completes {l : Fin 48} {d : Nat} (dest : (s.lane l).dest = some d) (known : d < 3)
    (alone : s.leaderOf l = none) : ∃ t, exec (.pstateTransitionComplete l) s = .next t
      ∧ t.get (XCV_LN_STAT.pstate l) = d ∧ (d ≠ 0 → t.get (XCV_LN_STAT.locked l) = 0) ∧ (t.lane l).want = none
      ∧ ((s.lane l).want = none ∨ (s.lane l).want = some d → (t.lane l).dest = none)
      ∧ (∀ e, (s.lane l).want = some e → e ≠ d → (t.lane l).dest = some e) := by
  have stat (u : State) (f : Field) (status : f.off = XCV_LN_STAT.off l) : (u.stopQplls (l / 4)).get f = u.get f :=
    congrArg (bitsOf · f.hi f.lo) (u.word_stopQplls _ (status ▸ (laneCfg_ne_quad l _).2.2))
  refine ⟨_, exec_pstateTransitionComplete dest alone, ?_, fun left => ?_, ?_, fun none => ?_, fun e waits other => ?_⟩
  · exact (stat _ (XCV_LN_STAT.pstate l) rfl).trans (s.pstate_reachPstate l (by omega) _)
  · exact (stat _ (XCV_LN_STAT.locked l) rfl).trans (s.locked_reachPstate l left _)
  · rw [State.lane_stopQplls]
    exact (s.lane_reachPstate l d _).2
  · rw [State.lane_stopQplls, (s.lane_reachPstate l d _).1]
    rcases none with none | same
    · rw [none]
      rfl
    · rw [same]
      exact if_pos rfl
  · rw [State.lane_stopQplls, (s.lane_reachPstate l d _).1, waits]
    exact if_neg other

end

/-- Settles O55, command by command; a write of a configuration goes through its stages, and an uncorrectable codeword
through the lane's loss of lock. -/
theorem laneReceiverCommandsComplete : Obligations.LaneReceiverCommandsComplete := by
  unfold Obligations.LaneReceiverCommandsComplete
  refine ⟨fun s q b ref v apply => ⟨exec_qpllApply_off apply, fun on fits => ?_, fun on misfit => ?_⟩,
    fun s q b => ⟨exec_qpllLock, exec_qpllLockLost⟩, fun s l v c asked => ?_, fun s l d => exec_pstateTransition_completes,
    fun s l p => exec_blockLock,
    fun s l => ⟨(s.get_gainLock l).1, (s.get_gainLock l).2, congrArg LaneState.rxWait (s.lane_gainLock l), s.locked_loseLock l⟩,
    fun s l => exec_lockLoss,
    fun s l p receives mode => ⟨exec_commaAlign_hunting receives mode, exec_commaAlign_locked receives mode⟩,
    fun s l n receives mode => ⟨exec_fecCodeword_good_completes receives mode, exec_fecCodeword_bad_completes receives mode⟩,
    fun s l => ?_, fun s l fill valid full => ⟨exec_gridStrobe_tx valid full, exec_gridStrobe_rx valid full⟩⟩
  · rw [exec_qpllApply_on apply on, if_pos fits]
  · rw [exec_qpllApply_on apply on, if_neg (by simp [misfit])]
  · have run : exec c s = .next (s.writeLaneCfg l v) := by
      rcases asked with rfl | rfl
      · show execLaneCfgWrite l v s = _
        rfl
      · show execPstateRequest l v s = _
        rfl
    refine ⟨fun misfit => run.trans (congrArg _ (State.writeLaneCfg_refused misfit)), fun fits => ⟨_, run, ?_⟩⟩
    exact State.writeLaneCfg_completes l.isLt rfl fits
  · refine ⟨_, exec_elasticBufferError l, ?_, ?_, ?_, ?_⟩
    · exact (State.get_laneEvent _ _ _ _ _ (f := XCV_LN_STAT.ebuf_err l) (pastEvents_stat l)).trans
        ((State.get_setLane (s.bufferErr l) l _ (XCV_LN_STAT.ebuf_err l)).trans (s.get_bufferErr l).1)
    · rw [State.lane_laneEvent, State.lane_setLane_same]
    · rw [State.lane_laneEvent, State.lane_setLane_same]
    · exact (State.get_laneEvent _ _ _ _ _ (f := XCV_LN_EBUF.v l) (pastEvents_ebuf l)).trans
        ((State.get_setLane (s.bufferErr l) l _ (XCV_LN_EBUF.v l)).trans (s.get_bufferErr l).2)

end Sys2Proof.Machine
end

section
/-! Groups of lanes: their definition, their training and its timeouts (R441 to R444). -/

namespace Sys2Proof.Machine

open Reg

/-! ### A group starts -/

section
variable (s : State)

theorem State.get_untrain (g : Nat) (f : Field) : (s.untrain g).get f = s.get f :=
  State.each_keeps (fun t => t.get f) s _ _ fun t _ => t.get_setLane _ _ f

/-- A lane of a group whose far end is forgotten. -/
theorem State.lane_untrain {g l : Nat} (member : l ∈ s.members g) :
    ((s.untrain g).lane l).ready = false ∧ ((s.untrain g).lane l).ltsGood = 0 := by
  constructor
  · refine State.each_settles (fun t => (t.lane l).ready) s member (fun t => ?_) fun k _ other t => ?_
    · exact congrArg LaneState.ready (t.lane_setLane_same l _)
    · exact congrArg LaneState.ready (t.lane_setLane_ne _ other.symm)
  · refine State.each_settles (fun t => (t.lane l).ltsGood) s member (fun t => ?_) fun k _ other t => ?_
    · exact congrArg LaneState.ltsGood (t.lane_setLane_same l _)
    · exact congrArg LaneState.ltsGood (t.lane_setLane_ne _ other.symm)

/-- Losing lock, a lane forgets nothing of its training. -/
theorem State.training_dropLock (l k : Nat) : ((s.dropLock l).lane k).ready = (s.lane k).ready
    ∧ ((s.dropLock l).lane k).ltsGood = (s.lane k).ltsGood := by
  rw [s.lane_dropLock]
  split
  · next same => exact same ▸ ⟨rfl, rfl⟩
  · exact ⟨rfl, rfl⟩

/-- Step 1 of the training, before the lanes of a large group lose lock. -/
def State.firstStep (s : State) (g : Nat) : State :=
  ((((s.untrain g).setGroup g { step := 1 }).put (XCV_LN_STAT.grp_state g) 1).put (XCV_LN_STAT.reason g) 0).put
    (XCV_LN_STAT.step_fail g) 0

theorem State.toStep1_eq (g : Nat) : s.toStep1 g = (s.firstStep g).when (decide (5 ≤ (s.firstStep g).get (XCV_LN_GRP.count g)))
    fun s => (s.each (s.members g) fun s l => s.dropLock l).put (XCV_LN_STAT.rate_idx g) (s.get (XCV_LN_GRP.rate_min g)) := rfl

/-- The lock and the rate are what the second part of step 1 stores. -/
theorem State.get_toStep1 {g : Nat} {f : Field} (low : f.hi < 28) (rate : 22 < f.lo ∨ f.hi < 21) :
    (s.toStep1 g).get f = (s.firstStep g).get f := by
  rw [s.toStep1_eq]
  refine State.when_keeps (fun t => t.get f) _ _ _ fun t => ?_
  refine (State.get_put_apart _ (f := XCV_LN_STAT.rate_idx g) _ (by omega) rate.symm).trans ?_
  exact State.each_keeps (fun t => t.get f) t _ _ fun u l => u.get_dropLock l (.inr (.inl low))

theorem State.get_firstStep (g : Nat) : (s.firstStep g).get (XCV_LN_STAT.grp_state g) = 1
    ∧ (s.firstStep g).get (XCV_LN_STAT.reason g) = 0 ∧ (s.firstStep g).get (XCV_LN_STAT.step_fail g) = 0 := by
  refine ⟨?_, ?_, State.get_put_same _ 0 (by simp [XCV_LN_STAT.step_fail])⟩
  · refine (State.get_put_apart _ (f := XCV_LN_STAT.step_fail g) 0 (by simp [XCV_LN_STAT.grp_state])
      (.inr (by simp [XCV_LN_STAT.grp_state, XCV_LN_STAT.step_fail]))).trans ?_
    refine (State.get_put_apart _ (f := XCV_LN_STAT.reason g) 0 (by simp [XCV_LN_STAT.grp_state])
      (.inr (by simp [XCV_LN_STAT.grp_state, XCV_LN_STAT.reason]))).trans ?_
    exact State.get_put_same _ 1 (by simp [XCV_LN_STAT.grp_state])
  · refine (State.get_put_apart _ (f := XCV_LN_STAT.step_fail g) 0 (by simp [XCV_LN_STAT.reason])
      (.inl (by simp [XCV_LN_STAT.reason, XCV_LN_STAT.step_fail]))).trans ?_
    exact State.get_put_same _ 0 (by simp [XCV_LN_STAT.reason])

theorem State.lane_toStep1 {g l : Nat} (member : l ∈ s.members g) :
    ((s.toStep1 g).lane l).ready = false ∧ ((s.toStep1 g).lane l).ltsGood = 0 := by
  have first : (s.firstStep g).lane l = (s.untrain g).lane l := rfl
  rw [s.toStep1_eq]
  constructor
  · refine Eq.trans (State.when_keeps (fun t => (t.lane l).ready) _ _ _ fun t => ?_)
      ((congrArg LaneState.ready first).trans (s.lane_untrain member).1)
    exact State.each_keeps (fun t => (t.lane l).ready) t _ _ fun u k => (u.training_dropLock k l).1
  · refine Eq.trans (State.when_keeps (fun t => (t.lane l).ltsGood) _ _ _ fun t => ?_)
      ((congrArg LaneState.ltsGood first).trans (s.lane_untrain member).2)
    exact State.each_keeps (fun t => (t.lane l).ltsGood) t _ _ fun u k => (u.training_dropLock k l).2

theorem State.get_groupRuns (g : Nat) : (s.groupRuns g).get (XCV_LN_STAT.grp_state g) = 4 :=
  (State.get_laneEvent _ _ _ _ _ (f := XCV_LN_STAT.grp_state g) (pastEvents_stat g)).trans
    (State.get_put_same _ 4 (by simp [XCV_LN_STAT.grp_state]))

end

section
variable {s : State}

theorem State.groupCheck_starts {g : Nat} (fits : s.is (XCV_LN_STAT.cfg_err g) = false)
    (off : s.get (XCV_LN_STAT.grp_state g) = 0) (on : ∀ l ∈ s.members g, s.is (XCV_LN_CFG.tx_en l) = true
      ∧ s.is (XCV_LN_CFG.rx_en l) = true ∧ s.get (XCV_LN_STAT.pstate l) = 0) :
    s.groupCheck g = if s.get (XCV_LN_GRP.train g) = 0 then s.groupRuns g else s.toStep1 g := by
  have all : ((s.members g).all fun l => s.is (XCV_LN_CFG.tx_en l) && s.is (XCV_LN_CFG.rx_en l)
      && decide (s.get (XCV_LN_STAT.pstate l) = 0)) = true := by
    rw [List.all_eq_true]
    intro l member
    obtain ⟨tx, rx, active⟩ := on l member
    simp [tx, rx, active]
  simp [State.groupCheck, fits, off, all]

theorem exec_groupDefine {l : Fin 48} {v : Word} (train : (s.write (XCV_LN_GRP.off l) v).get (XCV_LN_GRP.train l) ≠ 3)
    (count : (s.write (XCV_LN_GRP.off l) v).get (XCV_LN_GRP.count l) ≤ 48)
    (rates : (s.write (XCV_LN_GRP.off l) v).get (XCV_LN_GRP.rate_min l) ≤ (s.write (XCV_LN_GRP.off l) v).get (XCV_LN_GRP.rate_max l)) :
    exec (.groupDefine l v) s = .next ((s.write (XCV_LN_GRP.off l) v).each
      ((s.leaderOf l).toList ++ ((s.write (XCV_LN_GRP.off l) v).leaderOf l).toList).dedup fun s g =>
        ((s.groupOff g).putB (XCV_LN_STAT.cfg_err g) (!s.groupFits g)).groupCheck g) := by
  show execGroupDefine l v s = _
  have train := decide_eq_false train
  have count := decide_eq_false (Nat.not_lt.mpr count)
  have rates := decide_eq_false (Nat.not_lt.mpr rates)
  simp only [execGroupDefine, State.writeGroup, State.when, train, count, rates, Bool.false_eq_true, if_false]

/-! ### A training block (R442, R443) -/

section
variable {l : Fin 48} {g : Nat} {b : Lts} (leader : s.leaderOf l = some g) (mode : s.get (XCV_LN_GRP.train g) = 1)
  (receives : s.receives l = true) (trains : s.get (XCV_LN_STAT.grp_state g) ∈ [1, 2, 3])
include leader mode receives trains

theorem exec_ltsBlock_training : exec (.ltsBlock l b) s =
    if b.type = 0x69 && b.swapped then .next (((s.setLane l { s.lane l with ltsGood := 0 }).putB (XCV_LN_STAT.pol_inv l)
      (!s.is (XCV_LN_STAT.pol_inv l))).laneEvent l 3 CORRECTED 0x0E04)
    else if b.type ≠ 0x96 || b.swapped || crcPoly 8 0x07 48 (b.payload.toNat / 256) ≠ b.payload.toNat % 256 then
      .next (s.setLane l { s.lane l with ltsGood := 0 })
    else if s.get (XCV_LN_GRP.count g) ≤ 4 then
      (if b.payload.toNat / 2 ^ 48 = l - g || b.payload.toNat / 2 ^ 48 = s.get (XCV_LN_GRP.count g) - 1 - (l - g)
        then .next ((s.takeLts g l b.payload.toNat).smallGroup g) else .next ((s.takeLts g l b.payload.toNat).groupFails g 3))
    else .next ((s.takeLts g l b.payload.toNat).largeGroup g) := by
  have off : s.get (XCV_LN_STAT.grp_state g) ≠ 0 := by rintro h; simp [h] at trains
  have runs : s.get (XCV_LN_STAT.grp_state g) ≠ 4 := by rintro h; simp [h] at trains
  have failed : s.get (XCV_LN_STAT.grp_state g) ≠ 5 := by rintro h; simp [h] at trains
  show execLtsBlock l b s = _
  unfold execLtsBlock
  simp only [leader, mode, receives, off, runs, failed]
  rfl

theorem exec_ltsBlock_swapped (type : b.type = 0x69) (swapped : b.swapped = true) : exec (.ltsBlock l b) s
    = .next (((s.setLane l { s.lane l with ltsGood := 0 }).putB (XCV_LN_STAT.pol_inv l)
      (!s.is (XCV_LN_STAT.pol_inv l))).laneEvent l 3 CORRECTED 0x0E04) := by
  rw [exec_ltsBlock_training leader mode receives trains, if_pos (by simp [type, swapped])]

theorem exec_ltsBlock_badCrc (straight : b.swapped = false)
    (bad : crcPoly 8 0x07 48 (b.payload.toNat / 256) ≠ b.payload.toNat % 256) :
    exec (.ltsBlock l b) s = .next (s.setLane l { s.lane l with ltsGood := 0 }) := by
  rw [exec_ltsBlock_training leader mode receives trains, if_neg (by simp [straight]), if_pos (by simp [bad])]

theorem exec_ltsBlock_good (type : b.type = 0x96) (straight : b.swapped = false)
    (good : crcPoly 8 0x07 48 (b.payload.toNat / 256) = b.payload.toNat % 256) :
    exec (.ltsBlock l b) s = if s.get (XCV_LN_GRP.count g) ≤ 4 then
      (if b.payload.toNat / 2 ^ 48 = l - g || b.payload.toNat / 2 ^ 48 = s.get (XCV_LN_GRP.count g) - 1 - (l - g)
        then .next ((s.takeLts g l b.payload.toNat).smallGroup g) else .next ((s.takeLts g l b.payload.toNat).groupFails g 3))
    else .next ((s.takeLts g l b.payload.toNat).largeGroup g) := by
  rw [exec_ltsBlock_training leader mode receives trains, if_neg (by simp [straight]), if_neg (by simp [type, straight, good])]

end

/-! ### Rates, timeouts and the retry (R444) -/

theorem exec_rateSwitch_completes {g : Fin 48} (step : (s.group g).step = 4) (switch : (s.group g).switch = true) :
    ∃ t, exec (.rateSwitch g) s = .next t ∧ t.get (XCV_LN_STAT.rate_idx g) = (s.get (XCV_LN_STAT.rate_idx g) + 1) % 4
      ∧ t.group g = { s.group g with step := 5, prev := s.get (XCV_LN_STAT.rate_idx g), switch := false } := by
  refine ⟨(((s.untrain g).setGroup g { s.group g with step := 5, prev := s.get (XCV_LN_STAT.rate_idx g), switch := false }).put
    (XCV_LN_STAT.rate_idx g) (s.get (XCV_LN_STAT.rate_idx g) + 1)), ?_, ?_, ?_⟩
  · show execRateSwitch g s = _
    simp [execRateSwitch, step, switch]
  · exact State.get_put_same _ _ (by simp [XCV_LN_STAT.rate_idx])
  · rw [State.group_put, State.group_setGroup_same]

theorem exec_stepRetrainTimeout_completes {g : Fin 48} (step : (s.group g).step = 5) (first : (s.group g).final = false)
    (prev : (s.group g).prev < 4) : ∃ t, exec (.stepRetrainTimeout g) s = .next t
      ∧ t.get (XCV_LN_STAT.rate_idx g) = (s.group g).prev ∧ t.get (XCV_LN_STAT.step_fail g) = 1
      ∧ t.group g = { s.group g with step := 5, final := true } := by
  refine ⟨((((s.untrain g).setGroup g { s.group g with final := true }).put (XCV_LN_STAT.rate_idx g) (s.group g).prev).put
    (XCV_LN_STAT.step_fail g) 1), ?_, ?_, ?_, ?_⟩
  · show execStepRetrainTimeout g s = _
    simp [execStepRetrainTimeout, step, first]
  · refine (State.get_put_apart _ (f := XCV_LN_STAT.step_fail g) 1 (by simp [XCV_LN_STAT.rate_idx])
      (.inr (by simp [XCV_LN_STAT.rate_idx, XCV_LN_STAT.step_fail]))).trans ?_
    exact (State.get_put_same _ _ (by simp [XCV_LN_STAT.rate_idx])).trans (Nat.mod_eq_of_lt prev)
  · exact State.get_put_same _ 1 (by simp [XCV_LN_STAT.step_fail])
  · rw [State.group_put, State.group_put, State.group_setGroup_same, ← step]

theorem exec_groupTrainTimeout_silent {g : Fin 48} (large : 5 ≤ s.get (XCV_LN_GRP.count g))
    (on : s.get (XCV_LN_STAT.grp_state g) ≠ 0) (step : (s.group g).step = 1 ∨ (s.group g).step = 2)
    (silent : ∀ l ∈ s.members g, (s.lane l).badTag = false ∧ (s.lane l).badCount = false
      ∧ ((s.lane l).index = none ∨ (s.lane l).index = some (l - g))) :
    exec (.groupTrainTimeout g) s = .next ((s.setGroup g { s.group g with step := 0 }).groupFails g 5) := by
  have tags : ((s.members g).any fun l => (s.lane l).badTag) = false := by
    simp only [List.any_eq_false, Bool.not_eq_true]
    exact fun l member => (silent l member).1
  have counts : ((s.members g).any fun l => (s.lane l).badCount) = false := by
    simp only [List.any_eq_false, Bool.not_eq_true]
    exact fun l member => (silent l member).2.1
  have order : ((s.members g).any fun l => match (s.lane l).index with | some i => decide (i ≠ l - g) | none => false)
      = false := by
    simp only [List.any_eq_false, Bool.not_eq_true]
    intro l member
    rcases (silent l member).2.2 with none | own
    · rw [none]
    · rw [own]
      simp
  have few : ¬ s.get (XCV_LN_GRP.count g) < 5 := by omega
  have early : ((s.group g).step = 1 || (s.group g).step = 2 || ((s.group g).step = 4 && !(s.group g).switch)) = true := by
    rcases step with one | two <;> simp [*]
  have fourth : (s.group g).step ≠ 4 := by omega
  show execGroupTrainTimeout g s = _
  refine (if_neg ?_).trans (congrArg (fun r => (.next ((s.setGroup g { s.group g with step := 0 }).groupFails g r) : Out)) ?_)
  · simp only [few, on, early]
    simp
  · refine (if_neg (Bool.eq_false_iff.mp tags)).trans ((if_neg (Bool.eq_false_iff.mp counts)).trans ?_)
    exact (if_neg (Bool.eq_false_iff.mp order)).trans (if_neg fourth)

theorem exec_groupRetry {g : Fin 48} (large : 5 ≤ s.get (XCV_LN_GRP.count g)) (failed : s.get (XCV_LN_STAT.grp_state g) = 5) :
    exec (.groupRetry g) s = .next (s.toStep1 g) :=
  congrArg _ (State.when_of_true (by simp [large, failed]) _)

theorem exec_groupLockLossTimeout {l : Fin 48} {g : Nat} (leader : s.leaderOf l = some g)
    (large : 5 ≤ s.get (XCV_LN_GRP.count g)) (runs : s.get (XCV_LN_STAT.grp_state g) = 4)
    (lost : s.is (XCV_LN_STAT.locked l) = false) : exec (.groupLockLossTimeout l) s = .next (s.toStep1 g) := by
  show execGroupLockLossTimeout l s = _
  simp [execGroupLockLossTimeout, leader, Nat.not_lt.mpr large, runs, lost]

end

/-- Settles O56, command by command; step 1 of the training lane by lane. -/
theorem laneGroupCommandsComplete : Obligations.LaneGroupCommandsComplete := by
  unfold Obligations.LaneGroupCommandsComplete
  refine ⟨fun s l v => exec_groupDefine, fun s g fits off on => ?_, fun s l g b leader mode receives trains => ?_,
    fun s g => exec_rateSwitch_completes, fun s g step first prev => ?_, fun s g => exec_groupTrainTimeout_silent,
    fun s g => exec_groupRetry, fun s l g => exec_groupLockLossTimeout, fun s g => ?_⟩
  · rw [State.groupCheck_starts fits off on]
    exact ⟨fun straight => ⟨if_pos straight, s.get_groupRuns g⟩, fun trains => if_neg trains⟩
  · refine ⟨exec_ltsBlock_swapped leader mode receives trains, fun _ => exec_ltsBlock_badCrc leader mode receives trains,
      fun type straight good => ?_⟩
    rw [exec_ltsBlock_good leader mode receives trains type straight good]
    refine ⟨fun large => if_neg (by omega), fun small order => ?_, fun small straight turned => ?_⟩
    · rw [if_pos small, if_pos (by simpa using order)]
    · rw [if_pos small, if_neg (by simpa using ⟨straight, turned⟩)]
  · obtain ⟨t, run, rate, fail, group⟩ := exec_stepRetrainTimeout_completes step first prev
    exact ⟨t, run, rate, fail, by rw [group, ← step]⟩
  · obtain ⟨state, reason, fail⟩ := s.get_firstStep g
    refine ⟨?_, ?_, ?_, fun l => s.lane_toStep1⟩
    · rw [s.get_toStep1 (by simp [XCV_LN_STAT.grp_state]) (.inl (by simp [XCV_LN_STAT.grp_state])), state]
    · rw [s.get_toStep1 (by simp [XCV_LN_STAT.reason]) (.inr (by simp [XCV_LN_STAT.reason])), reason]
    · rw [s.get_toStep1 (by simp [XCV_LN_STAT.step_fail]) (.inr (by simp [XCV_LN_STAT.step_fail])), fail]

end Sys2Proof.Machine
end

section
/-! Faults, calibration, checkers, eye scans and injectors of the lanes (R443, R445, R448 to R451). -/

namespace Sys2Proof.Machine

open Reg

/-- What every round of an iteration keeps holds after it. -/
theorem State.each_preserves {α : Type} {P : State → Prop} {l : List α} {f : State → α → State} (keeps : ∀ t x, P t → P (f t x))
    {s : State} (start : P s) : P (s.each l f) := by
  induction l generalizing s with
  | nil => exact start
  | cons x l ih => exact ih (keeps s x start)

section
variable {s : State}

/-! ### Faults (R445) -/

theorem exec_txFault {l : Fin 48} (sends : s.is (XCV_LN_CFG.tx_en l) = true) (on : (s.lane l).driverOff = false) :
    exec (.txFault l) s = .next (((s.setLane l { s.lane l with driverOff := true }).put (XCV_LN_FAULT.fault l) 1).laneEvent
      l 2 CONTAINED 0x0E01) := by
  show execTxFault l s = _
  simp [execTxFault, sends, on]

theorem exec_txFaultRetry {l : Fin 48} (off : (s.lane l).driverOff = true) (few : s.get (XCV_LN_FAULT.retries l) < 8) :
    exec (.txFaultRetry l) s = .next (((s.setLane l { s.lane l with driverOff := false }).count
      (XCV_LN_FAULT.retries l)).put (XCV_LN_FAULT.fault l) 0) := by
  show execTxFaultRetry l s = _
  simp [execTxFaultRetry, off, Nat.not_le.mpr few]

theorem exec_txFaultRetry_spent {l : Fin 48} (spent : 8 ≤ s.get (XCV_LN_FAULT.retries l)) :
    exec (.txFaultRetry l) s = .next s := by
  show execTxFaultRetry l s = _
  simp [execTxFaultRetry, spent]

theorem exec_receiverDetect_found {l : Fin 48} (sends : s.is (XCV_LN_CFG.tx_en l) = true) (open_ : s.get (XCV_LN_FAULT.fault l) = 2) :
    exec (.receiverDetect l true) s = .next (s.put (XCV_LN_FAULT.fault l) 0) := by
  show execReceiverDetect l true s = _
  simp [execReceiverDetect, sends, open_, State.when]

theorem exec_receiverDetect_open {l : Fin 48} (sends : s.is (XCV_LN_CFG.tx_en l) = true) (well : s.get (XCV_LN_FAULT.fault l) = 0) :
    exec (.receiverDetect l false) s = .next ((s.put (XCV_LN_FAULT.fault l) 2).laneEvent l 2 INFO 0x0E02) := by
  show execReceiverDetect l false s = _
  simp [execReceiverDetect, sends, well, State.when]

/-- A lane whose signal is gone, before its lock is lost. -/
def State.signalGone (s : State) (l : Nat) : State :=
  ((s.put (XCV_LN_STAT.los l) 1).put (XCV_LN_FAULT.fault l) 3).setLane l
    { ((s.put (XCV_LN_STAT.los l) 1).put (XCV_LN_FAULT.fault l) 3).lane l with frozen := true }

theorem State.get_signalGone (l : Nat) : (s.signalGone l).get (XCV_LN_STAT.los l) = 1
    ∧ (s.signalGone l).get (XCV_LN_FAULT.fault l) = 3 := by
  constructor
  · refine (State.get_setLane _ _ _ _).trans ((State.get_put_off _ 3 (laneStat_apart l l).2.2.2.1.symm).trans ?_)
    exact s.get_put_same 1 (by simp [XCV_LN_STAT.los])
  · exact (State.get_setLane _ _ _ _).trans (State.get_put_same _ 3 (by simp [XCV_LN_FAULT.fault]))

theorem State.frozen_loseLock (l : Nat) (frozen : (s.lane l).frozen = true) : ((s.loseLock l).lane l).frozen = true := by
  rcases s.lane_loseLock l with same | lost
  · rw [same, frozen]
  · rw [lost, frozen]

theorem exec_lossOfSignal_completes {l : Fin 48} (receives : s.is (XCV_LN_CFG.rx_en l) = true)
    (signal : s.is (XCV_LN_STAT.los l) = false) : ∃ t, exec (.lossOfSignal l) s = .next t
      ∧ t.get (XCV_LN_STAT.los l) = 1 ∧ t.get (XCV_LN_FAULT.fault l) = 3
      ∧ t.get (XCV_LN_STAT.locked l) = 0 ∧ t.get (XCV_LN_STAT.fec_locked l) = 0 ∧ (t.lane l).frozen = true := by
  refine ⟨(((s.signalGone l).loseLock l).dropLock l).laneEvent l 2 CONTAINED 0x0E03, ?_, ?_, ?_, ?_, ?_, ?_⟩
  · show execLossOfSignal l s = _
    exact if_neg (by simp [receives, signal])
  · rw [State.get_laneEvent _ _ _ _ _ (f := XCV_LN_STAT.los l) (pastEvents_stat l)]
    refine (State.get_dropLock _ l (.inr (.inl (by simp [XCV_LN_STAT.los])))).trans ?_
    exact (State.get_loseLock _ l (pastEvents_stat l) (.inr (.inl (by simp [XCV_LN_STAT.los])))).trans (s.get_signalGone l).1
  · rw [State.get_laneEvent _ _ _ _ _ (f := XCV_LN_FAULT.fault l) (pastEvents_fault l)]
    refine (State.get_dropLock _ l (.inl (laneStat_apart l l).2.2.2.1)).trans ?_
    exact (State.get_loseLock _ l (pastEvents_fault l) (.inl (laneStat_apart l l).2.2.2.1)).trans (s.get_signalGone l).2
  · rw [State.get_laneEvent _ _ _ _ _ (f := XCV_LN_STAT.locked l) (pastEvents_stat l), State.locked_dropLock]
  · rw [State.get_laneEvent _ _ _ _ _ (f := XCV_LN_STAT.fec_locked l) (pastEvents_stat l), State.fec_dropLock]
  · rw [State.lane_laneEvent, State.lane_dropLock_same]
    exact State.frozen_loseLock l (congrArg LaneState.frozen (State.lane_setLane_same _ l _))

/-- A lane whose signal is back. -/
def State.signalBack (s : State) (l : Nat) : State :=
  (s.put (XCV_LN_STAT.los l) 0).setLane l { (s.put (XCV_LN_STAT.los l) 0).lane l with frozen := false }

theorem State.fault_signalBack (l : Nat) : (s.signalBack l).get (XCV_LN_FAULT.fault l) = s.get (XCV_LN_FAULT.fault l) :=
  (State.get_setLane _ _ _ _).trans (s.get_put_off (f := XCV_LN_STAT.los l) 0 (laneStat_apart l l).2.2.2.1)

theorem exec_signalReturn_completes {l : Fin 48} (lost : s.is (XCV_LN_STAT.los l) = true) :
    ∃ t, exec (.signalReturn l) s = .next t ∧ t.get (XCV_LN_STAT.los l) = 0 ∧ (t.lane l).frozen = false
      ∧ t.get (XCV_LN_FAULT.fault l)
          = (if s.get (XCV_LN_FAULT.fault l) = 3 then 0 else s.get (XCV_LN_FAULT.fault l)) := by
  refine ⟨(s.signalBack l).when (decide ((s.signalBack l).get (XCV_LN_FAULT.fault l) = 3)) fun s =>
    s.put (XCV_LN_FAULT.fault l) 0, ?_, ?_, ?_, ?_⟩
  · show execSignalReturn l s = _
    exact if_neg (by simp [lost])
  · refine (State.when_keeps (fun t => t.get (XCV_LN_STAT.los l)) _ _ _ fun t =>
      t.get_put_off (f := XCV_LN_FAULT.fault l) 0 (laneStat_apart l l).2.2.2.1.symm).trans ?_
    exact (State.get_setLane _ _ _ _).trans (s.get_put_same 0 (by simp [XCV_LN_STAT.los]))
  · refine (State.when_keeps (fun t => (t.lane l).frozen) _ _ (fun s => s.put (XCV_LN_FAULT.fault l) 0) fun _ => rfl).trans ?_
    exact congrArg LaneState.frozen (State.lane_setLane_same _ l _)
  · rw [s.fault_signalBack]
    by_cases third : s.get (XCV_LN_FAULT.fault l) = 3
    · rw [State.when_of_true (decide_eq_true third), if_pos third]
      exact State.get_put_same _ 0 (by simp [XCV_LN_FAULT.fault])
    · rw [State.when_of_false (decide_eq_false third), if_neg third, s.fault_signalBack]

theorem exec_laneFaultClear {l : Fin 48} {v : Word} (clear : bit v 31 = true) : exec (.laneFaultClear l v) s
    = .next (((s.setLane l { s.lane l with driverOff := false }).put (XCV_LN_FAULT.fault l) 0).put (XCV_LN_FAULT.retries l) 0) := by
  show execLaneFaultClear l v s = _
  simp [execLaneFaultClear, State.writeLaneFault, clear]

/-! ### Calibration (R448) -/

/-- Whether a lane rests: neither direction is enabled, or it is in DEEP. -/
def State.laneRests (s : State) (l : Nat) : Prop :=
  s.is (XCV_LN_CFG.tx_en l) = false ∧ s.is (XCV_LN_CFG.rx_en l) = false ∨ s.get (XCV_LN_STAT.pstate l) = 2

theorem State.laneRests_iff (l : Nat) : ((!s.is (XCV_LN_CFG.tx_en l) && !s.is (XCV_LN_CFG.rx_en l))
    || decide (s.get (XCV_LN_STAT.pstate l) = 2)) = true ↔ s.laneRests l := by
  simp [State.laneRests]

theorem State.laneRests_write (l : Nat) (v : Word) : (s.write (XCV_LN_MAINT.off l) v).laneRests l ↔ s.laneRests l := by
  have cfg (f : Field) (own : f.off = XCV_LN_CFG.off l) : (s.write (XCV_LN_MAINT.off l) v).is f = s.is f := by
    rw [State.is, State.get_write_off _ _ (by simp only [own, XCV_LN_CFG.off, XCV_LN_MAINT.off]; omega), State.is]
  rw [State.laneRests, cfg (XCV_LN_CFG.tx_en l) rfl, cfg (XCV_LN_CFG.rx_en l) rfl,
    State.get_write_off _ _ (laneStat_apart l l).2.2.1.symm, State.laneRests]

/-- A lane under calibration. -/
def State.calibrates (s : State) (l : Nat) : State :=
  ((s.put (XCV_LN_MAINT.answer l) 1).put (XCV_LN_MAINT.done l) 0).setLane l
    { ((s.put (XCV_LN_MAINT.answer l) 1).put (XCV_LN_MAINT.done l) 0).lane l with cal := true }

/-- A calibration of a lane that runs takes its lock, and with it the training of a large group. -/
def State.calHunts (s : State) (l : Nat) : State := ((s.calibrates l).loseLock l).dropLock l
def State.calRetrains (s : State) (l : Nat) : State :=
  match s.leaderOf l with
  | some g => if 5 ≤ s.get (XCV_LN_GRP.count g) && s.get (XCV_LN_STAT.grp_state g) ≠ 0 then s.toStep1 g else s
  | none => s

theorem exec_laneCal_rests {l : Fin 48} {v : Word} (cal : bit v 31 = true) (rests : s.laneRests l) : exec (.laneCal l v) s
    = .next (((((s.write (XCV_LN_MAINT.off l) v).put (XCV_LN_MAINT.answer l) 1).put (XCV_LN_MAINT.done l) 0)).setLane l
      { s.lane l with cal := true }) := by
  have idle := State.laneRests_iff l |>.mpr ((s.laneRests_write l v).mpr rests)
  show execLaneCal l v s = _
  simp only [execLaneCal, State.writeLaneMaint, cal, idle]
  rfl

theorem exec_laneCal_forced {l : Fin 48} {v : Word} (cal : bit v 31 = true) (runs : ¬ s.laneRests l)
    (force : (s.write (XCV_LN_MAINT.off l) v).is (XCV_LN_MAINT.force l) = true) :
    exec (.laneCal l v) s = .next (((s.write (XCV_LN_MAINT.off l) v).calHunts l).calRetrains l) := by
  have idle := Bool.eq_false_iff.mpr (mt (State.laneRests_iff l).mp (mt (s.laneRests_write l v).mp runs))
  show execLaneCal l v s = _
  simp only [execLaneCal, State.writeLaneMaint, cal, idle, force]
  rfl

theorem exec_laneCal_refused {l : Fin 48} {v : Word} (cal : bit v 31 = true) (runs : ¬ s.laneRests l)
    (force : (s.write (XCV_LN_MAINT.off l) v).is (XCV_LN_MAINT.force l) = false) :
    exec (.laneCal l v) s = .next ((s.write (XCV_LN_MAINT.off l) v).put (XCV_LN_MAINT.answer l) 3) := by
  have idle := Bool.eq_false_iff.mpr (mt (State.laneRests_iff l).mp (mt (s.laneRests_write l v).mp runs))
  show execLaneCal l v s = _
  simp only [execLaneCal, State.writeLaneMaint, cal, idle, force]
  rfl

/-- What a group's return to step 1 leaves of a lane in its calibration. -/
theorem State.maint_toStep1 (g l : Nat) : (s.toStep1 g).get (XCV_LN_MAINT.answer l) = s.get (XCV_LN_MAINT.answer l) := by
  have other (n : Nat) : XCV_LN_MAINT.off l ≠ XCV_LN_STAT.off n := (laneStat_apart l n).2.2.1
  have first : (s.firstStep g).get (XCV_LN_MAINT.answer l) = s.get (XCV_LN_MAINT.answer l) := by
    refine (State.get_put_off _ (f := XCV_LN_STAT.step_fail g) 0 (other g)).trans ?_
    refine (State.get_put_off _ (f := XCV_LN_STAT.reason g) 0 (other g)).trans ?_
    exact (State.get_put_off _ (f := XCV_LN_STAT.grp_state g) 1 (other g)).trans (s.get_untrain g _)
  rw [s.toStep1_eq]
  refine (State.when_keeps (fun t => t.get (XCV_LN_MAINT.answer l)) _ _ _ fun t => ?_).trans first
  refine (State.get_put_off _ (f := XCV_LN_STAT.rate_idx g) _ (other g)).trans ?_
  exact State.each_keeps (fun t => t.get (XCV_LN_MAINT.answer l)) t _ _ fun u k => u.get_dropLock k (.inl (other k))

theorem State.cal_setLane {l k : Nat} {v : LaneState} (same : v.cal = (s.lane l).cal) :
    ((s.setLane l v).lane k).cal = (s.lane k).cal := by
  rw [s.lane_setLane]
  split
  · next own => exact own ▸ same
  · rfl

theorem State.cal_toStep1 (g l : Nat) : ((s.toStep1 g).lane l).cal = (s.lane l).cal := by
  have first : ((s.firstStep g).lane l).cal = (s.lane l).cal :=
    State.each_keeps (fun t => (t.lane l).cal) s _ _ fun t _ => t.cal_setLane rfl
  rw [s.toStep1_eq]
  refine (State.when_keeps (fun t => (t.lane l).cal) _ _ _ fun t => ?_).trans first
  exact State.each_keeps (fun t => (t.lane l).cal) t _ _ fun u k => u.cal_setLane rfl

theorem State.locked_put_low {f : Field} (low : f.hi < 29) (v : Nat) {l : Nat} (lost : s.get (XCV_LN_STAT.locked l) = 0) :
    (s.put f v).get (XCV_LN_STAT.locked l) = 0 := by
  by_cases own : f.off = XCV_LN_STAT.off l
  · exact (s.get_put_apart v (by simp [XCV_LN_STAT.locked]) (.inr (by simpa [XCV_LN_STAT.locked]))).trans lost
  · exact (s.get_put_off v (Ne.symm own)).trans lost

theorem State.unlocked_dropLock (k : Nat) {l : Nat} (lost : s.get (XCV_LN_STAT.locked l) = 0) :
    (s.dropLock k).get (XCV_LN_STAT.locked l) = 0 := by
  by_cases own : k = l
  · exact own ▸ s.locked_dropLock k
  · exact (s.get_dropLock k (.inl (mt laneStat_inj (Ne.symm own)))).trans lost

theorem State.unlocked_toStep1 (g : Nat) {l : Nat} (lost : s.get (XCV_LN_STAT.locked l) = 0) :
    (s.toStep1 g).get (XCV_LN_STAT.locked l) = 0 := by
  have first : (s.firstStep g).get (XCV_LN_STAT.locked l) = 0 := by
    refine State.locked_put_low (f := XCV_LN_STAT.step_fail g) (by simp [XCV_LN_STAT.step_fail]) 0 ?_
    refine State.locked_put_low (f := XCV_LN_STAT.reason g) (by simp [XCV_LN_STAT.reason]) 0 ?_
    refine State.locked_put_low (f := XCV_LN_STAT.grp_state g) (by simp [XCV_LN_STAT.grp_state]) 1 ?_
    exact (s.get_untrain g _).trans lost
  rw [s.toStep1_eq]
  unfold State.when
  split
  · refine State.locked_put_low (f := XCV_LN_STAT.rate_idx g) (by simp [XCV_LN_STAT.rate_idx]) _ ?_
    exact State.each_preserves (P := fun t => t.get (XCV_LN_STAT.locked l) = 0) (fun t k => t.unlocked_dropLock k) first
  · exact first

theorem exec_laneCal_forced_completes {l : Fin 48} {v : Word} (cal : bit v 31 = true) (runs : ¬ s.laneRests l)
    (force : (s.write (XCV_LN_MAINT.off l) v).is (XCV_LN_MAINT.force l) = true) : ∃ t, exec (.laneCal l v) s = .next t
      ∧ t.get (XCV_LN_MAINT.answer l) = 1 ∧ (t.lane l).cal = true ∧ t.get (XCV_LN_STAT.locked l) = 0 := by
  refine ⟨_, exec_laneCal_forced cal runs force, ?_⟩
  generalize s.write (XCV_LN_MAINT.off l) v = u
  have answer : (u.calHunts l).get (XCV_LN_MAINT.answer l) = 1 := by
    have other : XCV_LN_MAINT.off l ≠ XCV_LN_STAT.off l := (laneStat_apart l l).2.2.1
    refine (State.get_dropLock _ l (.inl other)).trans ((State.get_loseLock _ l (pastEvents_maint l) (.inl other)).trans ?_)
    refine (State.get_setLane _ _ _ _).trans ((State.get_put_apart _ (f := XCV_LN_MAINT.done l) 0
      (by simp [XCV_LN_MAINT.answer]) (.inr (by simp [XCV_LN_MAINT.answer, XCV_LN_MAINT.done]))).trans ?_)
    exact State.get_put_same _ 1 (by simp [XCV_LN_MAINT.answer])
  have lane : ((u.calHunts l).lane l).cal = true := by
    have own : ((u.calibrates l).lane l).cal = true := congrArg LaneState.cal (State.lane_setLane_same _ l _)
    rw [State.calHunts, State.lane_dropLock_same]
    rcases (u.calibrates l).lane_loseLock l with same | lost
    · exact (congrArg LaneState.cal same).trans own
    · exact (congrArg LaneState.cal lost).trans own
  have lock : (u.calHunts l).get (XCV_LN_STAT.locked l) = 0 := State.locked_dropLock _ l
  unfold State.calRetrains
  split
  · split
    · rw [State.maint_toStep1, State.cal_toStep1, State.unlocked_toStep1 _ lock]
      exact ⟨answer, lane, rfl⟩
    · exact ⟨answer, lane, lock⟩
  · exact ⟨answer, lane, lock⟩

theorem exec_laneCalComplete {l : Fin 48} (cal : (s.lane l).cal = true) : exec (.laneCalComplete l) s
    = .next ((s.setLane l { s.lane l with cal := false }).put (XCV_LN_MAINT.done l) 1) :=
  congrArg _ (State.when_of_true cal _)

end

end Sys2Proof.Machine
end

section
/-! Checkers, eye scans and injectors of the lanes (R443, R449 to R451). -/

namespace Sys2Proof.Machine

open Reg

section
variable {s : State}

/-! ### Checkers (R443, R449) -/

/-- The errors of a checker that relocks, counted. -/
def State.relocks (s : State) (l : Nat) : State :=
  s.putWide (XCV_LN_PRBS_ERR0.off l) 2 (min (s.getWide (XCV_LN_PRBS_ERR0.off l) 2 + 257) (2 ^ 48 - 1))

/-- A checker that has locked. -/
def State.checks (s : State) (l : Nat) (inverted : Bool) : State :=
  (s.put (XCV_LN_PRBS.locked l) 1).putB (XCV_LN_PRBS.inverted l) inverted

theorem State.leaderOf_checks (l k : Nat) (inverted : Bool) : (s.checks l inverted).leaderOf k = s.leaderOf k := by
  refine State.leaderOf_of_counts (fun g => ?_) k
  have other : XCV_LN_GRP.off g ≠ XCV_LN_PRBS.off l := by
    simp only [XCV_LN_GRP.off, XCV_LN_PRBS.off]
    omega
  exact (State.get_put_off _ (f := XCV_LN_PRBS.inverted l) _ other).trans (s.get_put_off (f := XCV_LN_PRBS.locked l) 1 other)

theorem State.leaderOf_relocks (l k : Nat) : (s.relocks l).leaderOf k = s.leaderOf k := by
  refine State.leaderOf_of_counts (fun g => congrArg (bitsOf · 28 23) (State.sameRegs_putWide s _ _ _ _ ?_)) k
  simp only [List.mem_map, List.mem_range, not_exists, not_and, XCV_LN_PRBS_ERR0.off, XCV_LN_GRP.count, XCV_LN_GRP.off]
  omega

theorem State.get_checks (l : Nat) (inverted : Bool) : (s.checks l inverted).get (XCV_LN_PRBS.locked l) = 1
    ∧ (s.checks l inverted).get (XCV_LN_PRBS.inverted l) = inverted.toNat := by
  constructor
  · refine (State.get_put_apart _ (f := XCV_LN_PRBS.inverted l) _ (by simp [XCV_LN_PRBS.locked])
      (.inr (by simp [XCV_LN_PRBS.locked, XCV_LN_PRBS.inverted]))).trans ?_
    exact s.get_put_same 1 (by simp [XCV_LN_PRBS.locked])
  · refine (State.get_put_same _ _ (by simp [XCV_LN_PRBS.inverted])).trans ?_
    cases inverted <;> rfl

theorem exec_prbsCheckerLock_alone {l : Fin 48} {inverted relock : Bool} (receives : s.receives l = true)
    (alone : s.leaderOf l = none) (on : s.is (XCV_LN_PRBS.rx_en l) = true) :
    exec (.prbsCheckerLock l inverted relock) s = .next ((s.when relock fun s => s.relocks l).checks l inverted) := by
  have leader : ((s.when relock fun s => s.relocks l).checks l inverted).leaderOf l = none :=
    (State.leaderOf_checks _ _ _).trans
      ((State.when_keeps (fun t => t.leaderOf l) _ _ _ fun t => t.leaderOf_relocks l l).trans alone)
  show execPrbsCheckerLock l inverted relock s = _
  simp only [execPrbsCheckerLock, alone, receives, on]
  show (match ((s.when relock fun s => s.relocks l).checks l inverted).leaderOf l with | none => _ | some g => _) = _
  rw [leader]
  rfl

theorem State.errors_relocks (l : Nat) : (s.relocks l).getWide (XCV_LN_PRBS_ERR0.off l) 2
    = min (s.getWide (XCV_LN_PRBS_ERR0.off l) 2 + 257) (2 ^ 48 - 1) := by
  unfold State.relocks
  have small : min (s.getWide (XCV_LN_PRBS_ERR0.off l) 2 + 257) (2 ^ 48 - 1) < 2 ^ (32 * 2) :=
    lt_of_le_of_lt (Nat.min_le_right _ _) (by decide)
  generalize min (s.getWide (XCV_LN_PRBS_ERR0.off l) 2 + 257) (2 ^ 48 - 1) = n at small ⊢
  exact (State.getWide_of_words _ fun i hi => s.word_putWide _ n hi).trans (Nat.mod_eq_of_lt small)

theorem State.errors_checks (l : Nat) (inverted relock : Bool) :
    ((s.when relock fun s => s.relocks l).checks l inverted).getWide (XCV_LN_PRBS_ERR0.off l) 2 = if relock
      then min (s.getWide (XCV_LN_PRBS_ERR0.off l) 2 + 257) (2 ^ 48 - 1) else s.getWide (XCV_LN_PRBS_ERR0.off l) 2 := by
  have counts (u : State) : (u.checks l inverted).getWide (XCV_LN_PRBS_ERR0.off l) 2 = u.getWide (XCV_LN_PRBS_ERR0.off l) 2 := by
    refine State.getWide_of_same _ fun i hi => ?_
    have other : XCV_LN_PRBS_ERR0.off l + 4 * i ≠ XCV_LN_PRBS.off l := by
      simp only [XCV_LN_PRBS_ERR0.off, XCV_LN_PRBS.off]
      omega
    exact (State.word_put_ne _ (f := XCV_LN_PRBS.inverted l) _ other).trans (u.word_put_ne (f := XCV_LN_PRBS.locked l) 1 other)
  rw [counts]
  cases relock with
  | false => rw [State.when_of_false rfl, if_neg Bool.false_ne_true]
  | true => rw [State.when_of_true rfl, if_pos rfl, s.errors_relocks]

/-- An inverted pair is corrected. -/
def State.corrects (s : State) (l : Nat) : State :=
  (s.putB (XCV_LN_STAT.pol_inv l) (!s.is (XCV_LN_STAT.pol_inv l))).laneEvent l 3 CORRECTED 0x0E04

/-- What the training learns of a checker's lock: the lane is good, and an inverted pair is corrected. -/
def State.learns (s : State) (l : Nat) (inverted : Bool) : State :=
  (s.setLane l { s.lane l with prbsGood := true }).when inverted fun s => s.corrects l

theorem exec_prbsCheckerLock_training {l : Fin 48} {g : Nat} {inverted : Bool} (receives : s.receives l = true)
    (leader : s.leaderOf l = some g) (mode : s.get (XCV_LN_GRP.train g) = 2) (trains : s.get (XCV_LN_STAT.grp_state g) = 1) :
    exec (.prbsCheckerLock l inverted false) s = .next (((s.checks l inverted).learns l inverted).when
      (((s.checks l inverted).learns l inverted).allLanes g fun v => v.prbsGood) fun s => s.groupRuns g) := by
  have same := (s.leaderOf_checks l l inverted).trans leader
  show execPrbsCheckerLock l inverted false s = _
  simp only [execPrbsCheckerLock, leader, receives, mode, trains]
  show (match (s.checks l inverted).leaderOf l with | none => _ | some g => _) = _
  rw [same]
  rfl

theorem State.lane_corrects (l k : Nat) : (s.corrects l).lane k = s.lane k := State.lane_laneEvent _ _ _ _ _ _

theorem State.prbs_corrects (l : Nat) :
    (s.corrects l).get (XCV_LN_PRBS.locked l) = s.get (XCV_LN_PRBS.locked l) :=
  (State.get_laneEvent _ _ _ _ _ (f := XCV_LN_PRBS.locked l) (pastEvents_prbs l)).trans
    (s.get_put_off (f := XCV_LN_STAT.pol_inv l) _ (laneStat_apart l l).2.2.2.2.1)

theorem State.polarity_corrects (l : Nat) : (s.corrects l).is (XCV_LN_STAT.pol_inv l) = !s.is (XCV_LN_STAT.pol_inv l) := by
  have flips : (s.corrects l).get (XCV_LN_STAT.pol_inv l) = (!s.is (XCV_LN_STAT.pol_inv l)).toNat := by
    refine (State.get_laneEvent _ _ _ _ _ (f := XCV_LN_STAT.pol_inv l) (pastEvents_stat l)).trans ?_
    refine (s.get_put_same (!s.is (XCV_LN_STAT.pol_inv l)).toNat (by simp [XCV_LN_STAT.pol_inv])).trans ?_
    cases s.is (XCV_LN_STAT.pol_inv l) <;> rfl
  rw [State.is, flips]
  cases s.is (XCV_LN_STAT.pol_inv l) <;> rfl

theorem State.lane_learns (l k : Nat) (inverted : Bool) :
    (s.learns l inverted).lane k = if k = l then { s.lane l with prbsGood := true } else s.lane k :=
  (State.when_keeps (fun t => t.lane k) _ _ _ fun t => t.lane_corrects l k).trans (s.lane_setLane l k _)

theorem State.prbs_learns (l : Nat) (inverted : Bool) :
    (s.learns l inverted).get (XCV_LN_PRBS.locked l) = s.get (XCV_LN_PRBS.locked l) :=
  (State.when_keeps (fun t => t.get (XCV_LN_PRBS.locked l)) _ _ _ fun t => t.prbs_corrects l).trans (s.get_setLane l _ _)

theorem State.polarity_learns (l : Nat) :
    (s.learns l true).is (XCV_LN_STAT.pol_inv l) = !s.is (XCV_LN_STAT.pol_inv l) := by
  rw [State.learns, State.when_of_true rfl, State.polarity_corrects, State.is, State.get_setLane, State.is]

/-! ### Eye scans and injectors (R450, R451) -/

theorem exec_eyeScan_starts {l : Fin 48} {v : Word} (go : bit v 31 = true) (rests : s.is (XCV_LN_ES_CFG.busy l) = false)
    (locked : s.is (XCV_LN_STAT.locked l) = true) : exec (.eyeScan l v) s
      = .next (((s.write (XCV_LN_ES_CFG.off l) v).put (XCV_LN_ES_CFG.answer l) 1).put (XCV_LN_ES_CFG.busy l) 1) := by
  have lock : (s.write (XCV_LN_ES_CFG.off l) v).is (XCV_LN_STAT.locked l) = true := by
    rw [State.is, State.get_write_off _ _ (by simp only [XCV_LN_STAT.locked, XCV_LN_STAT.off, XCV_LN_ES_CFG.off]; omega)]
    exact locked
  show execEyeScan l v s = _
  simp [execEyeScan, State.writeEyeScan, go, rests, lock]

theorem exec_eyeScan_refused {l : Fin 48} {v : Word} (go : bit v 31 = true)
    (bad : s.is (XCV_LN_ES_CFG.busy l) = true ∨ s.is (XCV_LN_STAT.locked l) = false) : exec (.eyeScan l v) s
      = .next ((s.write (XCV_LN_ES_CFG.off l) v).put (XCV_LN_ES_CFG.answer l) 3) := by
  have lock : (s.write (XCV_LN_ES_CFG.off l) v).is (XCV_LN_STAT.locked l) = s.is (XCV_LN_STAT.locked l) := by
    rw [State.is, State.get_write_off _ _ (by simp only [XCV_LN_STAT.locked, XCV_LN_STAT.off, XCV_LN_ES_CFG.off]; omega), State.is]
  show execEyeScan l v s = _
  rcases bad with busy | hunts
  · simp [execEyeScan, State.writeEyeScan, go, busy]
  · simp [execEyeScan, State.writeEyeScan, go, lock, hunts]

theorem exec_eyeScanComplete_shows {l : Fin 48} (n : BitVec 48) (busy : s.is (XCV_LN_ES_CFG.busy l) = true) :
    ∃ t, exec (.eyeScanComplete l n) s = .next t ∧ t.get (XCV_LN_ES_CFG.busy l) = 0
      ∧ t.getWide (XCV_LN_ES_ERR0.off l) 2 = n.toNat := by
  refine ⟨(s.putWide (XCV_LN_ES_ERR0.off l) 2 n.toNat).put (XCV_LN_ES_CFG.busy l) 0, ?_,
    State.get_put_same _ 0 (by simp [XCV_LN_ES_CFG.busy]), ?_⟩
  · show execEyeScanComplete l n s = _
    simp [execEyeScanComplete, State.when, busy]
  refine (State.getWide_of_words (v := n.toNat) _ fun i hi => ?_).trans (Nat.mod_eq_of_lt (by omega))
  refine (State.word_put_ne _ (f := XCV_LN_ES_CFG.busy l) 0 ?_).trans (State.word_putWide _ _ _ hi)
  simp only [XCV_LN_ES_ERR0.off, XCV_LN_ES_CFG.busy, XCV_LN_ES_CFG.off]
  omega

theorem exec_laneFiArm_on {l : Fin 48} {v : Word} (arm : bit v 31 = true) (on : s.is (XCV_Q_CFG.fi_enable (l / 4)) = true) :
    exec (.laneFiArm l v) s = .next (((s.write (XCV_LN_FI.off l) v).setLane l { s.lane l with
      skip := (s.write (XCV_LN_FI.off l) v).get (XCV_LN_FI.skip l),
      times := (s.write (XCV_LN_FI.off l) v).get (XCV_LN_FI.times l), acted := false }).put (XCV_LN_FI.armed l) 1) := by
  have enabled : (s.write (XCV_LN_FI.off l) v).is (XCV_Q_CFG.fi_enable (l / 4)) = true := by
    rw [State.is, State.get_write_off _ _ (by simp only [XCV_Q_CFG.fi_enable, XCV_Q_CFG.off, XCV_LN_FI.off]; omega)]
    exact on
  show execLaneFiArm l v s = _
  simp only [execLaneFiArm, State.writeLaneFi, arm, enabled]
  rfl

end

/-- Settles O57, command by command; a calibration that takes a lane's lock goes through the group's return to step 1. -/
theorem laneUpkeepCommandsComplete : Obligations.LaneUpkeepCommandsComplete := by
  unfold Obligations.LaneUpkeepCommandsComplete
  refine ⟨fun s l => exec_txFault, fun s l => exec_txFaultRetry, fun s l => exec_txFaultRetry_spent,
    fun s l sends => ⟨exec_receiverDetect_found sends, exec_receiverDetect_open sends⟩, fun s l => exec_lossOfSignal_completes,
    fun s l => exec_signalReturn_completes, fun s l v => exec_laneFaultClear,
    fun s l v cal => ⟨exec_laneCal_rests cal, exec_laneCal_forced_completes cal, exec_laneCal_refused cal⟩,
    fun s l => exec_laneCalComplete, fun s l inv receives => ⟨fun alone on relock => ?_, fun g leader mode trains => ?_⟩,
    fun s l v go => ⟨exec_eyeScan_starts go, exec_eyeScan_refused go⟩, fun s l => exec_eyeScanComplete_shows,
    fun s l v => exec_laneFiArm_on⟩
  · exact ⟨_, exec_prbsCheckerLock_alone receives alone on, (State.get_checks _ _).1, (State.get_checks _ _).2,
      s.errors_checks l inv relock⟩
  · refine ⟨(s.checks l inv).learns l inv, ?_, ?_, fun k other => ?_, fun turned => ?_,
      exec_prbsCheckerLock_training receives leader mode trains⟩
    · rw [State.lane_learns, if_pos rfl]
    · rw [State.prbs_learns, (s.get_checks l inv).1]
    · rw [State.lane_learns, if_neg other]
      rfl
    · subst turned
      have same : (s.checks l true).is (XCV_LN_STAT.pol_inv l) = s.is (XCV_LN_STAT.pol_inv l) := by
        have other : XCV_LN_STAT.off l ≠ XCV_LN_PRBS.off l := (laneStat_apart l l).2.2.2.2.1.symm
        have get : (s.checks l true).get (XCV_LN_STAT.pol_inv l) = s.get (XCV_LN_STAT.pol_inv l) :=
          (State.get_put_off _ (f := XCV_LN_PRBS.inverted l) _ other).trans
            (s.get_put_off (f := XCV_LN_PRBS.locked l) 1 other)
        rw [State.is, get, State.is]
      rw [State.polarity_learns, same]

end Sys2Proof.Machine
end

section
/-! Stream contexts: their registers, their balance and what a context shows (R376 to R394). -/

namespace Sys2Proof.Machine

open Reg

/-! ### Where the entries lie -/

/-- An offset in the context table. -/
def inEntries (o : Nat) : Prop := 0x1000000 ≤ o

theorem entry_ne_out {o : Nat} (entry : inEntries o) : o ≠ SE_OUT.off := by
  simp only [inEntries] at entry
  simp only [SE_OUT.off]
  omega

theorem inEntries_stat (n : Nat) : inEntries (SE_SC_STAT.off n) := by simp only [inEntries, SE_SC_STAT.off]; omega
theorem inEntries_bal (n : Nat) : inEntries (SE_SC_BAL.off n) := by simp only [inEntries, SE_SC_BAL.off]; omega
theorem inEntries_idx (n : Nat) : inEntries (SE_SC_IDX.off n) := by simp only [inEntries, SE_SC_IDX.off]; omega
theorem inEntries_db (n : Nat) : inEntries (SE_SC_DB.off n) := by simp only [inEntries, SE_SC_DB.off]; omega
theorem inEntries_toll (n : Nat) : inEntries (SE_SC_TOLL.off n) := by simp only [inEntries, SE_SC_TOLL.off]; omega
theorem inEntries_ctrl (n : Nat) : inEntries (SE_SC_CTRL.off n) := by simp only [inEntries, SE_SC_CTRL.off]; omega
theorem inEntries_dring (n : Nat) : inEntries (SE_SC_DRING_HI.off n) := by simp only [inEntries, SE_SC_DRING_HI.off]; omega
theorem inEntries_err (n : Nat) : inEntries (SE_SC_ERR.off n) := by simp only [inEntries, SE_SC_ERR.off]; omega
theorem inEntries_quota (n : Nat) : inEntries (SE_SC_QUOTA.off n) := by simp only [inEntries, SE_SC_QUOTA.off]; omega

/-- The words that a context's rings and its control hold are none of those that its progress stores. -/
theorem entry_ne_stat (n : Nat) : SE_SC_IDX.off n ≠ SE_SC_STAT.off n ∧ SE_SC_DB.off n ≠ SE_SC_STAT.off n
    ∧ SE_SC_DRING_HI.off n ≠ SE_SC_STAT.off n ∧ SE_SC_CTRL.off n ≠ SE_SC_STAT.off n ∧ SE_SC_ERR.off n ≠ SE_SC_STAT.off n
    ∧ SE_SC_QUOTA.off n ≠ SE_SC_STAT.off n := by
  simp only [SE_SC_IDX.off, SE_SC_DB.off, SE_SC_DRING_HI.off, SE_SC_CTRL.off, SE_SC_ERR.off, SE_SC_QUOTA.off, SE_SC_STAT.off]
  omega

theorem entry_ne_ctrl (n : Nat) : SE_SC_IDX.off n ≠ SE_SC_CTRL.off n ∧ SE_SC_DB.off n ≠ SE_SC_CTRL.off n
    ∧ SE_SC_DRING_HI.off n ≠ SE_SC_CTRL.off n ∧ SE_SC_STAT.off n ≠ SE_SC_CTRL.off n := by
  simp only [SE_SC_IDX.off, SE_SC_DB.off, SE_SC_DRING_HI.off, SE_SC_STAT.off, SE_SC_CTRL.off]
  omega

section
variable (s : State)

/-! ### Rules of the context table -/

@[simp] theorem State.word_setCtx (n : Nat) (c : StreamCtx) (o : Nat) : (s.setCtx n c).word o = s.word o := rfl
@[simp] theorem State.get_setCtx (n : Nat) (c : StreamCtx) (f : Field) : (s.setCtx n c).get f = s.get f := rfl
@[simp] theorem State.ctx_put (f : Field) (v n : Nat) : (s.put f v).ctx n = s.ctx n := rfl

theorem State.ctx_of_se {s t : State} (same : t.se = s.se) (n : Nat) : t.ctx n = s.ctx n := by
  rw [State.ctx, same, State.ctx]

@[simp] theorem State.ctx_raise (pg k : Nat) (cls : BitVec 2) (code i0 i1 n : Nat) :
    (s.raise pg k cls code i0 i1).ctx n = s.ctx n := State.ctx_of_se (State.raise_se ..) n

@[simp] theorem State.ctx_setCtxState (n v k : Nat) : (s.setCtxState n v).ctx k = s.ctx k := rfl

theorem State.ctxState_setCtxState (n : Nat) {v : Nat} (hv : v < 16) : (s.setCtxState n v).ctxState n = v :=
  (s.get_put_same v (by simp [SE_SC_STAT.state])).trans (Nat.mod_eq_of_lt hv)

theorem State.word_setCtxState (n v : Nat) {o : Nat} (other : o ≠ SE_SC_STAT.off n) : (s.setCtxState n v).word o = s.word o :=
  s.word_put_ne (f := SE_SC_STAT.state n) v other

theorem State.word_outBy (n : Nat) (d : Int) {o : Nat} (entry : inEntries o) (other : o ≠ SE_SC_QUOTA.off n) :
    (s.outBy n d).word o = s.word o := by
  have port : (if n % 2 = 0 then SE_OUT.port_a else SE_OUT.port_b).off = SE_OUT.off := by split <;> rfl
  exact (State.word_put_ne _ _ (by rw [port]; exact entry_ne_out entry)).trans
    (s.word_put_ne (f := SE_SC_QUOTA.outstanding n) _ other)

theorem State.get_outBy (n : Nat) (d : Int) {f : Field} (entry : inEntries f.off) (other : f.off ≠ SE_SC_QUOTA.off n) :
    (s.outBy n d).get f = s.get f := congrArg (bitsOf · f.hi f.lo) (s.word_outBy n d entry other)

/-- The events of the stream engine and of the endpoint store nothing in the context table. -/
theorem State.word_raise_entry (pg k : Nat) (cls : BitVec 2) (code i0 i1 : Nat) {o : Nat} (low : pg ≤ 0x210000)
    (entry : inEntries o) : (s.raise pg k cls code i0 i1).word o = s.word o := by
  refine s.word_raise_ne _ _ _ _ _ _ ?_
  simp only [inEntries] at entry
  simp only [pageFLT, EVT.off, EVT_CNT.off, ERR_INFO0.off, ERR_INFO1.off, FLT_DROP.off, List.mem_cons, List.not_mem_nil,
    or_false]
  omega

/-! ### Signed fields -/

theorem State.getS_balance (n : Nat) : s.getS (SE_SC_BAL.v n)
    = if s.get (SE_SC_BAL.v n) < 2 ^ 31 then (s.get (SE_SC_BAL.v n) : Int) else (s.get (SE_SC_BAL.v n) : Int) - 2 ^ 32 := rfl

theorem State.balance_bounds (n : Nat) : -2 ^ 31 ≤ s.getS (SE_SC_BAL.v n) ∧ s.getS (SE_SC_BAL.v n) < 2 ^ 31 := by
  have small : s.get (SE_SC_BAL.v n) < 2 ^ 32 := s.get_lt _
  rw [s.getS_balance]
  generalize s.get (SE_SC_BAL.v n) = b at small
  split <;> omega

/-- A balance within 32 bits reads back. -/
theorem State.balance_putS (n : Nat) {v : Int} (low : -2 ^ 31 ≤ v) (high : v < 2 ^ 31) :
    (s.putS (SE_SC_BAL.v n) v).getS (SE_SC_BAL.v n) = v := by
  have stored : (s.putS (SE_SC_BAL.v n) v).get (SE_SC_BAL.v n) = (v % 4294967296).toNat := by
    refine (s.get_put_same (f := SE_SC_BAL.v n) _ (by simp [SE_SC_BAL.v])).trans (Nat.mod_eq_of_lt ?_)
    show (v % 4294967296).toNat < 4294967296
    omega
  rw [State.getS_balance, stored]
  split <;> omega

/-! ### What a context shows (R377, R394) -/

theorem State.heldRecords_nil {n : Nat} (none : (s.ctx n).recs = []) : s.heldRecords n = 0 := by
  unfold State.heldRecords
  rw [none]
  split <;> rfl

/-- The count of held records, and the event at its limit. -/
def State.showHeld (s : State) (n held : Nat) : State :=
  if 64 ≤ held && !(s.ctx n).limit then
    ((s.put (SE_SC_STAT.held n) (min held 64)).setCtx n { s.ctx n with limit := true }).raise pageSE0 3 INFO 0x0C04 n
      (errWord ((s.put (SE_SC_STAT.held n) (min held 64)).done n) 0 0)
  else (s.put (SE_SC_STAT.held n) (min held 64)).when (decide (held < 64) && (s.ctx n).limit) fun t =>
    t.setCtx n { s.ctx n with limit := false }

/-- Whether the context is IDLE, RUNNING or in WAIT_HOST. -/
def State.showRuns (s : State) (n held : Nat) (c : StreamCtx) : State :=
  if s.ctxState n = 1 || s.ctxState n = 2 || s.ctxState n = 3 then
    if 64 ≤ held then s.setCtxState n 3
    else if s.head n = s.tail n && c.work.isEmpty && c.recs.isEmpty then s.setCtxState n 1
    else if s.waitsHost n then s.setCtxState n 3
    else s.setCtxState n 2
  else s

theorem State.showCtx_eq (n : Nat) :
    s.showCtx n = (s.showHeld n (s.heldRecords n)).showRuns n (s.heldRecords n) (s.ctx n) := rfl

theorem State.word_showHeld (n held : Nat) {o : Nat} (entry : inEntries o) (other : o ≠ SE_SC_STAT.off n) :
    (s.showHeld n held).word o = s.word o := by
  have first := s.word_put_ne (f := SE_SC_STAT.held n) (min held 64) other
  unfold State.showHeld
  split
  · exact (State.word_raise_entry _ _ _ _ _ _ _ (by decide) entry).trans first
  · exact (State.when_keeps (fun t => t.word o) _ _ _ fun t => t.word_setCtx n _ o).trans first

/-- A context stands, or enters a state of those that run. -/
theorem State.showRuns_cases (n held : Nat) (c : StreamCtx) :
    s.showRuns n held c = s ∨ ∃ v, v < 16 ∧ s.showRuns n held c = s.setCtxState n v := by
  unfold State.showRuns
  split
  · split
    · exact .inr ⟨3, by decide, rfl⟩
    · split
      · exact .inr ⟨1, by decide, rfl⟩
      · split
        · exact .inr ⟨3, by decide, rfl⟩
        · exact .inr ⟨2, by decide, rfl⟩
  · exact .inl rfl

theorem State.word_showRuns (n held : Nat) (c : StreamCtx) {o : Nat} (other : o ≠ SE_SC_STAT.off n) :
    (s.showRuns n held c).word o = s.word o := by
  rcases s.showRuns_cases n held c with same | ⟨v, -, enters⟩
  · rw [same]
  · rw [enters]
    exact s.word_setCtxState n v other

/-- What a context shows leaves every other word of the table. -/
theorem State.word_showCtx (n : Nat) {o : Nat} (entry : inEntries o) (other : o ≠ SE_SC_STAT.off n) :
    (s.showCtx n).word o = s.word o := by
  rw [s.showCtx_eq]
  exact (State.word_showRuns _ _ _ _ other).trans (s.word_showHeld _ _ entry other)

theorem State.get_showHeld (n held : Nat) {f : Field} (stat : f.off = SE_SC_STAT.off n) (high : 26 < f.lo) (word : f.hi < 32) :
    (s.showHeld n held).get f = s.get f := by
  have first : (s.put (SE_SC_STAT.held n) (min held 64)).get f = s.get f :=
    s.get_put_apart _ word (.inr (by simpa [SE_SC_STAT.held]))
  unfold State.showHeld
  split
  · exact (congrArg (bitsOf · f.hi f.lo) (State.word_raise_entry _ _ _ _ _ _ _ (by decide) (stat ▸ inEntries_stat n))).trans first
  · exact (State.when_keeps (fun t => t.get f) _ _ _ fun t => t.get_setCtx n _ f).trans first

theorem State.phase_showCtx (n : Nat) : (s.showCtx n).get (SE_SC_STAT.phase n) = s.get (SE_SC_STAT.phase n) := by
  rw [s.showCtx_eq, ← s.get_showHeld n (s.heldRecords n) (f := SE_SC_STAT.phase n) rfl (by simp [SE_SC_STAT.phase])
    (by simp [SE_SC_STAT.phase])]
  rcases State.showRuns_cases (s.showHeld n (s.heldRecords n)) n (s.heldRecords n) (s.ctx n) with same | ⟨v, -, enters⟩
  · rw [same]
  · rw [enters]
    exact State.get_put_apart _ (f := SE_SC_STAT.state n) v (by simp [SE_SC_STAT.phase])
      (.inl (by simp [SE_SC_STAT.phase, SE_SC_STAT.state]))

/-- With no record held, the context's event of the limit is armed. -/
theorem State.ctx_showCtx {n : Nat} (none : s.heldRecords n = 0) : (s.showCtx n).ctx n = { s.ctx n with limit := false } := by
  have held : (s.showHeld n (s.heldRecords n)).ctx n = { s.ctx n with limit := false } := by
    rw [none, State.showHeld, if_neg (by simp)]
    cases limit : (s.ctx n).limit with
    | false =>
      rw [State.when_of_false (by simp), State.ctx_put, ← limit]
    | true =>
      rw [State.when_of_true (by simp), State.ctx_setCtx]
  rw [s.showCtx_eq, ← held]
  rcases State.showRuns_cases (s.showHeld n (s.heldRecords n)) n (s.heldRecords n) (s.ctx n) with same | ⟨v, -, enters⟩
  · rw [same]
  · rw [enters, State.ctx_setCtxState]

/-- A running context with nothing to do is IDLE. -/
theorem State.ctxState_showCtx_idle {n : Nat} (runs : s.ctxState n = 1 ∨ s.ctxState n = 2 ∨ s.ctxState n = 3)
    (empty : s.head n = s.tail n) (work : (s.ctx n).work = []) (recs : (s.ctx n).recs = []) :
    (s.showCtx n).ctxState n = 1 := by
  have held : (s.showHeld n (s.heldRecords n)).ctxState n = s.ctxState n :=
    s.get_showHeld n _ (f := SE_SC_STAT.state n) rfl (by simp [SE_SC_STAT.state]) (by simp [SE_SC_STAT.state])
  have word {o : Nat} (entry : inEntries o) (other : o ≠ SE_SC_STAT.off n) :
      (s.showHeld n (s.heldRecords n)).word o = s.word o := s.word_showHeld n _ entry other
  have head : (s.showHeld n (s.heldRecords n)).head n = s.head n :=
    congrArg (bitsOf · 31 16) (word (inEntries_idx n) (entry_ne_stat n).1)
  have tail : (s.showHeld n (s.heldRecords n)).tail n = s.tail n := by
    have db : (s.showHeld n (s.heldRecords n)).get (SE_SC_DB.tail n) = s.get (SE_SC_DB.tail n) :=
      congrArg (bitsOf · 15 0) (word (inEntries_db n) (entry_ne_stat n).2.1)
    have size : (s.showHeld n (s.heldRecords n)).get (SE_SC_DRING_HI.size n) = s.get (SE_SC_DRING_HI.size n) :=
      congrArg (bitsOf · 31 27) (word (inEntries_dring n) (entry_ne_stat n).2.2.1)
    rw [State.tail, db, State.ringLen, size, State.tail, State.ringLen]
  rw [s.showCtx_eq, State.showRuns, held, if_pos (by rcases runs with h | h | h <;> simp [h]),
    if_neg (by simp [s.heldRecords_nil recs]), head, tail, if_pos (by simp [empty, work, recs])]
  exact State.ctxState_setCtxState _ n (by decide)

end

end Sys2Proof.Machine
end

section
/-! What commands make of a stream context (R376, R378, R379, R459). -/

namespace Sys2Proof.Machine

open Reg

/-! ### The tables of a context's registers -/

theorem locate_entry {i o : Nat} (hi : i < 65536) (ho : o < 0x40) :
    locate (0x1000000 + 0x40 * i + o) = some (⟨0x1000000, 0x40, 65536, false, 0x0000, 0, .warm, false, 0, false, regsSC⟩, i, o) := by
  have index : (0x1000000 + 0x40 * i + o - 0x1000000) / 0x40 = i := by omega
  have inside : (0x1000000 + 0x40 * i + o - 0x1000000) % 0x40 = o := by omega
  have past (b c k : Nat) (h : b + k * c ≤ 0x1000000) (pos : 0 < c) : ¬ (0x1000000 + 0x40 * i + o - b) / c < k :=
    Nat.not_lt.mpr ((Nat.le_div_iff_mul_le pos).mpr (by omega))
  have reached (b : Nat) (h : b ≤ 0x1000000) : ¬ 0x1000000 + 0x40 * i + o < b := by omega
  simp [locate, pageDirectory, locate.go, index, inside, past, reached, hi, ho]

theorem fieldsAt_doorbell {n : Nat} (hn : n < 65536) : fieldsAt (SE_SC_DB.off n) = [⟨15, 0, .rw, .warm, 0, none⟩] := by
  rw [fieldsAt, SE_SC_DB.off, locate_entry hn (by decide)]
  rfl

theorem fieldsAt_toll {n : Nat} (hn : n < 65536) : fieldsAt (SE_SC_TOLL.off n) = [⟨15, 0, .rw, .warm, 0, none⟩] := by
  rw [fieldsAt, SE_SC_TOLL.off, locate_entry hn (by decide)]
  rfl

section
variable {s : State} {n : Nat}

theorem State.tail_write (v : Word) (hn : n < 65536) : (s.write (SE_SC_DB.off n) v).get (SE_SC_DB.tail n) = bitsOf v 15 0 :=
  (s.get_write (g := ⟨15, 0, .rw, .warm, 0, none⟩) v (fieldsAt_doorbell hn) (by simp) (by simp) (by simp)).trans
    (bitsOf_mod v 15 0)

theorem State.toll_write (v : Word) (hn : n < 65536) : (s.write (SE_SC_TOLL.off n) v).get (SE_SC_TOLL.toll n) = bitsOf v 15 0 :=
  (s.get_write (g := ⟨15, 0, .rw, .warm, 0, none⟩) v (fieldsAt_toll hn) (by simp) (by simp) (by simp)).trans
    (bitsOf_mod v 15 0)

theorem State.word_writeWhere_ne (off : Nat) (may : FieldSpec → Bool) (v : Word) {o : Nat} (other : o ≠ off) :
    (s.writeWhere off may v).word o = s.word o := s.word_setWord_ne _ other

/-- A context's control leaves its state. -/
theorem State.ctxState_writeCtrl (may : FieldSpec → Bool) (v : Word) :
    (s.writeWhere (SE_SC_CTRL.off n) may v).ctxState n = s.ctxState n :=
  congrArg (bitsOf · 31 28) (s.word_writeWhere_ne _ may v (entry_ne_ctrl n).2.2.2)

/-! ### Enabling (R378) -/

/-- What a write of a context's control may change, and what its bits then do. -/
def ctrlMay (on : Bool) (f : FieldSpec) : Bool := f.lo ≠ 31 && !(on && (f.lo = 27 || f.lo = 25 || f.lo = 17))
def State.ctrlActs (s : State) (n : Nat) (v : Word) (on : Bool) : State :=
  ((if bit v 31 && !on then s.enableCtx n else if !bit v 31 && on then s.disableCtx n else s).when (bit v 29) fun s =>
    s.stopCtx n).when (bit v 30) fun s => s.restartCtx n

theorem State.writeScCtrl_own {v : Word} (own : s.ctxHeld n = false) : s.writeScCtrl n v
    = (s.writeWhere (SE_SC_CTRL.off n) (ctrlMay (s.is (SE_SC_CTRL.enable n))) v).ctrlActs n v (s.is (SE_SC_CTRL.enable n)) :=
  (if_neg (by simp [own])).trans rfl

theorem State.writeScCtrl_enables {v : Word} (own : s.ctxHeld n = false) (off : s.is (SE_SC_CTRL.enable n) = false)
    (enable : bit v 31 = true) (go : bit v 30 = false) (stay : bit v 29 = false) : s.writeScCtrl n v
      = (s.writeWhere (SE_SC_CTRL.off n) (fun f => decide (f.lo ≠ 31)) v).enableCtx n := by
  have may : ctrlMay false = fun f => decide (f.lo ≠ 31) := by
    funext f
    simp [ctrlMay]
  rw [State.writeScCtrl_own own, off, may, State.ctrlActs, enable, State.when_of_false stay, State.when_of_false go]
  exact if_pos rfl

/-- A context at the front of its ring, in phase 1. -/
def State.ctxStarts (s : State) (n : Nat) : State :=
  (((((s.put (SE_SC_CTRL.enable n) 1).put (SE_SC_IDX.head n) 0).put (SE_SC_IDX.done n) 0).put (SE_SC_STAT.phase n) 1).setCtx n
    { on := true }).setCtxState n 1

theorem State.enableCtx_refuses (src : s.get (SE_SC_CTRL.src_kind n) = 0) (dst : s.get (SE_SC_CTRL.dst_kind n) = 0) :
    s.enableCtx n = s := by
  simp [State.enableCtx, src, dst]

theorem State.enableCtx_starts (src : s.get (SE_SC_CTRL.src_kind n) = 1) (dst : s.get (SE_SC_CTRL.dst_kind n) ≠ 3)
    (low : 4 ≤ s.get (SE_SC_DRING_HI.size n)) (high : s.get (SE_SC_DRING_HI.size n) ≤ 16) :
    s.enableCtx n = (s.ctxStarts n).showCtx n := by
  unfold State.enableCtx
  dsimp only
  rw [if_neg (by simp [src, dst]; omega)]
  rfl

theorem State.word_ctxStarts {o : Nat} (ctrl : o ≠ SE_SC_CTRL.off n) (idx : o ≠ SE_SC_IDX.off n) (stat : o ≠ SE_SC_STAT.off n) :
    (s.ctxStarts n).word o = s.word o := by
  refine (State.word_setCtxState _ n 1 stat).trans ((State.word_setCtx _ n _ o).trans ?_)
  refine (State.word_put_ne _ (f := SE_SC_STAT.phase n) 1 stat).trans ?_
  refine (State.word_put_ne _ (f := SE_SC_IDX.done n) 0 idx).trans ?_
  exact (State.word_put_ne _ (f := SE_SC_IDX.head n) 0 idx).trans (s.word_put_ne (f := SE_SC_CTRL.enable n) 1 ctrl)

theorem State.tail_of_words {s t : State} {n : Nat} (db : t.word (SE_SC_DB.off n) = s.word (SE_SC_DB.off n))
    (ring : t.word (SE_SC_DRING_HI.off n) = s.word (SE_SC_DRING_HI.off n)) : t.tail n = s.tail n := by
  have tail : t.get (SE_SC_DB.tail n) = s.get (SE_SC_DB.tail n) := congrArg (bitsOf · 15 0) db
  have size : t.get (SE_SC_DRING_HI.size n) = s.get (SE_SC_DRING_HI.size n) := congrArg (bitsOf · 31 27) ring
  rw [State.tail, tail, State.ringLen, size, State.tail, State.ringLen]

/-- Before it shows its state, a context that starts is at position 0. -/
theorem State.get_ctxStarts (n : Nat) : (s.ctxStarts n).get (SE_SC_CTRL.enable n) = 1 ∧ (s.ctxStarts n).head n = 0
    ∧ (s.ctxStarts n).done n = 0 ∧ (s.ctxStarts n).get (SE_SC_STAT.phase n) = 1 := by
  have ctrl := (entry_ne_ctrl n)
  have stat := (entry_ne_stat n)
  have last {f : Field} (other : f.off ≠ SE_SC_STAT.off n) (u : State) (c : StreamCtx) :
      (((u.put (SE_SC_STAT.phase n) 1).setCtx n c).setCtxState n 1).get f = u.get f :=
    (State.get_put_off _ (f := SE_SC_STAT.state n) 1 other).trans ((State.get_setCtx _ n c f).trans
      (u.get_put_off (f := SE_SC_STAT.phase n) 1 other))
  refine ⟨?_, ?_, ?_, ?_⟩
  · refine (last (f := SE_SC_CTRL.enable n) stat.2.2.2.1 _ _).trans ?_
    refine (State.get_put_off _ (f := SE_SC_IDX.done n) 0 ctrl.1.symm).trans ?_
    refine (State.get_put_off _ (f := SE_SC_IDX.head n) 0 ctrl.1.symm).trans ?_
    exact s.get_put_same 1 (by simp [SE_SC_CTRL.enable])
  · refine (last (f := SE_SC_IDX.head n) stat.1 _ _).trans ?_
    refine (State.get_put_apart _ (f := SE_SC_IDX.done n) 0 (by simp [SE_SC_IDX.head])
      (.inr (by simp [SE_SC_IDX.head, SE_SC_IDX.done]))).trans ?_
    exact State.get_put_same _ 0 (by simp [SE_SC_IDX.head])
  · exact (last (f := SE_SC_IDX.done n) stat.1 _ _).trans (State.get_put_same _ 0 (by simp [SE_SC_IDX.done]))
  · refine (State.get_put_apart _ (f := SE_SC_STAT.state n) 1 (by simp [SE_SC_STAT.phase])
      (.inl (by simp [SE_SC_STAT.phase, SE_SC_STAT.state]))).trans ((State.get_setCtx _ n _ _).trans ?_)
    exact State.get_put_same _ 1 (by simp [SE_SC_STAT.phase])

theorem State.ctx_ctxStarts (n : Nat) : (s.ctxStarts n).ctx n = { on := true } :=
  (State.ctx_setCtxState _ n 1 n).trans (State.ctx_setCtx _ n _)

/-- A context that is enabled. -/
theorem State.enableCtx_completes (src : s.get (SE_SC_CTRL.src_kind n) = 1) (dst : s.get (SE_SC_CTRL.dst_kind n) ≠ 3)
    (low : 4 ≤ s.get (SE_SC_DRING_HI.size n)) (high : s.get (SE_SC_DRING_HI.size n) ≤ 16) :
    (s.enableCtx n).get (SE_SC_CTRL.enable n) = 1 ∧ (s.enableCtx n).head n = 0 ∧ (s.enableCtx n).done n = 0
      ∧ (s.enableCtx n).get (SE_SC_STAT.phase n) = 1 ∧ (s.enableCtx n).ctx n = { on := true }
      ∧ (s.tail n = 0 → (s.enableCtx n).ctxState n = 1) := by
  obtain ⟨enable, head, done, phase⟩ := s.get_ctxStarts n
  have ctx := s.ctx_ctxStarts n
  have recs : ((s.ctxStarts n).ctx n).recs = [] := by rw [ctx]
  have work : ((s.ctxStarts n).ctx n).work = [] := by rw [ctx]
  have stat := entry_ne_stat n
  rw [State.enableCtx_starts src dst low high]
  refine ⟨?_, ?_, ?_, ?_, ?_, fun empty => ?_⟩
  · exact (congrArg (bitsOf · 31 31) (State.word_showCtx _ n (inEntries_ctrl n) stat.2.2.2.1)).trans enable
  · exact (congrArg (bitsOf · 31 16) (State.word_showCtx _ n (inEntries_idx n) stat.1)).trans head
  · exact (congrArg (bitsOf · 15 0) (State.word_showCtx _ n (inEntries_idx n) stat.1)).trans done
  · exact (State.phase_showCtx _ n).trans phase
  · rw [State.ctx_showCtx _ (State.heldRecords_nil _ recs), ctx]
  · have tail : (s.ctxStarts n).tail n = s.tail n :=
      State.tail_of_words (s.word_ctxStarts (entry_ne_ctrl n).2.1 (by simp [SE_SC_DB.off, SE_SC_IDX.off]) stat.2.1)
        (s.word_ctxStarts (entry_ne_ctrl n).2.2.1 (by simp [SE_SC_DRING_HI.off, SE_SC_IDX.off]) stat.2.2.1)
    exact State.ctxState_showCtx_idle _ (.inl (State.ctxState_setCtxState _ n (by decide))) (by rw [head, tail, empty]) work recs

/-! ### Stop, restart and disable (R378) -/

/-- What a write of an enabled context's control may change. -/
def runningMay (f : FieldSpec) : Bool :=
  decide (f.lo ≠ 31) && !(decide (f.lo = 27) || decide (f.lo = 25) || decide (f.lo = 17))

/-- The control of an enabled context, written. -/
def State.ctrlWritten (s : State) (n : Nat) (v : Word) : State := s.writeWhere (SE_SC_CTRL.off n) runningMay v

section
variable {v : Word} (own : s.ctxHeld n = false) (on : s.is (SE_SC_CTRL.enable n) = true)
include own on

theorem State.writeScCtrl_running : s.writeScCtrl n v = ((if bit v 31 then s.ctrlWritten n v
    else (s.ctrlWritten n v).disableCtx n).when (bit v 29) fun s => s.stopCtx n).when (bit v 30) fun s => s.restartCtx n := by
  have may : ctrlMay true = runningMay := rfl
  rw [State.writeScCtrl_own own, on, may, State.ctrlActs]
  cases bit v 31 <;> rfl

theorem State.writeScCtrl_stops (enable : bit v 31 = true) (stop : bit v 29 = true) (stay : bit v 30 = false)
    (runs : s.ctxState n = 2 ∨ s.ctxState n = 3) : s.writeScCtrl n v = ((s.ctrlWritten n v).setCtx n
      { (s.ctrlWritten n v).ctx n with stopped := true }).setCtxState n 4 := by
  rw [State.writeScCtrl_running own on, if_pos enable, State.when_of_true stop, State.when_of_false stay]
  have state : (s.ctrlWritten n v).ctxState n = s.ctxState n := s.ctxState_writeCtrl _ v
  rw [State.stopCtx, state, if_pos (by simpa using runs)]

theorem State.writeScCtrl_restarts (enable : bit v 31 = true) (stay : bit v 29 = false) (restart : bit v 30 = true) :
    s.writeScCtrl n v = (s.ctrlWritten n v).restartCtx n := by
  rw [State.writeScCtrl_running own on, if_pos enable, State.when_of_false stay, State.when_of_true restart]

theorem State.writeScCtrl_disables (clear : bit v 31 = false) (stay : bit v 29 = false) (go : bit v 30 = false) :
    s.writeScCtrl n v = (s.ctrlWritten n v).disableCtx n := by
  rw [State.writeScCtrl_running own on, if_neg (by simp [clear]), State.when_of_false stay, State.when_of_false go]

theorem State.writeScCtrl_off (clear : bit v 31 = false) (stay : bit v 29 = false) (go : bit v 30 = false)
    (rests : s.ctxState n = 1 ∨ s.ctxState n = 5) : s.writeScCtrl n v = (s.ctrlWritten n v).ctxOff n true := by
  have state : (s.ctrlWritten n v).ctxState n = s.ctxState n := s.ctxState_writeCtrl _ v
  rw [State.writeScCtrl_disables own on clear stay go, State.disableCtx, state, if_pos (by simpa using rests)]

theorem State.writeScCtrl_disabling (clear : bit v 31 = false) (stay : bit v 29 = false) (go : bit v 30 = false)
    (runs : s.ctxState n = 2 ∨ s.ctxState n = 3) : s.writeScCtrl n v = ((s.ctrlWritten n v).setCtx n
      { (s.ctrlWritten n v).ctx n with disabling := true }).stopCtx n := by
  have state : (s.ctrlWritten n v).ctxState n = s.ctxState n := s.ctxState_writeCtrl _ v
  have moves : ¬ (decide (s.ctxState n = 1) || decide (s.ctxState n = 5)) = true := by
    rcases runs with running | waiting
    · simp [running]
    · simp [waiting]
  rw [State.writeScCtrl_disables own on clear stay go, State.disableCtx, state, if_neg moves]

end

/-- A context of which nothing is outstanding any more. -/
def State.ctxForgets (s : State) (n : Nat) (keep : Bool) : State :=
  (s.outBy n (-((s.ctx n).reads : Int))).setCtx n { recs := if keep then (s.ctx n).recs else [] }

theorem State.ctxOff_eq (keep : Bool) : s.ctxOff n keep = (((s.ctxForgets n keep).put (SE_SC_CTRL.enable n) 0).setCtxState n 0).put
    (SE_SC_STAT.held n) (min ((s.ctxForgets n keep).heldRecords n) 64) := rfl

theorem State.get_ctxOff (keep : Bool) : (s.ctxOff n keep).get (SE_SC_CTRL.enable n) = 0 ∧ (s.ctxOff n keep).ctxState n = 0 := by
  have apart := (entry_ne_ctrl n).2.2.2.symm
  rw [s.ctxOff_eq]
  constructor
  · refine (State.get_put_off _ (f := SE_SC_STAT.held n) _ apart).trans ?_
    refine (State.get_put_off _ (f := SE_SC_STAT.state n) 0 apart).trans ?_
    exact State.get_put_same _ 0 (by simp [SE_SC_CTRL.enable])
  · refine (State.get_put_apart _ (f := SE_SC_STAT.held n) _ (by simp [SE_SC_STAT.state])
      (.inr (by simp [SE_SC_STAT.state, SE_SC_STAT.held]))).trans ?_
    exact State.ctxState_setCtxState _ n (by decide)

/-! ### A halted context goes on (R378) -/

theorem State.progress_empty (work : (s.ctx n).work = []) (recs : (s.ctx n).recs = []) :
    s.progress n = (s.setCtx n (s.ctx n)).showCtx n := by
  have same : { s.ctx n with recs := [] } = s.ctx n := by rw [← recs]
  have push : s.pushRecords n = s.setCtx n { s.ctx n with recs := [] } := by
    rw [State.pushRecords, recs]
    rfl
  rw [State.progress, work]
  exact congrArg (State.showCtx · n) (push.trans (by rw [same]))

/-- The context's ring after the descriptor that SE_SC_ERR names. -/
def State.ringResumes (s : State) (n next : Nat) (phase : Bool) : State :=
  (((s.put (SE_SC_IDX.head n) next).put (SE_SC_IDX.done n) next).putB (SE_SC_STAT.phase n) phase).setWord (SE_SC_ERR.off n) 0

def State.ctxResumes (s : State) (n next : Nat) (phase : Bool) : State :=
  ((s.ringResumes n next phase).setCtx n { on := true, recs := ((s.ringResumes n next phase).ctx n).recs }).setCtxState n 1

/-- The ring position after the one that SE_SC_ERR names, and the phase there. -/
def State.nextAfterErr (s : State) (n : Nat) : Nat := (s.get (SE_SC_ERR.index n) + 1) % s.ringLen n
def State.phaseAfterErr (s : State) (n : Nat) : Bool :=
  let at_ := if s.done n ≤ s.get (SE_SC_ERR.index n) then s.is (SE_SC_STAT.phase n) else !s.is (SE_SC_STAT.phase n)
  if s.nextAfterErr n = 0 then !at_ else at_

theorem State.restartCtx_halted (halted : s.ctxState n = 5) : s.restartCtx n
    = (s.ctxResumes n (s.nextAfterErr n) (s.phaseAfterErr n)).progress n := if_neg (by simp [halted])

theorem State.word_ctxResumes (next : Nat) (phase : Bool) {o : Nat} (idx : o ≠ SE_SC_IDX.off n) (stat : o ≠ SE_SC_STAT.off n)
    (err : o ≠ SE_SC_ERR.off n) : (s.ctxResumes n next phase).word o = s.word o := by
  refine (State.word_setCtxState _ n 1 stat).trans ((State.word_setCtx _ n _ o).trans ?_)
  refine (State.word_setWord_ne _ 0 err).trans ((State.word_put_ne _ (f := SE_SC_STAT.phase n) _ stat).trans ?_)
  exact (State.word_put_ne _ (f := SE_SC_IDX.done n) next idx).trans (s.word_put_ne (f := SE_SC_IDX.head n) next idx)

theorem State.get_ctxResumes {next : Nat} (small : next < 65536) (phase : Bool) : (s.ctxResumes n next phase).head n = next
    ∧ (s.ctxResumes n next phase).done n = next ∧ (s.ctxResumes n next phase).word (SE_SC_ERR.off n) = 0 := by
  have stat := entry_ne_stat n
  have err : SE_SC_IDX.off n ≠ SE_SC_ERR.off n := by simp [SE_SC_IDX.off, SE_SC_ERR.off]
  have idx : (s.ctxResumes n next phase).word (SE_SC_IDX.off n)
      = ((s.put (SE_SC_IDX.head n) next).put (SE_SC_IDX.done n) next).word (SE_SC_IDX.off n) :=
    (State.word_setCtxState _ n 1 stat.1).trans ((State.word_setCtx _ n _ _).trans ((State.word_setWord_ne _ 0 err).trans
      (State.word_put_ne _ (f := SE_SC_STAT.phase n) _ stat.1)))
  refine ⟨?_, ?_, ?_⟩
  · refine (congrArg (bitsOf · 31 16) idx).trans ?_
    refine (State.get_put_apart _ (f := SE_SC_IDX.done n) (g := SE_SC_IDX.head n) next (by simp [SE_SC_IDX.head])
      (.inr (by simp [SE_SC_IDX.head, SE_SC_IDX.done]))).trans ?_
    exact (s.get_put_same next (by simp [SE_SC_IDX.head])).trans (Nat.mod_eq_of_lt small)
  · refine (congrArg (bitsOf · 15 0) idx).trans ?_
    exact (State.get_put_same _ (f := SE_SC_IDX.done n) next (by simp [SE_SC_IDX.done])).trans (Nat.mod_eq_of_lt small)
  · exact (State.word_setCtxState _ n 1 stat.2.2.2.2.1).trans ((State.word_setCtx _ n _ _).trans (State.word_setWord_same _ _ 0))

theorem State.nextAfterErr_lt (small : s.get (SE_SC_DRING_HI.size n) ≤ 16) : s.nextAfterErr n < 65536 :=
  (Nat.mod_lt _ (s.ringLen_pos n)).trans_le (s.ringLen_le small)

/-- What a context with nothing under way keeps while it shows its state. -/
theorem State.progress_idle (ctx : s.ctx n = { on := true }) : (s.progress n).head n = s.head n
    ∧ (s.progress n).done n = s.done n ∧ (s.progress n).word (SE_SC_ERR.off n) = s.word (SE_SC_ERR.off n)
    ∧ (s.progress n).ctx n = { on := true } ∧ (s.ctxState n = 1 → s.head n = s.tail n → (s.progress n).ctxState n = 1) := by
  have stat := entry_ne_stat n
  have word (o : Nat) : (s.setCtx n (s.ctx n)).word o = s.word o := s.word_setCtx n _ o
  have same : (s.setCtx n (s.ctx n)).ctx n = { on := true } := (s.ctx_setCtx n _).trans ctx
  rw [State.progress_empty (by rw [ctx]) (by rw [ctx])]
  generalize s.setCtx n (s.ctx n) = u at word same
  refine ⟨?_, ?_, ?_, ?_, fun idle empty => ?_⟩
  · exact congrArg (bitsOf · 31 16) ((u.word_showCtx n (inEntries_idx n) stat.1).trans (word _))
  · exact congrArg (bitsOf · 15 0) ((u.word_showCtx n (inEntries_idx n) stat.1).trans (word _))
  · exact (u.word_showCtx n (inEntries_err n) stat.2.2.2.2.1).trans (word _)
  · rw [u.ctx_showCtx (u.heldRecords_nil (by rw [same])), same]
  · have state : u.ctxState n = 1 := (congrArg (bitsOf · 31 28) (word _)).trans idle
    have head : u.head n = s.head n := congrArg (bitsOf · 31 16) (word _)
    have tail : u.tail n = s.tail n := State.tail_of_words (word _) (word _)
    exact u.ctxState_showCtx_idle (.inl state) (head.trans (empty.trans tail.symm)) (by rw [same]) (by rw [same])

theorem State.ctx_ctxResumes {next : Nat} {phase : Bool} (recs : (s.ctx n).recs = []) :
    (s.ctxResumes n next phase).ctx n = { on := true } := by
  have kept : ((s.ringResumes n next phase).ctx n).recs = [] := recs
  refine (State.ctx_setCtxState _ n 1 n).trans ((State.ctx_setCtx _ n _).trans ?_)
  rw [kept]

theorem State.tail_ctxResumes (next : Nat) (phase : Bool) : (s.ctxResumes n next phase).tail n = s.tail n :=
  State.tail_of_words
    (s.word_ctxResumes _ _ (by simp [SE_SC_DB.off, SE_SC_IDX.off]) (entry_ne_stat n).2.1 (by simp [SE_SC_DB.off, SE_SC_ERR.off]))
    (s.word_ctxResumes _ _ (by simp [SE_SC_DRING_HI.off, SE_SC_IDX.off]) (entry_ne_stat n).2.2.1
      (by simp [SE_SC_DRING_HI.off, SE_SC_ERR.off]))

theorem State.restartCtx_completes (halted : s.ctxState n = 5) (recs : (s.ctx n).recs = [])
    (small : s.get (SE_SC_DRING_HI.size n) ≤ 16) :
    (s.restartCtx n).head n = s.nextAfterErr n ∧ (s.restartCtx n).done n = s.nextAfterErr n
      ∧ (s.restartCtx n).word (SE_SC_ERR.off n) = 0 ∧ (s.restartCtx n).ctx n = { on := true }
      ∧ (s.tail n = s.nextAfterErr n → (s.restartCtx n).ctxState n = 1) := by
  obtain ⟨head, done, err⟩ := s.get_ctxResumes (n := n) (State.nextAfterErr_lt small) (s.phaseAfterErr n)
  have tail := s.tail_ctxResumes (n := n) (s.nextAfterErr n) (s.phaseAfterErr n)
  have state : (s.ctxResumes n (s.nextAfterErr n) (s.phaseAfterErr n)).ctxState n = 1 :=
    State.ctxState_setCtxState _ n (by decide)
  obtain ⟨keepsHead, keepsDone, keepsErr, ctx, idle⟩ := State.progress_idle
    (State.ctx_ctxResumes (next := s.nextAfterErr n) (phase := s.phaseAfterErr n) recs)
  rw [s.restartCtx_halted halted]
  exact ⟨keepsHead.trans head, keepsDone.trans done, keepsErr.trans err, ctx,
    fun empty => idle state (head.trans (empty.symm.trans tail.symm))⟩

end

end Sys2Proof.Machine
end

section
/-! Tolls and sluices (R384, R391, R392). -/

namespace Sys2Proof.Machine

open Reg

/-! ### The tables of a sluice's registers -/

/-- The page of a sluice, as the directory lists it. -/
def sluicePage : PageSpec := ⟨0x220000, 0x1000, 32, true, 0x0052, 0, .warm, false, 0, false, regsSLU⟩

theorem locate_sluice {i o : Nat} (hi : i < 32) (ho : o < 0x1000) :
    locate (0x220000 + 0x1000 * i + o) = some (sluicePage, i, o) := by
  have index : (0x220000 + 0x1000 * i + o - 0x220000) / 0x1000 = i := by omega
  have inside : (0x220000 + 0x1000 * i + o - 0x220000) % 0x1000 = o := by omega
  have past (b c k : Nat) (h : b + k * c ≤ 0x220000) (pos : 0 < c) : ¬ (0x220000 + 0x1000 * i + o - b) / c < k :=
    Nat.not_lt.mpr ((Nat.le_div_iff_mul_le pos).mpr (by omega))
  have reached (b : Nat) (h : b ≤ 0x220000) : ¬ 0x220000 + 0x1000 * i + o < b := by omega
  simp [locate, pageDirectory, locate.go, index, inside, past, reached, hi, ho, sluicePage]

theorem regAt_sluice (i : Nat) (k : Fin 128) (w : Fin 2) :
    (sluicePage.regAt i (0x800 + 0x10 * k + 4 * w)).map RegSpec.fields = (regsSLU[w.val]?).map RegSpec.fields := by
  have plain : ¬ (sluicePage.code = 0x00A0) := by decide
  have found : ∀ (k : Fin 128) (w : Fin 2), (sluicePage.allRegs.find? fun r => r.holds (0x800 + 0x10 * k + 4 * w)).map
      RegSpec.fields = (regsSLU[w.val]?).map RegSpec.fields := by decide +kernel
  rw [PageSpec.regAt, if_neg (by simp [plain]), found]

theorem fieldsAt_sluice {j : Nat} (hj : j < 4096) (w : Fin 2) :
    fieldsAt (0x220000 + 0x1000 * (j / 128) + (0x800 + 0x10 * (j % 128) + 4 * w)) = ((regsSLU[w.val]?).map RegSpec.fields).getD [] := by
  have reg := regAt_sluice (j / 128) ⟨j % 128, Nat.mod_lt _ (by decide)⟩ w
  rw [fieldsAt, locate_sluice (by omega) (by omega)]
  dsimp only at reg ⊢
  rw [← reg]
  cases sluicePage.regAt (j / 128) (0x800 + 0x10 * (j % 128) + 4 * w.val) <;> rfl

theorem fieldsAt_sluCfg {j : Nat} (hj : j < 4096) : fieldsAt (SLU_CFG.off j)
    = [⟨31, 16, .rw, .warm, 1, some ⟨1, 1, 65535, 65535⟩⟩, ⟨15, 0, .rw, .warm, 1, some ⟨1, 1, 65535, 65535⟩⟩] := by
  refine (congrArg fieldsAt ?_).trans (fieldsAt_sluice hj 0)
  simp only [SLU_CFG.off, Fin.val_zero]
  omega

theorem fieldsAt_sluTgt {j : Nat} (hj : j < 4096) : fieldsAt (SLU_TGT.off j)
    = [⟨31, 31, .rw, .warm, 0, none⟩, ⟨24, 24, .rw, .warm, 0, none⟩, ⟨22, 16, .rw, .warm, 0, none⟩, ⟨10, 0, .rw, .warm, 0, none⟩] := by
  refine (congrArg fieldsAt ?_).trans (fieldsAt_sluice hj 1)
  simp only [SLU_TGT.off, Fin.val_one]
  omega

/-- The four registers of a sluice are apart. -/
theorem sluice_apart (j : Nat) : SLU_STAT.off j ≠ SLU_CFG.off j ∧ SLU_TGT.off j ≠ SLU_STAT.off j ∧ SLU_TGT.off j ≠ SLU_REL.off j
    ∧ SLU_STAT.off j ≠ SLU_REL.off j := by
  simp only [SLU_STAT.off, SLU_CFG.off, SLU_TGT.off, SLU_REL.off]
  omega

section
variable {s : State}

/-! ### Sluices (R391, R392) -/

/-- A limit below 1 is stored as 1. -/
theorem clamp_sluice {n : Nat} (small : n < 65536) : (Clamp.apply (some ⟨1, 1, 65535, 65535⟩) n) % 2 ^ 16 = max 1 n := by
  simp only [Clamp.apply]
  split
  · omega
  · split <;> omega

theorem State.limits_write {j : Nat} (hj : j < 4096) (v : Word) :
    (s.write (SLU_CFG.off j) v).get (SLU_CFG.count_max j) = max 1 (bitsOf v 31 16)
      ∧ (s.write (SLU_CFG.off j) v).get (SLU_CFG.time_us j) = max 1 (bitsOf v 15 0) := by
  constructor
  · exact (s.get_write (g := ⟨31, 16, .rw, .warm, 1, some ⟨1, 1, 65535, 65535⟩⟩) v (fieldsAt_sluCfg hj) (by simp) (by simp)
      (by simp)).trans (clamp_sluice (bitsOf_lt v 31 16))
  · exact (s.get_write (g := ⟨15, 0, .rw, .warm, 1, some ⟨1, 1, 65535, 65535⟩⟩) v (fieldsAt_sluCfg hj) (by simp) (by simp)
      (by simp)).trans (clamp_sluice (bitsOf_lt v 15 0))

theorem State.vector_write {j : Nat} (hj : j < 4096) (v : Word) :
    (s.write (SLU_TGT.off j) v).get (SLU_TGT.vector j) = bitsOf v 10 0 :=
  (s.get_write (g := ⟨10, 0, .rw, .warm, 0, none⟩) v (fieldsAt_sluTgt hj) (by simp) (by simp) (by simp)).trans
    (bitsOf_mod v 10 0)

/-- A sluice whose timer has stopped and whose release is counted. -/
def State.sluiceReleases (s : State) (j : Nat) : State := (s.setTimer j none).count (SLU_REL.v j)

theorem State.releaseSluice_eq (j : Nat) : s.releaseSluice j = (s.sluiceReleases j).deliver
    (fnOf (s.get (SLU_TGT.pf j)) (s.get (SLU_TGT.vf j))) (s.get (SLU_TGT.vector j)) (some j) := by
  have target (f : Field) (own : f.off = SLU_TGT.off j) : (s.sluiceReleases j).get f = s.get f := by
    refine (State.get_count_off _ (own ▸ (sluice_apart j).2.2.1)).trans ?_
    exact State.get_put_off _ (f := SLU_STAT.timing j) _ (own ▸ (sluice_apart j).2.1)
  rw [← target (SLU_TGT.pf j) rfl, ← target (SLU_TGT.vf j) rfl, ← target (SLU_TGT.vector j) rfl]
  rfl

theorem State.get_sluiceReleases (j : Nat) : (s.sluiceReleases j).se.timers.get timerDefault j = none
    ∧ (s.sluiceReleases j).get (SLU_STAT.timing j) = 0
    ∧ (s.sluiceReleases j).get (SLU_REL.v j) = min (s.get (SLU_REL.v j) + 1) (2 ^ 32 - 1) := by
  refine ⟨KMap.get_set_same .., ?_, ?_⟩
  · refine (State.get_count_off _ (sluice_apart j).2.2.2).trans ?_
    exact State.get_put_same _ (f := SLU_STAT.timing j) 0 (by simp [SLU_STAT.timing])
  · refine (State.get_count_same _ (by simp [SLU_REL.v])).trans (congrArg (fun n => min (n + 1) _) ?_)
    exact State.get_put_off _ (f := SLU_STAT.timing j) _ (sluice_apart j).2.2.2.symm

theorem State.count_writeCfg (j : Nat) (v : Word) :
    (s.write (SLU_CFG.off j) v).get (SLU_STAT.count j) = s.get (SLU_STAT.count j)
      ∧ (s.write (SLU_CFG.off j) v).is (SLU_STAT.held j) = s.is (SLU_STAT.held j) := by
  have other := (sluice_apart j).1
  constructor
  · exact s.get_write_off v other
  · rw [State.is, s.get_write_off v (f := SLU_STAT.held j) other, State.is]

/-- Whether a sluice's timer has run a time. -/
def State.sluiceRan (s : State) (j time : Nat) : Bool :=
  match s.se.timers.get timerDefault j with
  | none => false
  | some t => decide (1600 * time ≤ s.now - t)

/-- New limits that have been reached release the sluice. -/
theorem State.writeSluCfg_cases {j : Nat} (v : Word) : s.writeSluCfg j v =
    if s.get (SLU_STAT.count j) ≠ 0 && !s.is (SLU_STAT.held j) &&
        (s.sluiceRan j ((s.write (SLU_CFG.off j) v).get (SLU_CFG.time_us j))
          || decide ((s.write (SLU_CFG.off j) v).get (SLU_CFG.count_max j) ≤ s.get (SLU_STAT.count j)))
      then (s.write (SLU_CFG.off j) v).releaseSluice j else s.write (SLU_CFG.off j) v := by
  obtain ⟨count, held⟩ := s.count_writeCfg j v
  rw [← count, ← held]
  rfl

/-! ### Targets (R392) -/

theorem State.writeSluTgt_eq (j : Nat) (v : Word) : s.writeSluTgt j v = (s.write (SLU_TGT.off j) v).when
    (decide (vectorsOf (fnOf ((s.write (SLU_TGT.off j) v).get (SLU_TGT.pf j)) ((s.write (SLU_TGT.off j) v).get (SLU_TGT.vf j)))
      ≤ (s.write (SLU_TGT.off j) v).get (SLU_TGT.vector j))) fun s => s.put (SLU_TGT.enable j) 0 := rfl

theorem State.sameRegs_writeSluTgt (j : Nat) (v : Word) : s.SameRegs (s.writeSluTgt j v) [SLU_TGT.off j] := by
  intro o other
  have apart : o ≠ SLU_TGT.off j := by simpa using other
  rw [s.writeSluTgt_eq]
  exact (State.when_keeps (fun t => t.word o) _ _ _ fun t => t.word_put_ne (f := SLU_TGT.enable j) 0 apart).trans
    (s.sameRegs_write _ v _ other)

/-! ### Tolls (R384) -/

/-- A balance is no word that the engine's other counters and tolls hold. -/
theorem entry_ne_bal (n : Nat) : SE_SC_BAL.off n ≠ SE_SC_QUOTA.off n ∧ SE_SC_TOLL.off n ≠ SE_SC_QUOTA.off n
    ∧ (∀ m, SE_SC_TOLL.off n ≠ SE_SC_BAL.off m) := by
  simp only [SE_SC_BAL.off, SE_SC_TOLL.off, SE_SC_QUOTA.off]
  exact ⟨by omega, by omega, fun m => by omega⟩

/-- What a period makes of a balance. -/
def renewed (toll : Nat) (balance : Int) : Int := if toll = 0 then balance else min (balance + toll) toll

/-- The renewal of one context's balance. -/
def State.renew (s : State) (n : Nat) : State :=
  let t : Int := s.get (SE_SC_TOLL.toll n)
  if t = 0 then s else s.putS (SE_SC_BAL.v n) (min (s.getS (SE_SC_BAL.v n) + t) t)

theorem State.getS_putS_off {f g : Field} (v : Int) (other : g.off ≠ f.off) : (s.putS f v).getS g = s.getS g :=
  State.getS_of_get (s.get_put_off _ other)

theorem State.toll_renew (n m : Nat) : (s.renew n).get (SE_SC_TOLL.toll m) = s.get (SE_SC_TOLL.toll m) := by
  unfold State.renew
  dsimp only
  split
  · rfl
  · exact s.get_put_off _ ((entry_ne_bal m).2.2 n)

theorem State.balance_renew (n : Nat) :
    (s.renew n).getS (SE_SC_BAL.v n) = renewed (s.get (SE_SC_TOLL.toll n)) (s.getS (SE_SC_BAL.v n)) := by
  have toll : s.get (SE_SC_TOLL.toll n) < 65536 := s.get_lt _
  obtain ⟨low, high⟩ := s.balance_bounds n
  unfold State.renew renewed
  dsimp only
  split
  · next none => rw [if_pos (by omega)]
  · next some => rw [if_neg (by omega), State.balance_putS _ _ (by omega) (by omega)]

theorem State.balance_renew_ne {n m : Nat} (other : n ≠ m) : (s.renew m).getS (SE_SC_BAL.v n) = s.getS (SE_SC_BAL.v n) := by
  unfold State.renew
  dsimp only
  split
  · rfl
  · refine s.getS_putS_off _ ?_
    simp only [SE_SC_BAL.v, SE_SC_BAL.off]
    omega

/-- Each context that holds a toll is renewed once. -/
theorem State.balance_renewAll {l : List Nat} (once : l.Nodup) {n : Nat} (mem : n ∈ l) :
    (s.each l State.renew).getS (SE_SC_BAL.v n) = renewed (s.get (SE_SC_TOLL.toll n)) (s.getS (SE_SC_BAL.v n)) := by
  have both := State.each_once (f := State.renew) (fun t => (t.get (SE_SC_TOLL.toll n), t.getS (SE_SC_BAL.v n))) s
    (h := fun x => (x.1, renewed x.1 x.2)) once mem (fun t => by rw [t.toll_renew, t.balance_renew])
    (fun m _ other t => by rw [t.toll_renew, t.balance_renew_ne other.symm])
  exact congrArg Prod.snd both

theorem exec_tollPeriod_renews : exec .tollPeriod s = .next (s.mirrorFrom ((s.reachTick 1600).each s.tolled State.renew)) := by
  show execTollPeriod s = _
  unfold execTollPeriod
  exact mirrored_eq (g := fun s => (s.reachTick 1600).each (s.reachTick 1600).tolled State.renew) rfl

theorem State.now_tollPeriod : ((s.reachTick 1600).each s.tolled State.renew).now = s.now - s.now % 1600 + 1600 := by
  have kept : ((s.reachTick 1600).each s.tolled State.renew).now = (s.reachTick 1600).now := by
    refine State.each_keeps (fun t => t.now) _ _ _ fun t n => ?_
    unfold State.renew
    dsimp only
    split <;> rfl
  have reached : (s.reachTick 1600).now = s.now + (1600 - s.now % 1600) := rfl
  rw [kept, reached]
  omega

/-- A context without credit under a toll issues no read. -/
theorem State.reader_broke {n : Nat} (toll : s.get (SE_SC_TOLL.toll n) ≠ 0) (broke : s.getS (SE_SC_BAL.v n) ≤ 0) :
    s.reader n = none := by
  simp [State.reader, State.is, toll, broke]

/-- A context that has asked for the next bytes of a descriptor, before it pays. -/
def State.asks (s : State) (n : Nat) (w : StreamDesc) (size : Nat) : State :=
  (s.setCtx n { s.ctx n with work := (s.ctx n).work.map fun e =>
    if e = w then { e with asked := e.asked + size, reads := e.reads ++ [(e.asked, size)] } else e }).outBy n 1

/-- The bytes of the next read of a descriptor. -/
def readSize (w : StreamDesc) (d : Desc) : Nat := min (256 - (d.src.toNat + w.asked) % 256) (d.len.toNat - w.asked)

theorem State.issueRead_eq (n : Nat) (w : StreamDesc) (d : Desc) : s.issueRead n w d = (s.asks n w (readSize w d)).when
    ((s.asks n w (readSize w d)).is (SE_SC_TOLL.toll n)) fun t =>
      t.putS (SE_SC_BAL.v n) (t.getS (SE_SC_BAL.v n) - (readSize w d : Int)) := rfl

theorem State.get_asks {n : Nat} (w : StreamDesc) (size : Nat) {f : Field} (entry : inEntries f.off)
    (other : f.off ≠ SE_SC_QUOTA.off n) : (s.asks n w size).get f = s.get f :=
  (State.get_outBy _ n 1 entry other).trans (s.get_setCtx n _ f)

theorem State.balance_issueRead (n : Nat) (w : StreamDesc) (d : Desc) :
    (s.get (SE_SC_TOLL.toll n) = 0 → (s.issueRead n w d).getS (SE_SC_BAL.v n) = s.getS (SE_SC_BAL.v n))
    ∧ (s.get (SE_SC_TOLL.toll n) ≠ 0 → -2 ^ 31 + 256 ≤ s.getS (SE_SC_BAL.v n) →
        (s.issueRead n w d).getS (SE_SC_BAL.v n) = s.getS (SE_SC_BAL.v n) - (readSize w d : Nat)) := by
  obtain ⟨quota, toll, -⟩ := entry_ne_bal n
  have same : (s.asks n w (readSize w d)).getS (SE_SC_BAL.v n) = s.getS (SE_SC_BAL.v n) :=
    State.getS_of_get (s.get_asks (f := SE_SC_BAL.v n) w _ (inEntries_bal n) quota)
  have held : (s.asks n w (readSize w d)).get (SE_SC_TOLL.toll n) = s.get (SE_SC_TOLL.toll n) :=
    s.get_asks w _ (inEntries_toll n) toll
  have size : readSize w d ≤ 256 := (Nat.min_le_left _ _).trans (Nat.sub_le _ _)
  obtain ⟨-, high⟩ := s.balance_bounds n
  rw [s.issueRead_eq]
  constructor
  · intro free
    rw [State.when_of_false (by simp [State.is, held, free]), same]
  · intro pays low
    rw [State.when_of_true (by simp [State.is, held, pays]), State.balance_putS _ _ (by omega) (by omega), same]

theorem State.toll_writeToll {n : Nat} (hn : n < 65536) (v : Word) (own : s.ctxHeld n = false)
    (small : (s.getS (SE_SC_BAL.v n)).natAbs < 2 ^ 30) : (s.writeToll n v).get (SE_SC_TOLL.toll n) = bitsOf v 15 0
      ∧ (s.writeToll n v).getS (SE_SC_BAL.v n)
        = s.getS (SE_SC_BAL.v n) + ((bitsOf v 15 0 : Nat) - (s.get (SE_SC_TOLL.toll n) : Int)) := by
  have written := s.toll_write v hn
  have balance : (s.write (SE_SC_TOLL.off n) v).getS (SE_SC_BAL.v n) = s.getS (SE_SC_BAL.v n) :=
    State.getS_of_get (s.get_write_off v ((entry_ne_bal n).2.2 n).symm)
  have toll : s.get (SE_SC_TOLL.toll n) < 65536 := s.get_lt _
  have new : bitsOf v 15 0 < 65536 := bitsOf_lt v 15 0
  have stored : s.writeToll n v = (s.write (SE_SC_TOLL.off n) v).putS (SE_SC_BAL.v n)
      (s.getS (SE_SC_BAL.v n) + ((bitsOf v 15 0 : Nat) - (s.get (SE_SC_TOLL.toll n) : Int))) := by
    rw [← written, ← balance]
    exact if_neg (by simp [own])
  rw [stored]
  exact ⟨(State.get_put_off _ _ ((entry_ne_bal n).2.2 n)).trans written, State.balance_putS _ _ (by omega) (by omega)⟩

end

end Sys2Proof.Machine
end

section
/-! What the commands of contexts and sluices complete (R376 to R379, R384, R391, R392). -/

namespace Sys2Proof.Machine

open Reg

section
variable {s : State}

/-- The five writes of a context that a standby mirrors (R459). -/
theorem exec_ctxHeld {n : BitVec 16} {v : Word} (held : s.ctxHeld n.toNat = true) :
    exec (.contextEnable n v) s = .next (s.mirrorFrom (s.count PAIR_REFUSED.v))
      ∧ exec (.stop n v) s = .next (s.mirrorFrom (s.count PAIR_REFUSED.v))
      ∧ exec (.restart n v) s = .next (s.mirrorFrom (s.count PAIR_REFUSED.v))
      ∧ exec (.contextDisable n v) s = .next (s.mirrorFrom (s.count PAIR_REFUSED.v))
      ∧ exec (.doorbell n v) s = .next (s.mirrorFrom (s.count PAIR_REFUSED.v)) := by
  have ctrl : s.writeScCtrl n.toNat v = s.count PAIR_REFUSED.v := if_pos held
  have tail : s.writeTail n.toNat v = s.count PAIR_REFUSED.v := if_pos held
  refine ⟨?_, ?_, ?_, ?_, ?_⟩
  · show execContextEnable n v s = _
    exact mirrored_eq (g := fun s => s.writeScCtrl n.toNat v) ctrl
  · show execStop n v s = _
    exact mirrored_eq (g := fun s => s.writeScCtrl n.toNat v) ctrl
  · show execRestart n v s = _
    exact mirrored_eq (g := fun s => s.writeScCtrl n.toNat v) ctrl
  · show execContextDisable n v s = _
    exact mirrored_eq (g := fun s => s.writeScCtrl n.toNat v) ctrl
  · show execDoorbell n v s = _
    exact mirrored_eq (g := fun s => s.writeTail n.toNat v) tail

section
variable {n : BitVec 16} {v : Word} {t : State}

theorem exec_contextEnable (ctrl : s.writeScCtrl n.toNat v = t) : exec (.contextEnable n v) s = .next (s.mirrorFrom t) := by
  show execContextEnable n v s = _
  exact mirrored_eq (g := fun s => s.writeScCtrl n.toNat v) ctrl

theorem exec_stop (ctrl : s.writeScCtrl n.toNat v = t) : exec (.stop n v) s = .next (s.mirrorFrom t) := by
  show execStop n v s = _
  exact mirrored_eq (g := fun s => s.writeScCtrl n.toNat v) ctrl

theorem exec_restart (ctrl : s.writeScCtrl n.toNat v = t) : exec (.restart n v) s = .next (s.mirrorFrom t) := by
  show execRestart n v s = _
  exact mirrored_eq (g := fun s => s.writeScCtrl n.toNat v) ctrl

theorem exec_contextDisable (ctrl : s.writeScCtrl n.toNat v = t) : exec (.contextDisable n v) s = .next (s.mirrorFrom t) := by
  show execContextDisable n v s = _
  exact mirrored_eq (g := fun s => s.writeScCtrl n.toNat v) ctrl

theorem exec_doorbell (own : s.ctxHeld n.toNat = false) : exec (.doorbell n v) s = .next (s.mirrorFrom
    (if (s.write (SE_SC_DB.off n.toNat) v).is (SE_SC_CTRL.enable n.toNat)
      then (s.write (SE_SC_DB.off n.toNat) v).showCtx n.toNat else s.write (SE_SC_DB.off n.toNat) v)) := by
  show execDoorbell n v s = _
  exact mirrored_eq (g := fun s => s.writeTail n.toNat v) (if_neg (by simp [own]))

end

theorem exec_sluiceTimer_due {j : Fin 4096} {t0 : Nat} (runs : s.se.timers.get timerDefault j = some t0) :
    exec (.sluiceTimer j) s = .next (s.mirrorFrom
      ((s.elapse (t0 + 1600 * s.get (SLU_CFG.time_us j) - s.now)).releaseSluice j)) := by
  show execSluiceTimer j s = _
  unfold execSluiceTimer
  refine mirrored_next ?_
  simp only [runs]

theorem exec_sluCfgWrite {j : Fin 4096} {v : Word} {t : State} (cfg : s.writeSluCfg j v = t) :
    exec (.sluCfgWrite j v) s = .next (s.mirrorFrom t) := by
  show execSluCfgWrite j v s = _
  exact mirrored_eq (g := fun s => s.writeSluCfg j v) cfg

theorem exec_sluTgtWrite (j : Fin 4096) (v : Word) : exec (.sluTgtWrite j v) s = .next (s.mirrorFrom (s.writeSluTgt j v)) := by
  show execSluTgtWrite j v s = _
  exact mirrored_eq (g := fun s => s.writeSluTgt j v) rfl

theorem exec_sluCfgWrite_idle {j : Fin 4096} {v : Word} (empty : s.get (SLU_STAT.count j) = 0) :
    exec (.sluCfgWrite j v) s = .next (s.mirrorFrom (s.write (SLU_CFG.off j) v)) :=
  exec_sluCfgWrite ((s.writeSluCfg_cases v).trans (if_neg (by simp [empty])))

theorem exec_sluCfgWrite_count {j : Fin 4096} {v : Word} (some : s.get (SLU_STAT.count j) ≠ 0)
    (free : s.is (SLU_STAT.held j) = false) (reached : bitsOf v 31 16 ≤ s.get (SLU_STAT.count j)) :
    exec (.sluCfgWrite j v) s = .next (s.mirrorFrom ((s.write (SLU_CFG.off j) v).releaseSluice j)) := by
  have limit : (s.write (SLU_CFG.off j) v).get (SLU_CFG.count_max j) ≤ s.get (SLU_STAT.count j) := by
    rw [(s.limits_write j.isLt v).1]
    omega
  exact exec_sluCfgWrite ((s.writeSluCfg_cases v).trans (if_pos (by simp [some, free, limit])))

theorem exec_sluCfgWrite_time {j : Fin 4096} {v : Word} {t0 : Nat} (some : s.get (SLU_STAT.count j) ≠ 0)
    (free : s.is (SLU_STAT.held j) = false) (runs : s.se.timers.get timerDefault j = .some t0)
    (reached : 1600 * max 1 (bitsOf v 15 0) ≤ s.now - t0) :
    exec (.sluCfgWrite j v) s = .next (s.mirrorFrom ((s.write (SLU_CFG.off j) v).releaseSluice j)) := by
  have ran : s.sluiceRan j ((s.write (SLU_CFG.off j) v).get (SLU_CFG.time_us j)) = true := by
    rw [(s.limits_write j.isLt v).2, State.sluiceRan, runs]
    exact decide_eq_true reached
  exact exec_sluCfgWrite ((s.writeSluCfg_cases v).trans (if_pos (by simp [some, free, ran])))

end

/-- Settles O48: the commands of a context go through what it shows, tolls through its signed balance, and a sluice's
limits through the table of its registers. -/
theorem contextAndSluiceCommandsComplete : Obligations.ContextAndSluiceCommandsComplete := by
  unfold Obligations.ContextAndSluiceCommandsComplete
  refine ⟨fun s n v => exec_ctxHeld, fun s b v own => ⟨fun off enable go stay => ?_, fun on enable => ⟨?_, ?_⟩,
      fun on clear go stay => ⟨fun rests => ?_, fun runs => ?_⟩, ?_⟩,
    fun s n halted recs _ small => State.restartCtx_completes halted recs small,
    fun s => ⟨_, exec_tollPeriod_renews, s.now_tollPeriod, fun n once mem toll => ?_⟩,
    fun s n => State.reader_broke, fun s n w d _ => s.balance_issueRead n w d,
    fun s n v hn own small => State.toll_writeToll hn v own small, fun s j t0 => exec_sluiceTimer_due, fun s j => ?_,
    fun s j v => ⟨(s.limits_write j.isLt v).1, (s.limits_write j.isLt v).2, exec_sluCfgWrite_idle, exec_sluCfgWrite_count,
      fun t0 => exec_sluCfgWrite_time⟩,
    fun s j v => ⟨s.vector_write j.isLt v, s.writeSluTgt j v, exec_sluTgtWrite j v, s.sameRegs_writeSluTgt j v,
      fun fits => ?_, fun beyond => ?_⟩⟩
  · exact ⟨exec_contextEnable (State.writeScCtrl_enables own off enable go stay), State.enableCtx_refuses,
      fun src dst low high => State.enableCtx_completes src dst low high⟩
  · exact fun stop stay runs => exec_stop (State.writeScCtrl_stops own on enable stop stay runs)
  · exact fun stay restart _ => exec_restart (State.writeScCtrl_restarts own on enable stay restart)
  · exact ⟨exec_contextDisable (State.writeScCtrl_off own on clear stay go rests), State.get_ctxOff _⟩
  · exact exec_contextDisable (State.writeScCtrl_disabling own on clear stay go runs)
  · exact ⟨s.tail_write v b.isLt, exec_doorbell own⟩
  · rw [State.balance_renewAll once mem]
    exact if_neg toll
  · obtain ⟨timer, timing, releases⟩ := s.get_sluiceReleases j
    exact ⟨s.sluiceReleases j, timer, timing, releases, s.releaseSluice_eq j⟩
  · rw [s.writeSluTgt_eq]
    refine State.when_of_false (decide_eq_false ?_) _
    rw [s.vector_write j.isLt v]
    omega
  · rw [s.writeSluTgt_eq, State.when_of_true (decide_eq_true (by rwa [s.vector_write j.isLt v]))]
    exact State.get_put_same _ (f := SLU_TGT.enable j) 0 (by simp [SLU_TGT.enable])

end Sys2Proof.Machine
end

section
/-! The issue slots of the stream engine and the answers that its contexts take (R381, R383 to R386). -/

namespace Sys2Proof.Machine

open Reg

section
variable {s : State}

/-! ### Whose turn it is (R386) -/

/-- The engine with other turns: the context last served and the credits. -/
def State.turns (s : State) (last credit : KMap Nat) : State := { s with se := { s.se with last := last, credit := credit } }

/-- Storing a class's credit. -/
def State.setCredit (s : State) (k v : Nat) : State :=
  { s with se := { s.se with credit := s.se.credit.set natDefault k v } }

/-- The credits renewed from the weights. -/
def State.renewCredits (s : State) (port : Nat) (weight : Nat → Nat) : State :=
  s.each [1, 2, 3] fun s c => s.setCredit (4 * port + c) (max 1 (weight c))

theorem State.credit_renewCredits (port : Nat) (weight : Nat → Nat) {c : Nat} (hc : c = 1 ∨ c = 2 ∨ c = 3) :
    (s.renewCredits port weight).se.credit.get natDefault (4 * port + c) = max 1 (weight c) := by
  refine State.each_settles (fun t => t.se.credit.get natDefault (4 * port + c)) s (a := c) (by simpa using hc)
    (fun t => KMap.get_set_same ..) fun x _ other t => KMap.get_set_ne _ _ _ (by omega)

/-- The weight of a class, which renews its credit. -/
def State.classWeight (s : State) (c : Nat) : Nat :=
  match c with
  | 1 => s.get SE_ARB.hi
  | 2 => s.get SE_ARB.norm
  | _ => s.get SE_ARB.bulk

/-- A class with credit is served and pays one. -/
theorem State.pickClass_credit (port : Nat) {c : Nat} (hc : c = 1 ∨ c = 2 ∨ c = 3) :
    ∃ t : State, (t = s ∨ t = s.renewCredits port s.classWeight) ∧ s.pickClass port [c]
      = (c, t.setCredit (4 * port + c) (t.se.credit.get natDefault (4 * port + c) - 1)) := by
  have order : ([1, 2, 3].filter fun x => [c].contains x) = [c] := by rcases hc with rfl | rfl | rfl <;> rfl
  have high : ¬ [c].contains 0 = true := by rcases hc with rfl | rfl | rfl <;> decide
  have renewed := s.credit_renewCredits port s.classWeight hc
  unfold State.pickClass
  rw [if_neg high]
  dsimp only
  rw [order]
  by_cases credit : 0 < s.se.credit.get natDefault (4 * port + c)
  · refine ⟨s, .inl rfl, ?_⟩
    simp only [List.any_cons, List.any_nil, Bool.or_false, credit, decide_true, if_true, List.find?_cons]
    rfl
  · refine ⟨s.renewCredits port s.classWeight, .inr rfl, ?_⟩
    have now : 0 < (s.renewCredits port s.classWeight).se.credit.get natDefault (4 * port + c) := by omega
    rw [if_neg (by simp [credit])]
    refine Eq.trans (b := match [c].find? fun c => decide (0 < (s.renewCredits port s.classWeight).se.credit.get natDefault
      (4 * port + c)) with | some c => _ | none => _) rfl ?_
    simp only [List.find?_cons, now, decide_true]
    rfl

/-- A port at which one class asks serves that class. -/
theorem State.pickClass_one (port : Nat) {c : Nat} (hc : c < 4) :
    ∃ credit, s.pickClass port [c] = (c, s.turns s.se.last credit) := by
  rcases Nat.eq_zero_or_pos c with rt | pays
  · exact ⟨s.se.credit, by rw [rt]; rfl⟩
  · obtain ⟨t, same | renewed, serves⟩ := s.pickClass_credit port (c := c) (by omega)
    · exact ⟨_, serves.trans (by rw [same]; rfl)⟩
    · exact ⟨_, serves.trans (by rw [renewed]; rfl)⟩

theorem State.pickCtx_one (port c n : Nat) : ∃ last, s.pickCtx port c [n] = (some n, s.turns last s.se.credit) := by
  have found : (([n].find? fun m : Nat => s.se.last.get natDefault (4 * port + c) ≤ m).or [n].head?) = some n := by
    by_cases later : s.se.last.get natDefault (4 * port + c) ≤ n
    · simp [later]
    · simp [later]
  refine ⟨s.se.last.set natDefault (4 * port + c) (n + 1), ?_⟩
  unfold State.pickCtx
  dsimp only
  rw [found]
  rfl

/-- Whose turn it is changes nothing that a context's next request depends on. -/
theorem State.reader_turns (last credit : KMap Nat) (n : Nat) : (s.turns last credit).reader n = s.reader n := rfl

/-- What a slot does for the context that it serves. -/
def State.slotDoes (s : State) (n : Nat) : Option Bool → Out
  | some true => .next (s.entryLost n)
  | some false => .next (s.bufferLost n)
  | none => match s.reader n with
    | some w => (match w.desc with
      | some d => .next ((s.issueRead n w d).showCtx n)
      | none => .next s)
    | none => .next ((s.issueFetch n).showCtx n)

theorem exec_engineIssueSlot_serves {b : Bool} {n : Nat} (on : s.is SE_CTRL.enable = true)
    (alone : s.ctxsOn.filter (fun m => decide (m % 2 = b.toNat) && s.serves m) = [n]) :
    ∃ last credit, ∀ upset t, (s.turns last credit).slotDoes n upset = .next t →
      exec (.engineIssueSlot b upset) s = .next (s.mirrorFrom t) := by
  obtain ⟨credit, cls⟩ := s.pickClass_one b.toNat (c := s.get (SE_SC_CTRL.cls n)) (s.get_lt _)
  obtain ⟨last, turn⟩ := (s.turns s.se.last credit).pickCtx_one b.toNat (s.get (SE_SC_CTRL.cls n)) n
  refine ⟨last, credit, fun upset t does => ?_⟩
  show execEngineIssueSlot b upset s = _
  unfold execEngineIssueSlot
  refine mirrored_next (Eq.trans ?_ does)
  dsimp only
  have own : [n].filter (fun m => decide (s.get (SE_SC_CTRL.cls m) = s.get (SE_SC_CTRL.cls n))) = [n] := by simp
  rw [if_neg (by simp [on]), alone]
  simp only [List.map_cons, List.map_nil, cls, own, turn]
  cases upset with
  | none => rfl
  | some lost => cases lost <;> rfl

end

end Sys2Proof.Machine
end

section
/-! The answers that a context takes: descriptors, reads, fences and records (R381, R383, R387, R388, R394). -/

namespace Sys2Proof.Machine

open Reg

section
variable {s : State} {b : BitVec 16}

/-- The context of one descriptor, that descriptor changed. -/
def State.setOnly (s : State) (n : Nat) (w : StreamDesc) : State := s.setCtx n { s.ctx n with work := [w] }

theorem map_own (w : StreamDesc) (f : StreamDesc → StreamDesc) : ([w].map fun e : StreamDesc => if e = w then f e else e) = [f w] := by
  simp

/-! ### Reads are issued (R381, R384, R385) -/

theorem State.work_issueRead {n : Nat} {w : StreamDesc} {d : Desc} (only : (s.ctx n).work = [w]) :
    ((s.issueRead n w d).ctx n).work
      = [{ w with asked := w.asked + readSize w d, reads := w.reads ++ [(w.asked, readSize w d)] }] := by
  have asks : ((s.asks n w (readSize w d)).ctx n).work
      = [{ w with asked := w.asked + readSize w d, reads := w.reads ++ [(w.asked, readSize w d)] }] := by
    refine (congrArg StreamCtx.work (State.ctx_setCtx s n _)).trans ?_
    simp [only]
  rw [s.issueRead_eq]
  exact (State.when_keeps (fun t => (t.ctx n).work) _ _ (fun t => t.putS (SE_SC_BAL.v n)
    (t.getS (SE_SC_BAL.v n) - (readSize w d : Int))) fun _ => rfl).trans asks

theorem State.outstanding_outBy (n : Nat) (few : s.get (SE_SC_QUOTA.outstanding n) < 1024) :
    (s.outBy n 1).get (SE_SC_QUOTA.outstanding n) = s.get (SE_SC_QUOTA.outstanding n) + 1 := by
  have port : (if n % 2 = 0 then SE_OUT.port_a else SE_OUT.port_b).off = SE_OUT.off := by split <;> rfl
  refine (State.get_put_off _ _ (by rw [port]; exact entry_ne_out (inEntries_quota n))).trans ?_
  refine (s.get_put_same (f := SE_SC_QUOTA.outstanding n) _ (by simp [SE_SC_QUOTA.outstanding])).trans ?_
  have one : ((s.get (SE_SC_QUOTA.outstanding n) : Int) + 1).toNat = s.get (SE_SC_QUOTA.outstanding n) + 1 := by omega
  rw [one]
  refine Nat.mod_eq_of_lt ?_
  show s.get (SE_SC_QUOTA.outstanding n) + 1 < 2048
  omega

theorem State.outstanding_issueRead {n : Nat} {w : StreamDesc} {d : Desc} (few : s.get (SE_SC_QUOTA.outstanding n) < 1024) :
    (s.issueRead n w d).get (SE_SC_QUOTA.outstanding n) = s.get (SE_SC_QUOTA.outstanding n) + 1 := by
  rw [s.issueRead_eq]
  refine (State.when_keeps (fun t => t.get (SE_SC_QUOTA.outstanding n)) _ _ _ fun t =>
    t.get_put_off (f := SE_SC_BAL.v n) _ (entry_ne_bal n).1.symm).trans ?_
  exact State.outstanding_outBy (s := s.setCtx n _) n few

/-! ### Descriptors (R381, R383) -/

section
variable {w : StreamDesc} {d : Desc} (only : (s.ctx b.toNat).work = [w])
include only

theorem exec_descriptorFetched_ok (unfetched : w.desc = none) (asked : w.reads ≠ []) : exec (.descriptorFetched b 0 d) s
    = .next (s.mirrorFrom (if (s.setOnly b.toNat { w with desc := some d, reads := [] }).descFits b.toNat d
      then (s.setOnly b.toNat { w with desc := some d, reads := [] }).showCtx b.toNat
      else (s.setOnly b.toNat { w with desc := some d, reads := [] }).failDesc b.toNat w.pos 4 0)) := by
  have found : ([w].find? fun w : StreamDesc => w.desc.isNone && !w.reads.isEmpty) = some w := by simp [unfetched, asked]
  show execDescriptorFetched b 0 d s = _
  unfold execDescriptorFetched
  refine mirrored_next ?_
  simp only [only, found, map_own]
  refine (if_neg (by simp)).trans ?_
  unfold State.setOnly
  split <;> rfl

theorem exec_descriptorFetched_bad {status : BitVec 4} (unfetched : w.desc = none) (asked : w.reads ≠ []) (bad : status ≠ 0) :
    exec (.descriptorFetched b status d) s = .next (s.mirrorFrom (if isHost (s.dring b.toNat)
      then (s.setOnly b.toNat { w with reads := [] }).showCtx b.toNat
      else (s.setOnly b.toNat { w with reads := [] }).failDesc b.toNat w.pos 5 status.toNat)) := by
  have found : ([w].find? fun w : StreamDesc => w.desc.isNone && !w.reads.isEmpty) = some w := by simp [unfetched, asked]
  show execDescriptorFetched b status d s = _
  unfold execDescriptorFetched
  refine mirrored_next ?_
  simp only [only, found, map_own]
  refine (if_pos bad).trans ?_
  have ring : (s.setOnly b.toNat { w with reads := [] }).dring b.toNat = s.dring b.toNat := rfl
  rw [← ring]
  unfold State.setOnly
  split <;> rfl

theorem exec_completionTimeout_fetch (unfetched : w.desc = none) (asked : w.reads ≠ []) (host : isHost (s.dring b.toNat) = true) :
    exec (.pcieCompletionTimeout b (BitVec.ofNat 16 w.pos)) s = .next (s.mirrorFrom
      (if w.pos < 65536 then ((s.raise pagePCI0 7 CONTAINED 0x0C17 b.toNat w.pos).setCtx b.toNat
        { s.ctx b.toNat with work := [{ w with reads := [] }] }).showCtx b.toNat else s)) := by
  show execPcieCompletionTimeout b (BitVec.ofNat 16 w.pos) s = _
  unfold execPcieCompletionTimeout
  refine mirrored_next ?_
  have number : (BitVec.ofNat 16 w.pos).toNat = w.pos % 65536 := BitVec.toNat_ofNat ..
  by_cases small : w.pos < 65536
  · have found : ([w].find? fun e : StreamDesc => e.pos = (BitVec.ofNat 16 w.pos).toNat && !e.reads.isEmpty) = some w := by
      simp [Nat.mod_eq_of_lt small, asked]
    rw [if_pos small]
    simp only [only, found, unfetched, map_own]
    rw [if_neg (by simp [host])]
  · have lost : ([w].find? fun e : StreamDesc => e.pos = (BitVec.ofNat 16 w.pos).toNat && !e.reads.isEmpty) = none := by
      have other : w.pos ≠ w.pos % 65536 := by omega
      simp [other]
    rw [if_neg small]
    simp only [only, lost]

/-! ### Data (R381, R388) -/

section
variable (well : w.fail = none) (goes : (s.ctx b.toNat).stopped = false) (ring : (s.ctx b.toNat).ringErr = none)
include well goes ring

/-- Nothing of a context that goes on is discarded. -/
theorem discards_only : (s.ctx b.toNat).discards w = false := by
  simp [StreamCtx.discards, goes, ring, only, well]

theorem State.readAnswer_ok {at_ : Nat × Nat} (asked : w.reads = [at_]) (bs : List Byte) : s.readAnswer b.toNat w d at_ 0 bs
    = ((s.outBy b.toNat (-1)).setCtx b.toNat { s.ctx b.toNat with work := [{ w with
        reads := [], got := w.got + at_.2, fencing := decide (w.got + at_.2 = d.len.toNat) }] }).writeOut b.toNat
        (d.dst.toNat + at_.1) bs := by
  have keeps := discards_only only well goes ring
  unfold State.readAnswer
  simp only [keeps, asked, only, map_own]
  rfl

theorem State.readAnswer_failed {at_ : Nat × Nat} (asked : w.reads = [at_]) (bs : List Byte) {status : Nat} (bad : status ≠ 0) :
    s.readAnswer b.toNat w d at_ status bs = ((s.outBy b.toNat (-1)).setCtx b.toNat { s.ctx b.toNat with work := [{ w with reads := [] }] }).failDesc b.toNat w.pos
        (if s.srcHost b.toNat then 3 else 1) status := by
  have keeps := discards_only only well goes ring
  have kind : (s.outBy b.toNat (-1)).srcHost b.toNat = s.srcHost b.toNat := by
    have same : (s.outBy b.toNat (-1)).get (SE_SC_CTRL.src_kind b.toNat) = s.get (SE_SC_CTRL.src_kind b.toNat) :=
      s.get_outBy b.toNat (-1) (inEntries_ctrl _) (by simp [SE_SC_CTRL.src_kind, SE_SC_CTRL.off, SE_SC_QUOTA.off])
    rw [State.srcHost, same, State.srcHost]
  unfold State.readAnswer
  simp only [keeps, asked, only, map_own, kind]
  exact (if_neg Bool.false_ne_true).trans (if_pos bad)

end

section
variable {at_ : Nat × Nat} (fetched : w.desc = some d) (asked : w.reads = [at_])
include fetched asked

theorem exec_streamReadResponse {status : BitVec 4} {bs : List Byte} (small : w.pos < 65536)
    (whole : status = 0 → bs.length = at_.2) : exec (.streamReadResponse b (BitVec.ofNat 16 w.pos) status bs) s
      = .next (s.mirrorFrom ((s.readAnswer b.toNat w d at_ status.toNat bs).showCtx b.toNat)) := by
  have number : (BitVec.ofNat 16 w.pos).toNat = w.pos := by
    rw [BitVec.toNat_ofNat]
    exact Nat.mod_eq_of_lt small
  have found : ([w].find? fun e : StreamDesc => e.pos = (BitVec.ofNat 16 w.pos).toNat && e.desc.isSome && !e.reads.isEmpty)
      = some w := by
    simp only [number]
    simp [fetched, asked]
  show execStreamReadResponse b (BitVec.ofNat 16 w.pos) status bs s = _
  unfold execStreamReadResponse
  refine mirrored_next ?_
  simp only [only, found, fetched, asked]
  refine if_neg ?_
  simpa using whole

theorem exec_completionTimeout_read (small : w.pos < 65536) (host : s.srcHost b.toNat = true) :
    exec (.pcieCompletionTimeout b (BitVec.ofNat 16 w.pos)) s = .next (s.mirrorFrom
      (((s.raise pagePCI0 7 CONTAINED 0x0C17 b.toNat w.pos).readAnswer b.toNat w d at_ 1 []).showCtx b.toNat)) := by
  have number : (BitVec.ofNat 16 w.pos).toNat = w.pos := by
    rw [BitVec.toNat_ofNat]
    exact Nat.mod_eq_of_lt small
  have found : ([w].find? fun e : StreamDesc => e.pos = (BitVec.ofNat 16 w.pos).toNat && !e.reads.isEmpty) = some w := by
    simp only [number]
    simp [asked]
  show execPcieCompletionTimeout b (BitVec.ofNat 16 w.pos) s = _
  unfold execPcieCompletionTimeout
  refine mirrored_next ?_
  simp only [only, found, fetched, asked]
  exact if_neg (by simp [host])

end

/-! ### Fences (R383, R387) -/

section
variable (fences : w.fencing = true) (unseen : w.visible = false)
include fences unseen

theorem exec_streamFence_ok : exec (.streamFenceComplete b 0) s = .next (s.mirrorFrom ((s.setOnly b.toNat
    { w with fencing := false, visible := true }).progress b.toNat)) := by
  have waiting : ([w].filter fun w => w.fencing && !w.visible) = [w] := by simp [fences, unseen]
  show execStreamFenceComplete b 0 s = _
  unfold execStreamFenceComplete
  refine mirrored_next ?_
  simp only [only, waiting, List.map_cons, List.map_nil, fences]
  rfl

theorem exec_streamFence_failed {status : BitVec 4} (bad : status ≠ 0) : exec (.streamFenceComplete b status) s
    = .next (s.mirrorFrom (((s.setOnly b.toNat { w with fencing := false }).failDesc b.toNat w.pos
      (if s.dstHost b.toNat then 3 else 2) status.toNat).progress b.toNat)) := by
  have waiting : ([w].filter fun w => w.fencing && !w.visible) = [w] := by simp [fences, unseen]
  show execStreamFenceComplete b status s = _
  unfold execStreamFenceComplete
  refine mirrored_next ?_
  simp only [only, waiting, List.map_cons, List.map_nil, fences, bad]
  rfl

end

end

end

end Sys2Proof.Machine
end

section
/-! Records and the end of a context, and what the engine's commands complete (R378, R382, R387, R388). -/

namespace Sys2Proof.Machine

open Reg

section
variable {s : State} {b : BitVec 16}

/-! ### Records (R382, R387) -/

section
variable {r : StreamRec} {rs : List StreamRec} (front : (s.ctx b.toNat).recs = r :: rs) (out : r.written = true)
include front out

theorem exec_recordConfirmed_ok : exec (.recordConfirmed b 0) s = .next (s.mirrorFrom
    ((((s.setCtx b.toNat { s.ctx b.toNat with recs := rs }).stepDone b.toNat r).countRecord b.toNat r).progress b.toNat)) := by
  show execRecordConfirmed b 0 s = _
  unfold execRecordConfirmed
  refine mirrored_next ?_
  simp only [front, out]
  rfl

theorem exec_recordConfirmed_failed {status : BitVec 4} (bad : status ≠ 0) (noc : isHost (s.cring b.toNat) = false) :
    exec (.recordConfirmed b status) s = .next (s.mirrorFrom (((s.setCtx b.toNat { s.ctx b.toNat with
      recs := [], ringErr := some (r.pos, status.toNat) }).raise pageSE0 1 CONTAINED 0x0C02 b.toNat
        (errWord r.pos status.toNat 8)).setCtxState b.toNat 4)) := by
  show execRecordConfirmed b status s = _
  unfold execRecordConfirmed
  refine mirrored_next ?_
  simp only [front, out, bad, noc]
  rfl

end

/-- The done position and the bytes after a record, before the phase. -/
def State.doneAt (s : State) (n next bytes : Nat) : State :=
  (s.put (SE_SC_IDX.done n) next).putWide (SE_SC_BYTES.off n 0) 2
    ((s.put (SE_SC_IDX.done n) next).getWide (SE_SC_BYTES.off n 0) 2 + bytes)

theorem State.stepDone_eq {n : Nat} {r : StreamRec} (due : r.pos = s.done n) : s.stepDone n r
    = (s.doneAt n ((r.pos + 1) % s.ringLen n) r.bytes).when (decide ((r.pos + 1) % s.ringLen n = 0)) fun t =>
      t.putB (SE_SC_STAT.phase n) (!t.is (SE_SC_STAT.phase n)) := if_neg (by simp [due])

theorem State.word_doneAt (n next bytes : Nat) {o : Nat} (idx : o ≠ SE_SC_IDX.off n)
    (count : o ≠ SE_SC_BYTES.off n 0 ∧ o ≠ SE_SC_BYTES.off n 0 + 4) : (s.doneAt n next bytes).word o = s.word o := by
  refine (State.sameRegs_putWide _ _ _ _ _ ?_).trans (s.word_put_ne (f := SE_SC_IDX.done n) next idx)
  simp only [List.mem_map, List.mem_range, not_exists, not_and]
  intro i hi same
  omega

theorem State.done_doneAt (n : Nat) {next : Nat} (small : next < 65536) (bytes : Nat) : (s.doneAt n next bytes).done n = next := by
  have kept : (s.doneAt n next bytes).word (SE_SC_IDX.off n) = (s.put (SE_SC_IDX.done n) next).word (SE_SC_IDX.off n) := by
    refine State.sameRegs_putWide _ _ _ _ _ ?_
    simp only [List.mem_map, List.mem_range, not_exists, not_and, SE_SC_BYTES.off, SE_SC_IDX.off]
    omega
  exact (congrArg (bitsOf · 15 0) kept).trans ((s.get_put_same next (by simp [SE_SC_IDX.done])).trans (Nat.mod_eq_of_lt small))

theorem State.bytes_doneAt (n next bytes : Nat) : (s.doneAt n next bytes).getWide (SE_SC_BYTES.off n 0) 2
    = (s.getWide (SE_SC_BYTES.off n 0) 2 + bytes) % 2 ^ 64 := by
  have before : (s.put (SE_SC_IDX.done n) next).getWide (SE_SC_BYTES.off n 0) 2 = s.getWide (SE_SC_BYTES.off n 0) 2 := by
    refine State.getWide_of_same _ fun i hi => s.word_put_ne (f := SE_SC_IDX.done n) next ?_
    simp only [SE_SC_BYTES.off, SE_SC_IDX.done, SE_SC_IDX.off]
    omega
  rw [State.doneAt, before]
  exact State.getWide_of_words _ fun i hi => State.word_putWide _ _ _ hi

theorem State.stepDone_completes {n : Nat} {r : StreamRec} (due : r.pos = s.done n) (small : s.get (SE_SC_DRING_HI.size n) ≤ 16) :
    (s.stepDone n r).done n = (r.pos + 1) % s.ringLen n
      ∧ (s.stepDone n r).getWide (SE_SC_BYTES.off n 0) 2 = (s.getWide (SE_SC_BYTES.off n 0) 2 + r.bytes) % 2 ^ 64
      ∧ ((r.pos + 1) % s.ringLen n ≠ 0 → (s.stepDone n r).get (SE_SC_STAT.phase n) = s.get (SE_SC_STAT.phase n))
      ∧ ((r.pos + 1) % s.ringLen n = 0 → (s.stepDone n r).get (SE_SC_STAT.phase n) = 1 - s.get (SE_SC_STAT.phase n)) := by
  have fits : (r.pos + 1) % s.ringLen n < 65536 := (Nat.mod_lt _ (s.ringLen_pos n)).trans_le (s.ringLen_le small)
  have phase : (s.doneAt n ((r.pos + 1) % s.ringLen n) r.bytes).get (SE_SC_STAT.phase n) = s.get (SE_SC_STAT.phase n) :=
    congrArg (bitsOf · 27 27) (s.word_doneAt n _ _ (entry_ne_stat n).1.symm (by simp [SE_SC_STAT.phase, SE_SC_STAT.off, SE_SC_BYTES.off]))
  have done := s.done_doneAt n fits r.bytes
  have bytes := s.bytes_doneAt n ((r.pos + 1) % s.ringLen n) r.bytes
  rw [State.stepDone_eq due]
  generalize s.doneAt n ((r.pos + 1) % s.ringLen n) r.bytes = u at phase done bytes
  refine ⟨?_, ?_, fun goes => ?_, fun wraps => ?_⟩
  · exact (State.when_keeps (fun t => t.done n) _ _ _ fun t => t.get_put_off (f := SE_SC_STAT.phase n) _ (entry_ne_stat n).1).trans done
  · refine Eq.trans (State.when_keeps (fun t => t.getWide (SE_SC_BYTES.off n 0) 2) _ _ _ fun t => ?_) bytes
    refine State.getWide_of_same _ fun i hi => t.word_put_ne (f := SE_SC_STAT.phase n) _ ?_
    simp only [SE_SC_BYTES.off, SE_SC_STAT.phase, SE_SC_STAT.off]
    omega
  · rw [State.when_of_false (decide_eq_false goes), phase]
  · rw [State.when_of_true (decide_eq_true wraps), ← phase]
    have one : u.get (SE_SC_STAT.phase n) < 2 := u.get_lt _
    refine (u.get_put_same (!u.is (SE_SC_STAT.phase n)).toNat (by simp [SE_SC_STAT.phase])).trans ?_
    have bits : (SE_SC_STAT.phase n).hi + 1 - (SE_SC_STAT.phase n).lo = 1 := by simp [SE_SC_STAT.phase]
    rw [bits, State.is]
    interval_cases u.get (SE_SC_STAT.phase n) <;> rfl

/-! ### A stopped context ends (R378) -/

/-- A context with one descriptor of which nothing is visible shows only what it holds. -/
theorem State.progress_unseen {n : Nat} {w : StreamDesc} {d : Desc} (only : (s.ctx n).work = [w]) (fetched : w.desc = some d)
    (unseen : w.visible = false) (recs : (s.ctx n).recs = []) : s.progress n = (s.setCtx n (s.ctx n)).showCtx n := by
  have same : { s.ctx n with recs := [] } = s.ctx n := by rw [← recs]
  have stays : s.finish n 1 = s := by
    simp [State.finish, only, fetched, unseen]
  have push : s.pushRecords n = s.setCtx n { s.ctx n with recs := [] } := by
    rw [State.pushRecords, recs]
    rfl
  rw [State.progress, only]
  exact congrArg (State.showCtx · n) ((congrArg (State.pushRecords · n) stays).trans (push.trans (by rw [same])))

/-- With no record held, a context shows its state in its status register alone. -/
theorem State.word_showCtx_quiet {n : Nat} (none : s.heldRecords n = 0) {o : Nat} (other : o ≠ SE_SC_STAT.off n) :
    (s.showCtx n).word o = s.word o := by
  have held : (s.showHeld n 0).word o = s.word o := by
    rw [State.showHeld, if_neg (by simp)]
    exact (State.when_keeps (fun t => t.word o) _ _ _ fun t => t.word_setCtx n _ o).trans
      (s.word_put_ne (f := SE_SC_STAT.held n) _ other)
  rw [s.showCtx_eq, none]
  exact (State.word_showRuns _ _ _ _ other).trans held

theorem State.mirrors_of_word {s t : State} (same : t.word PAIR_STAT.off = s.word PAIR_STAT.off) : t.mirrors = s.mirrors := by
  have role : t.get PAIR_STAT.role = s.get PAIR_STAT.role := congrArg (bitsOf · 27 27) same
  have state : t.get PAIR_STAT.state = s.get PAIR_STAT.state := congrArg (bitsOf · 31 28) same
  rw [State.mirrors, State.is, role, state, State.mirrors, State.is]

/-- Without a pair, a record only joins those to be written. -/
theorem State.addRecord_alone (quiet : s.mirrors = false) (n pos status detail bytes : Nat) (cookie : BitVec 64) (noIrq : Bool) :
    ∃ r : StreamRec, (r.pos = pos ∧ r.status = status ∧ r.cookie = cookie)
      ∧ s.addRecord n pos status detail bytes cookie noIrq = s.setCtx n { s.ctx n with recs := (s.ctx n).recs ++ [r] } := by
  unfold State.addRecord
  simp only [quiet, Bool.and_false]
  exact ⟨_, ⟨rfl, rfl, rfl⟩, rfl⟩

/-- A context that halts, before its records go out. -/
def State.halts (s : State) (n index status detail : Nat) : State :=
  (((s.setWord (SE_SC_ERR.off n) (BitVec.ofNat 32 (errWord index detail status))).outBy n (-((s.ctx n).reads : Int))).setCtx n
    { on := true, recs := (s.ctx n).recs }).setCtxState n 5

theorem State.haltCtx_eq {n : Nat} (stays : (s.ctx n).disabling = false) (index status detail : Nat) :
    s.haltCtx n index status detail = (s.halts n index status detail).pushRecords n := by
  unfold State.haltCtx
  simp only [stays]
  rfl

theorem State.ctx_halts (n index status detail : Nat) :
    (s.halts n index status detail).ctx n = { on := true, recs := (s.ctx n).recs } :=
  (State.ctx_setCtxState _ n 5 n).trans (State.ctx_setCtx _ n _)

theorem State.err_halts (n index status detail : Nat) :
    (s.halts n index status detail).word (SE_SC_ERR.off n) = BitVec.ofNat 32 (errWord index detail status) := by
  refine (State.word_setCtxState _ n 5 (entry_ne_stat n).2.2.2.2.1).trans ((State.word_setCtx _ n _ _).trans ?_)
  exact (State.word_outBy _ n _ (inEntries_err n) (by simp [SE_SC_ERR.off, SE_SC_QUOTA.off])).trans (s.word_setWord_same _ _)

/-- The end of a stopped context whose first descriptor has not failed. -/
theorem State.drained_stopped {n : Nat} {w : StreamDesc} {d : Desc} (only : (s.ctx n).work = [w]) (fetched : w.desc = some d)
    (idle : w.reads = []) (plain : w.fencing = false) (well : w.fail = none) (ring : (s.ctx n).ringErr = none)
    (stopped : (s.ctx n).stopped = true) :
    s.drained n = (s.addRecord n w.pos 7 0 0 d.cookie (bit d.flags 0)).haltCtx n w.pos 7 0 := by
  have quiet : ([w].any fun w => !w.reads.isEmpty || w.fencing) = false := by simp [idle, plain]
  have stops : s.drained n = s.endStopped n := by
    unfold State.drained
    simp only [only, quiet, ring, stopped]
    rfl
  rw [stops, State.endStopped]
  simp only [only, well]
  rw [State.endAt]
  simp only [fetched]
  rfl

theorem exec_contextDrained_stopping (free : s.fenced = false) (stopping : s.ctxState b.toNat = 4) :
    exec (.contextDrained b) s = .next (s.mirrorFrom ((s.progress b.toNat).drained b.toNat)) := by
  show execContextDrained b s = _
  unfold execContextDrained
  refine mirrored_next (congrArg _ ((if_neg ?_).trans (if_neg ?_)))
  · simp [free]
  · simp [stopping]

theorem exec_contextDrained_completes {w : StreamDesc} {d : Desc} (free : s.fenced = false) (stopping : s.ctxState b.toNat = 4)
    (only : (s.ctx b.toNat).work = [w]) (fetched : w.desc = some d) (idle : w.reads = []) (plain : w.fencing = false)
    (unseen : w.visible = false) (well : w.fail = none) (ring : (s.ctx b.toNat).ringErr = none)
    (stopped : (s.ctx b.toNat).stopped = true) (stays : (s.ctx b.toNat).disabling = false)
    (recs : (s.ctx b.toNat).recs = []) (quiet : s.mirrors = false) :
    ∃ u : State, u.ctxState b.toNat = 5 ∧ u.word (SE_SC_ERR.off b.toNat) = BitVec.ofNat 32 (errWord w.pos 0 7)
      ∧ (u.ctx b.toNat).work = [] ∧ (u.ctx b.toNat).recs.map (fun r => (r.pos, r.status, r.cookie)) = [(w.pos, 7, d.cookie)]
      ∧ exec (.contextDrained b) s = .next (s.mirrorFrom (u.pushRecords b.toNat)) := by
  have same : (s.setCtx b.toNat (s.ctx b.toNat)).ctx b.toNat = s.ctx b.toNat := s.ctx_setCtx _ _
  have none : (s.setCtx b.toNat (s.ctx b.toNat)).heldRecords b.toNat = 0 := State.heldRecords_nil _ (by rw [same, recs])
  have shown := State.ctx_showCtx _ none
  have mirrors : ((s.setCtx b.toNat (s.ctx b.toNat)).showCtx b.toNat).mirrors = false := by
    refine (State.mirrors_of_word ?_).trans quiet
    refine (State.word_showCtx_quiet none ?_).trans (s.word_setCtx _ _ _)
    simp only [PAIR_STAT.off, SE_SC_STAT.off]
    omega
  rw [same] at shown
  have run := exec_contextDrained_stopping free stopping
  rw [State.progress_unseen only fetched unseen recs] at run
  generalize (s.setCtx b.toNat (s.ctx b.toNat)).showCtx b.toNat = t at shown mirrors run
  rw [State.drained_stopped (by rw [shown, only]) fetched idle plain well (by rw [shown, ring]) (by rw [shown, stopped])] at run
  obtain ⟨r, ⟨pos, status, cookie⟩, record⟩ := t.addRecord_alone mirrors b.toNat w.pos 7 0 0 d.cookie (bit d.flags 0)
  have after : (t.setCtx b.toNat { t.ctx b.toNat with recs := (t.ctx b.toNat).recs ++ [r] }).ctx b.toNat
      = { t.ctx b.toNat with recs := [r] } := by
    rw [State.ctx_setCtx, shown, recs]
    rfl
  rw [record] at run
  generalize t.setCtx b.toNat { t.ctx b.toNat with recs := (t.ctx b.toNat).recs ++ [r] } = v at run after
  rw [State.haltCtx_eq (by rw [after, shown, stays])] at run
  refine ⟨v.halts b.toNat w.pos 7 0, State.ctxState_setCtxState _ _ (by decide), v.err_halts _ _ _ _, ?_, ?_, run⟩
  · rw [v.ctx_halts]
  · rw [v.ctx_halts, after]
    simp [pos, status, cookie]

end

/-- Settles O49: the slot's turn, then each answer on the one descriptor that waits for it. -/
theorem contextEngineCompletes : Obligations.ContextEngineCompletes := by
  unfold Obligations.ContextEngineCompletes
  refine ⟨fun s b n on alone => ?_, fun s n w d _ only _ => ⟨State.work_issueRead only, State.outstanding_issueRead⟩,
    fun s b w status d only unfetched asked => ⟨?_, exec_descriptorFetched_bad only unfetched asked,
      exec_completionTimeout_fetch only unfetched asked⟩,
    fun s b w d at_ status bs only fetched asked small well goes ring => ⟨?_, fun bad => ?_,
      exec_completionTimeout_read only fetched asked small⟩,
    fun s b w status only fences unseen => ⟨?_, exec_streamFence_failed only fences unseen⟩,
    fun s b r rs status front out => ⟨?_, fun bad noc => ?_⟩,
    fun s n r due small _ => State.stepDone_completes due small, fun s b w d free stopping only fetched idle plain unseen well ring
      stopped stays recs quiet => exec_contextDrained_completes free stopping only fetched idle plain unseen well ring stopped
        stays recs quiet⟩
  · obtain ⟨last, credit, run⟩ := exec_engineIssueSlot_serves on alone
    have reader := s.reader_turns last credit n
    refine ⟨s.turns last credit, rfl, run (some true) _ rfl, run (some false) _ rfl, fun w d reads fetched => ?_, fun none => ?_⟩
    · refine run .none _ ?_
      simp only [State.slotDoes, reader, reads, fetched]
    · refine run .none _ ?_
      simp only [State.slotDoes, reader, none]
  · rintro rfl
    exact exec_descriptorFetched_ok only unfetched asked
  · rintro rfl whole
    rw [exec_streamReadResponse only fetched asked small fun _ => whole]
    exact next_mirrored s (congrArg (State.showCtx · b.toNat) (State.readAnswer_ok only well goes ring asked bs))
  · rw [exec_streamReadResponse only fetched asked small fun ok => absurd ok bad]
    refine next_mirrored s (congrArg (State.showCtx · b.toNat) (State.readAnswer_failed only well goes ring asked bs ?_))
    exact fun zero => bad (BitVec.eq_of_toNat_eq zero)
  · rintro rfl
    exact exec_streamFence_ok only fences unseen
  · rintro rfl
    exact exec_recordConfirmed_ok front out
  · refine ⟨_, State.ctxState_setCtxState _ _ (by decide), ?_, ?_, exec_recordConfirmed_failed front out bad noc⟩
    · rw [State.ctx_setCtxState, State.ctx_raise, State.ctx_setCtx]
    · rw [State.ctx_setCtxState, State.ctx_raise, State.ctx_setCtx]

end Sys2Proof.Machine
end

section
/-! The PCI Express link and its power states (R367, R374, R375, R394). -/

namespace Sys2Proof.Machine

open Reg

section
variable (s : State)

/-! ### The link's register -/

/-- Whether the L1 is the PCI-PM one. -/
def State.setPm (s : State) (on : Bool) : State := { s with pci := { s.pci with pmL1 := on } }

@[simp] theorem State.get_setPm (on : Bool) (f : Field) : (s.setPm on).get f = s.get f := rfl

/-- The events of the endpoint's page leave the link's register. -/
theorem State.get_link_raise (k : Nat) (cls : BitVec 2) (code i0 i1 : Nat) {f : Field} (link : f.off = PCI_LINK.off) :
    (s.raise pagePCI0 k cls code i0 i1).get f = s.get f :=
  s.get_raise_off _ _ _ _ _ _ (by rw [link]; decide)

/-- The link in a state, with the kind of its L1. -/
def State.linkAt (s : State) (ltssm sub : Nat) : State := (s.put PCI_LINK.ltssm ltssm).put PCI_LINK.l1_sub sub

theorem State.get_linkAt {ltssm sub : Nat} (hl : ltssm < 16) (hs : sub < 4) : (s.linkAt ltssm sub).get PCI_LINK.ltssm = ltssm
    ∧ (s.linkAt ltssm sub).get PCI_LINK.l1_sub = sub := by
  constructor
  · refine (State.get_put_apart _ (f := PCI_LINK.l1_sub) (g := PCI_LINK.ltssm) sub (by decide) (.inr (by decide))).trans ?_
    exact (s.get_put_same ltssm (by decide)).trans (Nat.mod_eq_of_lt hl)
  · exact (State.get_put_same _ sub (by decide)).trans (Nat.mod_eq_of_lt hs)

theorem State.sameRegs_linkAt (ltssm sub : Nat) : s.SameRegs (s.linkAt ltssm sub) [PCI_LINK.off] := by
  intro o other
  have apart : o ≠ PCI_LINK.off := by simpa using other
  exact (State.word_put_ne _ (f := PCI_LINK.l1_sub) sub apart).trans (s.word_put_ne (f := PCI_LINK.ltssm) ltssm apart)

/-! ### L1 and LTR (R374, R375) -/

theorem exec_aspmL1Entry_idle {s : State} (on : s.linkOn = true) (idle : s.pci.waiting = []) (sub : Fin 3) :
    exec (.aspmL1Entry sub) s = .next ((s.linkAt 6 sub).setPm false) := by
  show execAspmL1Entry sub s = _
  exact if_pos (by simp [on, idle])

theorem exec_l1Exit_sends {s : State} (l1 : s.get PCI_LINK.ltssm = 6) :
    exec .l1Exit s = .next ((s.linkAt 3 0).setPm false).sendWaiting := by
  show execL1Exit s = _
  exact if_neg (by simp [l1])

theorem exec_ltrSend_leaves {s : State} (up : s.get PCI_LINK.ltssm ≠ 0) (on : s.is PCI_CFG.enable = true)
    (free : s.fenced = false) : exec .ltrSend s = .next (s.toHost (.ltr (s.word PCI_LTR.off))) := by
  show execLtrSend s = _
  exact if_neg (by simp [up, on, free])

/-! ### The link trains (R367) -/

/-- A trained link. -/
def State.linkTrained (s : State) (rate width : Nat) (flit : Bool) : State :=
  (((((s.put PCI_LINK.ltssm 3).put PCI_LINK.rate rate).put PCI_LINK.width width).putB PCI_LINK.flit flit).put
    PCI_LINK.l1_sub 0).setPm false

theorem State.get_linkTrained {rate width : Nat} (hr : rate < 8) (hw : width < 32) (flit : Bool) :
    (s.linkTrained rate width flit).get PCI_LINK.ltssm = 3 ∧ (s.linkTrained rate width flit).get PCI_LINK.rate = rate
      ∧ (s.linkTrained rate width flit).get PCI_LINK.width = width ∧ (s.linkTrained rate width flit).get PCI_LINK.l1_sub = 0 := by
  have last (u : State) {f : Field} (high : 19 < f.lo) (word : f.hi < 32) :
      (((u.putB PCI_LINK.flit flit).put PCI_LINK.l1_sub 0).setPm false).get f = u.get f :=
    (State.get_setPm _ false f).trans ((State.get_put_apart _ (f := PCI_LINK.l1_sub) 0 word (.inr (by simp [PCI_LINK.l1_sub]; omega))).trans
      (u.get_put_apart (f := PCI_LINK.flit) _ word (.inr (by simpa [PCI_LINK.flit]))))
  refine ⟨?_, ?_, ?_, ?_⟩
  · refine (last _ (f := PCI_LINK.ltssm) (by decide) (by decide)).trans ?_
    refine (State.get_put_apart _ (f := PCI_LINK.width) width (by decide) (.inr (by decide))).trans ?_
    refine (State.get_put_apart _ (f := PCI_LINK.rate) rate (by decide) (.inr (by decide))).trans ?_
    exact s.get_put_same 3 (by decide)
  · refine (last _ (f := PCI_LINK.rate) (by decide) (by decide)).trans ?_
    refine (State.get_put_apart _ (f := PCI_LINK.width) width (by decide) (.inr (by decide))).trans ?_
    exact (State.get_put_same _ rate (by decide)).trans (Nat.mod_eq_of_lt hr)
  · refine (last _ (f := PCI_LINK.width) (by decide) (by decide)).trans ?_
    exact (State.get_put_same _ width (by decide)).trans (Nat.mod_eq_of_lt hw)
  · exact (State.get_setPm _ false _).trans (State.get_put_same _ (f := PCI_LINK.l1_sub) 0 (by decide))

/-- The events of a trained link: up, and below what the maxima allow. -/
def State.linkReports (s : State) (below : Bool) (rate width : Nat) : State :=
  (s.raise pagePCI0 1 INFO 0x0C11 0 0).when below fun s => s.raise pagePCI0 2 INFO 0x0C12 rate width

theorem State.get_linkReports (below : Bool) (rate width : Nat) {f : Field} (link : f.off = PCI_LINK.off) :
    (s.linkReports below rate width).get f = s.get f :=
  (State.when_keeps (fun t => t.get f) _ _ _ fun t => t.get_link_raise _ _ _ _ _ link).trans (s.get_link_raise _ _ _ _ _ link)

theorem State.pci_linkReports (below : Bool) (rate width : Nat) : (s.linkReports below rate width).pci = s.pci :=
  (State.when_keeps (fun t => t.pci) _ _ _ fun t => t.raise_pci ..).trans (s.raise_pci ..)

/-- Whether the link runs in flit mode, and whether it came up below the maxima. -/
def State.linkPaced (s : State) (rate width : Nat) (flit : Bool) : Bool :=
  decide (rate = 5) || (flit && (((s.put PCI_LINK.ltssm 3).put PCI_LINK.rate rate).put PCI_LINK.width width).is PCI_CFG.flit_allow)
def State.linkBelow (s : State) (rate width most : Nat) (paced : Bool) : Bool :=
  decide (rate < ((s.linkTrained rate width paced).raise pagePCI0 1 INFO 0x0C11 0 0).get PCI_CFG.max_rate) || decide (width < most)

theorem exec_linkUp_trains {s : State} {rate : BitVec 3} {width : BitVec 5} {flit : Bool} (on : s.is PCI_CFG.enable = true)
    {r w : Nat} (hr : min rate.toNat (s.get PCI_CFG.max_rate) = r) (hw : min width.toNat (2 ^ s.get PCI_CFG.max_width) = w) :
    exec (.linkUp rate width flit) s = .next ((s.linkTrained r w (s.linkPaced r w flit)).linkReports
      (s.linkBelow r w (2 ^ s.get PCI_CFG.max_width) (s.linkPaced r w flit)) r w).sendWaiting := by
  subst hr hw
  show execLinkUp rate width flit s = _
  exact if_neg (by simp [on])

/-! ### The link goes down (R374, R394) -/

/-- What a lost link leaves waiting. -/
def outlivesLink (t : HostTlp) : Bool :=
  match t with
  | .completion _ _ _ => false
  | _ => true

/-- A lost link: counted, with every host request forgotten. -/
def State.linkLost (s : State) : State :=
  let t := (s.linkAt 0 0).count PCI_LINK.downs
  { t with pci := { t.pci with pmL1 := false, reqs := [], waiting := t.pci.waiting.filter outlivesLink } }

/-- What a lost link does with the requests at a port to the host. -/
def State.losePort (s : State) (q : Nat) : State :=
  let v := s.port q
  let host (p : Packet) : Bool := isHost p.addr.toNat
  let s := s.setPort q { v with accepted := v.accepted.filter fun p => !host p, posted := [] }
  let s := s.each (v.accepted.filter host) fun s p => s.answerFrom q p 1 [] false 0
  (s.each v.posted fun s p => s.markLost q p).settleFlushes q

theorem State.get_linkLost : s.linkLost.get PCI_LINK.ltssm = 0
    ∧ s.linkLost.get PCI_LINK.downs = min (s.get PCI_LINK.downs + 1) 255 := by
  have regs (f : Field) : s.linkLost.get f = ((s.linkAt 0 0).count PCI_LINK.downs).get f :=
    State.get_of_regs (by unfold State.linkLost; dsimp only) f
  have before : (s.linkAt 0 0).get PCI_LINK.downs = s.get PCI_LINK.downs :=
    (State.get_put_apart _ (f := PCI_LINK.l1_sub) 0 (by decide) (.inl (by decide))).trans
      (s.get_put_apart (f := PCI_LINK.ltssm) 0 (by decide) (.inl (by decide)))
  rw [regs, regs]
  constructor
  · refine (State.get_put_apart _ (f := PCI_LINK.downs) (g := PCI_LINK.ltssm) _ (by decide) (.inr (by decide))).trans ?_
    exact (s.get_linkAt (by decide) (by decide)).1
  · rw [State.get_count_same _ (by decide), before]
    rfl

/-- A port at which nothing waits. -/
def State.portIdle (s : State) (q : Nat) : Prop :=
  (s.port q).accepted = [] ∧ (s.port q).posted = [] ∧ (s.port q).flushes = []

theorem State.port_setPort_same (q : Nat) (v : PortState) : (s.setPort q v).port q = v := KMap.get_set_same ..
theorem State.port_setPort_ne {q r : Nat} (v : PortState) (other : r ≠ q) : (s.setPort q v).port r = s.port r :=
  KMap.get_set_ne _ _ _ other

/-- At an idle port a lost link changes nothing but the port's own record. -/
theorem State.losePort_idle {s : State} {q : Nat} (idle : s.portIdle q) :
    ∃ a b, s.losePort q = (s.setPort q a).setPort q b := by
  obtain ⟨accepted, posted, flushes⟩ := idle
  have none : ((s.setPort q { s.port q with accepted := [], posted := [] }).port q).flushes = [] := by
    rw [State.port_setPort_same]
    exact flushes
  refine ⟨{ s.port q with accepted := [], posted := [] },
    { (s.setPort q { s.port q with accepted := [], posted := [] }).port q with flushes := [] }, ?_⟩
  unfold State.losePort
  simp only [accepted, posted, List.filter_nil]
  show (s.setPort q { s.port q with accepted := [], posted := [] }).settleFlushes q = _
  unfold State.settleFlushes
  simp only [none, List.filter_nil]
  rfl

/-- Two states that differ in the NoC's own state alone. -/
def OnlyNoc (s t : State) : Prop := ∃ noc, t = { s with noc := noc }

theorem OnlyNoc.trans {s t u : State} (h : OnlyNoc s t) (k : OnlyNoc t u) : OnlyNoc s u := by
  obtain ⟨_, rfl⟩ := h
  obtain ⟨_, rfl⟩ := k
  exact ⟨_, rfl⟩

theorem onlyNoc_setPort (s : State) (q : Nat) (v : PortState) : OnlyNoc s (s.setPort q v) := ⟨_, rfl⟩

theorem onlyNoc_losePort {s : State} {q : Nat} (idle : s.portIdle q) : OnlyNoc s (s.losePort q) := by
  obtain ⟨a, b, lost⟩ := State.losePort_idle idle
  rw [lost]
  exact (onlyNoc_setPort s q a).trans (onlyNoc_setPort _ q b)

/-- Losing the link at two idle ports. -/
theorem State.losePorts_idle {s : State} {q r : Nat} (apart : r ≠ q) (first : s.portIdle q) (second : s.portIdle r) :
    OnlyNoc s (s.each [q, r] State.losePort) := by
  obtain ⟨a, b, one⟩ := State.losePort_idle first
  have later : (s.losePort q).portIdle r := by
    rw [one, State.portIdle, State.port_setPort_ne _ _ apart, State.port_setPort_ne _ _ apart]
    exact second
  have both : s.each [q, r] State.losePort = (s.losePort q).losePort r := by
    simp only [State.each, List.foldl_cons, List.foldl_nil]
  rw [both]
  exact (onlyNoc_losePort first).trans (onlyNoc_losePort later)

theorem exec_linkDown_loses {s : State} (up : s.get PCI_LINK.ltssm ≠ 0) : exec .linkDown s = .next (s.mirrorFrom
    ((s.linkLost.raise pagePCI0 0 CONTAINED 0x0C10 0 0).each [portId 5 0 0, portId 6 0 0] State.losePort).loseHostReads) := by
  show execLinkDown s = _
  unfold execLinkDown
  exact mirrored_next (if_neg up)

end

end Sys2Proof.Machine
end

section
/-! What the host asks of the endpoint, and what the link's commands complete (R366, R370 to R373, R467). -/

namespace Sys2Proof.Machine

open Reg

section
variable {s : State}

/-! ### Host requests (R370, R372) -/

/-- The next host request has its number. -/
def State.numbered (s : State) : State := { s with pci := { s.pci with nextId := s.pci.nextId + 1 } }

/-- A request to a BAR of a present physical function, within the BAR. -/
theorem hostRequest_served {f : Fn} {bar : Fin 5} {off : BitVec 38} {len : Fin 4097} {size : Nat}
    (present : s.fnPresent (fnNo f) = true) (pf : f.vf = 0) (own : bar.val = 0 → fnNo f = 0)
    (fits : off.toNat + len.val ≤ size) :
    (!s.fnPresent (fnNo f) || decide (fnNo f % 65 ≠ 0) || (decide (bar.val = 0) && decide (fnNo f ≠ 0))
      || decide (size < off.toNat + len.val)) = false := by
  have number : fnNo f % 65 = 0 := by
    have vf : f.vf.val = 0 := congrArg Fin.val pf
    unfold fnNo
    omega
  have bar0 : (decide (bar.val = 0) && decide (fnNo f ≠ 0)) = false := by
    by_cases zero : bar.val = 0
    · simp [own zero]
    · simp [zero]
  rw [bar0]
  simp [present, number, fits]

section
variable {f : Fn} {bar : Fin 5} {off : BitVec 38} {len : Fin 4097} {data : List Byte} (some : 0 < len.val)
  (on : s.is PCI_CFG.enable = true) (live : s.linkLive = true)
include some on live

theorem exec_hostRead_fenced (fenced : s.fenced = true) : exec (.hostRequest f bar false off len data) s
    = .next (s.numbered.complete s.pci.nextId (fnNo f) bar off.toNat 2 []) := by
  have length : len.val ≠ 0 := by omega
  show execHostRequest f bar false off len data s = _
  simp only [execHostRequest, length, on, live, fenced]
  rfl

variable (free : s.fenced = false)
include free

theorem exec_hostRead_unsupported (none : barSpace bar = none ∨ f.vf ≠ 0) : exec (.hostRequest f bar false off len data) s
    = .next (s.numbered.complete s.pci.nextId (fnNo f) bar off.toNat 1 []) := by
  have length : len.val ≠ 0 := by omega
  show execHostRequest f bar false off len data s = _
  simp only [execHostRequest, length, on, live, free]
  cases space : barSpace bar with
  | none => rfl
  | some a =>
    have virtual : f.vf ≠ 0 := none.resolve_left (by simp [space])
    have number : fnNo f % 65 ≠ 0 := by
      have inside := f.vf.isLt
      have vf : f.vf.val ≠ 0 := fun zero => virtual (Fin.ext zero)
      unfold fnNo
      omega
    have refused : (!s.fnPresent (fnNo f) || decide (fnNo f % 65 ≠ 0) || (decide (bar.val = 0) && decide (fnNo f ≠ 0))
        || decide (a.2 < off.toNat + len.val)) = true := by simp [number]
    exact if_pos refused

variable {space size : Nat} (maps : barSpace bar = Option.some (space, size)) (present : s.fnPresent (fnNo f) = true) (pf : f.vf = 0)
  (own : bar.val = 0 → fnNo f = 0) (fits : off.toNat + len.val ≤ size)
include maps present pf own fits

theorem exec_hostWrite_posts (whole : data.length = len.val) : exec (.hostRequest f bar true off len data) s
    = .next (s.hostWrite (fnNo f) bar (space * 2 ^ 52 + off.toNat) data) := by
  have length : len.val ≠ 0 := by omega
  have served := hostRequest_served present pf own fits
  show execHostRequest f bar true off len data s = _
  unfold execHostRequest
  dsimp only
  rw [if_neg (by simp [length, whole]), if_neg (by simp [on, live]), if_neg (by simp [free]), maps]
  exact (if_neg (Bool.eq_false_iff.mp served)).trans (if_pos rfl)

theorem exec_hostRead_reads (aligned : bar.val = 0 → off.toNat % 4 = 0 ∧ len.val % 4 = 0 ∧ len.val ≤ 64) :
    exec (.hostRequest f bar false off len data) s
      = .next (s.hostRead (fnNo f) bar off.toNat (space * 2 ^ 52 + off.toNat) len) := by
  have length : len.val ≠ 0 := by omega
  have served := hostRequest_served present pf own fits
  have plain : ¬ (decide (bar.val = 0)
      && (decide (off.toNat % 4 ≠ 0) || decide (len.val % 4 ≠ 0) || decide (64 < len.val))) = true := by
    by_cases zero : bar.val = 0
    · obtain ⟨start, end_, most⟩ := aligned zero
      simp [start, end_, most]
    · simp [zero]
  show execHostRequest f bar false off len data s = _
  unfold execHostRequest
  dsimp only
  rw [if_neg (by simp [length]), if_neg (by simp [on, live]), if_neg (by simp [free]), maps]
  exact (if_neg (Bool.eq_false_iff.mp served)).trans ((if_neg Bool.false_ne_true).trans (if_neg plain))

end

theorem exec_hostCompletion_ok {r : HostReq} (only : s.pci.reqs = [r]) (answered : ∀ c ∈ r.pieces, c.answer = some 0) :
    exec (.hostCompletion r.id) s = .next (State.complete { s with pci := { s.pci with reqs := [] } } r.id r.fn r.bar r.off 0
      (r.pieces.flatMap fun c => c.data)) := by
  have found : ([r].find? fun e : HostReq => e.id = r.id) = some r := by simp
  have waits : (r.pieces.any fun c => c.answer.isNone) = false := by
    simp only [List.any_eq_false]
    intro c mem
    simp [answered c mem]
  have well : (r.pieces.filterMap fun c => c.answer).find? (fun a : BitVec 4 => a ≠ 0) = none := by
    simp only [List.find?_eq_none, List.mem_filterMap]
    rintro a ⟨c, mem, answer⟩
    rw [answered c mem] at answer
    simp [← Option.some.inj answer]
  have gone : [r].erase r = [] := by simp
  show execHostCompletion r.id s = _
  unfold execHostCompletion
  simp only [only, found, waits, gone, well]
  rfl

/-! ### The function aperture (R371) -/

/-- The doorbell of a place in the function's range. -/
theorem doorbell_off {i : Nat} (hi : i < 1024) : (BitVec.ofNat 16 (0x9000 + 8 * i)).toNat = 0x9000 + 8 * i := by
  rw [BitVec.toNat_ofNat]
  exact Nat.mod_eq_of_lt (by omega)

section
variable {f : Fn} {v : BitVec 64} (virtual : fnNo f ≠ 0) (present : s.fnPresent (fnNo f) = true)
  (on : s.is PCI_CFG.enable = true) (live : s.linkLive = true) (free : s.fenced = false)
include virtual present on live free

theorem aperture_open : (decide (fnNo f = 0) || !s.fnPresent (fnNo f) || !s.is PCI_CFG.enable || !s.linkLive || s.fenced)
    = false := by
  simp [virtual, present, on, live, free]

theorem exec_apertureRead {off : BitVec 16} {bytes : Fin 9} (outside : off.toNat < 0x9000 ∨ 0xB000 ≤ off.toNat)
    (some : bytes.val ≠ 0) : exec (.apertureAccess f off false bytes v) s = .next (s.mirrorFrom
      (s.answering ((List.range bytes.val).map fun i => s.apertureByte (fnNo f) (off.toNat + i)))) := by
  have opened := aperture_open virtual present on live free
  show execApertureAccess f off false bytes v s = _
  unfold execApertureAccess
  refine mirrored_next ?_
  dsimp only
  rw [if_neg some, opened, if_neg Bool.false_ne_true, if_pos (by simpa using outside), if_neg Bool.false_ne_true]

/-- What an access to a doorbell does within the function's range, and outside it. -/
theorem exec_doorbellWrite {i : Nat} (hi : i < 1024) : exec (.apertureAccess f (BitVec.ofNat 16 (0x9000 + 8 * i)) true 2 v) s
    = .next (s.mirrorFrom (if (s.ctxRange (fnNo f)).2 ≤ i || s.ctxFn ((s.ctxRange (fnNo f)).1 + i) ≠ fnNo f
      then (s.count SE_DB_REFUSED.v).raise pageSE0 2 INFO 0x0C03 ((s.ctxRange (fnNo f)).1 + i) (fnNo f)
      else s.writeTail ((s.ctxRange (fnNo f)).1 + i) (BitVec.ofNat 32 (v.toNat % 65536)))) := by
  have opened := aperture_open virtual present on live free
  have number := doorbell_off hi
  have place : (0x9000 + 8 * i - 0x9000) / 8 = i := by omega
  have aligned : (0x9000 + 8 * i - 0x9000) % 8 = 0 := by omega
  have inside : ¬ (decide (0x9000 + 8 * i < 0x9000) || decide (0xB000 ≤ 0x9000 + 8 * i)) = true := by simp; omega
  show execApertureAccess f (BitVec.ofNat 16 (0x9000 + 8 * i)) true 2 v s = _
  unfold execApertureAccess
  refine mirrored_next ?_
  dsimp only
  rw [number, place, aligned, if_neg (by decide), opened, if_neg Bool.false_ne_true, if_neg inside]
  split
  · rfl
  · refine congrArg _ ((State.when_of_false rfl _).trans ((State.when_of_true rfl _).trans ?_))
    rw [Nat.mul_zero, Nat.pow_zero, Nat.mul_one]

end

end

/-- Settles O46: the link's commands go through its register, a lost link through its two idle ports, and what the host
asks command by command. -/
theorem pcieLinkAndHostCommandsComplete : Obligations.PcieLinkAndHostCommandsComplete := by
  unfold Obligations.PcieLinkAndHostCommandsComplete
  refine ⟨fun s rate width flit on => ?_, fun s up idle => ?_, fun s sub on idle => ?_, fun s l1 => ?_, fun s up on free => ?_,
    fun s f bar off len data some on live => ⟨exec_hostRead_fenced some on live, exec_hostRead_unsupported some on live,
      fun space size free maps present pf own fits => ⟨exec_hostWrite_posts some on live free maps present pf own fits,
        exec_hostRead_reads some on live free maps present pf own fits⟩⟩,
    fun s r => exec_hostCompletion_ok, fun s f bytes v virtual present on live free => ⟨fun i hi inside names => ?_,
      fun i hi refused => ?_, fun off outside some => exec_apertureRead virtual present on live free outside some⟩⟩
  · have hr : min rate.toNat (s.get PCI_CFG.max_rate) < 8 := (Nat.min_le_left _ _).trans_lt rate.isLt
    have hw : min width.toNat (2 ^ s.get PCI_CFG.max_width) < 32 := (Nat.min_le_left _ _).trans_lt width.isLt
    have run := exec_linkUp_trains (flit := flit) on (r := min rate.toNat (s.get PCI_CFG.max_rate)) rfl
      (w := min width.toNat (2 ^ s.get PCI_CFG.max_width)) rfl
    obtain ⟨up, paces, lanes, sub⟩ := s.get_linkTrained hr hw (s.linkPaced _ _ flit)
    refine ⟨_, ?_, ?_, ?_, ?_, ?_, run⟩
    · rw [State.get_linkReports _ _ _ _ (f := PCI_LINK.ltssm) rfl, up]
    · rw [State.get_linkReports _ _ _ _ (f := PCI_LINK.rate) rfl, paces]
    · rw [State.get_linkReports _ _ _ _ (f := PCI_LINK.width) rfl, lanes]
    · rw [State.get_linkReports _ _ _ _ (f := PCI_LINK.l1_sub) rfl, sub]
    · rw [State.pci_linkReports]
      rfl
  · have idleAfter (q : Nat) (own : q ∈ [portId 5 0 0, portId 6 0 0]) :
        (s.linkLost.raise pagePCI0 0 CONTAINED 0x0C10 0 0).portIdle q := by
      have same : (s.linkLost.raise pagePCI0 0 CONTAINED 0x0C10 0 0).port q = s.port q := by
        rw [State.port, State.raise_noc]
        rfl
      rw [State.portIdle, same]
      exact idle q own
    obtain ⟨noc, lost⟩ := State.losePorts_idle (q := portId 5 0 0) (r := portId 6 0 0) (by decide)
      (idleAfter _ (by simp)) (idleAfter _ (by simp))
    have run := exec_linkDown_loses up
    rw [lost] at run
    have regs (f : Field) : State.get { s.linkLost.raise pagePCI0 0 CONTAINED 0x0C10 0 0 with noc := noc } f
        = (s.linkLost.raise pagePCI0 0 CONTAINED 0x0C10 0 0).get f := State.get_of_regs rfl f
    refine ⟨_, ?_, ?_, ?_, ?_, ?_, run⟩
    · rw [regs, State.get_link_raise _ _ _ _ _ _ rfl, s.get_linkLost.1]
    · rw [regs, State.get_link_raise _ _ _ _ _ _ rfl, s.get_linkLost.2]
    · exact (congrArg PciState.reqs (State.raise_pci ..)).trans rfl
    · exact (congrArg PciState.out (State.raise_pci ..)).trans rfl
    · exact (State.raise_se ..).trans rfl
  · obtain ⟨l1, kind⟩ := s.get_linkAt (ltssm := 6) (sub := sub) (by decide) (by omega)
    exact ⟨(s.linkAt 6 sub).setPm false, exec_aspmL1Entry_idle on idle sub, l1, kind, rfl, s.sameRegs_linkAt 6 sub, rfl⟩
  · obtain ⟨l0, kind⟩ := s.get_linkAt (ltssm := 3) (sub := 0) (by decide) (by decide)
    exact ⟨(s.linkAt 3 0).setPm false, l0, kind, rfl, s.sameRegs_linkAt 3 0, exec_l1Exit_sends l1⟩
  · refine ⟨_, exec_ltrSend_leaves up on free, ?_, fun carries => ?_, fun rests => ?_⟩
    · unfold State.toHost
      split <;> rfl
    · rw [State.toHost, if_pos carries]
      exact ⟨rfl, rfl⟩
    · rw [State.toHost, if_neg (by simp [rests])]
      exact ⟨rfl, rfl⟩
  · exact (exec_doorbellWrite virtual present on live free hi).trans (next_mirrored s (if_neg (by simp [inside, names])))
  · refine (exec_doorbellWrite virtual present on live free hi).trans (next_mirrored s (if_pos ?_))
    simpa using refused

end Sys2Proof.Machine
end

section
/-! The functions of the endpoint and their messages (R369, R374, R390, R393). -/

namespace Sys2Proof.Machine

open Reg

section
variable (s : State)

/-! ### Rules of the functions -/

theorem State.pci_setFn (k : Nat) (v : PciFn) :
    (s.setFn k v).pci = { s.pci with fns := s.pci.fns.set pciFnDefault k v } := by
  unfold State.setFn
  dsimp only
  split
  · rfl
  · split <;> rfl

theorem State.fn_of_fns {s t : State} (same : t.pci.fns = s.pci.fns) (k : Nat) : t.fn k = s.fn k := by
  rw [State.fn, same, State.fn]

theorem State.fn_setFn_same (k : Nat) (v : PciFn) : (s.setFn k v).fn k = v := by
  rw [State.fn, s.pci_setFn]
  exact KMap.get_set_same ..

theorem State.fn_setFn_ne {j k : Nat} (v : PciFn) (other : k ≠ j) : (s.setFn j v).fn k = s.fn k := by
  rw [State.fn, s.pci_setFn]
  exact KMap.get_set_ne _ _ _ other

/-- A function stores nothing but what the power-management register shows of it. -/
theorem State.word_setFn (k : Nat) (v : PciFn) {o : Nat} (other : o ≠ PCI_PM.off) : (s.setFn k v).word o = s.word o := by
  have pair (u : State) (f g : Field) (a b : Nat) (hf : f.off = PCI_PM.off) (hg : g.off = PCI_PM.off) :
      ((u.put f a).put g b).word o = u.word o :=
    (State.word_put_ne _ (f := g) b (hg ▸ other)).trans (u.word_put_ne (f := f) a (hf ▸ other))
  unfold State.setFn
  dsimp only
  split
  · exact pair _ PCI_PM.d_pf0 PCI_PM.pme_en _ _ rfl rfl
  · split
    · exact pair _ PCI_PM.d_pf1 PCI_PM.pme_en _ _ rfl rfl
    · rfl

theorem State.fn_raise (pg n : Nat) (cls : BitVec 2) (code i0 i1 k : Nat) : (s.raise pg n cls code i0 i1).fn k = s.fn k :=
  State.fn_of_fns (congrArg PciState.fns (State.raise_pci ..)) k

/-! ### Function-level reset (R390) -/

/-- A function whose contexts and sluices are cleared, and then its MSI-X tables. -/
def State.flrCuts (s : State) (k : Nat) : State :=
  let s := s.each (s.se.ctxs.map Prod.fst) fun s n => if s.ctxFn n = k then s.ctxOff n false else s
  s.each s.sluices fun s j =>
    if fnOf (s.get (SLU_TGT.pf j)) (s.get (SLU_TGT.vf j)) = k then
      ((s.setTimer j none).setWord (SLU_STAT.off j) 0).put (SLU_TGT.enable j) 0
    else s
def State.flrClears (s : State) (k : Nat) : State :=
  let s := s.flrCuts k
  if k = 0 then
    { s with regs := (s.regs.eraseRange 0x208000 0x210000).eraseRange 0x207000 0x207100 }
  else { s with pci := { s.pci with table := s.pci.table.eraseRange (8192 * k) (8192 * (k + 1)),
                                    pba := s.pci.pba.eraseRange (64 * k) (64 * (k + 1)) } }

/-- The function out of a reset, and no message of it held. -/
def State.flrSets (s : State) (k : Nat) : State :=
  let f := s.fn k
  let s := s.setFn k { inFlr := true, pmeEn := f.pmeEn, pmeStatus := f.pmeStatus }
  { s with pci := { s.pci with holds := s.pci.holds.filter fun h : Nat × Nat × Option Nat => h.1 ≠ k } }

theorem State.flrFn_eq (k : Nat) : s.flrFn k = (s.flrClears k).flrSets k := rfl

theorem State.pci_flrCuts (k : Nat) : (s.flrCuts k).pci = s.pci := by
  unfold State.flrCuts
  dsimp only
  refine (State.each_keeps (fun t => t.pci) _ _ _ fun t j => ?_).trans (State.each_keeps (fun t => t.pci) s _ _ fun t n => ?_)
  · split <;> rfl
  · split <;> rfl

theorem State.fns_flrClears (k : Nat) : (s.flrClears k).pci.fns = s.pci.fns := by
  rw [← s.pci_flrCuts k]
  unfold State.flrClears
  dsimp only
  split <;> rfl

theorem State.fn_flrFn_same (k : Nat) :
    (s.flrFn k).fn k = { inFlr := true, pmeEn := (s.fn k).pmeEn, pmeStatus := (s.fn k).pmeStatus } := by
  rw [s.flrFn_eq, ← State.fn_of_fns (s.fns_flrClears k) k]
  exact (State.fn_of_fns rfl k).trans (State.fn_setFn_same _ k _)

theorem State.fn_flrFn_ne {j k : Nat} (other : k ≠ j) : (s.flrFn j).fn k = s.fn k := by
  rw [s.flrFn_eq, ← State.fn_of_fns (s.fns_flrClears j) k]
  exact (State.fn_of_fns rfl k).trans (State.fn_setFn_ne _ _ other)

theorem State.holds_flrFn (k : Nat) : ∀ h ∈ (s.flrFn k).pci.holds, h.1 ≠ k := by
  intro h mem
  rw [s.flrFn_eq] at mem
  have filtered := (List.mem_filter.mp mem).2
  simpa using filtered

/-- The virtual functions of a physical one reset before it. -/
def State.flrVfs (s : State) (k : Nat) : State :=
  if k % 65 = 0 then (s.each ((vfsOf (k / 65)).filter s.fnPresent) fun s v => s.flrFn v).setVfEn (k / 65) false else s

theorem State.flr_eq (k : Nat) : s.flr k = (s.flrVfs k).flrFn k := rfl

theorem State.fn_flrVfs (k : Nat) : (s.flrVfs k).fn k = s.fn k := by
  unfold State.flrVfs
  split
  · next physical =>
    refine (State.fn_of_fns rfl k).trans (State.each_keeps_of_mem (g := fun t => t.fn k) s fun v mem t => t.fn_flrFn_ne ?_)
    obtain ⟨i, -, number⟩ := List.mem_map.mp (List.mem_filter.mp mem).1
    omega
  · rfl

theorem State.fn_flr (k : Nat) :
    (s.flr k).fn k = { inFlr := true, pmeEn := (s.fn k).pmeEn, pmeStatus := (s.fn k).pmeStatus } := by
  rw [s.flr_eq, State.fn_flrFn_same, s.fn_flrVfs]

theorem exec_flr_present {s : State} {f : Fn} (present : s.fnPresent (fnNo f) = true) : exec (.flr f) s
    = .next (s.mirrorFrom ((s.flr (fnNo f)).raise pagePCI0 3 INFO 0x0C13 (fnNo f) 0)) := by
  show execFlr f s = _
  unfold execFlr
  exact mirrored_next (if_neg (by simp [present]))

/-- A function out of its reset. -/
def State.flrEnds (s : State) (j : Nat) : State := if (s.fn j).inFlr then s.setFn j { s.fn j with inFlr := false } else s

theorem State.inFlr_flrEnds (j : Nat) : ((s.flrEnds j).fn j).inFlr = false := by
  unfold State.flrEnds
  split
  · rw [s.fn_setFn_same]
  · next out => simpa using out

theorem State.fn_flrEnds_ne {j k : Nat} (other : k ≠ j) : (s.flrEnds j).fn k = s.fn k := by
  unfold State.flrEnds
  split
  · exact s.fn_setFn_ne _ other
  · rfl

theorem State.inFlr_each {l : List Nat} {k : Nat} (mem : k ∈ l) : ((s.each l State.flrEnds).fn k).inFlr = false :=
  State.each_settles (fun t => (t.fn k).inFlr) s mem (fun t => t.inFlr_flrEnds k) fun j _ other t => by
    rw [t.fn_flrEnds_ne other.symm]

theorem exec_flrComplete_ends {s : State} (f : Fn) : exec (.flrComplete f) s = .next (s.each
    (if fnNo f % 65 = 0 then fnNo f :: vfsOf (fnNo f / 65) else [fnNo f]) State.flrEnds) := rfl

theorem fnNo_physical {f : Fn} (pf : f.vf = 0) : fnNo f % 65 = 0 := by
  have vf : f.vf.val = 0 := congrArg Fin.val pf
  unfold fnNo
  omega

theorem mem_resetFns (k : Nat) : k ∈ (if k % 65 = 0 then k :: vfsOf (k / 65) else [k]) := by
  split <;> simp

theorem mem_resetFns_vf {k v : Nat} (physical : k % 65 = 0) (hv : v < 65) :
    k + v ∈ (if k % 65 = 0 then k :: vfsOf (k / 65) else [k]) := by
  rw [if_pos physical]
  rcases Nat.eq_zero_or_pos v with zero | virtual
  · simp [zero]
  · refine List.mem_cons_of_mem _ (List.mem_map.mpr ⟨v - 1, List.mem_range.mpr (by omega), by omega⟩)

/-! ### Configuration writes (R369, R374, R393) -/

section
variable {s : State} {f : Fn} (present : s.fnPresent (fnNo f) = true) (up : s.get PCI_LINK.ltssm ≠ 0)
include present up

theorem config_open : ¬ (!s.fnPresent (fnNo f) || decide (s.get PCI_LINK.ltssm = 0)) = true := by simp [present, up]

theorem exec_bme (on : Bool) : exec (.hostConfigWrite f (.bme on)) s
    = .next (s.mirrorFrom (s.setFn (fnNo f) { s.fn (fnNo f) with bme := on })) := by
  show execHostConfigWrite f (.bme on) s = _
  exact mirrored_next (if_neg (config_open present up))

theorem exec_msixEnable (on : Bool) : exec (.hostConfigWrite f (.msixEnable on)) s
    = .next (s.mirrorFrom (((s.setFn (fnNo f) { s.fn (fnNo f) with msix := on }).sendHeld (fnNo f)).sendPending (fnNo f))) := by
  show execHostConfigWrite f (.msixEnable on) s = _
  exact mirrored_next (if_neg (config_open present up))

theorem exec_functionMask (on : Bool) : exec (.hostConfigWrite f (.functionMask on)) s
    = .next (s.mirrorFrom ((s.setFn (fnNo f) { s.fn (fnNo f) with masked := on }).sendPending (fnNo f))) := by
  show execHostConfigWrite f (.functionMask on) s = _
  exact mirrored_next (if_neg (config_open present up))

theorem exec_pmeEnable (on : Bool) : exec (.hostConfigWrite f (.pmeEnable on)) s
    = .next (s.mirrorFrom (s.setFn (fnNo f) { s.fn (fnNo f) with pmeEn := on })) := by
  show execHostConfigWrite f (.pmeEnable on) s = _
  exact mirrored_next (if_neg (config_open present up))

theorem exec_vfEnable (pf : f.vf = 0) : exec (.hostConfigWrite f (.vfEnable true)) s
    = .next (s.mirrorFrom (s.setVfEn (fnNo f / 65) true)) := by
  have physical : ¬ fnNo f % 65 ≠ 0 := not_not.mpr (fnNo_physical pf)
  show execHostConfigWrite f (.vfEnable true) s = _
  exact mirrored_next ((if_neg (config_open present up)).trans ((if_neg physical).trans (if_pos rfl)))

theorem exec_vectorMask (n : BitVec 11) (on : Bool) (inside : n.toNat < vectorsOf (fnNo f)) :
    exec (.hostConfigWrite f (.vectorMask n on)) s = .next (s.mirrorFrom ((s.setMsixWord (fnNo f) n.toNat 3
      (setBits (s.msixWord (fnNo f) n.toNat 3) 0 0 on.toNat)).sendPending (fnNo f))) := by
  show execHostConfigWrite f (.vectorMask n on) s = _
  exact mirrored_next ((if_neg (config_open present up)).trans (if_neg (Nat.not_le.mpr inside)))

theorem exec_dState (d3 : Bool) : exec (.hostConfigWrite f (.dState d3)) s = .next (s.mirrorFrom (s.setDState (fnNo f) d3)) := by
  show execHostConfigWrite f (.dState d3) s = _
  exact mirrored_next (if_neg (config_open present up))

end

/-- A function in D3hot, reported. -/
def State.entersD3 (s : State) (k : Nat) : State :=
  (s.setFn k { s.fn k with d3 := true }).raise pagePCI0 5 INFO 0x0C15 k 3

theorem State.setDState_enters {k : Nat} (awake : (s.fn k).d3 = false) : s.setDState k true
    = if (s.entersD3 k).allD3 && (s.entersD3 k).linkLive
      then ((s.entersD3 k).put PCI_LINK.ltssm 6).setPm true else s.entersD3 k := if_neg (by simp [awake])

theorem State.fn_entersD3 (k j : Nat) : (s.entersD3 k).fn j = (s.setFn k { s.fn k with d3 := true }).fn j :=
  State.fn_raise ..

theorem State.d3_setDState {k : Nat} (awake : (s.fn k).d3 = false) : ((s.setDState k true).fn k).d3 = true := by
  have enters : ((s.entersD3 k).fn k).d3 = true := by rw [s.fn_entersD3, State.fn_setFn_same]
  rw [s.setDState_enters awake]
  split
  · exact enters
  · exact enters

theorem State.allD3_entersD3 (k : Nat) : (s.entersD3 k).allD3 = (s.setFn k { s.fn k with d3 := true }).allD3 := by
  have cfg : (s.entersD3 k).get PCI_CFG.pf1_en = (s.setFn k { s.fn k with d3 := true }).get PCI_CFG.pf1_en :=
    State.get_raise_off _ _ _ _ _ _ _ (by decide)
  rw [State.allD3, s.fn_entersD3, s.fn_entersD3, State.is, cfg, State.allD3, State.is]

theorem State.linkLive_entersD3 (k : Nat) : (s.entersD3 k).linkLive = s.linkLive := by
  have link : (s.entersD3 k).get PCI_LINK.ltssm = s.get PCI_LINK.ltssm :=
    (State.get_link_raise _ _ _ _ _ _ rfl).trans (congrArg (bitsOf · 31 28) (s.word_setFn k _ (by decide)))
  have pm : (s.entersD3 k).pci.pmL1 = s.pci.pmL1 :=
    (congrArg PciState.pmL1 (State.raise_pci ..)).trans (by rw [s.pci_setFn])
  rw [State.linkLive, link, pm, State.linkLive]

/-- With every physical function in D3hot the link is in PCI-PM L1. -/
theorem State.link_setDState {k : Nat} (awake : (s.fn k).d3 = false)
    (all : (s.setFn k { s.fn k with d3 := true }).allD3 = true) (live : s.linkLive = true) :
    (s.setDState k true).get PCI_LINK.ltssm = 6 ∧ (s.setDState k true).pci.pmL1 = true := by
  rw [s.setDState_enters awake, s.allD3_entersD3, s.linkLive_entersD3, all, live]
  exact ⟨State.get_put_same _ (f := PCI_LINK.ltssm) 6 (by decide), rfl⟩

/-! ### Messages (R393) -/

/-- A function that holds nothing has only its PME flag cleared. -/
theorem State.sendHeld_none {k : Nat} (none : ∀ h ∈ s.pci.holds, h.1 ≠ k) (sends : s.canSend k = true)
    (unsent : (s.fn k).pmeSent = false) : s.sendHeld k = s.setFn k (s.fn k) := by
  have mine : (s.pci.holds.filter fun h : Nat × Nat × Option Nat => h.1 = k) = [] :=
    List.filter_eq_nil_iff.mpr fun h mem => by simpa using none h mem
  have rest : (s.pci.holds.filter fun h : Nat × Nat × Option Nat => h.1 ≠ k) = s.pci.holds :=
    List.filter_eq_self.mpr fun h mem => by simpa using none h mem
  have same : { s.fn k with pmeSent := false } = s.fn k := by rw [← unsent]
  unfold State.sendHeld
  rw [if_neg (by simp [sends])]
  dsimp only
  rw [mine, rest]
  exact congrArg (State.setFn s k) same

theorem State.msixWord_setFn (k j v w : Nat) (f : PciFn) : (s.setFn j f).msixWord k v w = s.msixWord k v w := by
  unfold State.msixWord
  split
  · refine s.word_setFn j f ?_
    simp only [MSIX_ENT.off, PCI_PM.off]
    omega
  · rw [s.pci_setFn]

theorem State.vectorMasked_setFn (k v : Nat) : (s.setFn k (s.fn k)).vectorMasked k v = s.vectorMasked k v := by
  rw [State.vectorMasked, s.fn_setFn_same, s.msixWord_setFn, State.vectorMasked]

theorem State.msixTlp_setFn (k v : Nat) : (s.setFn k (s.fn k)).msixTlp k v = s.msixTlp k v := by
  rw [State.msixTlp, s.msixWord_setFn, s.msixWord_setFn, s.msixWord_setFn, State.msixTlp]

theorem State.deliver_sends {k : Nat} (quiet : ∀ h ∈ s.pci.holds, h.1 ≠ k) (sends : s.canSend k = true)
    (unsent : (s.fn k).pmeSent = false) (v : Nat) : s.deliver k v none = if s.vectorMasked k v
      then (s.setFn k (s.fn k)).setPba k v true else (s.setFn k (s.fn k)).toHost (s.msixTlp k v) := by
  have emits : s.deliver k v none = (s.sendHeld k).emit k v := if_pos sends
  rw [emits, s.sendHeld_none quiet sends unsent, State.emit, s.vectorMasked_setFn, s.msixTlp_setFn]

/-- A message of a function that cannot send is held, once. -/
theorem State.deliver_held {k : Nat} (blocked : s.canSend k = false) (awake : (s.fn k).d3 = false) (v : Nat) :
    s.deliver k v none = { s with pci := { s.pci with
      holds := if (k, v, none) ∈ s.pci.holds then s.pci.holds else s.pci.holds ++ [(k, v, none)] } } := by
  have held : s.deliver k v none = if (none : Option Nat).isNone && s.pci.holds.contains (k, v, none) then s
      else { s with pci := { s.pci with holds := s.pci.holds ++ [(k, v, none)] } } := by
    unfold State.deliver
    rw [if_neg (by simp [blocked])]
    dsimp only
    refine if_neg ?_
    have still : ∀ c : Bool, (if c = true then s else { s with pci := { s.pci with holds := s.pci.holds ++ [(k, v, none)] } }).fn k
        = s.fn k := by
      intro c
      cases c <;> rfl
    rw [still, awake]
    simp
  rw [held]
  by_cases mem : (k, v, none) ∈ s.pci.holds
  · rw [if_pos (by simpa using mem), if_pos mem]
  · rw [if_neg (by simpa using mem), if_neg mem]

end

theorem exec_msixUnmask_inside {s : State} {f : Fn} {n : BitVec 11} (present : s.fnPresent (fnNo f) = true)
    (inside : n.toNat < vectorsOf (fnNo f)) : exec (.msixUnmask f n) s = .next ((s.setMsixWord (fnNo f) n.toNat 3
      (setBits (s.msixWord (fnNo f) n.toNat 3) 0 0 0)).sendPending (fnNo f)) := by
  show execMsixUnmask f n s = _
  exact if_neg (by simp [present, inside])

theorem exec_functionReachable_reached {s : State} {f : Fn} (reached : s.reachable (fnNo f) = true) :
    exec (.functionReachable f) s = .next (s.mirrorFrom
      (((s.each (s.se.ctxs.map Prod.fst) fun s n => if s.ctxFn n = fnNo f then s.progress n else s).sendHeld
        (fnNo f)).sendPending (fnNo f))) := by
  show execFunctionReachable f s = _
  exact mirrored_next (if_neg (by simp [reached]))

/-- Settles O47, command by command; a reset keeps a function's PME bits through what it clears of the others. -/
theorem pcieFunctionCommandsComplete : Obligations.PcieFunctionCommandsComplete := by
  unfold Obligations.PcieFunctionCommandsComplete
  refine ⟨fun s f present => ?_, fun s => ?_, fun s f => ?_, fun s f present up => ⟨exec_bme present up,
      exec_msixEnable present up, exec_functionMask present up, exec_pmeEnable present up, exec_vfEnable present up,
      fun n on => exec_vectorMask present up n on, exec_dState present up, fun awake => ⟨s.d3_setDState awake, s.link_setDState awake⟩⟩,
    fun s f n => exec_msixUnmask_inside, fun s f => exec_functionReachable_reached,
    fun s k v quiet sends unsent => ⟨_, rfl, fun masked => ?_, fun free => ?_⟩, fun s k v blocked awake => s.deliver_held blocked awake v⟩
  · have reset := s.fn_flr (fnNo f)
    refine ⟨exec_flr_present present, ?_, ?_, ?_, ?_, ?_, ?_⟩
    · rw [reset]
    · rw [reset]
    · rw [reset]
    · rw [reset]
    · rw [reset]
    · rw [s.flr_eq]
      exact State.holds_flrFn _ (fnNo f)
  · show execInBandReset s = _
    exact mirrored_next rfl
  · exact ⟨_, exec_flrComplete_ends f, State.inFlr_each _ (mem_resetFns _), fun pf v hv =>
      State.inFlr_each _ (mem_resetFns_vf (fnNo_physical pf) hv)⟩
  · rw [s.deliver_sends quiet sends unsent, if_pos masked]
  · rw [s.deliver_sends quiet sends unsent, if_neg (by simp [free])]

end Sys2Proof.Machine
end
